-- ==== Sys2Proof/Word.lean ====
section
/-! DEFINITION. The word types of the BX1-M96 and the shape of a sparse table.
What the manual treats as bits is a bit vector; counts, indexes and identifiers are `Nat`
(wrapping is written out with a modulus where R19 or a register map gives a width). -/

namespace Sys2Proof

/-- One byte of module memory, host memory or a frame. -/
abbrev Byte := BitVec 8

/-- A KB16 code (R30, R31). -/
abbrev Kb16 := BitVec 16

/-- A KB8 code (R32, R33). -/
abbrev Kb8 := BitVec 8

/-- An A48 value (R114, R115). -/
abbrev A48 := BitVec 48

/-- An IEEE 754 binary32 value (R42). -/
abbrev F32 := BitVec 32

/-- The 64-bit NaN/Inf flag word of R141, or any other 64-bit word of memory. -/
abbrev Word64 := BitVec 64

/-- A sparse table: key and value pairs, keys strictly rising; an absent key holds the
default that the reader of the table names. -/
abbrev Map (α : Type) := List (Nat × α)

/-- Fabric time of R17: nanoseconds, then a fraction in units of 2⁻¹⁶ ns. -/
structure FTime where
  ns : Nat := 0
  frac : Nat := 0
  deriving DecidableEq, Repr

end Sys2Proof
end

