-- ==== Sys2Proof/Config.lean ====
section
/-! DEFINITION. What the manual leaves open: free values (opaque constants nothing can evaluate), and the module's manufactured identity. Every entry is
named in the assumption log. -/

namespace Sys2Proof.Config

/-- A value the manual leaves open, one for each reading of the state's counter `fresh` (log 5). -/
opaque freeValue : Nat → Nat

/-- A byte the manual leaves open, by the state's counter (log 5). -/
opaque freeByte : Nat → Byte

/-- The private key of the module's identity key (R447, R496), a number (log 6). -/
opaque privateKey : Nat

/-- The random number of a signature over a message, and the ephemeral key of a key exchange by its draw (R447, R496; log 5). -/
opaque signNonce : List Byte → Nat
opaque ephemeral : Nat → Nat

/-- A random 32-byte value: the module nonce of R448, the challenge of R497 (log 5). -/
opaque random32 : Nat → List Byte

/-- The tag decision of R531 for the draw number of a core: core, draw, RATE_LOG2 (log 7). -/
opaque tagDraw : Nat → Nat → Nat → Bool

/-- The ECN marking draw of R271: draw number; the value is compared with the probability in units of 2⁻³² (log 7). -/
opaque ecnDraw : Nat → Nat

/-- What a code that corrects one and detects two finds where three or more symbols, or three or more bits of a word, are in error (R218, R219 state
nothing): 0 no error, 1 one corrected, 2 an uncorrectable error, modulo 3; and the symbol and value of a wrong correction (log 70). -/
opaque eccBeyond : List (Nat × Byte) → Nat × Nat × Byte

/-- The keeper pattern row of R96, from the core firmware tables of the given revision (log 8). -/
opaque keeperPattern : Nat → List Nat

/-- The first PSN of a new direction of a flow, by the counter (R246, R276 leave the choice open; log 5). -/
opaque initialPsn : Nat → Nat

/-- The certificate chain chunks that ATTEST returns (R496), chunk number from 1; empty beyond the last (log 9). -/
opaque certChunk : Nat → List Byte

/-- SERIAL of R456, 16 bytes: manufactured identity (log 9). -/
opaque serial : List Byte

/-- The first of the module's 32 MAC addresses, R282 (log 9). -/
opaque macBase : Nat

/-- The system name that LLDP carries (R295; log 9), and the MAC address that answers for an IP address of a port's network (R238; log 83). -/
opaque systemName : List Byte
opaque hopMac : Nat → Nat

/-- The module's clock identity in PTP (R299; log 69). -/
opaque clockIdentity : Nat

/-- OUI of R456 (log 9). -/
opaque oui : Nat

/-- MANUAL_REVISION of R456 (log 9). -/
opaque manualRevision : Nat

/-- The SEVERITY of a log record type for which the manual states none (every type but 0x01 of R464); read modulo 4 (log 15). -/
opaque recordSeverity : Nat → Nat

/-- lr of R186 for a job and a step, λ, β₁ and β₂ of a job: the hyperparameters that the gaffer holds, given by no field of the image (log 59). -/
opaque learningRate : Nat → Nat → Rat
opaque weightDecay : Nat → Rat
opaque beta1 : Nat → Rat
opaque beta2 : Nat → Rat

/-- The expected loss bits of the self-test model's steps, carried by the firmware of the given revision (R562, R567; log 10). -/
opaque selfTestLoss : Nat → Nat → F32

end Sys2Proof.Config
end

