-- ==== Sys2Proof/Syntax.lean ====
section
/-! DEFINITION. The commands of the BX1-M96: one constructor of `Instr` for each row of
spec/opcode_table.json, with what each carries from outside the block: which object it
concerns, and what the host, the network, the board or the environment supplies.
The table gives its rows no operands and no bits; the operands are the model's choice (log 1). -/

namespace Sys2Proof.Machine

/-- One entry of the pending-update queue (R362, R364). State 0 not started, 1 running, 2 completed. -/
structure Update where
  layer : Nat
  param : Nat
  step : Nat
  state : Nat := 0
  status : Nat := 0
  flags : Nat := 0
  desc : Nat := 0                     -- the OPT_UPDATE descriptor
  core : Nat := 0
  ring : Nat := 0
  deriving DecidableEq, Repr

/-- A securing record (R377). STATE 0 OPEN, 1 PARTS_DONE, 2 COMMITTED, 3 ABORTED. -/
structure SecRec where
  mode : Nat := 0
  state : Nat := 0
  lossValid : Bool := false
  parity : Bool := false
  snapshot : Bool := false
  generation : Nat := 0
  jobId : Nat := 0
  lastStep : Nat := 0
  layoutEpoch : Nat := 0
  boundaryNs : Nat := 0
  commitNs : Nat := 0
  dataCursor : Nat := 0
  optStep : Nat := 0
  lossScale : F32 := 0
  goodSteps : Nat := 0
  accumCount : Nat := 0
  weightGen : Nat := 0
  punty : Nat := 0
  loss : F32 := 0
  prevGeneration : Nat := 0
  increment : Nat := 0
  pending : Nat := 0
  digest : List Byte := []
  deriving DecidableEq, Repr

/-- The state blocks of a generation (R376). -/
structure SecBlocks where
  generation : Nat := 0
  rings : List (Nat × Nat × Nat × Nat × Nat) := []   -- core, ring, next slot, micro-batch, stage
  events : Map Nat := []
  colls : List (Nat × Nat) := []
  flows : List (Nat × Nat × Nat × Nat) := []         -- flow, peer, next PSN to send, next expected
  updates : List Update := []
  devices : List Nat := []
  degrees : List Nat := []                           -- t, p, d and e of the layout, with its rank table
  layoutEpoch : Nat := 0
  deriving DecidableEq, Repr

/-- What a member's mirror receives and gives back of a snapshot, or what a replacement is given of the target (R381, R399): record, state blocks, and
tiles with their 64-byte headers behind them. -/
structure MirrorCopy where
  record : SecRec
  blocks : SecBlocks := {}
  tiles : List (Nat × List Byte) := []
  deriving DecidableEq, Repr

end Sys2Proof.Machine

namespace Sys2Proof

open Machine

/-- Where a REGISTER_WRITE goes: BAR0 through a function (0 the physical function, n + 1 virtual
function n + 1; R435, R436), an SMBus command code (R555), the SR-IOV capability, whose write enables virtual functions 1 to
the value written (R544; log 1), the Max Read Request Size of the Device Control register, a code of 0 to 5 for 128 to 4,096
bytes (R547, log 92), or the pins of the debug port, where one rising edge of DBG_TCK takes the levels of DBG_TDI, DBG_TMS and DBG_TRST_N
from bits 0, 1 and 2 of the value (R541, R553, log 93). -/
inductive RegTarget where
  | bar0 (fn off size : Nat)
  | smb (code : Nat)
  | sriov
  | maxRead
  | debugPort
  deriving DecidableEq, Repr

/-- What a read of host memory by DMA returned: none when the function cannot reach it (R445). -/
abbrev Dma := Option (List Byte)

/-- One mailbox command as the host issues it by R442: mailbox (0 admin, n + 1 context n), the tag
written to the doorbell, the header fields of R440 with bytes 12 to 31 as one number, and the
BODY_LEN bytes of the body. FAMILY and CODE are those of the row. -/
structure Req where
  mb : Nat
  dbTag : Nat
  tag : Nat
  epoch : Nat
  target : Nat
  hdrResv : Nat := 0
  mac : List Byte := []
  body : List Byte := []
  deriving DecidableEq, Repr

/-- The fields of a Zalnis packet below VER_CLASS and OP (R241), its extension header and its payload.
`flags` is byte 2; `res11` is the reserved byte 11; `ecn` is the ECN field of the IP header that brought it (R237, R271), 0 in direct mode. -/
structure Pkt where
  flags : Nat := 0
  hop : Nat := 32
  dstDev : Nat
  srcDev : Nat
  path : Nat := 0
  dstFlow : Nat
  res11 : Nat := 0
  psn : Nat := 0
  ts : Nat := 0
  hcrc : Nat := 0
  ext : List Byte := []
  payload : List Byte := []
  ecn : Nat := 0
  deriving DecidableEq, Repr

/-- A whole Zalnis base header with version, class and operation (R241), and the PCP of its frame. -/
structure Hdr where
  ver : Nat
  cls : Nat
  op : Nat
  pcp : Nat := 0
  p : Pkt
  deriving DecidableEq, Repr

/-- What upsets have made of one A48 value of an array's accumulator memory as it is read (R219): how many of its bits, and where. -/
structure AccEcc where
  bits : Nat := 0
  array : Nat := 0
  accRow : Nat := 0
  deriving DecidableEq, Repr

/-- A core whose oldest drain begins, and what the codes find of the values that it reads (R106, R135, R137). -/
structure DrainBegin where
  core : Nat
  ecc : AccEcc := {}
  deriving DecidableEq, Repr

/-- What upsets have made of a 64-byte line as an access reads it (R218, R219): the value XORed into a symbol or byte, by its number (0 to 63 the data;
64 to 66 the check symbols of a DRAM line, or 64 + i the check bits of word i of a tile-store line), the lane on which they lie, and whether the
line is of another row or bank. -/
structure LineErr where
  flips : List (Nat × Byte) := []
  lane : Nat := 0
  wrongRow : Bool := false
  deriving DecidableEq, Repr

/-- A line of a context's tile that an access found in error, with the SOURCE code of R228 and, for a core access, the logical core. -/
structure EccHit where
  tile : Nat
  line : Nat
  err : LineErr
  source : Nat := 1
  core : Nat := 0xFFFF
  deriving DecidableEq, Repr

/-- A move that the residency manager asks for: the tile, the tier and the near region (R200, R201). -/
structure MoveReq where
  tile : Nat
  tier : Nat
  region : Nat
  deriving DecidableEq, Repr

/-- The causes of R210. -/
inductive AbortCause where
  | sourceError
  | verifyError
  | fence
  | reclaim
  | lenderLost
  deriving DecidableEq, Repr

/-- The stores a scrubber reads (R221). -/
inductive Store where
  | t1
  | t2
  | tileStore (core : Nat)
  | accumulator (core : Nat)
  | gaffer
  deriving DecidableEq, Repr

/-- A bank: tier 1 with layer, slice and bank, or tier 2 with channel, rank and bank (R229, R572). -/
inductive BankLoc where
  | t1 (layer slice bank : Nat)
  | t2 (channel rank bank : Nat)
  | sram (pc : Nat)
  deriving DecidableEq, Repr

/-- Which side of a lent window reaches its deadline t_d (R214, R215). -/
inductive LendSide where
  | lender (window : Nat)
  | borrower (lender window : Nat)
  deriving DecidableEq, Repr

/-- Why UNHANDLED_FRAME drops a frame: R236, R237, R238, R285, R289, R291. -/
inductive DropCause where
  | badFcs
  | badLength
  | etherType
  | secondTag
  | encapsulation
  | udpChecksum
  | ip
  | controlConfig (pause : Bool)
  | bufferFull
  deriving DecidableEq, Repr

/-- What an LLDPDU carries that the gaffer keeps (R295, R487): the sender's chassis, and the Skovgal TLV when present. -/
structure LldpInfo where
  chassis : Nat
  device : Nat
  port : Nat
  mac : Nat
  lanesUp : Nat
  encap : Nat
  debugBit : Nat
  eeeWakeUs : Option Nat
  deriving DecidableEq, Repr

/-- The data set that an Announce message carries (R299; IEEE 1588-2019): the grandmaster's, and the steps to it. -/
structure PtpData where
  priority1 : Nat
  cls : Nat
  accuracy : Nat
  variance : Nat
  priority2 : Nat
  grandmaster : Nat
  steps : Nat
  deriving DecidableEq, Repr

/-- What a received PTP message says (R299; IEEE 1588-2019), its times with their corrections: the origin of a Sync, none when a Follow_Up brings it; the
receipt of a Delay_Req; receipt and origin at the responder of a Pdelay exchange; and whose request a response answers. -/
inductive PtpBody where
  | announce (d : PtpData)
  | sync (originNs : Option Int)
  | followUp (originNs : Int)
  | delayReq
  | delayResp (receiptNs : Int) (clock port : Nat)
  | pdelayReq
  | pdelayResp (receiptNs originNs : Int) (clock port : Nat)
  deriving DecidableEq, Repr

/-- A received PTP message (R298 to R300): domain, identity and port of the sender, content, and the frequency correction that the servo derives from it,
in parts per billion. -/
structure PtpMsg where
  domain : Nat
  clock : Nat
  port : Nat
  body : PtpBody
  freqPpb : Int
  deriving DecidableEq, Repr

/-- Why a lane is re-calibrated (R302). -/
inductive RecalCause where
  | period
  | temperature (centi : Int)
  | errorRatio
  deriving DecidableEq, Repr

/-- The FEC statistics of a MAC over one second (R303): corrected and uncorrectable codewords, and for each lane in use
its symbol errors in uncorrectable codewords, and its symbol error ratio in units of 10⁻⁹. -/
structure FecStats where
  corrected : Nat
  uncorrectable : Nat
  symErrors : List Nat
  ratioPpb : List Nat
  deriving DecidableEq, Repr

/-- What a rebuild of D_x works from (R329): P₀ for x alone, P₁ alone for x alone, or both parities for x and y lost. -/
inductive RebuildCase where
  | p0
  | p1 (x : Nat)
  | both (x y : Nat)
  deriving DecidableEq, Repr

/-- What a member has after its refilling (R399): the tiles rebuilt from parity, each with its collective, member and case, and the copy that a mirror or
a predecessor gave. -/
structure Refill where
  tiles : List (Nat × Nat × RebuildCase) := []
  given : Option MirrorCopy := none
  deriving DecidableEq, Repr

/-- What a share of a PARITY run is (R327, R329): member q's image for P₀ or P₁, member q's image for a rebuild, or a parity image for a rebuild, with
the record under which its host keeps it. -/
inductive StripeRole where
  | encode (p1 : Bool) (q : Nat)
  | data (c : RebuildCase) (q : Nat)
  | parity (c : RebuildCase) (p1 : Bool) (coll : Nat)
  deriving DecidableEq, Repr

/-- One tile's share that a PARITY run sends (R325 to R330): record, the tile's slot in the data image, tile, what the share is, flow to the host or
the replacement, delta or full. -/
structure StripeSend where
  coll : Nat
  slot : Nat
  tile : Nat
  role : StripeRole
  flow : Nat
  delta : Bool
  deriving DecidableEq, Repr

/-- One move of a permute plan (R331). -/
structure PermuteMove where
  srcTile : Nat
  dstPos : Nat
  tiles : Nat
  dstTile : Nat
  flow : Nat
  deriving DecidableEq, Repr

/-- A re-shard request as broadcast (R332): the boundary step, this member's permute moves. -/
structure ReshardReq where
  boundaryStep : Nat
  moves : List PermuteMove
  secureBytes : Nat := 0
  flows : List (Nat × List Nat × Nat) := []
  deriving DecidableEq, Repr

/-- A tile entry to create (R339, R196, R200): tile number, count, place, policy, header fields, FLAGS bit 0 of R375 and data. -/
structure TensorEntry where
  tile : Nat
  count : Nat
  tier : Nat
  policy : Nat
  core : Nat
  format : Nat
  shapeFlags : Nat
  rows : Nat
  cols : Nat
  secured : Bool
  data : List Byte
  deriving DecidableEq, Repr

/-- A rank class: inclusive ranges of tp, pp, dp and ep (R339). -/
structure RankClass where
  lo : List Nat
  hi : List Nat
  deriving DecidableEq, Repr

/-- One descriptor ring of a PROGRAM section (R147, R339): descriptors are 512-bit little-endian numbers. -/
structure RingImage where
  core : Nat
  slots : Nat
  start : Nat
  base : Nat
  descs : List Nat
  deriving DecidableEq, Repr

/-- A collective record as its 64 bytes read as one little-endian number, with its member list as rank tuples (R308, R309). -/
structure CollImage where
  raw : Nat
  members : List (List Nat)
  deriving DecidableEq, Repr

/-- A LAYER_MAP entry (R350). -/
structure LayerEntry where
  layer : Nat
  kind : Nat
  paramBytes : Nat
  actBytes : Nat
  gradColl : Nat
  deriving DecidableEq, Repr

/-- An entry of the step event table (R368). -/
structure EvtEntry where
  type : Nat
  rankSel : Nat
  collId : Nat
  startOff : Int
  endOff : Int
  rate : Nat
  mac : Nat
  next : Nat
  deriving DecidableEq, Repr

/-- The SECURING section (R378). -/
structure SecuringSpec where
  mode : Nat := 0
  k : Nat := 0
  m : Nat := 0
  snapEvery : Nat := 0
  lossSteps : Nat := 0
  overheadPm : Nat := 0
  opts : Nat := 0
  verifyTol : F32 := 0
  lossAddr : Nat := 0
  reserveTiles : Nat := 0
  mtbfPriorS : Nat := 0
  windowS : Nat := 0
  deriving DecidableEq, Repr

/-- The manifest header (R338). -/
structure Manifest where
  jobId : Nat
  seed : Nat
  t : Nat := 1
  p : Nat := 1
  d : Nat := 1
  e : Nat := 1
  v : Nat := 1
  opts : Nat := 0
  nMb : Nat := 1
  layers : Nat := 1
  heads : Nat := 1
  hidden : Nat := 0
  experts : Nat := 0
  topK : Nat := 0
  overflowDepth : Nat := 0
  capFactor : Nat := 256
  tokens : Nat := 0
  periodNs : Nat := 1000000
  epochTai : Nat := 0
  gridOriginNs : Nat := 0
  firstStep : Nat := 0
  retainBudget : Nat := 0
  deriving DecidableEq, Repr

/-- A job image as its DMA delivers it: the structure checks' inputs of R341 stage 1 (magic, version, digest over `raw`, whether every
section lies within it), whether any reserved byte or value of the parts below is nonzero, and the parts by their fields.
The manual gives the PROGRAM, TENSORS and COLLECTIVES sections no byte layout, so the fields themselves are the operand (log 11). -/
structure JobImage where
  magic : Nat
  version : Nat
  digest : List Byte
  raw : List Byte
  sectionsInside : Bool
  reservedNonzero : Bool
  blocks : Nat
  man : Manifest
  programs : List (RankClass × List RingImage)
  tensors : List (RankClass × List TensorEntry)
  colls : List (RankClass × List CollImage)
  layerMap : List LayerEntry
  stagger : Nat
  events : List EvtEntry
  securing : SecuringSpec
  validSteps : Nat
  validLoss : List F32
  deriving DecidableEq, Repr

/-- One measured link of R343: two devices, class (0 direct, 1 container, 2 hall), latency and bandwidth; `timed` once a round trip has been taken. -/
structure LinkMeasure where
  devA : Nat
  devB : Nat
  cls : Nat
  latencyNs : Nat
  gbps : Nat
  timed : Bool := true
  deriving DecidableEq, Repr

/-- The measurements of all members, and the per-mille bubble fraction and step time that the plan's simulation gives (R343, R360). -/
structure PlanMeasure where
  links : List LinkMeasure
  bubblePm : Nat
  stepNs : Nat
  deriving DecidableEq, Repr

/-- What a member receives as its plan (R346): its position, the device at each linear position, the order of the axes. The division of the
model, the slot order and the event table follow from these and the image, which every member holds. -/
structure PlanMsg where
  position : Nat
  devices : List Nat
  axisOrder : List Nat
  deriving DecidableEq, Repr

/-- A member's answer to its plan (R346): device, digest of its records, the entries of its refusal report (cause, core, slot, required,
available, unit), the tiles required and granted in T0 to T3 and the NAND bytes reserved that the plan report lists (R372), and whether the member
holds a committed generation of the image's JOB_ID (R566). -/
structure MemberReply where
  device : Nat
  digest : List Byte
  refusals : List (List Nat)
  memory : List Nat
  holds : Bool := false
  deriving DecidableEq, Repr

/-- What decides a job's start (R346): at the coordinator every member's answer; at a member what the coordinator wrote, a start grid point, with
whether the job starts in recovery (R566), or a refusal. -/
inductive StartInput where
  | gathered (replies : List MemberReply)
  | start (grid : Nat) (restore : Bool)
  | refusal
  deriving DecidableEq, Repr

/-- The feed as PREFETCH finds it (R401, R455): whether the micro-batches are produced, the cursor of micro-batch 0, the next count fetched. -/
structure FeedDma where
  reachable : Bool
  produced : Nat
  cursor : Nat
  fetched : Nat
  dstTile : Nat
  data : List Byte
  deriving DecidableEq, Repr

/-- A member's part of a securing (R387): which part is done. -/
inductive SecPart where
  | parity
  | snapshot
  | mirror (c : MirrorCopy)
  deriving DecidableEq, Repr

/-- What starts a recovery (R395, R405): the TRIGGER code, and the members found lost. -/
structure Trigger where
  code : Nat
  atNs : Nat
  lost : List Nat
  deriving DecidableEq, Repr

/-- What the coordinator knows when HALTING ends (R397, R398): lost linear positions, generations that survivors show committed
with their snapshot flag and last step, standby devices free, and the number of the next generation with the step that it follows; a replacement gets
with it the record and state blocks of the member whose rank it takes. -/
structure HaltView where
  lost : List Nat
  committed : List (Nat × Bool × Nat)
  standbys : List Nat
  nextGen : Nat := 0
  nextStep : Nat := 0
  given : Option Machine.MirrorCopy := none
  deriving DecidableEq, Repr

/-- A shard as its DMA delivered it (R414, R417): header array and data. -/
structure ShardDma where
  reachable : Bool
  headers : List Byte
  data : List Byte
  deriving DecidableEq, Repr

/-- What the background verifier met as it read a shard (R423, R424): the bytes in error among the headers and data that it read, each with the value
XORed into it, or a write or reload that reached the shard meanwhile. -/
inductive VerifyView where
  | read (errs : List (Nat × Byte))
  | disturbed
  deriving DecidableEq, Repr

/-- What SWITCH_AGREE stands for (R431): another member's report reaches the coordinator's counter; the counter has reached N_r and the coordinator
decides; the step that the coordinator broadcast reaches a member. -/
inductive SwitchNews where
  | report
  | decide
  | agreed (step : Nat)
  deriving DecidableEq, Repr

/-- Whose word a deferral is (R432): a context, and whether another member's report or the coordinator's broadcast tells of it. -/
structure Deferral where
  ctx : Nat
  told : Bool
  deriving DecidableEq, Repr

/-- A new layout as it takes effect (R332): rank position, devices, collective records, event table, tile table of the new layout. -/
structure NewLayout where
  degrees : List Nat
  position : Nat
  devices : List Nat
  colls : List CollImage
  events : List EvtEntry
  deriving DecidableEq, Repr

/-- A sensor's reading: part 0 logic, 1 DRAM layer 0, 2 DRAM layers 1 to 3, 3 regulator (R516); sensor number within the module. -/
structure SensorReading where
  part : Nat
  sensor : Nat
  centi : Int
  deriving DecidableEq, Repr

/-- What the boot ROM finds (R558, R559): whether the replay-protected region reads, and whether the image of each slot verifies. -/
structure RomView where
  regionOk : Bool
  slotOk : List Bool
  deriving DecidableEq, Repr

/-- What memory training finds (R558, R566): banks that fail, and whether the NAND journal commit block reads. -/
structure MemView where
  badBanks : List (Nat × Nat × Nat)
  deriving DecidableEq, Repr

/-- A firmware or core table image as fetched (R468, R470, R494). -/
structure FwImage where
  revision : Nat := 0
  manualRev : Nat := 0
  svn : Nat := 0
  measurement : List Byte := []
  sigOk : Bool := true
  bootable : Bool := true
  deriving DecidableEq, Repr

/-- What a module-initiated DMA ended with (R460, MODULE_DMA_COMPLETE): a fault, or its data by kind. -/
inductive DmaResult where
  | fault
  | image (im : JobImage)
  | firmware (f : FwImage)
  | table (entries : List Byte)
  | done
  deriving DecidableEq, Repr

/-- The commands: one constructor for each row of spec/opcode_table.json, in the table's order. -/
inductive Instr where
  /-- R7: A host write to a register or register area that has no row of its own: RW fields are set, W1C bits are cleared, and reserved bits and read-only locations are ignored. -/
  | registerWrite (t : RegTarget) (value : Nat)
  /-- R9: A diagnostic read through BAR2 of a context's tensor range; it is served under the migration rules, or completes with Unsupported Request when no tile is mapped. -/
  | bar2Read (fn off size : Nat)
  /-- R9: A diagnostic write through BAR2; it sets DIRTY and LAST_WRITE_STEP, stalls on a tile in migration, and is refused when no tile is mapped. -/
  | bar2Write (fn off : Nat) (data : List Byte)
  /-- R165: A NOP descriptor completes at issue. -/
  | nop (core ring : Nat)
  /-- R149: An END descriptor stops the ring until the gaffer restarts it. -/
  | endDesc (core ring : Nat)
  /-- R149: A JUMP descriptor continues fetch at its target slot. -/
  | jump (core ring : Nat)
  /-- R165: A CURSOR descriptor sets the ring's schedule cursor to a micro-batch and virtual stage. -/
  | cursor (core ring : Nat)
  /-- R174: A BARRIER descriptor waits for a fabric time; when the target has already passed, it completes at issue and is counted as a late barrier. -/
  | barrier (core ring : Nat)
  /-- R169: Fabric time reaches a barrier's target; the barrier completes and the descriptors held behind it may issue. -/
  | barrierRelease (core ring : Nat)
  /-- R173: An EVENT_WAIT descriptor with subop 0x00 waits until an event counter reaches VALUE in serial order. -/
  | eventWaitAtLeast (core ring : Nat)
  /-- R173: An EVENT_WAIT descriptor with subop 0x01 waits until an event counter equals VALUE. -/
  | eventWaitEqual (core ring : Nat)
  /-- R172: The TIMEOUT_NS of an EVENT_WAIT expires; the wait completes with status WAIT_TIMEOUT and issue from the ring stops. -/
  | eventWaitTimeout (core ring : Nat)
  /-- R155: An ARRAY_MUL descriptor issues; it reads its epilogue record, checks any ladder state record and begins streaming rows against its weight blocks. -/
  | arrayMul (core ring : Nat)
  /-- R71: A parison load begins once no row that uses the set being overwritten remains ahead of the tree stage. -/
  | parisonLoadStart (core : Nat)
  /-- R105: A parison load completes and its parity is checked; a failure causes one reload and, when the reload fails too, a refused switch and an error record. -/
  | parisonLoadDone (core : Nat) (first second : List (Nat × Nat))
  /-- R72: At a tile boundary, the two weight sets of all four arrays are exchanged in one issue slot, after waiting for the parison load to complete. -/
  | weightSetSwitch (core : Nat)
  /-- R82: An activation row enters the gather unit in an issue slot: it is fetched, mask-checked, converted and broadcast to the arrays. -/
  | arrayRowEntry (core : Nat)
  /-- R97: An issue slot passes with no row; it is filled with a keeper op and the count of consecutive empty cycles advances. -/
  | emptyIssueSlot (core : Nat) (lostArbitration : Bool)
  /-- R98: At the 97th consecutive empty cycle, the lehr ramp-down begins and n falls by 1. -/
  | lehrRampDownStart (core : Nat)
  /-- R98: Each further 840 cycles of ramp-down with no row, n falls by 1; at n = 0 the arrays are clock-gated. -/
  | lehrStep (core : Nat)
  /-- R100: During a ramp-up, n rises by 1 every 840 cycles until it reaches the ceiling. -/
  | rampUpStep (core : Nat)
  /-- R101: At the ramp start that the event table assigns, or 52,920 cycles before a barrier target, the core begins its pre-ramp toward that barrier. -/
  | preRampStart (core : Nat)
  /-- R102: When the ceiling lies below n, n falls by 1 every 840 cycles until it equals the ceiling. -/
  | ceilingStepDown (core : Nat)
  /-- R104: Every 256 cycles, the background sweep checks the parity of one active cell row in each array. -/
  | paritySweep (core : Nat) (bad : List Nat)
  /-- R126: In the accumulator stage, a chunk sum is pushed into the ladder of each output position, with any carry chain following. -/
  | ladderPush (core : Nat) (ecc : AccEcc)
  /-- R135: Once the chain of the last entry has ended, the drain forms each ladder result and the epilogue applies scale, bias and conversion. -/
  | drainStart (a : DrainBegin)
  /-- R143: The epilogue finishes writing the results, the result scales and the flag word, or the ladder state record, and the array multiply completes. -/
  | drainComplete (core : Nat)
  /-- R159: A CONVERT descriptor with subop 0x00 converts a tensor and computes and writes its KB8 scales. -/
  | convertComputedScales (core ring : Nat)
  /-- R159: A CONVERT descriptor with subop 0x01 converts a tensor with supplied KB8 scales. -/
  | convertSuppliedScales (core ring : Nat)
  /-- R159: A CONVERT descriptor with subop 0x02 splits binary32 elements into two KB16 pieces. -/
  | convertSplitTwo (core ring : Nat)
  /-- R159: A CONVERT descriptor with subop 0x03 splits binary32 elements into three KB16 pieces. -/
  | convertSplitThree (core ring : Nat)
  /-- R175: A VECTOR descriptor with subop 0x00 adds A and B elementwise. -/
  | vectorAdd (core ring : Nat)
  /-- R175: A VECTOR descriptor with subop 0x01 subtracts B from A elementwise. -/
  | vectorSubtract (core ring : Nat)
  /-- R176: A VECTOR descriptor with subop 0x02 multiplies A by B elementwise, in the log domain when both formats are KB16. -/
  | vectorMultiply (core ring : Nat)
  /-- R175: A VECTOR descriptor with subop 0x03 computes fma(A, B, C) elementwise. -/
  | vectorFma (core ring : Nat)
  /-- R175: A VECTOR descriptor with subop 0x04 computes fma(A, P0, B) elementwise. -/
  | vectorFmaP0 (core ring : Nat)
  /-- R183: A VECTOR descriptor with subop 0x05 takes the elementwise maximum, with NaN winning. -/
  | vectorMaximum (core ring : Nat)
  /-- R183: A VECTOR descriptor with subop 0x06 takes the elementwise minimum, with NaN winning. -/
  | vectorMinimum (core ring : Nat)
  /-- R179: A VECTOR descriptor with subop 0x08 computes exp elementwise. -/
  | vectorExp (core ring : Nat)
  /-- R180: A VECTOR descriptor with subop 0x09 computes log elementwise. -/
  | vectorLog (core ring : Nat)
  /-- R181: A VECTOR descriptor with subop 0x0A computes the reciprocal elementwise. -/
  | vectorRcp (core ring : Nat)
  /-- R181: A VECTOR descriptor with subop 0x0B computes the reciprocal square root elementwise. -/
  | vectorRsqrt (core ring : Nat)
  /-- R181: A VECTOR descriptor with subop 0x0C computes the square root elementwise. -/
  | vectorSqrt (core ring : Nat)
  /-- R182: A VECTOR descriptor with subop 0x0D computes sigmoid elementwise. -/
  | vectorSigmoid (core ring : Nat)
  /-- R182: A VECTOR descriptor with subop 0x0E computes gelu elementwise. -/
  | vectorGelu (core ring : Nat)
  /-- R182: A VECTOR descriptor with subop 0x0F computes silu elementwise. -/
  | vectorSilu (core ring : Nat)
  /-- R184: A VECTOR descriptor with subop 0x10 computes softmax for each row. -/
  | vectorSoftmax (core ring : Nat)
  /-- R185: A VECTOR descriptor with subop 0x11 applies layer normalisation to each row. -/
  | vectorLayerNorm (core ring : Nat)
  /-- R185: A VECTOR descriptor with subop 0x12 applies RMS normalisation to each row. -/
  | vectorRmsNorm (core ring : Nat)
  /-- R183: A VECTOR descriptor with subop 0x13 sums each row with the pairwise tree. -/
  | vectorRowSum (core ring : Nat)
  /-- R183: A VECTOR descriptor with subop 0x14 takes the maximum of each row with the pairwise tree. -/
  | vectorRowMaximum (core ring : Nat)
  /-- R189: A VECTOR descriptor with subop 0x18 writes keyed uniform random draws. -/
  | vectorUniformRandom (core ring : Nat)
  /-- R185: A VECTOR descriptor with subop 0x19 keeps or drops each element of A by a keyed random draw. -/
  | vectorDropout (core ring : Nat)
  /-- R186: An OPT_UPDATE descriptor with subop 0x00 applies an Adam-class update, or completes from the update channel's run. -/
  | optUpdateAdam (core ring : Nat)
  /-- R186: An OPT_UPDATE descriptor with subop 0x01 applies a momentum update. -/
  | optUpdateMomentum (core ring : Nat)
  /-- R162: A TILE_MOVE descriptor with subop 0x00 loads tiles into the tile store and writes their header slots. -/
  | tileMoveLoad (core ring : Nat)
  /-- R162: A TILE_MOVE descriptor with subop 0x01 stores tiles from the tile store to the context's range. -/
  | tileMoveStore (core ring : Nat)
  /-- R162: A TILE_MOVE descriptor with subop 0x02 copies tiles from GADDR to GADDR2. -/
  | tileMoveCopy (core ring : Nat)
  /-- R169: A vector or move unit operation that took time reaches its completion point under R169. -/
  | opComplete (core unit : Nat)
  /-- R252: A FABRIC descriptor with subop 0x00 sends a WRITE on a flow, or serves it locally. -/
  | fabricPut (core ring : Nat)
  /-- R252: A FABRIC descriptor with subop 0x01 sends a READ on a flow, or serves it locally. -/
  | fabricGet (core ring : Nat)
  /-- R252: A FABRIC descriptor with subop 0x02 sends a TILE_WRITE of whole tiles. -/
  | fabricTilePut (core ring : Nat)
  /-- R252: A FABRIC descriptor with subop 0x03 sends a TILE_READ of whole tiles. -/
  | fabricTileGet (core ring : Nat)
  /-- R252: A FABRIC descriptor with subop 0x08 sends an ATOMIC_ADD. -/
  | fabricAtomicAdd (core ring : Nat)
  /-- R252: A FABRIC descriptor with subop 0x09 sends an ATOMIC_MIN. -/
  | fabricAtomicMin (core ring : Nat)
  /-- R252: A FABRIC descriptor with subop 0x0A sends an ATOMIC_MAX. -/
  | fabricAtomicMax (core ring : Nat)
  /-- R252: A FABRIC descriptor with subop 0x0B sends a COMPARE_SWAP. -/
  | fabricCompareSwap (core ring : Nat)
  /-- R252: A FABRIC descriptor with subop 0x0C sends an A48_ADD. -/
  | fabricA48Add (core ring : Nat)
  /-- R312: A COLL_STEP descriptor invokes one instance of a collective record, copies any staged data and sends its blocks to the members. -/
  | collStep (core ring : Nat)
  /-- R170: A descriptor retires once it and every earlier descriptor of its ring have completed; it signals its event and writes a completion record, waiting for room when the completion ring is full. -/
  | descriptorRetire (core ring : Nat)
  /-- R170: The gaffer reads completion records, logs the failures, keeps FABRIC records and frees each slot. -/
  | completionRingService (core ring : Nat)
  /-- R363: When a core's vector unit has no ring descriptor ready, the gaffer issues the OPT_UPDATEs of the first pending entry on the update channel. -/
  | updateChannelIssue (core : Nat)
  /-- R226: At the context's next tile-op boundary, the fence stops issue, aborts queued migrations, drains flows and stops securing. -/
  | contextFence (ctx : Nat) (ecc : Option EccHit)
  /-- R201: At most every 100 µs for each context, the residency manager requests promotions and demotions. -/
  | residencyPass (ctx : Nat) (moves : List MoveReq)
  /-- R203: A migration slot becomes free, and a queued tile without COW enters COPYING. -/
  | migrationSlotGrant (ctx : Nat)
  /-- R203: The last line is written and verified at the destination, and the migration enters COMMITTING. -/
  | migrationCopyDone (ctx tile : Nat)
  /-- R204: Every translation cache acknowledges the invalidation; FRAME takes DEST_FRAME, stalled writes proceed and any held request is taken up. -/
  | migrationCommit (ctx tile : Nat)
  /-- R210: An abort cause arises during a migration, and the migration enters ABORTING. -/
  | migrationAbort (ctx tile : Nat) (cause : AbortCause)
  /-- R210: DEST_FRAME is released; the tile returns to RESIDENT at its source and stalled writes proceed. -/
  | migrationAbortDone (ctx tile : Nat)
  /-- R221: A scrubber reads one line on its schedule, corrects it and writes it back, unless an access has written the line meanwhile. -/
  | scrubLine (store : Store) (addr : Nat) (err : LineErr) (writtenMeanwhile : Bool)
  /-- R230: The copy of a failing row into its spare ends and the controller switches its map, releasing the held writes. -/
  | rowSpareSwitch (loc : BankLoc) (row : Nat)
  /-- R230: A DRAM data lane spare switches in at a refresh boundary. -/
  | laneSpare (layer slice lane : Nat)
  /-- R231: A failing bank's tiles are migrated to the spare bank, or elsewhere, and the bank's capacity is withdrawn. -/
  | bankSpare (layer slice bank : Nat)
  /-- R234: A DRAM slice sensor crosses a threshold; refresh and bandwidth change with hysteresis. -/
  | sliceTemperatureChange (layer slice : Nat) (centi : Int)
  /-- R215: At t_d, tiles still in a reclaimed window are marked LOST with their contexts fenced, and the lender revokes and zero-fills the window. -/
  | reclaimDeadline (side : LendSide)
  /-- R253: An arriving WRITE request is checked and its packets are placed in order through the hold buffer; WRITE_DONE answers it. -/
  | writeReq (mac : Nat) (p : Pkt)
  /-- R252: An arriving READ request is checked and answered with READ_DATA packets. -/
  | readReq (mac : Nat) (p : Pkt) (ecc : Option EccHit)
  /-- R252: An arriving TILE_WRITE of whole tiles is written, setting DIRTY and LAST_WRITE_STEP. -/
  | tileWrite (mac : Nat) (p : Pkt)
  /-- R252: An arriving TILE_READ is answered with whole tiles. -/
  | tileRead (mac : Nat) (p : Pkt)
  /-- R257: An arriving ATOMIC_ADD adds to a 64-bit word and returns the old value. -/
  | atomicAdd (mac : Nat) (p : Pkt)
  /-- R252: An arriving ATOMIC_MIN stores the signed minimum and returns the old value. -/
  | atomicMin (mac : Nat) (p : Pkt)
  /-- R252: An arriving ATOMIC_MAX stores the signed maximum and returns the old value. -/
  | atomicMax (mac : Nat) (p : Pkt)
  /-- R252: An arriving COMPARE_SWAP replaces the word when it equals COMPARE and returns the old value. -/
  | compareSwap (mac : Nat) (p : Pkt)
  /-- R252: An arriving A48_ADD adds an A48 operand to the word and returns the old value. -/
  | a48Add (mac : Nat) (p : Pkt)
  /-- R314: An arriving COLLECTIVE block is checked, then staged, placed or combined in rank order, and answered with COLLECTIVE_DONE. -/
  | collective (mac : Nat) (p : Pkt)
  /-- R575: The last combine of a reduced shard completes, the converted result is written, and for ALL_REDUCE it is sent to the members. -/
  | collShardReady (ctx coll inst : Nat)
  /-- R252: A WRITE_DONE response completes the requesting put or tile put. -/
  | writeDone (mac : Nat) (p : Pkt)
  /-- R261: A READ_DATA packet is placed at LOCAL; the last one completes the get. -/
  | readData (mac : Nat) (p : Pkt)
  /-- R252: An ATOMIC_DONE response writes the old value at LOCAL and completes the atomic. -/
  | atomicDone (mac : Nat) (p : Pkt)
  /-- R574: A COLLECTIVE_DONE answers a sent block and may complete the instance. -/
  | collectiveDone (mac : Nat) (p : Pkt)
  /-- R245: An arriving ACK advances the oldest unacknowledged PSN, updates the RTT estimates and triggers fast retransmissions. -/
  | ackPkt (mac : Nat) (p : Pkt)
  /-- R262: 2 µs pass after the first unacknowledged packet arrived, and the receiver sends an ACK. -/
  | ackTimer (flow : Nat)
  /-- R264: A packet's retransmission timer expires, and the packet is resent with a doubled RTO. -/
  | retransmitTimeout (flow psn : Nat)
  /-- R268: A congestion interval ends, and the flow direction updates alpha, its rates and its path weights. -/
  | ccInterval (flow : Nat)
  /-- R265: una does not advance for T_fail, or one packet's timer expires 16 times; the flow enters FAILED. -/
  | flowProgressTimeout (flow : Nat)
  /-- R277: An arriving OPEN is accepted, opening a flow, or refused. -/
  | openFlow (mac : Nat) (p : Pkt)
  /-- R277: An arriving OPEN_ACCEPT moves the flow to OPEN. -/
  | openAccept (mac : Nat) (p : Pkt)
  /-- R250: An arriving OPEN_REFUSE returns the flow to CLOSED. -/
  | openRefuse (mac : Nat) (p : Pkt)
  /-- R250: An arriving CLOSE moves the flow to DRAINING. -/
  | closeFlow (mac : Nat) (p : Pkt)
  /-- R250: An arriving CLOSE_DONE closes a drained flow. -/
  | closeDone (mac : Nat) (p : Pkt)
  /-- R276: An arriving RESYNC_QUERY is answered with RESYNC_STATE. -/
  | resyncQuery (mac : Nat) (p : Pkt)
  /-- R278: An arriving RESYNC_STATE rebuilds a lost flow context, or fails the flow. -/
  | resyncState (mac : Nat) (p : Pkt)
  /-- R214: A borrower receives a reclaim notice and requests migrations out of the window. -/
  | reclaimNotice (mac : Nat) (p : Pkt)
  /-- R279: A lender receives a release; when every borrower has released, it revokes and zero-fills the window. -/
  | windowRelease (mac : Nat) (p : Pkt)
  /-- R216: A borrower receives WINDOW_LOST and treats the window's tiles as lender lost. -/
  | windowLost (mac : Nat) (p : Pkt)
  /-- R280: An arriving PROBE is answered with PROBE_REPLY. -/
  | probe (mac : Nat) (p : Pkt)
  /-- R280: A PROBE_REPLY gives a sample of the link latency and bandwidth. -/
  | probeReply (mac : Nat) (p : Pkt)
  /-- R275: A CTRL_ACK ends the retransmission of a control message. -/
  | ctrlAck (mac : Nat) (p : Pkt)
  /-- R275: An unacknowledged control message is resent every 1 ms; after 10 attempts, the peer is declared unreachable. -/
  | ctrlRetransmitTimeout (peer msgId : Nat)
  /-- R273: A direct-mode frame for another device is checked, decremented, marked and forwarded cut-through or buffered. -/
  | frameForward (mac : Nat) (h : Hdr) (fcsBad : Bool)
  /-- R238: An ARP request for a port's own address is answered. -/
  | arpRequest (mac : Nat) (targetIp senderIp : Nat) (senderMac : Nat)
  /-- R238: An IPv6 neighbour solicitation for a port's own address is answered. -/
  | neighbourSolicitation (mac : Nat) (targetIp senderIp : Nat) (senderMac : Nat)
  /-- R285: A frame with a bad FCS, a bad length, an unknown EtherType or a second tag is dropped and counted. -/
  | unhandledFrame (mac : Nat) (why : DropCause)
  /-- R290: A received PAUSE stops every queue of the MAC for the quanta given. -/
  | pauseFrame (mac quanta : Nat)
  /-- R290: A received PFC frame pauses or resumes the priorities it names. -/
  | pfcFrame (mac enable : Nat) (quanta : List Nat)
  /-- R290: The pause time of a priority runs out, and its queue becomes eligible again. -/
  | pauseExpiry (mac prio : Nat)
  /-- R291: While occupancy stays above XON, the PFC frame is repeated every 40 % of the pause time. -/
  | pfcRepeat (mac prio : Nat)
  /-- R291: Occupancy falls below XON, and the MAC sends PFC with quanta 0. -/
  | pfcXonSend (mac prio : Nat)
  /-- R288: The MAC is free and starts the next frame: queue 7, then queue 0 with credit, then the highest eligible queue. -/
  | macFrameStart (mac : Nat)
  /-- R294: A scheduled window starts on a MAC; queue 6 may send and the window rate applies. -/
  | windowOpen (ctx entry : Nat)
  /-- R294: A scheduled window ends; leftover frames wait for the next slot and a missed window is counted. -/
  | windowClose (ctx entry : Nat)
  /-- R295: Every 30 s, each MAC sends an LLDPDU. -/
  | lldpTransmit (mac : Nat)
  /-- R295: A received LLDPDU updates the MAC's neighbour entry and flags several neighbours. -/
  | lldpdu (mac : Nat) (n : LldpInfo)
  /-- R296: The queues have been empty for the idle hold, and the transmitter enters low-power idle. -/
  | lpiEntry (mac : Nat)
  /-- R296: Tw plus 1 µs before a window starts, the transmitter leaves low-power idle. -/
  | lpiWakeForWindow (mac ctx entry : Nat)
  /-- R299: A received PTP message is timestamped and processed; the servo slews the clock, or steps it when no job runs. -/
  | ptpMessage (mac : Nat) (m : PtpMsg)
  /-- R299: The Sync or Delay_Req interval expires, and a PTP message is sent. -/
  | ptpSyncTimer (port : Nat)
  /-- R300: Every master is lost, and the clock enters holdover, which is logged. -/
  | ptpHoldoverEntry (errNs : Nat)
  /-- R552: A rising edge on PPS_IN is timestamped, qualifies the pulse or is ignored as stray. -/
  | ppsInEdge (taiNs : Nat)
  /-- R552: No qualifying PPS_IN edge arrives for 2 s, and the clock falls back to the best master clock algorithm. -/
  | ppsInLost
  /-- R301: At each whole TAI second, PPS_OUT rises for 100 ms. -/
  | ppsOutSecond
  /-- R302: The period, a temperature change or the error ratio triggers re-calibration of one lane with a shadow receiver. -/
  | laneRecalStart (lane : Nat) (why : RecalCause)
  /-- R302: After adaptation, the new coefficients take effect at an FEC codeword boundary. -/
  | laneRecalApply (lane : Nat)
  /-- R303: A 1 s window of FEC statistics ends and is judged against the retirement and re-calibration thresholds. -/
  | fecMonitorWindow (mac : Nat) (st : FecStats)
  /-- R303: A lane loses lock; the third loss in an hour retires it. -/
  | laneLockLoss (lane : Nat)
  /-- R305: Link-up at the lower width writes the cullet entry, lowers rate_max and releases the waiting frames. -/
  | linkUpAfterRetirement (mac : Nat)
  /-- R305: Link-up fails within 1 s; the MAC goes down and its port leaves the forwarding entries and path sets. -/
  | retrainingTimeout (mac : Nat)
  /-- R327: The gaffer runs a PARITY instance, sending GF-weighted stripes that the hosts XOR into accumulators. -/
  | parityInstance (ctx : Nat) (plan : List StripeSend)
  /-- R331: The gaffer sends the moves of a permute plan as tiles with their headers. -/
  | permuteInstance (ctx : Nat)
  /-- R332: The coordinator broadcasts a re-shard request with boundary step s_b. -/
  | reshardRequest (ctx : Nat) (rq : ReshardReq)
  /-- R332: Step s_b − 1 retires every descriptor of its event table; the start of s_b is held and the old layout drains. -/
  | reshardBoundary (ctx : Nat)
  /-- R332: Old reductions and the pending-update queue are empty, and the member sends its permute moves. -/
  | reshardDrainDone (ctx : Nat)
  /-- R332: Every move is acknowledged, and the member reports done to the coordinator. -/
  | reshardPermuteDone (ctx : Nat)
  /-- R332: All members have reported, and the coordinator broadcasts the commit time t_c. -/
  | reshardCommitBroadcast (ctx commitNs : Nat)
  /-- R332: At t_c, the new layout takes effect, LAYOUT_EPOCH rises and old frames and flows are released. -/
  | reshardCommit (ctx : Nat) (lay : NewLayout)
  /-- R345: The coordinator has every member's measurements, places the ranks and writes each member its plan. -/
  | planPlacement (ctx : Nat) (meas : PlanMeasure)
  /-- R346: A member receives its plan, binds member lists, opens flows, checks resources and returns its digest. -/
  | planAccept (ctx : Nat) (plan : PlanMsg)
  /-- R346: The coordinator compares digests and refusals and writes a start grid point or a refusal to every member. -/
  | jobStartDecision (ctx : Nat) (d : StartInput)
  /-- R454: 30 s after its START, the coordinator refuses the job with DEGREES when a module has not opened its planning flow. -/
  | startWaitTimeout (ctx : Nat)
  /-- R367: Step s starts at the first qualifying grid point; grid points passed over are counted as late steps. -/
  | jobStepStart (ctx : Nat)
  /-- R369: A PREFETCH entry starts module-initiated DMA of the next step's micro-batches into T2 and records the cursor. -/
  | prefetch (ctx : Nat) (d : FeedDma)
  /-- R385: At the BOUNDARY entry, or at retirement, a due securing captures the increment and state blocks and opens a generation. -/
  | boundary (ctx : Nat)
  /-- R349: The coordinator compares the replicated modules' loss bits for a step and logs the failing modules. -/
  | validationLossCompare (ctx step : Nat) (losses : List (Nat × F32))
  /-- R387: A member's parity or snapshot part completes; it sets PARTS_DONE and reports by ATOMIC_ADD. -/
  | securingPartDone (ctx : Nat) (part : SecPart)
  /-- R388: All members have reported; the coordinator computes the next interval and broadcasts the commit. -/
  | securingCommit (ctx : Nat)
  /-- R388: A member receives the commit, sets COMMITTED and releases the frames of G_c. -/
  | generationCommit (ctx generation commitNs nextStep : Nat)
  /-- R389: When step s + 1 retires, its loss is read, broadcast and written into LOSS of the generation. -/
  | lossCapture (ctx : Nat) (loss : Option F32)
  /-- R395: A member reports a failure, and the coordinator begins a recovery by broadcasting HALT. -/
  | recoveryTrigger (ctx : Nat) (t : Trigger)
  /-- R397: A member receives HALT, fences the job's context, aborts any open generation and reports. -/
  | recoveryHalt (ctx : Nat)
  /-- R398: All members report, or 100 ms pass; the coordinator selects the target, standbys and sources. -/
  | haltingEnd (ctx : Nat) (v : HaltView)
  /-- R399: All members have reached the target, and the recovery moves to CHECKING. -/
  | refillComplete (ctx : Nat) (rebuilt : Refill)
  /-- R397: Replicated validation of replacement modules ends, and the recovery goes on to replay or re-selects. -/
  | checkingComplete (ctx : Nat) (failed : List Nat)
  /-- R403: The replayed step retires, and its loss is compared bit-exactly, with tolerance, or not at all. -/
  | replayCompare (ctx : Nat) (loss : F32)
  /-- R407: PFW_N stays low for 2 µs; every context is fenced, cores ramp down and NAND accepts no new data. -/
  | pfwAssert
  /-- R407: By 2 ms after assertion, the snapshot journal commit block is written. -/
  | pfwJournalCommit
  /-- R409: PFW_N stays high for 1 ms, and the warning is released. -/
  | pfwRelease
  /-- R409: 100 ms after the release, the module reports to the coordinator and rejoins as a survivor. -/
  | pfwRejoin
  /-- R417: The last byte of a shard arrives, and the arrival digest is compared. -/
  | shardArrival (ctx slot : Nat) (d : ShardDma)
  /-- R417: The read-back hash of a shard completes; a match makes the slot SEALED. -/
  | shardReadback (ctx slot : Nat) (errs : List (Nat × Byte))
  /-- R422: A verification period begins a pass over every SEALED shard; an overrunning pass is counted late. -/
  | verifyPass (ctx : Nat)
  /-- R424: The background hash of a shard completes; a mismatch triggers a reload, or a fence when the shard is in use. -/
  | shardVerify (ctx slot : Nat) (v : VerifyView)
  /-- R431: The counter reaches N_r; the coordinator sets s_w and broadcasts it, and members set PENDING. -/
  | switchAgree (ctx : Nat) (news : SwitchNews)
  /-- R430: At step s_w, or at once with no job, ACTIVE inverts and the old frames become captures or are released. -/
  | puntySwitch (ctx : Nat)
  /-- R432: A member's bank ceases to be READY; the switch is deferred, or the member fences itself. -/
  | switchDeferral (d : Deferral)
  /-- R447: The command starts an SM2 key exchange session and returns R_B and S_B. -/
  | openSm2 (rq : Req)
  /-- R447: The command verifies the host confirmation and opens the session. -/
  | confirm (rq : Req)
  /-- R448: The command starts a password session, returning the nonce, salt and iteration count. -/
  | openPassword (rq : Req)
  /-- R448: 10 minutes after five failed confirmations, OPEN_PASSWORD is accepted again. -/
  | passwordLockoutEnd
  /-- R451: The CLOSE command ends the session and erases its keys. -/
  | sessionClose (rq : Req)
  /-- R462: The CREATE command creates a context, or queues it behind a teardown. -/
  | contextCreate (rq : Req)
  /-- R461: The TEARDOWN command fences, cancels, closes flows and scrubs a context. -/
  | contextTeardown (rq : Req)
  /-- R461: 100 ms after CLOSE, the flows not yet closed are released. -/
  | teardownFlowRelease (ctx : Nat)
  /-- R461: The scrub is verified; resources are released and the context becomes FREE or READY for a queued create. -/
  | teardownScrubComplete (ctx : Nat) (badFrames : List (Nat × Nat))
  /-- R452: The QUERY command returns the context's state and grants. -/
  | contextQuery (rq : Req)
  /-- R452: The command changes the grants of a READY context. -/
  | setGrants (rq : Req)
  /-- R341: The job LOAD command fetches and checks an image, or loads the self-test job. -/
  | jobLoad (rq : Req)
  /-- R342: The START command begins planning, measuring links and opening the planning flow. -/
  | jobStart (rq : Req) (setList : Dma)
  /-- R455: The FEED command registers the host data-feed ring. -/
  | jobFeed (rq : Req)
  /-- R452: The STATUS command returns the job state, step, generation and layout. -/
  | jobStatus (rq : Req)
  /-- R401: The CURSOR command supplies the host cursor in CURSOR_CHECK, or overrides a mismatch. -/
  | jobCursor (rq : Req)
  /-- R395: The RECOVER command requests a recovery, or a traced replay, at the coordinator. -/
  | jobRecover (rq : Req)
  /-- R404: DECIDE with ACTION 0 stops a job that is in VERIFY_FAILED. -/
  | jobDecideStop (rq : Req)
  /-- R404: DECIDE with ACTION 1 resumes a job that is in VERIFY_FAILED, unverified. -/
  | jobDecideResume (rq : Req)
  /-- R348: The VALIDATE command runs a replicated validation. -/
  | jobValidate (rq : Req)
  /-- R400: The ADD_MODULE command adds a module to the set, releasing WAITING_FOR_MODULE. -/
  | jobAddModule (rq : Req)
  /-- R454: The REPORT command writes the plan report to host memory. -/
  | jobReport (rq : Req)
  /-- R460: The STOP command stops the job and returns the context to READY. -/
  | jobStop (rq : Req)
  /-- R415: The weight LOAD command checks a shard list and starts the shard fetches. -/
  | weightLoad (rq : Req) (shardList : Dma)
  /-- R431: The SWITCH command requests a punty switch for a REPLACEMENT_ID. -/
  | weightSwitch (rq : Req)
  /-- R452: The weight QUERY command returns the punty and the digest slots. -/
  | weightQuery (rq : Req)
  /-- R422: The VERIFY_PERIOD command sets the background verification period. -/
  | weightVerifyPeriod (rq : Req)
  /-- R452: The CAPACITY command returns the tier capacities, grants and loans. -/
  | tierCapacity (rq : Req)
  /-- R193: The READ_ENTRIES command returns tile-table entries. -/
  | tierReadEntries (rq : Req)
  /-- R570: The MIGRATE command requests migrations of a range of tiles. -/
  | tierMigrate (rq : Req)
  /-- R410: The WEIGHT_REGIONS command sets a context's weight regions while no job is loaded. -/
  | tierWeightRegions (rq : Req)
  /-- R211: The LEND_OFFER command zero-fills a window and offers it to peers. -/
  | lendOffer (rq : Req)
  /-- R214: The LEND_RECLAIM command sends reclaim notices with a deadline. -/
  | lendReclaim (rq : Req)
  /-- R213: The GRANT_T3 command grants a lent window to a context. -/
  | grantT3 (rq : Req)
  /-- R452: The PORT_SET command configures a port. -/
  | portSet (rq : Req)
  /-- R452: The PORT_UPDOWN command brings a port up or down. -/
  | portUpdown (rq : Req)
  /-- R283: The PORT_STATUS command returns the eight port status words. -/
  | portStatus (rq : Req)
  /-- R238: The PEER_TABLE command loads peer address table entries. -/
  | peerTable (rq : Req)
  /-- R272: The FWD_TABLE command loads forwarding table entries. -/
  | fwdTable (rq : Req)
  /-- R269: The CC_PARAMS command sets the congestion parameters and T_fail. -/
  | ccParams (rq : Req)
  /-- R295: The NEIGHBOURS command returns the LLDP neighbour of each MAC. -/
  | neighbours (rq : Req)
  /-- R302: The RECAL_PERIOD command sets the lane re-calibration period. -/
  | recalPeriod (rq : Req)
  /-- R534: The snapshots LIST command returns the held generations. -/
  | snapshotsList (rq : Req)
  /-- R452: The SECURE_NOW command makes the next BOUNDARY secure. -/
  | secureNow (rq : Req)
  /-- R377: The READ_RECORD command returns a generation's securing record. -/
  | readRecord (rq : Req)
  /-- R382: The ERASE command removes the kept generations of a job. -/
  | snapshotsErase (rq : Req)
  /-- R300: The time STATUS command returns the clock state and offset. -/
  | timeStatus (rq : Req)
  /-- R299: The PTP_CONFIG command sets the PTP roles and parameters. -/
  | ptpConfig (rq : Req)
  /-- R301: The PPS command configures PPS_IN as a source and enables or disables PPS_OUT. -/
  | pps (rq : Req)
  /-- R298: The ASYMMETRY command sets the cable asymmetry of each port. -/
  | asymmetry (rq : Req)
  /-- R297: The SET_EPOCH command sets the job epoch. -/
  | setEpoch (rq : Req)
  /-- R528: The COUNTERS READ command returns consecutive context or module counters. -/
  | countersRead (rq : Req)
  /-- R523: The PERMISSION command sets or clears a context's counter permission. -/
  | countersPermission (rq : Req)
  /-- R529: SAMPLING with ACTION 0 turns tagged sampling off. -/
  | samplingOff (rq : Req)
  /-- R529: SAMPLING with ACTION 1 starts tagged sampling into a host ring. -/
  | samplingOn (rq : Req)
  /-- R535: SAMPLING with ACTION 2 arms a replay trace of a generation. -/
  | samplingArmReplay (rq : Req)
  /-- R529: SAMPLING with ACTION 3 disarms a replay trace. -/
  | samplingDisarm (rq : Req)
  /-- R530: A tagged op's sample record is written to the host ring, or dropped when the ring or queue is full. -/
  | sampleRecordWrite (core : Nat) (consumed : Dma)
  /-- R466: The log STATUS command returns OLDEST_SEQ, NEXT_SEQ and OVERFLOW. -/
  | logStatus (rq : Req)
  /-- R466: The log READ command writes the visible entries from FROM_SEQ onward to host memory. -/
  | logRead (rq : Req)
  /-- R456: The IDENTITY command returns the firmware identity record. -/
  | fwIdentity (rq : Req)
  /-- R468: The STAGE command fetches a firmware image into the inactive slot and checks it. -/
  | fwStage (rq : Req)
  /-- R468: The ACTIVATE command waits for quiet conditions before switching firmware. -/
  | fwActivate (rq : Req)
  /-- R468: The conditions hold; the gaffer sets FW_SWITCH, saves its state and starts the new firmware. -/
  | fwSwitchStart
  /-- R468: The wait of ACTIVATE exceeds 10 s, and its handle fails with STATE. -/
  | activateTimeout
  /-- R469: The new firmware resumes every mailbox, session, handle and job and raises the anti-rollback counter. -/
  | fwSwitchResume
  /-- R469: The new firmware fails its self-check or does not resume within 200 ms, and the previous slot restarts. -/
  | fwSwitchWatchdog
  /-- R470: The CORE_TABLES command checks and distributes new core firmware tables. -/
  | coreTables (rq : Req)
  /-- R470: A core takes the new tables at its next tile-op boundary. -/
  | coreTablesTake (core : Nat)
  /-- R496: The ATTEST command returns a signed report or a certificate chunk. -/
  | attest (rq : Req)
  /-- R492: LIFECYCLE action 0x01 installs a signed configuration record. -/
  | lifecycleInstallRecord (rq : Req) (record : Dma)
  /-- R498: LIFECYCLE action 0x02 writes a stored record to host memory. -/
  | lifecycleReadRecord (rq : Req)
  /-- R497: LIFECYCLE action 0x03 returns a fresh challenge. -/
  | lifecycleChallenge (rq : Req)
  /-- R486: LIFECYCLE action 0x10 moves the module from FIELD to FIELD_DEBUG. -/
  | lifecycleToFieldDebug (rq : Req)
  /-- R486: LIFECYCLE action 0x11 moves the module from FIELD_DEBUG to FIELD. -/
  | lifecycleToField (rq : Req)
  /-- R486: LIFECYCLE action 0x12 moves the module to RETURNED. -/
  | lifecycleToReturned (rq : Req)
  /-- R486: LIFECYCLE action 0x13 moves the module from MANUFACTURE to FIELD. -/
  | lifecycleManufactureToField (rq : Req)
  /-- R486: LIFECYCLE action 0x14 moves the module from RETURNED to MANUFACTURE. -/
  | lifecycleToManufacture (rq : Req)
  /-- R486: The scrub of a lifecycle or debug transition ends, and the new state or level takes effect. -/
  | lifecycleTransitionDone
  /-- R485: DEBUG with LEVEL 0x00 sets the debug level to none. -/
  | debugNone (rq : Req)
  /-- R485: DEBUG with LEVEL 0x01 sets the debug level to observe. -/
  | debugObserve (rq : Req)
  /-- R487: DEBUG with LEVEL 0x02 tears down, stops remote service and opens invasive debug. -/
  | debugInvasive (rq : Req)
  /-- R497: DEBUG with LEVEL 0xFF returns a challenge. -/
  | debugChallenge (rq : Req)
  /-- R232: The CULLET_READ command returns cullet list entries. -/
  | culletRead (rq : Req)
  /-- R471: The CORE_REPLACE command replaces a logical core's physical core with a spare. -/
  | coreReplace (rq : Req)
  /-- R471: At the core's tile-op boundary, its rings stop, the tile store moves to the spare, the near region rebinds and issue resumes. -/
  | coreMigration (core : Nat)
  /-- R303: The LANE_RETIRE command retires a SerDes lane. -/
  | laneRetire (rq : Req)
  /-- R303: The LANE_ADMIT command admits a retired lane again. -/
  | laneAdmit (rq : Req)
  /-- R472: The DRAM_RECAL command starts re-training of the named slices and layers. -/
  | dramRecal (rq : Req)
  /-- R472: One bank is re-trained, with its accesses held for at most 10 µs. -/
  | dramBankRetrain (loc : BankLoc)
  /-- R514: STATE 0 returns the module to the active power state. -/
  | powerStateActive (rq : Req)
  /-- R514: STATE 1 ramps the cores to n = 0 and gates the core blocks. -/
  | powerStateIdle (rq : Req)
  /-- R514: STATE 2 reclaims windows, takes ports down, puts T1 and T2 in self-refresh and ends sessions. -/
  | powerStateStandby (rq : Req)
  /-- R505: The CAP command sets CAP_W and SEALED_W from the next sample. -/
  | powerCap (rq : Req)
  /-- R500: The power READ command returns the input measurements and temperatures. -/
  | powerRead (rq : Req)
  /-- R506: Each 10 µs sample of input power may lower n_sh by 4, and an input outside 44–60 V is logged. -/
  | powerSample (mv ma mw : Nat)
  /-- R506: Every 1 ms, the 1 s mean lowers or raises n_sh by 1. -/
  | capControlTick
  /-- R517: Every 1 ms, n_t falls by 4 while any sensor throttles, or rises by 1 while every sensor is below its release point. -/
  | thermalTick (changes : List SensorReading)
  /-- R518: A sensor reaches its trip point; every context is fenced, the cores ramp down and the module enters idle. -/
  | thermalTrip (r : SensorReading)
  /-- R457: The HANDLE_QUERY command returns a handle's progress word and status. -/
  | handleQuery (rq : Req)
  /-- R459: The HANDLE_CANCEL command cancels an operation at its next unit boundary. -/
  | handleCancel (rq : Req)
  /-- R457: 60 s after completion, a handle is forgotten. -/
  | handleExpiry (handle : Nat)
  /-- R555: SMBus command 0x00 returns PART_NUMBER. -/
  | smbPart
  /-- R555: SMBus command 0x01 returns SERIAL. -/
  | smbSerial
  /-- R556: SMBus command 0x02 returns the boot status. -/
  | smbBootStatus
  /-- R555: SMBus command 0x03 returns the input measurements. -/
  | smbInput
  /-- R555: SMBus command 0x04 returns the hottest sensor temperatures. -/
  | smbTemp
  /-- R555: SMBus command 0x05 returns the next event log SEQ. -/
  | smbLogSeq
  /-- R557: A W1C write to SMB_ALERT_STATUS clears alert bits, which may release SMB_ALERT_N. -/
  | smbAlertStatusWrite (value : Nat)
  /-- R554: A read of the Alert Response Address returns the module's address while it asserts SMB_ALERT_N. -/
  | smbAlertResponse
  /-- R548: PERST_N asserted, or the link lost, resets the endpoint, disables virtual functions and fails DMA in flight. -/
  | perstAssert (linkLost : Bool)
  /-- R549: PERST_N is deasserted, and the endpoint begins link training. -/
  | perstDeassert
  /-- R548: A Function Level Reset of the physical function ends its sessions, fails its DMA and disables virtual functions. -/
  | flrPhysicalFunction
  /-- R548: A Function Level Reset of a virtual function ends its context's session and fails its DMA. -/
  | flrVirtualFunction (vf : Nat)
  /-- R558: The input reaches 44 V, and start-up begins at the ROM stage. -/
  | powerOn (straps : Nat)
  /-- R559: The ROM stage ends with a slot chosen, or FAILED with no bootable slot. -/
  | romStageEnd (v : RomView)
  /-- R558: The firmware is verified and the gaffer starts in lock-step. -/
  | firmwareStageEnd (lockstepOk : Bool)
  /-- R558: The rails are up, PWROK rises and the records are verified. -/
  | railsStageEnd (invalid : List Nat)
  /-- R558: T1 and T2 are trained and zeroed, the reservations made and the NAND journal read. -/
  | memoryStageEnd (v : MemView)
  /-- R562: Every physical core is tested and the logical cores are bound. -/
  | coresStageEnd (failures : List (Nat × Nat))
  /-- R558: The ports are configured and trained; READY is reached and logged. -/
  | portsStageEnd
  /-- R551: MOD_RST_N held low for 10 µs puts the module in reset. -/
  | moduleReset
  /-- R551: MOD_RST_N high for 1 ms restarts the module at ROM. -/
  | moduleResetRelease
  /-- R564: A gaffer memory error, a lock-step mismatch, the 100 ms watchdog or a transition resets the gaffer; every context becomes FREE. -/
  | gafferReset (cause : Nat)
  /-- R565: After the T2 zero-fill, the gaffer reaches READY within 1 s of the reset. -/
  | gafferResetComplete
  /-- R514: The module's input is removed and it enters the off power state, losing all state except NAND and the replay-protected region. -/
  | inputRemoved
  /-- R284: Auto-negotiation and link training of a port complete and its MACs gain link, setting LANES_UP and MAC_UP. -/
  | linkUp (port : Nat) (macs : Nat) (lanes : Nat)
  /-- R150: The tile-op queue fetches a descriptor with a reserved opcode, such as a zero-filled slot, which completes with status RESERVED and stops the ring. -/
  | reservedOpcode (core ring : Nat)
  /-- R242: A Zalnis packet that fails HCRC or carries a reserved class, reserved OP or nonzero reserved base-header bit is dropped and counted without reply. -/
  | reservedPacket (mac : Nat) (h : Hdr)
  /-- R452: A doorbell is rung for a mailbox command whose family or code is not listed, and the gaffer answers STATUS RESERVED. -/
  | reservedCommand (rq : Req) (family code : Nat)
  /-- R548: While the PCI Express link is down, a PREFETCH retries its DMA every 1 ms until the link is up. -/
  | prefetchRetry (ctx : Nat) (d : FeedDma)
  /-- R460: A module-initiated DMA of a job image, firmware image, table or log buffer ends, and its handle completes, for a job load moving the context to LOADED. -/
  | moduleDmaComplete (handle : Nat) (d : DmaResult)
  /-- R211: The zero-fill of a lent window ends; the window is offered, or after a reclaim it returns to the lender's grants and the waiting work proceeds. -/
  | windowZeroFillComplete (window : Nat)
  deriving DecidableEq, Repr

end Sys2Proof
end

