-- ==== Sys2Proof/Decode.lean ====
section
/-! DEFINITION. The word that spells a command. No row of spec/opcode_table.json gives its command any bits: commands reach the block as
register accesses, mailbox requests, frames, descriptors and events, so no word spells one. -/

namespace Sys2Proof

/-- The command that a word spells by the table's bits: none, since no row gives bits. -/
def decodeTableWord (_nbits _w : Nat) : Option Instr := none

end Sys2Proof
end

