-- ==== Sys2Proof/Machine/Digest.lean ====
section
/-! DEFINITION. The functions of other standards that the manual names: SM3 of GB/T 32905-2016 and HMAC-SM3 of RFC 2104 (R414, R446), the SM2
signature of GB/T 32918.2-2016 and key exchange of GB/T 32918.3-2016 on the curve of GB/T 32918.5-2017 (R447, R491, R494 to R498). The manual names
the standards without stating them: their contents are PRESUMED (log 6). -/

namespace Sys2Proof

/-! ## Big-endian numbers -/

/-- n bytes of a number, most significant first. -/
def bigEndian : Nat → Nat → List Byte
  | 0, _ => []
  | n + 1, x => BitVec.ofNat 8 (x / 2 ^ (8 * n)) :: bigEndian n x

/-- The number that bytes spell, most significant first. -/
def ofBigEndian (bs : List Byte) : Nat := bs.foldl (fun a b => a * 256 + b.toNat) 0

/-! ## SM3 -/

abbrev W32 := BitVec 32

def sm3P0 (x : W32) : W32 := x ^^^ x.rotateLeft 9 ^^^ x.rotateLeft 17
def sm3P1 (x : W32) : W32 := x ^^^ x.rotateLeft 15 ^^^ x.rotateLeft 23

/-- The next word of the message expansion, from the 16 before it. -/
def sm3Next (w : List W32) : W32 :=
  let g (i : Nat) : W32 := w.getD i 0
  sm3P1 (g 0 ^^^ g 7 ^^^ (g 13).rotateLeft 15) ^^^ (g 3).rotateLeft 7 ^^^ g 10

/-- The 16 + n words of the expansion of a block. -/
def sm3Expand : Nat → List W32 → List W32
  | 0, w => w
  | n + 1, w => w.headD 0 :: sm3Expand n (w.tail ++ [sm3Next w])

/-- One round on the registers A to H. -/
def sm3Round (r : List W32) (j : Nat) (w w' : W32) : List W32 :=
  let g (i : Nat) : W32 := r.getD i 0
  let a := g 0
  let e := g 4
  let t : W32 := if j < 16 then 0x79CC4519#32 else 0x7A879D8A#32
  let ss1 := (a.rotateLeft 12 + e + t.rotateLeft (j % 32)).rotateLeft 7
  let ss2 := ss1 ^^^ a.rotateLeft 12
  let ff := if j < 16 then a ^^^ g 1 ^^^ g 2 else (a &&& g 1) ||| (a &&& g 2) ||| (g 1 &&& g 2)
  let gg := if j < 16 then e ^^^ g 5 ^^^ g 6 else (e &&& g 5) ||| (~~~ e &&& g 6)
  let tt1 := ff + g 3 + ss2 + w'
  let tt2 := gg + g 7 + ss1 + w
  [tt1, a, (g 1).rotateLeft 9, g 2, sm3P0 tt2, e, (g 5).rotateLeft 19, g 6]

/-- The compression of one block of 64 bytes. -/
def sm3Block (v : List W32) (b : List Byte) : List W32 :=
  let w := sm3Expand 52 ((List.range 16).map (fun i => BitVec.ofNat 32 (ofBigEndian ((b.drop (4 * i)).take 4))))
  let r := ((List.range 64).zip (w.zip (w.drop 4))).foldl (fun r e => sm3Round r e.1 e.2.1 (e.2.1 ^^^ e.2.2)) v
  (v.zip r).map (fun p => p.1 ^^^ p.2)

/-- n blocks of a padded message. -/
def sm3Blocks : Nat → List W32 → List Byte → List W32
  | 0, v, _ => v
  | n + 1, v, m => sm3Blocks n (sm3Block v (m.take 64)) (m.drop 64)

/-- The message with its padding: a 1 bit, zeros, and its length in bits. -/
def sm3Pad (m : List Byte) : List Byte :=
  m ++ 0x80#8 :: List.replicate ((119 - m.length % 64) % 64) 0#8 ++ bigEndian 8 (8 * m.length)

/-- SM3: 32 bytes (R414). -/
@[irreducible] def sm3 (m : List Byte) : List Byte :=
  let p := sm3Pad m
  (sm3Blocks (p.length / 64) [0x7380166F#32, 0x4914B2B9#32, 0x172442D7#32, 0xDA8A0600#32, 0xA96F30BC#32, 0x163138AA#32, 0xE38DEE4D#32, 0xB0FB0E4E#32] p).flatMap
    (fun w => bigEndian 4 w.toNat)

/-- HMAC-SM3 (R446): key, then message. -/
@[irreducible] def hmacSm3 (key msg : List Byte) : List Byte :=
  let k := if 64 < key.length then sm3 key else key
  let k := k ++ List.replicate (64 - k.length) 0#8
  sm3 (k.map (fun b => b ^^^ 0x5C#8) ++ sm3 (k.map (fun b => b ^^^ 0x36#8) ++ msg))

/-! ## The SM2 curve -/

def sm2p : Nat := 0xFFFFFFFEFFFFFFFFFFFFFFFFFFFFFFFFFFFFFFFF00000000FFFFFFFFFFFFFFFF
def sm2a : Nat := 0xFFFFFFFEFFFFFFFFFFFFFFFFFFFFFFFFFFFFFFFF00000000FFFFFFFFFFFFFFFC
def sm2b : Nat := 0x28E9FA9E9D9F5E344D5A9E4BCF6509A7F39789F515AB8F92DDBCBD414D940E93
def sm2n : Nat := 0xFFFFFFFEFFFFFFFFFFFFFFFFFFFFFFFF7203DF6B21C6052B53BBF40939D54123
def sm2G : Nat × Nat :=
  (0x32C4AE2C1F1981195F9904466A39C9948FE30BBFF2660BE1715A4589334C74C7, 0xBC3736A2F4F6779C59BDCEE36B692153D0A9877CC62A474002DF32E52139F0A0)

/-- x to the power e modulo m, by the lowest `fuel` bits of e. -/
def powMod (m : Nat) : Nat → Nat → Nat → Nat → Nat
  | 0, _, _, acc => acc
  | fuel + 1, x, e, acc => powMod m fuel (x * x % m) (e / 2) (if e % 2 = 1 then acc * x % m else acc)

/-- The inverse of x modulo a prime of 256 bits. -/
def invMod (m x : Nat) : Nat := powMod m 256 (x % m) (m - 2) 1

/-- A point of the curve; none is the point at infinity. -/
abbrev EcPoint := Option (Nat × Nat)

/-- The sum of two points. -/
def ecAdd (u v : EcPoint) : EcPoint :=
  match u, v with
  | none, q => q
  | q, none => q
  | some (x1, y1), some (x2, y2) =>
    if x1 = x2 ∧ (y1 + y2) % sm2p = 0 then none
    else
      let l := if x1 = x2 then (3 * x1 * x1 + sm2a) * invMod sm2p (2 * y1) % sm2p else (y2 + sm2p - y1) * invMod sm2p (x2 + sm2p - x1) % sm2p
      let x3 := (l * l + 2 * sm2p - x1 - x2) % sm2p
      some (x3, (l * (x1 + sm2p - x3) + sm2p - y1) % sm2p)

/-- A multiple of a point, by the lowest `fuel` bits of the factor. -/
def ecMul : Nat → Nat → EcPoint → EcPoint → EcPoint
  | 0, _, _, acc => acc
  | fuel + 1, k, u, acc => ecMul fuel (k / 2) (ecAdd u u) (if k % 2 = 1 then ecAdd acc u else acc)

def ecTimes (k : Nat) (u : EcPoint) : EcPoint := ecMul 256 k u none

/-- The point whose 64 bytes are x then y. -/
def pointOf (b : List Byte) : Nat × Nat := (ofBigEndian (b.take 32), ofBigEndian ((b.drop 32).take 32))

/-- The 64 bytes of a point. -/
def pointBytes (u : EcPoint) : List Byte := match u with | some (x, y) => bigEndian 32 x ++ bigEndian 32 y | none => List.replicate 64 0#8

/-- A point lies on the curve. -/
def onCurve (q : Nat × Nat) : Bool :=
  decide (q.1 < sm2p ∧ q.2 < sm2p) && q.2 * q.2 % sm2p == (q.1 * q.1 * q.1 + sm2a * q.1 + sm2b) % sm2p

/-- Z of a user ID and a public key. -/
def sm2Z (id key : List Byte) : List Byte :=
  sm3 (bigEndian 2 (8 * id.length) ++ id ++ bigEndian 32 sm2a ++ bigEndian 32 sm2b ++ bigEndian 32 sm2G.1 ++ bigEndian 32 sm2G.2 ++ key.take 64)

/-- IDENTITY_KEY of R456, x then y, 64 bytes: the public key of the module's private key (log 9). -/
@[irreducible] def identityKey : List Byte := pointBytes (ecTimes (1 + Config.privateKey % (sm2n - 2)) (some sm2G))

/-- The check of an SM2 signature, r then s (R491): public key, user ID, message. -/
@[irreducible] def sm2Verify (key id msg sig : List Byte) : Bool :=
  let r := ofBigEndian (sig.take 32)
  let s := ofBigEndian ((sig.drop 32).take 32)
  let e := ofBigEndian (sm3 (sm2Z id key ++ msg))
  let t := (r + s) % sm2n
  onCurve (pointOf key) && decide (0 < r ∧ r < sm2n ∧ 0 < s ∧ s < sm2n) && t != 0
    && (match ecAdd (ecTimes s (some sm2G)) (ecTimes t (some (pointOf key))) with
        | some q => (e + q.1) % sm2n == r
        | none => false)

/-- A signature with a private key and a random number. -/
def sm2SignWith (d k : Nat) (key id msg : List Byte) : List Byte :=
  let e := ofBigEndian (sm3 (sm2Z id key ++ msg))
  let x := match ecTimes k (some sm2G) with | some q => q.1 | none => 0
  let r := (e + x) % sm2n
  bigEndian 32 r ++ bigEndian 32 (invMod sm2n (1 + d) * ((k + (sm2n - r * d % sm2n)) % sm2n) % sm2n)

/-- The module's signature with its identity key (R496): user ID, message. The random number is a free value (log 5). -/
@[irreducible] def sm2Sign (id msg : List Byte) : List Byte :=
  sm2SignWith (1 + Config.privateKey % (sm2n - 2)) (1 + Config.signNonce msg % (sm2n - 1)) identityKey id msg

/-- R_A can be taken by the exchange: it lies on the curve (R447). -/
@[irreducible] def sm2PointOk (ra : List Byte) : Bool := onCurve (pointOf ra)

/-- The reduced abscissa of the exchange: the low 127 bits of x with bit 127 set. -/
def sm2Bar (x : Nat) : Nat := 2 ^ 127 + x % 2 ^ 127

/-- The responder's side of the exchange (R447), with its static key d and its ephemeral key r: from the host's static key, ID_A, R_A, the module's
public key and ID_B come R_B, S_B, the 64-byte shared key and the S_A to expect. -/
def sm2RespondWith (d r : Nat) (key idA ra own idB : List Byte) : List Byte × List Byte × List Byte × List Byte :=
  let rb := ecTimes r (some sm2G)
  let x2 := match rb with | some q => q.1 | none => 0
  let t := (d + sm2Bar x2 * r) % sm2n
  let v := ecTimes t (ecAdd (some (pointOf key)) (ecTimes (sm2Bar (pointOf ra).1) (some (pointOf ra))))
  let xv := (pointBytes v).take 32
  let yv := (pointBytes v).drop 32
  let z := sm2Z idA key ++ sm2Z idB own
  let h := sm3 (xv ++ z ++ ra.take 64 ++ pointBytes rb)
  let part (i : Nat) : List Byte := sm3 (xv ++ yv ++ z ++ bigEndian 4 i)
  (pointBytes rb, sm3 (0x02#8 :: yv ++ h), part 1 ++ part 2, sm3 (0x03#8 :: yv ++ h))

/-- The module's side, with its identity key, SERIAL as ID_B, and a random ephemeral key of a draw (R447). -/
@[irreducible] def sm2Respond (key idA ra : List Byte) (draw : Nat) : List Byte × List Byte × List Byte × List Byte :=
  sm2RespondWith (1 + Config.privateKey % (sm2n - 2)) (1 + Config.ephemeral draw % (sm2n - 1)) key idA ra identityKey
    (Config.serial.take 16 ++ List.replicate (16 - Config.serial.length) 0#8)

end Sys2Proof
end

