-- ==== Sys2Proof/Machine/Tables.lean ====
section
/-! DEFINITION. The tables of the Kebuic formats (R37) and of the vector unit (R177): each entry is the rounding
of the exact real value that the rule defines. -/

namespace Sys2Proof

/-- T16 of R37, RNE(2^(f/256) × 2³¹), entries 0 to 63. -/
def t16Table_0 : List Nat :=
  [0x80000000, 0x8058D7D3, 0x80B1ED50, 0x810B40A2, 0x8164D1F4, 0x81BEA171, 0x8218AF43, 0x8272FB98,
   0x82CD8699, 0x83285072, 0x8383594F, 0x83DEA15C, 0x843A28C4, 0x8495EFB3, 0x84F1F656, 0x854E3CD9,
   0x85AAC368, 0x86078A2F, 0x8664915C, 0x86C1D91A, 0x871F6197, 0x877D2AFF, 0x87DB3580, 0x88398147,
   0x88980E81, 0x88F6DD5B, 0x8955EE03, 0x89B540A8, 0x8A14D575, 0x8A74AC9A, 0x8AD4C645, 0x8B3522A4,
   0x8B95C1E4, 0x8BF6A435, 0x8C57C9C4, 0x8CB932C2, 0x8D1ADF5B, 0x8D7CCFC1, 0x8DDF0420, 0x8E417CA9,
   0x8EA4398B, 0x8F073AF6, 0x8F6A8118, 0x8FCE0C22, 0x9031DC43, 0x9095F1AC, 0x90FA4C8C, 0x915EED14,
   0x91C3D374, 0x9228FFDC, 0x928E727E, 0x92F42B89, 0x935A2B2F, 0x93C071A1, 0x9426FF10, 0x948DD3AD,
   0x94F4EFA9, 0x955C5337, 0x95C3FE87, 0x962BF1CC, 0x96942D37, 0x96FCB0FB, 0x97657D4A, 0x97CE9256]

/-- T16 of R37, RNE(2^(f/256) × 2³¹), entries 64 to 127. -/
def t16Table_1 : List Nat :=
  [0x9837F052, 0x98A1976F, 0x990B87E2, 0x9975C1DD, 0x99E04593, 0x9A4B1337, 0x9AB62AFD, 0x9B218D17,
   0x9B8D39BA, 0x9BF93119, 0x9C657368, 0x9CD200DC, 0x9D3ED9A7, 0x9DABFDFF, 0x9E196E19, 0x9E872A27,
   0x9EF53261, 0x9F6386F9, 0x9FD22825, 0xA041161B, 0xA0B05110, 0xA11FD938, 0xA18FAECB, 0xA1FFD1FC,
   0xA2704303, 0xA2E10215, 0xA3520F69, 0xA3C36B34, 0xA43515AE, 0xA4A70F0D, 0xA5195787, 0xA58BEF53,
   0xA5FED6AA, 0xA6720DC1, 0xA6E594D0, 0xA7596C0F, 0xA7CD93B5, 0xA8420BFA, 0xA8B6D516, 0xA92BEF42,
   0xA9A15AB5, 0xAA1717A8, 0xAA8D2653, 0xAB0386EF, 0xAB7A39B6, 0xABF13EDF, 0xAC6896A5, 0xACE04140,
   0xAD583EEA, 0xADD08FDD, 0xAE493453, 0xAEC22C85, 0xAF3B78AD, 0xAFB51907, 0xB02F0DCC, 0xB0A95736,
   0xB123F582, 0xB19EE8E9, 0xB21A31A6, 0xB295CFF6, 0xB311C413, 0xB38E0E38, 0xB40AAEA2, 0xB487A58D]

/-- T16 of R37, RNE(2^(f/256) × 2³¹), entries 128 to 191. -/
def t16Table_2 : List Nat :=
  [0xB504F334, 0xB58297D4, 0xB60093A8, 0xB67EE6EF, 0xB6FD91E3, 0xB77C94C3, 0xB7FBEFCB, 0xB87BA338,
   0xB8FBAF47, 0xB97C1437, 0xB9FCD245, 0xBA7DE9AF, 0xBAFF5AB2, 0xBB81258D, 0xBC034A7F, 0xBC85C9C5,
   0xBD08A39F, 0xBD8BD84C, 0xBE0F680A, 0xBE935318, 0xBF1799B6, 0xBF9C3C25, 0xC0213AA2, 0xC0A6956F,
   0xC12C4CCA, 0xC1B260F6, 0xC238D231, 0xC2BFA0BD, 0xC346CCDA, 0xC3CE56CA, 0xC4563ECC, 0xC4DE8524,
   0xC5672A11, 0xC5F02DD7, 0xC67990B6, 0xC70352F0, 0xC78D74C9, 0xC817F681, 0xC8A2D85D, 0xC92E1A9D,
   0xC9B9BD86, 0xCA45C15B, 0xCAD2265E, 0xCB5EECD4, 0xCBEC14FF, 0xCC799F24, 0xCD078B86, 0xCD95DA6B,
   0xCE248C15, 0xCEB3A0CA, 0xCF4318CF, 0xCFD2F468, 0xD06333DB, 0xD0F3D76C, 0xD184DF62, 0xD2164C02,
   0xD2A81D92, 0xD33A5458, 0xD3CCF09A, 0xD45FF29E, 0xD4F35AAC, 0xD587290A, 0xD61B5DFF, 0xD6AFF9D2]

/-- T16 of R37, RNE(2^(f/256) × 2³¹), entries 192 to 255. -/
def t16Table_3 : List Nat :=
  [0xD744FCCB, 0xD7DA6731, 0xD870394C, 0xD9067365, 0xD99D15C2, 0xDA3420AE, 0xDACB946F, 0xDB637150,
   0xDBFBB798, 0xDC946791, 0xDD2D8185, 0xDDC705BD, 0xDE60F482, 0xDEFB4E20, 0xDF9612DF, 0xE031430A,
   0xE0CCDEEC, 0xE168E6D0, 0xE2055B00, 0xE2A23BC8, 0xE33F8973, 0xE3DD444C, 0xE47B6CA0, 0xE51A02BB,
   0xE5B906E7, 0xE6587973, 0xE6F85AAB, 0xE798AADB, 0xE8396A50, 0xE8DA9958, 0xE97C3840, 0xEA1E4756,
   0xEAC0C6E8, 0xEB63B743, 0xEC0718B6, 0xECAAEB90, 0xED4F301F, 0xEDF3E6B2, 0xEE990F98, 0xEF3EAB21,
   0xEFE4B99C, 0xF08B3B59, 0xF13230A8, 0xF1D999D9, 0xF281773C, 0xF329C923, 0xF3D28FDE, 0xF47BCBBE,
   0xF5257D15, 0xF5CFA434, 0xF67A416C, 0xF7255511, 0xF7D0DF73, 0xF87CE0E6, 0xF92959BB, 0xF9D64A47,
   0xFA83B2DB, 0xFB3193CC, 0xFBDFED6D, 0xFC8EC011, 0xFD3E0C0D, 0xFDEDD1B5, 0xFE9E115C, 0xFF4ECB59]

/-- T16 of R37, RNE(2^(f/256) × 2³¹). -/
def t16Table : List Nat := t16Table_0 ++ t16Table_1 ++ t16Table_2 ++ t16Table_3

/-- M16 of R37, RNE(2^((f + 0.5)/256) × 2³¹), entries 0 to 63. -/
def m16Table_0 : List Nat :=
  [0x802C6437, 0x80855AD9, 0x80DE8F3C, 0x81380188, 0x8191B1EA, 0x81EBA08D, 0x8245CD9B, 0x82A03940,
   0x82FAE3A8, 0x8355CCFD, 0x83B0F56D, 0x840C5D21, 0x84680448, 0x84C3EB0C, 0x85201199, 0x857C781C,
   0x85D91EC2, 0x863605B6, 0x86932D26, 0x86F0953E, 0x874E3E2B, 0x87AC281A, 0x880A5338, 0x8868BFB2,
   0x88C76DB7, 0x89265D73, 0x89858F13, 0x89E502C6, 0x8A44B8BA, 0x8AA4B11C, 0x8B04EC1B, 0x8B6569E5,
   0x8BC62AA7, 0x8C272E92, 0x8C8875D2, 0x8CEA0098, 0x8D4BCF12, 0x8DADE16E, 0x8E1037DD, 0x8E72D28C,
   0x8ED5B1AC, 0x8F38D56D, 0x8F9C3DFD, 0x8FFFEB8D, 0x9063DE4B, 0x90C8166A, 0x912C9418, 0x91915786,
   0x91F660E4, 0x925BB063, 0x92C14633, 0x93272286, 0x938D458B, 0x93F3AF76, 0x945A6075, 0x94C158BC,
   0x9528987B, 0x95901FE3, 0x95F7EF28, 0x96600679, 0x96C8660B, 0x97310E0E, 0x9799FEB5, 0x98033833]

/-- M16 of R37, RNE(2^((f + 0.5)/256) × 2³¹), entries 64 to 127. -/
def m16Table_1 : List Nat :=
  [0x986CBAB9, 0x98D6867B, 0x99409BAC, 0x99AAFA7E, 0x9A15A324, 0x9A8095D2, 0x9AEBD2BC, 0x9B575A14,
   0x9BC32C0F, 0x9C2F48DF, 0x9C9BB0BA, 0x9D0863D3, 0x9D75625E, 0x9DE2AC91, 0x9E50429E, 0x9EBE24BB,
   0x9F2C531E, 0x9F9ACDF9, 0xA0099584, 0xA078A9F2, 0xA0E80B7A, 0xA157BA51, 0xA1C7B6AC, 0xA23800C2,
   0xA2A898C7, 0xA3197EF4, 0xA38AB37C, 0xA3FC3698, 0xA46E087D, 0xA4E02963, 0xA552997F, 0xA5C5590A,
   0xA638683A, 0xA6ABC746, 0xA71F7666, 0xA79375D1, 0xA807C5C0, 0xA87C666A, 0xA8F15807, 0xA9669ACF,
   0xA9DC2EFB, 0xAA5214C3, 0xAAC84C5F, 0xAB3ED60A, 0xABB5B1FA, 0xAC2CE06B, 0xACA46194, 0xAD1C35B0,
   0xAD945CF7, 0xAE0CD7A4, 0xAE85A5F1, 0xAEFEC817, 0xAF783E50, 0xAFF208D8, 0xB06C27E9, 0xB0E69BBC,
   0xB161648E, 0xB1DC8299, 0xB257F618, 0xB2D3BF47, 0xB34FDE61, 0xB3CC53A1, 0xB4491F44, 0xB4C64185]

/-- M16 of R37, RNE(2^((f + 0.5)/256) × 2³¹), entries 128 to 191. -/
def m16Table_2 : List Nat :=
  [0xB543BAA1, 0xB5C18AD4, 0xB63FB25A, 0xB6BE316F, 0xB73D0852, 0xB7BC373E, 0xB83BBE71, 0xB8BB9E27,
   0xB93BD69F, 0xB9BC6817, 0xBA3D52CB, 0xBABE96F9, 0xBB4034E1, 0xBBC22CBF, 0xBC447ED4, 0xBCC72B5C,
   0xBD4A3297, 0xBDCD94C4, 0xBE515223, 0xBED56AF1, 0xBF59DF70, 0xBFDEAFDD, 0xC063DC7A, 0xC0E96587,
   0xC16F4B42, 0xC1F58DED, 0xC27C2DC9, 0xC3032B15, 0xC38A8614, 0xC4123F04, 0xC49A5629, 0xC522CBC4,
   0xC5ABA015, 0xC634D35F, 0xC6BE65E3, 0xC74857E5, 0xC7D2A9A5, 0xC85D5B66, 0xC8E86D6C, 0xC973DFF9,
   0xC9FFB34F, 0xCA8BE7B3, 0xCB187D66, 0xCBA574AE, 0xCC32CDCE, 0xCCC08909, 0xCD4EA6A4, 0xCDDD26E3,
   0xCE6C0A0A, 0xCEFB505E, 0xCF8AFA25, 0xD01B07A2, 0xD0AB791C, 0xD13C4ED6, 0xD1CD8919, 0xD25F2828,
   0xD2F12C4A, 0xD38395C5, 0xD41664DF, 0xD4A999DF, 0xD53D350C, 0xD5D136AD, 0xD6659F08, 0xD6FA6E65]

/-- M16 of R37, RNE(2^((f + 0.5)/256) × 2³¹), entries 192 to 255. -/
def m16Table_3 : List Nat :=
  [0xD78FA50C, 0xD8254344, 0xD8BB4954, 0xD951B786, 0xD9E88E22, 0xDA7FCD6F, 0xDB1775B7, 0xDBAF8742,
   0xDC48025A, 0xDCE0E747, 0xDD7A3654, 0xDE13EFC9, 0xDEAE13F1, 0xDF48A316, 0xDFE39D82, 0xE07F0380,
   0xE11AD559, 0xE1B7135A, 0xE253BDCC, 0xE2F0D4FC, 0xE38E5935, 0xE42C4AC2, 0xE4CAA9F0, 0xE569770A,
   0xE608B25D, 0xE6A85C35, 0xE74874DF, 0xE7E8FCA8, 0xE889F3DD, 0xE92B5ACB, 0xE9CD31C1, 0xEA6F790B,
   0xEB1230F7, 0xEBB559D5, 0xEC58F3F1, 0xECFCFF9C, 0xEDA17D23, 0xEE466CD6, 0xEEEBCF03, 0xEF91A3FB,
   0xF037EC0D, 0xF0DEA789, 0xF185D6BF, 0xF22D79FF, 0xF2D5919A, 0xF37E1DE1, 0xF4271F25, 0xF4D095B6,
   0xF57A81E6, 0xF624E408, 0xF6CFBC6C, 0xF77B0B65, 0xF826D145, 0xF8D30E5F, 0xF97FC305, 0xFA2CEF8B,
   0xFADA9443, 0xFB88B181, 0xFC374799, 0xFCE656DF, 0xFD95DFA6, 0xFE45E243, 0xFEF65F0B, 0xFFA75652]

/-- M16 of R37, RNE(2^((f + 0.5)/256) × 2³¹). -/
def m16Table : List Nat := m16Table_0 ++ m16Table_1 ++ m16Table_2 ++ m16Table_3

/-- RC of R177 as binary32 codes, entries 0 to 63. -/
def rcTable_0 : List Nat :=
  [0x3F7F8040, 0x3F7E823D, 0x3F7D8631, 0x3F7C8C16, 0x3F7B93E6, 0x3F7A9D9D, 0x3F79A934, 0x3F78B6A6,
   0x3F77C5EE, 0x3F76D705, 0x3F75E9E8, 0x3F74FE91, 0x3F7414FA, 0x3F732D1F, 0x3F7246FB, 0x3F716289,
   0x3F707FC4, 0x3F6F9EA8, 0x3F6EBF2F, 0x3F6DE156, 0x3F6D0518, 0x3F6C2A70, 0x3F6B515A, 0x3F6A79D1,
   0x3F69A3D2, 0x3F68CF59, 0x3F67FC60, 0x3F672AE4, 0x3F665AE2, 0x3F658C54, 0x3F64BF38, 0x3F63F389,
   0x3F632943, 0x3F626063, 0x3F6198E5, 0x3F60D2C6, 0x3F600E01, 0x3F5F4A93, 0x3F5E887A, 0x3F5DC7B0,
   0x3F5D0834, 0x3F5C4A01, 0x3F5B8D14, 0x3F5AD16A, 0x3F5A1700, 0x3F595DD3, 0x3F58A5DF, 0x3F57EF21,
   0x3F573997, 0x3F56853D, 0x3F55D210, 0x3F55200D, 0x3F546F32, 0x3F53BF7C, 0x3F5310E7, 0x3F526371,
   0x3F51B717, 0x3F510BD7, 0x3F5061AE, 0x3F4FB899, 0x3F4F1095, 0x3F4E69A0, 0x3F4DC3B8, 0x3F4D1ED9]

/-- RC of R177 as binary32 codes, entries 64 to 127. -/
def rcTable_1 : List Nat :=
  [0x3F4C7B02, 0x3F4BD830, 0x3F4B3660, 0x3F4A9590, 0x3F49F5BF, 0x3F4956E8, 0x3F48B90B, 0x3F481C24,
   0x3F478032, 0x3F46E532, 0x3F464B22, 0x3F45B201, 0x3F4519CB, 0x3F44827F, 0x3F43EC1A, 0x3F43569B,
   0x3F42C1FF, 0x3F422E45, 0x3F419B6A, 0x3F41096D, 0x3F40784B, 0x3F3FE803, 0x3F3F5892, 0x3F3EC9F8,
   0x3F3E3C31, 0x3F3DAF3C, 0x3F3D2318, 0x3F3C97C2, 0x3F3C0D39, 0x3F3B837B, 0x3F3AFA86, 0x3F3A7258,
   0x3F39EAF0, 0x3F39644D, 0x3F38DE6C, 0x3F38594B, 0x3F37D4EA, 0x3F375147, 0x3F36CE5F, 0x3F364C32,
   0x3F35CABE, 0x3F354A01, 0x3F34C9FA, 0x3F344AA7, 0x3F33CC07, 0x3F334E19, 0x3F32D0DA, 0x3F32544A,
   0x3F31D867, 0x3F315D2F, 0x3F30E2A2, 0x3F3068BE, 0x3F2FEF82, 0x3F2F76EB, 0x3F2EFEFA, 0x3F2E87AB,
   0x3F2E1100, 0x3F2D9AF5, 0x3F2D258A, 0x3F2CB0BD, 0x3F2C3C8D, 0x3F2BC8FA, 0x3F2B5601, 0x3F2AE3A1]

/-- RC of R177 as binary32 codes, entries 128 to 191. -/
def rcTable_2 : List Nat :=
  [0x3F2A71DA, 0x3F2A00AA, 0x3F299010, 0x3F29200B, 0x3F28B099, 0x3F2841BA, 0x3F27D36C, 0x3F2765AE,
   0x3F26F880, 0x3F268BDF, 0x3F261FCC, 0x3F25B445, 0x3F254948, 0x3F24DED5, 0x3F2474EB, 0x3F240B89,
   0x3F23A2AD, 0x3F233A57, 0x3F22D286, 0x3F226B39, 0x3F22046E, 0x3F219E25, 0x3F21385D, 0x3F20D315,
   0x3F206E4C, 0x3F200A01, 0x3F1FA633, 0x3F1F42E1, 0x3F1EE00A, 0x3F1E7DAE, 0x3F1E1BCB, 0x3F1DBA61,
   0x3F1D596E, 0x3F1CF8F3, 0x3F1C98ED, 0x3F1C395D, 0x3F1BDA41, 0x3F1B7B99, 0x3F1B1D63, 0x3F1ABF9F,
   0x3F1A624D, 0x3F1A056A, 0x3F19A8F7, 0x3F194CF3, 0x3F18F15D, 0x3F189634, 0x3F183B77, 0x3F17E126,
   0x3F178740, 0x3F172DC4, 0x3F16D4B2, 0x3F167C08, 0x3F1623C7, 0x3F15CBEC, 0x3F157478, 0x3F151D6A,
   0x3F14C6C2, 0x3F14707D, 0x3F141A9D, 0x3F13C51F, 0x3F137005, 0x3F131B4C, 0x3F12C6F4, 0x3F1272FC]

/-- RC of R177 as binary32 codes, entries 192 to 255. -/
def rcTable_3 : List Nat :=
  [0x3F121F65, 0x3F11CC2C, 0x3F117953, 0x3F1126D7, 0x3F10D4B8, 0x3F1082F7, 0x3F103191, 0x3F0FE087,
   0x3F0F8FD8, 0x3F0F3F83, 0x3F0EEF87, 0x3F0E9FE5, 0x3F0E509C, 0x3F0E01AA, 0x3F0DB310, 0x3F0D64CC,
   0x3F0D16DF, 0x3F0CC948, 0x3F0C7C05, 0x3F0C2F18, 0x3F0BE27E, 0x3F0B9638, 0x3F0B4A45, 0x3F0AFEA5,
   0x3F0AB356, 0x3F0A6859, 0x3F0A1DAC, 0x3F09D350, 0x3F098944, 0x3F093F88, 0x3F08F61A, 0x3F08ACFB,
   0x3F08642A, 0x3F081BA6, 0x3F07D36F, 0x3F078B84, 0x3F0743E6, 0x3F06FC93, 0x3F06B58B, 0x3F066ECD,
   0x3F06285A, 0x3F05E231, 0x3F059C50, 0x3F0556B9, 0x3F05116A, 0x3F04CC63, 0x3F0487A3, 0x3F04432A,
   0x3F03FEF8, 0x3F03BB0C, 0x3F037766, 0x3F033405, 0x3F02F0E9, 0x3F02AE12, 0x3F026B7F, 0x3F02292F,
   0x3F01E723, 0x3F01A559, 0x3F0163D3, 0x3F01228E, 0x3F00E18B, 0x3F00A0C9, 0x3F006048, 0x3F002008]

/-- RC of R177 as binary32 codes. -/
def rcTable : List Nat := rcTable_0 ++ rcTable_1 ++ rcTable_2 ++ rcTable_3

/-- LG of R177 as binary32 codes, entries 0 to 63. -/
def lgTable_0 : List Nat :=
  [0x3AFFBFD5, 0x3BBF7062, 0x3C1F392C, 0x3C5E7B76, 0x3C8EBFCE, 0x3CAE22D7, 0x3CCD6740, 0x3CEC8D38,
   0x3D05CA75, 0x3D153F66, 0x3D24A566, 0x3D33FC9F, 0x3D43453E, 0x3D527F4E, 0x3D61AAEB, 0x3D70C834,
   0x3D7FD746, 0x3D876C19, 0x3D8EE594, 0x3D965814, 0x3D9DC3A9, 0x3DA52867, 0x3DAC8655, 0x3DB3DD86,
   0x3DBB2DFC, 0x3DC277C2, 0x3DC9BAF3, 0x3DD0F793, 0x3DD82DA4, 0x3DDF5D43, 0x3DE6866D, 0x3DEDA935,
   0x3DF4C5AA, 0x3DFBDBD0, 0x3E0175DB, 0x3E04FAAF, 0x3E087C71, 0x3E0BFB25, 0x3E0F76C7, 0x3E12EF6A,
   0x3E166507, 0x3E19D7AB, 0x3E1D475A, 0x3E20B418, 0x3E241DE8, 0x3E2784D0, 0x3E2AE8D7, 0x3E2E4A02,
   0x3E31A851, 0x3E3503CD, 0x3E385C7C, 0x3E3BB262, 0x3E3F0580, 0x3E4255DA, 0x3E45A37B, 0x3E48EE64,
   0x3E4C369B, 0x3E4F7C1F, 0x3E52BEF8, 0x3E55FF2B, 0x3E593CBF, 0x3E5C77B4, 0x3E5FB00C, 0x3E62E5D3]

/-- LG of R177 as binary32 codes, entries 64 to 127. -/
def lgTable_1 : List Nat :=
  [0x3E661906, 0x3E6949AB, 0x3E6C77C9, 0x3E6FA363, 0x3E72CC74, 0x3E75F310, 0x3E79172D, 0x3E7C38D9,
   0x3E7F5811, 0x3E813A6E, 0x3E82C79F, 0x3E84539B, 0x3E85DE67, 0x3E876802, 0x3E88F071, 0x3E8A77B4,
   0x3E8BFDCD, 0x3E8D82BD, 0x3E8F0687, 0x3E90892B, 0x3E920AAD, 0x3E938B0D, 0x3E950A4E, 0x3E96886F,
   0x3E980576, 0x3E998162, 0x3E9AFC33, 0x3E9C75EE, 0x3E9DEE92, 0x3E9F6622, 0x3EA0DCA0, 0x3EA2520E,
   0x3EA3C66C, 0x3EA539B9, 0x3EA6ABFB, 0x3EA81D35, 0x3EA98D62, 0x3EAAFC87, 0x3EAC6AA8, 0x3EADD7C2,
   0x3EAF43D8, 0x3EB0AEED, 0x3EB21901, 0x3EB38216, 0x3EB4EA2D, 0x3EB65145, 0x3EB7B765, 0x3EB91C8A,
   0x3EBA80B7, 0x3EBBE3EE, 0x3EBD462D, 0x3EBEA778, 0x3EC007CE, 0x3EC16736, 0x3EC2C5AA, 0x3EC42334,
   0x3EC57FCA, 0x3EC6DB76, 0x3EC83636, 0x3EC9900D, 0x3ECAE8FB, 0x3ECC40FF, 0x3ECD981E, 0x3ECEEE59]

/-- LG of R177 as binary32 codes, entries 128 to 191. -/
def lgTable_2 : List Nat :=
  [0x3ED043AE, 0x3ED19820, 0x3ED2EBB0, 0x3ED43E5F, 0x3ED59031, 0x3ED6E122, 0x3ED83138, 0x3ED98072,
   0x3EDACECF, 0x3EDC1C55, 0x3EDD6900, 0x3EDEB4D2, 0x3EDFFFD1, 0x3EE149F9, 0x3EE2934D, 0x3EE3DBCC,
   0x3EE5237C, 0x3EE66A59, 0x3EE7B065, 0x3EE8F5A2, 0x3EEA3A12, 0x3EEB7DB5, 0x3EECC08C, 0x3EEE0296,
   0x3EEF43D7, 0x3EF0844F, 0x3EF1C3FE, 0x3EF302E8, 0x3EF4410C, 0x3EF57E68, 0x3EF6BB02, 0x3EF7F6D8,
   0x3EF931EE, 0x3EFA6C3E, 0x3EFBA5D2, 0x3EFCDEA3, 0x3EFE16B7, 0x3EFF4E0B, 0x3F004253, 0x3F00DD42,
   0x3F0177D1, 0x3F021206, 0x3F02ABDD, 0x3F034558, 0x3F03DE77, 0x3F04773A, 0x3F050FA4, 0x3F05A7B2,
   0x3F063F66, 0x3F06D6C1, 0x3F076DC2, 0x3F08046A, 0x3F089AB9, 0x3F0930B2, 0x3F09C652, 0x3F0A5B9B,
   0x3F0AF08C, 0x3F0B8529, 0x3F0C196E, 0x3F0CAD5F, 0x3F0D40F8, 0x3F0DD43D, 0x3F0E672E, 0x3F0EF9CC]

/-- LG of R177 as binary32 codes, entries 192 to 255. -/
def lgTable_3 : List Nat :=
  [0x3F0F8C15, 0x3F101E0C, 0x3F10AFAD, 0x3F1140FD, 0x3F11D1FC, 0x3F1262A7, 0x3F12F301, 0x3F13830A,
   0x3F1412C2, 0x3F14A22A, 0x3F153142, 0x3F15C00A, 0x3F164E81, 0x3F16DCAB, 0x3F176A85, 0x3F17F812,
   0x3F18854F, 0x3F19123E, 0x3F199EE2, 0x3F1A2B37, 0x3F1AB740, 0x3F1B42FC, 0x3F1BCE6C, 0x3F1C5990,
   0x3F1CE469, 0x3F1D6EF7, 0x3F1DF93B, 0x3F1E8334, 0x3F1F0CE2, 0x3F1F9645, 0x3F201F61, 0x3F20A832,
   0x3F2130BA, 0x3F21B8FA, 0x3F2240F1, 0x3F22C8A1, 0x3F235008, 0x3F23D728, 0x3F245E02, 0x3F24E495,
   0x3F256AE0, 0x3F25F0E4, 0x3F2676A5, 0x3F26FC1E, 0x3F278151, 0x3F280640, 0x3F288AEA, 0x3F290F50,
   0x3F299371, 0x3F2A174E, 0x3F2A9AE7, 0x3F2B1E3D, 0x3F2BA150, 0x3F2C241F, 0x3F2CA6AB, 0x3F2D28F6,
   0x3F2DAAFE, 0x3F2E2CC5, 0x3F2EAE48, 0x3F2F2F8C, 0x3F2FB08E, 0x3F30314F, 0x3F30B1D0, 0x3F313210]

/-- LG of R177 as binary32 codes. -/
def lgTable : List Nat := lgTable_0 ++ lgTable_1 ++ lgTable_2 ++ lgTable_3

/-- RS of R177 as binary32 codes, entries 0 to 63. -/
def rsTable_0 : List Nat :=
  [0x3F7F8060, 0x3F7E8358, 0x3F7D893A, 0x3F7C91F7, 0x3F7B9D83, 0x3F7AABCF, 0x3F79BCCF, 0x3F78D075,
   0x3F77E6B5, 0x3F76FF83, 0x3F761AD3, 0x3F75389A, 0x3F7458CD, 0x3F737B60, 0x3F72A048, 0x3F71C77C,
   0x3F70F0F1, 0x3F701C9D, 0x3F6F4A77, 0x3F6E7A74, 0x3F6DAC8D, 0x3F6CE0B7, 0x3F6C16EA, 0x3F6B4F1E,
   0x3F6A8949, 0x3F69C565, 0x3F690368, 0x3F68434A, 0x3F678505, 0x3F66C891, 0x3F660DE5, 0x3F6554FC,
   0x3F649DCE, 0x3F63E854, 0x3F633488, 0x3F628263, 0x3F61D1DE, 0x3F6122F3, 0x3F60759C, 0x3F5FC9D4,
   0x3F5F1F93, 0x3F5E76D5, 0x3F5DCF93, 0x3F5D29C8, 0x3F5C856F, 0x3F5BE282, 0x3F5B40FD, 0x3F5AA0D9,
   0x3F5A0212, 0x3F5964A3, 0x3F58C887, 0x3F582DBA, 0x3F579436, 0x3F56FBF8, 0x3F5664FA, 0x3F55CF39,
   0x3F553AB0, 0x3F54A75A, 0x3F541535, 0x3F53843B, 0x3F52F469, 0x3F5265BB, 0x3F51D82D, 0x3F514BBB]

/-- RS of R177 as binary32 codes, entries 64 to 127. -/
def rsTable_1 : List Nat :=
  [0x3F50C062, 0x3F50361D, 0x3F4FACEA, 0x3F4F24C5, 0x3F4E9DAA, 0x3F4E1796, 0x3F4D9285, 0x3F4D0E76,
   0x3F4C8B63, 0x3F4C094B, 0x3F4B8829, 0x3F4B07FC, 0x3F4A88BF, 0x3F4A0A71, 0x3F498D0D, 0x3F491092,
   0x3F4894FD, 0x3F481A4A, 0x3F47A078, 0x3F472783, 0x3F46AF68, 0x3F463826, 0x3F45C1BA, 0x3F454C21,
   0x3F44D759, 0x3F44635F, 0x3F43F031, 0x3F437DCD, 0x3F430C31, 0x3F429B59, 0x3F422B45, 0x3F41BBF1,
   0x3F414D5C, 0x3F40DF84, 0x3F407266, 0x3F400600, 0x3F3F9A51, 0x3F3F2F56, 0x3F3EC50E, 0x3F3E5B76,
   0x3F3DF28C, 0x3F3D8A4F, 0x3F3D22BE, 0x3F3CBBD5, 0x3F3C5593, 0x3F3BEFF7, 0x3F3B8AFF, 0x3F3B26A9,
   0x3F3AC2F3, 0x3F3A5FDC, 0x3F39FD62, 0x3F399B84, 0x3F393A3F, 0x3F38D993, 0x3F38797D, 0x3F3819FD,
   0x3F37BB10, 0x3F375CB5, 0x3F36FEEC, 0x3F36A1B1, 0x3F364505, 0x3F35E8E5, 0x3F358D50, 0x3F353245]

/-- RS of R177 as binary32 codes, entries 128 to 191. -/
def rsTable_2 : List Nat :=
  [0x3F34AAB4, 0x3F33F7C9, 0x3F3346ED, 0x3F329816, 0x3F31EB3B, 0x3F314052, 0x3F309752, 0x3F2FF032,
   0x3F2F4AE9, 0x3F2EA76E, 0x3F2E05BA, 0x3F2D65C3, 0x3F2CC782, 0x3F2C2AF0, 0x3F2B9004, 0x3F2AF6B7,
   0x3F2A5F03, 0x3F29C8E0, 0x3F293446, 0x3F28A131, 0x3F280F98, 0x3F277F76, 0x3F26F0C4, 0x3F26637D,
   0x3F25D79A, 0x3F254D15, 0x3F24C3EA, 0x3F243C11, 0x3F23B587, 0x3F233045, 0x3F22AC46, 0x3F222985,
   0x3F21A7FE, 0x3F2127AC, 0x3F20A889, 0x3F202A91, 0x3F1FADC0, 0x3F1F3210, 0x3F1EB77F, 0x3F1E3E06,
   0x3F1DC5A3, 0x3F1D4E52, 0x3F1CD80D, 0x3F1C62D1, 0x3F1BEE9B, 0x3F1B7B67, 0x3F1B0930, 0x3F1A97F3,
   0x3F1A27AE, 0x3F19B85B, 0x3F1949F8, 0x3F18DC82, 0x3F186FF5, 0x3F18044E, 0x3F17998A, 0x3F172FA5,
   0x3F16C69E, 0x3F165E70, 0x3F15F718, 0x3F159095, 0x3F152AE3, 0x3F14C5FF, 0x3F1461E7, 0x3F13FE97]

/-- RS of R177 as binary32 codes, entries 192 to 255. -/
def rsTable_3 : List Nat :=
  [0x3F139C0E, 0x3F133A49, 0x3F12D945, 0x3F127900, 0x3F121978, 0x3F11BAA9, 0x3F115C92, 0x3F10FF30,
   0x3F10A281, 0x3F104684, 0x3F0FEB35, 0x3F0F9092, 0x3F0F369A, 0x3F0EDD4A, 0x3F0E84A0, 0x3F0E2C9B,
   0x3F0DD538, 0x3F0D7E75, 0x3F0D2851, 0x3F0CD2C9, 0x3F0C7DDC, 0x3F0C2988, 0x3F0BD5CB, 0x3F0B82A4,
   0x3F0B3010, 0x3F0ADE0E, 0x3F0A8C9D, 0x3F0A3BBA, 0x3F09EB64, 0x3F099B9A, 0x3F094C59, 0x3F08FDA1,
   0x3F08AF6F, 0x3F0861C3, 0x3F08149B, 0x3F07C7F5, 0x3F077BD0, 0x3F07302A, 0x3F06E503, 0x3F069A58,
   0x3F065029, 0x3F060674, 0x3F05BD38, 0x3F057474, 0x3F052C25, 0x3F04E44C, 0x3F049CE7, 0x3F0455F4,
   0x3F040F72, 0x3F03C961, 0x3F0383BF, 0x3F033E8B, 0x3F02F9C3, 0x3F02B568, 0x3F027176, 0x3F022DEF,
   0x3F01EAD0, 0x3F01A818, 0x3F0165C6, 0x3F0123DA, 0x3F00E253, 0x3F00A12E, 0x3F00606D, 0x3F00200C]

/-- RS of R177 as binary32 codes. -/
def rsTable : List Nat := rsTable_0 ++ rsTable_1 ++ rsTable_2 ++ rsTable_3

/-- T16[f] (R37). -/
def t16 (f : Nat) : Nat := t16Table.getD f 0

/-- M16[f] (R37). -/
def m16 (f : Nat) : Nat := m16Table.getD f 0

/-- C_L2E = RNE32(256/ln 2) (R177). -/
def cL2E : F32 := 0x43B8AA3B#32

/-- C_H = RNE32(ln 2/256) (R177). -/
def cH : F32 := 0x3B317218#32

/-- C_L = RNE32(ln 2/256 − C_H) (R177). -/
def cL : F32 := 0xAD02E308#32

/-- C_LN2 = RNE32(ln 2) (R177). -/
def cLn2 : F32 := 0x3F317218#32

/-- P3 = RNE32(1/6) (R177). -/
def cP3 : F32 := 0x3E2AAAAB#32

/-- Q3 = RNE32(1/3) (R177). -/
def cQ3 : F32 := 0x3EAAAAAB#32

/-- C_G1 = RNE32(0.044715) (R177). -/
def cG1 : F32 := 0x3D372713#32

/-- C_G2 = RNE32(2√(2/π)) (R177). -/
def cG2 : F32 := 0x3FCC422A#32

end Sys2Proof
end

