-- ==== Sys2Proof/Machine/Number.lean ====
section
/-! DEFINITION. Exact values and the number formats: the Kebuic formats (R30 to R54), the linear formats (R41 to R44),
A48 (R114 to R117), the split of R60, and the product of two codes (R110 to R113). -/

namespace Sys2Proof

/-- An exact value: NaN, a signed Inf, or (−1)^neg × m × 2^e (m = 0 is the zero of that sign). -/
inductive Val where
  | nan
  | inf (neg : Bool)
  | fin (neg : Bool) (m : Nat) (e : Int)
  deriving DecidableEq, Repr

/-- The mode of R56. -/
inductive Mode where
  | strict
  | saturate
  deriving DecidableEq, Repr

/-! ## Exact arithmetic -/

/-- m × 2^sh rounded to the nearest integer, a tie to the even integer. -/
def rneShift (m : Nat) (sh : Int) : Nat :=
  if 0 ≤ sh then m * 2 ^ sh.toNat
  else
    let d := 2 ^ (-sh).toNat
    let q := m / d
    let r := m % d
    if d < 2 * r ∨ (2 * r = d ∧ q % 2 = 1) then q + 1 else q

/-- floor(log2 (m × 2^e)) for m > 0. -/
def expOf (m : Nat) (e : Int) : Int := (m.log2 : Int) + e

/-- The value of a signed integer times 2^e; an exact zero is +0. -/
def Val.ofInt (z : Int) (e : Int) : Val := .fin (decide (z < 0)) z.natAbs e

/-- The exact sum of R117 and of IEEE 754: NaN wins, +Inf + −Inf is NaN, an exact zero is +0 except (−0) + (−0). -/
def Val.add : Val → Val → Val
  | .nan, _ => .nan
  | _, .nan => .nan
  | .inf a, .inf b => if a = b then .inf a else .nan
  | .inf a, .fin _ _ _ => .inf a
  | .fin _ _ _, .inf b => .inf b
  | .fin s m e, .fin t n f =>
    if m = 0 ∧ n = 0 then .fin (s && t) 0 0
    else
      let lo := min e f
      let x : Int := (m * 2 ^ (e - lo).toNat : Nat)
      let y : Int := (n * 2 ^ (f - lo).toNat : Nat)
      Val.ofInt ((if s then -x else x) + (if t then -y else y)) lo

/-- The exact product: NaN wins, Inf × 0 is NaN, the sign is the XOR of the signs. -/
def Val.mul : Val → Val → Val
  | .nan, _ => .nan
  | _, .nan => .nan
  | .inf a, .inf b => .inf (a != b)
  | .inf a, .fin t n _ => if n = 0 then .nan else .inf (a != t)
  | .fin s m _, .inf b => if m = 0 then .nan else .inf (s != b)
  | .fin s m e, .fin t n f => .fin (s != t) (m * n) (e + f)

/-- The negation of a value. -/
def Val.neg : Val → Val
  | .nan => .nan
  | .inf s => .inf (!s)
  | .fin s m e => .fin (!s) m e

/-- The value times 2^k. -/
def Val.scale (k : Int) : Val → Val
  | .fin s m e => .fin s m (e + k)
  | v => v

def Val.isNan : Val → Bool
  | .nan => true
  | _ => false

def Val.isInf : Val → Bool
  | .inf _ => true
  | _ => false

/-- NaN or an Inf. -/
def Val.special : Val → Bool
  | .fin _ _ _ => false
  | _ => true

/-- Finite and nonzero. -/
def Val.finNonzero : Val → Bool
  | .fin _ m _ => m != 0
  | _ => false

/-! ## Binary formats -/

/-- An IEEE-style binary format by its field widths. -/
structure Fmt where
  expBits : Nat
  fracBits : Nat
  deriving DecidableEq, Repr

def Fmt.bf16 : Fmt := { expBits := 8, fracBits := 7 }
def Fmt.half : Fmt := { expBits := 5, fracBits := 10 }
def Fmt.single : Fmt := { expBits := 8, fracBits := 23 }
def Fmt.e5m2 : Fmt := { expBits := 5, fracBits := 2 }

def Fmt.bias (f : Fmt) : Nat := 2 ^ (f.expBits - 1) - 1

/-- The code of +Inf. -/
def Fmt.infCode (f : Fmt) : Nat := (2 ^ f.expBits - 1) * 2 ^ f.fracBits

/-- The code of the quiet NaN with the sign bit clear (R54). -/
def Fmt.nanCode (f : Fmt) : Nat := f.infCode + 2 ^ (f.fracBits - 1)

/-- The weight of the sign bit. -/
def Fmt.signBit (f : Fmt) : Nat := 2 ^ (f.expBits + f.fracBits)

/-- The value of a code of the format, subnormals included (R42, R44). -/
def Fmt.decode (f : Fmt) (code : Nat) : Val :=
  let s := code / f.signBit % 2 == 1
  let ex := code / 2 ^ f.fracBits % 2 ^ f.expBits
  let fr := code % 2 ^ f.fracBits
  if ex = 2 ^ f.expBits - 1 then (if fr = 0 then .inf s else .nan)
  else if ex = 0 then .fin s fr (1 - (f.bias : Int) - (f.fracBits : Int))
  else .fin s (2 ^ f.fracBits + fr) ((ex : Int) - (f.bias : Int) - (f.fracBits : Int))

/-- R54: the value rounded to the format with round-to-nearest-even, subnormals produced, and whether it overflowed. -/
def Fmt.encode (f : Fmt) (mode : Mode) : Val → Nat × Bool
  | .nan => (f.nanCode, false)
  | .inf s => ((if s then f.signBit else 0) + f.infCode, false)
  | .fin s m e =>
    let sg := if s then f.signBit else 0
    if m = 0 then (sg, false)
    else
      let emin : Int := 1 - (f.bias : Int)
      let ex := max (expOf m e) emin
      let n := rneShift m (e - (ex - (f.fracBits : Int)))
      let mag := (ex - emin).toNat * 2 ^ f.fracBits + n
      if f.infCode ≤ mag then
        (sg + (match mode with | .strict => f.infCode | .saturate => f.infCode - 1), true)
      else (sg + mag, false)

/-- E4M3 of R43. -/
def e4m3Decode (code : Nat) : Val :=
  let s := code / 128 % 2 == 1
  let ex := code / 8 % 16
  let fr := code % 8
  if ex = 15 ∧ fr = 7 then .nan
  else if ex = 0 then .fin s fr (-9)
  else .fin s (8 + fr) ((ex : Int) - 10)

/-- The value of a binary32 code. -/
def F32.val (x : F32) : Val := Fmt.single.decode x.toNat

/-- RNE32 of R175. -/
def F32.round (v : Val) : F32 := BitVec.ofNat 32 (Fmt.single.encode .strict v).1

/-- A rational rounded once to binary32 (R186): 29 or more bits of its quotient and a sticky bit decide the rounding. -/
def F32.ofRat (q : Rat) : F32 :=
  let sh := q.den.log2 + 30
  let m := q.num.natAbs * 2 ^ sh
  F32.round (.fin (decide (q < 0)) (2 * (m / q.den) + (if m % q.den = 0 then 0 else 1)) (-((sh : Int) + 1)))

/-! ## Kebuic codes -/

/-- The sign of a 16-bit code. -/
def Kb16.sign (c : Kb16) : Bool := c.getLsbD 15

/-- The log L of a KB16 code, in units of 1/256 (R30). -/
def Kb16.log (c : Kb16) : Int := (c.truncate 15).toInt

def Kb16.isZero (c : Kb16) : Bool := c == 0x4000#16
def Kb16.isNan (c : Kb16) : Bool := c == 0xC000#16
def Kb16.isInf (c : Kb16) : Bool := c == 0x3FFF#16 || c == 0xBFFF#16

/-- The code of sign s and log L, for L in the finite range. -/
def Kb16.mk (s : Bool) (l : Int) : Kb16 := BitVec.ofNat 16 ((if s then 32768 else 0) + (l % 32768).toNat)

/-- lin of a KB16 code (R40). -/
def Kb16.lin (c : Kb16) : Val :=
  if c.isNan then .nan
  else if c.isZero then .fin false 0 0
  else if c.isInf then .inf c.sign
  else .fin c.sign (t16 (c.log % 256).toNat) (c.log / 256 - 31)

def Kb8.sign (c : Kb8) : Bool := c.getLsbD 7

/-- The log L of a KB8 code, in units of 1/8 (R32). -/
def Kb8.log (c : Kb8) : Int := (c.truncate 7).toInt

def Kb8.isZero (c : Kb8) : Bool := c == 0x40#8
def Kb8.isNan (c : Kb8) : Bool := c == 0xC0#8

def Kb8.mk (s : Bool) (l : Int) : Kb8 := BitVec.ofNat 8 ((if s then 128 else 0) + (l % 128).toNat)

/-- lin of a KB8 code with block scale b (R40). -/
def Kb8.lin (c : Kb8) (b : Int) : Val :=
  if c.isNan then .nan
  else if c.isZero then .fin false 0 0
  else .fin c.sign (t16 (32 * (c.log % 8).toNat)) (c.log / 8 + b - 31)

/-- Whether the table entry t lies below, on or above the significand S = m × 2^(31 − log2 m) of m:
S < t, S = t or t < S. -/
def cmpSig (t m : Nat) : Ordering :=
  let k := m.log2
  if k ≤ 31 then compare (m * 2 ^ (31 - k)) t else compare m (t * 2 ^ (k - 31))

/-- The number of entries of `tab` below the significand of m, a tie going to the even count (R45, R48). -/
def roundIndex (tab : List Nat) (m : Nat) : Nat :=
  let k := (tab.filter (fun t => cmpSig t m == .gt)).length
  match tab[k]? with
  | some t => if cmpSig t m == .eq && k % 2 == 1 then k + 1 else k
  | none => k

/-- The KB16 code of sign s and rounded log l, under R46 and R47, with the overflow flag. -/
def kb16Finish (s : Bool) (l : Int) (mode : Mode) : Kb16 × Bool :=
  if 16383 ≤ l then (Kb16.mk s (match mode with | .strict => 16383 | .saturate => 16382), true)
  else if l ≤ -16384 then (0x4000#16, false)
  else (Kb16.mk s l, false)

/-- R45: a value to KB16, with the overflow flag. -/
def kb16From (v : Val) (mode : Mode) : Kb16 × Bool :=
  match v with
  | .nan => (0xC000#16, false)
  | .inf s => (Kb16.mk s 16383, false)
  | .fin s m e =>
    if m = 0 then (0x4000#16, false)
    else kb16Finish s (256 * expOf m e + (roundIndex m16Table m : Int)) mode

/-- The midpoints of R48. -/
def kb8Mids : List Nat := (List.range 8).map (fun g => t16 (32 * g + 16))

/-- The KB8 code of sign s and rounded log l, under R49, with the overflow flag. -/
def kb8Finish (s : Bool) (l : Int) : Kb8 × Bool :=
  if 64 ≤ l then (Kb8.mk s 63, true)
  else if l ≤ -64 then (0x40#8, false)
  else (Kb8.mk s l, false)

/-- R48: a value to KB8 with block scale b, with the overflow flag (the input flag of an Inf is the caller's, R57). -/
def kb8From (v : Val) (b : Int) : Kb8 × Bool :=
  match v with
  | .nan => (0xC0#8, false)
  | .inf s => (Kb8.mk s 63, false)
  | .fin s m e =>
    if m = 0 then (0x40#8, false)
    else kb8Finish s (8 * (expOf m e - b) + (roundIndex kb8Mids m : Int))

/-- R52: KB8 with block scale b to KB16. -/
def kb8ToKb16 (c : Kb8) (b : Int) (mode : Mode) : Kb16 × Bool :=
  if c.isNan then (0xC000#16, false)
  else if c.isZero then (0x4000#16, false)
  else kb16Finish c.sign (32 * c.log + 256 * b) mode

/-- R53: KB16 to KB8 with block scale b. -/
def kb16ToKb8 (c : Kb16) (b : Int) : Kb8 × Bool :=
  if c.isNan then (0xC0#8, false)
  else if c.isZero then (0x40#8, false)
  else if c.isInf then (Kb8.mk c.sign 63, false)
  else
    let d := c.log - 256 * b
    let q := d / 32
    let r := d % 32
    kb8Finish c.sign (if 16 < r ∨ (r = 16 ∧ q % 2 = 1) then q + 1 else q)

/-- The largest binary exponent of the finite nonzero values of a block. -/
def blockExp (vs : List Val) : Option Int :=
  vs.foldl (fun acc v =>
    match v with
    | .fin _ m e => if m = 0 then acc else some (match acc with | none => expOf m e | some a => max a (expOf m e))
    | _ => acc) none

/-- The scale of R50: clamp(e_max − 6, −128, 127), and 0 for a block with no finite nonzero element. -/
def blockScale (vs : List Val) : Int :=
  match blockExp vs with
  | none => 0
  | some x => max (-128) (min 127 (x - 6))

/-- A signed byte. -/
def byteToInt (b : Nat) : Int := if b % 256 < 128 then Int.ofNat (b % 256) else Int.ofNat (b % 256) - 256

/-- A signed value as its byte. -/
def intToByte (x : Int) : Nat := (x % 256).toNat

/-! ## A48 -/

/-- R115: the value of an A48 code. -/
def A48.val (a : A48) : Val :=
  let n := a.toNat
  let s := (n / 2 ^ 47) % 2 == 1
  let ex : Nat := (n / 2 ^ 36) % 2048
  let fr : Nat := n % 2 ^ 36
  if ex = 2047 then (if fr = 0 then .inf s else .nan)
  else if ex = 0 then .fin s 0 0
  else .fin s (2 ^ 36 + fr) ((ex : Int) - 1059)

/-- The A48 NaN that the module produces. -/
def A48.nan : A48 := 0x7FF800000000#48

/-- An A48 code from its sign, biased exponent and fraction. -/
def A48.mk (s : Bool) (ex fr : Nat) : A48 := BitVec.ofNat 48 ((if s then 2 ^ 47 else 0) + ex * 2 ^ 36 + fr)

/-- RNE48 of R116, with the accumulate-overflow indication. -/
def rne48 (v : Val) : A48 × Bool :=
  match v with
  | .nan => (A48.nan, false)
  | .inf s => (A48.mk s 2047 0, false)
  | .fin s m e =>
    if m = 0 then (A48.mk s 0 0, false)
    else
      let ex := expOf m e
      let n := rneShift m (e - (ex - 36))
      let ex' := if n = 2 ^ 37 then ex + 1 else ex
      let n' := if n = 2 ^ 37 then 2 ^ 36 else n
      if 1023 < ex' then (A48.mk s 2047 0, true)
      else if ex' < -1022 then (A48.mk s 0 0, false)
      else (A48.mk s (ex' + 1023).toNat (n' - 2 ^ 36), false)

/-- The addition of R117. -/
def A48.add (a b : A48) : A48 × Bool := rne48 (a.val.add b.val)

/-- The multiplication of R117. -/
def A48.mul (a b : A48) : A48 × Bool := rne48 (a.val.mul b.val)

/-- +0. -/
def A48.zero : A48 := 0#48

/-! ## Occurrence bits

Bit 0 NAN, bit 1 INF, bit 2 input, bit 3 conversion overflow, bit 4 accumulate overflow: bits [4:0] of R141. -/

def occNan : Nat := 1
def occInf : Nat := 2
def occInput : Nat := 4
def occConv : Nat := 8
def occAcc : Nat := 16

/-- The NAN and INF bits of a value. -/
def occOf (v : Val) : Nat := if v.isNan then occNan else if v.isInf then occInf else 0

/-- The occurrence of a value met as an input (R57): the input source with the NAN or INF bit. -/
def occIn (v : Val) : Nat := if v.special then occInput ||| occOf v else 0

/-- The occurrence bits of a conversion's overflow flag. -/
def occOvf (b : Bool) : Nat := if b then occConv else 0

/-! ## Products and the tree -/

/-- The product of two KB16 codes (R110, R113) with its occurrence bits. -/
def kb16Product (a b : Kb16) : Val × Nat :=
  let s := a.sign != b.sign
  if a.isNan || b.isNan then (.nan, occInput ||| occNan)
  else if (a.isInf && b.isZero) || (a.isZero && b.isInf) then (.nan, occInput ||| occNan)
  else if a.isInf || b.isInf then (.inf s, occInput ||| occInf)
  else if a.isZero || b.isZero then (.fin false 0 0, 0)
  else
    let l := a.log + b.log
    (.fin s (t16 (l % 256).toNat) (l / 256 - 31), 0)

/-- The product of two KB8 codes with their block scales (R111, R113). -/
def kb8Product (a b : Kb8) (ba bw : Int) : Val × Nat :=
  if a.isNan || b.isNan then (.nan, occInput ||| occNan)
  else if a.isZero || b.isZero then (.fin false 0 0, 0)
  else
    let l := a.log + b.log
    (.fin (a.sign != b.sign) (t16 (32 * (l % 8).toNat)) (l / 8 + ba + bw - 31), 0)

/-- One level of the tree of R120: neighbours added in pairs. -/
def treeLevel : List A48 → List A48
  | a :: b :: r => (a.add b).1 :: treeLevel r
  | r => r

/-- `n` levels of the tree. -/
def treeLevels : Nat → List A48 → List A48
  | 0, xs => xs
  | n + 1, xs => treeLevels n (treeLevel xs)

/-- The chunk sum of R120: node(8, 0) over 256 products. -/
def chunkSum (products : List Val) : A48 := (treeLevels 8 (products.map (fun v => (rne48 v).1))).headD A48.zero

/-- Occurrence bits that arise in the tree: NaN or Inf at a node. -/
def treeOcc : Nat → List A48 → Nat
  | 0, _ => 0
  | n + 1, xs =>
    let ys := treeLevel xs
    (ys.foldl (fun o y => o ||| occOf y.val) 0) ||| treeOcc n ys

/-! ## Split pieces -/

/-- The pieces of R60 and R61, three of them, with the occurrence bits of the first. -/
def splitPieces (x : Val) (mode : Mode) : List Kb16 × Nat :=
  let p1 := kb16From x mode
  let occ := occIn x ||| occOvf p1.2 ||| occOf p1.1.lin
  if p1.1.isZero || p1.1.isNan || p1.1.isInf || p1.2 then ([p1.1, 0x4000#16, 0x4000#16], occ)
  else
    let r1 := x.add p1.1.lin.neg
    let p2 := (kb16From r1 mode).1
    let r2 := r1.add p2.lin.neg
    ([p1.1, p2, (kb16From r2 mode).1], occ)

/-- The piece pairs of R62 for two or three pieces. -/
def passOrder (pieces : Nat) : List (Nat × Nat) :=
  if pieces = 3 then [(1, 1), (1, 2), (2, 1), (1, 3), (2, 2), (3, 1)]
  else if pieces = 2 then [(1, 1), (1, 2), (2, 1)]
  else [(1, 1)]

/-! ## The ladder -/

/-- A level of the ladder: a value and its error word (R128); the error word is +0 in normal mode. -/
abbrev Pair := A48 × A48

/-- The combine of R117 in normal mode and of R128 in compensated mode, with the occurrence bits that arise in it. -/
def combine (comp : Bool) (x y : Pair) : Pair × Nat :=
  let sum := x.1.val.add y.1.val
  let s := rne48 sum
  let occ := occOf s.1.val ||| (if s.2 then occAcc else 0)
  if ¬ comp then ((s.1, A48.zero), occ)
  else if s.1.val.special then ((s.1, A48.zero), occ)
  else
    let t := sum.add s.1.val.neg
    let e1 := x.2.add y.2
    let e := rne48 (e1.1.val.add t)
    ((s.1, e.1), occ ||| (if e1.2 || e.2 then occAcc else 0) ||| occOf e.1.val)

/-- The push of R123 over a list of levels, lowest first. -/
def ladderPush (comp : Bool) : List (Option Pair) → Pair → List (Option Pair) × Nat
  | [], v => ([some v], 0)
  | none :: r, v => (some v :: r, 0)
  | some x :: r, v =>
    let c := combine comp x v
    let d := ladderPush comp r c.1
    (none :: d.1, c.2 ||| d.2)

/-- The drain of R123 from level j upward, with the accumulated pair. -/
def ladderFold (comp : Bool) : List (Option Pair) → Option Pair → Option Pair × Nat
  | [], acc => (acc, 0)
  | none :: r, acc => ladderFold comp r acc
  | some x :: r, none => ladderFold comp r (some x)
  | some x :: r, some a =>
    let c := combine comp x a
    let d := ladderFold comp r (some c.1)
    (d.1, c.2 ||| d.2)

/-- The ladder's result: R123, or RNE48(v + err) under R128. -/
def ladderDrain (comp : Bool) (lv : List (Option Pair)) : A48 × Nat :=
  match ladderFold comp lv none with
  | (none, o) => (A48.zero, o)
  | (some p, o) =>
    if comp then
      let r := p.1.add p.2
      (r.1, o ||| occOf r.1.val ||| (if r.2 then occAcc else 0))
    else (p.1, o)

end Sys2Proof
end

