-- ==== Sys2Proof/Machine/State.lean ====
section
/-! DEFINITION. The state of the BX1-M96: every register, table, queue, counter and pin that the manual gives
the module, as plain data, with the value each holds right after a module reset (log 3 where the manual gives none),
and the queue of commands. Field comments name the rule that gives the field. -/

namespace Sys2Proof.Machine

/-- Why the machine stops with a fault. The manual reports every error of the module as a status, a record or a pin,
so no command of this model ends in a fault. -/
inductive Fault where
  /-- Raised by no command; present so that the type has a name for an access outside the module's physical space. Safe. -/
  | outsideAddressSpace
  deriving DecidableEq, Repr

/-- Why a command has no meaning here. -/
inductive Refusal where
  /-- A command of the table that the model has not reached; raised by Dispatch alone. Safe. -/
  | notModelled (mnemonic : String)
  deriving DecidableEq, Repr

/-! ## Time -/

/-- A master that a port has heard announced (R299): its port identity, its data set, and when. -/
structure PtpForeign where
  clock : Nat
  port : Nat
  data : PtpData
  heardNs : Nat
  deriving DecidableEq, Repr

/-- What a port of the PTP clock holds (R299, R300; IEEE 1588-2019). -/
structure PtpPort where
  foreign : List PtpForeign := []
  syncRx : Option Int := none         -- receipt of a Sync whose Follow_Up is to come
  offNs : Option Int := none          -- receipt less origin of the last Sync
  reqNs : Option Int := none          -- when the last Delay_Req or Pdelay_Req left
  delayNs : Int := 0                  -- mean path delay
  sentNs : Option Nat := none         -- TAI time of the last expiry of the port's timer
  deriving DecidableEq, Repr

/-- The cycle counter (R19, R525), the PTP clock (R297) and its servo (R299, R300), and the PPS signals (R301, R552). -/
structure Clock where
  cycle : Nat := 0                    -- R19: 64-bit cycle counter
  tai : FTime := {}                   -- R297: TAI nanoseconds and fraction
  rem : Nat := 0                      -- model's own: remainder of the cycle-to-fraction division (log 4)
  freqPpb : Int := 0                  -- R300: the servo's frequency correction
  ptpState : Nat := 0                 -- R452 TIME STATUS: 0 free, 1 locked, 2 holdover, 3 time fault
  offsetNs : Int := 0
  holdErrNs : Nat := 0
  masterId : Nat := 0
  clockClass : Nat := 248             -- R299
  roles : List Nat := []              -- R452 PTP_CONFIG, one per port
  ptp : Map PtpPort := []             -- R299: by port
  domain : Nat := 0
  priority1 : Nat := 128
  priority2 : Nat := 128
  delayMech : Nat := 0
  twoStep : Nat := 0
  logSync : Int := -4
  logDelay : Int := -4
  asym : List Int := []               -- R298
  ppsInSource : Bool := false         -- R301
  ppsOutEnabled : Bool := true        -- R552
  ppsNextEdgeS : Nat := 0
  ppsInLast : Option Nat := none      -- R552: last rising edge, TAI nanoseconds
  ppsInPresent : Bool := false
  ppsInStray : Nat := 0
  ppsOutHighUntil : Nat := 0          -- R552: PPS_OUT is high while the clock is below this TAI time
  deriving DecidableEq, Repr

/-! ## Cores -/

/-- One weight set of one array (R64, R68, R69, R74, R104): code of each cell row and column, scales of each column, owner,
generation. A cell beyond the lists holds the zero code, a scale beyond them 0. -/
structure WSet where
  kb16 : Bool := false
  rows : List (List Nat) := []
  scales : List (List Int) := []
  ctx : Option Nat := none
  gen : Nat := 0
  src : Nat := 0                      -- R75: tile-store address of the block it was loaded from
  ext : List (Nat × Nat) := []        -- R70, R91: extents along K and along the columns of each tile of the block
  parity : List Nat := []             -- R104: the parity bits of each cell row, one for every 64 bits
  clean : Map Nat := []               -- R106: cell row -> TAI time of its last clean sweep
  deriving DecidableEq, Repr

/-- A parison load in progress (R69, R71, R105). -/
structure ParLoad where
  ring : Nat
  slot : Nat                          -- number of its descriptor in the ring (log 35)
  ctx : Nat
  block : Nat                         -- index of the weight block in the op's order
  readyAt : Nat                       -- cycle at which the load ends
  sets : List WSet
  deriving DecidableEq, Repr

/-- The stage offsets of R532 for an op that tagged sampling or a replay trace follows. -/
structure Tagged where
  kind : Nat := 0                     -- 0 sample, 1 replay trace
  issueCycle : Nat := 0
  step : Nat := 0
  stage : Nat := 0
  micro : Nat := 0
  tGather : Option Nat := none
  tArray : Option Nat := none
  tTree : Option Nat := none
  tDrain : Option Nat := none
  empty : Nat := 0
  rows : Nat := 0
  deriving DecidableEq, Repr

/-- An array multiply that streams (R155 to R158) and what it has gathered for its flag word (R140). -/
structure ArrOp where
  ring : Nat
  slot : Nat                          -- number of its descriptor in the ring (log 35)
  ctx : Nat
  desc : Nat                          -- the 64-byte descriptor
  epi : Nat                           -- the 64-byte epilogue record
  mask : List Byte := []              -- the mask record; empty for none
  block : Nat := 0                    -- next weight block (chunk, pass) to stream
  streaming : Bool := false           -- the switch to this block has been made
  loaded : Nat := 0                   -- steps whose weight block a parison load of the op has brought
  dueAt : Nat := 0                    -- R73: cycle from which the op's next switch or first row is due
  out : List Nat := []                -- R91: columns below N that the extent of a tile header leaves out
  row : Nat := 0                      -- next index into the row sequence of R80
  entries : Nat := 0                  -- entries begun
  entryBase : Nat := 0                -- ENTRY_COUNT of the record read (R131)
  recFlags : Nat := 0                 -- FLAGS of the record read
  accSet : Nat := 0                   -- shadow set in use (R138)
  chain : Map Nat := []               -- output row -> cycle at whose end the chain of its last entry ends (R126)
  occ : Map Nat := []                 -- position -> occurrence bits (R140)
  deriving DecidableEq, Repr

/-- A row between the tree and the accumulators: the column sums of one entry of one output row (R82, R122). -/
structure InRow where
  set : Nat                           -- shadow set of its op (R138)
  row : Nat
  entry : Nat
  sums : List A48
  due : Nat                           -- last cycle of the accumulator stage
  deriving DecidableEq, Repr

/-- A drain (R135, R137): the results formed, waiting to be written. -/
structure Drain where
  op : ArrOp
  due : Nat
  writes : List (Nat × List Byte)     -- tile-store address and bytes
  flags : Nat
  deriving DecidableEq, Repr

/-- A write that an op makes at its completion: tile-store bytes, bytes of a context's tile, a tile loaded with its header into the tile
store, a tile stored from the tile store, a tile copied to another. -/
inductive Eff where
  | ts (addr : Nat) (data : List Byte)
  | tile (tile off : Nat) (data : List Byte)
  | loadTile (tile addr : Nat)
  | storeTile (addr tile : Nat)
  | copyTile (src dst : Nat)
  deriving DecidableEq, Repr

/-- An operation of the vector or the move unit in progress (R166, R169). -/
structure UnitOp where
  ring : Nat
  slot : Nat                          -- number of its descriptor in the ring (log 35)
  ctx : Nat
  due : Nat
  effs : List Eff
  status : Nat
  flags : Nat                         -- bits [5:0] of the flag words ORed
  deriving DecidableEq, Repr

/-- A header slot of the tile store (R573): recorded address and the 64-byte header. -/
structure HdrSlot where
  addr : Nat
  hdr : Nat
  deriving DecidableEq, Repr

/-- A descriptor between issue and retirement (R166 to R170). -/
structure OutDesc where
  slot : Nat
  id : Nat := 0                       -- model's own: descriptors that the ring issued before it (log 35)
  desc : Nat
  done : Bool := false
  status : Nat := 0
  flags : Nat := 0
  timeNs : Nat := 0
  reads : List (Nat × Nat) := []      -- tile-store 256-byte lines still held for reading
  writes : List (Nat × Nat) := []
  tileReads : List Nat := []
  tileWrites : List Nat := []
  deadline : Option Nat := none       -- BARRIER target or EVENT_WAIT timeout, fabric time in units of 2⁻¹⁶ ns
  tag : Option Tagged := none
  deriving DecidableEq, Repr

/-- A completion record (R171). -/
structure ComplRec where
  tag : Nat
  opcode : Nat
  status : Nat
  flags : Nat
  slot : Nat
  timeNs : Nat
  deriving DecidableEq, Repr

/-- A descriptor ring (R147 to R149) with its schedule cursor (R165), its descriptors in flight and its completion ring (R170). -/
structure Ring where
  valid : Bool := false
  ctx : Nat := 0
  base : Nat := 0
  size : Nat := 0
  start : Nat := 0
  next : Nat := 0
  running : Bool := false
  halted : Bool := false              -- R172: a status of 0x10 or above stopped issue
  micro : Nat := 0
  stage : Nat := 0
  issued : Nat := 0                   -- model's own: descriptors issued so far (log 35)
  out : List OutDesc := []
  compl : List ComplRec := []
  fab : Map ComplRec := []            -- R170: the latest record of each FABRIC descriptor, by slot
  waitAt : Option Nat := none         -- R258, R526: the cycle since which the next descriptor waits for tracker entries or slots
  deriving DecidableEq, Repr

/-- An update that runs on the update channel (R363). -/
structure ChanOp where
  ctx : Nat
  layer : Nat
  param : Nat
  effs : List Eff
  status : Nat
  flags : Nat
  due : Nat
  deriving DecidableEq, Repr

/-- An entry of a translation cache (R195): context × 2³² + tile, its accesses (R201), and the cycle of the last. -/
structure TEntry where
  key : Nat
  uses : Nat
  lastAt : Nat
  deriving DecidableEq, Repr

/-- One logical core (R21, R24) with its arrays, units, rings and its current control (R96 to R102). -/
structure Core where
  bound : Bool := false
  pc : Nat := 0                       -- R21: the physical core bound
  rings : Map Ring := []
  rrNext : Nat := 0                   -- R149
  hdrSlots : Map HdrSlot := []        -- R573
  active : Map WSet := []             -- R64, by array
  parison : Map WSet := []
  load : Option ParLoad := none
  parFree : Nat := 0                  -- R71: first cycle at which no row ahead of the tree stage uses the parison
  useAt : Nat := 0                    -- R71: first cycle at which no row ahead of the tree stage uses the active set
  loadedAt : Nat := 0                 -- R73: cycle at whose start the last parison load had ended
  arr : Option ArrOp := none
  look : Option ArrOp := none         -- R84: the look-ahead op
  nextSet : Nat := 0                  -- R138
  acc : Map (List (Option (A48 × A48))) := []   -- R123: set × 2²⁰ + row × 1024 + column -> levels
  inflight : List InRow := []
  drains : List Drain := []
  waiting : List ArrOp := []          -- ops whose rows are all in, waiting to drain (R137: in queue order)
  vec : Option UnitOp := none
  mov : Option UnitOp := none
  chan : Option ChanOp := none
  n : Nat := 0                        -- R96: issue fraction n/64
  empties : Nat := 0                  -- R97: consecutive empty cycles
  rampDown : Bool := false            -- R98
  rampUp : Bool := false              -- R100
  descend : Bool := false             -- R102
  nAt : Nat := 0                      -- cycle of the last change of n
  nPrev : Nat := 0                    -- R99: the fraction in force before that change, by which its cycle is judged
  ceilAt : Nat := 0                   -- R102: cycle at which the ceiling fell below n, or of the last step of the descent
  belowAt : Nat := 0                  -- model's own: cycle up to which cycles below the ceiling are counted (R103)
  slotFree : Nat := 0                 -- first cycle whose issue slot is not yet used
  owed : Nat := 0                     -- R67, R78: issue slots from there that the row last fed still takes
  lastRow : List Nat := []            -- R96: the most recently fed row; empty when none since the core left fraction 0
  keeper : List Nat := []             -- R96: the phantom row that the last keeper op fed
  lastCtx : Option Nat := none        -- R526
  preRamp : Option (Nat × Nat) := none   -- R101: barrier target, fabric time in units of 2⁻¹⁶ ns, and its context
  sweepRow : Nat := 0                 -- R104
  sweepAt : Nat := 0
  epiFree : Nat := 0                  -- R137: first cycle at which the epilogue is free
  tablesRev : Nat := 0                -- R470
  tablesDue : Bool := false
  sampleQ : List (List Byte) := []    -- R530
  tagDraws : Nat := 0                 -- R531
  migrating : Bool := false           -- R471 step 2
  tcache : List TEntry := []          -- R195: the move unit's translation cache, most recently used first
  deriving DecidableEq, Repr

/-! ## Memory tiers -/

/-- A tile table entry (R193). -/
structure TileEntry where
  valid : Bool := false
  lost : Bool := false
  dirty : Bool := false
  cow : Bool := false
  policy : Nat := 0
  state : Nat := 0                    -- 0 RESIDENT, 1 QUEUED, 2 COPYING, 3 COMMITTING, 4 ABORTING
  tier : Nat := 0
  destTier : Nat := 0
  core : Nat := 0
  frame : Nat := 0
  destFrame : Nat := 0
  lender : Nat := 0
  destLender : Nat := 0
  deriving DecidableEq, Repr

/-- A tile header (R196). -/
structure TileHdr where
  format : Nat := 255
  shapeFlags : Nat := 0
  rows : Nat := 0
  cols : Nat := 0
  generation : Nat := 0
  digestSlot : Nat := 4294967295
  lastWriteStep : Nat := 0
  deriving DecidableEq, Repr

/-- A migration the engine holds (R203 to R207, R569 to R571). -/
structure Mig where
  ctx : Nat
  tile : Nat
  bank : Nat := 0                     -- whose entry of the tile moves (R410)
  policy : Nat
  core : Nat                          -- CORE of the tile after the move
  region : Nat := 0                   -- the core (T0) or near region (T1) it goes to
  handle : Nat := 0
  front : Bool := false               -- R205: moved ahead of every other
  stallAt : Option Nat := none        -- R205, R526: the cycle in which the first write stalled on the tile
  reclaim : Bool := false             -- R214 step 2
  retried : Bool := false             -- R210: requeued once
  spare : Bool := false               -- R231: for bank sparing
  cause : Option AbortCause := none   -- of ABORTING
  deriving DecidableEq, Repr

/-- Why a tile is asked to move, which says where it may go: to the place a request names; out of a window under reclaim (R214); out of a failing
bank into the spare bank of its slice, or anywhere in its near region and then T2 (R231). -/
inductive MoveWhy where
  | asked
  | reclaim
  | toSpare
  | fromBank
  deriving DecidableEq, Repr

/-- A request held for a tile in migration (R569), or not yet placed (R570). -/
structure MigAsk where
  ctx : Nat
  tile : Nat
  bank : Nat := 0
  tier : Nat := 0
  policy : Nat := 0
  core : Nat := 0
  region : Nat := 0
  handle : Nat := 0
  why : MoveWhy := .asked
  deriving DecidableEq, Repr

/-- A write that stalls on a tile in migration (R204, R205): a BAR2 write, or one that waits for a frame of the secure reserve. -/
structure Stalled where
  ctx : Nat
  tile : Nat
  off : Nat
  data : List Byte
  deriving DecidableEq, Repr

/-- A window this module lends (R211 to R215). State: 0 filling, 1 offered, 2 reclaiming, 3 filling after reclaim. -/
structure LendWin where
  tier : Nat
  gib : Nat
  ranges : List (Nat × Nat)           -- its frames: first and past the last of each run
  peers : List Nat
  noticeMs : Nat
  state : Nat := 0
  released : List Nat := []
  deadline : Nat := 0
  handle : Nat := 0
  deriving DecidableEq, Repr

/-- The error history of one bank, row or lane (R220, R221, R229). -/
structure BankErr where
  corrected : Nat := 0                -- module counter of R527
  lastLogNs : Option Nat := none      -- R220: first corrected error of the hour
  scrubUntil : Nat := 0               -- R221: accelerated schedule in force until this TAI time
  rowHits : List (Nat × Nat) := []    -- row and TAI time of corrected errors
  rowUnc : List (Nat × Nat) := []     -- row and time of uncorrectable errors
  laneHits : List (Nat × Nat) := []
  sparesUsed : Nat := 0
  causeSeq : Nat := 4294967295        -- R232: SEQ of the record that caused the last row spare asked for
  deriving DecidableEq, Repr

/-- A row whose copy into its spare runs (R230). -/
structure RowCopy where
  loc : BankLoc
  row : Nat
  causeSeq : Nat
  held : List (Nat × List Byte) := [] -- writes held during the copy: physical address and bytes
  deriving DecidableEq, Repr

/-- A cullet list entry (R232). -/
structure Cullet where
  type : Nat
  action : Nat
  index : Nat
  location : Nat
  spare : Nat
  causeSeq : Nat
  timeNs : Nat
  deriving DecidableEq, Repr

/-! ## Fabric and Ethernet -/

/-- Flow states (R250). -/
inductive FlowState where
  | closed
  | opening
  | open_
  | draining
  | failed
  deriving DecidableEq, Repr

/-- A packet the sender has not had acknowledged (R263, R264), or not yet sent (`sentAt` none). -/
structure TxPkt where
  psn : Nat
  op : Nat
  cls : Nat
  p : Pkt
  path : Nat := 0
  sentAt : Option Nat := none         -- TAI nanoseconds of its latest copy
  order : Nat := 0                    -- model's own: order of sending on the flow
  expiries : Nat := 0
  queued : Bool := false              -- a copy waits in a transmit queue
  acked : Bool := false
  deriving DecidableEq, Repr

/-- A packet held because an earlier message is not complete (R253, R261). -/
structure HeldPkt where
  psn : Nat
  op : Nat
  p : Pkt
  deriving DecidableEq, Repr

/-- A message the target is receiving (R253, R261). -/
structure RxMsg where
  psn : Nat                           -- MSG_PSN
  op : Nat
  addr : Nat
  len : Nat
  got : Nat := 0                      -- packets of the message that have taken effect
  last : Option Nat := none           -- PSN of the packet with LAST
  status : Nat := 0
  event : Nat := 0
  eflags : Nat := 0
  deriving DecidableEq, Repr

/-- One path of a flow (R266, R270): its port, weight and the counter of the smooth weighted round-robin. -/
structure PathSt where
  port : Nat
  weight : Nat := 16
  cur : Int := 0
  ce : Bool := false                  -- a CE mark in the interval
  deriving DecidableEq, Repr

/-- A flow context (R247) with its acknowledgement, retransmission and congestion state (R259 to R270). -/
structure Flow where
  state : FlowState := .closed
  ctx : Nat := 0
  planning : Bool := false
  peer : Nat := 0
  peerFlow : Nat := 0
  queue : Nat := 5
  paths : List PathSt := []
  drainFence : Bool := false
  closing : Bool := false             -- CLOSE sent or received
  doneSent : Bool := false            -- CLOSE_DONE sent
  closeSeen : Bool := false           -- CLOSE_DONE received
  lost : Bool := false                -- R227, R278: the flow context is lost
  nextPsn : Nat := 0
  una : Nat := 0
  tx : List TxPkt := []
  sendOrder : Nat := 0
  expected : Nat := 0
  exec : Nat := 0                     -- PSN of the next packet to take effect (R256, R261)
  got : List Nat := []
  held : List HeldPkt := []
  msgs : List RxMsg := []
  pktsSinceAck : Nat := 0
  ceSinceAck : Nat := 0
  firstUnackedNs : Option Nat := none
  lastPath : Nat := 0
  lastTs : Nat := 0
  srtt : Option Rat := none
  rttvar : Rat := 0
  samples : List (Nat × Nat) := []    -- R268: TAI time and sample, last 10 s
  intMin : Option Nat := none         -- smallest sample of the interval
  intCe : Nat := 0
  intPkt : Nat := 0
  intStartNs : Nat := 0
  alpha : Rat := 0
  rateCur : Rat := 0                  -- Mb/s
  rateTgt : Rat := 0
  rateMax : Rat := 0
  quiet : Nat := 0
  sendAt : Rat := 0                   -- R268: TAI nanoseconds from which the rate admits the next packet
  lastDone : Option Nat := none       -- R278: PSN of the response that completed the last operation
  progressNs : Nat := 0               -- R265: TAI time of the last advance of una, less paused time
  deriving DecidableEq, Repr

/-- What a request-tracker entry waits for (R258). -/
inductive TrkKind where
  | put
  | get
  | atomic
  | coll (coll inst : Nat)
  | parity (generation : Nat)
  | permute
  | t3write
  deriving DecidableEq, Repr

/-- A request-tracker entry (R258). -/
structure Trk where
  ctx : Nat
  core : Nat
  ring : Nat
  slot : Nat                          -- number of its descriptor in the ring (log 35)
  flow : Nat
  psn : Nat
  kind : TrkKind
  local_ : Nat := 0
  length : Nat := 0
  got : Nat := 0
  tileSlot : Bool := false
  deriving DecidableEq, Repr

/-- A control message awaiting CTRL_ACK (R275). -/
structure CtrlMsg where
  peer : Nat
  msgId : Nat
  op : Nat
  body : List Byte
  attempts : Nat
  dueNs : Nat
  deriving DecidableEq, Repr

/-- What an LLDPDU that a MAC sends carries (R295): chassis and port ID, TTL, system name, the wake times of the EEE TLV, and the organisationally
specific TLV. -/
structure LldpOut where
  chassis : Nat
  portId : Nat
  ttlS : Nat := 120
  sysName : List Byte
  txWakeUs : Nat := 4
  rxWakeUs : Nat := 4
  oui : Nat
  device : Nat
  port : Nat
  mac : Nat
  lanesUp : Nat
  encap : Nat
  fwRev : Nat
  deriving DecidableEq, Repr

/-- The PTP messages that the module sends (R299): a response names the request's sender, a Pdelay_Resp the request's receipt too. -/
inductive PtpOut where
  | sync
  | followUp
  | delayReq
  | delayResp (clock port : Nat)
  | pdelayReq
  | pdelayResp (receiptNs : Int) (clock port : Nat)
  deriving DecidableEq, Repr

/-- A frame in a transmit queue or sent: its content and its length on the wire. -/
inductive FrameBody where
  | zalnis (h : Hdr)
  | ctrl (h : Hdr)
  | pfc (enable quanta : Nat)
  | lldp (t : LldpOut)
  | ptp (k : PtpOut) (stampNs : Int)
  | arp (targetIp senderIp senderMac : Nat)
  | neighbour (targetIp senderIp senderMac : Nat)
  | resolve (v6 : Bool) (targetIp : Nat)
  deriving DecidableEq, Repr

/-- The IP and UDP headers of a UDP-mode frame (R237). IPv6 has no extension headers and IPv4 no options. -/
structure IpHdr where
  v6 : Bool
  src : Nat
  dst : Nat
  dscp : Nat
  ecn : Nat                           -- 0 Not-ECT, 2 ECT(0), 3 CE
  df : Bool := true                   -- IPv4
  ident : Nat := 0
  sport : Nat
  dport : Nat
  cksum : Nat := 0                    -- of UDP; computed as the frame leaves
  deriving DecidableEq, Repr

/-- The headers that a frame carries around its content (R236, R237): addresses, the 802.1Q tag as PCP and VID with TPID 0x8100 and DEI 0,
EtherType, and IP with UDP. -/
structure Wrap where
  dmac : Nat := 0
  smac : Nat := 0
  tag : Option (Nat × Nat) := none
  etherType : Nat := 0
  ip : Option IpHdr := none
  deriving DecidableEq, Repr

/-- A frame with its bytes, whether it is being forwarded (R274), and the flow and context it belongs to. -/
structure Frame where
  body : FrameBody
  len : Nat
  wrap : Wrap := {}
  forwarded : Bool := false
  fcsBad : Bool := false              -- R274: ended with the FCS inverted
  flow : Nat := 0
  ctx : Option Nat := none
  deriving DecidableEq, Repr

/-- A scheduled window that is open on a MAC (R294). -/
structure OpenWin where
  ctx : Nat
  entry : Nat
  coll : Nat
  endNs : Nat                         -- TAI nanoseconds
  rate : Nat
  paused : Bool := false              -- pause took place during it
  deriving DecidableEq, Repr

/-- One MAC (R281, R286 to R296, R303 to R305). -/
structure Mac where
  up : Bool := false
  lanes : Nat := 0                    -- bit i: port lane i carries this MAC
  rateMbps : Nat := 0
  queues : Map (List Frame) := []
  origTurn : List Nat := []           -- R274: queues whose last frame was a forwarded one
  credit : Nat := 0                   -- R288: queue 0, in units of 1/16,800,000 byte
  creditAt : Nat := 0                 -- cycle at which the credit was counted
  busyUntil : Nat := 0                -- cycle
  paused : Map Nat := []              -- R290: priority -> cycle at which its pause ends
  pausedFrom : Map Nat := []          -- R306: priority -> cycle up to which its pause is counted
  pauseAll : Bool := false            -- the pause in force came from PAUSE
  window : Option OpenWin := none
  lpiTx : Bool := false               -- R296
  lpiRx : Bool := false
  lpiFrom : Nat := 0                  -- cycle at which low-power idle began
  winClosedNs : Nat := 0              -- R294: TAI time at which the last window ended
  wakeAt : Nat := 0
  idleSince : Nat := 0
  partnerWakeUs : Option Nat := none
  retrainFrom : Option Nat := none    -- R305: cycle at which retraining began
  retrainLane : Nat := 0
  rxOcc : Map Nat := []               -- R291: bytes held by priority
  xoffSent : Map Nat := []            -- R291: priority -> cycle of the last PFC sent with quanta 0xFFFF
  neighbour : Option LldpInfo := none -- R295
  neighbourNs : Nat := 0
  several : Bool := false
  lldpNs : Nat := 0
  ratioPpb : List Nat := []
  deriving DecidableEq, Repr

/-- One port's configuration (R236, R281, R289, R452 PORT_SET). -/
structure Port where
  mode : Nat := 3                     -- R283: 3 port down
  adminUp : Bool := false
  recordDue : Bool := false           -- R492: a PORTS record waits for the port's next down state
  encap : Nat := 0
  flowctl : Nat := 2                  -- R289: PFC
  pfcSend : Nat := 0                  -- R289: sent for no priority
  small : Bool := false
  eee : Bool := false
  vlan : Nat := 0
  udpPort : Nat := 42117              -- R237
  idleHoldUs : Nat := 10              -- R296
  xoff : List Nat := []
  xon : List Nat := []
  dscp : List Nat := []
  ownIp : Nat := 0
  nextHop : Nat := 0
  hopMac : Nat := 0                   -- R238: the address to which the next hop has been resolved
  lanesUp : Nat := 0
  retired : Nat := 0                  -- bit i: port lane i retired
  deriving DecidableEq, Repr

/-- One SerDes lane (R302, R303). -/
structure Lane where
  lostNs : Option Nat := none         -- R283, R303: TAI time since which the lane has no lock
  calNs : Nat := 0
  calCenti : Int := 0
  lockLoss : List Nat := []
  recalibrated : Bool := false        -- R303: a re-calibration since link-up
  deriving DecidableEq, Repr

/-- A forwarding table entry (R272). -/
structure FwdEntry where
  ports : List Nat := []
  deriving DecidableEq, Repr

/-- Congestion parameters (R269) and the progress limit (R265). -/
structure CcParams where
  g : Rat := 1 / 16
  dHighNs : Rat := 10000
  aDelay : Rat := 1 / 8
  incAi : Rat := 1000
  incHai : Rat := 10000
  rateMin : Rat := 100
  tFailMs : Nat := 500
  deriving DecidableEq, Repr

/-! ## Collectives -/

/-- A collective record installed in a context (R308, R309, R313). -/
structure CollRec where
  type : Nat
  op : Nat
  inFmt : Nat
  outFmt : Nat
  queue : Nat
  saturate : Bool
  p : Nat
  myPos : Nat
  window : Nat
  core : Nat
  event : Nat
  epoch : Nat
  stage : Nat
  maxLen : Nat
  flagAddr : Nat
  members : List (Nat × Nat)          -- device and local flow
  next : Nat := 0                     -- next number to issue
  low : Nat := 0                      -- c of R313: lowest not completed
  finished : List Nat := []           -- completed above `low`
  deriving DecidableEq, Repr

/-- A block staged for or placed in one run of a record (R314): sender, KIND, length, bytes placed. -/
structure CollBlock where
  pos : Nat
  kind : Nat
  len : Nat
  got : Nat := 0
  data : List Byte := []
  flow : Nat := 0
  psn : Nat := 0
  deriving DecidableEq, Repr

/-- One run of a record (R312 to R321). -/
structure CollInst where
  issued : Bool := false
  core : Nat := 0
  ring : Nat := 0
  slot : Nat := 0                     -- number of its descriptor in the ring (log 35)
  src : Nat := 0
  dst : Nat := 0
  len : Nat := 0
  blocks : List CollBlock := []
  shardDone : Bool := false
  unanswered : Nat := 0
  due : List (Nat × Nat × List Byte) := []   -- R258: member, KIND and bytes of the blocks that wait for a tracker entry
  occ : Map Nat := []                 -- output element -> occurrence bits (R321)
  status : Nat := 0
  deriving DecidableEq, Repr

/-! ## Jobs -/

/-- The host data feed (R401, R455). -/
structure Feed where
  ringAddr : Nat := 0
  entries : Nat := 0
  entryBytes : Nat := 0
  producer : Nat := 0
  consumer : Nat := 0
  fetched : Nat := 0
  cursor : Nat := 0                   -- cursor of micro-batch 0 of the step last prefetched
  waiting : Bool := false
  fn : Nat := 0                       -- the function that FEED came through (R445)
  deriving DecidableEq, Repr

/-- A generation held in the NAND store (R381, R382): role 0 own, 1 mirrored. -/
structure NandGen where
  jobId : Nat
  role : Nat
  record : SecRec
  blocks : SecBlocks := {}
  tiles : List (Nat × List Host.Cell) := []          -- tile number -> its bytes, offsets within the tile
  whole : Bool := false
  kept : Bool := false
  deriving DecidableEq, Repr

/-- The securing machinery of a context's job (R374 to R394). -/
structure Sec where
  generation : Nat := 1               -- R374: number of the next generation opened
  records : List SecRec := []
  current : Option SecRec := none     -- the open generation
  blocks : SecBlocks := {}            -- of the generation opened last
  held : SecBlocks := {}              -- of the one committed before it
  copyHdrs : Map TileHdr := []        -- frame of a capture or pre-image -> the tile's header with it (R386, R399)
  incr : List Nat := []               -- tiles of the increment
  captures : Map Nat := []            -- tile -> T2 frame of its capture
  preimages : Map Nat := []           -- tile -> T2 frame of its pre-image
  partParity : Bool := false
  partSnap : Bool := false
  reports : Nat := 0                  -- coordinator's counter
  nextStep : Nat := 0                 -- step whose BOUNDARY secures
  secureNow : Bool := false
  openedNs : Option Nat := none       -- R20: fabric time at which the last generation opened
  fullForm : Bool := false
  parity : Map Byte := []             -- R327, R328: parity bytes of the committed generation (log 17)
  stripes : List (Nat × StripeSend) := []   -- R258: generation and share of the sends that wait for a tracker entry
  accum : Map Byte := []              -- R327: stripe accumulator bytes of the open securing
  heldLoss : Option F32 := none       -- R389
  costs : List Rat := []              -- R392: c of the last generations, seconds
  durations : List Rat := []          -- R392: durations of steps that overlapped no open generation
  costSum : Rat := 0
  costSteps : Nat := 0
  commitStep : Option Nat := none
  recoveries : List Nat := []         -- R393: TAI times
  rankFromNs : Nat := 0
  lateCount : Nat := 0
  sinceSnap : List Nat := []          -- R379: tiles of increments since the previous snapshot
  deriving DecidableEq, Repr

/-- Recovery states (R397, R400, R404). -/
inductive RecState where
  | none_
  | halting
  | selecting
  | cursorCheck
  | refilling
  | checking
  | replaying
  | waitingForModule
  | verifyFailed
  | lost
  deriving DecidableEq, Repr

/-- A recovery (R395 to R405). -/
structure Recovery where
  state : RecState := .none_
  trigger : Nat := 0
  triggerNs : Nat := 0
  stepAt : Nat := 0                   -- step counter at the trigger
  target : Option SecRec := none
  targetSnap : Bool := false
  lost : List Nat := []
  filling : List Nat := []            -- positions whose replacement is not yet filled
  replaced : Nat := 0
  hostCursor : Option Nat := none
  override : Bool := false
  retried : Bool := false
  restarts : Nat := 0
  handle : Nat := 0
  lastSeq : Nat := 0
  verify : Nat := 2
  deriving DecidableEq, Repr

/-- Re-shard states (R332). -/
inductive ReshardState where
  | idle
  | requested
  | atBoundary
  | drainingOld
  | permuting
  | committing
  deriving DecidableEq, Repr

/-- A re-shard (R331 to R335). -/
structure Reshard where
  state : ReshardState := .idle
  boundary : Nat := 0
  moves : List PermuteMove := []
  sent : Nat := 0
  acked : Nat := 0
  reports : Nat := 0
  commitNs : Nat := 0
  queued : Option ReshardReq := none
  newFrames : List (Nat × TileEntry × TileHdr) := []
  flows : List (Nat × List Nat × Nat) := []   -- flows of the new layout: device, rank, queue
  secureBytes : Nat := 0              -- R382: the NAND reservation of the new layout
  deriving DecidableEq, Repr

/-- A member's place in the plan, and what the coordinator gathers (R342 to R346, R372). -/
structure Plan where
  set : List (Nat × Nat) := []        -- device and container label
  coordinator : Bool := false
  planned : Bool := false
  accepted : Bool := false
  opened : List Nat := []             -- devices whose planning flow is open
  startNs : Nat := 0                  -- TAI time of the START, for the 30 s of R454
  devices : List Nat := []            -- device at each linear position
  axisOrder : List Nat := []          -- 0 TP, 1 PP, 2 DP, 3 EP
  position : Nat := 0
  rank : Option (List Nat) := none    -- tp, pp, dp, ep; none for a standby module
  warm : List Nat := []               -- W_r
  warnings : List (Nat × Nat) := []
  retain : List (Nat × Bool) := []
  bubblePm : Nat := 0
  stepNs : Nat := 0
  links : List LinkMeasure := []
  gridStart : Nat := 0
  refusals : List (Nat × Nat × Nat × Nat × Nat × Nat) := []  -- cause, core, slot, required, available, unit
  status : Nat := 1
  replies : List MemberReply := []    -- what the members answered, for the plan report (R372)
  deriving DecidableEq, Repr

/-- The job of a context (R338, R367, R460). Phase 0 none, 1 loading, 2 loaded, 3 starting, 4 running. -/
structure Job where
  phase : Nat := 0
  image : Option JobImage := none
  selfTest : Bool := false
  replicated : Bool := false
  handle : Nat := 0
  reportAddr : Nat := 0
  reportLen : Nat := 0
  fn : Nat := 0
  epoch : Nat := 0
  events : List EvtEntry := []
  step : Nat := 0                     -- step counter, 40 bits
  stepStart : Nat := 0                -- fabric nanoseconds
  firstDone : Bool := false
  notBefore : Nat := 0                -- R333: the next step starts at or after this fabric time
  lateSteps : Nat := 0
  layoutEpoch : Nat := 0
  boundaryDue : Bool := false
  prefetchDue : Bool := false
  imageFrames : Nat := 0
  plan : Plan := {}
  reshard : Reshard := {}
  validating : Nat := 0
  stepsLeft : Option Nat := none
  restore : Bool := false             -- R566: started from the admin mailbox while this module keeps a generation of the JOB_ID
  failedModules : List Nat := []
  evDone : List (Nat × Nat) := []     -- R371: the entries of the event table applied in this step
  hyperAt : List (Nat × Nat × Nat) := []   -- R365: the hyperparameter records written: core, address, step
  deriving DecidableEq, Repr

/-- A digest slot (R420). State 0 FETCHING, 1 SEALED, 2 WRITTEN, 3 MISMATCH. -/
structure DSlot where
  state : Nat := 0
  bank : Nat := 0
  firstTile : Nat := 0
  tiles : Nat := 0
  generation : Nat := 0
  digest : List Byte := []
  shardId : Nat := 0
  tier : Nat := 1
  policy : Nat := 0
  hostAddr : Nat := 0
  hdrAddr : Nat := 0
  handle : Nat := 0
  fn : Nat := 0                       -- R416: the function through which the shard is fetched
  reloaded : Bool := false            -- R424: the reload after an arrival mismatch has been used
  reread : Bool := false              -- R424: the reload after a read-back mismatch has been used
  arrived : Bool := false
  deriving DecidableEq, Repr

/-- The weights of a context (R410 to R434). -/
structure Weights where
  regions : List (Nat × Nat) := []    -- first tile and tiles
  genCounter : Nat := 0
  bankGen : Nat × Nat := (0, 0)
  bankRepl : Nat × Nat := (0, 0)
  refusals : List (Nat × Nat × Nat × Nat × Nat × Nat) := []   -- R415: the itemised refusal of the last list refused
  active : Nat := 0                   -- punty ACTIVE
  pending : Bool := false             -- punty PENDING
  switchStep : Nat := 0               -- s_w
  slots : Map DSlot := []
  periodS : Nat := 600
  passNs : Nat := 0
  passLeft : List Nat := []           -- slots still to check in the pass
  passLate : Bool := false            -- R422: the pass under way has been counted late
  late : Nat := 0
  reported : Bool := false
  reports : Nat := 0
  switchHandle : Nat := 0
  switchRepl : Nat := 0
  loads : List Nat := []              -- R434: handles of loads into the inactive bank whose shards are SEALED
  earliestStep : Nat := 0
  earliestNs : Nat := 0
  deriving DecidableEq, Repr

/-! ## Contexts -/

/-- Context lifecycle states (R460). -/
inductive CtxState where
  | free
  | queued
  | ready
  | loaded
  | running
  | tearing
  deriving DecidableEq, Repr

/-- An OPEN that waits until the context holds fewer flows than its grant allows (R248): peer, rank, queue, path set size, planning flow. -/
structure OpenAsk where
  peer : Nat
  rank : List Nat
  queue : Nat
  paths : Nat
  planning : Bool
  deriving DecidableEq, Repr

/-- The grant fields of CREATE (R452). -/
structure Grants where
  t0 : List Nat := []
  t1 : List Nat := []
  t2 : Nat := 0
  flows : Nat := 0
  entries : Nat := 16384
  slots : Nat := 4096
  collSlots : Nat := 1024
  migSlots : Nat := 32
  deriving DecidableEq, Repr

/-- A CREATE that waits behind a teardown (R462). -/
structure PendCreate where
  flags : Nat
  coreMask : Nat
  authKey : List Byte
  grants : Grants
  regions : List (Nat × Nat)
  handle : Nat
  behind : List Nat
  deriving DecidableEq, Repr

/-- A T3 window granted to a context (R213). -/
structure T3Win where
  lender : Nat
  window : Nat
  firstTile : Nat
  base : Nat := 0                     -- the frame of the window in which its first tile lies (log 14)
  deadline : Option Nat := none       -- R214: reclaim notice received
  deriving DecidableEq, Repr

/-- What a SAMPLING command names: which ops, and the ring in host memory that takes their records (R529, R530). -/
structure SampRing where
  rateLog2 : Nat := 0
  coreMask : Nat := 0
  classMask : Nat := 0
  bufAddr : Nat := 0
  bufLen : Nat := 0
  producer : Nat := 0
  consumer : Nat := 0
  fn : Nat := 0
  written : Nat := 0
  deriving DecidableEq, Repr

/-- Sampling of a context (R529 to R532) and an armed replay trace (R535, R536). -/
structure Sampling where
  on : Bool := false
  samp : SampRing := {}
  armed : Option Nat := none
  tracing : Bool := false
  trace : SampRing := {}
  deriving DecidableEq, Repr

/-- A counter slot (R524). -/
structure Ctr where
  value : Nat := 0
  ovf : Bool := false
  deriving DecidableEq, Repr

/-- One context (R193, R198, R452, R460). -/
structure Ctx where
  state : CtxState := .free
  sealed_ : Bool := false
  permit : Bool := false
  coreMask : Nat := 0
  authKey : List Byte := []
  grants : Grants := {}
  pend : Option PendCreate := none
  tearHandle : Nat := 0
  keepSnapshots : Bool := false
  tearNs : Nat := 0
  fenced : Bool := false
  fenceDue : Bool := false            -- R225: a fence waits for the next tile-op boundary
  tiles : Map TileEntry := []         -- bank 0 entries and ordinary tiles
  bank1 : Map TileEntry := []         -- R410: bank 1 entries of weight regions
  hdrs : Map TileHdr := []            -- headers of `tiles`
  hdrs1 : Map TileHdr := []
  t3 : List T3Win := []
  events : Map Nat := []              -- R173: 256 counters of 32 bits
  colls : Map CollRec := []
  insts : Map CollInst := []          -- record × 2³² + number
  job : Job := {}
  updates : List Update := []         -- R362
  feed : Feed := {}
  sec : Sec := {}
  recov : Recovery := {}
  weights : Weights := {}
  cc : CcParams := {}
  opens : List OpenAsk := []          -- R248
  secured : List Nat := []            -- R375: tiles created secured
  sampling : Sampling := {}
  counters : Map Ctr := []            -- R526
  resNs : Option Nat := none          -- R201: last residency pass
  logOverflow : Nat := 0              -- R466
  nandReserve : Nat := 0              -- R382: bytes
  ranJobs : List Nat := []            -- R461: JOB_IDs whose generations the context has written
  deriving DecidableEq, Repr

/-! ## Mailboxes, handles, log -/

/-- A session of a mailbox (R446 to R451). -/
structure Session where
  isOpen : Bool := false              -- MBX_STATUS.SESSION reads 2; 1 while only `opening` holds
  password : Bool := false
  kReq : List Byte := []
  kRsp : List Byte := []
  opening : Bool := false             -- OPEN_SM2 or OPEN_PASSWORD has been answered and CONFIRM is awaited
  newReq : List Byte := []            -- the keys of the session that opens
  newRsp : List Byte := []
  expectA : List Byte := []           -- the confirmation the module expects
  nH : List Byte := []
  nM : List Byte := []
  fails : Nat := 0
  deriving DecidableEq, Repr

/-- A mailbox page (R437 to R441). -/
structure Mailbox where
  lastTag : Nat := 0
  lastStatus : Nat := 0
  done : Bool := false
  busy : Bool := false                -- R438 BUSY and ACK: a command is accepted and not yet answered
  overrun : Bool := false
  event : Bool := false
  notifySev : Nat := 2                -- R439
  irqEvent : Bool := false
  irqDone : Bool := false
  epoch : Nat := 0
  nextTag : Nat := 0
  req : Map Byte := []                -- request header and body, offsets 0x040 to 0x7FF
  rsp : List Byte := []               -- response header and body from 0x800
  session : Session := {}
  serialNo : Nat := 0                 -- R457: last handle SERIAL given
  challenge : Option (List Byte × Nat) := none   -- R497: value and TAI time
  deriving DecidableEq, Repr

/-- A handle's operation (R457, R458). -/
structure Handle where
  mb : Nat
  op : Nat
  ctx : Option Nat := none
  phase : Nat := 0
  done : Nat := 0
  total : Nat := 0
  status : Nat := 0
  fin : Bool := false
  doneNs : Nat := 0                   -- fabric or TAI nanoseconds of completion
  arg : Nat := 0                      -- operation-specific: window, lane, core ...
  arg2 : Nat := 0
  addr : Nat := 0
  len : Nat := 0
  fn : Nat := 0
  units : List Nat := []              -- the banks that a DRAM repair has done, by key
  deriving DecidableEq, Repr

/-- The record of an event log entry (R464), as its bytes. -/
structure LogEntry where
  seq : Nat
  type : Nat
  sev : Nat
  ctx : Nat                           -- 0xFFFF for none
  taiNs : Nat
  cycle : Nat
  body : List Byte
  deriving DecidableEq, Repr

/-! ## Power, lifecycle, start-up -/

/-- Power states (R513). -/
inductive PowerState where
  | active
  | idle
  | standby
  | off
  deriving DecidableEq, Repr

/-- Power, caps and temperatures (R499 to R518). -/
structure Power where
  state : PowerState := .active
  capW : Nat := 650                   -- R507
  sealedW : Nat := 650
  nextCap : Option (Nat × Nat) := none   -- R507: takes effect at the next sample
  nSh : Nat := 64                     -- R506
  nT : Nat := 64                      -- R517
  mv : Nat := 0
  ma : Nat := 0
  mw : Nat := 0
  samples : List (Nat × Nat × Nat) := []  -- the last 100 samples (1 ms): mV, mA, mW
  sumMw : List Nat := []              -- the last second of samples, mW, newest first
  sampleNs : Nat := 0                 -- R500: TAI time of the last sample
  capTickNs : Nat := 0                -- R506: TAI time of the last 1 ms step of rule 3
  thermTickNs : Nat := 0              -- R517: TAI time of the last 1 ms step
  fellAt : Option Nat := none         -- cycle of the last fall of n_sh
  capLogNs : Option Nat := none
  rangeLogNs : Option Nat := none
  outside : Bool := false
  temps : Map Int := []               -- part × 64 + sensor -> 0.01 °C; absent reads 2500 (log 3)
  slices : Map Nat := []              -- R234: layer × 12 + slice -> 0 normal, 1 halved interval, 2 limited
  tripped : Bool := false             -- R518: a trip is in force
  throttleBy : Nat := 0               -- R517: part × 64 + sensor that began the throttling
  wait : Option Req := none           -- R514: a POWER STATE command that waits for reclaims before standby
  deriving DecidableEq, Repr

/-- A signed record in the replay-protected region (R491). -/
structure SignedRec where
  counter : Nat := 0
  bytes : List Byte := []
  valid : Bool := false
  deriving DecidableEq, Repr

/-- A lifecycle or debug transition that scrubs (R486). -/
structure Transition where
  toLife : Nat
  toDebug : Nat
  handle : Nat
  begun : Bool := false               -- R488: false while it waits for work in progress
  tears : Bool := true                -- every context is torn down
  windows : Bool := false             -- lent windows are reclaimed
  eraseNand : Bool := false           -- every generation on NAND is erased
  zeroDram : Bool := false            -- T1 and T2 are zero-filled
  eraseOwner : Bool := false          -- the owner's records are erased
  gafferReset : Bool := false
  resetting : Bool := false           -- its gaffer reset is in progress
  deriving DecidableEq, Repr

/-- Lifecycle, debug level, records, anti-rollback counters and firmware slots (R468 to R470, R483 to R498). -/
structure Life where
  state : Nat := 2                    -- R483; a signed record holds it over a reset (log 3)
  debug : Nat := 0                    -- R485
  opened : Bool := false              -- R496 FLAGS bit 0
  trans : Option Transition := none
  records : Map SignedRec := []       -- R491, by TYPE
  fwCounter : Nat := 0                -- R494
  tablesCounter : Nat := 0
  countersNo : Nat := 0               -- R491: COUNTER of the COUNTERS record
  slotImages : List FwImage := []     -- slot A, slot B
  lastSlot : Nat := 0                 -- the slot that last activated
  slot : Nat := 3                     -- running slot, 3 none
  staged : Bool := false
  tables : FwImage := {}
  newTables : Option FwImage := none
  fwSwitch : Bool := false            -- R438 FW_SWITCH
  deriving DecidableEq, Repr

/-- Start-up stages (R558), as STAGE of R556. -/
structure Startup where
  stage : Nat := 1                    -- R556: reset 0x1
  pfwHeld : Bool := false
  pwrok : Bool := false
  cause : Nat := 2                    -- R556 RESET_CAUSE: MOD_RST_N
  failCode : Nat := 0
  coresHealthy : Nat := 0
  noModule : Bool := false
  noOwner : Bool := false
  fallback : Bool := false
  atCycle : Nat := 0                  -- cycle of the reset, for event 0x001A
  passed : List Nat := []             -- physical cores that passed R562
  gafferDown : Bool := false          -- R565: a gaffer reset is in progress
  inReset : Bool := false             -- R551
  portsDone : Bool := false           -- R563: PORTS has ended while the sequence is held before READY
  deriving DecidableEq, Repr

/-- A module-initiated transfer that holds or waits for a DMA channel (R416, R547): the function it runs through, its handle, and of a weight load's shard
the context and digest slot. -/
structure DmaXfer where
  fn : Nat
  handle : Nat := 0
  shard : Option (Nat × Nat) := none
  bytes : Nat
  deriving DecidableEq, Repr

/-- The PCI Express side (R544 to R549). -/
structure Pcie where
  linkUp : Bool := false
  vfEnabled : Map Bool := []
  maxRead : Nat := 512                -- R544, R547: Max Read Request Size in bytes (log 92)
  dma : List DmaXfer := []            -- R547: transfers in order of acceptance
  deriving DecidableEq, Repr

/-- The states of the test access port of the debug port (R553), those of the controller of IEEE 1149.1 (log 93). -/
inductive Tap where
  | reset
  | idle
  | selectDr
  | captureDr
  | shiftDr
  | exit1Dr
  | pauseDr
  | exit2Dr
  | updateDr
  | selectIr
  | captureIr
  | shiftIr
  | exit1Ir
  | pauseIr
  | exit2Ir
  | updateIr
  deriving DecidableEq, Repr

/-- Sideband pins (R541) and the SMBus registers (R555 to R557). -/
structure Pins where
  tap : Tap := .reset                 -- R553
  pfwAsserted : Bool := false         -- R550, after the filter
  pfwNs : Nat := 0                    -- TAI time of the assertion
  releaseNs : Option Nat := none
  journaled : Bool := false           -- R407: the journal commit block is written
  nandClosed : Bool := false
  quiesced : Bool := false
  thermN : Bool := true
  perstN : Bool := false
  smbAddr : Nat := 0x58               -- R554
  alertStatus : Nat := 0              -- R557
  alertMask : Nat := 0                -- R555: reset 0x0000
  deriving DecidableEq, Repr

/-- The NAND journal commit block (R407, R566). -/
structure Journal where
  valid : Bool := false
  pfw : Bool := false
  own : Map Nat := []                 -- job -> its newest snapshot generation of this member wholly on NAND
  mirror : Map Nat := []              -- the same of the member it mirrors
  deriving DecidableEq, Repr

/-- What the module drives outward, in order: DMA writes, MSI-X vectors, frames, completions of accesses, SMBus answers.
The model's own record of its outputs (log 12). -/
inductive Output where
  | dmaWrite (fn addr : Nat) (data : List Byte)
  | msix (fn vec : Nat)
  | frame (mac : Nat) (f : Frame)
  | completion (data : List Byte)
  | unsupported
  | smbus (data : List Byte)
  | smbNack
  deriving DecidableEq, Repr

/-- The module. -/
structure State where
  pending : List Instr := []
  out : List Output := []
  fresh : Nat := 0                    -- model's own: how many free values have been drawn (log 5)
  clk : Clock := {}
  mem : List Host.Cell := []          -- T0, T1 and T2 by physical address; unlisted reads 0 (R558, R208)
  deviceId : Nat := 0                 -- R11; log 3
  cores : Map Core := []
  ctxs : Map Ctx := []
  migs : List Mig := []
  asks : List MigAsk := []
  stalled : List Stalled := []
  migRr : Nat := 0                    -- R206
  verifyLast : Nat := 0               -- R422: the context whose shard the background verifier took last
  lend : Map LendWin := []
  banks : Map BankErr := []
  rowCopies : List RowCopy := []
  rowMap : List (BankLoc × Nat × Nat) := []   -- R230: bank, row, and the spare row in force for it
  withdrawn : List (Nat × Nat) := []  -- R231: tier and bank number withdrawn
  retiredFrames : List (Nat × Nat) := []   -- R461, R210: tier and frame retired; a T0 window counts as core × 128 + window
  freed : List (Nat × Nat × Nat) := []     -- R208: tier, frame and context of the frames that a context has released and no teardown has scrubbed
  tcache : List TEntry := []          -- R195: the fabric unit's translation cache, most recently used first
  laneSpares : List (Nat × Nat) := [] -- R229: channel and lane spared
  bankSpares : List Nat := []         -- slices whose spare bank is used
  culls : List Cullet := []
  arrayErrs : List (Nat × Nat) := []  -- R108: physical array (PC × 4 + array) and TAI time
  flows : Map Flow := []
  trk : Map Trk := []
  trkNext : Nat := 0
  ctrl : List CtrlMsg := []
  ctrlSeen : List (Nat × Nat × Nat) := []   -- R275: source device and MSG_ID already handled, and when (TAI nanoseconds)
  ctrlNext : Nat := 0
  fcache : List Nat := []             -- R247: the flow contexts on the die, most recently used first
  atoms : List (Nat × Nat × Nat × Nat) := []   -- R257: cycle, context, address and flow of the atomics of the present cycle
  probes : List (Nat × Nat × Nat × Nat × Nat) := []   -- R280: port, peer, size class, probe number, TAI time sent
  probeLast : Map Nat := []           -- R280: port × 2¹⁶ + peer -> TAI time of the last reply of the 4,096-byte class
  links : List LinkMeasure := []
  macs : Map Mac := []
  ports : Map Port := []
  lanes : Map Lane := []
  recal : Option (Nat × Nat) := none  -- R302: lane under re-calibration and its start cycle
  recalPeriodS : Nat := 600
  fwd : Map FwdEntry := []
  peersIp : Map Nat := []             -- R238: device -> IP version × 2¹²⁸ + address
  fwdDropNs : Map Nat := []           -- R273: DST_DEV -> TAI time of the last drop logged
  hopLimit : Nat := 32                -- R241
  ecnDraws : Nat := 0
  mailboxes : Map Mailbox := []
  pwFails : List Nat := []            -- R448: TAI times of failed confirmations
  lockedUntil : Nat := 0              -- R448
  handles : Map Handle := []
  log : List LogEntry := []           -- oldest first
  logNext : Nat := 0
  logOverflow : Nat := 0
  counters : Map Ctr := []            -- R527
  nand : List NandGen := []
  journal : Journal := {}
  power : Power := {}
  life : Life := {}
  start : Startup := {}
  pcie : Pcie := {}
  pins : Pins := {}
  deriving DecidableEq, Repr

/-- The module right after a module reset (R551, R564): start-up at ROM, every register at its reset value, memory with nothing
listed, no context; log 3 names the values the manual does not give. -/
def State.reset : State := {}

end Sys2Proof.Machine
end

