-- ==== Sys2Proof/Machine/Ops.lean ====
section
/-! DEFINITION. The named operations over the state that the meanings share: sparse tables, byte strings, memory, time,
the event log (R464 to R466), counters (R524), handles (R457), interrupts (R439), alerts (R557) and the fence of R226. -/

namespace Sys2Proof

/-! ## Sparse tables -/

/-- The entry of key `k`, if listed. -/
def Map.find {α : Type} : Map α → Nat → Option α
  | [], _ => none
  | (k', v) :: m, k => if k' = k then some v else Map.find m k

/-- The entry of key `k`, or the default of the table. -/
def Map.getOr {α : Type} (m : Map α) (k : Nat) (d : α) : α := (m.find k).getD d

/-- The table with `k` holding `v`, its keys still rising. -/
def Map.set {α : Type} : Map α → Nat → α → Map α
  | [], k, v => [(k, v)]
  | (k', v') :: m, k, v =>
    if k < k' then (k, v) :: (k', v') :: m
    else if k' = k then (k, v) :: m
    else (k', v') :: Map.set m k v

/-- The table without `k`. -/
def Map.del {α : Type} (m : Map α) (k : Nat) : Map α := m.filter (fun e => e.1 != k)

/-- The table with the entry of `k` changed by `f`, starting from the default where it is absent. -/
def Map.upd {α : Type} (m : Map α) (k : Nat) (d : α) (f : α → α) : Map α := m.set k (f (m.getOr k d))

def Map.has {α : Type} (m : Map α) (k : Nat) : Bool := (m.find k).isSome

/-- Every value changed by `f`. -/
def Map.vals {α : Type} (m : Map α) (f : Nat → α → α) : Map α := m.map (fun e => (e.1, f e.1 e.2))

/-! ## Bits and bytes -/

/-- Bits h down to l of a number (R5). -/
def bits (x h l : Nat) : Nat := x / 2 ^ l % 2 ^ (h + 1 - l)

/-- Bit i of a number. -/
def bit (x i : Nat) : Bool := x / 2 ^ i % 2 == 1

/-- A little-endian number (R6). -/
def leNat : List Byte → Nat
  | [] => 0
  | b :: r => b.toNat + 256 * leNat r

/-- The n little-endian bytes of a number (R6). -/
def leBytes : Nat → Nat → List Byte
  | 0, _ => []
  | n + 1, x => BitVec.ofNat 8 x :: leBytes n (x / 256)

/-- A big-endian number (R6, R243). -/
def beNat (bs : List Byte) : Nat := leNat bs.reverse

/-- The n big-endian bytes of a number. -/
def beBytes (n x : Nat) : List Byte := (leBytes n x).reverse

/-- The bytes [off, off + n) of a string. -/
def sub (bs : List Byte) (off n : Nat) : List Byte := (bs.drop off).take n

/-- The little-endian field of n bytes at `off`. -/
def le (bs : List Byte) (off n : Nat) : Nat := leNat (sub bs off n)

/-- The big-endian field of n bytes at `off`. -/
def be (bs : List Byte) (off n : Nat) : Nat := beNat (sub bs off n)

/-- n zero bytes. -/
def zeros (n : Nat) : List Byte := List.replicate n 0#8

/-- A byte string cut or zero-filled to n bytes. -/
def padTo (n : Nat) (bs : List Byte) : List Byte := bs.take n ++ zeros (n - bs.length)

/-- A two's-complement number of n bits. -/
def toSigned (n x : Nat) : Int := if x % 2 ^ n < 2 ^ (n - 1) then Int.ofNat (x % 2 ^ n) else Int.ofNat (x % 2 ^ n) - 2 ^ n

/-- The n-bit two's-complement code of an integer. -/
def ofSigned (n : Nat) (x : Int) : Nat := (x % 2 ^ n).toNat

/-- Division rounded up. -/
def ceilDiv (a b : Nat) : Nat := (a + b - 1) / b

/-- Serial comparison of R173 and R259 on 32-bit numbers: a has reached b. -/
def serialGe (a b : Nat) : Bool := (a + 4294967296 - b % 4294967296) % 4294967296 < 2147483648

/-- a saturated at m. -/
def satAt (m a : Nat) : Nat := min m a

/-- A time in units of 2⁻¹⁶ ns. -/
def FTime.units (t : FTime) : Nat := t.ns * 65536 + t.frac

/-- The time of a count of units. -/
def FTime.ofUnits (u : Nat) : FTime := { ns := u / 65536, frac := u % 65536 }

/-! ## Memory

One list of cells for T0, T1, T2, the T3 tiles and the module's physical space; an unlisted address reads 0 (R558, R208). -/

namespace Machine

/-- The byte at a physical address. -/
def Memory.get : List Host.Cell → Nat → Byte
  | [], _ => 0#8
  | (k, b) :: m, a => if k = a then b else Memory.get m a

/-- The cells that hold a byte string at an address: the nonzero bytes, in order. -/
def Memory.cells : Nat → List Byte → List Host.Cell
  | _, [] => []
  | a, b :: r => if b = 0#8 then Memory.cells (a + 1) r else (a, b) :: Memory.cells (a + 1) r

/-- The memory with the cells of [a, a + n) replaced. -/
def Memory.splice (m : List Host.Cell) (a n : Nat) (cs : List Host.Cell) : List Host.Cell :=
  m.filter (fun c => decide (c.1 < a)) ++ cs ++ m.filter (fun c => decide (a + n ≤ c.1))

/-- The memory with a byte string written at an address. -/
def Memory.write (m : List Host.Cell) (a : Nat) (bs : List Byte) : List Host.Cell :=
  Memory.splice m a bs.length (Memory.cells a bs)

/-- n bytes from an address. -/
def Memory.read (m : List Host.Cell) (a n : Nat) : List Byte := (List.range n).map (fun i => Memory.get m (a + i))

/-- The memory with [a, a + n) zero-filled. -/
def Memory.clear (m : List Host.Cell) (a n : Nat) : List Host.Cell := Memory.splice m a n []

/-- The memory with the n bytes at `src` copied to `dst`. -/
def Memory.copy (m : List Host.Cell) (src dst n : Nat) : List Host.Cell :=
  Memory.splice m dst n
    ((m.filter (fun c => decide (src ≤ c.1 ∧ c.1 < src + n))).map (fun c => (c.1 - src + dst, c.2)))

/-- The memory with [a, a + n) holding what cells numbered from 0 hold. -/
def Memory.load (m : List Host.Cell) (a n : Nat) (cells : List Host.Cell) : List Host.Cell :=
  cells.foldl (fun m c => if c.1 < n then Memory.write m (a + c.1) [c.2] else m) (Memory.clear m a n)

/-- The canonical form: addresses strictly rising, no cell holding 0. -/
def Memory.wf : List Host.Cell → Bool
  | [] => true
  | [(_, b)] => b != 0#8
  | (a, b) :: (a', b') :: m => b != 0#8 && decide (a < a') && Memory.wf ((a', b') :: m)

/-! ## The parts of the state -/

/-- [a, a + n) of the memory tiers zero-filled. -/
def State.clearMem (s : State) (a n : Nat) : State := { s with mem := Memory.clear s.mem a n }

def State.core (s : State) (c : Nat) : Core := s.cores.getOr c {}
def State.setCore (s : State) (c : Nat) (v : Core) : State := { s with cores := s.cores.set c v }
def State.updCore (s : State) (c : Nat) (f : Core → Core) : State := s.setCore c (f (s.core c))
def State.ctx (s : State) (x : Nat) : Ctx := s.ctxs.getOr x {}
def State.setCtx (s : State) (x : Nat) (v : Ctx) : State := { s with ctxs := s.ctxs.set x v }
def State.updCtx (s : State) (x : Nat) (f : Ctx → Ctx) : State := s.setCtx x (f (s.ctx x))
def State.flow (s : State) (f : Nat) : Flow := s.flows.getOr f {}
def State.setFlow (s : State) (f : Nat) (v : Flow) : State := { s with flows := s.flows.set f v }
def State.updFlow (s : State) (f : Nat) (g : Flow → Flow) : State := s.setFlow f (g (s.flow f))
def State.mac (s : State) (m : Nat) : Mac := s.macs.getOr m {}
def State.setMac (s : State) (m : Nat) (v : Mac) : State := { s with macs := s.macs.set m v }
def State.updMac (s : State) (m : Nat) (f : Mac → Mac) : State := s.setMac m (f (s.mac m))
def State.port (s : State) (p : Nat) : Port := s.ports.getOr p {}
def State.setPort (s : State) (p : Nat) (v : Port) : State := { s with ports := s.ports.set p v }
def State.updPort (s : State) (p : Nat) (f : Port → Port) : State := s.setPort p (f (s.port p))
def State.lane (s : State) (l : Nat) : Lane := s.lanes.getOr l {}
def State.updLane (s : State) (l : Nat) (f : Lane → Lane) : State := { s with lanes := s.lanes.upd l {} f }
def State.mbox (s : State) (m : Nat) : Mailbox := s.mailboxes.getOr m {}
def State.setMbox (s : State) (m : Nat) (v : Mailbox) : State := { s with mailboxes := s.mailboxes.set m v }
def State.updMbox (s : State) (m : Nat) (f : Mailbox → Mailbox) : State := s.setMbox m (f (s.mbox m))
def State.handle (s : State) (h : Nat) : Option Handle := s.handles.find h
def State.setHandle (s : State) (h : Nat) (v : Handle) : State := { s with handles := s.handles.set h v }
def Core.ring (c : Core) (r : Nat) : Ring := c.rings.getOr r {}
def Core.setRing (c : Core) (r : Nat) (v : Ring) : Core := { c with rings := c.rings.set r v }
def Core.updRing (c : Core) (r : Nat) (f : Ring → Ring) : Core := c.setRing r (f (c.ring r))
def State.ring (s : State) (c r : Nat) : Ring := (s.core c).ring r
def State.updRing (s : State) (c r : Nat) (f : Ring → Ring) : State := s.updCore c (fun k => k.updRing r f)
def State.updJob (s : State) (x : Nat) (f : Job → Job) : State := s.updCtx x (fun c => { c with job := f c.job })
def State.updSec (s : State) (x : Nat) (f : Sec → Sec) : State := s.updCtx x (fun c => { c with sec := f c.sec })
def State.updRecov (s : State) (x : Nat) (f : Recovery → Recovery) : State := s.updCtx x (fun c => { c with recov := f c.recov })
def State.updWeights (s : State) (x : Nat) (f : Weights → Weights) : State := s.updCtx x (fun c => { c with weights := f c.weights })

/-- The outputs of the module with one more. -/
def State.emit (s : State) (o : Output) : State := { s with out := s.out ++ [o] }

/-- A DMA write to host memory through a function (R445). -/
def State.dma (s : State) (fn addr : Nat) (data : List Byte) : State := s.emit (.dmaWrite fn addr data)

/-- The state after a free value has been drawn: the drawn value is that of the old counter (log 5). -/
def State.draw (s : State) : State := { s with fresh := s.fresh + 1 }

/-! ## Time (R17, R19, R297; log 4) -/

/-- The numerator of the clock's advance for each cycle, over 21 × 10⁹: 20/21 ns with the servo's correction (R300). -/
def Clock.gain (c : Clock) : Nat := (65536 * 20 * (1000000000 + c.freqPpb)).toNat

/-- The clock n cycles later. -/
def Clock.advance (c : Clock) (n : Nat) : Clock :=
  let total := c.rem + n * c.gain
  { c with
    cycle := (c.cycle + n) % 2 ^ 64
    tai := FTime.ofUnits (c.tai.units + total / 21000000000)
    rem := total % 21000000000 }

/-- The state n cycles later. -/
def State.advance (s : State) (n : Nat) : State := { s with clk := s.clk.advance n }

/-- The state at the cycle named, or as it is when that cycle has passed (log 4). -/
def State.toCycle (s : State) (t : Nat) : State := s.advance (t - s.clk.cycle)

/-- The state at the TAI nanosecond named, or as it is when that time has passed (log 4). -/
def State.toTai (s : State) (ns : Nat) : State :=
  if ns ≤ s.clk.tai.ns then s
  else
    let t := s.advance ((ns * 65536 - s.clk.tai.units) * 21000000000 / s.clk.gain)
    { t with clk := { t.clk with tai := { ns := max ns t.clk.tai.ns, frac := if ns ≤ t.clk.tai.ns then t.clk.tai.frac else 0 } } }

/-- Fabric time of a context: the PTP clock less the epoch of its job (R17, R297). While the clock stands before the epoch it reads 0: the manual gives
an unsigned count since the epoch and no value before it (DESIGN CHOICE, log 78). -/
def State.fabricNs (s : State) (x : Nat) : Nat := s.clk.tai.ns - (s.ctx x).job.epoch

/-- The fabric time at which the fabric clock of a context reads ns, as TAI. -/
def State.toFabric (s : State) (x ns : Nat) : State := s.toTai ((s.ctx x).job.epoch + ns)

/-- A cycle is an issue slot at the fraction n (R99). -/
def isSlot (cycle n : Nat) : Bool := cycle % 64 < n

/-- The first issue slot at or after a cycle; the cycle itself when n is 0. -/
def nextSlot (cycle n : Nat) : Nat :=
  if n = 0 then cycle else if cycle % 64 < n then cycle else cycle + (64 - cycle % 64)

/-! ## Counters (R524 to R527) -/

/-- A counter with k added, modulo 2⁴⁸, OVF set on a wrap. -/
def Ctr.add (c : Ctr) (k : Nat) : Ctr := { value := (c.value + k) % 2 ^ 48, ovf := c.ovf || decide (2 ^ 48 ≤ c.value + k) }

/-- Context counter i of context x raised by k. -/
def State.count (s : State) (x i k : Nat) : State :=
  s.updCtx x (fun c => { c with counters := c.counters.upd i {} (fun v => v.add k) })

/-- Module counter i raised by k. -/
def State.countM (s : State) (i k : Nat) : State := { s with counters := s.counters.upd i {} (fun v => v.add k) }

/-- Event k of R103 on a core, for the context named (none: counted for the module alone) (R526, R527). -/
def State.countCore (s : State) (c k n : Nat) (x : Option Nat) : State :=
  let s := s.countM (0x0D00 + 10 * c + k) n
  match x with
  | some x => s.count x (10 * c + k) n
  | none => s

/-- Counter k of MAC m (R527). -/
def State.countMac (s : State) (m k n : Nat) : State := s.countM (0x0200 + 80 * m + k) n

/-- Fabric counter k (R527). -/
def State.countFab (s : State) (k : Nat) : State := s.countM (0x0C00 + k) 1

/-! ## Interrupts and the event log -/

/-- The function that decodes mailbox page m and its first vector (R439, log 13). -/
def State.mbVector (s : State) (m : Nat) : Nat × Nat :=
  if m = 0 then (0, 0)
  else if s.pcie.vfEnabled.getOr (m - 1) false then (m, 0)
  else (0, 2 * m)

/-- A visible entry of severity sev reaches mailbox m: EVENT, and the interrupt when EVENT becomes 1 (R438, R439). -/
def State.notify (s : State) (m sev : Nat) : State :=
  let b := s.mbox m
  if sev < b.notifySev ∨ b.event then s
  else
    let s := s.setMbox m { b with event := true }
    if b.irqEvent then s.emit (.msix (s.mbVector m).1 ((s.mbVector m).2 + 1)) else s

/-- Context code of an entry that belongs to none. -/
def noCtx : Nat := 0xFFFF

/-- The log without its oldest entry when the ring of 65,536 is full, with the overflow counters (R466). -/
def State.logRoom (s : State) : State :=
  if s.log.length < 65536 then s
  else
    match s.log with
    | [] => s
    | e :: r =>
      let s := { s with log := r, logOverflow := satAt 4294967295 (s.logOverflow + 1) }
      if e.ctx = noCtx then s
      else s.updCtx e.ctx (fun c => { c with logOverflow := satAt 4294967295 (c.logOverflow + 1) })

/-- A record appended to the event log (R464), its bytes made from the SEQ it carries. -/
def State.logRecord (s : State) (type sev x : Nat) (body : Nat → List Byte) : State :=
  let s := s.logRoom
  let e : LogEntry :=
    { seq := s.logNext, type := type, sev := sev, ctx := x, taiNs := s.clk.tai.ns, cycle := s.clk.cycle,
      body := padTo 64 (body s.logNext) }
  let s := { s with log := s.log ++ [e], logNext := (s.logNext + 1) % 4294967296 }
  let s := s.notify 0 sev
  if x = noCtx then s else s.notify (x + 1) sev

/-- The severity of a record type that the manual gives none (log 15). -/
def recSev (type : Nat) : Nat := Config.recordSeverity type % 4

/-- An event record of type 0x01 (R464, R465). -/
def State.event (s : State) (code sev x : Nat) (args : List Nat) : State :=
  s.logRecord 0x01 sev x (fun _ => leBytes 2 code ++ zeros 6 ++ (args.map (leBytes 8)).flatten)

/-- Bit i of SMB_ALERT_STATUS set (R557). -/
def State.alert (s : State) (i : Nat) : State :=
  { s with pins := { s.pins with alertStatus := if bit s.pins.alertStatus i then s.pins.alertStatus else s.pins.alertStatus + 2 ^ i } }

/-- SMB_ALERT_N is low while an admitted bit is set (R557). -/
def State.alertLow (s : State) : Bool := (List.range 16).any (fun i => bit s.pins.alertStatus i && bit s.pins.alertMask i)

/-! ## Handles (R457 to R459) -/

/-- The 64-bit number of a handle. -/
def handleOf (mb op serial : Nat) : Nat := mb * 2 ^ 48 + op * 2 ^ 40 + serial

/-- The handles of a mailbox that have not completed. -/
def State.openHandles (s : State) (mb : Nat) : Nat := (s.handles.filter (fun e => e.2.mb = mb && !e.2.fin)).length

/-- Whether a mailbox can create another handle (R457). -/
def State.handleRoom (s : State) (mb : Nat) : Bool := s.openHandles mb < 256

/-- The next SERIAL of a mailbox, counted from 1 and skipping 0 on a wrap. -/
def nextSerial (n : Nat) : Nat := if (n + 1) % 4294967296 = 0 then 1 else (n + 1) % 4294967296

/-- A new handle, and its number. -/
def State.newHandle (s : State) (h : Handle) : State × Nat :=
  let n := nextSerial (s.mbox h.mb).serialNo
  let k := handleOf h.mb h.op n
  ((s.updMbox h.mb (fun b => { b with serialNo := n })).setHandle k h, k)

/-- The number `newHandle` gives. -/
def State.nextHandle (s : State) (mb op : Nat) : Nat := handleOf mb op (nextSerial (s.mbox mb).serialNo)

/-- The event 0x0011 of a handle that failed (R453, R465). -/
def State.handleEvent (s : State) (k status : Nat) (x : Option Nat) : State := s.event 0x0011 2 (x.getD noCtx) [k, status]

/-- A handle completes with a status: phase 5 complete, 6 failed, 7 cancelled (R458). -/
def State.finish (s : State) (k status : Nat) : State :=
  match s.handle k with
  | none => s
  | some h =>
    if h.fin then s
    else
      let ph := if status = 0 then 5 else if status = 0x21 ∨ status = 0x22 then 7 else 6
      let s := s.setHandle k { h with fin := true, status := status, phase := ph, doneNs := s.clk.tai.ns }
      if ph = 6 then s.handleEvent k status h.ctx else s

/-- A handle's progress. -/
def State.progress (s : State) (k phase done total : Nat) : State :=
  match s.handle k with
  | none => s
  | some h => if h.fin then s else s.setHandle k { h with phase := phase, done := done, total := total }

/-- A handle's DONE raised by one. -/
def State.progress1 (s : State) (k : Nat) : State :=
  match s.handle k with
  | none => s
  | some h => if h.fin then s else s.setHandle k { h with done := h.done + 1 }

/-- A handle's PHASE. -/
def State.phase (s : State) (k ph : Nat) : State :=
  match s.handle k with
  | none => s
  | some h => if h.fin then s else s.setHandle k { h with phase := ph }

/-! ## Contexts -/

/-- The context exists (R460): created and not free. -/
def Ctx.created (c : Ctx) : Bool := c.state != .free && c.state != .queued

/-- The device whose rank this module holds is the coordinator of the job (R384). -/
def Job.coordinator (j : Job) : Bool := j.plan.coordinator

/-- A core serves a context: some ring of the core belongs to it. -/
def Core.serves (k : Core) (x : Nat) : Bool := k.rings.any (fun e => e.2.valid && e.2.ctx = x)

/-- Every ring of a context on every core changed. -/
def State.mapRings (s : State) (x : Nat) (f : Ring → Ring) : State :=
  { s with cores := s.cores.vals (fun _ k => { k with rings := k.rings.vals (fun _ r => if r.ctx = x then f r else r) }) }

end Machine

end Sys2Proof
end

