-- ==== Sys2Proof/Machine/Flags.lean ====
section
/-! DEFINITION. The NaN/Inf flag word: its forming from occurrences (R140 to R142, R187) and its merge (R143). -/

namespace Sys2Proof.Machine

/-- Whether an occurrence has a source (R140): input, conversion overflow or accumulate overflow. -/
def occSource (o : Nat) : Bool := o / 4 % 8 != 0

/-- The bits of an occurrence added at a position. -/
def occAdd (m : Map Nat) (pos o : Nat) : Map Nat := if o = 0 then m else m.set pos (m.getOr pos 0 ||| o)

/-- The flag word of R141 over occurrences keyed by row × 1,024 + column; a tile with no occurrence has a flag word of 0, although a NaN or Inf without a
source may stand in it (DEDUCED, log 71). -/
def flagWord (m : Map Nat) : Nat :=
  let all := m.foldl (fun o e => o ||| e.2) 0
  let occ := m.filter (fun e => occSource e.2)
  match occ with
  | [] => 0
  | (pos, o) :: _ =>
    all % 32 + 2 ^ 5 + pos / 1024 % 256 * 2 ^ 19 + pos % 1024 * 2 ^ 27 + o / 4 % 8 * 2 ^ 37 + min 65535 occ.length * 2 ^ 48

/-- The position that bits [36:19] name, in row-major order. -/
def flagPos (w : Nat) : Nat := bits w 26 19 * 1024 + bits w 36 27

/-- The merge of two flag words (R143). -/
def flagMerge (a b : Nat) : Nat :=
  let low := a % 64 ||| b % 64
  let first (w : Nat) : Nat := bits w 39 19 * 2 ^ 19
  let mid :=
    if !bit a 5 && !bit b 5 then 0
    else if !bit b 5 then first a
    else if !bit a 5 then first b
    else if flagPos a < flagPos b then first a
    else if flagPos b < flagPos a then first b
    else (first a ||| first b)
  low + mid + min 65535 (bits a 63 48 + bits b 63 48) * 2 ^ 48

/-- The flag words of R187: `occ` is keyed by element number; each word covers 65,536 ÷ w elements. -/
def flagWords (occ : Map Nat) (elements w : Nat) : List Nat :=
  let per := 65536 / w
  (List.range (ceilDiv elements per)).map (fun i =>
    flagWord ((occ.filter (fun e => e.1 / per = i)).map (fun e => (e.1 % per, e.2))))

/-- Bits [5:0] of several flag words ORed (R143, R171). -/
def flagsOr (ws : List Nat) : Nat := ws.foldl (fun o w => o ||| w % 64) 0

end Sys2Proof.Machine
end

