-- ==== Sys2Proof/Machine/Vector.lean ====
section
/-! DEFINITION. The functions of the vector unit on binary32 (R175 to R185), its log-domain forms (R176) and the keyed
random generator (R188, R189). -/

namespace Sys2Proof

open Machine

/-! ## Rounded operations (R175) -/

def F32.isNan (x : F32) : Bool := x.val.isNan
def F32.neg (x : F32) : F32 := x ^^^ 0x80000000#32
def F32.nan : F32 := 0x7FC00000#32
def F32.posInf : F32 := 0x7F800000#32
def F32.negInf : F32 := 0xFF800000#32
def F32.zero : F32 := 0#32
def F32.one : F32 := 0x3F800000#32
def F32.half : F32 := 0x3F000000#32

def F32.add (a b : F32) : F32 := F32.round (a.val.add b.val)
def F32.sub (a b : F32) : F32 := F32.round (a.val.add b.val.neg)
def F32.mul (a b : F32) : F32 := F32.round (a.val.mul b.val)

/-- fma(a, b, c): a × b + c rounded once. -/
def F32.fma (a b c : F32) : F32 := F32.round ((a.val.mul b.val).add c.val)

/-- fma on an exact first factor. -/
def F32.fmaV (a : Val) (b c : F32) : F32 := F32.round ((a.mul b.val).add c.val)

/-- The sign bit. -/
def F32.negative (x : F32) : Bool := x.getLsbD 31

/-- The order of R183: +0 ranks above −0. -/
def F32.key (x : F32) : Int := if x.negative then -((x.toNat % 2 ^ 31 : Nat) : Int) - 1 else ((x.toNat % 2 ^ 31 : Nat) : Int)

/-- The larger operand, NaN winning (R183). -/
def F32.max (a b : F32) : F32 := if a.isNan || b.isNan then F32.nan else if a.key < b.key then b else a

/-- The smaller operand, NaN winning (R183). -/
def F32.min (a b : F32) : F32 := if a.isNan || b.isNan then F32.nan else if b.key < a.key then b else a

/-- A finite nonzero magnitude as a 24-bit significand M and e with x = M × 2⁻²³ × 2^e (R178). -/
def F32.norm (x : F32) : Nat × Int :=
  match x.val with
  | .fin _ m e => (m * 2 ^ (23 - m.log2), e + (m.log2 : Int))
  | _ => (0, 0)

/-- The index j of R178. -/
def normIndex (m : Nat) : Nat := m / 2 ^ 15 % 256

/-- A table entry as binary32. -/
def tab32 (t : List Nat) (j : Nat) : F32 := BitVec.ofNat 32 (t.getD j 0)

/-- E16[j] (R177). -/
def e16 (j : Nat) : F32 := F32.round (.fin false (t16 j) (-31))

/-- The nearest integer of a finite value, a tie to even. -/
def Val.toInt : Val → Int
  | .fin s m e => if s then -(rneShift m e : Int) else (rneShift m e : Int)
  | _ => 0

/-! ## Functions -/

/-- exp (R179). -/
def F32.exp (x : F32) : F32 :=
  if x.isNan then F32.nan
  else if F32.key 0x43000000#32 ≤ x.key then F32.posInf
  else if x.key ≤ F32.key 0xC3000000#32 then F32.zero
  else
    let k := (F32.mul x cL2E).val.toInt
    let nk := Val.ofInt (-k) 0
    let r := F32.fmaV nk cL (F32.fmaV nk cH x)
    let q := k / 256
    let j := (k % 256).toNat
    let b := F32.fma (F32.fma cP3 r F32.half) r F32.one
    let y := F32.fma (e16 j) (F32.mul b r) (e16 j)
    F32.round (y.val.scale q)

/-- log (R180). -/
def F32.log (x : F32) : F32 :=
  if x.isNan then F32.nan
  else if x.toNat % 2 ^ 31 = 0 then F32.negInf
  else if x.negative then F32.nan
  else if x = F32.posInf then F32.posInf
  else
    let n := x.norm
    let rc := tab32 rcTable (normIndex n.1)
    let r := F32.fmaV (.fin false n.1 (-23)) rc 0xBF800000#32
    let b := F32.mul (F32.fma cQ3 r 0xBF000000#32) r
    let lp := F32.fma b r r
    F32.fmaV (Val.ofInt n.2 0) cLn2 (F32.add (tab32 lgTable (normIndex n.1)) lp)

/-- rcp (R181). -/
def F32.rcp (x : F32) : F32 :=
  let sg : F32 := x &&& 0x80000000#32
  if x.isNan then F32.nan
  else if x.toNat % 2 ^ 31 = 0 then sg ||| F32.posInf
  else if x.val.isInf then sg
  else
    let n := x.norm
    let nm : Val := .fin true n.1 (-23)
    let step (y : F32) : F32 := F32.fma y (F32.fmaV nm y F32.one) y
    let y := step (step (tab32 rcTable (normIndex n.1)))
    sg ||| F32.round (y.val.scale (-n.2))

/-- rsqrt (R181). -/
def F32.rsqrt (x : F32) : F32 :=
  if x.isNan then F32.nan
  else if x = F32.zero then F32.posInf
  else if x = 0x80000000#32 then F32.negInf
  else if x.negative then F32.nan
  else if x = F32.posInf then F32.zero
  else
    let n := x.norm
    let odd := n.2 % 2 = 1
    let e := if odd then n.2 - 1 else n.2
    let m : Val := .fin false n.1 (if odd then -22 else -23)
    let i := n.1 / 2 ^ 16 % 128
    let step (y : F32) : F32 :=
      let h := F32.round (m.mul y.val)
      F32.fma (F32.mul F32.half y) (F32.fma h.neg y F32.one) y
    let y := step (step (tab32 rsTable (if odd then 128 + i else i)))
    F32.round (y.val.scale (-(e / 2)))

/-- sqrt (R181). -/
def F32.sqrt (x : F32) : F32 :=
  if x.isNan then F32.nan
  else if x.toNat % 2 ^ 31 = 0 then x
  else if x.negative then F32.nan
  else if x = F32.posInf then F32.posInf
  else F32.mul x x.rsqrt

/-- sigmoid (R182). -/
def F32.sigmoid (z : F32) : F32 := (F32.add F32.one z.neg.exp).rcp

/-- gelu (R182). -/
def F32.gelu (x : F32) : F32 :=
  let w := F32.fma cG1 (F32.mul x x) F32.one
  F32.mul x (F32.mul cG2 (F32.mul x w)).sigmoid

/-- silu (R182). -/
def F32.silu (x : F32) : F32 := F32.mul x x.sigmoid

/-! ## Row reductions (R183) -/

/-- One level of the pairwise tree. -/
def pairLevel (f : F32 → F32 → F32) : List F32 → List F32
  | a :: b :: r => f a b :: pairLevel f r
  | r => r

/-- n levels of the pairwise tree. -/
def pairLevels (f : F32 → F32 → F32) : Nat → List F32 → List F32
  | 0, xs => xs
  | n + 1, xs => pairLevels f n (pairLevel f xs)

/-- ceil(log2 n). -/
def clog2 (n : Nat) : Nat := if n ≤ 1 then 0 else (n - 1).log2 + 1

/-- The pairwise tree over 2^ceil(log2 n) leaves, padded with the identity. -/
def rowTree (f : F32 → F32 → F32) (ident : F32) (xs : List F32) : F32 :=
  let d := clog2 xs.length
  (pairLevels f d (xs ++ List.replicate (2 ^ d - xs.length) ident)).headD ident

def rowSum (xs : List F32) : F32 := rowTree F32.add F32.zero xs
def rowMax (xs : List F32) : F32 := rowTree F32.max F32.negInf xs

/-- softmax of a row (R184). -/
def softmaxRow (xs : List F32) : List F32 :=
  let mx := rowMax xs
  let es := xs.map (fun x => (F32.sub x mx).exp)
  let r := (rowSum es).rcp
  es.map (fun e => F32.mul e r)

/-- rcp(n) of R185. -/
def invCount (n : Nat) : F32 := (F32.round (Val.ofInt n 0)).rcp

/-- Layer normalisation of a row (R185). -/
def layerNormRow (xs gain shift : List F32) (eps : F32) : List F32 :=
  let inv := invCount xs.length
  let mu := F32.mul (rowSum xs) inv
  let ds := xs.map (fun x => F32.sub x mu)
  let v := F32.mul (rowSum (ds.map (fun d => F32.mul d d))) inv
  let rho := (F32.add v eps).rsqrt
  (ds.zip (gain.zip shift)).map (fun p => F32.fma (F32.mul p.1 rho) p.2.1 p.2.2)

/-- RMS normalisation of a row (R185). -/
def rmsNormRow (xs gain : List F32) (eps : F32) : List F32 :=
  let inv := invCount xs.length
  let rho := (F32.add (F32.mul (rowSum (xs.map (fun x => F32.mul x x))) inv) eps).rsqrt
  (xs.zip gain).map (fun p => F32.mul (F32.mul p.1 rho) p.2)

/-! ## KB16 in the log domain (R176) -/

/-- multiply: the code, and the occurrence bits of R187. A product of finite operands that leaves the range is an overflow of the conversion to KB16 alone
(DESIGN CHOICE, log 95). -/
def kb16Mul (a b : Kb16) (mode : Mode) : Kb16 × Nat :=
  let s := a.sign != b.sign
  if a.isNan || b.isNan then (0xC000#16, occInput ||| occNan)
  else if (a.isInf && b.isZero) || (a.isZero && b.isInf) then (0xC000#16, occInput ||| occInf ||| occNan)
  else if a.isInf || b.isInf then (Kb16.mk s 16383, occInput ||| occInf)
  else if a.isZero || b.isZero then (0x4000#16, 0)
  else
    let r := kb16Finish s (a.log + b.log) mode
    (r.1, occOvf r.2 ||| occOf r.1.lin)

/-- reciprocal in the log domain. -/
def kb16Rcp (a : Kb16) (mode : Mode) : Kb16 × Nat :=
  if a.isNan then (0xC000#16, occInput ||| occNan)
  else if a.isZero then (0x3FFF#16, occAcc ||| occInf)
  else if a.isInf then (0x4000#16, occInput ||| occInf)
  else
    let r := kb16Finish a.sign (-a.log) mode
    (r.1, occOvf r.2 ||| occOf r.1.lin)

/-- sqrt in the log domain. -/
def kb16Sqrt (a : Kb16) (mode : Mode) : Kb16 × Nat :=
  if a.isNan then (0xC000#16, occInput ||| occNan)
  else if a.isZero then (a, 0)
  else if a.sign then (0xC000#16, if a.isInf then occInput ||| occInf ||| occNan else occAcc ||| occNan)
  else if a.isInf then (a, occInput ||| occInf)
  else
    let q := a.log / 2
    let l := if a.log % 2 = 1 ∧ q % 2 = 1 then q + 1 else q
    let r := kb16Finish false l mode
    (r.1, occOvf r.2 ||| occOf r.1.lin)

/-! ## Random numbers (R188, R189) -/

/-- A 32-bit word rotated left. -/
def rotl (x n : Nat) : Nat := (x * 2 ^ n + x / 2 ^ (32 - n)) % 2 ^ 32

/-- One round of R189 with its key. -/
def rngRound (x : Nat × Nat × Nat × Nat) (k : Nat) : Nat × Nat × Nat × Nat :=
  let w := 2 ^ 32
  let x0 := (x.1 + x.2.1 + k) % w
  let x3 := rotl (x.2.2.2 ^^^ x0) 16
  let x2 := (x.2.2.1 + x3) % w
  let x1 := rotl (x.2.1 ^^^ x2) 12
  let x0 := (x0 + x1) % w
  let x3 := rotl (x3 ^^^ x0) 8
  let x2 := (x2 + x3) % w
  let x1 := rotl (x1 ^^^ x2) 7
  (x1, x2, x3, x0)

/-- The block function of R189: key words K0, K1 and counter words C. -/
def rngBlock (k0 k1 : Nat) (c : Nat × Nat × Nat × Nat) : List Nat :=
  let w := 2 ^ 32
  let x := (List.range 10).foldl (fun x r => rngRound x (((if r % 2 = 0 then k0 else k1) + r * 0x9E3779B9) % w)) c
  [(x.1 + c.1) % w, (x.2.1 + c.2.1) % w, (x.2.2.1 + c.2.2.1) % w, (x.2.2.2 + c.2.2.2) % w]

/-- The word of element e (R188): seed, step, RNG_TENSOR, micro-batch and stage of the cursor. -/
def rngWord (seed step tensor micro stage e : Nat) : Nat :=
  let b := e / 4
  let c0 := b % 2 ^ 32
  let c1 := (tensor * 65536 + micro) % 2 ^ 32
  let c2 := step % 2 ^ 32
  let c3 := (step / 2 ^ 32 % 256 * 2 ^ 24 + stage * 65536 + b / 2 ^ 32 % 16384) % 2 ^ 32
  (rngBlock (seed % 2 ^ 32) (seed / 2 ^ 32 % 2 ^ 32) (c0, c1, c2, c3)).getD (e % 4) 0

/-- A uniform draw: (w >> 8) × 2⁻²⁴ (R189). -/
def uniformDraw (w : Nat) : F32 := F32.round (.fin false (w / 256) (-24))

end Sys2Proof
end

