-- ==== Sys2Proof/Machine/Arbiter.lean ====
section
/-! DEFINITION. The arbiters that settle simultaneous demands (R467, R479), and the module-initiated DMA channels that one of them orders (R547, R416).
The commands of the model come one after another, so an arbiter that settles demands of one cycle is stated here as the choice it makes among them; the
orders that reach state are the meanings' own: of doorbells and commands the queue's (R444), of rings Issue's (R149), of atomics to one word Receive's
(R257), of migrations Migrate's (R206), of MAC queues and the forwarder MacTx's (R288, R274), of crossed OPENs Receive's (R277). -/

namespace Sys2Proof.Machine

/-! ## Turns (R479) -/

/-- The sealed context that is bound to a logical core (R477). -/
def State.sealedOn (s : State) (core : Nat) : Option Nat :=
  (s.ctxs.find? (fun e => e.2.created && e.2.sealed_ && bit e.2.coreMask core)).map (fun e => e.1)

/-- The owner of turn j of a slotted arbiter, j taken modulo 12: the sealed context of core Cj, or the shared pool (none). -/
def State.turnOwner (s : State) (j : Nat) : Option Nat := s.sealedOn (j % 12)

/-- What a slotted arbiter grants in turn j among the contexts that request: the owner's turn goes to the owner or stays unused; a turn of the shared pool
goes to the shared context that the arbiter's own rule picks (R479). -/
def State.turnGrant (s : State) (j : Nat) (requests : List Nat) (rule : List Nat → Option Nat) : Option Nat :=
  match s.turnOwner j with
  | some x => if requests.contains x then some x else none
  | none => rule (requests.filter (fun x => !(s.ctx x).sealed_))

/-! ## The choices of R467 -/

/-- Round-robin in ascending order from the last grant: the lowest number above it that requests, else the lowest (R25, R149, R206). -/
def roundRobin (last : Nat) (requests : List Nat) : Option Nat :=
  let low (l : List Nat) : Option Nat := l.foldl (fun m x => match m with | some y => some (min x y) | none => some x) none
  (low (requests.filter (fun x => decide (last < x)))).or (low requests)

/-- The order of doorbells of one cycle: ascending page number, the admin mailbox first (R444). -/
def doorbellOrder (pages : List Nat) : List Nat := pages.mergeSort (fun a b => decide (a ≤ b))

/-- The ports of a tile store, highest priority first (R81). -/
inductive TsPort where
  | gather
  | weightLoad
  | epilogue
  | vector
  | move
  deriving DecidableEq, Repr

/-- A port's priority: 1 is the highest (R81). -/
def TsPort.priority : TsPort → Nat
  | .gather => 1
  | .weightLoad => 2
  | .epilogue => 3
  | .vector => 4
  | .move => 5

/-- The port that one bank of a tile store serves in a cycle; every other port that addresses it retries in the next cycle (R81). -/
def bankServes (ports : List TsPort) : Option TsPort :=
  ports.foldl (fun m p => match m with | some q => if p.priority < q.priority then some p else some q | none => some p) none

/-! ## Module-initiated DMA (R547, R416) -/

/-- The channels, the reads that one holds outstanding at most, and the read tags that they share (R547). -/
def dmaChannels : Nat := 8
def dmaReads : Nat := 96
def dmaTags : Nat := 768

/-- The transfer of a handle: a job image, a firmware image, core tables, a port table, a log buffer (R458). The self-test job comes from the firmware
(R567). -/
def Handle.transfers (h : Handle) : Bool :=
  (h.op == 0x03 && h.len != 0) || h.op == 0x0A || h.op == 0x0C || (h.op == 0x0F && (h.arg == 1 || h.arg == 2 || h.arg == 3))

/-- A transfer still has something to fetch: its handle has not completed, its shard has not arrived. -/
def State.xferLive (s : State) (t : DmaXfer) : Bool :=
  match t.shard with
  | some (x, slot) => (match (s.ctx x).weights.slots.find slot with | some d => d.state == 0 && !d.arrived | none => false)
  | none => (match s.handle t.handle with | some h => !h.fin | none => false)

/-- The transfers under way or waiting, in the order of their acceptance (R467). -/
def State.dmaOrder (s : State) : List DmaXfer := s.pcie.dma.filter s.xferLive

/-- The transfers that hold a channel: PREFETCH goes before every other (R416) and is over within its own command, so these are the first eight in order
of acceptance. -/
def State.dmaServing (s : State) : List DmaXfer := s.dmaOrder.take dmaChannels

/-- The reads that a transfer has outstanding at most: none of more than the Max Read Request Size (R547). -/
def State.dmaOut (s : State) (t : DmaXfer) : Nat := min dmaReads (ceilDiv t.bytes s.pcie.maxRead)

/-- The read tags in use at most. -/
def State.dmaTagsUsed (s : State) : Nat := (s.dmaServing.map s.dmaOut).sum

/-- A transfer is accepted behind those that wait. -/
def State.dmaAsk (s : State) (t : DmaXfer) : State :=
  { s with pcie := { s.pcie with dma := (s.dmaOrder.filter (fun u => u.shard.isNone || u.shard != t.shard)) ++ [t] } }

/-- The transfer of a handle, or of a shard, holds a channel. -/
def State.handleServed (s : State) (k : Nat) : Bool := s.dmaServing.any (fun t => t.shard.isNone && t.handle == k)
def State.shardServed (s : State) (x slot : Nat) : Bool := s.dmaServing.any (fun t => t.shard == some (x, slot))

end Sys2Proof.Machine
end

