-- ==== Sys2Proof/Machine/Tiles.lean ====
section
/-! DEFINITION. Tiles and frames: the tile table and its banks (R193, R410), physical addresses (R199, R572), the allocation of frames
(R198, R27), reads and writes of tile data (R197, R204), copy before write (R386), the tile store with its header slots (R573),
and the fence (R226). -/

namespace Sys2Proof.Machine

/-! ## Entries -/

/-- The tile lies in a weight region of the context (R410). -/
def Ctx.inRegion (c : Ctx) (t : Nat) : Bool := c.weights.regions.any (fun r => decide (r.1 ≤ t ∧ t < r.1 + r.2))

/-- Bank b's entry of a tile. -/
def Ctx.bankEntry (c : Ctx) (b t : Nat) : TileEntry :=
  if b = 1 ∧ c.inRegion t then c.bank1.getOr t {} else c.tiles.getOr t {}

/-- The entry that translates an access: the bank that ACTIVE selects for a tile of a weight region (R410). -/
def Ctx.entry (c : Ctx) (t : Nat) : TileEntry := c.bankEntry c.weights.active t

def Ctx.setBankEntry (c : Ctx) (b t : Nat) (e : TileEntry) : Ctx :=
  if b = 1 ∧ c.inRegion t then { c with bank1 := c.bank1.set t e } else { c with tiles := c.tiles.set t e }

def Ctx.setEntry (c : Ctx) (t : Nat) (e : TileEntry) : Ctx := c.setBankEntry c.weights.active t e

/-- Bank b's header of a tile (R196). -/
def Ctx.bankHdr (c : Ctx) (b t : Nat) : TileHdr :=
  if b = 1 ∧ c.inRegion t then c.hdrs1.getOr t {} else c.hdrs.getOr t {}

def Ctx.hdr (c : Ctx) (t : Nat) : TileHdr := c.bankHdr c.weights.active t

def Ctx.setBankHdr (c : Ctx) (b t : Nat) (h : TileHdr) : Ctx :=
  if b = 1 ∧ c.inRegion t then { c with hdrs1 := c.hdrs1.set t h } else { c with hdrs := c.hdrs.set t h }

def Ctx.setHdr (c : Ctx) (t : Nat) (h : TileHdr) : Ctx := c.setBankHdr c.weights.active t h

/-- The 64 bytes of a header as one number (R196). -/
def TileHdr.pack (h : TileHdr) : Nat :=
  h.format + h.shapeFlags * 2 ^ 8 + h.rows * 2 ^ 16 + h.cols * 2 ^ 32 + h.generation * 2 ^ 64 + h.digestSlot * 2 ^ 96
    + h.lastWriteStep * 2 ^ 128

/-- The header that 64 bytes hold. -/
def TileHdr.unpack (x : Nat) : TileHdr :=
  { format := bits x 7 0, shapeFlags := bits x 15 8, rows := bits x 31 16, cols := bits x 47 32,
    generation := bits x 95 64, digestSlot := bits x 127 96, lastWriteStep := bits x 167 128 }

/-- The bank whose entry of a tile is in migration; else the one that ACTIVE selects. -/
def Ctx.migBank (c : Ctx) (t : Nat) : Nat :=
  if (c.bankEntry c.weights.active t).state != 0 then c.weights.active
  else if (c.bankEntry (1 - c.weights.active) t).state != 0 then 1 - c.weights.active else c.weights.active

/-- The entry of a tile in migration. -/
def Ctx.migEntry (c : Ctx) (t : Nat) : TileEntry := c.bankEntry (c.migBank t) t

def Ctx.setMigEntry (c : Ctx) (t : Nat) (e : TileEntry) : Ctx := c.setBankEntry (c.migBank t) t e

def Bool.n (b : Bool) : Nat := if b then 1 else 0

/-- The 16 bytes of a tile-table entry as one number (R193). -/
def TileEntry.pack (e : TileEntry) : Nat :=
  Bool.n e.valid + Bool.n e.lost * 2 ^ 4 + Bool.n e.dirty * 2 ^ 5 + Bool.n e.cow * 2 ^ 6 + e.policy * 2 ^ 7 + e.state * 2 ^ 9
    + e.tier * 2 ^ 16 + e.destTier * 2 ^ 20 + e.core * 2 ^ 24 + e.destFrame * 2 ^ 32 + e.frame * 2 ^ 64
    + e.destLender * 2 ^ 96 + e.lender * 2 ^ 112

/-! ## Physical addresses

T0 and every other byte of the tile store of logical core c at c × 2²³; T1 at 2⁴⁰, T2 at 2⁴¹, one frame each 65,536; the data of a T3
tile, which lies at the lender, at 2⁶⁰ by context and tile (log 14). -/

def tileBytes : Nat := 65536

/-- The address of a frame. -/
def framePhys (x t tier core frame : Nat) : Nat :=
  if tier = 0 then core * 2 ^ 23 + frame * tileBytes
  else if tier = 1 then 2 ^ 40 + frame * tileBytes
  else if tier = 2 then 2 ^ 41 + frame * tileBytes
  else 2 ^ 60 + (x * 2 ^ 32 + t) * tileBytes

/-- The address of the frame that holds a capture or a pre-image: a T2 frame of the secure reserve, or, from 2³² on, a T1 frame that a punty
switch has kept (R430). -/
def capPhys (f : Nat) : Nat := if f < 2 ^ 32 then framePhys 0 0 2 0 f else framePhys 0 0 1 0 (f - 2 ^ 32)

/-- The address of an entry's data. -/
def TileEntry.phys (e : TileEntry) (x t : Nat) : Nat := framePhys x t e.tier e.core e.frame

/-- The address of the destination of a migration. -/
def TileEntry.destPhys (e : TileEntry) (x t : Nat) : Nat := framePhys x t e.destTier e.core e.destFrame

/-- Bytes of a context's tile through the tile table (R204: a tile in migration is read at its source until the commit). -/
def State.tileRead (s : State) (x t off n : Nat) : List Byte := Memory.read s.mem (((s.ctx x).entry t).phys x t + off) n

/-- Bytes of a context's local range, which may cross tiles. -/
def State.localRead (s : State) (x addr n : Nat) : List Byte :=
  (List.range n).map (fun i =>
    Memory.get s.mem (((s.ctx x).entry ((addr + i) / tileBytes)).phys x ((addr + i) / tileBytes) + (addr + i) % tileBytes))

/-- The tiles that [addr, addr + n) touches. -/
def tilesOf (addr n : Nat) : List Nat :=
  if n = 0 then [] else (List.range ((addr + n - 1) / tileBytes + 1 - addr / tileBytes)).map (fun i => addr / tileBytes + i)

/-- Every tile of a range has a valid entry (R194). -/
def State.mapped (s : State) (x addr n : Nat) : Bool := (tilesOf addr n).all (fun t => ((s.ctx x).entry t).valid)

/-- A tile stalls writes while it is in COPYING, COMMITTING or ABORTING (R204). -/
def TileEntry.stalls (e : TileEntry) : Bool := decide (2 ≤ e.state)

/-- Some tile of a range stalls writes. -/
def State.stalls (s : State) (x addr n : Nat) : Bool := (tilesOf addr n).any (fun t => ((s.ctx x).entry t).stalls)

/-! ## Translation caches (R195, R201, R479) -/

/-- The cores of a context's mask. -/
def Ctx.coreCount (c : Ctx) : Nat := ((List.range 12).filter (fun i => bit c.coreMask i)).length

/-- The key of a tile in the translation caches. -/
def cacheKey (x t : Nat) : Nat := x * 2 ^ 32 + t

/-- A cache after an access, and whether it missed: a hit moves to the front; a miss brings the entry in, in place of the least recently used one
of its part when that holds `cap` (R195; DESIGN CHOICE, log 79: the manual names no replacement rule for this cache). -/
def cacheUse (l : List TEntry) (key now cap : Nat) (part : Nat → Bool) : List TEntry × Bool :=
  match l.find? (fun e => e.key = key) with
  | some e => ({ e with uses := e.uses + 1, lastAt := now } :: l.filter (fun e => e.key != key), false)
  | none =>
    let mine := l.filter (fun e => part (e.key / 2 ^ 32))
    let l := if mine.length < cap then l else match mine.getLast? with | some v => l.filter (fun e => e.key != v.key) | none => l
    ({ key := key, uses := 1, lastAt := now } :: l, true)

/-- The entries of the fabric unit's cache that a context may use: 1,344 for each core of a sealed context, the rest for the others (R479). -/
def State.fabCacheCap (s : State) (x : Nat) : Nat :=
  if (s.ctx x).sealed_ then 1344 * (s.ctx x).coreCount
  else 16384 - (s.ctxs.filter (fun e => e.2.sealed_)).foldl (fun a e => a + 1344 * e.2.coreCount) 0

/-- An access to a tile is translated by the fabric unit; a miss walks the table and is counted (R195). -/
def State.fabTranslate (s : State) (x t : Nat) : State :=
  let part (y : Nat) : Bool := if (s.ctx x).sealed_ then y == x else !(s.ctx y).sealed_
  let r := cacheUse s.tcache (cacheKey x t) s.clk.cycle (s.fabCacheCap x) part
  let s := { s with tcache := r.1 }
  if r.2 then s.count x 195 1 else s

/-- The tiles of a range are translated by the fabric unit. -/
def State.fabUse (s : State) (x addr n : Nat) : State := (tilesOf addr n).foldl (fun s t => s.fabTranslate x t) s

/-- An access to a tile is translated by a core's move unit, whose cache holds 4,096 entries (R195). -/
def State.moveTranslate (s : State) (c x t : Nat) : State :=
  let r := cacheUse (s.core c).tcache (cacheKey x t) s.clk.cycle 4096 (fun _ => true)
  let s := s.updCore c (fun k => { k with tcache := r.1 })
  if r.2 then s.count x 195 1 else s

/-- The entries of the tiles of a context that `gone` names leave every translation cache (R195, R430). -/
def State.invalidate (s : State) (x : Nat) (gone : Nat → Bool) : State :=
  let keep (l : List TEntry) : List TEntry := l.filter (fun e => !(e.key / 2 ^ 32 == x && gone (e.key % 2 ^ 32)))
  { s with tcache := keep s.tcache, cores := s.cores.vals (fun _ (k : Core) => { k with tcache := keep k.tcache }) }

/-- What the caches hold of a tile: its accesses, and the cycle of the last (R201). -/
def State.tileUse (s : State) (x t : Nat) : Nat × Nat :=
  ((s.tcache ++ s.cores.flatMap (fun e => e.2.tcache)).filter (fun e => e.key = cacheKey x t)).foldl (fun a e => (a.1 + e.uses, max a.2 e.lastAt)) (0, 0)

/-! ## Frames -/

/-- The frames of a tier in use, with the context that owns each (R198, R571). -/
def State.usedFrames (s : State) (tier : Nat) : List (Nat × Nat) :=
  (s.ctxs.map (fun e =>
    let x := e.1
    let c := e.2
    let ents := (c.tiles.map (fun t => t.2)) ++ (c.bank1.map (fun t => t.2)) ++ (c.job.reshard.newFrames.map (fun t => t.2.1))
    (ents.filter (fun t => t.valid && t.tier = tier)).map (fun t => (t.frame, x))
      ++ (ents.filter (fun t => t.valid && t.state != 0 && t.destTier = tier)).map (fun t => (t.destFrame, x))
      ++ (((c.sec.captures ++ c.sec.preimages).filter (fun p => if tier = 2 then decide (p.2 < 2 ^ 32) else tier = 1 && decide (2 ^ 32 ≤ p.2))).map
          (fun p => (p.2 % 2 ^ 32, x))))).flatten

/-- The runs of frames that a tier lends away (R211). -/
def State.lentRuns (s : State) (tier : Nat) : List (Nat × Nat) := s.lend.flatMap (fun e => if e.2.tier = tier then e.2.ranges else [])

/-- The end of the lent run of the tier that holds a frame. -/
def State.lentEnd (s : State) (tier f : Nat) : Option Nat :=
  ((s.lentRuns tier).find? (fun r => decide (r.1 ≤ f ∧ f < r.2))).map (fun r => r.2)

/-- Frames of [lo, hi) that a tier lends away. -/
def State.lentIn (s : State) (tier lo hi : Nat) : Nat := (s.lentRuns tier).foldl (fun a r => a + (min hi r.2 - max lo r.1)) 0

/-- Frames of one bank (T1) or bank set (T2), R572, R477. -/
def bankFrames (tier : Nat) : Nat := if tier = 1 then 2048 else 131072

/-- The bank that a frame lies in holds a frame of another context, and one of the two is sealed; or it is lent in part, and the context is sealed
(R198). -/
def State.bankClash (s : State) (tier x f : Nat) (used : List (Nat × Nat)) : Bool :=
  ((s.ctx x).sealed_ && s.lentIn tier (f / bankFrames tier * bankFrames tier) ((f / bankFrames tier + 1) * bankFrames tier) != 0) || used.any (fun u => u.1 / bankFrames tier = f / bankFrames tier && u.2 != x && ((s.ctx u.2).sealed_ || (s.ctx x).sealed_))

/-- The frames of a tier in use, and those that a context has released and that no teardown has scrubbed, with that context (R208). -/
def State.takenFrames (s : State) (tier : Nat) : List (Nat × Nat) :=
  s.usedFrames tier ++ (s.freed.filter (fun p => p.1 = tier)).map (fun p => (p.2.1, p.2.2))

/-- The lowest free frame of [f, hi) for a context, in at most `fuel` trials. -/
def State.findFrame (s : State) (tier x : Nat) (used : List (Nat × Nat)) (hi : Nat) : Nat → Nat → Option Nat
  | 0, _ => none
  | fuel + 1, f =>
    if hi ≤ f then none
    else
      match s.lentEnd tier f with
      | some e => s.findFrame tier x used hi fuel e
      | none =>
        if s.withdrawn.contains (tier, f / bankFrames tier) || s.bankClash tier x f used then
          s.findFrame tier x used hi fuel ((f / bankFrames tier + 1) * bankFrames tier)
        else if used.any (fun u => u.1 = f) || s.retiredFrames.contains (tier, f) then s.findFrame tier x used hi fuel (f + 1)
        else some f

/-- The frames of a near region of T1 that are not reserved (R27, R572), and those of T2. -/
def tierRange (tier region : Nat) : Nat × Nat :=
  if tier = 1 then (region * 131072 + 640, (region + 1) * 131072) else (32768, 4194304)

/-- The near region of a T1 frame: 131,072 frames each, then the spare banks by layer and slice (log 14). -/
def t1Region (f : Nat) : Nat := if f < 1572864 then f / 131072 else (f - 1572864) / 2048 % 12

/-- The migration of a tile that the engine holds. -/
def State.migOf (s : State) (x t : Nat) : Option Mig := s.migs.find? (fun m => m.ctx = x && m.tile = t)

/-- The tiles a context holds in a tier; for T0 and T1 in the core or near region named. -/
def State.held (s : State) (x tier region : Nat) : Nat :=
  let c := s.ctx x
  let ents := (c.tiles.map (fun t => t.2)) ++ (c.bank1.map (fun t => t.2))
  let here (tr fr co : Nat) : Bool := tr = tier && (if tier = 0 then co = region else if tier = 1 then t1Region fr = region else true)
  (ents.filter (fun t => t.valid && here t.tier t.frame t.core)).length
    + (s.migs.filter (fun m => m.ctx = x && !m.spare && here (c.migEntry m.tile).destTier (c.migEntry m.tile).destFrame m.region)).length
    + (if tier = 2 then ((c.sec.captures ++ c.sec.preimages).filter (fun p => decide (p.2 < 2 ^ 32))).length + c.job.imageFrames
       else 0)

/-- The tiles granted to a context in a tier (R198). -/
def Ctx.granted (c : Ctx) (tier region : Nat) : Nat :=
  if tier = 0 then c.grants.t0.getD region 0 else if tier = 1 then c.grants.t1.getD region 0 else if tier = 2 then c.grants.t2 else 0

/-- The frames of T2 that a context may still take (R198). -/
def State.t2Room (s : State) (x : Nat) : Nat := (s.ctx x).granted 2 0 - s.held x 2 0

/-- A T0 window as a frame number among `freed` and `retiredFrames`. -/
def windowNo (core w : Nat) : Nat := core * 128 + w

/-- The lowest T0 window of a core that a context may take (R199, R208): no ring and no T0 tile of any context lies there, no tile is on its way there,
no other context has released it unscrubbed, and it is not retired. -/
def State.freeWindow (s : State) (x core : Nat) : Option Nat :=
  (List.range 128).find? (fun w =>
    !((s.core core).rings.any (fun e => e.2.valid && decide (e.2.base < (w + 1) * 65536 ∧ w * 65536 < e.2.base + 64 * e.2.size)))
      && !(s.ctxs.any (fun e => e.2.tiles.any (fun t => t.2.valid && t.2.tier = 0 && t.2.core = core && t.2.frame = w)))
      && !(s.migs.any (fun m => m.region = core && ((s.ctx m.ctx).migEntry m.tile).destTier = 0 && ((s.ctx m.ctx).migEntry m.tile).state != 0
        && ((s.ctx m.ctx).migEntry m.tile).destFrame = w))
      && !(s.freed.any (fun p => p.1 = 0 && p.2.1 = windowNo core w && p.2.2 != x)) && !s.retiredFrames.contains (0, windowNo core w))

/-- The frames of one GiB of a window, the unit in which windows are granted (R198). -/
def gibFrames : Nat := 16384

/-- The granted GiB of a window covers a tile of the context's range (R213, log 14). -/
def T3Win.covers (w : T3Win) (t : Nat) : Bool := decide (w.firstTile ≤ t ∧ t < w.firstTile + gibFrames)

/-- The granted window in which a T3 place of a tile lies: by its lender and frame. -/
def Ctx.t3At (c : Ctx) (t lender frame : Nat) : Option T3Win :=
  c.t3.find? (fun w => w.covers t && w.lender = lender && w.base + (t - w.firstTile) = frame)

/-- The T3 tiles that all contexts map, those on their way included (R213). -/
def State.t3Tiles (s : State) : Nat :=
  s.ctxs.foldl (fun a e => a + (e.2.tiles.filter (fun t => t.2.valid && (t.2.tier = 3 || (t.2.state != 0 && t.2.destTier = 3)))).length) 0

/-- The lender and frame of a T3 place for a tile, in a granted window not under reclaim, within the 16,777,216 T3 tiles of the module (R213, R214). -/
def State.newT3 (s : State) (x t : Nat) : Option (Nat × Nat) :=
  if 16777216 ≤ s.t3Tiles then none
  else ((s.ctx x).t3.find? (fun w => w.covers t && w.deadline.isNone)).map (fun w => (w.lender, w.base + (t - w.firstTile)))

/-- A frame of those that the context has released itself (R208), in [lo, hi). -/
def State.ownFreed (s : State) (tier x lo hi : Nat) (used : List (Nat × Nat)) : Option Nat :=
  (s.freed.find? (fun p => p.1 = tier && p.2.2 = x && decide (lo ≤ p.2.1 ∧ p.2.1 < hi) && !(used.any (fun u => u.1 = p.2.1))
    && !s.retiredFrames.contains (tier, p.2.1) && !s.withdrawn.contains (tier, p.2.1 / bankFrames tier))).map (fun p => p.2.1)

/-- A free frame of a range of T1 or T2 for a context: one that it has released, else the lowest that no context owns (R198, R208). -/
def State.rangeFrame (s : State) (tier x lo hi : Nat) : Option Nat :=
  (s.ownFreed tier x lo hi (s.usedFrames tier)).or (s.findFrame tier x (s.takenFrames tier) hi ((s.takenFrames tier).length + 2048) lo)

/-- A frame for one more tile of a context in T0, T1 or T2, within its grant (R198, R571). -/
def State.newFrame (s : State) (x tier region : Nat) : Option Nat :=
  if 3 ≤ tier then none
  else if (s.ctx x).granted tier region ≤ s.held x tier region then none
  else if tier = 0 then s.freeWindow x region
  else s.rangeFrame tier x (tierRange tier region).1 (tierRange tier region).2

/-- A frame of the secure reserve, in the context's T2 grant (R383). -/
def State.reserveFrame (s : State) (x : Nat) : Option Nat := s.rangeFrame 2 x 32768 4194304

/-- A frame that a context gives up (R208): it is zero-filled, and stays that context's until a teardown has scrubbed it; a T0 window is scrubbed then. -/
def State.releaseFrame (s : State) (x t tier core frame : Nat) : State :=
  let s := if tier = 0 then s else s.clearMem (framePhys x t tier core frame) tileBytes
  let p := (tier, (if tier = 0 then windowNo core frame else frame), x)
  if 3 ≤ tier ∨ s.freed.contains p then s else { s with freed := s.freed ++ [p] }

/-- The frame of an entry of a tile is given up. -/
def State.releaseEntry (s : State) (x t : Nat) (e : TileEntry) : State := s.releaseFrame x t e.tier e.core e.frame

/-- The frame of a capture or a pre-image is given up (R386, R208). -/
def State.releaseCap (s : State) (x f : Nat) : State := if f < 2 ^ 32 then s.releaseFrame x 0 2 0 f else s.releaseFrame x 0 1 0 (f - 2 ^ 32)

/-! ## Rows under copy into a spare (R230) -/

/-- The logical core bound to a physical core. -/
def State.logicalOf (s : State) (pc : Nat) : Option Nat := (s.cores.find? (fun e => e.2.bound && e.2.pc = pc)).map (fun e => e.1)

/-- A physical address lies in a row of a bank (R572). -/
def State.inRow (s : State) (loc : BankLoc) (row a : Nat) : Bool :=
  match loc with
  | .t1 layer slice bank =>
    let first := if bank = 16 then 1572864 + (layer * 12 + slice) * 2048 else slice * 131072 + layer * 32768 + bank * 2048
    let lo := 2 ^ 40 + (first + row / 64) * tileBytes + row % 64 * 1024
    decide (lo ≤ a ∧ a < lo + 1024)
  | .t2 channel rank bank =>
    let lo := 2 ^ 41 + ((rank * 16 + bank) * 131072 + row) * tileBytes
    decide (lo ≤ a ∧ a < lo + tileBytes) && (a - lo) / 64 % 32 == channel
  | .sram pc =>
    match s.logicalOf pc with
    | some c => decide (c * 2 ^ 23 + row * 512 ≤ a ∧ a < c * 2 ^ 23 + row * 512 + 512)
    | none => false

/-- The bytes of a write whose row is under copy are held with that copy (R230); the others are written. -/
def State.holdBytes (s : State) : Nat → List Byte → State
  | _, [] => s
  | a, b :: r =>
    let t :=
      if s.rowCopies.any (fun c => s.inRow c.loc c.row a) then
        { s with rowCopies := s.rowCopies.map (fun c => if s.inRow c.loc c.row a then { c with held := c.held ++ [(a, [b])] } else c) }
      else { s with mem := Memory.write s.mem a [b] }
    State.holdBytes t (a + 1) r

/-- A write to physical memory; reads of a row under copy are served from the old row until the switch (R230). -/
def State.memWrite (s : State) (a : Nat) (data : List Byte) : State :=
  if s.rowCopies.isEmpty then { s with mem := Memory.write s.mem a data } else s.holdBytes a data

/-- A copy within physical memory. -/
def State.memCopy (s : State) (src dst n : Nat) : State :=
  if s.rowCopies.isEmpty then { s with mem := Memory.copy s.mem src dst n } else s.holdBytes dst (Memory.read s.mem src n)

/-! ## Writing tile data -/

/-- The tile belongs to the secured set of the context's job (R375). -/
def Ctx.isSecured (c : Ctx) (t : Nat) : Bool := c.secured.contains t || c.sec.incr.contains t

/-- The generation taken is of a mode with erasure parity (R379). -/
def SecRec.erasure (r : SecRec) : Bool := r.mode = 1 || r.mode = 3

/-- Some generation is committed or open, so that a pre-image has a value to hold (R386). -/
def Sec.newest (c : Sec) : Option SecRec :=
  match c.current with
  | some r => some r
  | none => (c.records.filter (fun r => r.state = 2)).getLast?

/-- Copy before write (R386): what the write of a secured tile needs first, on a frame of the secure reserve. -/
def State.secureCopy (s : State) (x t : Nat) : State :=
  let c := s.ctx x
  let e := c.entry t
  match c.sec.newest with
  | none => s
  | some g =>
    if !c.isSecured t then s
    else
      let capture : Bool :=
        c.sec.current.isSome && c.sec.incr.contains t && !(c.sec.captures.has t) && (e.cow || g.erasure)
      let preimage : Bool := g.erasure && !(c.sec.incr.contains t) && !(c.sec.preimages.has t)
      if !capture && !preimage then s
      else
        match s.reserveFrame x with
        | none => s
        | some f =>
          let s := s.memCopy (e.phys x t) (capPhys f) tileBytes
          let s := s.count x 194 360
          let c := s.ctx x
          let k := { c.sec with copyHdrs := c.sec.copyHdrs.set f (c.hdr t) }
          if capture then s.setCtx x ({ c with sec := { k with captures := k.captures.set t f } }.setEntry t { e with cow := false })
          else s.setCtx x { c with sec := { k with preimages := k.preimages.set t f } }

/-- A write reaches a tile of the active bank: the digest of its shard no longer covers it (R421). -/
def Weights.written (w : Weights) (t : Nat) : Weights :=
  if w.slots.isEmpty then w
  else { w with slots := w.slots.vals (fun _ (d : DSlot) =>
    if d.state = 1 ∧ d.bank = w.active ∧ d.firstTile ≤ t ∧ t < d.firstTile + d.tiles then { d with state := 2 } else d) }

/-- The marks of a write (R197): DIRTY, LAST_WRITE_STEP of the header, and the shard's slot (R421). -/
def State.markWritten (s : State) (x t : Nat) : State :=
  let c := s.ctx x
  let e := c.entry t
  let c := { c.setEntry t { e with dirty := true } with weights := c.weights.written t }
  s.setCtx x (c.setHdr t { c.hdr t with lastWriteStep := c.job.step % 2 ^ 40 })

/-- A write of bytes within one tile of a context takes effect (R197, R386). -/
def State.tileWrite1 (s : State) (x t off : Nat) (data : List Byte) : State :=
  let s := s.secureCopy x t
  let s := s.memWrite (((s.ctx x).entry t).phys x t + off) data
  s.markWritten x t

/-- A write to a tile in migration moves that migration ahead of every other, and stalls from now on (R205). -/
def State.rush (s : State) (x : Nat) (ts : List Nat) : State :=
  { s with migs := s.migs.map (fun m => if m.ctx = x ∧ ts.contains m.tile then { m with front := true, stallAt := m.stallAt.or (some s.clk.cycle) } else m) }

/-- A write of bytes within one tile: it takes effect, or waits for the end of the tile's migration (R204, R205). -/
def State.writeTile (s : State) (x t off : Nat) (data : List Byte) : State :=
  if ((s.ctx x).entry t).stalls then State.rush { s with stalled := s.stalled ++ [{ ctx := x, tile := t, off := off, data := data }] } x [t]
  else s.tileWrite1 x t off data

/-- A write of bytes of a context's local range, tile by tile in ascending order. -/
def State.localWrite (s : State) (x addr : Nat) (data : List Byte) : State :=
  (tilesOf addr data.length).foldl (fun s t =>
    let lo := max addr (t * tileBytes)
    let hi := min (addr + data.length) ((t + 1) * tileBytes)
    s.writeTile x t (lo - t * tileBytes) ((data.drop (lo - addr)).take (hi - lo))) s

/-! ## The tile store -/

/-- The size of a tile store (R153). -/
def tsSize : Nat := 0x800000

/-- The physical address of a tile-store address of a core. -/
def tsPhys (c a : Nat) : Nat := c * 2 ^ 23 + a

/-- Bytes of a core's tile store. -/
def State.tsRead (s : State) (c a n : Nat) : List Byte := Memory.read s.mem (tsPhys c a) n

/-- A little-endian number of a core's tile store. -/
def State.tsNat (s : State) (c a n : Nat) : Nat := leNat (s.tsRead c a n)

/-- The T0 tile that lies in window w of a core, with its context (R199). -/
def State.t0Tile (s : State) (c w : Nat) : Option (Nat × Nat) :=
  s.ctxs.findSome? (fun e =>
    (e.2.tiles.find? (fun t => t.2.valid && t.2.tier = 0 && t.2.core = c && t.2.frame = w)).map (fun t => (e.1, t.1)))

/-- A window of a core's tile store has become a T0 tile, whose own header is its slot (R573). -/
def State.ownWindow (s : State) (tier core w : Nat) : State :=
  if tier = 0 then s.updCore core (fun k => { k with hdrSlots := k.hdrSlots.del w }) else s

/-- A write into the tile store (R573): the bytes, the header slots of the windows it touches, and the marks of a T0 tile it writes. -/
def State.tsWrite (s : State) (c a : Nat) (data : List Byte) : State :=
  (tilesOf a data.length).foldl (fun s w =>
    let lo := max a (w * tileBytes)
    let hi := min (a + data.length) ((w + 1) * tileBytes)
    let part := (data.drop (lo - a)).take (hi - lo)
    match s.t0Tile c w with
    | some (x, t) => s.writeTile x t (lo - w * tileBytes) part
    | none =>
      (s.memWrite (tsPhys c lo) part).updCore c (fun k => { k with hdrSlots := k.hdrSlots.del w })) s

/-- The header slot of the window that holds a tile-store address, when it is valid for that address (R573). -/
def State.hdrAt (s : State) (c a : Nat) : Option TileHdr :=
  match s.t0Tile c (a / tileBytes) with
  | some (x, t) => if a % tileBytes = 0 then some ((s.ctx x).hdr t) else none
  | none =>
    match (s.core c).hdrSlots.find (a / tileBytes) with
    | some h => if h.addr = a then some (TileHdr.unpack h.hdr) else none
    | none => none

/-- A tile loaded into the tile store at an address brings its header (R573). -/
def State.loadHdr (s : State) (c a hdr : Nat) : State :=
  let w := a / tileBytes
  s.updCore c (fun k =>
    let k := { k with hdrSlots := k.hdrSlots.set w { addr := a, hdr := hdr } }
    if a % tileBytes = 0 then k else { k with hdrSlots := k.hdrSlots.del (w + 1) })

/-- A range of the tile store about to be overwritten: copy before write of the T0 tiles in it, their marks, and the header slots of the
other windows (R573, R386). -/
def State.tsTouch (s : State) (c a n : Nat) : State :=
  (tilesOf a n).foldl (fun s w =>
    match s.t0Tile c w with
    | some (x, t) => (s.secureCopy x t).markWritten x t
    | none => s.updCore c (fun k => { k with hdrSlots := k.hdrSlots.del w })) s

/-- A tile loaded into the tile store, with its header (R573). -/
def State.loadTile (s : State) (c x t a : Nat) : State :=
  let s := s.tsTouch c a tileBytes
  let s := s.memCopy (((s.ctx x).entry t).phys x t) (tsPhys c a) tileBytes
  if (s.t0Tile c (a / tileBytes)).isSome then s else s.loadHdr c a ((s.ctx x).hdr t).pack

/-- A tile written whole from a physical address (R197, R386). -/
def State.fillTile (s : State) (x t src : Nat) : State :=
  let s := s.secureCopy x t
  (s.memCopy src (((s.ctx x).entry t).phys x t) tileBytes).markWritten x t

/-- One write of an operation takes effect. -/
def State.applyEff (s : State) (c x : Nat) : Eff → State
  | .ts a d => s.tsWrite c a d
  | .tile t off d => s.writeTile x t off d
  | .loadTile t a => s.loadTile c x t a
  | .storeTile a t => s.fillTile x t (tsPhys c a)
  | .copyTile src dst => s.fillTile x dst (((s.ctx x).entry src).phys x src)

/-- The writes of an operation, in order. -/
def State.applyEffs (s : State) (c x : Nat) (es : List Eff) : State := es.foldl (fun s e => s.applyEff c x e) s

/-- The fence of R225: it takes effect at the context's next tile-op boundary; CONTEXT_FENCE is that point. -/
def State.fenceLater (s : State) (x : Nat) : State := s.updCtx x (fun c => { c with fenceDue := true })

/-- No ladder of the core holds an entry and no drain is in progress (R139). -/
def Core.boundary (k : Core) : Bool :=
  k.acc.all (fun e => e.2.all (fun l => l.isNone)) && k.drains.isEmpty && k.inflight.isEmpty && k.waiting.isEmpty

/-! ## Error records -/

/-- A tile error record (R228) appended to the event log. -/
def State.tileError (s : State) (tier cls source x core addr line lender location : Nat) : State :=
  let t := s.fabricNs x
  s.logRecord 0x21 (recSev 0x21) x (fun seq =>
    [BitVec.ofNat 8 0x21, BitVec.ofNat 8 tier, BitVec.ofNat 8 cls, BitVec.ofNat 8 source] ++ leBytes 2 x ++ leBytes 2 core
      ++ leBytes 8 addr ++ leBytes 2 line ++ leBytes 2 lender ++ leBytes 4 location ++ leBytes 8 t
      ++ leBytes 2 s.clk.tai.frac ++ zeros 2 ++ leBytes 4 seq)

/-! ## The abort of a generation (R390) -/

/-- The open generation of a context aborts (R390): captures and new parity bytes are released, pre-images stay, DIRTY returns to every
increment tile and its COW mark ends with the securing that armed it; the partial NAND data are freed. -/
def State.abortGen (s : State) (x : Nat) : State :=
  let c := s.ctx x
  match c.sec.current with
  | none => s
  | some r =>
    let s := c.sec.captures.foldl (fun s p => s.releaseCap x p.2) s
    let c := s.ctx x
    let c := c.sec.incr.foldl (fun c t => c.setEntry t { c.entry t with dirty := true, cow := false }) c
    let s := s.setCtx x { c with sec := { c.sec with
      current := none, records := c.sec.records ++ [{ r with state := 3 }], captures := [], incr := [], accum := []
      heldLoss := none, reports := 0, partParity := false, partSnap := false } }
    { s with nand := s.nand.filter (fun n => n.whole || n.jobId != r.jobId || n.record.generation != r.generation) }

end Sys2Proof.Machine
end

