-- ==== Sys2Proof/Machine/Ecc.lean ====
section
/-! DEFINITION. Memory errors and their sparing: corrected errors (R220), uncorrectable errors (R225, R227), the triggers of sparing (R229,
R230) and the cullet list (R232, R233). -/

namespace Sys2Proof

/-- What a code finds in a line (R218, R219): nothing, one symbol or one bit corrected (and the lane it lies on), or an uncorrectable error of a
syndrome class of R228. -/
inductive EccVerdict where
  | clean
  | corrected (lane : Nat)
  | uncorrectable (cls : Nat)
  deriving DecidableEq, Repr

/-- The symbols in error. -/
def LineErr.hits (e : LineErr) : List (Nat × Byte) := e.flips.filter (fun f => f.2 != 0#8)

/-- The bits of a byte that are 1. -/
def byteOnes (b : Byte) : Nat := ((List.range 8).filter (fun i => bit b.toNat i)).length

/-- The bits in error of word i of a tile-store line, its check byte included. -/
def LineErr.wordBits (e : LineErr) (i : Nat) : Nat :=
  (e.hits.filter (fun f => if f.1 < 64 then f.1 / 8 = i else f.1 = 64 + i)).foldl (fun a f => a + byteOnes f.2) 0

/-- How far the errors of a line go beyond none: of a DRAM line the symbols in error, of a tile-store line the bits in error of its worst word. -/
def LineErr.weight (e : LineErr) (tier : Nat) : Nat :=
  if tier = 0 then (List.range 8).foldl (fun a i => max a (e.wordBits i)) 0 else e.hits.length

/-- The syndrome class of an uncorrectable line of a tier (R228). -/
def LineErr.cls (e : LineErr) (tier : Nat) : Nat :=
  if tier = 0 then 5 else if tier = 1 then (if e.wrongRow then 2 else 1) else if tier = 2 then (if e.wrongRow then 4 else 3) else 6

/-- What the code of a tier finds: one symbol (one bit of a word) is corrected, two are detected, and a line of another row or bank is detected (R218,
R219). Of more than two the manual states nothing (log 70). -/
def LineErr.verdict (e : LineErr) (tier : Nat) : EccVerdict :=
  if tier != 0 && e.wrongRow then .uncorrectable (e.cls tier)
  else
    match e.weight tier with
    | 0 => .clean
    | 1 => .corrected e.lane
    | 2 => .uncorrectable (e.cls tier)
    | _ =>
      match (Config.eccBeyond e.hits).1 % 3 with
      | 0 => .clean
      | 1 => .corrected e.lane
      | _ => .uncorrectable (e.cls tier)

/-- What an access receives XORed into the line's data: nothing when the error was corrected, the errors as they were read when it was not (R220, R224),
with a wrong correction's symbol where more than two were taken for one. -/
def LineErr.leaves (e : LineErr) (tier : Nat) : List (Nat × Byte) :=
  let all : List (Nat × Byte) :=
    match e.verdict tier with
    | .corrected _ => if e.weight tier ≤ 1 then [] else e.hits ++ [(Config.eccBeyond e.hits).2]
    | _ => e.hits
  all.filter (fun f => decide (f.1 < 64))

/-- What the code of an A48 value finds (R219): one bit is corrected, two are detected; more are taken as detected (DESIGN CHOICE, log 70). -/
def AccEcc.corrected (e : AccEcc) : Bool := e.bits == 1
def AccEcc.bad (e : AccEcc) : Bool := decide (2 ≤ e.bits)

/-- The number by which a bank's history is kept. Bank 16 of a slice is its spare bank (R229). -/
def BankLoc.key : BankLoc → Nat
  | .t1 layer slice bank => if bank = 16 then 0x2000 + 16 * layer + slice else 0x1000 + 192 * layer + 16 * slice + bank
  | .t2 channel rank bank => 0x1400 + 32 * channel + 16 * rank + bank
  | .sram pc => 0x1800 + pc

/-- The bank number that locates a bank; that of a spare bank is a free value (R572 gives spares no number; log 5). -/
def spareBankNo (layer slice bank : Nat) : Nat := if bank = 16 then Config.freeValue (2 ^ 64 + layer * 12 + slice) % 16 else bank

/-- The module counter of a bank's corrected errors (R527). -/
def BankLoc.counter : BankLoc → Nat
  | .t1 layer slice bank => 0x1000 + 192 * layer + 16 * slice + spareBankNo layer slice bank
  | .t2 channel rank bank => 0x1400 + 32 * channel + 16 * rank + bank
  | .sram pc => 0x1800 + pc

def BankLoc.tier : BankLoc → Nat
  | .t1 .. => 1
  | .t2 .. => 2
  | .sram _ => 0

/-- The spare rows of a bank or a tile store (R229). -/
def BankLoc.spareRows : BankLoc → Nat
  | .t1 .. => 32
  | .t2 .. => 1
  | .sram _ => 16

/-- The cullet type of a row (R232). -/
def BankLoc.rowType : BankLoc → Nat
  | .t1 .. => 3
  | .t2 .. => 6
  | .sram _ => 7

/-- The location code of a row of a bank (R232). -/
def BankLoc.code (l : BankLoc) (row : Nat) : Nat :=
  match l with
  | .t1 layer slice bank => layer * 2 ^ 30 + slice * 2 ^ 26 + spareBankNo layer slice bank * 2 ^ 22 + row % 131072 * 2 ^ 5
  | .t2 channel rank bank => channel * 2 ^ 27 + rank * 2 ^ 26 + bank * 2 ^ 22 + row % 131072 * 2 ^ 5
  | .sram pc => pc * 2 ^ 28 + row % 65536

namespace Machine

/-- The 32 bytes of a cullet list entry (R232). -/
def Cullet.bytes (e : Cullet) : List Byte :=
  leBytes 1 e.type ++ leBytes 1 e.action ++ leBytes 2 e.index ++ leBytes 4 e.location ++ leBytes 4 e.spare ++ leBytes 4 e.causeSeq ++ leBytes 8 e.timeNs
    ++ zeros 8

/-- An entry added to the cullet list, with its log record and the warning at 3,840 entries (R232, R233). -/
def State.addCullet (s : State) (e : Cullet) : State :=
  if 4096 ≤ s.culls.length then s
  else
    let s := { s with culls := s.culls ++ [e] }
    let s := s.logRecord 0x22 (recSev 0x22) noCtx (fun _ => e.bytes)
    if s.culls.length = 3840 then s.event 0x000B 1 noCtx [3840] else s

/-- One hour and one day, in nanoseconds. -/
def hourNs : Nat := 3600000000000
def dayNs : Nat := 86400000000000

/-- The bank and row of a line of a frame (R572). The frames of T1 from 1,572,864 on are those of the spare banks (log 14). -/
def State.bankOf (s : State) (tier core frame line : Nat) : BankLoc × Nat :=
  if tier = 1 ∧ 1572864 ≤ frame then
    let i := (frame - 1572864) / 2048
    (.t1 (i / 12) (i % 12) 16, 64 * (frame % 2048) + line / 16)
  else if tier = 1 then
    let r := frame % 131072
    (.t1 (r / 32768) (frame / 131072) (r % 32768 / 2048), 64 * (r % 2048) + line / 16)
  else if tier = 2 then (.t2 (line % 32) (frame / 131072 / 16 % 2) (frame / 131072 % 16), frame % 131072)
  else (.sram (s.core core).pc, (frame * tileBytes + line * 64) / 512)

/-- The row that holds a row's data: the spare row in force for it, if one is (R230). -/
def State.rowNow (s : State) (loc : BankLoc) (row : Nat) : Nat :=
  match s.rowMap.find? (fun e => e.1 = loc && e.2.1 = row) with
  | some e => e.2.2
  | none => row

/-- The location code of a line of a frame, after every row and bank spare in force (R572). -/
def State.location (s : State) (tier core frame line : Nat) : Nat :=
  if 3 ≤ tier then 0
  else
    let b := s.bankOf tier core frame line
    b.1.code (s.rowNow b.1 b.2)

/-- A row begins its copy into a spare row, when one is left; `cause` is the SEQ of the record that caused it (R229, R230, R232). -/
def State.spareRow (s : State) (loc : BankLoc) (row cause : Nat) : State :=
  let b := s.banks.getOr loc.key {}
  if s.rowCopies.any (fun c => c.loc = loc && c.row = row) || loc.spareRows ≤ b.sparesUsed then
    { s with banks := s.banks.set loc.key { b with causeSeq := cause } }
  else
    { s with
      rowCopies := s.rowCopies ++ [{ loc := loc, row := row, causeSeq := cause }]
      banks := s.banks.set loc.key { b with sparesUsed := b.sparesUsed + 1, causeSeq := cause } }

/-- The hits of a list younger than a day. -/
def recent (now : Nat) (l : List (Nat × Nat)) : List (Nat × Nat) := l.filter (fun p => decide (now < p.2 + dayNs))

/-- A corrected error in a row of a bank, for the context that owns the frame (R220): it is counted, logged when no corrected error of the bank has been
logged within the hour before it (DESIGN CHOICE, log 80), starts the accelerated scrub (R221) and may start a row spare (R229). -/
def State.correctedErr (s : State) (x : Option Nat) (loc : BankLoc) (row lane : Nat) : State :=
  let now := s.clk.tai.ns
  let s := s.countM loc.counter 1
  let s := match x with | some x => s.count x 196 1 | none => s
  let b := s.banks.getOr loc.key {}
  let first := match b.lastLogNs with | some t => decide (t + hourNs ≤ now) | none => true
  let rows := recent now b.rowHits ++ [(row, now)]
  let s := { s with banks := s.banks.set loc.key { b with
    corrected := b.corrected + 1, lastLogNs := if first then some now else b.lastLogNs, scrubUntil := now + dayNs, rowHits := rows
    laneHits := recent now b.laneHits ++ [(lane, now)] } }
  let s := if first then s.event 0x000A 0 noCtx [loc.tier, loc.code (s.rowNow loc row)] else s
  if 2 ≤ (rows.filter (fun p => p.1 = row)).length then s.spareRow loc row 4294967295 else s

/-- The sparing that an uncorrectable error in a row starts (R229); `cause` is the SEQ of its record. -/
def State.uncRow (s : State) (loc : BankLoc) (row cause : Nat) : State :=
  match loc with
  | .sram _ => s
  | _ =>
    let now := s.clk.tai.ns
    let b := s.banks.getOr loc.key {}
    let s := { s with banks := s.banks.set loc.key { b with rowUnc := recent now b.rowUnc ++ [(s.rowNow loc row, now)] } }
    s.spareRow loc row cause

/-- An uncorrectable error in a line of a frame of tier 0 to 2, or of T3, that holds or is to hold a tile of a context (R225, R228): the record, LOST, the
fence at the next tile-op boundary, and the sparing of the row. `acc` is the logical core of a core access, else 0xFFFF. -/
def State.loseLine (s : State) (x bank t tier core frame lender line cls source acc : Nat) : State :=
  let seq := s.logNext
  let at_ := if source = 0 then acc else if tier = 0 then core else 0xFFFF
  let s := s.tileError tier cls source x at_ (s.deviceId * 2 ^ 48 + t * tileBytes) line lender (s.location tier core frame line)
  let c := s.ctx x
  let s := (s.setCtx x (c.setBankEntry bank t { c.bankEntry bank t with lost := true })).fenceLater x
  if 3 ≤ tier then s
  else
    let b := s.bankOf tier core frame line
    s.uncRow b.1 b.2 seq

/-- An uncorrectable error in the frame of a context's tile (R225). -/
def State.uncorrectable (s : State) (x bank t line cls source acc : Nat) : State :=
  let e := (s.ctx x).bankEntry bank t
  s.loseLine x bank t e.tier e.core e.frame e.lender line cls source acc

/-- The T3 tiles of every context that `sel` names are lost with a syndrome class of R228 (R215, R216): the record, LOST and the fence. The rules give
these records no source, line or core: SOURCE 4, LINE 0 and CORE 0xFFFF (DESIGN CHOICE, log 81). -/
def State.loseT3 (s : State) (cls : Nat) (sel : Nat → Nat → TileEntry → Bool) : State :=
  s.ctxs.foldl (fun s c =>
    (c.2.tiles.filter (fun t => t.2.valid && t.2.tier = 3 && sel c.1 t.1 t.2)).foldl (fun s t =>
      let s := s.tileError 3 cls 4 c.1 0xFFFF (s.deviceId * 2 ^ 48 + t.1 * tileBytes) 0 t.2.lender 0
      (s.updCtx c.1 (fun k => { k with tiles := k.tiles.set t.1 { t.2 with lost := true } })).fenceLater c.1) s) s

/-- The data of a line as it was read: values XORed into its bytes (R224). -/
def State.spoil (s : State) (a : Nat) (fs : List (Nat × Byte)) : State :=
  fs.foldl (fun s f => { s with mem := Memory.write s.mem (a + f.1) [Memory.get s.mem (a + f.1) ^^^ f.2] }) s

/-- What an access finds in a line of a context's tile (R218 to R220, R224, R225). -/
def State.eccHit (s : State) (x : Nat) (h : EccHit) : State :=
  let c := s.ctx x
  let e := c.entry h.tile
  if !e.valid then s
  else
    let s := s.spoil (e.phys x h.tile + h.line * 64) (h.err.leaves e.tier)
    match h.err.verdict e.tier with
    | .clean => s
    | .corrected lane =>
      if e.tier = 3 then s
      else
        let b := s.bankOf e.tier e.core e.frame h.line
        s.correctedErr (some x) b.1 b.2 lane
    | .uncorrectable cls => s.uncorrectable x c.weights.active h.tile h.line cls h.source h.core

/-- The error that an access carries, if any. -/
def State.eccOpt (s : State) (x : Nat) (h : Option EccHit) : State :=
  match h with
  | some h => s.eccHit x h
  | none => s

end Machine

end Sys2Proof
end

