-- ==== Sys2Proof/Machine/Wire.lean ====
section
/-! DEFINITION. Packets and frames: the base header and its code (R241, R242), the extension headers (R244, R245), the choice of port and
path (R266, R272, R293), transmit queues (R286), the sequenced sending of a flow's packets (R259), acknowledgements (R245, R262) and control
messages (R275). -/

namespace Sys2Proof.Machine

/-! ## The base header -/

/-- One bit of the CRC-16 of R241. -/
def crcBit (c : Nat) : Nat := if 32768 ≤ c then (c * 2 % 65536) ^^^ 0x1021 else c * 2

/-- One byte of the CRC-16 of R241. -/
def crcByte (c b : Nat) : Nat := (List.range 8).foldl (fun c _ => crcBit c) (c ^^^ (b * 256))

/-- The CRC-16 of R241 over a byte string. -/
def crc16 (bs : List Byte) : Nat := bs.foldl (fun c b => crcByte c b.toNat) 0xFFFF

def pktFirst (p : Pkt) : Bool := bit p.flags 7
def pktLast (p : Pkt) : Bool := bit p.flags 6
def pktAckReq (p : Pkt) : Bool := bit p.flags 5
def pktCe (p : Pkt) : Bool := bit p.flags 3

/-- Bytes 0 to 21 of a base header as HCRC reads them: byte 3 and FLAGS bit 3 taken as 0 (R241). -/
def hcrcInput (h : Hdr) : List Byte :=
  let p := h.p
  beBytes 1 (h.ver * 16 + h.cls) ++ beBytes 1 h.op ++ beBytes 1 (if pktCe p then p.flags - 8 else p.flags) ++ zeros 1 ++ beBytes 2 p.dstDev
    ++ beBytes 2 p.srcDev ++ beBytes 3 (p.path * 2 ^ 20 + p.dstFlow) ++ beBytes 1 p.res11 ++ beBytes 4 p.psn ++ beBytes 4 p.ts
    ++ beBytes 2 p.payload.length

/-- The HCRC of a header. -/
def hcrcOf (h : Hdr) : Nat := crc16 (hcrcInput h)

/-- A header with its HCRC. -/
def sealHdr (h : Hdr) : Hdr := { h with p := { h.p with hcrc := hcrcOf h } }

/-- The class of an operation code (R243); none for a reserved code. -/
def opClass (op : Nat) : Option Nat :=
  if (1 ≤ op ∧ op ≤ 4) ∨ (8 ≤ op ∧ op ≤ 12) ∨ op = 0x20 then some 0
  else if op = 0x81 ∨ op = 0x82 ∨ op = 0x88 ∨ op = 0xA0 then some 1
  else if op = 0xC0 then some 2
  else if (0xE0 ≤ op ∧ op ≤ 0xE6) ∨ (0xE8 ≤ op ∧ op ≤ 0xEA) ∨ op = 0xEC ∨ op = 0xED ∨ op = 0xEF then some 3
  else none

/-- The bytes of an operation's extension header (R243). -/
def extLen (op : Nat) : Nat :=
  if op ≤ 4 then 16 else if op ≤ 12 then 32 else if op = 0x20 then 24 else if op = 0xC0 then 48 else if 0xE0 ≤ op then 8 else 16

/-- A row's packet with the header fields its row fixes: version 1, the class and operation. -/
def hdrOf (op : Nat) (p : Pkt) : Hdr := { ver := 1, cls := (opClass op).getD 0, op := op, p := p }

/-- The base header carries no reserved class, operation or bit (R242). -/
def hdrOk (h : Hdr) : Bool :=
  h.ver == 1 && opClass h.op == some h.cls && bits h.p.flags 2 0 == 0 && h.p.res11 == 0

/-- The 24 bytes of a base header (R241). -/
def hdrBytes (h : Hdr) : List Byte :=
  let p := h.p
  beBytes 1 (h.ver * 16 + h.cls) ++ beBytes 1 h.op ++ beBytes 1 p.flags ++ beBytes 1 p.hop ++ beBytes 2 p.dstDev ++ beBytes 2 p.srcDev
    ++ beBytes 3 (p.path * 2 ^ 20 + p.dstFlow) ++ beBytes 1 p.res11 ++ beBytes 4 p.psn ++ beBytes 4 p.ts ++ beBytes 2 p.payload.length ++ beBytes 2 p.hcrc

/-- A packet that arrived marked: FLAGS bit 3, or CE in the ECN field of its IP header (R271). -/
def pktMarked (p : Pkt) : Bool := pktCe p || p.ecn == 3

/-- The length of a packet's frame on a port (R236, R237): direct, or UDP over IPv6 or IPv4. -/
def frameLen (udp v4 tagged : Bool) (h : Hdr) : Nat :=
  let n := 24 + h.p.ext.length + h.p.payload.length + 4
  let l := if udp then 14 + (if tagged then 4 else 0) + (if v4 then 20 else 40) + 8 + n else 18 + n
  max 64 l

/-! ## Ports and paths -/

/-- The MACs of port p in its mode (R281). -/
def portMacs (mode p : Nat) : List Nat :=
  if mode = 0 then [4 * p] else if mode = 1 then [4 * p, 4 * p + 2] else if mode = 2 then (List.range 4).map (fun i => 4 * p + i) else []

/-- The MACs of a port that have link. -/
def State.upMacs (s : State) (p : Nat) : List Nat := (portMacs (s.port p).mode p).filter (fun m => (s.mac m).up)

/-- A number that names no port, for a packet that no port can carry. -/
def noPort : Nat := 8

/-- The port of a path toward a device: by the forwarding table for a direct-mode packet (R272), else the flow's own UDP-mode port (R266). Where
neither gives one, no port does. -/
def State.portFor (s : State) (dst path dflt : Nat) : Nat :=
  let own := if (s.port dflt).encap = 1 then dflt else noPort
  match s.fwd.find dst with
  | some e => if e.ports.isEmpty then own else e.ports.getD (path % e.ports.length) own
  | none => own

/-- The UDP-mode ports with link, in order. -/
def State.udpPorts (s : State) : List Nat := (List.range 8).filter (fun p => (s.port p).encap = 1 && !(s.upMacs p).isEmpty)

/-- The MAC of a port that a path uses: its MACs with link, by PATH (log 16). -/
def State.macFor (s : State) (port path : Nat) : Option Nat :=
  let ms := s.upMacs port
  if ms.isEmpty then none else ms[path % ms.length]?

/-- Every lane of a MAC has lock (R283, R303). -/
def State.locked (s : State) (m : Nat) : Bool :=
  (List.range 4).all (fun i => !bit (s.mac m).lanes i || (s.lanes.getOr (m / 4 * 4 + i) {}).lostNs.isNone)

/-- Priority q of a MAC may not start a frame now: paused (R290), retraining (R305), or without lock on a lane. -/
def State.blocked (s : State) (m q : Nat) : Bool :=
  let c := s.mac m
  decide (s.clk.cycle < c.paused.getOr q 0) || c.retrainFrom.isSome || !s.locked m

/-- The egress MAC of path i of a flow. -/
def State.pathMac (s : State) (f : Flow) (i : Nat) : Option Nat :=
  match f.paths[i]? with
  | none => none
  | some p => s.macFor (s.portFor f.peer i p.port) i

/-- The paths of a flow whose egress is not paused at its priority (R293). -/
def State.readyPaths (s : State) (f : Flow) : List Nat :=
  (List.range f.paths.length).filter (fun i => match s.pathMac f i with | some m => !s.blocked m f.queue | none => false)

/-- Smooth weighted round-robin over the paths named (R266): every one gains its weight, the largest is chosen and pays the total. -/
def chooseFrom (ps : List PathSt) (ready : List Nat) : Option (Nat × List PathSt) :=
  let total := ready.foldl (fun a i => a + (match ps[i]? with | some p => p.weight | none => 0)) 0
  let up := (ps.zip (List.range ps.length)).map (fun e => if ready.contains e.2 then { e.1 with cur := e.1.cur + e.1.weight } else e.1)
  match ready with
  | [] => none
  | i0 :: _ =>
    let val (i : Nat) : Int := match up[i]? with | some p => p.cur | none => 0
    let b := ready.foldl (fun b i => if val b < val i then i else b) i0
    some (b, (up.zip (List.range up.length)).map (fun e => if e.2 = b then { e.1 with cur := e.1.cur - total } else e.1))

/-! ## Transmit queues -/

/-- Cycles in a number of nanoseconds, rounded up (20/21 ns for each cycle). -/
def cyclesOfNs (ns : Nat) : Nat := ceilDiv (ns * 21) 20

/-- The negotiated wake time of a MAC in nanoseconds (R296). -/
def Mac.wakeNs (c : Mac) : Nat := max 4000 ((c.partnerWakeUs.getD 0) * 1000)

/-- The bytes of a transmit queue. -/
def Mac.queued (c : Mac) (q : Nat) : Nat := (c.queues.getOr q []).foldl (fun a f => a + f.len) 0

/-- The MAC address of MAC m: the m-th of the module's block (R282). -/
def macAddr (m : Nat) : Nat := Config.macBase + m

/-- The headers of a Zalnis packet that leaves by a MAC: direct (R236), or UDP toward the port's next hop (R237, R238). -/
def State.wrapFor (s : State) (m : Nat) (h : Hdr) : Wrap :=
  let p := s.port (m / 4)
  if p.encap = 1 then
    let ip := s.peersIp.getOr h.p.dstDev 0
    { dmac := p.hopMac, smac := macAddr m, tag := if p.vlan = 0 then none else some (h.pcp, p.vlan)
      etherType := if ip / 2 ^ 128 = 4 then 0x0800 else 0x86DD
      ip := some {
        v6 := ip / 2 ^ 128 != 4, src := p.ownIp % 2 ^ 128, dst := ip % 2 ^ 128, dscp := p.dscp.getD h.pcp (8 * h.pcp)
        ecn := if h.cls = 0 ∨ h.cls = 1 then 2 else 0, sport := 49152 + 16 * (h.p.dstFlow % 1024) + h.p.path, dport := p.udpPort } }
  else { dmac := 0x035A4C4E0001, smac := macAddr m, tag := some (h.pcp, 0), etherType := 0x88B5 }

/-- The ones' complement sum of the 16-bit words of a byte string of even length. -/
def onesSum (bs : List Byte) : Nat :=
  let t := (List.range (ceilDiv bs.length 2)).foldl (fun a i => a + be bs (2 * i) 2) 0
  let t := t % 65536 + t / 65536
  t % 65536 + t / 65536

/-- The UDP checksum of a packet over IPv6, over the pseudo-header, the UDP header and the packet; a sum of 0 goes as 0xFFFF (R237). -/
def udpChecksum (i : IpHdr) (h : Hdr) : Nat :=
  let data := hdrBytes h ++ h.p.ext ++ h.p.payload
  let n := 8 + data.length
  let sum := 65535 - onesSum (beBytes 16 i.src ++ beBytes 16 i.dst ++ beBytes 4 n ++ beBytes 4 17 ++ beBytes 2 i.sport ++ beBytes 2 i.dport
    ++ beBytes 2 n ++ zeros 2 ++ data ++ zeros (data.length % 2))
  if sum = 0 then 65535 else sum

/-- The headers of a frame of the module's own that is no Zalnis packet (R285; addresses of group frames PRESUMED from their standards, log 20). -/
def plainWrap (m dmac etherType : Nat) : Wrap := { dmac := dmac, smac := macAddr m, etherType := etherType }

/-- A PFC frame for one priority (R291). -/
def pfcFrameFor (m q quanta : Nat) : Frame := { body := .pfc (2 ^ q) quanta, len := 64, wrap := plainWrap m 0x0180C2000001 0x8808 }

/-- The frame of a packet can be marked: always in direct mode, in UDP mode when it is a request or a response (R237, R271). -/
def markable (udp : Bool) : FrameBody → Bool
  | .zalnis h => !udp || h.cls == 0 || h.cls == 1
  | .ctrl _ => !udp
  | _ => false

/-- A frame with CE: the IP ECN field in UDP mode, FLAGS bit 3 in direct mode (R271). -/
def Frame.mark (f : Frame) (udp : Bool) : Frame :=
  let set (h : Hdr) : Hdr := if pktCe h.p then h else { h with p := { h.p with flags := h.p.flags + 8 } }
  if udp then { f with wrap := { f.wrap with ip := f.wrap.ip.map (fun (i : IpHdr) => { i with ecn := 3 }) } }
  else
    match f.body with
    | .zalnis h => { f with body := .zalnis (set h) }
    | .ctrl h => { f with body := .ctrl (set h) }
    | _ => f

/-- The probability of a mark for a queue of n bytes, in units of 2⁻³² (R271). -/
def markProb (n : Nat) : Nat := if n < 65536 then 0 else if 262144 < n then 2 ^ 32 else (n - 65536) * 2 ^ 32 / 983040

/-- A frame as it enters a transmit queue: marked with the probability that the queue's bytes give (R271, log 7). -/
def State.ecn (s : State) (m q : Nat) (f : Frame) : State × Frame :=
  let udp : Bool := (s.port (m / 4)).encap = 1
  let pr := markProb ((s.mac m).queued q)
  if pr = 0 || !markable udp f.body then (s, f)
  else if Config.ecnDraw s.ecnDraws % 2 ^ 32 < pr then ({ s with ecnDraws := s.ecnDraws + 1 }.countFab 13, f.mark udp)
  else ({ s with ecnDraws := s.ecnDraws + 1 }, f)

/-- A MAC leaves low-power idle, when it is in it, and wakes in the negotiated time (R296, R306). -/
def State.leaveLpi (s : State) (m : Nat) : State :=
  let c := s.mac m
  if !c.lpiTx then s
  else
    (s.setMac m { c with lpiTx := false, wakeAt := s.clk.cycle + cyclesOfNs c.wakeNs, idleSince := s.clk.cycle + cyclesOfNs c.wakeNs }).countMac m 62
      (s.clk.cycle - c.lpiFrom)

/-- A frame enters a transmit queue (R286), marked where R271 says; a MAC in low-power idle leaves it and wakes (R296). -/
def State.enqueue (s : State) (m q : Nat) (f : Frame) : State :=
  let r := s.ecn m q f
  let s := r.1
  let f := r.2
  let c := s.mac m
  let c := { c with queues := c.queues.upd q [] (fun l => l ++ [f]) }
  (s.setMac m c).leaveLpi m

/-- The frame of a packet that leaves by a MAC. -/
def State.mkFrame (s : State) (m : Nat) (h : Hdr) (flow : Nat) (x : Option Nat) : Frame :=
  let p := s.port (m / 4)
  { body := if h.cls = 3 then .ctrl h else .zalnis h
    len := frameLen (p.encap = 1) (s.peersIp.getOr h.p.dstDev 0 / 2 ^ 128 = 4) (p.vlan != 0) h
    wrap := s.wrapFor m h, flow := flow, ctx := x }

/-! ## The flow contexts on the die (R247) -/

/-- The flow contexts that a context may keep on the die: 2,688 for each core of a sealed context, the rest for the others (R247, R479). -/
def State.fcacheCap (s : State) (x : Nat) : Nat :=
  if (s.ctx x).sealed_ then 2688 * (s.ctx x).coreCount
  else 32768 - (s.ctxs.filter (fun e => e.2.sealed_)).foldl (fun a e => a + 2688 * e.2.coreCount) 0

/-- A packet or descriptor uses a flow context: one not on the die is fetched in place of the least recently used of its part, and counted (R247). -/
def State.flowUse (s : State) (f : Nat) : State :=
  match s.flows.find f with
  | none => s
  | some fl =>
    if s.fcache.contains f then { s with fcache := f :: s.fcache.filter (fun g => g != f) }
    else
      let part (g : Nat) : Bool :=
        if (s.ctx fl.ctx).sealed_ then (s.flow g).ctx == fl.ctx else !(s.ctx (s.flow g).ctx).sealed_
      let mine := s.fcache.filter part
      let l := if mine.length < s.fcacheCap fl.ctx then s.fcache else match mine.getLast? with | some v => s.fcache.filter (fun g => g != v) | none => s.fcache
      { s with fcache := f :: l }.count fl.ctx 185 1

/-! ## Sequenced packets -/

/-- The nanoseconds that a flow's rate gives a frame of n bytes, at Mb/s (R268; DEDUCED, log 85: a flow direction sends at its rate). -/
def sendGap (rate : Rat) (n : Nat) : Rat := ((n * 8000 : Nat) : Rat) / rate

/-- The time from which a flow's next packet is admitted once a frame of n bytes has entered a queue (R268). -/
def Flow.paced (f : Flow) (now n : Nat) : Rat := max f.sendAt now + sendGap f.rateCur n

/-- The packets of a flow whose PSN lies in the window of R259, that its rate admits (R268) and that wait for their first sending enter the
transmit queue of a path that is not paused; a packet with no such path waits (R293). -/
def State.pumpN (s : State) (f : Nat) : Nat → State
  | 0 => s
  | n + 1 =>
    let fl := s.flow f
    if (fl.state != .open_ && fl.state != .draining) || fl.lost || decide ((s.clk.tai.ns : Rat) < fl.sendAt) then s
    else
      match fl.tx.find? (fun t => !t.acked && !t.queued && t.sentAt.isNone && decide ((t.psn + 4294967296 - fl.una) % 4294967296 < 257)) with
      | none => s
      | some t =>
        match chooseFrom fl.paths (s.readyPaths fl) with
        | none => s
        | some (i, ps) =>
          match s.pathMac fl i with
          | none => s
          | some m =>
            let h := { hdrOf t.op { t.p with path := i } with cls := t.cls, pcp := fl.queue }
            let fr := s.mkFrame m h f (some fl.ctx)
            let s := s.setFlow f { fl with
              paths := ps, sendAt := fl.paced s.clk.tai.ns fr.len
              tx := fl.tx.map (fun u => if u.psn = t.psn then { u with queued := true } else u) }
            State.pumpN (s.enqueue m fl.queue fr) f n

def State.pump (s : State) (f : Nat) : State := s.pumpN f 257

/-- Every flow sends what it can. -/
def State.pumpAll (s : State) : State := (s.flows.map (fun e => e.1)).foldl (fun s f => s.pump f) s

/-- The packets of one message appended to a flow's send direction: extension header and payload of each; the first has FIRST, the last LAST. -/
def State.sendMsg (s : State) (f op : Nat) (parts : List (List Byte × List Byte)) : State :=
  let fl := s.flow f
  let n := parts.length
  let pk := (parts.zip (List.range n)).map (fun e =>
    ({ psn := (fl.nextPsn + e.2) % 4294967296, op := op, cls := (opClass op).getD 0
       p := { flags := (if e.2 = 0 then 128 else 0) + (if e.2 + 1 = n then 64 else 0), hop := s.hopLimit, dstDev := fl.peer, srcDev := s.deviceId
              dstFlow := fl.peerFlow, psn := (fl.nextPsn + e.2) % 4294967296, ext := e.1.1, payload := e.1.2 } } : TxPkt))
  let idle := fl.tx.isEmpty
  (s.setFlow f { fl with
    tx := fl.tx ++ pk, nextPsn := (fl.nextPsn + n) % 4294967296, progressNs := if idle then s.clk.tai.ns else fl.progressNs }).pump f

/-- The largest payload of a flow's packets (R239): small frames where a port of its path set is configured for them. -/
def State.payloadMax (s : State) (f : Nat) : Nat :=
  let fl := s.flow f
  if (List.range fl.paths.length).any (fun i =>
      match fl.paths[i]? with | some p => (s.port (s.portFor fl.peer i p.port)).small | none => false) then 1024 else 4096

/-- A byte string cut into pieces of n bytes with their offsets; one empty piece for an empty string. -/
def piecesOf (n : Nat) (bs : List Byte) : List (Nat × List Byte) :=
  (List.range (max 1 (ceilDiv bs.length n))).map (fun i => (i * n, (bs.drop (i * n)).take n))

/-! ## Acknowledgements (R245, R262) -/

/-- The byte of SACK that covers PSNs CUM_PSN + 1 + 8 k to CUM_PSN + 8 + 8 k. -/
def sackByte (cum : Nat) (got : List Nat) (k : Nat) : Byte :=
  BitVec.ofNat 8 ((List.range 8).foldl (fun a j => a + (if got.contains ((cum + 1 + 8 * k + j) % 4294967296) then 2 ^ (7 - j) else 0)) 0)

/-- The acknowledgement extension. -/
def ackExt (f : Flow) : List Byte :=
  beBytes 4 f.expected ++ (List.range 32).map (sackByte f.expected f.got) ++ beBytes 4 f.lastTs ++ beBytes 2 (min 65535 f.ceSinceAck)
    ++ beBytes 2 (min 65535 f.pktsSinceAck) ++ zeros 4

/-- The receiver sends an ACK on queue 7 and the path of the packet that caused it; the ACK of the 2 µs timer takes PATH and ECHO_TS of the packet that
arrived last (R262; DESIGN CHOICE, log 86: the manual names no packet for that one). Its FLAGS are 0 (R241; DESIGN CHOICE, log 86). -/
def State.sendAck (s : State) (f : Nat) : State :=
  let fl := s.flow f
  let dflt := match fl.paths[fl.lastPath]? with | some p => p.port | none => (s.udpPorts.headD noPort)
  let p : Pkt := { hop := s.hopLimit, dstDev := fl.peer, srcDev := s.deviceId, path := fl.lastPath, dstFlow := fl.peerFlow, ext := ackExt fl }
  let s := s.setFlow f { fl with pktsSinceAck := 0, ceSinceAck := 0, firstUnackedNs := none }
  match s.macFor (s.portFor fl.peer fl.lastPath dflt) fl.lastPath with
  | none => s
  | some m => s.enqueue m 7 (s.mkFrame m { hdrOf 0xC0 p with pcp := 7 } 0 (some fl.ctx))

/-! ## Control messages (R275) -/

/-- The port of a control message: a PROBE's own port (R280), else the forwarding table's for PATH 0, else the lowest UDP-mode port with link
(log 16). -/
def State.ctrlPort (s : State) (peer op : Nat) (body : List Byte) : Nat :=
  if op = 0xEC then be body 4 1 else s.portFor peer 0 (s.udpPorts.headD noPort)

/-- A control packet leaves on queue 0; flow 0 of the peer (R246). Its FLAGS have FIRST and LAST (R241; DESIGN CHOICE, log 86: the manual does not say). -/
def State.emitCtrl (s : State) (peer msgId op : Nat) (body : List Byte) : State :=
  let p : Pkt := { flags := 192, hop := s.hopLimit, dstDev := peer, srcDev := s.deviceId, dstFlow := 0, ext := beBytes 4 msgId ++ zeros 4, payload := body }
  match s.macFor (s.ctrlPort peer op body) 0 with
  | none => s
  | some m => s.enqueue m 0 (s.mkFrame m (hdrOf op p) 0 none)

/-- A control message to a peer, resent until CTRL_ACK; at most 1,024 wait for theirs (R258), a later one waits for a place. -/
def State.sendCtrl (s : State) (peer op : Nat) (body : List Byte) : State :=
  let id := s.ctrlNext
  let room := decide ((s.ctrl.filter (fun m => m.attempts != 0)).length < 1024)
  let m : CtrlMsg := { peer := peer, msgId := id, op := op, body := body, attempts := if room then 1 else 0, dueNs := s.clk.tai.ns + 1000000 }
  let s := { s with ctrl := s.ctrl ++ [m], ctrlNext := (id + 1) % 4294967296 }
  if room then s.emitCtrl peer id op body else s

/-- A control message leaves the list, and one that waited for its place is sent. -/
def State.endCtrl (s : State) (peer msgId : Nat) : State :=
  let s := { s with ctrl := s.ctrl.filter (fun m => !(m.peer = peer && m.msgId = msgId)) }
  match s.ctrl.find? (fun m => m.attempts = 0) with
  | none => s
  | some w =>
    if 1024 ≤ (s.ctrl.filter (fun m => m.attempts != 0)).length then s
    else
      let due := s.clk.tai.ns + 1000000
      let s := { s with ctrl := s.ctrl.map (fun m : CtrlMsg =>
        if m.peer = w.peer ∧ m.msgId = w.msgId then { m with attempts := 1, dueNs := due } else m) }
      s.emitCtrl w.peer w.msgId w.op w.body

/-! ## Opening a flow (R246 to R248, R251, R277) -/

/-- The lowest free local flow number of the contexts, 0x0_0100 to 0xF_FFFF (R246); none when all are in use. -/
def State.freeFlow (s : State) : Option Nat :=
  ((List.range (min (s.flows.length + 1) 1048320)).map (fun i => 256 + i)).find? (fun f => !s.flows.has f)

/-- The number of flow contexts a context holds. -/
def State.flowCount (s : State) (x : Nat) : Nat := (s.flows.filter (fun e => e.2.ctx = x)).length

/-- The context's grant leaves a flow context free (R248). -/
def State.flowRoom (s : State) (x : Nat) : Bool := decide (s.flowCount x < (s.ctx x).grants.flows) && s.freeFlow.isSome

/-- A path set of n paths toward a device (R266): ports of the forwarding table, or the UDP-mode ports with link in turn. -/
def State.mkPaths (s : State) (peer n : Nat) : List PathSt :=
  let us := s.udpPorts
  (List.range (max 1 (min 16 n))).map (fun i =>
    { port := s.portFor peer i (if us.isEmpty then noPort else us.getD (i % us.length) noPort) })

/-- The sum of the line rates of the egress MACs of a path set (R269). -/
def State.pathRate (s : State) (peer : Nat) (ps : List PathSt) : Nat :=
  let ms := ((List.range ps.length).filterMap (fun i =>
    match ps[i]? with | some p => s.macFor (s.portFor peer i p.port) i | none => none)).eraseDups
  ms.foldl (fun a m => a + (s.mac m).rateMbps) 0

/-- A flow context as OPEN or OPEN_ACCEPT sets it up (R247): the first PSN of each direction and the congestion state of R269. -/
def State.newFlow (s : State) (x peer peerFlow queue npaths first expected : Nat) (planning : Bool) : Flow :=
  let ps := s.mkPaths peer npaths
  let r : Rat := s.pathRate peer ps
  { state := .opening, ctx := x, planning := planning, peer := peer, peerFlow := peerFlow, queue := queue, paths := ps, nextPsn := first, una := first
    expected := expected, exec := expected, rateCur := r, rateTgt := r, rateMax := r, intStartNs := s.clk.tai.ns, progressNs := s.clk.tai.ns }

/-- The copies in memory of a generation's state blocks: of the one opened last, or of the one committed before it (R376). -/
def Sec.blocksOf (c : Sec) (generation : Nat) : SecBlocks := if c.blocks.generation = generation then c.blocks else c.held

/-- The state blocks of the generation that a recovery restores: the module's own snapshot, or the copies in memory (R376, R381, R397). -/
def State.recovBlocks (s : State) (x : Nat) : SecBlocks :=
  let c := s.ctx x
  match c.recov.target with
  | some r =>
    if c.recov.targetSnap then
      match s.nand.find? (fun (n : NandGen) => n.jobId = r.jobId && n.role = 0 && n.record.generation = r.generation) with
      | some n => n.blocks
      | none => c.sec.blocksOf r.generation
    else c.sec.blocksOf r.generation
  | none => c.sec.blocks

/-- The initial PSN of a direction: while a job recovers the secured base, of the flows to a peer in their order (R251), else the module's own
choice (log 5). -/
def State.firstPsn (s : State) (x peer : Nat) : Nat :=
  let free := Config.initialPsn s.fresh % 2 ^ 32
  if (s.ctx x).recov.state == RecState.none_ then free
  else
    let k := (s.flows.filter (fun e => e.2.ctx = x && e.2.peer = peer && (e.2.state == FlowState.opening || e.2.state == FlowState.open_))).length
    match ((s.recovBlocks x).flows.filter (fun e => e.2.1 = peer))[k]? with
    | some e => e.2.2.1
    | none => free

/-- The member lists of a context name a flow to a peer on the queue of their records (R309, R346). -/
def State.bindFlow (s : State) (x peer queue f : Nat) : State :=
  s.updCtx x (fun c => { c with colls := c.colls.vals (fun _ (r : CollRec) =>
    if r.queue = queue then { r with members := r.members.map (fun (m : Nat × Nat) => if m.1 = peer then (m.1, f) else m) } else r) })

/-- OPEN sent to a peer for a rank of a context's job (R276, R277). -/
def State.openNow (s : State) (x : Nat) (a : OpenAsk) : State :=
  match s.freeFlow with
  | none => s
  | some f =>
    let psn := s.firstPsn x a.peer
    let s := s.draw.setFlow f (s.newFlow x a.peer 0 a.queue a.paths psn 0 a.planning)
    let s := if a.planning then s else s.bindFlow x a.peer a.queue f
    let job := match (s.ctx x).job.image with | some im => im.man.jobId | none => 0
    s.sendCtrl a.peer 0xE0 (beBytes 8 job ++ (a.rank.map (beBytes 2)).flatten ++ beBytes 4 f ++ beBytes 4 psn ++ beBytes 1 a.queue ++ beBytes 1 a.paths
      ++ zeros 2)

/-- OPEN is sent where the context's grant leaves a flow context, and waits for one otherwise (R248). -/
def State.sendOpen (s : State) (x : Nat) (a : OpenAsk) : State :=
  if s.flowRoom x then s.openNow x a else s.updCtx x (fun c => { c with opens := c.opens ++ [a] })

/-- The OPENs of a context that wait are sent as far as its grant allows. -/
def State.retryOpens (s : State) (x : Nat) : State :=
  (s.ctx x).opens.foldl (fun s a => if s.flowRoom x then (s.updCtx x (fun c => { c with opens := c.opens.drop 1 })).openNow x a else s) s

/-- A flow number is released (R250). -/
def State.dropFlow (s : State) (f : Nat) : State :=
  let x := (s.flow f).ctx
  { s with flows := s.flows.del f, fcache := s.fcache.filter (fun g => g != f) }.retryOpens x

end Sys2Proof.Machine
end

