-- ==== Sys2Proof/Machine/Operands.lean ====
section
/-! DEFINITION. The operand forms: the fields of the 64-byte descriptors and records (R151 to R165), the checks at fetch (R150), the
ranges a descriptor touches (R168), and the elements of tensors in each format (R154). -/

namespace Sys2Proof.Machine

/-! ## Fields -/

/-- The little-endian field of n bytes at byte `off` of a descriptor or record held as one number. -/
def fld (d off n : Nat) : Nat := d / 2 ^ (8 * off) % 2 ^ (8 * n)

def dOp (d : Nat) : Nat := fld d 0 1
def dSub (d : Nat) : Nat := fld d 1 1
def dTag (d : Nat) : Nat := fld d 6 2
def dSigEvent (d : Nat) : Nat := fld d 5 1
def dSigEn (d : Nat) : Bool := bit d 39
def dFence (d : Nat) : Bool := bit d 38
def dMode (d : Nat) : Mode := if bit d 37 then .saturate else .strict
def dComp (d : Nat) : Bool := bit d 36
def dRec (d : Nat) : Bool := bit d 35

/-- No address (R153). -/
def tsNone : Nat := 0xFFFFFFFF

/-- The unit scale (R36, R153). -/
def tsUnit : Nat := 0xFFFFFFFE

/-- A tile-store address aligned as its field says (R153). -/
def tsAddr (a al : Nat) : Bool := decide (a < tsSize) && a % al == 0

/-- A tile-store address or none. -/
def tsAddrOrNone (a al : Nat) : Bool := tsAddr a al || a == tsNone

/-- Every byte of [lo, hi) of a descriptor is 0. -/
def zeroBytes (d lo hi : Nat) : Bool := fld d lo (hi - lo) == 0

/-- A format code of R154. -/
def fmtOk (f : Nat) : Bool := decide (f < 7)

/-- A format code of a result field (R41). -/
def fmtResult (f : Nat) : Bool := f == 0 || f == 1 || f == 4 || f == 5 || f == 6

/-- The bytes of one element of a format (R154). -/
def fmtWidth (f : Nat) : Nat := if f = 0 ∨ f = 2 ∨ f = 3 then 1 else if f = 6 then 4 else 2

/-- The subops of VECTOR (R185). -/
def vectorSubops : List Nat := [0, 1, 2, 3, 4, 5, 6, 8, 9, 10, 11, 12, 13, 14, 15, 16, 17, 18, 19, 20, 24, 25]

/-- The opcodes of R152 with their subops. -/
def subopOk (op sb : Nat) : Bool :=
  match op with
  | 0x01 | 0x02 | 0x03 | 0x04 | 0x08 | 0x10 | 0x60 => sb == 0
  | 0x09 => decide (sb < 2)
  | 0x20 => decide (sb < 4)
  | 0x30 => vectorSubops.contains sb
  | 0x38 => decide (sb < 2)
  | 0x40 => decide (sb < 3)
  | 0x50 => decide (sb < 4) || (decide (8 ≤ sb) && decide (sb < 13))
  | _ => false

/-- The operands A, B and C that a VECTOR subop uses (R160, R185). -/
def vectorUses (sb : Nat) : Bool × Bool × Bool :=
  if sb = 3 ∨ sb = 17 then (true, true, true)
  else if sb ≤ 6 ∨ sb = 18 then (true, true, false)
  else if sb = 24 then (false, false, false)
  else (true, false, false)

/-- The pieces of the split mode in ARR (R155): 1, 2 or 3. -/
def arrPieces (d : Nat) : Nat := bits (fld d 52 1) 2 1 + 1
def arrKb16 (d : Nat) : Bool := bit (fld d 52 1) 0
def arrPreSplit (d : Nat) : Bool := bit (fld d 52 1) 3

/-- The combinations of ARR and ACT_FMT that R78 lists (R59 refuses the others). -/
def arrFormatOk (d : Nat) : Bool :=
  let f := fld d 53 1
  let split := arrPieces d != 1
  if !arrKb16 d then !split && !arrPreSplit d && f != 1
  else if split then (if arrPreSplit d then f == 1 else f == 6)
  else !arrPreSplit d && f != 0

/-- An operand of CONVERT, VECTOR or OPT_UPDATE that is used must be an address; one that is not must be none. -/
def operandOk (al : Nat) (used : Bool) (a : Nat) : Bool := if used then tsAddr a al else a == tsNone

/-- The body of a descriptor holds only values that its class admits (R150, R155 to R165); false is a reserved value. With `aligned` false the alignment
of its addresses is left out: a misaligned one has the address cause at job load (R191). -/
def bodyOk (aligned : Bool) (own d : Nat) : Bool :=
  let al (n : Nat) : Nat := if aligned then n else 1
  match dOp d with
  | 0x01 | 0x02 => zeroBytes d 8 64
  | 0x03 => zeroBytes d 10 64
  | 0x04 => zeroBytes d 11 64
  | 0x08 => decide (fld d 18 1 ≤ 1) && zeroBytes d 19 64
  | 0x09 => zeroBytes d 9 12 && zeroBytes d 24 64
  | 0x10 =>
    let as := fld d 16 4
    let ws := fld d 20 4
    tsAddr (fld d 8 4) (al 64) && tsAddr (fld d 12 4) (al 64)
      && (as == tsNone || as == tsUnit || (!arrKb16 d && tsAddr as (al 64)))
      && (tsAddr ws (al 64) || ws == tsUnit || ws == tsNone)
      && tsAddrOrNone (fld d 24 4) (al 256)
      && (tsAddr (fld d 28 4) (al 64) || (fld d 28 4 == tsNone && fld d 36 4 != tsNone))
      && tsAddrOrNone (fld d 32 4) (al 64) && tsAddrOrNone (fld d 36 4) (al 64)
      && decide (fld d 40 2 ≤ 256) && decide (fld d 42 2 ≤ 1024) && decide (fld d 44 4 ≤ 65536)
      && fld d 48 2 % 64 == 0 && zeroBytes d 50 52 && decide (fld d 52 1 < 16) && arrPieces d != 4
      && fmtOk (fld d 53 1) && zeroBytes d 54 56
  | 0x20 =>
    let sb := dSub d
    let sf := fld d 30 1
    let df := fld d 31 1
    let ss := fld d 16 4
    let ds := fld d 20 4
    tsAddr (fld d 8 4) (al 64) && tsAddr (fld d 12 4) (al 64)
      && (if sf = 0 then tsAddr ss (al 64) || ss == tsUnit else ss == tsNone)
      && (if df = 0 then (if sb = 0 then tsAddr ds (al 64) else tsAddr ds (al 64) || ds == tsUnit) else ds == tsNone)
      && decide (1 ≤ fld d 24 4 ∧ fld d 24 4 ≤ 65536) && decide (1 ≤ fld d 28 2 ∧ fld d 28 2 ≤ 256)
      && fmtOk sf && fmtResult df && (decide (sb < 2) || (sf == 6 && df == 1))
      && tsAddrOrNone (fld d 36 4) (al 64) && zeroBytes d 44 64
  | 0x30 =>
    let u := vectorUses (dSub d)
    operandOk (al 64) u.1 (fld d 8 4) && operandOk (al 64) u.2.1 (fld d 12 4) && operandOk (al 64) u.2.2 (fld d 16 4) && tsAddr (fld d 20 4) (al 64)
      && decide (1 ≤ fld d 24 4 ∧ fld d 24 4 ≤ 65536) && decide (1 ≤ fld d 28 2 ∧ fld d 28 2 ≤ 256)
      && (fld d 30 1 == 6 || fld d 30 1 == 1) && (fld d 31 1 == 6 || fld d 31 1 == 1)
      && tsAddrOrNone (fld d 48 4) (al 64) && zeroBytes d 54 56 && zeroBytes d 62 64
  | 0x38 =>
    tsAddr (fld d 8 4) (al 64) && tsAddr (fld d 12 4) (al 64) && tsAddr (fld d 16 4) (al 64)
      && (if dSub d = 0 then tsAddr (fld d 20 4) (al 64) else tsAddrOrNone (fld d 20 4) (al 64))
      && tsAddrOrNone (fld d 24 4) (al 64) && tsAddr (fld d 32 4) (al 64) && tsAddrOrNone (fld d 36 4) (al 64)
      && (fld d 40 1 == 1 || fld d 40 1 == 4) && decide (fld d 41 1 < 2) && zeroBytes d 42 64
  | 0x40 =>
    let dev (g : Nat) : Bool := g / 2 ^ 48 == 0xFFFF || g / 2 ^ 48 == own
    let g := fld d 8 8
    let g2 := fld d 32 8
    g % al tileBytes == 0 && dev g && decide (1 ≤ fld d 20 2 ∧ fld d 20 2 ≤ 128) && zeroBytes d 22 24 && zeroBytes d 28 32
      && zeroBytes d 40 64
      && (if dSub d = 2 then g2 % al tileBytes == 0 && dev g2 && (tsAddr (fld d 16 4) (al 64) || fld d 16 4 == tsNone || fld d 16 4 == 0)
          else g2 == 0 && tsAddr (fld d 16 4) (al 64))
  | 0x50 =>
    let sb := dSub d
    let len := fld d 20 4
    (if sb < 2 then decide (64 ≤ len ∧ len ≤ 1048576) && len % 64 == 0
     else if sb < 4 then decide (1 ≤ len ∧ len ≤ 16)
     else len == 0)
      && (if sb < 4 then tsAddr (fld d 16 4) (al 64) else tsAddrOrNone (fld d 16 4) (al 64))
      && zeroBytes d 30 32 && decide (fld d 24 4 < 2 ^ 20) && decide (fld d 29 1 < 2) && zeroBytes d 48 64
  | 0x60 => tsAddrOrNone (fld d 16 4) (al 64) && tsAddr (fld d 20 4) (al 64) && zeroBytes d 28 64
  | _ => false

/-- An array multiply that R59 refuses for its format: a combination that R78 does not list, or a KB8 operand with no scale. -/
def arrRefused (d : Nat) : Bool :=
  dOp d = 0x10 && (!arrFormatOk d || (!arrKb16 d && ((fld d 16 4 == tsNone && fld d 53 1 == 0) || fld d 20 4 == tsNone)))

/-- A reserved opcode, subop, field value or reserved bit (R150); `own` is the module's device ID. -/
def descInvalidBut (aligned : Bool) (own d : Nat) : Bool :=
  !subopOk (dOp d) (dSub d) || bits d 34 16 != 0 || (dComp d && dOp d != 0x10) || !bodyOk aligned own d

/-- The same, with a misaligned address among the reserved values, as the queue's check at fetch has it (R150, R153; DEDUCED, log 72). -/
def descInvalid (own d : Nat) : Bool := descInvalidBut true own d

/-- A descriptor that completes with RESERVED at fetch: a reserved value, or a format that no loaded descriptor can have (R59, R150). -/
def descReserved (own d : Nat) : Bool := descInvalid own d || arrRefused d

/-! ## Records -/

/-- The epilogue record's reserved bytes and values (R158). Whether OSCALE_ADDR may name the unit scale when OPTS bit 2 is set R158 does not say: the
model admits it (DESIGN CHOICE, log 94). -/
def epiOk (e : Nat) : Bool :=
  let f := fld e 6 1
  tsAddr (fld e 0 4) 64 && fld e 4 2 % 64 == 0 && fmtResult f && decide (fld e 7 1 < 16)
    && tsAddrOrNone (fld e 8 4) 64 && tsAddrOrNone (fld e 12 4) 64
    && (if f = 0 then tsAddr (fld e 16 4) 64 || (bit (fld e 7 1) 2 && fld e 16 4 == tsUnit) else fld e 16 4 == tsNone)
    && tsAddrOrNone (fld e 20 4) 8 && zeroBytes e 24 64

/-- Row r is unmasked in a mask record (R85); an empty record masks nothing. -/
def maskRow (m : List Byte) (r : Nat) : Bool := m.isEmpty || (m.getD (r / 8) 0#8).getLsbD (r % 8)

/-- Output column j is unmasked in a mask record. -/
def maskCol (m : List Byte) (j : Nat) : Bool := m.isEmpty || (m.getD (32 + j / 8) 0#8).getLsbD (j % 8)

/-- Group g is fully masked (R86, R91). -/
def groupSkipped (m : List Byte) (rows g : Nat) : Bool := decide (rows ≤ 8 * g) || (!m.isEmpty && m.getD g 0#8 == 0#8)

/-- The row sequence of R80: the rows of every group that is not fully masked, in ascending order. An op with M = 1 streams its one row (R92). -/
def rowSeq (m : List Byte) (rows : Nat) : List Nat :=
  if rows = 1 then (if groupSkipped m rows 0 then [] else [0])
  else ((List.range 32).filter (fun g => !groupSkipped m rows g)).flatMap (fun g => (List.range 8).map (fun i => 8 * g + i))

/-- The groups of R86 that lie below M and are fully masked (R103). -/
def groupsSkipped (m : List Byte) (rows : Nat) : Nat :=
  ((List.range 32).filter (fun g => decide (8 * g < rows) && groupSkipped m rows g)).length

/-- The chunks of K (R65). -/
def chunksOf (k : Nat) : Nat := ceilDiv k 256

/-- The weight blocks that an op streams against, in order: chunk, activation piece, weight piece (R62, R156). -/
def streamPlan (d : Nat) : List (Nat × Nat × Nat) :=
  (List.range (chunksOf (fld d 44 4))).flatMap (fun c => (passOrder (arrPieces d)).map (fun p => (c, p.1, p.2)))

/-- The weight unit of step k of the plan, as chunk × P + (piece − 1) (R156). -/
def planUnit (d k : Nat) : Option Nat := ((streamPlan d)[k]?).map (fun p => p.1 * arrPieces d + (p.2.2 - 1))

/-- Step k needs a parison load: its block is not the one that the switch of step k − 1 left in the parison (R75). -/
def needsLoad (d k : Nat) : Bool := decide (k < 2) || planUnit d k != planUnit d (k - 2)

/-- The arrays that an op names (R155). -/
def arraysOf (d : Nat) : Nat := ceilDiv (fld d 42 2) 256

/-- The bytes of a parison block of one array (R156). -/
def wgtBlock (d : Nat) : Nat := if arrKb16 d then 131072 else 65536

/-- The bytes of an activation row of the descriptor's source (R78). -/
def actRowBytes (d : Nat) : Nat := 256 * fmtWidth (fld d 53 1)

/-- The size of a ladder state record (R132). -/
def ladderSize (entries m n : Nat) (comp : Bool) : Nat :=
  64 + ((List.range 25).filter (fun j => bit entries j)).length * m * n * (if comp then 12 else 6)

/-! ## Ranges (R168) -/

/-- What a descriptor touches: tile-store ranges it reads and writes, and tiles of the context's local range. -/
structure Touch where
  reads : List (Nat × Nat) := []
  writes : List (Nat × Nat) := []
  tileReads : List Nat := []
  tileWrites : List Nat := []
  deriving DecidableEq, Repr

/-- The extent of rows of n bytes at a stride. -/
def rowsLen (rows stride n : Nat) : Nat := if rows = 0 then 0 else (rows - 1) * stride + n

/-- A range of an operand that may be none or the unit scale. -/
def optRange (a n : Nat) : List (Nat × Nat) := if a = tsNone ∨ a = tsUnit ∨ n = 0 then [] else [(a, n)]

/-- The flag words of R187 in bytes. -/
def flagBytes (elements w : Nat) : Nat := 8 * ceilDiv (elements * w) 65536

/-- The weight ranges of one parison load: a block for each array in use, with its scales. -/
def loadRanges (d u : Nat) : List (Nat × Nat) :=
  (List.range (arraysOf d)).flatMap (fun a =>
    (fld d 12 4 + u * fld d 60 4 + a * wgtBlock d, wgtBlock d)
      :: (if arrKb16 d then [] else optRange (if fld d 20 4 < tsSize then fld d 20 4 + u / arrPieces d * 8192 + a * 2048 else tsNone) 2048))

/-- The activation ranges of an op. -/
def actRanges (d : Nat) : List (Nat × Nat) :=
  let units := chunksOf (fld d 44 4) * (if arrPreSplit d then arrPieces d else 1)
  (List.range units).map (fun u => (fld d 8 4 + u * fld d 56 4, rowsLen (fld d 40 2) (fld d 48 2) (actRowBytes d)))
    ++ (if fld d 16 4 < tsSize then
          (List.range (chunksOf (fld d 44 4))).map (fun c => (fld d 16 4 + c * 2048, 8 * fld d 40 2)) else [])

/-- The ranges that ARRAY_MUL reads and writes; `epi` and the ENTRY_COUNTs of its ladder records are as they stand at issue. -/
def arrTouch (d epi inCount : Nat) : Touch :=
  let m := fld d 40 2
  let n := fld d 42 2
  let hasEpi := fld d 36 4 = tsNone
  let f := fld epi 6 1
  let opts := fld epi 7 1
  let loads := ((List.range (streamPlan d).length).filter (needsLoad d)).flatMap (fun k => loadRanges d ((planUnit d k).getD 0))
  let outCount := inCount + (streamPlan d).length
  if m = 0 ∨ n = 0 then {} else
  { reads := loads ++ actRanges d ++ optRange (fld d 24 4) 256 ++ optRange (fld d 28 4) 64
      ++ optRange (fld d 32 4) (ladderSize inCount m n (dComp d))
      ++ (if hasEpi then optRange (fld epi 8 4) (if bit opts 0 then 4 * n else 4) ++ optRange (fld epi 12 4) (if bit opts 1 then 2 * n else 4 * n)
            ++ (if f = 0 ∧ bit opts 2 then optRange (fld epi 16 4) (if bit opts 3 then 8 * n else 32 * m) else []) else [])
    writes := if hasEpi then
        [(fld epi 0 4, rowsLen m (fld epi 4 2) (n * fmtWidth f))]
          ++ (if f = 0 ∧ ¬ bit opts 2 then optRange (fld epi 16 4) (if bit opts 3 then 8 * n else 32 * m) else [])
          ++ optRange (fld epi 20 4) 8
      else [(fld d 36 4, ladderSize outCount m n (dComp d))] }

/-- The ranges of CONVERT (R159). -/
def convTouch (d : Nat) : Touch :=
  let cols := fld d 24 4
  let rows := fld d 28 2
  let st := fld d 32 4
  let w := fmtWidth (fld d 30 1)
  let w' := fmtWidth (fld d 31 1)
  let scale := (chunksOf cols - 1) * 2048 + 8 * rows
  if dSub d < 2 then
    { reads := [(fld d 8 4, rowsLen rows (st * w) (cols * w))] ++ optRange (fld d 16 4) scale
        ++ (if dSub d = 1 then optRange (fld d 20 4) scale else [])
      writes := [(fld d 12 4, rowsLen rows (st * w') (cols * w'))] ++ (if dSub d = 0 then optRange (fld d 20 4) scale else [])
        ++ optRange (fld d 36 4) (flagBytes (rows * cols) w') }
  else
    { reads := [(fld d 8 4, rowsLen rows (st * 4) (cols * 4))]
      writes := (List.range (chunksOf cols * dSub d)).map (fun u => (fld d 12 4 + u * fld d 40 4, 512 * rows))
        ++ optRange (fld d 36 4) (flagBytes (rows * cols) 2) }

/-- The ranges of VECTOR (R160, R185). -/
def vecTouch (d : Nat) : Touch :=
  let sb := dSub d
  let cols := fld d 24 4
  let rows := fld d 28 2
  let st := fld d 32 4
  let w := fmtWidth (fld d 30 1)
  let w' := fmtWidth (fld d 31 1)
  let one := sb = 17 ∨ sb = 18
  let red := sb = 19 ∨ sb = 20
  { reads := optRange (fld d 8 4) (rowsLen rows (st * w) (cols * w))
      ++ optRange (fld d 12 4) (if one then cols * w else rowsLen rows (st * w) (cols * w))
      ++ optRange (fld d 16 4) (if one then cols * w else rowsLen rows (st * w) (cols * w))
    writes := [(fld d 20 4, rowsLen rows (st * w') (if red then w' else cols * w'))]
      ++ optRange (fld d 48 4) (flagBytes (if red then rows else rows * cols) w') }

/-- The ranges of OPT_UPDATE (R161). -/
def optTouch (d : Nat) : Touch :=
  let n := fld d 28 4
  { reads := [(fld d 8 4, 4 * n), (fld d 12 4, 4 * n), (fld d 16 4, 4 * n)] ++ (if dSub d = 0 then [(fld d 20 4, 4 * n)] else [])
      ++ [(fld d 32 4, 64)]
    writes := [(fld d 8 4, 4 * n), (fld d 16 4, 4 * n)] ++ (if dSub d = 0 then [(fld d 20 4, 4 * n)] else [])
      ++ optRange (fld d 24 4) (2 * n) ++ optRange (fld d 36 4) (flagBytes n 4) }

/-- The bytes of an element of a collective (R310). -/
def collWidth (f : Nat) : Nat :=
  if f = 1 ∨ f = 4 ∨ f = 5 then 2 else if f = 6 then 4 else if f = 0x10 then 6 else if f = 0x11 then 12 else 1

/-- The bytes of a member's output for an input of `len` bytes (R312). -/
def collOutLen (type inFmt outFmt p len : Nat) : Nat :=
  if type = 1 then len / collWidth inFmt * collWidth outFmt
  else if type = 2 then len / p / collWidth inFmt * collWidth outFmt
  else if type = 3 then p * len
  else len

/-- The ranges of COLL_STEP under a record (R312, R321). -/
def collTouch (type inFmt outFmt p flagAddr d : Nat) : Touch :=
  let len := fld d 24 4
  let out := collOutLen type inFmt outFmt p len
  { reads := optRange (fld d 16 4) len
    writes := optRange (fld d 20 4) out ++ (if len = 0 then [] else optRange flagAddr (if inFmt = 0xFF then 8 else flagBytes (out / collWidth outFmt) 1)) }

/-- The tiles of a TILE_MOVE from a global address. -/
def moveTiles (g n : Nat) : List Nat := (List.range n).map (fun i => (g % 2 ^ 48) / tileBytes + i)

/-- The tile-store ranges of a TILE_MOVE. -/
def moveRanges (d : Nat) : List (Nat × Nat) := (List.range (fld d 20 2)).map (fun i => (fld d 16 4 + i * fld d 24 4, tileBytes))

/-- The ranges of TILE_MOVE (R162). -/
def moveTouch (d : Nat) : Touch :=
  let n := fld d 20 2
  if dSub d = 0 then { tileReads := moveTiles (fld d 8 8) n, writes := moveRanges d }
  else if dSub d = 1 then { reads := moveRanges d, tileWrites := moveTiles (fld d 8 8) n }
  else { tileReads := moveTiles (fld d 8 8) n, tileWrites := moveTiles (fld d 32 8) n }

/-- The ranges of FABRIC (R163); a target on this module is a range of the context too (R11). -/
def fabTouch (own d : Nat) : Touch :=
  let sb := dSub d
  let g := fld d 8 8
  let here := g / 2 ^ 48 = 0xFFFF ∨ g / 2 ^ 48 = own
  let len := if sb < 2 then fld d 20 4 else if sb < 4 then fld d 20 4 * tileBytes else 8
  let loc := optRange (fld d 16 4) len
  let ts := if here then tilesOf (g % 2 ^ 48) len else []
  if sb = 0 ∨ sb = 2 then { reads := loc, tileWrites := ts }
  else if sb = 1 ∨ sb = 3 then { writes := loc, tileReads := ts }
  else { writes := loc, tileWrites := ts }

/-- A range lies inside the tile store. -/
def rangeOk (r : Nat × Nat) : Bool := decide (r.1 + r.2 ≤ tsSize)

/-- Two tile-store ranges share a 256-byte line (R168). -/
def rangeMeet (a b : Nat × Nat) : Bool :=
  decide (0 < a.2 ∧ 0 < b.2 ∧ a.1 / 256 ≤ (b.1 + b.2 - 1) / 256 ∧ b.1 / 256 ≤ (a.1 + a.2 - 1) / 256)

def rangesMeet (a b : List (Nat × Nat)) : Bool := a.any (fun x => b.any (fun y => rangeMeet x y))

/-- A hazard of R168 between an earlier descriptor in flight and the ranges of a later one. -/
def hazard (e : OutDesc) (t : Touch) : Bool :=
  !e.done && (rangesMeet e.writes t.reads || rangesMeet e.writes t.writes || rangesMeet e.reads t.writes
    || e.tileWrites.any (fun x => t.tileReads.contains x || t.tileWrites.contains x) || e.tileReads.any (fun x => t.tileWrites.contains x))

/-! ## Tensor elements -/

/-- The value of a linear or KB16 code of a format (R40 to R44). -/
def fmtVal (f code : Nat) : Val :=
  match f with
  | 1 => Kb16.lin (BitVec.ofNat 16 code)
  | 2 => e4m3Decode code
  | 3 => Fmt.e5m2.decode code
  | 4 => Fmt.bf16.decode code
  | 5 => Fmt.half.decode code
  | _ => Fmt.single.decode code

/-- A value to a code of a format other than KB8, with the occurrence bits of the conversion (R45, R54). -/
def fmtEncode (f : Nat) (mode : Mode) (v : Val) : Nat × Nat :=
  match f with
  | 1 => let r := kb16From v mode; (r.1.toNat, occOvf r.2 ||| occOf r.1.lin)
  | 4 => let r := Fmt.bf16.encode mode v; (r.1, occOvf r.2 ||| occOf (Fmt.bf16.decode r.1))
  | 5 => let r := Fmt.half.encode mode v; (r.1, occOvf r.2 ||| occOf (Fmt.half.decode r.1))
  | _ => let r := Fmt.single.encode mode v; (r.1, occOvf r.2 ||| occOf (Fmt.single.decode r.1))

/-- n codes of w bytes from a byte string. -/
def codesOf (w : Nat) : Nat → List Byte → List Nat
  | 0, _ => []
  | n + 1, bs => leNat (bs.take w) :: codesOf w n (bs.drop w)

/-- n codes of w bytes from a core's tile store. -/
def State.tsCodes (s : State) (c a w n : Nat) : List Nat := codesOf w n (s.tsRead c a (w * n))

/-- Codes as bytes. -/
def codeBytes (w : Nat) (xs : List Nat) : List Byte := xs.flatMap (leBytes w)

/-- Blocks of 32 of a list (R34). -/
def blocks32 {α : Type} : Nat → List α → List (List α)
  | 0, _ => []
  | n + 1, xs => xs.take 32 :: blocks32 n (xs.drop 32)

/-- A source element to KB8 with block scale b: the rules of R48, R53, with the occurrence bits of R57. -/
def toKb8 (f code : Nat) (v : Val) (b : Int) : Nat × Nat :=
  let r := if f = 1 then kb16ToKb8 (BitVec.ofNat 16 code) b else kb8From v b
  (r.1.toNat, occIn v ||| occOvf r.2)

end Sys2Proof.Machine
end

