-- ==== Sys2Proof/Machine/Issue.lean ====
section
/-! DEFINITION. The tile-op queue: fetch and the checks at fetch (R149, R150), issue (R166 to R168), completion (R169) with the wake of
event waits (R173), tagging (R531) and sample records (R532), retirement and the completion ring (R170 to R172). -/

namespace Sys2Proof.Machine

/-! ## Completion, tagging and events -/

/-- The class bit of CLASS_MASK (R529) of an opcode; none for a class that is not sampled. -/
def classBit (op : Nat) : Option Nat :=
  if op = 0x10 then some 0
  else if op = 0x20 ∨ op = 0x30 ∨ op = 0x38 then some 1
  else if op = 0x40 then some 2
  else if op = 0x50 ∨ op = 0x60 then some 3
  else none

/-- A stage offset of R532. -/
def stageOff (t : Option Nat) (issue : Nat) : Nat :=
  match t with
  | none => 0xFFFFFFFF
  | some c => min 0xFFFFFFFE (c - issue)

/-- The sample record of R532 without its SEQ, 56 bytes. -/
def sampleBytes (x core : Nat) (d : OutDesc) (t : Tagged) (status flags doneCycle : Nat) : List Byte :=
  leBytes 2 x ++ leBytes 1 core ++ leBytes 1 t.kind ++ leBytes 1 (dOp d.desc) ++ leBytes 1 (dSub d.desc) ++ leBytes 2 d.slot
    ++ leBytes 2 (dTag d.desc) ++ leBytes 1 status ++ leBytes 1 (flags % 64) ++ leBytes 5 t.step ++ leBytes 1 t.stage ++ leBytes 2 t.micro
    ++ leBytes 8 t.issueCycle ++ leBytes 4 (stageOff t.tGather t.issueCycle) ++ leBytes 4 (stageOff t.tArray t.issueCycle)
    ++ leBytes 4 (stageOff t.tTree t.issueCycle) ++ leBytes 4 (stageOff t.tDrain t.issueCycle)
    ++ leBytes 4 (stageOff (some doneCycle) t.issueCycle) ++ leBytes 4 t.empty ++ leBytes 4 t.rows

/-- The sample records of completed tagged descriptors enter the core's queue of 64; a record that finds it full is dropped (R530). -/
def State.queueSamples (s : State) (c : Nat) (g : Ring) (ds : List OutDesc) : State :=
  ds.foldl (fun s d =>
    match d.tag with
    | none => s
    | some t =>
      if (s.core c).sampleQ.length < 64 then
        s.updCore c (fun k => { k with sampleQ := k.sampleQ ++ [sampleBytes g.ctx c d t d.status d.flags s.clk.cycle] })
      else s.count g.ctx 200 1) s

/-- A descriptor in flight completed with a status at a fabric time, its ranges released (R168, R169). -/
def OutDesc.complete (d : OutDesc) (status flags timeNs : Nat) : OutDesc :=
  { d with done := true, status := status, flags := flags, timeNs := timeNs, reads := [], writes := [], tileReads := [], tileWrites := [] }

/-- A status of 0x10 or above stops issue from the ring (R172). -/
def statusStops (st : Nat) : Bool := decide (0x10 ≤ st)

/-- The descriptors of a ring that `p` selects complete with a status. -/
def State.completeIf (s : State) (c r : Nat) (p : OutDesc → Bool) (status flags : Nat) : State :=
  let g := s.ring c r
  let now := s.fabricNs g.ctx
  let hit := (g.out.filter (fun d => !d.done && p d)).map (fun d => d.complete status flags now)
  if hit.isEmpty then s
  else
    let s := s.updRing c r (fun g => { g with
      out := g.out.map (fun d => if !d.done && p d then d.complete status flags now else d)
      running := g.running && !statusStops status })
    let s := if statusStops status then s.count g.ctx (156 + c) hit.length else s
    s.queueSamples c g hit

/-- The descriptor in flight of a number completes (R169, log 35). -/
def State.complete (s : State) (c r id status flags : Nat) : State := s.completeIf c r (fun d => d.id = id) status flags

/-- The condition of an EVENT_WAIT on a counter's value (R173). -/
def waitHolds (d value : Nat) : Bool := if dSub d = 0 then serialGe value (fld d 12 4) else value == fld d 12 4

/-- Every EVENT_WAIT of a context on a counter whose condition now holds completes (R173). -/
def State.wake (s : State) (x ev : Nat) : State :=
  let v := (s.ctx x).events.getOr ev 0
  s.cores.foldl (fun s e => e.2.rings.foldl (fun s q =>
    if q.2.ctx = x then
      s.completeIf e.1 q.1 (fun d => dOp d.desc = 0x09 && fld d.desc 8 1 = ev && waitHolds d.desc v) 0 0
    else s) s) s

/-- An event counter of a context raised by 1, and the waits it ends (R173). -/
def State.signal (s : State) (x ev : Nat) : State :=
  (s.updCtx x (fun c => { c with events := c.events.upd ev 0 (fun v => (v + 1) % 4294967296) })).wake x ev

/-! ## The fence -/

/-- A unit operation of a context taken off its unit. -/
def takeUnit (x : Nat) (u : Option UnitOp) : Option UnitOp :=
  match u with
  | some op => if op.ctx = x then none else some op
  | none => none

/-- The array op of a context taken off the array unit (R139). -/
def takeArr (x : Nat) (a : Option ArrOp) : Option ArrOp :=
  match a with
  | some op => if op.ctx = x then none else some op
  | none => none

/-- The array ops of a core that hold or are about to drain a shadow set. -/
def Core.arrOps (k : Core) : List ArrOp := k.arr.toList ++ k.waiting ++ k.drains.map (fun d => d.op)

/-- A core with every operation of a context removed from its units (R226, R139). -/
def Core.dropCtx (k : Core) (x : Nat) : Core :=
  let sets := (k.arrOps.filter (fun a => a.ctx = x)).map (fun a => a.accSet)
  { k with
    load := (match k.load with | some l => if l.ctx = x then none else some l | none => none)
    acc := k.acc.filter (fun e => !(sets.contains (e.1 / 2 ^ 20)))
    inflight := k.inflight.filter (fun r => !(sets.contains r.set))
    arr := takeArr x k.arr
    look := takeArr x k.look
    waiting := k.waiting.filter (fun a => a.ctx != x)
    drains := k.drains.filter (fun d => d.op.ctx != x)
    vec := takeUnit x k.vec
    mov := takeUnit x k.mov
    chan := (match k.chan with | some u => if u.ctx = x then none else some u | none => none)
    preRamp := (match k.preRamp with | some p => if p.2 = x then none else some p | none => none) }

/-- The part of a fenced operation's writes that took effect: a free value says how many (R172, log 5). -/
def State.partWrite (s : State) (c x : Nat) (es : List Eff) : State :=
  (s.applyEffs c x (es.take (Config.freeValue s.fresh % (es.length + 1)))).draw

/-- The parts that the vector and move units of one core wrote for a context at its fence. -/
def State.partWrites (s : State) (c x : Nat) : State :=
  let es (u : Option UnitOp) : List Eff := match u with | some op => if op.ctx = x then op.effs else [] | none => []
  let k := s.core c
  let s := if (es k.vec).isEmpty then s else s.partWrite c x (es k.vec)
  let s := if (es k.mov).isEmpty then s else s.partWrite c x (es k.mov)
  match k.chan with
  | some u => if u.ctx = x then s.partWrite c x u.effs else s
  | none => s

/-- The queued migrations of a context aborted (R226): the tiles return to RESIDENT at their sources. -/
def State.dropQueued (s : State) (x : Nat) : State :=
  let gone := s.migs.filter (fun m => m.ctx = x && ((s.ctx x).migEntry m.tile).state = 1)
  let hs := (gone.map (fun m => m.handle)) ++ ((s.asks.filter (fun a => a.ctx = x)).map (fun a => a.handle))
  let s := { s with
    migs := s.migs.filter (fun m => !(m.ctx = x && ((s.ctx x).migEntry m.tile).state = 1))
    asks := s.asks.filter (fun a => a.ctx != x) }
  let s := gone.foldl (fun s m =>
    let c := s.ctx x
    let e := c.migEntry m.tile
    (s.setCtx x (c.setMigEntry m.tile { e with state := 0, destFrame := 0, destTier := 0, destLender := 0 })).releaseFrame x m.tile e.destTier m.region e.destFrame) s
  let s := hs.foldl (fun s h => s.finish h 0x25) s
  if gone.isEmpty then s else s.count x 193 gone.length

/-- The fence of R226: issue stops, every descriptor issued completes with FENCED, queued migrations abort, and the context is fenced;
its flows drain (R250), its collective instances end (R324) and its open generation aborts (R391). Pending updates not started are discarded, one that runs ends FENCED (R366). -/
def State.fence (s : State) (x : Nat) : State :=
  let s := (s.cores.map (fun e => e.1)).foldl (fun s c => s.partWrites c x) s
  let s := s.cores.foldl (fun s e => e.2.rings.foldl (fun s q =>
    if q.2.ctx = x then s.completeIf e.1 q.1 (fun _ => true) 0x18 0 else s) s) s
  let s := s.mapRings x (fun r => { r with running := false })
  let s := { s with cores := s.cores.vals (fun _ k => k.dropCtx x) }
  let s := s.dropQueued x
  let s := s.abortGen x
  let s := { s with flows := s.flows.vals (fun _ (f : Flow) =>
    if f.ctx = x && f.state == FlowState.open_ then { f with state := .draining, drainFence := true } else f) }
  s.updCtx x (fun c => { c with
    fenced := true
    fenceDue := false
    insts := []
    colls := c.colls.vals (fun _ (r : CollRec) => { r with low := r.next, finished := [] })
    updates := (c.updates.filter (fun u => u.state != 0)).map (fun (u : Update) =>
      if u.state = 1 then { u with state := 2, status := 0x18, flags := 0 } else u) })

/-! ## Fetch and issue -/

/-- The ring fetches: it is loaded and runs. -/
def Ring.live (g : Ring) : Bool := g.valid && g.running

/-- The descriptor in the next slot of a ring, as one 512-bit number (R147, R149). -/
def State.fetchDesc (s : State) (c r : Nat) : Nat := s.tsNat c ((s.ring c r).base + 64 * (s.ring c r).next) 64

/-- A BARRIER or EVENT_WAIT ahead in the ring is incomplete (R167). -/
def Ring.waits (g : Ring) : Bool := g.out.any (fun d => !d.done && (dOp d.desc = 0x08 || dOp d.desc = 0x09))

/-- What the fields of a descriptor name, with its records as they stand. -/
def State.named (s : State) (c x d : Nat) : Touch :=
  match dOp d with
  | 0x10 =>
    let li := fld d 32 4
    arrTouch d (if fld d 28 4 = tsNone then 0 else s.tsNat c (fld d 28 4) 64) (if li = tsNone then 0 else s.tsNat c li 4)
  | 0x20 => convTouch d
  | 0x30 => vecTouch d
  | 0x38 => optTouch d
  | 0x40 => moveTouch d
  | 0x50 => fabTouch s.deviceId d
  | 0x60 =>
    match (s.ctx x).colls.find (fld d 8 4) with
    | some r => collTouch r.type r.inFmt r.outFmt r.p r.flagAddr d
    | none => {}
  | _ => {}

/-- The windows of a core's tile store in which T0 tiles of a context lie (R199). -/
def State.windowsOf (s : State) (c x : Nat) (ts : List Nat) : List (Nat × Nat) :=
  ts.filterMap (fun t =>
    let e := (s.ctx x).entry t
    if e.valid && e.tier = 0 && e.core = c then some (e.frame * tileBytes, tileBytes) else none)

/-- What a descriptor touches (R168): a T0 tile of the core is the same bytes under its tile number and under its tile-store address (R199). -/
def State.touch (s : State) (c x d : Nat) : Touch :=
  let t := s.named c x d
  { t with reads := t.reads ++ s.windowsOf c x t.tileReads, writes := t.writes ++ s.windowsOf c x t.tileWrites }

/-- Migrations under way that `sel` names and that read or write a T3 window: each holds a tile-transfer slot (R258). -/
def State.t3Migs (s : State) (sel : Nat → Bool) : Nat :=
  (s.migs.filter (fun m =>
    let e := (s.ctx m.ctx).migEntry m.tile
    sel m.ctx && decide (2 ≤ e.state) && (e.tier = 3 || e.destTier = 3))).length

/-- Tracker entries and tile-transfer slots are free for n more messages of a context: its ceiling, and, for a shared context, what the sealed
contexts do not reserve (R258). -/
def State.trkRoom (s : State) (x n : Nat) (tile : Bool) : Bool :=
  let c := s.ctx x
  let mine := s.trk.filter (fun e => e.2.ctx = x)
  let pool := s.trk.filter (fun e => !(s.ctx e.2.ctx).sealed_)
  let keptE := (s.ctxs.filter (fun e => e.2.sealed_)).foldl (fun a e => a + e.2.grants.entries) 0
  let keptS := (s.ctxs.filter (fun e => e.2.sealed_)).foldl (fun a e => a + e.2.grants.slots) 0
  let slots (l : Map Trk) : Nat := (l.filter (fun e => e.2.tileSlot)).length
  decide (mine.length + n ≤ c.grants.entries) && (!tile || decide (slots mine + s.t3Migs (fun y => y = x) + n ≤ c.grants.slots))
    && (c.sealed_ || (decide (pool.length + n ≤ 65536 - keptE)
      && (!tile || decide (slots pool + s.t3Migs (fun y => !(s.ctx y).sealed_) + n ≤ 16384 - keptS))))

/-- A tile-transfer slot is free for a T3 migration of a context (R258). -/
def State.t3SlotFree (s : State) (x : Nat) : Bool :=
  let slots (sel : Nat → Bool) : Nat := (s.trk.filter (fun e => e.2.tileSlot && sel e.2.ctx)).length + s.t3Migs sel
  let keptS := (s.ctxs.filter (fun e => e.2.sealed_)).foldl (fun a e => a + e.2.grants.slots) 0
  decide (slots (fun y => y = x) + 1 ≤ (s.ctx x).grants.slots)
    && ((s.ctx x).sealed_ || decide (slots (fun y => !(s.ctx y).sealed_) + 1 ≤ 16384 - keptS))

/-- Instance slots are free for one more instance of a context (R307). -/
def State.collRoom (s : State) (x : Nat) : Bool :=
  let used (c : Ctx) : Nat := (c.insts.filter (fun e => e.2.issued)).length
  let c := s.ctx x
  let kept := (s.ctxs.filter (fun e => e.2.sealed_)).foldl (fun a e => a + e.2.grants.collSlots) 0
  let shared := (s.ctxs.filter (fun e => !e.2.sealed_)).foldl (fun a e => a + used e.2) 0
  decide (used c < c.grants.collSlots) && (c.sealed_ || decide (shared < 4096 - kept))

/-- The request-tracker entries and tile-transfer slots that a FABRIC or COLL_STEP descriptor takes are free (R258, R307). -/
def State.fabTracker (s : State) (x d : Nat) : Bool :=
  match dOp d with
  | 0x50 =>
    let dev := fld d 8 8 / 2 ^ 48
    dev == 0xFFFF || dev == s.deviceId || s.trkRoom x 1 (dSub d == 2 || dSub d == 3)
  | 0x60 => match (s.ctx x).colls.find (fld d 8 4) with | none => true | some r => s.trkRoom x (r.p - 1) false
  | _ => true

/-- What else the fabric unit waits for: a flow in OPENING (R576), a free slot of the engine (R307), and the instance two before a COLL_STEP's (R313). -/
def State.fabReady (s : State) (x d : Nat) : Bool :=
  match dOp d with
  | 0x50 =>
    let dev := fld d 8 8 / 2 ^ 48
    let fl := s.flow (fld d 24 4)
    dev == 0xFFFF || dev == s.deviceId || !(fl.ctx = x && fl.peer = dev && fl.state == FlowState.opening)
  | 0x60 =>
    match (s.ctx x).colls.find (fld d 8 4) with
    | none => true
    | some r => s.collRoom x && !(fld d 12 4 == r.next && decide (2 ≤ (r.next + 4294967296 - r.low) % 4294967296))
  | _ => true

/-- The unit of a descriptor can accept it (R166); the fabric unit's own waits are those of `fabReady` and `fabTracker`. -/
def Core.unitFree (k : Core) (d : Nat) : Bool :=
  match dOp d with
  | 0x10 => k.look.isNone
  | 0x20 | 0x30 | 0x38 => k.vec.isNone && k.chan.isNone
  | 0x40 => k.mov.isNone
  | _ => true

/-- Tile ops run: the module is in the active power state and not quiescent (R407, R513). -/
def State.coresRun (s : State) : Bool := s.power.state == PowerState.active && !s.pins.quiesced

/-- Everything but the request tracker lets the descriptor d issue from ring r (R167). -/
def State.descReady (s : State) (c r d : Nat) : Bool :=
  let g := s.ring c r
  s.coresRun && g.live && !g.waits
    && (descReserved s.deviceId d
        || ((s.core c).unitFree d && s.fabReady g.ctx d && (!dFence d || g.out.all (fun e => e.done))
            && !(g.out.any (fun e => hazard e (s.touch c g.ctx d)))))

/-- The descriptor d can issue from ring r (R167). -/
def State.canIssueDesc (s : State) (c r d : Nat) : Bool :=
  s.descReady c r d && (descReserved s.deviceId d || s.fabTracker (s.ring c r).ctx d)

def State.canIssue (s : State) (c r : Nat) : Bool := s.canIssueDesc c r (s.fetchDesc c r)

/-- It is the turn of ring r: no ring before it in the round-robin can issue (R149). -/
def State.turn (s : State) (c r : Nat) : Bool :=
  let n := (s.core c).rrNext
  (List.range ((r + 8 - n % 8) % 8)).all (fun i => !s.canIssue c ((n + i) % 8))

/-- The class bit and the core are those that a context's sampling names (R529, R536). -/
def Ctx.tags (cx : Ctx) (c d : Nat) : Option Nat :=
  match classBit (dOp d) with
  | none => none
  | some b =>
    let on (r : SampRing) : Bool := bit r.coreMask c && bit r.classMask b
    if cx.sampling.tracing then (if on cx.sampling.trace then some 1 else none)
    else if cx.sampling.on && on cx.sampling.samp then some 0 else none

/-- The tag of a descriptor at issue (R531), and the state with the core's draw made. -/
def State.tagDesc (s : State) (c r d : Nat) : State × Option Tagged :=
  let g := s.ring c r
  let cx := s.ctx g.ctx
  let mk (k : Nat) : Tagged :=
    { kind := k, issueCycle := s.clk.cycle, step := cx.job.step, stage := g.stage, micro := g.micro,
      tGather := if dOp d = 0x10 then none else some s.clk.cycle }
  match cx.tags c d with
  | none => (s, none)
  | some k =>
    let rate := if k = 1 then cx.sampling.trace.rateLog2 else cx.sampling.samp.rateLog2
    let n := (s.core c).tagDraws
    (s.updCore c (fun k => { k with tagDraws := n + 1 }), if rate = 0 || Config.tagDraw c n rate then some (mk k) else none)

/-- A fabric descriptor that only the request tracker holds begins to wait (R258). -/
def State.noteWait (s : State) (c r d : Nat) : State :=
  if s.descReady c r d && !s.canIssueDesc c r d then s.updRing c r (fun g => { g with waitAt := g.waitAt.or (some s.clk.cycle) }) else s

/-- The fabric unit takes the descriptor that waited: counter 187 gets the cycles of its wait (R526). -/
def State.endWait (s : State) (c r : Nat) : State :=
  let g := s.ring c r
  match g.waitAt with
  | none => s
  | some t => (s.count g.ctx 187 (s.clk.cycle - t)).updRing c r (fun g => { g with waitAt := none })

/-- The descriptor leaves the queue: it is in flight with what it touches, the ring's next slot follows, the turn passes on. -/
def State.takeDesc (s : State) (c r d : Nat) (deadline : Option Nat) : State :=
  let g := s.ring c r
  let t := s.touch c g.ctx d
  let tg := s.tagDesc c r d
  tg.1.updCore c (fun k =>
    { k.setRing r { k.ring r with
        next := (g.next + 1) % g.size
        issued := g.issued + 1
        out := (k.ring r).out ++ [{ slot := g.next, id := g.issued, desc := d, reads := t.reads, writes := t.writes, tileReads := t.tileReads,
                                    tileWrites := t.tileWrites, deadline := deadline, tag := tg.2 }] } with
      rrNext := (r + 1) % 8 })

/-- A row of the descriptor family: the next descriptor of the ring has the opcode and subop of the row, it can issue, and it is the
ring's turn; otherwise it waits. A reserved value completes it with RESERVED at once (R150). -/
def State.issue (s : State) (c r op sb : Nat) (deadline : State → Nat → Option Nat) (run : State → Nat → Nat → State) : State :=
  let d := s.fetchDesc c r
  if dOp d = op ∧ dSub d = sb ∧ s.canIssueDesc c r d ∧ s.turn c r then
    let id := (s.ring c r).issued
    if descReserved s.deviceId d then (s.takeDesc c r d none).complete c r id 0x10 0
    else run (s.takeDesc c r d (deadline s d)) id d
  else if dOp d = op ∧ dSub d = sb then s.noteWait c r d
  else s

/-- No deadline. -/
def noDeadline : State → Nat → Option Nat := fun _ _ => none

/-- Two ranges share a byte. -/
def rangeOver (a b : Nat × Nat) : Bool := decide (0 < a.2 ∧ 0 < b.2 ∧ a.1 < b.1 + b.2 ∧ b.1 < a.1 + a.2)

/-- The slots of the rings that a core holds (R147). -/
def State.ringRanges (s : State) (c : Nat) : List (Nat × Nat) :=
  ((s.core c).rings.filter (fun e => e.2.valid)).map (fun e => (e.2.base, 64 * e.2.size))

/-- Every tile-store range lies inside the tile store, and none written overlaps a ring, which the gaffer alone writes (R148; DEDUCED, log 73). -/
def State.rangesOk (s : State) (c : Nat) (t : Touch) : Bool :=
  t.reads.all rangeOk && t.writes.all (fun r => rangeOk r && !((s.ringRanges c).any (rangeOver r)))

/-- The ranges of a descriptor hold, and every tile has a valid entry (R172 ADDRESS, R194). -/
def State.touchOk (s : State) (c x : Nat) (t : Touch) : Bool :=
  s.rangesOk c t
    && t.tileReads.all (fun n => ((s.ctx x).entry n).valid) && t.tileWrites.all (fun n => ((s.ctx x).entry n).valid)

/-! ## Retirement -/

/-- The completion record of a descriptor (R171). -/
def OutDesc.record (d : OutDesc) : ComplRec :=
  { tag := dTag d.desc, opcode := dOp d.desc, status := d.status, flags := d.flags % 64, slot := d.slot, timeNs := d.timeNs }

/-- The 16 bytes of a completion record. -/
def ComplRec.bytes (r : ComplRec) : List Byte :=
  leBytes 2 r.tag ++ leBytes 1 r.opcode ++ leBytes 1 r.status ++ leBytes 1 r.flags ++ zeros 1 ++ leBytes 2 r.slot ++ leBytes 8 r.timeNs

/-- Whether the retirement of a descriptor needs a record (R170). -/
def OutDesc.needsRecord (d : OutDesc) : Bool := dRec d.desc || d.status != 0

/-- The OPT_UPDATE descriptors of a layer in the rings of a context that `sel` names, as pending-update entries, one each (R362). -/
def State.gradUpdates (s : State) (x layer : Nat) (sel : Nat → Nat → Bool) : List Update :=
  s.cores.flatMap (fun e => e.2.rings.flatMap (fun q =>
    if q.2.valid && q.2.ctx = x && sel e.1 q.1 then
      (List.range q.2.size).filterMap (fun i =>
        let d := s.tsNat e.1 (q.2.base + 64 * i) 64
        if dOp d = 0x38 ∧ dTag d = layer then
          some { layer := layer, param := fld d 8 4, step := (s.ctx x).job.step, desc := d, core := e.1, ring := q.1 }
        else none)
    else []))

/-- The layers of a context's job whose gradient reduction is the one named, ascending (R350). -/
def Job.gradLayers (j : Job) (coll : Nat) : List Nat :=
  match j.image with
  | some im => ((im.layerMap.filter (fun l => l.gradColl = coll)).map (fun l => l.layer)).mergeSort (fun a b => decide (a ≤ b))
  | none => []

/-- The gradients of the layers that a reduction serves are final: their entries are appended in ascending layer (R362). -/
def State.gradFinal (s : State) (x coll : Nat) (sel : Nat → Nat → Bool) : State :=
  ((s.ctx x).job.gradLayers coll).foldl (fun s l => s.updCtx x (fun c => { c with updates := c.updates ++ s.gradUpdates x l sel })) s

/-- The oldest descriptor of a ring retires (R170). The last descriptor of a step is its END; its retirement ends the backward of the layers
that have no reduction (R362). -/
def State.retire (s : State) (c r : Nat) : State :=
  let g := s.ring c r
  match g.out with
  | [] => s
  | d :: rest =>
    if !d.done || (d.needsRecord && 1024 ≤ g.compl.length) then s
    else
      let s := s.updRing c r (fun g => { g with out := rest, compl := if d.needsRecord then g.compl ++ [d.record] else g.compl })
      let s := s.count g.ctx (120 + c) 1
      let s := if dOp d.desc = 0x02 ∧ d.status = 0 then s.gradFinal g.ctx 0xFFFFFFFF (fun c' r' => c' = c && r' = r) else s
      if dSigEn d.desc then s.signal g.ctx (dSigEvent d.desc) else s

/-- The gaffer serves a completion ring (R170, R172): it logs every failure, keeps the latest record of each FABRIC descriptor and frees the slots. -/
def State.serveCompl (s : State) (c r : Nat) : State :=
  if s.life.fwSwitch then s
  else
    let g := s.ring c r
    let s := g.compl.foldl (fun s k =>
      if k.status = 0 then s
      else s.logRecord 0x12 (recSev 0x12) g.ctx (fun _ => k.bytes ++ leBytes 2 c ++ leBytes 1 r)) s
    s.updRing c r (fun g => { g with
      compl := []
      fab := g.compl.foldl (fun m k => if k.opcode = 0x50 then m.set k.slot k else m) g.fab })

end Sys2Proof.Machine
end

