-- ==== Sys2Proof/Machine/Events.lean ====
section
/-! DEFINITION. The events of a job's steps that are keyed to fabric time (R367 to R371): the grid, the event table's entries, the pre-ramp's start
(R101), and the order of events that fall on one fabric time (R18, R371). -/

namespace Sys2Proof.Machine

/-- The first grid point of a manifest at or after a fabric time (R367). -/
def gridAt (m : Manifest) (t : Nat) : Nat :=
  m.gridOriginNs + ceilDiv (t - m.gridOriginNs) m.periodNs * m.periodNs

/-- An entry of the event table of a context's job that applies to this module (R368). -/
def Job.entry (j : Job) (i : Nat) : Option EvtEntry :=
  match j.events[i]? with
  | some e => if e.rankSel = 0xFFFF ∨ e.rankSel = j.plan.position then some e else none
  | none => none

/-- The TAI time of an offset from the start of a context's step (R367). -/
def Job.atOff (j : Job) (off : Int) : Nat := (((j.epoch + j.stepStart : Nat) : Int) + off).toNat

/-- Every descriptor of the step has retired on this module, and each ring has ended (R367). -/
def State.stepRetired (s : State) (x : Nat) : Bool :=
  s.cores.all (fun e => e.2.rings.all (fun q => !(q.2.valid && q.2.ctx = x) || (!q.2.running && !q.2.halted && q.2.out.isEmpty)))

/-- The next step of the job. -/
def Job.nextStepNo (j : Job) : Nat := if j.firstDone then (j.step + 1) % 2 ^ 40 else j.step

/-- What holds the start of the next step: a fence or recovery, a re-shard at its boundary (R332), a securing test or prefetch that is due, a
prefetch that waits for its data (R455), a punty switch agreed for it (R430). -/
def State.stepHeld (s : State) (x : Nat) : Bool :=
  let c := s.ctx x
  let r := c.job.reshard
  c.fenced || (c.recov.state != .none_ && c.recov.state != .replaying) || c.job.boundaryDue || c.job.prefetchDue || c.feed.waiting
    || (r.state != .idle && r.boundary = c.job.nextStepNo)
    || (c.weights.pending && c.weights.switchStep = c.job.nextStepNo)

/-- The grid point at which the next step starts, and the grid points passed over since it was due (R367, R333). -/
def State.stepGrid (s : State) (x : Nat) (m : Manifest) : Nat × Nat :=
  let j := (s.ctx x).job
  let due := if j.firstDone then j.stepStart + m.periodNs else j.plan.gridStart
  let g := gridAt m (max (max due j.notBefore) (s.fabricNs x))
  (g, (g - gridAt m due) / m.periodNs)

/-- Fabric time of a context in units of 2⁻¹⁶ ns. -/
def State.fabricUnits (s : State) (x : Nat) : Nat := s.clk.tai.units - (s.ctx x).job.epoch * 65536

/-- An ARRAY_MUL stands in the next `fuel` slots that a ring fetches before an END or another BARRIER (R101). -/
def State.arrayAhead (s : State) (c : Nat) (g : Ring) : Nat → Nat → Bool
  | 0, _ => false
  | fuel + 1, slot =>
    let d := s.tsNat c (g.base + 64 * slot) 64
    if dOp d = 0x10 then true
    else if dOp d = 0x02 ∨ dOp d = 0x08 then false
    else if dOp d = 0x03 then s.arrayAhead c g fuel (fld d 8 2 % g.size)
    else s.arrayAhead c g fuel ((slot + 1) % g.size)

/-- The pending barriers of a core with array work after them: context and target (R101). -/
def State.rampTargets (s : State) (c : Nat) : List (Nat × Nat) :=
  (s.core c).rings.filterMap (fun e =>
    match e.2.out.find? (fun d => !d.done && dOp d.desc = 0x08) with
    | some d => if s.arrayAhead c e.2 e.2.size e.2.next then d.deadline.map (fun t => (e.2.ctx, t)) else none
    | none => none)

/-- The RAMP entry of the event table that applies to this module (R369). -/
def Job.rampOffset (j : Job) : Option Int :=
  (j.events.find? (fun e => e.type = 1 && (e.rankSel = 0xFFFF || e.rankSel = j.plan.position))).map (fun e => e.startOff)

/-- A fabric time of a context in units of 2⁻¹⁶ ns as TAI (R17). -/
def State.taiOf (s : State) (x t : Nat) : Nat := t + (s.ctx x).job.epoch * 65536

/-- The earliest pending barrier of a core that has array work after it: its context and target (R101). -/
def State.firstTarget (s : State) (c : Nat) : Option (Nat × Nat) :=
  (s.rampTargets c).foldl (fun m p =>
    match m with | none => some p | some q => if s.taiOf p.1 p.2 < s.taiOf q.1 q.2 then some p else some q) none

/-- The start of the step in which a fabric time lies, the steps after the current one starting a period apart (R367; DEDUCED, log 77). -/
def Job.stepOf (j : Job) (ns : Nat) : Nat :=
  match j.image with
  | some im => j.stepStart + (ns - j.stepStart) / im.man.periodNs * im.man.periodNs
  | none => j.stepStart

/-- The start of the pre-ramp toward a target, in fabric time: the ramp start of the event table, an offset from the start of the step in which the
target lies (R368, R369), or 52,920 cycles (50,400 ns) before the target (R101). -/
def State.rampStart (s : State) (x t : Nat) : Nat :=
  let j := (s.ctx x).job
  match j.rampOffset with
  | some o => ((j.stepOf (t / 65536) : Nat) + o).toNat
  | none => t / 65536 - 50400

/-- What the event table and the rings of a context still hold to come, each with its place in the order of R371, its entry index and its TAI time:
window ends (1), BOUNDARY (2), step start and BARRIER releases (3), window starts (4), RAMP (5), PREFETCH (6). -/
def State.comingEvents (s : State) (x : Nat) : List (Nat × Nat × Nat) :=
  let c := s.ctx x
  let j := c.job
  if j.phase ≠ 4 then []
  else
    let mine := (List.range j.events.length).filterMap (fun i => (j.entry i).map (fun e => (i, e)))
    let left (k t : Nat) : List (Nat × EvtEntry) := mine.filter (fun e => e.2.type = t && !j.evDone.contains (k, e.1))
    let ends := s.macs.filterMap (fun e => match e.2.window with | some w => if w.ctx = x then some (1, w.entry, w.endNs) else none | none => none)
    let bound := if c.fenced then [] else (left 2 4).map (fun e => (2, e.1, j.atOff e.2.startOff))
    let start := match j.image with
      | some im => if s.stepRetired x && !s.stepHeld x then [(3, 0, j.epoch + (s.stepGrid x im.man).1)] else []
      | none => []
    let bars := s.cores.flatMap (fun e => e.2.rings.flatMap (fun q =>
      if q.2.ctx = x then
        q.2.out.filterMap (fun d => if !d.done && dOp d.desc = 0x08 then d.deadline.map (fun t => (3, 0, j.epoch + ceilDiv t 65536)) else none)
      else []))
    let starts := (left 4 2).map (fun e => (4, e.1, j.atOff e.2.startOff))
    let ramps := (s.cores.map (fun e => e.1)).filterMap (fun k =>
      match s.firstTarget k with
      | some (y, t) => if y = x && (s.core k).preRamp != some (t, y) then some (5, 0, j.epoch + s.rampStart x t) else none
      | none => none)
    ends ++ bound ++ start ++ bars ++ starts ++ ramps

/-- It is the turn of an event of a kind and index at a TAI time: no event that the order of R371 puts before it is still to come at that time. -/
def State.evTurn (s : State) (x kind idx t : Nat) : Bool :=
  (s.comingEvents x).all (fun e => e.2.2 != t || !(decide (e.1 < kind) || (e.1 == kind && decide (e.2.1 < idx))))

/-- An entry of the event table has been applied in this step. -/
def State.evMark (s : State) (x kind idx : Nat) : State :=
  s.updJob x (fun j => { j with evDone := (kind, idx) :: j.evDone })

end Sys2Proof.Machine
end

