-- ==== Sys2Proof/Machine/Control.lean ====
section
/-! DEFINITION. The control descriptors NOP, END, JUMP, CURSOR, BARRIER and EVENT_WAIT (R165, R173, R174), their ends, retirement and the
service of a completion ring (R170). -/

namespace Sys2Proof.Machine

/-- NOP completes at issue (R169). -/
def execNop (core ring : Nat) (s : State) : Host.Outcome State Fault Refusal :=
  .next (s.issue core ring 0x01 0 noDeadline (fun s slot _ => s.complete core ring slot 0 0))

/-- END completes at issue and stops the ring (R149). -/
def execEndDesc (core ring : Nat) (s : State) : Host.Outcome State Fault Refusal :=
  .next (s.issue core ring 0x02 0 noDeadline (fun s slot _ =>
    (s.complete core ring slot 0 0).updRing core ring (fun g => { g with running := false })))

/-- JUMP completes at issue; fetch continues at its target slot, which must lie in the ring (R149). -/
def execJump (core ring : Nat) (s : State) : Host.Outcome State Fault Refusal :=
  .next (s.issue core ring 0x03 0 noDeadline (fun s slot d =>
    if fld d 8 2 < (s.ring core ring).size then
      (s.complete core ring slot 0 0).updRing core ring (fun g => { g with next := fld d 8 2 })
    else s.complete core ring slot 0x11 0))

/-- CURSOR sets the ring's schedule cursor (R165). -/
def execCursor (core ring : Nat) (s : State) : Host.Outcome State Fault Refusal :=
  .next (s.issue core ring 0x04 0 noDeadline (fun s slot d =>
    (s.complete core ring slot 0 0).updRing core ring (fun g => { g with micro := fld d 8 2, stage := fld d 10 1 })))

/-- The target of a BARRIER in fabric time, in units of 2⁻¹⁶ ns: absolute, or from the start of the current step (R165). -/
def State.barrierTarget (s : State) (x d : Nat) : Nat :=
  (fld d 8 8 + (if fld d 18 1 = 1 then (s.ctx x).job.stepStart else 0)) * 65536 + fld d 16 2

/-- BARRIER waits for its target; when the target has passed it completes at issue and is counted as late (R174). -/
def execBarrier (core ring : Nat) (s : State) : Host.Outcome State Fault Refusal :=
  let x := (s.ring core ring).ctx
  .next (s.issue core ring 0x08 0 (fun s d => some (s.barrierTarget x d)) (fun s slot d =>
    let t := s.barrierTarget x d
    if s.fabricUnits x < t then s
    else
      let s := s.complete core ring slot 0 0
      if t < s.fabricUnits x then s.count x (132 + core) 1 else s))

/-- The clock at a deadline of a context, in units of 2⁻¹⁶ ns of fabric time, or as it is when that has passed (log 4). -/
def State.toDeadline (s : State) (x u : Nat) : State := s.toFabric x (u / 65536 + (if u % 65536 = 0 then 0 else 1))

/-- A ramp ahead of a barrier ends with the barrier's target (R101). -/
def Core.endPreRamp (k : Core) (t : Nat) : Core :=
  { k with preRamp := match k.preRamp with | some p => if p.1 ≤ t then none else some p | none => none }

/-- Fabric time reaches the target of the ring's BARRIER, which completes (R169), in its turn among the events of that time (R371). -/
def execBarrierRelease (core ring : Nat) (s : State) : Host.Outcome State Fault Refusal :=
  let g := s.ring core ring
  match g.out.find? (fun d => !d.done && dOp d.desc = 0x08) with
  | none => .next s
  | some d =>
    match d.deadline with
    | none => .next s
    | some t =>
      if !s.evTurn g.ctx 3 0 ((s.ctx g.ctx).job.epoch + ceilDiv t 65536) then .next s
      else .next (((s.toDeadline g.ctx t).complete core ring d.id 0 0).updCore core (fun k => k.endPreRamp t))

/-- The timeout of an EVENT_WAIT, in fabric time; none for 0 (R165). -/
def State.waitDeadline (s : State) (x d : Nat) : Option Nat :=
  if fld d 16 8 = 0 then none else some (s.fabricUnits x + fld d 16 8 * 65536)

/-- EVENT_WAIT of a subop: it completes at issue when its condition holds, and waits otherwise (R173). -/
def State.eventWait (s : State) (core ring sb : Nat) : State :=
  let x := (s.ring core ring).ctx
  s.issue core ring 0x09 sb (fun s d => s.waitDeadline x d) (fun s slot d =>
    if waitHolds d ((s.ctx x).events.getOr (fld d 8 1) 0) then s.complete core ring slot 0 0 else s)

/-- EVENT_WAIT at least (R173). -/
def execEventWaitAtLeast (core ring : Nat) (s : State) : Host.Outcome State Fault Refusal := .next (s.eventWait core ring 0)

/-- EVENT_WAIT equal (R173). -/
def execEventWaitEqual (core ring : Nat) (s : State) : Host.Outcome State Fault Refusal := .next (s.eventWait core ring 1)

/-- The timeout of the ring's EVENT_WAIT expires: it completes with WAIT_TIMEOUT and issue stops (R172). -/
def execEventWaitTimeout (core ring : Nat) (s : State) : Host.Outcome State Fault Refusal :=
  let g := s.ring core ring
  match g.out.find? (fun d => !d.done && dOp d.desc = 0x09) with
  | none => .next s
  | some d =>
    match d.deadline with
    | none => .next s
    | some t => .next ((s.toDeadline g.ctx t).complete core ring d.id 0x19 0)

/-- The oldest descriptor of the ring retires once it has completed (R170). -/
def execDescriptorRetire (core ring : Nat) (s : State) : Host.Outcome State Fault Refusal := .next (s.retire core ring)

/-- The gaffer reads the ring's completion records and frees them (R170). -/
def execCompletionRingService (core ring : Nat) (s : State) : Host.Outcome State Fault Refusal := .next (s.serveCompl core ring)

/-- A descriptor with a reserved opcode or subop completes with RESERVED at fetch and stops the ring (R150). -/
def execReservedOpcode (core ring : Nat) (s : State) : Host.Outcome State Fault Refusal :=
  let d := s.fetchDesc core ring
  if subopOk (dOp d) (dSub d) then .next s
  else .next (s.issue core ring (dOp d) (dSub d) noDeadline (fun s _ _ => s))

end Sys2Proof.Machine
end

