-- ==== Sys2Proof/Machine/VectorOps.lean ====
section
/-! DEFINITION. The descriptors of the vector unit: CONVERT (R159), VECTOR (R160, R175 to R187) and OPT_UPDATE (R161, R186, R364), the update
channel (R363), and the completion of the vector and move units (R169). -/

namespace Sys2Proof.Machine

/-! ## CONVERT -/

/-- Row r, block b of a scale tensor (R156), or 0 for the unit scale. -/
def State.scaleByte (s : State) (c a r b : Nat) : Int :=
  if a < tsSize then byteToInt (s.tsNat c (a + b / 8 * 2048 + 8 * r + b % 8) 1) else 0

/-- The value of a source element of CONVERT. -/
def State.srcVal (s : State) (c d r k code : Nat) : Val :=
  if fld d 30 1 = 0 then Kb8.lin (BitVec.ofNat 8 code) (s.scaleByte c (fld d 16 4) r (k / 32)) else fmtVal (fld d 30 1) code

/-- One row of CONVERT subops 0x00 and 0x01: its codes, the scales of its blocks, and the occurrences. -/
def State.convRow (s : State) (c d r : Nat) : List (Nat × Nat) × List Int :=
  let f := fld d 30 1
  let g := fld d 31 1
  let w := fmtWidth f
  let cols := fld d 24 4
  let codes := s.tsCodes c (fld d 8 4 + r * fld d 32 4 * w) w cols
  let vals := (codes.zip (List.range cols)).map (fun p => s.srcVal c d r p.2 p.1)
  let scales : List Int :=
    if g ≠ 0 then []
    else if dSub d = 0 then (blocks32 (ceilDiv cols 32) vals).map blockScale
    else (List.range (ceilDiv cols 32)).map (fun b => s.scaleByte c (fld d 20 4) r b)
  let out := ((codes.zip vals).zip (List.range cols)).map (fun p =>
    let code := p.1.1
    let v := p.1.2
    let k := p.2
    if g = 0 then toKb8 f code v (scales.getD (k / 32) 0)
    else if f = 0 ∧ g = 1 then
      let q := kb8ToKb16 (BitVec.ofNat 8 code) (s.scaleByte c (fld d 16 4) r (k / 32)) (dMode d)
      (q.1.toNat, occIn v ||| occOvf q.2 ||| occOf q.1.lin)
    else
      let q := fmtEncode g (dMode d) v
      (q.1, occIn v ||| q.2))
  (out, scales)

/-- The occurrences of rows of elements, numbered r × cols + k. -/
def rowsOcc (cols : Nat) (rows : List (Nat × List Nat)) : Map Nat :=
  rows.foldl (fun m r => (r.2.zip (List.range r.2.length)).foldl (fun m p => occAdd m (r.1 * cols + p.2) p.1) m) []

/-- The flag words as writes, and their bits [5:0] ORed (R187, R171). -/
def flagEffs (addr : Nat) (occ : Map Nat) (elements w : Nat) : List Eff × Nat :=
  let ws := flagWords occ elements w
  (if addr = tsNone then [] else [.ts addr (codeBytes 8 ws)], flagsOr ws)

/-- CONVERT subops 0x00 and 0x01 (R159). -/
def State.convert (s : State) (c d : Nat) : List Eff × Nat :=
  let rows := fld d 28 2
  let cols := fld d 24 4
  let w := fmtWidth (fld d 31 1)
  let rs := (List.range rows).map (fun r => (r, s.convRow c d r))
  let effs := rs.flatMap (fun p =>
    (Eff.ts (fld d 12 4 + p.1 * fld d 32 4 * w) (codeBytes w (p.2.1.map (fun e => e.1))))
      :: (if fld d 31 1 = 0 ∧ dSub d = 0 then
            (List.range (chunksOf cols)).map (fun k =>
              Eff.ts (fld d 20 4 + k * 2048 + 8 * p.1) (((p.2.2.drop (8 * k)).take 8).map (fun b => BitVec.ofNat 8 (intToByte b))))
          else []))
  let fl := flagEffs (fld d 36 4) (rowsOcc cols (rs.map (fun p => (p.1, p.2.1.map (fun e => e.2))))) (rows * cols) w
  (effs ++ fl.1, fl.2)

/-- CONVERT subops 0x02 and 0x03: the split into pieces (R159, R60). -/
def State.splitConv (s : State) (c d : Nat) : List Eff × Nat :=
  let rows := fld d 28 2
  let cols := fld d 24 4
  let p := dSub d
  let rs := (List.range rows).map (fun r =>
    (r, (s.tsCodes c (fld d 8 4 + r * fld d 32 4 * 4) 4 cols).map (fun x => splitPieces (fmtVal 6 x) (dMode d))))
  let effs := rs.flatMap (fun q => (List.range (chunksOf cols)).flatMap (fun ch => (List.range p).map (fun i =>
    let codes := (List.range 256).map (fun k =>
      match q.2[256 * ch + k]? with
      | some e => (e.1.getD i 0x4000#16).toNat
      | none => 0x4000)
    Eff.ts (fld d 12 4 + (ch * p + i) * fld d 40 4 + 512 * q.1) (codeBytes 2 codes))))
  let fl := flagEffs (fld d 36 4) (rowsOcc cols (rs.map (fun q => (q.1, q.2.map (fun e => e.2))))) (rows * cols) 2
  (effs ++ fl.1, fl.2)

/-! ## VECTOR -/

/-- A VECTOR input element as binary32 (R176). -/
def vecIn (f : Nat) (mode : Mode) (code : Nat) : F32 :=
  if f = 1 then BitVec.ofNat 32 (Fmt.single.encode mode (Kb16.lin (BitVec.ofNat 16 code))).1 else BitVec.ofNat 32 code

/-- The input occurrences of operands. -/
def inOcc (xs : List F32) : Nat := xs.foldl (fun o x => o ||| occIn x.val) 0

/-- The occurrence of an element with the given inputs and result (R187). -/
def resOcc (ins : Nat) (y : F32) : Nat :=
  ins ||| occOf y.val ||| (if y.val.special && ins == 0 then occAcc else 0)

/-- A result element as its code, with the conversion's occurrences (R176, R187). -/
def vecOut (f : Nat) (mode : Mode) (y : F32) : Nat × Nat :=
  if f = 1 then
    let r := kb16From y.val mode
    (r.1.toNat, occOvf r.2 ||| occOf r.1.lin)
  else (y.toNat, 0)

/-- Elementwise subops on binary32. -/
def vecElem (sb : Nat) (p0 a b c : F32) : F32 :=
  match sb with
  | 0x00 => F32.add a b
  | 0x01 => F32.sub a b
  | 0x02 => F32.mul a b
  | 0x03 => F32.fma a b c
  | 0x04 => F32.fma a p0 b
  | 0x05 => F32.max a b
  | 0x06 => F32.min a b
  | 0x08 => a.exp
  | 0x09 => a.log
  | 0x0A => a.rcp
  | 0x0B => a.rsqrt
  | 0x0C => a.sqrt
  | 0x0D => a.sigmoid
  | 0x0E => a.gelu
  | _ => a.silu

/-- The operands an elementwise subop reads. -/
def vecOperands (sb : Nat) (p0 a b c : F32) : List F32 :=
  if sb = 3 then [a, b, c] else if sb = 4 then [a, p0, b] else if sb < 8 then [a, b] else [a]

/-- One row of a VECTOR op: results with the input occurrences of each (R183 to R185, R189). -/
def vecRow (sb cols : Nat) (p0 p1 : F32) (p0raw : Nat) (draw : Nat → Nat) (as bs cs : List F32) : List (F32 × Nat) :=
  if sb = 0x10 then (softmaxRow as).map (fun y => (y, inOcc as))
  else if sb = 0x11 then
    ((layerNormRow as bs cs p0).zip (bs.zip cs)).map (fun p => (p.1, inOcc as ||| inOcc [p0, p.2.1, p.2.2]))
  else if sb = 0x12 then ((rmsNormRow as bs p0).zip bs).map (fun p => (p.1, inOcc as ||| inOcc [p0, p.2]))
  else if sb = 0x13 then [(rowSum as, inOcc as)]
  else if sb = 0x14 then [(rowMax as, inOcc as)]
  else if sb = 0x18 then (List.range cols).map (fun k => (uniformDraw (draw k), 0))
  else if sb = 0x19 then
    (as.zip (List.range cols)).map (fun p => if draw p.2 < p0raw then (F32.mul p.1 p1, inOcc [p.1, p1]) else (F32.zero, 0))
  else
    (List.range cols).map (fun k =>
      let a := as.getD k F32.zero
      let b := bs.getD k F32.zero
      let c := cs.getD k F32.zero
      (vecElem sb p0 a b c, inOcc (vecOperands sb p0 a b c)))

/-- One row in the log domain (R176): multiply, reciprocal, sqrt. -/
def logRow (sb : Nat) (mode : Mode) (as bs : List Nat) : List (Nat × Nat) :=
  (as.zip (List.range as.length)).map (fun p =>
    let a : Kb16 := BitVec.ofNat 16 p.1
    let r := if sb = 2 then kb16Mul a (BitVec.ofNat 16 (bs.getD p.2 0)) mode else if sb = 10 then kb16Rcp a mode else kb16Sqrt a mode
    (r.1.toNat, r.2))

/-- One row of a VECTOR descriptor of a ring: codes with their occurrences. -/
def State.vectorRow (s : State) (c r d row : Nat) : List (Nat × Nat) :=
  let g := s.ring c r
  let job := (s.ctx g.ctx).job
  let sb := dSub d
  let fi := fld d 30 1
  let fo := fld d 31 1
  let cols := fld d 24 4
  let w := fmtWidth fi
  let one := sb = 0x11 ∨ sb = 0x12
  let codes (a : Nat) (first : Bool) : List Nat :=
    if a = tsNone then [] else s.tsCodes c (a + (if first then 0 else row * fld d 32 4 * w)) w cols
  let ac := codes (fld d 8 4) false
  let bc := codes (fld d 12 4) (decide one)
  let cc := codes (fld d 16 4) (decide one)
  if fi = 1 ∧ fo = 1 ∧ (sb = 2 ∨ sb = 10 ∨ sb = 12) then logRow sb (dMode d) ac bc
  else
    let v (xs : List Nat) : List F32 := xs.map (vecIn fi (dMode d))
    let seed := match job.image with | some im => im.man.seed | none => 0
    let draw (k : Nat) : Nat := rngWord seed job.step (fld d 52 2) g.micro g.stage (fld d 56 6 + row * cols + k)
    (vecRow sb cols (BitVec.ofNat 32 (fld d 36 4)) (BitVec.ofNat 32 (fld d 40 4)) (fld d 36 4) draw (v ac) (v bc) (v cc)).map (fun p =>
      let o := vecOut fo (dMode d) p.1
      (o.1, resOcc p.2 p.1 ||| o.2))

/-- The writes and flags of a VECTOR descriptor (R160, R187). -/
def State.vector (s : State) (c r d : Nat) : List Eff × Nat :=
  let rows := fld d 28 2
  let cols := if dSub d = 0x13 ∨ dSub d = 0x14 then 1 else fld d 24 4
  let w := fmtWidth (fld d 31 1)
  let rs := (List.range rows).map (fun q => (q, s.vectorRow c r d q))
  let effs := rs.map (fun p => Eff.ts (fld d 20 4 + p.1 * fld d 32 4 * w) (codeBytes w (p.2.map (fun e => e.1))))
  let fl := flagEffs (fld d 48 4) (rowsOcc cols (rs.map (fun p => (p.1, p.2.map (fun e => e.2))))) (rows * cols) w
  (effs ++ fl.1, fl.2)

/-- The cycles per 512 elements of a VECTOR subop (R185). -/
def vectorCost (sb : Nat) : Nat :=
  match sb with
  | 0x08 | 0x09 | 0x0C | 0x12 => 6
  | 0x0A => 4
  | 0x0B => 5
  | 0x0D => 12
  | 0x0E => 16
  | 0x0F => 13
  | 0x10 => 10
  | 0x11 => 9
  | 0x18 | 0x19 => 2
  | _ => 1

/-! ## OPT_UPDATE -/

/-- The hyperparameter i of the record of R186. -/
def State.hyper (s : State) (c d i : Nat) : F32 := BitVec.ofNat 32 (s.tsNat c (fld d 32 4 + 4 * i) 4)

/-- One element of OPT_UPDATE: m, v and p (R186). -/
def optElem (sb : Nat) (h : Nat → F32) (param grad m1 m2 : F32) : F32 × F32 × F32 :=
  let g := F32.mul grad (h 0)
  let p1 := F32.fma (h 8).neg param param
  if sb = 0 then
    let m := F32.fma (h 2) m1 (F32.mul (h 1) g)
    let v := F32.fma (h 4) m2 (F32.mul (h 3) (F32.mul g g))
    let q := F32.mul m (F32.add (F32.mul v (h 6)).sqrt (h 7)).rcp
    (m, v, F32.fma (h 5).neg q p1)
  else
    let m := F32.fma (h 2) m1 g
    (m, F32.zero, F32.fma (h 5).neg m p1)

/-- The writes, status and flags of OPT_UPDATE (R186, R187). -/
def State.optUpdate (s : State) (c d : Nat) : List Eff × Nat × Nat :=
  let n := fld d 28 4
  let sb := dSub d
  let rd (a : Nat) : List F32 := (s.tsCodes c a 4 n).map (BitVec.ofNat 32)
  let ps := rd (fld d 8 4)
  let gs := rd (fld d 12 4)
  let m1 := rd (fld d 16 4)
  let m2 := if sb = 0 then rd (fld d 20 4) else []
  if s.tsNat c (fld d 32 4 + 36) 28 ≠ 0 then ([], 0x10, 0)
  else if bit (fld d 41 1) 0 && gs.any (fun g => g.val.special) then
    let fl := flagEffs (fld d 36 4) (rowsOcc n [(0, gs.map (fun g => occIn g.val))]) n 4
    (fl.1, 0x01, fl.2)
  else
    let h (i : Nat) : F32 := s.hyper c d i
    let hs := if sb = 0 then (List.range 9).map h else [h 0, h 2, h 5, h 8]
    let es := (List.range n).map (fun i =>
      let p := ps.getD i 0
      let g := gs.getD i 0
      let a := m1.getD i 0
      let b := m2.getD i 0
      let y := optElem sb h p g a b
      let ins := inOcc hs ||| inOcc ([p, g, a] ++ (if sb = 0 then [b] else []))
      let cp := fmtEncode (fld d 40 1) (dMode d) y.2.2.val
      let occ := resOcc ins y.2.2 ||| occOf y.1.val ||| occOf y.2.1.val
        ||| (if (y.1.val.special || y.2.1.val.special) && ins == 0 then occAcc else 0)
        ||| (if fld d 24 4 = tsNone then 0 else cp.2)
      (y, cp.1, occ))
    let fl := flagEffs (fld d 36 4) (rowsOcc n [(0, es.map (fun e => e.2.2))]) n 4
    ([Eff.ts (fld d 16 4) (codeBytes 4 (es.map (fun e => e.1.1.toNat)))]
      ++ (if sb = 0 then [Eff.ts (fld d 20 4) (codeBytes 4 (es.map (fun e => e.1.2.1.toNat)))] else [])
      ++ [Eff.ts (fld d 8 4) (codeBytes 4 (es.map (fun e => e.1.2.2.toNat)))]
      ++ (if fld d 24 4 = tsNone then [] else [Eff.ts (fld d 24 4) (codeBytes 2 (es.map (fun e => e.2.1)))])
      ++ fl.1, 0, fl.2)

/-! ## Starting and ending an operation -/

/-- The duration of an operation for which the manual gives no cycles: a free value (log 5). -/
def State.freeCycles (s : State) : Nat := Config.freeValue s.fresh

/-- The vector unit starts the operation of a slot; its results take effect when it ends. -/
def State.startVec (s : State) (c r slot : Nat) (res : List Eff × Nat × Nat) (cycles : Nat) : State :=
  let x := (s.ring c r).ctx
  let s := s.count x (144 + c) cycles
  s.updCore c (fun k => { k with
    vec := some { ring := r, slot := slot, ctx := x, due := s.clk.cycle + cycles, effs := res.1, status := res.2.1, flags := res.2.2 } })

/-- A descriptor of the vector unit: ADDRESS when a range lies outside, RESERVED when its record is (R186), else it runs for the cycles given. -/
def State.runVec (s : State) (c r slot d : Nat) (res : List Eff × Nat × Nat) (cycles : Option Nat) : State :=
  let x := (s.ring c r).ctx
  if !s.touchOk c x (s.touch c x d) then s.complete c r slot 0x11 0
  else if res.2.1 = 0x10 then s.complete c r slot 0x10 0
  else
    match cycles with
    | some n => s.startVec c r slot res n
    | none => (s.startVec c r slot res s.freeCycles).draw

/-- CONVERT of a subop. -/
def State.execConv (s : State) (core ring sb : Nat) : State :=
  s.issue core ring 0x20 sb noDeadline (fun s slot d =>
    let r := if sb < 2 then s.convert core d else s.splitConv core d
    s.runVec core ring slot d (r.1, 0, r.2) none)

/-- VECTOR of a subop. -/
def State.execVec (s : State) (core ring sb : Nat) : State :=
  s.issue core ring 0x30 sb noDeadline (fun s slot d =>
    let r := s.vector core ring d
    s.runVec core ring slot d (r.1, 0, r.2) (some (ceilDiv (fld d 28 2 * fld d 24 4) 512 * vectorCost sb)))

/-- The pending-update entry that an OPT_UPDATE of a core matches: layer number in TAG and PARAM address (R364). -/
def Ctx.findUpdate (c : Ctx) (core d : Nat) : Option Update :=
  c.updates.find? (fun u => u.core = core && u.layer = dTag d && u.param = fld d 8 4)

/-- The queue without the entry that a descriptor matches. -/
def Ctx.dropUpdate (c : Ctx) (core d : Nat) : Ctx :=
  { c with updates := c.updates.filter (fun u => !(u.core = core && u.layer = dTag d && u.param = fld d 8 4)) }

/-- The gaffer writes C1, C2 and LRWD of a hyperparameter record for a step (R186). The optimizer step t of step s is s + 1, and a quotient by 0 is a
free value (DESIGN CHOICE, log 59). -/
def State.writeHyper (s : State) (c x a step : Nat) : State :=
  let job := match (s.ctx x).job.image with | some im => im.man.jobId | none => 0
  let lr := Config.learningRate job step
  let ratioOf (n b : Rat) (i : Nat) : F32 :=
    if 1 - b ^ (step + 1) = 0 then BitVec.ofNat 32 (Config.freeValue (s.fresh + i)) else F32.ofRat (n / (1 - b ^ (step + 1)))
  let s1 := s.tsWrite c (a + 20) (leBytes 4 (ratioOf lr (Config.beta1 job) 0).toNat ++ leBytes 4 (ratioOf 1 (Config.beta2 job) 1).toNat)
  (s1.tsWrite c (a + 32) (leBytes 4 (F32.ofRat (lr * Config.weightDecay job)).toNat)).draw.draw

/-- Before the first update of a step that reads a hyperparameter record, the gaffer writes the record for that step (R365). -/
def State.prepHyper (s : State) (c x d step : Nat) : State :=
  let a := fld d 32 4
  if (s.ctx x).job.hyperAt.contains (c, a, step) then s
  else (s.writeHyper c x a step).updJob x (fun j => { j with hyperAt := j.hyperAt.filter (fun e => e.2.2 = step) ++ [(c, a, step)] })

/-- OPT_UPDATE of a subop (R364): an entry that the channel has run completes it with the channel's status; otherwise it runs and removes
its entry. -/
def State.execOpt (s : State) (core ring sb : Nat) : State :=
  s.issue core ring 0x38 sb noDeadline (fun s slot d =>
    let x := (s.ring core ring).ctx
    match (s.ctx x).findUpdate core d with
    | some u =>
      if u.state = 2 then (s.updCtx x (fun c => c.dropUpdate core d)).complete core ring slot u.status u.flags
      else
        let s := (s.updCtx x (fun c => c.dropUpdate core d)).prepHyper core x d u.step
        s.runVec core ring slot d (s.optUpdate core d) none
    | none => s.runVec core ring slot d (s.optUpdate core d) none)

/-- CONVERT with computed scales (R159). -/
def execConvertComputedScales (core ring : Nat) (s : State) : Host.Outcome State Fault Refusal := .next (s.execConv core ring 0)
/-- CONVERT with supplied scales (R159). -/
def execConvertSuppliedScales (core ring : Nat) (s : State) : Host.Outcome State Fault Refusal := .next (s.execConv core ring 1)
/-- CONVERT into two pieces (R159). -/
def execConvertSplitTwo (core ring : Nat) (s : State) : Host.Outcome State Fault Refusal := .next (s.execConv core ring 2)
/-- CONVERT into three pieces (R159). -/
def execConvertSplitThree (core ring : Nat) (s : State) : Host.Outcome State Fault Refusal := .next (s.execConv core ring 3)
/-- A + B (R175). -/
def execVectorAdd (core ring : Nat) (s : State) : Host.Outcome State Fault Refusal := .next (s.execVec core ring 0x00)
/-- A − B (R175). -/
def execVectorSubtract (core ring : Nat) (s : State) : Host.Outcome State Fault Refusal := .next (s.execVec core ring 0x01)
/-- A × B (R176). -/
def execVectorMultiply (core ring : Nat) (s : State) : Host.Outcome State Fault Refusal := .next (s.execVec core ring 0x02)
/-- fma(A, B, C) (R175). -/
def execVectorFma (core ring : Nat) (s : State) : Host.Outcome State Fault Refusal := .next (s.execVec core ring 0x03)
/-- fma(A, P0, B) (R175). -/
def execVectorFmaP0 (core ring : Nat) (s : State) : Host.Outcome State Fault Refusal := .next (s.execVec core ring 0x04)
/-- The larger operand (R183). -/
def execVectorMaximum (core ring : Nat) (s : State) : Host.Outcome State Fault Refusal := .next (s.execVec core ring 0x05)
/-- The smaller operand (R183). -/
def execVectorMinimum (core ring : Nat) (s : State) : Host.Outcome State Fault Refusal := .next (s.execVec core ring 0x06)
/-- exp (R179). -/
def execVectorExp (core ring : Nat) (s : State) : Host.Outcome State Fault Refusal := .next (s.execVec core ring 0x08)
/-- log (R180). -/
def execVectorLog (core ring : Nat) (s : State) : Host.Outcome State Fault Refusal := .next (s.execVec core ring 0x09)
/-- rcp (R181). -/
def execVectorRcp (core ring : Nat) (s : State) : Host.Outcome State Fault Refusal := .next (s.execVec core ring 0x0A)
/-- rsqrt (R181). -/
def execVectorRsqrt (core ring : Nat) (s : State) : Host.Outcome State Fault Refusal := .next (s.execVec core ring 0x0B)
/-- sqrt (R181). -/
def execVectorSqrt (core ring : Nat) (s : State) : Host.Outcome State Fault Refusal := .next (s.execVec core ring 0x0C)
/-- sigmoid (R182). -/
def execVectorSigmoid (core ring : Nat) (s : State) : Host.Outcome State Fault Refusal := .next (s.execVec core ring 0x0D)
/-- gelu (R182). -/
def execVectorGelu (core ring : Nat) (s : State) : Host.Outcome State Fault Refusal := .next (s.execVec core ring 0x0E)
/-- silu (R182). -/
def execVectorSilu (core ring : Nat) (s : State) : Host.Outcome State Fault Refusal := .next (s.execVec core ring 0x0F)
/-- softmax of each row (R184). -/
def execVectorSoftmax (core ring : Nat) (s : State) : Host.Outcome State Fault Refusal := .next (s.execVec core ring 0x10)
/-- Layer normalisation of each row (R185). -/
def execVectorLayerNorm (core ring : Nat) (s : State) : Host.Outcome State Fault Refusal := .next (s.execVec core ring 0x11)
/-- RMS normalisation of each row (R185). -/
def execVectorRmsNorm (core ring : Nat) (s : State) : Host.Outcome State Fault Refusal := .next (s.execVec core ring 0x12)
/-- The sum of each row (R183). -/
def execVectorRowSum (core ring : Nat) (s : State) : Host.Outcome State Fault Refusal := .next (s.execVec core ring 0x13)
/-- The maximum of each row (R183). -/
def execVectorRowMaximum (core ring : Nat) (s : State) : Host.Outcome State Fault Refusal := .next (s.execVec core ring 0x14)
/-- Keyed uniform draws (R189). -/
def execVectorUniformRandom (core ring : Nat) (s : State) : Host.Outcome State Fault Refusal := .next (s.execVec core ring 0x18)
/-- Keyed dropout (R185). -/
def execVectorDropout (core ring : Nat) (s : State) : Host.Outcome State Fault Refusal := .next (s.execVec core ring 0x19)
/-- OPT_UPDATE, Adam-class (R186). -/
def execOptUpdateAdam (core ring : Nat) (s : State) : Host.Outcome State Fault Refusal := .next (s.execOpt core ring 0)
/-- OPT_UPDATE, momentum (R186). -/
def execOptUpdateMomentum (core ring : Nat) (s : State) : Host.Outcome State Fault Refusal := .next (s.execOpt core ring 1)

/-! ## The update channel (R363) and the completion of a unit -/

/-- The vector unit of a core has no ring descriptor ready to start (R363). -/
def State.vecIdle (s : State) (c : Nat) : Bool :=
  let k := s.core c
  k.vec.isNone && k.chan.isNone && (List.range 8).all (fun r =>
    let d := s.fetchDesc c r
    !((dOp d = 0x20 || dOp d = 0x30 || dOp d = 0x38) && s.canIssueDesc c r d))

/-- No descriptor of the context in flight on the core has a hazard with the ranges (R363). -/
def State.noHazard (s : State) (c x : Nat) (t : Touch) : Bool :=
  !((s.core c).rings.any (fun e => e.2.ctx = x && e.2.out.any (fun d => hazard d t)))

/-- The pending update that a core's update channel takes next, with its context: the first entry of the layer at the front (R363). -/
def State.nextUpdate (s : State) (core : Nat) : Option (Nat × Update) :=
  s.ctxs.findSome? (fun e =>
    match (e.2.updates.filter (fun u => u.state != 2)).head? with
    | none => none
    | some f =>
      if e.2.fenced then none
      else (e.2.updates.find? (fun u => u.state = 0 && u.layer = f.layer && u.core = core)).map (fun u => (e.1, u)))

/-- The entries of a core, a layer and its parameters, changed. -/
def Ctx.updUpdates (c : Ctx) (core : Nat) (layer param : Nat) (f : Update → Update) : Ctx :=
  { c with updates := c.updates.map (fun v => if v.core = core ∧ v.layer = layer ∧ v.param = param then f v else v) }

/-- The gaffer issues the OPT_UPDATE of the first pending entry on a core's update channel (R363). A securing that captures holds it (R385). -/
def execUpdateChannelIssue (core : Nat) (s : State) : Host.Outcome State Fault Refusal :=
  match s.nextUpdate core with
  | none => .next s
  | some (x, u) =>
    if !s.vecIdle core || !s.noHazard core x (optTouch u.desc) || (s.ctx x).job.boundaryDue then .next s
    else
      let ok := s.touchOk core x (optTouch u.desc)
      let s := if ok then s.prepHyper core x u.desc u.step else s
      let n := s.freeCycles
      let (effs, status, flags) : List Eff × Nat × Nat := if ok then s.optUpdate core u.desc else ([], 0x11, 0)
      let s := s.draw
      let s := s.updCtx x (fun c => c.updUpdates core u.layer u.param (fun v => { v with state := 1 }))
      let s := (s.count x 201 1).count x (144 + core) n
      .next (s.updCore core (fun k => { k with
        chan := some { ctx := x, layer := u.layer, param := u.param, effs := effs, status := status, flags := flags, due := s.clk.cycle + n } }))

/-- The tiles that an operation's writes reach. -/
def effTiles : List Eff → List Nat
  | [] => []
  | .tile t _ _ :: r => t :: effTiles r
  | .storeTile _ t :: r => t :: effTiles r
  | .copyTile _ t :: r => t :: effTiles r
  | _ :: r => effTiles r

/-- The T0 tiles of a context that tile-store writes reach. -/
def State.effT0 (s : State) (c : Nat) (es : List Eff) : List Nat :=
  es.flatMap (fun e =>
    match e with
    | .ts a d => (tilesOf a d.length).filterMap (fun w => (s.t0Tile c w).map (fun p => p.2))
    | .loadTile _ a => (tilesOf a tileBytes).filterMap (fun w => (s.t0Tile c w).map (fun p => p.2))
    | _ => [])

/-- A write of an operation reaches a tile in migration (R204). -/
def State.opStalls (s : State) (c x : Nat) (es : List Eff) : Bool := (effTiles es ++ s.effT0 c es).any (fun t => ((s.ctx x).entry t).stalls)

/-- The writes of an operation take effect, or stall while a tile they reach is in migration (R204); `fin` is what its end does. -/
def State.endOp (s : State) (c x due : Nat) (es : List Eff) (fin : State → State) : State :=
  let s := s.toCycle due
  if s.opStalls c x es then s.rush x (effTiles es ++ s.effT0 c es)
  else fin (s.applyEffs c x es)

/-- The operation of the vector unit (0), the move unit (1) or the update channel (2) ends: its writes take effect and its descriptor
completes (R169), or its pending-update entry does (R364). -/
def execOpComplete (core unit : Nat) (s : State) : Host.Outcome State Fault Refusal :=
  let k := s.core core
  if unit = 0 then
    match k.vec with
    | none => .next s
    | some u => .next (s.endOp core u.ctx u.due u.effs (fun s =>
        (s.updCore core (fun k => { k with vec := none })).complete core u.ring u.slot u.status u.flags))
  else if unit = 1 then
    match k.mov with
    | none => .next s
    | some u => .next (s.endOp core u.ctx u.due u.effs (fun s =>
        (s.updCore core (fun k => { k with mov := none })).complete core u.ring u.slot u.status u.flags))
  else
    match k.chan with
    | none => .next s
    | some u => .next (s.endOp core u.ctx u.due u.effs (fun s =>
        (s.updCore core (fun k => { k with chan := none })).updCtx u.ctx (fun c =>
          c.updUpdates core u.layer u.param (fun v => { v with state := 2, status := u.status, flags := u.flags }))))

/-! ## TILE_MOVE -/

/-- A T3 tile of a context whose window is granted no longer (R215). -/
def State.revoked (s : State) (x t : Nat) : Bool :=
  let e := (s.ctx x).entry t
  e.valid && e.tier = 3 && ((s.ctx x).t3At t e.lender e.frame).isNone

/-- The move unit starts a TILE_MOVE: every tile must be mapped and every range inside the tile store (R162, R194). Each tile is translated by the unit's
cache (R195); one in a revoked window fails as at its lender (R215, R254). -/
def State.execMove (s : State) (core ring sb : Nat) (effs : Nat → List Eff) : State :=
  s.issue core ring 0x40 sb noDeadline (fun s slot d =>
    let x := (s.ring core ring).ctx
    let t := s.touch core x d
    if !s.touchOk core x t then s.complete core ring slot 0x11 0
    else
      let s := (t.tileReads ++ t.tileWrites).foldl (fun s i => s.moveTranslate core x i) s
      if (t.tileReads ++ t.tileWrites).any (s.revoked x) then s.complete core ring slot 0x1A 0
      else
      let n := s.freeCycles
      let s := s.draw
      s.updCore core (fun k => { k with
        mov := some { ring := ring, slot := slot, ctx := x, due := s.clk.cycle + n, effs := effs d, status := 0, flags := 0 } }))

/-- TILE_MOVE load: tiles and their headers into the tile store (R162, R573). -/
def execTileMoveLoad (core ring : Nat) (s : State) : Host.Outcome State Fault Refusal :=
  .next (s.execMove core ring 0 (fun d => (List.range (fld d 20 2)).map (fun i =>
    .loadTile (fld d 8 8 % 2 ^ 48 / tileBytes + i) (fld d 16 4 + i * fld d 24 4))))

/-- TILE_MOVE store: tiles from the tile store to the context's range (R162). -/
def execTileMoveStore (core ring : Nat) (s : State) : Host.Outcome State Fault Refusal :=
  .next (s.execMove core ring 1 (fun d => (List.range (fld d 20 2)).map (fun i =>
    .storeTile (fld d 16 4 + i * fld d 24 4) (fld d 8 8 % 2 ^ 48 / tileBytes + i))))

/-- TILE_MOVE copy: tiles from GADDR to GADDR2 (R162). -/
def execTileMoveCopy (core ring : Nat) (s : State) : Host.Outcome State Fault Refusal :=
  .next (s.execMove core ring 2 (fun d => (List.range (fld d 20 2)).map (fun i =>
    .copyTile (fld d 8 8 % 2 ^ 48 / tileBytes + i) (fld d 32 8 % 2 ^ 48 / tileBytes + i))))

end Sys2Proof.Machine
end

