-- ==== Sys2Proof/Machine/Arrays.lean ====
section
/-! DEFINITION. The array unit: ARRAY_MUL (R155), parison loads and switches (R69 to R75), row entry (R77 to R91), the tree and the ladder
(R110 to R131), the drain and the epilogue (R135 to R143), keeper ops and the lehr (R96 to R102), and array errors (R104 to R108). -/

namespace Sys2Proof.Machine

/-! ## The issue fraction -/

/-- The cap ceiling of a core bound to a sealed context (R505): 64 × (SEALED_W/12 − 33.56) / 20.61, in hundredths of a watt. -/
def sealedCeiling (sealedW : Nat) : Nat :=
  let num : Int := 64 * (100 * (sealedW : Int) - 12 * 3356)
  min 64 (num / (12 * 2061)).toNat

/-- The core serves a sealed context (R477). -/
def State.coreSealed (s : State) (c : Nat) : Bool := (s.core c).rings.any (fun e => e.2.valid && (s.ctx e.2.ctx).sealed_)

/-- The ceiling of n for a core (R504, R102). -/
def State.ceiling (s : State) (c : Nat) : Nat :=
  min s.power.nT (if s.coreSealed c then sealedCeiling s.power.sealedW else s.power.nSh)

/-- The cycles that a core spent below its ceiling are counted up to now (R103, R526). -/
def State.settle (s : State) (c : Nat) : State :=
  let k := s.core c
  let s := if k.n < s.ceiling c then s.countCore c 5 (s.clk.cycle - k.belowAt) k.lastCtx else s
  s.updCore c (fun k => { k with belowAt := s.clk.cycle })

/-- The cycles below the ceiling of every core are counted up to now. -/
def State.settleAll (s : State) : State := (s.cores.map (fun e => e.1)).foldl (fun s c => s.settle c) s

/-- The first issue slot of a core at or after cycle t (R99): the cycle in which n last changed is judged at the fraction in force before the change. -/
def Core.slotFrom (k : Core) (t : Nat) : Nat :=
  if t = k.nAt then (if isSlot t k.nPrev then t else nextSlot (t + 1) k.n) else nextSlot t k.n

/-- The first cycle after m issue slots of a core from cycle t. -/
def Core.slotsPast (k : Core) : Nat → Nat → Nat
  | 0, t => t
  | m + 1, t => k.slotsPast m (k.slotFrom t + 1)

/-- The first cycle whose issue slot no row takes: the row last fed takes the slots it is owed first (R67, R78). -/
def Core.freeFrom (k : Core) : Nat := k.slotsPast k.owed k.slotFree

/-- The issue slots in [a, b) at the fraction n. -/
def slotsIn (a b n : Nat) : Nat :=
  let upto (t : Nat) : Nat := t / 64 * n + min (t % 64) n
  upto b - upto a

/-- The issue slots of a core in [a, b) (R99). -/
def Core.slotsIn (k : Core) (a b : Nat) : Nat :=
  if a ≤ k.nAt ∧ k.nAt < b then (if isSlot k.nAt k.nPrev then 1 else 0) + Machine.slotsIn (k.nAt + 1) b k.n else Machine.slotsIn a b k.n

/-- The slots that the row in progress has taken up to and including cycle t are taken off what it is owed (R99). -/
def Core.settleSlots (k : Core) (t : Nat) : Core :=
  if k.owed = 0 then k
  else
    let u := k.slotsIn k.slotFree (t + 1)
    if k.owed ≤ u then { k with slotFree := k.freeFrom, owed := 0 } else { k with slotFree := max k.slotFree (t + 1), owed := k.owed - u }

/-- n changes on a core; the descent of R102 ends when the ceiling is reached. -/
def State.setN (s : State) (c n : Nat) (f : Core → Core) : State :=
  let s := s.settle c
  let top := s.ceiling c
  s.updCore c (fun k => f { k.settleSlots s.clk.cycle with n := n, nPrev := k.n, nAt := s.clk.cycle, descend := k.descend && decide (top < n) })

/-- A row arrives: a ramp-down in progress ends, and below the ceiling the ramp-up starts, n rising by 1 in its first cycle (R98, R100). -/
def State.startUp (s : State) (c : Nat) : State :=
  let k := s.core c
  let top := s.ceiling c
  if k.n < top ∧ ¬ k.rampUp then s.setN c (k.n + 1) (fun k => { k with rampUp := decide (k.n < top), rampDown := false })
  else s.updCore c (fun k => { k with rampDown := false })

/-- The next issue slot of a core that no row has taken (R99). -/
def State.slotAt (s : State) (c : Nat) : Nat := (s.core c).slotFrom (max s.clk.cycle (s.core c).freeFrom)

/-! ## Records of errors and the cullet list -/

/-- An array error record (R107, R464). -/
def State.arrayError (s : State) (cls c a row x gen clean : Nat) : State :=
  s.logRecord 0x11 (recSev 0x11) x (fun seq =>
    leBytes 1 0x11 ++ leBytes 1 cls ++ leBytes 1 c ++ leBytes 1 (s.core c).pc ++ leBytes 1 a ++ zeros 1 ++ leBytes 2 row ++ leBytes 2 x
      ++ zeros 2 ++ leBytes 4 gen ++ leBytes 8 (s.fabricNs x) ++ leBytes 8 clean ++ zeros 4 ++ leBytes 4 seq)

/-- The physical core is recorded as retired (R232 type 0x02). -/
def State.retiredPc (s : State) (pc : Nat) : Bool := s.culls.any (fun e => e.type = 2 && e.location = pc)

/-- The physical cores that are healthy and bound to no logical core (R22). -/
def State.spares (s : State) : List Nat :=
  (List.range 14).filter (fun p => !s.retiredPc p && s.start.passed.contains p && !(s.cores.any (fun e => e.2.bound && e.2.pc = p)))

/-- An error of a physical array (R108): the second within 24 hours retires the core and starts its replacement. -/
def State.arrayFault (s : State) (c a : Nat) : State :=
  let pc := (s.core c).pc
  let key := pc * 4 + a
  let now := s.clk.tai.ns
  let again := s.arrayErrs.any (fun e => e.1 = key && decide (now < e.2 + 86400000000000))
  let s := { s with arrayErrs := s.arrayErrs ++ [(key, now)] }
  if again && !s.retiredPc pc then
    let s := s.addCullet { type := 2, action := if s.spares.isEmpty then 2 else 0, index := c, location := pc, spare := s.spares.headD 0xFFFFFFFF,
                           causeSeq := (s.logNext + 4294967295) % 4294967296, timeNs := now }
    if s.spares.isEmpty then (s.ctxs.filter (fun e => (s.core c).serves e.1)).foldl (fun s e => s.fenceLater e.1) s
    else s.updCore c (fun k => { k with migrating := true })
  else s

/-! ## The op in the array unit -/

/-- The stages of R82: gather, and cell product. -/
def gatherStage (d : Nat) : Nat :=
  if fld d 53 1 = 6 then (if arrPieces d ≠ 1 then 6 else 5) else 4
def productStage (d : Nat) : Nat := if arrKb16 d then 9 else 3

/-- The latency λ of R78 and R82. -/
def latency (d : Nat) : Nat := gatherStage d + 2 + productStage d + 8 + 6

/-- Changes the tag of an op's descriptor. -/
def State.tagUpd (s : State) (c r slot : Nat) (f : Tagged → Tagged) : State :=
  s.updRing c r (fun g => { g with out := g.out.map (fun d => if d.id = slot ∧ ¬ d.done then { d with tag := d.tag.map f } else d) })

/-- A change of the descriptor in flight of an op. -/
def State.outUpd (s : State) (c r slot : Nat) (f : OutDesc → OutDesc) : State :=
  s.updRing c r (fun g => { g with out := g.out.map (fun d => if d.id = slot ∧ ¬ d.done then f d else d) })

/-- The entries of the op. -/
def ArrOp.total (a : ArrOp) : Nat := (streamPlan a.desc).length

/-- Output column j lies below N and inside the extents of the tile headers (R91). -/
def ArrOp.colIn (a : ArrOp) (j : Nat) : Bool := decide (j < fld a.desc 42 2) && !a.out.contains j

/-- The op becomes the running one, with the next shadow set; one with K = 0 goes on to its drain (R93, R138). -/
def Core.start (k : Core) (a : ArrOp) : Core :=
  let a := { a with accSet := k.nextSet, dueAt := max a.dueAt k.freeFrom }
  let k := { k with nextSet := 1 - k.nextSet }
  if a.total = 0 then { k with waiting := k.waiting ++ [a] } else { k with arr := some a }

/-- The running op has fed its last row: it waits for its drain, and the look-ahead op takes its place (R84). -/
def Core.next (k : Core) (a : ArrOp) : Core :=
  let k := { k with arr := none, waiting := k.waiting ++ [a] }
  match k.look with
  | none => k
  | some l => { k with look := none }.start l

/-- The op ends with an error status and writes nothing (R105, R106, R139). -/
def State.failArr (s : State) (c : Nat) (a : ArrOp) (status : Nat) : State :=
  let same (b : ArrOp) : Bool := b.ring = a.ring && b.slot = a.slot
  let s := s.updCore c (fun k =>
    let running := k.arr.any same
    let held := (running || k.waiting.any same) && !(k.waiting.any (fun b => b.accSet = a.accSet && !same b))
    let k := { k with
      acc := if held then k.acc.filter (fun e => e.1 / 2 ^ 20 != a.accSet) else k.acc
      inflight := if held then k.inflight.filter (fun r => r.set != a.accSet) else k.inflight
      waiting := k.waiting.filter (fun b => !same b)
      drains := k.drains.filter (fun d => !same d.op)
      look := if k.look.any same then none else k.look
      load := (match k.load with | some l => if l.ring = a.ring ∧ l.slot = a.slot then none else some l | none => none) }
    if running then
      let k := { k with arr := none }
      match k.look with
      | none => k
      | some l => { k with look := none }.start l
    else k)
  s.complete c a.ring a.slot status 0

/-! ## ARRAY_MUL -/

/-- The header of the weight tile of unit u, array a, and tile i of its pair (R573). -/
def State.wgtHdr (s : State) (c d u a i : Nat) : Option TileHdr :=
  s.hdrAt c (fld d 12 4 + u * fld d 60 4 + a * wgtBlock d + i * tileBytes)

/-- Some weight block of the op has a valid header slot of another format (R59). -/
def State.wgtFormatBad (s : State) (c d : Nat) : Bool :=
  (List.range (chunksOf (fld d 44 4) * arrPieces d)).any (fun u => (List.range (arraysOf d)).any (fun a =>
    (List.range (if arrKb16 d then 2 else 1)).any (fun i =>
      match s.wgtHdr c d u a i with
      | some h => h.format != (if arrKb16 d then 1 else 0) && h.format != 255
      | none => false)))

/-- The header of the ladder state record read agrees with the op (R133). -/
def State.ladderOk (s : State) (c d : Nat) : Bool :=
  let a := fld d 32 4
  s.tsNat c (a + 4) 2 == fld d 40 2 && s.tsNat c (a + 6) 2 == fld d 42 2
    && s.tsNat c (a + 8) 1 == (if dComp d then 1 else 0) + (if arrKb16 d then 2 else 0)
    && s.tsNat c (a + 9) 7 == 0 && s.tsNat c (a + 24) 40 == 0

/-- The mask record that an op names (R85), or none. -/
def State.maskOf (s : State) (c d : Nat) : List Byte := if fld d 24 4 = tsNone then [] else s.tsRead c (fld d 24 4) 256

/-- The epilogue record that an op names (R158), or 0. -/
def State.epiOf (s : State) (c d : Nat) : Nat := if fld d 28 4 = tsNone then 0 else s.tsNat c (fld d 28 4) 64

/-- ENTRY_COUNT of the ladder state record that an op reads (R131), or 0. -/
def State.baseOf (s : State) (c d : Nat) : Nat := if fld d 32 4 = tsNone then 0 else s.tsNat c (fld d 32 4) 4

/-- The extents along K and N of weight tile i of a block (R157): the descriptor's and those of a valid header slot. -/
def State.wgtExtents (s : State) (c d u a i : Nat) : Nat × Nat :=
  let cols := if arrKb16 d then 128 else 256
  let ke := min 256 (fld d 44 4 - 256 * (u / arrPieces d))
  let ne := min cols (fld d 42 2 - 256 * a - i * cols)
  match s.wgtHdr c d u a i with
  | none => (ke, ne)
  | some h => if bit h.shapeFlags 0 then (min ke h.rows, min ne h.cols) else (min ke h.cols, min ne h.rows)

/-- The columns below N that the extent of some weight tile's header leaves out (R91). -/
def State.colsOut (s : State) (c d : Nat) : List Nat :=
  (List.range (arraysOf d)).flatMap (fun a => (List.range (if arrKb16 d then 2 else 1)).flatMap (fun i =>
    let cols := if arrKb16 d then 128 else 256
    let own := min cols (fld d 42 2 - 256 * a - i * cols)
    let lim := (List.range (chunksOf (fld d 44 4) * arrPieces d)).foldl (fun m u => min m (s.wgtExtents c d u a i).2) own
    (List.range (own - lim)).map (fun j => 256 * a + i * cols + lim + j)))

/-- The status with which an ARRAY_MUL of a context ends at issue, from what its records hold; none for one that runs (R172). -/
def State.arrStatus (s : State) (c x d : Nat) : Option Nat :=
  let mask := s.maskOf c d
  if mask.drop 160 ≠ zeros (mask.length - 160) then some 0x10
  else if fld d 36 4 = tsNone ∧ ¬ epiOk (s.epiOf c d) then some 0x10
  else if !s.touchOk c x (s.touch c x d) then some 0x11
  else if fld d 40 2 = 0 ∨ fld d 42 2 = 0 then some 0
  else if fld d 32 4 ≠ tsNone ∧ ¬ s.ladderOk c d then some 0x16
  else if 2 ^ 24 < s.baseOf c d + (streamPlan d).length then some 0x17
  else if s.wgtFormatBad c d then some 0x1B
  else none

/-- The op of an ARRAY_MUL that runs. -/
def State.arrOp (s : State) (c r slot x d : Nat) : ArrOp :=
  { ring := r, slot := slot, ctx := x, desc := d, epi := s.epiOf c d, mask := s.maskOf c d, entryBase := s.baseOf c d
    dueAt := s.clk.cycle, out := s.colsOut c d
    recFlags := if fld d 32 4 = tsNone then 0 else s.tsNat c (fld d 32 4 + 16) 8 }

/-- ARRAY_MUL issues (R155): its records are read and checked, and it enters the array unit as the running or the look-ahead op. -/
def execArrayMul (core ring : Nat) (s : State) : Host.Outcome State Fault Refusal :=
  .next (s.issue core ring 0x10 0 noDeadline (fun s slot d =>
    let x := (s.ring core ring).ctx
    match s.arrStatus core x d with
    | some st => s.complete core ring slot st 0
    | none =>
      let a := s.arrOp core ring slot x d
      s.updCore core (fun k => if k.arr.isNone then k.start a else { k with look := some a })))

/-! ## Parison loads and switches -/

/-- The parity of a number of n bits (R104). -/
def parityOf (n x : Nat) : Nat := (List.range n).foldl (fun p i => if bit x i then 1 - p else p) 0

/-- The parity bits of cell row k of a set (R104): one for every 64 bits of its weights, and in KB8 one for the eight scale bytes that arrive with
the row, those of column k (DEDUCED, log 70). -/
def WSet.rowParity (w : WSet) (k : Nat) : Nat :=
  let row := w.rows.getD k []
  let per := if w.kb16 then 4 else 8
  let word (i : Nat) : Nat := parityOf 64 (leNat (codeBytes (if w.kb16 then 2 else 1) ((row.drop (per * i)).take per)))
  let scales := if w.kb16 then [] else [parityOf 64 (leNat ((w.scales.getD k []).map (fun b => BitVec.ofNat 8 (intToByte b))))]
  ((List.range (256 / per)).map word ++ scales).foldr (fun b p => b + 2 * p) 0

/-- A set with the parity bits of its contents (R104). -/
def WSet.withParity (w : WSet) : WSet := { w with parity := (List.range 256).map w.rowParity }

/-- The parity check of a cell row fails (R104). -/
def WSet.rowBad (w : WSet) (k : Nat) : Bool := w.parity.getD k 0 != w.rowParity k

/-- A bit of a cell row has flipped since its parity was taken: bit 0 of the code in column 0 (DESIGN CHOICE, log 70). -/
def WSet.upset (w : WSet) (k : Nat) : WSet :=
  { w with rows := w.rows.set k (match w.rows.getD k [] with | [] => [] | x :: r => (if x % 2 = 0 then x + 1 else x - 1) :: r) }

/-- Position k of column n lies inside the extents that the set was loaded with (R91). -/
def WSet.inExt (w : WSet) (k n : Nat) : Bool :=
  let i := if w.kb16 then n / 128 else 0
  match w.ext[i]? with
  | some e => decide (k < e.1 ∧ n - 128 * i < e.2)
  | none => true

/-- The weight set of one array that a parison load of unit u fills (R69, R70). -/
def State.wgtSet (s : State) (c d u a x : Nat) : WSet :=
  let base := fld d 12 4 + u * fld d 60 4 + a * wgtBlock d
  let gen := match s.wgtHdr c d u a 0 with | some h => h.generation | none => 0
  if arrKb16 d then
    let e0 := s.wgtExtents c d u a 0
    let e1 := s.wgtExtents c d u a 1
    { kb16 := true, ctx := some x, gen := gen, src := base, ext := [e0, e1]
      rows := (List.range 256).map (fun k =>
        let half (i : Nat) (e : Nat × Nat) : List Nat :=
          ((s.tsCodes c (base + i * tileBytes + 256 * k) 2 128).zip (List.range 128)).map (fun p => if k < e.1 ∧ p.2 < e.2 then p.1 else 0x4000)
        half 0 e0 ++ half 1 e1) : WSet }.withParity
  else
    let e := s.wgtExtents c d u a 0
    let sc := fld d 20 4
    { kb16 := false, ctx := some x, gen := gen, src := base, ext := [e]
      rows := (List.range 256).map (fun k =>
        ((s.tsCodes c (base + 256 * k) 1 256).zip (List.range 256)).map (fun p => if k < e.1 ∧ p.2 < e.2 then p.1 else 0x40))
      scales := (List.range 256).map (fun n => (List.range 8).map (fun b =>
        if n < e.2 ∧ 32 * b < e.1 ∧ sc < tsSize then byteToInt (s.tsNat c (sc + u / arrPieces d * 8192 + a * 2048 + 8 * n + b) 1) else 0)) : WSet }.withParity

/-- The sets `m` of a core hold the weight block of unit u of an op as a load would bring it now: an earlier op of the context loaded it (R75). -/
def State.holds (s : State) (c : Nat) (m : Map WSet) (a : ArrOp) (u : Nat) : Bool :=
  (List.range (arraysOf a.desc)).all (fun j => match m.find j with
    | some w => { w with clean := [] } == s.wgtSet c a.desc u j a.ctx
    | none => false)

/-- The first block of an op stands in the active sets of its core, and streams without a load or a switch (R75). -/
def State.direct (s : State) (c : Nat) (a : ArrOp) : Bool :=
  a.block == 0 && a.loaded == 0 && !a.streaming && s.holds c (s.core c).active a ((planUnit a.desc 0).getD 0)

/-- The parison holds the block of step i of an op, or will by the exchange of the switches alone (R75). -/
def State.provided (s : State) (c : Nat) (a : ArrOp) (i : Nat) : Bool :=
  !needsLoad a.desc i || decide (i < a.loaded) || (decide (i < 2) && s.holds c (s.core c).parison a ((planUnit a.desc i).getD 0))

/-- The op and step whose parison load is next (R71, R84): the running op's next block, or the look-ahead op's first when the running op is on
its last block. -/
def State.nextLoad (s : State) (c : Nat) : Option (ArrOp × Nat) :=
  match (s.core c).arr with
  | none => none
  | some a =>
    let i := if a.streaming || s.direct c a then a.block + 1 else a.block
    if i < a.total then (if s.provided c a i then none else some (a, i))
    else
      match (s.core c).look with
      | some l => if 0 < l.total ∧ ¬ s.provided c l 0 ∧ ¬ s.direct c l then some (l, 0) else none
      | none => none

/-- The weight sets that a parison load of step i of an op brings (R69). -/
def State.stepSets (s : State) (c : Nat) (a : ArrOp) (i : Nat) : List WSet :=
  (List.range (arraysOf a.desc)).map (fun j => s.wgtSet c a.desc ((planUnit a.desc i).getD 0) j a.ctx)

/-- A parison load begins, once no row ahead of the tree stage uses the set it overwrites (R71). -/
def execParisonLoadStart (core : Nat) (s : State) : Host.Outcome State Fault Refusal :=
  match (s.core core).load, s.nextLoad core with
  | none, some (a, i) =>
    let s := s.toCycle (s.core core).parFree
    let sets := s.stepSets core a i
    let s := s.countCore core 6 1 (some a.ctx)
    .next (s.updCore core (fun k => { k with
      load := some { ring := a.ring, slot := a.slot, ctx := a.ctx, block := i,
                     readyAt := s.clk.cycle + (if arrKb16 a.desc then 512 else 256), sets := sets } }))
  | _, _ => .next s

/-- Changes the op of a ring slot in the array unit. -/
def Core.updOp (k : Core) (r slot : Nat) (f : ArrOp → ArrOp) : Core :=
  let g (a : ArrOp) : ArrOp := if a.ring = r ∧ a.slot = slot then f a else a
  { k with arr := k.arr.map g, look := k.look.map g }

/-- The op of a ring slot in the array unit. -/
def Core.findOp (k : Core) (r slot : Nat) : Option ArrOp :=
  (k.arr.toList ++ k.look.toList).find? (fun a => a.ring = r && a.slot = slot)

/-- One occurrence of each of some ranges removed. -/
def dropRanges (xs ys : List (Nat × Nat)) : List (Nat × Nat) := ys.foldl (fun a y => a.erase y) xs

/-- The parison load ends (R105): `first` names the array and cell row pairs whose parity failed, `second` those that failed again on the
reload, which reads the tile store again. A load that passes fills the parisons and releases its ranges; one that fails twice ends the op with PARISON_PARITY. -/
def execParisonLoadDone (core : Nat) (first second : List (Nat × Nat)) (s : State) : Host.Outcome State Fault Refusal :=
  let k := s.core core
  match k.load with
  | none => .next s
  | some l =>
    match k.findOp l.ring l.slot with
    | none => .next (s.updCore core (fun k => { k with load := none }))
    | some a =>
      let n := if arrKb16 a.desc then 512 else 256
      let s := s.toCycle (l.readyAt + (if first.isEmpty then 0 else n))
      let sets := if first.isEmpty then l.sets else s.stepSets core a l.block
      if first.isEmpty ∨ second.isEmpty then
        let u := (planUnit a.desc l.block).getD 0
        let s := s.outUpd core l.ring l.slot (fun d => { d with reads := dropRanges d.reads (loadRanges a.desc u) })
        .next (s.updCore core (fun k =>
          let k := { k with load := none, loadedAt := s.clk.cycle, parison := (List.zip sets (List.range 4)).foldl (fun (m : Map WSet) (p : WSet × Nat) => m.set p.2 p.1) k.parison }
          k.updOp l.ring l.slot (fun a => { a with loaded := l.block + 1 })))
      else
        let bad := (List.range 4).filter (fun j => second.any (fun p => p.1 = j))
        let s := bad.foldl (fun s j =>
          let row := ((second.filter (fun p => p.1 = j)).map (fun p => p.2)).foldl min 255
          let gen := ((sets[j]?).map (fun w => w.gen)).getD 0
          (s.arrayError 1 core j row a.ctx gen 0).arrayFault core j) s
        .next (s.failArr core a 0x12)

/-- The weight blocks of an op with no row to feed are passed over one by one (R86): the op goes on to its next block or to its drain. -/
def Core.passBlock (k : Core) (a : ArrOp) : Core :=
  let a := { a with streaming := false, row := 0, block := a.block + 1 }
  if a.block = a.total then k.next a else { k with arr := some a }

/-- The op streams against the active sets: its fully masked groups are skipped (R86, R103), and a block with no row to feed is over at once. -/
def State.stream (s : State) (c : Nat) (a : ArrOp) : State :=
  let s := s.countCore c 2 (groupsSkipped a.mask (fld a.desc 40 2)) (some a.ctx)
  if (rowSeq a.mask (fld a.desc 40 2)).isEmpty then
    let s := s.updCore c (fun k => k.passBlock a)
    if a.block + 1 = a.total then s.outUpd c a.ring a.slot (fun o => { o with reads := dropRanges o.reads (actRanges a.desc) }) else s
  else s.updCore c (fun k => { k with arr := some { a with streaming := true, row := 0 } })

/-- The cycles that the op's switch waited on its parison load (R73, R103). -/
def Core.waited (k : Core) (a : ArrOp) : Nat := if a.block < a.loaded then k.loadedAt - a.dueAt else 0

/-- Some array of the op would stream a row against a set of another context (R74). -/
def State.wrongOwner (s : State) (c : Nat) (a : ArrOp) : List Nat :=
  (List.range (arraysOf a.desc)).filter (fun j => ((s.core c).active.getOr j {}).ctx != some a.ctx)

/-- An op that would stream against another context's weight set ends with WEIGHT_OWNER: one record for each such array, naming the owner of the set
and its generation (R74, R107). -/
def State.ownerError (s : State) (c : Nat) (a : ArrOp) : State :=
  let s := (s.wrongOwner c a).foldl (fun s j =>
    let w := (s.core c).active.getOr j {}
    s.arrayError 4 c j 0 (w.ctx.getD noCtx) w.gen 0) s
  s.failArr c a 0x15

/-- The switch at a tile boundary (R72): the two sets are exchanged in one issue slot, after the parison load has ended (R73). -/
def execWeightSetSwitch (core : Nat) (s : State) : Host.Outcome State Fault Refusal :=
  match (s.core core).arr with
  | none => .next s
  | some a =>
    if a.streaming ∨ s.direct core a ∨ ¬ s.provided core a a.block then .next s
    else
      let s := s.countCore core 7 ((s.core core).waited a) (some a.ctx)
      let s := s.startUp core
      let t := s.slotAt core
      let s := s.toCycle t
      let s := s.updCore core (fun k => { k with
        active := k.parison, parison := k.active, slotFree := t + 1, owed := 0, parFree := max (t + 1) (min (t + 9) k.useAt), useAt := 0 })
      let s := s.countCore core 8 1 (some a.ctx)
      if (s.wrongOwner core a).isEmpty then .next (s.stream core { a with dueAt := t + 1 }) else .next (s.ownerError core a)

/-! ## Row entry -/

/-- The codes and block scales that the gather unit feeds for a row of chunk ch and activation piece i, with the occurrences of its conversions
(R77, R79, R91). -/
def State.gatherRow (s : State) (c d ch i row : Nat) : List Nat × List Int × Nat :=
  let f := fld d 53 1
  let w := fmtWidth f
  let unit := if arrPreSplit d then ch * arrPieces d + (i - 1) else ch
  let ke := min 256 (fld d 44 4 - 256 * ch)
  let codes := s.tsCodes c (fld d 8 4 + unit * fld d 56 4 + row * fld d 48 2) w ke
  let pad (z : Nat) (xs : List Nat) : List Nat := xs ++ List.replicate (256 - xs.length) z
  let sc := fld d 16 4
  let supplied := (List.range 8).map (fun b => if sc < tsSize then byteToInt (s.tsNat c (sc + ch * 2048 + 8 * row + b) 1) else 0)
  if arrKb16 d then
    if f = 1 then (pad 0x4000 codes, [], 0)
    else if arrPieces d ≠ 1 then
      let ps := codes.map (fun x => splitPieces (fmtVal f x) (dMode d))
      (pad 0x4000 (ps.map (fun p => (p.1.getD (i - 1) 0x4000#16).toNat)), [], ps.foldl (fun o p => o ||| p.2) 0)
    else
      let ps := codes.map (fun x => (kb16From (fmtVal f x) (dMode d), occIn (fmtVal f x)))
      (pad 0x4000 (ps.map (fun p => p.1.1.toNat)), [],
        ps.foldl (fun o p => o ||| p.2 ||| occOvf p.1.2 ||| occOf p.1.1.lin) 0)
  else if f = 0 then (pad 0x40 codes, supplied, 0)
  else
    let vals := codes.map (fmtVal f)
    let scales := if sc = tsNone then (blocks32 8 vals).map blockScale else supplied
    let ps := ((codes.zip vals).zip (List.range ke)).map (fun p => toKb8 f p.1.1 p.1.2 (scales.getD (p.2 / 32) 0))
    (pad 0x40 (ps.map (fun p => p.1)), scales, ps.foldl (fun o p => o ||| p.2) 0)

/-- The 256 products of one column with their occurrences (R64, R110 to R113). -/
def columnProducts (w : WSet) (codes : List Nat) (scales : List Int) (n : Nat) : List (Val × Nat) :=
  (codes.zip (List.range 256)).map (fun p =>
    let wc := (w.rows.getD p.2 []).getD n (if w.kb16 then 0x4000 else 0x40)
    if !w.inExt p.2 n then (.fin false 0 0, 0)
    else if w.kb16 then kb16Product (BitVec.ofNat 16 p.1) (BitVec.ofNat 16 wc)
    else kb8Product (BitVec.ofNat 8 p.1) (BitVec.ofNat 8 wc) (scales.getD (p.2 / 32) 0) ((w.scales.getD n []).getD (p.2 / 32) 0))

/-- The chunk sum of one column and the occurrences in its products and tree (R120, R140). -/
def columnSum (w : WSet) (codes : List Nat) (scales : List Int) (n : Nat) : A48 × Nat :=
  let ps := columnProducts w codes scales n
  let leaves := ps.map (fun p => (rne48 p.1).1)
  (chunkSum (ps.map (fun p => p.1)), ps.foldl (fun o p => o ||| p.2) 0 ||| treeOcc 8 leaves)

/-- Trailing one bits of a number (R126), counted in 25 bits. -/
def trailingOnes (e : Nat) : Nat := ((List.range 25).takeWhile (fun j => bit e j)).length

/-- The cycle at whose end the chain of entry e ends, from the last cycle of its accumulator stage (R126). -/
def chainEnd (comp : Bool) (x e : Nat) : Nat := x + (if comp then 2 else 1) * (trailingOnes e - 1)

/-- The lowest unmasked output column (R140). -/
def ArrOp.lowestCol (a : ArrOp) : Nat := ((List.range (fld a.desc 42 2)).find? (fun j => maskCol a.mask j && a.colIn j)).getD 0

/-- The shadow set of the op is still held by an earlier op (R138): the first cycle at which the accumulator stage of a row may begin, or none
while that is not known. -/
def Core.setFrom (k : Core) (set : Nat) : Option Nat :=
  if k.waiting.any (fun b => b.accSet = set) then none
  else
    match k.drains.find? (fun d => d.op.accSet = set) with
    | some d => some (d.due + 1)
    | none => some 0

/-- The row of the sequence is fed: it is unmasked and one of the op's (R88, R89). -/
def ArrOp.feeds (a : ArrOp) (row : Nat) : Bool := maskRow a.mask row && decide (row < fld a.desc 40 2)

/-- What the gather unit feeds for a row of an op (R77); nothing for a row that is not fed. -/
def State.rowIn (s : State) (c : Nat) (a : ArrOp) (ch i row : Nat) : List Nat × List Int × Nat :=
  if a.feeds row then s.gatherRow c a.desc ch i row else ([], [], 0)

/-- The column sums that a row of an op forms, with the occurrences of each (R91, R120). -/
def State.rowSums (s : State) (c : Nat) (a : ArrOp) (ch i row : Nat) : List (A48 × Nat) :=
  let g := s.rowIn c a ch i row
  (List.range (fld a.desc 42 2)).map (fun j =>
    if a.feeds row then columnSum ((s.core c).active.getOr (j / 256) {}) g.1 g.2.1 (j % 256) else (A48.zero, 0))

/-- A row of the op that would enter in cycle t is held: the chain of its output row's last entry has not ended (R127), or its shadow set is not free
(R138). -/
def Core.rowHeld (k : Core) (a : ArrOp) (row t : Nat) : Bool :=
  let stage := t + latency a.desc - 6
  match k.setFrom a.accSet with
  | none => true
  | some free => decide (stage < free) || (a.chain.has row && decide (stage ≤ a.chain.getOr row 0))

/-- The next row of the op that streams: its index and the chunk and piece of its block (R80). -/
def ArrOp.nextRow (a : ArrOp) : Option (Nat × Nat × Nat) :=
  match (rowSeq a.mask (fld a.desc 40 2))[a.row]?, (streamPlan a.desc)[a.block]? with
  | some row, some (ch, i, _) => if a.streaming then some (row, ch, i) else none
  | _, _ => none

/-- A row is ready for the core's next issue slot (R96). -/
def State.rowReady (s : State) (c : Nat) : Bool :=
  match (s.core c).arr with
  | none => false
  | some a =>
    match a.nextRow with
    | some (row, _, _) => !(s.core c).rowHeld a row (s.slotAt c)
    | none => false

/-- The occurrences of an op once a row has been fed: those of its unmasked columns, and those of its conversions at its lowest unmasked column (R109,
R140). -/
def ArrOp.rowOcc (a : ArrOp) (row conv : Nat) (cols : List (A48 × Nat)) : Map Nat :=
  let n := fld a.desc 42 2
  let open_ (j : Nat) : Bool := maskCol a.mask j && a.colIn j
  (cols.zip (List.range n)).foldl (fun m p => if open_ p.2 then occAdd m (row * 1024 + p.2) p.1.2 else m)
    (if (List.range n).any open_ then occAdd a.occ (row * 1024 + a.lowestCol) conv else a.occ)

/-- The codes of the phantom row that a core last fed, when a row is fed as zero (R87, R96). -/
def zeroRow (d : Nat) : List Nat := List.replicate 256 (if arrKb16 d then 0x4000 else 0x40)

/-- The next row of the streaming op enters the gather unit in the next issue slot (R77, R82), unless it is held by R127 or R138. -/
def State.enterRow (s : State) (core : Nat) : State :=
  match (s.core core).arr with
  | none => s
  | some a =>
    match a.nextRow with
    | none => s
    | some (row, ch, i) =>
      let d := a.desc
      let s0 := s
      let s := s.startUp core
      let t := s.slotAt core
      if (s.core core).rowHeld a row t then s0
      else
        let s := s.toCycle t
        let s := if (s.core core).lastCtx = some a.ctx then s else s.settle core
        let lam := latency d
        let fed := a.feeds row
        let g := s0.rowIn core a ch i row
        let cols : List (A48 × Nat) := s0.rowSums core a ch i row
        let due := t + lam - 1
        let last : Bool := a.row + 1 = (rowSeq a.mask (fld d 40 2)).length
        let double := !arrKb16 d && fld d 53 1 = 6
        let owed := if arrKb16 d then 3 else if double then 1 else 0
        let a' := { a with
          occ := if fed then a.rowOcc row g.2.2 cols else a.occ, entries := max a.entries (a.block + 1)
          chain := a.chain.set row (chainEnd (dComp d) due (a.entryBase + a.block))
          row := a.row + 1, streaming := !last, block := if last then a.block + 1 else a.block
          dueAt := (s.core core).slotsPast owed (t + 1) }
        let fin : Bool := last && a'.block = a.total
        let s := s.countCore core 0 1 (some a.ctx)
        let s := if fed then s else s.countCore core 1 1 (some a.ctx)
        let s := if double then s.countCore core 3 1 (some a.ctx) else s
        let s := s.tagUpd core a.ring a.slot (fun g => { g with
          tGather := some (g.tGather.getD t), tArray := some (g.tArray.getD (t + gatherStage d + 2)), tTree := some due, rows := g.rows + 1
          empty := g.empty + (if double then 1 else 0) })
        let feed := if fed then g.1 else zeroRow d
        let s := s.updCore core (fun k =>
          let k := { k with
            inflight := k.inflight ++ [({ set := a.accSet, row := row, entry := a.entryBase + a.block, sums := cols.map Prod.fst, due := due } : InRow)]
            empties := if double then 1 else 0
            slotFree := t + 1, owed := owed, useAt := max k.useAt (t + lam - 14)
            lastRow := feed, keeper := if double then feed else k.keeper, lastCtx := some a.ctx }
          if fin then k.next a' else { k with arr := some a' })
        if fin then s.outUpd core a.ring a.slot (fun o => { o with reads := dropRanges o.reads (actRanges d) }) else s

/-- A row enters the gather unit in an issue slot (R77, R82). An op whose first block stands in the active sets begins to stream with it (R75). -/
def execArrayRowEntry (core : Nat) (s : State) : Host.Outcome State Fault Refusal :=
  match (s.core core).arr with
  | none => .next s
  | some a => .next ((if s.direct core a then s.stream core a else s).enterRow core)

/-! ## The ladder -/

/-- The levels that a position holds when the op begins: those of the record read, or none (R131, R132). -/
def State.initLevels (s : State) (c : Nat) (a : ArrOp) (row col : Nat) : List (Option Pair) :=
  let d := a.desc
  if fld d 32 4 = tsNone then []
  else
    let w := if dComp d then 12 else 6
    let m := fld d 40 2
    let n := fld d 42 2
    (List.range 25).map (fun j =>
      if bit a.entryBase j then
        let before := ((List.range j).filter (fun i => bit a.entryBase i)).length
        let p := fld d 32 4 + 64 + (before * m * n + row * n + col) * w
        some (BitVec.ofNat 48 (s.tsNat c p 6), if dComp d then BitVec.ofNat 48 (s.tsNat c (p + 6) 6) else A48.zero)
      else none)

/-- The key of a position's ladder in accumulator memory (R123). -/
def accKey (set row col : Nat) : Nat := set * 2 ^ 20 + row * 1024 + col

/-- The ladder of a position. -/
def State.levels (s : State) (c : Nat) (a : ArrOp) (row col : Nat) : List (Option Pair) :=
  match (s.core c).acc.find (accKey a.accSet row col) with
  | some l => l
  | none => s.initLevels c a row col

/-- The op that owns a shadow set: the running op, or the one that waits for its drain. -/
def Core.ownerOf (k : Core) (set : Nat) : Option ArrOp := (k.waiting ++ k.arr.toList).find? (fun a => a.accSet = set)

/-- The op that holds a shadow set until its drain has ended. -/
def Core.holderOf (k : Core) (set : Nat) : Option ArrOp :=
  match k.drains.find? (fun d => d.op.accSet = set) with
  | some d => some d.op
  | none => k.ownerOf set

/-- An uncorrectable error in the accumulator memory of an array, at an accumulator row of a shadow set that an op holds: the error is recorded with the
generation of the array's active set, the op ends and its context is fenced (R106, R107). -/
def State.accFails (s : State) (c arr accRow : Nat) (a : ArrOp) : State :=
  let w := (s.core c).active.getOr arr {}
  let s := ((s.arrayError 3 c arr accRow a.ctx (if w.ctx = some a.ctx then w.gen else 0) 0).arrayFault c arr).fenceLater a.ctx
  s.failArr c a 0x14

/-- The oldest row in flight reaches its accumulators: each column sum is pushed into the ladder of its position (R123, R126). `ecc` is what the
accumulator memory's code found (R106). -/
def execLadderPush (core : Nat) (ecc : AccEcc) (s : State) : Host.Outcome State Fault Refusal :=
  match (s.core core).inflight with
  | [] => .next s
  | r :: rest =>
    let s := s.toCycle r.due
    match (s.core core).ownerOf r.set with
    | none => .next (s.updCore core (fun k => { k with inflight := rest }))
    | some a =>
      if ecc.bad then .next (s.accFails core ecc.array ecc.accRow a)
      else
        let s := if ecc.corrected then s.countM (0x1810 + (s.core core).pc) 1 else s
        let pushed := (r.sums.zip (List.range r.sums.length)).map (fun p =>
          (p.2, ladderPush (dComp a.desc) (s.levels core a r.row p.2) (p.1, A48.zero)))
        let unmasked (j : Nat) : Bool := maskRow a.mask r.row && decide (r.row < fld a.desc 40 2) && maskCol a.mask j && a.colIn j
        let occ := pushed.foldl (fun m p => if unmasked p.1 then occAdd m (r.row * 1024 + p.1) p.2.2 else m) a.occ
        .next (s.updCore core (fun k =>
          let upd (b : ArrOp) : ArrOp := if b.ring = a.ring ∧ b.slot = a.slot then { b with occ := occ } else b
          { k with
            inflight := rest
            acc := pushed.foldl (fun m p => m.set (accKey r.set r.row p.1) p.2.1) k.acc
            waiting := k.waiting.map upd
            arr := k.arr.map upd }))

/-! ## The drain and the epilogue -/

/-- Row r and column j of an op's output are unmasked (R88, R89, R91). -/
def ArrOp.unmasked (a : ArrOp) (r j : Nat) : Bool :=
  decide (r < fld a.desc 40 2) && a.colIn j && maskRow a.mask r && maskCol a.mask j

/-- The epilogue's scale and bias steps on a ladder result (R135), with their occurrences. -/
def State.scaleBias (s : State) (c : Nat) (a : ArrOp) (j : Nat) (v : A48) : A48 × Nat :=
  let e := a.epi
  let o := fld e 7 1
  let sa := fld e 8 4
  let ba := fld e 12 4
  let p :=
    if sa = tsNone then (v, 0)
    else
      let sc := fmtVal 6 (s.tsNat c (sa + (if bit o 0 then 4 * j else 0)) 4)
      let r := rne48 (v.val.mul sc)
      (r.1, occIn sc ||| occOf r.1.val ||| (if r.2 then occAcc else 0))
  if ba = tsNone then p
  else
    let b := if bit o 1 then fmtVal 4 (s.tsNat c (ba + 2 * j) 2) else fmtVal 6 (s.tsNat c (ba + 4 * j) 4)
    let r := rne48 (p.1.val.add b)
    (r.1, p.2 ||| occIn b ||| occOf r.1.val ||| (if r.2 then occAcc else 0))

/-- The op feeds nothing and reads no record: with K = 0 it drains the initial accumulator value and raises no flags (R93). -/
def ArrOp.empty (a : ArrOp) : Bool := a.total == 0 && fld a.desc 32 4 == tsNone

/-- The initial accumulator value of a column: exactly the bias, or +0 (R93, R136). -/
def State.initialValue (s : State) (c : Nat) (a : ArrOp) (j : Nat) : A48 :=
  let ba := fld a.epi 12 4
  if ba = tsNone then A48.zero
  else (rne48 (if bit (fld a.epi 7 1) 1 then fmtVal 4 (s.tsNat c (ba + 2 * j) 2) else fmtVal 6 (s.tsNat c (ba + 4 * j) 4))).1

/-- The results of an op before conversion: row, column, value, occurrences, at the unmasked positions in row-major order. -/
def State.results (s : State) (c : Nat) (a : ArrOp) : List (Nat × Nat × A48 × Nat) :=
  (List.range (fld a.desc 40 2)).flatMap (fun r => ((List.range (fld a.desc 42 2)).filter (a.unmasked r)).map (fun j =>
    if a.empty then (r, j, s.initialValue c a j, 0)
    else
    let l := ladderDrain (dComp a.desc) (s.levels c a r j)
    let v := s.scaleBias c a j l.1
    (r, j, v.1, l.2 ||| v.2)))

/-- The scale block of a position: its key and the address of its scale byte (R158). -/
def scaleBlock (e r j : Nat) : Nat := fld e 16 4 + (if bit (fld e 7 1) 3 then 8 * j + r / 32 else 32 * r + j / 32)

/-- The writes of the epilogue and the flag occurrences (R135, R136). -/
def State.epilogue (s : State) (c : Nat) (a : ArrOp) : List (Nat × List Byte) × Map Nat :=
  let e := a.epi
  let f := fld e 6 1
  let rs := s.results c a
  let w := fmtWidth f
  let out (r j code : Nat) : Nat × List Byte := (fld e 0 4 + r * fld e 4 2 + j * w, leBytes w code)
  if f = 0 then
    let given := bit (fld e 7 1) 2
    let exps : Map (List Val) := if given then [] else
      rs.foldl (fun m p => m.upd (scaleBlock e p.1 p.2.1) [] (fun l => l ++ [p.2.2.1.val])) []
    let scale (r j : Nat) : Int :=
      if given then (if fld e 16 4 < tsSize then byteToInt (s.tsNat c (scaleBlock e r j) 1) else 0)
      else blockScale (exps.getOr (scaleBlock e r j) [])
    let conv := rs.map (fun p =>
      let q := kb8From p.2.2.1.val (scale p.1 p.2.1)
      (p.1, p.2.1, q.1.toNat, p.2.2.2 ||| occOf p.2.2.1.val ||| occOvf q.2))
    (conv.map (fun p => out p.1 p.2.1 p.2.2.1) ++ exps.map (fun p => (p.1, [BitVec.ofNat 8 (intToByte (blockScale p.2))])),
      if a.empty then [] else conv.foldl (fun m p => occAdd m (p.1 * 1024 + p.2.1) p.2.2.2) a.occ)
  else
    let conv := rs.map (fun p =>
      let q := fmtEncode f (dMode a.desc) p.2.2.1.val
      (p.1, p.2.1, q.1, p.2.2.2 ||| q.2))
    (conv.map (fun p => out p.1 p.2.1 p.2.2.1),
      if a.empty then [] else conv.foldl (fun m p => occAdd m (p.1 * 1024 + p.2.1) p.2.2.2) a.occ)

/-- The ladder state record that an op writes (R132), with its own flags merged; positions that no row reached hold free values (log 5). -/
def State.ladderRecord (s : State) (c : Nat) (a : ArrOp) : List (Nat × List Byte) × Nat :=
  let d := a.desc
  let m := fld d 40 2
  let n := fld d 42 2
  let count := a.entryBase + (streamPlan d).length
  let own := flagWord a.occ
  let hdr := leBytes 4 count ++ leBytes 2 m ++ leBytes 2 n ++ leBytes 1 ((if dComp d then 1 else 0) + (if arrKb16 d then 2 else 0)) ++ zeros 7
    ++ leBytes 8 (flagMerge a.recFlags own) ++ zeros 40
  let pos (j r q : Nat) : List Byte :=
    match (s.levels c a r q).getD j none with
    | some p => leBytes 6 p.1.toNat ++ (if dComp d then leBytes 6 p.2.toNat else [])
    | none => (List.range (if dComp d then 12 else 6)).map (fun i => Config.freeByte (s.fresh + ((j * m + r) * n + q) * 12 + i))
  let body := ((List.range 25).filter (fun j => bit count j)).flatMap (fun j =>
    (List.range m).flatMap (fun r => (List.range n).flatMap (fun q => pos j r q)))
  ([(fld d 36 4, hdr ++ body)], own)

/-- Rows below M that do not lie in a fully masked group (R137). -/
def drainRows (a : ArrOp) : Nat := ((rowSeq a.mask (fld a.desc 40 2)).filter (fun r => decide (r < fld a.desc 40 2))).length

/-- The levels that the op's records move (R134): the loads at its start, the reads and writes of the upper levels that its carries pass
through, and the stores at its end, or the upper levels that its drain reads (R131; DEDUCED, log 34: one move for each occupied level from 8 up). -/
def levelMoves (a : ArrOp) : Nat :=
  let d := a.desc
  let pop (e : Nat) : Nat := ((List.range 25).filter (fun j => bit e j)).length
  let final := a.entryBase + a.total
  if fld d 32 4 = tsNone ∧ fld d 36 4 = tsNone then 0
  else
    pop (a.entryBase % 256) + ((List.range a.total).map (fun i => trailingOnes (a.entryBase + i) - 7)).foldl (· + ·) 0
      + (if fld d 36 4 ≠ tsNone then pop (final % 256) else pop (final / 256))

/-- Their cost, at 3 cycles for each output row and array (R134). -/
def moveCost (a : ArrOp) : Nat := 3 * fld a.desc 40 2 * arraysOf a.desc * levelMoves a

/-- The cycles of a drain (R137), with all the moves of its op's records counted in it (DEDUCED, log 34). -/
def drainCycles (a : ArrOp) : Nat :=
  let d := a.desc
  if fld d 36 4 ≠ tsNone then moveCost a
  else ceilDiv (drainRows a * 256 * arraysOf d * fmtWidth (fld a.epi 6 1)) 512 + (if dComp d then 24 else 16) + moveCost a

/-- What the drain of an op writes, and its flag word (R135, R136, R132): its ladder state record, or its results, scales and flag word. -/
def State.drainOut (s : State) (c : Nat) (a : ArrOp) : List (Nat × List Byte) × Nat :=
  if fld a.desc 36 4 ≠ tsNone then s.ladderRecord c a
  else
    let e := s.epilogue c a
    let w := if fld a.desc 32 4 = tsNone then flagWord e.2 else flagMerge a.recFlags (flagWord e.2)
    (e.1 ++ (if fld a.epi 20 4 = tsNone then [] else [(fld a.epi 20 4, leBytes 8 w)]), w)

/-- The free values that the drain of an op draws: those of the positions of a record that no row reached (log 5). -/
def drainDraws (a : ArrOp) : Nat := if fld a.desc 36 4 ≠ tsNone then 25 * 12 * fld a.desc 40 2 * fld a.desc 42 2 else 0

/-- The drain of the first op whose rows are all in begins once the chain of its last entry has ended and the epilogue is free (R135, R137, R138). What the accumulator memory's code found as the drain read it (R106). -/
def execDrainStart (d : DrainBegin) (s : State) : Host.Outcome State Fault Refusal :=
  let core := d.core
  let ecc := d.ecc
  let k := s.core core
  match k.waiting with
  | [] => .next s
  | a :: rest =>
    if !k.drains.isEmpty ∨ k.inflight.any (fun r => r.set = a.accSet) then .next s
    else
      let s := s.toCycle (a.chain.foldl (fun t e => max t (e.2 + 1)) k.epiFree)
      if ecc.bad then .next (s.accFails core ecc.array ecc.accRow a)
      else
        let s := if ecc.corrected then s.countM (0x1810 + k.pc) 1 else s
        let w := s.drainOut core a
        let s : State := { s with fresh := s.fresh + drainDraws a }
        let now := s.clk.cycle
        let s := s.tagUpd core a.ring a.slot (fun g => if fld a.desc 36 4 ≠ tsNone then g else { g with tDrain := some now })
        .next (s.updCore core (fun k => { k with
          waiting := rest
          acc := k.acc.filter (fun e => e.1 / 2 ^ 20 != a.accSet)
          drains := k.drains ++ [{ op := a, due := now + drainCycles a - 1, writes := w.1, flags := w.2 }] }))

/-- The drain ends: its results, scales and flag word, or its record, are written and the multiply completes (R143, R169). -/
def execDrainComplete (core : Nat) (s : State) : Host.Outcome State Fault Refusal :=
  match (s.core core).drains with
  | [] => .next s
  | d :: rest =>
    .next (s.endOp core d.op.ctx d.due (d.writes.map (fun w => Eff.ts w.1 w.2)) (fun s =>
      (s.updCore core (fun k => { k with drains := rest, epiFree := d.due + 1 })).complete core d.op.ring d.op.slot 0 (d.flags % 64)))

/-! ## Keeper ops and the lehr -/

/-- The core pre-ramps toward a barrier whose target has not passed (R101). -/
def State.preRamping (s : State) (c : Nat) : Option Nat :=
  match (s.core c).preRamp with
  | some (t, x) => if s.fabricUnits x < t then some x else none
  | none => none

/-- The context that a keeper cycle counts for (R526). -/
def State.keeperCtx (s : State) (c : Nat) : Option Nat :=
  match s.preRamping c with
  | some x => some x
  | none => (s.core c).lastCtx

/-- An empty slot counts for the tagged op that streams or waits for a later block (R532). -/
def State.tagEmpty (s : State) (c : Nat) : State :=
  match (s.core c).arr with
  | some a => if a.block = 0 ∧ ¬ a.streaming then s else s.tagUpd c a.ring a.slot (fun g => { g with empty := g.empty + 1 })
  | none => s

/-- The phantom row of a keeper op: the most recently fed row, or the keeper pattern row when none has been fed since the core left fraction 0 (R96). -/
def Core.phantom (k : Core) : List Nat := if k.lastRow.isEmpty then Config.keeperPattern k.tablesRev else k.lastRow

/-- An issue slot passes with no row (R97): a keeper op fills it. It counts toward the 96 unless the core pre-ramps (R101). A row that is ready takes the
slot instead (R96), unless its fetch lost the arbitration for a bank of the tile store (R81). -/
def execEmptyIssueSlot (core : Nat) (lostArbitration : Bool) (s : State) : Host.Outcome State Fault Refusal :=
  let k := s.core core
  if k.n = 0 ∨ (s.rowReady core ∧ ¬ lostArbitration) then .next s
  else
    let t := s.slotAt core
    let s := s.toCycle t
    let pre := (s.preRamping core).isSome
    let s := s.countCore core (if pre then 4 else 3) 1 (s.keeperCtx core)
    let s := if lostArbitration then s.countCore core 9 1 (k.arr.map (fun a => a.ctx)) else s
    .next ((s.tagEmpty core).updCore core (fun k => { k with
      slotFree := t + 1, owed := 0, keeper := k.phantom, empties := if pre then k.empties else k.empties + 1 }))

/-- The 97th consecutive empty cycle begins the ramp-down: n falls by 1 (R98). A core that pre-ramps begins none (R101). -/
def execLehrRampDownStart (core : Nat) (s : State) : Host.Outcome State Fault Refusal :=
  let k := s.core core
  if k.empties < 97 ∨ k.rampDown ∨ k.n = 0 ∨ (s.preRamping core).isSome then .next s
  else .next (s.setN core (k.n - 1) (fun k => { k with rampDown := true, rampUp := false, lastRow := if k.n = 0 then [] else k.lastRow }))

/-- The slots not yet used up to now are filled with keeper ops (R98). -/
def State.fillKeepers (s : State) (c : Nat) : State :=
  let k := s.core c
  let n := k.slotsIn k.freeFrom s.clk.cycle
  let s := if n = 0 then s else s.countCore c (if (s.preRamping c).isSome then 4 else 3) n (s.keeperCtx c)
  s.updCore c (fun k => { k with slotFree := max k.freeFrom s.clk.cycle, owed := 0, keeper := if n = 0 then k.keeper else k.phantom })

/-- 840 cycles of ramp-down with no row: n falls by 1; at 0 the arrays are clock-gated (R98). -/
def execLehrStep (core : Nat) (s : State) : Host.Outcome State Fault Refusal :=
  let k := s.core core
  if !k.rampDown ∨ k.n = 0 then .next s
  else
    let s := (s.toCycle (k.nAt + 840)).fillKeepers core
    .next (s.setN core (k.n - 1) (fun k => { k with lastRow := if k.n = 0 then [] else k.lastRow }))

/-- 840 cycles of ramp-up: n rises by 1 until the ceiling (R100). -/
def execRampUpStep (core : Nat) (s : State) : Host.Outcome State Fault Refusal :=
  let k := s.core core
  if !k.rampUp then .next s
  else if s.ceiling core ≤ k.n then .next (s.updCore core (fun k => { k with rampUp := false }))
  else
    let s := s.toCycle (k.nAt + 840)
    let top := s.ceiling core
    .next (s.setN core (k.n + 1) (fun k => { k with rampUp := decide (k.n < top) }))

/-- The ceiling lies below n: n falls by 1 every 840 cycles until it equals the ceiling (R102). -/
def execCeilingStepDown (core : Nat) (s : State) : Host.Outcome State Fault Refusal :=
  let k := s.core core
  if k.n ≤ s.ceiling core then .next (s.updCore core (fun k => { k with descend := false }))
  else
    let s := s.toCycle (k.ceilAt + 840)
    .next (s.setN core (k.n - 1) (fun k => { k with ceilAt := s.clk.cycle, rampUp := false }))

/-- A change of the ceilings: the cores they leave above begin their descent, and one no longer above ends it (R102). -/
def State.ceilingFell (s : State) : State :=
  { s with cores := s.cores.vals (fun c k =>
      if k.n ≤ s.ceiling c then { k with descend := false }
      else if k.descend then k else { k with descend := true, ceilAt := s.clk.cycle }) }

/-- The core begins its pre-ramp toward the earliest pending barrier with array work after it (R101). -/
def execPreRampStart (core : Nat) (s : State) : Host.Outcome State Fault Refusal :=
  match s.firstTarget core with
  | none => .next s
  | some (x, t) =>
    if (s.core core).preRamp = some (t, x) ∨ !s.evTurn x 5 0 ((s.ctx x).job.epoch + s.rampStart x t) then .next s
    else .next (((s.toFabric x (s.rampStart x t)).startUp core).updCore core (fun k => { k with preRamp := some (t, x), empties := 0 }))

/-! ## Parity -/

/-- An error in the active set of one array strikes a bit of the row that the sweep reaches (log 70). -/
def State.strike (s : State) (c row : Nat) (bad : List Nat) : State :=
  s.updCore c (fun k => { k with active := k.active.vals (fun a w => if bad.contains a then w.upset row else w) })

/-- The sweep of one array's row: the row's parity is checked; a clean row is noted in its set, a failed one is an array error and fences the owner of
the set (R104, R106). The record gives the fabric time of the row's last clean sweep, 0 where there was none (DESIGN CHOICE, log 70). -/
def State.sweepArray (s : State) (c row a : Nat) : State :=
  match (s.core c).active.find a with
  | none => s
  | some w =>
    if w.rowBad row then
      let x := w.ctx.getD noCtx
      let clean := match w.clean.find row with | some t => t - (s.ctx x).job.epoch | none => 0
      let s := (s.arrayError 2 c a row x w.gen clean).arrayFault c a
      match w.ctx with
      | some x => s.fenceLater x
      | none => s
    else s.updCore c (fun k => { k with active := k.active.set a { w with clean := w.clean.set row s.clk.tai.ns } })

/-- An op that streams against a set with a failed row ends (R106). -/
def State.sweepFails (s : State) (c row : Nat) : State :=
  let k := s.core c
  match k.arr with
  | some a =>
    if a.streaming && (List.range (arraysOf a.desc)).any (fun j => (k.active.getOr j {}).rowBad row) then s.failArr c a 0x13 else s
  | none => s

/-- Every 256 cycles the sweep checks one active cell row of each array (R104); `bad` lists the arrays in whose row a bit has flipped since its last
check (R106). -/
def execParitySweep (core : Nat) (bad : List Nat) (s : State) : Host.Outcome State Fault Refusal :=
  let k := s.core core
  let s := (s.toCycle (k.sweepAt + 256)).strike core k.sweepRow bad
  let s := (List.range 4).foldl (fun s a => s.sweepArray core k.sweepRow a) s
  let s := s.sweepFails core k.sweepRow
  .next (s.updCore core (fun j => { j with sweepRow := (k.sweepRow + 1) % 256, sweepAt := s.clk.cycle }))

end Sys2Proof.Machine
end

