-- ==== Sys2Proof/Machine/Fabric.lean ====
section
/-! DEFINITION. FABRIC descriptors (R163, R252, R255, R576): the checks of a target (R244, R253, R254), the atomics (R257), service on this
module, and the sending of requests and responses. -/

namespace Sys2Proof.Machine

/-! ## What an operation does at its target -/

/-- A tile of a range lies in a window that is granted no longer (R215). -/
def State.anyRevoked (s : State) (x addr len : Nat) : Bool := (tilesOf addr len).any (s.revoked x)

/-- STATUS of a memory operation at its target (R253, R254): alignment, the end of the 48-bit range, the tile table, and a revoked T3 window. -/
def State.memStatus (s : State) (x addr len : Nat) (tile : Bool) : Nat :=
  let c := s.ctx x
  if c.fenced then 2
  else if (if tile then addr % tileBytes != 0 || len % tileBytes != 0 else addr % 64 != 0) || len % 64 != 0 || len < 64 || 1048576 < len then 4
  else if 2 ^ 48 < addr + len then 6
  else if !s.mapped x addr len then 1 else if s.anyRevoked x addr len then 3 else 0

/-- STATUS of an atomic at its target: A48_ADD with OPERAND bits [63:48] nonzero is reserved (R254). -/
def State.atomStatus (s : State) (x op addr operand : Nat) : Nat :=
  if (s.ctx x).fenced then 2
  else if op = 12 ∧ 2 ^ 48 ≤ operand then 5
  else if addr % 8 ≠ 0 then 4
  else if 2 ^ 48 < addr + 8 then 6
  else if !s.mapped x addr 8 then 1 else if s.anyRevoked x addr 8 then 3 else 0

/-- The new word of an atomic (R252): OP is the code of R243, which is 8 plus the subop's low bits. -/
def atomWord (op old operand compare : Nat) : Nat :=
  match op with
  | 8 => (old + operand) % 2 ^ 64
  | 9 => if toSigned 64 operand < toSigned 64 old then operand else old
  | 10 => if toSigned 64 old < toSigned 64 operand then operand else old
  | 11 => if old = compare then operand else old
  | _ => (A48.add (BitVec.ofNat 48 (old % 2 ^ 48)) (BitVec.ofNat 48 (operand % 2 ^ 48))).1.toNat

/-- The event of an operation, when its enable is set (R244). -/
def State.remoteEvent (s : State) (x ev eflags : Nat) : State := if bit eflags 0 then s.signal x ev else s

/-- An atomic applied to its word: EVENT is incremented after the write (R257). -/
def State.atomApply (s : State) (x op addr operand compare ev eflags : Nat) : State :=
  let old := leNat (s.localRead x addr 8)
  let s := s.fabUse x addr 8
  (s.localWrite x addr (leBytes 8 (atomWord op old operand compare))).remoteEvent x ev eflags

/-! ## The end of a request -/

/-- The log entry of a response with a nonzero STATUS (R254). -/
def State.logRemote (s : State) (x status flow psn peer : Nat) : State :=
  s.logRecord 0x13 (recSev 0x13) x (fun _ => leBytes 1 status ++ zeros 3 ++ leBytes 4 flow ++ leBytes 4 psn ++ leBytes 2 peer)

/-- A response STATUS completes a descriptor: OK, or REMOTE with its log entry (R254). -/
def State.endRemote (s : State) (c r slot x status flow psn peer : Nat) : State :=
  if status = 0 then s.complete c r slot 0 0
  else (s.logRemote x status flow psn peer).complete c r slot 0x1A 0

/-! ## Sending -/

/-- The memory extension of R244. -/
def memExt (addr ev eflags len psn : Nat) : List Byte :=
  beBytes 6 addr ++ beBytes 1 ev ++ beBytes 1 eflags ++ beBytes 4 len ++ beBytes 4 psn

/-- The atomic extension of R244. -/
def atomExt (addr ev eflags operand compare : Nat) : List Byte :=
  beBytes 6 addr ++ beBytes 1 ev ++ beBytes 1 eflags ++ beBytes 8 operand ++ beBytes 8 compare ++ zeros 8

/-- The response extension of R245. -/
def respExt (psn status off : Nat) : List Byte := beBytes 4 psn ++ beBytes 1 status ++ zeros 3 ++ beBytes 4 off ++ zeros 4

/-- A tracker entry for a message about to be sent on a flow (R258). -/
def State.track (s : State) (t : Trk) : State := { s with trk := s.trk.set s.trkNext t, trkNext := s.trkNext + 1 }

/-- A response with one packet, or READ_DATA in ascending OFFSET (R252). -/
def State.respond (s : State) (f op psn status : Nat) (data : List Byte) : State :=
  s.sendMsg f op ((piecesOf (s.payloadMax f) data).map (fun p => (respExt psn status p.1, p.2)))

/-- The OP of the request of a FABRIC subop (R243, R252). -/
def fabOp (sb : Nat) : Nat := if sb < 4 then sb + 1 else sb

/-- The packets of the request of a FABRIC descriptor: extension and payload of each (R244, R252). -/
def State.fabParts (s : State) (c d : Nat) : List (List Byte × List Byte) :=
  let sb := dSub d
  let f := fld d 24 4
  let addr := fld d 8 8 % 2 ^ 48
  let len := if sb = 2 ∨ sb = 3 then fld d 20 4 * tileBytes else fld d 20 4
  let psn := (s.flow f).nextPsn
  if sb = 0 ∨ sb = 2 then
    (piecesOf (s.payloadMax f) (s.tsRead c (fld d 16 4) len)).map (fun p => (memExt (addr + p.1) (fld d 28 1) (fld d 29 1) len psn, p.2))
  else if sb = 1 ∨ sb = 3 then [(memExt addr (fld d 28 1) (fld d 29 1) len psn, [])]
  else [(atomExt addr (fld d 28 1) (fld d 29 1) (fld d 32 8) (fld d 40 8), [])]

/-- The request of a FABRIC descriptor sent on its flow. -/
def State.sendFabric (s : State) (c r slot x d : Nat) : State :=
  let sb := dSub d
  let f := fld d 24 4
  let fl := s.flow f
  let tile := sb = 2 ∨ sb = 3
  let len := if tile then fld d 20 4 * tileBytes else fld d 20 4
  let s := s.flowUse f
  let s := s.track { ctx := x, core := c, ring := r, slot := slot, flow := f, psn := fl.nextPsn, local_ := fld d 16 4, length := len
                     kind := if sb = 0 ∨ sb = 2 then .put else if sb = 1 ∨ sb = 3 then .get else .atomic
                     tileSlot := decide tile }
  s.sendMsg f (fabOp sb) (s.fabParts c d)

/-! ## Service on this module (R255) -/

/-- The tiles that a FABRIC descriptor writes here. -/
def fabWrites (d : Nat) : List Nat :=
  let sb := dSub d
  let addr := fld d 8 8 % 2 ^ 48
  if sb = 0 then tilesOf addr (fld d 20 4) else if sb = 2 then tilesOf addr (fld d 20 4 * tileBytes) else if sb = 1 ∨ sb = 3 then [] else tilesOf addr 8

/-- The bytes that a FABRIC descriptor moves. -/
def fabLen (d : Nat) : Nat := if dSub d = 2 ∨ dSub d = 3 then fld d 20 4 * tileBytes else fld d 20 4

/-- STATUS of a FABRIC descriptor served on this module: the checks of a target (R253 to R255). -/
def State.fabStatus (s : State) (x d : Nat) : Nat :=
  let addr := fld d 8 8 % 2 ^ 48
  if dSub d < 4 then s.memStatus x addr (fabLen d) (decide (dSub d = 2 ∨ dSub d = 3)) else s.atomStatus x (dSub d) addr (fld d 32 8)

/-- The tiles that a FABRIC descriptor served here writes in the tile store. -/
def State.fabT0 (s : State) (c d : Nat) : List Nat :=
  if dSub d = 1 ∨ dSub d = 3 then s.effT0 c [.ts (fld d 16 4) (zeros (fabLen d))] else []

/-- A tile that the descriptor writes is in migration (R204). -/
def State.fabStalls (s : State) (c x d : Nat) : Bool := (fabWrites d ++ s.fabT0 c d).any (fun t => ((s.ctx x).entry t).stalls)

/-- What a FABRIC descriptor served here does to memory, and its event (R252, R257). -/
def State.fabEffect (s : State) (c x d : Nat) : State :=
  let sb := dSub d
  let addr := fld d 8 8 % 2 ^ 48
  let ev := fld d 28 1
  let en := fld d 29 1
  if sb = 0 ∨ sb = 2 then ((s.fabUse x addr (fabLen d)).localWrite x addr (s.tsRead c (fld d 16 4) (fabLen d))).remoteEvent x ev en
  else if sb = 1 ∨ sb = 3 then ((s.fabUse x addr (fabLen d)).tsWrite c (fld d 16 4) (s.localRead x addr (fabLen d))).remoteEvent x ev en
  else
    let old := s.localRead x addr 8
    let s := s.atomApply x sb addr (fld d 32 8) (fld d 40 8) ev en
    if fld d 16 4 = tsNone then s else s.tsWrite c (fld d 16 4) old

/-- A FABRIC descriptor served locally passes the checks of a target and takes effect; a write to a tile in migration stalls, and is taken
up when the tile's migration ends (R204, R205). -/
def State.serveLocal (s : State) (c r slot x d : Nat) : State :=
  let st := s.fabStatus x d
  if st ≠ 0 then s.endRemote c r slot x st 0 0 s.deviceId
  else if s.fabStalls c x d then
    let s := s.rush x (fabWrites d ++ s.fabT0 c d)
    if s.trk.any (fun e => e.2.flow = 0 && e.2.core = c && e.2.ring = r && e.2.slot = slot) then s
    else s.track { ctx := x, core := c, ring := r, slot := slot, flow := 0, psn := 0, kind := .put }
  else
    let s := (s.fabEffect c x d).complete c r slot 0 0
    { s with trk := s.trk.filter (fun e => !(e.2.flow = 0 && e.2.core = c && e.2.ring = r && e.2.slot = slot)) }

/-- FABRIC descriptors that stalled here are tried again. -/
def State.retryLocal (s : State) (x : Nat) : State :=
  (s.trk.filter (fun e => e.2.flow = 0 && e.2.ctx = x)).foldl (fun s e =>
    match (s.ring e.2.core e.2.ring).out.find? (fun d => d.id = e.2.slot && !d.done) with
    | some d => s.serveLocal e.2.core e.2.ring e.2.slot x d.desc
    | none => { s with trk := s.trk.del e.1 }) s

/-- FABRIC of a subop: served on this module (R255), refused under R576, or sent on its flow. -/
def State.execFabric (s : State) (core ring sb : Nat) : State :=
  s.issue core ring 0x50 sb noDeadline (fun s slot d =>
    let s := s.endWait core ring
    let x := (s.ring core ring).ctx
    let dev := fld d 8 8 / 2 ^ 48
    if !s.rangesOk core (s.touch core x d) then s.complete core ring slot 0x11 0
    else if dev = 0xFFFF ∨ dev = s.deviceId then s.serveLocal core ring slot x d
    else
      let f := fld d 24 4
      match s.flows.find f with
      | none => s.complete core ring slot 0x11 0
      | some fl =>
        if fl.ctx ≠ x ∨ fl.peer ≠ dev ∨ fl.planning then s.complete core ring slot 0x11 0
        else
          match fl.state with
          | .closed => s.complete core ring slot 0x11 0
          | .opening => s
          | .open_ => s.sendFabric core ring slot x d
          | .draining => s.complete core ring slot (if fl.drainFence then 0x18 else 0x1A) 0
          | .failed => s.complete core ring slot 0x1A 0)

/-- FABRIC put: WRITE (R252). -/
def execFabricPut (core ring : Nat) (s : State) : Host.Outcome State Fault Refusal := .next (s.execFabric core ring 0)
/-- FABRIC get: READ (R252). -/
def execFabricGet (core ring : Nat) (s : State) : Host.Outcome State Fault Refusal := .next (s.execFabric core ring 1)
/-- FABRIC tile put: TILE_WRITE (R252). -/
def execFabricTilePut (core ring : Nat) (s : State) : Host.Outcome State Fault Refusal := .next (s.execFabric core ring 2)
/-- FABRIC tile get: TILE_READ (R252). -/
def execFabricTileGet (core ring : Nat) (s : State) : Host.Outcome State Fault Refusal := .next (s.execFabric core ring 3)
/-- FABRIC ATOMIC_ADD (R252). -/
def execFabricAtomicAdd (core ring : Nat) (s : State) : Host.Outcome State Fault Refusal := .next (s.execFabric core ring 8)
/-- FABRIC ATOMIC_MIN (R252). -/
def execFabricAtomicMin (core ring : Nat) (s : State) : Host.Outcome State Fault Refusal := .next (s.execFabric core ring 9)
/-- FABRIC ATOMIC_MAX (R252). -/
def execFabricAtomicMax (core ring : Nat) (s : State) : Host.Outcome State Fault Refusal := .next (s.execFabric core ring 10)
/-- FABRIC COMPARE_SWAP (R252). -/
def execFabricCompareSwap (core ring : Nat) (s : State) : Host.Outcome State Fault Refusal := .next (s.execFabric core ring 11)
/-- FABRIC A48_ADD (R252). -/
def execFabricA48Add (core ring : Nat) (s : State) : Host.Outcome State Fault Refusal := .next (s.execFabric core ring 12)

end Sys2Proof.Machine
end

