-- ==== Sys2Proof/Machine/Collect.lean ====
section
/-! DEFINITION. The collective engine (R307 to R324, R574, R575) with the arithmetic of erasure parity (R325 to R330) and the moves of a
permute (R331). -/

namespace Sys2Proof.Machine

/-! ## Formats and lengths -/

/-- A reduction (R312). -/
def CollRec.reduces (r : CollRec) : Bool := r.type = 1 || r.type = 2

/-- LENGTH meets the limit of R312. -/
def CollRec.lenOk (r : CollRec) (len : Nat) : Bool :=
  decide (len ≤ r.maxLen) && decide (len ≤ 4194304)
    && (if r.type = 1 ∨ r.type = 2 then len % r.p == 0 && len / r.p % 64 == 0 && len / r.p % collWidth r.inFmt == 0
        else if r.type = 4 then len % r.p == 0 && len / r.p % 64 == 0
        else len % 64 == 0)

/-- The bytes of a block of a KIND that an instance with input length L takes (R312, R316); none when its type has no such block. -/
def CollRec.blockLen (r : CollRec) (kind len : Nat) : Option Nat :=
  if kind = 0 then (if r.reduces then some (len / r.p) else none)
  else if kind = 1 then (if r.type = 1 then some (len / r.p / collWidth r.inFmt * collWidth r.outFmt) else none)
  else if kind = 2 then
    (if r.type = 3 ∨ r.type = 5 then some len else if r.type = 4 then some (len / r.p) else none)
  else none

/-- The bytes of this member's output (R312). -/
def CollRec.outLen (r : CollRec) (len : Nat) : Nat := collOutLen r.type r.inFmt r.outFmt r.p len

/-- The place of a block at DST (R312). -/
def CollRec.place (r : CollRec) (i : CollInst) (pos kind : Nat) : Nat :=
  if kind = 1 then i.dst + pos * (i.len / r.p / collWidth r.inFmt * collWidth r.outFmt)
  else if r.type = 3 then i.dst + pos * i.len
  else if r.type = 4 then i.dst + pos * (i.len / r.p)
  else i.dst

/-- The other members in the order of sending (R316). -/
def CollRec.others (r : CollRec) : List Nat := (List.range (r.p - 1)).map (fun i => (r.myPos + 1 + i) % r.p)

/-- The collective extension of R315. -/
def collExt (coll inst pos kind fmt epoch off len : Nat) : List Byte :=
  beBytes 4 coll ++ beBytes 4 inst ++ beBytes 2 pos ++ beBytes 1 kind ++ beBytes 1 fmt ++ beBytes 2 epoch ++ zeros 2 ++ beBytes 4 off ++ beBytes 4 len

/-- The key of an instance. -/
def instKey (coll inst : Nat) : Nat := coll * 2 ^ 32 + inst

def Ctx.inst (c : Ctx) (coll inst : Nat) : Option CollInst := c.insts.find (instKey coll inst)

def State.updInst (s : State) (x coll inst : Nat) (f : CollInst → CollInst) : State :=
  s.updCtx x (fun c => { c with insts := c.insts.upd (instKey coll inst) {} f })

/-- An instance lies before the lowest not completed, or has completed (R314). -/
def CollRec.isOver (r : CollRec) (inst : Nat) : Bool := !serialGe inst r.low || r.finished.contains inst

/-- The instance number is one that the record accepts packets for: c or c + 1 (R314). -/
def CollRec.near (r : CollRec) (inst : Nat) : Bool := inst == r.low || inst == (r.low + 1) % 4294967296

/-- The record with an instance completed: c moves past every completed number (R313). -/
def CollRec.finish (r : CollRec) (inst : Nat) : CollRec :=
  let fin := r.finished ++ [inst]
  let low := (List.range (fin.length + 1)).foldl (fun c _ => if fin.contains c then (c + 1) % 4294967296 else c) r.low
  { r with low := low, finished := fin.filter (fun i => serialGe i low) }

/-! ## Combining in rank order (R317 to R319) -/

/-- An element of a contribution as an A48 pair (R318). -/
def collPair (f code : Nat) : Pair :=
  if f = 0x10 then (BitVec.ofNat 48 code, A48.zero)
  else if f = 0x11 then (BitVec.ofNat 48 (code % 2 ^ 48), BitVec.ofNat 48 (code / 2 ^ 48))
  else if f = 1 ∧ BitVec.ofNat 16 code = 0x4000#16 then (A48.zero, A48.zero)
  else ((rne48 (fmtVal f code)).1, A48.zero)

/-- The order of MAX and MIN on A48 codes that are not NaN: +0 above −0 (R317). -/
def a48Key (a : A48) : Int := if a.getLsbD 47 then -((a.toNat % 2 ^ 47 : Nat) : Int) - 1 else ((a.toNat % 2 ^ 47 : Nat) : Int)

/-- MAX and MIN of two A48 values, with NaN winning (R317). -/
def a48Max (a b : A48) : A48 := if a.val.isNan || b.val.isNan then A48.nan else if a48Key a < a48Key b then b else a
def a48Min (a b : A48) : A48 := if a.val.isNan || b.val.isNan then A48.nan else if a48Key b < a48Key a then b else a

/-- E_P of the contributions to one element, in position order, with the accumulate overflows of its combines; OP of R308. -/
def reduceElem (op : Nat) (comp : Bool) (xs : List Pair) : Pair × Nat :=
  if op = 1 then
    let l := xs.foldl (fun (a : List (Option Pair) × Nat) v =>
      let r := ladderPush comp a.1 v
      (r.1, a.2 ||| r.2)) ([], 0)
    let d := ladderFold comp l.1 none
    (d.1.getD (A48.zero, A48.zero), l.2 ||| d.2)
  else
    match xs with
    | [] => ((A48.zero, A48.zero), 0)
    | v :: r => ((r.foldl (fun a b => if op = 2 then a48Max a b.1 else a48Min a b.1) v.1, A48.zero), 0)

/-- The conversion of E_P to OUT_FMT, with its occurrence bits (R319). -/
def collOut (comp : Bool) (outFmt : Nat) (mode : Mode) (p : Pair) : List Byte × Nat :=
  if outFmt = 0x11 then (leBytes 6 p.1.toNat ++ leBytes 6 p.2.toNat, 0)
  else
    let v : A48 × Nat := if comp then (let r := p.1.add p.2; (r.1, if r.2 then occAcc else 0)) else (p.1, 0)
    if outFmt = 0x10 then (leBytes 6 v.1.toNat, v.2 ||| occOf v.1.val)
    else
      let e := fmtEncode outFmt mode v.1.val
      (leBytes (collWidth outFmt) e.1, v.2 ||| e.2)

/-- The reduced shard and its occurrences, from the contributions in position order; `base` is the first element's number in the output. -/
def reduceShard (r : CollRec) (shards : List (List Byte)) (base : Nat) : List Byte × Map Nat :=
  let w := collWidth r.inFmt
  let comp := r.inFmt = 0x11
  let n := (shards.headD []).length / w
  let cols := shards.map (fun b => (codesOf w n b).map (collPair r.inFmt))
  (List.range n).foldl (fun (a : List Byte × Map Nat) e =>
    let xs := cols.map (fun l => l.getD e (A48.zero, A48.zero))
    let ins := xs.foldl (fun o x => o ||| occIn x.1.val ||| (if comp then occIn x.2.val else 0)) 0
    let p := reduceElem r.op comp xs
    let o := collOut comp r.outFmt (if r.saturate then .saturate else .strict) p.1
    (a.1 ++ o.1, occAdd a.2 (base + e) (ins ||| p.2 ||| o.2))) ([], [])

/-! ## Ends of an instance -/

/-- The blocks that an instance takes from other members: sender position and KIND. -/
def CollRec.expects (r : CollRec) : List (Nat × Nat) :=
  if r.type = 1 then (r.others.map (fun q => (q, 0))) ++ (r.others.map (fun q => (q, 1)))
  else if r.type = 2 then r.others.map (fun q => (q, 0))
  else if r.type = 5 then (if r.myPos = 0 then [] else [(0, 2)])
  else r.others.map (fun q => (q, 2))

/-- Every byte of a block has arrived. -/
def CollInst.has (i : CollInst) (pos kind : Nat) : Bool := i.blocks.any (fun b => b.pos = pos && b.kind = kind && b.got = b.len)

/-- The instance's slot and banks are released, and its number has completed (R574). -/
def State.closeInst (s : State) (x coll inst : Nat) : State :=
  s.updCtx x (fun c => { c with
    insts := c.insts.del (instKey coll inst)
    colls := match c.colls.find coll with | some r => c.colls.set coll (r.finish inst) | none => c.colls })

/-- An instance ends abnormally: its COLL_STEP completes with REMOTE (R324). -/
def State.failInst (s : State) (x coll inst : Nat) : State :=
  match (s.ctx x).inst coll inst with
  | none => s
  | some i => if i.issued then (s.closeInst x coll inst).complete i.core i.ring i.slot 0x1A 0 else s

/-- The instance completes when its output is placed and every message it sent is answered: flag words, EVENT and the slot (R321, R574). -/
def State.checkInst (s : State) (x coll inst : Nat) : State :=
  match (s.ctx x).inst coll inst, (s.ctx x).colls.find coll with
  | some i, some r =>
    if !i.issued || i.unanswered != 0 || (r.reduces && !i.shardDone) || !(r.expects.all (fun e => i.has e.1 e.2)) then s
    else
      let words := if r.inFmt = 0xFF then [0] else flagWords i.occ (r.outLen i.len / collWidth r.outFmt) 1
      let s := if r.flagAddr = tsNone then s else s.tsWrite i.core r.flagAddr (codeBytes 8 words)
      let s := (s.closeInst x coll inst).complete i.core i.ring i.slot 0 (flagsOr words)
      (s.signal x r.event |>.count x 188 1).gradFinal x coll (fun _ _ => true)
  | _, _ => s

/-- One block of an instance put on the flow to a member, with its tracker entry (R315). -/
def State.putBlock (s : State) (x coll inst : Nat) (r : CollRec) (i : CollInst) (dst kind : Nat) (data : List Byte) : State :=
  match r.members[dst]? with
  | none => s
  | some mb =>
    let f := mb.2
    let s := s.flowUse f
    let s := s.track { ctx := x, core := i.core, ring := i.ring, slot := i.slot, flow := f, psn := (s.flow f).nextPsn, kind := .coll coll inst
                       length := data.length }
    let fmt := if kind = 0 then r.inFmt else if kind = 1 then r.outFmt else 0xFF
    s.sendMsg f 0x20 ((piecesOf (s.payloadMax f) data).map (fun p =>
      (collExt coll inst r.myPos kind fmt r.epoch p.1 data.length, p.2)))

/-- One block of an instance to a member: sent when a tracker entry is free, else it waits for one (R258). -/
def State.sendBlock (s : State) (x coll inst : Nat) (r : CollRec) (i : CollInst) (dst kind : Nat) (data : List Byte) : State :=
  if r.members[dst]?.isNone then s
  else
    let s := s.updInst x coll inst (fun i => { i with unanswered := i.unanswered + 1 })
    if s.trkRoom x 1 false then s.putBlock x coll inst r i dst kind data
    else s.updInst x coll inst (fun i => { i with due := i.due ++ [(dst, kind, data)] })

/-! ## COLL_STEP -/

/-- A placed block's bytes written at DST. -/
def State.placeBlock (s : State) (r : CollRec) (i : CollInst) (b : CollBlock) : State :=
  if b.kind = 0 then s else s.tsWrite i.core (r.place i b.pos b.kind) b.data

/-- The sends of an issued instance (R316). -/
def State.sendAll (s : State) (x coll inst : Nat) (r : CollRec) (i : CollInst) (input : List Byte) : State :=
  let sh := i.len / r.p
  if r.type = 1 ∨ r.type = 2 then r.others.foldl (fun s j => s.sendBlock x coll inst r i j 0 (sub input (j * sh) sh)) s
  else if r.type = 3 then r.others.foldl (fun s j => s.sendBlock x coll inst r i j 2 input) s
  else if r.type = 4 then r.others.foldl (fun s j => s.sendBlock x coll inst r i j 2 (sub input (j * sh) sh)) s
  else if r.myPos = 0 then r.others.foldl (fun s j => s.sendBlock x coll inst r i j 2 input) s
  else s

/-- The own share of an instance, placed without a packet (R316). -/
def CollRec.own (r : CollRec) (i : CollInst) (input : List Byte) : List CollBlock :=
  let sh := i.len / r.p
  let blk (kind : Nat) (d : List Byte) : CollBlock := { pos := r.myPos, kind := kind, len := d.length, got := d.length, data := d }
  if r.type = 1 ∨ r.type = 2 then [blk 0 (sub input (r.myPos * sh) sh)]
  else if r.type = 3 then [blk 2 input]
  else if r.type = 4 then [blk 2 (sub input (r.myPos * sh) sh)]
  else if r.myPos = 0 then [blk 2 input] else []

/-- A flow to some member can no longer carry the instance. -/
def State.memberLost (s : State) (x : Nat) (r : CollRec) : Bool :=
  r.others.any (fun j =>
    match r.members[j]? with
    | none => true
    | some mb =>
      let f := s.flow mb.2
      f.ctx != x || f.state == FlowState.failed || f.state == FlowState.closed || f.state == FlowState.draining)

/-- A member that gives no input: one of a broadcast other than its root (R312). -/
def CollRec.noSrc (r : CollRec) : Bool := r.type == 5 && r.myPos != 0

/-- STATUS of a COLL_STEP from its fields (R312, R313): its instance is the record's next, its ring's core is the record's, its LENGTH meets the
limits, SRC stands where the member gives input, and both ranges lie in the tile store. -/
def CollRec.stepStatus (r : CollRec) (core d : Nat) : Nat :=
  if fld d 12 4 ≠ r.next ∨ r.core ≠ core ∨ 5 < r.type ∨ ¬ r.lenOk (fld d 24 4) ∨ (fld d 16 4 == tsNone) ≠ r.noSrc ∨ fld d 20 4 = tsNone then 0x10
  else if (r.noSrc = false ∧ tsSize < fld d 16 4 + fld d 24 4) ∨ tsSize < fld d 20 4 + r.outLen (fld d 24 4) then 0x11
  else 0

/-- A COLL_STEP whose fields hold, its record already at the next number: the instance is issued, its own share and what was staged are placed,
and its blocks are sent. -/
def State.startInst (s : State) (core ring slot x d : Nat) (r : CollRec) : State :=
  let coll := fld d 8 4
  let inst := fld d 12 4
  let src := fld d 16 4
  let dst := fld d 20 4
  let len := fld d 24 4
  let st := ((s.ctx x).inst coll inst).getD {}
  let i : CollInst := { st with issued := true, core := core, ring := ring, slot := slot, src := src, dst := dst, len := len }
  match st.blocks.find? (fun b => r.blockLen b.kind len != some b.len) with
  | some b => ((s.closeInst x coll inst).logRemote x 5 b.flow b.psn (s.flow b.flow).peer).complete core ring slot 0x1A 0
  | none =>
    if s.memberLost x r then (s.closeInst x coll inst).complete core ring slot 0x1A 0
    else
      let input := if r.noSrc then [] else s.tsRead core src len
      let i := { i with blocks := i.blocks ++ r.own i input }
      let s := s.updInst x coll inst (fun _ => i)
      let s := i.blocks.foldl (fun s b => s.placeBlock r i b) s
      (s.sendAll x coll inst r i input).checkInst x coll inst

/-- COLL_STEP (R312 to R316): the checks of its fields and number, then the instance. -/
def execCollStep (core ring : Nat) (s : State) : Host.Outcome State Fault Refusal :=
  .next (s.issue core ring 0x60 0 noDeadline (fun s slot d =>
    let s := s.endWait core ring
    let x := (s.ring core ring).ctx
    let coll := fld d 8 4
    match (s.ctx x).colls.find coll with
    | none => s.complete core ring slot 0x10 0
    | some r =>
      if r.stepStatus core d ≠ 0 then s.complete core ring slot (r.stepStatus core d) 0
      else if !s.rangesOk core (s.touch core x d) then s.complete core ring slot 0x11 0
      else
        let s := s.updCtx x (fun c => { c with colls := c.colls.set coll { r with next := (r.next + 1) % 4294967296 } })
        if fld d 24 4 = 0 then (((s.closeInst x coll (fld d 12 4)).complete core ring slot 0 0).signal x r.event).count x 188 1
        else s.startInst core ring slot x d r))

/-! ## The shard of an owner -/

/-- The contributions to the own shard, in position order. -/
def CollRec.shards (r : CollRec) (i : CollInst) : List (List Byte) :=
  (List.range r.p).map (fun q => match i.blocks.find? (fun b => b.pos = q && b.kind = 0) with | some b => b.data | none => [])

/-- The reduced own shard in the output format, with its occurrences (R317 to R319). -/
def CollRec.reduced (r : CollRec) (i : CollInst) : List Byte × Map Nat :=
  reduceShard r (r.shards i) (if r.type = 1 then r.myPos * (i.len / r.p / collWidth r.inFmt) else 0)

/-- Where the own shard's result goes (R312). -/
def CollRec.shardAt (r : CollRec) (i : CollInst) : Nat := if r.type = 1 then r.place i r.myPos 1 else i.dst

/-- The last combine of the own shard is done (R575): the result is converted and written at DST, and for ALL_REDUCE sent to the members. -/
def execCollShardReady (ctx coll inst : Nat) (s : State) : Host.Outcome State Fault Refusal :=
  match (s.ctx ctx).inst coll inst, (s.ctx ctx).colls.find coll with
  | some i, some r =>
    if !i.issued || i.shardDone || !r.reduces || !((List.range r.p).all (fun q => i.has q 0)) then .next s
    else
      let res := r.reduced i
      let s := s.tsWrite i.core (r.shardAt i) res.1
      let s := s.updInst ctx coll inst (fun i => { i with shardDone := true, occ := res.2.foldl (fun m e => occAdd m e.1 e.2) i.occ })
      let s := if r.type = 1 then r.others.foldl (fun s j => s.sendBlock ctx coll inst r i j 1 res.1) s else s
      .next (s.checkInst ctx coll inst)
  | _, _ => .next s

/-! ## Arriving blocks -/

/-- The fields of a collective extension (R315). -/
structure CollHdr where
  coll : Nat
  inst : Nat
  pos : Nat
  kind : Nat
  fmt : Nat
  epoch : Nat
  resv : Nat
  off : Nat
  len : Nat
  deriving DecidableEq, Repr

def collHdr (e : List Byte) : CollHdr :=
  { coll := be e 0 4, inst := be e 4 4, pos := be e 8 2, kind := be e 10 1, fmt := be e 11 1, epoch := be e 12 2, resv := be e 14 2,
    off := be e 16 4, len := be e 20 4 }

/-- STATUS of a block of KIND 0 to 2 from a member (R312, R314, R315): 7 CLOSING, 5 RESERVED_VALUE, else 0. -/
def State.blockStatus (s : State) (x peer : Nat) (h : CollHdr) : Nat :=
  let c := s.ctx x
  match c.colls.find h.coll with
  | none => 5
  | some r =>
    if h.resv ≠ 0 ∨ 2 < h.kind ∨ 5 < r.type ∨ r.p ≤ h.pos ∨ (match r.members[h.pos]? with | some m => m.1 | none => 0) ≠ peer
        ∨ h.pos = r.myPos ∨ ¬ r.expects.contains (h.pos, h.kind)
        ∨ h.fmt ≠ (if h.kind = 0 then r.inFmt else if h.kind = 1 then r.outFmt else 0xFF) then 5
    else if h.epoch ≠ r.epoch ∨ r.isOver h.inst then 7
    else
      match c.inst h.coll h.inst with
      | some i =>
        if i.issued then (if r.blockLen h.kind i.len = some h.len then 0 else 5)
        else if (r.blockLen h.kind r.maxLen).getD 0 < h.len then 5 else 0
      | none => if (r.blockLen h.kind r.maxLen).getD 0 < h.len then 5 else 0

/-- One packet of an accepted block: to DST when the instance is issued, else to its staging bank (R314). -/
def State.takeBlock (s : State) (x f psn : Nat) (h : CollHdr) (data : List Byte) : State :=
  let s := s.updInst x h.coll h.inst (fun i =>
    match i.blocks.find? (fun b => b.pos = h.pos && b.kind = h.kind) with
    | some _ => { i with blocks := i.blocks.map (fun b =>
        if b.pos = h.pos ∧ b.kind = h.kind then { b with got := b.got + data.length, data := b.data ++ data } else b) }
    | none => { i with blocks := i.blocks ++ [{ pos := h.pos, kind := h.kind, len := h.len, got := data.length, data := data, flow := f, psn := psn }] })
  match (s.ctx x).inst h.coll h.inst, (s.ctx x).colls.find h.coll with
  | some i, some r =>
    if !i.issued then s
    else
      let s := if h.kind = 0 then s else s.tsWrite i.core (r.place i h.pos h.kind + h.off) data
      if h.kind = 1 ∧ i.has h.pos 1 then
        let w := collWidth r.outFmt
        let n := i.len / r.p / collWidth r.inFmt
        let codes := match i.blocks.find? (fun b => b.pos = h.pos && b.kind = 1) with | some b => codesOf w n b.data | none => []
        let occ := (codes.zip (List.range n)).foldl (fun (m : Map Nat) (e : Nat × Nat) =>
          let p := collPair r.outFmt e.1
          occAdd m (h.pos * n + e.2) (occIn p.1.val ||| (if r.outFmt = 0x11 then occIn p.2.val else 0))) i.occ
        s.updInst x h.coll h.inst (fun i => { i with occ := occ })
      else s
  | _, _ => s

/-- A block refused for its length before its instance is issued leaves its length behind, so that the COLL_STEP ends with REMOTE (R314). -/
def State.noteRefused (s : State) (x f psn : Nat) (h : CollHdr) : State :=
  match (s.ctx x).colls.find h.coll with
  | none => s
  | some r =>
    if r.near h.inst && r.expects.contains (h.pos, h.kind) && !(((s.ctx x).inst h.coll h.inst).getD {}).issued
        && decide ((r.blockLen h.kind r.maxLen).getD 0 < h.len) then
      s.updInst x h.coll h.inst (fun i => { i with blocks := i.blocks ++ [{ pos := h.pos, kind := h.kind, len := h.len, flow := f, psn := psn }] })
    else s

/-! ## Parity (R325 to R330) -/

/-- Multiplication by α in GF(2⁸) (R325). -/
def gfAlpha (b : Nat) : Nat := if 128 ≤ b then (b * 2 % 256) ^^^ 0x1D else b * 2

/-- Multiplication in GF(2⁸) (R325): the multiples of a by the powers of α that b selects, XORed. -/
def gfMul (a b : Nat) : Nat :=
  ((List.range 8).foldl (fun (r : Nat × Nat) i => (gfAlpha r.1, if bit b i then r.2 ^^^ r.1 else r.2)) (a, 0)).2

/-- A byte string scaled by a coefficient. -/
def gfScale (k : Nat) (bs : List Byte) : List Byte := bs.map (fun b => BitVec.ofNat 8 (gfMul b.toNat k))

/-- A power of an element of GF(2⁸), and the inverse of a nonzero one (R325). -/
def gfPow (a : Nat) : Nat → Nat
  | 0 => 1
  | n + 1 => gfMul (gfPow a n) a
def gfInv (a : Nat) : Nat := gfPow a 254

/-- α^q (R325). -/
def alphaPow (q : Nat) : Nat := gfPow 2 (q % 255)

/-- The coefficient of a share (R327, R329). -/
def stripeCoeff : StripeRole → Nat
  | .encode p1 q => if p1 then alphaPow q else 1
  | .data .p0 _ => 1
  | .data (.p1 _) q => alphaPow q
  | .data (.both _ y) q => alphaPow y ^^^ alphaPow q
  | .parity .p0 p1 _ => if p1 then 0 else 1
  | .parity (.p1 _) p1 _ => if p1 then 1 else 0
  | .parity (.both _ y) p1 _ => if p1 then 1 else alphaPow y

/-- The final factor of a rebuild (R329). -/
def rebuildFactor : RebuildCase → Nat
  | .p0 => 1
  | .p1 x => gfInv (alphaPow x)
  | .both x y => gfInv (alphaPow x ^^^ alphaPow y)

/-- Two byte strings XORed. -/
def xorBytes (a b : List Byte) : List Byte := (a.zip b).map (fun p => p.1 ^^^ p.2)

/-- A parity stripe's bytes XORed into the host's accumulator (R327). -/
def State.takeStripe (s : State) (x : Nat) (h : CollHdr) (data : List Byte) : State :=
  let acc := ((List.range data.length).zip data).foldl (fun (m : Map Byte) (e : Nat × Byte) =>
    m.upd (h.coll * 2 ^ 48 + h.inst * 2 ^ 16 + h.off + e.1) 0#8 (fun b => b ^^^ e.2)) (s.ctx x).sec.accum
  s.updSec x (fun c => { c with accum := acc })

/-- The parity bytes of a host when its group's record commits: the accumulator XORed into them, or in their place in the full form (R328). -/
def Sec.commitParity (c : Sec) : Sec :=
  if c.fullForm then { c with parity := if c.accum.isEmpty then c.parity else c.accum, accum := [] }
  else { c with parity := c.accum.foldl (fun m e => m.upd e.1 0#8 (fun b => b ^^^ e.2)) c.parity, accum := [] }

/-- The bytes of a tile in the generation that is open: its capture, or its working frame (R387). -/
def State.capturedBytes (s : State) (x t : Nat) : List Byte :=
  let c := s.ctx x
  match c.sec.captures.find t with
  | some f => Memory.read s.mem (capPhys f) tileBytes
  | none => s.tileRead x t 0 tileBytes

/-- The bytes of a tile of a parity image that this module hosts (R326). -/
def State.parityBytes (s : State) (x coll slot : Nat) : List Byte :=
  (List.range tileBytes).map (fun i => (s.ctx x).sec.parity.getOr (coll * 2 ^ 48 + slot * 2 ^ 16 + i) 0#8)

/-- The newest version of a tile that the member's own snapshots up to a generation hold (R381). -/
def State.snapTile (s : State) (job gen t : Nat) : Option (List Host.Cell) :=
  ((s.nand.filter (fun (n : NandGen) => n.jobId = job && n.role = 0 && decide (n.record.generation ≤ gen))).reverse.findSome? (fun (n : NandGen) =>
    (n.tiles.find? (fun e => e.1 = t)).map (fun e => e.2)))

/-- The frame that holds a tile's value of the newest committed generation: its pre-image, or its working frame (R386). -/
def Ctx.committedAt (c : Ctx) (x t : Nat) : Nat :=
  match c.sec.preimages.find t with
  | some f => capPhys f
  | none => (c.entry t).phys x t

/-- A tile's bytes and header as a move takes them: in a recovery those of the target (R400), else those in place. -/
def State.moveTile (s : State) (x t : Nat) : List Byte × TileHdr :=
  let c := s.ctx x
  let place : List Byte × TileHdr := (s.tileRead x t 0 tileBytes, c.hdr t)
  match c.recov.target with
  | none => place
  | some r =>
    if c.recov.targetSnap then
      match s.snapTile r.jobId r.generation t with
      | some cells => (Memory.read cells 0 tileBytes, TileHdr.unpack (leNat (Memory.read cells tileBytes 64)))
      | none => place
    else
      match c.sec.preimages.find t with
      | some f => (Memory.read s.mem (capPhys f) tileBytes, (c.sec.copyHdrs.find f).getD (c.hdr t))
      | none => place

/-- What a PARITY run sends for a tile: full, or new XOR old (R327, R387); of a parity image for a rebuild, its tile (R329). With no generation open
the tile's value is that of the newest committed one (R329, R330). -/
def State.stripeBytes (s : State) (x : Nat) (p : StripeSend) : List Byte :=
  let own := if (s.ctx x).sec.current.isNone then Memory.read s.mem ((s.ctx x).committedAt x p.tile) tileBytes else s.capturedBytes x p.tile
  let new := match p.role with | .parity _ _ coll => s.parityBytes x coll p.slot | _ => own
  let d := if p.delta then
      match (s.ctx x).sec.preimages.find p.tile with
      | some f => xorBytes new (Memory.read s.mem (capPhys f) tileBytes)
      | none => xorBytes new new
    else new
  gfScale (stripeCoeff p.role) d

/-- One tile's share of a PARITY run sent as KIND 3 on an open flow of the context, once an entry and a tile-transfer slot are free (R258, R327); COW is
cleared on a tile once it has been read (R387). -/
def State.sendStripe (s : State) (x generation : Nat) (p : StripeSend) : State :=
  let fl := s.flow p.flow
  if fl.ctx ≠ x ∨ (fl.state != FlowState.open_) then s
  else if !s.trkRoom x 1 true then s.updSec x (fun c => { c with stripes := c.stripes ++ [(generation, p)] })
  else
    let data := s.stripeBytes x p
    let s := s.flowUse p.flow
    let s := s.track { ctx := x, core := 0, ring := 0, slot := 0, flow := p.flow, psn := fl.nextPsn, kind := .parity generation, tileSlot := true }
    let s := s.sendMsg p.flow 0x20 ((piecesOf (s.payloadMax p.flow) data).map (fun q =>
      (collExt p.coll p.slot 0 3 0xFF (s.ctx x).job.layoutEpoch q.1 data.length, q.2)))
    s.updCtx x (fun c => c.setEntry p.tile { c.entry p.tile with cow := false })

/-- The blocks and stripes of a context that wait for tracker entries are sent as far as there are some (R258). -/
def State.sendDue (s : State) (x : Nat) : State :=
  let s := ((s.ctx x).insts.flatMap (fun e => e.2.due.map (fun d => (e.1, d)))).foldl (fun (s : State) (e : Nat × Nat × Nat × List Byte) =>
    let coll := e.1 / 2 ^ 32
    let inst := e.1 % 2 ^ 32
    match (s.ctx x).inst coll inst, (s.ctx x).colls.find coll with
    | some i, some r =>
      if s.trkRoom x 1 false then
        (s.updInst x coll inst (fun i => { i with due := i.due.drop 1 })).putBlock x coll inst r i e.2.1 e.2.2.1 e.2.2.2
      else s
    | _, _ => s) s
  let due := (s.ctx x).sec.stripes
  due.foldl (fun s e => s.sendStripe x e.1 e.2) (s.updSec x (fun c => { c with stripes := [] }))

/-- A context whose member is being refilled: its gaffers move tiles while it is fenced (R397). -/
def Ctx.refills (c : Ctx) : Bool := c.recov.state == RecState.refilling

/-- The generation whose image a PARITY run encodes or rebuilds: the open one, in a recovery the target, else the newest committed one (R329, R330). -/
def Ctx.parityOf (c : Ctx) : Option SecRec :=
  match c.sec.current with
  | some g => some g
  | none => if c.refills then c.recov.target else (c.sec.records.filter (fun r => r.state = 2)).getLast?

/-- A PARITY instance (R327): the gaffer sends the shares of its plan, those of T3 tiles first, and the full form after a change of layout (R387) and
where no generation is open: a rebuild (R329) or a new encode (R330). -/
def execParityInstance (ctx : Nat) (plan : List StripeSend) (s : State) : Host.Outcome State Fault Refusal :=
  let c := s.ctx ctx
  match c.parityOf with
  | none => .next s
  | some g =>
    let order := plan.filter (fun p => (c.entry p.tile).tier = 3) ++ plan.filter (fun p => (c.entry p.tile).tier != 3)
    let order := order.map (fun (p : StripeSend) => if c.sec.fullForm || c.sec.current.isNone then { p with delta := false } else p)
    if (c.fenced && !c.refills) || !g.erasure then .next s else .next (order.foldl (fun s p => s.sendStripe ctx g.generation p) s)

/-! ## Permute (R331) -/

/-- The key under which the tile of a permute gathers. -/
def permKey (t : Nat) : Nat := 2 ^ 70 + t

/-- One packet of a permuted tile; the last one installs its header and data in a frame that no tile of the old layout uses. The STATUS of
the message follows. -/
def State.takePermute (s : State) (x : Nat) (h : CollHdr) (data : List Byte) : State × Nat :=
  let i := ((s.ctx x).insts.find (permKey h.inst)).getD {}
  let all := (match i.blocks with | b :: _ => b.data | [] => []) ++ data
  if all.length < h.len then
    let b : CollBlock := { pos := h.pos, kind := 4, len := h.len, got := all.length, data := all }
    (s.updCtx x (fun c => { c with insts := c.insts.set (permKey h.inst) { blocks := [b] } }), 0)
  else
    let s := s.updCtx x (fun c => { c with insts := c.insts.del (permKey h.inst) })
    match s.newFrame x 2 0 with
    | none => (s, 1)
    | some f =>
      let e : TileEntry := { valid := true, tier := 2, frame := f, dirty := true }
      let s := s.memWrite (framePhys x h.inst 2 0 f) (all.drop 64)
      (s.updJob x (fun j => { j with reshard := { j.reshard with
        newFrames := j.reshard.newFrames ++ [(h.inst, e, TileHdr.unpack (leNat (all.take 64)))] } }), 0)

/-- The sends of a permute plan: each tile with its 64-byte header as KIND 4; a move to the module itself is a local copy (R331). In a recovery the
tiles are those of its target (R400). -/
def State.sendPermute (s : State) (x : Nat) (moves : List PermuteMove) : State :=
  moves.foldl (fun s m => (List.range m.tiles).foldl (fun s k =>
    let c := s.ctx x
    let t := m.srcTile + k
    let v := s.moveTile x t
    let data := leBytes 64 v.2.pack ++ v.1
    let h : CollHdr := { coll := 0, inst := m.dstTile + k, pos := 0, kind := 4, fmt := 0xFF, epoch := c.job.layoutEpoch, resv := 0, off := 0, len := data.length }
    if m.flow = 0 then
      (s.takePermute x h data).1.updJob x (fun j => { j with reshard := { j.reshard with sent := j.reshard.sent + 1, acked := j.reshard.acked + 1 } })
    else
      let s := s.flowUse m.flow
      let s := s.track { ctx := x, core := 0, ring := 0, slot := 0, flow := m.flow, psn := (s.flow m.flow).nextPsn, kind := .permute, tileSlot := true }
      let s := s.sendMsg m.flow 0x20 ((piecesOf (s.payloadMax m.flow) data).map (fun q =>
        (collExt 0 (m.dstTile + k) 0 4 0xFF c.job.layoutEpoch q.1 data.length, q.2)))
      s.updJob x (fun j => { j with reshard := { j.reshard with sent := j.reshard.sent + 1 } })) s) s

end Sys2Proof.Machine
end

