-- ==== Sys2Proof/Machine/Plan.lean ====
section
/-! DEFINITION. The planner as functions of the image, the module set and the measured links: rank tables (R345), the division of the model
(R351 to R353), slot orders and their check (R356 to R358), retention (R361), erasure groups (R380), the stagger (R511), and the plan
report (R372, R373, R454). -/

namespace Sys2Proof.Machine

/-! ## Ranks -/

/-- The degree of an axis: 0 TP, 1 PP, 2 DP, 3 EP. -/
def degreeOf (m : Manifest) (axis : Nat) : Nat :=
  if axis = 0 then m.t else if axis = 1 then m.p else if axis = 2 then m.d else m.e

/-- The number of ranks. -/
def rankCount (m : Manifest) : Nat := m.t * m.p * m.d * m.e

/-- The digits of a linear position in the mixed radix of the axes, the first varying fastest (R345). -/
def digitsOf (m : Manifest) : List Nat → Nat → List (Nat × Nat)
  | [], _ => []
  | a :: r, j => (a, j % degreeOf m a) :: digitsOf m r (j / degreeOf m a)

/-- The rank (tp, pp, dp, ep) at a linear position. -/
def rankAt (m : Manifest) (order : List Nat) (j : Nat) : List Nat :=
  (List.range 4).map (fun a => match (digitsOf m order j).find? (fun e => e.1 = a) with | some e => e.2 | none => 0)

/-- The linear position of a rank. -/
def posOf (m : Manifest) : List Nat → List Nat → Nat
  | [], _ => 0
  | a :: r, k => k.getD a 0 + degreeOf m a * posOf m r k

/-- A rank class contains a rank (R339). -/
def classHas (c : RankClass) (r : List Nat) : Bool :=
  (List.range 4).all (fun i => decide (c.lo.getD i 0 ≤ r.getD i 0 ∧ r.getD i 0 ≤ c.hi.getD i 0))

/-- The parts of a section that a rank takes. -/
def forRank {α : Type} (l : List (RankClass × List α)) (r : List Nat) : List α :=
  (l.filter (fun e => classHas e.1 r)).flatMap (fun e => e.2)

/-- The rank table order of a list of numbers. -/
def ascending (l : List Nat) : List Nat := l.mergeSort (fun a b => decide (a ≤ b))

/-! ## The division of the model -/

/-- The first layer of chunk c and its number of layers (R351). -/
def chunkOf (m : Manifest) (c : Nat) : Nat × Nat :=
  let n := m.p * m.v
  let base := m.layers / n
  let r := m.layers % n
  if c < r then (c * (base + 1), base + 1) else (r * (base + 1) + (c - r) * base, base)

/-- The layers that a pipeline rank holds, with its chunks c of c mod p = pp (R351). -/
def layersOf (m : Manifest) (pp : Nat) : List Nat :=
  ((List.range (m.p * m.v)).filter (fun c => c % m.p = pp)).flatMap (fun c => (List.range (chunkOf m c).2).map (fun i => (chunkOf m c).1 + i))

/-- The chunk that holds a layer. -/
def chunkOfLayer (m : Manifest) (l : Nat) : Nat :=
  ((List.range (m.p * m.v)).find? (fun c => decide ((chunkOf m c).1 ≤ l ∧ l < (chunkOf m c).1 + (chunkOf m c).2))).getD 0

/-- The share of one of n holders in k consecutive units (R352). -/
def shareOf (k n i : Nat) : Nat := if i < k % n then k / n + 1 else k / n

/-- The hidden elements of a TP rank: units of 128, the last one partial (R352). -/
def hiddenOf (m : Manifest) (tp : Nat) : Nat :=
  let u := ceilDiv m.hidden 128
  let first := ((List.range tp).map (fun i => shareOf u m.t i)).sum
  min (m.hidden - min m.hidden (first * 128)) (shareOf u m.t tp * 128)

/-- The experts of an EP rank: expert q on rank q mod e (R353). -/
def expertsOf (m : Manifest) (ep : Nat) : Nat := ((List.range m.experts).filter (fun q => q % m.e = ep)).length

/-- The capacity of an expert (R353). -/
def capacity (m : Manifest) : Nat := if m.experts = 0 then 0 else ceilDiv (m.capFactor * m.tokens * m.topK) (256 * m.experts)

/-! ### The dispatch of an expert layer (R354) -/

/-- A router score as a number that orders it: a NaN below every number, and the zeros equal. -/
def scoreKey (x : F32) : Int :=
  let b := x.toNat
  if 0x7F800000 < b % 2 ^ 31 then -(2 ^ 32) else if 2 ^ 31 ≤ b then -((b % 2 ^ 31 : Nat) : Int) else b

/-- An expert placed behind every one that ranks no lower. -/
def insertRank (key : Nat → Int) (e : Nat) : List Nat → List Nat
  | [] => [e]
  | b :: r => if key e ≤ key b then b :: insertRank key e r else e :: b :: r

/-- The experts in descending score; equal scores go to the lower index first. -/
def ranking (scores : List F32) : List Nat :=
  (List.range scores.length).foldl (fun l e => insertRank (fun q => scoreKey (scores.getD q 0)) e l) []

/-- What a token's choices take, in order: the TOP_K experts with room, then for each that is full the next-ranked of the further experts that has room
and that the token does not hold (DEDUCED, log 90); none for a choice that is dropped. `used` counts the tokens of each expert. -/
def dispatchToken (cap topK depth : Nat) (used : Map Nat) (rank : List Nat) : Map Nat × List (Option Nat) :=
  let room (u : Map Nat) (e : Nat) : Bool := decide (u.getOr e 0 < cap)
  let take (u : Map Nat) (e : Nat) : Map Nat := u.set e (u.getOr e 0 + 1)
  let first := (rank.take topK).foldl (fun (a : Map Nat × List (Option Nat)) e =>
    if room a.1 e then (take a.1 e, a.2 ++ [some e]) else (a.1, a.2 ++ [none])) (used, [])
  first.2.foldl (fun (a : Map Nat × List (Option Nat)) c =>
    match c with
    | some e => (a.1, a.2 ++ [some e])
    | none =>
      match ((rank.drop topK).take depth).find? (fun e => room a.1 e && !a.2.contains (some e)) with
      | some e => (take a.1 e, a.2 ++ [some e])
      | none => (a.1, a.2 ++ [none])) (first.1, [])

/-- The assignment of a micro-batch's tokens to the experts of a layer, in ascending token index, from each token's scores. -/
def dispatch (m : Manifest) (scores : List (List F32)) : List (List (Option Nat)) :=
  (scores.foldl (fun (a : Map Nat × List (List (Option Nat))) sc =>
    let r := dispatchToken (capacity m) m.topK m.overflowDepth a.1 (ranking sc)
    (r.1, a.2 ++ [r.2])) ([], [])).2

/-- The dropped choices of an assignment (R354 step 3). -/
def dropCount (a : List (List (Option Nat))) : Nat := (a.map (fun t => (t.filter (fun c => c.isNone)).length)).sum

/-- The imbalance of a division in per-mille (R355). -/
def imbalance (shares : List Nat) : Nat :=
  if shares.sum = 0 then 1000 else 1000 * shares.foldl max 0 * shares.length / shares.sum

/-- A layer's entry in the LAYER_MAP (R350). -/
def layerEntry (im : JobImage) (l : Nat) : LayerEntry :=
  (im.layerMap.find? (fun e => e.layer = l)).getD { layer := l, kind := 3, paramBytes := 0, actBytes := 0, gradColl := 0xFFFFFFFF }

/-- The bytes that a rank of pipeline rank pp sends per step on an axis (R344). -/
def axisBytes (im : JobImage) (pp axis : Nat) : Rat :=
  let m := im.man
  let ls := (layersOf m pp).map (fun l => layerEntry im l)
  let act (p : LayerEntry → Bool) : Nat := ((ls.filter p).map (fun e => e.actBytes)).sum
  let deg : Rat := degreeOf m axis
  if degreeOf m axis ≤ 1 then 0
  else if axis = 0 then 4 * (deg - 1) / deg * m.nMb * act (fun e => decide (e.kind ≤ 2))
  else if axis = 3 then 4 * (deg - 1) / deg * m.nMb * act (fun e => e.kind = 2)
  else if axis = 1 then
    let last := ((List.range (m.p * m.v)).filter (fun c => c % m.p = pp && (chunkOf m c).2 != 0)).map (fun c => (chunkOf m c).1 + (chunkOf m c).2 - 1)
    2 * m.nMb * ((last.map (fun l => (layerEntry im l).actBytes)).sum : Nat)
  else
    let params : Nat := (ls.map (fun e => e.paramBytes)).sum
    let b : Rat := 2 * (deg - 1) / deg * params / (m.t * m.e)
    if bit m.opts 0 then b * 3 / 2 else b

/-- The axes by estimated bytes, most first; ties in the order TP, EP, PP, DP (R345). The estimate is that of rank (0, 0, 0, 0) (log 21). -/
def axisOrderOf (im : JobImage) : List Nat :=
  [0, 3, 1, 2].mergeSort (fun a b => decide (axisBytes im 0 b ≤ axisBytes im 0 a))

/-! ## Placement -/

/-- The devices that direct links join to some of a list, with the list (R345). -/
def directNext (links : List LinkMeasure) (ds : List Nat) : List Nat :=
  (ds ++ links.flatMap (fun l =>
    if l.cls != 0 then [] else if ds.contains l.devA then [l.devB] else if ds.contains l.devB then [l.devA] else [])).eraseDups

/-- The devices reached by direct links in n rounds. -/
def directReach (links : List LinkMeasure) : Nat → List Nat → List Nat
  | 0, ds => ds
  | n + 1, ds => directReach links n (directNext links ds)

/-- The smallest of a list. -/
def least (l : List Nat) (d : Nat) : Nat := l.foldl min d

/-- The board of a device within its container, named by its lowest device (R345). -/
def boardOf (set : List (Nat × Nat)) (links : List LinkMeasure) (dev : Nat) : Nat :=
  let label := match set.find? (fun d => d.1 = dev) with | some d => d.2 | none => 0
  let here := (set.filter (fun d => d.2 = label)).map (fun d => d.1)
  let inside := links.filter (fun l => here.contains l.devA && here.contains l.devB)
  least (directReach inside here.length [dev]) dev

/-- The module set in the order of R345: containers by lowest device, boards by lowest device, then devices. -/
def orderedSet (set : List (Nat × Nat)) (links : List LinkMeasure) : List Nat :=
  let first (d : Nat × Nat) : Nat := least ((set.filter (fun e => e.2 = d.2)).map (fun e => e.1)) d.1
  let key (d : Nat × Nat) : Nat := (first d * 65536 + boardOf set links d.1) * 65536 + d.1
  (set.mergeSort (fun a b => decide (key a ≤ key b))).map (fun d => d.1)

/-- The class between two devices: direct, container or hall (R343). -/
def linkClass (set : List (Nat × Nat)) (links : List LinkMeasure) (a b : Nat) : Nat :=
  if links.any (fun l => l.cls = 0 && ((l.devA = a && l.devB = b) || (l.devA = b && l.devB = a))) then 0
  else
    match set.find? (fun d => d.1 = a), set.find? (fun d => d.1 = b) with
    | some p, some q => if p.2 = q.2 then 1 else 2
    | _, _ => 2

/-- The groups of an axis: the linear positions whose ranks differ only in that axis. -/
def axisGroups (m : Manifest) (order : List Nat) (axis : Nat) : List (List Nat) :=
  let base := (List.range (rankCount m)).filter (fun j => (rankAt m order j).getD axis 0 = 0)
  base.map (fun j => (List.range (degreeOf m axis)).map (fun i => posOf m order ((rankAt m order j).set axis i)))

/-! ## The slot order -/

/-- A slot: forward or backward, micro-batch, chunk. -/
abbrev Slot := Bool × Nat × Nat

/-- The units of a pipeline rank in the order of R356, as micro-batch and virtual stage; `back` counts the stages down. -/
def unitsOf (m : Manifest) (back : Bool) : List (Nat × Nat) :=
  let n := m.nMb
  (List.range (ceilDiv n m.p)).flatMap (fun g =>
    (List.range m.v).flatMap (fun i =>
      (List.range (min m.p (n - g * m.p))).map (fun b => (g * m.p + b, if back then m.v - 1 - i else i))))

/-- The slot order of pipeline rank r with warm-up count w (R357). -/
def slotOrder (m : Manifest) (r w : Nat) : List Slot :=
  let f : List Slot := (unitsOf m false).map (fun u => (true, u.1, u.2 * m.p + r))
  let b : List Slot := (unitsOf m true).map (fun u => (false, u.1, u.2 * m.p + r))
  let steady := ((f.drop w).zip b).flatMap (fun p => [p.1, p.2])
  f.take w ++ steady ++ b.drop (b.length - min w b.length)

/-- The warm-up count of R357. -/
def warmOf (m : Manifest) (r : Nat) : Nat :=
  if m.v = 1 then min m.nMb (m.p - 1 - r) else min (m.nMb * m.v) ((m.v - 1) * m.p + 2 * (m.p - 1 - r))

/-- The slots that must precede a slot besides those of its own rank (R358). -/
def slotNeeds (m : Manifest) (x : Slot) : List Slot :=
  let c := x.2.2
  if x.1 then (if c = 0 then [] else [(true, x.2.1, c - 1)])
  else (true, x.2.1, c) :: (if c + 1 < m.p * m.v then [(false, x.2.1, c + 1)] else [])

/-- One pass over the ranks: every rank runs the slots at its head whose needs are met. -/
def runHeads (m : Manifest) (done : List Slot) : List Slot → List Slot × List Slot
  | [] => (done, [])
  | x :: r => if (slotNeeds m x).all (fun y => done.contains y) then runHeads m (x :: done) r else (done, x :: r)

def runPass (m : Manifest) (st : List Slot × List (List Slot)) : List Slot × List (List Slot) :=
  st.2.foldl (fun a q => let r := runHeads m a.1 q; (r.1, a.2 ++ [r.2])) (st.1, [])

/-- The slot orders have no cycle: every slot runs in some pass (R358). -/
def runsOut (m : Manifest) : Nat → List Slot × List (List Slot) → Bool
  | 0, st => st.2.all (fun q => q.isEmpty)
  | n + 1, st => if st.2.all (fun q => q.isEmpty) then true else runsOut m n (runPass m st)

def noCycle (m : Manifest) (ws : List Nat) : Bool :=
  let qs := (List.range m.p).map (fun r => slotOrder m r (ws.getD r 0))
  runsOut m (2 * m.nMb * m.v * m.p) ([], qs)

/-- The first warm-up counts, raised together by 1, that give no cycle (R358). -/
def raiseWarm (m : Manifest) : Nat → List Nat → List Nat
  | 0, ws => ws
  | n + 1, ws => if noCycle m ws then ws else raiseWarm m n (ws.map (fun w => min (m.nMb * m.v) (w + 1)))

def warmCounts (m : Manifest) : List Nat := raiseWarm m (m.nMb * m.v) ((List.range m.p).map (fun r => warmOf m r))

/-- The bubble fraction in per-mille, rounded to the nearest as in R360's figures, where R360 states it; else the simulated one. -/
def bubblePm (m : Manifest) (simulated : Nat) (uniform : Bool) : Nat :=
  if m.nMb % m.p = 0 ∧ uniform then (2 * (1000 * (m.p - 1)) + (m.v * m.nMb + m.p - 1)) / (2 * (m.v * m.nMb + m.p - 1)) else simulated

/-! ## Retention and securing -/

/-- The slots between a chunk's last forward and its first backward on its rank (R361). -/
def slotGap (m : Manifest) (ws : List Nat) (c : Nat) : Nat :=
  let o := slotOrder m (c % m.p) (ws.getD (c % m.p) 0)
  let idx := (List.range o.length).zip o
  let lastF := (idx.filter (fun (e : Nat × Slot) => e.2.1 && e.2.2.2 = c)).foldl (fun a e => max a e.1) 0
  let firstB := match idx.find? (fun (e : Nat × Slot) => !e.2.1 && e.2.2.2 = c) with | some e => e.1 | none => 0
  firstB - lastF

/-- RETAIN (true) or REGATHER of the layers of a pipeline rank, in layer order (R361). -/
def retainOf (im : JobImage) (pp : Nat) (ws : List Nat) : List (Nat × Bool) :=
  let m := im.man
  if !bit m.opts 0 then []
  else
    let key (l : Nat) : Nat × Nat := (slotGap m ws (chunkOfLayer m l), l)
    let order := (layersOf m pp).mergeSort (fun a b =>
      decide ((key a).1 < (key b).1) || (decide ((key a).1 = (key b).1) && decide ((key b).2 ≤ (key a).2)))
    let kept := (order.foldl (fun (st : List Nat × Nat × Bool) l =>
      let g := (layerEntry im l).paramBytes / (m.t * m.e)
      if st.2.2 && decide (st.2.1 + g ≤ m.retainBudget) then (l :: st.1, st.2.1 + g, true) else (st.1, st.2.1, false)) ([], 0, true)).1
    (layersOf m pp).map (fun l => (l, kept.contains l))

/-- The number of erasure groups (R380). -/
def groupCount (n k : Nat) : Nat :=
  let rec lower : Nat → Nat → Nat
    | 0, g => g
    | f + 1, g => if 2 < g ∧ n / g < 4 then lower f (g - 1) else g
  let g := max 2 (ceilDiv n k)
  lower g g

/-- The members of each erasure group, and the positions of its parity hosts (R380). -/
def erasureGroups (n k : Nat) : List (List Nat × List Nat) :=
  let g := groupCount n k
  let members (i : Nat) : List Nat := (List.range n).filter (fun j => j % g = i)
  (List.range g).map (fun i =>
    let hosts := members ((i + 1) % g)
    (members i, hosts.take (min (members i).length hosts.length)))

/-- The securing mode with AUTO resolved (R379): 1 erasure, 2 snapshot, 3 both. -/
def secMode (im : JobImage) : Nat :=
  if im.securing.mode = 0 then (if 8 ≤ rankCount im.man ∧ rankCount im.man ≤ 1024 then 3 else 2) else im.securing.mode

/-- A field of the SECURING section with its default (R378). -/
def dflt (v d : Nat) : Nat := if v = 0 then d else v

/-- The position that mirrors position j (R381). -/
def mirrorOf (n j : Nat) : Nat := (j + n / 2) % n

/-- The stagger of the module at linear position j, in nanoseconds: 68,040 cycles are 64,800 ns (R511). -/
def staggerNs (slots j : Nat) : Nat := (slots - 1 - j % slots) * 64800

/-- The event table of the module at linear position j: every RAMP has the offset that the planner sets, 52,920 cycles being 50,400 ns (R369). -/
def eventTable (im : JobImage) (j : Nat) : List EvtEntry :=
  im.events.map (fun (e : EvtEntry) =>
    if e.type = 1 then { e with startOff := -((50400 + staggerNs im.stagger j : Nat) : Int) } else e)

/-! ## Collective records of a rank -/

/-- The collective records that a rank takes: those of its class whose member list names it (R339, R346). -/
def collsFor (im : JobImage) (r : List Nat) : List CollImage := (forRank im.colls r).filter (fun (c : CollImage) => c.members.contains r)

/-- A record bound for the module at rank r: members by device, its own with flow 0, the flows of others not yet known (R309, R346). -/
def bindColl (m : Manifest) (order devices : List Nat) (r : List Nat) (c : CollImage) : Nat × CollRec :=
  let d := c.raw
  (fld d 0 4,
    { type := fld d 4 1, op := fld d 5 1, inFmt := fld d 6 1, outFmt := fld d 7 1, queue := fld d 8 1, saturate := bit (fld d 9 1) 0
      p := fld d 10 2, myPos := c.members.idxOf r, window := fld d 14 2, core := fld d 20 1, event := fld d 21 1, epoch := fld d 22 2
      stage := fld d 24 4, maxLen := fld d 28 4, flagAddr := fld d 32 4
      members := c.members.map (fun k => (devices.getD (posOf m order k) 0xFFFF, 0)) })

/-- The bytes of a record that all its members must agree on (R311). -/
def collAgree (c : Nat × CollRec) : List Byte :=
  leBytes 4 c.1 ++ leBytes 1 c.2.type ++ leBytes 1 c.2.op ++ leBytes 1 c.2.inFmt ++ leBytes 1 c.2.outFmt ++ leBytes 2 c.2.p
    ++ leBytes 2 c.2.window ++ leBytes 2 c.2.epoch ++ (c.2.members.map (fun (d : Nat × Nat) => leBytes 2 d.1)).flatten

/-- The digest of a rank's collective records that its module returns (R346). -/
def collDigest (im : JobImage) (order devices : List Nat) (r : List Nat) : List Byte :=
  sm3 ((collsFor im r).flatMap (fun c => collAgree (bindColl im.man order devices r c)))

/-- The WINDOW entries of a collective that the module at a linear position holds: offsets, rate and NEXT (R368, R370). -/
def windowsAt (im : JobImage) (pos coll : Nat) : List (Int × Int × Nat × Nat) :=
  (im.events.filter (fun e => e.type = 2 && e.collId = coll && (e.rankSel = 0xFFFF || e.rankSel = pos))).map (fun e => (e.startOff, e.endOff, e.rate, e.next))

/-- Every module taking part in a collective holds the same WINDOW entries for it (R370). -/
def windowsAgree (im : JobImage) (order : List Nat) : Bool :=
  im.colls.all (fun c => c.2.all (fun (k : CollImage) =>
    match k.members with
    | [] => true
    | r :: l =>
      let id := fld k.raw 0 4
      l.all (fun q => windowsAt im (posOf im.man order q) id == windowsAt im (posOf im.man order r) id)))

/-! ## Warnings and the plan report -/

/-- The groups of the n-th axis that span more than one place, a warning each (R373). -/
def spanWarn (m : Manifest) (order devices : List Nat) (n code : Nat) (place : Nat → Nat) : List (Nat × Nat) :=
  match order[n]? with
  | none => []
  | some a => (axisGroups m order a).filterMap (fun g =>
      if ((g.map (fun j => place (devices.getD j 0xFFFF))).eraseDups).length ≤ 1 then none else some (code, g.headD 0))

/-- The links measured between members of a group. -/
def groupLinks (devices : List Nat) (links : List LinkMeasure) (g : List Nat) : List LinkMeasure :=
  let ds := g.map (fun j => devices.getD j 0xFFFF)
  links.filter (fun l => ds.contains l.devA && ds.contains l.devB)

/-- The class of a group: the widest class between two of its members (R343). -/
def groupClass (set : List (Nat × Nat)) (links : List LinkMeasure) (devices : List Nat) (g : List Nat) : Nat :=
  let ds := g.map (fun j => devices.getD j 0xFFFF)
  (ds.flatMap (fun a => (ds.filter (fun b => b != a)).map (fun b => linkClass set links a b))).foldl max 0

/-- The warnings of a plan, each with the rank or layer it concerns (R373). -/
def planWarnings (im : JobImage) (set : List (Nat × Nat)) (links : List LinkMeasure) (order devices ws : List Nat) (stepNs : Nat) : List (Nat × Nat) :=
  let m := im.man
  let label (d : Nat) : Nat := match set.find? (fun e => e.1 = d) with | some e => e.2 | none => 0
  spanWarn m order devices 0 1 (fun d => boardOf set links d)
    ++ spanWarn m order devices 1 2 label ++ spanWarn m order devices 2 2 label
    ++ ((List.range m.p).filter (fun r => ws.getD r 0 != warmOf m r)).map (fun r => (3, r))
    ++ (match ((List.range m.p).flatMap (fun p => retainOf im p ws)).find? (fun e => !e.2) with | some e => [(4, e.1)] | none => [])
    ++ (if m.periodNs < stepNs then [(5, 0)] else [])
    ++ (if m.overflowDepth = 0 then (im.layerMap.filter (fun e => e.kind = 2)).map (fun e => (6, e.layer)) else [])
    ++ order.flatMap (fun a => (axisGroups m order a).flatMap (fun g =>
        let ls := groupLinks devices links g
        if groupClass set links devices g != 0 then []
        else if ls.any (fun l => !(ls.filter (fun k => k != l)).isEmpty && (ls.filter (fun k => k != l)).all (fun k => decide (2 * l.gbps < k.gbps))) then
          [(7, g.headD 0)] else []))

/-- One record of the plan report (R454): TYPE, a reserved field, LENGTH, contents. -/
def planRecord (type : Nat) (b : List Byte) : List Byte := leBytes 2 type ++ zeros 2 ++ leBytes 4 b.length ++ b

/-- A number, and a list with its count (R454). -/
def rNum (n : Nat) : List Byte := leBytes 8 n
def rList {α : Type} (f : α → List Byte) (l : List α) : List Byte := leBytes 4 l.length ++ l.flatMap f

/-- An entry of the refusal report (R192): cause, core, slot, required, available, unit. -/
abbrev Shortfall := Nat × Nat × Nat × Nat × Nat × Nat

/-- Its 32 bytes. -/
def refusalEntry (e : Shortfall) : List Byte :=
  leBytes 1 e.1 ++ zeros 1 ++ leBytes 2 e.2.1 ++ leBytes 4 e.2.2.1 ++ leBytes 8 e.2.2.2.1 ++ leBytes 8 e.2.2.2.2.1 ++ leBytes 2 e.2.2.2.2.2 ++ zeros 6

/-- The refusal report: at most 4,096 entries, then the number omitted (R192). -/
def refusalReport (es : List Shortfall) : List Byte :=
  (es.take 4096).flatMap refusalEntry ++ leBytes 4 (es.length - min es.length 4096)

/-- The refusals of a plan by device: the coordinator's own, then those that its members replied (R192, R372). -/
def planRefusals (j : Plan) (replies : List MemberReply) : List (Nat × List Shortfall) :=
  let own := j.devices.getD j.position 0xFFFF
  (if j.refusals.isEmpty then [] else [(own, j.refusals)])
    ++ ((replies.filter (fun e => !e.refusals.isEmpty && !(e.device = own && !j.refusals.isEmpty))).map (fun e => (e.device, e.refusals.map (fun (r : List Nat) =>
      (r.getD 0 0, r.getD 1 0, r.getD 2 0, r.getD 3 0, r.getD 4 0, r.getD 5 0)))))

/-- The plan report (R372, R454): nine records. A standby position has ranks of all ones (log 21). -/
def planReport (im : JobImage) (j : Plan) (replies : List MemberReply) : List Byte :=
  let m := im.man
  let n := rankCount m
  let nums (l : List Nat) : List Byte := rList rNum l
  let label (d : Nat) : Nat := match j.set.find? (fun e => e.1 = d) with | some e => e.2 | none => 0
  let retained := (j.retain.filter (fun (e : Nat × Bool) => e.2)).map (fun e => (layerEntry im e.1).paramBytes / (m.t * m.e))
  planRecord 1 (rNum m.jobId ++ rNum j.status ++ rNum j.set.length ++ rNum n ++ rNum (j.set.length - n) ++ nums j.axisOrder ++ rNum j.gridStart)
  ++ planRecord 2 (rList (fun (e : Nat × Nat) => leBytes 2 e.2 ++ leBytes 2 (label e.2) ++ rNum (boardOf j.set j.links e.2)
      ++ (if e.1 < n then (rankAt m j.axisOrder e.1).flatMap rNum else List.replicate 32 0xFF#8)) ((List.range j.devices.length).zip j.devices))
  ++ planRecord 3 ([0, 1, 2, 3].flatMap (fun a =>
      let gs := axisGroups m j.axisOrder a
      let ls := gs.flatMap (fun g => groupLinks j.devices j.links g)
      nums (gs.map (fun g => groupClass j.set j.links j.devices g))
        ++ rNum (least (ls.map (fun l => l.latencyNs)) ((ls.map (fun l => l.latencyNs)).headD 0)) ++ rNum ((ls.map (fun l => l.latencyNs)).foldl max 0)
        ++ rNum (least (ls.map (fun l => l.gbps)) ((ls.map (fun l => l.gbps)).headD 0)) ++ rNum (axisBytes im 0 a).floor.toNat))
  ++ planRecord 4 (nums ((List.range (m.p * m.v)).map (fun c => (chunkOf m c).2)) ++ nums ((List.range m.t).map (fun i => shareOf m.heads m.t i))
      ++ nums ((List.range m.t).map (fun i => hiddenOf m i)) ++ nums ((List.range m.e).map (fun i => expertsOf m i)) ++ rNum (capacity m)
      ++ nums [imbalance ((List.range m.p).map (fun r => (layersOf m r).length)), imbalance ((List.range m.t).map (fun i => shareOf m.heads m.t i)),
          imbalance ((List.range m.t).map (fun i => hiddenOf m i)), imbalance ((List.range m.e).map (fun i => expertsOf m i))])
  ++ planRecord 5 (nums j.warm ++ rNum j.bubblePm ++ rNum j.stepNs ++ rNum m.periodNs)
  ++ planRecord 6 (rList (fun (e : Nat × Bool) => rNum (if e.2 then 1 else 0)) j.retain ++ rNum retained.sum ++ rNum m.retainBudget)
  ++ planRecord 7 (rList (fun (e : MemberReply) => leBytes 2 e.device ++ e.memory.flatMap rNum) replies
      ++ rList (fun (e : List Nat × List Nat) => nums e.1 ++ nums e.2)
          (if secMode im = 2 then [] else erasureGroups n (dflt im.securing.k 8))
      ++ nums (if secMode im = 1 ∨ n ≤ 1 then [] else (List.range n).map (fun i => mirrorOf n i)))
  ++ planRecord 8 (rList (fun (e : Nat × List Shortfall) => leBytes 2 e.1 ++ rList refusalEntry e.2) (planRefusals j replies))
  ++ planRecord 9 (rList (fun (e : Nat × Nat) => rNum e.1 ++ rNum e.2) j.warnings)

end Sys2Proof.Machine
end

