-- ==== Sys2Proof/Machine/Ptp.lean ====
section
/-! DEFINITION. The PTP clock's masters (R299): the best master clock algorithm of IEEE 1588-2019, the state that it gives each port, and the messages of
a port. -/

namespace Sys2Proof.Machine

/-! ## Best master (R299) -/

/-- The clock's own identity. -/
def ownClock : Nat := Config.clockIdentity

/-- The lists are compared element by element; the lower comes first. -/
def lexLt : List Nat → List Nat → Bool
  | a :: l, b :: m => if a = b then lexLt l m else decide (a < b)
  | _, _ => false

/-- What decides between two grandmasters, first to last. -/
def ptpRank (d : PtpData) : List Nat := [d.priority1, d.cls, d.accuracy, d.variance, d.priority2, d.grandmaster]

/-- The clock's own data set: its accuracy and variance, which the manual does not give, are the standard's for unknown (PRESUMED, log 69). -/
def Clock.ownRank (c : Clock) : List Nat := [c.priority1, c.clockClass, 0xFE, 0xFFFF, c.priority2, ownClock]

/-- How one data set stands to another: better or worse, by itself or by topology alone. -/
inductive PtpOrder where
  | better
  | betterByTopology
  | same
  | worseByTopology
  | worse
  deriving DecidableEq, Repr

/-- The data set comparison of two announcements, with the ports that received them. -/
def ptpOrder (pa : Nat) (a : PtpForeign) (pb : Nat) (b : PtpForeign) : PtpOrder :=
  let na := a.data.steps
  let nb := b.data.steps
  if a.data.grandmaster ≠ b.data.grandmaster then (if lexLt (ptpRank a.data) (ptpRank b.data) then .better else .worse)
  else if nb + 1 < na then .worse
  else if na + 1 < nb then .better
  else if nb < na then (if ownClock < a.clock then .worse else if a.clock < ownClock then .worseByTopology else .same)
  else if na < nb then (if ownClock < b.clock then .better else if b.clock < ownClock then .betterByTopology else .same)
  else if a.clock ≠ b.clock then (if a.clock < b.clock then .betterByTopology else .worseByTopology)
  else if pa < pb then .betterByTopology
  else if pb < pa then .worseByTopology
  else .same

/-- The best of announcements, each with the port that received it. -/
def bestMaster (l : List (Nat × PtpForeign)) : Option (Nat × PtpForeign) :=
  l.foldl (fun m e => match m with
    | none => some e
    | some b => match ptpOrder e.1 e.2 b.1 b.2 with | .better | .betterByTopology => some e | _ => some b) none

/-- An announced master counts for three Announce intervals of 2 s (PRESUMED, log 69). -/
def announceNs : Nat := 6000000000

/-- The best master that a port hears; a port whose configured ROLE is 2 takes none (DESIGN CHOICE, log 69). -/
def Clock.portBest (c : Clock) (p : Nat) : Option (Nat × PtpForeign) :=
  if c.roles.getD p 0 = 2 then none
  else bestMaster (((c.ptp.getOr p {}).foreign.filter (fun f => decide (c.tai.ns < f.heardNs + announceNs))).map (fun f => (p, f)))

/-- The best master of the clock. -/
def Clock.best (c : Clock) : Option (Nat × PtpForeign) := bestMaster ((List.range 8).filterMap c.portBest)

/-- The clock's own data set stands above an announced one. -/
def Clock.ownBeats (c : Clock) (f : PtpForeign) : Bool := f.data.grandmaster == ownClock || !lexLt (ptpRank f.data) c.ownRank

/-- The state of a port. -/
inductive PtpRole where
  | master
  | slave
  | passive
  deriving DecidableEq, Repr

/-- The state decision for a port; a port whose configured ROLE is 1 is never a master (DESIGN CHOICE, log 69). -/
def Clock.ptpRole (c : Clock) (p : Nat) : PtpRole :=
  let asMaster : PtpRole := if c.roles.getD p 0 = 1 then .passive else .master
  match c.best, c.portBest p with
  | none, _ => asMaster
  | some b, r =>
    if 1 ≤ c.clockClass ∧ c.clockClass ≤ 127 then
      match r with
      | none => asMaster
      | some f => if c.ownBeats f.2 then asMaster else .passive
    else if c.ownBeats b.2 then asMaster
    else
      match r with
      | none => asMaster
      | some f => if f = b then .slave else if ptpOrder b.1 b.2 f.1 f.2 = .betterByTopology then .passive else asMaster

/-- A message comes from the master that a port follows. -/
def Clock.follows (c : Clock) (p : Nat) (m : PtpMsg) : Bool :=
  c.ptpRole p == .slave && (match c.portBest p with | some f => f.2.clock == m.clock && f.2.port == m.port | none => false)

/-! ## The messages of a port -/

def State.updPtp (s : State) (p : Nat) (f : PtpPort → PtpPort) : State := { s with clk := { s.clk with ptp := s.clk.ptp.upd p {} f } }

/-- An Announce message is heard; one of this clock, or of more than 254 steps, does not count. -/
def State.hearMaster (s : State) (p : Nat) (m : PtpMsg) (d : PtpData) : State :=
  if m.clock = ownClock ∨ 255 ≤ d.steps then s
  else s.updPtp p (fun q => { q with
    foreign := q.foreign.filter (fun f => f.clock != m.clock || f.port != m.port) ++ [{ clock := m.clock, port := m.port, data := d, heardNs := s.clk.tai.ns }] })

/-- A PTP message enters queue 7 of a MAC (R299; lengths and headers: log 20). -/
def State.sendPtp (s : State) (m : Nat) (k : PtpOut) (ns : Int) : State :=
  s.enqueue m 7 { body := .ptp k ns, len := 64, wrap := { plainWrap m 0x011B19000000 0x88F7 with tag := some (7, 0) } }

/-- The message that a port's timer sends: a master's Sync, a slave's Delay_Req; with the peer-to-peer mechanism (DELAY_MECH 2, log 69) a Pdelay_Req from
any port that is no master. -/
def Clock.timerMsg (c : Clock) (p : Nat) : Option PtpOut :=
  match c.ptpRole p with
  | .master => some .sync
  | .slave => some (if c.delayMech = 2 then .pdelayReq else .delayReq)
  | .passive => if c.delayMech = 2 then some .pdelayReq else none

/-- The interval of a port's timer in nanoseconds: 2 to the configured power of a second (R299). -/
def Clock.timerNs (c : Clock) (p : Nat) : Nat := 1000000000 / 2 ^ (-(if c.ptpRole p = .master then c.logSync else c.logDelay)).toNat

/-- A response is for a request of this port. -/
def forPort (p clock port : Nat) : Bool := clock == ownClock && port == p + 1

end Sys2Proof.Machine
end

