-- ==== Sys2Proof/Machine/Receive.lean ====
section
/-! DEFINITION. The receiving side of the fabric unit: the binding and classification of packets (R242, R249, R260), execution in PSN order
with the hold buffer (R256, R261), requests at their target and responses at their requester (R252 to R257), acknowledgements and
retransmission (R262 to R264), the failure of a flow (R265, R324) and congestion control (R268 to R270). -/

namespace Sys2Proof.Machine

/-- The difference of two PSNs modulo 2³² (R259, R260). -/
def psnSub (a b : Nat) : Nat := (a + 4294967296 - b % 4294967296) % 4294967296

/-- The PSN after one. -/
def psnNext (a : Nat) : Nat := (a + 1) % 4294967296

/-! ## The hold buffer (R261, R479) -/

/-- The bytes of the hold buffer that a context may use: 160 KiB for each core of a sealed context; the shared pool has the remainder. -/
def State.holdCap (s : State) (x : Nat) : Nat :=
  if (s.ctx x).sealed_ then (s.ctx x).coreCount * 163840
  else 2097152 - (s.ctxs.filter (fun e => e.2.sealed_)).foldl (fun a e => a + e.2.coreCount * 163840) 0

/-- The bytes held in the part that a context uses. -/
def State.holdUsed (s : State) (x : Nat) : Nat :=
  (s.flows.filter (fun e => if (s.ctx x).sealed_ then e.2.ctx == x else !(s.ctx e.2.ctx).sealed_)).foldl
    (fun a e => e.2.held.foldl (fun a h => a + h.p.payload.length) a) 0

/-! ## Responses at the requester -/

/-- The tracker entry of a request sent on a flow. -/
def State.findTrk (s : State) (f psn : Nat) : Option (Nat × Trk) := s.trk.find? (fun e => f != 0 && e.2.flow = f && e.2.psn = psn)

/-- The response that has completed an operation of a flow, by its PSN (R278). -/
def State.noteDone (s : State) (f psn : Nat) : State := s.updFlow f (fun fl => { fl with lastDone := some psn })

/-- A response takes its request out of the tracker (R254): put, atomic with its old value at LOCAL, or an answered block. -/
def State.takeResponse (s : State) (f op : Nat) (p : Pkt) : State :=
  match s.findTrk f (be p.ext 0 4) with
  | none => s
  | some (k, t) =>
    let st := be p.ext 4 1
    let peer := (s.flow f).peer
    match t.kind with
    | .put =>
      if op ≠ 0x81 then s else { s with trk := s.trk.del k }.endRemote t.core t.ring t.slot t.ctx st f t.psn peer
    | .atomic =>
      if op ≠ 0x88 then s
      else
        let s := { s with trk := s.trk.del k }
        let s := if st = 0 ∧ t.local_ ≠ tsNone then s.tsWrite t.core t.local_ (padTo 8 p.payload).reverse else s
        s.endRemote t.core t.ring t.slot t.ctx st f t.psn peer
    | .coll c i =>
      if op ≠ 0xA0 then s
      else
        let s := { s with trk := s.trk.del k }
        if st ≠ 0 then (s.logRemote t.ctx st f t.psn peer).failInst t.ctx c i
        else if ((s.ctx t.ctx).inst c i).isNone then s
        else (s.updInst t.ctx c i (fun i => { i with unanswered := i.unanswered - 1 })).checkInst t.ctx c i
    | .parity _ =>
      if op ≠ 0xA0 then s
      else
        let s := { s with trk := s.trk.del k }
        if st = 0 then s else s.logRemote t.ctx st f t.psn peer
    | .permute =>
      if op ≠ 0xA0 then s
      else
        let s := { s with trk := s.trk.del k }
        if st ≠ 0 then s.logRemote t.ctx st f t.psn peer
        else s.updJob t.ctx (fun j => { j with reshard := { j.reshard with acked := j.reshard.acked + 1 } })
    | .get => s
    | .t3write => s

/-- A response ends its request (R254), and what waits for a tracker entry is sent (R258). -/
def State.endRequest (s : State) (f op : Nat) (p : Pkt) : State := ((s.takeResponse f op p).noteDone f p.psn).sendDue (s.flow f).ctx

/-- One READ_DATA packet is placed at LOCAL (R261); a nonzero STATUS ends the get with REMOTE. -/
def State.takeData (s : State) (f : Nat) (p : Pkt) : State :=
  match s.findTrk f (be p.ext 0 4) with
  | none => s
  | some (k, t) =>
    let st := be p.ext 4 1
    if t.kind ≠ .get then s
    else if st ≠ 0 then { s with trk := s.trk.del k }.endRemote t.core t.ring t.slot t.ctx st f t.psn (s.flow f).peer
    else
      let s := s.tsWrite t.core (t.local_ + be p.ext 8 4) p.payload
      let got := t.got + p.payload.length
      if got < t.length then { s with trk := s.trk.set k { t with got := got } }
      else (({ s with trk := s.trk.del k }.complete t.core t.ring t.slot 0 0).noteDone f p.psn).sendDue t.ctx

/-! ## Packets in PSN order -/

/-- A packet leaves the hold list and the next one follows. -/
def State.stepExec (s : State) (f psn : Nat) : State :=
  s.updFlow f (fun fl => { fl with held := fl.held.filter (fun h => h.psn != psn), exec := psnNext fl.exec })

/-- A packet of a message in progress leaves the hold list. -/
def State.stepMsg (s : State) (f psn : Nat) (m : RxMsg) : State :=
  s.updFlow f (fun fl => { fl with held := fl.held.filter (fun h => h.psn != psn), msgs := [m] })

/-- The status that a drain gives a request which reaches it (R251): 2 after a fence, 7 after a close, 0 while the flow is open. -/
def Flow.drainStatus (f : Flow) : Nat := if f.state == FlowState.draining then (if f.drainFence then 2 else 7) else 0

/-- A held packet belongs to the message in progress. COLLECTIVE packets are taken in order. -/
def belongs (m : RxMsg) (h : HeldPkt) : Bool :=
  h.op = m.op &&
    (if h.op = 0x20 then h.psn == (m.psn + m.got) % 4294967296
     else if h.op = 0x82 then be h.p.ext 0 4 == m.addr && decide (psnSub h.psn m.psn < 1073741824)
     else be h.p.ext 12 4 == m.psn)

/-- The tiles of the context that a packet's data would be written to while they stall writes (R204). -/
def State.stallTiles (s : State) (f : Nat) (h : HeldPkt) : List Nat :=
  let x := (s.flow f).ctx
  let ts :=
    if h.op = 1 ∨ h.op = 3 then tilesOf (be h.p.ext 0 6) h.p.payload.length
    else if 8 ≤ h.op ∧ h.op ≤ 12 then tilesOf (be h.p.ext 0 6) 8
    else if h.op = 0x82 then
      (match s.findTrk f (be h.p.ext 0 4) with
        | some (_, t) => s.effT0 t.core [.ts (t.local_ + be h.p.ext 8 4) h.p.payload]
        | none => [])
    else if h.op = 0x20 then
      let b := collHdr h.p.ext
      (match (s.ctx x).inst b.coll b.inst, (s.ctx x).colls.find b.coll with
        | some i, some r => if i.issued && (b.kind = 1 || b.kind = 2) then s.effT0 i.core [.ts (r.place i b.pos b.kind + b.off) h.p.payload] else []
        | _, _ => [])
    else []
  ts.filter (fun t => ((s.ctx x).entry t).stalls)

/-- The message's packets have all taken effect. -/
def RxMsg.complete (m : RxMsg) : Bool := match m.last with | some l => m.got == psnSub l m.psn + 1 | none => false

/-- The end of a message: its event and its response (R252, R315). -/
def State.endMsg (s : State) (f : Nat) (m : RxMsg) : State :=
  let x := (s.flow f).ctx
  let s := s.updFlow f (fun fl => { fl with msgs := [], exec := psnNext (m.last.getD fl.exec) })
  if m.op = 0x82 then s
  else if m.op = 0x20 then s.respond f 0xA0 m.psn m.status []
  else (if m.status = 0 then s.remoteEvent x m.event m.eflags else s).respond f 0x81 m.psn m.status []

/-- One packet of the message in progress takes effect: data of a WRITE or TILE_WRITE, of a get, or of a block. -/
def State.takePacket (s : State) (f : Nat) (m : RxMsg) (h : HeldPkt) : State :=
  let fl := s.flow f
  let x := fl.ctx
  let st := if m.op = 0x82 ∨ m.status ≠ 0 then m.status else if fl.drainStatus = 2 then 2 else m.status
  let st := if st = 0 ∧ (m.op = 1 ∨ m.op = 3) ∧ 2 ≤ be h.p.ext 7 1 then 5 else st
  let c := collHdr h.p.ext
  let st := if m.op = 0x20 ∧ st = 0 ∧ c.kind ≤ 2 then s.blockStatus x fl.peer c else st
  let m := { m with got := m.got + 1, last := if pktLast h.p then some h.psn else m.last, status := st }
  let s := s.stepMsg f h.psn m
  let r : State × Nat :=
    if m.op = 0x82 then (s.takeData f h.p, 0)
    else if st ≠ 0 then (if m.op = 0x20 then s.noteRefused x f m.psn c else s, st)
    else if m.op = 0x20 then
      (if c.kind = 3 then (s.takeStripe x c h.p.payload, 0)
       else if c.kind = 4 then s.takePermute x c h.p.payload
       else (s.takeBlock x f m.psn c h.p.payload, 0))
    else ((s.fabUse x (be h.p.ext 0 6) h.p.payload.length).localWrite x (be h.p.ext 0 6) h.p.payload, 0)
  let m := { m with status := r.2 }
  let s := r.1.updFlow f (fun fl => { fl with msgs := [m] })
  if m.complete then
    let s := s.endMsg f m
    if m.op = 0x20 ∧ m.status = 0 ∧ c.kind ≤ 2 then s.checkInst x c.coll c.inst else s
  else s

/-- An atomic reaches the atomic unit: in a cycle in which one from a flow of a higher number has been applied to the word, it is taken as one cycle
later, so that those of one cycle are in ascending order of DST_FLOW (R257; DESIGN CHOICE, log 87: how atomics of one cycle come in the queue). -/
def State.atomTurn (s : State) (x addr f : Nat) : State :=
  let now := s.atoms.filter (fun a => a.1 = s.clk.cycle)
  if now.any (fun a => a.2.1 = x && a.2.2.1 = addr && decide (f < a.2.2.2)) then
    let s := s.toCycle (s.clk.cycle + 1)
    { s with atoms := [(s.clk.cycle, x, addr, f)] }
  else { s with atoms := now ++ [(s.clk.cycle, x, addr, f)] }

/-- STATUS of a READ, WRITE or tile operation when its first packet is executed (R251, R253, R254). -/
def State.openStatus (s : State) (f op : Nat) (p : Pkt) : Nat :=
  let fl := s.flow f
  if fl.drainStatus ≠ 0 then fl.drainStatus
  else if 2 ≤ be p.ext 7 1 then 5
  else s.memStatus fl.ctx (be p.ext 0 6) (be p.ext 8 4) (op = 3 || op = 4)

/-- STATUS of a COLLECTIVE message at its first packet (R314, R315); a fenced member that is being refilled takes stripes and tiles (R397, R399). -/
def State.collStatus (s : State) (f : Nat) (p : Pkt) : Nat :=
  let fl := s.flow f
  let h := collHdr p.ext
  if fl.drainStatus ≠ 0 then fl.drainStatus
  else if (s.ctx fl.ctx).fenced && !((s.ctx fl.ctx).refills && decide (3 ≤ h.kind)) then 2
  else if 4 < h.kind then 5
  else if h.kind ≤ 2 then s.blockStatus fl.ctx fl.peer h
  else if h.resv ≠ 0 then 5
  else if h.epoch ≠ (s.ctx fl.ctx).job.layoutEpoch then 7 else 0

/-- A packet whose turn has come in PSN order takes effect (R256, R261). -/
def State.takeFirst (s : State) (f : Nat) (h : HeldPkt) : State :=
  let fl := s.flow f
  let x := fl.ctx
  let p := h.p
  if h.op = 1 ∨ h.op = 3 ∨ h.op = 0x20 ∨ h.op = 0x82 then
    if !pktFirst p then s.stepExec f h.psn
    else
      let m : RxMsg :=
        { psn := h.psn, op := h.op, addr := if h.op = 0x82 then be p.ext 0 4 else be p.ext 0 6, len := be p.ext 8 4, event := be p.ext 6 1,
          eflags := be p.ext 7 1, status := if h.op = 0x82 then 0 else if h.op = 0x20 then s.collStatus f p else s.openStatus f h.op p }
      s.takePacket f m h
  else
    let s := s.stepExec f h.psn
    if h.op = 2 ∨ h.op = 4 then
      let st := s.openStatus f h.op p
      if st ≠ 0 then s.respond f 0x82 h.psn st []
      else ((s.fabUse x (be p.ext 0 6) (be p.ext 8 4)).respond f 0x82 h.psn 0 (s.localRead x (be p.ext 0 6) (be p.ext 8 4))).remoteEvent x (be p.ext 6 1)
        (be p.ext 7 1)
    else if 8 ≤ h.op ∧ h.op ≤ 12 then
      let operand := be p.ext 8 8
      let compare := be p.ext 16 8
      let st :=
        if fl.drainStatus ≠ 0 then fl.drainStatus
        else if 2 ≤ be p.ext 7 1 ∨ be p.ext 24 8 ≠ 0 ∨ (h.op ≠ 11 ∧ compare ≠ 0) then 5
        else s.atomStatus x h.op (be p.ext 0 6) operand
      if st ≠ 0 then s.respond f 0x88 h.psn st (zeros 8)
      else
        let s := s.atomTurn x (be p.ext 0 6) f
        let old := s.localRead x (be p.ext 0 6) 8
        (s.atomApply x h.op (be p.ext 0 6) operand compare (be p.ext 6 1) (be p.ext 7 1)).respond f 0x88 h.psn 0 old.reverse
    else s.endRequest f h.op p

/-- One packet of a flow takes effect, when one can: a packet of the message in progress, else the one whose PSN is next; a write to a
tile in migration waits, and with it what follows on the flow (R205). -/
def State.rxStep (s : State) (f : Nat) : Option State :=
  let fl := s.flow f
  match fl.msgs with
  | m :: _ =>
    match fl.held.find? (belongs m) with
    | none => none
    | some h => if (s.stallTiles f h).isEmpty || m.status != 0 then some (s.takePacket f m h) else none
  | [] =>
    match fl.held.find? (fun h => h.psn = fl.exec) with
    | none => none
    | some h => if (s.stallTiles f h).isEmpty then some (s.takeFirst f h) else none

/-- Every packet of a flow that can take effect does; a migration that holds one goes to the front (R205). -/
def State.rxRunN (s : State) (f : Nat) : Nat → State
  | 0 => s
  | n + 1 =>
    match s.rxStep f with
    | some t => State.rxRunN t f n
    | none =>
      let fl := s.flow f
      s.rush fl.ctx (fl.held.flatMap (s.stallTiles f))

def State.rxRun (s : State) (f : Nat) : State := s.rxRunN f ((s.flow f).held.length + 1)

/-- The writes of every flow of a context that stalled are tried again. -/
def State.rxRetry (s : State) (x : Nat) : State :=
  ((s.flows.filter (fun e => e.2.ctx = x && !e.2.held.isEmpty)).map (fun e => e.1)).foldl (fun s f => s.rxRun f) s

/-! ## Arrival -/

/-- The occupancy of a receive buffer grows by a frame; what it has drained since the last one is a free value (log 5). Above XOFF the MAC
sends PFC (R291). -/
def State.occupy (s : State) (m q len : Nat) : State :=
  let pt := s.port (m / 4)
  if pt.flowctl ≠ 2 ∨ ¬ bit pt.pfcSend q then s
  else
    let c := s.mac m
    let was := c.rxOcc.getOr q 0
    let occ := was - Config.freeValue s.fresh % (was + 1) + len
    let s := s.draw
    let s := s.updMac m (fun c => { c with rxOcc := c.rxOcc.set q occ })
    if pt.xoff.getD q 0 < occ ∧ ¬ c.xoffSent.has q then
      let s := s.emit (.frame m (pfcFrameFor m q 0xFFFF))
      (s.updMac m (fun c => { c with xoffSent := c.xoffSent.set q s.clk.cycle })).countMac m (43 + q) 1
    else s

/-- A frame received on a MAC at a priority (R306). -/
def State.countRx (s : State) (m q len : Nat) : State := (s.countMac m (16 + q) 1).countMac m (24 + q) len

/-- The extension header has its length, and in a response or an acknowledgement its reserved fields and STATUS are not reserved values (R242). -/
def extOk (op : Nat) (e : List Byte) : Bool :=
  e.length == extLen op
    && (if op = 0x81 ∨ op = 0x82 ∨ op = 0x88 ∨ op = 0xA0 then be e 5 3 == 0 && be e 12 4 == 0 && decide (be e 4 1 ≤ 7)
        else if op = 0xC0 then be e 44 4 == 0
        else if 0xE0 ≤ op then be e 4 4 == 0 else true)

/-- A flow accepts packets from a device (R249). -/
def Flow.accepts (f : Flow) (dev : Nat) : Bool := (f.state == FlowState.open_ || f.state == FlowState.draining) && !f.lost && f.peer == dev

/-- `expected` advanced past every PSN received (R245). -/
def Flow.advance (f : Flow) : Flow :=
  (List.range (f.got.length + 1)).foldl (fun f _ =>
    if f.got.contains f.expected then { f with got := f.got.filter (fun p => p != f.expected), expected := psnNext f.expected } else f) f

/-- A gap opens or fills with a PSN (R262). -/
def Flow.gap (f : Flow) (psn : Nat) : Bool :=
  (psn != f.expected && !f.got.contains (psnSub psn 1)) || (f.got.contains (psnNext psn) && (psn == f.expected || f.got.contains (psnSub psn 1)))

/-- A COLLECTIVE packet for an instance later than c + 1 is neither placed nor marked (R314). -/
def State.tooEarly (s : State) (x op : Nat) (p : Pkt) : Bool :=
  op == 0x20 &&
    (let h := collHdr p.ext
     match (s.ctx x).colls.find h.coll with
     | some r => decide (h.kind ≤ 2) && h.epoch == r.epoch && !r.isOver h.inst && !r.near h.inst
     | none => false)

/-- A flow with a packet accepted into its hold list at a time (R245, R260). A duplicate is not counted in PKT_COUNT and CE_COUNT, which count packets
accepted (R245, R260; DESIGN CHOICE, log 86: the manual does not say). -/
def Flow.accept (f : Flow) (op : Nat) (p : Pkt) (now : Nat) : Flow :=
  Flow.advance { f with
    got := f.got ++ [p.psn], held := f.held ++ [{ psn := p.psn, op := op, p := p }], pktsSinceAck := f.pktsSinceAck + 1
    ceSinceAck := f.ceSinceAck + (if pktMarked p then 1 else 0), firstUnackedNs := some (f.firstUnackedNs.getD now), lastPath := p.path, lastTs := p.ts }

/-- The counters of an accepted packet, and its ACK when one is due (R262). -/
def State.rxDone (s : State) (f x : Nat) (p : Pkt) (ack : Bool) : State :=
  let s := (s.count x 181 1).count x 183 p.payload.length
  let s := if pktMarked p then s.count x 186 1 else s
  if ack then s.sendAck f else s

/-- A sequenced packet on its flow: classification (R260), acceptance into the hold list, execution, and the ACK it may cause (R262). -/
def State.rxSeq (s : State) (f op : Nat) (p : Pkt) : State :=
  let fl := s.flow f
  let x := fl.ctx
  let d := psnSub p.psn fl.expected
  if (d ≤ 256 ∧ fl.got.contains p.psn) ∨ 4294967296 - 1073741824 ≤ d then
    ((s.updFlow f (fun fl => { fl with lastPath := p.path, lastTs := p.ts })).countFab 4).sendAck f
  else if 256 < d then s.countFab 3
  else if s.tooEarly x op p then s
  else
    let ack := pktAckReq p || pktLast p || decide (16 ≤ fl.pktsSinceAck + 1) || fl.gap p.psn
    let t := (s.setFlow f (fl.accept op p s.clk.tai.ns)).rxRun f
    if (t.flow f).held.any (fun h => h.psn = p.psn) && decide (s.holdCap x < t.holdUsed x) then s.countFab 5
    else t.rxDone f x p ack

/-- A request or response packet arrives (R242, R249); while the debug level is invasive requests are dropped (R487); `pre` is what its access finds in memory. -/
def State.rxData (s : State) (mac op : Nat) (p : Pkt) (pre : State → Nat → State) : State :=
  let h := hdrOf op p
  let fl := s.flow p.dstFlow
  let q := fl.queue
  let len := frameLen ((s.port (mac / 4)).encap = 1) false true h
  let s := (s.countRx mac q len).occupy mac q len
  if p.hcrc ≠ hcrcOf h then s.countFab 0
  else if ¬ hdrOk h ∨ ¬ extOk op p.ext then s.countFab 1
  else if p.dstDev ≠ s.deviceId ∨ ¬ fl.accepts p.srcDev ∨ (s.life.debug = 2 ∧ opClass op = some 0) then s.countFab 2
  else ((pre s fl.ctx).rxSeq p.dstFlow op p).flowUse p.dstFlow

/-- Nothing found in memory. -/
def noEcc : State → Nat → State := fun s _ => s

/-- WRITE arrives (R252, R253). -/
def execWriteReq (mac : Nat) (p : Pkt) (s : State) : Host.Outcome State Fault Refusal := .next (s.rxData mac 0x01 p noEcc)
/-- READ arrives (R252); an uncorrectable line is delivered as it was read (R224) and handled under R225. -/
def execReadReq (mac : Nat) (p : Pkt) (ecc : Option EccHit) (s : State) : Host.Outcome State Fault Refusal :=
  .next (s.rxData mac 0x02 p (fun s x => s.eccOpt x ecc))
/-- TILE_WRITE arrives (R252). -/
def execTileWrite (mac : Nat) (p : Pkt) (s : State) : Host.Outcome State Fault Refusal := .next (s.rxData mac 0x03 p noEcc)
/-- TILE_READ arrives (R252). -/
def execTileRead (mac : Nat) (p : Pkt) (s : State) : Host.Outcome State Fault Refusal := .next (s.rxData mac 0x04 p noEcc)
/-- ATOMIC_ADD arrives (R252, R257). -/
def execAtomicAdd (mac : Nat) (p : Pkt) (s : State) : Host.Outcome State Fault Refusal := .next (s.rxData mac 0x08 p noEcc)
/-- ATOMIC_MIN arrives (R252). -/
def execAtomicMin (mac : Nat) (p : Pkt) (s : State) : Host.Outcome State Fault Refusal := .next (s.rxData mac 0x09 p noEcc)
/-- ATOMIC_MAX arrives (R252). -/
def execAtomicMax (mac : Nat) (p : Pkt) (s : State) : Host.Outcome State Fault Refusal := .next (s.rxData mac 0x0A p noEcc)
/-- COMPARE_SWAP arrives (R252). -/
def execCompareSwap (mac : Nat) (p : Pkt) (s : State) : Host.Outcome State Fault Refusal := .next (s.rxData mac 0x0B p noEcc)
/-- A48_ADD arrives (R252, R257). -/
def execA48Add (mac : Nat) (p : Pkt) (s : State) : Host.Outcome State Fault Refusal := .next (s.rxData mac 0x0C p noEcc)
/-- COLLECTIVE arrives (R314, R315). -/
def execCollective (mac : Nat) (p : Pkt) (s : State) : Host.Outcome State Fault Refusal := .next (s.rxData mac 0x20 p noEcc)
/-- WRITE_DONE arrives (R254). -/
def execWriteDone (mac : Nat) (p : Pkt) (s : State) : Host.Outcome State Fault Refusal := .next (s.rxData mac 0x81 p noEcc)
/-- READ_DATA arrives (R261). -/
def execReadData (mac : Nat) (p : Pkt) (s : State) : Host.Outcome State Fault Refusal := .next (s.rxData mac 0x82 p noEcc)
/-- ATOMIC_DONE arrives (R252). -/
def execAtomicDone (mac : Nat) (p : Pkt) (s : State) : Host.Outcome State Fault Refusal := .next (s.rxData mac 0x88 p noEcc)
/-- COLLECTIVE_DONE arrives (R574, R324). -/
def execCollectiveDone (mac : Nat) (p : Pkt) (s : State) : Host.Outcome State Fault Refusal := .next (s.rxData mac 0xA0 p noEcc)

/-- A packet that fails HCRC or carries a reserved class, OP or bit is dropped and counted (R242); one that passes is no such packet. -/
def execReservedPacket (mac : Nat) (h : Hdr) (s : State) : Host.Outcome State Fault Refusal :=
  let s0 := s
  let s := s.countRx mac h.pcp (frameLen ((s.port (mac / 4)).encap = 1) false true h)
  if h.p.hcrc ≠ hcrcOf h then .next (s.countFab 0) else if hdrOk h then .next s0 else .next (s.countFab 1)

/-! ## Acknowledgements -/

/-- SACK bit of a PSN (R245). -/
def sacked (e : List Byte) (psn : Nat) : Bool :=
  let i := psnSub psn (be e 0 4 + 1)
  decide (i < 256) && ((e.getD (4 + i / 8) 0#8).toNat / 2 ^ (7 - i % 8)) % 2 == 1

/-- The round-trip estimates with a sample (R264). -/
def Flow.sample (f : Flow) (now smp : Nat) : Flow :=
  let r : Rat := smp
  let f := match f.srtt with
    | none => { f with srtt := some r, rttvar := r / 2 }
    | some a => { f with rttvar := 3 / 4 * f.rttvar + 1 / 4 * max (a - r) (r - a), srtt := some (7 / 8 * a + 1 / 8 * r) }
  { f with
    samples := f.samples.filter (fun p => decide (now < p.1 + 10000000000)) ++ [(now, smp)]
    intMin := some (match f.intMin with | some m => min m smp | none => smp) }

/-- The retransmission timeout after n expiries, in nanoseconds (R264). -/
def Flow.rto (f : Flow) (n : Nat) : Nat :=
  match f.srtt with
  | none => min 100000000 (1000000 * 2 ^ n)
  | some a => (min 100000000 ((max 20000 (a + max (4 * f.rttvar) 2000)) * 2 ^ n)).ceil.toNat

/-- A copy of a packet not yet acknowledged enters a transmit queue with RETX, on a path that is not paused when one exists (R263, R293). -/
def State.resend (s : State) (f psn : Nat) : State :=
  let fl := s.flow f
  match fl.tx.find? (fun t => t.psn = psn && !t.acked && t.sentAt.isSome && !t.queued) with
  | none => s
  | some t =>
    let ready := s.readyPaths fl
    let ready := if ready.isEmpty then (List.range fl.paths.length).filter (fun i => (s.pathMac fl i).isSome) else ready
    match chooseFrom fl.paths ready with
    | none => s
    | some (i, ps) =>
      match s.pathMac fl i with
      | none => s
      | some m =>
        let fg := t.p.flags % 32 + (if bit t.p.flags 6 then 64 else 0) + (if bit t.p.flags 7 then 128 else 0)
        let h := { hdrOf t.op { t.p with path := i, flags := if bit fg 4 then fg else fg + 16 } with cls := t.cls, pcp := fl.queue }
        let fr := s.mkFrame m h f (some fl.ctx)
        let s := s.setFlow f { fl with
          paths := ps, sendAt := fl.paced s.clk.tai.ns fr.len
          tx := fl.tx.map (fun u => if u.psn = psn then { u with queued := true } else u) }
        (s.enqueue m fl.queue fr).count fl.ctx 184 1

/-- A draining flow whose close is under way sends CLOSE_DONE once every packet it sent is acknowledged, and closes when CLOSE_DONE has
been exchanged (R250). -/
def State.closeIfDone (s : State) (f : Nat) : State :=
  let fl := s.flow f
  if fl.state != FlowState.draining || !fl.closing || !fl.tx.isEmpty then s
  else
    let s := if fl.doneSent then s else (s.setFlow f { fl with doneSent := true }).sendCtrl fl.peer 0xE4 (beBytes 4 f ++ beBytes 4 fl.peerFlow)
    if fl.closeSeen then s.dropFlow f else s

/-- The gaffer closes a flow: CLOSE, and the flow drains (R250). A flow that never opened is released. -/
def State.closeFlow (s : State) (f : Nat) : State :=
  let fl := s.flow f
  if fl.state == FlowState.open_ || fl.state == FlowState.draining then
    let s := s.setFlow f { fl with state := .draining, closing := true }
    (s.sendCtrl fl.peer 0xE3 (beBytes 4 f ++ beBytes 4 fl.peerFlow)).closeIfDone f
  else s.dropFlow f

/-- CUM_PSN lies between una and the next PSN to send (R263). -/
def Flow.ackInside (f : Flow) (cum : Nat) : Bool := decide (psnSub cum f.una ≤ psnSub f.nextPsn f.una)

/-- A packet sent whose PSN lies before CUM_PSN (R263). -/
def Flow.ackedBy (f : Flow) (cum : Nat) (t : TxPkt) : Bool := f.ackInside cum && decide (psnSub t.psn f.una < psnSub cum f.una)

/-- ACK arrives (R245, R263, R264): una advances, round-trip estimates and congestion counts follow, and packets shown missing are resent. -/
def execAckPkt (mac : Nat) (p : Pkt) (s : State) : Host.Outcome State Fault Refusal :=
  let h := hdrOf 0xC0 p
  let f := p.dstFlow
  let fl := s.flow f
  let len := frameLen ((s.port (mac / 4)).encap = 1) false true h
  let s := (s.countRx mac 7 len).occupy mac 7 len
  if p.hcrc ≠ hcrcOf h then .next (s.countFab 0)
  else if ¬ hdrOk h ∨ ¬ extOk 0xC0 p.ext then .next (s.countFab 1)
  else if p.dstDev ≠ s.deviceId ∨ ¬ fl.accepts p.srcDev then .next (s.countFab 2)
  else
    let cum := be p.ext 0 4
    let inside := fl.ackInside cum
    let shown (t : TxPkt) : Bool := fl.ackedBy cum t || (t.sentAt.isSome && sacked p.ext t.psn)
    let lost := fl.tx.filter (fun t => !shown t && !t.acked && t.sentAt.isSome && !t.queued
      && fl.tx.any (fun u => (shown u || u.acked) && u.sentAt.isSome && u.path = t.path && decide (t.order < u.order)))
    let moved := inside && decide (psnSub cum fl.una ≠ 0)
    let fl := { fl with
      tx := (fl.tx.filter (fun t => !fl.ackedBy cum t)).map (fun t => if shown t then { t with acked := true } else t)
      una := if inside then cum else fl.una
      progressNs := if moved then s.clk.tai.ns else fl.progressNs
      intCe := fl.intCe + be p.ext 40 2, intPkt := fl.intPkt + be p.ext 42 2
      paths := (fl.paths.zip (List.range fl.paths.length)).map (fun (e : PathSt × Nat) => if e.2 = p.path ∧ be p.ext 40 2 ≠ 0 then { e.1 with ce := true } else e.1) }
    let fl := fl.sample s.clk.tai.ns (psnSub (s.fabricNs fl.ctx % 4294967296) (be p.ext 36 4))
    let s := ((s.flowUse f).setFlow f fl).count fl.ctx 181 1
    .next (((lost.foldl (fun s t => s.resend f t.psn) s).pump f).closeIfDone f)

/-- 2 µs after the first unacknowledged packet arrived, an ACK is sent (R262). -/
def execAckTimer (flow : Nat) (s : State) : Host.Outcome State Fault Refusal :=
  match (s.flow flow).firstUnackedNs with
  | none => .next s
  | some t => .next ((s.toTai (t + 2000)).sendAck flow)

/-- The timer of a sent packet does not run: its egress MAC cannot transmit at the flow's priority, which for queue 6 includes the time outside
windows (R264, R265, R294). -/
def State.timerStops (s : State) (fl : Flow) (t : TxPkt) : Bool :=
  match s.pathMac fl t.path with
  | some m => s.blocked m fl.queue || (fl.queue == 6 && (s.mac m).window.isNone)
  | none => false

/-- The retransmission timer of a packet expires: it is resent and its RTO doubles (R264). -/
def execRetransmitTimeout (flow psn : Nat) (s : State) : Host.Outcome State Fault Refusal :=
  let fl := s.flow flow
  match fl.tx.find? (fun t => t.psn = psn && !t.acked && !t.queued) with
  | none => .next s
  | some t =>
    match t.sentAt with
    | none => .next s
    | some at_ =>
      if s.timerStops fl t then .next s
      else
      let s := s.toTai (at_ + fl.rto t.expiries)
      let s := s.setFlow flow { fl with tx := fl.tx.map (fun u => if u.psn = psn then { u with expiries := u.expiries + 1 } else u) }
      .next (s.resend flow psn)

/-! ## Failure of a flow -/

/-- A flow fails (R265): it enters FAILED, every operation outstanding on it completes with REMOTE (R250), instances with a member behind it
end (R324), and the T3 tiles of a lender behind it are lost (R216). -/
def State.failFlow (s : State) (f : Nat) : State :=
  let fl := s.flow f
  if fl.state == FlowState.failed || fl.state == FlowState.closed then s
  else
    let s := s.setFlow f { fl with state := .failed, tx := [], held := [], msgs := [] }
    let s := s.event 0x0006 2 fl.ctx [f, fl.peer]
    let mine := s.trk.filter (fun e => e.2.flow = f)
    let s := { s with trk := s.trk.filter (fun e => e.2.flow != f) }
    let s := mine.foldl (fun s e =>
      match e.2.kind with
      | .put | .get | .atomic => s.complete e.2.core e.2.ring e.2.slot 0x1A 0
      | .coll c i => s.failInst e.2.ctx c i
      | _ => s) s
    let hit := (s.ctx fl.ctx).colls.filter (fun r => r.2.members.any (fun m => m.2 = f))
    let s := ((s.ctx fl.ctx).insts.filter (fun i => hit.any (fun r => r.1 = i.1 / 2 ^ 32))).foldl (fun s i => s.failInst fl.ctx (i.1 / 2 ^ 32) (i.1 % 2 ^ 32)) s
    (s.sendDue fl.ctx).loseT3 0x08 (fun _ _ e => e.lender = fl.peer && !e.lost)

/-- The progress limit of a flow (R265): una has not advanced for T_fail with packets outstanding, or one packet has expired 16 times. -/
def execFlowProgressTimeout (flow : Nat) (s : State) : Host.Outcome State Fault Refusal :=
  let fl := s.flow flow
  if fl.tx.isEmpty ∨ ¬ (fl.state == FlowState.open_ || fl.state == FlowState.draining) then .next s
  else if fl.tx.any (fun t => decide (16 ≤ t.expiries)) then .next (s.failFlow flow)
  else if fl.tx.any (s.timerStops fl) then .next s
  else .next ((s.toTai (fl.progressNs + (s.ctx fl.ctx).cc.tFailMs * 1000000)).failFlow flow)

/-! ## Congestion control -/

/-- A rate clamped to its bounds. -/
def clampRate (lo hi r : Rat) : Rat := if r < lo then lo else if hi < r then hi else r

/-- The end of a congestion interval (R268, R270). -/
def Flow.interval (f : Flow) (c : CcParams) (now : Nat) : Flow :=
  let fr : Rat := if f.intPkt = 0 then 0 else (f.intCe : Rat) / f.intPkt
  let alpha := (1 - c.g) * f.alpha + c.g * fr
  let base := (f.samples.filter (fun p => decide (now < p.1 + 10000000000))).foldl
    (fun b p => match b with | some m => some (min m p.2) | none => some p.2) (none : Option Nat)
  let excess : Bool := match f.intMin, base with | some m, some b => decide ((b : Rat) + c.dHighNs < m) | _, _ => false
  let f := { f with alpha := alpha, intCe := 0, intPkt := 0, intMin := none, intStartNs := now }
  let f :=
    if 0 < fr ∨ excess then
      { f with rateTgt := f.rateCur, rateCur := f.rateCur * (1 - max alpha (if fr = 0 then c.aDelay else 0) / 2), quiet := 0 }
    else
      let q := f.quiet + 1
      let tgt := f.rateTgt + (if q ≤ 5 then c.incAi else c.incHai)
      { f with quiet := q, rateTgt := tgt, rateCur := (f.rateCur + tgt) / 2 }
  { f with
    rateCur := clampRate c.rateMin f.rateMax f.rateCur, rateTgt := clampRate c.rateMin f.rateMax f.rateTgt
    paths := f.paths.map (fun p =>
      { p with weight := if p.ce then (p.weight + 1) / 2 else if excess then p.weight else min 16 (p.weight + 1), ce := false }) }

/-- A congestion interval of max(SRTT, 10 µs) ends (R268). -/
def execCcInterval (flow : Nat) (s : State) : Host.Outcome State Fault Refusal :=
  let fl := s.flow flow
  if ¬ (fl.state == FlowState.open_ || fl.state == FlowState.draining) then .next s
  else
    let s := s.toTai (fl.intStartNs + (max 10000 (fl.srtt.getD 0)).ceil.toNat)
    .next (s.setFlow flow (fl.interval (s.ctx fl.ctx).cc s.clk.tai.ns))

end Sys2Proof.Machine
end

