-- ==== Sys2Proof/Machine/MacTx.lean ====
section
/-! DEFINITION. The transmit side of a MAC: which queue may start a frame (R286 to R288, R294), the start of a frame with its TS and HCRC
(R241, R298), its acknowledgement request (R262) and its counters (R306), and the forwarding of direct-mode frames (R272 to R274). -/

namespace Sys2Proof.Machine

/-- The nanoseconds that a frame of n bytes takes at a rate in Mb/s, with preamble and interframe gap (R294's example). -/
def frameNs (rate n : Nat) : Nat := if rate = 0 then 0 else ceilDiv ((n + 20) * 8000) rate

/-- The bytes that one unit of queue 0's credit stands for, inverted: 1 % of the MAC rate over a cycle of 20/21 ns (R288). -/
def creditUnit : Nat := 16800000

/-- The credit of queue 0 brought up to the present cycle, up to 9,216 bytes (R288). -/
def Mac.accrue (c : Mac) (now : Nat) : Mac :=
  { c with credit := min (9216 * creditUnit) (c.credit + (now - c.creditAt) * 20 * c.rateMbps), creditAt := now }

/-- The frame of a queue that would leave next: forwarded and originated frames alternate, a forwarded one first when both are ready (R274). -/
def Mac.headOf (c : Mac) (q : Nat) : Option Frame :=
  let l := c.queues.getOr q []
  let fwd := l.find? (fun f => f.forwarded)
  let own := l.find? (fun f => !f.forwarded)
  match fwd, own with
  | some f, some o => some (if c.origTurn.contains q then o else f)
  | some f, none => some f
  | none, o => o

/-- The queue without that frame, and the turn that follows. -/
def Mac.popHead (c : Mac) (q : Nat) : Mac :=
  match c.headOf q with
  | none => c
  | some f =>
    let l := c.queues.getOr q []
    let drop := (List.range l.length).find? (fun i => match l[i]? with | some g => g.forwarded == f.forwarded | none => false)
    { c with
      queues := c.queues.set q (match drop with | some i => l.eraseIdx i | none => l)
      origTurn := if f.forwarded then q :: c.origTurn.filter (fun p => p != q) else c.origTurn.filter (fun p => p != q) }

/-- The record of the COLLECTIVE packet that an originated frame carries. -/
def Frame.coll (f : Frame) : Option Nat :=
  match f.body with
  | .zalnis h => if h.op = 0x20 ∧ ¬ f.forwarded then some (collHdr h.p.ext).coll else none
  | _ => none

/-- A frame may start in a window: it ends no later than the window, and one of a collective leaves in a slot of that collective (R294). -/
def Frame.fits (f : Frame) (rate now : Nat) (w : OpenWin) : Bool :=
  decide (now + frameNs rate f.len ≤ w.endNs) && (match f.coll with | some c => c == w.coll | none => true)

/-- A frame may start on queue q of a MAC now as far as pause, retraining and windows go (R288, R294). -/
def State.mayStart (s : State) (m q : Nat) (f : Frame) : Bool :=
  let c := s.mac m
  !s.blocked m q && c.up && !s.pins.quiesced
    && (q != 6 || (match c.window with | some w => f.fits c.rateMbps s.clk.tai.ns w | none => false))

/-- Queue q is eligible (R288). -/
def State.eligible (s : State) (m q : Nat) : Bool :=
  match (s.mac m).headOf q with
  | some f => s.mayStart m q f
  | none => false

/-- The queue from which a free MAC starts a frame (R288). -/
def State.pickQueue (s : State) (m : Nat) : Option Nat :=
  let c := s.mac m
  if s.eligible m 7 then some 7
  else if s.eligible m 0 && (match c.headOf 0 with | some f => decide (f.len * creditUnit ≤ c.credit) | none => false) then some 0
  else [6, 5, 4, 3, 2, 1, 0].find? (fun q => s.eligible m q)

/-- TS of a frame that leaves now (R241): fabric time of its context; TAI for the gaffer's control messages, which belong to no job. -/
def State.tsNow (s : State) (x : Option Nat) : Nat := (match x with | some x => s.fabricNs x | none => s.clk.tai.ns) % 2 ^ 32

/-- The sender's record of a sequenced packet as a copy of it leaves by a path (R263), and whether it asks for an ACK (R262). -/
def State.sentCopy (s : State) (f psn path : Nat) : State × Bool :=
  let fl := s.flow f
  let more := fl.tx.any (fun t => t.psn != psn && !t.acked && t.queued)
  (s.setFlow f { fl with
    sendOrder := fl.sendOrder + 1
    tx := fl.tx.map (fun t => if t.psn = psn then
      { t with sentAt := some s.clk.tai.ns, order := fl.sendOrder, queued := false, path := path } else t) }, !more)

/-- The headers of a packet that leaves, with the UDP checksum over IPv6 computed (R237). -/
def Wrap.summed (w : Wrap) (h : Hdr) : Wrap :=
  { w with ip := w.ip.map (fun (i : IpHdr) => if i.v6 then { i with cksum := udpChecksum i h } else i) }

/-- The timestamp that a MAC of a port gives a PTP event message at the lane pins: TAI, less the cable asymmetry configured for the port (R298;
DESIGN CHOICE, log 69: the sense of the asymmetry). -/
def State.ptpStamp (s : State) (port : Nat) : Int := (s.clk.tai.ns : Int) - s.clk.asym.getD port 0

/-- A frame as a MAC puts it on the wire: its TS inserted and HCRC recomputed by the MAC; a forwarded frame keeps its TS. A PTP event message takes its
timestamp, which a two-step clock sends in a Follow_Up (R298, R299). -/
def State.stamp (s : State) (m : Nat) (f : Frame) : State × Frame :=
  if f.forwarded then (s, f)
  else
    match f.body with
    | .zalnis h =>
      let r := if h.cls = 2 ∨ f.flow = 0 then (s, false) else s.sentCopy f.flow h.p.psn h.p.path
      let fl := if r.2 ∧ ¬ pktAckReq h.p then h.p.flags + 32 else h.p.flags
      let g := sealHdr { h with p := { h.p with ts := s.tsNow f.ctx, flags := fl } }
      (r.1, { f with body := .zalnis g, wrap := f.wrap.summed g })
    | .ctrl h =>
      let g := sealHdr { h with p := { h.p with ts := s.tsNow f.ctx } }
      (s, { f with body := .ctrl g, wrap := f.wrap.summed g })
    | .ptp k ns =>
      let now := s.ptpStamp (m / 4)
      match k with
      | .sync => if s.clk.twoStep = 1 then (s.sendPtp m .followUp now, f) else (s, { f with body := .ptp k now })
      | .delayReq | .pdelayReq => (s.updPtp (m / 4) (fun q => { q with reqNs := some now }), { f with body := .ptp k now })
      | .pdelayResp _ _ _ => (s, { f with body := .ptp k now })
      | .followUp | .delayResp _ _ => (s, { f with body := .ptp k ns })
    | _ => (s, f)

/-- Payload bytes of a packet. -/
def FrameBody.payload : FrameBody → Nat
  | .zalnis h => h.p.payload.length
  | _ => 0

/-- A frame starts to leave a MAC from queue q (R286, R306). -/
def State.startFrame (s : State) (m q : Nat) (f : Frame) : State :=
  let r := s.stamp m f
  let s := r.1.emit (.frame m r.2)
  let s := s.updMac m (fun c => { c with
    busyUntil := s.clk.cycle + cyclesOfNs (frameNs c.rateMbps f.len), idleSince := s.clk.cycle + cyclesOfNs (frameNs c.rateMbps f.len) })
  let s := (s.countMac m q 1).countMac m (8 + q) f.len
  match f.ctx, f.forwarded with
  | some x, false => (s.count x 180 1).count x 182 f.body.payload
  | _, _ => s

/-- The flows whose next packet waits for their rate alone (R268). -/
def State.pacedFlows (s : State) : List (Nat × Flow) :=
  s.flows.filter (fun e =>
    (e.2.state == FlowState.open_ || e.2.state == FlowState.draining) && !e.2.lost
      && e.2.tx.any (fun t => !t.acked && !t.queued && t.sentAt.isNone && decide ((t.psn + 4294967296 - e.2.una) % 4294967296 < 257)))

/-- The first time at which the rate of a flow admits a packet for a MAC. -/
def State.nextAdmit (s : State) (m : Nat) : Option Nat :=
  let ts := (s.pacedFlows.filter (fun e => (s.readyPaths e.2).any (fun i => s.pathMac e.2 i == some m))).map (fun e => e.2.sendAt.ceil.toNat)
  match ts with
  | [] => none
  | t :: l => some (l.foldl min t)

/-- The flows that wait for their rate send what it admits by now (R268). -/
def State.pumpPaced (s : State) : State := (s.pacedFlows.map (fun e => e.1)).foldl (fun s f => s.pump f) s

/-- A free MAC starts a frame from the queue that R288 chooses, at the end of the frame in flight and of a wake-up, and, where its queues are empty, at
the time at which a flow's rate admits the next packet. -/
def execMacFrameStart (mac : Nat) (s : State) : Host.Outcome State Fault Refusal :=
  let c := s.mac mac
  let none_ := c.queues.all (fun e => e.2.isEmpty)
  let due := s.nextAdmit mac
  if none_ ∧ due.isNone then .next s
  else
    let s := s.toCycle (max c.busyUntil c.wakeAt)
    let s := if none_ then s.toTai (due.getD 0) else s
    let s := s.pumpPaced
    let s := s.updMac mac (fun c => c.accrue s.clk.cycle)
    match s.pickQueue mac with
    | none => .next s
    | some q =>
      match (s.mac mac).headOf q with
      | none => .next s
      | some f =>
        let s := s.updMac mac (fun c =>
          let c := c.popHead q
          if q = 0 then { c with credit := c.credit - f.len * creditUnit } else c)
        .next (s.startFrame mac q f)

/-! ## Forwarding -/

/-- The bytes of forwarded frames that a port holds (R274). -/
def State.fwdBytes (s : State) (p : Nat) : Nat :=
  (List.range 4).foldl (fun a i =>
    (s.mac (4 * p + i)).queues.foldl (fun a e => e.2.foldl (fun a f => if f.forwarded then a + f.len else a) a) a) 0

/-- A drop of a forwarder, logged when it is the first for its DST_DEV in a minute (R273). -/
def State.fwdDrop (s : State) (dst port : Nat) : State :=
  let now := s.clk.tai.ns
  let s := s.countFab 9
  match s.fwdDropNs.find dst with
  | some t => if now < t + 60000000000 then s else { s with fwdDropNs := s.fwdDropNs.set dst now }.event 0x0007 1 noCtx [dst, port]
  | none => { s with fwdDropNs := s.fwdDropNs.set dst now }.event 0x0007 1 noCtx [dst, port]

/-- The frame that a forwarder sends on by MAC m: HOP_LIMIT one less, and the source address that of the egress MAC (R236, R273). -/
def fwdFrame (m : Nat) (h : Hdr) : Frame :=
  let g : Hdr := { h with p := { h.p with hop := h.p.hop - 1 } }
  { body := if h.cls = 3 then .ctrl g else .zalnis g, len := frameLen false false true h, forwarded := true
    wrap := { dmac := 0x035A4C4E0001, smac := macAddr m, tag := some (h.pcp, 0), etherType := 0x88B5 } }

/-- The egress port and MAC of a frame that arrived on MAC `mac`: HOP_LIMIT is left, the table names a port for the device, and a MAC of it is up
(R272, R273). The frames of one ingress port take one MAC of the egress port, so that they keep their order (R267; DESIGN CHOICE, log 16). -/
def State.egress (s : State) (mac : Nat) (h : Hdr) : Option (Nat × Nat) :=
  match s.fwd.find h.p.dstDev with
  | none => none
  | some e =>
    if h.p.hop = 0 ∨ e.ports.isEmpty then none
    else
      let port := e.ports.getD (h.p.path % e.ports.length) 0
      (s.macFor port (mac / 4)).map (fun m => (port, m))

/-- A forwarded frame that arrived on a MAC is cut through to the egress MAC m: it is idle, of the same rate, and may start (R274). -/
def State.cutThrough (s : State) (mac m : Nat) (h : Hdr) : Bool :=
  let c := s.mac m
  (c.queues.all (fun q => q.2.isEmpty) && decide (c.busyUntil ≤ s.clk.cycle ∧ c.wakeAt ≤ s.clk.cycle) && !c.lpiTx)
    && c.rateMbps == (s.mac mac).rateMbps && s.mayStart m h.pcp (fwdFrame m h)

/-- A direct-mode frame for another device (R273, R274): the checks, HOP_LIMIT, and the egress MAC, cut-through or stored. While the debug
level is invasive the frame is dropped and counted (R487). -/
def execFrameForward (mac : Nat) (h : Hdr) (fcsBad : Bool) (s : State) : Host.Outcome State Fault Refusal :=
  if h.p.dstDev = s.deviceId ∨ (s.port (mac / 4)).encap ≠ 0 then .next s
  else
    let s := s.countRx mac h.pcp (fwdFrame mac h).len
    if s.life.debug = 2 then .next (s.countFab 9)
    else if h.p.hcrc ≠ hcrcOf h then .next (s.countFab 0)
    else
      match s.egress mac h with
      | none => .next (s.fwdDrop h.p.dstDev (mac / 4))
      | some (port, m) =>
        if s.cutThrough mac m h then .next ((s.startFrame m h.pcp { fwdFrame m h with fcsBad := fcsBad }).countFab 11)
        else if fcsBad then .next (s.countMac mac 32 1)
        else if 524288 < s.fwdBytes port + (fwdFrame m h).len then .next (s.countFab 10)
        else .next ((s.enqueue m h.pcp (fwdFrame m h)).countFab 12)

end Sys2Proof.Machine
end

