-- ==== Sys2Proof/Machine/Migrate.lean ====
section
/-! DEFINITION. Migration (R203 to R210, R569 to R571), the residency manager (R200, R201), fences (R226), memory sparing (R230, R231),
slice temperatures (R234), and windows lent and borrowed (R211 to R217). -/

namespace Sys2Proof.Machine

/-! ## Requests -/

/-- The tile lies where a request asks: tier, near region or core, policy and CORE (R569). -/
def TileEntry.placed (e : TileEntry) (tier policy core region : Nat) : Bool :=
  e.tier = tier && e.policy = policy && e.core = core && (if tier = 1 then t1Region e.frame = region else if tier = 0 then e.core = region else true)

/-- The migrations QUEUED of a context and its held requests (R206, R569). -/
def State.queuedMigs (s : State) (x : Nat) : Nat :=
  (s.migs.filter (fun m => m.ctx = x && ((s.ctx x).migEntry m.tile).state = 1)).length
    + (s.asks.filter (fun a => a.ctx = x && ((s.ctx x).migEntry a.tile).state != 0)).length

/-- How a request to migrate ends at once. -/
inductive MigAnswer where
  | accepted
  | held
  | there
  | noFrame
  | noRoom
  | refused
  deriving DecidableEq, Repr

/-- A free frame of the spare bank of a slice; `sl` is layer × 12 + slice (R231). -/
def State.spareFrame (s : State) (sl : Nat) : Option Nat :=
  let used := s.usedFrames 1
  ((List.range 2048).find? (fun k => !(used.any (fun u => u.1 = 1572864 + sl * 2048 + k)))).map (fun k => 1572864 + sl * 2048 + k)

/-- The destination of a request: tier, near region, lender and frame (R571, R214, R231). -/
def State.askDest (s : State) (a : MigAsk) (e : TileEntry) : Option (Nat × Nat × Nat × Nat) :=
  let place (tier region : Nat) : Option (Nat × Nat × Nat × Nat) :=
    if tier = 3 then (s.newT3 a.ctx a.tile).map (fun p => (3, region, p.1, p.2)) else (s.newFrame a.ctx tier region).map (fun f => (tier, region, 0, f))
  match a.why with
  | .asked => place a.tier (if a.tier = 2 then 0 else a.region)
  | .reclaim => (place 2 0).or (((List.range 12).findSome? (fun r => place 1 r)).or (place 3 0))
  | .toSpare =>
    let slice := t1Region e.frame
    (s.spareFrame (e.frame % 131072 / 32768 * 12 + slice)).map (fun f => (1, slice, 0, f))
  | .fromBank => (place 1 (t1Region e.frame)).or (place 2 0)

/-- The request is met as the tile stands (R569): it lies where it was asked to, or no longer where it had to leave. -/
def State.askMet (s : State) (a : MigAsk) (e : TileEntry) : Bool :=
  match a.why with
  | .asked => e.placed a.tier a.policy a.core a.region
  | .reclaim => e.tier != 3 || (match (s.ctx a.ctx).t3At a.tile e.lender e.frame with | some w => w.deadline.isNone | none => true)
  | .toSpare | .fromBank => e.tier != 1 || !s.withdrawn.contains (1, e.frame / 2048)

/-- A tile enters QUEUED with its destination reserved (R571). -/
def State.acceptMig (s : State) (m : Mig) (tier : Nat) (d : Nat × Nat) : State :=
  let c := s.ctx m.ctx
  let e := c.bankEntry m.bank m.tile
  let s := s.setCtx m.ctx (c.setBankEntry m.bank m.tile { e with state := 1, destTier := tier, destLender := d.1, destFrame := d.2 })
  { s with migs := s.migs ++ [m] }

/-- One tile of a tier command is done: DONE rises, and the handle completes with the last one (R458). -/
def State.migDone (s : State) (h : Nat) : State :=
  let s := s.progress1 h
  match s.handle h with
  | some k => if k.total ≤ k.done then s.finish h 0 else s
  | none => s

/-- A request to migrate a tile (R569 to R571). One for a tile in migration is held, in place of the request held before it, which counts as done for its
handle (DESIGN CHOICE, log 82: the manual says only that the later request replaces the held one). -/
def State.askMig (s : State) (a : MigAsk) (retried : Bool := false) : State × MigAnswer :=
  let c := s.ctx a.ctx
  let e := c.bankEntry a.bank a.tile
  if !e.valid || c.fenced then (s, .refused)
  else if (c.migEntry a.tile).state ≠ 0 then
    let old := s.asks.filter (fun b => b.ctx = a.ctx && b.tile = a.tile)
    if old.isEmpty && decide (4096 ≤ s.queuedMigs a.ctx) then (s, .noRoom)
    else (old.foldl (fun s b => s.migDone b.handle) { s with asks := s.asks.filter (fun b => !(b.ctx = a.ctx && b.tile = a.tile)) ++ [a] }, .held)
  else if s.askMet a e then (s, .there)
  else if 4096 ≤ s.queuedMigs a.ctx then (s, .noRoom)
  else
    match s.askDest a e with
    | none => (s, .noFrame)
    | some d =>
      let kept : Bool := a.why != MoveWhy.asked
      (s.acceptMig { ctx := a.ctx, tile := a.tile, bank := a.bank, policy := if kept then e.policy else a.policy, core := if kept then e.core else a.core
                     region := d.2.1, handle := a.handle, reclaim := a.why == .reclaim, spare := a.why == .toSpare, retried := retried } d.1 d.2.2, .accepted)

/-- A request not yet placed is taken up: its tile is RESIDENT (R569, R570). A handle that finds no frame fails with CAPACITY and its requests not yet
placed are withdrawn (R571); one without room waits, and its handle is at PHASE 2; a tile under reclaim or of a failing bank stays. -/
def State.placeAsk (s : State) (a : MigAsk) : State :=
  match { s with asks := s.asks.filter (fun b => b != a) }.askMig a with
  | (s, .accepted) => s.phase a.handle 1
  | (s, .there) => s.migDone a.handle
  | (s, .held) => s
  | (_, .noRoom) => s.phase a.handle 2
  | (s, .noFrame) =>
    if a.handle = 0 then s else { s with asks := s.asks.filter (fun b => b.handle != a.handle) }.finish a.handle 0x1D
  | (s, .refused) => s.finish a.handle 0x25

/-- The requests of a context whose tiles are RESIDENT are placed, in order, as room allows (R570). -/
def State.placeAsks (s : State) (x : Nat) : State :=
  (s.asks.filter (fun a => a.ctx = x)).foldl (fun s a =>
    if ((s.ctx x).migEntry a.tile).state = 0 ∧ s.asks.contains a then s.placeAsk a else s) s

/-- A request that is placed at once, held, or kept until there is room (R569, R570). -/
def State.askOrWait (s : State) (a : MigAsk) : State :=
  match s.askMig a with
  | (s, .noRoom) => { s with asks := s.asks ++ [a] }
  | (s, _) => s

/-! ## The engine -/

/-- Migrations that hold a slot (R206). -/
def State.slotsOf (s : State) (sel : Nat → Bool) : Nat :=
  (s.migs.filter (fun m => sel m.ctx && decide (2 ≤ ((s.ctx m.ctx).migEntry m.tile).state))).length

/-- A slot is free for a context: 8 for a sealed one, else at most 32 of those that no sealed context reserves (R206). -/
def State.slotFor (s : State) (x : Nat) : Bool :=
  if (s.ctx x).sealed_ then decide (s.slotsOf (fun y => y = x) < 8)
  else
    let sealedN := (s.ctxs.filter (fun e => e.2.sealed_ && e.2.created)).length
    decide (s.slotsOf (fun y => y = x) < min 32 (s.ctx x).grants.migSlots)
      && decide (s.slotsOf (fun y => !(s.ctx y).sealed_) < 128 - 8 * sealedN)

/-- A queued migration that may start: its tile has no COW mark and its context is not fenced (R207, R226). -/
def State.startable (s : State) (m : Mig) : Bool :=
  let c := s.ctx m.ctx
  (c.migEntry m.tile).state = 1 && !(c.migEntry m.tile).cow && !c.fenced

/-- The migration reads or writes a T3 window, so that it holds a tile-transfer slot while it runs (R258). -/
def State.needsT3Slot (s : State) (m : Mig) : Bool :=
  let e := (s.ctx m.ctx).migEntry m.tile
  e.tier = 3 || e.destTier = 3

/-- The queued migration that a context starts next: those of a reclaim first (R214), then in the order of acceptance. -/
def State.nextMig (s : State) (x : Nat) : Option Mig :=
  let q := s.migs.filter (fun m => m.ctx = x && s.startable m && (!s.needsT3Slot m || s.t3SlotFree x))
  match q.find? (fun m => m.reclaim) with
  | some m => some m
  | none => q.head?

/-- The context whose turn it is among the shared ones: reclaims first, then round-robin by context number (R206, R214). -/
def State.turnOf (s : State) : Option Nat :=
  let ready := (s.ctxs.map (fun e => e.1)).filter (fun x => !(s.ctx x).sealed_ && s.slotFor x && (s.nextMig x).isSome)
  let first := ready.filter (fun x => match s.nextMig x with | some m => m.reclaim | none => false)
  let pool := if first.isEmpty then ready else first
  match pool.find? (fun x => s.migRr ≤ x) with
  | some x => some x
  | none => pool.head?

/-- A migration slot becomes free for a context, and its next queued tile enters COPYING (R203, R206, R207). -/
def execMigrationSlotGrant (ctx : Nat) (s : State) : Host.Outcome State Fault Refusal :=
  if s.power.state == PowerState.standby || !s.slotFor ctx || (!(s.ctx ctx).sealed_ && s.turnOf != some ctx) then .next s
  else
    match s.nextMig ctx with
    | none => .next s
    | some m =>
      let c := s.ctx ctx
      let s := s.setCtx ctx (c.setMigEntry m.tile { c.migEntry m.tile with state := 2 })
      let s := if (s.ctx ctx).sealed_ then s else { s with migRr := (ctx + 1) % 512 }
      .next (s.placeAsks ctx)

/-- The address of a migration's source and of its destination. -/
def State.migAddr (s : State) (m : Mig) : Nat × Nat :=
  let e := (s.ctx m.ctx).migEntry m.tile
  (e.phys m.ctx m.tile, framePhys m.ctx m.tile e.destTier m.region e.destFrame)

/-- Another migration that a stalled write has moved ahead still copies (R205). -/
def State.aheadOf (s : State) (m : Mig) : Bool :=
  !m.front && s.migs.any (fun n => n.front && ((s.ctx n.ctx).migEntry n.tile).state = 2)

/-- The copy is complete and verified: COMMITTING (R203). A migration that a stalled write has moved ahead ends its copy before every other (R205). -/
def execMigrationCopyDone (ctx tile : Nat) (s : State) : Host.Outcome State Fault Refusal :=
  match s.migOf ctx tile with
  | none => .next s
  | some m =>
    let c := s.ctx ctx
    let e := c.migEntry tile
    if e.state ≠ 2 ∨ s.aheadOf m then .next s
    else
      let a := s.migAddr m
      let s := if a.1 = a.2 then s else (s.memCopy a.1 a.2 tileBytes).ownWindow e.destTier m.region e.destFrame
      .next (s.setCtx ctx ((s.ctx ctx).setMigEntry tile { e with state := 3 }))

/-- The end of a migration on which writes stalled: counter 194 gets the cycles (R205, R526). -/
def State.stallEnds (s : State) (m : Mig) : State := match m.stallAt with | some t => s.count m.ctx 194 (s.clk.cycle - t) | none => s

/-- The writes that stalled on a tile proceed (R204): those of BAR2, then the flows and the descriptors served here. -/
def State.unstall (s : State) (x t : Nat) : State :=
  let mine := s.stalled.filter (fun w => w.ctx = x && w.tile = t)
  let s := { s with stalled := s.stalled.filter (fun w => !(w.ctx = x && w.tile = t)) }
  let s := mine.foldl (fun s w => s.writeTile x t w.off w.data) s
  (s.rxRetry x).retryLocal x

/-- The tiles of a context that lie in a window of a lender. -/
def Ctx.windowTiles (c : Ctx) (lender window : Nat) : List Nat :=
  (c.tiles.filter (fun t => t.2.valid && t.2.tier = 3 && t.2.lender = lender
    && (match c.t3At t.1 lender t.2.frame with | some w => w.window = window | none => false))).map (fun t => t.1)

/-- A window under reclaim in which no tile is left is released to its lender (R214 step 3). -/
def State.releaseWindows (s : State) : State :=
  let due := (s.ctxs.flatMap (fun e => (e.2.t3.filter (fun w => w.deadline.isSome)).map (fun w => (w.lender, w.window)))).eraseDups
  due.foldl (fun s (w : Nat × Nat) =>
    if s.ctxs.any (fun e => !(e.2.windowTiles w.1 w.2).isEmpty) then s
    else
      let s := { s with ctxs := s.ctxs.vals (fun _ (c : Ctx) => { c with t3 := c.t3.filter (fun v => !(v.lender = w.1 && v.window = w.2)) }) }
      s.sendCtrl w.1 0xE9 (beBytes 1 w.2 ++ zeros 3)) s

/-- Every translation cache has acknowledged: FRAME takes DEST_FRAME, the source frame is released, stalled writes proceed, and a held
request is taken up (R203, R204, R207, R208, R569). -/
def execMigrationCommit (ctx tile : Nat) (s : State) : Host.Outcome State Fault Refusal :=
  match s.migOf ctx tile with
  | none => .next s
  | some m =>
    let c := s.ctx ctx
    let e := c.migEntry tile
    if e.state ≠ 3 then .next s
    else
      let a := s.migAddr m
      let s := if a.1 = a.2 then s else s.releaseEntry ctx tile e
      let s := s.setCtx ctx ((s.ctx ctx).setMigEntry tile { e with
        state := 0, tier := e.destTier, frame := e.destFrame, lender := e.destLender, policy := m.policy
        core := if e.destTier = 0 then m.region else m.core, destTier := 0, destFrame := 0, destLender := 0 })
      let s := s.invalidate ctx (fun t => t = tile)
      let s := { s with migs := s.migs.filter (fun n => !(n.ctx = ctx && n.tile = tile)) }
      let s := ((s.count ctx 192 1).stallEnds m).migDone m.handle
      .next (((s.unstall ctx tile).placeAsks ctx).releaseWindows)

/-- A migration enters ABORTING (R203, R210). -/
def State.abortMig (s : State) (x t : Nat) (cause : AbortCause) : State :=
  let c := s.ctx x
  let s := s.setCtx x (c.setMigEntry t { c.migEntry t with state := 4 })
  { s with migs := s.migs.map (fun (m : Mig) => if m.ctx = x ∧ m.tile = t then { m with cause := some cause } else m) }.count x 193 1

/-- The error class of an uncorrectable line of a tier (R228). -/
def eccClass (tier : Nat) : Nat := if tier = 0 then 5 else if tier = 1 then 1 else if tier = 2 then 3 else 6

/-- A destination frame whose verify failed is retired (R210): the row of the line in error is spared, and where no spare row is left, or in a tile
store, the frame takes no tile any more. The tile's data stand at its source, so that the record names the tile and no fence follows. -/
def State.verifyFails (s : State) (x t line : Nat) (e : TileEntry) (region : Nat) : State :=
  let seq := s.logNext
  let s := s.tileError e.destTier (eccClass e.destTier) 4 x (if e.destTier = 0 then region else 0xFFFF) (s.deviceId * 2 ^ 48 + t * tileBytes) line e.destLender
    (s.location e.destTier region e.destFrame line)
  if e.destTier = 3 then s
  else if e.destTier = 0 then { s with retiredFrames := s.retiredFrames ++ [(0, windowNo region e.destFrame)] }
  else
    let b := s.bankOf e.destTier region e.destFrame line
    let full := decide (b.1.spareRows ≤ (s.banks.getOr b.1.key {}).sparesUsed)
    let s := s.uncRow b.1 b.2 seq
    if full then { s with retiredFrames := s.retiredFrames ++ [(e.destTier, e.destFrame)] } else s

/-- An abort cause arises during a migration (R210). The line in error is a free value (log 5). -/
def execMigrationAbort (ctx tile : Nat) (cause : AbortCause) (s : State) : Host.Outcome State Fault Refusal :=
  let c := s.ctx ctx
  let e := c.migEntry tile
  match s.migOf ctx tile with
  | none => .next s
  | some m =>
    if e.state = 0 ∨ e.state = 4 then .next s
    else
      match cause with
      | .sourceError =>
        let line := Config.freeValue s.fresh % 1024
        .next ((s.draw.abortMig ctx tile cause).uncorrectable ctx (c.migBank tile) tile line (eccClass e.tier) 4 0xFFFF)
      | .verifyError =>
        let line := Config.freeValue s.fresh % 1024
        .next ((s.draw.abortMig ctx tile cause).verifyFails ctx tile line e m.region)
      | .fence => .next (if c.fenced || c.state == CtxState.tearing then s.abortMig ctx tile cause else s)
      | .reclaim | .lenderLost => .next (if e.destTier = 3 then s.abortMig ctx tile cause else s)

/-! ## Reclaim at the borrower -/

/-- The tile of a window under reclaim is asked away: to T2, to T1 in the context's near regions, to another window (R214 step 2); a request without
room waits, one for a tile in migration is held. `h` is the handle of a tier command whose migration the reclaim aborted (R217). -/
def State.askReclaim (s : State) (x t h : Nat) : State :=
  s.askOrWait { ctx := x, tile := t, bank := (s.ctx x).weights.active, handle := h, why := .reclaim }

/-- A tile whose migration into a window under reclaim was aborted is asked toward another destination, for the handle that asked (R217). -/
def State.askElsewhere (s : State) (x t : Nat) (m : Mig) : State :=
  let e := (s.ctx x).bankEntry m.bank t
  let go (tier region : Nat) (r : State × MigAnswer) : State × MigAnswer :=
    match r.2 with
    | .noFrame => r.1.askMig { ctx := x, tile := t, bank := m.bank, tier := tier, policy := m.policy, core := m.core, region := region, handle := m.handle }
    | _ => r
  let first : State × MigAnswer :=
    if e.tier = 2 then (s, .there)
    else s.askMig { ctx := x, tile := t, bank := m.bank, tier := 2, policy := m.policy, core := m.core, handle := m.handle }
  let r := go 3 0 ((List.range 12).foldl (fun r k => go 1 k r) first)
  match r.2 with
  | .accepted | .held => r.1
  | .there => r.1.migDone m.handle
  | .noFrame => r.1.finish m.handle 0x1D
  | .noRoom => { r.1 with asks := r.1.asks ++ [{ ctx := x, tile := t, bank := m.bank, tier := 2, policy := m.policy, core := m.core, handle := m.handle }] }
  | .refused => r.1.finish m.handle 0x25

/-- DEST_FRAME is released and the tile is RESIDENT at its source (R203, R210): stalled writes proceed, a tile whose verify failed is queued
once more, one aborted for a reclaim is asked toward another destination, and a held request is taken up. -/
def execMigrationAbortDone (ctx tile : Nat) (s : State) : Host.Outcome State Fault Refusal :=
  match s.migOf ctx tile with
  | none => .next s
  | some m =>
    let c := s.ctx ctx
    let e := c.migEntry tile
    if e.state ≠ 4 then .next s
    else
      let s := s.setCtx ctx (c.setMigEntry tile { e with state := 0, destTier := 0, destFrame := 0, destLender := 0 })
      let s := s.releaseFrame ctx tile e.destTier m.region e.destFrame
      let s := { s with migs := s.migs.filter (fun n => !(n.ctx = ctx && n.tile = tile)) }
      let s := (s.stallEnds m).unstall ctx tile
      let s :=
        if m.cause = some .verifyError ∧ ¬ m.retried then
          let a : MigAsk := {
            ctx := ctx, tile := tile, bank := m.bank, tier := e.destTier, policy := m.policy, core := m.core, region := m.region, handle := m.handle
            why := if m.reclaim then .reclaim else if m.spare then .toSpare else .asked }
          match s.askMig a true with
          | (s, .accepted) => s
          | (s, .noFrame) => s.finish m.handle 0x1D
          | (s, _) => s.finish m.handle 0x25
        else if m.cause = some .reclaim then s.askElsewhere ctx tile m
        else s.finish m.handle 0x25
      .next (s.placeAsks ctx)

/-! ## Residency (R200, R201) -/

/-- The near regions of a context's T1 grant are all full. -/
def State.t1Full (s : State) (x : Nat) : Bool := (List.range 12).all (fun r => decide ((s.ctx x).granted 1 r ≤ s.held x 1 r))

/-- No prefer-near tile of the context that lies in T1 at rest was accessed longer ago than this one. -/
def State.coldest (s : State) (x t : Nat) : Bool :=
  let c := s.ctx x
  c.tiles.all (fun e =>
    let k := c.entry e.1
    !(k.valid && k.policy = 1 && k.tier = 1 && k.state = 0) || decide ((s.tileUse x t).2 ≤ (s.tileUse x e.1).2))

/-- A move keeps R200: a promotion takes a tile that an access found away from its near region toward it, to another region only when that one is full;
a demotion makes room in a full T1 grant with the least recently accessed tile. -/
def State.residencyOk (s : State) (x : Nat) (m : MoveReq) : Bool :=
  let e := (s.ctx x).entry m.tile
  let ownFull := decide ((s.ctx x).granted 1 e.core ≤ s.held x 1 e.core)
  e.valid && e.policy = 1 && e.state = 0 &&
    (if m.tier = 1 then
        (e.tier = 2 || (e.tier = 1 && t1Region e.frame != e.core && m.region = e.core)) && decide (0 < (s.tileUse x m.tile).1)
          && (m.region = e.core || ownFull)
      else m.tier = 2 && e.tier = 1 && s.t1Full x && s.coldest x m.tile)

/-- At most every 100 µs for each context, the residency manager asks for at most 1,024 promotions and demotions of prefer-near tiles (R200, R201); which
of those that R200 admits, the environment says. -/
def execResidencyPass (ctx : Nat) (moves : List MoveReq) (s : State) : Host.Outcome State Fault Refusal :=
  let c := s.ctx ctx
  if s.power.state == PowerState.standby || !c.created || c.fenced then .next s
  else
    let s := match c.resNs with | some t => s.toTai (t + 100000) | none => s
    let s := s.updCtx ctx (fun c => { c with resNs := some s.clk.tai.ns })
    .next ((moves.take 1024).foldl (fun s m =>
      if !s.residencyOk ctx m then s
      else (s.askMig { ctx := ctx, tile := m.tile, bank := (s.ctx ctx).weights.active, tier := m.tier, policy := 1, core := ((s.ctx ctx).entry m.tile).core
                       region := m.region }).1) s)

/-- A fence that waits takes effect at the context's tile-op boundary (R225, R226). -/
def execContextFence (ctx : Nat) (ecc : Option EccHit) (s : State) : Host.Outcome State Fault Refusal :=
  let s := s.eccOpt ctx ecc
  .next (if (s.ctx ctx).fenceDue then s.fence ctx else s)

/-! ## Sparing -/

/-- The copy of a row into its spare ends: the map switches and the writes held go to the spare row, which starts with no errors counted (R229, R230,
R232). -/
def execRowSpareSwitch (loc : BankLoc) (row : Nat) (s : State) : Host.Outcome State Fault Refusal :=
  match s.rowCopies.find? (fun c => c.loc = loc && c.row = row) with
  | none => .next s
  | some k =>
    let old := s.rowNow loc row
    let new := Config.freeValue s.fresh % 131072
    let s := { s.draw with
      rowCopies := s.rowCopies.filter (fun c => !(c.loc = loc && c.row = row))
      rowMap := s.rowMap.filter (fun (e : BankLoc × Nat × Nat) => !(e.1 = loc && e.2.1 = row)) ++ [(loc, row, new)]
      banks := s.banks.upd loc.key {} (fun (b : BankErr) => { b with rowHits := b.rowHits.filter (fun p => p.1 != row) }) }
    let s := k.held.foldl (fun s (w : Nat × List Byte) => s.memWrite w.1 w.2) s
    .next (s.addCullet { type := loc.rowType, action := 1, index := 0, location := loc.code old, spare := loc.code new, causeSeq := k.causeSeq
                         timeNs := s.clk.tai.ns })

/-- A data lane of a slice is spared at a refresh boundary after 8 corrected errors on it within 24 hours (R229, R230). -/
def execLaneSpare (layer slice lane : Nat) (s : State) : Host.Outcome State Fault Refusal :=
  let ch := layer * 12 + slice
  let now := s.clk.tai.ns
  let keys := (List.range 16).map (fun b => (BankLoc.t1 layer slice b).key)
  let hits := keys.foldl (fun a k => a + ((recent now (s.banks.getOr k {}).laneHits).filter (fun p => p.1 = lane)).length) 0
  if hits < 8 ∨ 2 ≤ (s.laneSpares.filter (fun p => p.1 = ch)).length ∨ s.laneSpares.contains (ch, lane) then .next s
  else
    let s := { s with
      laneSpares := s.laneSpares ++ [(ch, lane)]
      banks := keys.foldl (fun bs k => bs.upd k {} (fun (b : BankErr) => { b with laneHits := b.laneHits.filter (fun p => p.1 != lane) })) s.banks }
    let at_ := layer * 2 ^ 30 + slice * 2 ^ 26
    let spare := Config.freeValue s.fresh % 256
    .next (s.draw.addCullet { type := 4, action := 1, index := 0, location := at_ + lane, spare := at_ + spare, causeSeq := 4294967295, timeNs := now })

/-- The tiles whose frames lie in a T1 bank, with their contexts and the bank of the tile table that holds the entry (R193, R410). -/
def State.bankTiles (s : State) (first : Nat) : List (Nat × Nat × Nat) :=
  let here (e : TileEntry) : Bool := e.valid && e.tier = 1 && decide (first ≤ e.frame ∧ e.frame < first + 2048)
  s.ctxs.flatMap (fun e =>
    ((e.2.tiles.filter (fun t => here t.2)).map (fun t => (e.1, 0, t.1))) ++ ((e.2.bank1.filter (fun t => here t.2)).map (fun t => (e.1, 1, t.1))))

/-- A window of which an uncorrectable bank holds frames is lost to its borrowers, who are told (R216, R276). -/
def State.tellLost (s : State) (first : Nat) : State :=
  s.lend.foldl (fun s e =>
    if e.2.tier = 1 && e.2.ranges.any (fun r => decide (r.1 < first + 2048 ∧ first < r.2)) && (e.2.state = 1 || e.2.state = 2) then
      e.2.peers.foldl (fun s d => s.sendCtrl d 0xEA (beBytes 1 e.1 ++ beBytes 1 1 ++ zeros 2)) s
    else s) s

/-- A failing T1 bank is spared (R231): its tiles are asked to the slice's spare bank, or, when that is used, to free frames of the same near region and
then T2, and the bank's capacity is withdrawn. A window that lies in it is reported lost. -/
def execBankSpare (layer slice bank : Nat) (s : State) : Host.Outcome State Fault Refusal :=
  let loc := BankLoc.t1 layer slice bank
  let b := s.banks.getOr loc.key {}
  let now := s.clk.tai.ns
  let no := slice * 64 + layer * 16 + bank
  let rows := ((recent now b.rowUnc).map (fun p => p.1)).eraseDups
  if s.withdrawn.contains (1, no) ∨ 16 ≤ bank ∨ ¬ (32 ≤ b.sparesUsed ∨ 3 ≤ rows.length) then .next s
  else
    let sl := layer * 12 + slice
    let free := !s.bankSpares.contains sl
    let ts := s.bankTiles (no * 2048)
    let s := { s with withdrawn := s.withdrawn ++ [(1, no)], bankSpares := if free then s.bankSpares ++ [sl] else s.bankSpares }
    let s := ts.foldl (fun s (p : Nat × Nat × Nat) =>
      s.askOrWait { ctx := p.1, tile := p.2.2, bank := p.2.1, why := if free then .toSpare else .fromBank }) s
    let s := s.tellLost (no * 2048)
    let at_ := layer * 2 ^ 30 + slice * 2 ^ 26
    let spare := if free then at_ + spareBankNo layer slice 16 * 2 ^ 22 else 4294967295
    .next (s.addCullet { type := 5, action := if free then 1 else 2, index := 0, location := at_ + bank * 2 ^ 22, spare := spare
                         causeSeq := b.causeSeq, timeNs := now })

/-- The state of a slice at a temperature in 0.01 °C (R234): 0 normal, 1 halved refresh interval, 2 limited, with 3 °C of hysteresis. -/
def sliceState (was : Nat) (centi : Int) : Nat :=
  if 9500 ≤ centi ∨ (was = 2 ∧ 9200 ≤ centi) then 2
  else if 8500 ≤ centi ∨ (1 ≤ was ∧ 8200 ≤ centi) then 1 else 0

/-- A slice's sensor crosses a threshold (R234). -/
def execSliceTemperatureChange (layer slice : Nat) (centi : Int) (s : State) : Host.Outcome State Fault Refusal :=
  let k := layer * 12 + slice
  let p := s.power
  .next { s with power := { p with
    slices := p.slices.set k (sliceState (p.slices.getOr k 0) centi)
    temps := p.temps.set ((if layer = 0 then 64 else 128) + k) centi } }

/-! ## Windows -/

/-- The tiles of every context in a window are lost with a syndrome class, and the window is no longer granted (R215, R216). -/
def State.loseWindow (s : State) (cls lender window : Nat) : State :=
  let s := s.loseT3 cls (fun x t e => e.lender = lender && !e.lost && ((s.ctx x).windowTiles lender window).contains t)
  { s with ctxs := s.ctxs.vals (fun _ (c : Ctx) => { c with t3 := c.t3.filter (fun v => !(v.lender = lender && v.window = window)) }) }

/-- The lender revokes a window and its zero-fill begins (R214 step 4). -/
def State.revoke (s : State) (w : Nat) : State :=
  match s.lend.find w with
  | some l => { s with lend := s.lend.set w { l with state := 3 } }
  | none => s

/-- A window is reclaimed: its borrowers are sent RECLAIM_NOTICE with the deadline; one without peers is revoked at once (R214 step 1). -/
def State.reclaimWindow (s : State) (w k : Nat) : State :=
  match s.lend.find w with
  | none => s
  | some l =>
    let due := s.clk.tai.ns + l.noticeMs * 1000000
    let s := { s with lend := s.lend.set w { l with state := 2, deadline := due, released := [], handle := k } }
    let s := l.peers.foldl (fun s d => s.sendCtrl d 0xE8 (beBytes 1 w ++ zeros 3 ++ beBytes 8 due)) s
    if l.peers.isEmpty then s.revoke w else s

/-- The deadline t_d of a window under reclaim (R214, R215). -/
def execReclaimDeadline (side : LendSide) (s : State) : Host.Outcome State Fault Refusal :=
  match side with
  | .lender w =>
    match s.lend.find w with
    | some l => if l.state = 2 then .next ((s.toTai l.deadline).revoke w) else .next s
    | none => .next s
  | .borrower lender window =>
    match s.ctxs.findSome? (fun e => e.2.t3.findSome? (fun w => if w.lender = lender ∧ w.window = window then w.deadline else none)) with
    | none => .next s
    | some d => .next ((s.toTai d).loseWindow 0x07 lender window)

/-- The zero-fill of a window ends: it is offered, or after a reclaim it returns to the lender's grants (R211, R214, R215). -/
def State.windowFilled (s : State) (window : Nat) : State :=
  match s.lend.find window with
  | none => s
  | some l =>
    if l.state = 1 ∨ l.state = 2 then s
    else
      let s := l.ranges.foldl (fun s (r : Nat × Nat) => s.clearMem (framePhys 0 0 l.tier 0 r.1) ((r.2 - r.1) * tileBytes)) s
      let s := if l.state = 0 then { s with lend := s.lend.set window { l with state := 1, handle := 0 } } else { s with lend := s.lend.del window }
      s.finish l.handle 0

end Sys2Proof.Machine
end

