-- ==== Sys2Proof/Machine/FlowCtl.lean ====
section
/-! DEFINITION. Control messages (R275 to R280): the opening and closing of flows (R250, R277, R475, R487), resynchronisation (R278), lending
messages (R214, R216, R279), link measurement (R280), and the retransmission of control messages. -/

namespace Sys2Proof.Machine

/-! ## Receiving a control message -/

/-- A control message arrives: the checks of R242, CTRL_ACK, and its effect unless it has been handled already (R275). `ok` says that the
body has its length and no reserved value. During a gaffer reset no message is answered (R565). -/
def State.rxCtrl (s : State) (mac op : Nat) (p : Pkt) (ok : List Byte → Bool) (act : State → List Byte → State) : State :=
  let h := hdrOf op p
  let len := frameLen ((s.port (mac / 4)).encap = 1) false true h
  let s := (s.countRx mac 0 len).occupy mac 0 len
  if p.hcrc ≠ hcrcOf h then s.countFab 0
  else if ¬ hdrOk h ∨ ¬ extOk op p.ext ∨ ¬ ok p.payload then s.countFab 1
  else if p.dstDev ≠ s.deviceId ∨ p.dstFlow ≠ 0 then s.countFab 2
  else if s.start.gafferDown then s
  else
    let id := be p.ext 0 4
    let now := s.clk.tai.ns
    let s := s.emitCtrl p.srcDev id 0xEF []
    let seen := s.ctrlSeen.filter (fun e => decide (now < e.2.2 + 10000000000))
    if seen.any (fun e => e.1 = p.srcDev && e.2.1 = id) then { s with ctrlSeen := seen }
    else act { s with ctrlSeen := seen ++ [(p.srcDev, id, now)] } p.payload

/-! ## Flows -/

/-- The rank that a context holds: (0, 0, 0, 0) at a coordinator from the moment START is accepted (R342). -/
def Job.rankNow (j : Job) : Option (List Nat) := if j.plan.coordinator ∧ ¬ j.plan.planned then some [0, 0, 0, 0] else j.plan.rank

/-- Whether the debug level that a peer's TLV shows equals the module's own (R487). -/
def State.debugMatch (s : State) (peer : Nat) : Bool :=
  s.macs.all (fun e => match e.2.neighbour with
    | some n => n.device != peer || n.debugBit == (if s.life.debug = 2 then 1 else 0)
    | none => true)

/-- The initiating device holds a rank of the job that the plan joins to this one; before the plan, a member of the set (R475, R342). -/
def Job.joins (j : Job) (peer : Nat) : Bool :=
  if j.plan.planned then
    match j.image with
    | some im => ((j.plan.devices.take (im.man.t * im.man.p * im.man.d * im.man.e)).contains peer)
    | none => false
  else j.plan.coordinator && j.plan.set.any (fun d => d.1 = peer)

/-- The job admits new flows: it is starting, re-sharding or recovering (R475). -/
def Ctx.admitsFlows (c : Ctx) : Bool := c.job.phase = 3 || c.job.reshard.state != .idle || c.recov.state != .none_

/-- The module's own OPEN to a device for a context that crosses one of that device: the endpoints are the same pair (R246, R277). Where there are several,
one of the same queue crosses it, else the first (DESIGN CHOICE, log 88). -/
def State.crossing (s : State) (src x queue : Nat) : Option (Nat × Flow) :=
  let own := s.flows.filter (fun e => e.2.state == FlowState.opening && e.2.peerFlow = 0 && e.2.peer = src && e.2.ctx = x)
  match own.find? (fun e => e.2.queue = queue) with
  | some e => some e
  | none => own.head?

/-- An OPEN whose body names a rank of a job: accepted with a flow in OPENING and OPEN_ACCEPT, or refused with its reason (R276, R277, R475,
R487). Of two OPENs that cross, that of the lower device proceeds. -/
def State.takeOpen (s : State) (src : Nat) (b : List Byte) : State :=
  let job := be b 0 8
  let rank := [be b 8 2, be b 10 2, be b 12 2, be b 14 2]
  let theirs := be b 16 4
  let queue := be b 24 1
  let refuse (s : State) (why : Nat) : State := s.sendCtrl src 0xE2 (beBytes 4 theirs ++ beBytes 1 why ++ zeros 3)
  let runs (c : Ctx) : Bool := decide (3 ≤ c.job.phase) && (match c.job.image with | some im => im.man.jobId == job | none => false)
  match s.ctxs.filter (fun e => runs e.2) with
  | [] => refuse s 1
  | l =>
    match l.find? (fun e => e.2.job.rankNow = some rank) with
    | none => refuse s 3
    | some (x, c) =>
      if c.fenced ∧ c.recov.state == RecState.none_ ∨ ¬ c.admitsFlows ∨ ¬ s.debugMatch src then refuse s 1
      else if ¬ c.job.joins src then refuse s 3
      else
        match s.flows.find? (fun e => e.2.peer = src && e.2.peerFlow = theirs && e.2.ctx = x && e.2.state != FlowState.failed) with
        | some (f, fl) => s.sendCtrl src 0xE1 (beBytes 4 theirs ++ beBytes 4 f ++ beBytes 4 fl.nextPsn ++ zeros 4)
        | none =>
          let crossed := s.crossing src x queue
          if crossed.isSome ∧ s.deviceId < src then s
          else
            let s := match crossed with
              | some (f, _) =>
                { s with flows := s.flows.del f, ctrl := s.ctrl.filter (fun m => !(m.peer = src && m.op = 0xE0 && be m.body 16 4 = f)) }
              | none => s
            if ¬ s.flowRoom x then refuse s 2
            else
              let f := s.freeFlow.getD 0
              let psn := s.firstPsn x src
              let s := s.draw.setFlow f (s.newFlow x src theirs queue (be b 25 1) psn (be b 20 4) (!c.job.plan.planned))
              let s := if c.job.plan.planned then s.bindFlow x src queue f else s
              s.sendCtrl src 0xE1 (beBytes 4 theirs ++ beBytes 4 f ++ beBytes 4 psn ++ zeros 4)

/-- OPEN arrives. -/
def execOpenFlow (mac : Nat) (p : Pkt) (s : State) : Host.Outcome State Fault Refusal :=
  .next (s.rxCtrl mac 0xE0 p (fun b => b.length == 28 && be b 26 2 == 0) (fun s b => s.takeOpen p.srcDev b))

/-- OPEN_ACCEPT arrives: the flow enters OPEN (R250, R277). -/
def execOpenAccept (mac : Nat) (p : Pkt) (s : State) : Host.Outcome State Fault Refusal :=
  .next (s.rxCtrl mac 0xE1 p (fun b => b.length == 16 && be b 12 4 == 0) (fun s b =>
    let f := be b 0 4
    let fl := s.flow f
    if fl.state != FlowState.opening || fl.peer != p.srcDev || fl.peerFlow != 0 then s
    else s.setFlow f { fl with
      state := .open_, peerFlow := be b 4 4, expected := be b 8 4, exec := be b 8 4, progressNs := s.clk.tai.ns, intStartNs := s.clk.tai.ns }))

/-- OPEN_REFUSE arrives: the flow returns to CLOSED (R250). -/
def execOpenRefuse (mac : Nat) (p : Pkt) (s : State) : Host.Outcome State Fault Refusal :=
  .next (s.rxCtrl mac 0xE2 p (fun b => b.length == 8 && be b 5 3 == 0) (fun s b =>
    let f := be b 0 4
    let fl := s.flow f
    if fl.state != FlowState.opening || fl.peer != p.srcDev || fl.peerFlow != 0 then s else s.dropFlow f))

/-- The flow that a CLOSE or CLOSE_DONE of a peer names: the peer's flow field is the receiver's number. -/
def State.closing (s : State) (src : Nat) (b : List Byte) : Bool :=
  let fl := s.flow (be b 4 4)
  (fl.state == FlowState.open_ || fl.state == FlowState.draining) && fl.peer == src && fl.peerFlow == be b 0 4

/-- CLOSE arrives: the flow drains, and closes when all is acknowledged and CLOSE_DONE exchanged (R250). -/
def execCloseFlow (mac : Nat) (p : Pkt) (s : State) : Host.Outcome State Fault Refusal :=
  .next (s.rxCtrl mac 0xE3 p (fun b => b.length == 8) (fun s b =>
    if s.closing p.srcDev b then
      (s.updFlow (be b 4 4) (fun fl => { fl with state := .draining, closing := true })).closeIfDone (be b 4 4)
    else s))

/-- CLOSE_DONE arrives (R250). -/
def execCloseDone (mac : Nat) (p : Pkt) (s : State) : Host.Outcome State Fault Refusal :=
  .next (s.rxCtrl mac 0xE4 p (fun b => b.length == 8) (fun s b =>
    if s.closing p.srcDev b then
      (s.updFlow (be b 4 4) (fun fl => { fl with state := .draining, closing := true, closeSeen := true })).closeIfDone (be b 4 4)
    else s))

/-! ## Resynchronisation (R278) -/

/-- The code of a flow state in RESYNC_STATE, in the order of R250 (log 19). -/
def FlowState.code : FlowState → Nat
  | .closed => 0
  | .opening => 1
  | .open_ => 2
  | .draining => 3
  | .failed => 4

/-- A flow context is lost (R227): its contents go, and RESYNC_QUERY asks the peer (R278). What the gaffer's own completion records restore stays: the
packets not yet answered and the PSN after them, and the last completion. -/
def State.loseFlow (s : State) (f : Nat) : State :=
  match s.flows.find f with
  | none => s
  | some fl =>
    if fl.state != FlowState.open_ && fl.state != FlowState.draining then s
    else
      (s.setFlow f { fl with lost := true, una := 0, expected := 0, exec := 0, got := [], held := [], msgs := [], srtt := none }).sendCtrl
        fl.peer 0xE5 (beBytes 4 f ++ beBytes 4 fl.peerFlow)

/-- RESYNC_QUERY arrives: answered with the state of the flow named (R276, R278). -/
def execResyncQuery (mac : Nat) (p : Pkt) (s : State) : Host.Outcome State Fault Refusal :=
  .next (s.rxCtrl mac 0xE5 p (fun b => b.length == 8) (fun s b =>
    let fl := s.flow (be b 4 4)
    let mine : Bool := fl.peer == p.srcDev && fl.peerFlow == be b 0 4
    let st := if mine then fl.state.code else 0
    let v (n : Nat) : List Byte := beBytes 4 (if mine then n else 0)
    s.sendCtrl p.srcDev 0xE6 (beBytes 4 (be b 0 4) ++ v fl.nextPsn ++ v fl.una ++ v fl.expected ++ beBytes 1 st ++ zeros 3)))

/-- RESYNC_STATE arrives: the lost flow context is rebuilt, or the flow fails because the peer's is not OPEN or a completion recorded here lies beyond
the peer's oldest unacknowledged PSN (R278). The packets not yet answered, which the completion records name, keep their PSNs. -/
def execResyncState (mac : Nat) (p : Pkt) (s : State) : Host.Outcome State Fault Refusal :=
  .next (s.rxCtrl mac 0xE6 p (fun b => b.length == 20 && be b 17 3 == 0) (fun s b =>
    let f := be b 0 4
    let fl := s.flow f
    if !fl.lost || fl.peer != p.srcDev then s
    else
      let next := be b 4 4
      let una := be b 8 4
      let exp := be b 12 4
      let keep := fl.tx.filter (fun t => serialGe t.psn exp)
      let last := keep.foldl (fun a t => if serialGe t.psn a then psnNext t.psn else a) exp
      let beyond : Bool := match fl.lastDone with | some d => serialGe d (psnNext una) | none => false
      if be b 16 1 ≠ 2 ∨ beyond then (s.setFlow f { fl with lost := false }).failFlow f
      else
        let e := psnSub next (psnSub next una)
        (s.setFlow f { fl with
          lost := false, expected := e, exec := e, una := exp, nextPsn := last, tx := keep, progressNs := s.clk.tai.ns }).pump f))

/-! ## Lending -/

/-- RECLAIM_NOTICE arrives at a borrower (R214, R217): the window takes no new frame, every tile in it is asked away, and a migration into
it that has not committed aborts. -/
def execReclaimNotice (mac : Nat) (p : Pkt) (s : State) : Host.Outcome State Fault Refusal :=
  .next (s.rxCtrl mac 0xE8 p (fun b => b.length == 12 && be b 1 3 == 0) (fun s b =>
    let w := be b 0 1
    let src := p.srcDev
    let hit (v : T3Win) : Bool := v.lender == src && v.window == w
    let due := be b 4 8
    let s := { s with ctxs := s.ctxs.vals (fun _ (c : Ctx) =>
      { c with t3 := c.t3.map (fun (v : T3Win) => if hit v then { v with deadline := some due } else v) }) }
    let inbound := s.migs.filter (fun m =>
      let e := (s.ctx m.ctx).migEntry m.tile
      e.destTier = 3 && e.destLender = src && e.state != 4 && (match (s.ctx m.ctx).t3At m.tile src e.destFrame with | some v => hit v | none => false))
    let s := inbound.foldl (fun s m => s.abortMig m.ctx m.tile .reclaim) s
    let s := (s.ctxs.map (fun e => e.1)).foldl (fun s x =>
      ((s.ctx x).windowTiles src w).foldl (fun s t => s.askReclaim x t 0) s) s
    s.releaseWindows))

/-- A lender's window has been released by every borrower: it is revoked and zero-filled (R214). -/
def State.releaseBy (s : State) (w src : Nat) : State :=
  match s.lend.find w with
  | none => s
  | some l =>
    if l.state ≠ 2 ∨ ¬ l.peers.contains src ∨ l.released.contains src then s
    else
      let l := { l with released := l.released ++ [src] }
      let s := { s with lend := s.lend.set w l }
      let s := s.progress1 l.handle
      if l.peers.all (fun d => l.released.contains d) then s.revoke w else s

/-- WINDOW_RELEASE arrives at the lender (R214, R279). -/
def execWindowRelease (mac : Nat) (p : Pkt) (s : State) : Host.Outcome State Fault Refusal :=
  .next (s.rxCtrl mac 0xE9 p (fun b => b.length == 4 && be b 1 3 == 0) (fun s b => s.releaseBy (be b 0 1) p.srcDev))

/-- WINDOW_LOST arrives at a borrower: its tiles there are lost with class "lender lost", whichever of the two causes the lender gives (R216, R276, R279). -/
def execWindowLost (mac : Nat) (p : Pkt) (s : State) : Host.Outcome State Fault Refusal :=
  .next (s.rxCtrl mac 0xEA p (fun b => b.length == 4 && (be b 1 1 == 1 || be b 1 1 == 2) && be b 2 2 == 0) (fun s b => s.loseWindow 0x08 p.srcDev (be b 0 1)))

/-! ## Link measurement (R280) -/

/-- The bytes of a size class: 0, 1 and 2 for 64, 1,024 and 4,096 (log 19). -/
def probeBytes (c : Nat) : Nat := if c = 0 then 64 else if c = 1 then 1024 else 4096

/-- The body of a PROBE or a PROBE_REPLY. -/
def probeBody (no port cls : Nat) : List Byte := padTo (probeBytes cls) (beBytes 4 no ++ beBytes 1 port ++ beBytes 1 cls)

/-- The body of a probe is of its size class and its padding is zero. -/
def probeOk (b : List Byte) : Bool := decide (be b 5 1 ≤ 2) && b == probeBody (be b 0 4) (be b 4 1) (be b 5 1)

/-- The probes of a port: 64 of each size class to a peer (R280); a port configured for small frames carries none of the 4,096-byte class, whose packets
it may not send (R239; DEDUCED, log 89). -/
def State.sendProbes (s : State) (port peer : Nat) : State :=
  (List.range 192).foldl (fun s i =>
    if i / 64 = 2 ∧ (s.port port).small then s
    else
      let s := { s with probes := s.probes ++ [(port, peer, i / 64, i, s.clk.tai.ns)] }
      s.sendCtrl peer 0xEC (probeBody i port (i / 64))) s

/-- The link to a device by a port, with a change of its measurement. -/
def State.measure (s : State) (port dev : Nat) (f : LinkMeasure → LinkMeasure) : State :=
  let same := s.ctxs.any (fun e => match e.2.job.plan.set.find? (fun d => d.1 = dev), e.2.job.plan.set.find? (fun d => d.1 = s.deviceId) with
    | some a, some b => a.2 == b.2
    | _, _ => false)
  let cls := if (s.port port).encap = 0 then 0 else if same then 1 else 2
  match s.links.find? (fun l => l.devB = dev && l.cls = cls) with
  | some _ => { s with links := s.links.map (fun l => if l.devB = dev ∧ l.cls = cls then f l else l) }
  | none => { s with links := s.links ++ [f { devA := s.deviceId, devB := dev, cls := cls, latencyNs := 0, gbps := 0, timed := false }] }

/-- PROBE arrives: answered with PROBE_REPLY (R280). -/
def execProbe (mac : Nat) (p : Pkt) (s : State) : Host.Outcome State Fault Refusal :=
  .next (s.rxCtrl mac 0xEC p probeOk (fun s b => s.sendCtrl p.srcDev 0xED (probeBody (be b 0 4) (be b 4 1) (be b 5 1))))

/-- PROBE_REPLY arrives (R280): a round trip of the 64-byte class less the replier's turnaround, whose length is a free value (log 5), and
the spacing of the 4,096-byte replies. -/
def execProbeReply (mac : Nat) (p : Pkt) (s : State) : Host.Outcome State Fault Refusal :=
  .next (s.rxCtrl mac 0xED p probeOk (fun s b =>
    let port := be b 4 1
    let cls := be b 5 1
    let now := s.clk.tai.ns
    match s.probes.find? (fun q => q.1 = port && q.2.1 = p.srcDev && q.2.2.1 = cls && q.2.2.2.1 = be b 0 4) with
    | none => s
    | some q =>
      let s := { s with probes := s.probes.filter (fun r => r != q) }
      if cls = 0 then
        let rtt := now - q.2.2.2.2
        let lat := rtt - Config.freeValue s.fresh % (rtt + 1)
        s.draw.measure port p.srcDev (fun l => { l with latencyNs := if l.timed then min l.latencyNs lat else lat, timed := true })
      else if cls = 2 then
        let last := s.probeLast.find (port * 65536 + p.srcDev)
        let s := { s with probeLast := s.probeLast.set (port * 65536 + p.srcDev) now }
        match last with
        | some t =>
          if t < now then
            let len := frameLen ((s.port port).encap = 1) false true (hdrOf 0xED p)
            s.measure port p.srcDev (fun l => { l with gbps := max l.gbps (len * 8 / (now - t)) })
          else s
        | none => s
      else s))

/-! ## The end of a control message -/

/-- CTRL_ACK arrives: the message's retransmission ends; the flow whose OPEN_ACCEPT it acknowledges enters OPEN (R275, R277). -/
def execCtrlAck (mac : Nat) (p : Pkt) (s : State) : Host.Outcome State Fault Refusal :=
  let h := hdrOf 0xEF p
  let len := frameLen ((s.port (mac / 4)).encap = 1) false true h
  let s := (s.countRx mac 0 len).occupy mac 0 len
  if p.hcrc ≠ hcrcOf h then .next (s.countFab 0)
  else if ¬ hdrOk h ∨ ¬ extOk 0xEF p.ext ∨ p.payload ≠ [] then .next (s.countFab 1)
  else if p.dstDev ≠ s.deviceId ∨ p.dstFlow ≠ 0 then .next (s.countFab 2)
  else
    let id := be p.ext 0 4
    match s.ctrl.find? (fun m => m.peer = p.srcDev && m.msgId = id && m.attempts != 0) with
    | none => .next s
    | some m =>
      let s := s.endCtrl p.srcDev id
      if m.op ≠ 0xE1 then .next s
      else
        let f := be m.body 4 4
        let fl := s.flow f
        if fl.state != FlowState.opening then .next s
        else
          let s := s.setFlow f { fl with state := .open_, progressNs := s.clk.tai.ns, intStartNs := s.clk.tai.ns }
          .next (if fl.planning then
              s.updJob fl.ctx (fun j => { j with plan := { j.plan with opened := j.plan.opened ++ [fl.peer] } })
            else s)

/-- A peer is unreachable (R275): every flow to it times out, a flow still opening returns to CLOSED, and the T3 tiles it lends are lost
(R216). -/
def State.unreachable (s : State) (peer : Nat) : State :=
  let fs := (s.flows.filter (fun e => e.2.peer = peer)).map (fun e => e.1)
  let s := fs.foldl (fun s f => if (s.flow f).state == FlowState.opening then s.dropFlow f else s.failFlow f) s
  let ws := (s.ctxs.flatMap (fun e => (e.2.t3.filter (fun w => w.lender = peer)).map (fun w => w.window))).eraseDups
  let s := ws.foldl (fun s w => s.loseWindow 0x08 peer w) s
  { s with ctrl := s.ctrl.filter (fun m => m.peer != peer) }

/-- A control message unacknowledged for 1 ms is sent again; after 10 attempts its peer is unreachable (R275). -/
def execCtrlRetransmitTimeout (peer msgId : Nat) (s : State) : Host.Outcome State Fault Refusal :=
  match s.ctrl.find? (fun m => m.peer = peer && m.msgId = msgId && m.attempts != 0) with
  | none => .next s
  | some m =>
    let s := s.toTai m.dueNs
    if 10 ≤ m.attempts then .next (s.unreachable peer)
    else
      let s := { s with ctrl := s.ctrl.map (fun (k : CtrlMsg) =>
        if k.peer = peer ∧ k.msgId = msgId then { k with attempts := k.attempts + 1, dueNs := m.dueNs + 1000000 } else k) }
      .next ((s.emitCtrl peer msgId m.op m.body).countFab 14)

end Sys2Proof.Machine
end

