-- ==== Sys2Proof/Machine/Ports.lean ====
section
/-! DEFINITION. Ports, MACs, lanes and time (chapter 08): flow control (R289 to R293), scheduled windows (R294), LLDP and low-power idle (R295,
R296), the PTP clock and the PPS signals (R297 to R301, R552), and the re-calibration and retirement of lanes (R302 to R305). -/

namespace Sys2Proof.Machine

/-! ## Frames for the gaffer and dropped frames -/

/-- A frame for the gaffer is counted at priority 0 with the shortest length (log 20). -/
def State.countGaffer (s : State) (mac : Nat) : State := s.countRx mac 0 64

/-- The headers of an address-resolution frame of a port: tagged when the port has a VLAN (R237). -/
def State.ipWrap (s : State) (m dmac etherType : Nat) : Wrap :=
  { plainWrap m dmac etherType with tag := if (s.port (m / 4)).vlan = 0 then none else some (0, (s.port (m / 4)).vlan) }

/-- A port in UDP mode resolves its one configured next hop (R238): an ARP request or a neighbour solicitation leaves on its first MAC with link, and
the address that answers, which no row of the commands carries, is a free value (log 83). -/
def State.resolveHop (s : State) (p : Nat) : State :=
  let pt := s.port p
  match s.upMacs p with
  | [] => s
  | m :: _ =>
    if pt.encap ≠ 1 ∨ pt.nextHop = 0 then s
    else
      let v6 : Bool := pt.nextHop / 2 ^ 128 != 4
      let ip := pt.nextHop % 2 ^ 128
      let s := s.updPort p (fun t => { t with hopMac := Config.hopMac t.nextHop })
      s.enqueue m 0 { body := .resolve v6 ip, len := if v6 then 90 else 64
                      wrap := s.ipWrap m (if v6 then 0x3333FF000000 + ip % 2 ^ 24 else 0xFFFFFFFFFFFF) (if v6 then 0x86DD else 0x0806) }

/-- An ARP request for the port's own IPv4 address is answered (R238). -/
def execArpRequest (mac targetIp senderIp senderMac : Nat) (s : State) : Host.Outcome State Fault Refusal :=
  let pt := s.port (mac / 4)
  let s := s.countGaffer mac
  if pt.encap = 1 ∧ pt.ownIp = 4 * 2 ^ 128 + targetIp then
    .next (s.enqueue mac 0 { body := .arp targetIp senderIp senderMac, len := 64, wrap := s.ipWrap mac senderMac 0x0806 })
  else .next s

/-- An IPv6 neighbour solicitation for the port's own address is answered (R238). -/
def execNeighbourSolicitation (mac targetIp senderIp senderMac : Nat) (s : State) : Host.Outcome State Fault Refusal :=
  let pt := s.port (mac / 4)
  let s := s.countGaffer mac
  if pt.encap = 1 ∧ pt.ownIp = 6 * 2 ^ 128 + targetIp then .next (s.enqueue mac 0 { body := .neighbour targetIp senderIp senderMac, len := 90, wrap := s.ipWrap mac senderMac 0x86DD })
  else .next s

/-- A frame that no unit takes is dropped and counted (R236 to R238, R285, R289, R291). -/
def execUnhandledFrame (mac : Nat) (why : DropCause) (s : State) : Host.Outcome State Fault Refusal :=
  .next (match why with
    | .badFcs | .badLength | .etherType | .secondTag => s.countMac mac 32 1
    | .encapsulation => s.countFab 6
    | .udpChecksum => s.countFab 7
    | .ip => s.countFab 8
    | .controlConfig _ => s.countMac mac 32 1
    | .bufferFull => s.countMac mac 33 1)

/-! ## Pause -/

/-- The MAC of a flow's path. -/
def State.txMac (s : State) (fl : Flow) (t : TxPkt) : Option Nat := s.pathMac fl t.path

/-- The timers of a MAC's packets at a priority did not run from a to b, and neither did the progress of their flows (R264, R265, R294). -/
def State.excuse (s : State) (m q a b : Nat) : State :=
  let shift (t : Nat) : Nat := if t < b then t + (b - max a t) else t
  { s with flows := s.flows.vals (fun _ (fl : Flow) =>
    if fl.queue = q ∧ fl.tx.any (fun t => s.txMac fl t = some m) then
      { fl with
        progressNs := shift fl.progressNs
        tx := fl.tx.map (fun (t : TxPkt) => if s.txMac fl t = some m then { t with sentAt := t.sentAt.map shift } else t) }
    else fl) }

/-- Nanoseconds of a number of cycles (20/21 ns each). -/
def nsOfCycles (n : Nat) : Nat := n * 20 / 21

/-- The pause of a priority ends now: its cycles are counted and its packets' timers excused (R264, R306). -/
def State.endPause (s : State) (m q : Nat) : State :=
  let c := s.mac m
  match c.paused.find q with
  | none => s
  | some e =>
    let upto := min e s.clk.cycle
    let from_ := c.pausedFrom.getOr q upto
    let s := (s.setMac m { c with paused := c.paused.del q, pausedFrom := c.pausedFrom.del q, pauseAll := c.pauseAll && decide (1 < c.paused.length) }).countMac m
      (52 + q) (upto - from_)
    let now := s.clk.tai.ns
    s.excuse m q (now - nsOfCycles (s.clk.cycle - from_)) (now - nsOfCycles (s.clk.cycle - upto))

/-- Cycles of n pause quanta at a rate in Mb/s (R290). -/
def quantaCycles (rate n : Nat) : Nat := if rate = 0 then 0 else ceilDiv (n * 512 * 1000 * 21) (rate * 20)

/-- A control frame sets the remaining pause of a priority; quanta 0 ends it at once (R290). -/
def State.setPause (s : State) (m q n : Nat) : State :=
  let s := s.endPause m q
  if n = 0 then s
  else
    s.updMac m (fun c => { c with
      paused := c.paused.set q (s.clk.cycle + quantaCycles c.rateMbps n), pausedFrom := c.pausedFrom.set q s.clk.cycle
      window := if q = 6 then c.window.map (fun (w : OpenWin) => { w with paused := true }) else c.window })

/-- PAUSE received (R289, R290). -/
def execPauseFrame (mac quanta : Nat) (s : State) : Host.Outcome State Fault Refusal :=
  if (s.port (mac / 4)).flowctl ≠ 1 then .next (s.countMac mac 32 1)
  else
    let s := (List.range 8).foldl (fun s q => s.setPause mac q (quanta % 65536)) (s.countMac mac 42 1)
    let s := s.updMac mac (fun c => { c with pauseAll := quanta % 65536 != 0 })
    .next (if quanta % 65536 = 0 then s.pumpAll else s)

/-- PFC received (R289, R290): every priority whose enable bit is set. -/
def execPfcFrame (mac enable : Nat) (quanta : List Nat) (s : State) : Host.Outcome State Fault Refusal :=
  if (s.port (mac / 4)).flowctl ≠ 2 then .next (s.countMac mac 32 1)
  else
    .next ((List.range 8).foldl (fun s q =>
      if bit enable q then (s.countMac mac (34 + q) 1).setPause mac q (quanta.getD q 0 % 65536) else s) s).pumpAll

/-- The pause time of a priority runs out (R290, R293). -/
def execPauseExpiry (mac prio : Nat) (s : State) : Host.Outcome State Fault Refusal :=
  match (s.mac mac).paused.find prio with
  | none => .next s
  | some e => .next ((s.toCycle e).endPause mac prio).pumpAll

/-- The occupancy stays above XON: PFC with quanta 0xFFFF is repeated after 40 % of the pause time (R291). -/
def execPfcRepeat (mac prio : Nat) (s : State) : Host.Outcome State Fault Refusal :=
  let c := s.mac mac
  match c.xoffSent.find prio with
  | none => .next s
  | some at_ =>
    if c.rxOcc.getOr prio 0 ≤ (s.port (mac / 4)).xon.getD prio 0 then .next s
    else
      let s := s.toCycle (at_ + quantaCycles c.rateMbps 0xFFFF * 2 / 5)
      let s := s.emit (.frame mac (pfcFrameFor mac prio 0xFFFF))
      .next ((s.updMac mac (fun c => { c with xoffSent := c.xoffSent.set prio s.clk.cycle })).countMac mac (43 + prio) 1)

/-- The occupancy falls below XON: PFC with quanta 0 (R291). How far it has fallen is a free value (log 5). -/
def execPfcXonSend (mac prio : Nat) (s : State) : Host.Outcome State Fault Refusal :=
  let c := s.mac mac
  if ¬ c.xoffSent.has prio then .next s
  else
    let xon := (s.port (mac / 4)).xon.getD prio 0
    let occ := if xon = 0 then 0 else min (c.rxOcc.getOr prio 0) (Config.freeValue s.fresh % xon)
    let s := s.draw.setMac mac { c with rxOcc := c.rxOcc.set prio occ, xoffSent := c.xoffSent.del prio }
    .next ((s.emit (.frame mac (pfcFrameFor mac prio 0))).countMac mac (43 + prio) 1)

/-! ## Scheduled windows -/

/-- A WINDOW entry of a running job. -/
def State.windowOf (s : State) (x i : Nat) : Option EvtEntry :=
  let j := (s.ctx x).job
  if j.phase ≠ 4 then none else match j.entry i with | some e => if e.type = 2 then some e else none | none => none

/-- A scheduled window starts on its MAC (R294, R323); the flows of its collective take the window rate (R270). -/
def execWindowOpen (ctx entry : Nat) (s : State) : Host.Outcome State Fault Refusal :=
  match s.windowOf ctx entry with
  | none => .next s
  | some e =>
    let j := (s.ctx ctx).job
    if !s.evTurn ctx 4 entry (j.atOff e.startOff) then .next s
    else
    let s := (s.toTai (j.atOff e.startOff)).evMark ctx 4 entry
    let m := e.mac
    let s := s.leaveLpi m
    let s := s.excuse m 6 (s.mac m).winClosedNs s.clk.tai.ns
    let s := s.updMac m (fun c => { c with window := some { ctx := ctx, entry := entry, coll := e.collId, endNs := j.atOff e.endOff, rate := e.rate
                                                            paused := decide (s.clk.cycle < c.paused.getOr 6 0) } })
    let fs := match (s.ctx ctx).colls.find e.collId with | some r => r.members.map (fun (p : Nat × Nat) => p.2) | none => []
    let s := { s with flows := s.flows.vals (fun f (fl : Flow) =>
      if fs.contains f ∧ (List.range fl.paths.length).any (fun i => s.pathMac fl i = some m) then { fl with rateCur := e.rate, rateTgt := e.rate } else fl) }
    .next s.pumpAll

/-- A scheduled window ends (R294): frames left over wait for the next slot, and a missed window is counted and logged when pause took
place during it. -/
def execWindowClose (ctx entry : Nat) (s : State) : Host.Outcome State Fault Refusal :=
  match s.windowOf ctx entry with
  | none => .next s
  | some e =>
    match (s.mac e.mac).window with
    | none => .next s
    | some w =>
      if w.ctx ≠ ctx ∨ w.entry ≠ entry ∨ !s.evTurn ctx 1 entry w.endNs then .next s
      else
        let s := s.toTai w.endNs
        let left := !((s.mac e.mac).queues.getOr 6 []).isEmpty
        let s := s.updMac e.mac (fun c => { c with window := none, winClosedNs := s.clk.tai.ns })
        .next (if left && w.paused then ((s.count ctx 189 1).countMac e.mac 60 1).event 0x0002 1 ctx [e.mac, w.coll] else s)

/-! ## LLDP and low-power idle -/

/-- The port lanes that a MAC of a port uses, as bits. -/
def State.lanesUp (s : State) (p : Nat) : Nat := (s.port p).lanesUp

/-- The firmware revision of the running slot. -/
def Life.fwRev (l : Life) : Nat := match l.slotImages[l.slot]? with | some i => i.revision | none => 0

/-- Every 30 s each MAC sends LLDP on queue 0 (R295); its length is the model's (log 20). Bit 7 of the encapsulation byte is the debug
level (R487). -/
def execLldpTransmit (mac : Nat) (s : State) : Host.Outcome State Fault Refusal :=
  let c := s.mac mac
  if ¬ c.up then .next s
  else
    let s := if c.lldpNs = 0 then s else s.toTai (c.lldpNs + 30000000000)
    let s := s.updMac mac (fun c => { c with lldpNs := s.clk.tai.ns })
    let pt := s.port (mac / 4)
    .next (s.enqueue mac 0 {
      body := .lldp {
        chassis := macAddr 0, portId := macAddr mac, sysName := Config.systemName, oui := Config.oui, device := s.deviceId, port := mac / 4, mac := mac
        lanesUp := pt.lanesUp, encap := pt.encap + (if s.life.debug = 2 then 128 else 0), fwRev := s.life.fwRev }
      len := 128, wrap := plainWrap mac 0x0180C200000E 0x88CC })

/-- An LLDPDU is received: the MAC's neighbour entry, and the flag and the event of several neighbours within a TTL of 120 s (R295). -/
def execLldpdu (mac : Nat) (n : LldpInfo) (s : State) : Host.Outcome State Fault Refusal :=
  let s := s.countGaffer mac
  let c := s.mac mac
  let now := s.clk.tai.ns
  let live := decide (now < c.neighbourNs + 120000000000)
  let clash := live && (match c.neighbour with | some o => o.chassis != n.chassis || o.port != n.port || o.mac != n.mac | none => false)
  let s := s.setMac mac { c with neighbour := some n, neighbourNs := now, partnerWakeUs := n.eeeWakeUs, several := clash || (c.several && live) }
  .next (if clash && !c.several then s.event 0x0008 1 noCtx [mac] else s)

/-- A window of the MAC begins within n nanoseconds from now. -/
def State.windowNear (s : State) (m n : Nat) : Bool :=
  s.ctxs.any (fun e => (List.range e.2.job.events.length).any (fun i =>
    match s.windowOf e.1 i with
    | some w => w.mac = m && decide (s.clk.tai.ns ≤ e.2.job.atOff w.startOff ∧ e.2.job.atOff w.startOff ≤ s.clk.tai.ns + n)
    | none => false))

/-- The queues and the port's forwarding buffer have been empty for the idle hold: the transmitter enters low-power idle (R296). -/
def execLpiEntry (mac : Nat) (s : State) : Host.Outcome State Fault Refusal :=
  let c := s.mac mac
  let pt := s.port (mac / 4)
  if ¬ pt.eee ∨ c.partnerWakeUs.isNone ∨ ¬ c.up ∨ c.lpiTx ∨ c.retrainFrom.isSome ∨ ¬ c.queues.all (fun q => q.2.isEmpty) ∨ s.fwdBytes (mac / 4) ≠ 0 then
    .next s
  else
    let s := s.toCycle (c.idleSince + cyclesOfNs (pt.idleHoldUs * 1000))
    if s.windowNear mac (c.wakeNs + 2000) then .next s
    else .next ((s.updMac mac (fun c => { c with lpiTx := true, lpiFrom := s.clk.cycle })).countMac mac 61 1)

/-- Tw plus 1 µs before a window the transmitter leaves low-power idle (R296). -/
def execLpiWakeForWindow (mac ctx entry : Nat) (s : State) : Host.Outcome State Fault Refusal :=
  match s.windowOf ctx entry with
  | none => .next s
  | some e =>
    if e.mac ≠ mac ∨ ¬ (s.mac mac).lpiTx then .next s
    else .next ((s.toTai ((s.ctx ctx).job.atOff e.startOff - (s.mac mac).wakeNs - 1000)).leaveLpi mac)

/-! ## Time -/

/-- Some job runs (R300). -/
def State.jobRuns (s : State) : Bool := s.ctxs.any (fun e => e.2.job.phase = 4)

/-- The servo takes an offset from its master (R300): a frequency change of at most 200 ppm while a job runs, with a time fault above 1 ms;
else a step above 1 µs. -/
def State.servo (s : State) (off : Int) (ppb : Int) : State :=
  let f := max (-200000) (min 200000 ppb)
  let c := s.clk
  if s.jobRuns then
    let bad := decide (1000000 < off.natAbs)
    let s' := { s with clk := { c with offsetNs := off, freqPpb := f, ptpState := if bad then 3 else 1 } }
    if bad ∧ c.ptpState ≠ 3 then s'.event 0x0005 2 noCtx [ofSigned 64 off] else s'
  else if 1000 < off.natAbs then
    { s with clk := { c with offsetNs := 0, ptpState := 1, tai := { c.tai with ns := ((c.tai.ns : Int) - off).toNat } } }
  else { s with clk := { c with offsetNs := off, freqPpb := f, ptpState := 1 } }

/-- The offset of a Sync's timestamp from its origin on a port, by which the servo corrects the clock after the mean path delay is taken off
(R299, R300). -/
def State.followSync (s : State) (p : Nat) (m : PtpMsg) (off : Int) : State :=
  let s := s.updPtp p (fun q => { q with syncRx := none, offNs := some off })
  { s with clk := { s.clk with masterId := m.clock, holdErrNs := 0 } }.servo (off - (s.clk.ptp.getOr p {}).delayNs) m.freqPpb

/-- A PTP message is received and timestamped by its MAC (R298 to R300; IEEE 1588-2019): an Announce may change the port's master, a Sync of that master,
with its Follow_Up when it has two steps, drives the servo, a request is answered, and a response gives the mean path delay. -/
def execPtpMessage (mac : Nat) (m : PtpMsg) (s : State) : Host.Outcome State Fault Refusal :=
  let s := s.countGaffer mac
  let p := mac / 4
  let now := s.ptpStamp p
  let q := s.clk.ptp.getOr p {}
  if m.domain ≠ s.clk.domain then .next s
  else
    match m.body with
    | .announce d => .next (s.hearMaster p m d)
    | .sync (some t) => if s.clk.follows p m then .next (s.followSync p m (now - t)) else .next s
    | .sync none => if s.clk.follows p m then .next (s.updPtp p (fun q => { q with syncRx := some now })) else .next s
    | .followUp t =>
      match q.syncRx with
      | some r => if s.clk.follows p m then .next (s.followSync p m (r - t)) else .next s
      | none => .next s
    | .delayReq => if s.clk.ptpRole p = .master then .next (s.sendPtp mac (.delayResp m.clock m.port) now) else .next s
    | .delayResp t k n =>
      match q.offNs, q.reqNs with
      | some off, some sent =>
        if forPort p k n ∧ s.clk.follows p m then .next (s.updPtp p (fun q => { q with delayNs := (off + (t - sent)) / 2 })) else .next s
      | _, _ => .next s
    | .pdelayReq => .next (s.sendPtp mac (.pdelayResp now m.clock m.port) 0)
    | .pdelayResp r o k n =>
      match q.reqNs with
      | some sent => if forPort p k n then .next (s.updPtp p (fun q => { q with delayNs := ((now - sent) - (o - r)) / 2 })) else .next s
      | none => .next s

/-- The Sync or Delay_Req interval of a port expires (R299): a master sends Sync, a slave Delay_Req, on queue 7. -/
def execPtpSyncTimer (port : Nat) (s : State) : Host.Outcome State Fault Refusal :=
  let s := match (s.clk.ptp.getOr port {}).sentNs with | some t => s.toTai (t + s.clk.timerNs port) | none => s
  let s := s.updPtp port (fun q => { q with sentNs := some s.clk.tai.ns })
  match s.upMacs port, s.clk.timerMsg port with
  | m :: _, some k => .next (s.sendPtp m k 0)
  | _, _ => .next s

/-- Every master is lost: no port follows one any more, and the clock holds over, which is logged (R300). -/
def execPtpHoldoverEntry (errNs : Nat) (s : State) : Host.Outcome State Fault Refusal :=
  let held := decide (s.clk.ptpState = 2)
  let s := { s with clk := { s.clk with ptpState := 2, holdErrNs := errNs, ptp := s.clk.ptp.vals (fun _ (q : PtpPort) => { q with foreign := [] }) } }
  .next (if held then s else s.event 0x0005 1 noCtx [errNs])

/-- Whether an edge lies within 100 µs of 1 s after another (R552). -/
def oneSecond (a b : Nat) : Bool := decide (a + 999900000 ≤ b ∧ b ≤ a + 1000100000)

/-- A rising edge on PPS_IN (R301, R552): it qualifies the pulse, or is stray. As a time source it defines the whole second. -/
def execPpsInEdge (taiNs : Nat) (s : State) : Host.Outcome State Fault Refusal :=
  let s := s.toTai taiNs
  let c := s.clk
  let good : Bool := match c.ppsInLast with | some t => oneSecond t taiNs | none => false
  if c.ppsInPresent ∧ ¬ good then .next { s with clk := { c with ppsInStray := c.ppsInStray + 1 } }
  else
    let s := { s with clk := { c with
      ppsInLast := some taiNs, ppsInPresent := good, clockClass := if good ∧ c.ppsInSource then 6 else c.clockClass
      ppsNextEdgeS := if c.ppsInSource then c.ppsNextEdgeS + 1 else c.ppsNextEdgeS } }
    if good ∧ c.ppsInSource then .next (s.servo ((taiNs : Int) - (c.ppsNextEdgeS * 1000000000 : Nat)) c.freqPpb) else .next s

/-- No qualifying edge for 2 s (R301, R552). -/
def execPpsInLost (s : State) : Host.Outcome State Fault Refusal :=
  match s.clk.ppsInLast with
  | none => .next s
  | some t =>
    if ¬ s.clk.ppsInPresent then .next s
    else
      let s := s.toTai (t + 2000000000)
      .next { s with clk := { s.clk with ppsInPresent := false, ppsInLast := none, clockClass := 248 } }

/-- At a whole TAI second PPS_OUT rises for 100 ms, unless the PPS command has disabled it (R301, R552). -/
def execPpsOutSecond (s : State) : Host.Outcome State Fault Refusal :=
  let t := (s.clk.tai.ns / 1000000000 + 1) * 1000000000
  let s := s.toTai t
  if s.clk.ppsOutEnabled then .next { s with clk := { s.clk with ppsOutHighUntil := t + 100000000 } } else .next s

/-! ## Lanes -/

/-- The port lanes of a MAC in a mode, as bits (R281). -/
def modeLanes (mode m : Nat) : Nat :=
  if mode = 0 then 15 else if mode = 1 then (if m % 4 = 0 then 3 else 12) else if mode = 2 then 2 ^ (m % 4) else 0

/-- The lanes of a set of bits, in order. -/
def laneList (bs : Nat) : List Nat := (List.range 4).filter (fun i => bit bs i)

/-- The MAC that a lane of the module carries, when it has link. -/
def State.laneMac (s : State) (lane : Nat) : Option Nat :=
  (portMacs (s.port (lane / 4)).mode (lane / 4)).find? (fun m => bit (s.mac m).lanes (lane % 4))

/-- Lane l starts a re-calibration for one of the causes of R302; never more than one lane of the module at once. -/
def execLaneRecalStart (lane : Nat) (why : RecalCause) (s : State) : Host.Outcome State Fault Refusal :=
  let l := s.lane lane
  match s.recal, s.laneMac lane with
  | none, some m =>
    match why with
    | .period =>
      let s := s.toTai (l.calNs + s.recalPeriodS * 1000000000)
      .next { s with recal := some (lane, s.clk.cycle) }
    | .temperature centi =>
      if (centi - l.calCenti).natAbs < 1000 then .next s
      else .next ({ s with recal := some (lane, s.clk.cycle) }.updLane lane (fun l => { l with calCenti := centi }))
    | .errorRatio =>
      let i := ((laneList (s.mac m).lanes).zip (s.mac m).ratioPpb).find? (fun p => p.1 = lane % 4)
      if (match i with | some p => decide (1000 < p.2) | none => false) then .next { s with recal := some (lane, s.clk.cycle) } else .next s
  | _, _ => .next s

/-- The new coefficients take effect at a codeword boundary (R302). -/
def execLaneRecalApply (lane : Nat) (s : State) : Host.Outcome State Fault Refusal :=
  match s.recal with
  | none => .next s
  | some (l, _) =>
    if l ≠ lane then .next s
    else
      let s := { s with recal := none }.updLane lane (fun l => { l with calNs := s.clk.tai.ns, recalibrated := true })
      match s.laneMac lane with
      | some m => .next (s.countMac m 69 1)
      | none => .next s

/-- The partner of a MAC is a BX1: its LLDP carried the Skovgal TLV, which names a device (R295, R304). -/
def Mac.bx1 (c : Mac) : Bool := match c.neighbour with | some n => decide (n.device < 65535) | none => false

/-- The lanes that a MAC keeps when it loses port lane i (R304); 0 when it goes down. -/
def lowerLanes (bx1 : Bool) (lanes i : Nat) : Nat :=
  let l := laneList lanes
  let first := l.headD 0
  if l.length = 4 then (if bx1 then (if i < 2 then 12 else 3) else if i < 2 then 0 else 3)
  else if l.length = 2 then
    let other := (l.filter (fun j => j != i)).headD 0
    if bx1 ∨ other = first then 2 ^ other else 0
  else 0

/-- rate_max of every flow that uses a MAC follows the widths of its path set (R269, R305). -/
def State.reRate (s : State) : State :=
  { s with flows := s.flows.vals (fun _ (fl : Flow) =>
    let r : Rat := s.pathRate fl.peer fl.paths
    { fl with rateMax := r, rateCur := min fl.rateCur r, rateTgt := min fl.rateTgt r }) }

/-- The frames of a MAC that is down leave its queues; a packet among them is sent again on another path. -/
def State.flushMac (s : State) (m : Nat) : State :=
  let fr := (s.mac m).queues.flatMap (fun q => q.2)
  let s := s.updMac m (fun c => { c with queues := [], origTurn := [] })
  fr.foldl (fun s f =>
    match f.body with
    | .zalnis h =>
      if f.forwarded ∨ f.flow = 0 then s
      else s.updFlow f.flow (fun fl => { fl with tx := fl.tx.map (fun (t : TxPkt) => if t.psn = h.p.psn then { t with queued := false } else t) })
    | _ => s) s

/-- A MAC goes down (R305 step 4): its port leaves the forwarding entries and the path sets, and the event is logged. -/
def State.macDown (s : State) (m lane : Nat) : State :=
  let p := m / 4
  let s := s.flushMac m
  let s := s.updMac m (fun c => { c with up := false, lanes := 0, rateMbps := 0, retrainFrom := none, lpiTx := false, window := none })
  let used := (portMacs (s.port p).mode p).foldl (fun a k => a ||| (s.mac k).lanes) 0
  let s := s.updPort p (fun pt => { pt with lanesUp := used })
  let s := { s with fwd := s.fwd.vals (fun _ (e : FwdEntry) => { e with ports := e.ports.filter (fun q => q != p) }) }
  let s := { s with flows := s.flows.vals (fun _ (fl : Flow) =>
    if (match s.fwd.find fl.peer with | some e => !e.ports.isEmpty | none => false) then fl
    else { fl with paths := fl.paths.filter (fun q => q.port != p) }) }
  (s.reRate.event 0x0009 2 noCtx [p, lane]).pumpAll

/-- The cullet entry of a retired or admitted lane (R232, R303, R305). -/
def State.laneCullet (s : State) (p lane action : Nat) : State :=
  s.addCullet { type := 8, action := action, index := p, location := lane, spare := 4294967295, causeSeq := 4294967295, timeNs := s.clk.tai.ns }

/-- The lane repair handle that waits for a lane (R458). -/
def State.laneHandle (s : State) (lane status : Nat) : State :=
  match s.handles.find? (fun h => h.2.op = 0x0E && h.2.arg = lane && h.2.arg2 = 0 && !h.2.fin) with
  | some h => (s.progress1 h.1).finish h.1 status
  | none => s

/-- A lane is retired (R303 to R305): its MAC starts no further frame and renegotiates at the lower width, or goes down when there is none. -/
def State.retireLane (s : State) (lane : Nat) : State :=
  match s.laneMac lane with
  | none => s
  | some m =>
    let c := s.mac m
    if c.retrainFrom.isSome then s
    else if lowerLanes c.bx1 c.lanes (lane % 4) = 0 then
      let s := s.updPort (m / 4) (fun pt => { pt with retired := pt.retired ||| 2 ^ (lane % 4) })
      ((s.laneCullet (m / 4) (lane % 4) 0).macDown m (lane % 4)).laneHandle lane 0
    else s.setMac m { c with retrainFrom := some s.clk.cycle, retrainLane := lane % 4 }

/-- The retraining of a MAC ends: its cycles are counted, and up to 1 s of it counts as paused time (R305, R306). -/
def State.endRetrain (s : State) (m : Nat) : State :=
  match (s.mac m).retrainFrom with
  | none => s
  | some a =>
    let now := s.clk.tai.ns
    let start := now - nsOfCycles (s.clk.cycle - a)
    let s := (s.updMac m (fun c => { c with retrainFrom := none })).countMac m 70 (s.clk.cycle - a)
    (List.range 8).foldl (fun s q => s.excuse m q start (min now (start + 1000000000))) s

/-- The time without lock of the lanes of a MAC ends now: its packets' timers did not run (R264, R265). -/
def State.endLoss (s : State) (m : Nat) : State :=
  let from_ := (laneList (s.mac m).lanes).filterMap (fun i => (s.lane (m / 4 * 4 + i)).lostNs)
  match from_ with
  | [] => s
  | a :: l => (List.range 8).foldl (fun s q => s.excuse m q (l.foldl min a) s.clk.tai.ns) s

/-- Link-up at the lower width (R305 step 3). -/
def execLinkUpAfterRetirement (mac : Nat) (s : State) : Host.Outcome State Fault Refusal :=
  let c := s.mac mac
  let p := mac / 4
  if c.retrainFrom.isNone then .next s
  else
    let l := lowerLanes c.bx1 c.lanes c.retrainLane
    let s := s.endRetrain mac
    let s := s.endLoss mac
    let s := (laneList l).foldl (fun s i => s.updLane (4 * p + i) (fun v => { v with lostNs := none })) s
    let s := s.updMac mac (fun c => { c with lanes := l, rateMbps := 100000 * (laneList l).length })
    let used := (portMacs (s.port p).mode p).foldl (fun a k => a ||| (s.mac k).lanes) 0
    let s := s.updPort p (fun pt => { pt with retired := pt.retired ||| 2 ^ c.retrainLane, lanesUp := used })
    let s := (s.laneCullet p c.retrainLane 0).event 0x0009 2 noCtx [p, c.retrainLane]
    .next (s.reRate.laneHandle (4 * p + c.retrainLane) 0).pumpAll

/-- Link-up has not come within 1 s: the MAC is down (R305 step 4). -/
def execRetrainingTimeout (mac : Nat) (s : State) : Host.Outcome State Fault Refusal :=
  let c := s.mac mac
  match c.retrainFrom with
  | none => .next s
  | some a =>
    let s := (s.toCycle (a + 1050000000)).endRetrain mac
    .next ((s.macDown mac c.retrainLane).laneHandle (4 * (mac / 4) + c.retrainLane) 0x25)

/-- The counters of a 1 s window of FEC statistics, and the ratio of each lane (R306). -/
def State.fecCount (s : State) (mac : Nat) (st : FecStats) : State :=
  let ls := laneList (s.mac mac).lanes
  let s := (s.countMac mac 63 st.corrected).countMac mac 64 st.uncorrectable
  let s := (ls.zip st.symErrors).foldl (fun s (e : Nat × Nat) => s.countMac mac (65 + e.1) e.2) s
  s.updMac mac (fun c => { c with ratioPpb := st.ratioPpb })

/-- The lane that a window's statistics retire (R303): re-calibrated and above the ratio of 10⁻⁴, or alone in error with more than 10
uncorrectable codewords. -/
def State.fecBad (s : State) (mac : Nat) (st : FecStats) : Option Nat :=
  let ls := laneList (s.mac mac).lanes
  ls.find? (fun i =>
    let k := (ls.takeWhile (fun j => j != i)).length
    ((s.lane (4 * (mac / 4) + i)).recalibrated && decide (100000 < st.ratioPpb.getD k 0))
      || (decide (10 < st.uncorrectable) && decide (0 < st.symErrors.getD k 0)
          && (List.range ls.length).all (fun j => j == k || st.symErrors.getD j 0 == 0)))

/-- A 1 s window of FEC statistics (R303, R306): it is counted and judged. -/
def execFecMonitorWindow (mac : Nat) (st : FecStats) (s : State) : Host.Outcome State Fault Refusal :=
  match s.fecBad mac st with
  | some i => .next ((s.fecCount mac st).retireLane (4 * (mac / 4) + i))
  | none => .next (s.fecCount mac st)

/-- A lane loses lock: it carries nothing until it has lock again with the next link-up, and the third loss within one hour retires it (R283, R303). -/
def execLaneLockLoss (lane : Nat) (s : State) : Host.Outcome State Fault Refusal :=
  let now := s.clk.tai.ns
  let s := s.updLane lane (fun l => { l with lostNs := some (l.lostNs.getD now), lockLoss := l.lockLoss.filter (fun t => decide (now < t + hourNs)) ++ [now] })
  if 3 ≤ (s.lane lane).lockLoss.length then .next (s.retireLane lane) else .next s

/-- A port is down: its status word reads MODE 3 (R283); in standby every port is (R513). -/
def State.portDown (s : State) (p : Nat) : Bool := !(s.port p).adminUp || (s.port p).mode == 3 || s.power.state == PowerState.standby

/-- The lanes on which a MAC of a port gains link: all those of its mode (R281), or, where some of them are retired, those that R304 leaves; none when one
of them has not trained. -/
def Port.linkLanes (pt : Port) (bx1 : Bool) (lanes m : Nat) : Nat :=
  let full := modeLanes pt.mode m
  let left := (laneList full).foldl (fun a i => if bit pt.retired i && bit a i then lowerLanes bx1 a i else a) full
  if (laneList left).all (fun i => bit lanes i && !bit pt.retired i) then left else 0

/-- A MAC gains link on its lanes. -/
def State.linkMac (s : State) (m use : Nat) : State :=
  let s := s.endLoss m
  let s := (laneList use).foldl (fun s i => s.updLane (m / 4 * 4 + i) (fun l => { l with lostNs := none, calNs := s.clk.tai.ns, recalibrated := false })) s
  s.updMac m (fun c => { c with
    up := true, lanes := use, rateMbps := 100000 * (laneList use).length, retrainFrom := none, creditAt := s.clk.cycle, idleSince := s.clk.cycle })

/-- Auto-negotiation and training of a port complete: its MACs gain link on the lanes that trained (R281, R283, R284), and a UDP-mode port resolves its
next hop (R238). -/
def execLinkUp (port macs lanes : Nat) (s : State) : Host.Outcome State Fault Refusal :=
  let pt := s.port port
  if s.portDown port ∨ s.start.inReset then .next s
  else
    let s := (portMacs pt.mode port).foldl (fun s m =>
      let use := pt.linkLanes (s.mac m).bx1 lanes m
      if bit macs (m % 4) ∧ use ≠ 0 then s.linkMac m use else s) s
    let used := (portMacs pt.mode port).foldl (fun a k => a ||| (s.mac k).lanes) 0
    let s := s.updPort port (fun pt => { pt with lanesUp := used })
    .next (s.resolveHop port).reRate.pumpAll

/-- The port status word (R283): a lane without lock and one of a MAC that is retraining carry nothing, and such a MAC has no link. -/
def State.portWord (s : State) (p : Nat) : Nat :=
  let pt := s.port p
  let ms := portMacs pt.mode p
  let anyM (f : Mac → Bool) : Bool := ms.any (fun m => f (s.mac m))
  let paused := (List.range 8).foldl (fun a q =>
    a + (if anyM (fun c => decide (s.clk.cycle < c.paused.getOr q 0)) then 2 ^ q else 0)) 0
  let linked := ms.filter (fun m => (s.mac m).up && (s.mac m).retrainFrom.isNone && s.locked m)
  let up := linked.foldl (fun a m => a + 2 ^ (m % 4)) 0
  let lanes := (laneList (pt.lanesUp % 16)).foldl (fun a i =>
    if (s.lane (4 * p + i)).lostNs.isSome || (match s.laneMac (4 * p + i) with | some m => (s.mac m).retrainFrom.isSome | none => false) then a else a + 2 ^ i) 0
  paused * 2 ^ 24 + pt.retired % 16 * 2 ^ 20 + lanes * 2 ^ 16 + (if anyM (fun c => c.lpiTx) then 2 ^ 12 else 0)
    + (if anyM (fun c => c.lpiRx) then 2 ^ 11 else 0) + (match s.recal with | some (l, _) => if l / 4 = p then 2 ^ 10 else 0 | none => 0)
    + pt.flowctl % 4 * 2 ^ 8 + pt.encap % 2 * 2 ^ 7 + (if pt.small then 2 ^ 6 else 0)
    + (if s.portDown p then 3 else pt.mode) % 4 * 2 ^ 4 + up

end Sys2Proof.Machine
end

