-- ==== Sys2Proof/Machine/Load.lean ====
section
/-! DEFINITION. The checks of a job image: structure (R341 stage 1), reserved values (stage 2: R338 to R340, R287, R308 to R311, R350, R368, R370,
R378, R379, R478, R511), and the resources of the rank that the module holds (stage 4: R190, R191, R577, R382, R383). -/

namespace Sys2Proof.Machine

/-- The unit code of a cause (R191, R192). -/
def causeUnit (c : Nat) : Nat :=
  if c = 1 ∨ c = 9 ∨ c = 11 then 0 else if c = 2 then 1 else if c = 3 then 2 else if c = 4 then 3 else if c = 5 then 4 else if c = 6 then 5
  else if c = 10 then 6 else 7

def shortfall (cause core slot req av : Nat) : Shortfall := (cause, core, slot, req, av, causeUnit cause)

/-- A refusal of the whole module for a cause. -/
def wide (cause req av : Nat) : Shortfall := shortfall cause 0xFFFF 0xFFFFFFFF req av

/-- A reserved value somewhere in the image. -/
def reservedIf (bad : Bool) : List Shortfall := if bad then [wide 8 0 0] else []

/-! ## Stage 1 and stage 2 -/

/-- The structure of an image (R338, R341 stage 1). -/
def structureOk (im : JobImage) : Bool :=
  im.magic == 0x3142584A && im.version == 1 && im.sectionsInside && im.digest == sm3 im.raw

/-- The manifest's fields admit their values (R338). -/
def manifestOk (m : Manifest) : Bool :=
  m.jobId != 0 && [m.t, m.p, m.d, m.e].all (fun n => decide (1 ≤ n ∧ n < 65536)) && decide (1 ≤ m.v ∧ m.v ≤ 16) && decide (m.opts < 4)
    && decide (1 ≤ m.nMb ∧ m.nMb < 65536) && decide (1 ≤ m.layers ∧ m.layers < 65536) && decide (1 ≤ m.heads ∧ m.heads < 65536)
    && (if bit m.opts 1 then decide (1 ≤ m.topK ∧ m.topK ≤ 8) else m.experts == 0 && m.topK == 0)
    && decide (m.overflowDepth ≤ 8) && decide (1 ≤ m.capFactor ∧ m.capFactor < 65536) && decide (1000000 ≤ m.periodNs)
    && decide (m.firstStep < 2 ^ 38)

/-- Every rank tuple of the image's degrees. -/
def allRanks (m : Manifest) : List (List Nat) := (List.range (rankCount m)).map (fun j => rankAt m [0, 1, 2, 3] j)

/-- The bytes of an element of a reduction's staging: 6, or 12 for the pair (R313). -/
def stageWidth (f : Nat) : Nat := if f = 0x11 then 12 else 6

/-- The staging bytes that a record requires (R313). -/
def stageNeed (type inFmt p maxLen : Nat) : Nat :=
  if type = 1 ∨ type = 2 then 2 * (p - 1) * (maxLen / p) * stageWidth inFmt / collWidth inFmt
  else if type = 3 ∨ type = 5 then 2 * (p - 1) * maxLen
  else if type = 4 then 2 * (p - 1) * (maxLen / p) else 0

/-- A record breaks no rule of R308 to R311 and R287. -/
def collOk (im : JobImage) (c : CollImage) : Bool :=
  let d := c.raw
  let type := fld d 4 1
  let op := fld d 5 1
  let i := fld d 6 1
  let o := fld d 7 1
  let q := fld d 8 1
  let p := fld d 10 2
  let w := fld d 14 2
  let red : Bool := type == 1 || type == 2
  let fmts : List Nat := [0x01, 0x04, 0x05, 0x06, 0x10, 0x11]
  decide (fld d 0 4 < 16384) && [1, 2, 3, 4, 5, 8, 9].contains type
    && (if red then decide (1 ≤ op ∧ op ≤ 3) else if type = 8 then op == 8 else op == 0)
    && (if red then fmts.contains i && fmts.contains o && (op == 1 || (i != 0x11 && o != 0x11)) && (o != 0x11 || i == 0x11)
        else i == 0xFF && o == 0xFF)
    && decide (1 ≤ q ∧ q ≤ 6) && decide (fld d 9 1 < 2) && decide (1 ≤ p ∧ p ≤ 4096) && c.members.length == p
    && decide (fld d 12 2 < p) && (if q = 6 then w != 0xFFFF else w == 0xFFFF)
    && (w == 0xFFFF || (match im.events[w]? with | some e => e.type == 2 && e.collId == fld d 0 4 | none => false))
    && decide (fld d 20 1 < 12) && decide (fld d 28 4 ≤ 4194304)
    && (if stageNeed type i p (fld d 28 4) = 0 then true else tsAddr (fld d 24 4) 64)
    && tsAddrOrNone (fld d 32 4) 8 && zeroBytes d 36 64
    && c.members.all (fun r => (allRanks im.man).contains r) && decide (c.members.eraseDups.length = c.members.length)

/-- Two windows of different collectives overlap on one MAC of some module (R370). -/
def windowsMeet (a b : EvtEntry) : Bool :=
  a.type == 2 && b.type == 2 && a.collId != b.collId && a.mac == b.mac && (a.rankSel == 0xFFFF || b.rankSel == 0xFFFF || a.rankSel == b.rankSel)
    && decide (a.startOff < b.endOff) && decide (b.startOff < a.endOff)

/-- An event table entry's fields (R368). -/
def eventOk (n : Nat) (e : EvtEntry) : Bool :=
  decide (1 ≤ e.type ∧ e.type ≤ 4)
    && (if e.type = 2 then decide (e.mac < 32) && decide (e.next < n) && decide (e.startOff < e.endOff)
        else e.collId == 0 && e.endOff == 0 && e.rate == 0 && e.mac == 0xFFFF && e.next == 0)

/-- The SECURING section's fields (R378, R379). -/
def securingOk (im : JobImage) : Bool :=
  let c := im.securing
  decide (c.mode ≤ 3) && (c.k == 0 || decide (4 ≤ c.k ∧ c.k ≤ 16)) && decide (c.m ≤ 2) && decide (c.snapEvery ≤ 255)
    && decide (c.overheadPm ≤ 500) && decide (c.opts < 2)
    && !((c.mode == 1 || c.mode == 3) && decide (rankCount im.man < 8))

/-- The elements of a row of a tile of a format (R196); none for a reserved FORMAT. -/
def rowElems (f : Nat) : Option Nat :=
  match f with
  | 0 | 2 | 3 | 0xFF => some 256
  | 1 | 4 | 5 => some 128
  | 6 => some 64
  | _ => none

/-- A TENSORS entry's fields (R196, R200). -/
def tensorOk (isSealed : Bool) (e : TensorEntry) : Bool :=
  decide (e.policy ≤ 2) && decide (e.tier ≤ 3) && decide (e.core < 12) && !(e.policy == 0 && e.tier == 3)
    && !(e.policy == 1 && e.tier != 1) && !(e.policy == 2 && e.tier != 2) && !(isSealed && (e.policy == 1 || e.tier == 3))
    && (match rowElems e.format with | some n => decide (e.shapeFlags < 2 ∧ e.rows ≤ 256 ∧ e.cols ≤ n) | none => false)

/-- One entry of the report for every item of a list that breaks a rule (R192). -/
def reservedEach {α : Type} (bad : α → Bool) (l : List α) : List Shortfall := (l.filter bad).map (fun _ => wide 8 0 0)

/-- The reserved values of an image (R341 stage 2). A ring that names no logical core names a spare, which no image can (R22; DEDUCED, log 74). -/
def stage2 (own : Nat) (isSealed : Bool) (im : JobImage) : List Shortfall :=
  let m := im.man
  let n := im.events.length
  reservedIf im.reservedNonzero
    ++ reservedIf (!manifestOk m)
    ++ reservedEach (fun r => (im.programs.filter (fun c => classHas c.1 r)).length != 1) (allRanks m)
    ++ im.programs.flatMap (fun c => c.2.flatMap (fun (g : RingImage) =>
        (if g.core < 12 then [] else [shortfall 8 g.core 0xFFFFFFFF 0 0])
          ++ ((List.range g.descs.length).zip g.descs).filterMap (fun (e : Nat × Nat) =>
          if descInvalidBut false own e.2 then some (shortfall 8 g.core e.1 0 0) else none)))
    ++ im.colls.flatMap (fun c => reservedEach (fun r => !collOk im r) c.2)
    ++ reservedEach (fun l => !decide (l.kind ≤ 3)) im.layerMap
    ++ reservedIf (!decide (1 ≤ n ∧ n ≤ 4096))
    ++ reservedEach (fun e => !eventOk n e) im.events
    ++ reservedEach (fun a => im.events.any (fun b => windowsMeet a b)) im.events
    ++ reservedIf (!decide (1 ≤ im.stagger ∧ im.stagger ≤ 64))
    ++ reservedIf (!decide (2 * (50400 + (im.stagger - 1) * 64800) ≤ m.periodNs))
    ++ reservedIf (!securingOk im)
    ++ im.tensors.flatMap (fun c => reservedEach (fun e => !tensorOk isSealed e) c.2)

/-! ## Stage 4 -/

/-- Static entries of an array multiply: chunks, times 1, 3 or 6 (R125). -/
def entryCount (d : Nat) : Nat := (streamPlan d).length

/-- Output rows of a shadow set for E entries (R125). -/
def rowLimit (e : Nat) (comp : Bool) : Nat := min 256 (512 / ((Nat.log2 e + 1) * if comp then 2 else 1))

/-- The bytes that a list of ranges covers. -/
def coverLen (l : List (Nat × Nat)) : Nat :=
  ((l.mergeSort (fun a b => decide (a.1 ≤ b.1))).foldl (fun (st : Nat × Nat) r =>
    (max st.1 (r.1 + r.2), st.2 + (r.1 + r.2 - max st.1 r.1))) (0, 0)).2

/-- An epilogue record that names nothing: what one holds is not known at load. -/
def noEpi : Nat := 0xFFFFFFFF + 0xFFFFFFFFFFFFFFFFFFFFFFFF * 2 ^ 64

/-- The tile-store ranges that a loaded descriptor names; `entries` is the ENTRY_COUNT of the ladder record that it reads. An array multiply's results
lie where its epilogue record says at issue, where the ranges are checked again (R172). -/
def staticTouch (own : Nat) (colls : List CollImage) (d entries : Nat) : Touch :=
  match dOp d with
  | 0x10 =>
    let t := arrTouch d noEpi entries
    { t with writes := if fld d 36 4 = tsNone then [] else t.writes }
  | 0x20 => convTouch d
  | 0x30 => vecTouch d
  | 0x38 => optTouch d
  | 0x40 => moveTouch d
  | 0x50 => fabTouch own d
  | 0x60 =>
    match colls.find? (fun c => fld c.raw 0 4 = fld d 8 4) with
    | some c => collTouch (fld c.raw 4 1) (fld c.raw 6 1) (fld c.raw 7 1) (fld c.raw 10 2) (fld c.raw 32 4) d
    | none => {}
  | _ => {}

/-- The descriptors of a ring with their slots and the ENTRY_COUNT that each array multiply reads along its static chain, in slot order (R130). -/
def chainOf (g : RingImage) : List (Nat × Nat × Nat) :=
  (((List.range g.descs.length).zip g.descs).foldl (fun (st : Map Nat × List (Nat × Nat × Nat)) e =>
    let d := e.2
    let base := if dOp d = 0x10 ∧ fld d 32 4 ≠ tsNone then st.1.getOr (fld d 32 4) 0 else 0
    (if dOp d = 0x10 ∧ fld d 36 4 ≠ tsNone then st.1.set (fld d 36 4) (base + entryCount d) else st.1, st.2 ++ [(e.1, d, base)])) ([], [])).2

/-- An array multiply reads or writes a ladder record at this address. -/
def isRecord (d a : Nat) : Bool := dOp d = 0x10 && a != tsNone && (a == fld d 32 4 || a == fld d 36 4)

/-- The checks of one descriptor of a ring (R190): its alignment, its format, the accumulator rows and entries of an array multiply (R125, R130: an op
that names a record counts ℓ = 8), a record that cannot fit (R132), and its addresses, `rings` being the rings of its core (R148). -/
def descShort (own : Nat) (colls : List CollImage) (rings : List (Nat × Nat)) (core slot d entries : Nat) : List Shortfall :=
  let t := staticTouch own colls d entries
  let rec_ : Bool := fld d 32 4 != tsNone || fld d 36 4 != tsNone
  let e := entryCount d
  let rows := rowLimit (if rec_ then 256 else e) (dComp d)
  (if descInvalid own d && !descInvalidBut false own d then [shortfall 9 core slot 0 0] else [])
    ++ (if arrRefused d then [shortfall 7 core slot 0 0] else [])
    ++ (if dOp d = 0x10 then
          (if 256 < e then [shortfall 3 core slot e 256] else if rows < fld d 40 2 then [shortfall 2 core slot (fld d 40 2) rows] else [])
        else [])
    ++ ((t.reads ++ t.writes).filter (fun r => !rangeOk r)).map (fun r =>
          if isRecord d r.1 then shortfall 1 core slot r.2 (tsSize - r.1) else shortfall 9 core slot (r.1 + r.2) tsSize)
    ++ (t.writes.filter (fun r => rings.any (rangeOver r))).map (fun r => shortfall 9 core slot r.2 0)

/-- The checks of one ring (R147, R190): slots, alignment, length, and its descriptors. -/
def ringShort (own : Nat) (colls : List CollImage) (rings : List (Nat × Nat)) (g : RingImage) : List Shortfall :=
  let size := 64 * g.slots
  (if [256, 512, 1024, 2048, 4096, 8192].contains g.slots && decide (g.start < g.slots) then [] else [shortfall 8 g.core 0xFFFFFFFF 0 0])
    ++ (if size = 0 ∨ g.base % size ≠ 0 ∨ tsSize < g.base + size then [shortfall 9 g.core 0xFFFFFFFF (g.base + size) tsSize] else [])
    ++ (if g.slots < g.descs.length then [shortfall 6 g.core 0xFFFFFFFF g.descs.length g.slots] else [])
    ++ (if rings.any (rangeOver (g.base, size)) then [shortfall 9 g.core 0xFFFFFFFF size 0] else [])
    ++ (chainOf g).flatMap (fun e => descShort own colls ((g.base, size) :: rings) g.core e.1 e.2.1 e.2.2)

/-- The longest static ladder chain of a ring: entries delivered through records, in slot order (R191 cause 0x03). -/
def chainMax (g : RingImage) : Nat :=
  (chainOf g).foldl (fun m e => if dOp e.2.1 = 0x10 then max m (e.2.2 + entryCount e.2.1) else m) 0

/-- The tiles of a TENSORS entry. -/
def entryTiles (e : TensorEntry) : List Nat := (List.range e.count).map (fun i => e.tile + i)

/-- The tiles that a rank's image creates, with their entries: those of a weight region already mapped create nothing (R577). -/
def State.newTiles (s : State) (x : Nat) (im : JobImage) (r : List Nat) : List (Nat × TensorEntry) :=
  (forRank im.tensors r).flatMap (fun e => ((entryTiles e).filter (fun t =>
    !((s.ctx x).inRegion t && ((s.ctx x).entry t).valid))).map (fun t => (t, e)))

/-- The secured tiles of a rank's image (R375, R382): TENSORS entries with FLAGS bit 0. -/
def securedTiles (im : JobImage) (r : List Nat) : List Nat :=
  ((forRank im.tensors r).filter (fun e => e.secured)).flatMap entryTiles

/-- The tiles that hold the gradients of a rank's OPT_UPDATE descriptors (R382): the bytes of GRAD, which is a tile-store address, counted in tiles
(DEDUCED, log 75), each range once. -/
def gradTiles (im : JobImage) (r : List Nat) : Nat :=
  ((forRank im.programs r).flatMap (fun g => (g.descs.filter (fun d => dOp d = 0x38)).flatMap (fun d =>
    (tilesOf (fld d 12 4) (4 * fld d 28 4)).map (fun w => (g.core, w))))).eraseDups.length

/-- The bytes of NAND that a rank's job reserves (R382): twice the secured set of the member and of the member it mirrors, and 64 MiB. -/
def nandNeed (im : JobImage) (order : List Nat) (pos : Nat) : Nat :=
  let n := rankCount im.man
  let one (j : Nat) : Nat := let r := rankAt im.man order j; 2 * 65600 * ((securedTiles im r).length + gradTiles im r)
  one pos + (if n ≤ 1 then 0 else one ((pos + n - n / 2) % n)) + 67108864

/-- The size of the NAND store, and of its journal area (R382). -/
def nandSize : Nat := 4000000000000
def nandJournal : Nat := 17179869184

/-- The bytes of NAND in use by reservations and kept generations, without context x (R382). -/
def State.nandUsed (s : State) (x : Nat) : Nat :=
  s.ctxs.foldl (fun a e => if e.1 = x then a else a + e.2.nandReserve) 0
    + (s.nand.filter (fun g => g.kept)).foldl (fun a g => a + 65600 * g.tiles.length) 0

/-- The member ranks and queues that a rank's records join it to, one flow each (R309). -/
def flowNeeds (im : JobImage) (r : List Nat) : List (List Nat × Nat) :=
  ((collsFor im r).flatMap (fun c => (c.members.filter (fun k => k != r)).map (fun k => (k, fld c.raw 8 1)))).eraseDups

/-- The staging area and the flag words of the records of a core (R313, R321). -/
def collRanges (colls : List CollImage) (core : Nat) : List (Nat × Nat) :=
  (colls.filter (fun k => fld k.raw 20 1 = core)).flatMap (fun k =>
    let need := stageNeed (fld k.raw 4 1) (fld k.raw 6 1) (fld k.raw 10 2) (fld k.raw 28 4)
    (if need = 0 then [] else [(fld k.raw 24 4, need)]) ++ optRange (fld k.raw 32 4) 8)

/-- The tile-store bytes that the rings of a core take: slots, completion ring of 1,024 records, operands and records (R191 cause 0x01). -/
def coreBytes (own : Nat) (colls : List CollImage) (core : Nat) (gs : List RingImage) : Nat :=
  coverLen (collRanges colls core ++ gs.flatMap (fun g => (g.base, 64 * g.slots) :: (chainOf g).flatMap (fun e =>
    let t := staticTouch own colls e.2.1 e.2.2
    t.reads ++ t.writes))) + 16384 * gs.length

/-- The bytes of a pending-update entry: layer and PARAM address, 16 bytes (DESIGN CHOICE, log 76). -/
def pendingBytes : Nat := 16

/-- The frames of the structures that a module builds from an image for its rank (R338, R27): member lists of R309, collective records of R308, the
event table of R368, and a pending-update queue with room for every OPT_UPDATE of the rank's rings. -/
def builtFrames (im : JobImage) (r : List Nat) : Nat :=
  let colls := collsFor im r
  let ups := ((forRank im.programs r).map (fun g => (g.descs.filter (fun d => dOp d = 0x38)).length)).sum
  ceilDiv ((colls.map (fun k => 64 + 8 * fld k.raw 10 2)).sum + 32 * im.events.length + pendingBytes * ups) tileBytes

/-- The shortfalls of a rank's job on this module (R341 stage 4). -/
def State.stage4 (s : State) (x : Nat) (im : JobImage) (order : List Nat) (pos : Nat) : List Shortfall :=
  let own := s.deviceId
  let c := s.ctx x
  let r := rankAt im.man order pos
  let gs := (forRank im.programs r).filter (fun g => decide (g.core < 12))
  let colls := collsFor im r
  let new := s.newTiles x im r
  let ts := (forRank im.tensors r).flatMap entryTiles
  let sec := (securedTiles im r).length
  let mode := secMode im
  let pinned (tier core : Nat) : Nat :=
    (new.filter (fun (e : Nat × TensorEntry) => e.2.policy = 0 && e.2.tier = tier && (tier = 2 || e.2.core = core))).length
  let near := (new.filter (fun (e : Nat × TensorEntry) => e.2.policy = 1)).length
  let streamed := new.filter (fun (e : Nat × TensorEntry) => e.2.policy = 2)
  let free (tier core : Nat) : Nat := c.granted tier core - s.held x tier core
  let t1left := ((List.range 12).map (fun k => free 1 k - pinned 1 k)).sum
  let t2need := pinned 2 0 + (near - t1left) + im.securing.reserveTiles + streamed.length + builtFrames im r
  let t3need := t2need - free 2 0
  let t3able := (streamed.filter (fun (e : Nat × TensorEntry) => c.t3.any (fun w => w.covers e.1 && w.deadline.isNone))).length
  (List.range 12).flatMap (fun k =>
      let mine := gs.filter (fun g => g.core = k)
      if mine.isEmpty then []
      else
        (if bit c.coreMask k && decide (mine.length ≤ 1) && decide (((s.core k).rings.filter (fun q => q.2.valid && q.2.ctx != x)).length < 8) then []
         else [shortfall 10 k 0xFFFFFFFF 1 0])
          ++ (if c.granted 0 k * tileBytes < coreBytes own colls k mine + pinned 0 k * tileBytes then
                [shortfall 1 k 0xFFFFFFFF (coreBytes own colls k mine + pinned 0 k * tileBytes) (c.granted 0 k * tileBytes)] else []))
    ++ ((List.range gs.length).zip gs).flatMap (fun (e : Nat × RingImage) =>
        ringShort own colls (s.ringRanges e.2.core
          ++ ((gs.take e.1 ++ gs.drop (e.1 + 1)).filter (fun g => g.core = e.2.core)).map (fun g => (g.base, 64 * g.slots))) e.2)
    ++ (gs.filter (fun g => decide (16777216 < chainMax g))).map (fun g => shortfall 3 g.core 0xFFFFFFFF (chainMax g) 16777216)
    ++ colls.filterMap (fun (k : CollImage) =>
        let need := stageNeed (fld k.raw 4 1) (fld k.raw 6 1) (fld k.raw 10 2) (fld k.raw 28 4)
        if need ≠ 0 ∧ tsSize < fld k.raw 24 4 + need then some (shortfall 1 (fld k.raw 20 1) 0xFFFFFFFF need (tsSize - fld k.raw 24 4)) else none)
    ++ (List.range 12).filterMap (fun k => if free 0 k < pinned 0 k then some (shortfall 4 k 0xFFFFFFFF (pinned 0 k) (free 0 k)) else none)
    ++ (List.range 12).filterMap (fun k => if free 1 k < pinned 1 k then some (shortfall 4 k 0xFFFFFFFF (pinned 1 k) (free 1 k)) else none)
    ++ (if free 2 0 + t3able < t2need then [wide 4 t2need (free 2 0 + t3able)] else [])
    ++ (if im.securing.reserveTiles < sec * (if mode = 2 then 1 else 2) then [wide 4 (sec * (if mode = 2 then 1 else 2)) im.securing.reserveTiles] else [])
    ++ (if 16777216 < s.t3Tiles + t3need then [wide 4 (s.t3Tiles + t3need) 16777216] else [])
    ++ (if 65536 < colls.length + (s.ctxs.map (fun e => if e.1 = x then 0 else e.2.colls.length)).sum then [wide 8 0 0] else [])
    ++ (if c.grants.flows < (flowNeeds im r).length + s.flowCount x then [wide 5 ((flowNeeds im r).length + s.flowCount x) c.grants.flows] else [])
    ++ (if ts.eraseDups.length ≠ ts.length ∨ ts.any (fun t => (c.entry t).valid && !c.inRegion t) then [wide 9 0 0] else [])
    ++ (if mode ≠ 1 ∧ nandSize < s.nandUsed x + nandNeed im order pos + nandJournal then
          [wide 11 (nandNeed im order pos) (nandSize - (s.nandUsed x + nandJournal))] else [])

/-- The physical cores that the cullet list leaves healthy (R23). -/
def State.healthyCores (s : State) : Nat := ((List.range 14).filter (fun p => !s.retiredPc p)).length

end Sys2Proof.Machine
end

