-- ==== Sys2Proof/Machine/Jobs.lean ====
section
/-! DEFINITION. The life of a job: planning and start (R342 to R346, R454), the step grid (R367), PREFETCH (R369, R401, R455), replicated
validation (R349) and re-sharding (R331 to R336). -/

namespace Sys2Proof.Machine

/-! ## Start and refusal -/

/-- The DMA of a job command's report, up to REPORT_LEN bytes (R454). -/
def State.sendReport (s : State) (x : Nat) (b : List Byte) : State :=
  let j := (s.ctx x).job
  if j.reportLen = 0 then s else s.dma j.fn j.reportAddr (b.take j.reportLen)

/-- The planning flows of a context close (R342). -/
def State.closePlanning (s : State) (x : Nat) : State :=
  (s.flows.filter (fun e => e.2.ctx = x && e.2.planning)).foldl (fun s e => s.closeFlow e.1) s

/-- Every flow of a context closes. -/
def State.closeFlows (s : State) (x : Nat) : State :=
  (s.flows.filter (fun e => e.2.ctx = x)).foldl (fun s e => s.closeFlow e.1) s

/-- The re-shard of a context changed. -/
def State.updReshard (s : State) (x : Nat) (f : Reshard → Reshard) : State := s.updJob x (fun j => { j with reshard := f j.reshard })

/-- The re-shard that follows one that has ended: the request that waited, at the first boundary it can still reach (R334). -/
def Reshard.after (r : Reshard) (nextStep : Nat) : Reshard :=
  match r.queued with
  | some q => { state := .requested, boundary := max q.boundaryStep nextStep, moves := q.moves, flows := q.flows, secureBytes := q.secureBytes }
  | none => {}

/-- The frames that a re-shard has taken are released, and the old layout remains (R335); a request that waited is taken up (R334). -/
def State.abandonReshard (s : State) (x : Nat) : State :=
  let j := (s.ctx x).job
  let s := j.reshard.newFrames.foldl (fun s e => s.releaseEntry x e.1 e.2.1) s
  s.updReshard x (fun r => r.after (j.nextStepNo + 1))

/-- The tiles of a context that `gone` names are released (R208): frames are zero-filled, migrations and held requests of them end. -/
def State.dropTiles (s : State) (x : Nat) (gone : Nat → Bool) : State :=
  let c := s.ctx x
  let all := (c.tiles ++ c.bank1).filter (fun (e : Nat × TileEntry) => e.2.valid && gone e.1)
  let s := all.foldl (fun s (e : Nat × TileEntry) =>
    let s := s.releaseEntry x e.1 e.2
    match s.migOf x e.1 with
    | some m => if e.2.state = 0 then s else s.releaseFrame x e.1 e.2.destTier m.region e.2.destFrame
    | none => s) s
  let s := s.invalidate x gone
  let s := { s with
    migs := s.migs.filter (fun m => !(m.ctx = x && gone m.tile))
    asks := s.asks.filter (fun a => !(a.ctx = x && gone a.tile))
    stalled := s.stalled.filter (fun w => !(w.ctx = x && gone w.tile)) }
  s.updCtx x (fun c => { c with
    tiles := c.tiles.filter (fun (e : Nat × TileEntry) => !gone e.1), bank1 := c.bank1.filter (fun (e : Nat × TileEntry) => !gone e.1)
    hdrs := c.hdrs.filter (fun (e : Nat × TileHdr) => !gone e.1), hdrs1 := c.hdrs1.filter (fun (e : Nat × TileHdr) => !gone e.1) })

/-- The frames of captures and pre-images are released (R386, R208). -/
def State.dropCopies (s : State) (x : Nat) : State :=
  let k := (s.ctx x).sec
  (k.captures ++ k.preimages).foldl (fun s (p : Nat × Nat) => s.releaseCap x p.2) s

/-- The rings of a context are invalid, and nothing of it is left in a core (R461, R148). -/
def State.dropRings (s : State) (x : Nat) : State :=
  { s with cores := s.cores.vals (fun _ (k : Core) => { k with rings := k.rings.filter (fun (e : Nat × Ring) => e.2.ctx != x) }) }

/-- The job of a context ends and the context is READY (R460): its work stops, its handles end, its flows close and its tiles are released; the
weight regions stay, and so do the step counter that STATUS shows and the modules that a validation has barred (R349, R567). -/
def State.stopJob (s : State) (x : Nat) : State :=
  let c := s.ctx x
  let hs := ([c.recov.handle, c.job.validating] ++ (if c.job.phase = 3 then [c.job.handle] else [])).filter (fun h => h != 0)
  let s := hs.foldl (fun s h => s.finish h 0x21) s
  let s := ((((s.fence x).abandonReshard x).dropCopies x).dropTiles x (fun t => !c.inRegion t)).dropRings x
  let s := s.closeFlows x
  s.updCtx x (fun k => { k with
    state := .ready, fenced := false, fenceDue := false, colls := [], insts := [], updates := [], events := [], secured := []
    feed := {}, sec := {}, recov := { lastSeq := c.recov.lastSeq }, nandReserve := 0
    weights := { k.weights with pending := false, switchStep := 0 }
    sampling := { k.sampling with armed := none, tracing := false }
    job := { step := c.job.step, failedModules := c.job.failedModules } })

/-- The job of a context is refused: its reports, the handle's status, and the context stays LOADED (R341, R346, R454, R460). -/
def State.refuseJob (s : State) (x status : Nat) (replies : List MemberReply) : State :=
  let j := (s.ctx x).job
  let rep := match j.image with
    | some im => if j.plan.coordinator then planReport im { j.plan with status := 1 } replies else refusalReport j.plan.refusals
    | none => []
  let s := (s.sendReport x rep).closeFlows x
  let s := s.updCtx x (fun c => { c with
    colls := [], insts := [], nandReserve := 0
    job := { c.job with phase := 2, events := [], plan := { c.job.plan with status := 1, planned := false, accepted := false, rank := none } } })
  s.finish j.handle status

/-- The place of a new tile under its policy (R200): tier, frame, lender. -/
def State.placeTile (s : State) (x t : Nat) (e : TensorEntry) : Option (Nat × Nat × Nat) :=
  let c := s.ctx x
  let spot (tier core : Nat) : Option (Nat × Nat × Nat) := (s.newFrame x tier core).map (fun f => (tier, f, 0))
  if e.policy = 0 then spot e.tier e.core
  else if e.policy = 1 then
    (e.core :: ((List.range 12).filter (fun k => k != e.core && decide (0 < c.granted 1 k)))).findSome? (fun k => spot 1 k) |>.or (spot 2 0)
  else (spot 2 0).or ((s.newT3 x t).map (fun p => (3, p.2, p.1)))

/-- A tile of the image created with its header and data (R339, R196). -/
def State.createTile (s : State) (x t : Nat) (e : TensorEntry) (data : List Byte) : State :=
  match s.placeTile x t e with
  | none => s
  | some (tier, f, lender) =>
    let n : TileEntry := { valid := true, policy := e.policy, tier := tier, core := e.core, frame := f, lender := lender, dirty := e.secured || !data.isEmpty }
    let h : TileHdr := { format := e.format, shapeFlags := e.shapeFlags, rows := e.rows, cols := e.cols
                         lastWriteStep := if data.isEmpty then 0 else (s.ctx x).job.step % 2 ^ 40 }
    let s := s.setCtx x (((s.ctx x).setEntry t n).setHdr t h)
    (s.memWrite (n.phys x t) data).ownWindow n.tier e.core f

/-- The tiles of a rank's TENSORS sections (R339, R577): new ones are created; one of a weight region that a weight load has mapped keeps its data
and header, takes the entry's policy and is moved where that policy requires. -/
def State.createTiles (s : State) (x : Nat) (im : JobImage) (r : List Nat) : State :=
  let s := (forRank im.tensors r).foldl (fun s e => (List.range e.count).foldl (fun s i =>
    let t := e.tile + i
    let c := s.ctx x
    if c.inRegion t ∧ (c.entry t).valid then
      let s := s.setCtx x (c.setEntry t { c.entry t with policy := e.policy })
      if (c.entry t).placed e.tier e.policy e.core e.core then s
      else (s.askMig { ctx := x, tile := t, bank := c.weights.active, tier := e.tier, policy := e.policy, core := e.core, region := e.core }).1
    else s.createTile x t e (sub e.data (i * tileBytes) tileBytes)) s) s
  s.updCtx x (fun c => { c with secured := c.secured ++ securedTiles im r })

/-- The rings of a rank loaded, one on each core it names (R147, R148). A core that thereby serves a sealed context takes its ceiling (R505, R102). -/
def State.loadRings (s : State) (x : Nat) (gs : List RingImage) : State :=
  State.ceilingFell (gs.foldl (fun s g =>
    match (List.range 8).find? (fun q => !(s.ring g.core q).valid) with
    | none => s
    | some q =>
      let s := (g.descs.zip (List.range g.descs.length)).foldl (fun s (e : Nat × Nat) =>
        s.tsWrite g.core (g.base + 64 * e.2) (leBytes 64 e.1)) s
      s.updRing g.core q (fun o => { valid := true, ctx := x, base := g.base, size := g.slots, start := g.start, next := g.start, issued := o.issued })) s)

/-- The newest generation of a job that the module keeps on NAND (R566). -/
def State.keptGen (s : State) (job : Nat) : Option Nat :=
  (s.nand.filter (fun (n : NandGen) => n.jobId = job && n.role = 0 && n.whole && n.record.state = 2)).foldl (fun (b : Option Nat) n =>
    match b with | some a => some (max a n.record.generation) | none => some n.record.generation) none

/-- The job starts on this member at a grid point (R346): tiles, rings, flags of the first step, and the securing state of R374 and R384; or it
starts in recovery at SELECTING (R566). -/
def State.startJob (s : State) (x grid : Nat) (restore : Bool) (replies : List MemberReply) : State :=
  match (s.ctx x).job.image with
  | none => s
  | some im =>
    let s := match (s.ctx x).job.plan.rank with
      | some r => if (s.ctx x).job.replicated then s else (s.loadRings x (forRank im.programs r)).createTiles x im r
      | none => s
    let now := s.clk.tai.ns
    let h := (s.ctx x).job.handle
    let s := s.updCtx x (fun c => { c with
      state := .running
      events := []
      ranJobs := (c.ranJobs ++ [im.man.jobId]).eraseDups
      sec := { nextStep := im.man.firstStep, rankFromNs := now, generation := if restore then ((s.keptGen im.man.jobId).getD 0 + 1) % 4294967296 else 1 }
      recov := if restore then { state := .selecting, trigger := if s.journal.pfw then 3 else 5, lastSeq := c.recov.lastSeq } else { lastSeq := c.recov.lastSeq }
      job := { c.job with
        phase := 4, step := im.man.firstStep, firstDone := false, notBefore := grid
        layoutEpoch := match c.colls with | e :: _ => e.2.epoch | [] => 0
        plan := { c.job.plan with gridStart := grid, status := 0, replies := replies } } })
    let s := s.closePlanning x
    let j := (s.ctx x).job
    let s := if j.plan.coordinator then s.sendReport x (planReport im j.plan replies) else s
    let s := s.progress h 1 j.plan.devices.length j.plan.devices.length
    s.finish h 0

/-- The devices of a plan in the order of placement (R345); a module that failed a validation takes no rank in a NORMAL job (R349): it is placed
behind the others. -/
def Job.planOrder (j : Job) (links : List LinkMeasure) : List Nat :=
  let ordered := orderedSet j.plan.set links
  let bars (d : Nat) : Bool := !j.replicated && j.failedModules.contains d
  ordered.filter (fun d => !bars d) ++ ordered.filter bars

/-- The planning flow of a context to a device is open (R342). -/
def State.planFlow (s : State) (x d : Nat) : Bool :=
  s.flows.any (fun e => e.2.ctx = x && e.2.planning && e.2.peer = d && e.2.state == FlowState.open_)

/-- PLAN_PLACEMENT: the coordinator has every member's measurements and places the ranks (R345, R350 to R361, R373). -/
def execPlanPlacement (ctx : Nat) (meas : PlanMeasure) (s : State) : Host.Outcome State Fault Refusal :=
  let j := (s.ctx ctx).job
  match j.image with
  | none => .next s
  | some im =>
    if j.phase ≠ 3 ∨ ¬ j.plan.coordinator ∨ j.plan.planned ∨ ¬ (j.plan.set.all (fun d => d.1 = s.deviceId || s.planFlow ctx d.1)) then .next s
    else
      let order := axisOrderOf im
      let links := s.links ++ meas.links.filter (fun l => l.devA != s.deviceId)
      let devs := j.planOrder links
      let ws := warmCounts im.man
      let uniform : Bool := decide (im.man.layers % (im.man.p * im.man.v) = 0)
      .next (s.updJob ctx (fun j => { j with plan := { j.plan with
        planned := true, devices := devs, axisOrder := order, links := links, warm := ws
        rank := some [0, 0, 0, 0]
        retain := (List.range im.man.p).flatMap (fun p => retainOf im p ws)
        warnings := planWarnings im j.plan.set links order devs ws meas.stepNs
        bubblePm := bubblePm im.man meas.bubblePm uniform, stepNs := meas.stepNs } }))

/-- The paths of a new flow toward a device: the ports of its forwarding entry, or the UDP-mode ports with link, at most 16 (log 19). -/
def State.pathCount (s : State) (dev : Nat) : Nat :=
  match s.fwd.find dev with
  | some e => max 1 (min 16 e.ports.length)
  | none => max 1 (min 16 s.udpPorts.length)

/-- PLAN_ACCEPT: a member binds its member lists, opens its flows toward higher devices, checks its resources, and answers (R346). -/
def execPlanAccept (ctx : Nat) (plan : PlanMsg) (s : State) : Host.Outcome State Fault Refusal :=
  let c := s.ctx ctx
  match c.job.image with
  | none => .next s
  | some im =>
    let m := im.man
    if c.job.phase ≠ 3 ∨ c.job.plan.accepted ∨ (c.job.plan.coordinator ∧ ¬ c.job.plan.planned) ∨ plan.devices.getD plan.position 0xFFFF ≠ s.deviceId then .next s
    else
      let r : Option (List Nat) := if plan.position < rankCount m then some (rankAt m plan.axisOrder plan.position) else none
      let short := match r with | some _ => s.stage4 ctx im plan.axisOrder plan.position | none => []
      let colls := match r with | some k => (collsFor im k).map (fun i => bindColl m plan.axisOrder plan.devices k i) | none => []
      let ws := warmCounts m
      let s := s.updCtx ctx (fun c => { c with
        colls := colls.foldl (fun t (e : Nat × CollRec) => t.set e.1 e.2) []
        job := { c.job with
          imageFrames := im.blocks + (match r with | some k => builtFrames im k | none => 0)
          events := eventTable im plan.position
          plan := { c.job.plan with
            planned := true, accepted := true, position := plan.position, devices := plan.devices, axisOrder := plan.axisOrder, rank := r, warm := ws
            retain := (List.range m.p).flatMap (fun p => retainOf im p ws), refusals := short } }
        nandReserve := if r.isSome ∧ secMode im ≠ 1 then nandNeed im plan.axisOrder plan.position else 0 })
      let s := match r with
        | none => s
        | some k => if short.any (fun e => e.1 = 5) then s else (flowNeeds im k).foldl (fun s (e : List Nat × Nat) =>
            let dev := plan.devices.getD (posOf m plan.axisOrder e.1) 0xFFFF
            if s.deviceId < dev then s.sendOpen ctx { peer := dev, rank := e.1, queue := e.2, paths := s.pathCount dev, planning := false } else s) s
      .next (s.progress c.job.handle 1 1 c.job.plan.set.length)

/-- JOB_START_DECISION: the coordinator compares digests, windows (R370) and refusals and starts or refuses the job; a member does what the coordinator
wrote (R346, R341). -/
def execJobStartDecision (ctx : Nat) (d : StartInput) (s : State) : Host.Outcome State Fault Refusal :=
  let j := (s.ctx ctx).job
  match j.image with
  | none => .next s
  | some im =>
    if j.phase ≠ 3 ∨ ¬ j.plan.accepted then .next s
    else
      match d with
      | .gathered replies =>
        let n := rankCount im.man
        let digestBad (r : MemberReply) : Bool :=
          match j.plan.devices.findIdx? (fun v => v = r.device) with
          | some p => decide (p < n) && r.digest != collDigest im j.plan.axisOrder j.plan.devices (rankAt im.man j.plan.axisOrder p)
          | none => false
        if ¬ j.plan.coordinator ∨ ¬ (j.plan.devices.all (fun v => v = s.deviceId || replies.any (fun r => r.device = v))) then .next s
        else
          let s := if replies.any digestBad ∨ ¬ windowsAgree im j.plan.axisOrder then s.updJob ctx (fun j => { j with plan := { j.plan with refusals := j.plan.refusals ++ [wide 8 0 0] } }) else s
          if !(s.ctx ctx).job.plan.refusals.isEmpty || replies.any (fun r => !r.refusals.isEmpty) then .next (s.refuseJob ctx 0x17 replies)
          else .next (s.startJob ctx (gridAt im.man (s.fabricNs ctx + 10000000)) (j.restore && replies.all (fun r => r.device = s.deviceId || r.holds)) replies)
      | .start grid restore => if j.plan.coordinator ∨ !j.plan.refusals.isEmpty then .next s else .next (s.startJob ctx grid restore [])
      | .refusal => if j.plan.coordinator then .next s else .next (s.refuseJob ctx 0x17 [])

/-- START_WAIT_TIMEOUT: 30 s after its START the coordinator refuses the job with DEGREES when a module has not opened its planning flow (R454). -/
def execStartWaitTimeout (ctx : Nat) (s : State) : Host.Outcome State Fault Refusal :=
  let j := (s.ctx ctx).job
  if j.phase ≠ 3 ∨ ¬ j.plan.coordinator ∨ j.plan.planned then .next s
  else
    let missing := j.plan.set.filter (fun d => d.1 != s.deviceId && !s.planFlow ctx d.1)
    if missing.isEmpty then .next s else .next ((s.toTai (j.plan.startNs + 30000000000)).refuseJob ctx 0x19 [])

/-! ## Steps -/

/-- The duration of a step in seconds enters the coordinator's measurement (R392): of the open measurement, which the first step that started after
the commit ends, or of the steps that overlapped no open generation. -/
def Sec.stepTime (c : Sec) (step durNs startNs periodNs : Nat) : Sec :=
  let d : Rat := (durNs : Rat) / 1000000000
  match c.commitStep with
  | some s0 =>
    if step ≤ s0 then c
    else
      let sum := c.costSum + d
      let n := c.costSteps + 1
      let done := c.current.isNone && (c.records.filter (fun r => r.state = 2)).any (fun r => r.lastStep = s0 && decide (r.commitNs < startNs))
      if !done then { c with costSum := sum, costSteps := n }
      else
        let pref : Rat := if c.durations.isEmpty then (periodNs : Rat) / 1000000000 else c.durations.sum / c.durations.length
        let cost := if sum - n * pref < 0 then 0 else sum - n * pref
        { c with commitStep := none, costSum := 0, costSteps := 0, costs := (c.costs ++ [cost]).drop (c.costs.length - 7) }
  | none => { c with durations := (c.durations ++ [d]).drop (c.durations.length - 7) }

/-- The trace of an armed generation begins with the replayed step (R536). -/
def State.startTrace (s : State) (x : Nat) : State :=
  let c := s.ctx x
  match c.recov.target with
  | some r => if c.sampling.armed = some r.generation then s.updCtx x (fun c => { c with sampling := { c.sampling with tracing := true } }) else s
  | none => s

/-- JOB_STEP_START: step s starts at the first grid point at which it may (R367). Its rings restart at their start slots (R149). -/
def execJobStepStart (ctx : Nat) (s : State) : Host.Outcome State Fault Refusal :=
  let c := s.ctx ctx
  match c.job.image with
  | none => .next s
  | some im =>
    if c.job.phase ≠ 4 ∨ ¬ s.stepRetired ctx ∨ s.stepHeld ctx then .next s
    else if c.job.selfTest ∧ c.job.firstDone ∧ im.man.firstStep + 15 ≤ c.job.step then
      -- the self-test job has run its 16 steps and stops on its own (R567)
      .next ((s.updJob ctx (fun j => { j with step := (j.step + 1) % 2 ^ 40 })).stopJob ctx)
    else if !s.evTurn ctx 3 0 (c.job.epoch + (s.stepGrid ctx im.man).1) then .next s
    else
      let g := s.stepGrid ctx im.man
      let s := s.toFabric ctx g.1
      let step := c.job.nextStepNo
      let s := if g.2 = 0 then s else (s.count ctx 190 g.2).event 0x0001 1 ctx [step]
      let s := if c.job.firstDone then s.updSec ctx (fun k => k.stepTime c.job.step (g.1 - c.job.stepStart) c.job.stepStart im.man.periodNs) else s
      let s := s.updJob ctx (fun j => { j with
        step := step, stepStart := g.1, firstDone := true, lateSteps := j.lateSteps + g.2, notBefore := 0, evDone := [] })
      let s := if c.recov.state == .replaying then s.startTrace ctx else s
      .next (s.mapRings ctx (fun r => { r with next := r.start, running := r.valid }))

/-- A PREFETCH of a context acts on what the feed holds (R369, R401, R455): it waits where the link is down or the micro-batches are not produced. -/
def State.prefetch (s : State) (x : Nat) (d : FeedDma) : State :=
  if !s.pcie.linkUp || !d.reachable || decide (d.produced < d.fetched) then s.updCtx x (fun c => { c with feed := { c.feed with waiting := true } })
  else
    let s := s.localWrite x (d.dstTile * tileBytes) d.data
    let s := s.updCtx x (fun c => { c with
      feed := { c.feed with waiting := false, cursor := d.cursor, fetched := d.fetched }, job := { c.job with prefetchDue := false } })
    s.dma (s.ctx x).feed.fn (s.ctx x).feed.consumer (leBytes 8 d.fetched)

/-- PREFETCH: the entry of the event table falls due (R369); during a firmware switch it is acted on at resumption (R469). -/
def execPrefetch (ctx : Nat) (d : FeedDma) (s : State) : Host.Outcome State Fault Refusal :=
  let c := s.ctx ctx
  let mine := (List.range c.job.events.length).filterMap (fun i => c.job.entry i)
  match mine.find? (fun e => e.type = 3) with
  | none => .next s
  | some e =>
    if c.job.phase ≠ 4 ∨ c.fenced ∨ c.feed.entries = 0 ∨ !s.evTurn ctx 6 0 (c.job.atOff e.startOff) then .next s
    else
      let s := s.toTai (c.job.atOff e.startOff)
      if s.life.fwSwitch then .next (s.updJob ctx (fun j => { j with prefetchDue := true })) else .next (s.prefetch ctx d)

/-- PREFETCH_RETRY: 1 ms later a PREFETCH that waits tries its DMA again (R548, R455). -/
def execPrefetchRetry (ctx : Nat) (d : FeedDma) (s : State) : Host.Outcome State Fault Refusal :=
  if !(s.ctx ctx).feed.waiting then .next s else .next ((s.advance 1050000).prefetch ctx d)

/-! ## Validation (R348, R349) -/

/-- The value that more than half of a list holds. -/
def majority (l : List F32) : Option F32 := l.find? (fun v => decide (l.length < 2 * (l.filter (fun w => w == v)).length))

/-- The modules that fail a step of a replicated validation (R349). -/
def failing (expected : F32) (losses : List (Nat × F32)) : List Nat :=
  let vs := losses.map (fun e => e.2)
  if losses.length < 3 ∧ vs.any (fun v => vs.any (fun w => v != w)) then losses.map (fun e => e.1)
  else (losses.filter (fun e => e.2 != expected || majority vs != some e.2)).map (fun e => e.1)

/-- The expected loss bits of a step: of the VALIDATION section, or of the self-test model (R348, R562). -/
def State.expectedLoss (s : State) (x step : Nat) : F32 :=
  let j := (s.ctx x).job
  match j.image with
  | some im =>
    if j.selfTest then Config.selfTestLoss (s.life.slotImages.getD s.life.slot {}).revision step
    else im.validLoss.getD (if im.validSteps = 0 then 0 else step % im.validSteps) 0
  | none => 0

/-- VALIDATION_LOSS_COMPARE: the coordinator compares a step's losses, logs the modules that fail, and ends the validation with its last step (R349). -/
def execValidationLossCompare (ctx step : Nat) (losses : List (Nat × F32)) (s : State) : Host.Outcome State Fault Refusal :=
  let j := (s.ctx ctx).job
  if ¬ j.plan.coordinator ∨ (¬ j.replicated ∧ j.validating = 0 ∧ (s.ctx ctx).recov.state != .checking
      ∧ ¬ ((s.ctx ctx).recov.state == .selecting ∧ (s.ctx ctx).recov.retried)) then .next s
  else
    let bad := failing (s.expectedLoss ctx step) losses
    let s := bad.foldl (fun s d => s.event 0x0010 2 ctx [d, step]) s
    let s := s.updJob ctx (fun j => { j with failedModules := (j.failedModules ++ bad).eraseDups, stepsLeft := j.stepsLeft.map (fun n => n - 1) })
    let s := s.progress1 j.validating
    if j.validating ≠ 0 ∧ (s.ctx ctx).job.stepsLeft = some 0 then
      let ok := (s.ctx ctx).job.failedModules.isEmpty
      .next ((s.updJob ctx (fun j => { j with validating := 0, stepsLeft := none })).finish j.validating (if ok then 0 else 0x25))
    else .next s

/-! ## Re-sharding -/

/-- The single-tile moves of a plan in order (R331). -/
def unitMoves (ms : List PermuteMove) : List PermuteMove :=
  ms.flatMap (fun m => (List.range m.tiles).map (fun k => { m with srcTile := m.srcTile + k, dstTile := m.dstTile + k, tiles := 1 }))

/-- Moves sent in their order, up to the first for which no tracker entry and tile-transfer slot are free (R258, R307, R331). -/
def State.sendMoves (s : State) (x : Nat) (ms : List PermuteMove) : State :=
  let n := (s.ctx x).job.reshard.sent
  ((List.range ms.length).zip ms).foldl (fun s (e : Nat × PermuteMove) =>
    if (s.ctx x).job.reshard.sent = n + e.1 ∧ (e.2.flow = 0 ∨ s.trkRoom x 1 true) then s.sendPermute x [e.2] else s) s

/-- The flows of a new layout that no open flow of the context serves are opened toward higher devices (R332, R346). -/
def State.openNew (s : State) (x : Nat) (needs : List (Nat × List Nat × Nat)) : State :=
  needs.foldl (fun s e =>
    let have_ := s.flows.any (fun f => f.2.ctx = x && f.2.peer = e.1 && f.2.queue = e.2.2 && f.2.state == FlowState.open_)
    if have_ ∨ e.1 ≤ s.deviceId then s
    else s.sendOpen x { peer := e.1, rank := e.2.1, queue := e.2.2, paths := s.pathCount e.1, planning := false }) s

/-- The member is being refilled in a layout other than its target's: the re-shard that R400 forces. -/
def Ctx.forced (c : Ctx) : Bool :=
  c.refills && (match c.recov.target with | some r => r.layoutEpoch != c.job.layoutEpoch | none => false)

/-- RESHARD_REQUEST: the request with its boundary step reaches the member (R332, R334, R382). In a recovery that forces a re-shard it has no boundary
to wait for: the plan's moves apply to the target's tiles (R400). -/
def execReshardRequest (ctx : Nat) (rq : ReshardReq) (s : State) : Host.Outcome State Fault Refusal :=
  let c := s.ctx ctx
  let r := c.job.reshard
  if c.job.phase ≠ 4 ∨ rq.boundaryStep < c.job.nextStepNo then .next s
  else if nandSize < s.nandUsed ctx + rq.secureBytes + nandJournal then .next s
  else
    let fresh : Reshard := { state := .requested, boundary := rq.boundaryStep, moves := rq.moves, flows := rq.flows, secureBytes := rq.secureBytes }
    if c.forced then .next ((s.updReshard ctx (fun r => { fresh with state := .permuting, newFrames := r.newFrames })).openNew ctx rq.flows)
    else
    match r.state with
    | .idle | .requested | .atBoundary | .drainingOld => .next (s.updReshard ctx (fun _ => fresh))
    | .permuting | .committing => .next (s.updReshard ctx (fun r => { r with queued := some rq }))

/-- RESHARD_BOUNDARY: step s_b − 1 has retired; the start of s_b is held and the old layout drains (R332). -/
def execReshardBoundary (ctx : Nat) (s : State) : Host.Outcome State Fault Refusal :=
  let j := (s.ctx ctx).job
  if j.reshard.state != .requested || j.nextStepNo != j.reshard.boundary || !s.stepRetired ctx then .next s
  else .next (s.updReshard ctx (fun r => { r with state := .drainingOld }))

/-- RESHARD_DRAIN_DONE: old reductions and the pending-update queue are empty and no generation is open (R391); the member sends its moves and opens
the flows of the new layout (R332, R331). -/
def execReshardDrainDone (ctx : Nat) (s : State) : Host.Outcome State Fault Refusal :=
  let c := s.ctx ctx
  if c.job.reshard.state != .drainingOld || !c.updates.isEmpty || !(c.insts.filter (fun e => e.2.issued)).isEmpty || c.sec.current.isSome then .next s
  else
    let s := (s.updReshard ctx (fun r => { r with state := .permuting, sent := 0, acked := 0 })).sendMoves ctx (unitMoves c.job.reshard.moves)
    .next (s.openNew ctx c.job.reshard.flows)

/-- PERMUTE_INSTANCE: the moves not yet sent go out as room allows (R331, R307). -/
def execPermuteInstance (ctx : Nat) (s : State) : Host.Outcome State Fault Refusal :=
  let r := (s.ctx ctx).job.reshard
  if r.state != .permuting then .next s else .next (s.sendMoves ctx ((unitMoves r.moves).drop r.sent))

/-- RESHARD_PERMUTE_DONE: every move is acknowledged, and the member reports done (R332). -/
def execReshardPermuteDone (ctx : Nat) (s : State) : Host.Outcome State Fault Refusal :=
  let r := (s.ctx ctx).job.reshard
  let open_ := s.trk.any (fun e => e.2.ctx = ctx && e.2.kind = .permute)
  if r.state != .permuting || open_ || decide (r.acked < (unitMoves r.moves).length) then .next s
  else .next (s.updReshard ctx (fun r => { r with state := .committing, reports := r.reports + 1 }))

/-- RESHARD_COMMIT_BROADCAST: all members have reported, and the commit time t_c, at least 2 ms ahead, is set (R332). -/
def execReshardCommitBroadcast (ctx commitNs : Nat) (s : State) : Host.Outcome State Fault Refusal :=
  let r := (s.ctx ctx).job.reshard
  if r.state != .committing || (s.ctx ctx).refills then .next s
  else .next (s.updReshard ctx (fun r => { r with commitNs := max commitNs (s.fabricNs ctx + 2000000) }))

/-- The tile table of the new layout (R332): the tiles that moves have brought, the weight regions, and the tiles of the new rank's image; every
other frame of the old layout is released. -/
def State.newTable (s : State) (x : Nat) (im : JobImage) (r : List Nat) : State :=
  let c := s.ctx x
  let moved := c.job.reshard.newFrames
  let kept (t : Nat) : Bool := c.inRegion t || (forRank im.tensors r).any (fun e => (entryTiles e).contains t && !e.secured)
  let gone := c.tiles.filter (fun (e : Nat × TileEntry) => e.2.valid && (moved.any (fun n => n.1 = e.1) || !kept e.1))
  let s := (gone.foldl (fun s (e : Nat × TileEntry) => s.releaseEntry x e.1 e.2) s).invalidate x (fun t => gone.any (fun e => e.1 = t))
  let s := s.updCtx x (fun c =>
    let c := gone.foldl (fun (c : Ctx) (e : Nat × TileEntry) => { c with tiles := c.tiles.del e.1, hdrs := c.hdrs.del e.1 }) c
    let c := moved.foldl (fun (c : Ctx) (n : Nat × TileEntry × TileHdr) => { c with tiles := c.tiles.set n.1 n.2.1, hdrs := c.hdrs.set n.1 n.2.2 }) c
    { c with secured := securedTiles im r })
  let s := s.updReshard x (fun q => { q with newFrames := [] })
  (forRank im.tensors r).foldl (fun s e => (entryTiles e).foldl (fun s t =>
    if ((s.ctx x).entry t).valid then s else s.createTile x t { e with data := [] } []) s) s

/-- RESHARD_COMMIT: at t_c the new layout takes effect, LAYOUT_EPOCH rises, and old frames and flows are released (R332, R333). -/
def execReshardCommit (ctx : Nat) (lay : NewLayout) (s : State) : Host.Outcome State Fault Refusal :=
  let c := s.ctx ctx
  match c.job.image with
  | none => .next s
  | some im =>
    if c.job.reshard.state != .committing || c.job.reshard.commitNs = 0 || c.refills then .next s
    else
      let tc := c.job.reshard.commitNs
      let s := s.toFabric ctx tc
      let m := { im.man with t := lay.degrees.getD 0 1, p := lay.degrees.getD 1 1, d := lay.degrees.getD 2 1, e := lay.degrees.getD 3 1 }
      let im := { im with man := m }
      let order := axisOrderOf im
      let r : Option (List Nat) := if lay.position < rankCount m then some (rankAt m order lay.position) else none
      let s := match r with | some k => s.newTable ctx im k | none => s
      let epoch := (c.job.layoutEpoch + 1) % 65536
      let recs := match r with | some k => lay.colls.map (fun i => bindColl m order lay.devices k i) | none => []
      let flowTo (d q : Nat) : Nat := match s.flows.find? (fun e => e.2.ctx = ctx && e.2.peer = d && e.2.queue = q && e.2.state == FlowState.open_) with
        | some e => e.1
        | none => 0
      let bound := recs.map (fun (e : Nat × CollRec) => (e.1, { e.2 with
        epoch := epoch, members := e.2.members.map (fun (d : Nat × Nat) => (d.1, if d.1 = s.deviceId then 0 else flowTo d.1 e.2.queue)) }))
      let wanted (f : Flow) : Bool := c.job.reshard.flows.any (fun e => e.1 = f.peer && e.2.2 = f.queue)
        || bound.any (fun e => e.2.queue = f.queue && e.2.members.any (fun d => d.1 = f.peer))
      let s := s.updCtx ctx (fun c => { c with
        colls := bound.foldl (fun t (e : Nat × CollRec) => t.set e.1 e.2) []
        insts := []
        sec := { c.sec with fullForm := true }
        nandReserve := if secMode im = 1 then 0 else c.job.reshard.secureBytes
        job := { c.job with
          image := some im, layoutEpoch := epoch, events := lay.events, notBefore := tc + 50400
          reshard := c.job.reshard.after (c.job.nextStepNo + 1)
          plan := { c.job.plan with devices := lay.devices, position := lay.position, axisOrder := order, rank := r } } })
      .next ((s.flows.filter (fun e => e.2.ctx = ctx && !wanted e.2)).foldl (fun s e => s.closeFlow e.1) s)

end Sys2Proof.Machine
end

