-- ==== Sys2Proof/Machine/Secure.lean ====
section
/-! DEFINITION. Securing: the test at BOUNDARY and the capture (R385, R376, R377), the parts (R387, R381), the commit (R388, R328), the loss (R389)
and the interval (R392 to R394). -/

namespace Sys2Proof.Machine

/-! ## The capture -/

/-- The tiles in which the GRAD operands of pending updates lie (R375): T0 tiles of the entries' cores. -/
def State.gradTiles (s : State) (x : Nat) (us : List Update) : List Nat :=
  us.flatMap (fun (u : Update) =>
    let r := optTouch u.desc
    (r.reads.flatMap (fun q => tilesOf q.1 q.2)).filterMap (fun w =>
      match s.t0Tile u.core w with | some p => if p.1 = x then some p.2 else none | none => none))

/-- The secured set of a context's job (R375). -/
def Ctx.securedSet (c : Ctx) : List Nat := c.secured.eraseDups

/-- The state blocks of a generation (R376). -/
def State.stateBlocks (s : State) (x : Nat) : SecBlocks :=
  let c := s.ctx x
  { generation := c.sec.generation
    rings := s.cores.flatMap (fun e => (e.2.rings.filter (fun q => q.2.valid && q.2.ctx = x)).map (fun q => (e.1, q.1, q.2.next, q.2.micro, q.2.stage)))
    events := c.events
    colls := c.colls.map (fun (e : Nat × CollRec) => (e.1, e.2.next))
    flows := (s.flows.filter (fun e => e.2.ctx = x)).map (fun (e : Nat × Flow) => (e.1, e.2.peer, e.2.nextPsn, e.2.expected))
    updates := c.updates
    devices := c.job.plan.devices
    degrees := match c.job.image with | some im => [im.man.t, im.man.p, im.man.d, im.man.e] | none => []
    layoutEpoch := c.job.layoutEpoch }

/-- The state blocks as bytes, little-endian, field after field, for the digest of the record (log 22). -/
def SecBlocks.bytes (b : SecBlocks) : List Byte :=
  (b.rings.flatMap (fun r => leBytes 1 r.1 ++ leBytes 1 r.2.1 ++ leBytes 2 r.2.2.1 ++ leBytes 2 r.2.2.2.1 ++ leBytes 1 r.2.2.2.2))
    ++ (b.events.flatMap (fun (e : Nat × Nat) => leBytes 1 e.1 ++ leBytes 4 e.2))
    ++ (b.colls.flatMap (fun e => leBytes 4 e.1 ++ leBytes 4 e.2))
    ++ (b.flows.flatMap (fun e => leBytes 4 e.1 ++ leBytes 2 e.2.1 ++ leBytes 4 e.2.2.1 ++ leBytes 4 e.2.2.2))
    ++ (b.updates.flatMap (fun (u : Update) => leBytes 4 u.layer ++ leBytes 4 u.param))
    ++ b.devices.flatMap (leBytes 2) ++ leBytes 2 b.layoutEpoch

/-- The 128 bytes of a securing record (R377). -/
def SecRec.bytes (r : SecRec) : List Byte :=
  leBytes 1 0x31 ++ leBytes 1 r.mode ++ leBytes 1 r.state
    ++ leBytes 1 ((if r.lossValid then 1 else 0) + (if r.parity then 2 else 0) + (if r.snapshot then 4 else 0))
    ++ leBytes 4 r.generation ++ leBytes 8 r.jobId ++ leBytes 5 r.lastStep ++ zeros 1 ++ leBytes 2 r.layoutEpoch ++ leBytes 8 r.boundaryNs
    ++ leBytes 8 r.commitNs ++ leBytes 8 r.dataCursor ++ leBytes 4 r.optStep ++ leBytes 4 r.lossScale.toNat ++ leBytes 4 r.goodSteps
    ++ leBytes 4 r.accumCount ++ leBytes 4 r.weightGen ++ leBytes 4 r.punty ++ leBytes 4 r.loss.toNat ++ leBytes 4 r.prevGeneration
    ++ leBytes 4 r.increment ++ leBytes 4 r.pending ++ padTo 32 r.digest ++ zeros 8

/-- The generation that the newest committed record holds; 0 for none. -/
def Sec.committed (c : Sec) : Nat := match (c.records.filter (fun r => r.state = 2)).getLast? with | some r => r.generation | none => 0

/-- The punty (R427): PENDING, ACTIVE and SWITCH_DELTA from the reference step. -/
def Weights.punty (w : Weights) (ref : Nat) : Nat :=
  w.active * 2 ^ 30 + (if w.pending then 2 ^ 31 + (w.switchStep - ref) % 2 ^ 24 else 0)

/-- The generation of the active bank. -/
def Weights.gen (w : Weights) : Nat := if w.active = 0 then w.bankGen.1 else w.bankGen.2

/-- The capture of a generation (R385 steps 2 and 3). Whether it includes a snapshot follows from its mode (R379). The optimizer step, loss scale
and counts that the record carries are free values (log 22), but for OPT_STEP (log 59). -/
def State.capture (s : State) (x : Nat) (im : JobImage) : State :=
  let c := s.ctx x
  let gen := c.sec.generation
  let mode := secMode im
  let snap : Bool := mode == 2 || (mode == 3 && gen % dflt im.securing.snapEvery 16 == 0)
  let dirty := (c.securedSet.filter (fun t => (c.entry t).dirty)) ++ s.gradTiles x c.updates
  let incr := (if snap && mode == 3 then dirty ++ c.sec.sinceSnap else dirty).eraseDups
  let b := s.stateBlocks x
  let free (i : Nat) : Nat := Config.freeValue (s.fresh + i) % 2 ^ 32
  let r : SecRec :=
    { mode := mode, parity := mode != 2, snapshot := snap, generation := gen, jobId := im.man.jobId, lastStep := c.job.step
      layoutEpoch := c.job.layoutEpoch, boundaryNs := s.fabricNs x, dataCursor := c.feed.cursor
      optStep := (c.job.step + 2) % 2 ^ 32, lossScale := BitVec.ofNat 32 (free 1), goodSteps := free 2, accumCount := free 3
      weightGen := c.weights.gen, punty := c.weights.punty (c.job.step + 1), prevGeneration := c.sec.committed
      increment := incr.length, pending := c.updates.length, digest := sm3 b.bytes }
  let s := s.draw.draw.draw.draw
  s.updCtx x (fun c =>
    let c := incr.foldl (fun (c : Ctx) t => c.setEntry t { c.entry t with dirty := false, cow := true }) c
    { c with sec := { c.sec with
      generation := (gen + 1) % 4294967296, current := some r, blocks := b, incr := incr, partParity := false, partSnap := false, reports := 0
      secureNow := false, openedNs := some (s.fabricNs x), commitStep := some c.job.step, costSum := 0, costSteps := 0
      sinceSnap := if snap then [] else (c.sec.sinceSnap ++ dirty).eraseDups } })

/-- An update of the context runs on some core's update channel (R385 step 1). -/
def State.chanBusy (s : State) (x : Nat) : Bool := s.cores.any (fun e => match e.2.chan with | some u => u.ctx = x | none => false)

/-- A securing is due at the end of this step (R384; SECURE_NOW makes the next BOUNDARY secure); a job opens at most one generation per second of
fabric time (R20), so one that falls earlier waits for a later BOUNDARY. -/
def State.secDue (s : State) (x : Nat) : Bool :=
  let c := s.ctx x
  c.job.firstDone && (c.sec.secureNow || decide (c.sec.nextStep ≤ c.job.step))
    && (match c.sec.openedNs with | some t => decide (t + 1000000000 ≤ s.fabricNs x) | none => true)

/-- The clock at the BOUNDARY entry of a context's event table, which is then done for the step (R369, R371); a BOUNDARY that was put off has had
its time. -/
def State.boundaryTime (s : State) (ctx : Nat) (j : Job) (first : Option (Nat × EvtEntry)) : State :=
  match first with
  | some (i, e) => if j.boundaryDue then s else (s.toTai (j.atOff e.startOff)).evMark ctx 2 i
  | none => s

/-- BOUNDARY: at its entry of the event table, or at the retirement of the step when that is later, a due securing captures (R369, R385). While a
generation is open the next one waits, counted and logged as late (R391). A standby module holds no rank and secures nothing (R374). -/
def execBoundary (ctx : Nat) (s : State) : Host.Outcome State Fault Refusal :=
  let c := s.ctx ctx
  match c.job.image with
  | none => .next s
  | some im =>
    let mine := (List.range c.job.events.length).filterMap (fun i => c.job.entry i)
    let first := match (List.range c.job.events.length).find? (fun i => match c.job.entry i with | some e => e.type = 4 | none => false) with
      | some i => (c.job.entry i).map (fun e => (i, e))
      | none => none
    let turn := match first with | some (i, e) => c.job.boundaryDue || s.evTurn ctx 2 i (c.job.atOff e.startOff) | none => true
    if c.job.phase ≠ 4 ∨ c.fenced ∨ (!c.job.boundaryDue ∧ mine.all (fun e => e.type != 4)) ∨ !turn then .next s
    else
      let s := s.boundaryTime ctx c.job first
      let wait (s : State) : State := s.updJob ctx (fun j => { j with boundaryDue := true })
      if s.life.fwSwitch ∨ ¬ s.stepRetired ctx then .next (wait s)
      else if ¬ s.secDue ctx ∨ c.job.plan.rank.isNone then .next (s.updJob ctx (fun j => { j with boundaryDue := false }))
      else if c.sec.current.isSome then
        let s := (s.count ctx 191 1).updSec ctx (fun k => { k with lateCount := k.lateCount + 1 })
        .next ((s.event 0x0003 1 ctx [c.sec.generation]).updJob ctx (fun j => { j with boundaryDue := false }))
      else if s.chanBusy ctx then .next (wait s)
      else .next ((s.capture ctx im).updJob ctx (fun j => { j with boundaryDue := false }))

/-! ## The parts and the commit -/

/-- The header of a tile in the generation that is open: the one copied with its capture, or the one in place. -/
def Ctx.capturedHdr (c : Ctx) (t : Nat) : TileHdr :=
  match c.sec.captures.find t with
  | some f => (c.sec.copyHdrs.find f).getD (c.hdr t)
  | none => c.hdr t

/-- A tile's data and header as cells of the NAND store. -/
def State.nandTile (s : State) (x t : Nat) : Nat × List Host.Cell :=
  (t, Memory.cells 0 (s.capturedBytes x t ++ leBytes 64 ((s.ctx x).capturedHdr t).pack))

/-- A copy of a snapshot as the NAND store holds it, in the role given (R381). -/
def MirrorCopy.gen (c : MirrorCopy) (role : Nat) : NandGen :=
  { jobId := c.record.jobId, role := role, record := { c.record with state := 1 }, blocks := c.blocks, whole := true
    tiles := c.tiles.map (fun (t : Nat × List Byte) => (t.1, Memory.cells 0 t.2)) }

/-- The copy that a member sends reaches its mirror, which writes it to its own NAND (R381); a job of one rank has no mirror, and a NAND store that a
power-fail warning has closed takes nothing (R407). -/
def State.mirrorIn (s : State) (x : Nat) (c : MirrorCopy) : State :=
  let ours : Bool := match (s.ctx x).job.image with | some im => im.man.jobId = c.record.jobId && decide (1 < rankCount im.man) | none => false
  if !ours || s.pins.nandClosed || !c.record.snapshot then s
  else { s with nand := s.nand ++ [c.gen 1], journal := { s.journal with pfw := false } }

/-- The record of a generation on NAND, changed. -/
def State.updNand (s : State) (job gen : Nat) (f : NandGen → NandGen) : State :=
  { s with nand := s.nand.map (fun (n : NandGen) => if n.jobId = job ∧ n.record.generation = gen then f n else n) }

/-- The part of a member's securing that is done (R387). With the last part STATE becomes PARTS_DONE and the member reports. -/
def State.partDone (s : State) (ctx : Nat) (parityPart : Bool) : State :=
  let c := s.ctx ctx
  match c.sec.current with
  | none => s
  | some r =>
    let parityOpen := s.trk.any (fun e => e.2.ctx = ctx && e.2.kind = .parity r.generation)
    let ok : Bool := if parityPart then r.parity && !parityOpen else r.snapshot && !s.pins.nandClosed
    if r.state ≠ 0 ∨ !ok then s
    else
      let s := if parityPart then s.updSec ctx (fun k => { k with partParity := true })
        else
          let g : NandGen :=
            { jobId := r.jobId, role := 0, record := { r with state := 1 }, blocks := c.sec.blocks, tiles := c.sec.incr.map (s.nandTile ctx), whole := true }
          { (s.updSec ctx (fun k => { k with partSnap := true })) with nand := s.nand ++ [g], journal := { s.journal with pfw := false } }
      let k := (s.ctx ctx).sec
      if (r.parity && !k.partParity) || (r.snapshot && !k.partSnap) then s
      else
        let s := s.updCtx ctx (fun c => c.sec.incr.foldl (fun (c : Ctx) t => c.setEntry t { c.entry t with cow := false }) c)
        s.updSec ctx (fun k => { k with current := some { r with state := 1 }, reports := k.reports + 1 })

/-- SECURING_PART_DONE: the parity streams are answered; or the increment is on the member's NAND and its mirror has acknowledged its copy; or, on a
mirror, the copy of the member it mirrors has arrived (R387, R381). -/
def execSecuringPartDone (ctx : Nat) (part : SecPart) (s : State) : Host.Outcome State Fault Refusal :=
  match part with
  | .parity => .next (s.partDone ctx true)
  | .snapshot => .next (s.partDone ctx false)
  | .mirror c => .next (s.mirrorIn ctx c)

/-- The versions on NAND older than the two newest committed snapshot generations of a job and role are freed: each tile's newest version is kept with
the older of the two (R381). -/
def pruneNand (l : List NandGen) (job role : Nat) : List NandGen :=
  let mine := l.filter (fun (n : NandGen) => n.jobId = job && n.role = role && n.record.state = 2)
  let rest := l.filter (fun (n : NandGen) => !(n.jobId = job && n.role = role && n.record.state = 2))
  match mine.reverse with
  | new :: mid :: old =>
    let extra := (old.flatMap (fun (n : NandGen) => n.tiles)).foldl (fun (a : List (Nat × List Host.Cell)) t =>
      if mid.tiles.any (fun u => u.1 = t.1) || a.any (fun u => u.1 = t.1) then a else a ++ [t]) []
    rest ++ [{ mid with tiles := mid.tiles ++ extra }, new]
  | _ => l

/-- The open generation commits on this member (R388, R328): STATE and COMMIT_NS, the captures become pre-images where parity is taken, frames that
held only the older value are released, and a loss that was held is written. -/
def State.commitGen (s : State) (x commitNs nextStep : Nat) : State :=
  let c := s.ctx x
  match c.sec.current with
  | none => s
  | some r =>
    let r := { r with state := 2, commitNs := commitNs, loss := c.sec.heldLoss.getD 0, lossValid := c.sec.heldLoss.isSome }
    let gone (fs : List Nat) (s : State) : State := fs.foldl (fun s f => s.releaseCap x f) s
    let old := c.sec.preimages.filter (fun (p : Nat × Nat) => c.sec.incr.contains p.1)
    let s := if r.erasure then gone (old.map (fun (p : Nat × Nat) => p.2)) s else gone (c.sec.captures.map (fun (p : Nat × Nat) => p.2)) s
    let pre : Map Nat := c.sec.preimages.filter (fun (p : Nat × Nat) => !c.sec.incr.contains p.1)
    let pre : Map Nat := if r.erasure then c.sec.captures.foldl (fun (m : Map Nat) (p : Nat × Nat) => m.set p.1 p.2) pre else pre
    let s := s.updSec x (fun k =>
      let k := if r.parity then k.commitParity else { k with accum := [] }
      { k with current := none, records := k.records ++ [r], captures := [], preimages := pre, held := k.blocks
               copyHdrs := k.copyHdrs.filter (fun (e : Nat × TileHdr) => pre.any (fun p => p.2 = e.1)), incr := [], nextStep := nextStep, heldLoss := none
               fullForm := false, reports := 0 })
    let s := (s.count x 202 c.sec.incr.length).updNand r.jobId r.generation (fun (n : NandGen) => { n with record := { n.record with
      state := 2, commitNs := commitNs, loss := r.loss, lossValid := r.lossValid } })
    { s with nand := pruneNand (pruneNand s.nand r.jobId 0) r.jobId 1 }

/-- The smallest n with n² at least x. -/
def ceilSqrt (x : Nat) : Nat := if x.sqrt * x.sqrt = x then x.sqrt else x.sqrt + 1

/-- The smallest integer not below a rational that is at least 0. -/
def ceilRat (r : Rat) : Nat := r.ceil.toNat

/-- The steps to the next generation, and the interval in seconds when a bound makes the coordinator log it (R393, R394). -/
def interval (spec : SecuringSpec) (m : Manifest) (n : Nat) (costs : List Rat) (elapsedS : Rat) (recoveries : Nat) : Nat × Option Rat :=
  let per : Rat := (m.periodNs : Rat) / 1000000000
  let tl : Rat := per * dflt spec.lossSteps 1000
  let steps (t : Rat) : Nat := max 1 (ceilRat (t / per))
  if costs.isEmpty then (steps (if tl < 1 then 1 else tl), if tl < 1 then some 1 else none)
  else
    let c : Rat := costs.sum / costs.length
    let window : Rat := dflt spec.windowS 2592000
    let h : Rat := n * (if elapsedS < window then elapsedS else window)
    let mtbf : Rat := (h + (dflt spec.mtbfPriorS 707788800 : Nat)) / ((recoveries + 1) * n)
    let t2 : Rat := 2 * c * mtbf
    let tO : Rat := c * 1000 / (dflt spec.overheadPm 10 : Nat)
    if tl < tO then (steps (if tl < 1 then 1 else tl), some (if tl < 1 then 1 else tl))
    else
      let bounded (t : Rat) : Nat × Option Rat := if t < 1 then (steps 1, if tl < 1 then some 1 else none) else (steps t, none)
      if tl * tl ≤ t2 then bounded tl
      else if t2 ≤ tO * tO then bounded tO
      else if t2 < 1 then (steps 1, if tl < 1 then some 1 else none)
      else (max 1 (ceilSqrt (ceilRat (t2 / (per * per)))), none)

/-- SECURING_COMMIT: every member has reported; the coordinator computes the next interval, commits, and broadcasts (R388, R384, R392 to R394). -/
def execSecuringCommit (ctx : Nat) (s : State) : Host.Outcome State Fault Refusal :=
  let c := s.ctx ctx
  match c.sec.current, c.job.image with
  | some r, some im =>
    if r.state ≠ 1 ∨ ¬ c.job.plan.coordinator then .next s
    else
      let now := s.clk.tai.ns
      let win := dflt im.securing.windowS 2592000 * 1000000000
      let recs := (c.sec.recoveries.filter (fun t => decide (now < t + win))).length
      let iv := interval im.securing im.man (rankCount im.man) c.sec.costs (((now - c.sec.rankFromNs : Nat) : Rat) / 1000000000) recs
      let s := match iv.2 with
        | some t => s.event 0x0004 1 ctx [(t * 1000000000).floor.toNat]
        | none => s
      .next (s.commitGen ctx (s.fabricNs ctx) (r.lastStep + iv.1))
  | _, _ => .next s

/-- GENERATION_COMMIT: the commit reaches a member (R388). -/
def execGenerationCommit (ctx generation commitNs nextStep : Nat) (s : State) : Host.Outcome State Fault Refusal :=
  match (s.ctx ctx).sec.current with
  | some r => if r.generation = generation ∧ r.state = 1 then .next (s.commitGen ctx commitNs nextStep) else .next s
  | none => .next s

/-- A loss is written into the generation it belongs to, or held until that generation commits (R389). -/
def State.writeLoss (s : State) (x : Nat) (v : F32) : State :=
  let c := s.ctx x
  match c.sec.current with
  | some r => if (r.lastStep + 1) % 2 ^ 40 = c.job.step then s.updSec x (fun k => { k with heldLoss := some v }) else s
  | none =>
    match (c.sec.records.filter (fun r => r.state = 2)).getLast? with
    | none => s
    | some r =>
      if (r.lastStep + 1) % 2 ^ 40 ≠ c.job.step then s
      else
        let n := { r with loss := v, lossValid := true }
        let s := s.updSec x (fun k => { k with records := k.records.map (fun q => if q == r then n else q) })
        if s.pins.nandClosed then s else s.updNand r.jobId r.generation (fun (g : NandGen) => { g with record := { g.record with loss := v, lossValid := true } })

/-- LOSS_CAPTURE: when step s + 1 retires, the module at rank (0, p − 1, 0, 0) reads the loss at LOSS_ADDR; the others receive it (R389). -/
def execLossCapture (ctx : Nat) (loss : Option F32) (s : State) : Host.Outcome State Fault Refusal :=
  let c := s.ctx ctx
  match c.job.image with
  | none => .next s
  | some im =>
    if ¬ s.stepRetired ctx ∨ c.job.phase ≠ 4 then .next s
    else
      match loss with
      | some v => .next (s.writeLoss ctx v)
      | none =>
        if c.job.plan.rank = some [0, im.man.p - 1, 0, 0] then
          .next (s.writeLoss ctx (BitVec.ofNat 32 (leNat (s.localRead ctx (im.securing.lossAddr % 2 ^ 48) 4))))
        else .next s

end Sys2Proof.Machine
end

