-- ==== Sys2Proof/Machine/Recover.lean ====
section
/-! DEFINITION. Recovery (R395 to R406): trigger, halt, selection of the target, refill, checking, replay and the
recovery record (R405). -/

namespace Sys2Proof.Machine

/-! ## The record -/

/-- The recovery record (R405) appended to the event log; it ends the recovery's handle. -/
def State.recoveryRecord (s : State) (x outcome verify : Nat) : State :=
  let c := s.ctx x
  let r := c.recov
  let t := r.target.getD {}
  let resume := c.job.stepStart
  let s := s.updRecov x (fun r => { r with lastSeq := s.logNext, verify := verify })
  s.logRecord 0x32 (recSev 0x32) x (fun seq =>
    [0x32#8] ++ leBytes 1 outcome ++ leBytes 1 verify ++ leBytes 1 r.trigger ++ leBytes 4 t.generation ++ leBytes 5 t.lastStep ++ zeros 3
      ++ leBytes 4 (r.stepAt - t.lastStep) ++ leBytes 4 r.replaced ++ leBytes 8 r.triggerNs ++ leBytes 8 resume
      ++ leBytes 8 (resume - t.boundaryNs) ++ leBytes 4 r.restarts ++ leBytes 4 seq ++ zeros 8)

/-! ## Trigger and halt -/

/-- This module coordinates the recovery: rank (0, 0, 0, 0), or, while that is lost, the surviving member of lowest position (R396). -/
def State.coordinates (s : State) (x : Nat) (lost : List Nat) : Bool :=
  let p := (s.ctx x).job.plan
  if lost.contains (p.devices.getD 0 0xFFFF) then p.devices.find? (fun d => !lost.contains d) == some s.deviceId else p.coordinator

/-- The armed trace of a context ends (R536). -/
def State.disarm (s : State) (x : Nat) : State :=
  s.updCtx x (fun c => { c with sampling := { c.sampling with armed := none, tracing := false } })

/-- A recovery begins, or begins again, at HALTING (R395, R397, R406). `lost` names devices. -/
def State.beginRecovery (s : State) (x code atNs : Nat) (lost : List Nat) : State :=
  let c := s.ctx x
  let again := c.recov.state == .refilling
  let s := s.updRecov x (fun r =>
    if r.state == .none_ then { r with
      state := .halting, trigger := code, triggerNs := atNs, stepAt := c.job.step, lost := lost, filling := [], retried := false, restarts := 0, replaced := 0
      target := none, override := false, hostCursor := none }
    else { r with state := .halting, lost := (r.lost ++ lost).eraseDups, restarts := if again then r.restarts + 1 else r.restarts })
  let s := if code = 5 then s else s.disarm x
  if c.recov.state == .none_ then s.updSec x (fun k => { k with recoveries := k.recoveries ++ [s.clk.tai.ns] }) else s

/-- RECOVERY_TRIGGER: a member's report reaches the coordinator, which begins a recovery and broadcasts HALT (R395). -/
def execRecoveryTrigger (ctx : Nat) (t : Trigger) (s : State) : Host.Outcome State Fault Refusal :=
  let c := s.ctx ctx
  if c.job.phase ≠ 4 ∨ ¬ s.coordinates ctx t.lost ∨ c.recov.state == .lost ∨ c.recov.state == .verifyFailed then .next s
  else .next (s.beginRecovery ctx t.code t.atNs t.lost)

/-- RECOVERY_HALT: the member fences the job's context, aborts its open generation and any re-shard, and reports (R397, R335). -/
def execRecoveryHalt (ctx : Nat) (s : State) : Host.Outcome State Fault Refusal :=
  let c := s.ctx ctx
  if c.job.phase ≠ 4 then .next s
  else
    let s := if c.recov.state == .none_ then s.beginRecovery ctx 1 (s.fabricNs ctx) [] else s.updRecov ctx (fun r => { r with state := .halting })
    let s := (s.fence ctx).abandonReshard ctx
    .next (s.progress1 c.recov.handle)

/-! ## Selection (R398, R400, R406) -/

/-- An erasure group can rebuild its lost members: for each stripe index no more data members are lost than parity stripes of that index remain
(R406). -/
def rebuilds (m : Nat) (lost : List Nat) (g : List Nat × List Nat) : Bool :=
  let dead := (g.1.filter (fun j => lost.contains j)).length
  let h := g.2.length
  (List.range h).all (fun i =>
    let p0 := if lost.contains (g.2.getD i 0) then 0 else 1
    let p1 := if m < 2 ∨ lost.contains (g.2.getD ((i + 1) % h) 0) then 0 else 1
    decide (dead ≤ p0 + p1))

/-- Every lost member has a mirror that is left, from which its replacement reads a snapshot (R381, R399, R406). -/
def mirrorsLeft (n : Nat) (lost : List Nat) : Bool := lost.all (fun j => !lost.contains (mirrorOf n j))

/-- The target of a recovery: generation, and whether it is restored from snapshots; none ends in LOST (R398, R406). -/
def chooseTarget (im : JobImage) (trigger : Nat) (v : HaltView) : Option (Nat × Bool) :=
  let n := rankCount im.man
  let mode := secMode im
  let best (l : List (Nat × Bool × Nat)) : Option (Nat × Bool × Nat) :=
    l.foldl (fun b g => match b with | some a => if a.1 < g.1 then some g else b | none => some g) none
  let snap := if mirrorsLeft n v.lost then (best (v.committed.filter (fun g => g.2.1))).map (fun g => (g.1, true)) else none
  match best v.committed with
  | none => none
  | some g =>
    if mode = 2 then snap
    else
      let ok := (erasureGroups n (dflt im.securing.k 8)).all (rebuilds (dflt im.securing.m 1) v.lost)
      if ok ∧ trigger ≠ 3 then some (g.1, false) else if mode = 3 then snap else if ok then some (g.1, false) else none

/-- The record that a member holds of a generation, marked COMMITTED (R398); one that lies on NAND alone is read from there. -/
def State.recordOf (s : State) (x gen : Nat) : Option SecRec :=
  let c := s.ctx x
  let job := match c.job.image with | some im => im.man.jobId | none => 0
  match (c.sec.records.filter (fun r => r.generation = gen)).getLast? with
  | some r => some { r with state := 2 }
  | none => (s.nand.find? (fun (n : NandGen) => n.jobId = job && n.record.generation = gen && n.role = 0)).map (fun n => { n.record with state := 2 })

/-- HALTING_END: all members have reported or 100 ms have passed; the target, the standby modules and the sources are chosen (R397 to R400). A member
whose refill has not completed counts as lost (R406). -/
def execHaltingEnd (ctx : Nat) (v : HaltView) (s : State) : Host.Outcome State Fault Refusal :=
  let c := s.ctx ctx
  match c.job.image with
  | none => .next s
  | some im =>
    if c.recov.state != .halting && c.recov.state != .selecting && c.recov.state != .waitingForModule then .next s
    else
      let n := rankCount im.man
      let lost := v.lost.filter (fun j => decide (j < n))
      let empty := (lost ++ c.recov.filling).eraseDups
      let named : Option (Nat × Bool) :=
        if c.recov.trigger = 5 then c.sampling.armed.map (fun g => (g, secMode im == 2 || v.committed.any (fun e => decide (g < e.1)))) else none
      -- a job restored after a power loss has nothing but its snapshots (R566)
      let trigger := if c.sec.records.isEmpty && v.given.isNone then 3 else c.recov.trigger
      match named.or (chooseTarget im trigger { v with lost := empty }) with
      | none => .next ((s.updRecov ctx (fun r => { r with state := .lost })).recoveryRecord ctx 1 2)
      | some (gen, snap) =>
        let rec' := match v.given with
          | some g => some { g.record with state := 2 }
          | none => s.recordOf ctx gen
        let s := s.updRecov ctx (fun r => { r with target := rec', targetSnap := snap })
        let s := s.updSec ctx (fun k => { k with
          records := k.records.map (fun (q : SecRec) => if q.generation = gen then { q with state := 2 } else q)
          blocks := match v.given with | some g => { g.blocks with generation := gen } | none => k.blocks
          generation := max k.generation v.nextGen, nextStep := max k.nextStep v.nextStep })
        if lost.length ≤ v.standbys.length then
          let devs := (lost.zip v.standbys).foldl (fun (ds : List Nat) p => ds.set p.1 p.2) c.job.plan.devices
          let s := s.updJob ctx (fun j => { j with plan := { j.plan with devices := devs } })
          .next (s.updRecov ctx (fun r => { r with
            state := .cursorCheck, filling := empty, replaced := r.replaced + lost.length, hostCursor := none }))
        else if im.man.d % 2 = 0 then
          -- the planner halves d and the job restores in the new layout (R400, R336), where its NAND reservation can be met (R382)
          let im2 := { im with man := { im.man with d := im.man.d / 2 } }
          let devs := (c.job.plan.devices.filter (fun d => !(lost.map (fun j => c.job.plan.devices.getD j 0xFFFF)).contains d))
          let order := axisOrderOf im2
          let pos := devs.findIdx (fun d => d = s.deviceId)
          let rank := if pos < rankCount im2.man then some (rankAt im2.man order pos) else none
          let colls := match rank with | some k => (collsFor im2 k).map (fun i => bindColl im2.man order devs k i) | none => []
          let epoch := (c.job.layoutEpoch + 1) % 65536
          let need := if secMode im2 = 1 then 0 else nandNeed im2 order pos
          if nandSize < s.nandUsed ctx + need + nandJournal then
            .next ((s.updRecov ctx (fun r => { r with state := .waitingForModule })).recoveryRecord ctx 3 2)
          else
          let s := s.updCtx ctx (fun c => { c with
            nandReserve := need
            sec := { c.sec with fullForm := true }
            colls := colls.foldl (fun t (e : Nat × CollRec) => t.set e.1 { e.2 with epoch := epoch }) []
            insts := []
            job := { c.job with
              image := some im2, layoutEpoch := epoch, events := eventTable im2 pos
              plan := { c.job.plan with devices := devs, axisOrder := order, position := pos, rank := rank } } })
          .next (s.updRecov ctx (fun r => { r with state := .cursorCheck, filling := [], hostCursor := none }))
        else .next ((s.updRecov ctx (fun r => { r with state := .waitingForModule })).recoveryRecord ctx 3 2)

/-! ## Refill (R399, R251) -/

/-- A tile's frame and header from a snapshot version, own or of the lost member's mirror. -/
def State.restoreTile (s : State) (x t : Nat) (cells : List Host.Cell) : State :=
  let a := ((s.ctx x).entry t).phys x t
  let s := { s with mem := Memory.load s.mem a tileBytes cells }
  s.setCtx x ((s.ctx x).setHdr t (TileHdr.unpack (leNat (Memory.read cells tileBytes 64))))

/-- The tiles of a context: every valid entry of either bank that its ACTIVE bank does not hide. -/
def Ctx.allTiles (c : Ctx) : List Nat := ((c.tiles.map (fun e => e.1)) ++ (c.bank1.map (fun e => e.1))).eraseDups

/-- Replacements under construction or agreed are cancelled (R433): the inactive bank's slots go and their handles end. -/
def State.cancelWeights (s : State) (x : Nat) : State :=
  let w := (s.ctx x).weights
  let gone := w.slots.filter (fun (e : Nat × DSlot) => e.2.bank != w.active)
  let hs := ((gone.map (fun (e : Nat × DSlot) => e.2.handle)) ++ w.loads ++ [w.switchHandle]).eraseDups.filter (fun h => h != 0)
  let s := hs.foldl (fun s h => s.finish h 0x22) s
  s.updWeights x (fun w => { w with
    slots := w.slots.filter (fun (e : Nat × DSlot) => e.2.bank = w.active), pending := false, switchHandle := 0, switchRepl := 0, loads := [], reported := false, reports := 0
    bankGen := if w.active = 0 then (w.bankGen.1, 0) else (0, w.bankGen.2), bankRepl := if w.active = 0 then (w.bankRepl.1, 0) else (0, w.bankRepl.2) })

/-- The member's tiles take the target's values (R399): pre-images, snapshots, or what parity has rebuilt (tile, accumulator key, case of R329);
unsecured tiles and the inactive bank are zero-filled (R433). The secured set is that of R375, with the GRAD tiles of the target's pending updates; a replacement takes the tiles
that the lost member's mirror gives. -/
def State.restoreTiles (s : State) (x : Nat) (snap : Bool) (r : SecRec) (us : List Update) (rebuilt : List (Nat × Nat × RebuildCase))
    (given : List (Nat × List Byte)) : State :=
  let c := s.ctx x
  let sec := (c.secured ++ s.gradTiles x us).eraseDups
  let s := c.allTiles.foldl (fun s t =>
    let z (s : State) (b : Nat) : State :=
      let e := c.bankEntry b t
      if e.valid then s.clearMem (e.phys x t) tileBytes else s
    if c.inRegion t then
      let s := z s (1 - c.weights.active)
      if sec.contains t then s else z s c.weights.active
    else if sec.contains t then s else z s 0) s
  let s := if snap then sec.foldl (fun s t => match s.snapTile r.jobId r.generation t with | some cells => s.restoreTile x t cells | none => s) s
    else c.sec.preimages.foldl (fun s (p : Nat × Nat) =>
      let s := { s with mem := Memory.copy s.mem (capPhys p.2) ((c.entry p.1).phys x p.1) tileBytes }
      match c.sec.copyHdrs.find p.2 with | some h => s.setCtx x ((s.ctx x).setHdr p.1 h) | none => s) s
  let s := given.foldl (fun s e => s.restoreTile x e.1 (Memory.cells 0 e.2)) s
  let s := rebuilt.foldl (fun s p =>
    let bytes := (List.range tileBytes).map (fun i => (c.sec.accum.getOr (p.2.1 * 2 ^ 16 + i) 0#8))
    { s with mem := Memory.write s.mem ((c.entry p.1).phys x p.1) (gfScale (rebuildFactor p.2.2) bytes) }) s
  s.updCtx x (fun c => sec.foldl (fun (c : Ctx) t => c.setEntry t { c.entry t with dirty := false, cow := false, lost := false }) c)

/-- A switch made after the target's capture is undone (R433): the weights, restored in the frames of the bank that was in use, are those of the bank that
the target's punty names, and no digest slot covers them. -/
def State.undoSwitch (s : State) (x : Nat) (r : SecRec) : State :=
  let used := (s.ctx x).weights.active
  let bank := bits r.punty 30 30
  let tiles := (s.ctx x).weights.regions.flatMap (fun g => (List.range g.2).map (fun i => g.1 + i))
  let s := if bank = used then s
    else tiles.foldl (fun s t =>
      let old := (s.ctx x).bankEntry bank t
      let s := if old.valid then s.releaseEntry x t old else s
      s.updCtx x (fun c =>
        let c := (c.setBankEntry bank t (c.bankEntry used t)).setBankHdr bank t (c.bankHdr used t)
        (c.setBankEntry used t {}).setBankHdr used t {})) s
  s.updWeights x (fun w => { w with
    active := bank, slots := [], bankGen := if bank = 0 then (r.weightGen, 0) else (0, r.weightGen) })

/-- The state blocks of the target take effect (R376, R397): in the generation's own layout the instance numbers resume from its block, in a new
one they start at 0 (R313). -/
def State.restoreBlocks (s : State) (x : Nat) (b : SecBlocks) (same : Bool) : State :=
  let s := b.rings.foldl (fun s r =>
    s.updRing r.1 r.2.1 (fun (g : Ring) => if g.ctx = x then { g with next := r.2.2.1, micro := r.2.2.2.1, stage := r.2.2.2.2 } else g)) s
  let s := s.mapRings x (fun (g : Ring) => { g with running := false, halted := false, out := [], compl := [], waitAt := none })
  s.updCtx x (fun c => { c with
    events := b.events
    updates := b.updates.map (fun (u : Update) => if u.state = 1 then { u with state := 0 } else u)
    colls := c.colls.vals (fun k (r : CollRec) =>
      match b.colls.find? (fun e => e.1 = k) with
      | some e => if same then { r with next := e.2, low := e.2, finished := [] } else { r with next := 0, low := 0, finished := [] }
      | none => { r with next := 0, low := 0, finished := [] })
    insts := [] })

/-- REFILLING begins on a member: a standby that takes a lost rank loads the image (R347), and the job's flows reopen with the secured bases (R251, R397);
over them the members are refilled (log 99). -/
def State.enterRefill (s : State) (x : Nat) : State :=
  let j := (s.ctx x).job
  match j.image with
  | none => s
  | some im =>
    let m := im.man
    let pos := j.plan.devices.findIdx (fun d => d = s.deviceId)
    let s := if j.plan.rank.isNone ∧ pos < rankCount m then
        let k := rankAt m j.plan.axisOrder pos
        let recs := (collsFor im k).map (fun i => bindColl m j.plan.axisOrder j.plan.devices k i)
        let s := s.updCtx x (fun c => { c with
          colls := recs.foldl (fun t (e : Nat × CollRec) => t.set e.1 e.2) []
          job := { c.job with events := eventTable im pos, plan := { c.job.plan with rank := some k, position := pos } } })
        (s.loadRings x (forRank im.programs k)).createTiles x im k
      else s
    let s := s.closeFlows x
    match (s.ctx x).job.plan.rank with
    | none => s
    | some k => (flowNeeds im k).foldl (fun s (e : List Nat × Nat) =>
        let dev := j.plan.devices.getD (posOf m j.plan.axisOrder e.1) 0xFFFF
        if s.deviceId < dev then s.sendOpen x { peer := dev, rank := e.1, queue := e.2, paths := s.pathCount dev, planning := false } else s) s

/-- In a layout other than the target's the tiles that the forced re-shard has moved take their places (R400, R336). -/
def State.enterLayout (s : State) (x : Nat) : State :=
  let j := (s.ctx x).job
  match j.image, j.plan.rank with
  | some im, some k => if (s.ctx x).forced then (s.newTable x im k).updReshard x (fun _ => {}) else s
  | _, _ => s

/-- REFILL_COMPLETE: all members have reached the target; this one is rolled back or filled, its state blocks are restored, and the recovery moves to
CHECKING (R397, R399). A replacement has its tiles from parity or from the lost member's mirror. -/
def execRefillComplete (ctx : Nat) (rebuilt : Refill) (s : State) : Host.Outcome State Fault Refusal :=
  let c := s.ctx ctx
  match c.recov.target with
  | some r =>
    -- a member whose shards are being reloaded, or whose tiles still move, is not ready to leave REFILLING (R425, R332)
    if c.recov.state != .refilling || c.job.reshard.state == .permuting
        || c.weights.slots.any (fun (e : Nat × DSlot) => e.2.bank = c.weights.active && e.2.state = 0) then .next s
    else
      let blocks := s.recovBlocks ctx
      let undone := c.weights.gen != r.weightGen
      let s := (s.cancelWeights ctx).restoreTiles ctx c.recov.targetSnap r blocks.updates rebuilt.tiles (match rebuilt.given with | some g => g.tiles | none => [])
      let s := if undone then (s.undoSwitch ctx r).event 0x000E 1 ctx [c.weights.gen, r.weightGen] else s
      let s := (s.enterLayout ctx).restoreBlocks ctx blocks (r.layoutEpoch = c.job.layoutEpoch)
      let s := s.updCtx ctx (fun c => { c with
        fenced := false, fenceDue := false
        feed := { c.feed with cursor := if c.recov.override then c.recov.hostCursor.getD r.dataCursor else r.dataCursor, waiting := false }
        sec := { c.sec with captures := [], incr := [], accum := [] }
        job := { c.job with step := r.lastStep, firstDone := true, boundaryDue := false, prefetchDue := false
                            stepStart := c.job.stepStart } })
      .next ((s.updRecov ctx (fun r => { r with state := .checking, filling := [] })).progress1 c.recov.handle)
  | none => .next s

/-- CHECKING_COMPLETE: the validation of replacement and repaired modules ends; without failures the job replays step s + 1, else a failing module is
treated as lost and the selection runs again (R397). -/
def execCheckingComplete (ctx : Nat) (failed : List Nat) (s : State) : Host.Outcome State Fault Refusal :=
  let c := s.ctx ctx
  if c.recov.state != .checking then .next s
  else if failed.isEmpty then .next ((s.updRecov ctx (fun r => { r with state := .replaying })).progress1 c.recov.handle)
  else .next (s.updRecov ctx (fun r => { r with state := .selecting, lost := (r.lost ++ failed).eraseDups }))

/-! ## Replay (R403, R404) -/

/-- The magnitude of a finite value. -/
def Val.mag : Val → Rat
  | .fin _ m e => if 0 ≤ e then (m : Rat) * 2 ^ e.toNat else (m : Rat) / 2 ^ (-e).toNat
  | _ => 0

/-- |replay − LOSS| ≤ tol × |LOSS|, in exact arithmetic; a NaN or infinite loss never passes (R403). -/
def withinTol (tol replay loss : F32) : Bool :=
  let a := replay.val
  let b := loss.val
  !(a.special || b.special) && decide (Val.mag (a.add b.neg) ≤ Val.mag tol.val * Val.mag b)

/-- The default of VERIFY_TOL, 2⁻¹⁰ as binary32 (R378). -/
def tolDefault : F32 := 0x3A800000#32

/-- Two degrees differ by a power-of-two factor, 1 among them. -/
def pow2Apart (a b : Nat) : Bool :=
  let q (m n : Nat) : Bool := n != 0 && m % n == 0 && m / n == 2 ^ (m / n).log2
  q a b || q b a

/-- The degrees of two layouts differ only by power-of-two factors (R337, R403). -/
def degreesMatch (old : List Nat) (m : Manifest) : Bool :=
  decide (old.length = 4) && (old.zip [m.t, m.p, m.d, m.e]).all (fun e => pow2Apart e.1 e.2)

/-- The comparison of R403: the VERIFY code of R405. `old` are the degrees of the target's layout. -/
def verifyCode (im : JobImage) (r : SecRec) (old : List Nat) (epoch : Nat) (skip : Bool) (replay : F32) : Nat :=
  if skip then 3
  else if !r.lossValid then 2
  else if r.layoutEpoch = epoch ∨ (bit im.securing.opts 0 ∧ degreesMatch old im.man) then (if replay == r.loss then 0 else 4)
  else if withinTol (if im.securing.verifyTol = 0 then tolDefault else im.securing.verifyTol) replay r.loss then 1 else 4

/-- REPLAY_COMPARE: the replayed step has retired and its loss is compared (R403); a first failure leads to SELECTING, a second to VERIFY_FAILED
(R404). -/
def execReplayCompare (ctx : Nat) (loss : F32) (s : State) : Host.Outcome State Fault Refusal :=
  let c := s.ctx ctx
  match c.recov.target, c.job.image with
  | some r, some im =>
    if c.recov.state != .replaying || c.job.step != (r.lastStep + 1) % 2 ^ 40 || !s.stepRetired ctx then .next s
    else
      let s := if c.sampling.tracing then s.disarm ctx else s
      let v := verifyCode im r (s.recovBlocks ctx).degrees c.job.layoutEpoch c.recov.override loss
      if v ≠ 4 then
        let s := s.recoveryRecord ctx 0 v
        let h := c.recov.handle
        let s := s.updRecov ctx (fun q => { lastSeq := q.lastSeq, verify := v })
        .next (s.finish h 0)
      else if c.recov.retried then .next ((s.updRecov ctx (fun q => { q with state := .verifyFailed })).recoveryRecord ctx 2 4)
      else .next (s.updRecov ctx (fun q => { q with state := .selecting, retried := true }))
  | _, _ => .next s

end Sys2Proof.Machine
end

