-- ==== Sys2Proof/Machine/Weights.lean ====
section
/-! DEFINITION. Weights: the shard list and its checks (R411 to R415), fetching and sealing (R416 to R420), background verification (R422, R423),
mismatches (R424), and the punty switch (R427 to R433). -/

namespace Sys2Proof.Machine

/-! ## The shard list -/

/-- A shard entry of a list (R413). -/
structure ShardEntry where
  host : Nat
  addr : Nat
  tier : Nat
  policy : Nat
  hdr : Nat
  tiles : Nat
  id : Nat
  digest : List Byte
  deriving DecidableEq, Repr

def shardAt (b : List Byte) (i : Nat) : ShardEntry :=
  let e := sub b (64 + 64 * i) 64
  { host := le e 0 8, addr := le e 8 6, tier := le e 14 1, policy := le e 15 1, hdr := le e 16 8, tiles := le e 24 4, id := le e 28 4, digest := sub e 32 32 }

/-- The list's entries. -/
def shardsOf (b : List Byte) : List ShardEntry := (List.range (le b 0 4)).map (shardAt b)

/-- The tiles of a shard. -/
def ShardEntry.list (e : ShardEntry) : List Nat := (List.range e.tiles).map (fun i => e.addr / tileBytes + i)

/-- The bank that a list names: the active one for 0, the inactive one for 1 (R412). -/
def Weights.bankFor (w : Weights) (sel : Nat) : Nat := if sel = 0 then w.active else 1 - w.active

def Weights.genOf (w : Weights) (bank : Nat) : Nat := if bank = 0 then w.bankGen.1 else w.bankGen.2
def Weights.replOf (w : Weights) (bank : Nat) : Nat := if bank = 0 then w.bankRepl.1 else w.bankRepl.2

/-- The whole of a shard lies in one weight region (R411, R415). -/
def Ctx.shardInside (c : Ctx) (e : ShardEntry) : Bool :=
  c.weights.regions.any (fun r => decide (r.1 ≤ e.addr / tileBytes ∧ e.addr / tileBytes + e.tiles ≤ r.1 + r.2))

/-- A shard list's header holds no reserved value and keeps the ranges of R412; its SHARD_IDs are unique (R413). -/
def listHeaderOk (b : List Byte) : Bool :=
  let n := le b 0 4
  decide (1 ≤ n ∧ n ≤ 65536) && decide (b.length = 64 + 64 * n) && decide (le b 4 1 ≤ 1) && decide (le b 5 1 ≤ 1) && le b 6 2 == 0
    && (sub b 12 52).all (fun x => x == 0#8) && (le b 4 1 == 1 || le b 8 4 == 0)
    && decide (((shardsOf b).map (fun e => e.id)).eraseDups.length = n)

/-- A shard entry keeps the ranges of R413. -/
def entryOk (e : ShardEntry) : Bool :=
  e.host % 4096 == 0 && decide (1 ≤ e.tiles ∧ e.tiles ≤ 16384)
    && (e.tier == 1 || e.tier == 2) && decide (e.policy ≤ 2) && !(e.policy == 1 && e.tier != 1) && !(e.policy == 2 && e.tier != 2)

/-- A shard list holds no reserved value and keeps the ranges of R412 and R413. -/
def shardListOk (b : List Byte) : Bool := listHeaderOk b && (shardsOf b).all entryOk

/-- A sealed context takes no prefer-near tile (R478). -/
def Ctx.policyBarred (c : Ctx) (e : ShardEntry) : Bool := c.sealed_ && e.policy == 1

/-- Two shards of a list overlap. -/
def shardsOverlap (l : List ShardEntry) : Bool :=
  ((List.range l.length).zip l).any (fun (a : Nat × ShardEntry) => ((List.range l.length).zip l).any (fun (c : Nat × ShardEntry) =>
    decide (a.1 < c.1) && decide (a.2.addr / tileBytes < c.2.addr / tileBytes + c.2.tiles) && decide (c.2.addr / tileBytes < a.2.addr / tileBytes + a.2.tiles)))

/-- A T1 or T2 frame for a weight tile: T1 in the lowest near region of the context with room (log 23). -/
def State.weightFrame (s : State) (x tier : Nat) : Option (Nat × Nat) :=
  if tier = 1 then (List.range 12).findSome? (fun k => (s.newFrame x 1 k).map (fun f => (k, f))) else (s.newFrame x 2 0).map (fun f => (0, f))

/-- The lowest free digest slot of a context. -/
def Weights.freeSlot (w : Weights) : Nat := ((List.range (w.slots.length + 1)).find? (fun i => !w.slots.has i)).getD 0

/-- The digest slots of the whole module (R420). -/
def State.slotsUsed (s : State) : Nat := s.ctxs.foldl (fun a e => a + e.2.weights.slots.length) 0

/-- A tile of a bank gets a frame for a shard: the one it has when tier and policy fit, else a new one in place of it (R428). -/
def State.shardTile (s : State) (x bank t tier policy : Nat) : Option State :=
  let e := (s.ctx x).bankEntry bank t
  if e.valid ∧ e.state = 0 ∧ e.tier = tier then some (s.setCtx x ((s.ctx x).setBankEntry bank t { e with policy := policy }))
  else
    let s := if e.valid then
        let s := (s.releaseEntry x t e).invalidate x (fun u => u = t)
        s.setCtx x ((s.ctx x).setBankEntry bank t {})
      else s
    (s.weightFrame x tier).map (fun f => s.setCtx x ((s.ctx x).setBankEntry bank t
      { valid := true, policy := policy, tier := tier, core := f.1, frame := f.2 }))

/-- Every tile of a list gets its frame; none when the grants do not hold them (R415). -/
def State.shardFrames (s : State) (x bank : Nat) (l : List ShardEntry) : Option State :=
  l.foldl (fun (o : Option State) e => e.list.foldl (fun (o : Option State) t => o.bind (fun s => s.shardTile x bank t e.tier e.policy)) o) (some s)

/-- The itemised refusal of a list (R415, R192): cause 0x09 for an entry outside a region, misaligned or overlapping, 0x08 for a reserved value, 0x04
for frames or digest slots; SLOT is the entry's place in the list (log 23). -/
def State.listShort (s : State) (x : Nat) (b : List Byte) : List Shortfall :=
  let c := s.ctx x
  let w := c.weights
  let l := shardsOf b
  let bank := w.bankFor (le b 4 1)
  let at_ (i : Nat) (bad : Bool) (cause : Nat) : List Shortfall := if bad then [shortfall cause 0xFFFF i 0 0] else []
  let items := ((List.range l.length).zip l).flatMap (fun (e : Nat × ShardEntry) =>
    at_ e.1 (!entryOk e.2 || c.policyBarred e.2) 8 ++ at_ e.1 (!c.shardInside e.2 || e.2.addr % tileBytes != 0 || shardsOverlap (e.2 :: (l.take e.1))) 9)
  let slots := w.slots.length + l.length
  (if listHeaderOk b then [] else [wide 8 0 0]) ++ items
    ++ (if 65536 < slots then [wide 4 slots 65536] else if 262144 < s.slotsUsed + l.length then [wide 4 (s.slotsUsed + l.length) 262144] else [])
    ++ (if items.isEmpty && (s.shardFrames x bank l).isNone then [wide 4 ((l.map (fun e => e.tiles)).sum) 0] else [])

/-- A shard is to be fetched: its transfer waits for a DMA channel (R416, R547). -/
def State.fetchShard (s : State) (x slot : Nat) (d : DSlot) : State :=
  s.dmaAsk { fn := d.fn, handle := d.handle, shard := some (x, slot), bytes := d.tiles * (tileBytes + 8) }

/-- The inactive bank is READY: every slot of its generation is SEALED (R428). -/
def Weights.ready (w : Weights) : Bool :=
  let b := 1 - w.active
  let mine := w.slots.filter (fun (e : Nat × DSlot) => e.2.bank = b && e.2.generation = w.genOf b)
  !mine.isEmpty && mine.all (fun e => e.2.state = 1)
    && !(w.slots.any (fun (e : Nat × DSlot) => e.2.bank = b && e.2.state = 0))

/-- The context has a job loaded. -/
def Ctx.loaded (c : Ctx) : Bool := decide (2 ≤ c.job.phase)

/-- The counter of R431 is of this module: the coordinator's of a job, or that of a context with no job. -/
def Ctx.countsReports (c : Ctx) : Bool := !c.loaded || c.job.plan.coordinator

/-- The counter of the members whose bank is READY changes, and with it DONE of the switch request (R431, R434). -/
def State.setReports (s : State) (x n : Nat) : State :=
  let s := s.updWeights x (fun w => { w with reports := n })
  let k := (s.ctx x).weights.switchHandle
  match s.handle k with
  | some h => s.progress k h.phase n h.total
  | none => s

/-- A member's bank has become READY, or has ceased to be (R431, R432). -/
def State.countReport (s : State) (x : Nat) (ready : Bool) : State :=
  let n := (s.ctx x).weights.reports
  if (s.ctx x).countsReports then s.setReports x (if ready then n + 1 else n - 1) else s

/-- This member reports that its inactive bank is READY, once (R431). -/
def State.reportReady (s : State) (x : Nat) : State :=
  let w := (s.ctx x).weights
  if !w.reported && w.ready then (s.updWeights x (fun w => { w with reported := true })).countReport x true else s

/-- This member takes its report back: the bank has ceased to be READY before a switch was agreed (R432). -/
def State.unreport (s : State) (x : Nat) : State :=
  if (s.ctx x).weights.reported then (s.updWeights x (fun w => { w with reported := false })).countReport x false else s

/-- A shard list accepted or refused (R415, R419, R420): the state, and the status of the command's handle when it is refused. -/
def State.takeList (s : State) (x handle fn : Nat) (b : List Byte) : State × Nat :=
  let c := s.ctx x
  let w := c.weights
  let l := shardsOf b
  let bank := w.bankFor (le b 4 1)
  let opens := le b 5 1 = 1
  if !shardListOk b || l.any c.policyBarred then (s, 0x17)
  else if (le b 4 1 = 0 ∧ 2 ≤ c.job.phase) ∨ (le b 4 1 = 1 ∧ w.pending) ∨ (¬ opens ∧ w.replOf bank ≠ le b 8 4) then (s, 0x16)
  else if l.any (fun e => !c.shardInside e || e.addr % tileBytes != 0) || shardsOverlap l then (s, 0x17)
  else if 65536 < w.slots.length + l.length ∨ 262144 < s.slotsUsed + l.length then (s, 0x17)
  else
    match s.shardFrames x bank l with
    | none => (s, 0x17)
    | some s =>
      let gen := if opens then (w.genCounter + 1) % 4294967296 else w.genOf bank
      let covered (d : DSlot) : Bool := d.bank = bank && l.any (fun e =>
        decide (d.firstTile < e.addr / tileBytes + e.tiles) && decide (e.addr / tileBytes < d.firstTile + d.tiles))
      let s := s.updWeights x (fun w => { w with
        genCounter := if opens then gen else w.genCounter
        bankGen := if bank = 0 then (gen, w.bankGen.2) else (w.bankGen.1, gen)
        bankRepl := if bank = 0 then (le b 8 4, w.bankRepl.2) else (w.bankRepl.1, le b 8 4)
        slots := w.slots.filter (fun (e : Nat × DSlot) => !covered e.2) })
      let s := if bank = w.active then s else s.unreport x
      -- a load of which nothing is left to arrive is cancelled (DESIGN CHOICE, log 23)
      let cut := ((w.slots.filter (fun (e : Nat × DSlot) => covered e.2 && e.2.state = 0)).map (fun (e : Nat × DSlot) => e.2.handle)).eraseDups
      let s := (cut.filter (fun h => !((s.ctx x).weights.slots.any (fun (e : Nat × DSlot) => e.2.handle = h && e.2.state = 0)))).foldl
        (fun s h => s.finish h 0x21) s
      let s := l.foldl (fun s e =>
        let slot := (s.ctx x).weights.freeSlot
        let d : DSlot := {
          bank := bank, firstTile := e.addr / tileBytes, tiles := e.tiles, generation := gen, digest := e.digest, shardId := e.id, tier := e.tier,
          policy := e.policy, hostAddr := e.host, hdrAddr := e.hdr, handle := handle, fn := fn }
        (s.updWeights x (fun w => { w with slots := w.slots.set slot d })).fetchShard x slot d) s
      -- PHASE 0 until the first of its shards arrives (R434)
      (s.progress handle 0 0 ((l.map (fun e => e.tiles)).sum), 0)

/-! ## Arrival and read-back -/

/-- A slot of a context changed. -/
def State.updSlot (s : State) (x slot : Nat) (f : DSlot → DSlot) : State :=
  s.updWeights x (fun w => match w.slots.find slot with | some d => { w with slots := w.slots.set slot (f d) } | none => w)

/-- PHASE of a load with a shard still FETCHING (R434): 1 while one has not arrived, 2 while those left are only to be read back. -/
def Weights.loadStage (w : Weights) (handle : Nat) : Nat :=
  if w.slots.any (fun (e : Nat × DSlot) => e.2.handle = handle && e.2.state = 0 && !e.2.arrived) then 1 else 2

/-- A load's handle takes the PHASE that its shards give it. -/
def State.loadStep (s : State) (x handle : Nat) : State := s.phase handle ((s.ctx x).weights.loadStage handle)

/-- The event of a mismatch (R424): bank, SHARD_ID, slot, and the check that failed: 0 arrival, 1 read-back, 2 background (log 23). -/
def State.mismatch (s : State) (x slot check : Nat) (d : DSlot) : State :=
  s.event 0x000D 2 x [d.bank, d.shardId, slot, check]

/-- A shard fails for good: MISMATCH, and the load's handle ends (R424). -/
def State.failShard (s : State) (x slot status : Nat) (d : DSlot) : State :=
  let s := s.updSlot x slot (fun d => { d with state := 3, arrived := false, handle := 0 })
  if d.handle = 0 then s else s.finish d.handle status

/-- A tile's data and header written in its bank, with the marks of a write (R417, R419, R197). -/
def State.putShardTile (s : State) (x slot i : Nat) (d : DSlot) (hdrs data : List Byte) : State :=
  let t := d.firstTile + i
  let e := (s.ctx x).bankEntry d.bank t
  let h := sub hdrs (8 * i) 8
  let s := s.memWrite (e.phys x t) (padTo tileBytes (sub data (tileBytes * i) tileBytes))
  let c := (s.ctx x).setBankEntry d.bank t { (s.ctx x).bankEntry d.bank t with dirty := true }
  s.setCtx x (c.setBankHdr d.bank t
    { format := le h 0 1, shapeFlags := le h 1 1, rows := le h 2 2, cols := le h 4 2, generation := d.generation, digestSlot := slot
      lastWriteStep := c.job.step % 2 ^ 40 })

/-- A shard fails its check for the first time: what its reload starts from, and the reload (R424). -/
def State.reloadShard (s : State) (x slot : Nat) (k : DSlot) (f : DSlot → DSlot) : State :=
  ((s.updSlot x slot f).fetchShard x slot k).loadStep x k.handle

/-- A tile of a shard is in a migration that stalls writes to it (R204). -/
def Ctx.shardStalls (c : Ctx) (d : DSlot) : Bool := (List.range d.tiles).any (fun i => decide (2 ≤ (c.bankEntry d.bank (d.firstTile + i)).state))

/-- SHARD_ARRIVAL: the last byte of a shard that holds a DMA channel (R416) arrives; its tiles are written and the arrival digest is compared (R417,
R424). While a tile of the shard is in a migration that stalls writes, the arrival waits (R204). -/
def execShardArrival (ctx slot : Nat) (d : ShardDma) (s : State) : Host.Outcome State Fault Refusal :=
  match (s.ctx ctx).weights.slots.find slot with
  | none => .next s
  | some k =>
    if k.state ≠ 0 ∨ k.arrived ∨ !s.shardServed ctx slot ∨ (s.ctx ctx).shardStalls k then .next s
    else if !d.reachable then .next (s.failShard ctx slot 0x1A k)
    else
      let hdrs := padTo (8 * k.tiles) d.headers
      let data := padTo (tileBytes * k.tiles) d.data
      let s := (List.range k.tiles).foldl (fun s i => s.putShardTile ctx slot i k hdrs data) s
      if sm3 (hdrs ++ data) = k.digest then .next ((s.updSlot ctx slot (fun k => { k with arrived := true })).loadStep ctx k.handle)
      else
        let s := s.mismatch ctx slot 0 k
        if k.reloaded then .next (s.failShard ctx slot 0x1B k) else .next (s.reloadShard ctx slot k (fun k => { k with reloaded := true }))

/-- The tiles of a shard sealed again are clear of LOST (R424). -/
def State.clearLost (s : State) (x : Nat) (d : DSlot) : State :=
  (List.range d.tiles).foldl (fun s i =>
    s.setCtx x ((s.ctx x).setBankEntry d.bank (d.firstTile + i) { (s.ctx x).bankEntry d.bank (d.firstTile + i) with lost := false })) s

/-- The tiles of a shard take new frames, and the old ones are retired (R424, R229). -/
def State.newFrames (s : State) (x : Nat) (d : DSlot) (cause : Nat) : State :=
  (List.range d.tiles).foldl (fun s i =>
    let t := d.firstTile + i
    let e := (s.ctx x).bankEntry d.bank t
    let loc := s.bankOf e.tier e.core e.frame 0
    match s.weightFrame x e.tier with
    | none => s
    | some f =>
      let s := s.setCtx x ((s.ctx x).setBankEntry d.bank t { e with core := f.1, frame := f.2 })
      let s := { s with retiredFrames := s.retiredFrames ++ [(e.tier, e.frame)] }
      s.uncRow loc.1 loc.2 cause) s

/-- A shard as a reader finds it in its frames (R414, R417): the header array, its reserved bytes 0, and the data, with what the reader met in error
XORed in. The bytes of a tile in T3 come over the fabric (R423). -/
def State.shardBytes (s : State) (x : Nat) (d : DSlot) (errs : List (Nat × Byte)) : List Byte :=
  let c := s.ctx x
  let tiles := (List.range d.tiles).map (fun i => d.firstTile + i)
  let hdr (t : Nat) : List Byte :=
    let h := c.bankHdr d.bank t
    leBytes 1 h.format ++ leBytes 1 h.shapeFlags ++ leBytes 2 h.rows ++ leBytes 2 h.cols ++ zeros 2
  let all := tiles.flatMap hdr ++ tiles.flatMap (fun t => Memory.read s.mem ((c.bankEntry d.bank t).phys x t) tileBytes)
  errs.foldl (fun l e => l.set e.1 (l.getD e.1 0#8 ^^^ e.2)) all

/-- What a reader finds of a shard equals its digest (R417, R422). -/
def State.shardMatches (s : State) (x : Nat) (d : DSlot) (errs : List (Nat × Byte)) : Bool := sm3 (s.shardBytes x d errs) == d.digest

/-- A shard of a load is SEALED: DONE counts its tiles, and with the last one the load is ready, or, into the active bank, complete (R434). -/
def State.sealedStep (s : State) (x : Nat) (k : DSlot) : State :=
  match s.handle k.handle with
  | none => s
  | some h =>
    let w := (s.ctx x).weights
    if w.slots.any (fun (e : Nat × DSlot) => e.2.handle = k.handle && e.2.state = 0) then
      s.progress k.handle (w.loadStage k.handle) (h.done + k.tiles) h.total
    else
      let s := s.progress k.handle 3 (h.done + k.tiles) h.total
      -- a load into the inactive bank stays at PHASE 3 until its switch
      if k.bank = w.active then s.finish k.handle 0 else s.updWeights x (fun w => { w with loads := w.loads ++ [k.handle] })

/-- The uncorrected memory fault of a shard whose read-back differs (R424, R228): of the first data byte read in error. -/
def State.readbackFault (s : State) (x : Nat) (k : DSlot) (errs : List (Nat × Byte)) : State :=
  let at_ := ((errs.filter (fun e => decide (8 * k.tiles ≤ e.1) && e.2 != 0#8)).map (fun e => e.1 - 8 * k.tiles)).min?.getD 0
  let t := k.firstTile + at_ / tileBytes
  let line := at_ % tileBytes / 64
  let e := (s.ctx x).bankEntry k.bank t
  s.tileError e.tier (eccClass e.tier) 4 x (if e.tier = 0 then e.core else 0xFFFF) (s.deviceId * 2 ^ 48 + t * tileBytes) line 0
    (s.location e.tier e.core e.frame line)

/-- SHARD_READBACK: the shard read back from its frames equals its digest and is SEALED, or not (R417, R424); a member whose inactive bank has become
READY reports it (R431). -/
def execShardReadback (ctx slot : Nat) (errs : List (Nat × Byte)) (s : State) : Host.Outcome State Fault Refusal :=
  match (s.ctx ctx).weights.slots.find slot with
  | none => .next s
  | some k =>
    if k.state ≠ 0 ∨ ¬ k.arrived then .next s
    else if s.shardMatches ctx k errs then
      let s := s.updSlot ctx slot (fun k => { k with state := 1, reloaded := false, reread := false, handle := 0 })
      .next (((s.clearLost ctx k).reportReady ctx).sealedStep ctx k)
    else
      let s := s.mismatch ctx slot 1 k
      let seq := s.logNext
      let s := s.readbackFault ctx k errs
      if k.reread then .next (s.failShard ctx slot 0x1B k)
      else .next ((s.newFrames ctx k seq).reloadShard ctx slot k (fun k => { k with reread := true, arrived := false }))

/-! ## Background verification (R422 to R424) -/

/-- The SEALED slots of both banks, which a pass checks. -/
def Weights.sealedSlots (w : Weights) : List Nat := (w.slots.filter (fun (e : Nat × DSlot) => e.2.state = 1)).map (fun e => e.1)

/-- The slots that a pass has still to check: those of its start that are SEALED yet. -/
def Weights.passTodo (w : Weights) : List Nat := w.passLeft.filter (fun i => w.sealedSlots.contains i)

/-- A pass begins over every SEALED slot (R422). -/
def State.beginPass (s : State) (x : Nat) : State :=
  s.updWeights x (fun w => { w with passNs := s.clk.tai.ns, passLeft := w.sealedSlots, passLate := false })

/-- The shard that the verifier reads: contexts take turns, each in slot order (R422). -/
def State.verifyTurn (s : State) : Option (Nat × Nat) :=
  let ready := (s.ctxs.filter (fun (e : Nat × Ctx) => e.2.created && !e.2.weights.passTodo.isEmpty)).map (fun e => e.1)
  (roundRobin s.verifyLast ready).bind (fun x => ((s.ctx x).weights.passTodo.head?).map (fun k => (x, k)))

/-- VERIFY_PASS: a verification period ends; a pass that has not finished is late, counted and logged once, and finishes anyway (R422). -/
def execVerifyPass (ctx : Nat) (s : State) : Host.Outcome State Fault Refusal :=
  let w := (s.ctx ctx).weights
  if !(s.ctx ctx).created then .next s
  else
    let s := s.toTai (w.passNs + w.periodS * 1000000000)
    if w.passTodo.isEmpty then .next (s.beginPass ctx)
    else if w.passLate then .next s
    else .next ((s.event 0x000C 1 ctx [ctx]).updWeights ctx (fun w => { w with late := w.late + 1, passLate := true }))

/-- A shard in use failed its background check: its tiles are LOST and the context is fenced (R424). -/
def State.loseShard (s : State) (x : Nat) (k : DSlot) : State :=
  let s := (List.range k.tiles).foldl (fun s i =>
    s.setCtx x ((s.ctx x).setBankEntry k.bank (k.firstTile + i) { (s.ctx x).bankEntry k.bank (k.firstTile + i) with lost := true })) s
  s.fence x

/-- A background check failed: the shard is fetched again, and one in use fences its context (R424). -/
def State.shardFails (s : State) (x slot : Nat) (k : DSlot) : State :=
  let used : Bool := k.bank = (s.ctx x).weights.active && (s.ctx x).loaded
  let s := (s.count x 198 1).mismatch x slot 2 k
  let s := s.updSlot x slot (fun k => { k with state := 0, arrived := false, reloaded := true, reread := true, handle := 0 })
  let s := s.fetchShard x slot { k with handle := 0 }
  if used then s.loseShard x k else s

/-- SHARD_VERIFY: the background hash of the shard whose turn it is ends: with a verdict, or without one because a write or reload reached it (R422 to
R424). A late pass that ends is followed by the next at once. -/
def execShardVerify (ctx slot : Nat) (v : VerifyView) (s : State) : Host.Outcome State Fault Refusal :=
  if s.verifyTurn ≠ some (ctx, slot) then .next s
  else
    match (s.ctx ctx).weights.slots.find slot with
    | none => .next s
    | some k =>
      let s := { (s.updWeights ctx (fun w => { w with passLeft := w.passLeft.filter (fun i => i != slot) })) with verifyLast := ctx }
      let s : State := match v with
        | .disturbed => s
        | .read errs => if s.shardMatches ctx k errs then s.count ctx 197 1 else s.shardFails ctx slot k
      let w : Weights := (s.ctx ctx).weights
      if w.passTodo.isEmpty ∧ w.passLate then .next (s.beginPass ctx) else .next s

/-! ## The punty switch (R427 to R433) -/

/-- The grid point of a step to come, when no step before it is late. -/
def Job.gridOf (j : Job) (m : Manifest) (step : Nat) : Nat := j.stepStart + (step - j.step) * m.periodNs

/-- The switch step of R431: the first step at or after the earliest one whose grid point lies at or after both times. -/
def switchStep (j : Job) (m : Manifest) (earliestStep notBefore : Nat) : Nat :=
  max (max earliestStep (j.step + 1)) (j.step + ceilDiv (notBefore - j.stepStart) m.periodNs)

/-- The loads of a replacement change PHASE (R434). -/
def State.loadPhase (s : State) (x ph : Nat) : State := (s.ctx x).weights.loads.foldl (fun s h => s.phase h ph) s

/-- A switch is agreed for a step: PENDING and s_w are set, and the loads of the replacement are at PHASE 4 (R431, R434). -/
def State.agreeSwitch (s : State) (x k : Nat) : State :=
  (s.loadPhase x 4).updWeights x (fun w => { w with pending := true, switchStep := k, reported := true })

/-- The coordinator's decision (R431): s_w once every member has reported, or a refusal when it lies 2²⁴ or more steps ahead. -/
def State.decideSwitch (s : State) (x : Nat) (m : Manifest) : State :=
  let c := s.ctx x
  let w := c.weights
  if w.switchHandle = 0 ∨ w.switchRepl ≠ w.replOf (1 - w.active) ∨ w.reports < rankCount m then s
  else
    let k := switchStep c.job m w.earliestStep (max w.earliestNs (s.fabricNs x + 2000000))
    if c.job.step + 2 ^ 24 ≤ k then (s.finish w.switchHandle 0x17).updWeights x (fun w => { w with switchHandle := 0, switchRepl := 0 })
    else (s.phase w.switchHandle 4).agreeSwitch x k

/-- SWITCH_AGREE: a member's report reaches the coordinator; the coordinator sets s_w once the counter has reached N_r and every member, itself among
them, is READY; or the step that it broadcast reaches a member (R431). -/
def execSwitchAgree (ctx : Nat) (news : SwitchNews) (s : State) : Host.Outcome State Fault Refusal :=
  let c := s.ctx ctx
  let w := c.weights
  match c.job.image with
  | none => .next s
  | some im =>
    if w.pending ∨ c.job.plan.rank.isNone then .next s
    else
      match news with
      | .report => .next (if c.job.plan.coordinator then s.setReports ctx (w.reports + 1) else s)
      | .decide => .next (if c.job.phase = 4 ∧ c.job.plan.coordinator ∧ w.ready then s.decideSwitch ctx im.man else s)
      | .agreed k => .next (if c.job.phase = 4 ∧ ¬ c.job.plan.coordinator ∧ w.ready then s.agreeSwitch ctx k else s)

/-- What becomes of an old-bank frame (R430 step 3): the tile's capture when it has COW set, its pre-image when parity is taken and it has none, else
the frame is released. -/
def State.oldFrame (s : State) (x t : Nat) (e : TileEntry) : State :=
  let c := s.ctx x
  let f := if e.tier = 1 then 2 ^ 32 + e.frame else e.frame
  let keep : Bool := (e.tier == 1 || e.tier == 2) && c.secured.contains t
  let parity : Bool := match c.sec.newest with | some r => r.erasure | none => false
  if keep ∧ e.cow then s.updSec x (fun k => { k with captures := k.captures.set t f, copyHdrs := k.copyHdrs.set f (c.hdr t) })
  else if keep ∧ parity ∧ ¬ c.sec.preimages.has t then
    s.updSec x (fun k => { k with preimages := k.preimages.set t f, copyHdrs := k.copyHdrs.set f (c.hdr t) })
  else s.releaseEntry x t e

/-- The switch itself: ACTIVE inverts, WEIGHT_GEN follows, old frames are kept or released, the new bank is DIRTY (R430). -/
def State.switchBank (s : State) (x : Nat) : State :=
  let w := (s.ctx x).weights
  let old := w.active
  let tiles := w.regions.flatMap (fun r => (List.range r.2).map (fun i => r.1 + i))
  let s := tiles.foldl (fun s t =>
    let e := (s.ctx x).bankEntry old t
    if !e.valid then s
    else
      let s := s.oldFrame x t e
      s.setCtx x ((s.ctx x).setBankEntry old t {} |>.setBankHdr old t {})) s
  let s := s.updWeights x (fun w => { w with
    active := 1 - old, pending := false, switchStep := 0, reported := false, reports := 0, switchHandle := 0, switchRepl := 0, loads := []
    bankGen := if old = 0 then (0, w.bankGen.2) else (w.bankGen.1, 0)
    bankRepl := if old = 0 then (0, w.bankRepl.2) else (w.bankRepl.1, 0)
    slots := w.slots.filter (fun (e : Nat × DSlot) => e.2.bank != old) })
  let s := s.updCtx x (fun c => tiles.foldl (fun (c : Ctx) t =>
    let e := c.entry t
    if e.valid then c.setEntry t { e with dirty := true } else c) c)
  let s := s.updSec x (fun k => { k with fullForm := true })
  let s := s.invalidate x (fun t => (s.ctx x).inRegion t)
  let s := w.loads.foldl (fun s h => s.finish h 0) s
  s.finish w.switchHandle 0

/-- No remote operation executes on a tile of a weight region (R429, R430). -/
def State.weightsQuiet (s : State) (x : Nat) : Bool :=
  s.flows.all (fun e => e.2.ctx != x || e.2.msgs.all (fun m => !((tilesOf (m.addr % 2 ^ 48) m.len).any (fun t => (s.ctx x).inRegion t))))

/-- PUNTY_SWITCH: at the boundary before step s_w, with the pending-update queue empty, or at once in a context with no job (R429, R430). -/
def execPuntySwitch (ctx : Nat) (s : State) : Host.Outcome State Fault Refusal :=
  let c := s.ctx ctx
  let w := c.weights
  if !s.weightsQuiet ctx then .next s
  else if c.loaded then
    if ¬ w.pending ∨ c.job.nextStepNo ≠ w.switchStep ∨ ¬ s.stepRetired ctx ∨ ¬ c.updates.isEmpty then .next s else .next (s.switchBank ctx)
  else if w.switchHandle = 0 ∨ ¬ w.ready ∨ w.switchRepl ≠ w.replOf (1 - w.active) then .next s
  else .next (s.switchBank ctx)

/-- A deferral (R432): PENDING is cleared and the agreement restarts, each member whose bank is READY reporting again. -/
def State.deferSwitch (s : State) (x : Nat) : State :=
  let w := (s.ctx x).weights
  let s := ((s.loadPhase x 3).phase w.switchHandle 3).updWeights x (fun w => { w with pending := false, switchStep := 0, reported := w.ready })
  if (s.ctx x).countsReports then s.setReports x (if w.ready then 1 else 0) else s

/-- SWITCH_DEFERRAL: the member's inactive bank is no longer READY, or it cannot leave step 1 of R430: with more than 1 ms left before s_w the switch is
deferred, else the member fences itself; or another member's report, and the coordinator's broadcast, tell of a deferral. Before an agreement the
report is taken back (R432). -/
def execSwitchDeferral (d : Deferral) (s : State) : Host.Outcome State Fault Refusal :=
  let ctx := d.ctx
  let c := s.ctx ctx
  let w := c.weights
  match c.job.image with
  | none => .next s
  | some im =>
    if ¬ w.pending then
      .next (if d.told then (if c.job.plan.coordinator then s.countReport ctx false else s) else if w.ready then s else s.unreport ctx)
    else
      let stuck : Bool := c.job.nextStepNo = w.switchStep && (!s.weightsQuiet ctx || !c.updates.isEmpty)
      if ¬ d.told ∧ w.ready ∧ ¬ stuck then .next s
      else if d.told ∨ s.fabricNs ctx + 1000000 < c.job.gridOf im.man w.switchStep then .next (s.deferSwitch ctx)
      else .next (s.fence ctx)

end Sys2Proof.Machine
end

