-- ==== Sys2Proof/Machine/Mailbox.lean ====
section
/-! DEFINITION. Mailboxes and sessions (R437 to R451): the doorbell, the check of tag, epoch and MAC, the response, the channels of R452, handles
(R457 to R459), and the session commands of family 0x01. -/

namespace Sys2Proof

/-- A little-endian field of a request body (R452). -/
def Req.fld (rq : Req) (off n : Nat) : Nat := le rq.body off n

namespace Machine

/-! ## The page -/

/-- What a command answers: STATUS, HANDLE and the response body (R441). -/
structure Reply where
  status : Nat := 0
  handle : Nat := 0
  body : List Byte := []
  deriving DecidableEq, Repr

/-- The 32 bytes of a request header that the MAC covers (R440, R446). -/
def headBytes (rq : Req) (family code : Nat) : List Byte :=
  leBytes 1 family ++ leBytes 1 code ++ leBytes 2 rq.tag ++ leBytes 4 rq.epoch ++ leBytes 2 rq.body.length ++ leBytes 2 rq.target
    ++ leBytes 20 rq.hdrResv

/-- OPEN_SM2, CONFIRM and OPEN_PASSWORD, which carry and return a MAC of 0 (R446, R449). -/
def keyCmd (family code : Nat) : Bool := family == 1 && (code == 1 || code == 2 || code == 3)

/-- Commands that R449 accepts without a session. -/
def freeCmd (family code : Nat) : Bool := keyCmd family code || (family == 0x0B && (code == 1 || code == 5))

/-- A request carries a MAC of 0. -/
def macZero (rq : Req) : Bool := rq.mac.all (fun b => b == 0#8)

/-- A request carries the MAC of R446 under a key. -/
def macOk (rq : Req) (family code : Nat) (key : List Byte) : Bool := rq.mac == padTo 32 (hmacSm3 key (headBytes rq family code ++ rq.body))

/-- The module's mailboxes are served: RAILS has ended, the link is up, and the gaffer runs (R549, R561, R564). -/
def State.mailUp (s : State) : Bool := s.start.pwrok && s.pcie.linkUp && !s.start.inReset && !s.start.gafferDown

/-- The response written into the page: MAC under K_RSP on an open session, else 0; DONE, and its interrupt (R438, R439, R441, R446). -/
def State.answer (s : State) (rq : Req) (family code : Nat) (key : List Byte) (r : Reply) : State :=
  let h := leBytes 1 family ++ leBytes 1 code ++ leBytes 2 rq.tag ++ leBytes 4 rq.epoch ++ leBytes 2 r.body.length ++ leBytes 2 r.status ++ zeros 4
    ++ leBytes 8 r.handle ++ zeros 8
  let mac := if key.isEmpty then zeros 32 else padTo 32 (hmacSm3 key (h ++ r.body))
  let s := s.updMbox rq.mb (fun b => { b with lastStatus := r.status, done := true, busy := false, rsp := h ++ mac ++ r.body })
  if (s.mbox rq.mb).irqDone then s.emit (.msix (s.mbVector rq.mb).1 (s.mbVector rq.mb).2) else s

/-! ## Sessions -/

/-- The context of a mailbox's log entries. -/
def mbCtx (m : Nat) : Nat := if m = 0 then noCtx else m - 1

/-- A mailbox security record (R464): 1 MAC failure, 2 tag order, 3 password failure, 4 session closed. -/
def State.security (s : State) (m reason tag epoch : Nat) : State :=
  s.logRecord 0x41 (recSev 0x41) (mbCtx m) (fun _ => leBytes 2 m ++ leBytes 1 reason ++ zeros 1 ++ leBytes 2 tag ++ zeros 2 ++ leBytes 4 epoch)

/-- A session ends: its keys are erased (R451). -/
def State.endSession (s : State) (m : Nat) : State := s.updMbox m (fun b => { b with session := {}, epoch := 0, nextTag := 0 })

/-- Every session ends. -/
def State.endSessions (s : State) : State :=
  { s with mailboxes := s.mailboxes.vals (fun _ (b : Mailbox) => { b with session := {}, epoch := 0, nextTag := 0 }) }

/-- A command of an open session fails its check: neither value advances, and after 16 consecutive failures the session closes (R450). -/
def State.authFail (s : State) (rq : Req) (reason : Nat) : State :=
  let s := s.updMbox rq.mb (fun b => { b with session := { b.session with fails := satAt 255 (b.session.fails + 1) } })
  let s := s.security rq.mb reason rq.tag rq.epoch
  if 16 ≤ (s.mbox rq.mb).session.fails then (s.security rq.mb 4 rq.tag rq.epoch).endSession rq.mb else s

/-- The check of R443, R446, R449 and R450: the state, and the STATUS of a command that is not executed. -/
def State.authenticate (s : State) (rq : Req) (family code : Nat) : State × Option Nat :=
  let b := s.mbox rq.mb
  if b.session.isOpen then
    if rq.dbTag ≠ rq.tag ∨ rq.epoch ≠ b.epoch ∨ rq.tag ≠ b.nextTag then (s.authFail rq 2, some 0x12)
    else if !(if keyCmd family code then macZero rq else macOk rq family code b.session.kReq) then (s.authFail rq 1, some 0x11)
    else
      (s.setMbox rq.mb { b with
        nextTag := (b.nextTag + 1) % 65536
        epoch := if b.nextTag = 65535 then (b.epoch + 1) % 4294967296 else b.epoch
        session := { b.session with fails := 0 } }, none)
  else if rq.dbTag ≠ rq.tag then (s, some 0x12)
  else if !freeCmd family code then (s, some 0x10)
  else if !macZero rq then (s, some 0x11)
  else (s, none)

/-- What R493 and R561 answer before a command is looked at: a module without a MODULE record takes IDENTITY and ATTEST alone, and until READY
only the commands of R449 are taken. -/
def State.early (s : State) (family code : Nat) : Bool :=
  (s.start.noModule && family != 0x0B) || (s.start.stage != 7 && !freeCmd family code)

/-- A command issued by the procedure of R442: header and body are written, the doorbell rings, the gaffer copies, checks and executes the command and
answers it, or keeps it (none) to answer later. A doorbell rung while BUSY or DONE is set is ignored and sets OVERRUN (R443). -/
def State.mailRun (s : State) (rq : Req) (family code : Nat) (act : State → State × Option Reply) : State :=
  if !s.mailUp then s
  else
    let s := s.updMbox rq.mb (fun b => { b with req := Memory.write b.req 0x40 (headBytes rq family code ++ padTo 32 rq.mac ++ rq.body) })
    let b := s.mbox rq.mb
    if b.done || b.busy then s.setMbox rq.mb { b with overrun := true }
    else
      let key := if b.session.isOpen && !keyCmd family code then b.session.kRsp else []
      let s := s.setMbox rq.mb { b with overrun := false, lastTag := rq.dbTag }
      match s.authenticate rq family code with
      | (s, some st) => s.answer rq family code key { status := st }
      | (s, none) =>
        if rq.hdrResv ≠ 0 then s.answer rq family code key { status := 0x14 }
        else if s.early family code then s.answer rq family code key { status := 0x16 }
        else
          let a := act s
          match a.2 with
          | some r => a.1.answer rq family code key r
          | none => a.1.updMbox rq.mb (fun b => { b with busy := true })

/-- A command that is answered at once. -/
def State.mailCmd (s : State) (rq : Req) (family code : Nat) (act : State → State × Reply) : State :=
  s.mailRun rq family code (fun s => ((act s).1, some (act s).2))

/-! ## Channels and bodies (R452) -/

/-- A command of the admin mailbox alone. -/
def State.adm (s : State) (rq : Req) (f : State × Reply) : State × Reply := if rq.mb = 0 then f else (s, { status := 0x13 })

/-- A command of both channels that acts on no context: a context mailbox carries TARGET_CTX 0xFFFF (R440). -/
def State.anyMb (s : State) (rq : Req) (f : State × Reply) : State × Reply :=
  if rq.mb ≠ 0 ∧ rq.target ≠ 0xFFFF then (s, { status := 0x13 }) else f

/-- A command that acts on a context: TARGET_CTX on the admin mailbox, the mailbox's own context on a context mailbox. -/
def State.onCtx (s : State) (rq : Req) (f : Nat → State × Reply) : State × Reply :=
  if rq.mb ≠ 0 then (if rq.target = 0xFFFF then f (rq.mb - 1) else (s, { status := 0x13 }))
  else if rq.target = 0xFFFF then (s, { status := 0x13 })
  else if !(s.ctx rq.target).created then (s, { status := 0x15 })
  else f rq.target

/-- A body of the length that the command's row of R452 gives, whose reserved fields are 0 (R4). -/
def State.bodyOf (s : State) (rq : Req) (n : Nat) (ok : Bool) (f : State × Reply) : State × Reply :=
  if rq.body.length = n ∧ ok then f else (s, { status := 0x14 })

/-- A command that only the coordinator accepts (R452). -/
def State.asCoord (s : State) (x : Nat) (f : State × Reply) : State × Reply :=
  if (s.ctx x).job.plan.coordinator then f else (s, { status := 0x13 })

/-- The response to a command that creates a handle (R457); one that moves data by DMA takes its place among the transfers (R547). -/
def State.withHandle (s : State) (h : Handle) (f : State → Nat → State × Reply) : State × Reply :=
  if !s.handleRoom h.mb then (s, { status := 0x1D })
  else
    let a := s.newHandle h
    f (if h.transfers then a.1.dmaAsk { fn := h.mb, handle := a.2, bytes := h.len } else a.1) a.2

/-- A command fails with a STATUS and changes nothing. -/
def State.fail (s : State) (st : Nat) : State × Reply := (s, { status := st })

/-- A command is answered OK. -/
def State.done (s : State) (b : List Byte := []) : State × Reply := (s, { body := b })

/-- The response that gives a handle. -/
def State.given (s : State) (k : Nat) : State × Reply := (s, { handle := k })

/-! ## Records (R491) -/

/-- A record of the replay-protected region that is in force. -/
def Life.record (l : Life) (type : Nat) : Option SignedRec :=
  match l.records.find type with | some r => if r.valid then some r else none | none => none

/-- Bytes of a record's BODY; empty without the record. -/
def Life.recBody (l : Life) (type off n : Nat) : List Byte := match l.record type with | some r => sub r.bytes (64 + off) n | none => []

/-- An owner key: 0 configuration, 1 admin, 2 debug (R491). -/
def Life.ownerKey (l : Life) (i : Nat) : List Byte := l.recBody 2 (64 * i) 64

/-- A Skovgal key of the MODULE record: 0 manufacture, 1 provisioning, 2 firmware; its body begins with the lifecycle code, PART_NUMBER, MAC_BASE and
OUI, 26 bytes (R491). -/
def Life.skovgalKey (l : Life) (i : Nat) : List Byte := l.recBody 1 (26 + 64 * i) 64

/-- The PASSWORD record: enable byte, salt, iteration count, derived key (R448, R491). -/
def Life.passwordOn (l : Life) : Bool := match l.recBody 3 0 1 with | b :: _ => b.toNat % 2 == 1 | [] => false

/-! ## The session commands -/

/-- A session can open on a mailbox: the admin mailbox needs an OWNER record (R493), a context mailbox a created context that is not being torn down
(R463). -/
def State.opensOn (s : State) (m : Nat) : Option Nat :=
  if m = 0 then (if s.start.noOwner then some 0x16 else none)
  else
    let c := s.ctx (m - 1)
    if c.created && c.state != .tearing then none else some 0x10

/-- OPEN_SM2 (R447): the module answers with its ephemeral point and its confirmation. -/
def execOpenSm2 (rq : Req) (s : State) : Host.Outcome State Fault Refusal :=
  .next (s.mailCmd rq 0x01 0x01 (fun s => s.anyMb rq (
    match s.opensOn rq.mb with
    | some st => s.fail st
    | none =>
      let key := if rq.mb = 0 then s.life.ownerKey 1 else (s.ctx (rq.mb - 1)).authKey
      let idLen := rq.fld 0 1
      let ra := sub rq.body 34 64
      s.bodyOf rq 98 (decide (1 ≤ idLen ∧ idLen ≤ 32) && rq.fld 1 1 == 0) (
        if !sm2PointOk ra then s.fail 0x11
        else
          let r := sm2Respond key (sub rq.body 2 idLen) ra s.fresh
          let s := s.draw.updMbox rq.mb (fun b => { b with session := { b.session with
            opening := true, password := false, newReq := r.2.2.1.take 32, newRsp := r.2.2.1.drop 32, expectA := r.2.2.2 } })
          s.done (padTo 64 r.1 ++ padTo 32 r.2.1)))))

/-- OPEN_PASSWORD (R448): refused with STATE while locked. -/
def execOpenPassword (rq : Req) (s : State) : Host.Outcome State Fault Refusal :=
  .next (s.mailCmd rq 0x01 0x03 (fun s => s.adm rq (s.bodyOf rq 32 true (
    if s.start.noOwner ∨ s.clk.tai.ns < s.lockedUntil then s.fail 0x16
    else if !s.life.passwordOn then s.fail 0x13
    else
      let nh := rq.body
      let nm := padTo 32 (Config.random32 s.fresh)
      let k := s.life.recBody 3 21 32
      let req := hmacSm3 k (0x01#8 :: nh ++ nm)
      let s := s.draw.updMbox rq.mb (fun b => { b with session := { b.session with
        opening := true, password := true, nH := nh, nM := nm, newReq := req, newRsp := hmacSm3 k (0x02#8 :: nh ++ nm)
        expectA := hmacSm3 req (nm ++ nh) } })
      s.done (nm ++ padTo 16 (s.life.recBody 3 1 16) ++ padTo 4 (s.life.recBody 3 17 4))))))

/-- Ten minutes, in nanoseconds. -/
def tenMinNs : Nat := 600000000000

/-- A password confirmation fails; the fifth within 10 minutes locks OPEN_PASSWORD for 10 minutes (R448). -/
def State.passwordFail (s : State) (rq : Req) : State :=
  let now := s.clk.tai.ns
  let fs := s.pwFails.filter (fun t => decide (now < t + tenMinNs)) ++ [now]
  let s := s.security rq.mb 3 rq.tag rq.epoch
  if 5 ≤ fs.length then { s with pwFails := [], lockedUntil := now + tenMinNs } else { s with pwFails := fs }

/-- CONFIRM (R447, R448): the session opens when the host's confirmation verifies; a session open before on the mailbox ends (R451). -/
def execConfirm (rq : Req) (s : State) : Host.Outcome State Fault Refusal :=
  .next (s.mailCmd rq 0x01 0x02 (fun s => s.anyMb rq (s.bodyOf rq 32 true (
    let e := (s.mbox rq.mb).session
    if rq.mb ≠ 0 ∧ (s.opensOn rq.mb).isSome then s.fail 0x10
    else if !e.opening then s.fail 0x16
    else if rq.body ≠ e.expectA then
      let s := s.updMbox rq.mb (fun b => { b with session := { b.session with opening := false, newReq := [], newRsp := [], expectA := [], nH := [], nM := [] } })
      if e.password then (s.passwordFail rq).fail 0x11 else (s.security rq.mb 1 rq.tag rq.epoch).fail 0x11
    else
      let s := s.updMbox rq.mb (fun b => { b with
        epoch := 1, nextTag := 1, session := { isOpen := true, password := e.password, kReq := e.newReq, kRsp := e.newRsp } })
      s.done (if e.password then hmacSm3 e.newRsp (e.nH ++ e.nM) else [])))))

/-- PASSWORD_LOCKOUT_END: 10 minutes after the fifth failure OPEN_PASSWORD is accepted again (R448). -/
def execPasswordLockoutEnd (s : State) : Host.Outcome State Fault Refusal :=
  if s.lockedUntil = 0 then .next s
  else
    let s := s.toTai s.lockedUntil
    .next { s with lockedUntil := 0 }

/-- CLOSE (R451). -/
def execSessionClose (rq : Req) (s : State) : Host.Outcome State Fault Refusal :=
  .next (s.mailCmd rq 0x01 0x04 (fun s => s.anyMb rq (s.bodyOf rq 0 true ((s.endSession rq.mb).done))))

/-! ## Handles -/

/-- The progress word of a handle (R434, R458): PHASE [63:60], PER_MILLE [59:50], DONE [49:25], TOTAL [24:0]. With TOTAL 0 the manual states no
PER_MILLE: a free value (log 5). -/
def Handle.word (h : Handle) : Nat :=
  let pm := if h.total = 0 then Config.freeValue (2 ^ 66) % 1001 else min 1000 (h.done * 1000 / h.total)
  h.phase % 16 * 2 ^ 60 + pm * 2 ^ 50 + min h.done (2 ^ 25 - 1) * 2 ^ 25 + min h.total (2 ^ 25 - 1)

/-- A handle that a mailbox can see: its own, and any for the admin mailbox (R457). -/
def State.seeHandle (s : State) (m k : Nat) : Option Handle :=
  match s.handle k with
  | some h => if m = 0 ∨ h.mb = m then some h else none
  | none => none

/-- HANDLE_QUERY (R457). -/
def execHandleQuery (rq : Req) (s : State) : Host.Outcome State Fault Refusal :=
  .next (s.mailCmd rq 0x0E 0x01 (fun s => s.anyMb rq (s.bodyOf rq 8 true (
    match s.seeHandle rq.mb (rq.fld 0 8) with
    | none => s.fail 0x24
    | some h => s.done (leBytes 8 h.word ++ leBytes 2 h.status ++ zeros 6 ++ leBytes 8 h.doneNs)))))

/-- HANDLE_EXPIRY: a handle is kept for 60 s after it has completed (R457). -/
def execHandleExpiry (handle : Nat) (s : State) : Host.Outcome State Fault Refusal :=
  match s.handle handle with
  | none => .next s
  | some h =>
    if !h.fin then .next s
    else
      let s := s.toTai (h.doneNs + 60000000000)
      .next { s with handles := s.handles.del handle }

/-- RESERVED_COMMAND: a family or code that R452 does not list, or a listed command of several actions with an ACTION that its table does not list, is
answered RESERVED (R4, R452). -/
def listedCmd (family code : Nat) : Bool :=
  let n := match family with
    | 0x01 => 4
    | 0x02 => 4
    | 0x03 => 11
    | 0x04 => 4
    | 0x05 => 7
    | 0x06 => 8
    | 0x07 => 4
    | 0x08 => 5
    | 0x09 => 3
    | 0x0A => 2
    | 0x0B => 7
    | 0x0C => 5
    | 0x0D => 3
    | 0x0E => 2
    | _ => 0
  decide (1 ≤ code ∧ code ≤ n)

/-- The values of the first byte of the body of a command that has a row for each of them. -/
def actionsOf (family code : Nat) : List Nat :=
  match family, code with
  | 0x03, 0x07 => [0, 1]
  | 0x09, 0x03 => [0, 1, 2, 3]
  | 0x0B, 0x06 => [1, 2, 3, 0x10, 0x11, 0x12, 0x13, 0x14]
  | 0x0B, 0x07 => [0, 1, 2, 0xFF]
  | 0x0D, 0x01 => [0, 1, 2]
  | _, _ => []

/-- RESERVED_COMMAND: the doorbell of a command that is not listed (R452). -/
def execReservedCommand (rq : Req) (family code : Nat) (s : State) : Host.Outcome State Fault Refusal :=
  if listedCmd family code ∧ ((actionsOf family code).isEmpty ∨ (actionsOf family code).contains (rq.fld 0 1)) then .next s
  else .next (s.mailCmd rq family code (fun s => s.fail 0x14))

/-- A command whose first body byte chooses its action: a row of the table stands for one value of it, and another value is another row's command. -/
def State.actionCmd (s : State) (rq : Req) (family code action : Nat) (act : State → State × Reply) : State :=
  if rq.fld 0 1 = action then s.mailCmd rq family code act else s

end Machine

end Sys2Proof
end

