-- ==== Sys2Proof/Machine/Contexts.lean ====
section
/-! DEFINITION. The context lifecycle (R460 to R463): CREATE with the capacity rules of R198, R477 and R505, grants, TEARDOWN and its scrub (R461). -/

namespace Sys2Proof.Machine

/-! ## Grants (R452) -/

/-- The grant fields of CREATE, 88 bytes from an offset. -/
def grantsAt (b : List Byte) (o : Nat) : Grants :=
  let dflt0 (v d : Nat) : Nat := if v = 0 then d else v
  { t0 := (List.range 12).map (fun k => le b (o + 2 * k) 2), t1 := (List.range 12).map (fun k => le b (o + 24 + 4 * k) 4), t2 := le b (o + 72) 4
    flows := le b (o + 76) 4, entries := dflt0 (le b (o + 80) 2) 16384, slots := dflt0 (le b (o + 82) 2) 4096
    collSlots := dflt0 (le b (o + 84) 2) 1024, migSlots := dflt0 (le b (o + 86) 1) 32 }

/-- The grant fields as bytes. -/
def Grants.bytes (g : Grants) : List Byte :=
  ((List.range 12).flatMap (fun k => leBytes 2 (g.t0.getD k 0))) ++ ((List.range 12).flatMap (fun k => leBytes 4 (g.t1.getD k 0)))
    ++ leBytes 4 g.t2 ++ leBytes 4 g.flows ++ leBytes 2 g.entries ++ leBytes 2 g.slots ++ leBytes 2 g.collSlots ++ leBytes 1 g.migSlots ++ zeros 1

/-- A number rounded up to a multiple. -/
def roundUp (n k : Nat) : Nat := ceilDiv n k * k

/-- The grants of a sealed context are rounded up to whole banks and bank sets (R477). -/
def Grants.rounded (g : Grants) : Grants := { g with t1 := g.t1.map (fun n => roundUp n 2048), t2 := roundUp g.t2 131072 }

/-- The weight regions of a command: base and 256 MiB blocks of each used entry, as first tile and tiles (R410). -/
def regionsAt (b : List Byte) (o : Nat) : List (Nat × Nat) :=
  ((List.range 16).map (fun i => (le b (o + 8 * i) 6 / tileBytes, le b (o + 8 * i + 6) 2 * 4096))).filter (fun r => r.2 != 0)

/-- Regions are aligned to 256 MiB, end within the 48-bit range and do not overlap (R410). -/
def regionsOk (b : List Byte) (o : Nat) : Bool :=
  let rs := regionsAt b o
  (List.range 16).all (fun i => le b (o + 8 * i) 6 % 2 ^ 28 == 0)
    && rs.all (fun r => decide (r.1 + r.2 ≤ 2 ^ 32))
    && ((List.range rs.length).zip rs).all (fun p => ((List.range rs.length).zip rs).all (fun q =>
      p.1 == q.1 || decide (p.2.1 + p.2.2 ≤ q.2.1) || decide (q.2.1 + q.2.2 ≤ p.2.1)))

/-! ## Capacity -/

/-- Frames that sparing has withdrawn from a tier's range (R231, R461). -/
def State.withdrawnIn (s : State) (tier lo hi region : Nat) : Nat :=
  let banks := (s.withdrawn.filter (fun p => p.1 = tier && decide (lo ≤ (p.2 + 1) * bankFrames tier - 1 ∧ p.2 * bankFrames tier < hi))).length
  let spared := if tier = 1 then (s.bankSpares.filter (fun sl => sl % 12 = region)).length else 0
  (banks - spared) * bankFrames tier + (s.retiredFrames.filter (fun p => p.1 = tier && decide (lo ≤ p.2 ∧ p.2 < hi))).length

/-- The capacity of a tier for grants, in tiles: T0 of a core, T1 of a near region, T2 (R198, R27). -/
def State.capacity (s : State) (tier region : Nat) : Nat :=
  if tier = 0 then 128 - (s.retiredFrames.filter (fun p => p.1 = 0 && p.2 / 128 = region)).length
  else
    let r := tierRange tier region
    r.2 - r.1 - s.withdrawnIn tier r.1 r.2 region

/-- The frames of a tier's range that are lent away. -/
def State.lentOf (s : State) (tier region : Nat) : Nat :=
  if tier = 0 then 0 else let r := tierRange tier region; s.lentIn tier r.1 r.2

/-- The grants that other contexts hold or wait for, those of the contexts named left out. -/
def State.otherGrants (s : State) (x : Nat) (except : List Nat) : List (Bool × Nat × Grants) :=
  s.ctxs.flatMap (fun e =>
    if e.1 = x then []
    else
      (if except.contains e.1 || !(e.2.created || e.2.tearHandle != 0) then [] else [(e.2.sealed_, e.2.coreMask, e.2.grants)])
        ++ (match e.2.pend with | some p => [(bit p.flags 0, p.coreMask, p.grants)] | none => []))

/-- A tiles count of a grant. -/
def Grants.of (g : Grants) (tier region : Nat) : Nat :=
  if tier = 0 then g.t0.getD region 0 else if tier = 1 then g.t1.getD region 0 else g.t2

/-- The sum of the other grants of a tier. -/
def grantSum (l : List (Bool × Nat × Grants)) (tier region : Nat) : Nat := l.foldl (fun a p => a + p.2.2.of tier region) 0

/-- The whole banks of a range of a tier that hold no frame of another context, are not lent and not withdrawn (R477). Bank 0 of a near region and bank
set 0 hold reservations (R27). -/
def State.freeBanks (s : State) (x tier region : Nat) (except : List Nat) : Nat :=
  let r := tierRange tier region
  let k := bankFrames tier
  let used := (s.takenFrames tier).filter (fun u => u.2 != x && !except.contains u.2)
  ((List.range (r.2 / k - ceilDiv r.1 k)).filter (fun i =>
    let b := ceilDiv r.1 k + i
    !(used.any (fun u => u.1 / k = b)) && s.lentIn tier (b * k) ((b + 1) * k) == 0 && !s.withdrawn.contains (tier, b))).length

/-- The cores of two masks meet. -/
def masksMeet (a b : Nat) : Bool := (List.range 12).any (fun i => bit a i && bit b i)

/-- A context with these flags, cores and grants fits beside the others (R198, R206, R248, R258, R307, R477, R505). -/
def State.fits (s : State) (x flags mask : Nat) (g : Grants) (except : List Nat) : Bool :=
  let o := s.otherGrants x except
  let sealedO := o.filter (fun p => p.1)
  let isSealed := bit flags 0
  let sum (f : Grants → Nat) : Nat := sealedO.foldl (fun a p => a + f p.2.2) 0
  (List.range 12).all (fun k =>
      decide (grantSum o 0 k + g.of 0 k ≤ s.capacity 0 k)
      && decide (grantSum o 1 k + g.of 1 k + s.lentOf 1 k ≤ s.capacity 1 k)
      && (g.of 0 k == 0 || bit mask k))
    && decide (grantSum o 2 0 + g.of 2 0 + s.lentOf 2 0 ≤ s.capacity 2 0)
    && decide (o.foldl (fun a p => a + p.2.2.flows) 0 + g.flows ≤ 1048320)
    && decide (sum (fun h => h.entries) + g.entries ≤ 65536) && decide (sum (fun h => h.slots) + g.slots ≤ 16384)
    && decide (sum (fun h => h.collSlots) + g.collSlots ≤ 4096) && decide (g.migSlots ≤ 32)
    && sealedO.all (fun p => !masksMeet p.2.1 mask)
    && (!isSealed || (
      o.all (fun p => !masksMeet p.2.1 mask) && (List.range 12).any (fun k => bit mask k) && decide (sealedO.length < 12)
      && decide (16 ≤ sealedCeiling s.power.sealedW)
      && (List.range 12).all (fun k => g.of 1 k == 0 || (bit mask k && decide (g.of 1 k / 2048 ≤ s.freeBanks x 1 k except)))
      && decide (g.of 2 0 / 131072 ≤ s.freeBanks x 2 0 except)))

/-! ## CREATE -/

/-- The context as CREATE makes it: READY, its counters reset (R460, R524). -/
def newCtx (p : PendCreate) : Ctx :=
  { state := .ready, sealed_ := bit p.flags 0, permit := bit p.flags 1, coreMask := p.coreMask, authKey := p.authKey, grants := p.grants
    weights := { regions := p.regions } }

/-- A CREATE completes: the context is READY (R460). -/
def State.finishCreate (s : State) (x : Nat) (p : PendCreate) : State :=
  (s.setCtx x { newCtx p with weights := { (newCtx p).weights with passNs := s.clk.tai.ns } }).finish p.handle 0

/-- The contexts whose teardown runs. -/
def State.tearing (s : State) : List Nat := (s.ctxs.filter (fun e => e.2.tearHandle != 0)).map (fun e => e.1)

/-- No CREATE is taken in RETURNED, nor while a transition scrubs (R485, R486). -/
def State.createLife (s : State) : Option Nat :=
  if s.life.state = 4 then some 0x20 else if s.life.trans.isSome then some 0x16 else none

/-- CREATE (R460, R462, R477): READY at once, or QUEUED_BEHIND_TEARDOWN. -/
def execContextCreate (rq : Req) (s : State) : Host.Outcome State Fault Refusal :=
  .next (s.mailCmd rq 0x02 0x01 (fun s => s.adm rq (
    let x := rq.fld 0 2
    let flags := rq.fld 2 2
    let mask := rq.fld 4 2
    let c := s.ctx x
    s.bodyOf rq 288 (decide (x < 512) && decide (flags < 4) && decide (mask < 4096) && rq.fld 6 2 == 0 && rq.fld 159 1 == 0 && regionsOk rq.body 160) (
      match s.createLife with
      | some st => s.fail st
      | none =>
        if c.state != .free && c.state != .tearing then s.fail 0x16
        else
          let g0 := grantsAt rq.body 72
          let g := if bit flags 0 then g0.rounded else g0
          let own := c.tearHandle != 0
          let now : Bool := !own && s.fits x flags mask g []
          let late := s.fits x flags mask g s.tearing
          if !now && !late then s.fail 0x1D
          else s.withHandle { mb := 0, op := 0x01, ctx := some x, phase := 1 } (fun s k =>
            let p : PendCreate := { flags := flags, coreMask := mask, authKey := sub rq.body 8 64, grants := g, regions := regionsAt rq.body 160
                                    handle := k, behind := if own && s.fits x flags mask g [] then [x] else s.tearing }
            if now then (s.finishCreate x p, { handle := k, body := [2#8] ++ zeros 15 })
            else
              let th := match p.behind.head? with | some y => (s.ctx y).tearHandle | none => 0
              let s := s.setCtx x { c with state := .queued, pend := some p }
              let s := match s.handle th with | some h => s.progress k 2 h.done h.total | none => s
              (s, { handle := k, body := [1#8] ++ zeros 7 ++ leBytes 8 th })))))) 

/-! ## QUERY and SET_GRANTS -/

/-- The code of a context state: its place in the table of R460. -/
def CtxState.code : CtxState → Nat
  | .free => 0
  | .queued => 1
  | .ready => 2
  | .loaded => 3
  | .running => 4
  | .tearing => 5

/-- The FLAGS of a context as in CREATE. -/
def Ctx.flags (c : Ctx) : Nat := (if c.sealed_ then 1 else 0) + (if c.permit then 2 else 0)

/-- What a context has in use of its grants. -/
def State.inUse (s : State) (x : Nat) : Grants :=
  let mine := s.trk.filter (fun e => e.2.ctx = x)
  { t0 := (List.range 12).map (fun k => s.held x 0 k), t1 := (List.range 12).map (fun k => s.held x 1 k), t2 := s.held x 2 0
    flows := s.flowCount x, entries := mine.length, slots := (mine.filter (fun e => e.2.tileSlot)).length
    collSlots := ((s.ctx x).insts.filter (fun e => e.2.issued)).length, migSlots := s.slotsOf (fun y => y = x) }

/-- QUERY (R452). -/
def execContextQuery (rq : Req) (s : State) : Host.Outcome State Fault Refusal :=
  .next (s.mailCmd rq 0x02 0x03 (fun s => s.onCtx rq (fun x => s.bodyOf rq 0 true (
    let c := s.ctx x
    s.done (leBytes 1 c.state.code ++ leBytes 1 c.flags ++ zeros 2 ++ c.grants.bytes ++ (s.inUse x).bytes)))))

/-- Grants cover what is in use. -/
def Grants.covers (g u : Grants) : Bool :=
  (List.range 12).all (fun k => decide (u.of 0 k ≤ g.of 0 k) && decide (u.of 1 k ≤ g.of 1 k)) && decide (u.t2 ≤ g.t2) && decide (u.flows ≤ g.flows)

/-- SET_GRANTS: in READY only (R452, R463). -/
def execSetGrants (rq : Req) (s : State) : Host.Outcome State Fault Refusal :=
  .next (s.mailCmd rq 0x02 0x04 (fun s => s.adm rq (s.onCtx rq (fun x => s.bodyOf rq 88 (rq.fld 87 1 == 0) (
    let c := s.ctx x
    if c.state != .ready then s.fail 0x16
    else
      let g0 := grantsAt rq.body 0
      let g := if c.sealed_ then g0.rounded else g0
      if !s.fits x c.flags c.coreMask g [] || !g.covers (s.inUse x) then s.fail 0x1D
      else (s.setCtx x { c with grants := g }).done)))))

/-! ## TEARDOWN (R461) -/

/-- The tiles a context owns: both banks, and the frames of captures and pre-images. -/
def Ctx.ownTiles (c : Ctx) : Nat :=
  ((c.tiles ++ c.bank1).filter (fun (e : Nat × TileEntry) => e.2.valid)).length + c.sec.captures.length + c.sec.preimages.length

/-- A context's T3 tiles are written with zero and its windows released to their lenders, where no other context borrows them (R461 step 4). -/
def State.leaveWindows (s : State) (x : Nat) : State :=
  let c := s.ctx x
  let s := (c.tiles.filter (fun (e : Nat × TileEntry) => e.2.valid && e.2.tier = 3)).foldl (fun s (e : Nat × TileEntry) =>
    s.clearMem (e.2.phys x e.1) tileBytes) s
  let s := s.updCtx x (fun k => { k with t3 := [] })
  c.t3.foldl (fun s w =>
    if s.ctxs.any (fun e => e.2.t3.any (fun v => v.lender = w.lender && v.window = w.window)) then s
    else s.sendCtrl w.lender 0xE9 (beBytes 1 w.window ++ zeros 3)) s

/-- Steps 1 to 4 of a teardown (R461): fence, handles cancelled, session ended, AUTH_KEY erased, flows closed, windows left. -/
def State.beginTeardown (s : State) (x k : Nat) (keep : Bool) : State :=
  let s := s.fence x
  let hs := (s.handles.filter (fun e => e.2.ctx == some x && !e.2.fin && e.1 != k)).map (fun e => e.1)
  let s := hs.foldl (fun s h => s.finish h 0x21) s
  let s := (s.migs.filter (fun m => m.ctx = x && ((s.ctx x).migEntry m.tile).state != 4)).foldl (fun s m => s.abortMig x m.tile .fence) s
  let s := { s with asks := s.asks.filter (fun a => a.ctx != x), stalled := s.stalled.filter (fun w => w.ctx != x) }
  let s := s.endSession (x + 1)
  let s := ((s.abandonReshard x).closeFlows x).leaveWindows x
  let s := s.updCtx x (fun c => { c with
    state := .tearing, authKey := [], tearHandle := k, keepSnapshots := keep, tearNs := s.clk.tai.ns
    recov := { lastSeq := c.recov.lastSeq } })
  s.progress k 1 0 (s.ctx x).ownTiles

/-- A create that waits is given up (R463, R459). -/
def State.dropCreate (s : State) (x : Nat) : State :=
  let c := s.ctx x
  match c.pend with
  | none => s
  | some p => (s.setCtx x { c with state := if c.tearHandle != 0 then .tearing else .free, pend := none }).finish p.handle 0x21

/-- TEARDOWN (R461, R463). -/
def execContextTeardown (rq : Req) (s : State) : Host.Outcome State Fault Refusal :=
  .next (s.mailCmd rq 0x02 0x02 (fun s => s.adm rq (
    let x := rq.target
    let c := s.ctx x
    if x = 0xFFFF then s.fail 0x13
    else if c.state == .free then s.fail 0x15
    else s.bodyOf rq 4 (decide (rq.fld 0 1 < 2) && rq.fld 1 3 == 0) (
      match c.state, c.pend with
      | .tearing, _ => s.given c.tearHandle
      | .queued, some p =>
        let back : Nat := if c.tearHandle != 0 then c.tearHandle else match p.behind.head? with | some y => (s.ctx y).tearHandle | none => 0
        (s.dropCreate x).given back
      | _, _ => s.withHandle { mb := 0, op := 0x02, ctx := some x, phase := 1 } (fun s k =>
        (s.beginTeardown x k (bit (rq.fld 0 1) 0)).given k)))))

/-- TEARDOWN_FLOW_RELEASE: 100 ms after CLOSE the flows not yet closed are released (R461 step 4). -/
def execTeardownFlowRelease (ctx : Nat) (s : State) : Host.Outcome State Fault Refusal :=
  let c := s.ctx ctx
  if c.tearHandle = 0 then .next s
  else
    let s := s.toTai (c.tearNs + 100000000)
    let gone := (s.flows.filter (fun e => e.2.ctx = ctx)).map (fun e => e.1)
    .next { s with
      flows := s.flows.filter (fun e => e.2.ctx != ctx)
      trk := s.trk.filter (fun e => e.2.ctx != ctx)
      ctrl := s.ctrl.filter (fun m => !((m.op = 0xE3 || m.op = 0xE4) && gone.contains (be m.body 0 4))) }

/-! ## Transitions that tear down (R486, R488) -/

/-- What a pending transition waits for: any ACTIVATE, CORE_REPLACE or teardown already running (R488). -/
def State.transitionBlocked (s : State) : Bool :=
  !s.tearing.isEmpty || s.handles.any (fun e => !e.2.fin && (e.2.op == 0x0B || e.2.op == 0x0D))

/-- A lent window is taken back: one still being filled is given up, one offered is reclaimed (R486). -/
def State.takeBack (s : State) (w : Nat) (l : LendWin) : State :=
  if l.state = 0 then { s with lend := s.lend.del w }.finish l.handle 0x21 else if l.state = 1 then s.reclaimWindow w 0 else s

/-- A transition that nothing blocks begins: every context is torn down, a create that waits is cancelled, lent windows are taken back (R486). -/
def State.beginTransition (s : State) : State :=
  match s.life.trans with
  | none => s
  | some t =>
    if t.begun || s.transitionBlocked then s
    else
      let s := { s with life := { s.life with trans := some { t with begun := true } } }
      let total := (s.ctxs.filter (fun e => t.tears && e.2.created)).foldl (fun a e => a + e.2.ownTiles) 0
      let s := if t.tears then (s.ctxs.map (fun e => e.1)).foldl (fun s x =>
          let s := s.dropCreate x
          if (s.ctx x).created then s.beginTeardown x t.handle false else s) s
        else s
      let s := if t.windows then s.lend.foldl (fun s e => s.takeBack e.1 e.2) s else s
      s.progress t.handle 1 0 total

/-- The scrub of one context is verified: its teardown's handle completes, or the tiles count for the transition whose handle it is (R498). -/
def State.tornDown (s : State) (k tiles : Nat) : State :=
  match s.life.trans with
  | some t =>
    if t.handle = k then (match s.handle k with | some h => s.progress k 1 (h.done + tiles) h.total | none => s)
    else (s.progress k 1 tiles tiles).finish k 0
  | none => (s.progress k 1 tiles tiles).finish k 0

/-- Nothing of a context is left in a core (R461 step 5): its rings and their bytes, its weight sets, and the accumulator sets of a core no other
context works on. -/
def State.scrubCores (s : State) (x : Nat) : State :=
  let s := s.cores.foldl (fun s e => (e.2.rings.filter (fun q => q.2.valid && q.2.ctx = x)).foldl (fun s q =>
    s.clearMem (tsPhys e.1 q.2.base) (64 * q.2.size)) s) s
  let clean (m : Map WSet) : Map WSet := m.filter (fun e => e.2.ctx != some x)
  { s with cores := s.cores.vals (fun i (k : Core) =>
    let busy : Bool := k.arr.isSome || k.look.isSome || !k.inflight.isEmpty || !k.waiting.isEmpty || !k.drains.isEmpty
    { k with
      rings := k.rings.filter (fun (e : Nat × Ring) => e.2.ctx != x), active := clean k.active, parison := clean k.parison
      acc := if bit (s.ctx x).coreMask i && !busy then [] else k.acc
      lastCtx := if k.lastCtx = some x then none else k.lastCtx }) }

/-- The tile-store bytes of the T0 tiles of a context, and of the windows it has released, are zero-filled (R461, R208). -/
def State.scrubT0 (s : State) (x : Nat) : State :=
  let s := ((s.ctx x).tiles.filter (fun (e : Nat × TileEntry) => e.2.valid && e.2.tier = 0)).foldl (fun s (e : Nat × TileEntry) =>
    s.clearMem (e.2.phys x e.1) tileBytes) s
  (s.freed.filter (fun p => p.1 = 0 && p.2.2 = x && !(s.retiredFrames.contains (0, p.2.1)))).foldl (fun s p =>
    if (s.t0Tile (p.2.1 / 128) (p.2.1 % 128)).isNone then s.clearMem (tsPhys (p.2.1 / 128) (p.2.1 % 128 * tileBytes)) tileBytes else s) s

/-- The creates that wait behind a teardown go on, in order of context number (R462). -/
def State.releaseCreates (s : State) (y : Nat) : State :=
  (s.ctxs.map (fun e => e.1)).foldl (fun s x =>
    let c := s.ctx x
    match c.pend with
    | none => s
    | some p =>
      let p := { p with behind := p.behind.filter (fun z => z != y) }
      if p.behind.isEmpty then s.finishCreate x p else s.setCtx x { c with pend := some p }) s

/-- Steps 5 to 7 of a teardown: every frame is zero, the context's generations on NAND are erased unless kept, and everything is released. A frame that
failed its check is retired (R461, R229). -/
def State.endTeardown (s : State) (x : Nat) (bad : List (Nat × Nat)) : State :=
  let c := s.ctx x
  let s := (((s.scrubCores x).scrubT0 x).dropCopies x).dropTiles x (fun _ => true)
  let s := { s with
    nand := if c.keepSnapshots then s.nand else s.nand.filter (fun (n : NandGen) => !c.ranJobs.contains n.jobId)
    flows := s.flows.filter (fun e => e.2.ctx != x)
    trk := s.trk.filter (fun e => e.2.ctx != x)
    retiredFrames := s.retiredFrames ++ bad
    freed := s.freed.filter (fun p => p.2.2 != x) }
  let s := bad.foldl (fun s f => let b := s.bankOf f.1 0 f.2 0; s.uncRow b.1 b.2 4294967295) s
  let s := s.tornDown c.tearHandle c.ownTiles
  let s := s.setCtx x (match c.pend with | some p => { state := .queued, pend := some p } | none => {})
  (s.releaseCreates x).beginTransition

/-- TEARDOWN_SCRUB_COMPLETE (R461, R462). -/
def execTeardownScrubComplete (ctx : Nat) (badFrames : List (Nat × Nat)) (s : State) : Host.Outcome State Fault Refusal :=
  if (s.ctx ctx).tearHandle = 0 then .next s else .next (s.endTeardown ctx badFrames)

end Sys2Proof.Machine
end

