-- ==== Sys2Proof/Machine/JobCmds.lean ====
section
/-! DEFINITION. The job commands of family 0x03 (R341, R342, R348, R400 to R404, R452, R454, R455, R460), SET_EPOCH (R297), the securing commands of
family 0x07, and the weight commands of family 0x04. -/

namespace Sys2Proof.Machine

/-! ## LOAD -/

/-- The 64 KiB blocks of an image (R458). -/
def blocksOf (len : Nat) : Nat := ceilDiv len 65536

/-- LOAD (R341): the fetch of the image begins; with IMAGE_LEN 0 on the admin mailbox that of the self-test job (R567). -/
def execJobLoad (rq : Req) (s : State) : Host.Outcome State Fault Refusal :=
  .next (s.mailCmd rq 0x03 0x01 (fun s => s.onCtx rq (fun x => s.bodyOf rq 32 (rq.fld 28 4 == 0 && (rq.mb == 0 || rq.fld 8 8 != 0)) (
    let c := s.ctx x
    if c.state != .ready || c.job.phase != 0 then s.fail 0x16
    else s.withHandle { mb := rq.mb, op := 0x03, ctx := some x, phase := 1, total := blocksOf (rq.fld 8 8), addr := rq.fld 0 8, len := rq.fld 8 8, fn := rq.mb }
      (fun s k => (s.updJob x (fun j => { j with
        phase := 1, handle := k, selfTest := rq.fld 8 8 == 0, reportAddr := rq.fld 16 8, reportLen := rq.fld 24 4, fn := rq.mb })).given k)))))

/-- The load of an image is refused or fails: nothing is loaded (R341). -/
def State.loadFails (s : State) (x k status : Nat) (rep : List Byte) : State :=
  ((s.sendReport x rep).updJob x (fun j => { j with phase := 0, image := none })).finish k status

/-- An image has been fetched for a load (R341 stages 1 and 2, R23, R460). -/
def State.imageFetched (s : State) (x k : Nat) (im : JobImage) : State :=
  let c := s.ctx x
  if c.job.phase ≠ 1 ∨ c.job.handle ≠ k then s
  else if !structureOk im then s.loadFails x k 0x18 []
  else
    let cores := if s.healthyCores < 12 ∨ 4096 ≤ s.culls.length then [shortfall 0x0A 0xFFFF 0xFFFFFFFF 12 s.healthyCores] else []
    let room := s.t2Room x
    let short := cores ++ stage2 s.deviceId c.sealed_ im ++ (if room < im.blocks then [wide 4 im.blocks room] else [])
    if !short.isEmpty then s.loadFails x k 0x17 (refusalReport short)
    else
      let s := s.updCtx x (fun c => { c with
        state := .loaded
        job := { c.job with phase := 2, image := some im, imageFrames := im.blocks, epoch := if im.man.epochTai = 0 then c.job.epoch else im.man.epochTai } })
      (s.progress k 1 im.blocks im.blocks).finish k 0

/-! ## START -/

/-- The entries of a set list: device and container label, 2 bytes each (R342). -/
def setEntries (b : List Byte) (n : Nat) : List (Nat × Nat) := (List.range n).map (fun i => (le b (4 * i) 2, le b (4 * i + 2) 2))

/-- The next higher device of a label, wrapping (R343). -/
def nextInLabel (set : List (Nat × Nat)) (dev label : Nat) : Option Nat :=
  let same := ascending ((set.filter (fun d => d.2 = label && d.1 != dev)).map (fun d => d.1))
  match same.find? (fun d => decide (dev < d)) with
  | some d => some d
  | none => same.head?

/-- The ports and peers that a module measures before planning (R343). -/
def State.probeList (s : State) (set : List (Nat × Nat)) (coord : Nat) : List (Nat × Nat) :=
  let label := match set.find? (fun d => d.1 = s.deviceId) with | some d => d.2 | none => 0
  let clabel := match set.find? (fun d => d.1 = coord) with | some d => d.2 | none => 0
  (List.range 8).flatMap (fun p =>
    if (s.port p).encap = 0 then
      ((portMacs (s.port p).mode p).filterMap (fun m => (s.mac m).neighbour)).filterMap (fun n =>
        if set.any (fun d => d.1 = n.device) then some (p, n.device) else none)
    else
      (match nextInLabel set s.deviceId label with | some d => [(p, d)] | none => [])
        ++ (if clabel ≠ label then [(p, coord)] else []))

/-- Another context of the module runs the job (R475). -/
def State.jobElsewhere (s : State) (x job : Nat) : Bool :=
  s.ctxs.any (fun e => e.1 != x && decide (3 ≤ e.2.job.phase) && (match e.2.job.image with | some im => im.man.jobId == job | none => false))

/-- START (R341 stage 3, R342, R348, R454, R475, R566): the context plans with its set; a member opens its planning flow to the coordinator. -/
def execJobStart (rq : Req) (setList : Dma) (s : State) : Host.Outcome State Fault Refusal :=
  .next (s.mailCmd rq 0x03 0x02 (fun s => s.onCtx rq (fun x =>
    let n := rq.fld 8 4
    s.bodyOf rq 28 (decide (1 ≤ n ∧ n ≤ 65535) && decide (rq.fld 12 1 ≤ 1) && rq.fld 13 3 == 0) (
      let c := s.ctx x
      match c.job.image, setList with
      | none, _ => s.fail 0x16
      | some _, none => s.fail 0x1A
      | some im0, some bytes =>
        let set := setEntries bytes n
        let repl := rq.fld 12 1 = 1
        let im := if repl then { im0 with man := { im0.man with t := 1, p := 1, e := 1, d := n } } else im0
        let bars := if repl then 0 else (set.filter (fun d => c.job.failedModules.contains d.1)).length
        if c.state != .loaded || c.job.phase != 2 || s.jobElsewhere x im.man.jobId || !set.any (fun d => d.1 = s.deviceId) then s.fail 0x16
        else if set.any (fun d => d.1 = 0xFFFF) || (set.map (fun d => d.1)).eraseDups.length != n then s.fail 0x14
        else if n < rankCount im.man + bars then s.fail 0x19
        else s.withHandle { mb := rq.mb, op := 0x04, ctx := some x, phase := 1, total := n } (fun s k =>
          let coord := least (set.map (fun d => d.1)) 0xFFFF
          let me : Bool := coord == s.deviceId
          let s := s.updJob x (fun j => { j with
            phase := 3, image := some im, replicated := repl, handle := k, reportAddr := rq.fld 16 8, reportLen := rq.fld 24 4, fn := rq.mb
            restore := decide (rq.mb = 0) && !repl && (s.keptGen im.man.jobId).isSome
            plan := { set := set, coordinator := me, startNs := s.clk.tai.ns } })
          let s := (s.probeList set coord).foldl (fun s p => s.sendProbes p.1 p.2) s
          (if me then s else s.sendOpen x { peer := coord, rank := [0, 0, 0, 0], queue := 5, paths := 1, planning := true }).given k)))))

/-! ## FEED, STATUS, CURSOR -/

/-- A power of two. -/
def isPow2 (n : Nat) : Bool := n != 0 && n == 2 ^ Nat.log2 n

/-- FEED (R455). -/
def execJobFeed (rq : Req) (s : State) : Host.Outcome State Fault Refusal :=
  .next (s.mailCmd rq 0x03 0x03 (fun s => s.onCtx rq (fun x =>
    let n := rq.fld 8 4
    let sz := rq.fld 12 4
    s.bodyOf rq 32 (isPow2 n && decide (2 ≤ n ∧ n ≤ 65536) && sz != 0 && sz % 4096 == 0) (
      if (s.ctx x).state == .tearing then s.fail 0x16
      else
        (s.updCtx x (fun c => { c with feed := { c.feed with
          ringAddr := rq.fld 0 8, entries := n, entryBytes := sz, producer := rq.fld 16 8, consumer := rq.fld 24 8, fetched := 0, fn := rq.mb } })).done))))

/-- The code of a recovery state: 0 for none, then the order of R397, then WAITING_FOR_MODULE, VERIFY_FAILED and LOST (log 24). -/
def RecState.code : RecState → Nat
  | .none_ => 0
  | .halting => 1
  | .selecting => 2
  | .cursorCheck => 3
  | .refilling => 4
  | .checking => 5
  | .replaying => 6
  | .waitingForModule => 7
  | .verifyFailed => 8
  | .lost => 9

/-- STATUS (R452). -/
def execJobStatus (rq : Req) (s : State) : Host.Outcome State Fault Refusal :=
  .next (s.mailCmd rq 0x03 0x04 (fun s => s.onCtx rq (fun x => s.bodyOf rq 0 true (
    let c := s.ctx x
    s.done (leBytes 1 c.state.code ++ leBytes 1 c.recov.state.code ++ zeros 2 ++ leBytes 8 c.job.step ++ leBytes 4 c.sec.committed
      ++ leBytes 2 c.job.layoutEpoch ++ zeros 2 ++ leBytes 4 c.recov.lastSeq)))))

/-- CURSOR (R401, R402): in CURSOR_CHECK the host's cursor is compared with the target's; a match or an override lets the member go on to REFILLING. -/
def execJobCursor (rq : Req) (s : State) : Host.Outcome State Fault Refusal :=
  .next (s.mailCmd rq 0x03 0x05 (fun s => s.onCtx rq (fun x => s.bodyOf rq 16 (decide (rq.fld 8 1 ≤ 1) && rq.fld 9 7 == 0) (
    let c := s.ctx x
    match c.recov.target with
    | none => s.fail 0x16
    | some r =>
      let host := rq.fld 0 8
      let go (s : State) (ov : Bool) : State :=
        ((s.updRecov x (fun q => { q with state := .refilling, hostCursor := some host, override := ov })).enterRefill x).progress1 c.recov.handle
      if c.recov.state != .cursorCheck then s.fail 0x16
      else if host = r.dataCursor then (go s false).done
      else if rq.fld 8 1 = 1 then (go (s.event 0x000F 1 x [r.dataCursor, host]) true).done
      else
        let s := s.recoveryRecord x 4 2
        (s, { status := 0x1C
              body := leBytes 8 ((r.lastStep + 1) % 2 ^ 40) ++ zeros 8 ++ leBytes 8 r.dataCursor ++ leBytes 8 host
                        ++ leBytes 8 (ofSigned 64 ((host : Int) - (r.dataCursor : Int))) })))))

/-! ## RECOVER, DECIDE, VALIDATE, ADD_MODULE -/

/-- A generation that this member holds as COMMITTED (R534). -/
def State.holdsGen (s : State) (x gen : Nat) : Bool :=
  let c := s.ctx x
  let job := match c.job.image with | some im => im.man.jobId | none => 0
  c.sec.records.any (fun r => r.generation = gen && r.state = 2)
    || s.nand.any (fun (n : NandGen) => n.jobId = job && n.role = 0 && n.record.generation = gen && n.record.state = 2)

/-- RECOVER (R395, R535, R536): a host request begins a recovery; with an armed generation that is not held as COMMITTED its handle fails with STATE. -/
def execJobRecover (rq : Req) (s : State) : Host.Outcome State Fault Refusal :=
  .next (s.mailCmd rq 0x03 0x06 (fun s => s.onCtx rq (fun x => s.bodyOf rq 0 true (s.asCoord x (
    let c := s.ctx x
    if c.job.phase != 4 || c.recov.state != .none_ then s.fail 0x16
    else s.withHandle { mb := rq.mb, op := 0x10, ctx := some x, phase := 1, total := 6 } (fun s k =>
      match c.sampling.armed with
      | some g =>
        if s.holdsGen x g then ((s.beginRecovery x 5 (s.fabricNs x) []).updRecov x (fun r => { r with handle := k })).given k
        else (s.finish k 0x16).given k
      | none => ((s.beginRecovery x 5 (s.fabricNs x) []).updRecov x (fun r => { r with handle := k })).given k))))))

/-- DECIDE in VERIFY_FAILED (R404). -/
def State.decide' (s : State) (rq : Req) (act : Nat → State → State) : State × Reply :=
  s.onCtx rq (fun x => s.bodyOf rq 8 (rq.fld 1 7 == 0) (s.asCoord x (
    if (s.ctx x).recov.state != .verifyFailed then s.fail 0x16 else (act x s).done)))

/-- DECIDE with ACTION 0: the job stops (R404). -/
def execJobDecideStop (rq : Req) (s : State) : Host.Outcome State Fault Refusal :=
  .next (s.actionCmd rq 0x03 0x07 0 (fun s => s.decide' rq (fun x s => s.stopJob x)))

/-- DECIDE with ACTION 1: the job runs on unverified (R404, R405). -/
def execJobDecideResume (rq : Req) (s : State) : Host.Outcome State Fault Refusal :=
  .next (s.actionCmd rq 0x03 0x07 1 (fun s => s.decide' rq (fun x s =>
    let h := (s.ctx x).recov.handle
    ((s.recoveryRecord x 0 2).updRecov x (fun q => { lastSeq := q.lastSeq, verify := 2 })).finish h 0)))

/-- VALIDATE (R348, R349): a replicated validation of STEPS steps begins. -/
def execJobValidate (rq : Req) (s : State) : Host.Outcome State Fault Refusal :=
  .next (s.mailCmd rq 0x03 0x08 (fun s => s.onCtx rq (fun x => s.bodyOf rq 4 true (s.asCoord x (
    let c := s.ctx x
    if c.job.phase != 4 || c.job.validating != 0 then s.fail 0x16
    else s.withHandle { mb := rq.mb, op := 0x10, ctx := some x, phase := 1, total := rq.fld 0 4 } (fun s k =>
      if rq.fld 0 4 = 0 then (s.finish k 0).given k
      else (s.updJob x (fun j => { j with validating := k, stepsLeft := some (rq.fld 0 4), failedModules := [] })).given k))))))

/-- ADD_MODULE (R400): a module joins the set as a standby, and a recovery that waits for one selects again. -/
def execJobAddModule (rq : Req) (s : State) : Host.Outcome State Fault Refusal :=
  .next (s.mailCmd rq 0x03 0x09 (fun s => s.onCtx rq (fun x => s.bodyOf rq 4 (rq.fld 0 2 != 0xFFFF) (s.asCoord x (
    let c := s.ctx x
    if c.job.phase != 4 || c.job.plan.devices.contains (rq.fld 0 2) || decide (65535 ≤ c.job.plan.set.length) then s.fail 0x16
    else
      let s := s.updJob x (fun j => { j with plan := { j.plan with
        set := j.plan.set.filter (fun d => d.1 != rq.fld 0 2) ++ [(rq.fld 0 2, rq.fld 2 2)], devices := j.plan.devices ++ [rq.fld 0 2] } })
      (if c.recov.state == .waitingForModule then s.updRecov x (fun r => { r with state := .selecting }) else s).done)))))

/-! ## REPORT, STOP, SET_EPOCH -/

/-- REPORT (R372, R454): the plan report, or after a refusal the refusal report, goes to REPORT_ADDR. -/
def execJobReport (rq : Req) (s : State) : Host.Outcome State Fault Refusal :=
  .next (s.mailCmd rq 0x03 0x0A (fun s => s.onCtx rq (fun x => s.bodyOf rq 12 true (
    let j := (s.ctx x).job
    match j.image with
    | none => s.fail 0x16
    | some im =>
      if j.plan.set.isEmpty then s.fail 0x16
      else
        let b := (if j.plan.status = 0 ∨ j.plan.coordinator then planReport im j.plan j.plan.replies else refusalReport j.plan.refusals).take (rq.fld 8 4)
        (if b.isEmpty then s else s.dma rq.mb (rq.fld 0 8) b).done (leBytes 4 b.length))))) 

/-- STOP (R460). -/
def execJobStop (rq : Req) (s : State) : Host.Outcome State Fault Refusal :=
  .next (s.mailCmd rq 0x03 0x0B (fun s => s.onCtx rq (fun x => s.bodyOf rq 0 true (
    let c := s.ctx x
    if c.state != .loaded && c.state != .running then s.fail 0x16
    else s.withHandle { mb := rq.mb, op := 0x10, ctx := some x, phase := 1, total := 1 } (fun s k =>
      (((s.stopJob x).progress k 1 1 1).finish k 0).given k)))))

/-- SET_EPOCH (R297, R452): before START of an image with EPOCH_TAI 0. -/
def execSetEpoch (rq : Req) (s : State) : Host.Outcome State Fault Refusal :=
  .next (s.mailCmd rq 0x08 0x05 (fun s => s.onCtx rq (fun x => s.bodyOf rq 8 true (
    let j := (s.ctx x).job
    let fixed : Bool := match j.image with | some im => im.man.epochTai != 0 | none => false
    if 3 ≤ j.phase ∨ fixed ∨ (s.ctx x).state == .tearing then s.fail 0x16
    else (s.updJob x (fun j => { j with epoch := rq.fld 0 8 })).done))))

/-! ## Securing commands (family 0x07) -/

/-- The generations that a context's module holds: committed records in memory, and those on NAND, newest first, at most 8 (R534): record and role. -/
def State.heldGens (s : State) (x : Nat) : List (SecRec × Nat) :=
  let c := s.ctx x
  let jobs := (match c.job.image with | some im => [im.man.jobId] | none => []) ++ c.ranJobs
  let onNand := (s.nand.filter (fun (n : NandGen) => jobs.contains n.jobId)).map (fun (n : NandGen) => (n.record, n.role))
  let inMem := ((c.sec.newest.toList).filter (fun r => !onNand.any (fun p => p.1.generation = r.generation && p.2 = 0))).map (fun r => (r, 0))
  let cur := c.sec.current.toList.map (fun r => (r, 0))
  ((cur ++ inMem ++ onNand).mergeSort (fun a b => decide (b.1.generation ≤ a.1.generation))).take 8

/-- LIST (R452, R534). -/
def execSnapshotsList (rq : Req) (s : State) : Host.Outcome State Fault Refusal :=
  .next (s.mailCmd rq 0x07 0x01 (fun s => s.onCtx rq (fun x => s.bodyOf rq 0 true (
    s.done ((s.heldGens x).flatMap (fun p => leBytes 4 p.1.generation ++ leBytes 8 p.1.lastStep ++ leBytes 1 p.1.state ++ leBytes 1 p.2 ++ zeros 2))))))

/-- SECURE_NOW (R452): the next BOUNDARY secures. -/
def execSecureNow (rq : Req) (s : State) : Host.Outcome State Fault Refusal :=
  .next (s.mailCmd rq 0x07 0x02 (fun s => s.onCtx rq (fun x => s.bodyOf rq 0 true (s.asCoord x (
    if (s.ctx x).job.phase != 4 then s.fail 0x16 else (s.updSec x (fun k => { k with secureNow := true })).done)))))

/-- READ_RECORD (R377, R452). -/
def execReadRecord (rq : Req) (s : State) : Host.Outcome State Fault Refusal :=
  .next (s.mailCmd rq 0x07 0x03 (fun s => s.onCtx rq (fun x => s.bodyOf rq 4 true (
    let g := rq.fld 0 4
    let mem := ((s.ctx x).sec.current.toList ++ (s.ctx x).sec.records.reverse).find? (fun r => r.generation = g)
    match mem.or (((s.heldGens x).find? (fun p => p.1.generation = g)).map (fun p => p.1)) with
    | some r => s.done (padTo 128 r.bytes)
    | none => s.fail 0x16))))

/-- A context runs the job. -/
def State.runsJob (s : State) (job : Nat) : Bool := s.jobElsewhere 0xFFFF job

/-- ERASE (R382, R452): the kept generations of a job go, unless a context runs it. -/
def execSnapshotsErase (rq : Req) (s : State) : Host.Outcome State Fault Refusal :=
  .next (s.mailCmd rq 0x07 0x04 (fun s => s.adm rq (s.bodyOf rq 8 true (
    let job := rq.fld 0 8
    let n := (s.nand.filter (fun (g : NandGen) => g.jobId = job)).length
    if s.runsJob job then s.fail 0x16
    else s.withHandle { mb := 0, op := 0x0F, phase := 1, total := n, arg := 4 } (fun s k =>
      ((({ s with nand := s.nand.filter (fun (g : NandGen) => g.jobId != job) }).progress k 1 n n).finish k 0).given k)))))

/-! ## Weight commands (family 0x04) -/

/-- Weight LOAD (R412 to R415): the list is checked and its shards are fetched. -/
def execWeightLoad (rq : Req) (shardList : Dma) (s : State) : Host.Outcome State Fault Refusal :=
  .next (s.mailCmd rq 0x04 0x01 (fun s => s.onCtx rq (fun x => s.bodyOf rq 8 true (
    let clash : Bool := match shardList with | some b => (s.takeList x 0 rq.mb b).2 == 0x16 | none => false
    if (s.ctx x).state == .tearing || clash then s.fail 0x16
    else s.withHandle { mb := rq.mb, op := 0x05, ctx := some x, addr := rq.fld 0 8, fn := rq.mb } (fun s k =>
      match shardList with
      | none => (s.finish k 0x1A).given k
      | some b =>
        let r := s.takeList x k rq.mb b
        if r.2 = 0 then r.1.given k
        else ((s.updWeights x (fun w => { w with refusals := s.listShort x b })).finish k r.2).given k)))))

/-- Weight SWITCH (R429 to R431): the request waits for the bank, and in a job for every member. -/
def execWeightSwitch (rq : Req) (s : State) : Host.Outcome State Fault Refusal :=
  .next (s.mailCmd rq 0x04 0x02 (fun s => s.onCtx rq (fun x => s.bodyOf rq 24 (rq.fld 4 4 == 0) (
    let c := s.ctx x
    if c.loaded && !c.job.plan.coordinator then s.fail 0x13
    else if c.weights.switchHandle ≠ 0 ∨ c.weights.pending ∨ c.state == .tearing then s.fail 0x16
    else
      let n := match c.job.image with | some im => rankCount im.man | none => 1
      s.withHandle { mb := rq.mb, op := 0x06, ctx := some x, done := c.weights.reports, total := n } (fun s k =>
      ((s.updWeights x (fun w => { w with
        switchHandle := k, switchRepl := rq.fld 0 4, earliestStep := rq.fld 8 8, earliestNs := rq.fld 16 8 })).reportReady x).given k)))))

/-- Weight QUERY (R420, R427). -/
def execWeightQuery (rq : Req) (s : State) : Host.Outcome State Fault Refusal :=
  .next (s.mailCmd rq 0x04 0x03 (fun s => s.onCtx rq (fun x => s.bodyOf rq 4 (decide (rq.fld 2 2 ≤ 64)) (
    let c := s.ctx x
    let w := c.weights
    let one (i : Nat) : List Byte :=
      match w.slots.find i with
      | some d => leBytes 1 d.state ++ leBytes 1 d.bank ++ zeros 2 ++ leBytes 4 d.firstTile ++ leBytes 4 d.tiles ++ leBytes 4 d.generation
      | none => zeros 16
    s.done (leBytes 4 (w.punty c.job.step) ++ leBytes 4 w.bankGen.1 ++ leBytes 4 w.bankGen.2 ++ zeros 4
      ++ (List.range (rq.fld 2 2)).flatMap (fun i => one (rq.fld 0 2 + i)))))))

/-- VERIFY_PERIOD (R422). -/
def execWeightVerifyPeriod (rq : Req) (s : State) : Host.Outcome State Fault Refusal :=
  .next (s.mailCmd rq 0x04 0x04 (fun s => s.onCtx rq (fun x => s.bodyOf rq 4 (decide (60 ≤ rq.fld 0 4 ∧ rq.fld 0 4 ≤ 86400)) (
    (s.updWeights x (fun w => { w with periodS := rq.fld 0 4 })).done))))

end Sys2Proof.Machine
end

