-- ==== Sys2Proof/Machine/TierCmds.lean ====
section
/-! DEFINITION. The tier commands of family 0x05 (R193, R198, R211 to R214, R410, R452, R570): capacities, tile-table entries, migrations, weight regions,
windows lent and granted. -/

namespace Sys2Proof.Machine

/-! ## CAPACITY and READ_ENTRIES -/

/-- The tiles granted of a tier to every context, those of a create that waits included. -/
def State.grantedAll (s : State) (tier region : Nat) : Nat := grantSum (s.otherGrants 0xFFFF []) tier region

/-- CAPACITY (R452): for each core T0, each near region T1, and T2. -/
def execTierCapacity (rq : Req) (s : State) : Host.Outcome State Fault Refusal :=
  .next (s.mailCmd rq 0x05 0x01 (fun s => s.anyMb rq (s.bodyOf rq 0 true (
    let one (tier region : Nat) : List Byte :=
      leBytes 4 (s.capacity tier region) ++ leBytes 4 (s.grantedAll tier region) ++ leBytes 4 (s.lentOf tier region)
    s.done (((List.range 12).flatMap (one 0)) ++ ((List.range 12).flatMap (one 1)) ++ one 2 0)))))

/-- READ_ENTRIES (R193, R452). -/
def execTierReadEntries (rq : Req) (s : State) : Host.Outcome State Fault Refusal :=
  .next (s.mailCmd rq 0x05 0x02 (fun s => s.onCtx rq (fun x =>
    s.bodyOf rq 6 (decide (rq.fld 4 2 ≤ 120) && decide (rq.fld 0 4 + rq.fld 4 2 ≤ 2 ^ 32)) (
      s.done ((List.range (rq.fld 4 2)).flatMap (fun i => leBytes 16 ((s.ctx x).entry (rq.fld 0 4 + i)).pack))))))

/-! ## MIGRATE -/

/-- A tile may have this policy in this tier (R198, R200): T0 pinned, T1 pinned or prefer-near, T2 any (a prefer-near tile lies there when the context's T1
grant is full), T3 streamed. -/
def policyFits (tier policy : Nat) : Bool :=
  if tier = 0 then policy = 0 else if tier = 1 then policy ≤ 1 else if tier = 2 then policy ≤ 2 else policy = 2

/-- MIGRATE (R570): the requests are placed in ascending order as the context has room; the handle waits while none can be. -/
def execTierMigrate (rq : Req) (s : State) : Host.Outcome State Fault Refusal :=
  .next (s.mailCmd rq 0x05 0x03 (fun s => s.onCtx rq (fun x =>
    let first := rq.fld 0 4
    let n := rq.fld 4 4
    s.bodyOf rq 12 (decide (first + n ≤ 2 ^ 32) && decide (rq.fld 8 1 ≤ 3) && decide (rq.fld 9 1 ≤ 2) && decide (rq.fld 10 1 ≤ 11) && rq.fld 11 1 == 0
        && policyFits (rq.fld 8 1) (rq.fld 9 1)) (
      let c := s.ctx x
      if c.fenced || c.state == .tearing || (c.sealed_ && (rq.fld 8 1 == 3 || rq.fld 9 1 == 1)) then s.fail 0x16
      else s.withHandle { mb := rq.mb, op := 0x07, ctx := some x, phase := 2, total := n } (fun s k =>
        if n = 0 then (s.finish k 0).given k
        else
          let ask (i : Nat) : MigAsk :=
            { ctx := x, tile := first + i, bank := c.weights.active, tier := rq.fld 8 1, policy := rq.fld 9 1, core := rq.fld 10 1, region := rq.fld 10 1
              handle := k }
          let s := (List.range n).foldl (fun s i =>
            if ((s.ctx x).migEntry (first + i)).state = 0 then { s with asks := s.asks ++ [ask i] } else s.askOrWait (ask i)) s
          (s.placeAsks x).given k)))))

/-! ## WEIGHT_REGIONS -/

/-- WEIGHT_REGIONS (R410): while no job is loaded. -/
def execTierWeightRegions (rq : Req) (s : State) : Host.Outcome State Fault Refusal :=
  .next (s.mailCmd rq 0x05 0x04 (fun s => s.adm rq (s.onCtx rq (fun x => s.bodyOf rq 128 (regionsOk rq.body 0) (
    let c := s.ctx x
    if c.state != .ready || c.job.phase != 0 then s.fail 0x16
    else
      let rs := regionsAt rq.body 0
      let inNew (t : Nat) : Bool := rs.any (fun r => decide (r.1 ≤ t ∧ t < r.1 + r.2))
      let s := s.dropTiles x (fun t => c.inRegion t && !inNew t)
      (s.updWeights x (fun w => { w with regions := rs })).done)))))

/-! ## Lending (R211 to R214) -/

/-- Runs of frames with one run cut out of them. -/
def cutRun (rs : List (Nat × Nat)) (b : Nat × Nat) : List (Nat × Nat) :=
  rs.flatMap (fun r => [(r.1, min r.2 b.1), (max r.1 b.2, r.2)].filter (fun q => decide (q.1 < q.2)))

/-- The first n frames of a list of runs. -/
def takeRuns : List (Nat × Nat) → Nat → List (Nat × Nat)
  | [], _ => []
  | r :: rs, n => if n = 0 then [] else if n ≤ r.2 - r.1 then [(r.1, r.1 + n)] else r :: takeRuns rs (n - (r.2 - r.1))

/-- The free runs of a tier's range: no frame in use, lent, withdrawn or retired, none in a bank of a sealed context. -/
def State.freeRuns (s : State) (tier region : Nat) : List (Nat × Nat) :=
  let k := bankFrames tier
  let used := (s.takenFrames tier).map (fun u => if (s.ctx u.2).sealed_ then (u.1 / k * k, (u.1 / k + 1) * k) else (u.1, u.1 + 1))
  let gone := (s.withdrawn.filter (fun p => p.1 = tier)).map (fun p => (p.2 * k, (p.2 + 1) * k))
  let bad := (s.retiredFrames.filter (fun p => p.1 = tier)).map (fun p => (p.2, p.2 + 1))
  (used ++ gone ++ bad ++ s.lentRuns tier).foldl cutRun [tierRange tier region]

/-- Tiles of a tier's range that no context is granted and no window lends. -/
def State.ungranted (s : State) (tier region : Nat) : Nat := s.capacity tier region - s.grantedAll tier region - s.lentOf tier region

/-- The frames of a new window of n tiles, region by region. -/
def State.windowRuns (s : State) (tier n : Nat) : List (Nat × Nat) :=
  ((if tier = 1 then List.range 12 else [0]).foldl (fun (a : List (Nat × Nat) × Nat) r =>
    let got := takeRuns (s.freeRuns tier r) (min a.2 (s.ungranted tier r))
    (a.1 ++ got, a.2 - got.foldl (fun t q => t + (q.2 - q.1)) 0)) ([], n)).1

/-- The frames of a list of runs. -/
def runFrames (rs : List (Nat × Nat)) : Nat := rs.foldl (fun t q => t + (q.2 - q.1)) 0

/-- LEND_OFFER (R211, R212): the window is taken from ungranted capacity and its zero-fill begins. -/
def execLendOffer (rq : Req) (s : State) : Host.Outcome State Fault Refusal :=
  .next (s.mailCmd rq 0x05 0x05 (fun s => s.adm rq (
    let tier := rq.fld 0 1
    let gib := rq.fld 2 2
    let notice := if rq.fld 4 4 = 0 then 2000 else rq.fld 4 4
    s.bodyOf rq 40 (decide (tier = 1 ∨ tier = 2) && rq.fld 1 1 == 0 && gib != 0 && decide (100 ≤ notice ∧ notice ≤ 30000)) (
      let runs := s.windowRuns tier (gib * 16384)
      match (List.range 8).find? (fun w => !s.lend.has w) with
      | none => s.fail 0x1D
      | some w =>
        if runFrames runs ≠ gib * 16384 then s.fail 0x1D
        else s.withHandle { mb := 0, op := 0x08, phase := 1, total := gib * 16384, arg := w } (fun s k =>
          let peers := ((List.range 16).map (fun i => rq.fld (8 + 2 * i) 2)).filter (fun d => d != 0xFFFF)
          ({ s with lend := s.lend.set w { tier := tier, gib := gib, ranges := runs, peers := peers.eraseDups, noticeMs := notice, handle := k } },
            { handle := k, body := leBytes 1 w ++ zeros 7 })))))) 

/-- LEND_RECLAIM (R214): every borrower is sent the notice with the deadline. -/
def execLendReclaim (rq : Req) (s : State) : Host.Outcome State Fault Refusal :=
  .next (s.mailCmd rq 0x05 0x06 (fun s => s.adm rq (s.bodyOf rq 8 (rq.fld 1 7 == 0) (
    let w := rq.fld 0 1
    match s.lend.find w with
    | none => s.fail 0x16
    | some l =>
      if l.state ≠ 1 then s.fail 0x16
      else s.withHandle { mb := 0, op := 0x09, phase := 1, total := l.peers.length, arg := w } (fun s k => (s.reclaimWindow w k).given k)))))

/-- GRANT_T3 (R198, R213, R478): the next GiB of the window maps the 16,384 tiles from FIRST_TILE (DEDUCED, log 14). -/
def execGrantT3 (rq : Req) (s : State) : Host.Outcome State Fault Refusal :=
  .next (s.mailCmd rq 0x05 0x07 (fun s => s.adm rq (s.onCtx rq (fun x => s.bodyOf rq 8
      (rq.fld 3 1 == 0 && decide (rq.fld 2 1 < 8) && rq.fld 0 2 != 0xFFFF && decide (rq.fld 4 4 + gibFrames ≤ 2 ^ 32)) (
    let c := s.ctx x
    if c.sealed_ || c.state == .tearing || rq.fld 0 2 == s.deviceId
        || c.t3.any (fun v => v.firstTile = rq.fld 4 4) then s.fail 0x16
    else if 16777216 ≤ s.t3Tiles then s.fail 0x1D
    else
      let taken := s.ctxs.flatMap (fun e => (e.2.t3.filter (fun v => v.lender = rq.fld 0 2 && v.window = rq.fld 2 1)).map (fun v => v.base / gibFrames))
      let gib := ((List.range (taken.length + 1)).find? (fun k => !taken.contains k)).getD 0
      (s.setCtx x { c with t3 := c.t3 ++ [{ lender := rq.fld 0 2, window := rq.fld 2 1, firstTile := rq.fld 4 4, base := gib * gibFrames }] }).done)))))

end Sys2Proof.Machine
end

