-- ==== Sys2Proof/Machine/PortCmds.lean ====
section
/-! DEFINITION. The fabric commands of family 0x06 (R236, R238, R269, R272, R281, R283, R289, R292, R295, R302) and the time commands of family 0x08
(R298 to R301). -/

namespace Sys2Proof.Machine

/-! ## Ports -/

/-- A PORTS record applies to a port at its next down state (R492): mode, encapsulation, flow control and EEE, one byte each (R491). -/
def State.applyPorts (s : State) (p : Nat) : State :=
  if (s.port p).recordDue && s.portDown p then
    let f (i : Nat) : Nat := leNat (s.life.recBody 4 (4 * p + i) 1)
    s.updPort p (fun t => { t with recordDue := false, mode := f 0 % 4, encap := f 1 % 2, flowctl := f 2 % 4, eee := f 3 % 2 == 1 })
  else s

/-- A port's share of the receive buffer for each of its MACs (R291). -/
def portShare (mode : Nat) : Nat := if mode = 0 then 1048576 else if mode = 1 then 524288 else 262144

/-- R292: the thresholds of every priority with sending enabled. -/
def pfcOk (mode send : Nat) (xoff xon : List Nat) : Bool :=
  (List.range 8).all (fun q => !bit send q || (decide (xon.getD q 0 < xoff.getD q 0) && decide (xoff.getD q 0 + 65536 ≤ portShare mode)))

/-- An IP address field, a byte string: IPv4 in its first four bytes with the rest 0, else IPv6 (log 25). -/
def ipField (b : List Byte) : Nat :=
  if beNat b = 0 then 0 else if beNat (b.drop 4) = 0 then 4 * 2 ^ 128 + beNat (b.take 4) else 6 * 2 ^ 128 + beNat b

/-- PORT_SET (R289, R292, R452): a new MODE only while the port is down. -/
def execPortSet (rq : Req) (s : State) : Host.Outcome State Fault Refusal :=
  .next (s.mailCmd rq 0x06 0x01 (fun s => s.adm rq (
    let p := rq.fld 0 1
    let mode := rq.fld 1 1
    let xoff := (List.range 8).map (fun i => rq.fld (16 + 4 * i) 4)
    let xon := (List.range 8).map (fun i => rq.fld (48 + 4 * i) 4)
    let dscp := (List.range 8).map (fun i => rq.fld (80 + i) 1)
    s.bodyOf rq 120 (decide (p < 8) && decide (mode ≤ 3) && decide (rq.fld 2 1 ≤ 1) && decide (rq.fld 3 1 ≤ 2) && decide (rq.fld 5 1 ≤ 1)
        && decide (rq.fld 6 1 ≤ 1) && rq.fld 7 1 == 0 && decide (rq.fld 8 2 < 4096) && decide (1 ≤ rq.fld 12 4 ∧ rq.fld 12 4 ≤ 1000)
        && dscp.all (fun d => decide (d < 64)) && pfcOk mode (rq.fld 4 1) xoff xon) (
      if mode ≠ (s.port p).mode ∧ ¬ s.portDown p then s.fail 0x16
      else
        let s := s.updPort p (fun t => { t with
          mode := mode, encap := rq.fld 2 1, flowctl := rq.fld 3 1, pfcSend := rq.fld 4 1, small := rq.fld 5 1 == 1, eee := rq.fld 6 1 == 1
          vlan := rq.fld 8 2, udpPort := rq.fld 10 2, idleHoldUs := rq.fld 12 4, xoff := xoff, xon := xon, dscp := dscp
          ownIp := ipField (sub rq.body 88 16), nextHop := ipField (sub rq.body 104 16) })
        (((if rq.fld 6 1 = 1 then s else (portMacs mode p).foldl (fun s m => s.leaveLpi m) s).applyPorts p).resolveHop p).done))))

/-- A port that is brought down loses its MACs. -/
def State.dropPort (s : State) (p : Nat) : State :=
  (portMacs (s.port p).mode p).foldl (fun s m => if (s.mac m).up then s.macDown m 0 else s) s

/-- PORT_UPDOWN (R452). -/
def execPortUpdown (rq : Req) (s : State) : Host.Outcome State Fault Refusal :=
  .next (s.mailCmd rq 0x06 0x02 (fun s => s.adm rq (s.bodyOf rq 8 (decide (rq.fld 0 1 < 8) && decide (rq.fld 1 1 ≤ 1) && rq.fld 2 6 == 0) (
    let p := rq.fld 0 1
    if rq.fld 1 1 = 1 then (s.updPort p (fun t => { t with adminUp := true })).done
    else (((s.dropPort p).updPort p (fun t => { t with adminUp := false })).applyPorts p).done))))

/-- PORT_STATUS (R283). -/
def execPortStatus (rq : Req) (s : State) : Host.Outcome State Fault Refusal :=
  .next (s.mailCmd rq 0x06 0x03 (fun s => s.anyMb rq (s.bodyOf rq 0 true (s.done ((List.range 8).flatMap (fun p => leBytes 4 (s.portWord p)))))))

/-! ## Tables -/

/-- A table load: its entries are fetched from host memory (R458 operation 0x0F). -/
def State.tableLoad (s : State) (rq : Req) (kind size : Nat) : State × Reply :=
  s.adm rq (s.bodyOf rq 16 (decide (rq.fld 8 4 + rq.fld 12 4 ≤ 65536)) (
    s.withHandle { mb := 0, op := 0x0F, phase := 1, total := rq.fld 12 4, arg := kind, arg2 := rq.fld 8 4, addr := rq.fld 0 8, len := size * rq.fld 12 4 }
      (fun s k => s.given k)))

/-- PEER_TABLE (R238). -/
def execPeerTable (rq : Req) (s : State) : Host.Outcome State Fault Refusal := .next (s.mailCmd rq 0x06 0x04 (fun s => s.tableLoad rq 2 20))

/-- FWD_TABLE (R272). -/
def execFwdTable (rq : Req) (s : State) : Host.Outcome State Fault Refusal := .next (s.mailCmd rq 0x06 0x05 (fun s => s.tableLoad rq 3 8))

/-- One entry of the peer address table: DEVICE, IP_VER, IP. -/
def peerEntry (m : Map Nat) (b : List Byte) : Map Nat :=
  if le b 2 1 = 0 then m.del (le b 0 2)
  else m.set (le b 0 2) (if le b 2 1 = 4 then 4 * 2 ^ 128 + beNat (sub b 4 4) else 6 * 2 ^ 128 + beNat (sub b 4 16))

/-- One entry of the forwarding table: VALID, NPORTS, PORTS. -/
def fwdEntry (m : Map FwdEntry) (dev : Nat) (b : List Byte) : Map FwdEntry :=
  if le b 0 1 = 1 then m.set dev { ports := (List.range (le b 1 1)).map (fun i => le b (2 + i) 1) } else m.del dev

/-- An entry that a table can hold: a forwarding entry names ports in direct mode (R272). -/
def State.tableEntryOk (s : State) (kind : Nat) (b : List Byte) : Bool :=
  if kind = 2 then (le b 2 1 == 0 || le b 2 1 == 4 || le b 2 1 == 6) && le b 3 1 == 0 && le b 0 2 != 0xFFFF
  else decide (le b 0 1 ≤ 1) && decide (le b 1 1 ≤ 4) && le b 6 2 == 0 && (List.range (le b 1 1)).all (fun i => decide (le b (2 + i) 1 < 8) && (s.port (le b (2 + i) 1)).encap == 0)

/-- The entries of a table have been fetched for a handle: they are loaded, or the handle fails with RESERVED where one is not an entry (R4). -/
def State.loadTable (s : State) (k : Nat) (h : Handle) (bytes : List Byte) : State :=
  let size := if h.arg = 2 then 20 else 8
  let es := (List.range h.total).map (fun i => sub bytes (size * i) size)
  if bytes.length ≠ h.len ∨ !es.all (s.tableEntryOk h.arg) then s.finish k 0x14
  else
    let s :=
      if h.arg = 2 then { s with peersIp := es.foldl peerEntry s.peersIp }
      else { s with fwd := (es.zip (List.range es.length)).foldl (fun m e => fwdEntry m (h.arg2 + e.2) e.1) s.fwd }
    (s.progress k 1 h.total h.total).finish k 0

/-! ## Congestion, neighbours, re-calibration -/

/-- The exact value of a binary32 number; none for a NaN or an infinity. -/
def f32Rat (x : Nat) : Option Rat :=
  match F32.val (BitVec.ofNat 32 x) with
  | .fin neg m e =>
    let r : Rat := if 0 ≤ e then (m : Rat) * 2 ^ e.toNat else (m : Rat) / 2 ^ (-e).toNat
    some (if neg then -r else r)
  | _ => none

/-- A number in a range. -/
def ratIn (x : Option Rat) (lo hi : Rat) : Bool := match x with | some r => decide (lo ≤ r) && decide (r ≤ hi) | none => false

/-- CC_PARAMS (R265, R269): D_high in µs, inc_ai and inc_hai in Gb/s, rate_min in Mb/s (log 25). -/
def execCcParams (rq : Req) (s : State) : Host.Outcome State Fault Refusal :=
  .next (s.mailCmd rq 0x06 0x06 (fun s => s.onCtx rq (fun x =>
    let v (i : Nat) : Option Rat := f32Rat (rq.fld (4 * i) 4)
    s.bodyOf rq 28 (ratIn (v 0) (1 / 256) (1 / 2) && ratIn (v 1) 1 1000 && ratIn (v 2) (1 / 64) (1 / 2) && ratIn (v 3) (1 / 10) 10
        && ratIn (v 4) 1 100 && ratIn (v 5) 10 10000 && decide (10 ≤ rq.fld 24 4 ∧ rq.fld 24 4 ≤ 10000)) (
      let g (i : Nat) : Rat := (v i).getD 0
      (s.updCtx x (fun c => { c with cc := {
        g := g 0, dHighNs := 1000 * g 1, aDelay := g 2, incAi := 1000 * g 3, incHai := 1000 * g 4, rateMin := g 5, tFailMs := rq.fld 24 4 } })).done))))

/-- NEIGHBOURS (R295): DEVICE 0xFFFF for a MAC without an entry. -/
def execNeighbours (rq : Req) (s : State) : Host.Outcome State Fault Refusal :=
  .next (s.mailCmd rq 0x06 0x07 (fun s => s.anyMb rq (s.bodyOf rq 0 true (
    s.done ((List.range 32).flatMap (fun m =>
      let c := s.mac m
      let f := leBytes 1 (if c.several then 1 else 0) ++ zeros 3
      match c.neighbour with
      | some n => leBytes 2 n.device ++ leBytes 1 n.port ++ leBytes 1 n.mac ++ f
      | none => leBytes 2 0xFFFF ++ zeros 2 ++ f))))))

/-- RECAL_PERIOD (R302). -/
def execRecalPeriod (rq : Req) (s : State) : Host.Outcome State Fault Refusal :=
  .next (s.mailCmd rq 0x06 0x08 (fun s => s.adm rq (s.bodyOf rq 4 (decide (60 ≤ rq.fld 0 4 ∧ rq.fld 0 4 ≤ 86400)) (
    ({ s with recalPeriodS := rq.fld 0 4 }).done))))

/-! ## Time -/

/-- Time STATUS (R300): ROLE, whose codes the manual does not give, is a free value (log 5). -/
def execTimeStatus (rq : Req) (s : State) : Host.Outcome State Fault Refusal :=
  .next (s.mailCmd rq 0x08 0x01 (fun s => s.anyMb rq (s.bodyOf rq 0 true (
    let c := s.clk
    let role := Config.freeValue s.fresh % 256
    s.draw.done (leBytes 8 c.tai.ns ++ leBytes 4 c.tai.frac ++ leBytes 1 c.ptpState ++ leBytes 1 role ++ zeros 2 ++ leBytes 8 (ofSigned 64 c.offsetNs)
      ++ leBytes 8 c.holdErrNs ++ leBytes 8 c.masterId)))))

/-- PTP_CONFIG (R299): the intervals are 2⁻⁷ s to 1 s. -/
def execPtpConfig (rq : Req) (s : State) : Host.Outcome State Fault Refusal :=
  .next (s.mailCmd rq 0x08 0x02 (fun s => s.adm rq (
    let ls := toSigned 8 (rq.fld 13 1)
    let ld := toSigned 8 (rq.fld 14 1)
    s.bodyOf rq 16 (decide (rq.fld 12 1 ≤ 1) && decide (-7 ≤ ls ∧ ls ≤ 0) && decide (-7 ≤ ld ∧ ld ≤ 0) && rq.fld 15 1 == 0) (
      ({ s with clk := { s.clk with
        roles := (List.range 8).map (fun i => rq.fld i 1), domain := rq.fld 8 1, priority1 := rq.fld 9 1, priority2 := rq.fld 10 1
        delayMech := rq.fld 11 1, twoStep := rq.fld 12 1, logSync := ls, logDelay := ld } }).done))))

/-- PPS (R301, R552): disabled, PPS_OUT is driven low. -/
def execPps (rq : Req) (s : State) : Host.Outcome State Fault Refusal :=
  .next (s.mailCmd rq 0x08 0x03 (fun s => s.adm rq (s.bodyOf rq 16 (decide (rq.fld 0 1 ≤ 1) && decide (rq.fld 1 1 ≤ 1) && rq.fld 2 6 == 0) (
    let c := s.clk
    let src := rq.fld 0 1 == 1
    ({ s with clk := { c with
      ppsInSource := src, ppsOutEnabled := rq.fld 1 1 == 1, ppsNextEdgeS := rq.fld 8 8, clockClass := if src && c.ppsInPresent then 6 else 248
      ppsOutHighUntil := if rq.fld 1 1 = 1 then c.ppsOutHighUntil else 0 } }).done))))

/-- ASYMMETRY (R298): signed nanoseconds per port. -/
def execAsymmetry (rq : Req) (s : State) : Host.Outcome State Fault Refusal :=
  .next (s.mailCmd rq 0x08 0x04 (fun s => s.adm rq (s.bodyOf rq 32 true (
    ({ s with clk := { s.clk with asym := (List.range 8).map (fun i => toSigned 32 (rq.fld (4 * i) 4)) } }).done))))

end Sys2Proof.Machine
end

