-- ==== Sys2Proof/Machine/Observe.lean ====
section
/-! DEFINITION. What host software observes: counters (R521 to R528), tagged sampling (R529 to R533) and armed replay traces (R535, R536), the event
log (R466), the cullet list (R232), and the cancelling of handles (R459). -/

namespace Sys2Proof.Machine

/-! ## Counters -/

/-- A counter slot as 64 bits (R524). -/
def Ctr.word (c : Ctr) : Nat := c.value % 2 ^ 48 + (if c.ovf then 2 ^ 63 else 0)

/-- The slots of consecutive counters of a table. -/
def ctrSlots (m : Map Ctr) (first n : Nat) : List Byte := (List.range n).flatMap (fun i => leBytes 8 (m.getOr (first + i) {}).word)

/-- The context counters of a context can be read on a mailbox (R523). -/
def State.mayCount (s : State) (m x : Nat) : Bool := (s.ctx x).permit || (m == 0 && s.life.debug != 0)

/-- COUNTERS READ (R523, R527, R528). -/
def execCountersRead (rq : Req) (s : State) : Host.Outcome State Fault Refusal :=
  .next (s.mailCmd rq 0x09 0x01 (fun s =>
    let s := s.settleAll
    let first := rq.fld 0 2
    let n := rq.fld 2 2
    let mixed : Bool := decide (first < 0x200) && decide (0x200 < first + n)
    if rq.mb = 0 ∧ rq.target = 0xFFFF then
      s.bodyOf rq 4 (decide (n ≤ 240) && !mixed) (if first < 0x200 then s.fail 0x13 else s.done (ctrSlots s.counters first n))
    else s.onCtx rq (fun x => s.bodyOf rq 4 (decide (n ≤ 240) && !mixed) (
      if 0x200 ≤ first || !s.mayCount rq.mb x then s.fail 0x13 else s.done (ctrSlots (s.ctx x).counters first n)))))

/-- COUNTERS PERMISSION (R523). -/
def execCountersPermission (rq : Req) (s : State) : Host.Outcome State Fault Refusal :=
  .next (s.mailCmd rq 0x09 0x02 (fun s => s.adm rq (s.onCtx rq (fun x => s.bodyOf rq 8 (decide (rq.fld 0 1 ≤ 1) && rq.fld 1 7 == 0) (
    (s.updCtx x (fun c => { c with permit := rq.fld 0 1 == 1 })).done)))))

/-! ## Sampling -/

/-- The ring and masks of a SAMPLING body (R529). -/
def sampRing (rq : Req) : SampRing :=
  { rateLog2 := rq.fld 1 1, coreMask := rq.fld 2 2, classMask := rq.fld 4 1, bufAddr := rq.fld 8 8, bufLen := rq.fld 16 4
    producer := rq.fld 24 8, consumer := rq.fld 32 8, fn := rq.mb }

/-- The fields that ACTION 1 and 2 read hold no reserved value (R529). -/
def sampOk (rq : Req) : Bool :=
  decide (rq.fld 1 1 ≤ 24) && decide (rq.fld 2 2 < 4096) && decide (rq.fld 4 1 < 16) && rq.fld 5 3 == 0 && rq.fld 8 8 % 4096 == 0
    && rq.fld 16 4 % 4096 == 0 && decide (4096 ≤ rq.fld 16 4 ∧ rq.fld 16 4 ≤ 2 ^ 30) && rq.fld 20 4 == 0 && rq.fld 44 4 == 0

/-- A SAMPLING command: its permission, its change, and WRITTEN and DROPPED (R523, R529). -/
def State.sampling (s : State) (rq : Req) (reads : Bool) (f : Sampling → Sampling) : State × Reply :=
  s.onCtx rq (fun x => s.bodyOf rq 48 (!reads || sampOk rq) (
    if (if rq.mb = 0 then s.life.debug == 0 else !(s.ctx x).permit) then s.fail 0x13
    else
      let s := s.updCtx x (fun c => { c with sampling := f c.sampling })
      let v (i : Nat) : List Byte := leBytes 8 ((s.ctx x).counters.getOr i {}).value
      s.done (v 199 ++ v 200)))

/-- SAMPLING with ACTION 0: off (R529). -/
def execSamplingOff (rq : Req) (s : State) : Host.Outcome State Fault Refusal :=
  .next (s.actionCmd rq 0x09 0x03 0 (fun s => s.sampling rq false (fun k => { k with on := false })))

/-- SAMPLING with ACTION 1: on (R529). -/
def execSamplingOn (rq : Req) (s : State) : Host.Outcome State Fault Refusal :=
  .next (s.actionCmd rq 0x09 0x03 1 (fun s => s.sampling rq true (fun k => { k with on := true, samp := sampRing rq })))

/-- SAMPLING with ACTION 2: a replay trace is armed for a generation (R535). -/
def execSamplingArmReplay (rq : Req) (s : State) : Host.Outcome State Fault Refusal :=
  .next (s.actionCmd rq 0x09 0x03 2 (fun s => s.sampling rq true (fun k => { k with armed := some (rq.fld 40 4), tracing := false, trace := sampRing rq })))

/-- SAMPLING with ACTION 3: the trace is disarmed (R529). -/
def execSamplingDisarm (rq : Req) (s : State) : Host.Outcome State Fault Refusal :=
  .next (s.actionCmd rq 0x09 0x03 3 (fun s => s.sampling rq false (fun k => { k with armed := none, tracing := false })))

/-- The oldest sample record of a core's queue goes to its host ring, or is dropped where the ring is full or its CONSUMER_ADDR cannot be read (R530).
`consumed` is what CONSUMER_ADDR held. -/
def execSampleRecordWrite (core : Nat) (consumed : Dma) (s : State) : Host.Outcome State Fault Refusal :=
  match (s.core core).sampleQ with
  | [] => .next s
  | rec0 :: rest =>
    let s := s.updCore core (fun k => { k with sampleQ := rest })
    let x := le rec0 0 2
    let k := (s.ctx x).sampling
    let traced : Bool := le rec0 3 1 == 1
    let r := if traced then k.trace else k.samp
    let n := r.bufLen / 64
    match consumed with
    | none => .next (s.count x 200 1)
    | some b =>
      if r.written < leNat b + n then
        let s := s.dma r.fn (r.bufAddr + 64 * (r.written % n)) (rec0 ++ leBytes 4 r.written ++ zeros 4)
        let r' := { r with written := r.written + 1 }
        let s := s.updCtx x (fun c => { c with sampling := if traced then { k with trace := r' } else { k with samp := r' } })
        .next ((s.dma r.fn r.producer (leBytes 8 r'.written)).count x 199 1)
      else .next (s.count x 200 1)

/-! ## The event log -/

/-- The entries that a mailbox sees (R466). -/
def State.visible (s : State) (m : Nat) : List LogEntry := s.log.filter (fun e => m == 0 || e.ctx == m - 1)

/-- The 96 bytes of an entry (R464). -/
def LogEntry.bytes (e : LogEntry) : List Byte :=
  leBytes 4 e.seq ++ leBytes 1 e.type ++ leBytes 1 e.sev ++ leBytes 2 e.ctx ++ leBytes 8 e.taiNs ++ leBytes 8 e.cycle ++ zeros 8 ++ e.body

/-- Entries that a mailbox has lost to overwriting. -/
def State.overflowOf (s : State) (m : Nat) : Nat := if m = 0 then s.logOverflow else (s.ctx (m - 1)).logOverflow

/-- LOG STATUS (R466). -/
def execLogStatus (rq : Req) (s : State) : Host.Outcome State Fault Refusal :=
  .next (s.mailCmd rq 0x0A 0x01 (fun s => s.anyMb rq (s.bodyOf rq 0 true (
    let oldest := match s.visible rq.mb with | e :: _ => e.seq | [] => s.logNext
    s.done (leBytes 4 oldest ++ leBytes 4 s.logNext ++ leBytes 4 (s.overflowOf rq.mb))))))

/-- The entries that a LOG READ from a SEQ writes, and how many before them have been overwritten (R466, log 26). -/
def State.logFrom (s : State) (m fromSeq n : Nat) : List LogEntry × Nat :=
  let v := (s.visible m).filter (fun e => serialGe e.seq fromSeq)
  let oldest := match s.log with | e :: _ => e.seq | [] => s.logNext
  let gap := if serialGe fromSeq oldest then 0 else (oldest + 4294967296 - fromSeq) % 4294967296
  (v.take n, min gap (s.overflowOf m))

/-- LOG READ (R466): the handle's TOTAL less its DONE is the number skipped (log 26). -/
def execLogRead (rq : Req) (s : State) : Host.Outcome State Fault Refusal :=
  .next (s.mailCmd rq 0x0A 0x02 (fun s => s.anyMb rq (s.bodyOf rq 16 true (
    s.withHandle { mb := rq.mb, op := 0x0F, phase := 1, total := rq.fld 4 4, arg := 1, arg2 := rq.fld 0 4, len := rq.fld 4 4, addr := rq.fld 8 8, fn := rq.mb }
      (fun s k => s.given k)))))

/-- The entries of a LOG READ are written (R466). -/
def State.logWritten (s : State) (k : Nat) (h : Handle) : State :=
  let r := s.logFrom h.mb h.arg2 h.len
  let s := if r.1.isEmpty then s else s.dma h.fn h.addr (r.1.flatMap (fun e => e.bytes))
  (s.progress k 1 r.1.length (r.1.length + r.2)).finish k 0

/-! ## The cullet list -/

/-- CULLET_READ (R232): a number beyond the list reads as an entry of zeros. -/
def execCulletRead (rq : Req) (s : State) : Host.Outcome State Fault Refusal :=
  .next (s.mailCmd rq 0x0C 0x01 (fun s => s.anyMb rq (s.bodyOf rq 4 (decide (rq.fld 2 2 ≤ 60)) (
    s.done (leBytes 4 s.culls.length ++ zeros 4
      ++ (List.range (rq.fld 2 2)).flatMap (fun i => match s.culls[rq.fld 0 2 + i]? with | some e => e.bytes | none => zeros 32))))))

/-! ## Cancelling (R458, R459) -/

/-- The state in which a handle's operation has been cancelled; none where the table of R458 marks it not cancellable now. -/
def State.cancelled (s : State) (k : Nat) (h : Handle) : Option State :=
  let x := h.ctx.getD 0
  match h.op with
  | 0x01 => some (s.dropCreate x)
  | 0x03 => some ((s.updJob x (fun j => { j with phase := 0, image := none })).finish k 0x21)
  | 0x05 =>
    some ((s.updWeights x (fun w => { w with
      slots := w.slots.filter (fun (e : Nat × DSlot) => !(e.2.handle == k && e.2.state == 0)), loads := w.loads.filter (fun n => n != k) })).finish k 0x21)
  | 0x06 =>
    if (s.ctx x).weights.pending then none
    else some ((s.updWeights x (fun w => { w with switchHandle := 0, switchRepl := 0 })).finish k 0x21)
  | 0x07 => some ({ s with asks := s.asks.filter (fun (a : MigAsk) => a.handle != k) }.finish k 0x21)
  | 0x08 => some ({ s with lend := s.lend.del h.arg }.finish k 0x21)
  | 0x0A => some (s.finish k 0x21)
  | 0x0F => some (s.finish k 0x21)
  | _ => none

/-- HANDLE_CANCEL (R459). -/
def execHandleCancel (rq : Req) (s : State) : Host.Outcome State Fault Refusal :=
  .next (s.mailCmd rq 0x0E 0x02 (fun s => s.anyMb rq (s.bodyOf rq 8 true (
    match s.seeHandle rq.mb (rq.fld 0 8) with
    | none => s.fail 0x24
    | some h =>
      if h.fin then s.fail 0x16
      else
        match s.cancelled (rq.fld 0 8) h with
        | some t => t.done
        | none => s.fail 0x16))))

end Sys2Proof.Machine
end

