-- ==== Sys2Proof/Machine/Firmware.lean ====
section
/-! DEFINITION. The firmware identity record (R456), firmware images and core tables and their live change (R468 to R470, R494), core replacement
(R471), lane and DRAM repair (R303, R472), and the ends of module-initiated transfers (R458, R460). -/

namespace Sys2Proof.Machine

/-! ## Identity -/

/-- A table of 256 entries as R38 serialises it. -/
def serialTable (t : List Nat) : List Byte := t.flatMap (leBytes 4)

/-- SM3 of T16 and of M16 (R38, R456). -/
def t16Digest : List Byte := padTo 32 (sm3 (serialTable t16Table))
def m16Digest : List Byte := padTo 32 (sm3 (serialTable m16Table))

/-- The image of the slot that runs. -/
def Life.running (l : Life) : FwImage := l.slotImages.getD l.slot {}

/-- PART_NUMBER: "BX1-M96" in ASCII, padded with 0 (R456). -/
def partNumber : List Byte := padTo 16 [0x42#8, 0x58#8, 0x31#8, 0x2D#8, 0x4D#8, 0x39#8, 0x36#8]

/-- The firmware identity record (R456). -/
def State.identity (s : State) : List Byte :=
  let l := s.life
  leBytes 4 1 ++ leBytes 4 l.fwRev ++ leBytes 4 l.running.manualRev ++ leBytes 4 l.tables.revision ++ leBytes 1 l.slot ++ leBytes 1 l.state ++ zeros 2
    ++ beBytes 6 Config.macBase ++ beBytes 3 Config.oui ++ zeros 3 ++ padTo 16 Config.serial ++ partNumber ++ t16Digest ++ m16Digest
    ++ padTo 64 identityKey ++ padTo 32 l.running.measurement ++ zeros 32

/-- IDENTITY (R456). -/
def execFwIdentity (rq : Req) (s : State) : Host.Outcome State Fault Refusal :=
  .next (s.mailCmd rq 0x0B 0x01 (fun s => s.anyMb rq (s.bodyOf rq 0 true (s.done s.identity))))

/-! ## Firmware -/

/-- STAGE (R468): the image is fetched. -/
def execFwStage (rq : Req) (s : State) : Host.Outcome State Fault Refusal :=
  .next (s.mailCmd rq 0x0B 0x02 (fun s => s.adm rq (s.bodyOf rq 16 true (
    s.withHandle { mb := 0, op := 0x0A, phase := 1, total := blocksOf (rq.fld 8 8), addr := rq.fld 0 8, len := rq.fld 8 8 } (fun s k => s.given k)))))

/-- What R494 says of an image against a counter. -/
def imageStatus (f : FwImage) (counter : Nat) : Nat := if !f.sigOk then 0x1E else if f.svn < counter then 0x1F else 0

/-- The staged image has been fetched: it is accepted into the inactive slot, or the handle fails (R468, R494). -/
def State.staged (s : State) (k : Nat) (h : Handle) (f : FwImage) : State :=
  let st := imageStatus f s.life.fwCounter
  if st ≠ 0 then s.finish k st
  else
    let l := s.life
    let img : FwImage := { f with bootable := true }
    let slots := if l.slot = 0 then [l.slotImages.getD 0 {}, img] else [img, l.slotImages.getD 1 {}]
    ({ s with life := { l with slotImages := slots, staged := true } }.progress k 1 h.total h.total).finish k 0

/-- The commands of live change that have not completed: ACTIVATE, CORE_TABLES and CORE_REPLACE, of which the one accepted first runs (R472). -/
def State.liveHead (s : State) : Option (Nat × Handle) :=
  (s.handles.filter (fun e => !e.2.fin && (e.2.op = 0x0B || e.2.op = 0x0C || e.2.op = 0x0D))).foldl (fun b e =>
    match b with
    | some a => if e.1 % 2 ^ 32 < a.1 % 2 ^ 32 then some e else some a
    | none => some e) none

/-- The handle of an operation of live change that runs. -/
def State.liveOp (s : State) (op : Nat) : Option (Nat × Handle) :=
  match s.liveHead with
  | some e => if e.2.op = op then some e else none
  | none => none

/-- The phase of a new handle of live change: queued behind another. -/
def State.livePhase (s : State) : Nat := if s.liveHead.isSome then 0 else 1

/-- ACTIVATE (R468): needs a staged image. Its handle's `addr` holds the time of acceptance. -/
def execFwActivate (rq : Req) (s : State) : Host.Outcome State Fault Refusal :=
  .next (s.mailCmd rq 0x0B 0x03 (fun s => s.adm rq (s.bodyOf rq 0 true (
    if !s.life.staged then s.fail 0x16
    else s.withHandle { mb := 0, op := 0x0B, phase := if s.livePhase = 0 then 0 else 2, total := 1, addr := s.clk.tai.ns } (fun s k => s.given k)))))

/-- What ACTIVATE waits for (R468). -/
def State.quiet (s : State) : Bool :=
  s.ctxs.all (fun e =>
    e.2.sec.current.isNone && e.2.recov.state == .none_ && e.2.job.reshard.state == .idle && !e.2.weights.pending
      && e.2.state != .queued && e.2.tearHandle == 0)

/-- FW_SWITCH_START (R468). -/
def execFwSwitchStart (s : State) : Host.Outcome State Fault Refusal :=
  match s.liveOp 0x0B with
  | none => .next s
  | some e =>
    if s.life.fwSwitch || !s.quiet then .next s
    else .next ({ s with life := { s.life with fwSwitch := true } }.phase e.1 1)

/-- ACTIVATE_TIMEOUT: its conditions have not held for 10 s (R468). -/
def execActivateTimeout (s : State) : Host.Outcome State Fault Refusal :=
  match s.liveOp 0x0B with
  | none => .next s
  | some e => if s.life.fwSwitch then .next s else .next ((s.toTai (e.2.addr + 10000000000)).finish e.1 0x16).beginTransition

/-- A firmware switch ends: event 0x0012 with the old and new revision and the result (R469). -/
def State.switchEnds (s : State) (result status : Nat) : State :=
  let l := s.life
  let other := l.slotImages.getD (1 - l.slot) {}
  let ok : Bool := result == 0
  let l' :=
    if ok then { l with
      fwSwitch := false, staged := false, slot := 1 - l.slot, lastSlot := 1 - l.slot, fwCounter := max l.fwCounter other.svn
      slotImages := (l.slotImages.zip (List.range l.slotImages.length)).map (fun (e : FwImage × Nat) =>
        if e.2 = l.slot ∧ e.1.svn < other.svn then { e.1 with bootable := false } else e.1) }
    else { l with fwSwitch := false }
  let k := match s.liveOp 0x0B with | some e => e.1 | none => 0
  let s := { s with life := if ok then { l' with countersNo := l.countersNo + 1 } else l' }.event 0x0012 1 noCtx [l.fwRev, other.revision, result]
  ((if ok then s.progress k 1 1 1 else s).finish k status).beginTransition

/-- FW_SWITCH_RESUME: the new firmware resumes everything, and the counter rises (R469, R494). -/
def execFwSwitchResume (s : State) : Host.Outcome State Fault Refusal :=
  if s.life.fwSwitch then .next (s.switchEnds 0 0) else .next s

/-- FW_SWITCH_WATCHDOG: the previous slot restarts from the saved state (R469). -/
def execFwSwitchWatchdog (s : State) : Host.Outcome State Fault Refusal :=
  if s.life.fwSwitch then .next (s.switchEnds 1 0x25) else .next s

/-! ## Core tables -/

/-- Bits set among the low n. -/
def popCount (n x : Nat) : Nat := ((List.range n).filter (fun i => bit x i)).length

/-- CORE_TABLES (R470). -/
def execCoreTables (rq : Req) (s : State) : Host.Outcome State Fault Refusal :=
  .next (s.mailCmd rq 0x0B 0x04 (fun s => s.adm rq (s.bodyOf rq 16 (decide (rq.fld 12 2 < 4096) && rq.fld 14 2 == 0) (
    s.withHandle { mb := 0, op := 0x0C, phase := s.livePhase, total := popCount 12 (rq.fld 12 2), arg := rq.fld 12 2, addr := rq.fld 0 8, len := rq.fld 8 4 }
      (fun s k => s.given k)))))

/-- Every named core has taken the tables: their counter rises and the handle completes (R494). -/
def State.tablesDone (s : State) (k : Nat) (f : FwImage) : State :=
  if s.cores.any (fun e => e.2.tablesDue) then s
  else { s with life := { s.life with tables := f, newTables := none, tablesCounter := max s.life.tablesCounter f.svn, countersNo := s.life.countersNo + 1 } }.finish k 0

/-- The core table image has been fetched: each named core takes it at its next boundary, or the handle fails (R470, R494). -/
def State.tablesFetched (s : State) (k : Nat) (h : Handle) (f : FwImage) : State :=
  let st := imageStatus f s.life.tablesCounter
  if st ≠ 0 then s.finish k st
  else
    let s := { s with life := { s.life with newTables := some f } }
    let s := ((List.range 12).filter (fun i => bit h.arg i)).foldl (fun s i => s.updCore i (fun k => { k with tablesDue := true })) (s.phase k 1)
    s.tablesDone k f

/-- A core is at a tile-op boundary (R139): no op is in progress on it. -/
def Core.atBoundary (k : Core) : Bool :=
  k.arr.isNone && k.look.isNone && k.inflight.isEmpty && k.waiting.isEmpty && k.drains.isEmpty && k.vec.isNone && k.mov.isNone && k.chan.isNone

/-- CORE_TABLES_TAKE (R470). -/
def execCoreTablesTake (core : Nat) (s : State) : Host.Outcome State Fault Refusal :=
  match s.life.newTables, s.liveOp 0x0C with
  | some f, some e =>
    if !(s.core core).tablesDue || !(s.core core).atBoundary then .next s
    else .next (((s.updCore core (fun k => { k with tablesDue := false, tablesRev := f.revision })).progress1 e.1).tablesDone e.1 f)
  | _, _ => .next s

/-! ## Core replacement (R471) -/

/-- CORE_REPLACE (R471): NO_SPARE without a spare. -/
def execCoreReplace (rq : Req) (s : State) : Host.Outcome State Fault Refusal :=
  .next (s.mailCmd rq 0x0C 0x02 (fun s => s.adm rq (s.bodyOf rq 8 (decide (rq.fld 0 1 ≤ 11) && rq.fld 1 7 == 0) (
    if s.spares.isEmpty then s.fail 0x23
    else s.withHandle { mb := 0, op := 0x0D, phase := s.livePhase, total := 128, arg := rq.fld 0 1 } (fun s k => s.given k)))))

/-- The copies of tile-store rows on a physical core end with their held writes made. -/
def State.endSramCopies (s : State) (pc : Nat) : State :=
  let mine := s.rowCopies.filter (fun c => c.loc = .sram pc)
  let s := { s with rowCopies := s.rowCopies.filter (fun (c : RowCopy) => c.loc != .sram pc) }
  mine.foldl (fun s c => c.held.foldl (fun s (w : Nat × List Byte) => s.memWrite w.1 w.2) s) s

/-- The work of a logical core moves to a spare: its tile store moves, its near region is rebound, its weight sets are loaded afresh (R24, R108, R471). -/
def State.moveCore (s : State) (c p : Nat) : State :=
  let old := (s.core c).pc
  let now := s.clk.tai.ns
  let s := s.endSramCopies old
  let s := s.updCore c (fun k => { k with
    pc := p, active := [], parison := [], load := none, acc := [], sweepRow := 0, migrating := false, tablesRev := s.life.tables.revision })
  let s :=
    if s.retiredPc old then s
    else s.addCullet { type := 2, action := 0, index := c, location := old, spare := p, causeSeq := 4294967295, timeNs := now }
  let s := s.addCullet { type := 1, action := 1, index := c, location := p, spare := 4294967295, causeSeq := 4294967295, timeNs := now }
  s.event 0x0013 1 noCtx [c, old, p]

/-- CORE_MIGRATION: the logical core is at a tile-op boundary and moves to a spare, for CORE_REPLACE once no teardown runs (R463), or under R108. -/
def execCoreMigration (core : Nat) (s : State) : Host.Outcome State Fault Refusal :=
  let h := match s.liveOp 0x0D with | some e => if e.2.arg = core ∧ s.tearing.isEmpty then some e.1 else none | none => none
  if !((s.core core).migrating || h.isSome) || !(s.core core).atBoundary then .next s
  else
    match s.spares with
    | [] =>
      let s := if (s.core core).migrating then
          (s.ctxs.filter (fun e => (s.core core).serves e.1)).foldl (fun s e => s.fence e.1) (s.updCore core (fun k => { k with migrating := false }))
        else s
      .next (match h with | some k => (s.finish k 0x23).beginTransition | none => s)
    | p :: _ =>
      let s := s.moveCore core p
      .next (match h with | some k => ((s.progress k 1 128 128).finish k 0).beginTransition | none => s)

/-! ## Lane and DRAM repair -/

/-- LANE_RETIRE (R303 to R305). -/
def execLaneRetire (rq : Req) (s : State) : Host.Outcome State Fault Refusal :=
  .next (s.mailCmd rq 0x0C 0x03 (fun s => s.adm rq (s.bodyOf rq 8 (decide (rq.fld 0 1 < 32) && rq.fld 1 7 == 0) (
    let lane := rq.fld 0 1
    let busy : Bool := match s.laneMac lane with | some m => (s.mac m).retrainFrom.isSome | none => false
    if busy then s.fail 0x16
    else s.withHandle { mb := 0, op := 0x0E, phase := 1, total := 1, arg := lane } (fun s k =>
      if bit (s.port (lane / 4)).retired (lane % 4) then ((s.progress1 k).finish k 0).given k
      else
        match s.laneMac lane with
        | some _ => (s.retireLane lane).given k
        | none =>
          let s := s.updPort (lane / 4) (fun pt => { pt with retired := pt.retired + 2 ^ (lane % 4) })
          (((s.laneCullet (lane / 4) (lane % 4) 0).progress1 k).finish k 0).given k)))))

/-- LANE_ADMIT (R303). -/
def execLaneAdmit (rq : Req) (s : State) : Host.Outcome State Fault Refusal :=
  .next (s.mailCmd rq 0x0C 0x04 (fun s => s.adm rq (s.bodyOf rq 8 (decide (rq.fld 0 1 < 32) && rq.fld 1 7 == 0) (
    let lane := rq.fld 0 1
    if !bit (s.port (lane / 4)).retired (lane % 4) then s.fail 0x16
    else s.withHandle { mb := 0, op := 0x0E, phase := 1, total := 1, arg := lane, arg2 := 1 } (fun s k =>
      let s := s.updPort (lane / 4) (fun pt => { pt with retired := pt.retired - 2 ^ (lane % 4) })
      let s := s.updLane lane (fun _ => {})
      (((s.laneCullet (lane / 4) (lane % 4) 1).progress1 k).finish k 0).given k)))))

/-- DRAM_RECAL (R472): the named slices of the named layers, one bank at a time. -/
def execDramRecal (rq : Req) (s : State) : Host.Outcome State Fault Refusal :=
  .next (s.mailCmd rq 0x0C 0x05 (fun s => s.adm rq (s.bodyOf rq 8 (decide (rq.fld 0 2 < 4096) && decide (rq.fld 2 1 < 16) && rq.fld 3 5 == 0) (
    let n := popCount 12 (rq.fld 0 2) * popCount 4 (rq.fld 2 1) * 16
    s.withHandle { mb := 0, op := 0x0E, phase := 1, total := n, arg := rq.fld 0 2 + rq.fld 2 1 * 4096, arg2 := 2 } (fun s k =>
      (if n = 0 then s.finish k 0 else s).given k)))))

/-- DRAM_BANK_RETRAIN: one T1 bank has been trained (R472); the hold of its accesses is time, which changes no result. -/
def execDramBankRetrain (loc : BankLoc) (s : State) : Host.Outcome State Fault Refusal :=
  match loc with
  | .t1 layer slice _ =>
    match s.handles.find? (fun e => e.2.op = 0x0E && e.2.arg2 = 2 && !e.2.fin && bit e.2.arg slice && bit e.2.arg (12 + layer)
        && !e.2.units.contains loc.key) with
    | none => .next s
    | some e =>
      let s := s.setHandle e.1 { e.2 with units := e.2.units ++ [loc.key], done := e.2.done + 1 }
      .next (if e.2.total ≤ e.2.done + 1 then s.finish e.1 0 else s)
  | _ => .next s

/-! ## Module-initiated transfers -/

/-- A transfer of a handle ends with an address that its function cannot reach (R445). -/
def State.dmaFault (s : State) (k : Nat) (h : Handle) : State :=
  if h.op = 0x03 then s.loadFails (h.ctx.getD 0) k 0x1A [] else s.finish k 0x1A

/-- MODULE_DMA_COMPLETE: a transfer that holds a DMA channel (R547), of a job image, a firmware image, core tables, a table or a log buffer ends (R458, R460, R466, R468, R470). -/
def execModuleDmaComplete (handle : Nat) (d : DmaResult) (s : State) : Host.Outcome State Fault Refusal :=
  match s.handle handle with
  | none => .next s
  | some h =>
    let live : Bool := match s.liveOp 0x0C with | some e => e.1 == handle && s.life.newTables.isNone | none => false
    if h.fin || !s.start.pwrok || s.start.gafferDown || (h.transfers && !s.handleServed handle) then .next s
    else
      match d with
      | .fault => if h.op = 0x03 ∨ h.op = 0x0A ∨ h.op = 0x0F ∨ live then .next (s.dmaFault handle h) else .next s
      | .image im => if h.op = 0x03 then .next (s.imageFetched (h.ctx.getD 0) handle im) else .next s
      | .firmware f =>
        if h.op = 0x0A then .next (s.staged handle h f) else if live then .next (s.tablesFetched handle h f) else .next s
      | .table es => if h.op = 0x0F ∧ (h.arg = 2 ∨ h.arg = 3) then .next (s.loadTable handle h es) else .next s
      | .done => if h.op = 0x0F ∧ h.arg = 1 then .next (s.logWritten handle h) else .next s

end Sys2Proof.Machine
end

