-- ==== Sys2Proof/Machine/Lifecycle.lean ====
section
/-! DEFINITION. Signed configuration (R491 to R494), lifecycle states and debug levels with their transitions (R483 to R488, R497, R498), attestation
(R496), and the gaffer reset (R564, R565). -/

namespace Sys2Proof.Machine

/-! ## Records -/

/-- A record as R491 lays it out. -/
def recordBytes (type counter signer : Nat) (body : List Byte) : List Byte :=
  leBytes 2 type ++ leBytes 2 1 ++ leBytes 4 body.length ++ leBytes 4 counter ++ leBytes 1 signer ++ zeros 3 ++ padTo 16 Config.serial ++ zeros 32 ++ body

/-- A record with the module's own signature (R491). -/
def signedRecord (type counter : Nat) (body : List Byte) : List Byte :=
  let b := recordBytes type counter 2 body
  b ++ padTo 64 (sm2Sign (padTo 16 Config.serial) (sm3 b))

/-- The CULLET record (R233, R491). -/
def State.culletRecord (s : State) : List Byte := signedRecord 6 s.culls.length (s.culls.flatMap (fun e => e.bytes))

/-- The COUNTERS record: the firmware counter, then that of the core tables (R494, log 27). -/
def State.countersRecord (s : State) : List Byte := signedRecord 7 s.life.countersNo (leBytes 4 s.life.fwCounter ++ leBytes 4 s.life.tablesCounter)

/-- The stored bytes of a record, with a PASSWORD record's K replaced by zeros (R498); none without one. -/
def State.readRecord (s : State) (type : Nat) : Option (List Byte) :=
  if type = 6 then some s.culletRecord
  else if type = 7 then some s.countersRecord
  else (s.life.record type).map (fun r => if type = 3 then r.bytes.take 85 ++ zeros 32 ++ r.bytes.drop 117 else r.bytes)

/-- The key that R491 names for the signer of a record type. -/
def State.recordKey (s : State) (type : Nat) : List Byte :=
  if type = 1 then s.life.skovgalKey 0
  else if type = 2 then (if (s.life.record 2).isSome then s.life.ownerKey 0 else s.life.skovgalKey 1)
  else if type = 6 ∨ type = 7 then identityKey
  else s.life.ownerKey 0

/-- The SIGNER code that R491 names for a record type. -/
def State.recordSigner (s : State) (type : Nat) : Nat :=
  if type = 1 then 0 else if type = 2 then (if (s.life.record 2).isSome then 1 else 0) else if type = 6 ∨ type = 7 then 2 else 1

/-- The counter of the stored record of a type. -/
def State.recordCounter (s : State) (type : Nat) : Nat :=
  if type = 6 then s.culls.length else if type = 7 then s.life.countersNo
  else match s.life.records.find type with | some r => r.counter | none => 0

/-- The layout of a record: its fixed fields and its length (R4, R491). -/
def recordForm (type : Nat) (b : List Byte) : Bool :=
  le b 0 2 == type && le b 2 2 == 1 && decide (128 ≤ b.length) && le b 4 4 + 128 == b.length && le b 13 3 == 0 && le b 32 32 == 0

/-- Why a record is not installed: SIGNATURE or ROLLBACK (R492). -/
def State.recordStatus (s : State) (type : Nat) (b : List Byte) : Nat :=
  let n := b.length - 64
  if le b 12 1 ≠ s.recordSigner type ∨ sub b 16 16 ≠ padTo 16 Config.serial
      ∨ !sm2Verify (s.recordKey type) (padTo 16 Config.serial) (sm3 (b.take n)) (b.drop n) then 0x1E
  else if le b 8 4 ≤ s.recordCounter type then 0x1F else 0

/-- A record is installed and takes effect as R492 states. -/
def State.installRecord (s : State) (type : Nat) (b : List Byte) : State :=
  let oldAdmin := s.life.ownerKey 1
  let s := { s with life := { s.life with records := s.life.records.set type { counter := le b 8 4, bytes := b, valid := true } } }
  if type = 4 then (List.range 8).foldl (fun s p => (s.updPort p (fun t => { t with recordDue := true })).applyPorts p) s
  else if type = 2 then
    let s := { s with start := { s.start with noOwner := false } }
    let ends : Bool := (s.mbox 0).session.isOpen && !(s.mbox 0).session.password && s.life.ownerKey 1 != oldAdmin
    if ends then s.endSession 0 else s
  else s

/-- LIFECYCLE with ACTION 0x01: a record is fetched, checked and installed (R492, R497). -/
def execLifecycleInstallRecord (rq : Req) (record : Dma) (s : State) : Host.Outcome State Fault Refusal :=
  .next (s.actionCmd rq 0x0B 0x06 0x01 (fun s => s.adm rq (s.bodyOf rq 24 (decide (1 ≤ rq.fld 1 1 ∧ rq.fld 1 1 ≤ 7) && rq.fld 2 6 == 0 && rq.fld 20 4 == 0) (
    match record with
    | none => s.fail 0x1A
    | some b =>
      if b.length ≠ rq.fld 16 4 ∨ !recordForm (rq.fld 1 1) b then s.fail 0x14
      else
        let st := s.recordStatus (rq.fld 1 1) b
        if st ≠ 0 then s.fail st else (s.installRecord (rq.fld 1 1) b).done))))

/-- LIFECYCLE with ACTION 0x02 (R498): at most RECORD_LEN bytes are written. -/
def execLifecycleReadRecord (rq : Req) (s : State) : Host.Outcome State Fault Refusal :=
  .next (s.actionCmd rq 0x0B 0x06 0x02 (fun s => s.adm rq (s.bodyOf rq 24 (decide (1 ≤ rq.fld 1 1 ∧ rq.fld 1 1 ≤ 7) && rq.fld 2 6 == 0 && rq.fld 20 4 == 0) (
    match s.readRecord (rq.fld 1 1) with
    | none => s.fail 0x16
    | some b => (s.dma 0 (rq.fld 8 8) (b.take (rq.fld 16 4))).done (leBytes 4 b.length)))))

/-! ## Challenges and authorisation (R497, R498) -/

/-- A fresh challenge for a mailbox. -/
def State.challenge (s : State) (m : Nat) : State × Reply :=
  let c := padTo 32 (Config.random32 s.fresh)
  (s.draw.updMbox m (fun b => { b with challenge := some (c, s.clk.tai.ns) })).done c

/-- LIFECYCLE with ACTION 0x03 (R497). -/
def execLifecycleChallenge (rq : Req) (s : State) : Host.Outcome State Fault Refusal :=
  .next (s.actionCmd rq 0x0B 0x06 0x03 (fun s => s.adm rq (s.bodyOf rq 8 (rq.fld 1 7 == 0) (s.challenge rq.mb))))

/-- The request carries a signature by `key` over SERIAL, the mailbox's challenge of the last 60 s, and its first byte (R497, R498). -/
def State.authorised (s : State) (rq : Req) (key : List Byte) : Bool :=
  match (s.mbox rq.mb).challenge with
  | none => false
  | some c =>
    decide (s.clk.tai.ns ≤ c.2 + 60000000000)
      && sm2Verify key (padTo 16 Config.serial) (sm3 (padTo 16 Config.serial ++ c.1 ++ rq.body.take 1)) (sub rq.body 8 64)

/-- The challenge has been used. -/
def State.spent (s : State) (m : Nat) : State := s.updMbox m (fun b => { b with challenge := none })

/-- Event 0x0015 (R488). -/
def State.transitionEvent (s : State) (life dbg : Nat) : State := s.event 0x0015 1 noCtx [s.life.state, life, s.life.debug, dbg]

/-- A transition request is accepted with a handle, and begins unless work in progress holds it (R488). -/
def State.acceptTransition (s : State) (t : Transition) : State × Reply :=
  s.withHandle { mb := 0, op := 0x02, phase := 0 } (fun s k =>
    ({ s with life := { s.life with trans := some { t with handle := k } } }.beginTransition).given k)

/-- A lifecycle transition (R486): from the states named, by the signature of a key (none: an admin session). -/
def State.lifeMove (s : State) (rq : Req) (froms : List Nat) (key : Option (List Byte)) (t : Transition) : State × Reply :=
  s.adm rq (s.bodyOf rq (if key.isSome then 72 else 8) (rq.fld 1 7 == 0) (
    if s.life.trans.isSome then s.fail 0x16
    else if !froms.contains s.life.state then s.fail 0x20
    else
      match key with
      | none => s.acceptTransition t
      | some k => if s.authorised rq k then (s.spent rq.mb).acceptTransition t else s.fail 0x1E))

/-- LIFECYCLE with ACTION 0x10: FIELD to FIELD_DEBUG (R486). -/
def execLifecycleToFieldDebug (rq : Req) (s : State) : Host.Outcome State Fault Refusal :=
  .next (s.actionCmd rq 0x0B 0x06 0x10 (fun s => s.lifeMove rq [2] (some (s.life.ownerKey 2))
    { toLife := 3, toDebug := s.life.debug, handle := 0, eraseNand := true }))

/-- LIFECYCLE with ACTION 0x11: FIELD_DEBUG to FIELD, with a gaffer reset (R486). -/
def execLifecycleToField (rq : Req) (s : State) : Host.Outcome State Fault Refusal :=
  .next (s.actionCmd rq 0x0B 0x06 0x11 (fun s => s.lifeMove rq [3] none { toLife := 2, toDebug := 0, handle := 0, eraseNand := true, gafferReset := true }))

/-- LIFECYCLE with ACTION 0x12: FIELD or FIELD_DEBUG to RETURNED (R486). -/
def execLifecycleToReturned (rq : Req) (s : State) : Host.Outcome State Fault Refusal :=
  .next (s.actionCmd rq 0x0B 0x06 0x12 (fun s => s.lifeMove rq [2, 3] (some (s.life.ownerKey 2))
    { toLife := 4, toDebug := 0, handle := 0, windows := true, eraseNand := true, zeroDram := true, eraseOwner := true, gafferReset := s.life.debug == 2 }))

/-- LIFECYCLE with ACTION 0x13: MANUFACTURE to FIELD (R486). -/
def execLifecycleManufactureToField (rq : Req) (s : State) : Host.Outcome State Fault Refusal :=
  .next (s.actionCmd rq 0x0B 0x06 0x13 (fun s => s.lifeMove rq [1] (some (s.life.skovgalKey 0))
    { toLife := 2, toDebug := 0, handle := 0, eraseNand := true, zeroDram := true, gafferReset := s.life.debug == 2 }))

/-- LIFECYCLE with ACTION 0x14: RETURNED to MANUFACTURE (R486). -/
def execLifecycleToManufacture (rq : Req) (s : State) : Host.Outcome State Fault Refusal :=
  .next (s.actionCmd rq 0x0B 0x06 0x14 (fun s => s.lifeMove rq [4] (some (s.life.skovgalKey 0))
    { toLife := 1, toDebug := s.life.debug, handle := 0, tears := false }))

/-! ## The gaffer reset -/

/-- Every cell of T1 and T2 leaves memory. -/
def zeroDram (m : List Host.Cell) : List Host.Cell := Memory.clear m (2 ^ 40) (2 ^ 60 - 2 ^ 40)

/-- A gaffer reset begins (R564, R565): every context is FREE, every session ends, handles are forgotten; frames, weight sets and accumulators are
cleared; links, forwarding, the clock and the log go on. -/
def State.gafferReset (s : State) : State :=
  { s with
    mem := [], ctxs := [], migs := [], asks := [], stalled := [], flows := [], trk := [], ctrl := [], rowCopies := [], freed := [], tcache := [], fcache := [], atoms := [], handles := [], probes := []
    pcie := { s.pcie with dma := [] }, pins := { s.pins with tap := .reset }
    cores := s.cores.vals (fun _ (k : Core) => { bound := k.bound, pc := k.pc, tablesRev := s.life.tables.revision, belowAt := s.clk.cycle })
    mailboxes := s.mailboxes.vals (fun _ (b : Mailbox) => { b with session := {}, epoch := 0, nextTag := 0, challenge := none })
    macs := s.macs.vals (fun _ (c : Mac) => { c with window := none })
    life := { s.life with
      debug := 0, fwSwitch := false, newTables := none, trans := s.life.trans.bind (fun t => if t.resetting then some t else none) }
    start := { s.start with stage := 2, cause := 3, gafferDown := true, atCycle := s.clk.cycle } }

/-- GAFFER_RESET: an uncorrectable error in gaffer memory, a lock-step mismatch or the gaffer watchdog (R227, R564). -/
def execGafferReset (_cause : Nat) (s : State) : Host.Outcome State Fault Refusal :=
  if s.start.pwrok && !s.start.inReset && !s.start.gafferDown then .next s.gafferReset else .next s

/-! ## The end of a transition -/

/-- The new lifecycle state and debug level take effect (R486, R488). -/
def State.applyTransition (s : State) (t : Transition) : State :=
  let s := s.transitionEvent t.toLife t.toDebug
  { s with life := { s.life with state := t.toLife, debug := t.toDebug, opened := s.life.opened || decide (1 ≤ t.toDebug), trans := none } }.finish t.handle 0

/-- The erasures of a transition (R486): NAND, T1 and T2, the owner's records; and every session ends. -/
def State.eraseFor (s : State) (t : Transition) : State :=
  let s := if t.eraseNand then { s with nand := [], journal := {} } else s
  let s := if t.zeroDram then { s with mem := zeroDram s.mem } else s
  let s :=
    if t.eraseOwner then { s with
      life := { s.life with records := s.life.records.filter (fun (e : Nat × SignedRec) => e.1 == 1) }, start := { s.start with noOwner := true } }
    else s
  s.endSessions

/-- LIFECYCLE_TRANSITION_DONE: the scrub of a transition has ended (R486); one with a gaffer reset takes effect after it. -/
def execLifecycleTransitionDone (s : State) : Host.Outcome State Fault Refusal :=
  let s := s.beginTransition
  match s.life.trans with
  | none => .next s
  | some t =>
    if !t.begun || t.resetting || !s.tearing.isEmpty || (t.windows && !s.lend.isEmpty) then .next s
    else
      let s := s.eraseFor t
      if t.gafferReset then .next { s with life := { s.life with trans := some { t with resetting := true } } }.gafferReset
      else .next (s.applyTransition t)

/-! ## Debug levels -/

/-- A debug level whose change needs no scrub takes effect at once (R486). -/
def State.setDebug (s : State) (lvl : Nat) : State :=
  let s := s.transitionEvent s.life.state lvl
  { s with life := { s.life with debug := lvl, opened := s.life.opened || decide (1 ≤ lvl) } }

/-- A DEBUG command to a level (R485, R486): the signature that the lifecycle state asks for, and a transition to or from invasive. -/
def State.debugTo (s : State) (rq : Req) (lvl : Nat) : State × Reply :=
  let l := s.life
  let key : Option (List Byte) :=
    if lvl = 0 then none
    else if l.state = 4 then some (l.skovgalKey 0)
    else if l.state = 3 ∧ lvl = 2 then some (l.ownerKey 2) else none
  s.adm rq (s.bodyOf rq (if key.isSome then 72 else 8) (rq.fld 1 7 == 0) (
    if l.trans.isSome then s.fail 0x16
    else if l.state = 2 ∧ lvl = 2 then s.fail 0x20
    else if (match key with | some k => !s.authorised rq k | none => false) then s.fail 0x1E
    else
      let s := if key.isSome then s.spent rq.mb else s
      if lvl = l.debug then s.done
      else if lvl = 2 then s.acceptTransition { toLife := l.state, toDebug := 2, handle := 0, windows := true }
      else if l.debug = 2 then s.acceptTransition { toLife := l.state, toDebug := lvl, handle := 0, gafferReset := true }
      else (s.setDebug lvl).done))

/-- DEBUG with LEVEL 0x00 (R485). -/
def execDebugNone (rq : Req) (s : State) : Host.Outcome State Fault Refusal := .next (s.actionCmd rq 0x0B 0x07 0x00 (fun s => s.debugTo rq 0))

/-- DEBUG with LEVEL 0x01 (R485). -/
def execDebugObserve (rq : Req) (s : State) : Host.Outcome State Fault Refusal := .next (s.actionCmd rq 0x0B 0x07 0x01 (fun s => s.debugTo rq 1))

/-- DEBUG with LEVEL 0x02 (R485, R487). -/
def execDebugInvasive (rq : Req) (s : State) : Host.Outcome State Fault Refusal := .next (s.actionCmd rq 0x0B 0x07 0x02 (fun s => s.debugTo rq 2))

/-- DEBUG with LEVEL 0xFF: a challenge (R497). -/
def execDebugChallenge (rq : Req) (s : State) : Host.Outcome State Fault Refusal :=
  .next (s.actionCmd rq 0x0B 0x07 0xFF (fun s => s.adm rq (s.bodyOf rq 8 (rq.fld 1 7 == 0) (s.challenge rq.mb))))

/-! ## Attestation (R496) -/

/-- SM3 over every record in force other than CULLET, in ascending TYPE. -/
def State.configMeasurement (s : State) : List Byte :=
  sm3 ((s.life.records.filter (fun (e : Nat × SignedRec) => e.2.valid)).flatMap (fun (e : Nat × SignedRec) => e.2.bytes) ++ s.countersRecord)

/-- The code of a power state. -/
def PowerState.code : PowerState → Nat
  | .active => 0
  | .idle => 1
  | .standby => 2
  | .off => 3

/-- Bytes 0 to 319 of the report; `x` is the context it covers. -/
def State.reportBody (s : State) (x : Option Nat) (nonce : List Byte) : List Byte :=
  let l := s.life
  let c := match x with | some x => s.ctx x | none => {}
  let flags := Bool.n l.opened + 2 * Bool.n (x.isSome && c.sealed_) + 4 * Bool.n x.isSome + 8 * Bool.n l.passwordOn
  leBytes 2 1 ++ leBytes 1 l.state ++ leBytes 1 l.debug ++ leBytes 1 s.power.state.code ++ leBytes 1 flags ++ leBytes 2 (x.getD 0xFFFF)
    ++ leBytes 4 l.running.svn ++ leBytes 4 l.tables.svn ++ leBytes 4 s.culls.length ++ leBytes 1 l.slot ++ zeros 11
    ++ padTo 32 nonce ++ padTo 16 Config.serial ++ padTo 32 l.running.measurement ++ padTo 32 l.tables.measurement
    ++ padTo 32 s.configMeasurement ++ padTo 32 (sm3 s.culletRecord) ++ padTo 32 (sm3 (t16Digest ++ m16Digest))
    ++ (if x.isSome then padTo 32 (sm3 (padTo 64 c.authKey ++ leBytes 2 c.flags ++ leBytes 2 c.coreMask ++ c.grants.bytes)) else zeros 32)
    ++ leBytes 8 s.clk.tai.ns ++ zeros 40

/-- The signed report. -/
def State.report (s : State) (x : Option Nat) (nonce : List Byte) : List Byte :=
  let b := s.reportBody x nonce
  b ++ padTo 64 (sm2Sign (padTo 16 Config.serial) (sm3 b))

/-- ATTEST (R496, R497): PART 0 the report, PART n certificate chunk n. -/
def execAttest (rq : Req) (s : State) : Host.Outcome State Fault Refusal :=
  .next (s.mailCmd rq 0x0B 0x05 (fun s =>
    let x := if rq.mb = 0 then rq.target else rq.mb - 1
    if rq.mb ≠ 0 ∧ rq.target ≠ 0xFFFF then s.fail 0x13
    else if rq.mb = 0 ∧ x ≠ 0xFFFF ∧ !(s.ctx x).created then s.fail 0x15
    else s.bodyOf rq 40 (rq.fld 33 7 == 0) (
      if rq.fld 32 1 = 0 then s.done (s.report (if x ≠ 0xFFFF ∧ (s.ctx x).created then some x else none) (rq.body.take 32))
      else s.done ((Config.certChunk (rq.fld 32 1)).take 1984))))

end Sys2Proof.Machine
end

