-- ==== Sys2Proof/Machine/PowerOps.lean ====
section
/-! DEFINITION. Power and cooling (R499 to R520): samples and the cap controller, thermal throttling and trips, the power states and commands of
family 0x0D; and the power-fail warning (R407 to R409, R515, R550, R563). -/

namespace Sys2Proof.Machine

/-- The gaffer runs: FIRMWARE has ended and no gaffer reset is in progress (R558, R564). -/
def State.gafferOn (s : State) : Bool :=
  s.power.state != PowerState.off && !s.start.inReset && !s.start.gafferDown
    && (decide (3 ≤ s.start.stage ∧ s.start.stage ≤ 7) || (s.start.stage == 15 && s.start.failCode == 2))

/-- The start-up stage named is in progress. -/
def State.atStage (s : State) (n : Nat) : Bool :=
  s.power.state != PowerState.off && !s.start.inReset && !s.start.gafferDown && s.start.stage == n

/-- The event log exists: the gaffer runs, and MEMORY has trained and zeroed the T1 that holds the log (R464, R558). -/
def State.hasLog (s : State) : Bool := s.gafferOn && decide (5 ≤ s.start.stage)

/-- An event record, once the log exists. -/
def State.gafferEvent (s : State) (code sev : Nat) (args : List Nat) : State := if s.hasLog then s.event code sev noCtx args else s

/-! ## Measurements (R500, R506) -/

/-- The mean of a list, rounded down; 0 for none. -/
def meanOf (l : List Nat) : Nat := if l.isEmpty then 0 else l.sum / l.length

/-- INPUT_MV, INPUT_MA and POWER_MW: the means of the last 1 ms of samples (R500). -/
def State.inputMeans (s : State) : Nat × Nat × Nat :=
  (meanOf (s.power.samples.map (fun e => e.1)), meanOf (s.power.samples.map (fun e => e.2.1)), meanOf (s.power.samples.map (fun e => e.2.2)))

/-- The change of the ceilings: the cycles below the old ones are counted, and cores left above the new ones descend (R102, R103). -/
def State.setPower (s : State) (f : Power → Power) : State :=
  let s := s.settleAll
  ({ s with power := f s.power }).ceilingFell

/-- Event 0x0016, at most once a minute: the cap cannot be met by issue alone (R506). -/
def State.capUnmet (s : State) : State :=
  let p := s.power
  let due := match p.capLogNs with | some t => decide (t + 60000000000 ≤ s.clk.tai.ns) | none => true
  if due && s.hasLog then { s with power := { p with capLogNs := some s.clk.tai.ns } }.event 0x0016 1 noCtx [p.capW, meanOf p.sumMw] else s

/-- n_sh falls by k, to 4 at least (R506). -/
def State.fallSh (s : State) (k : Nat) : State :=
  if s.power.nSh ≤ 4 then s else s.setPower (fun p => { p with nSh := max 4 (p.nSh - k), fellAt := some s.clk.cycle })

/-- Event 0x0019, at most once a minute while the input lies outside 44–60 V, and bit 4 of SMB_ALERT_STATUS on the first sample outside (R501, R557). -/
def State.inputRange (s : State) (mv ma : Nat) : State :=
  if 44000 ≤ mv ∧ mv ≤ 60000 then { s with power := { s.power with outside := false } }
  else
    let p := s.power
    let due := match p.rangeLogNs with | some t => decide (t + 60000000000 ≤ s.clk.tai.ns) | none => true
    let s := if p.outside then s else s.alert 4
    let s := { s with power := { s.power with outside := true } }
    if due && s.hasLog then { s with power := { s.power with rangeLogNs := some s.clk.tai.ns } }.event 0x0019 1 noCtx [mv, ma] else s

/-- POWER_SAMPLE: a CAP command takes effect, rule 1 or rule 2 of R506 acts, and the range is checked (R500, R501, R506, R507). -/
def execPowerSample (mv ma mw : Nat) (s : State) : Host.Outcome State Fault Refusal :=
  if !s.gafferOn then .next s
  else
    let s := s.toTai (s.power.sampleNs + 10000)
    let s := s.setPower (fun p =>
      let c := p.nextCap.getD (p.capW, p.sealedW)
      { p with
        capW := c.1, sealedW := c.2, nextCap := none, sampleNs := s.clk.tai.ns, mv := mv, ma := ma, mw := mw
        samples := (p.samples ++ [(mv, ma, mw)]).drop (p.samples.length + 1 - 100), sumMw := (mw :: p.sumMw).take 100000 })
    let p := s.power
    let run := decide (501 ≤ p.sumMw.length) && (p.sumMw.take 501).all (fun w => decide (p.capW * 1000 < w))
    let s := if 745000 < mw then s.fallSh 4
      else if run then (if p.nSh ≤ 4 then s.capUnmet else s.fallSh 4) else s
    .next (s.inputRange mv ma)

/-- The period of the control loops of the cap and of the temperatures: 1 ms, in nanoseconds (R506, R516). -/
def tickPeriod : Nat := 1000000

/-- The cycles n_sh must not have fallen in before it may rise: 1 ms (R506). -/
def raiseHold : Nat := 1050000

/-- The time of the last tick of the cap's loop. -/
def State.capTicked (s : State) : State := { s with power := { s.power with capTickNs := s.clk.tai.ns } }

/-- The time of the last tick of the temperature loop. -/
def State.thermTicked (s : State) : State := { s with power := { s.power with thermTickNs := s.clk.tai.ns } }

/-- CAP_CONTROL_TICK: rule 3 of R506, every 1 ms. -/
def execCapControlTick (s : State) : Host.Outcome State Fault Refusal :=
  if !s.gafferOn then .next s
  else
    let s := s.toTai (s.power.capTickNs + tickPeriod)
    let s := s.capTicked
    let p := s.power
    let m := meanOf p.sumMw
    let quiet := match p.fellAt with | some c => decide (c + raiseHold ≤ s.clk.cycle) | none => true
    if p.capW * 1000 - 5000 < m then .next (if p.nSh ≤ 4 then s.capUnmet else s.fallSh 1)
    else if decide (m < p.capW * 1000 - 15000) && quiet && decide (p.nSh < 64) then .next (s.setPower (fun p => { p with nSh := min 64 (p.nSh + 1) }))
    else .next s

/-! ## Temperatures (R516 to R518) -/

/-- A sensor as a number: part 0 logic die, 1 DRAM layer 0 (by slice), 2 DRAM layers 1 to 3 (by layer × 12 + slice), 3 regulator stage (R516). -/
def sensorKey (part sensor : Nat) : Nat := part * 64 + sensor

/-- Every sensor of R516. -/
def sensors : List Nat :=
  (List.range 20).map (sensorKey 0) ++ (List.range 12).map (sensorKey 1) ++ (List.range 36).map (fun i => sensorKey 2 (12 + i))
    ++ (List.range 4).map (sensorKey 3)

/-- A temperature in 0.01 °C; 25 °C before the first reading (log 3). -/
def State.temp (s : State) (k : Nat) : Int := s.power.temps.getOr k 2500

/-- Throttle, release and trip points of a part, in 0.01 °C (R516). -/
def throttleAt (part : Nat) : Int := if part = 0 then 10000 else if part = 3 then 11500 else 9500
def releaseAt (part : Nat) : Int := if part = 0 then 9700 else if part = 3 then 11000 else 9200
def tripAt (part : Nat) : Int := if part = 0 then 11000 else if part = 3 then 12500 else 10500

/-- Every sensor is at least 15 °C below its trip point (R518). -/
def State.cooled (s : State) : Bool := sensors.all (fun k => decide (s.temp k ≤ tripAt (k / 64) - 1500))

/-- A sensor's new reading; the sensor of a slice also sets its refresh state (R234). -/
def State.reading (s : State) (r : SensorReading) : State :=
  let k := sensorKey r.part r.sensor
  let p := s.power
  { s with power := { p with
    temps := p.temps.set k r.centi
    slices := if r.part = 1 ∨ r.part = 2 then p.slices.set r.sensor (sliceState (p.slices.getOr r.sensor 0) r.centi) else p.slices } }

/-- An event about a sensor: part, sensor, temperature (R520). -/
def State.heatEvent (s : State) (code sev k : Nat) : State := s.gafferEvent code sev [k / 64, k % 64, ofSigned 64 (s.temp k)]

/-- A trip ends when every sensor has cooled by 15 °C; THERM_N goes high (R518, R541). -/
def State.tripEnds (s : State) : State :=
  if s.power.tripped && s.cooled then { s with power := { s.power with tripped := false }, pins := { s.pins with thermN := true } } else s

/-- THERMAL_TICK: n_t falls by 4 to 8 while a sensor throttles, rises by 1 to 64 while every sensor is below its release point (R517). -/
def execThermalTick (changes : List SensorReading) (s : State) : Host.Outcome State Fault Refusal :=
  if !s.gafferOn then .next s
  else
    let s := s.toTai (s.power.thermTickNs + tickPeriod)
    let s := s.thermTicked
    let s := (changes.foldl (fun s r => s.reading r) s).tripEnds
    match sensors.find? (fun k => decide (throttleAt (k / 64) ≤ s.temp k)) with
    | some k =>
      let first := s.power.nT == 64
      let s := s.setPower (fun p => { p with nT := max 8 (p.nT - 4), throttleBy := if first then k else p.throttleBy })
      .next (if first then (s.heatEvent 0x0017 1 k).alert 1 else s)
    | none =>
      if s.power.nT < 64 && sensors.all (fun k => decide (s.temp k < releaseAt (k / 64))) then
        let s := s.setPower (fun p => { p with nT := min 64 (p.nT + 1) })
        .next (if s.power.nT = 64 then s.heatEvent 0x0017 0 s.power.throttleBy else s)
      else .next s

/-- Every core that runs begins its ramp-down at once (R407, R98). -/
def State.rampAllDown (s : State) : State :=
  { s with cores := s.cores.vals (fun _ (k : Core) => if k.n = 0 then k else { k with rampDown := true, rampUp := false, nAt := s.clk.cycle }) }

/-- Every context that exists is fenced (R407, R518, R227). -/
def State.fenceAll (s : State) : State := (s.ctxs.filter (fun e => e.2.created)).foldl (fun s e => s.fence e.1) s

/-- THERMAL_TRIP: a sensor reaches its trip point (R518). -/
def execThermalTrip (r : SensorReading) (s : State) : Host.Outcome State Fault Refusal :=
  if !s.gafferOn then .next s
  else
    let s := s.reading r
    if r.centi < tripAt r.part then .next s
    else
      let s := s.fenceAll.rampAllDown
      let s := { s with power := { s.power with state := .idle, tripped := true }, pins := { s.pins with thermN := false } }
      .next ((s.heatEvent 0x0018 3 (sensorKey r.part r.sensor)).alert 2)

/-! ## Power states (R513, R514) -/

/-- Some context is RUNNING (R514). -/
def State.anyRunning (s : State) : Bool := s.ctxs.any (fun e => e.2.state == CtxState.running)

/-- The body of a POWER STATE command (R452). -/
def State.stateCmd (s : State) (rq : Req) (f : State × Option Reply) : State × Option Reply :=
  if rq.mb ≠ 0 then (s, some { status := 0x13 })
  else if rq.body.length ≠ 8 ∨ rq.fld 1 7 ≠ 0 then (s, some { status := 0x14 })
  else f

/-- POWER STATE 0 (R514, R518): refused while a sensor has not cooled after a trip. -/
def execPowerStateActive (rq : Req) (s : State) : Host.Outcome State Fault Refusal :=
  .next (s.actionCmd rq 0x0D 0x01 0x00 (fun s => s.adm rq (s.bodyOf rq 8 (rq.fld 1 7 == 0) (
    if s.power.tripped && !s.cooled then s.fail 0x16
    else
      let s := s.tripEnds
      ({ s with power := { s.power with state := .active } }).done))))

/-- POWER STATE 1 (R514): every core ramps to n = 0, then its blocks are gated. -/
def execPowerStateIdle (rq : Req) (s : State) : Host.Outcome State Fault Refusal :=
  .next (s.actionCmd rq 0x0D 0x01 0x01 (fun s => s.adm rq (s.bodyOf rq 8 (rq.fld 1 7 == 0) (
    if s.anyRunning then s.fail 0x16
    else ({ s with power := { s.power with state := .idle } }.rampAllDown).done))))

/-- The PTP clock of a module without links is in holdover (R299, R300, R513). -/
def State.holdover (s : State) : State :=
  let c := s.clk
  if c.ptpState = 1 then State.event { s with clk := { c with ptpState := 2 } } 0x0005 1 noCtx [c.holdErrNs] else s

/-- Standby is entered (R513, R514): cores at n = 0, ports down, the clock in holdover. -/
def State.enterStandby (s : State) : State :=
  let s := (List.range 8).foldl (fun s p => s.dropPort p) s
  let p := s.power
  State.holdover (State.rampAllDown { s with power := { p with state := .standby } })

/-- Every lent window that is offered is reclaimed (R214, R514). -/
def State.reclaimAll (s : State) : State := s.lend.foldl (fun s e => if e.2.state = 1 then s.reclaimWindow e.1 0 else s) s

/-- A waiting POWER STATE command is answered (R439, R441). -/
def State.answerWait (s : State) (status : Nat) : State :=
  match s.power.wait with
  | none => s
  | some rq => { s with power := { s.power with wait := none } }.answer rq 0x0D 0x01 (s.mbox rq.mb).session.kRsp { status := status }

/-- The windows are gone: standby is entered, the command is answered, and the sessions end (R451, R514). -/
def State.standbyNow (s : State) : State :=
  if s.power.wait.isSome && s.lend.isEmpty then (s.enterStandby.answerWait 0).endSessions else s

/-- POWER STATE 2 (R514): borrowers' windows are reclaimed first, and the command is answered when they are gone. -/
def execPowerStateStandby (rq : Req) (s : State) : Host.Outcome State Fault Refusal :=
  if rq.fld 0 1 ≠ 2 then .next s
  else
    .next (s.mailRun rq 0x0D 0x01 (fun s => s.stateCmd rq (
      if s.anyRunning then (s, some { status := 0x16 })
      else if s.power.state == PowerState.standby then (s, some {})
      else ({ s with power := { s.power with wait := some rq } }.reclaimAll, none)))).standbyNow

/-- WINDOW_ZERO_FILL_COMPLETE (R211, R214): the window's zero-fill ends; one that becomes offered while standby waits is reclaimed (R514). -/
def execWindowZeroFillComplete (window : Nat) (s : State) : Host.Outcome State Fault Refusal :=
  let s := s.windowFilled window
  .next (if s.power.wait.isSome then s.reclaimAll.standbyNow else s)

/-- Some context is sealed. -/
def State.anySealed (s : State) : Bool := s.ctxs.any (fun e => e.2.created && e.2.sealed_)

/-- CAP (R505, R507): takes effect at the next sample. -/
def execPowerCap (rq : Req) (s : State) : Host.Outcome State Fault Refusal :=
  .next (s.mailCmd rq 0x0D 0x02 (fun s => s.adm rq (
    let cap := rq.fld 0 2
    let sl := rq.fld 2 2
    s.bodyOf rq 4 (decide (250 ≤ cap ∧ cap ≤ 650) && decide (sl ≤ cap)) (
      if s.anySealed && sl != s.power.sealedW then s.fail 0x16
      else ({ s with power := { s.power with nextCap := some (cap, sl) } }).done))))

/-- The hottest of a list of sensors. -/
def State.hottest (s : State) (ks : List Nat) : Int := ks.foldl (fun a k => max a (s.temp k)) (s.temp (ks.headD 0))

/-- The sensor of a layer and slice. -/
def dramKey (i : Nat) : Nat := if i < 12 then sensorKey 1 i else sensorKey 2 i

/-- READ (R500, R516): measurements, the 48 slices, layer by layer, and the hottest sensor of the logic die. -/
def execPowerRead (rq : Req) (s : State) : Host.Outcome State Fault Refusal :=
  .next (s.mailCmd rq 0x0D 0x03 (fun s => s.anyMb rq (s.bodyOf rq 0 true (
    let m := s.inputMeans
    s.done (leBytes 4 m.1 ++ leBytes 4 m.2.1 ++ leBytes 4 m.2.2 ++ zeros 4
      ++ (List.range 48).flatMap (fun i => leBytes 2 (ofSigned 16 (s.temp (dramKey i))))
      ++ leBytes 2 (ofSigned 16 (s.hottest ((List.range 20).map (sensorKey 0)))))))))

/-! ## Power failure (R407 to R409, R515, R550, R563) -/

/-- PFW_ASSERT: PFW_N has stayed low for 2 µs (R550). From READY every context is fenced, the cores ramp down, NAND accepts no new data (R407), and a
POWER STATE command in progress fails (R515); during start-up the warning holds the sequence (R563). -/
def execPfwAssert (s : State) : Host.Outcome State Fault Refusal :=
  if s.pins.pfwAsserted then .next s
  else
    let s := s.advance 2100
    let s := { s with pins := { s.pins with pfwAsserted := true, pfwNs := s.clk.tai.ns, releaseNs := none, nandClosed := true, journaled := false } }
    let s := if s.start.stage = 7 then (s.fenceAll.rampAllDown).answerWait 0x25 else s
    .next ((s.gafferEvent 0x0014 3 [1]).alert 3)

/-- The newest snapshot generation of each job in a role that lies wholly on NAND. -/
def State.newestWhole (s : State) (role : Nat) : Map Nat :=
  (s.nand.filter (fun (n : NandGen) => n.whole && n.role = role)).foldl (fun b n =>
    b.upd n.jobId 0 (fun g => max g n.record.generation)) []

/-- The journal commit block is written (R407): it names the newest generations wholly on NAND, later ones are aborted, a LOSS received is written. -/
def State.commitJournal (s : State) : State :=
  let lossOf (r : SecRec) : Option SecRec :=
    s.ctxs.findSome? (fun e => e.2.sec.records.find? (fun q => q.jobId = r.jobId && q.generation = r.generation && q.lossValid))
  { s with
    nand := (s.nand.filter (fun n => n.whole)).map (fun (n : NandGen) =>
      match lossOf n.record with | some q => { n with record := { n.record with loss := q.loss, lossValid := true } } | none => n)
    journal := { valid := true, pfw := true, own := s.newestWhole 0, mirror := s.newestWhole 1 }
    pins := { s.pins with journaled := true } }

/-- A journal commit is due: PFW_N is asserted and the block is not written. During start-up nothing is written (R563). -/
def State.commitDue (s : State) : Bool := s.pins.pfwAsserted && !s.pins.journaled && s.atStage 7

/-- PFW_JOURNAL_COMMIT: the journal commit block, and the module quiescent (R407). By 8 ms no unit is active; the model makes the module quiescent
with the commit block, within that bound. -/
def execPfwJournalCommit (s : State) : Host.Outcome State Fault Refusal :=
  if !s.commitDue then .next s
  else
    let s := (s.toTai (s.pins.pfwNs + 2000000)).commitJournal
    .next { s with pins := { s.pins with quiesced := true } }

/-- PFW_RELEASE: PFW_N has stayed high for 1 ms (R550). -/
def execPfwRelease (s : State) : Host.Outcome State Fault Refusal :=
  if !s.pins.pfwAsserted then .next s
  else
    let s := s.advance 1050000
    let s := { s with pins := { s.pins with pfwAsserted := false, releaseNs := some s.clk.tai.ns, quiesced := false, nandClosed := false } }
    .next ((s.gafferEvent 0x0014 1 [0]).alert 3)

/-- READY is reached (R558): the active power state, event 0x001A with the milliseconds since the start, and bit 0 of SMB_ALERT_STATUS (R557). -/
def State.ready (s : State) : State :=
  let s := { s with start := { s.start with stage := 7, portsDone := false, gafferDown := false }, power := { s.power with state := .active } }
  (s.event 0x001A 0 noCtx [s.start.cause, s.life.slot, (s.clk.cycle - s.start.atCycle) / 1050000]).alert 0

/-- A start-up that was held resumes 100 ms after the release (R563). -/
def State.resumeStart (s : State) : State :=
  match s.pins.pfwAsserted, s.pins.releaseNs with
  | false, some t =>
    let held := s.start.pfwHeld
    let s := if held then s.toTai (t + 100000000) else s
    let s := { s with start := { s.start with pfwHeld := false }, pins := { s.pins with releaseNs := none } }
    if held && s.start.portsDone then s.ready else s
  | _, _ => s

/-- PFW_REJOIN: 100 ms after the release a start-up that was held resumes (R563); from READY the module reports to the coordinator and rejoins as a
survivor (R409), and a coordinator begins the recovery. -/
def execPfwRejoin (s : State) : Host.Outcome State Fault Refusal :=
  match s.pins.releaseNs with
  | none => .next s
  | some t =>
    if s.start.stage ≠ 7 then .next s.resumeStart
    else
      let s := s.toTai (t + 100000000)
      let s := { s with pins := { s.pins with releaseNs := none } }
      .next ((s.ctxs.filter (fun e => e.2.job.phase = 4 && e.2.job.plan.coordinator)).foldl (fun s e =>
        s.beginRecovery e.1 3 (s.pins.pfwNs - e.2.job.epoch) []) s)

end Sys2Proof.Machine
end

