-- ==== Sys2Proof/Machine/Startup.lean ====
section
/-! DEFINITION. Start-up (R558 to R563), the resets (R548, R551, R564, R565), the PCI Express side (R544, R548, R549) and the SMBus reads (R554 to R557). -/

namespace Sys2Proof.Machine

/-! ## What a reset keeps -/

/-- What the flash and NAND hold (R489, R494, R564): records, counters, images, the cullet list and its sparings, the generations and the journal;
the levels of the pins; and the model's own fields. -/
def State.kept (s : State) : State :=
  let l := s.life
  { State.reset with
    pending := s.pending, out := s.out, fresh := s.fresh, deviceId := s.deviceId, nand := s.nand, journal := s.journal, ctrlNext := s.ctrlNext
    culls := s.culls, rowMap := s.rowMap, withdrawn := s.withdrawn, laneSpares := s.laneSpares, bankSpares := s.bankSpares
    banks := s.banks.vals (fun _ (b : BankErr) => { sparesUsed := b.sparesUsed })
    ports := s.ports.vals (fun _ (p : Port) => { retired := p.retired })
    life := {
      state := l.state, records := l.records, fwCounter := l.fwCounter, tablesCounter := l.tablesCounter, countersNo := l.countersNo
      slotImages := l.slotImages, lastSlot := l.lastSlot, staged := l.staged, tables := l.tables }
    pins := {
      pfwAsserted := s.pins.pfwAsserted, pfwNs := s.pins.pfwNs, releaseNs := s.pins.releaseNs, nandClosed := s.pins.nandClosed
      perstN := s.pins.perstN, smbAddr := s.pins.smbAddr } }

/-- MODULE_RESET: MOD_RST_N has been low for 10 µs (R551, R564); a journal commit in progress ends first (R563). -/
def execModuleReset (s : State) : Host.Outcome State Fault Refusal :=
  if s.power.state == PowerState.off || s.start.inReset then .next s
  else
    let s := if s.commitDue then s.commitJournal else s
    .next { s.kept with start := { cause := 2, inReset := true } }

/-- MODULE_RESET_RELEASE: MOD_RST_N has been high for 1 ms; the module starts at ROM (R551). -/
def execModuleResetRelease (s : State) : Host.Outcome State Fault Refusal :=
  if !s.start.inReset then .next s else .next { s with start := { s.start with inReset := false, atCycle := s.clk.cycle } }

/-- INPUT_REMOVED: the module is off (R513, R514, R489). -/
def execInputRemoved (s : State) : Host.Outcome State Fault Refusal :=
  let t := s.kept
  .next { t with power := { t.power with state := .off } }

/-- POWER_ON: the input reaches 44 V and start-up begins at ROM, which samples the address straps (R554, R558). -/
def execPowerOn (straps : Nat) (s : State) : Host.Outcome State Fault Refusal :=
  if s.power.state != PowerState.off then .next s
  else
    let t := s.kept
    .next { t with start := { cause := 1, atCycle := t.clk.cycle }, pins := { t.pins with smbAddr := 0x58 + straps % 4 } }

/-! ## The stages -/

/-- A stage ends, unless the sequence is held; an assertion of PFW_N holds it before RAILS or a later stage (R558, R563). -/
def State.stageEnd (s : State) (n : Nat) (f : State → State) : State :=
  let s := s.resumeStart
  if s.atStage n && !s.start.pfwHeld then
    let s := f s
    if s.pins.pfwAsserted && decide (3 ≤ s.start.stage ∧ s.start.stage ≤ 6) && (s.start.stage != n || s.start.portsDone) then
      { s with start := { s.start with pfwHeld := true } }
    else s
  else s

/-- STAGE reads FAILED with a FAIL_CODE (R556, R557, R560). -/
def State.startFails (s : State) (code : Nat) : State := State.alert { s with start := { s.start with stage := 15, failCode := code } } 0

/-- A slot holds an image that may boot (R495, R559). -/
def State.boots (s : State) (v : RomView) (slot : Nat) : Bool :=
  v.slotOk.getD slot false && decide (s.life.fwCounter ≤ (s.life.slotImages.getD slot {}).svn)

/-- ROM_STAGE_END (R558, R559): the slot that last activated, else the other unless marked unbootable, else FAILED with 0x01; 0x04 when the
replay-protected region cannot be read. -/
def execRomStageEnd (v : RomView) (s : State) : Host.Outcome State Fault Refusal :=
  .next (s.stageEnd 1 (fun s =>
    let a := s.life.lastSlot
    let b := 1 - a
    if !v.regionOk then s.startFails 4
    else if s.boots v a then { s with start := { s.start with stage := 2, fallback := false } }
    else if s.boots v b && (s.life.slotImages.getD b {}).bootable then { s with start := { s.start with stage := 2, fallback := true } }
    else s.startFails 1))

/-- The slot that ROM chose. -/
def State.chosenSlot (s : State) : Nat := if s.start.fallback then 1 - s.life.lastSlot else s.life.lastSlot

/-- FIRMWARE_STAGE_END (R558): the gaffer starts in lock-step; a mismatch is FAIL_CODE 0x03. -/
def execFirmwareStageEnd (lockstepOk : Bool) (s : State) : Host.Outcome State Fault Refusal :=
  .next (s.stageEnd 2 (fun s =>
    if !lockstepOk then s.startFails 3
    else { s with start := { s.start with stage := 3 }, life := { s.life with slot := s.chosenSlot } }))

/-- CAP_W and SEALED_W at start-up (R507). -/
def State.startCaps (s : State) : Nat × Nat := if (s.life.record 5).isSome then (leNat (s.life.recBody 5 0 2), leNat (s.life.recBody 5 2 2)) else (650, 650)

/-- RAILS_STAGE_END (R558, R493): PWROK rises, the endpoint becomes available, the records are verified; without a MODULE record the module stops here
(R560). -/
def execRailsStageEnd (invalid : List Nat) (s : State) : Host.Outcome State Fault Refusal :=
  .next (s.stageEnd 3 (fun s =>
    if s.start.pwrok then s
    else
      let s := { s with life := { s.life with records := s.life.records.vals (fun k (r : SignedRec) => { r with valid := !invalid.contains k }) } }
      let noModule := (s.life.record 1).isNone
      let caps := s.startCaps
      { s with
        start := { s.start with pwrok := true, noModule := noModule, noOwner := (s.life.record 2).isNone, stage := if noModule then 3 else 4 }
        power := { s.power with capW := caps.1, sealedW := caps.2 }
        pcie := { s.pcie with linkUp := s.pins.perstN } }))

/-- A bank that fails training is spared by the spare bank of its slice, or withdrawn (R231, R558). -/
def State.badBank (s : State) (b : Nat × Nat × Nat) : State :=
  let no := b.2.1 * 64 + b.1 * 16 + b.2.2
  let sl := b.1 * 12 + b.2.1
  if s.withdrawn.contains (1, no) then s
  else
    let free := !s.bankSpares.contains sl
    let s := { s with withdrawn := s.withdrawn ++ [(1, no)], bankSpares := if free then s.bankSpares ++ [sl] else s.bankSpares }
    let at_ := b.1 * 2 ^ 30 + b.2.1 * 2 ^ 26
    let spare := if free then at_ + spareBankNo b.1 b.2.1 16 * 2 ^ 22 else 4294967295
    s.addCullet { type := 5, action := if free then 1 else 2, index := 0, location := at_ + b.2.2 * 2 ^ 22, spare := spare, causeSeq := 4294967295
                  timeNs := s.clk.tai.ns }

/-- MEMORY_STAGE_END (R558, R566): T1 and T2 zeroed, bad banks out of use, the generations that lie wholly on NAND kept as committed. The records that
failed are logged (R493; the entry's code is a free value, log 28), and a fallback of the firmware slot (R559). -/
def execMemoryStageEnd (v : MemView) (s : State) : Host.Outcome State Fault Refusal :=
  .next (s.stageEnd 4 (fun s =>
    let s : State := { s with
      mem := [], start := { s.start with stage := 5 }
      nand := (s.nand.filter (fun (n : NandGen) => n.whole)).map (fun (n : NandGen) => { n with record := { n.record with state := 2 } }) }
    let s := v.badBanks.foldl (fun s b => s.badBank b) s
    let s := (s.life.records.filter (fun (e : Nat × SignedRec) => !e.2.valid)).foldl (fun s e =>
      (s.event (Config.freeValue s.fresh % 65536) (recSev 1) noCtx [e.1]).draw) s
    if s.start.fallback then s.event 0x001B 2 noCtx [s.life.slot, 1 - s.life.slot] else s))

/-- A core fails a test of R562: recorded as retired once, and event 0x001C. -/
def State.testFails (s : State) (f : Nat × Nat) : State :=
  let was := match (s.culls.filter (fun (e : Cullet) => e.type = 1 && e.location = f.1)).getLast? with | some e => e.index | none => 0
  let s :=
    if s.retiredPc f.1 then s
    else s.addCullet { type := 2, action := 0, index := was, location := f.1, spare := 4294967295, causeSeq := 4294967295, timeNs := s.clk.tai.ns }
  s.event 0x001C 2 noCtx [f.1, f.2]

/-- The physical core that the cullet list records for a logical core (R21). -/
def State.recordedPc (s : State) (c : Nat) : Option Nat :=
  ((s.culls.filter (fun (e : Cullet) => e.type = 1 && e.index = c)).getLast?).map (fun e => e.location)

/-- The physical cores that a core may be bound to. -/
def State.sound (s : State) : List Nat := (List.range 14).filter (fun p => s.start.passed.contains p && !s.retiredPc p)

/-- A logical core bound to a physical core, with the core tables in force (R21, R558). -/
def State.bindCore (s : State) (c p : Nat) : State :=
  let s := s.setCore c { bound := true, pc := p, tablesRev := s.life.tables.revision, belowAt := s.clk.cycle }
  if s.recordedPc c = some p then s
  else s.addCullet { type := 1, action := 1, index := c, location := p, spare := 4294967295, causeSeq := 4294967295, timeNs := s.clk.tai.ns }

/-- The logical cores bound: those whose recorded physical core is sound to it, the others to the sound cores that are left, in ascending order (R21,
R23). -/
def State.bindCores (s : State) : State :=
  let stay := (List.range 12).filterMap (fun c =>
    match s.recordedPc c with | some p => if s.sound.contains p then some (c, p) else none | none => none)
  let rest := (List.range 12).filter (fun c => !stay.any (fun e => e.1 = c))
  let free := s.sound.filter (fun p => !stay.any (fun e => e.2 = p))
  (stay ++ rest.zip free).foldl (fun s e => s.bindCore e.1 e.2) s

/-- CORES_STAGE_END (R562): the failures name a physical core and the first test that it failed; FAIL_CODE 0x02 when none passes the table check. -/
def execCoresStageEnd (failures : List (Nat × Nat)) (s : State) : Host.Outcome State Fault Refusal :=
  .next (s.stageEnd 5 (fun s =>
    let failed (p : Nat) : Option Nat := (failures.find? (fun f => f.1 = p)).map (fun f => f.2)
    let tests := (List.range 14).filterMap (fun p => (failed p).map (fun t => (p, t)))
    let s := tests.foldl (fun s f => s.testFails f) s
    let s := { s with start := { s.start with passed := (List.range 14).filter (fun p => (failed p).isNone) } }
    let s := { s with start := { s.start with coresHealthy := s.sound.length } }
    if (List.range 14).all (fun p => match failed p with | some t => decide (t ≤ 2) | none => false) then s.startFails 2
    else
      let s := s.bindCores
      { s with start := { s.start with stage := 6 } }))

/-- A port configured from the PORTS record; without one it stays down (R492, R558). -/
def State.startPort (s : State) (p : Nat) : State :=
  if (s.life.record 4).isNone then s
  else (s.updPort p (fun t => { t with adminUp := true, recordDue := true, mode := 3 })).applyPorts p

/-- PORTS_STAGE_END (R558): the ports are configured, and READY follows unless PFW_N holds the sequence. -/
def execPortsStageEnd (s : State) : Host.Outcome State Fault Refusal :=
  .next (s.stageEnd 6 (fun s =>
    let s := (List.range 8).foldl (fun s p => s.startPort p) s
    if s.pins.pfwAsserted then { s with start := { s.start with portsDone := true } } else s.ready))

/-! ## The gaffer reset -/

/-- GAFFER_RESET_COMPLETE (R564, R565): READY again; borrowers receive WINDOW_LOST with cause 2; a transition that asked for the reset takes
effect (R486). -/
def execGafferResetComplete (s : State) : Host.Outcome State Fault Refusal :=
  if !s.start.gafferDown then .next s
  else
    let s := s.lend.foldl (fun s e => e.2.peers.foldl (fun s d => s.sendCtrl d 0xEA (beBytes 1 e.1 ++ beBytes 1 2 ++ zeros 2)) s) s
    let s := State.ready { s with lend := [] }
    match s.life.trans with
    | some t => .next (s.applyTransition t)
    | none => .next s

/-! ## PCI Express (R548, R549) -/

/-- The transfers in flight for the mailboxes named end with DMA_FAULT (R548). -/
def State.faultDma (s : State) (sel : Nat → Bool) : State :=
  (s.dmaOrder.filter (fun t => sel t.fn)).foldl (fun s t =>
    match t.shard with
    | some (x, slot) => (match (s.ctx x).weights.slots.find slot with | some d => s.failShard x slot 0x1A d | none => s)
    | none =>
      match s.handle t.handle with
      | some h =>
        let waits : Bool := h.op == 0x0C && !(match s.liveOp 0x0C with | some e => e.1 == t.handle && s.life.newTables.isNone | none => false)
        if waits then s else s.dmaFault t.handle h
      | none => s) s

/-- PERST_ASSERT: PERST_N asserted, or the link down (R548). -/
def execPerstAssert (linkLost : Bool) (s : State) : Host.Outcome State Fault Refusal :=
  let s := s.faultDma (fun _ => true)
  .next { s with pcie := { dma := s.dmaOrder }, pins := { s.pins with perstN := s.pins.perstN && linkLost } }

/-- PERST_DEASSERT: the endpoint trains its link (R549); the model gives the link at once, when the rails are up. -/
def execPerstDeassert (s : State) : Host.Outcome State Fault Refusal :=
  .next { s with pcie := { s.pcie with linkUp := s.start.pwrok && !s.start.inReset }, pins := { s.pins with perstN := true } }

/-- The physical function decodes a mailbox (R436). -/
def State.pfDecodes (s : State) (m : Nat) : Bool := m == 0 || !(s.pcie.vfEnabled.getOr (m - 1) false)

/-- The sessions of the mailboxes named end (R451). -/
def State.endSome (s : State) (sel : Nat → Bool) : State :=
  { s with mailboxes := s.mailboxes.vals (fun m (b : Mailbox) => if sel m then { b with session := {}, epoch := 0, nextTag := 0 } else b) }

/-- FLR_PHYSICAL_FUNCTION (R548). -/
def execFlrPhysicalFunction (s : State) : Host.Outcome State Fault Refusal :=
  let s := (s.endSome s.pfDecodes).faultDma s.pfDecodes
  .next { s with pcie := { s.pcie with vfEnabled := [] } }

/-- FLR_VIRTUAL_FUNCTION of function n + 1 (R548). -/
def execFlrVirtualFunction (vf : Nat) (s : State) : Host.Outcome State Fault Refusal :=
  if vf = 0 ∨ !s.pcie.vfEnabled.getOr (vf - 1) false then .next s
  else .next ((s.endSome (fun m => m == vf)).faultDma (fun m => m == vf))

/-! ## SMBus (R554 to R557) -/

/-- SMBus is served from the ROM stage on, while the module has power and is out of reset (R554). -/
def State.smbUp (s : State) : Bool := s.power.state != PowerState.off && !s.start.inReset

/-- A block read answered, or no acknowledge from a module without the interface. -/
def State.smbRead (s : State) (b : List Byte) : State := if s.smbUp then s.emit (.smbus b) else s.emit .smbNack

/-- SMB_PART. -/
def execSmbPart (s : State) : Host.Outcome State Fault Refusal := .next (s.smbRead partNumber)

/-- SMB_SERIAL. -/
def execSmbSerial (s : State) : Host.Outcome State Fault Refusal := .next (s.smbRead (padTo 16 Config.serial))

/-- SMB_BOOT_STATUS as one word (R556). -/
def State.bootStatus (s : State) : Nat :=
  let t := s.start
  t.stage % 16 * 2 ^ 28 + Bool.n t.pfwHeld * 2 ^ 27 + Bool.n t.pwrok * 2 ^ 26 + s.life.slot % 4 * 2 ^ 24 + t.cause % 16 * 2 ^ 20
    + s.life.state % 16 * 2 ^ 16 + t.failCode % 256 * 2 ^ 8 + t.coresHealthy % 16 * 2 ^ 4 + Bool.n t.noModule * 8 + Bool.n t.noOwner * 4
    + Bool.n t.fallback * 2

/-- SMB_BOOT_STATUS. -/
def execSmbBootStatus (s : State) : Host.Outcome State Fault Refusal := .next (s.smbRead (leBytes 4 s.bootStatus))

/-- The gaffer has started since power-on or reset (R555). -/
def State.gafferStarted (s : State) : Bool := s.gafferOn || s.start.gafferDown

/-- A register that reads 0 before the gaffer starts (R555). -/
def State.smbLate (s : State) (n : Nat) (b : List Byte) : State := s.smbRead (if s.gafferStarted then b else zeros n)

/-- SMB_INPUT. -/
def execSmbInput (s : State) : Host.Outcome State Fault Refusal :=
  let m := s.inputMeans
  .next (s.smbLate 12 (leBytes 4 m.1 ++ leBytes 4 m.2.1 ++ leBytes 4 m.2.2))

/-- SMB_TEMP: the hottest sensor of each part. -/
def execSmbTemp (s : State) : Host.Outcome State Fault Refusal :=
  .next (s.smbLate 8 ((List.range 4).flatMap (fun p => leBytes 2 (ofSigned 16 (s.hottest (sensors.filter (fun k => k / 64 = p)))))))

/-- SMB_LOG_SEQ. -/
def execSmbLogSeq (s : State) : Host.Outcome State Fault Refusal := .next (s.smbLate 4 (leBytes 4 s.logNext))

/-- A W1C write of SMB_ALERT_STATUS: each 1 written clears its bit (R7, R557). -/
def State.clearAlert (s : State) (value : Nat) : State :=
  { s with pins := { s.pins with alertStatus := (List.range 16).foldl (fun a i => if bit s.pins.alertStatus i && !bit value i then a + 2 ^ i else a) 0 } }

/-- SMB_ALERT_STATUS_WRITE. -/
def execSmbAlertStatusWrite (value : Nat) (s : State) : Host.Outcome State Fault Refusal :=
  if s.smbUp then .next (s.clearAlert value) else .next (s.emit .smbNack)

/-- SMB_ALERT_RESPONSE: the module answers the Alert Response Address with its own while it asserts SMB_ALERT_N (R554). -/
def execSmbAlertResponse (s : State) : Host.Outcome State Fault Refusal :=
  if s.smbUp && s.alertLow then .next (s.emit (.smbus (leBytes 1 s.pins.smbAddr))) else .next (s.emit .smbNack)

end Sys2Proof.Machine
end

