-- ==== Sys2Proof/Machine/Registers.lean ====
section
/-! DEFINITION. The BARs (R9, R435 to R439, R521 to R523, R545): what a host reads there, writes to registers that have no command of their own (R7,
R8), and diagnostic accesses through BAR2; and the scrubbers (R221 to R223, R225, R227). -/

namespace Sys2Proof.Machine

/-! ## What a host reads -/

/-- MBX_STATUS (R438). -/
def State.mbxStatus (s : State) (m : Nat) : Nat :=
  let b := s.mbox m
  let ses := if b.session.isOpen then 2 else if b.session.opening then 1 else 0
  b.lastTag % 65536 * 2 ^ 48 + b.lastStatus % 65536 * 2 ^ 32 + ses * 2 ^ 20 + min 255 b.session.fails * 2 ^ 8 + Bool.n s.life.fwSwitch * 2 ^ 7
    + Bool.n b.overrun * 2 ^ 5 + Bool.n b.event * 2 ^ 4 + Bool.n b.done * 2 ^ 2 + Bool.n b.busy * 2 + Bool.n b.busy

/-- MBX_CONTROL (R439). -/
def State.mbxControl (s : State) (m : Nat) : Nat :=
  let b := s.mbox m
  b.notifySev % 16 * 2 ^ 4 + Bool.n b.irqEvent * 2 + Bool.n b.irqDone

/-- One byte of a mailbox page (R437). -/
def State.pageByte (s : State) (m off : Nat) : Byte :=
  let b := s.mbox m
  if off < 0x08 then (leBytes 8 (s.mbxStatus m)).getD off 0#8
  else if off < 0x0C then (leBytes 4 (s.mbxControl m)).getD (off - 0x08) 0#8
  else if off < 0x10 then (leBytes 4 b.epoch).getD (off - 0x0C) 0#8
  else if off < 0x12 then (leBytes 2 b.nextTag).getD (off - 0x10) 0#8
  else if off < 0x40 then 0#8
  else if off < 0x800 then b.req.getOr off 0#8
  else b.rsp.getD (off - 0x800) 0#8

/-- The 8-byte location of a counter page (R521, R522); while PERMIT is 0 every location but CTR_CONTROL reads 0 (R523). -/
def State.ctrWord (s : State) (x i : Nat) : Nat :=
  let c := s.ctx x
  let control := Bool.n (c.sampling.on || c.sampling.armed.isSome || c.sampling.tracing) * 2 + Bool.n c.permit
  if !c.permit then (if i = 4 then control * 2 ^ 32 else 0)
  else if i = 0 then s.clk.cycle
  else if i = 1 then (if 2 ≤ c.job.phase then s.fabricNs x else 0)
  else if i = 2 then (if 2 ≤ c.job.phase then s.clk.tai.frac else 0)
  else if i = 3 then c.job.step % 2 ^ 40
  else if i = 4 then c.weights.punty c.job.step + control * 2 ^ 32
  else if i = 5 then c.sec.committed
  else if 32 ≤ i ∧ i < 512 then (c.counters.getOr (i - 32) {}).word
  else 0

/-- One byte of a counter page. -/
def State.ctrByte (s : State) (x off : Nat) : Byte := (leBytes 8 (s.ctrWord x (off / 8))).getD (off % 8) 0#8

/-- A location of BAR0: a mailbox page, a doorbell word, a counter page, a reserved range, or no such location for the function. -/
inductive Loc where
  | page (m off : Nat)
  | doorbell (m off : Nat)
  | counters (x off : Nat)
  | reserved
  | none_
  deriving DecidableEq, Repr

/-- What BAR0 of a function holds at an offset (R435, R436): a context's pages move to its virtual function while that is enabled. -/
def State.bar0Loc (s : State) (fn off : Nat) : Loc :=
  let vf (n : Nat) : Bool := s.pcie.vfEnabled.getOr n false
  if fn = 0 then
    if off < 0x1000 then .page 0 off
    else if off < 0x2000 then
      let m := (off - 0x1000) / 4
      if 513 ≤ m then .reserved else if m != 0 && vf (m - 1) then .none_ else .doorbell m (off % 4)
    else if 0x100000 ≤ off ∧ off < 0x300000 then
      let n := (off - 0x100000) / 0x1000
      if vf n then .none_ else .page (n + 1) (off % 0x1000)
    else if 0x300000 ≤ off ∧ off < 0x500000 then
      let n := (off - 0x300000) / 0x1000
      if vf n then .none_ else .counters n (off % 0x1000)
    else if off < 0x800000 then .reserved
    else .none_
  else if !vf (fn - 1) ∨ 512 < fn ∨ 0x4000 ≤ off then .none_
  else if off < 0x1000 then .page fn off
  else if off < 0x1004 then .doorbell fn (off % 4)
  else if 0x2000 ≤ off ∧ off < 0x3000 then .counters (fn - 1) (off % 0x1000)
  else .reserved

/-- A byte read at BAR0; none completes with Unsupported Request. A doorbell word is write-only and reads 0 (R7). -/
def State.bar0Byte (s : State) (fn off : Nat) : Option Byte :=
  match s.bar0Loc fn off with
  | .page m o => some (s.pageByte m o)
  | .counters x o => some (s.ctrByte x o)
  | .doorbell _ _ | .reserved => some 0#8
  | .none_ => none

/-- The SMBus registers that are read and written (R555): SMB_ALERT_STATUS and SMB_ALERT_MASK. -/
def State.smbWord (s : State) (code : Nat) : Option Nat :=
  if code = 6 then some s.pins.alertStatus else if code = 7 then some s.pins.alertMask else none

/-! ## Register writes -/

/-- A byte written at a location of a mailbox page: W1C bits of MBX_STATUS, fields of MBX_CONTROL, the request area; the rest is read-only or
reserved (R7, R8, R437 to R439). A reserved value of NOTIFY_SEV is not taken (R4). -/
def Mailbox.writeByte (b : Mailbox) (off v : Nat) : Mailbox :=
  if off = 0x00 then { b with done := b.done && !bit v 2, event := b.event && !bit v 4 }
  else if off = 0x08 then
    { b with irqDone := bit v 0, irqEvent := bit v 1, notifySev := if v / 16 % 16 < 4 then v / 16 % 16 else b.notifySev }
  else if 0x40 ≤ off ∧ off < 0x800 then { b with req := b.req.set off (BitVec.ofNat 8 v) }
  else b

/-- A byte written at BAR0. A doorbell rung while BUSY or DONE is set sets OVERRUN (R443); one that starts a command is that command's own row. -/
def State.bar0Write (s : State) (fn off v : Nat) : State :=
  match s.bar0Loc fn off with
  | .page m o => s.updMbox m (fun b => b.writeByte o v)
  | .doorbell m o => if o = 0 && ((s.mbox m).done || (s.mbox m).busy) then s.updMbox m (fun b => { b with overrun := true }) else s
  | _ => s

/-- A write of `size` bytes at BAR0, little-endian (R6). -/
def State.bar0WriteAll (s : State) (fn off size value : Nat) : State :=
  (List.range size).foldl (fun s i => s.bar0Write fn (off + i) (value / 256 ^ i % 256)) s

/-- A write of an SMBus register (R7, R555, R557): others are read-only, or reserved and not acknowledged. -/
def State.smbWrite (s : State) (code value : Nat) : State :=
  if !s.smbUp then s.emit .smbNack
  else if code = 6 then s.clearAlert value
  else if code = 7 then { s with pins := { s.pins with alertMask := value % 32 } }
  else if code < 6 then s
  else s.emit .smbNack

/-! ## The debug port (R553) -/

/-- The debug port is open: at the debug level invasive, in every power state but off (R485, R489, R553). -/
def State.debugOpen (s : State) : Bool := s.life.debug == 2 && s.power.state != PowerState.off && !s.start.inReset && !s.start.gafferDown

/-- The state of the test access port after a rising edge of DBG_TCK, by the level of DBG_TMS (IEEE 1149.1; PRESUMED, log 93). -/
def Tap.step (t : Tap) (tms : Bool) : Tap :=
  match t with
  | .reset => if tms then .reset else .idle
  | .idle => if tms then .selectDr else .idle
  | .selectDr => if tms then .selectIr else .captureDr
  | .captureDr => if tms then .exit1Dr else .shiftDr
  | .shiftDr => if tms then .exit1Dr else .shiftDr
  | .exit1Dr => if tms then .updateDr else .pauseDr
  | .pauseDr => if tms then .exit2Dr else .pauseDr
  | .exit2Dr => if tms then .updateDr else .shiftDr
  | .updateDr => if tms then .selectDr else .idle
  | .selectIr => if tms then .reset else .captureIr
  | .captureIr => if tms then .exit1Ir else .shiftIr
  | .shiftIr => if tms then .exit1Ir else .shiftIr
  | .exit1Ir => if tms then .updateIr else .pauseIr
  | .pauseIr => if tms then .exit2Ir else .pauseIr
  | .exit2Ir => if tms then .updateIr else .shiftIr
  | .updateIr => if tms then .selectDr else .idle

/-- The test access port as it stands: held in reset while the debug port is closed (R553). -/
def State.tap (s : State) : Tap := if s.debugOpen then s.pins.tap else .reset

/-- The level of DBG_TDO; none is high impedance, which a closed port places it in (R553), as does one that shifts nothing. The registers behind the port
are not given: a bit shifted out is a free value (log 93). -/
def State.dbgTdo (s : State) : Option Bool :=
  if s.tap = .shiftDr ∨ s.tap = .shiftIr then some (Config.freeValue s.fresh % 2 == 1) else none

/-- A rising edge of DBG_TCK: ignored while the port is closed (R553). -/
def State.dbgClock (s : State) (tms trstN : Bool) : State :=
  if !s.debugOpen then s
  else
    let t := if trstN then s.pins.tap.step tms else .reset
    { (if s.dbgTdo.isSome then s.draw else s) with pins := { s.pins with tap := t } }

/-- REGISTER_WRITE (R7, R8): RW fields are set, W1C bits cleared, reserved and read-only locations left. BAR0 needs the link. A location that the
function does not decode completes with Unsupported Request (R436). -/
def execRegisterWrite (t : RegTarget) (value : Nat) (s : State) : Host.Outcome State Fault Refusal :=
  match t with
  | .smb code => .next (s.smbWrite code value)
  | .sriov =>
    if !s.pcie.linkUp then .next s
    else .next { s with pcie := { s.pcie with vfEnabled := (List.range (min 512 value)).map (fun n => (n, true)) } }
  | .maxRead =>
    if !s.pcie.linkUp ∨ 5 < value then .next s else .next { s with pcie := { s.pcie with maxRead := 128 * 2 ^ value } }
  | .debugPort => .next (s.dbgClock (bit value 1) (bit value 2))
  | .bar0 fn off size =>
    if !s.pcie.linkUp then .next s
    else if s.bar0Loc fn off = .none_ then .next (s.emit .unsupported)
    else .next (s.bar0WriteAll fn off size value)

/-! ## BAR2 (R9, R194, R204, R205, R545) -/

/-- BAR2 serves [off, off + n): the virtual function is enabled, and every tile of the first 64 GiB of the context's local range that it touches is
mapped. -/
def State.bar2Ok (s : State) (fn off n : Nat) : Bool :=
  s.pcie.linkUp && fn != 0 && s.pcie.vfEnabled.getOr (fn - 1) false && decide (off + n ≤ 2 ^ 36) && s.mapped (fn - 1) off n

/-- BAR2_READ: a tile in migration is read at its source (R204). -/
def execBar2Read (fn off size : Nat) (s : State) : Host.Outcome State Fault Refusal :=
  if s.bar2Ok fn off size then .next (s.emit (.completion (s.localRead (fn - 1) off size))) else .next (s.emit .unsupported)

/-- BAR2_WRITE: the part in a tile that stalls waits for the end of its migration, which moves ahead of every other (R204, R205). -/
def execBar2Write (fn off : Nat) (data : List Byte) (s : State) : Host.Outcome State Fault Refusal :=
  if !s.bar2Ok fn off data.length then .next (s.emit .unsupported) else .next (s.localWrite (fn - 1) off data)

/-! ## Scrubbing (R221 to R223) -/

/-- The tile that a frame holds, or is to hold while the tile is in migration: context, bank of the tile table, tile, and the lender (R223, R410). -/
def State.frameTile (s : State) (tier frame : Nat) : Option (Nat × Nat × Nat) :=
  let here (e : TileEntry) : Bool :=
    e.valid && ((e.tier = tier && e.frame = frame) || (e.state != 0 && e.destTier = tier && e.destFrame = frame))
  s.ctxs.findSome? (fun e =>
    ((e.2.tiles.find? (fun t => here t.2)).map (fun t => (e.1, 0, t.1))).or ((e.2.bank1.find? (fun t => here t.2)).map (fun t => (e.1, 1, t.1))))

/-- The context that a frame belongs to: it holds a tile, a capture or a pre-image of it, or it has been released and not yet scrubbed (R223, R208). -/
def State.frameOwner (s : State) (tier frame : Nat) : Option Nat := ((s.takenFrames tier).find? (fun u => u.1 = frame)).map (fun u => u.2)

/-- A frame of the reservations of R27 (log 14). -/
def reservedFrame (tier frame : Nat) : Bool := if tier = 1 then decide (frame < 1572864) && decide (frame % 131072 < 640) else decide (frame < 32768)

/-- A tile error record of the scrubber for a frame that no tile has. The manual gives it no tile address: TILE_ADDR is 0 (DESIGN CHOICE, log 81); of a lent
frame it is the borrower's, which is a free value here (R213, log 5). -/
def State.scrubRecord (s : State) (tierCode tier cls x core frame line : Nat) : State :=
  if (tier = 1 ∨ tier = 2) ∧ (s.lentEnd tier frame).isSome then
    let a := Config.freeValue s.fresh % 2 ^ 48 * tileBytes
    s.draw.tileError tierCode cls 3 x core a line 0 (s.location tier core frame line)
  else s.tileError tierCode cls 3 x core 0 line 0 (s.location tier core frame line)

/-- A module fault (R227): the record with context 0xFFFF, every context fenced, and the flow context that the line may hold lost and resynchronised; which
one, if any, is a free value. -/
def State.moduleFault (s : State) (tier cls frame line : Nat) : State :=
  let s := (s.scrubRecord 6 tier cls noCtx 0xFFFF frame line).fenceAll
  let i := Config.freeValue s.fresh % (s.flows.length + 1)
  match s.draw.flows[i]? with
  | some f => s.draw.loseFlow f.1
  | none => s.draw

/-- An uncorrectable line of T1 or T2 (R223, R225, R227). -/
def State.scrubUnc (s : State) (tier cls frame line : Nat) : State :=
  let b := s.bankOf tier 0 frame line
  let seq := s.logNext
  if reservedFrame tier frame then (s.moduleFault tier cls frame line).uncRow b.1 b.2 seq
  else
    match s.frameTile tier frame with
    | some (x, bank, t) => s.loseLine x bank t tier 0 frame 0 line cls 3 0xFFFF
    | none =>
      match s.frameOwner tier frame with
      | some x => ((s.scrubRecord tier tier cls x 0xFFFF frame line).fenceLater x).uncRow b.1 b.2 seq
      | none =>
        let s := s.scrubRecord tier tier cls noCtx 0xFFFF frame line
        let s := if (s.lentEnd tier frame).isSome then s else s.clearMem (framePhys 0 0 tier 0 frame) tileBytes
        s.uncRow b.1 b.2 seq

/-- A line of T1 or T2 scrubbed. -/
def State.scrubDram (s : State) (tier addr : Nat) (e : LineErr) (written : Bool) : State :=
  let frame := addr / 1024
  let line := addr % 1024
  let s := (s.countM (0x1830 + (tier - 1)) 1).spoil (framePhys 0 0 tier 0 frame + line * 64) (if written then [] else e.leaves tier)
  match e.verdict tier with
  | .clean => s
  | .corrected lane =>
    let b := s.bankOf tier 0 frame line
    (s.countM 0x1832 1).correctedErr (s.frameOwner tier frame) b.1 b.2 lane
  | .uncorrectable cls => (s.countM 0x1833 1).scrubUnc tier cls frame line

/-- The tile of a T0 window, or the one on its way there. -/
def State.windowTile (s : State) (c w : Nat) : Option (Nat × Nat × Nat) :=
  match s.t0Tile c w with
  | some (x, t) => some (x, 0, t)
  | none => (s.migs.find? (fun m =>
      let e := (s.ctx m.ctx).migEntry m.tile
      m.region = c && e.state != 0 && e.destTier = 0 && e.destFrame = w)).map (fun m => (m.ctx, m.bank, m.tile))

/-- A word of a tile store scrubbed, named by its 64-byte line. -/
def State.scrubTileStore (s : State) (c addr : Nat) (e : LineErr) (written : Bool) : State :=
  let pc := (s.core c).pc
  let w := addr / 1024
  let line := addr % 1024
  let owner := s.windowTile c w
  let s := s.spoil (tsPhys c (addr * 64)) (if written then [] else e.leaves 0)
  match e.verdict 0 with
  | .clean => s
  | .corrected lane => (s.countM 0x1832 1).correctedErr (owner.map (fun o => o.1)) (.sram pc) (addr * 64 / 512) lane
  | .uncorrectable _ =>
    let s := s.countM 0x1833 1
    match owner with
    | some (x, bank, t) => s.loseLine x bank t 0 c w 0 line 5 3 0xFFFF
    | none => (s.scrubRecord 0 0 5 noCtx c w line).clearMem (tsPhys c (w * tileBytes)) tileBytes

/-- A row of an array's accumulator memory scrubbed: array × 1,024 + row, where the second 512 rows are shadow set 1 (R106, R138). -/
def State.scrubAcc (s : State) (c addr : Nat) (e : LineErr) : State :=
  let arr := addr / 1024 % 4
  let row := addr % 1024
  let k : AccEcc := { bits := e.hits.foldl (fun a f => a + byteOnes f.2) 0, array := arr, accRow := row }
  if k.bad then
    let s := s.countM 0x1833 1
    match (s.core c).holderOf (row / 512) with
    | some a => s.accFails c arr row a
    | none => (s.arrayError 3 c arr row noCtx 0 0).arrayFault c arr
  else if k.corrected then (s.countM 0x1832 1).countM (0x1810 + (s.core c).pc) 1
  else s

/-- SCRUB_LINE (R221 to R223): `addr` is the line's number in its store, `err` what upsets have made of it. A correction is written back unless an access
has written the line meanwhile: then the line holds the data written (R222). An uncorrectable error of gaffer memory resets the gaffer
(R227). -/
def execScrubLine (store : Store) (addr : Nat) (err : LineErr) (writtenMeanwhile : Bool) (s : State) : Host.Outcome State Fault Refusal :=
  if !(s.hasLog || s.start.gafferDown) || (s.power.state == PowerState.standby && store != .gaffer) then .next s
  else
    match store with
    | .t1 => .next (s.scrubDram 1 addr err writtenMeanwhile)
    | .t2 => .next (s.scrubDram 2 addr err writtenMeanwhile)
    | .tileStore c => .next (s.scrubTileStore c addr err writtenMeanwhile)
    | .accumulator c => .next (s.scrubAcc c addr err)
    | .gaffer =>
      match err.verdict 0 with
      | .clean => .next s
      | .corrected _ => .next ((s.countM 0x1832 1).countM 0x1820 1)
      | .uncorrectable _ =>
        let s := (s.countM 0x1833 1).tileError 5 5 3 noCtx 0xFFFF 0 0 0 (addr % 32768)
        .next (if s.start.gafferDown then s else s.gafferReset)

end Sys2Proof.Machine
end

