-- ==== Sys2Proof/Machine/Dispatch.lean ====
section
/-! DEFINITION. The meaning of each command: one arm per row of spec/opcode_table.json, each a direct call. -/

namespace Sys2Proof.Machine

def exec (i : Instr) (s : State) : Host.Outcome State Fault Refusal :=
  match i with
  | .registerWrite t value => Sys2Proof.Machine.execRegisterWrite t value s
  | .bar2Read fn off size => Sys2Proof.Machine.execBar2Read fn off size s
  | .bar2Write fn off data => Sys2Proof.Machine.execBar2Write fn off data s
  | .nop core ring => Sys2Proof.Machine.execNop core ring s
  | .endDesc core ring => Sys2Proof.Machine.execEndDesc core ring s
  | .jump core ring => Sys2Proof.Machine.execJump core ring s
  | .cursor core ring => Sys2Proof.Machine.execCursor core ring s
  | .barrier core ring => Sys2Proof.Machine.execBarrier core ring s
  | .barrierRelease core ring => Sys2Proof.Machine.execBarrierRelease core ring s
  | .eventWaitAtLeast core ring => Sys2Proof.Machine.execEventWaitAtLeast core ring s
  | .eventWaitEqual core ring => Sys2Proof.Machine.execEventWaitEqual core ring s
  | .eventWaitTimeout core ring => Sys2Proof.Machine.execEventWaitTimeout core ring s
  | .arrayMul core ring => Sys2Proof.Machine.execArrayMul core ring s
  | .parisonLoadStart core => Sys2Proof.Machine.execParisonLoadStart core s
  | .parisonLoadDone core first second => Sys2Proof.Machine.execParisonLoadDone core first second s
  | .weightSetSwitch core => Sys2Proof.Machine.execWeightSetSwitch core s
  | .arrayRowEntry core => Sys2Proof.Machine.execArrayRowEntry core s
  | .emptyIssueSlot core lostArbitration => Sys2Proof.Machine.execEmptyIssueSlot core lostArbitration s
  | .lehrRampDownStart core => Sys2Proof.Machine.execLehrRampDownStart core s
  | .lehrStep core => Sys2Proof.Machine.execLehrStep core s
  | .rampUpStep core => Sys2Proof.Machine.execRampUpStep core s
  | .preRampStart core => Sys2Proof.Machine.execPreRampStart core s
  | .ceilingStepDown core => Sys2Proof.Machine.execCeilingStepDown core s
  | .paritySweep core bad => Sys2Proof.Machine.execParitySweep core bad s
  | .ladderPush core ecc => Sys2Proof.Machine.execLadderPush core ecc s
  | .drainStart a => Sys2Proof.Machine.execDrainStart a s
  | .drainComplete core => Sys2Proof.Machine.execDrainComplete core s
  | .convertComputedScales core ring => Sys2Proof.Machine.execConvertComputedScales core ring s
  | .convertSuppliedScales core ring => Sys2Proof.Machine.execConvertSuppliedScales core ring s
  | .convertSplitTwo core ring => Sys2Proof.Machine.execConvertSplitTwo core ring s
  | .convertSplitThree core ring => Sys2Proof.Machine.execConvertSplitThree core ring s
  | .vectorAdd core ring => Sys2Proof.Machine.execVectorAdd core ring s
  | .vectorSubtract core ring => Sys2Proof.Machine.execVectorSubtract core ring s
  | .vectorMultiply core ring => Sys2Proof.Machine.execVectorMultiply core ring s
  | .vectorFma core ring => Sys2Proof.Machine.execVectorFma core ring s
  | .vectorFmaP0 core ring => Sys2Proof.Machine.execVectorFmaP0 core ring s
  | .vectorMaximum core ring => Sys2Proof.Machine.execVectorMaximum core ring s
  | .vectorMinimum core ring => Sys2Proof.Machine.execVectorMinimum core ring s
  | .vectorExp core ring => Sys2Proof.Machine.execVectorExp core ring s
  | .vectorLog core ring => Sys2Proof.Machine.execVectorLog core ring s
  | .vectorRcp core ring => Sys2Proof.Machine.execVectorRcp core ring s
  | .vectorRsqrt core ring => Sys2Proof.Machine.execVectorRsqrt core ring s
  | .vectorSqrt core ring => Sys2Proof.Machine.execVectorSqrt core ring s
  | .vectorSigmoid core ring => Sys2Proof.Machine.execVectorSigmoid core ring s
  | .vectorGelu core ring => Sys2Proof.Machine.execVectorGelu core ring s
  | .vectorSilu core ring => Sys2Proof.Machine.execVectorSilu core ring s
  | .vectorSoftmax core ring => Sys2Proof.Machine.execVectorSoftmax core ring s
  | .vectorLayerNorm core ring => Sys2Proof.Machine.execVectorLayerNorm core ring s
  | .vectorRmsNorm core ring => Sys2Proof.Machine.execVectorRmsNorm core ring s
  | .vectorRowSum core ring => Sys2Proof.Machine.execVectorRowSum core ring s
  | .vectorRowMaximum core ring => Sys2Proof.Machine.execVectorRowMaximum core ring s
  | .vectorUniformRandom core ring => Sys2Proof.Machine.execVectorUniformRandom core ring s
  | .vectorDropout core ring => Sys2Proof.Machine.execVectorDropout core ring s
  | .optUpdateAdam core ring => Sys2Proof.Machine.execOptUpdateAdam core ring s
  | .optUpdateMomentum core ring => Sys2Proof.Machine.execOptUpdateMomentum core ring s
  | .tileMoveLoad core ring => Sys2Proof.Machine.execTileMoveLoad core ring s
  | .tileMoveStore core ring => Sys2Proof.Machine.execTileMoveStore core ring s
  | .tileMoveCopy core ring => Sys2Proof.Machine.execTileMoveCopy core ring s
  | .opComplete core unit => Sys2Proof.Machine.execOpComplete core unit s
  | .fabricPut core ring => Sys2Proof.Machine.execFabricPut core ring s
  | .fabricGet core ring => Sys2Proof.Machine.execFabricGet core ring s
  | .fabricTilePut core ring => Sys2Proof.Machine.execFabricTilePut core ring s
  | .fabricTileGet core ring => Sys2Proof.Machine.execFabricTileGet core ring s
  | .fabricAtomicAdd core ring => Sys2Proof.Machine.execFabricAtomicAdd core ring s
  | .fabricAtomicMin core ring => Sys2Proof.Machine.execFabricAtomicMin core ring s
  | .fabricAtomicMax core ring => Sys2Proof.Machine.execFabricAtomicMax core ring s
  | .fabricCompareSwap core ring => Sys2Proof.Machine.execFabricCompareSwap core ring s
  | .fabricA48Add core ring => Sys2Proof.Machine.execFabricA48Add core ring s
  | .collStep core ring => Sys2Proof.Machine.execCollStep core ring s
  | .descriptorRetire core ring => Sys2Proof.Machine.execDescriptorRetire core ring s
  | .completionRingService core ring => Sys2Proof.Machine.execCompletionRingService core ring s
  | .updateChannelIssue core => Sys2Proof.Machine.execUpdateChannelIssue core s
  | .contextFence ctx ecc => Sys2Proof.Machine.execContextFence ctx ecc s
  | .residencyPass ctx moves => Sys2Proof.Machine.execResidencyPass ctx moves s
  | .migrationSlotGrant ctx => Sys2Proof.Machine.execMigrationSlotGrant ctx s
  | .migrationCopyDone ctx tile => Sys2Proof.Machine.execMigrationCopyDone ctx tile s
  | .migrationCommit ctx tile => Sys2Proof.Machine.execMigrationCommit ctx tile s
  | .migrationAbort ctx tile cause => Sys2Proof.Machine.execMigrationAbort ctx tile cause s
  | .migrationAbortDone ctx tile => Sys2Proof.Machine.execMigrationAbortDone ctx tile s
  | .scrubLine store addr verdict writtenMeanwhile => Sys2Proof.Machine.execScrubLine store addr verdict writtenMeanwhile s
  | .rowSpareSwitch loc row => Sys2Proof.Machine.execRowSpareSwitch loc row s
  | .laneSpare layer slice lane => Sys2Proof.Machine.execLaneSpare layer slice lane s
  | .bankSpare layer slice bank => Sys2Proof.Machine.execBankSpare layer slice bank s
  | .sliceTemperatureChange layer slice centi => Sys2Proof.Machine.execSliceTemperatureChange layer slice centi s
  | .reclaimDeadline side => Sys2Proof.Machine.execReclaimDeadline side s
  | .writeReq mac p => Sys2Proof.Machine.execWriteReq mac p s
  | .readReq mac p ecc => Sys2Proof.Machine.execReadReq mac p ecc s
  | .tileWrite mac p => Sys2Proof.Machine.execTileWrite mac p s
  | .tileRead mac p => Sys2Proof.Machine.execTileRead mac p s
  | .atomicAdd mac p => Sys2Proof.Machine.execAtomicAdd mac p s
  | .atomicMin mac p => Sys2Proof.Machine.execAtomicMin mac p s
  | .atomicMax mac p => Sys2Proof.Machine.execAtomicMax mac p s
  | .compareSwap mac p => Sys2Proof.Machine.execCompareSwap mac p s
  | .a48Add mac p => Sys2Proof.Machine.execA48Add mac p s
  | .collective mac p => Sys2Proof.Machine.execCollective mac p s
  | .collShardReady ctx coll inst => Sys2Proof.Machine.execCollShardReady ctx coll inst s
  | .writeDone mac p => Sys2Proof.Machine.execWriteDone mac p s
  | .readData mac p => Sys2Proof.Machine.execReadData mac p s
  | .atomicDone mac p => Sys2Proof.Machine.execAtomicDone mac p s
  | .collectiveDone mac p => Sys2Proof.Machine.execCollectiveDone mac p s
  | .ackPkt mac p => Sys2Proof.Machine.execAckPkt mac p s
  | .ackTimer flow => Sys2Proof.Machine.execAckTimer flow s
  | .retransmitTimeout flow psn => Sys2Proof.Machine.execRetransmitTimeout flow psn s
  | .ccInterval flow => Sys2Proof.Machine.execCcInterval flow s
  | .flowProgressTimeout flow => Sys2Proof.Machine.execFlowProgressTimeout flow s
  | .openFlow mac p => Sys2Proof.Machine.execOpenFlow mac p s
  | .openAccept mac p => Sys2Proof.Machine.execOpenAccept mac p s
  | .openRefuse mac p => Sys2Proof.Machine.execOpenRefuse mac p s
  | .closeFlow mac p => Sys2Proof.Machine.execCloseFlow mac p s
  | .closeDone mac p => Sys2Proof.Machine.execCloseDone mac p s
  | .resyncQuery mac p => Sys2Proof.Machine.execResyncQuery mac p s
  | .resyncState mac p => Sys2Proof.Machine.execResyncState mac p s
  | .reclaimNotice mac p => Sys2Proof.Machine.execReclaimNotice mac p s
  | .windowRelease mac p => Sys2Proof.Machine.execWindowRelease mac p s
  | .windowLost mac p => Sys2Proof.Machine.execWindowLost mac p s
  | .probe mac p => Sys2Proof.Machine.execProbe mac p s
  | .probeReply mac p => Sys2Proof.Machine.execProbeReply mac p s
  | .ctrlAck mac p => Sys2Proof.Machine.execCtrlAck mac p s
  | .ctrlRetransmitTimeout peer msgId => Sys2Proof.Machine.execCtrlRetransmitTimeout peer msgId s
  | .frameForward mac h fcsBad => Sys2Proof.Machine.execFrameForward mac h fcsBad s
  | .arpRequest mac targetIp senderIp senderMac => Sys2Proof.Machine.execArpRequest mac targetIp senderIp senderMac s
  | .neighbourSolicitation mac targetIp senderIp senderMac => Sys2Proof.Machine.execNeighbourSolicitation mac targetIp senderIp senderMac s
  | .unhandledFrame mac why => Sys2Proof.Machine.execUnhandledFrame mac why s
  | .pauseFrame mac quanta => Sys2Proof.Machine.execPauseFrame mac quanta s
  | .pfcFrame mac enable quanta => Sys2Proof.Machine.execPfcFrame mac enable quanta s
  | .pauseExpiry mac prio => Sys2Proof.Machine.execPauseExpiry mac prio s
  | .pfcRepeat mac prio => Sys2Proof.Machine.execPfcRepeat mac prio s
  | .pfcXonSend mac prio => Sys2Proof.Machine.execPfcXonSend mac prio s
  | .macFrameStart mac => Sys2Proof.Machine.execMacFrameStart mac s
  | .windowOpen ctx entry => Sys2Proof.Machine.execWindowOpen ctx entry s
  | .windowClose ctx entry => Sys2Proof.Machine.execWindowClose ctx entry s
  | .lldpTransmit mac => Sys2Proof.Machine.execLldpTransmit mac s
  | .lldpdu mac n => Sys2Proof.Machine.execLldpdu mac n s
  | .lpiEntry mac => Sys2Proof.Machine.execLpiEntry mac s
  | .lpiWakeForWindow mac ctx entry => Sys2Proof.Machine.execLpiWakeForWindow mac ctx entry s
  | .ptpMessage mac m => Sys2Proof.Machine.execPtpMessage mac m s
  | .ptpSyncTimer port => Sys2Proof.Machine.execPtpSyncTimer port s
  | .ptpHoldoverEntry errNs => Sys2Proof.Machine.execPtpHoldoverEntry errNs s
  | .ppsInEdge taiNs => Sys2Proof.Machine.execPpsInEdge taiNs s
  | .ppsInLost => Sys2Proof.Machine.execPpsInLost s
  | .ppsOutSecond => Sys2Proof.Machine.execPpsOutSecond s
  | .laneRecalStart lane why => Sys2Proof.Machine.execLaneRecalStart lane why s
  | .laneRecalApply lane => Sys2Proof.Machine.execLaneRecalApply lane s
  | .fecMonitorWindow mac st => Sys2Proof.Machine.execFecMonitorWindow mac st s
  | .laneLockLoss lane => Sys2Proof.Machine.execLaneLockLoss lane s
  | .linkUpAfterRetirement mac => Sys2Proof.Machine.execLinkUpAfterRetirement mac s
  | .retrainingTimeout mac => Sys2Proof.Machine.execRetrainingTimeout mac s
  | .parityInstance ctx plan => Sys2Proof.Machine.execParityInstance ctx plan s
  | .permuteInstance ctx => Sys2Proof.Machine.execPermuteInstance ctx s
  | .reshardRequest ctx rq => Sys2Proof.Machine.execReshardRequest ctx rq s
  | .reshardBoundary ctx => Sys2Proof.Machine.execReshardBoundary ctx s
  | .reshardDrainDone ctx => Sys2Proof.Machine.execReshardDrainDone ctx s
  | .reshardPermuteDone ctx => Sys2Proof.Machine.execReshardPermuteDone ctx s
  | .reshardCommitBroadcast ctx commitNs => Sys2Proof.Machine.execReshardCommitBroadcast ctx commitNs s
  | .reshardCommit ctx lay => Sys2Proof.Machine.execReshardCommit ctx lay s
  | .planPlacement ctx meas => Sys2Proof.Machine.execPlanPlacement ctx meas s
  | .planAccept ctx plan => Sys2Proof.Machine.execPlanAccept ctx plan s
  | .jobStartDecision ctx d => Sys2Proof.Machine.execJobStartDecision ctx d s
  | .startWaitTimeout ctx => Sys2Proof.Machine.execStartWaitTimeout ctx s
  | .jobStepStart ctx => Sys2Proof.Machine.execJobStepStart ctx s
  | .prefetch ctx d => Sys2Proof.Machine.execPrefetch ctx d s
  | .boundary ctx => Sys2Proof.Machine.execBoundary ctx s
  | .validationLossCompare ctx step losses => Sys2Proof.Machine.execValidationLossCompare ctx step losses s
  | .securingPartDone ctx part => Sys2Proof.Machine.execSecuringPartDone ctx part s
  | .securingCommit ctx => Sys2Proof.Machine.execSecuringCommit ctx s
  | .generationCommit ctx generation commitNs nextStep => Sys2Proof.Machine.execGenerationCommit ctx generation commitNs nextStep s
  | .lossCapture ctx loss => Sys2Proof.Machine.execLossCapture ctx loss s
  | .recoveryTrigger ctx t => Sys2Proof.Machine.execRecoveryTrigger ctx t s
  | .recoveryHalt ctx => Sys2Proof.Machine.execRecoveryHalt ctx s
  | .haltingEnd ctx v => Sys2Proof.Machine.execHaltingEnd ctx v s
  | .refillComplete ctx rebuilt => Sys2Proof.Machine.execRefillComplete ctx rebuilt s
  | .checkingComplete ctx failed => Sys2Proof.Machine.execCheckingComplete ctx failed s
  | .replayCompare ctx loss => Sys2Proof.Machine.execReplayCompare ctx loss s
  | .pfwAssert => Sys2Proof.Machine.execPfwAssert s
  | .pfwJournalCommit => Sys2Proof.Machine.execPfwJournalCommit s
  | .pfwRelease => Sys2Proof.Machine.execPfwRelease s
  | .pfwRejoin => Sys2Proof.Machine.execPfwRejoin s
  | .shardArrival ctx slot d => Sys2Proof.Machine.execShardArrival ctx slot d s
  | .shardReadback ctx slot errs => Sys2Proof.Machine.execShardReadback ctx slot errs s
  | .verifyPass ctx => Sys2Proof.Machine.execVerifyPass ctx s
  | .shardVerify ctx slot v => Sys2Proof.Machine.execShardVerify ctx slot v s
  | .switchAgree ctx news => Sys2Proof.Machine.execSwitchAgree ctx news s
  | .puntySwitch ctx => Sys2Proof.Machine.execPuntySwitch ctx s
  | .switchDeferral d => Sys2Proof.Machine.execSwitchDeferral d s
  | .openSm2 rq => Sys2Proof.Machine.execOpenSm2 rq s
  | .confirm rq => Sys2Proof.Machine.execConfirm rq s
  | .openPassword rq => Sys2Proof.Machine.execOpenPassword rq s
  | .passwordLockoutEnd => Sys2Proof.Machine.execPasswordLockoutEnd s
  | .sessionClose rq => Sys2Proof.Machine.execSessionClose rq s
  | .contextCreate rq => Sys2Proof.Machine.execContextCreate rq s
  | .contextTeardown rq => Sys2Proof.Machine.execContextTeardown rq s
  | .teardownFlowRelease ctx => Sys2Proof.Machine.execTeardownFlowRelease ctx s
  | .teardownScrubComplete ctx badFrames => Sys2Proof.Machine.execTeardownScrubComplete ctx badFrames s
  | .contextQuery rq => Sys2Proof.Machine.execContextQuery rq s
  | .setGrants rq => Sys2Proof.Machine.execSetGrants rq s
  | .jobLoad rq => Sys2Proof.Machine.execJobLoad rq s
  | .jobStart rq setList => Sys2Proof.Machine.execJobStart rq setList s
  | .jobFeed rq => Sys2Proof.Machine.execJobFeed rq s
  | .jobStatus rq => Sys2Proof.Machine.execJobStatus rq s
  | .jobCursor rq => Sys2Proof.Machine.execJobCursor rq s
  | .jobRecover rq => Sys2Proof.Machine.execJobRecover rq s
  | .jobDecideStop rq => Sys2Proof.Machine.execJobDecideStop rq s
  | .jobDecideResume rq => Sys2Proof.Machine.execJobDecideResume rq s
  | .jobValidate rq => Sys2Proof.Machine.execJobValidate rq s
  | .jobAddModule rq => Sys2Proof.Machine.execJobAddModule rq s
  | .jobReport rq => Sys2Proof.Machine.execJobReport rq s
  | .jobStop rq => Sys2Proof.Machine.execJobStop rq s
  | .weightLoad rq shardList => Sys2Proof.Machine.execWeightLoad rq shardList s
  | .weightSwitch rq => Sys2Proof.Machine.execWeightSwitch rq s
  | .weightQuery rq => Sys2Proof.Machine.execWeightQuery rq s
  | .weightVerifyPeriod rq => Sys2Proof.Machine.execWeightVerifyPeriod rq s
  | .tierCapacity rq => Sys2Proof.Machine.execTierCapacity rq s
  | .tierReadEntries rq => Sys2Proof.Machine.execTierReadEntries rq s
  | .tierMigrate rq => Sys2Proof.Machine.execTierMigrate rq s
  | .tierWeightRegions rq => Sys2Proof.Machine.execTierWeightRegions rq s
  | .lendOffer rq => Sys2Proof.Machine.execLendOffer rq s
  | .lendReclaim rq => Sys2Proof.Machine.execLendReclaim rq s
  | .grantT3 rq => Sys2Proof.Machine.execGrantT3 rq s
  | .portSet rq => Sys2Proof.Machine.execPortSet rq s
  | .portUpdown rq => Sys2Proof.Machine.execPortUpdown rq s
  | .portStatus rq => Sys2Proof.Machine.execPortStatus rq s
  | .peerTable rq => Sys2Proof.Machine.execPeerTable rq s
  | .fwdTable rq => Sys2Proof.Machine.execFwdTable rq s
  | .ccParams rq => Sys2Proof.Machine.execCcParams rq s
  | .neighbours rq => Sys2Proof.Machine.execNeighbours rq s
  | .recalPeriod rq => Sys2Proof.Machine.execRecalPeriod rq s
  | .snapshotsList rq => Sys2Proof.Machine.execSnapshotsList rq s
  | .secureNow rq => Sys2Proof.Machine.execSecureNow rq s
  | .readRecord rq => Sys2Proof.Machine.execReadRecord rq s
  | .snapshotsErase rq => Sys2Proof.Machine.execSnapshotsErase rq s
  | .timeStatus rq => Sys2Proof.Machine.execTimeStatus rq s
  | .ptpConfig rq => Sys2Proof.Machine.execPtpConfig rq s
  | .pps rq => Sys2Proof.Machine.execPps rq s
  | .asymmetry rq => Sys2Proof.Machine.execAsymmetry rq s
  | .setEpoch rq => Sys2Proof.Machine.execSetEpoch rq s
  | .countersRead rq => Sys2Proof.Machine.execCountersRead rq s
  | .countersPermission rq => Sys2Proof.Machine.execCountersPermission rq s
  | .samplingOff rq => Sys2Proof.Machine.execSamplingOff rq s
  | .samplingOn rq => Sys2Proof.Machine.execSamplingOn rq s
  | .samplingArmReplay rq => Sys2Proof.Machine.execSamplingArmReplay rq s
  | .samplingDisarm rq => Sys2Proof.Machine.execSamplingDisarm rq s
  | .sampleRecordWrite core consumed => Sys2Proof.Machine.execSampleRecordWrite core consumed s
  | .logStatus rq => Sys2Proof.Machine.execLogStatus rq s
  | .logRead rq => Sys2Proof.Machine.execLogRead rq s
  | .fwIdentity rq => Sys2Proof.Machine.execFwIdentity rq s
  | .fwStage rq => Sys2Proof.Machine.execFwStage rq s
  | .fwActivate rq => Sys2Proof.Machine.execFwActivate rq s
  | .fwSwitchStart => Sys2Proof.Machine.execFwSwitchStart s
  | .activateTimeout => Sys2Proof.Machine.execActivateTimeout s
  | .fwSwitchResume => Sys2Proof.Machine.execFwSwitchResume s
  | .fwSwitchWatchdog => Sys2Proof.Machine.execFwSwitchWatchdog s
  | .coreTables rq => Sys2Proof.Machine.execCoreTables rq s
  | .coreTablesTake core => Sys2Proof.Machine.execCoreTablesTake core s
  | .attest rq => Sys2Proof.Machine.execAttest rq s
  | .lifecycleInstallRecord rq record => Sys2Proof.Machine.execLifecycleInstallRecord rq record s
  | .lifecycleReadRecord rq => Sys2Proof.Machine.execLifecycleReadRecord rq s
  | .lifecycleChallenge rq => Sys2Proof.Machine.execLifecycleChallenge rq s
  | .lifecycleToFieldDebug rq => Sys2Proof.Machine.execLifecycleToFieldDebug rq s
  | .lifecycleToField rq => Sys2Proof.Machine.execLifecycleToField rq s
  | .lifecycleToReturned rq => Sys2Proof.Machine.execLifecycleToReturned rq s
  | .lifecycleManufactureToField rq => Sys2Proof.Machine.execLifecycleManufactureToField rq s
  | .lifecycleToManufacture rq => Sys2Proof.Machine.execLifecycleToManufacture rq s
  | .lifecycleTransitionDone => Sys2Proof.Machine.execLifecycleTransitionDone s
  | .debugNone rq => Sys2Proof.Machine.execDebugNone rq s
  | .debugObserve rq => Sys2Proof.Machine.execDebugObserve rq s
  | .debugInvasive rq => Sys2Proof.Machine.execDebugInvasive rq s
  | .debugChallenge rq => Sys2Proof.Machine.execDebugChallenge rq s
  | .culletRead rq => Sys2Proof.Machine.execCulletRead rq s
  | .coreReplace rq => Sys2Proof.Machine.execCoreReplace rq s
  | .coreMigration core => Sys2Proof.Machine.execCoreMigration core s
  | .laneRetire rq => Sys2Proof.Machine.execLaneRetire rq s
  | .laneAdmit rq => Sys2Proof.Machine.execLaneAdmit rq s
  | .dramRecal rq => Sys2Proof.Machine.execDramRecal rq s
  | .dramBankRetrain loc => Sys2Proof.Machine.execDramBankRetrain loc s
  | .powerStateActive rq => Sys2Proof.Machine.execPowerStateActive rq s
  | .powerStateIdle rq => Sys2Proof.Machine.execPowerStateIdle rq s
  | .powerStateStandby rq => Sys2Proof.Machine.execPowerStateStandby rq s
  | .powerCap rq => Sys2Proof.Machine.execPowerCap rq s
  | .powerRead rq => Sys2Proof.Machine.execPowerRead rq s
  | .powerSample mv ma mw => Sys2Proof.Machine.execPowerSample mv ma mw s
  | .capControlTick => Sys2Proof.Machine.execCapControlTick s
  | .thermalTick changes => Sys2Proof.Machine.execThermalTick changes s
  | .thermalTrip r => Sys2Proof.Machine.execThermalTrip r s
  | .handleQuery rq => Sys2Proof.Machine.execHandleQuery rq s
  | .handleCancel rq => Sys2Proof.Machine.execHandleCancel rq s
  | .handleExpiry handle => Sys2Proof.Machine.execHandleExpiry handle s
  | .smbPart => Sys2Proof.Machine.execSmbPart s
  | .smbSerial => Sys2Proof.Machine.execSmbSerial s
  | .smbBootStatus => Sys2Proof.Machine.execSmbBootStatus s
  | .smbInput => Sys2Proof.Machine.execSmbInput s
  | .smbTemp => Sys2Proof.Machine.execSmbTemp s
  | .smbLogSeq => Sys2Proof.Machine.execSmbLogSeq s
  | .smbAlertStatusWrite value => Sys2Proof.Machine.execSmbAlertStatusWrite value s
  | .smbAlertResponse => Sys2Proof.Machine.execSmbAlertResponse s
  | .perstAssert linkLost => Sys2Proof.Machine.execPerstAssert linkLost s
  | .perstDeassert => Sys2Proof.Machine.execPerstDeassert s
  | .flrPhysicalFunction => Sys2Proof.Machine.execFlrPhysicalFunction s
  | .flrVirtualFunction vf => Sys2Proof.Machine.execFlrVirtualFunction vf s
  | .powerOn straps => Sys2Proof.Machine.execPowerOn straps s
  | .romStageEnd v => Sys2Proof.Machine.execRomStageEnd v s
  | .firmwareStageEnd lockstepOk => Sys2Proof.Machine.execFirmwareStageEnd lockstepOk s
  | .railsStageEnd invalid => Sys2Proof.Machine.execRailsStageEnd invalid s
  | .memoryStageEnd v => Sys2Proof.Machine.execMemoryStageEnd v s
  | .coresStageEnd failures => Sys2Proof.Machine.execCoresStageEnd failures s
  | .portsStageEnd => Sys2Proof.Machine.execPortsStageEnd s
  | .moduleReset => Sys2Proof.Machine.execModuleReset s
  | .moduleResetRelease => Sys2Proof.Machine.execModuleResetRelease s
  | .gafferReset cause => Sys2Proof.Machine.execGafferReset cause s
  | .gafferResetComplete => Sys2Proof.Machine.execGafferResetComplete s
  | .inputRemoved => Sys2Proof.Machine.execInputRemoved s
  | .linkUp port macs lanes => Sys2Proof.Machine.execLinkUp port macs lanes s
  | .reservedOpcode core ring => Sys2Proof.Machine.execReservedOpcode core ring s
  | .reservedPacket mac h => Sys2Proof.Machine.execReservedPacket mac h s
  | .reservedCommand rq family code => Sys2Proof.Machine.execReservedCommand rq family code s
  | .prefetchRetry ctx d => Sys2Proof.Machine.execPrefetchRetry ctx d s
  | .moduleDmaComplete handle d => Sys2Proof.Machine.execModuleDmaComplete handle d s
  | .windowZeroFillComplete window => Sys2Proof.Machine.execWindowZeroFillComplete window s

end Sys2Proof.Machine
end

