-- ==== Sys2Proof/Safety.lean ====
section
/-! DEFINITION. What counts as a safe run: from a state, any number of steps, none of which stops the module; what it means that only some
fields of the state change (the frame of a command); the invariant that every step keeps; and what it takes for a command to reach its own
effect. -/

namespace Sys2Proof

/-- k steps from a state reach a state: no fault and no refusal on the way. -/
def runsTo (k : Nat) (s t : Machine.State) : Prop := Host.Core.run Sys2Proof.core k s = .next t

/-- Every run of the queued commands goes on: k steps from the state never stop. -/
def safeFor (k : Nat) (s : Machine.State) : Prop := ∃ t, runsTo k s t

namespace Machine

/-- The fields of the state, by name. -/
inductive Fld where
  | pending
  | out
  | fresh
  | clk
  | mem
  | deviceId
  | cores
  | ctxs
  | migs
  | asks
  | stalled
  | migRr
  | verifyLast
  | lend
  | banks
  | rowCopies
  | rowMap
  | withdrawn
  | retiredFrames
  | freed
  | tcache
  | laneSpares
  | bankSpares
  | culls
  | arrayErrs
  | flows
  | trk
  | trkNext
  | ctrl
  | ctrlSeen
  | ctrlNext
  | fcache
  | atoms
  | probes
  | probeLast
  | links
  | macs
  | ports
  | lanes
  | recal
  | recalPeriodS
  | fwd
  | peersIp
  | fwdDropNs
  | hopLimit
  | ecnDraws
  | mailboxes
  | pwFails
  | lockedUntil
  | handles
  | log
  | logNext
  | logOverflow
  | counters
  | nand
  | journal
  | power
  | life
  | start
  | pcie
  | pins
  deriving DecidableEq, Repr

/-- Every field. -/
def Fld.all : List Fld :=
  [.pending, .out, .fresh, .clk, .mem, .deviceId, .cores, .ctxs, .migs, .asks, .stalled, .migRr, .verifyLast, .lend, .banks, .rowCopies, .rowMap, .withdrawn,
    .retiredFrames, .freed, .tcache, .laneSpares, .bankSpares, .culls, .arrayErrs, .flows, .trk, .trkNext, .ctrl, .ctrlSeen, .ctrlNext, .fcache, .atoms, .probes, .probeLast, .links] ++
  [.macs, .ports, .lanes, .recal, .recalPeriodS, .fwd, .peersIp, .fwdDropNs, .hopLimit, .ecnDraws, .mailboxes, .pwFails, .lockedUntil, .handles, .log, .logNext, .logOverflow, .counters, .nand, .journal, .power, .life, .start, .pcie, .pins]

/-- A field is the same in two states. -/
def Fld.same : Fld → State → State → Prop
  | .pending, s, t => t.pending = s.pending
  | .out, s, t => t.out = s.out
  | .fresh, s, t => t.fresh = s.fresh
  | .clk, s, t => t.clk = s.clk
  | .mem, s, t => t.mem = s.mem
  | .deviceId, s, t => t.deviceId = s.deviceId
  | .cores, s, t => t.cores = s.cores
  | .ctxs, s, t => t.ctxs = s.ctxs
  | .migs, s, t => t.migs = s.migs
  | .asks, s, t => t.asks = s.asks
  | .stalled, s, t => t.stalled = s.stalled
  | .migRr, s, t => t.migRr = s.migRr
  | .verifyLast, s, t => t.verifyLast = s.verifyLast
  | .lend, s, t => t.lend = s.lend
  | .banks, s, t => t.banks = s.banks
  | .rowCopies, s, t => t.rowCopies = s.rowCopies
  | .rowMap, s, t => t.rowMap = s.rowMap
  | .withdrawn, s, t => t.withdrawn = s.withdrawn
  | .retiredFrames, s, t => t.retiredFrames = s.retiredFrames
  | .freed, s, t => t.freed = s.freed
  | .tcache, s, t => t.tcache = s.tcache
  | .laneSpares, s, t => t.laneSpares = s.laneSpares
  | .bankSpares, s, t => t.bankSpares = s.bankSpares
  | .culls, s, t => t.culls = s.culls
  | .arrayErrs, s, t => t.arrayErrs = s.arrayErrs
  | .flows, s, t => t.flows = s.flows
  | .trk, s, t => t.trk = s.trk
  | .trkNext, s, t => t.trkNext = s.trkNext
  | .ctrl, s, t => t.ctrl = s.ctrl
  | .ctrlSeen, s, t => t.ctrlSeen = s.ctrlSeen
  | .ctrlNext, s, t => t.ctrlNext = s.ctrlNext
  | .fcache, s, t => t.fcache = s.fcache
  | .atoms, s, t => t.atoms = s.atoms
  | .probes, s, t => t.probes = s.probes
  | .probeLast, s, t => t.probeLast = s.probeLast
  | .links, s, t => t.links = s.links
  | .macs, s, t => t.macs = s.macs
  | .ports, s, t => t.ports = s.ports
  | .lanes, s, t => t.lanes = s.lanes
  | .recal, s, t => t.recal = s.recal
  | .recalPeriodS, s, t => t.recalPeriodS = s.recalPeriodS
  | .fwd, s, t => t.fwd = s.fwd
  | .peersIp, s, t => t.peersIp = s.peersIp
  | .fwdDropNs, s, t => t.fwdDropNs = s.fwdDropNs
  | .hopLimit, s, t => t.hopLimit = s.hopLimit
  | .ecnDraws, s, t => t.ecnDraws = s.ecnDraws
  | .mailboxes, s, t => t.mailboxes = s.mailboxes
  | .pwFails, s, t => t.pwFails = s.pwFails
  | .lockedUntil, s, t => t.lockedUntil = s.lockedUntil
  | .handles, s, t => t.handles = s.handles
  | .log, s, t => t.log = s.log
  | .logNext, s, t => t.logNext = s.logNext
  | .logOverflow, s, t => t.logOverflow = s.logOverflow
  | .counters, s, t => t.counters = s.counters
  | .nand, s, t => t.nand = s.nand
  | .journal, s, t => t.journal = s.journal
  | .power, s, t => t.power = s.power
  | .life, s, t => t.life = s.life
  | .start, s, t => t.start = s.start
  | .pcie, s, t => t.pcie = s.pcie
  | .pins, s, t => t.pins = s.pins

/-- From s to t only the fields listed may change. -/
def Only (l : List Fld) (s t : State) : Prop := ∀ f, f ∉ l → f.same s t

/-- The bounds of the two fractions that the power and thermal controls set (R506: n_sh from 4 to 64; R517: n_t from 8 to 64). -/
def PowerOk (p : Power) : Prop := 4 ≤ p.nSh ∧ p.nSh ≤ 64 ∧ 8 ≤ p.nT ∧ p.nT ≤ 64

/-- The invariant of the model: memory in its canonical form, and the power fractions in their ranges. -/
structure Inv (s : State) : Prop where
  mem : Memory.wf s.mem = true
  power : PowerOk s.power

/-- What a reset keeps of the fields of the state (R564): the queue and the model's own fields, and what flash holds. -/
def Fld.keptByReset : List Fld := [.pending, .out, .fresh, .deviceId, .culls, .rowMap, .ctrlNext, .withdrawn, .laneSpares, .bankSpares]

/-- The fields of the state that a command can change. -/
def touches : Instr → List Fld
  | .registerWrite _ _ =>
    [.out, .fresh, .mailboxes, .pcie, .pins]
  | .bar2Read _ _ _ | .smbPart | .smbSerial | .smbBootStatus | .smbInput | .smbTemp | .smbLogSeq | .smbAlertResponse =>
    [.out]
  | .bar2Write _ _ _ =>
    [.out, .mem, .ctxs, .migs, .stalled, .rowCopies]
  | .nop _ _ | .endDesc _ _ | .jump _ _ | .cursor _ _ | .barrier _ _ | .eventWaitAtLeast _ _ | .eventWaitEqual _ _ | .arrayMul _ _
  | .descriptorRetire _ _ | .reservedOpcode _ _ =>
    [.cores, .ctxs]
  | .barrierRelease _ _ | .eventWaitTimeout _ _ =>
    [.clk, .cores, .ctxs]
  | .parisonLoadStart _ | .arrayRowEntry _ | .emptyIssueSlot _ _ | .lehrStep _ | .rampUpStep _ | .preRampStart _ | .ceilingStepDown _ =>
    [.clk, .cores, .ctxs, .counters]
  | .parisonLoadDone _ _ _ | .paritySweep _ _ =>
    [.out, .clk, .cores, .ctxs, .culls, .arrayErrs, .mailboxes, .log, .logNext, .logOverflow]
  | .weightSetSwitch _ =>
    [.out, .clk, .cores, .ctxs, .mailboxes, .log, .logNext, .logOverflow, .counters]
  | .lehrRampDownStart _ =>
    [.cores, .ctxs, .counters]
  | .ladderPush _ _ =>
    [.out, .clk, .cores, .ctxs, .culls, .arrayErrs, .mailboxes, .log, .logNext, .logOverflow, .counters]
  | .drainStart _ =>
    [.out, .fresh, .clk, .cores, .ctxs, .culls, .arrayErrs, .mailboxes, .log, .logNext, .logOverflow, .counters]
  | .drainComplete _ | .opComplete _ _ =>
    [.clk, .mem, .cores, .ctxs, .migs, .stalled, .rowCopies]
  | .convertComputedScales _ _ | .convertSuppliedScales _ _ | .convertSplitTwo _ _ | .convertSplitThree _ _ | .vectorAdd _ _ | .vectorSubtract _ _
  | .vectorMultiply _ _ | .vectorFma _ _ | .vectorFmaP0 _ _ | .vectorMaximum _ _ | .vectorMinimum _ _ | .vectorExp _ _ | .vectorLog _ _
  | .vectorRcp _ _ | .vectorRsqrt _ _ | .vectorSqrt _ _ | .vectorSigmoid _ _ | .vectorGelu _ _ | .vectorSilu _ _ | .vectorSoftmax _ _
  | .vectorLayerNorm _ _ | .vectorRmsNorm _ _ | .vectorRowSum _ _ | .vectorRowMaximum _ _ | .vectorUniformRandom _ _ | .vectorDropout _ _
  | .tileMoveLoad _ _ | .tileMoveStore _ _ | .tileMoveCopy _ _ =>
    [.fresh, .cores, .ctxs]
  | .optUpdateAdam _ _ | .optUpdateMomentum _ _ | .updateChannelIssue _ =>
    [.fresh, .mem, .cores, .ctxs, .migs, .stalled, .rowCopies]
  | .fabricPut _ _ | .fabricGet _ _ | .fabricTilePut _ _ | .fabricTileGet _ _ | .fabricAtomicAdd _ _ | .fabricAtomicMin _ _ | .fabricAtomicMax _ _
  | .fabricCompareSwap _ _ | .fabricA48Add _ _ =>
    [.out, .mem, .cores, .ctxs, .migs, .stalled, .rowCopies, .tcache, .flows, .trk, .trkNext, .fcache, .macs, .ecnDraws, .mailboxes, .log, .logNext,
      .logOverflow, .counters]
  | .collStep _ _ =>
    [.out, .mem, .cores, .ctxs, .migs, .stalled, .rowCopies, .flows, .trk, .trkNext, .fcache, .macs, .ecnDraws, .mailboxes, .log, .logNext,
      .logOverflow, .counters]
  | .completionRingService _ _ =>
    [.out, .cores, .ctxs, .mailboxes, .log, .logNext, .logOverflow]
  | .contextFence _ _ =>
    [.out, .fresh, .mem, .cores, .ctxs, .migs, .asks, .stalled, .banks, .rowCopies, .freed, .flows, .mailboxes, .handles, .log, .logNext,
      .logOverflow, .counters, .nand]
  | .residencyPass _ _ =>
    [.out, .clk, .ctxs, .migs, .asks, .mailboxes, .handles, .log, .logNext, .logOverflow]
  | .migrationSlotGrant _ =>
    [.out, .ctxs, .migs, .asks, .migRr, .mailboxes, .handles, .log, .logNext, .logOverflow]
  | .migrationCopyDone _ _ =>
    [.mem, .cores, .ctxs, .rowCopies]
  | .migrationCommit _ _ =>
    [.out, .clk, .mem, .cores, .ctxs, .migs, .asks, .stalled, .rowCopies, .freed, .tcache, .flows, .trk, .trkNext, .ctrl, .ctrlNext, .fcache, .atoms,
      .macs, .ecnDraws, .mailboxes, .handles, .log, .logNext, .logOverflow, .counters]
  | .migrationAbort _ _ _ =>
    [.out, .fresh, .ctxs, .migs, .banks, .rowCopies, .retiredFrames, .mailboxes, .log, .logNext, .logOverflow]
  | .migrationAbortDone _ _ =>
    [.out, .clk, .mem, .cores, .ctxs, .migs, .asks, .stalled, .rowCopies, .freed, .tcache, .flows, .trk, .trkNext, .fcache, .atoms, .macs, .ecnDraws,
      .mailboxes, .handles, .log, .logNext, .logOverflow, .counters]
  | .scrubLine _ _ _ _ =>
    [.out, .fresh, .mem, .cores, .ctxs, .migs, .asks, .stalled, .banks, .rowCopies, .freed, .tcache, .culls, .arrayErrs, .flows, .trk, .ctrl,
      .ctrlNext, .fcache, .atoms, .probes, .macs, .ecnDraws, .mailboxes] ++ [.handles, .log, .logNext, .logOverflow, .counters, .nand, .life, .start,
      .pcie, .pins]
  | .rowSpareSwitch _ _ =>
    [.out, .fresh, .mem, .ctxs, .banks, .rowCopies, .rowMap, .culls, .mailboxes, .log, .logNext, .logOverflow]
  | .laneSpare _ _ _ =>
    [.out, .fresh, .ctxs, .banks, .laneSpares, .culls, .mailboxes, .log, .logNext, .logOverflow]
  | .bankSpare _ _ _ =>
    [.out, .ctxs, .migs, .asks, .withdrawn, .bankSpares, .culls, .ctrl, .ctrlNext, .macs, .ecnDraws, .mailboxes, .handles, .log, .logNext,
      .logOverflow, .counters]
  | .sliceTemperatureChange _ _ _ =>
    [.power]
  | .reclaimDeadline _ =>
    [.out, .clk, .ctxs, .lend, .mailboxes, .log, .logNext, .logOverflow]
  | .writeReq _ _ | .tileWrite _ _ | .tileRead _ _ | .atomicAdd _ _ | .atomicMin _ _ | .atomicMax _ _ | .compareSwap _ _ | .a48Add _ _
  | .collective _ _ | .writeDone _ _ | .readData _ _ | .atomicDone _ _ | .collectiveDone _ _ =>
    [.out, .fresh, .clk, .mem, .cores, .ctxs, .migs, .stalled, .rowCopies, .tcache, .flows, .trk, .trkNext, .fcache, .atoms, .macs, .ecnDraws,
      .mailboxes, .log, .logNext, .logOverflow, .counters]
  | .readReq _ _ _ =>
    [.out, .fresh, .clk, .mem, .cores, .ctxs, .migs, .stalled, .banks, .rowCopies, .tcache, .flows, .trk, .trkNext, .fcache, .atoms, .macs,
      .ecnDraws, .mailboxes, .log, .logNext, .logOverflow, .counters]
  | .collShardReady _ _ _ =>
    [.mem, .cores, .ctxs, .migs, .stalled, .rowCopies, .flows, .trk, .trkNext, .fcache, .macs, .ecnDraws, .counters]
  | .ackPkt _ _ =>
    [.out, .fresh, .ctxs, .flows, .ctrl, .ctrlNext, .fcache, .macs, .ecnDraws, .counters]
  | .ackTimer _ | .pauseExpiry _ _ =>
    [.clk, .flows, .macs, .ecnDraws, .counters]
  | .retransmitTimeout _ _ | .windowOpen _ _ =>
    [.clk, .ctxs, .flows, .macs, .ecnDraws, .counters]
  | .ccInterval _ =>
    [.clk, .flows]
  | .flowProgressTimeout _ =>
    [.out, .clk, .cores, .ctxs, .flows, .trk, .trkNext, .fcache, .macs, .ecnDraws, .mailboxes, .log, .logNext, .logOverflow, .counters]
  | .openFlow _ _ =>
    [.out, .fresh, .ctxs, .flows, .ctrl, .ctrlSeen, .ctrlNext, .macs, .ecnDraws, .counters]
  | .openAccept _ _ =>
    [.out, .fresh, .flows, .ctrlSeen, .macs, .ecnDraws, .counters]
  | .openRefuse _ _ | .closeFlow _ _ | .closeDone _ _ =>
    [.out, .fresh, .ctxs, .flows, .ctrl, .ctrlSeen, .ctrlNext, .fcache, .macs, .ecnDraws, .counters]
  | .resyncQuery _ _ | .probe _ _ =>
    [.out, .fresh, .ctrl, .ctrlSeen, .ctrlNext, .macs, .ecnDraws, .counters]
  | .resyncState _ _ =>
    [.out, .fresh, .cores, .ctxs, .flows, .trk, .trkNext, .ctrlSeen, .fcache, .macs, .ecnDraws, .mailboxes, .log, .logNext, .logOverflow, .counters]
  | .reclaimNotice _ _ =>
    [.out, .fresh, .ctxs, .migs, .asks, .ctrl, .ctrlSeen, .ctrlNext, .macs, .ecnDraws, .mailboxes, .handles, .log, .logNext, .logOverflow, .counters]
  | .windowRelease _ _ =>
    [.out, .fresh, .lend, .ctrlSeen, .macs, .ecnDraws, .handles, .counters]
  | .windowLost _ _ =>
    [.out, .fresh, .ctxs, .ctrlSeen, .macs, .ecnDraws, .mailboxes, .log, .logNext, .logOverflow, .counters]
  | .probeReply _ _ =>
    [.out, .fresh, .ctrlSeen, .probes, .probeLast, .links, .macs, .ecnDraws, .counters]
  | .ctrlAck _ _ =>
    [.out, .fresh, .ctxs, .flows, .ctrl, .macs, .ecnDraws, .counters]
  | .ctrlRetransmitTimeout _ _ =>
    [.out, .fresh, .clk, .cores, .ctxs, .flows, .trk, .trkNext, .ctrl, .ctrlNext, .fcache, .macs, .ecnDraws, .mailboxes, .log, .logNext,
      .logOverflow, .counters]
  | .frameForward _ _ _ =>
    [.out, .clk, .ctxs, .flows, .macs, .fwdDropNs, .ecnDraws, .mailboxes, .log, .logNext, .logOverflow, .counters]
  | .arpRequest _ _ _ _ | .neighbourSolicitation _ _ _ _ =>
    [.macs, .ecnDraws, .counters]
  | .unhandledFrame _ _ | .reservedPacket _ _ =>
    [.counters]
  | .pauseFrame _ _ | .pfcFrame _ _ _ =>
    [.flows, .macs, .ecnDraws, .counters]
  | .pfcRepeat _ _ =>
    [.out, .clk, .macs, .counters]
  | .pfcXonSend _ _ =>
    [.out, .fresh, .macs, .counters]
  | .macFrameStart _ =>
    [.out, .clk, .ctxs, .flows, .macs, .ecnDraws, .counters]
  | .windowClose _ _ =>
    [.out, .clk, .ctxs, .macs, .mailboxes, .log, .logNext, .logOverflow, .counters]
  | .lldpTransmit _ | .ptpSyncTimer _ =>
    [.clk, .macs, .ecnDraws, .counters]
  | .lldpdu _ _ =>
    [.out, .ctxs, .macs, .mailboxes, .log, .logNext, .logOverflow, .counters]
  | .lpiEntry _ | .lpiWakeForWindow _ _ _ =>
    [.clk, .macs, .counters]
  | .ptpMessage _ _ =>
    [.out, .clk, .ctxs, .macs, .ecnDraws, .mailboxes, .log, .logNext, .logOverflow, .counters]
  | .ptpHoldoverEntry _ | .ppsInEdge _ | .verifyPass _ | .ptpConfig _ | .pps _ | .asymmetry _ =>
    [.out, .clk, .ctxs, .mailboxes, .log, .logNext, .logOverflow]
  | .ppsInLost | .ppsOutSecond =>
    [.clk]
  | .laneRecalStart _ _ =>
    [.clk, .lanes, .recal]
  | .laneRecalApply _ =>
    [.lanes, .recal, .counters]
  | .fecMonitorWindow _ _ =>
    [.out, .ctxs, .culls, .flows, .macs, .ports, .fwd, .ecnDraws, .mailboxes, .handles, .log, .logNext, .logOverflow, .counters]
  | .laneLockLoss _ =>
    [.out, .ctxs, .culls, .flows, .macs, .ports, .lanes, .fwd, .ecnDraws, .mailboxes, .handles, .log, .logNext, .logOverflow, .counters]
  | .linkUpAfterRetirement _ =>
    [.out, .ctxs, .culls, .flows, .macs, .ports, .lanes, .ecnDraws, .mailboxes, .handles, .log, .logNext, .logOverflow, .counters]
  | .retrainingTimeout _ =>
    [.out, .clk, .ctxs, .flows, .macs, .ports, .fwd, .ecnDraws, .mailboxes, .handles, .log, .logNext, .logOverflow, .counters]
  | .parityInstance _ _ =>
    [.ctxs, .flows, .trk, .trkNext, .fcache, .macs, .ecnDraws, .counters]
  | .permuteInstance _ =>
    [.mem, .ctxs, .rowCopies, .flows, .trk, .trkNext, .fcache, .macs, .ecnDraws, .counters]
  | .reshardRequest _ _ =>
    [.fresh, .ctxs, .flows, .ctrl, .ctrlNext, .macs, .ecnDraws, .counters]
  | .reshardBoundary _ | .reshardPermuteDone _ | .reshardCommitBroadcast _ _ | .planPlacement _ _ | .recoveryTrigger _ _ =>
    [.ctxs]
  | .reshardDrainDone _ =>
    [.fresh, .mem, .ctxs, .rowCopies, .flows, .trk, .trkNext, .ctrl, .ctrlNext, .fcache, .macs, .ecnDraws, .counters]
  | .reshardCommit _ _ =>
    [.fresh, .clk, .mem, .cores, .ctxs, .rowCopies, .freed, .tcache, .flows, .ctrl, .ctrlNext, .fcache, .macs, .ecnDraws, .counters]
  | .planAccept _ _ =>
    [.fresh, .ctxs, .flows, .ctrl, .ctrlNext, .macs, .ecnDraws, .handles, .counters]
  | .jobStartDecision _ _ | .jobCursor _ =>
    [.out, .fresh, .mem, .cores, .ctxs, .migs, .asks, .stalled, .rowCopies, .flows, .ctrl, .ctrlNext, .fcache, .macs, .ecnDraws, .mailboxes,
      .handles, .log, .logNext, .logOverflow, .counters]
  | .startWaitTimeout _ =>
    [.out, .fresh, .clk, .ctxs, .flows, .ctrl, .ctrlNext, .fcache, .macs, .ecnDraws, .mailboxes, .handles, .log, .logNext, .logOverflow, .counters]
  | .jobStepStart _ =>
    [.out, .fresh, .clk, .mem, .cores, .ctxs, .migs, .asks, .stalled, .rowCopies, .freed, .tcache, .flows, .ctrl, .ctrlNext, .fcache, .macs,
      .ecnDraws, .mailboxes, .handles, .log, .logNext, .logOverflow, .counters, .nand]
  | .prefetch _ _ | .prefetchRetry _ _ =>
    [.out, .clk, .mem, .ctxs, .migs, .stalled, .rowCopies]
  | .boundary _ =>
    [.out, .fresh, .clk, .ctxs, .mailboxes, .log, .logNext, .logOverflow]
  | .validationLossCompare _ _ _ | .replayCompare _ _ | .switchAgree _ _ | .jobDecideResume _ | .dramBankRetrain _ | .flrVirtualFunction _ =>
    [.out, .ctxs, .mailboxes, .handles, .log, .logNext, .logOverflow]
  | .securingPartDone _ _ =>
    [.ctxs, .nand, .journal]
  | .securingCommit _ =>
    [.out, .mem, .ctxs, .freed, .mailboxes, .log, .logNext, .logOverflow, .nand]
  | .generationCommit _ _ _ _ =>
    [.mem, .ctxs, .freed, .nand]
  | .lossCapture _ _ =>
    [.ctxs, .nand]
  | .recoveryHalt _ | .switchDeferral _ =>
    [.out, .fresh, .mem, .cores, .ctxs, .migs, .asks, .stalled, .rowCopies, .freed, .flows, .mailboxes, .handles, .log, .logNext, .logOverflow,
      .nand]
  | .haltingEnd _ _ | .sessionClose _ | .contextQuery _ | .setGrants _ | .jobFeed _ | .jobStatus _ | .jobAddModule _ | .jobReport _ | .weightQuery _
  | .weightVerifyPeriod _ | .tierCapacity _ | .tierReadEntries _ | .grantT3 _ | .portStatus _ | .ccParams _ | .neighbours _ | .snapshotsList _
  | .secureNow _ | .readRecord _ | .setEpoch _ | .countersPermission _ | .samplingOff _ | .samplingOn _ | .samplingArmReplay _ | .samplingDisarm _
  | .logStatus _ | .fwIdentity _ | .attest _ | .lifecycleReadRecord _ | .culletRead _ | .powerRead _ | .handleQuery _ | .reservedCommand _ _ _ =>
    [.out, .ctxs, .mailboxes, .log, .logNext, .logOverflow]
  | .refillComplete _ _ =>
    [.out, .mem, .cores, .ctxs, .rowCopies, .freed, .tcache, .mailboxes, .handles, .log, .logNext, .logOverflow]
  | .checkingComplete _ _ =>
    [.ctxs, .handles]
  | .pfwAssert =>
    [.out, .fresh, .clk, .mem, .cores, .ctxs, .migs, .asks, .stalled, .rowCopies, .freed, .flows, .mailboxes, .handles, .log, .logNext, .logOverflow,
      .nand, .power, .pins]
  | .pfwJournalCommit =>
    [.clk, .nand, .journal, .pins]
  | .pfwRelease =>
    [.out, .clk, .ctxs, .mailboxes, .log, .logNext, .logOverflow, .pins]
  | .pfwRejoin | .romStageEnd _ =>
    [.out, .clk, .ctxs, .mailboxes, .log, .logNext, .logOverflow, .power, .start, .pins]
  | .shardArrival _ _ _ =>
    [.out, .mem, .ctxs, .rowCopies, .mailboxes, .handles, .log, .logNext, .logOverflow, .pcie]
  | .shardReadback _ _ _ =>
    [.out, .ctxs, .banks, .rowCopies, .retiredFrames, .mailboxes, .handles, .log, .logNext, .logOverflow, .pcie]
  | .shardVerify _ _ _ =>
    [.out, .fresh, .mem, .cores, .ctxs, .migs, .asks, .stalled, .verifyLast, .rowCopies, .freed, .flows, .mailboxes, .handles, .log, .logNext,
      .logOverflow, .nand, .pcie]
  | .puntySwitch _ =>
    [.out, .mem, .cores, .ctxs, .freed, .tcache, .mailboxes, .handles, .log, .logNext, .logOverflow]
  | .openSm2 _ | .openPassword _ | .timeStatus _ | .lifecycleChallenge _ | .debugChallenge _ =>
    [.out, .fresh, .ctxs, .mailboxes, .log, .logNext, .logOverflow]
  | .confirm _ =>
    [.out, .ctxs, .mailboxes, .pwFails, .lockedUntil, .log, .logNext, .logOverflow]
  | .passwordLockoutEnd =>
    [.clk, .lockedUntil]
  | .contextCreate _ | .jobLoad _ | .jobRecover _ | .jobValidate _ | .weightSwitch _ | .peerTable _ | .fwdTable _ | .logRead _ | .fwStage _
  | .fwActivate _ | .coreTables _ | .coreReplace _ | .dramRecal _ | .flrPhysicalFunction =>
    [.out, .ctxs, .mailboxes, .handles, .log, .logNext, .logOverflow, .pcie]
  | .contextTeardown _ =>
    [.out, .fresh, .mem, .cores, .ctxs, .migs, .asks, .stalled, .rowCopies, .freed, .flows, .ctrl, .ctrlNext, .fcache, .macs, .ecnDraws, .mailboxes,
      .handles, .log, .logNext, .logOverflow, .counters, .nand, .pcie]
  | .teardownFlowRelease _ =>
    [.clk, .flows, .trk, .ctrl]
  | .teardownScrubComplete _ _ =>
    [.out, .fresh, .mem, .cores, .ctxs, .migs, .asks, .stalled, .lend, .banks, .rowCopies, .retiredFrames, .freed, .tcache, .flows, .trk, .ctrl,
      .ctrlNext, .fcache, .macs, .ecnDraws, .mailboxes, .handles, .log, .logNext, .logOverflow, .counters, .nand, .life]
  | .jobStart _ _ =>
    [.out, .fresh, .ctxs, .flows, .ctrl, .ctrlNext, .probes, .macs, .ecnDraws, .mailboxes, .handles, .log, .logNext, .logOverflow, .counters, .pcie]
  | .jobDecideStop _ =>
    [.out, .fresh, .mem, .cores, .ctxs, .migs, .asks, .stalled, .rowCopies, .freed, .tcache, .flows, .ctrl, .ctrlNext, .fcache, .macs, .ecnDraws,
      .mailboxes, .handles, .log, .logNext, .logOverflow, .counters, .nand]
  | .jobStop _ =>
    [.out, .fresh, .mem, .cores, .ctxs, .migs, .asks, .stalled, .rowCopies, .freed, .tcache, .flows, .ctrl, .ctrlNext, .fcache, .macs, .ecnDraws,
      .mailboxes, .handles, .log, .logNext, .logOverflow, .counters, .nand, .pcie]
  | .weightLoad _ _ =>
    [.out, .mem, .cores, .ctxs, .freed, .tcache, .mailboxes, .handles, .log, .logNext, .logOverflow, .pcie]
  | .tierMigrate _ =>
    [.out, .ctxs, .migs, .asks, .mailboxes, .handles, .log, .logNext, .logOverflow, .pcie]
  | .tierWeightRegions _ =>
    [.out, .mem, .cores, .ctxs, .migs, .asks, .stalled, .freed, .tcache, .mailboxes, .log, .logNext, .logOverflow]
  | .lendOffer _ =>
    [.out, .ctxs, .lend, .mailboxes, .handles, .log, .logNext, .logOverflow, .pcie]
  | .lendReclaim _ =>
    [.out, .ctxs, .lend, .ctrl, .ctrlNext, .macs, .ecnDraws, .mailboxes, .handles, .log, .logNext, .logOverflow, .counters, .pcie]
  | .portSet _ =>
    [.out, .ctxs, .macs, .ports, .ecnDraws, .mailboxes, .log, .logNext, .logOverflow, .counters]
  | .portUpdown _ =>
    [.out, .ctxs, .flows, .macs, .ports, .fwd, .ecnDraws, .mailboxes, .log, .logNext, .logOverflow, .counters]
  | .recalPeriod _ =>
    [.out, .ctxs, .recalPeriodS, .mailboxes, .log, .logNext, .logOverflow]
  | .snapshotsErase _ =>
    [.out, .ctxs, .mailboxes, .handles, .log, .logNext, .logOverflow, .nand, .pcie]
  | .countersRead _ =>
    [.out, .cores, .ctxs, .mailboxes, .log, .logNext, .logOverflow, .counters]
  | .sampleRecordWrite _ _ =>
    [.out, .cores, .ctxs]
  | .fwSwitchStart =>
    [.handles, .life]
  | .activateTimeout =>
    [.out, .fresh, .clk, .mem, .cores, .ctxs, .migs, .asks, .stalled, .lend, .rowCopies, .freed, .flows, .ctrl, .ctrlNext, .fcache, .macs, .ecnDraws,
      .mailboxes, .handles, .log, .logNext, .logOverflow, .counters, .nand, .life]
  | .fwSwitchResume | .fwSwitchWatchdog =>
    [.out, .fresh, .mem, .cores, .ctxs, .migs, .asks, .stalled, .lend, .rowCopies, .freed, .flows, .ctrl, .ctrlNext, .fcache, .macs, .ecnDraws,
      .mailboxes, .handles, .log, .logNext, .logOverflow, .counters, .nand, .life]
  | .coreTablesTake _ =>
    [.out, .cores, .ctxs, .mailboxes, .handles, .log, .logNext, .logOverflow, .life]
  | .lifecycleInstallRecord _ _ =>
    [.out, .ctxs, .ports, .mailboxes, .log, .logNext, .logOverflow, .life, .start]
  | .lifecycleToFieldDebug _ | .lifecycleToField _ | .lifecycleToReturned _ | .lifecycleManufactureToField _ | .lifecycleToManufacture _
  | .debugNone _ | .debugObserve _ | .debugInvasive _ =>
    [.out, .fresh, .mem, .cores, .ctxs, .migs, .asks, .stalled, .lend, .rowCopies, .freed, .flows, .ctrl, .ctrlNext, .fcache, .macs, .ecnDraws,
      .mailboxes, .handles, .log, .logNext, .logOverflow, .counters, .nand, .life, .pcie]
  | .lifecycleTransitionDone =>
    [.out, .fresh, .mem, .cores, .ctxs, .migs, .asks, .stalled, .lend, .rowCopies, .freed, .tcache, .flows, .trk, .ctrl, .ctrlNext, .fcache, .atoms,
      .probes, .macs, .ecnDraws, .mailboxes, .handles, .log] ++ [.logNext, .logOverflow, .counters, .nand, .journal, .life, .start, .pcie, .pins]
  | .coreMigration _ =>
    [.out, .fresh, .mem, .cores, .ctxs, .migs, .asks, .stalled, .lend, .rowCopies, .freed, .culls, .flows, .ctrl, .ctrlNext, .fcache, .macs,
      .ecnDraws, .mailboxes, .handles, .log, .logNext, .logOverflow, .counters, .nand, .life]
  | .laneRetire _ =>
    [.out, .ctxs, .culls, .flows, .macs, .ports, .fwd, .ecnDraws, .mailboxes, .handles, .log, .logNext, .logOverflow, .counters, .pcie]
  | .laneAdmit _ =>
    [.out, .ctxs, .culls, .ports, .lanes, .mailboxes, .handles, .log, .logNext, .logOverflow, .pcie]
  | .powerStateActive _ =>
    [.out, .ctxs, .mailboxes, .log, .logNext, .logOverflow, .power, .pins]
  | .powerStateIdle _ =>
    [.out, .cores, .ctxs, .mailboxes, .log, .logNext, .logOverflow, .power]
  | .powerStateStandby _ =>
    [.out, .clk, .cores, .ctxs, .lend, .flows, .ctrl, .ctrlNext, .macs, .ports, .fwd, .ecnDraws, .mailboxes, .log, .logNext, .logOverflow, .counters,
      .power]
  | .powerCap _ =>
    [.out, .ctxs, .mailboxes, .log, .logNext, .logOverflow, .power]
  | .powerSample _ _ _ | .thermalTick _ =>
    [.out, .clk, .cores, .ctxs, .mailboxes, .log, .logNext, .logOverflow, .counters, .power, .pins]
  | .capControlTick =>
    [.out, .clk, .cores, .ctxs, .mailboxes, .log, .logNext, .logOverflow, .counters, .power]
  | .thermalTrip _ =>
    [.out, .fresh, .mem, .cores, .ctxs, .migs, .asks, .stalled, .rowCopies, .freed, .flows, .mailboxes, .handles, .log, .logNext, .logOverflow,
      .nand, .power, .pins]
  | .handleCancel _ =>
    [.out, .ctxs, .asks, .lend, .mailboxes, .handles, .log, .logNext, .logOverflow]
  | .handleExpiry _ =>
    [.clk, .handles]
  | .smbAlertStatusWrite _ =>
    [.out, .pins]
  | .perstAssert _ =>
    [.out, .ctxs, .mailboxes, .handles, .log, .logNext, .logOverflow, .pcie, .pins]
  | .perstDeassert =>
    [.pcie, .pins]
  | .powerOn _ | .moduleReset | .inputRemoved =>
    Fld.all.filter (fun f => !Fld.keptByReset.contains f)
  | .firmwareStageEnd _ =>
    [.out, .clk, .ctxs, .mailboxes, .log, .logNext, .logOverflow, .power, .life, .start, .pins]
  | .railsStageEnd _ =>
    [.out, .clk, .ctxs, .mailboxes, .log, .logNext, .logOverflow, .power, .life, .start, .pcie, .pins]
  | .memoryStageEnd _ =>
    [.out, .fresh, .clk, .mem, .ctxs, .withdrawn, .bankSpares, .culls, .mailboxes, .log, .logNext, .logOverflow, .nand, .power, .start, .pins]
  | .coresStageEnd _ =>
    [.out, .clk, .cores, .ctxs, .culls, .mailboxes, .log, .logNext, .logOverflow, .power, .start, .pins]
  | .portsStageEnd =>
    [.out, .clk, .ctxs, .ports, .mailboxes, .log, .logNext, .logOverflow, .power, .start, .pins]
  | .moduleResetRelease =>
    [.start]
  | .gafferReset _ =>
    [.mem, .cores, .ctxs, .migs, .asks, .stalled, .rowCopies, .freed, .tcache, .flows, .trk, .ctrl, .fcache, .atoms, .probes, .macs, .mailboxes,
      .handles, .life, .start, .pcie, .pins]
  | .gafferResetComplete =>
    [.out, .ctxs, .lend, .ctrl, .ctrlNext, .macs, .ecnDraws, .mailboxes, .handles, .log, .logNext, .logOverflow, .counters, .power, .life, .start,
      .pins]
  | .linkUp _ _ _ =>
    [.flows, .macs, .ports, .lanes, .ecnDraws, .counters]
  | .moduleDmaComplete _ _ =>
    [.out, .cores, .ctxs, .fwd, .peersIp, .mailboxes, .handles, .log, .logNext, .logOverflow, .life]
  | .windowZeroFillComplete _ =>
    [.out, .clk, .mem, .cores, .ctxs, .lend, .flows, .ctrl, .ctrlNext, .macs, .ports, .fwd, .ecnDraws, .mailboxes, .handles, .log, .logNext,
      .logOverflow, .counters, .power]

/-! ## When a command reaches its effect -/

/-- Ring r of core c issues the descriptor d next, of an opcode and subop: it can issue, it is the ring's turn, and it holds no reserved value
(R149, R150, R166 to R168). -/
def State.Issues (s : State) (c r op sb d : Nat) : Prop :=
  s.fetchDesc c r = d ∧ dOp d = op ∧ dSub d = sb ∧ s.canIssueDesc c r d = true ∧ s.turn c r = true ∧ descReserved s.deviceId d = false

/-- From s to t ring r of core c has taken the descriptor d: the next slot follows, and the last of its descriptors in flight is d, of which p
holds. -/
def Took (s t : State) (c r d : Nat) (p : OutDesc → Prop) : Prop :=
  (t.ring c r).out.length = (s.ring c r).out.length + 1 ∧
    ∃ e, (t.ring c r).out.getLast? = some e ∧ e.slot = (s.ring c r).next ∧ e.desc = d ∧ p e

/-- A request of a family and code is heard and passes every check that comes before its own (R443, R446, R449, R450, R493, R561): the page is
idle, its session is open, tag, epoch and MAC are right. -/
def State.Heard (s : State) (rq : Req) (family code : Nat) : Prop :=
  s.mailUp = true ∧ (s.mbox rq.mb).done = false ∧ (s.mbox rq.mb).busy = false ∧ (s.mbox rq.mb).session.isOpen = true
    ∧ rq.dbTag = rq.tag ∧ rq.epoch = (s.mbox rq.mb).epoch ∧ rq.tag = (s.mbox rq.mb).nextTag
    ∧ (if keyCmd family code = true then macZero rq = true else macOk rq family code (s.mbox rq.mb).session.kReq = true)
    ∧ rq.hdrResv = 0 ∧ s.early family code = false

/-- The same for a command that R449 takes on a page without an open session. -/
def State.HeardFree (s : State) (rq : Req) (family code : Nat) : Prop :=
  s.mailUp = true ∧ (s.mbox rq.mb).done = false ∧ (s.mbox rq.mb).busy = false ∧ (s.mbox rq.mb).session.isOpen = false
    ∧ rq.dbTag = rq.tag ∧ freeCmd family code = true ∧ macZero rq = true ∧ rq.hdrResv = 0 ∧ s.early family code = false

/-- Mailbox m has been answered: DONE is set, the STATUS is st, and the page holds a response with this body (R441). -/
def Answered (t : State) (m st : Nat) (body : List Byte) : Prop :=
  (t.mbox m).done = true ∧ (t.mbox m).busy = false ∧ (t.mbox m).lastStatus = st ∧ (t.mbox m).rsp.drop 64 = body

/-- The descriptor of a number in a ring has completed with a status. -/
def Ended (t : State) (c r id d st : Nat) : Prop := ∃ e ∈ (t.ring c r).out, e.id = id ∧ e.desc = d ∧ e.done = true ∧ e.status = st

/-- A sequenced packet arrives on its flow in order, and takes effect at once: it passes the checks of R242 and R249, its PSN is the one expected
and the next to take effect, nothing is held before it, and no tile it writes is in migration (R204, R256, R260, R314, R487). -/
structure State.Arrives (s : State) (op : Nat) (p : Pkt) : Prop where
  hcrc : p.hcrc = hcrcOf (hdrOf op p)
  hdr : hdrOk (hdrOf op p) = true
  ext : extOk op p.ext = true
  dst : p.dstDev = s.deviceId
  src : (s.flow p.dstFlow).accepts p.srcDev = true
  debug : opClass op = some 0 → s.life.debug ≠ 2
  psn : p.psn = (s.flow p.dstFlow).expected
  turn : p.psn = (s.flow p.dstFlow).exec
  got : (s.flow p.dstFlow).got = []
  held : (s.flow p.dstFlow).held = []
  msgs : (s.flow p.dstFlow).msgs = []
  early : s.tooEarly (s.flow p.dstFlow).ctx op p = false
  stall : s.stallTiles p.dstFlow { psn := p.psn, op := op, p := p } = []

/-- What a flow has sent and not yet had acknowledged: OP, extension header and payload of each packet, in PSN order. -/
def Flow.sends (f : Flow) : List (Nat × List Byte × List Byte) := f.tx.map (fun e => (e.op, e.p.ext, e.p.payload))

/-- No block of a collective and no parity share of a context waits for a tracker entry (R258). -/
def State.NoneDue (s : State) (x : Nat) : Prop := (∀ e ∈ (s.ctx x).insts, e.2.due = []) ∧ (s.ctx x).sec.stripes = []

/-- A control message arrives that has not been handled before, while the gaffer answers: it passes the checks of R242 and R275. -/
structure State.CtrlArrives (s : State) (op : Nat) (p : Pkt) : Prop where
  hcrc : p.hcrc = hcrcOf (hdrOf op p)
  hdr : hdrOk (hdrOf op p) = true
  ext : extOk op p.ext = true
  dst : p.dstDev = s.deviceId
  flow : p.dstFlow = 0
  up : s.start.gafferDown = false
  unseen : ∀ e ∈ s.ctrlSeen, e.1 = p.srcDev → e.2.1 = be p.ext 0 4 → e.2.2 + 10000000000 ≤ s.clk.tai.ns

/-- From s to t a control message to a peer has entered the list of those that wait for CTRL_ACK (R275). -/
def Sends (s t : State) (peer op : Nat) (body : List Byte) : Prop :=
  ∃ m ∈ t.ctrl, m.peer = peer ∧ m.msgId = s.ctrlNext ∧ m.op = op ∧ m.body = body

/-- A request is of a command that acts on context x: TARGET_CTX on the admin mailbox, its own context on a context mailbox (R440, R452). -/
def State.Acts (s : State) (rq : Req) (x : Nat) : Prop :=
  (rq.mb ≠ 0 ∧ rq.target = 0xFFFF ∧ x = rq.mb - 1) ∨ (rq.mb = 0 ∧ rq.target = x ∧ x ≠ 0xFFFF ∧ (s.ctx x).created = true)

/-- A request of both channels that acts on no context carries TARGET_CTX 0xFFFF on a context mailbox (R440). -/
def OnNone (rq : Req) : Prop := rq.mb = 0 ∨ rq.target = 0xFFFF

/-- The request has been answered OK with the handle of the next SERIAL of its mailbox for an operation, and the handle stands as h (R441, R457). -/
def Handed (s t : State) (rq : Req) (op : Nat) (body : List Byte) (h : Handle) : Prop :=
  Answered t rq.mb 0 body ∧ sub (t.mbox rq.mb).rsp 16 8 = leBytes 8 (s.nextHandle rq.mb op) ∧ t.handle (s.nextHandle rq.mb op) = some h


/-- From s to t the log has received the event record of a code, severity, context and arguments, as the next of s (R464, R465). -/
def Logged (s t : State) (code sev x : Nat) (args : List Nat) : Prop :=
  ∃ e ∈ t.log, e.seq = s.logNext ∧ e.type = 1 ∧ e.sev = sev ∧ e.ctx = x ∧ e.taiNs = s.clk.tai.ns ∧
    e.body = padTo 64 (leBytes 2 code ++ zeros 6 ++ (args.map (leBytes 8)).flatten)

/-! ## Frames of memory -/

/-- The physical bytes that a write of an operation of context x on core c stores to: their first address and their number (R162, R197, R199). -/
def State.effRange (s : State) (c x : Nat) : Eff → Nat × Nat
  | .ts a d => (tsPhys c a, d.length)
  | .tile t off d => (((s.ctx x).entry t).phys x t + off, d.length)
  | .loadTile _ a => (tsPhys c a, tileBytes)
  | .storeTile _ t => (((s.ctx x).entry t).phys x t, tileBytes)
  | .copyTile _ t => (((s.ctx x).entry t).phys x t, tileBytes)

/-- Every byte of memory outside the ranges listed reads the same in two states. -/
def OnlyBytes (l : List (Nat × Nat)) (s t : State) : Prop := ∀ a, (∀ p ∈ l, a < p.1 ∨ p.1 + p.2 ≤ a) → Memory.get t.mem a = Memory.get s.mem a

/-- The rows that are a mailbox command (R452): the row with its request and what a read of host memory gave it, FAMILY, CODE, the first byte of the body where it
chooses the row, and whether only the admin mailbox takes it. -/
def MailRow (rq : Req) (d : Dma) (i : Instr) (family code : Nat) (act : Option Nat) (admin : Bool) : Prop :=
  (i, family, code, act, admin) ∈
    ([(.openSm2 rq, 0x01, 0x01, none, false), (.confirm rq, 0x01, 0x02, none, false), (.openPassword rq, 0x01, 0x03, none, true),
      (.sessionClose rq, 0x01, 0x04, none, false), (.contextCreate rq, 0x02, 0x01, none, true), (.contextTeardown rq, 0x02, 0x02, none, true),
      (.contextQuery rq, 0x02, 0x03, none, false), (.setGrants rq, 0x02, 0x04, none, true), (.jobLoad rq, 0x03, 0x01, none, false),
      (.jobStart rq d, 0x03, 0x02, none, false), (.jobFeed rq, 0x03, 0x03, none, false), (.jobStatus rq, 0x03, 0x04, none, false),
      (.jobCursor rq, 0x03, 0x05, none, false), (.jobRecover rq, 0x03, 0x06, none, false), (.jobDecideStop rq, 0x03, 0x07, some 0, false),
      (.jobDecideResume rq, 0x03, 0x07, some 1, false), (.jobValidate rq, 0x03, 0x08, none, false), (.jobAddModule rq, 0x03, 0x09, none, false),
      (.jobReport rq, 0x03, 0x0A, none, false), (.jobStop rq, 0x03, 0x0B, none, false), (.weightLoad rq d, 0x04, 0x01, none, false),
      (.weightSwitch rq, 0x04, 0x02, none, false)] ++
    [(.weightQuery rq, 0x04, 0x03, none, false), (.weightVerifyPeriod rq, 0x04, 0x04, none, false), (.tierCapacity rq, 0x05, 0x01, none, false),
      (.tierReadEntries rq, 0x05, 0x02, none, false), (.tierMigrate rq, 0x05, 0x03, none, false), (.tierWeightRegions rq, 0x05, 0x04, none, true),
      (.lendOffer rq, 0x05, 0x05, none, true), (.lendReclaim rq, 0x05, 0x06, none, true), (.grantT3 rq, 0x05, 0x07, none, true),
      (.portSet rq, 0x06, 0x01, none, true), (.portUpdown rq, 0x06, 0x02, none, true), (.portStatus rq, 0x06, 0x03, none, false),
      (.peerTable rq, 0x06, 0x04, none, true), (.fwdTable rq, 0x06, 0x05, none, true), (.ccParams rq, 0x06, 0x06, none, false),
      (.neighbours rq, 0x06, 0x07, none, false), (.recalPeriod rq, 0x06, 0x08, none, true), (.snapshotsList rq, 0x07, 0x01, none, false),
      (.secureNow rq, 0x07, 0x02, none, false), (.readRecord rq, 0x07, 0x03, none, false), (.snapshotsErase rq, 0x07, 0x04, none, true),
      (.timeStatus rq, 0x08, 0x01, none, false)] ++
    [(.ptpConfig rq, 0x08, 0x02, none, true), (.pps rq, 0x08, 0x03, none, true), (.asymmetry rq, 0x08, 0x04, none, true),
      (.setEpoch rq, 0x08, 0x05, none, false), (.countersRead rq, 0x09, 0x01, none, false), (.countersPermission rq, 0x09, 0x02, none, true),
      (.samplingOff rq, 0x09, 0x03, some 0, false), (.samplingOn rq, 0x09, 0x03, some 1, false), (.samplingArmReplay rq, 0x09, 0x03, some 2, false),
      (.samplingDisarm rq, 0x09, 0x03, some 3, false), (.logStatus rq, 0x0A, 0x01, none, false), (.logRead rq, 0x0A, 0x02, none, false),
      (.fwIdentity rq, 0x0B, 0x01, none, false), (.fwStage rq, 0x0B, 0x02, none, true), (.fwActivate rq, 0x0B, 0x03, none, true),
      (.coreTables rq, 0x0B, 0x04, none, true), (.attest rq, 0x0B, 0x05, none, false), (.lifecycleInstallRecord rq d, 0x0B, 0x06, some 0x01, true),
      (.lifecycleReadRecord rq, 0x0B, 0x06, some 0x02, true), (.lifecycleChallenge rq, 0x0B, 0x06, some 0x03, true),
      (.lifecycleToFieldDebug rq, 0x0B, 0x06, some 0x10, true), (.lifecycleToField rq, 0x0B, 0x06, some 0x11, true)] ++
    [(.lifecycleToReturned rq, 0x0B, 0x06, some 0x12, true), (.lifecycleManufactureToField rq, 0x0B, 0x06, some 0x13, true),
      (.lifecycleToManufacture rq, 0x0B, 0x06, some 0x14, true), (.debugNone rq, 0x0B, 0x07, some 0x00, true),
      (.debugObserve rq, 0x0B, 0x07, some 0x01, true), (.debugInvasive rq, 0x0B, 0x07, some 0x02, true),
      (.debugChallenge rq, 0x0B, 0x07, some 0xFF, true), (.culletRead rq, 0x0C, 0x01, none, false), (.coreReplace rq, 0x0C, 0x02, none, true),
      (.laneRetire rq, 0x0C, 0x03, none, true), (.laneAdmit rq, 0x0C, 0x04, none, true), (.dramRecal rq, 0x0C, 0x05, none, true),
      (.powerStateActive rq, 0x0D, 0x01, some 0x00, true), (.powerStateIdle rq, 0x0D, 0x01, some 0x01, true),
      (.powerStateStandby rq, 0x0D, 0x01, some 2, true), (.powerCap rq, 0x0D, 0x02, none, true), (.powerRead rq, 0x0D, 0x03, none, false),
      (.handleQuery rq, 0x0E, 0x01, none, false), (.handleCancel rq, 0x0E, 0x02, none, false)] : List (Instr × Nat × Nat × Option Nat × Bool))

end Machine

end Sys2Proof
end

