-- ==== Sys2Proof/Certificates/Slice0/Obligations.lean ====
section
/-! DEFINITION. The statements for the provers. Each completion statement names, row by row of the opcode table, the state and operands on which the
row has the effect that the manual gives it, and what the next state then holds; the others state frames, invariants, the number formats, the
checks that every mailbox command passes, and what reset leaves. -/

open Sys2Proof Sys2Proof.Machine

/-- The control descriptors and what ends them (R149, R150, R165, R169 to R174). Each clause names the state and operands on which the row has its
effect: NOP, END and CURSOR complete at issue; JUMP does and goes on at its target slot, or completes with ADDRESS when the target is outside the
ring; BARRIER and EVENT_WAIT complete at issue when what they wait for has come, and stay in flight otherwise; reaching the target, in
its turn among the events of that fabric time (R371), and the timeout end them; the oldest descriptor retires; the gaffer frees the completion records; a reserved opcode or subop completes with RESERVED. -/
def Obligations.ControlRowsComplete : Prop :=
  (∀ c r d (s : State), s.Issues c r 0x01 0 d → ∃ t : State, exec (.nop c r) s = .next t ∧ Took s t c r d (fun e => e.done = true ∧ e.status = 0)
      ∧ (t.ring c r).running = true ∧ (t.ring c r).next = ((s.ring c r).next + 1) % (s.ring c r).size)
  ∧ (∀ c r d (s : State), s.Issues c r 0x02 0 d → ∃ t : State, exec (.endDesc c r) s = .next t ∧ Took s t c r d (fun e => e.done = true ∧ e.status = 0)
      ∧ (t.ring c r).running = false)
  ∧ (∀ c r d (s : State), s.Issues c r 0x03 0 d → ∃ t : State, exec (.jump c r) s = .next t ∧
      (if fld d 8 2 < (s.ring c r).size then
        Took s t c r d (fun e => e.done = true ∧ e.status = 0) ∧ (t.ring c r).next = fld d 8 2 ∧ (t.ring c r).running = true
      else Took s t c r d (fun e => e.done = true ∧ e.status = 0x11) ∧ (t.ring c r).running = false))
  ∧ (∀ c r d (s : State), s.Issues c r 0x04 0 d → ∃ t : State, exec (.cursor c r) s = .next t ∧ Took s t c r d (fun e => e.done = true ∧ e.status = 0)
      ∧ (t.ring c r).micro = fld d 8 2 ∧ (t.ring c r).stage = fld d 10 1 ∧ (t.ring c r).running = true)
  ∧ (∀ c r d (s : State), s.Issues c r 0x08 0 d → ∃ t : State, exec (.barrier c r) s = .next t ∧
      (if s.fabricUnits (s.ring c r).ctx < s.barrierTarget (s.ring c r).ctx d then
        Took s t c r d (fun e => e.done = false ∧ e.deadline = some (s.barrierTarget (s.ring c r).ctx d))
      else Took s t c r d (fun e => e.done = true ∧ e.status = 0)))
  ∧ (∀ c r e u (s : State), (s.ring c r).out.find? (fun d => !d.done && dOp d.desc = 0x08) = some e → e.deadline = some u →
      s.evTurn (s.ring c r).ctx 3 0 ((s.ctx (s.ring c r).ctx).job.epoch + ceilDiv u 65536) = true →
      ∃ t : State, exec (.barrierRelease c r) s = .next t ∧ t.clk = (s.toDeadline (s.ring c r).ctx u).clk ∧
        (∃ e' ∈ (t.ring c r).out, e'.id = e.id ∧ e'.desc = e.desc ∧ e'.done = true ∧ e'.status = 0) ∧ (t.ring c r).running = (s.ring c r).running)
  ∧ (∀ c r d (s : State), s.Issues c r 0x09 0 d → ∃ t : State, exec (.eventWaitAtLeast c r) s = .next t ∧
      (if serialGe (((s.ctx (s.ring c r).ctx).events).getOr (fld d 8 1) 0) (fld d 12 4) = true then
        Took s t c r d (fun e => e.done = true ∧ e.status = 0)
      else Took s t c r d (fun e => e.done = false ∧ e.deadline = s.waitDeadline (s.ring c r).ctx d)))
  ∧ (∀ c r d (s : State), s.Issues c r 0x09 1 d → ∃ t : State, exec (.eventWaitEqual c r) s = .next t ∧
      (if ((s.ctx (s.ring c r).ctx).events).getOr (fld d 8 1) 0 = fld d 12 4 then
        Took s t c r d (fun e => e.done = true ∧ e.status = 0)
      else Took s t c r d (fun e => e.done = false ∧ e.deadline = s.waitDeadline (s.ring c r).ctx d)))
  ∧ (∀ c r e u (s : State), (s.ring c r).out.find? (fun d => !d.done && dOp d.desc = 0x09) = some e → e.deadline = some u →
      ∃ t : State, exec (.eventWaitTimeout c r) s = .next t ∧ t.clk = (s.toDeadline (s.ring c r).ctx u).clk ∧
        (∃ e' ∈ (t.ring c r).out, e'.id = e.id ∧ e'.desc = e.desc ∧ e'.done = true ∧ e'.status = 0x19) ∧ (t.ring c r).running = false)
  ∧ (∀ c r e rest (s : State), (s.ring c r).out = e :: rest → e.done = true → (e.needsRecord = true → (s.ring c r).compl.length < 1024) →
      ∃ t : State, exec (.descriptorRetire c r) s = .next t ∧ (t.ring c r).out.map (fun d => d.id) = rest.map (fun d => d.id) ∧
        (t.ring c r).compl = (if e.needsRecord = true then (s.ring c r).compl ++ [e.record] else (s.ring c r).compl) ∧
        ((t.ctx (s.ring c r).ctx).events).getOr (dSigEvent e.desc) 0 =
          (if dSigEn e.desc = true then (((s.ctx (s.ring c r).ctx).events).getOr (dSigEvent e.desc) 0 + 1) % 4294967296
          else ((s.ctx (s.ring c r).ctx).events).getOr (dSigEvent e.desc) 0))
  ∧ (∀ c r (s : State), s.life.fwSwitch = false → ∃ t : State, exec (.completionRingService c r) s = .next t ∧ (t.ring c r).compl = [])
  ∧ (∀ c r d (s : State), s.fetchDesc c r = d → subopOk (dOp d) (dSub d) = false → s.canIssueDesc c r d = true → s.turn c r = true →
      ∃ t : State, exec (.reservedOpcode c r) s = .next t ∧ Took s t c r d (fun e => e.done = true ∧ e.status = 0x10) ∧ (t.ring c r).running = false)

/-- The rows of the vector unit start it (R159 to R161, R166, R169, R175 to R186). A CONVERT, VECTOR or OPT_UPDATE row whose ranges and tiles are
all there leaves its descriptor in flight and puts on the unit the writes, the status and the flags that its rule gives, due after the cycles that
R185 gives a VECTOR subop; a range outside the tile store completes it with ADDRESS. An OPT_UPDATE runs when no pending update names its layer and
its parameters. -/
def Obligations.VectorRowsStart : Prop :=
  (∀ c r sb d (s : State) i, (i, sb) ∈ [(Instr.convertComputedScales c r, 0), (.convertSuppliedScales c r, 1), (.convertSplitTwo c r, 2),
        (.convertSplitThree c r, 3)] → s.Issues c r 0x20 sb d →
      ∃ t : State, exec i s = .next t ∧
        (if s.touchOk c (s.ring c r).ctx (s.touch c (s.ring c r).ctx d) = true then
          Took s t c r d (fun e => e.done = false) ∧ ∃ u, (t.core c).vec = some u ∧ u.ring = r ∧ u.slot = (s.ring c r).issued
            ∧ u.ctx = (s.ring c r).ctx ∧ u.status = 0
            ∧ u.effs = (if sb < 2 then s.convert c d else s.splitConv c d).1 ∧ u.flags = (if sb < 2 then s.convert c d else s.splitConv c d).2
        else Took s t c r d (fun e => e.done = true ∧ e.status = 0x11) ∧ (t.ring c r).running = false))
  ∧ (∀ c r sb d (s : State) i, (i, sb) ∈ [(Instr.vectorAdd c r, 0x00), (.vectorSubtract c r, 0x01), (.vectorMultiply c r, 0x02), (.vectorFma c r, 0x03),
        (.vectorFmaP0 c r, 0x04), (.vectorMaximum c r, 0x05), (.vectorMinimum c r, 0x06), (.vectorExp c r, 0x08), (.vectorLog c r, 0x09),
        (.vectorRcp c r, 0x0A), (.vectorRsqrt c r, 0x0B), (.vectorSqrt c r, 0x0C), (.vectorSigmoid c r, 0x0D), (.vectorGelu c r, 0x0E),
        (.vectorSilu c r, 0x0F), (.vectorSoftmax c r, 0x10), (.vectorLayerNorm c r, 0x11), (.vectorRmsNorm c r, 0x12), (.vectorRowSum c r, 0x13),
        (.vectorRowMaximum c r, 0x14), (.vectorUniformRandom c r, 0x18), (.vectorDropout c r, 0x19)] → s.Issues c r 0x30 sb d →
      ∃ t : State, exec i s = .next t ∧
        (if s.touchOk c (s.ring c r).ctx (s.touch c (s.ring c r).ctx d) = true then
          Took s t c r d (fun e => e.done = false) ∧ ∃ u, (t.core c).vec = some u ∧ u.ring = r ∧ u.slot = (s.ring c r).issued
            ∧ u.ctx = (s.ring c r).ctx ∧ u.status = 0 ∧ u.effs = (s.vector c r d).1 ∧ u.flags = (s.vector c r d).2
            ∧ u.due = s.clk.cycle + ceilDiv (fld d 28 2 * fld d 24 4) 512 * vectorCost sb
        else Took s t c r d (fun e => e.done = true ∧ e.status = 0x11) ∧ (t.ring c r).running = false))
  ∧ (∀ c r sb d (s : State) i, (i, sb) ∈ [(Instr.optUpdateAdam c r, 0), (.optUpdateMomentum c r, 1)] → s.Issues c r 0x38 sb d →
      (s.ctx (s.ring c r).ctx).findUpdate c d = none → s.touchOk c (s.ring c r).ctx (s.touch c (s.ring c r).ctx d) = true →
      ∃ t : State, exec i s = .next t ∧
        ((s.optUpdate c d).2.1 = 0x10 → Took s t c r d (fun e => e.done = true ∧ e.status = 0x10)) ∧
        ((s.optUpdate c d).2.1 ≠ 0x10 → Took s t c r d (fun e => e.done = false) ∧ ∃ u, (t.core c).vec = some u ∧ u.ring = r
            ∧ u.slot = (s.ring c r).issued ∧ u.ctx = (s.ring c r).ctx ∧ (u.effs, u.status, u.flags) = s.optUpdate c d))

/-- The units of a core end what they run (R162, R169, R197, R204, R363, R364). OP_COMPLETE: when no tile that the writes reach is in migration, the
writes take effect as they stand on the unit, the unit is free, and its descriptor completes with the status and flags it holds (the channel's
pending update does); while one is, the writes wait and its migration moves ahead. UPDATE_CHANNEL_ISSUE puts the first pending update on the
channel, after the record that it reads is written for its step. TILE_MOVE starts the move unit with one write for each of its tiles, or completes
with ADDRESS, and with REMOTE when a tile lies in a window that is revoked. -/
def Obligations.UnitRowsComplete : Prop :=
  (∀ c u e (s : State), (s.core c).vec = some u → (s.toCycle u.due).opStalls c u.ctx u.effs = false → e ∈ (s.ring c u.ring).out → e.done = false →
      e.id = u.slot → ∃ t : State, exec (.opComplete c 0) s = .next t ∧ t.mem = ((s.toCycle u.due).applyEffs c u.ctx u.effs).mem
        ∧ (t.core c).vec = none
        ∧ ∃ e' ∈ (t.ring c u.ring).out, e'.id = e.id ∧ e'.desc = e.desc ∧ e'.done = true ∧ e'.status = u.status ∧ e'.flags = u.flags)
  ∧ (∀ c u e (s : State), (s.core c).mov = some u → (s.toCycle u.due).opStalls c u.ctx u.effs = false → e ∈ (s.ring c u.ring).out → e.done = false →
      e.id = u.slot → ∃ t : State, exec (.opComplete c 1) s = .next t ∧ t.mem = ((s.toCycle u.due).applyEffs c u.ctx u.effs).mem
        ∧ (t.core c).mov = none
        ∧ ∃ e' ∈ (t.ring c u.ring).out, e'.id = e.id ∧ e'.desc = e.desc ∧ e'.done = true ∧ e'.status = u.status ∧ e'.flags = u.flags)
  ∧ (∀ c n u (s : State), 2 ≤ n → (s.core c).chan = some u → (s.toCycle u.due).opStalls c u.ctx u.effs = false →
      ∃ t : State, exec (.opComplete c n) s = .next t ∧ t.mem = ((s.toCycle u.due).applyEffs c u.ctx u.effs).mem ∧ (t.core c).chan = none
        ∧ ∀ v ∈ (t.ctx u.ctx).updates, v.core = c → v.layer = u.layer → v.param = u.param →
            v.state = 2 ∧ v.status = u.status ∧ v.flags = u.flags)
  ∧ (∀ c u (s : State), (s.core c).vec = some u → (s.toCycle u.due).opStalls c u.ctx u.effs = true →
      ∃ t : State, exec (.opComplete c 0) s = .next t ∧ t.mem = s.mem ∧ t.cores = s.cores
        ∧ ∀ m ∈ t.migs, m.ctx = u.ctx → m.tile ∈ effTiles u.effs → m.front = true)
  ∧ (∀ c x u (s : State), s.nextUpdate c = some (x, u) → s.vecIdle c = true → s.noHazard c x (optTouch u.desc) = true →
      (s.ctx x).job.boundaryDue = false → ∃ t : State, exec (.updateChannelIssue c) s = .next t ∧
        (∃ h, (t.core c).chan = some h ∧ h.ctx = x ∧ h.layer = u.layer ∧ h.param = u.param
          ∧ (s.touchOk c x (optTouch u.desc) = true → (h.effs, h.status, h.flags) = (s.prepHyper c x u.desc u.step).optUpdate c u.desc)
          ∧ (s.touchOk c x (optTouch u.desc) = false → h.effs = [] ∧ h.status = 0x11))
        ∧ ∀ v ∈ (t.ctx x).updates, v.core = c → v.layer = u.layer → v.param = u.param → v.state = 1)
  ∧ (∀ c r sb d (s : State) i, (i, sb) ∈ [(Instr.tileMoveLoad c r, 0), (.tileMoveStore c r, 1), (.tileMoveCopy c r, 2)] → s.Issues c r 0x40 sb d →
      ∃ t : State, exec i s = .next t ∧
        (s.touchOk c (s.ring c r).ctx (s.touch c (s.ring c r).ctx d) = true →
          ((s.touch c (s.ring c r).ctx d).tileReads ++ (s.touch c (s.ring c r).ctx d).tileWrites).any (s.revoked (s.ring c r).ctx) = false → Took s t c r d (fun e => e.done = false) ∧ ∃ u, (t.core c).mov = some u
          ∧ u.ring = r ∧ u.slot = (s.ring c r).issued ∧ u.ctx = (s.ring c r).ctx ∧ u.status = 0 ∧ u.effs.length = fld d 20 2
          ∧ ∀ k < fld d 20 2, u.effs[k]? = some (
              if sb = 0 then .loadTile (fld d 8 8 % 2 ^ 48 / tileBytes + k) (fld d 16 4 + k * fld d 24 4)
              else if sb = 1 then .storeTile (fld d 16 4 + k * fld d 24 4) (fld d 8 8 % 2 ^ 48 / tileBytes + k)
              else .copyTile (fld d 8 8 % 2 ^ 48 / tileBytes + k) (fld d 32 8 % 2 ^ 48 / tileBytes + k)))
        ∧ (s.touchOk c (s.ring c r).ctx (s.touch c (s.ring c r).ctx d) = true →
          ((s.touch c (s.ring c r).ctx d).tileReads ++ (s.touch c (s.ring c r).ctx d).tileWrites).any (s.revoked (s.ring c r).ctx) = true →
          Took s t c r d (fun e => e.done = true ∧ e.status = 0x1A))
        ∧ (s.touchOk c (s.ring c r).ctx (s.touch c (s.ring c r).ctx d) = false → Took s t c r d (fun e => e.done = true ∧ e.status = 0x11)))

/-- The array unit's rows take an ARRAY_MUL through its stages (R64, R71, R72, R77, R84, R91, R105, R120, R126, R135, R138, R143, R155). ARRAY_MUL ends at issue
with the status that its records call for, or enters the unit as the running or the look-ahead op; a parison load begins and, when its parity
passes, fills the parisons with what it read, the reload's reading after a first failure; a switch exchanges the two weight sets and opens the stream of rows, or
passes over a block with no row to feed; a row enters and forms its column sums; the oldest row
in flight is pushed into the ladder of each of its positions; the drain forms its writes; the drain's end writes them and completes the multiply. -/
def Obligations.ArrayOpRowsComplete : Prop :=
  (∀ c r d (s : State), s.Issues c r 0x10 0 d → ∃ t : State, exec (.arrayMul c r) s = .next t ∧
      (∀ st, s.arrStatus c (s.ring c r).ctx d = some st → Took s t c r d (fun e => e.done = true ∧ e.status = st)) ∧
      (s.arrStatus c (s.ring c r).ctx d = none → Took s t c r d (fun e => e.done = false) ∧
        ((s.core c).arr.isSome = true → (t.core c).look = some (s.arrOp c r (s.ring c r).issued (s.ring c r).ctx d)) ∧
        ((s.core c).arr = none → 0 < (s.arrOp c r (s.ring c r).issued (s.ring c r).ctx d).total →
          (t.core c).arr = some { s.arrOp c r (s.ring c r).issued (s.ring c r).ctx d with
            accSet := (s.core c).nextSet, dueAt := max s.clk.cycle (s.core c).freeFrom })))
  ∧ (∀ c a i (s : State), (s.core c).load = none → s.nextLoad c = some (a, i) → ∃ t : State, exec (.parisonLoadStart c) s = .next t ∧
      t.clk = (s.toCycle (s.core c).parFree).clk ∧ ∃ l, (t.core c).load = some l ∧ l.ring = a.ring ∧ l.slot = a.slot ∧ l.block = i
        ∧ l.readyAt = t.clk.cycle + (if arrKb16 a.desc then 512 else 256) ∧ l.sets = s.stepSets c a i)
  ∧ (∀ c l a first second (s : State), (s.core c).load = some l → (s.core c).findOp l.ring l.slot = some a → (first = [] ∨ second = []) →
      ∃ t : State, exec (.parisonLoadDone c first second) s = .next t ∧ (t.core c).load = none ∧
        ∀ j w, j < 4 → (if first = [] then l.sets else s.stepSets c a l.block)[j]? = some w → (t.core c).parison.find j = some w)
  ∧ (∀ c a (s : State), (s.core c).arr = some a → a.streaming = false → s.direct c a = false → s.provided c a a.block = true →
      (∀ j < arraysOf a.desc, ((s.core c).parison.getOr j {}).ctx = some a.ctx) → ∃ t : State, exec (.weightSetSwitch c) s = .next t ∧
        (t.core c).active = (s.core c).parison ∧ (t.core c).parison = (s.core c).active ∧
        (rowSeq a.mask (fld a.desc 40 2) ≠ [] → ∃ n, (t.core c).arr = some { a with streaming := true, row := 0, dueAt := n }) ∧
        (rowSeq a.mask (fld a.desc 40 2) = [] → a.block + 1 < a.total → ∃ n, (t.core c).arr = some { a with
          streaming := false, row := 0, block := a.block + 1, dueAt := n }))
  ∧ (∀ c a row ch i (s : State), (s.core c).arr = some a → a.nextRow = some (row, ch, i) →
      ((s.startUp c).core c).rowHeld a row ((s.startUp c).slotAt c) = false →
      ∃ t : State, exec (.arrayRowEntry c) s = .next t ∧ (t.core c).inflight = (s.core c).inflight ++
        [({ set := a.accSet, row := row, entry := a.entryBase + a.block, sums := (s.rowSums c a ch i row).map (fun p => p.1)
            due := (s.startUp c).slotAt c + latency a.desc - 1 } : InRow)])
  ∧ (∀ c ecc q rest a (s : State), (s.core c).inflight = q :: rest → (s.core c).ownerOf q.set = some a → ecc.bad = false →
      ∃ t : State, exec (.ladderPush c ecc) s = .next t ∧ (t.core c).inflight = rest ∧
        ∀ j v, q.sums[j]? = some v → (t.core c).acc.find (accKey q.set q.row j) =
          some (ladderPush (dComp a.desc) (s.levels c a q.row j) (v, A48.zero)).1)
  ∧ (∀ c ecc a rest (s : State), (s.core c).waiting = a :: rest → (s.core c).drains = [] → (∀ q ∈ (s.core c).inflight, q.set ≠ a.accSet) → ecc.bad = false →
      ∃ t : State, exec (.drainStart { core := c, ecc := ecc }) s = .next t ∧ (t.core c).waiting = rest ∧ (t.core c).drains =
        [{ op := a, due := t.clk.cycle + drainCycles a - 1, writes := (s.drainOut c a).1, flags := (s.drainOut c a).2 }])
  ∧ (∀ c d rest e (s : State), (s.core c).drains = d :: rest → (s.toCycle d.due).opStalls c d.op.ctx (d.writes.map (fun w => Eff.ts w.1 w.2)) = false →
      e ∈ (s.ring c d.op.ring).out → e.done = false → e.id = d.op.slot → ∃ t : State, exec (.drainComplete c) s = .next t ∧
        (t.core c).drains = rest ∧ t.mem = ((s.toCycle d.due).applyEffs c d.op.ctx (d.writes.map (fun w => Eff.ts w.1 w.2))).mem ∧
        ∃ e' ∈ (t.ring c d.op.ring).out, e'.id = e.id ∧ e'.desc = e.desc ∧ e'.done = true ∧ e'.status = 0 ∧ e'.flags = d.flags % 64)

/-- The rows of the lehr and of the parity sweep (R96 to R102, R104, R106). An empty issue slot is used by a keeper op and counts toward the
ramp-down unless the core pre-ramps; 97 empty cycles start the ramp-down; each 840 cycles of ramp-down, of ramp-up and of a descent below a fallen
ceiling change n by one; a pre-ramp starts toward the earliest pending barrier that has array work after it, in its turn among the events of that time; the sweep goes on to its next
row, and notes the fabric time of a row that it finds clean in each set. -/
def Obligations.LehrRowsComplete : Prop :=
  (∀ c lost (s : State), (s.core c).n ≠ 0 → (s.rowReady c = false ∨ lost = true) → ∃ t : State, exec (.emptyIssueSlot c lost) s = .next t ∧ t.clk = (s.toCycle (s.slotAt c)).clk
      ∧ (t.core c).slotFree = s.slotAt c + 1 ∧ (t.core c).n = (s.core c).n ∧ (t.core c).keeper = (s.core c).phantom
      ∧ (t.core c).empties = (if ((s.toCycle (s.slotAt c)).preRamping c).isSome = true then (s.core c).empties else (s.core c).empties + 1))
  ∧ (∀ c (s : State), 97 ≤ (s.core c).empties → (s.core c).rampDown = false → (s.core c).n ≠ 0 → s.preRamping c = none → ∃ t : State, exec (.lehrRampDownStart c) s = .next t
      ∧ (t.core c).n = (s.core c).n - 1 ∧ (t.core c).rampDown = true ∧ (t.core c).rampUp = false ∧ (t.core c).nAt = s.clk.cycle)
  ∧ (∀ c (s : State), (s.core c).rampDown = true → (s.core c).n ≠ 0 → ∃ t : State, exec (.lehrStep c) s = .next t
      ∧ t.clk = (s.toCycle ((s.core c).nAt + 840)).clk ∧ (t.core c).n = (s.core c).n - 1 ∧ (t.core c).nAt = t.clk.cycle
      ∧ ((s.core c).n = 1 → (t.core c).lastRow = []))
  ∧ (∀ c (s : State), (s.core c).rampUp = true → (s.core c).n < s.ceiling c → ∃ t : State, exec (.rampUpStep c) s = .next t
      ∧ t.clk = (s.toCycle ((s.core c).nAt + 840)).clk ∧ (t.core c).n = (s.core c).n + 1
      ∧ (t.core c).rampUp = decide ((s.core c).n + 1 < s.ceiling c))
  ∧ (∀ c (s : State), s.ceiling c < (s.core c).n → ∃ t : State, exec (.ceilingStepDown c) s = .next t
      ∧ t.clk = (s.toCycle ((s.core c).ceilAt + 840)).clk ∧ (t.core c).n = (s.core c).n - 1 ∧ (t.core c).ceilAt = t.clk.cycle
      ∧ (t.core c).descend = ((s.core c).descend && decide (s.ceiling c < (s.core c).n - 1)))
  ∧ (∀ c x u (s : State), s.firstTarget c = some (x, u) → (s.core c).preRamp ≠ some (u, x) →
      s.evTurn x 5 0 ((s.ctx x).job.epoch + s.rampStart x u) = true → ∃ t : State, exec (.preRampStart c) s = .next t
      ∧ (t.core c).preRamp = some (u, x) ∧ (t.core c).empties = 0 ∧ t.clk = (s.toFabric x (s.rampStart x u)).clk)
  ∧ (∀ c bad (s : State), ∃ t : State, exec (.paritySweep c bad) s = .next t ∧ t.clk = (s.toCycle ((s.core c).sweepAt + 256)).clk
      ∧ (t.core c).sweepRow = ((s.core c).sweepRow + 1) % 256 ∧ (t.core c).sweepAt = t.clk.cycle
      ∧ (bad = [] → (∀ j w, (s.core c).active.find j = some w → w.rowBad (s.core c).sweepRow = false) →
          ∀ j w, j < 4 → (s.core c).active.find j = some w →
            (t.core c).active.find j = some { w with clean := w.clean.set (s.core c).sweepRow t.clk.tai.ns }))

/-- The FABRIC descriptors (R163, R244, R252, R254, R255, R257, R258, R576). One that names this module and passes the checks of a target is served
here: a put writes the local range, a get reads it into the tile store, an atomic replaces its word, and the descriptor completes with OK. One that names
another module leaves on its open flow as one packet for each part, with a tracker entry, and stays in flight. One whose tile-store ranges do not hold, or
whose flow cannot carry it, ends with ADDRESS, FENCED or REMOTE. -/
def Obligations.FabricRowsComplete : Prop :=
  (∀ c r d (s : State) i x, s.Issues c r 0x50 (dSub d) d → x = (s.ring c r).ctx → (fld d 8 8 / 2 ^ 48 = 0xFFFF ∨ fld d 8 8 / 2 ^ 48 = s.deviceId) →
      s.rangesOk c (s.touch c (s.ring c r).ctx d) = true → s.fabStatus x d = 0 →
      s.fabStalls c x d = false →
      ((i, dSub d) ∈ [(Instr.fabricPut c r, 0), (.fabricTilePut c r, 2)] → ∃ t : State, exec i s = .next t ∧ Ended t c r (s.ring c r).issued d 0 ∧
        t.mem = (((s.takeDesc c r d none).fabUse x (fld d 8 8 % 2 ^ 48) (fabLen d)).localWrite x (fld d 8 8 % 2 ^ 48) (s.tsRead c (fld d 16 4) (fabLen d))).mem)
      ∧ ((i, dSub d) ∈ [(Instr.fabricGet c r, 1), (.fabricTileGet c r, 3)] → ∃ t : State, exec i s = .next t ∧ Ended t c r (s.ring c r).issued d 0 ∧
        t.mem = (((s.takeDesc c r d none).fabUse x (fld d 8 8 % 2 ^ 48) (fabLen d)).tsWrite c (fld d 16 4) (s.localRead x (fld d 8 8 % 2 ^ 48) (fabLen d))).mem)
      ∧ ((i, dSub d) ∈ [(Instr.fabricAtomicAdd c r, 8), (.fabricAtomicMin c r, 9), (.fabricAtomicMax c r, 10), (.fabricCompareSwap c r, 11),
          (.fabricA48Add c r, 12)] → fld d 16 4 = tsNone → ∃ t : State, exec i s = .next t ∧ Ended t c r (s.ring c r).issued d 0 ∧
        t.mem = (((s.takeDesc c r d none).fabUse x (fld d 8 8 % 2 ^ 48) 8).localWrite x (fld d 8 8 % 2 ^ 48)
          (leBytes 8 (atomWord (dSub d) (leNat (s.localRead x (fld d 8 8 % 2 ^ 48) 8)) (fld d 32 8) (fld d 40 8)))).mem))
  ∧ (∀ c r sb d (s : State) i, (i, sb) ∈ [(Instr.fabricPut c r, 0), (.fabricGet c r, 1), (.fabricTilePut c r, 2), (.fabricTileGet c r, 3),
        (.fabricAtomicAdd c r, 8), (.fabricAtomicMin c r, 9), (.fabricAtomicMax c r, 10), (.fabricCompareSwap c r, 11), (.fabricA48Add c r, 12)] →
      s.Issues c r 0x50 sb d → s.rangesOk c (s.touch c (s.ring c r).ctx d) = false →
      ∃ t : State, exec i s = .next t ∧ Ended t c r (s.ring c r).issued d 0x11)
  ∧ (∀ c r sb d (s : State) i fl, (i, sb) ∈ [(Instr.fabricPut c r, 0), (.fabricGet c r, 1), (.fabricTilePut c r, 2), (.fabricTileGet c r, 3),
        (.fabricAtomicAdd c r, 8), (.fabricAtomicMin c r, 9), (.fabricAtomicMax c r, 10), (.fabricCompareSwap c r, 11), (.fabricA48Add c r, 12)] →
      s.Issues c r 0x50 sb d → fld d 8 8 / 2 ^ 48 ≠ 0xFFFF → fld d 8 8 / 2 ^ 48 ≠ s.deviceId →
      s.rangesOk c (s.touch c (s.ring c r).ctx d) = true →
      s.flows.find (fld d 24 4) = some fl → fl.ctx = (s.ring c r).ctx → fl.peer = fld d 8 8 / 2 ^ 48 → fl.planning = false →
      ∃ t : State, exec i s = .next t ∧
        (fl.state = .open_ → Took s t c r d (fun e => e.done = false) ∧ t.trkNext = s.trkNext + 1 ∧ ∃ e, t.trk.find s.trkNext = some e ∧
          e.ctx = (s.ring c r).ctx ∧ e.core = c ∧ e.ring = r ∧ e.slot = (s.ring c r).issued ∧ e.flow = fld d 24 4 ∧ e.psn = fl.nextPsn
          ∧ e.local_ = fld d 16 4 ∧ e.tileSlot = decide (sb = 2 ∨ sb = 3)
          ∧ (t.flow (fld d 24 4)).sends = fl.sends ++ (s.fabParts c d).map (fun q => (fabOp sb, q.1, q.2))) ∧
        (fl.state = .draining → Ended t c r (s.ring c r).issued d (if fl.drainFence then 0x18 else 0x1A)) ∧
        (fl.state = .failed → Ended t c r (s.ring c r).issued d 0x1A) ∧ (fl.state = .closed → Ended t c r (s.ring c r).issued d 0x11))

/-- The rows of the collective engine (R312 to R321, R327, R387, R575). COLL_STEP completes with RESERVED when COLL_ID names no record or its fields are out
of the rules, with ADDRESS when a range leaves the tile store or one written meets a ring, with OK at once when LENGTH is 0; else its instance is issued: the
own share is placed at DST, one message is sent to each member that takes a block, and the descriptor stays in flight. COLL_SHARD_READY writes the reduced
shard at DST, sends it to the other members of an ALL_REDUCE, and completes a REDUCE_SCATTER that waits for nothing more. PARITY_INSTANCE writes no memory
here; a share whose flow is open is sent when an entry and a tile slot are free, and waits for them else. -/
def Obligations.CollectRowsComplete : Prop :=
  (∀ c r d (s : State), s.Issues c r 0x60 0 d → ∃ t : State, exec (.collStep c r) s = .next t ∧
      ((s.ctx (s.ring c r).ctx).colls.find (fld d 8 4) = none → Ended t c r (s.ring c r).issued d 0x10) ∧
      (∀ k, (s.ctx (s.ring c r).ctx).colls.find (fld d 8 4) = some k → k.stepStatus c d ≠ 0 → Ended t c r (s.ring c r).issued d (k.stepStatus c d)) ∧
      (∀ k, (s.ctx (s.ring c r).ctx).colls.find (fld d 8 4) = some k → k.stepStatus c d = 0 →
        s.rangesOk c (s.touch c (s.ring c r).ctx d) = false → Ended t c r (s.ring c r).issued d 0x11))
  ∧ (∀ c r d (s : State) k, s.Issues c r 0x60 0 d → (s.ctx (s.ring c r).ctx).colls.find (fld d 8 4) = some k → k.stepStatus c d = 0 → fld d 24 4 = 0 →
      s.rangesOk c (s.touch c (s.ring c r).ctx d) = true →
      ∃ t : State, exec (.collStep c r) s = .next t ∧ Ended t c r (s.ring c r).issued d 0 ∧
        (t.ctx (s.ring c r).ctx).colls.find (fld d 8 4) = some (CollRec.finish { k with next := (k.next + 1) % 4294967296 } (fld d 12 4)))
  ∧ (∀ c r d (s : State) k x i, x = (s.ring c r).ctx → s.Issues c r 0x60 0 d → (s.ctx x).colls.find (fld d 8 4) = some k → k.stepStatus c d = 0 → fld d 24 4 ≠ 0 →
      s.rangesOk c (s.touch c x d) = true → (s.ctx x).inst (fld d 8 4) (fld d 12 4) = none → s.memberLost x k = false → 2 ≤ k.p → 1 ≤ k.type →
      i = { ({} : CollInst) with issued := true, core := c, ring := r, slot := (s.ring c r).issued, src := fld d 16 4, dst := fld d 20 4, len := fld d 24 4
                                 blocks := k.own { ({} : CollInst) with len := fld d 24 4 } (if k.noSrc then [] else s.tsRead c (fld d 16 4) (fld d 24 4)) } →
      ∃ t : State, exec (.collStep c r) s = .next t ∧ Took s t c r d (fun e => e.done = false) ∧
        (t.ctx x).inst (fld d 8 4) (fld d 12 4) = some { i with unanswered := if k.noSrc then 0 else k.p - 1 } ∧
        t.trkNext = s.trkNext + (if k.noSrc then 0 else k.p - 1) ∧
        t.mem = (i.blocks.foldl (fun u b => u.placeBlock k i b) (((s.takeDesc c r d none).updCtx x (fun e => { e with
          colls := e.colls.set (fld d 8 4) { k with next := (k.next + 1) % 4294967296 } })).updInst x (fld d 8 4) (fld d 12 4) (fun _ => i))).mem)
  ∧ (∀ x co n i k (s : State), (s.ctx x).inst co n = some i → (s.ctx x).colls.find co = some k → i.issued = true → i.shardDone = false → k.reduces = true →
      ((List.range k.p).all (fun q => i.has q 0)) = true → ∃ t : State, exec (.collShardReady x co n) s = .next t ∧
        (0 < i.unanswered → t.mem = (s.tsWrite i.core (k.shardAt i) (k.reduced i).1).mem ∧ ∃ j, (t.ctx x).inst co n = some j ∧ j.shardDone = true) ∧
        (∀ e, k.type = 2 → i.unanswered = 0 → k.flagAddr = tsNone → e ∈ (s.ring i.core i.ring).out → e.done = false → e.id = i.slot → dOp e.desc = 0x60 →
          (k.expects.all (fun q => i.has q.1 q.2)) = true →
          t.mem = (s.tsWrite i.core (k.shardAt i) (k.reduced i).1).mem ∧ Ended t i.core i.ring i.slot e.desc 0 ∧ (t.ctx x).inst co n = none))
  ∧ (∀ x plan g (s : State), (s.ctx x).parityOf = some g → g.erasure = true → ((s.ctx x).fenced = false ∨ (s.ctx x).recov.state = .refilling) → ∃ t : State, exec (.parityInstance x plan) s = .next t ∧
        t.mem = s.mem ∧
        (∀ p q, plan = [p] → q = { p with delta := p.delta && !(s.ctx x).sec.fullForm && (s.ctx x).sec.current.isSome } → (s.flow p.flow).ctx = x → (s.flow p.flow).state = .open_ →
          (s.trkRoom x 1 true = true → t.trkNext = s.trkNext + 1 ∧ ((t.ctx x).entry p.tile).cow = false ∧
            (t.flow p.flow).sends = (s.flow p.flow).sends ++ (piecesOf (s.payloadMax p.flow) (s.stripeBytes x q)).map (fun b =>
              (0x20, collExt p.coll p.slot 0 3 0xFF (s.ctx x).job.layoutEpoch b.1 (s.stripeBytes x q).length, b.2))) ∧
          (s.trkRoom x 1 true = false → t.trkNext = s.trkNext ∧ (t.ctx x).sec.stripes = (s.ctx x).sec.stripes ++ [(g.generation, q)])))

/-- The requests that arrive on a flow, in order and with nothing to wait for (R242, R245, R252 to R257, R261, R314, R315, R327, R331). A write's data reaches
its range and its last packet is answered; a read is answered with the range's bytes; an atomic replaces its word and is answered with the old one; a
block of a collective is staged or placed, or taken into parity or a permute; a packet with a reserved value is dropped and counted. -/
def Obligations.ReceiveRowsComplete : Prop :=
  (∀ mac p (s : State) op i x, (i, op) ∈ [(Instr.writeReq mac p, 0x01), (.tileWrite mac p, 0x03)] → s.Arrives op p → pktFirst p = true →
      s.openStatus p.dstFlow op p = 0 → x = (s.flow p.dstFlow).ctx → ∃ t : State, exec i s = .next t ∧
        t.mem = ((s.fabUse x (be p.ext 0 6) p.payload.length).localWrite x (be p.ext 0 6) p.payload).mem ∧ (t.flow p.dstFlow).expected = psnNext p.psn ∧
        (pktLast p = true → (t.flow p.dstFlow).sends = (s.flow p.dstFlow).sends ++ [(0x81, respExt p.psn 0 0, [])]))
  ∧ (∀ mac p (s : State) op i x, (i, op) ∈ [(Instr.readReq mac p none, 0x02), (.tileRead mac p, 0x04)] → s.Arrives op p →
      s.openStatus p.dstFlow op p = 0 → x = (s.flow p.dstFlow).ctx → ∃ t : State, exec i s = .next t ∧
        t.mem = s.mem ∧ (t.flow p.dstFlow).expected = psnNext p.psn ∧ (t.flow p.dstFlow).sends = (s.flow p.dstFlow).sends ++
          (piecesOf (s.payloadMax p.dstFlow) (s.localRead x (be p.ext 0 6) (be p.ext 8 4))).map (fun q => (0x82, respExt p.psn 0 q.1, q.2)))
  ∧ (∀ mac p (s : State) op i x, (i, op) ∈ [(Instr.atomicAdd mac p, 0x08), (.atomicMin mac p, 0x09), (.atomicMax mac p, 0x0A), (.compareSwap mac p, 0x0B),
        (.a48Add mac p, 0x0C)] → s.Arrives op p → (s.flow p.dstFlow).state = .open_ → be p.ext 7 1 < 2 → be p.ext 24 8 = 0 →
      (op ≠ 0x0B → be p.ext 16 8 = 0) → x = (s.flow p.dstFlow).ctx → s.atomStatus x op (be p.ext 0 6) (be p.ext 8 8) = 0 → ∃ t : State, exec i s = .next t ∧
        t.mem = ((s.fabUse x (be p.ext 0 6) 8).localWrite x (be p.ext 0 6)
          (leBytes 8 (atomWord op (leNat (s.localRead x (be p.ext 0 6) 8)) (be p.ext 8 8) (be p.ext 16 8)))).mem ∧
        (t.flow p.dstFlow).expected = psnNext p.psn ∧ (t.flow p.dstFlow).sends = (s.flow p.dstFlow).sends ++
          [(0x88, respExt p.psn 0 0, (s.localRead x (be p.ext 0 6) 8).reverse)])
  ∧ (∀ mac p (s : State) x h, s.Arrives 0x20 p → pktFirst p = true → s.collStatus p.dstFlow p = 0 → x = (s.flow p.dstFlow).ctx → h = collHdr p.ext →
      ∃ t : State, exec (.collective mac p) s = .next t ∧ (t.flow p.dstFlow).expected = psnNext p.psn ∧
        (h.kind ≤ 2 → (s.ctx x).inst h.coll h.inst = none → t.mem = s.mem ∧ ∃ j, (t.ctx x).inst h.coll h.inst = some j ∧ j.issued = false ∧
          j.blocks = [{ pos := h.pos, kind := h.kind, len := h.len, got := p.payload.length, data := p.payload, flow := p.dstFlow, psn := p.psn }]) ∧
        (∀ i k, h.kind = 1 ∨ h.kind = 2 → (s.ctx x).inst h.coll h.inst = some i → (s.ctx x).colls.find h.coll = some k → i.issued = true →
          0 < i.unanswered → t.mem = (s.tsWrite i.core (k.place i h.pos h.kind + h.off) p.payload).mem) ∧
        (h.kind = 3 → t.mem = s.mem ∧ (t.ctx x).sec.accum = ((s.takeStripe x h p.payload).ctx x).sec.accum) ∧
        (h.kind = 4 → t.mem = (s.takePermute x h p.payload).1.mem ∧ (t.ctx x).job.reshard = ((s.takePermute x h p.payload).1.ctx x).job.reshard))
  ∧ (∀ mac h (s : State), ∃ t : State, exec (.reservedPacket mac h) s = .next t ∧
      (h.p.hcrc ≠ hcrcOf h → t = (s.countRx mac h.pcp (frameLen ((s.port (mac / 4)).encap = 1) false true h)).countFab 0) ∧
      (h.p.hcrc = hcrcOf h → hdrOk h = false → t = (s.countRx mac h.pcp (frameLen ((s.port (mac / 4)).encap = 1) false true h)).countFab 1))

/-- The responses that arrive on a flow in order (R245, R252, R254, R258, R261, R315, R324, R574). Each ends the request that it answers: a put or an atomic
completes with OK or REMOTE, an atomic's old value reaches LOCAL; a get's data reaches LOCAL and its last packet completes it; an answered block of a
collective counts down what its instance waits for, and a block refused ends the instance with REMOTE. The tracker entry of the request is free. -/
def Obligations.ResponseRowsComplete : Prop :=
  (∀ mac p (s : State) k e d, s.findTrk p.dstFlow (be p.ext 0 4) = some (k, e) → d ∈ (s.ring e.core e.ring).out → d.done = false → d.id = e.slot →
      (s.Arrives 0x81 p → e.kind = .put → ∃ t : State, exec (.writeDone mac p) s = .next t ∧ (t.flow p.dstFlow).expected = psnNext p.psn ∧
        Ended t e.core e.ring e.slot d.desc (if be p.ext 4 1 = 0 then 0 else 0x1A) ∧
        (s.NoneDue (s.flow p.dstFlow).ctx → t.trk = s.trk.del k)) ∧
      (s.Arrives 0x88 p → e.kind = .atomic → ∃ t : State, exec (.atomicDone mac p) s = .next t ∧ (t.flow p.dstFlow).expected = psnNext p.psn ∧
        Ended t e.core e.ring e.slot d.desc (if be p.ext 4 1 = 0 then 0 else 0x1A) ∧
        (s.NoneDue (s.flow p.dstFlow).ctx → t.trk = s.trk.del k) ∧
        (be p.ext 4 1 = 0 → e.local_ ≠ tsNone → t.mem = (s.tsWrite e.core e.local_ (padTo 8 p.payload).reverse).mem)) ∧
      (s.Arrives 0x82 p → e.kind = .get → pktFirst p = true → ∃ t : State, exec (.readData mac p) s = .next t ∧
        (be p.ext 4 1 ≠ 0 → t.trk = s.trk.del k ∧ Ended t e.core e.ring e.slot d.desc 0x1A) ∧
        (be p.ext 4 1 = 0 → t.mem = (s.tsWrite e.core (e.local_ + be p.ext 8 4) p.payload).mem ∧
          (e.length ≤ e.got + p.payload.length → Ended t e.core e.ring e.slot d.desc 0 ∧ (s.NoneDue e.ctx → t.trk = s.trk.del k)))))
  ∧ (∀ mac p (s : State) k e c n, s.findTrk p.dstFlow (be p.ext 0 4) = some (k, e) → s.Arrives 0xA0 p → e.kind = .coll c n →
      ∃ t : State, exec (.collectiveDone mac p) s = .next t ∧ (t.flow p.dstFlow).expected = psnNext p.psn ∧
        (s.NoneDue (s.flow p.dstFlow).ctx → t.trk = s.trk.del k) ∧
        (∀ i, be p.ext 4 1 = 0 → (s.ctx e.ctx).inst c n = some i → 2 ≤ i.unanswered → ∃ j, (t.ctx e.ctx).inst c n = some j ∧
          j.unanswered = i.unanswered - 1 ∧ j.blocks = i.blocks) ∧
        (∀ i d, be p.ext 4 1 ≠ 0 → (s.ctx e.ctx).inst c n = some i → i.issued = true → d ∈ (s.ring i.core i.ring).out → d.done = false → d.id = i.slot →
          (t.ctx e.ctx).inst c n = none ∧ Ended t i.core i.ring i.slot d.desc 0x1A))

/-- Acknowledgements and the timers of a flow (R245, R262 to R265, R268). An ACK advances una and takes out of the flow what it acknowledges; the 2 µs timer
sends an ACK; a retransmission timer that runs counts an expiry of its packet, and one that is stopped does nothing; the progress limit fails the flow; a congestion
interval ends with the flow's new rates. -/
def Obligations.FlowTimerRowsComplete : Prop :=
  (∀ mac p (s : State) fl, fl = s.flow p.dstFlow → p.hcrc = hcrcOf (hdrOf 0xC0 p) → hdrOk (hdrOf 0xC0 p) = true → extOk 0xC0 p.ext = true →
      p.dstDev = s.deviceId → fl.accepts p.srcDev = true → fl.closing = false → ∃ t : State, exec (.ackPkt mac p) s = .next t ∧
        (t.flow p.dstFlow).una = (if fl.ackInside (be p.ext 0 4) = true then be p.ext 0 4 else fl.una) ∧
        (t.flow p.dstFlow).tx.map (fun e => e.psn) = (fl.tx.filter (fun e => !fl.ackedBy (be p.ext 0 4) e)).map (fun e => e.psn))
  ∧ (∀ f a (s : State), (s.flow f).firstUnackedNs = some a → ∃ t : State, exec (.ackTimer f) s = .next t ∧ t.clk = (s.toTai (a + 2000)).clk ∧
      (t.flow f).firstUnackedNs = none ∧ (t.flow f).pktsSinceAck = 0)
  ∧ (∀ f n e a (s : State), (s.flow f).tx.find? (fun t => t.psn = n && !t.acked && !t.queued) = some e → e.sentAt = some a → ∃ t : State,
      exec (.retransmitTimeout f n) s = .next t ∧ (s.timerStops (s.flow f) e = true → t = s) ∧ (s.timerStops (s.flow f) e = false →
      t.clk = (s.toTai (a + (s.flow f).rto e.expiries)).clk ∧ ∃ e' ∈ (t.flow f).tx, e'.psn = n ∧ e'.expiries = e.expiries + 1))
  ∧ (∀ f (s : State), (s.flow f).tx ≠ [] → ((s.flow f).state = .open_ ∨ (s.flow f).state = .draining) →
      ((s.flow f).tx.any (fun e => decide (16 ≤ e.expiries)) = true ∨ (s.flow f).tx.any (s.timerStops (s.flow f)) = false) →
      ∃ t : State, exec (.flowProgressTimeout f) s = .next t ∧ (t.flow f).state = .failed ∧
        (s.NoneDue (s.flow f).ctx → (t.flow f).tx = [] ∧ ∀ e ∈ t.trk, e.2.flow ≠ f))
  ∧ (∀ f (s : State), ((s.flow f).state = .open_ ∨ (s.flow f).state = .draining) → ∃ t : State, exec (.ccInterval f) s = .next t ∧
      t.clk = (s.toTai ((s.flow f).intStartNs + (max 10000 ((s.flow f).srtt.getD 0)).ceil.toNat)).clk ∧
      t.flow f = (s.flow f).interval (s.ctx (s.flow f).ctx).cc t.clk.tai.ns)

/-- The transmit side of a MAC and the forwarder (R241, R262, R272 to R274, R286 to R288, R294, R298, R306, R487). MAC_FRAME_START, once flows have sent
what their rates admit, takes the frame that R288 chooses from its queue and puts it on the wire: a forwarded frame as it stands, one of the module's own with the TS of its context's fabric time, a fresh
HCRC and, on the last packet queued, its acknowledgement request. FRAME_FORWARD cuts a frame through to its egress MAC, stores it there, or drops and
counts it. -/
def Obligations.MacTxRowsComplete : Prop :=
  (∀ m q f v u (s : State), ((s.mac m).queues.all (fun e => e.2.isEmpty) = false ∨ (s.nextAdmit m).isSome = true) →
      v = (if (s.mac m).queues.all (fun e => e.2.isEmpty) = true then
        (s.toCycle (max (s.mac m).busyUntil (s.mac m).wakeAt)).toTai ((s.nextAdmit m).getD 0) else s.toCycle (max (s.mac m).busyUntil (s.mac m).wakeAt)) →
      u = v.pumpPaced.updMac m (fun c => c.accrue v.pumpPaced.clk.cycle) →
      u.pickQueue m = some q → (u.mac m).headOf q = some f → ∃ t : State, ∃ g, exec (.macFrameStart m) s = .next t ∧ t.clk = u.clk ∧
        t.out = u.out ++ [Output.frame m g] ∧ g.len = f.len ∧ (f.forwarded = true → g = f) ∧
        (∀ h, f.forwarded = false → f.body = .zalnis h → ∃ a, (a = h.p.flags ∨ a = h.p.flags + 32) ∧
          g.body = .zalnis (sealHdr { h with p := { h.p with ts := u.tsNow f.ctx, flags := a } })) ∧
        (∀ h, f.forwarded = false → f.body = .ctrl h → g.body = .ctrl (sealHdr { h with p := { h.p with ts := u.tsNow f.ctx } })) ∧
        (t.mac m).queues = ((u.mac m).popHead q).queues ∧
        (t.mac m).busyUntil = u.clk.cycle + cyclesOfNs (frameNs (u.mac m).rateMbps f.len))
  ∧ (∀ mac h bad u (s : State), h.p.dstDev ≠ s.deviceId → (s.port (mac / 4)).encap = 0 → u = s.countRx mac h.pcp (fwdFrame mac h).len → ∃ t : State,
      exec (.frameForward mac h bad) s = .next t ∧
        (s.life.debug = 2 → t = u.countFab 9) ∧
        (s.life.debug ≠ 2 → h.p.hcrc ≠ hcrcOf h → t = u.countFab 0) ∧
        (s.life.debug ≠ 2 → h.p.hcrc = hcrcOf h → s.egress mac h = none → t = u.fwdDrop h.p.dstDev (mac / 4)) ∧
        (∀ port m, s.life.debug ≠ 2 → h.p.hcrc = hcrcOf h → s.egress mac h = some (port, m) →
          (u.cutThrough mac m h = true → t.out = s.out ++ [Output.frame m { fwdFrame m h with fcsBad := bad }]) ∧
          (u.cutThrough mac m h = false → bad = true → t = u.countMac mac 32 1) ∧
          (u.cutThrough mac m h = false → bad = false → 524288 < u.fwdBytes port + (fwdFrame m h).len → t = u.countFab 10) ∧
          (u.cutThrough mac m h = false → bad = false → u.fwdBytes port + (fwdFrame m h).len ≤ 524288 →
            t = (u.enqueue m h.pcp (fwdFrame m h)).countFab 12)))

/-- Migration and residency (R200, R201, R203 to R210, R569 to R571). A slot takes the next queued tile to COPYING; the copy puts its bytes at the destination
and enters COMMITTING; the commit makes the destination its frame and gives the source frame up; an abort enters ABORTING with its cause; its end leaves the
tile RESIDENT at the source and gives the destination up. After a commit and after an abort the writes that stalled proceed and the requests that wait
are placed. A pass of the residency manager asks for a move that R200 admits. In standby neither begins anything (log 98). -/
def Obligations.MigrateRowsComplete : Prop :=
  (∀ x m (s : State), s.power.state ≠ .standby → s.slotFor x = true → ((s.ctx x).sealed_ = true ∨ s.turnOf = some x) → s.nextMig x = some m → ∃ t u : State,
      exec (.migrationSlotGrant x) s = .next t ∧ t = u.placeAsks x ∧ (u.ctx x).migEntry m.tile = { (s.ctx x).migEntry m.tile with state := 2 } ∧
      u.migs = s.migs ∧ u.mem = s.mem)
  ∧ (∀ x n m (s : State), s.migOf x n = some m → ((s.ctx x).migEntry n).state = 2 → s.aheadOf m = false → ∃ t : State, exec (.migrationCopyDone x n) s = .next t ∧
      (t.ctx x).migEntry n = { (s.ctx x).migEntry n with state := 3 } ∧ ((s.migAddr m).1 = (s.migAddr m).2 → t.mem = s.mem) ∧
      ((s.migAddr m).1 ≠ (s.migAddr m).2 → t.mem = (s.memCopy (s.migAddr m).1 (s.migAddr m).2 tileBytes).mem))
  ∧ (∀ x n m e (s : State), s.migOf x n = some m → e = (s.ctx x).migEntry n → e.state = 3 → ∃ t u : State, exec (.migrationCommit x n) s = .next t ∧
      t = ((u.unstall x n).placeAsks x).releaseWindows ∧
      (u.ctx x).bankEntry ((s.ctx x).migBank n) n =
        { e with state := 0, tier := e.destTier, frame := e.destFrame, lender := e.destLender, policy := m.policy
                 core := if e.destTier = 0 then m.region else m.core, destTier := 0, destFrame := 0, destLender := 0 } ∧
      u.migs = s.migs.filter (fun k => !(k.ctx = x && k.tile = n)) ∧
      (e.tier = 0 ∨ (s.migAddr m).1 = (s.migAddr m).2 → u.mem = s.mem) ∧
      (e.tier ≠ 0 → (s.migAddr m).1 ≠ (s.migAddr m).2 → u.mem = (s.clearMem (s.migAddr m).1 tileBytes).mem))
  ∧ (∀ x n a m e (s : State), s.migOf x n = some m → e = (s.ctx x).migEntry n → e.state ≠ 0 → e.state ≠ 4 → ∃ t : State,
      exec (.migrationAbort x n a) s = .next t ∧
        ((a = .fence ∧ ((s.ctx x).fenced = true ∨ (s.ctx x).state = .tearing)) ∨ ((a = .reclaim ∨ a = .lenderLost) ∧ e.destTier = 3) ∨ a = .verifyError ∨ a = .sourceError →
          ((t.ctx x).migEntry n).state = 4 ∧ ∃ k ∈ t.migs, k.ctx = x ∧ k.tile = n ∧ k.cause = some a) ∧
        ((a = .fence ∧ (s.ctx x).fenced = false ∧ (s.ctx x).state ≠ .tearing) ∨ ((a = .reclaim ∨ a = .lenderLost) ∧ e.destTier ≠ 3) → t = s) ∧
        (a = .verifyError → ∃ l, l < 1024 ∧ t = (s.draw.abortMig x n a).verifyFails x n l e m.region) ∧
        (a = .sourceError → ∃ l, l < 1024 ∧ t = (s.draw.abortMig x n a).uncorrectable x ((s.ctx x).migBank n) n l (eccClass e.tier) 4 0xFFFF))
  ∧ (∀ x n m e (s : State), s.migOf x n = some m → e = (s.ctx x).migEntry n → e.state = 4 → ∃ t u : State, exec (.migrationAbortDone x n) s = .next t ∧
        (u.ctx x).bankEntry ((s.ctx x).migBank n) n = { e with state := 0, destTier := 0, destFrame := 0, destLender := 0 } ∧
        u.migs = s.migs.filter (fun k => !(k.ctx = x && k.tile = n)) ∧ u.mem = (s.releaseFrame x n e.destTier m.region e.destFrame).mem ∧
        (m.cause ≠ some .reclaim → (m.cause = some .verifyError → m.retried = true) → t = ((u.unstall x n).finish m.handle 0x25).placeAsks x) ∧
        (m.cause = some .reclaim → t = ((u.unstall x n).askElsewhere x n m).placeAsks x))
  ∧ (∀ x ms v (s : State), s.power.state ≠ .standby → (s.ctx x).created = true → (s.ctx x).fenced = false → v = (match (s.ctx x).resNs with | some a => s.toTai (a + 100000) | none => s) →
      ∃ t : State, exec (.residencyPass x ms) s = .next t ∧ t.clk = v.clk ∧ (t.ctx x).resNs = some v.clk.tai.ns ∧
      (∀ m, ms = [m] → s.residencyOk x m = false → t.migs = s.migs ∧ t.asks = s.asks) ∧
      (∀ m e d, ms = [m] → s.residencyOk x m = true → e = (s.ctx x).entry m.tile → ((s.ctx x).migEntry m.tile).state = 0 →
        e.placed m.tier 1 e.core m.region = false → s.queuedMigs x < 4096 →
        s.askDest { ctx := x, tile := m.tile, bank := (s.ctx x).weights.active, tier := m.tier, policy := 1, core := e.core, region := m.region } e = some d →
        t.migs = s.migs ++ [({ ctx := x, tile := m.tile, bank := (s.ctx x).weights.active, policy := 1, core := e.core, region := d.2.1 } : Mig)] ∧
        (t.ctx x).entry m.tile = { e with state := 1, destTier := d.1, destLender := d.2.2.1, destFrame := d.2.2.2 }))
  ∧ (∀ x ms (s : State), s.power.state = .standby → exec (.migrationSlotGrant x) s = .next s ∧ exec (.residencyPass x ms) s = .next s)

/-- Fences, sparing and windows (R214, R215, R225, R226, R229 to R234). A fence that waits takes effect; at the end of a row's copy the map names the spare
row, the writes held go to it and the cullet list says so; a lane with eight corrected errors in 24 hours is spared; a failing bank is withdrawn; a slice's state
follows its temperature; a deadline revokes a window at its lender and ends it at its borrower. -/
def Obligations.SparingRowsComplete : Prop :=
  (∀ x (s : State), (s.ctx x).fenceDue = true → ∃ t : State, exec (.contextFence x none) s = .next t ∧ (t.ctx x).fenced = true ∧ (t.ctx x).fenceDue = false ∧
      (t.ctx x).insts = [])
  ∧ (∀ loc row k (s : State), s.rowCopies.find? (fun c => c.loc = loc && c.row = row) = some k → ∃ t : State, ∃ n, exec (.rowSpareSwitch loc row) s = .next t ∧
      n < 131072 ∧ t.rowMap = s.rowMap.filter (fun e => !(e.1 = loc && e.2.1 = row)) ++ [(loc, row, n)] ∧ (∀ c ∈ t.rowCopies, ¬ (c.loc = loc ∧ c.row = row)) ∧
      (s.rowCopies = [k] → t.rowCopies = [] ∧ t.mem = k.held.foldl (fun a w => Memory.write a w.1 w.2) s.mem) ∧
      (s.culls.length < 4096 → ∃ e, t.culls = s.culls ++ [e] ∧ e.type = loc.rowType ∧ e.action = 1 ∧ e.location = loc.code (s.rowNow loc row) ∧ e.spare = loc.code n))
  ∧ (∀ layer slice lane (s : State), 8 ≤ ((List.range 16).map (fun b => (BankLoc.t1 layer slice b).key)).foldl
          (fun a k => a + ((recent s.clk.tai.ns (s.banks.getOr k {}).laneHits).filter (fun p => p.1 = lane)).length) 0 →
      (s.laneSpares.filter (fun p => p.1 = layer * 12 + slice)).length < 2 → s.laneSpares.contains (layer * 12 + slice, lane) = false → ∃ t : State,
        exec (.laneSpare layer slice lane) s = .next t ∧ t.laneSpares = s.laneSpares ++ [(layer * 12 + slice, lane)] ∧ t.mem = s.mem)
  ∧ (∀ layer slice bank (s : State), s.withdrawn.contains (1, slice * 64 + layer * 16 + bank) = false → bank < 16 →
      (32 ≤ (s.banks.getOr (BankLoc.t1 layer slice bank).key {}).sparesUsed ∨
        3 ≤ ((recent s.clk.tai.ns (s.banks.getOr (BankLoc.t1 layer slice bank).key {}).rowUnc).map (fun p => p.1)).eraseDups.length) → ∃ t : State,
        exec (.bankSpare layer slice bank) s = .next t ∧ t.withdrawn = s.withdrawn ++ [(1, slice * 64 + layer * 16 + bank)] ∧ t.mem = s.mem ∧
        t.bankSpares = (if s.bankSpares.contains (layer * 12 + slice) = true then s.bankSpares else s.bankSpares ++ [layer * 12 + slice]))
  ∧ (∀ layer slice centi (s : State), ∃ t : State, exec (.sliceTemperatureChange layer slice centi) s = .next t ∧
      t.power.slices.getOr (layer * 12 + slice) 0 = sliceState (s.power.slices.getOr (layer * 12 + slice) 0) centi)
  ∧ (∀ w l (s : State), s.lend.find w = some l → l.state = 2 → ∃ t : State, exec (.reclaimDeadline (.lender w)) s = .next t ∧ t.clk = (s.toTai l.deadline).clk ∧
      t.lend.find w = some { l with state := 3 })
  ∧ (∀ a w d (s : State), s.ctxs.findSome? (fun e => e.2.t3.findSome? (fun v => if v.lender = a ∧ v.window = w then v.deadline else none)) = some d → ∃ t : State,
      exec (.reclaimDeadline (.borrower a w)) s = .next t ∧ t.clk = (s.toTai d).clk ∧ ∀ x, ∀ v ∈ (t.ctx x).t3, ¬ (v.lender = a ∧ v.window = w))

/-- The control messages (R216, R250, R275 to R280, R475). An OPEN is refused with its reason when no running job or no rank of it is there, and else opens
a flow; its answers open or release the flow; CLOSE and CLOSE_DONE drain and close it; a query is answered and its answer rebuilds or fails a lost
flow; the lending messages mark, release and lose windows; a probe is answered and its answer measured; CTRL_ACK ends a retransmission and opens the flow
that it acknowledges; a message unacknowledged is sent again, and after ten attempts its peer is unreachable. -/
def Obligations.FlowControlRowsComplete : Prop :=
  (∀ mac p (s : State), s.CtrlArrives 0xE0 p → p.payload.length = 28 → be p.payload 26 2 = 0 → ∃ t : State, exec (.openFlow mac p) s = .next t ∧
      ((∀ e ∈ s.ctxs, e.2.job.phase < 3) → Sends s t p.srcDev 0xE2 (beBytes 4 (be p.payload 16 4) ++ beBytes 1 1 ++ zeros 3)) ∧
      (∀ x c im, s.ctxs = [(x, c)] → 3 ≤ c.job.phase → c.job.image = some im → im.man.jobId = be p.payload 0 8 →
        c.job.rankNow = some [be p.payload 8 2, be p.payload 10 2, be p.payload 12 2, be p.payload 14 2] → c.fenced = false → c.admitsFlows = true →
        s.debugMatch p.srcDev = true → c.job.joins p.srcDev = true → s.flows = [] → 0 < c.grants.flows →
        (t.flow 256).state = .opening ∧ (t.flow 256).ctx = x ∧ (t.flow 256).peer = p.srcDev ∧ (t.flow 256).peerFlow = be p.payload 16 4 ∧
        (t.flow 256).queue = be p.payload 24 1 ∧ (t.flow 256).expected = be p.payload 20 4 ∧ Sends s t p.srcDev 0xE1
          (beBytes 4 (be p.payload 16 4) ++ beBytes 4 256 ++ beBytes 4 (t.flow 256).nextPsn ++ zeros 4)))
  ∧ (∀ mac p f (s : State), s.CtrlArrives 0xE1 p → p.payload.length = 16 → be p.payload 12 4 = 0 → f = be p.payload 0 4 → (s.flow f).state = .opening →
      (s.flow f).peer = p.srcDev → (s.flow f).peerFlow = 0 → ∃ t : State, exec (.openAccept mac p) s = .next t ∧ (t.flow f).state = .open_ ∧
        (t.flow f).peerFlow = be p.payload 4 4 ∧ (t.flow f).expected = be p.payload 8 4 ∧ (t.flow f).exec = be p.payload 8 4 ∧
        (t.flow f).nextPsn = (s.flow f).nextPsn)
  ∧ (∀ mac p f (s : State), s.CtrlArrives 0xE2 p → p.payload.length = 8 → be p.payload 5 3 = 0 → f = be p.payload 0 4 → (s.flow f).state = .opening →
      (s.flow f).peer = p.srcDev → (s.flow f).peerFlow = 0 → ∃ t u : State, exec (.openRefuse mac p) s = .next t ∧
      u.flows = s.flows.del f ∧ t = u.retryOpens (s.flow f).ctx)
  ∧ (∀ mac p f (s : State), s.CtrlArrives 0xE3 p → p.payload.length = 8 → s.closing p.srcDev p.payload = true → f = be p.payload 4 4 → ∃ t : State,
      exec (.closeFlow mac p) s = .next t ∧
        ((s.flow f).tx ≠ [] → (t.flow f).state = .draining ∧ (t.flow f).closing = true ∧ t.ctrl = s.ctrl) ∧
        ((s.flow f).tx = [] → (s.flow f).doneSent = false → (s.flow f).closeSeen = false → (t.flow f).state = .draining ∧ (t.flow f).doneSent = true ∧
          Sends s t (s.flow f).peer 0xE4 (beBytes 4 f ++ beBytes 4 (s.flow f).peerFlow)))
  ∧ (∀ mac p f (s : State), s.CtrlArrives 0xE4 p → p.payload.length = 8 → s.closing p.srcDev p.payload = true → f = be p.payload 4 4 → ∃ t : State,
      exec (.closeDone mac p) s = .next t ∧ ((s.flow f).tx ≠ [] → (t.flow f).state = .draining ∧ (t.flow f).closeSeen = true) ∧
        ((s.flow f).tx = [] → ∃ u : State, u.flows.find f = none ∧ t = u.retryOpens (s.flow f).ctx))
  ∧ (∀ mac p f (s : State), s.CtrlArrives 0xE5 p → p.payload.length = 8 → f = be p.payload 4 4 → (s.flow f).peer = p.srcDev → (s.flow f).peerFlow = be p.payload 0 4 →
      ∃ t : State, exec (.resyncQuery mac p) s = .next t ∧ Sends s t p.srcDev 0xE6 (beBytes 4 (be p.payload 0 4) ++ beBytes 4 (s.flow f).nextPsn ++
        beBytes 4 (s.flow f).una ++ beBytes 4 (s.flow f).expected ++ beBytes 1 (s.flow f).state.code ++ zeros 3))
  ∧ (∀ mac p f (s : State), s.CtrlArrives 0xE6 p → p.payload.length = 20 → be p.payload 17 3 = 0 → f = be p.payload 0 4 → (s.flow f).lost = true →
      (s.flow f).peer = p.srcDev → ∃ t : State, exec (.resyncState mac p) s = .next t ∧ (t.flow f).lost = false ∧
        (be p.payload 16 1 ≠ 2 → (s.flow f).state = .open_ → (t.flow f).state = .failed) ∧
        (∀ d, (s.flow f).lastDone = some d → serialGe d (psnNext (be p.payload 8 4)) = true → (s.flow f).state = .open_ → (t.flow f).state = .failed) ∧
        (be p.payload 16 1 = 2 → (s.flow f).tx = [] → (∀ d, (s.flow f).lastDone = some d → serialGe d (psnNext (be p.payload 8 4)) = false) →
          (t.flow f).state = (s.flow f).state ∧ (t.flow f).una = be p.payload 12 4 ∧
          (t.flow f).nextPsn = be p.payload 12 4 ∧
          (t.flow f).expected = psnSub (be p.payload 4 4) (psnSub (be p.payload 4 4) (be p.payload 8 4)) ∧ (t.flow f).exec = (t.flow f).expected))
  ∧ (∀ mac p (s : State), s.CtrlArrives 0xE8 p → p.payload.length = 12 → be p.payload 1 3 = 0 → ∃ t : State, exec (.reclaimNotice mac p) s = .next t ∧
      ∀ x, ∀ v ∈ (t.ctx x).t3, v.lender = p.srcDev → v.window = be p.payload 0 1 → v.deadline = some (be p.payload 4 8))
  ∧ (∀ mac p l (s : State), s.CtrlArrives 0xE9 p → p.payload.length = 4 → be p.payload 1 3 = 0 → s.lend.find (be p.payload 0 1) = some l → l.state = 2 →
      l.peers.contains p.srcDev = true → l.released.contains p.srcDev = false → ∃ t : State, exec (.windowRelease mac p) s = .next t ∧
        t.lend.find (be p.payload 0 1) = some { l with
          released := l.released ++ [p.srcDev]
          state := if l.peers.all (fun d => (l.released ++ [p.srcDev]).contains d) then 3 else 2 })
  ∧ (∀ mac p (s : State), s.CtrlArrives 0xEA p → p.payload.length = 4 → be p.payload 2 2 = 0 → (be p.payload 1 1 = 1 ∨ be p.payload 1 1 = 2) →
      ∃ t : State, exec (.windowLost mac p) s = .next t ∧
      ∀ x, ∀ v ∈ (t.ctx x).t3, ¬ (v.lender = p.srcDev ∧ v.window = be p.payload 0 1))
  ∧ (∀ mac p (s : State), s.CtrlArrives 0xEC p → probeOk p.payload = true → ∃ t : State, exec (.probe mac p) s = .next t ∧
      Sends s t p.srcDev 0xED (probeBody (be p.payload 0 4) (be p.payload 4 1) (be p.payload 5 1)))
  ∧ (∀ mac p q (s : State), s.CtrlArrives 0xED p → probeOk p.payload = true →
      s.probes.find? (fun q => q.1 = be p.payload 4 1 && q.2.1 = p.srcDev && q.2.2.1 = be p.payload 5 1 && q.2.2.2.1 = be p.payload 0 4) = some q → ∃ t : State,
        exec (.probeReply mac p) s = .next t ∧ t.probes = s.probes.filter (fun r => r != q) ∧
        (be p.payload 5 1 = 0 → ∃ l ∈ t.links, l.devB = p.srcDev ∧ l.timed = true ∧ l.latencyNs ≤ s.clk.tai.ns - q.2.2.2.2) ∧
        (be p.payload 5 1 = 2 → t.probeLast.find (be p.payload 4 1 * 65536 + p.srcDev) = some s.clk.tai.ns))
  ∧ (∀ mac p m (s : State), p.hcrc = hcrcOf (hdrOf 0xEF p) → hdrOk (hdrOf 0xEF p) = true → extOk 0xEF p.ext = true → p.payload = [] → p.dstDev = s.deviceId →
      p.dstFlow = 0 → s.ctrl.find? (fun k => k.peer = p.srcDev && k.msgId = be p.ext 0 4 && k.attempts != 0) = some m → ∃ t : State,
        exec (.ctrlAck mac p) s = .next t ∧ (∀ k ∈ t.ctrl, ¬ (k.peer = p.srcDev ∧ k.msgId = be p.ext 0 4)) ∧
        (m.op = 0xE1 → (s.flow (be m.body 4 4)).state = .opening → (t.flow (be m.body 4 4)).state = .open_))
  ∧ (∀ peer id m (s : State), s.ctrl.find? (fun k => k.peer = peer && k.msgId = id && k.attempts != 0) = some m → ∃ t : State,
      exec (.ctrlRetransmitTimeout peer id) s = .next t ∧ t.clk = (s.toTai m.dueNs).clk ∧
        (m.attempts < 10 → t.ctrl = s.ctrl.map (fun k =>
          if k.peer = peer ∧ k.msgId = id then { k with attempts := k.attempts + 1, dueNs := m.dueNs + 1000000 } else k)) ∧
        (10 ≤ m.attempts → (∀ k ∈ t.ctrl, k.peer ≠ peer) ∧ ((∀ e ∈ s.ctxs, e.2.opens = []) → ∀ f ∈ s.flows, f.2.peer = peer → (t.flow f.1).state = .failed ∨ (t.flow f.1).state = .closed)))

/-- The frames, the pauses and the windows of a port (R238, R264, R289 to R291, R294 to R296, R306, R487). A request for the port's address is answered; a frame
that no unit takes is counted; PAUSE and PFC set or end the pauses of their priorities, which run out, and a receiver above its threshold repeats and ends
its own; a scheduled window opens and closes on its MAC; LLDP is sent and its neighbour kept; a transmitter enters low-power idle and leaves it before a
window. -/
def Obligations.PortRowsComplete : Prop :=
  (∀ (m a b c : Nat) (s : State), (s.port (m / 4)).encap = 1 → (s.port (m / 4)).ownIp = 4 * 2 ^ 128 + a → ∃ t : State, exec (.arpRequest m a b c) s = .next t ∧
      (t.mac m).queues.getOr 0 [] = (s.mac m).queues.getOr 0 [] ++ [({ body := .arp a b c, len := 64, wrap := s.ipWrap m c 0x0806 } : Frame)])
  ∧ (∀ (m a b c : Nat) (s : State), (s.port (m / 4)).encap = 1 → (s.port (m / 4)).ownIp = 6 * 2 ^ 128 + a → ∃ t : State, exec (.neighbourSolicitation m a b c) s = .next t ∧
      (t.mac m).queues.getOr 0 [] = (s.mac m).queues.getOr 0 [] ++ [({ body := .neighbour a b c, len := 90, wrap := s.ipWrap m c 0x86DD } : Frame)])
  ∧ (∀ m w k b (s : State), (w, k) ∈ [(DropCause.controlConfig b, 0x0200 + 80 * m + 32), (.badFcs, 0x0200 + 80 * m + 32), (.badLength, 0x0200 + 80 * m + 32), (.etherType, 0x0200 + 80 * m + 32),
        (.secondTag, 0x0200 + 80 * m + 32), (.bufferFull, 0x0200 + 80 * m + 33), (.encapsulation, 0x0C06), (.udpChecksum, 0x0C07), (.ip, 0x0C08)] →
      ∃ t : State, exec (.unhandledFrame m w) s = .next t ∧ t = s.countM k 1)
  ∧ (∀ m n q (s : State), (s.port (m / 4)).flowctl = 1 → q < 8 → ∃ t : State, exec (.pauseFrame m n) s = .next t ∧ (t.mac m).pauseAll = decide (n % 65536 ≠ 0) ∧
      (t.mac m).paused.find q = (if n % 65536 = 0 then none else some (s.clk.cycle + quantaCycles (s.mac m).rateMbps (n % 65536))))
  ∧ (∀ m en l q (s : State), (s.port (m / 4)).flowctl = 2 → q < 8 → ∃ t : State, exec (.pfcFrame m en l) s = .next t ∧ (t.mac m).paused.find q =
      (if bit en q = false then (s.mac m).paused.find q
       else if l.getD q 0 % 65536 = 0 then none else some (s.clk.cycle + quantaCycles (s.mac m).rateMbps (l.getD q 0 % 65536))))
  ∧ (∀ m q e (s : State), (s.mac m).paused.find q = some e → ∃ t : State, exec (.pauseExpiry m q) s = .next t ∧ t.clk = (s.toCycle e).clk ∧ (t.mac m).paused.find q = none)
  ∧ (∀ m q a (s : State), (s.mac m).xoffSent.find q = some a → (s.port (m / 4)).xon.getD q 0 < (s.mac m).rxOcc.getOr q 0 → ∃ t : State, exec (.pfcRepeat m q) s = .next t ∧
      t.clk = (s.toCycle (a + quantaCycles (s.mac m).rateMbps 0xFFFF * 2 / 5)).clk ∧ (∃ f, t.out = s.out ++ [Output.frame m f] ∧ f.body = .pfc (2 ^ q) 0xFFFF) ∧
      (t.mac m).xoffSent.find q = some t.clk.cycle)
  ∧ (∀ m q (s : State), (s.mac m).xoffSent.has q = true → ∃ t : State, exec (.pfcXonSend m q) s = .next t ∧ (∃ f, t.out = s.out ++ [Output.frame m f] ∧ f.body = .pfc (2 ^ q) 0) ∧
      (t.mac m).xoffSent.find q = none)
  ∧ (∀ x i e (s : State), s.windowOf x i = some e → s.evTurn x 4 i ((s.ctx x).job.atOff e.startOff) = true → ∃ t : State, ∃ w, exec (.windowOpen x i) s = .next t ∧ t.clk = (s.toTai ((s.ctx x).job.atOff e.startOff)).clk ∧
      (t.mac e.mac).window = some w ∧ w.ctx = x ∧ w.entry = i ∧ w.coll = e.collId ∧ w.endNs = (s.ctx x).job.atOff e.endOff ∧ w.rate = e.rate)
  ∧ (∀ x i e w (s : State), s.windowOf x i = some e → (s.mac e.mac).window = some w → w.ctx = x → w.entry = i → s.evTurn x 1 i w.endNs = true →
      ∃ t : State, exec (.windowClose x i) s = .next t ∧
      t.clk = (s.toTai w.endNs).clk ∧ (t.mac e.mac).window = none ∧ (t.mac e.mac).queues = (s.mac e.mac).queues)
  ∧ (∀ m pt (s : State), (s.mac m).up = true → pt = s.port (m / 4) → ∃ t : State, exec (.lldpTransmit m) s = .next t ∧ (t.mac m).lldpNs = t.clk.tai.ns ∧
      (t.mac m).queues.getOr 0 [] = (s.mac m).queues.getOr 0 [] ++
        [({ body := .lldp { chassis := macAddr 0, portId := macAddr m, sysName := Config.systemName, oui := Config.oui, device := s.deviceId, port := m / 4, mac := m,
                            lanesUp := pt.lanesUp, encap := pt.encap + (if s.life.debug = 2 then 128 else 0), fwRev := s.life.fwRev },
             len := 128, wrap := plainWrap m 0x0180C200000E 0x88CC } : Frame)])
  ∧ (∀ m n (s : State), ∃ t : State, exec (.lldpdu m n) s = .next t ∧ (t.mac m).neighbour = some n ∧ (t.mac m).neighbourNs = s.clk.tai.ns ∧
      (t.mac m).partnerWakeUs = n.eeeWakeUs)
  ∧ (∀ m (s : State), (s.port (m / 4)).eee = true → (s.mac m).partnerWakeUs.isSome = true → (s.mac m).up = true → (s.mac m).lpiTx = false →
      (s.mac m).retrainFrom = none → (s.mac m).queues.all (fun q => q.2.isEmpty) = true → s.fwdBytes (m / 4) = 0 →
      (s.toCycle ((s.mac m).idleSince + cyclesOfNs ((s.port (m / 4)).idleHoldUs * 1000))).windowNear m ((s.mac m).wakeNs + 2000) = false → ∃ t : State,
        exec (.lpiEntry m) s = .next t ∧ (t.mac m).lpiTx = true ∧ (t.mac m).lpiFrom = t.clk.cycle ∧
        t.clk = (s.toCycle ((s.mac m).idleSince + cyclesOfNs ((s.port (m / 4)).idleHoldUs * 1000))).clk)
  ∧ (∀ m x i e (s : State), s.windowOf x i = some e → e.mac = m → (s.mac m).lpiTx = true → ∃ t : State, exec (.lpiWakeForWindow m x i) s = .next t ∧
      t.clk = (s.toTai ((s.ctx x).job.atOff e.startOff - (s.mac m).wakeNs - 1000)).clk ∧ (t.mac m).lpiTx = false ∧
      (t.mac m).wakeAt = t.clk.cycle + cyclesOfNs (s.mac m).wakeNs)

/-- Time and lanes (R281, R297 to R306, R552). A Sync of the master drives the servo, within 200 ppm and without a step while a job runs; an Announce is
heard, a Delay_Req answered, a Delay_Resp gives the path delay; the timers send on queue 7; a loss of every master holds over; the edges of PPS_IN qualify and define seconds, their absence ends it; PPS_OUT rises at a second. A lane
re-calibrates alone; bad statistics and a third loss of lock retire a lane, whose MAC retrains or goes down; link-up gives a MAC its lanes. -/
def Obligations.TimeAndLaneRowsComplete : Prop :=
  (∀ m p o r n (s : State), p.domain = s.clk.domain → s.clk.follows (m / 4) p = true →
      (p.body = .sync (some n) ∧ r = s.ptpStamp (m / 4) ∨ p.body = .followUp n ∧ (s.clk.ptp.getOr (m / 4) {}).syncRx = some r) →
      o = r - n - (s.clk.ptp.getOr (m / 4) {}).delayNs → ∃ t : State, exec (.ptpMessage m p) s = .next t ∧ t.clk.masterId = p.clock ∧
      (s.jobRuns = true → t.clk.freqPpb = max (-200000) (min 200000 p.freqPpb) ∧ t.clk.tai = s.clk.tai ∧ t.clk.offsetNs = o ∧
        t.clk.ptpState = (if 1000000 < o.natAbs then 3 else 1)) ∧
      (s.jobRuns = false → o.natAbs ≤ 1000 → t.clk.freqPpb = max (-200000) (min 200000 p.freqPpb) ∧ t.clk.tai = s.clk.tai ∧ t.clk.ptpState = 1) ∧
      (s.jobRuns = false → 1000 < o.natAbs → t.clk.tai.ns = ((s.clk.tai.ns : Int) - o).toNat ∧ t.clk.ptpState = 1))
  ∧ (∀ m p (s : State), p.domain = s.clk.domain → ∃ t : State, exec (.ptpMessage m p) s = .next t ∧ t.clk.tai.frac = s.clk.tai.frac ∧
      (∀ d, p.body = .announce d → p.clock ≠ ownClock → d.steps < 255 → t.clk.tai = s.clk.tai ∧
        ({ clock := p.clock, port := p.port, data := d, heardNs := s.clk.tai.ns } : PtpForeign) ∈ (t.clk.ptp.getOr (m / 4) {}).foreign) ∧
      (p.body = .delayReq → s.clk.ptpRole (m / 4) = .master → (t.mac m).queues.getOr 7 [] = (s.mac m).queues.getOr 7 [] ++
        [({ body := .ptp (.delayResp p.clock p.port) (s.ptpStamp (m / 4)), len := 64
            wrap := { plainWrap m 0x011B19000000 0x88F7 with tag := some (7, 0) } } : Frame)]) ∧
      (∀ a b k, p.body = .delayResp k ownClock (m / 4 + 1) → s.clk.follows (m / 4) p = true → (s.clk.ptp.getOr (m / 4) {}).offNs = some a →
        (s.clk.ptp.getOr (m / 4) {}).reqNs = some b → (t.clk.ptp.getOr (m / 4) {}).delayNs = (a + (k - b)) / 2 ∧ t.clk.tai = s.clk.tai))
  ∧ (∀ p m ms k v (s : State), v = (match (s.clk.ptp.getOr p {}).sentNs with | some a => s.toTai (a + s.clk.timerNs p) | none => s) →
      s.upMacs p = m :: ms → v.clk.timerMsg p = some k → ∃ t : State, exec (.ptpSyncTimer p) s = .next t ∧ t.clk.tai = v.clk.tai ∧
      (t.mac m).queues.getOr 7 [] = (s.mac m).queues.getOr 7 [] ++
        [({ body := .ptp k 0, len := 64, wrap := { plainWrap m 0x011B19000000 0x88F7 with tag := some (7, 0) } } : Frame)])
  ∧ (∀ n (s : State), ∃ t : State, exec (.ptpHoldoverEntry n) s = .next t ∧ t.clk.ptpState = 2 ∧ t.clk.holdErrNs = n ∧ t.clk.tai = s.clk.tai ∧
      ∀ p, (t.clk.ptp.getOr p {}).foreign = [])
  ∧ (∀ n g (s : State), g = (match s.clk.ppsInLast with | some a => oneSecond a n | none => false) → ∃ t : State, exec (.ppsInEdge n) s = .next t ∧
      ((s.clk.ppsInPresent = true ∧ g = false) → t.clk.ppsInStray = s.clk.ppsInStray + 1 ∧ t.clk.ppsInLast = s.clk.ppsInLast) ∧
      (¬ (s.clk.ppsInPresent = true ∧ g = false) → t.clk.ppsInLast = some n ∧ t.clk.ppsInPresent = g ∧ t.clk.ppsInStray = s.clk.ppsInStray))
  ∧ (∀ a (s : State), s.clk.ppsInLast = some a → s.clk.ppsInPresent = true → ∃ t : State, exec .ppsInLost s = .next t ∧ t.clk.tai = (s.toTai (a + 2000000000)).clk.tai ∧
      t.clk.ppsInPresent = false ∧ t.clk.ppsInLast = none)
  ∧ (∀ n (s : State), n = (s.clk.tai.ns / 1000000000 + 1) * 1000000000 → ∃ t : State, exec .ppsOutSecond s = .next t ∧ t.clk.tai = (s.toTai n).clk.tai ∧
      t.clk.ppsOutHighUntil = (if s.clk.ppsOutEnabled = true then n + 100000000 else s.clk.ppsOutHighUntil))
  ∧ (∀ l m (s : State), s.recal = none → s.laneMac l = some m →
      (∃ t : State, exec (.laneRecalStart l .period) s = .next t ∧ t.clk = (s.toTai ((s.lane l).calNs + s.recalPeriodS * 1000000000)).clk ∧
        t.recal = some (l, t.clk.cycle)) ∧
      (∀ a, 1000 ≤ (a - (s.lane l).calCenti).natAbs → ∃ t : State, exec (.laneRecalStart l (.temperature a)) s = .next t ∧ t.recal = some (l, s.clk.cycle) ∧
        (t.lane l).calCenti = a) ∧
      (∀ e, ((laneList (s.mac m).lanes).zip (s.mac m).ratioPpb).find? (fun p => p.1 = l % 4) = some e → 1000 < e.2 → ∃ t : State,
        exec (.laneRecalStart l .errorRatio) s = .next t ∧ t.recal = some (l, s.clk.cycle)))
  ∧ (∀ l a (s : State), s.recal = some (l, a) → ∃ t : State, exec (.laneRecalApply l) s = .next t ∧ t.recal = none ∧ (t.lane l).recalibrated = true ∧
      (t.lane l).calNs = s.clk.tai.ns)
  ∧ (∀ m l (s : State), (s.mac m).retrainFrom.isSome = true → l = lowerLanes (s.mac m).bx1 (s.mac m).lanes (s.mac m).retrainLane → ∃ t : State,
      exec (.linkUpAfterRetirement m) s = .next t ∧ (t.mac m).lanes = l ∧ (t.mac m).rateMbps = 100000 * (laneList l).length ∧
      (t.mac m).retrainFrom = none ∧ (t.port (m / 4)).retired = (s.port (m / 4)).retired ||| 2 ^ (s.mac m).retrainLane)
  ∧ (∀ m a (s : State), (s.mac m).retrainFrom = some a → ∃ t : State, exec (.retrainingTimeout m) s = .next t ∧ t.clk = (s.toCycle (a + 1050000000)).clk ∧
      (t.mac m).up = false ∧ (t.mac m).lanes = 0 ∧ (t.mac m).retrainFrom = none)
  ∧ (∀ m st (s : State), ∃ t : State, exec (.fecMonitorWindow m st) s = .next t ∧ (s.fecBad m st = none → t = s.fecCount m st ∧ (t.mac m).ratioPpb = st.ratioPpb) ∧
      (∀ i, s.fecBad m st = some i → t = (s.fecCount m st).retireLane (4 * (m / 4) + i)))
  ∧ (∀ l k (s : State), k = (s.lane l).lockLoss.filter (fun t => decide (s.clk.tai.ns < t + hourNs)) ++ [s.clk.tai.ns] → ∃ t : State, exec (.laneLockLoss l) s = .next t ∧
      (t.lane l).lockLoss = k ∧
      (∀ m, 3 ≤ k.length → s.laneMac l = some m → (s.mac m).retrainFrom = none →
        (lowerLanes (s.mac m).bx1 (s.mac m).lanes (l % 4) ≠ 0 → (t.mac m).retrainFrom = some s.clk.cycle ∧ (t.mac m).retrainLane = l % 4) ∧
        (lowerLanes (s.mac m).bx1 (s.mac m).lanes (l % 4) = 0 → (t.mac m).up = false)))
  ∧ (∀ p ms l m (s : State), s.portDown p = false → s.start.inReset = false → m ∈ portMacs (s.port p).mode p → bit ms (m % 4) = true →
      (s.port p).linkLanes (s.mac m).bx1 l m ≠ 0 → ∃ t : State, exec (.linkUp p ms l) s = .next t ∧ (t.mac m).up = true ∧
        (t.mac m).lanes = (s.port p).linkLanes (s.mac m).bx1 l m ∧ (t.mac m).rateMbps = 100000 * (laneList ((s.port p).linkLanes (s.mac m).bx1 l m)).length)

/-- The life of a job (R331 to R336, R342 to R346, R349, R367, R369, R401, R454, R455, R469, R567). The plan is made and accepted; the start decision starts or
refuses the job; a step starts at its grid point with its rings at their start slots; a PREFETCH fetches or waits; losses are compared; a re-shard goes from its
request through drain, permute and commit to the new layout. -/
def Obligations.JobRowsComplete : Prop :=
  (∀ x m im (s : State), (s.ctx x).job.image = some im → (s.ctx x).job.phase = 3 → (s.ctx x).job.plan.coordinator = true → (s.ctx x).job.plan.planned = false →
      (s.ctx x).job.plan.set.all (fun d => d.1 = s.deviceId || s.planFlow x d.1) = true → ∃ t : State, exec (.planPlacement x m) s = .next t ∧
        (t.ctx x).job.plan.planned = true ∧ (t.ctx x).job.plan.devices = (s.ctx x).job.planOrder (s.links ++ m.links.filter (fun l => l.devA != s.deviceId)) ∧
        (t.ctx x).job.plan.links = s.links ++ m.links.filter (fun l => l.devA != s.deviceId) ∧ (t.ctx x).job.plan.warm = warmCounts im.man ∧
        (t.ctx x).job.plan.axisOrder = axisOrderOf im ∧ (t.ctx x).job.plan.rank = some [0, 0, 0, 0])
  ∧ (∀ x p im (s : State), (s.ctx x).job.image = some im → (s.ctx x).job.phase = 3 → (s.ctx x).job.plan.accepted = false →
      ((s.ctx x).job.plan.coordinator = true → (s.ctx x).job.plan.planned = true) → p.devices.getD p.position 0xFFFF = s.deviceId → ∃ t : State,
        exec (.planAccept x p) s = .next t ∧ (t.ctx x).job.plan.accepted = true ∧ (t.ctx x).job.plan.position = p.position ∧
        (t.ctx x).job.plan.devices = p.devices ∧ (t.ctx x).job.plan.rank =
          (if p.position < rankCount im.man then some (rankAt im.man p.axisOrder p.position) else none) ∧
        (t.ctx x).job.plan.refusals = (if p.position < rankCount im.man then s.stage4 x im p.axisOrder p.position else []))
  ∧ (∀ x im (s : State), (s.ctx x).job.image = some im → (s.ctx x).job.phase = 3 → (s.ctx x).job.plan.accepted = true →
      (∀ g b, (s.ctx x).job.plan.coordinator = false → (s.ctx x).job.plan.refusals = [] → ∃ t : State, exec (.jobStartDecision x (.start g b)) s = .next t ∧
        (t.ctx x).state = .running ∧ (t.ctx x).job.phase = 4 ∧ (t.ctx x).job.plan.gridStart = g ∧ (t.ctx x).job.step = im.man.firstStep ∧
        (b = true → (t.ctx x).recov.state = .selecting)) ∧
      ((s.ctx x).job.plan.coordinator = false → ∃ t : State, exec (.jobStartDecision x .refusal) s = .next t ∧ (t.ctx x).job.phase = 2) ∧
      (∀ rs, (s.ctx x).job.plan.coordinator = true → (s.ctx x).job.plan.devices.all (fun v => v = s.deviceId || rs.any (fun r => r.device = v)) = true → ∃ t : State,
        exec (.jobStartDecision x (.gathered rs)) s = .next t ∧
        ((∃ r ∈ rs, r.refusals ≠ []) ∨ (s.ctx x).job.plan.refusals ≠ [] → (t.ctx x).job.phase = 2) ∧
        (rs = [] → (s.ctx x).job.plan.refusals = [] → windowsAgree im (s.ctx x).job.plan.axisOrder = true → (t.ctx x).state = .running ∧ (t.ctx x).job.phase = 4 ∧
          (t.ctx x).job.plan.gridStart = gridAt im.man (s.fabricNs x + 10000000)) ∧
        (windowsAgree im (s.ctx x).job.plan.axisOrder = false → (t.ctx x).job.phase = 2)))
  ∧ (∀ x (s : State), (s.ctx x).job.phase = 3 → (s.ctx x).job.plan.coordinator = true → (s.ctx x).job.plan.planned = false →
      (∃ d ∈ (s.ctx x).job.plan.set, d.1 ≠ s.deviceId ∧ s.planFlow x d.1 = false) → ∃ t : State, exec (.startWaitTimeout x) s = .next t ∧
        t.clk = (s.toTai ((s.ctx x).job.plan.startNs + 30000000000)).clk ∧ (t.ctx x).job.phase = 2)
  ∧ (∀ x im (s : State), (s.ctx x).job.image = some im → (s.ctx x).job.phase = 4 → s.stepRetired x = true → s.stepHeld x = false →
      ((s.ctx x).job.selfTest = true → (s.ctx x).job.firstDone = true → (s.ctx x).job.step < im.man.firstStep + 15) →
      s.evTurn x 3 0 ((s.ctx x).job.epoch + (s.stepGrid x im.man).1) = true → ∃ t : State, exec (.jobStepStart x) s = .next t ∧
        t.clk = (s.toFabric x (s.stepGrid x im.man).1).clk ∧ (t.ctx x).job.step = (s.ctx x).job.nextStepNo ∧
        (t.ctx x).job.stepStart = (s.stepGrid x im.man).1 ∧ (t.ctx x).job.firstDone = true ∧
        ∀ c r, ((s.ring c r).ctx = x → ((s.core c).rings.find r).isSome = true → (s.cores.find c).isSome = true →
          (t.ring c r).next = (s.ring c r).start ∧ (t.ring c r).running = (s.ring c r).valid))
  ∧ (∀ x im (s : State), (s.ctx x).job.image = some im → (s.ctx x).job.phase = 4 → s.stepRetired x = true → s.stepHeld x = false → (s.ctx x).job.selfTest = true →
      (s.ctx x).job.firstDone = true → im.man.firstStep + 15 ≤ (s.ctx x).job.step → ∃ t : State, exec (.jobStepStart x) s = .next t ∧ (t.ctx x).state = .ready ∧
        (t.ctx x).job.phase = 0 ∧ (t.ctx x).job.step = ((s.ctx x).job.step + 1) % 2 ^ 40)
  ∧ (∀ x d e u (s : State), ((List.range (s.ctx x).job.events.length).filterMap (fun i => (s.ctx x).job.entry i)).find? (fun e => e.type = 3) = some e →
      (s.ctx x).job.phase = 4 → (s.ctx x).fenced = false → (s.ctx x).feed.entries ≠ 0 → s.evTurn x 6 0 ((s.ctx x).job.atOff e.startOff) = true → u = s.toTai ((s.ctx x).job.atOff e.startOff) → ∃ t : State,
        exec (.prefetch x d) s = .next t ∧ t.clk = u.clk ∧
        (s.life.fwSwitch = true → (t.ctx x).job.prefetchDue = true) ∧
        (s.life.fwSwitch = false → s.pcie.linkUp = true → d.reachable = true → d.fetched ≤ d.produced →
          t.mem = (u.localWrite x (d.dstTile * tileBytes) d.data).mem ∧ (t.ctx x).feed.cursor = d.cursor ∧ (t.ctx x).feed.waiting = false) ∧
        (s.life.fwSwitch = false → (s.pcie.linkUp = false ∨ d.reachable = false ∨ d.produced < d.fetched) →
          t.mem = s.mem ∧ (t.ctx x).feed.waiting = true))
  ∧ (∀ x d (s : State), (s.ctx x).feed.waiting = true → ∃ t : State, exec (.prefetchRetry x d) s = .next t ∧ t.clk = (s.advance 1050000).clk ∧
        (s.pcie.linkUp = true → d.reachable = true → d.fetched ≤ d.produced →
          t.mem = ((s.advance 1050000).localWrite x (d.dstTile * tileBytes) d.data).mem ∧ (t.ctx x).feed.cursor = d.cursor ∧ (t.ctx x).feed.waiting = false) ∧
        ((s.pcie.linkUp = false ∨ d.reachable = false ∨ d.produced < d.fetched) → t.mem = s.mem ∧ (t.ctx x).feed.waiting = true))
  ∧ (∀ x n ls (s : State), (s.ctx x).job.plan.coordinator = true → ((s.ctx x).job.replicated = true ∨ (s.ctx x).job.validating ≠ 0 ∨ (s.ctx x).recov.state = .checking ∨
      (s.ctx x).recov.state = .selecting ∧ (s.ctx x).recov.retried = true) →
      ∃ t : State, exec (.validationLossCompare x n ls) s = .next t ∧
        (t.ctx x).job.failedModules = ((s.ctx x).job.failedModules ++ failing (s.expectedLoss x n) ls).eraseDups ∧ t.mem = s.mem)
  ∧ (∀ x q (s : State), (s.ctx x).job.phase = 4 → (s.ctx x).job.nextStepNo ≤ q.boundaryStep → s.nandUsed x + q.secureBytes + nandJournal ≤ nandSize → ∃ t : State,
      exec (.reshardRequest x q) s = .next t ∧
        ((s.ctx x).forced = true → (t.ctx x).job.reshard = { state := .permuting, boundary := q.boundaryStep, moves := q.moves, flows := q.flows
                                                             secureBytes := q.secureBytes, newFrames := (s.ctx x).job.reshard.newFrames }) ∧
        ((s.ctx x).forced = false → (s.ctx x).job.reshard.state ∈ [.idle, .requested, .atBoundary, .drainingOld] →
          (t.ctx x).job.reshard = { state := .requested, boundary := q.boundaryStep, moves := q.moves, flows := q.flows, secureBytes := q.secureBytes }) ∧
        ((s.ctx x).forced = false → (s.ctx x).job.reshard.state ∈ [.permuting, .committing] → (t.ctx x).job.reshard = { (s.ctx x).job.reshard with queued := some q }))
  ∧ (∀ x (s : State), (s.ctx x).job.reshard.state = .requested → (s.ctx x).job.nextStepNo = (s.ctx x).job.reshard.boundary → s.stepRetired x = true → ∃ t : State,
      exec (.reshardBoundary x) s = .next t ∧ (t.ctx x).job.reshard = { (s.ctx x).job.reshard with state := .drainingOld })
  ∧ (∀ x (s : State), (s.ctx x).job.reshard.state = .drainingOld → (s.ctx x).updates = [] → (∀ e ∈ (s.ctx x).insts, e.2.issued = false) → (s.ctx x).sec.current = none → ∃ t : State,
      exec (.reshardDrainDone x) s = .next t ∧ (t.ctx x).job.reshard.state = .permuting ∧
        ((s.ctx x).job.reshard.moves = [] → (t.ctx x).job.reshard.sent = 0 ∧ (t.ctx x).job.reshard.acked = 0))
  ∧ (∀ x (s : State), (s.ctx x).job.reshard.state = .permuting → ∃ t : State, exec (.permuteInstance x) s = .next t ∧
      t = s.sendMoves x ((unitMoves (s.ctx x).job.reshard.moves).drop (s.ctx x).job.reshard.sent))
  ∧ (∀ x (s : State), (s.ctx x).job.reshard.state = .permuting → (∀ e ∈ s.trk, e.2.ctx = x → e.2.kind ≠ .permute) →
      (unitMoves (s.ctx x).job.reshard.moves).length ≤ (s.ctx x).job.reshard.acked → ∃ t : State, exec (.reshardPermuteDone x) s = .next t ∧
        (t.ctx x).job.reshard = { (s.ctx x).job.reshard with state := .committing, reports := (s.ctx x).job.reshard.reports + 1 })
  ∧ (∀ x n (s : State), (s.ctx x).job.reshard.state = .committing → (s.ctx x).recov.state ≠ .refilling → ∃ t : State, exec (.reshardCommitBroadcast x n) s = .next t ∧
      (t.ctx x).job.reshard = { (s.ctx x).job.reshard with commitNs := max n (s.fabricNs x + 2000000) })
  ∧ (∀ x lay im (s : State), (s.ctx x).job.image = some im → (s.ctx x).job.reshard.state = .committing → (s.ctx x).job.reshard.commitNs ≠ 0 →
      (s.ctx x).recov.state ≠ .refilling → ∃ t : State,
      exec (.reshardCommit x lay) s = .next t ∧ t.clk = (s.toFabric x (s.ctx x).job.reshard.commitNs).clk ∧
        (t.ctx x).job.layoutEpoch = ((s.ctx x).job.layoutEpoch + 1) % 65536 ∧ (t.ctx x).job.plan.devices = lay.devices ∧
        (t.ctx x).job.plan.position = lay.position ∧ (t.ctx x).job.events = lay.events ∧ (t.ctx x).insts = [] ∧ (t.ctx x).sec.fullForm = true ∧
        (t.ctx x).job.notBefore = (s.ctx x).job.reshard.commitNs + 50400 ∧
        ((s.ctx x).job.reshard.queued = none → (t.ctx x).job.reshard.state = .idle))

/-- Securing and recovery (R376, R377, R384, R385, R387 to R391, R395 to R400, R403 to R406). A BOUNDARY whose securing is due captures, is late, or waits; the parts end in
PARTS_DONE; the coordinator commits, and so does each member; the loss reaches its generation. A trigger begins a recovery, HALT fences the member, the halt ends
with a target, in LOST or waiting; the refill rolls the member back, the checks lead to the replay or to a new selection, and the comparison ends the
recovery, selects again, or fails it. -/
def Obligations.SecuringRowsComplete : Prop :=
  (∀ x im (s : State), (s.ctx x).job.image = some im → (s.ctx x).job.phase = 4 → (s.ctx x).fenced = false → (s.ctx x).job.boundaryDue = true →
      s.life.fwSwitch = false → s.stepRetired x = true → ∃ t : State, exec (.boundary x) s = .next t ∧
        (s.secDue x = false ∨ (s.ctx x).job.plan.rank = none → (t.ctx x).job.boundaryDue = false ∧ (t.ctx x).sec = (s.ctx x).sec) ∧
        (s.secDue x = true → (s.ctx x).job.plan.rank ≠ none → (s.ctx x).sec.current.isSome = true → (t.ctx x).sec.lateCount = (s.ctx x).sec.lateCount + 1 ∧ (t.ctx x).job.boundaryDue = false) ∧
        (s.secDue x = true → (s.ctx x).job.plan.rank ≠ none → (s.ctx x).sec.current = none → s.chanBusy x = true → (t.ctx x).job.boundaryDue = true ∧ (t.ctx x).sec = (s.ctx x).sec) ∧
        (s.secDue x = true → (s.ctx x).job.plan.rank ≠ none → (s.ctx x).sec.current = none → s.chanBusy x = false → (t.ctx x).job.boundaryDue = false ∧
          (t.ctx x).sec.generation = ((s.ctx x).sec.generation + 1) % 2 ^ 32 ∧ (t.ctx x).sec.blocks = s.stateBlocks x ∧
          ∃ r, (t.ctx x).sec.current = some r ∧ r.state = 0 ∧ r.generation = (s.ctx x).sec.generation ∧ r.jobId = im.man.jobId ∧
            r.lastStep = (s.ctx x).job.step ∧ r.layoutEpoch = (s.ctx x).job.layoutEpoch ∧ r.boundaryNs = s.fabricNs x ∧ r.mode = secMode im ∧
            r.increment = (t.ctx x).sec.incr.length))
  ∧ (∀ x i e im (s : State), (s.ctx x).job.image = some im → (s.ctx x).job.phase = 4 → (s.ctx x).fenced = false → (s.ctx x).job.boundaryDue = false →
      (List.range (s.ctx x).job.events.length).find? (fun i => match (s.ctx x).job.entry i with | some e => e.type = 4 | none => false) = some i →
      (s.ctx x).job.entry i = some e → s.evTurn x 2 i ((s.ctx x).job.atOff e.startOff) = true → ∃ t : State,
        exec (.boundary x) s = .next t ∧ t.clk = (s.toTai ((s.ctx x).job.atOff e.startOff)).clk ∧ (2, i) ∈ (t.ctx x).job.evDone ∧
        (s.life.fwSwitch = true ∨ s.stepRetired x = false → (t.ctx x).job.boundaryDue = true))
  ∧ (∀ x r (s : State), (s.ctx x).sec.current = some r → r.state = 0 →
      (r.parity = true → (∀ e ∈ s.trk, e.2.ctx = x → e.2.kind ≠ .parity r.generation) → ∃ t : State, exec (.securingPartDone x .parity) s = .next t ∧
        (t.ctx x).sec.partParity = true ∧ (r.snapshot = false ∨ (s.ctx x).sec.partSnap = true → (t.ctx x).sec.current = some { r with state := 1 })) ∧
      (r.snapshot = true → s.pins.nandClosed = false → ∃ t : State, exec (.securingPartDone x .snapshot) s = .next t ∧ (t.ctx x).sec.partSnap = true ∧
        t.nand = s.nand ++ [({ jobId := r.jobId, role := 0, record := { r with state := 1 }, blocks := (s.ctx x).sec.blocks,
                               tiles := (s.ctx x).sec.incr.map (s.nandTile x), whole := true } : NandGen)] ∧
        (r.parity = false ∨ (s.ctx x).sec.partParity = true → (t.ctx x).sec.current = some { r with state := 1 })))
  ∧ (∀ x c im (s : State), (s.ctx x).job.image = some im → im.man.jobId = c.record.jobId → 1 < rankCount im.man → s.pins.nandClosed = false →
      c.record.snapshot = true → ∃ t : State, exec (.securingPartDone x (.mirror c)) s = .next t ∧
        t.nand = s.nand ++ [({ jobId := c.record.jobId, role := 1, record := { c.record with state := 1 }, blocks := c.blocks, whole := true,
                               tiles := c.tiles.map (fun e => (e.1, Memory.cells 0 e.2)) } : NandGen)])
  ∧ (∀ x r im (s : State), (s.ctx x).sec.current = some r → r.state = 1 → (s.ctx x).job.image = some im → (s.ctx x).job.plan.coordinator = true → ∃ t : State,
      exec (.securingCommit x) s = .next t ∧ (t.ctx x).sec.current = none ∧ (t.ctx x).sec.nextStep = r.lastStep + (interval im.securing im.man (rankCount im.man) (s.ctx x).sec.costs
          (((s.clk.tai.ns - (s.ctx x).sec.rankFromNs : Nat) : Rat) / 1000000000)
          ((s.ctx x).sec.recoveries.filter (fun t => decide (s.clk.tai.ns < t + dflt im.securing.windowS 2592000 * 1000000000))).length).1 ∧ (t.ctx x).sec.captures = [] ∧
        (t.ctx x).sec.records = (s.ctx x).sec.records ++ [({ r with state := 2, commitNs := s.fabricNs x, loss := (s.ctx x).sec.heldLoss.getD 0,
                                                                       lossValid := (s.ctx x).sec.heldLoss.isSome } : SecRec)])
  ∧ (∀ x r n k (s : State), (s.ctx x).sec.current = some r → r.state = 1 → ∃ t : State, exec (.generationCommit x r.generation n k) s = .next t ∧
        (t.ctx x).sec.current = none ∧ (t.ctx x).sec.nextStep = k ∧ (t.ctx x).sec.captures = [] ∧
        (t.ctx x).sec.records = (s.ctx x).sec.records ++ [({ r with state := 2, commitNs := n, loss := (s.ctx x).sec.heldLoss.getD 0,
                                                                       lossValid := (s.ctx x).sec.heldLoss.isSome } : SecRec)])
  ∧ (∀ x im l v (s : State), (s.ctx x).job.image = some im → (s.ctx x).job.phase = 4 → s.stepRetired x = true →
      (l = some v ∨ l = none ∧ (s.ctx x).job.plan.rank = some [0, im.man.p - 1, 0, 0] ∧
        v = BitVec.ofNat 32 (leNat (s.localRead x (im.securing.lossAddr % 2 ^ 48) 4))) → ∃ t : State, exec (.lossCapture x l) s = .next t ∧ t.mem = s.mem ∧
        (∀ r, (s.ctx x).sec.current = some r → (r.lastStep + 1) % 2 ^ 40 = (s.ctx x).job.step → (t.ctx x).sec.heldLoss = some v) ∧
        (∀ r, (s.ctx x).sec.current = none → (s.ctx x).sec.records = [r] → r.state = 2 → (r.lastStep + 1) % 2 ^ 40 = (s.ctx x).job.step →
          (t.ctx x).sec.records = [{ r with loss := v, lossValid := true }]))
  ∧ (∀ x g (s : State), (s.ctx x).job.phase = 4 → s.coordinates x g.lost = true → (s.ctx x).recov.state ≠ .lost → (s.ctx x).recov.state ≠ .verifyFailed → ∃ t : State,
      exec (.recoveryTrigger x g) s = .next t ∧ (t.ctx x).recov.state = .halting ∧
        ((s.ctx x).recov.state = .none_ → (t.ctx x).recov.trigger = g.code ∧ (t.ctx x).recov.triggerNs = g.atNs ∧ (t.ctx x).recov.lost = g.lost) ∧
        ((s.ctx x).recov.state = .refilling → (t.ctx x).recov.restarts = (s.ctx x).recov.restarts + 1))
  ∧ (∀ x (s : State), (s.ctx x).job.phase = 4 → ∃ t : State, exec (.recoveryHalt x) s = .next t ∧ (t.ctx x).recov.state = .halting ∧ (t.ctx x).fenced = true ∧
      (t.ctx x).job.reshard = (s.ctx x).job.reshard.after ((s.ctx x).job.nextStepNo + 1))
  ∧ (∀ x v w im (s : State), (s.ctx x).job.image = some im → (s.ctx x).recov.state ∈ [.halting, .selecting, .waitingForModule] → (s.ctx x).recov.trigger ≠ 5 →
      ((s.ctx x).sec.records ≠ [] ∨ v.given ≠ none) →
      w = { v with lost := (v.lost.filter (fun j => decide (j < rankCount im.man)) ++ (s.ctx x).recov.filling).eraseDups } →
      ∃ t : State, exec (.haltingEnd x v) s = .next t ∧
        (chooseTarget im (s.ctx x).recov.trigger w = none → (t.ctx x).recov.state = .lost) ∧
        (∀ g b, chooseTarget im (s.ctx x).recov.trigger w = some (g, b) → (t.ctx x).recov.targetSnap = b ∧
          (v.given = none → (t.ctx x).recov.target = s.recordOf x g) ∧
          (∀ m, v.given = some m → (t.ctx x).recov.target = some { m.record with state := 2 } ∧ (t.ctx x).sec.blocks = { m.blocks with generation := g }) ∧
          ((v.lost.filter (fun j => decide (j < rankCount im.man))).length ≤ v.standbys.length → (t.ctx x).recov.state = .cursorCheck) ∧
          (v.standbys.length < (v.lost.filter (fun j => decide (j < rankCount im.man))).length → im.man.d % 2 = 0 →
            (t.ctx x).recov.state = .cursorCheck ∧ (t.ctx x).job.layoutEpoch = ((s.ctx x).job.layoutEpoch + 1) % 65536 ∧
              (t.ctx x).job.image = some { im with man := { im.man with d := im.man.d / 2 } } ∨ (t.ctx x).recov.state = .waitingForModule) ∧
          (v.standbys.length < (v.lost.filter (fun j => decide (j < rankCount im.man))).length → im.man.d % 2 ≠ 0 →
            (t.ctx x).recov.state = .waitingForModule)))
  ∧ (∀ x l r (s : State), (s.ctx x).recov.target = some r → (s.ctx x).recov.state = .refilling → (s.ctx x).job.reshard.state ≠ .permuting →
      (∀ e ∈ (s.ctx x).weights.slots, e.2.bank = (s.ctx x).weights.active → e.2.state ≠ 0) → ∃ t : State,
      exec (.refillComplete x l) s = .next t ∧ (t.ctx x).recov.state = .checking ∧ (t.ctx x).fenced = false ∧ (t.ctx x).job.step = r.lastStep ∧
        (t.ctx x).feed.cursor = (if (s.ctx x).recov.override = true then (s.ctx x).recov.hostCursor.getD r.dataCursor else r.dataCursor))
  ∧ (∀ x l (s : State), (s.ctx x).recov.state = .checking → ∃ t : State, exec (.checkingComplete x l) s = .next t ∧
      (l = [] → (t.ctx x).recov = { (s.ctx x).recov with state := .replaying }) ∧
      (l ≠ [] → (t.ctx x).recov.state = .selecting ∧ (t.ctx x).recov.lost = ((s.ctx x).recov.lost ++ l).eraseDups))
  ∧ (∀ x v r im k (s : State), (s.ctx x).recov.target = some r → (s.ctx x).job.image = some im → (s.ctx x).recov.state = .replaying →
      (s.ctx x).job.step = (r.lastStep + 1) % 2 ^ 40 → s.stepRetired x = true → k = verifyCode im r (s.recovBlocks x).degrees (s.ctx x).job.layoutEpoch (s.ctx x).recov.override v →
      ∃ t : State, exec (.replayCompare x v) s = .next t ∧
        (k ≠ 4 → (t.ctx x).recov.state = .none_ ∧ (t.ctx x).recov.verify = k) ∧
        (k = 4 → (s.ctx x).recov.retried = false → (t.ctx x).recov.state = .selecting ∧ (t.ctx x).recov.retried = true) ∧
        (k = 4 → (s.ctx x).recov.retried = true → (t.ctx x).recov.state = .verifyFailed))

/-- Weights (R204, R417, R422 to R424, R428 to R432, R434). A shard that arrives is written and its digest compared; read back with its digest it is SEALED,
else it takes new frames once and then fails; a pass begins at the end of its period, and the shard whose turn it is counts or is fetched again; members
report, a switch is agreed, happens at its boundary, or is deferred. -/
def Obligations.WeightRowsComplete : Prop :=
  (∀ x n k d (s : State), (s.ctx x).weights.slots.find n = some k → k.state = 0 → k.arrived = false → s.shardServed x n = true → (s.ctx x).shardStalls k = false →
      (d.reachable = true → ∃ t : State, exec (.shardArrival x n d) s = .next t ∧
        t.mem = ((List.range k.tiles).foldl (fun u i => u.putShardTile x n i k (padTo (8 * k.tiles) d.headers) (padTo (tileBytes * k.tiles) d.data)) s).mem ∧
        (sm3 (padTo (8 * k.tiles) d.headers ++ padTo (tileBytes * k.tiles) d.data) = k.digest →
          (t.ctx x).weights.slots.find n = some { k with arrived := true }) ∧
        (sm3 (padTo (8 * k.tiles) d.headers ++ padTo (tileBytes * k.tiles) d.data) ≠ k.digest →
          (k.reloaded = false → (t.ctx x).weights.slots.find n = some { k with reloaded := true }) ∧
          (k.reloaded = true → (t.ctx x).weights.slots.find n = some { k with state := 3, arrived := false, handle := 0 }))) ∧
      (d.reachable = false → ∃ t : State, exec (.shardArrival x n d) s = .next t ∧ t.mem = s.mem ∧
        (t.ctx x).weights.slots.find n = some { k with state := 3, arrived := false, handle := 0 }))
  ∧ (∀ x n k errs (s : State), (s.ctx x).weights.slots.find n = some k → k.state = 0 → k.arrived = true →
      ∃ t : State, exec (.shardReadback x n errs) s = .next t ∧
        (s.shardMatches x k errs = true → t.mem = s.mem ∧
          (t.ctx x).weights.slots.find n = some { k with state := 1, reloaded := false, reread := false, handle := 0 }) ∧
        (s.shardMatches x k errs = false →
          (k.reread = false → (t.ctx x).weights.slots.find n = some { k with reread := true, arrived := false }) ∧
          (k.reread = true → (t.ctx x).weights.slots.find n = some { k with state := 3, arrived := false, handle := 0 })))
  ∧ (∀ x w (s : State), w = (s.ctx x).weights → (s.ctx x).created = true → ∃ t : State, exec (.verifyPass x) s = .next t ∧
      t.clk = (s.toTai (w.passNs + w.periodS * 1000000000)).clk ∧
      (w.passTodo = [] → (t.ctx x).weights = { w with passNs := t.clk.tai.ns, passLeft := w.sealedSlots, passLate := false }) ∧
      (w.passTodo ≠ [] → (t.ctx x).weights = { w with late := if w.passLate then w.late else w.late + 1, passLate := true }))
  ∧ (∀ x n k v l (s : State), s.verifyTurn = some (x, n) → (s.ctx x).weights.slots.find n = some k → (s.ctx x).weights.passLate = false →
      l = (s.ctx x).weights.passLeft.filter (fun i => i != n) → ∃ t : State, exec (.shardVerify x n v) s = .next t ∧
        t.verifyLast = x ∧ (t.ctx x).weights.passLeft = l ∧
        (v = .disturbed → t.mem = s.mem ∧ (t.ctx x).weights.slots.find n = some k) ∧
        (∀ errs, v = .read errs → s.shardMatches x k errs = true → t.mem = s.mem ∧ (t.ctx x).weights.slots.find n = some k) ∧
        (∀ errs, v = .read errs → s.shardMatches x k errs = false →
          (t.ctx x).weights.slots.find n = some { k with state := 0, arrived := false, reloaded := true, reread := true, handle := 0 } ∧
          (k.bank = (s.ctx x).weights.active → (s.ctx x).loaded = true → (t.ctx x).fenced = true)))
  ∧ (∀ x im w (s : State), w = (s.ctx x).weights → (s.ctx x).job.image = some im → w.pending = false → (s.ctx x).job.plan.rank.isSome = true →
      ((s.ctx x).job.plan.coordinator = true → ∃ t : State, exec (.switchAgree x .report) s = .next t ∧
        (t.ctx x).weights = { w with reports := w.reports + 1 }) ∧
      ((s.ctx x).job.phase = 4 → w.ready = true →
        (∀ n, (s.ctx x).job.plan.coordinator = false → ∃ t : State, exec (.switchAgree x (.agreed n)) s = .next t ∧
          (t.ctx x).weights = { w with pending := true, switchStep := n, reported := true }) ∧
        (∀ n, (s.ctx x).job.plan.coordinator = true → w.switchHandle ≠ 0 → w.switchRepl = w.replOf (1 - w.active) → rankCount im.man ≤ w.reports →
          n = switchStep (s.ctx x).job im.man w.earliestStep (max w.earliestNs (s.fabricNs x + 2000000)) → ∃ t : State,
            exec (.switchAgree x .decide) s = .next t ∧
            (n < (s.ctx x).job.step + 2 ^ 24 → (t.ctx x).weights = { w with pending := true, switchStep := n, reported := true }) ∧
            ((s.ctx x).job.step + 2 ^ 24 ≤ n → (t.ctx x).weights = { w with switchHandle := 0, switchRepl := 0 }))))
  ∧ (∀ x w (s : State), w = (s.ctx x).weights → s.weightsQuiet x = true →
      ((s.ctx x).loaded = true ∧ w.pending = true ∧ (s.ctx x).job.nextStepNo = w.switchStep ∧ s.stepRetired x = true ∧ (s.ctx x).updates = [] ∨
        (s.ctx x).loaded = false ∧ w.switchHandle ≠ 0 ∧ w.ready = true ∧ w.switchRepl = w.replOf (1 - w.active)) → ∃ t : State,
        exec (.puntySwitch x) s = .next t ∧ (t.ctx x).weights.active = 1 - w.active ∧ (t.ctx x).weights.pending = false ∧
        (t.ctx x).weights.slots = w.slots.filter (fun e => e.2.bank != w.active) ∧
        (t.ctx x).weights.bankGen = (if w.active = 0 then (0, w.bankGen.2) else (w.bankGen.1, 0)))
  ∧ (∀ x im b w (s : State), w = (s.ctx x).weights → (s.ctx x).job.image = some im → ∃ t : State, exec (.switchDeferral { ctx := x, told := b }) s = .next t ∧
      (w.pending = true → (b = true ∨ w.ready = false) →
        (b = true ∨ s.fabricNs x + 1000000 < (s.ctx x).job.gridOf im.man w.switchStep → (t.ctx x).weights.pending = false ∧
          (t.ctx x).weights.switchStep = 0 ∧ (t.ctx x).weights.reported = w.ready ∧ (t.ctx x).fenced = (s.ctx x).fenced) ∧
        (b = false → (s.ctx x).job.gridOf im.man w.switchStep ≤ s.fabricNs x + 1000000 → (t.ctx x).fenced = true)) ∧
      (w.pending = false → b = false → w.ready = false → (t.ctx x).weights.pending = false ∧ (t.ctx x).weights.reported = false))

/-- The session commands and the handles (R4, R441, R447 to R451, R457, R458, R463, R493). OPEN_SM2 and OPEN_PASSWORD answer with the module's part and wait for
CONFIRM, which opens the session at EPOCH 1 and tag 1; CLOSE ends it; the lockout ends; a handle is shown and expires; a command that no table lists is answered
RESERVED. -/
def Obligations.SessionRowsComplete : Prop :=
  (∀ rq key r (s : State), (s.Heard rq 1 1 ∨ s.HeardFree rq 1 1) → OnNone rq → s.opensOn rq.mb = none → rq.body.length = 98 → 1 ≤ rq.fld 0 1 → rq.fld 0 1 ≤ 32 →
      rq.fld 1 1 = 0 → key = (if rq.mb = 0 then s.life.ownerKey 1 else (s.ctx (rq.mb - 1)).authKey) →
      r = sm2Respond key (sub rq.body 2 (rq.fld 0 1)) (sub rq.body 34 64) s.fresh → ∃ t : State, exec (.openSm2 rq) s = .next t ∧
        (sm2PointOk (sub rq.body 34 64) = true → Answered t rq.mb 0 (padTo 64 r.1 ++ padTo 32 r.2.1) ∧ (t.mbox rq.mb).session.opening = true ∧
          (t.mbox rq.mb).session.newReq = r.2.2.1.take 32 ∧ (t.mbox rq.mb).session.newRsp = r.2.2.1.drop 32 ∧
          (t.mbox rq.mb).session.expectA = r.2.2.2) ∧
        (sm2PointOk (sub rq.body 34 64) = false → Answered t rq.mb 0x11 []))
  ∧ (∀ rq nm req k (s : State), (s.Heard rq 1 3 ∨ s.HeardFree rq 1 3) → rq.mb = 0 → rq.body.length = 32 → s.start.noOwner = false → s.lockedUntil ≤ s.clk.tai.ns →
      s.life.passwordOn = true → nm = padTo 32 (Config.random32 s.fresh) → k = s.life.recBody 3 21 32 → req = hmacSm3 k (0x01#8 :: rq.body ++ nm) → ∃ t : State,
        exec (.openPassword rq) s = .next t ∧ Answered t 0 0 (nm ++ padTo 16 (s.life.recBody 3 1 16) ++ padTo 4 (s.life.recBody 3 17 4)) ∧
        (t.mbox 0).session.opening = true ∧ (t.mbox 0).session.password = true ∧ (t.mbox 0).session.newReq = req ∧
        (t.mbox 0).session.newRsp = hmacSm3 k (0x02#8 :: rq.body ++ nm) ∧ (t.mbox 0).session.expectA = hmacSm3 req (nm ++ rq.body))
  ∧ (∀ rq e (s : State), (s.Heard rq 1 2 ∨ s.HeardFree rq 1 2) → OnNone rq → rq.body.length = 32 → (rq.mb = 0 ∨ s.opensOn rq.mb = none) →
      e = (s.mbox rq.mb).session → e.opening = true → ∃ t : State,
      exec (.confirm rq) s = .next t ∧
        (rq.body = e.expectA → Answered t rq.mb 0 (if e.password then hmacSm3 e.newRsp (e.nH ++ e.nM) else []) ∧
          (t.mbox rq.mb).session.isOpen = true ∧ (t.mbox rq.mb).session.kReq = e.newReq ∧ (t.mbox rq.mb).session.kRsp = e.newRsp ∧
          (t.mbox rq.mb).epoch = 1 ∧ (t.mbox rq.mb).nextTag = 1) ∧
        (rq.body ≠ e.expectA → Answered t rq.mb 0x11 [] ∧ (t.mbox rq.mb).session.opening = false ∧ (t.mbox rq.mb).session.isOpen = e.isOpen))
  ∧ (∀ rq (s : State), (s.Heard rq 1 2 ∨ s.HeardFree rq 1 2) → OnNone rq → rq.body.length = 32 → rq.mb ≠ 0 → s.opensOn rq.mb ≠ none → ∃ t : State,
      exec (.confirm rq) s = .next t ∧ Answered t rq.mb 0x10 [])
  ∧ (∀ (s : State), s.lockedUntil ≠ 0 → ∃ t : State, exec .passwordLockoutEnd s = .next t ∧ t.clk = (s.toTai s.lockedUntil).clk ∧ t.lockedUntil = 0)
  ∧ (∀ rq (s : State), s.Heard rq 1 4 → OnNone rq → rq.body = [] → ∃ t : State, exec (.sessionClose rq) s = .next t ∧ Answered t rq.mb 0 [] ∧
      (t.mbox rq.mb).session = {} ∧ (t.mbox rq.mb).epoch = 0 ∧ (t.mbox rq.mb).nextTag = 0)
  ∧ (∀ rq h (s : State), s.Heard rq 0x0E 1 → OnNone rq → rq.body.length = 8 → s.seeHandle rq.mb (rq.fld 0 8) = some h → ∃ t : State, exec (.handleQuery rq) s = .next t ∧
      Answered t rq.mb 0 (leBytes 8 h.word ++ leBytes 2 h.status ++ zeros 6 ++ leBytes 8 h.doneNs))
  ∧ (∀ k h (s : State), s.handle k = some h → h.fin = true → ∃ t : State, exec (.handleExpiry k) s = .next t ∧ t.clk = (s.toTai (h.doneNs + 60000000000)).clk ∧
      t.handle k = none)
  ∧ (∀ rq f c (s : State), listedCmd f c = false ∨ (actionsOf f c ≠ [] ∧ (actionsOf f c).contains (rq.fld 0 1) = false) → s.Heard rq f c → ∃ t : State,
      exec (.reservedCommand rq f c) s = .next t ∧ Answered t rq.mb 0x14 [])

/-- The life of a context (R198, R452, R460 to R463, R477). CREATE makes the context READY where its grants fit, or queues it behind a teardown; QUERY shows it;
SET_GRANTS changes its grants in READY; TEARDOWN begins, is repeated, or gives a waiting create up; 100 ms after it the flows are released; its scrub frees
the context. -/
def Obligations.ContextRowsComplete : Prop :=
  (∀ rq x g p (s : State), s.Heard rq 2 1 → rq.mb = 0 → rq.body.length = 288 → x = rq.fld 0 2 → x < 512 → rq.fld 2 2 < 4 → rq.fld 4 2 < 4096 → rq.fld 6 2 = 0 →
      rq.fld 159 1 = 0 → regionsOk rq.body 160 = true → s.createLife = none → s.handleRoom 0 = true →
      g = (if bit (rq.fld 2 2) 0 then (grantsAt rq.body 72).rounded else grantsAt rq.body 72) →
      p = { flags := rq.fld 2 2, coreMask := rq.fld 4 2, authKey := sub rq.body 8 64, grants := g, regions := regionsAt rq.body 160
            handle := s.nextHandle 0 1, behind := s.tearing } →
      ((s.ctx x).state = .free → (s.ctx x).tearHandle = 0 → s.fits x (rq.fld 2 2) (rq.fld 4 2) g [] = true → ∃ t : State, exec (.contextCreate rq) s = .next t ∧
        Answered t 0 0 ([2#8] ++ zeros 15) ∧ (∃ h, t.handle (s.nextHandle 0 1) = some h ∧ h.fin = true ∧ h.status = 0) ∧
        t.ctx x = { newCtx p with weights := { (newCtx p).weights with passNs := s.clk.tai.ns } }) ∧
      ((s.ctx x).state = .free → (s.ctx x).tearHandle = 0 → s.fits x (rq.fld 2 2) (rq.fld 4 2) g [] = false →
        s.fits x (rq.fld 2 2) (rq.fld 4 2) g s.tearing = true → ∃ t : State, ∃ th, exec (.contextCreate rq) s = .next t ∧
        Answered t 0 0 ([1#8] ++ zeros 7 ++ leBytes 8 th) ∧ t.ctx x = { s.ctx x with state := .queued, pend := some p }))
  ∧ (∀ rq x (s : State), s.Heard rq 2 3 → s.Acts rq x → rq.body = [] → ∃ t : State, exec (.contextQuery rq) s = .next t ∧ Answered t rq.mb 0
      (leBytes 1 (s.ctx x).state.code ++ leBytes 1 (s.ctx x).flags ++ zeros 2 ++ (s.ctx x).grants.bytes ++ (s.inUse x).bytes))
  ∧ (∀ rq x g (s : State), s.Heard rq 2 4 → rq.mb = 0 → s.Acts rq x → rq.body.length = 88 → rq.fld 87 1 = 0 → (s.ctx x).state = .ready →
      g = (if (s.ctx x).sealed_ then (grantsAt rq.body 0).rounded else grantsAt rq.body 0) → s.fits x (s.ctx x).flags (s.ctx x).coreMask g [] = true →
      g.covers (s.inUse x) = true → ∃ t : State, exec (.setGrants rq) s = .next t ∧ Answered t 0 0 [] ∧ t.ctx x = { s.ctx x with grants := g })
  ∧ (∀ rq x (s : State), s.Heard rq 2 2 → rq.mb = 0 → x = rq.target → x ≠ 0xFFFF → rq.body.length = 4 → rq.fld 0 1 < 2 → rq.fld 1 3 = 0 → s.handleRoom 0 = true →
      ((s.ctx x).created = true → (s.ctx x).state ≠ .tearing → ∃ t : State, exec (.contextTeardown rq) s = .next t ∧ Answered t 0 0 [] ∧
        (t.ctx x).state = .tearing ∧ (t.ctx x).fenced = true ∧ (t.ctx x).tearHandle = s.nextHandle 0 2 ∧ (t.ctx x).authKey = [] ∧
        (t.ctx x).keepSnapshots = bit (rq.fld 0 1) 0 ∧ (t.ctx x).t3 = []) ∧
      ((s.ctx x).state = .tearing → ∃ t : State, exec (.contextTeardown rq) s = .next t ∧ Answered t 0 0 [] ∧ t.ctxs = s.ctxs ∧
        sub (t.mbox 0).rsp 16 8 = leBytes 8 (s.ctx x).tearHandle) ∧
      (∀ p, (s.ctx x).state = .queued → (s.ctx x).pend = some p → ∃ t : State, exec (.contextTeardown rq) s = .next t ∧ Answered t 0 0 [] ∧
        (t.ctx x).pend = none ∧ (t.ctx x).state = (if (s.ctx x).tearHandle ≠ 0 then .tearing else .free)))
  ∧ (∀ x (s : State), (s.ctx x).tearHandle ≠ 0 → ∃ t : State, exec (.teardownFlowRelease x) s = .next t ∧ t.clk = (s.toTai ((s.ctx x).tearNs + 100000000)).clk ∧
      t.flows = s.flows.filter (fun e => e.2.ctx != x) ∧ t.trk = s.trk.filter (fun e => e.2.ctx != x))
  ∧ (∀ x bad (s : State), (s.ctx x).tearHandle ≠ 0 → (∀ e ∈ s.ctxs, e.2.pend = none) → s.life.trans = none → ∃ t : State, exec (.teardownScrubComplete x bad) s = .next t ∧
      t.ctx x = {} ∧ t.flows = s.flows.filter (fun e => e.2.ctx != x) ∧ t.retiredFrames = s.retiredFrames ++ bad ∧
      t.nand = (if (s.ctx x).keepSnapshots then s.nand else s.nand.filter (fun n => !(s.ctx x).ranJobs.contains n.jobId)))

/-- The job commands and SET_EPOCH (R297, R341, R342, R395, R400 to R404, R452, R454, R455, R460). Each is answered OK with the effect its row gives it: LOAD and
START give their handles and change the job's phase, FEED sets the ring, CURSOR lets a matching cursor refill and answers a mismatch, RECOVER begins a recovery, DECIDE
stops or resumes, VALIDATE, ADD_MODULE and STOP act on the job, and STATUS and REPORT show it. -/
def Obligations.JobCommandRowsComplete : Prop :=
  (∀ rq x (s : State), s.Heard rq 3 1 → s.Acts rq x → rq.body.length = 32 → rq.fld 28 4 = 0 → (rq.mb = 0 ∨ rq.fld 8 8 ≠ 0) → (s.ctx x).state = .ready →
      (s.ctx x).job.phase = 0 → s.handleRoom rq.mb = true → ∃ t : State, exec (.jobLoad rq) s = .next t ∧
        Handed s t rq 3 [] { mb := rq.mb, op := 3, ctx := some x, phase := 1, total := blocksOf (rq.fld 8 8), addr := rq.fld 0 8, len := rq.fld 8 8, fn := rq.mb } ∧
        (t.ctx x).job.phase = 1 ∧ (t.ctx x).job.handle = s.nextHandle rq.mb 3 ∧ (t.ctx x).job.reportAddr = rq.fld 16 8 ∧
        (t.ctx x).job.reportLen = rq.fld 24 4 ∧ (t.ctx x).job.selfTest = decide (rq.fld 8 8 = 0))
  ∧ (∀ rq x n im set bytes (s : State), s.Heard rq 3 2 → s.Acts rq x → n = rq.fld 8 4 → 1 ≤ n → n ≤ 65535 → rq.body.length = 28 → rq.fld 12 1 ≤ 1 → rq.fld 13 3 = 0 →
      (s.ctx x).job.image = some im → set = setEntries bytes n → (s.ctx x).state = .loaded → (s.ctx x).job.phase = 2 → s.jobElsewhere x im.man.jobId = false →
      set.any (fun d => d.1 = s.deviceId) = true → set.any (fun d => d.1 = 0xFFFF) = false → (set.map (fun d => d.1)).eraseDups.length = n →
      (rq.fld 12 1 = 0 → rankCount im.man + (set.filter (fun d => (s.ctx x).job.failedModules.contains d.1)).length ≤ n) → s.handleRoom rq.mb = true → ∃ t : State,
        exec (.jobStart rq (some bytes)) s = .next t ∧
        Handed s t rq 4 [] { mb := rq.mb, op := 4, ctx := some x, phase := 1, total := n } ∧ (t.ctx x).job.phase = 3 ∧
        (t.ctx x).job.handle = s.nextHandle rq.mb 4 ∧ (t.ctx x).job.plan.set = set ∧ (t.ctx x).job.plan.startNs = s.clk.tai.ns ∧
        (t.ctx x).job.plan.coordinator = decide (least (set.map (fun d => d.1)) 0xFFFF = s.deviceId) ∧
        (t.ctx x).job.replicated = decide (rq.fld 12 1 = 1))
  ∧ (∀ rq x (s : State), s.Heard rq 3 3 → s.Acts rq x → rq.body.length = 32 → isPow2 (rq.fld 8 4) = true → 2 ≤ rq.fld 8 4 → rq.fld 8 4 ≤ 65536 → rq.fld 12 4 ≠ 0 →
      rq.fld 12 4 % 4096 = 0 → (s.ctx x).state ≠ .tearing → ∃ t : State, exec (.jobFeed rq) s = .next t ∧ Answered t rq.mb 0 [] ∧ (t.ctx x).feed =
        { (s.ctx x).feed with ringAddr := rq.fld 0 8, entries := rq.fld 8 4, entryBytes := rq.fld 12 4, producer := rq.fld 16 8, consumer := rq.fld 24 8
                              fetched := 0, fn := rq.mb })
  ∧ (∀ rq x (s : State), s.Heard rq 3 4 → s.Acts rq x → rq.body = [] → ∃ t : State, exec (.jobStatus rq) s = .next t ∧ Answered t rq.mb 0
      (leBytes 1 (s.ctx x).state.code ++ leBytes 1 (s.ctx x).recov.state.code ++ zeros 2 ++ leBytes 8 (s.ctx x).job.step ++
        leBytes 4 (s.ctx x).sec.committed ++ leBytes 2 (s.ctx x).job.layoutEpoch ++ zeros 2 ++ leBytes 4 (s.ctx x).recov.lastSeq))
  ∧ (∀ rq x r (s : State), s.Heard rq 3 5 → s.Acts rq x → rq.body.length = 16 → rq.fld 8 1 ≤ 1 → rq.fld 9 7 = 0 → (s.ctx x).recov.target = some r →
      (s.ctx x).recov.state = .cursorCheck → ∃ t : State, exec (.jobCursor rq) s = .next t ∧
        (rq.fld 0 8 = r.dataCursor ∨ rq.fld 8 1 = 1 → Answered t rq.mb 0 [] ∧ (t.ctx x).recov.state = .refilling ∧
          (t.ctx x).recov.hostCursor = some (rq.fld 0 8) ∧ (t.ctx x).recov.override = decide (rq.fld 0 8 ≠ r.dataCursor)) ∧
        (rq.fld 0 8 ≠ r.dataCursor → rq.fld 8 1 = 0 → (t.ctx x).recov.state = .cursorCheck ∧ Answered t rq.mb 0x1C
          (leBytes 8 ((r.lastStep + 1) % 2 ^ 40) ++ zeros 8 ++ leBytes 8 r.dataCursor ++ leBytes 8 (rq.fld 0 8) ++
            leBytes 8 (ofSigned 64 ((rq.fld 0 8 : Int) - (r.dataCursor : Int))))))
  ∧ (∀ rq x (s : State), s.Heard rq 3 6 → s.Acts rq x → rq.body = [] → (s.ctx x).job.plan.coordinator = true → (s.ctx x).job.phase = 4 →
      (s.ctx x).recov.state = .none_ → s.handleRoom rq.mb = true → (∀ g, (s.ctx x).sampling.armed = some g → s.holdsGen x g = true) → ∃ t : State,
        exec (.jobRecover rq) s = .next t ∧ Handed s t rq 0x10 [] { mb := rq.mb, op := 0x10, ctx := some x, phase := 1, total := 6 } ∧
        (t.ctx x).recov.state = .halting ∧ (t.ctx x).recov.trigger = 5 ∧ (t.ctx x).recov.handle = s.nextHandle rq.mb 0x10)
  ∧ (∀ rq x (s : State), s.Heard rq 3 7 → s.Acts rq x → rq.body.length = 8 → rq.fld 1 7 = 0 → (s.ctx x).job.plan.coordinator = true →
      (s.ctx x).recov.state = .verifyFailed →
      (rq.fld 0 1 = 0 → ∃ t : State, exec (.jobDecideStop rq) s = .next t ∧ Answered t rq.mb 0 [] ∧ (t.ctx x).state = .ready ∧ (t.ctx x).job.phase = 0) ∧
      (rq.fld 0 1 = 1 → ∃ t : State, exec (.jobDecideResume rq) s = .next t ∧ Answered t rq.mb 0 [] ∧ (t.ctx x).recov.state = .none_ ∧
        (t.ctx x).recov.verify = 2))
  ∧ (∀ rq x (s : State), s.Heard rq 3 8 → s.Acts rq x → rq.body.length = 4 → (s.ctx x).job.plan.coordinator = true → (s.ctx x).job.phase = 4 →
      (s.ctx x).job.validating = 0 → s.handleRoom rq.mb = true → rq.fld 0 4 ≠ 0 → ∃ t : State, exec (.jobValidate rq) s = .next t ∧
        Handed s t rq 0x10 [] { mb := rq.mb, op := 0x10, ctx := some x, phase := 1, total := rq.fld 0 4 } ∧
        (t.ctx x).job.validating = s.nextHandle rq.mb 0x10 ∧ (t.ctx x).job.stepsLeft = some (rq.fld 0 4) ∧ (t.ctx x).job.failedModules = [])
  ∧ (∀ rq x (s : State), s.Heard rq 3 9 → s.Acts rq x → rq.body.length = 4 → rq.fld 0 2 ≠ 0xFFFF → (s.ctx x).job.plan.coordinator = true →
      (s.ctx x).job.phase = 4 → (s.ctx x).job.plan.devices.contains (rq.fld 0 2) = false → (s.ctx x).job.plan.set.length < 65535 → ∃ t : State,
        exec (.jobAddModule rq) s = .next t ∧ Answered t rq.mb 0 [] ∧ (t.ctx x).job.plan.devices = (s.ctx x).job.plan.devices ++ [rq.fld 0 2] ∧
        (t.ctx x).job.plan.set = (s.ctx x).job.plan.set.filter (fun d => d.1 != rq.fld 0 2) ++ [(rq.fld 0 2, rq.fld 2 2)] ∧
        (t.ctx x).recov.state = (if (s.ctx x).recov.state = .waitingForModule then .selecting else (s.ctx x).recov.state))
  ∧ (∀ rq x im b (s : State), s.Heard rq 3 0x0A → s.Acts rq x → rq.body.length = 12 → (s.ctx x).job.image = some im → (s.ctx x).job.plan.set ≠ [] →
      b = (if (s.ctx x).job.plan.status = 0 ∨ (s.ctx x).job.plan.coordinator = true then planReport im (s.ctx x).job.plan (s.ctx x).job.plan.replies
        else refusalReport (s.ctx x).job.plan.refusals).take (rq.fld 8 4) → ∃ t : State, exec (.jobReport rq) s = .next t ∧
        Answered t rq.mb 0 (leBytes 4 b.length) ∧ (b ≠ [] → .dmaWrite rq.mb (rq.fld 0 8) b ∈ t.out))
  ∧ (∀ rq x (s : State), s.Heard rq 3 0x0B → s.Acts rq x → rq.body = [] → ((s.ctx x).state = .loaded ∨ (s.ctx x).state = .running) → s.handleRoom rq.mb = true → ∃ t : State,
      exec (.jobStop rq) s = .next t ∧ Answered t rq.mb 0 [] ∧ (t.ctx x).state = .ready ∧ (t.ctx x).job.phase = 0 ∧ (t.ctx x).job.step = (s.ctx x).job.step)
  ∧ (∀ rq x (s : State), s.Heard rq 8 5 → s.Acts rq x → rq.body.length = 8 → (s.ctx x).job.phase < 3 → (∀ im, (s.ctx x).job.image = some im → im.man.epochTai = 0) →
      (s.ctx x).state ≠ .tearing → ∃ t : State, exec (.setEpoch rq) s = .next t ∧ Answered t rq.mb 0 [] ∧ (t.ctx x).job = { (s.ctx x).job with epoch := rq.fld 0 8 })

/-- The securing and weight commands (R377, R382, R412 to R415, R420, R422, R427, R429 to R431, R452, R534). -/
def Obligations.SecuringCommandRowsComplete : Prop :=
  (∀ rq x (s : State), s.Heard rq 7 1 → s.Acts rq x → rq.body = [] → ∃ t : State, exec (.snapshotsList rq) s = .next t ∧ Answered t rq.mb 0
      ((s.heldGens x).flatMap (fun p => leBytes 4 p.1.generation ++ leBytes 8 p.1.lastStep ++ leBytes 1 p.1.state ++ leBytes 1 p.2 ++ zeros 2)))
  ∧ (∀ rq x (s : State), s.Heard rq 7 2 → s.Acts rq x → rq.body = [] → (s.ctx x).job.plan.coordinator = true → (s.ctx x).job.phase = 4 → ∃ t : State,
      exec (.secureNow rq) s = .next t ∧ Answered t rq.mb 0 [] ∧ (t.ctx x).sec = { (s.ctx x).sec with secureNow := true })
  ∧ (∀ rq x r (s : State), s.Heard rq 7 3 → s.Acts rq x → rq.body.length = 4 →
      ((s.ctx x).sec.current.toList ++ (s.ctx x).sec.records.reverse).find? (fun r => r.generation = rq.fld 0 4) = some r → ∃ t : State,
        exec (.readRecord rq) s = .next t ∧ Answered t rq.mb 0 (padTo 128 r.bytes))
  ∧ (∀ rq (s : State), s.Heard rq 7 4 → rq.mb = 0 → rq.body.length = 8 → s.runsJob (rq.fld 0 8) = false → s.handleRoom 0 = true → ∃ t : State,
      exec (.snapshotsErase rq) s = .next t ∧ Answered t 0 0 [] ∧ t.nand = s.nand.filter (fun g => g.jobId != rq.fld 0 8))
  ∧ (∀ rq x b (s : State), s.Heard rq 4 1 → s.Acts rq x → rq.body.length = 8 → (s.ctx x).state ≠ .tearing → s.handleRoom rq.mb = true →
      (s.takeList x 0 rq.mb b).2 = 0 → ∃ t : State, exec (.weightLoad rq (some b)) s = .next t ∧ Answered t rq.mb 0 [] ∧
        sub (t.mbox rq.mb).rsp 16 8 = leBytes 8 (s.nextHandle rq.mb 5) ∧
        (t.ctx x).weights.bankRepl = (if (s.ctx x).weights.bankFor (le b 4 1) = 0 then (le b 8 4, (s.ctx x).weights.bankRepl.2)
          else ((s.ctx x).weights.bankRepl.1, le b 8 4)))
  ∧ (∀ rq x (s : State), s.Heard rq 4 2 → s.Acts rq x → rq.body.length = 24 → rq.fld 4 4 = 0 → ((s.ctx x).loaded = true → (s.ctx x).job.plan.coordinator = true) →
      (s.ctx x).weights.switchHandle = 0 → (s.ctx x).weights.pending = false → (s.ctx x).state ≠ .tearing → s.handleRoom rq.mb = true → ∃ t : State,
        exec (.weightSwitch rq) s = .next t ∧ Answered t rq.mb 0 [] ∧ (t.ctx x).weights = { (s.ctx x).weights with
          switchHandle := s.nextHandle rq.mb 6, switchRepl := rq.fld 0 4, earliestStep := rq.fld 8 8, earliestNs := rq.fld 16 8
          reported := (s.ctx x).weights.reported || (s.ctx x).weights.ready
          reports := (s.ctx x).weights.reports + (if (s.ctx x).weights.reported = false ∧ (s.ctx x).weights.ready = true then 1 else 0) })
  ∧ (∀ rq x w (s : State), s.Heard rq 4 3 → s.Acts rq x → rq.body.length = 4 → rq.fld 2 2 ≤ 64 → w = (s.ctx x).weights → ∃ t : State, exec (.weightQuery rq) s = .next t ∧
      Answered t rq.mb 0 (leBytes 4 (w.punty (s.ctx x).job.step) ++ leBytes 4 w.bankGen.1 ++ leBytes 4 w.bankGen.2 ++ zeros 4 ++
        (List.range (rq.fld 2 2)).flatMap (fun i => match w.slots.find (rq.fld 0 2 + i) with
          | some d => leBytes 1 d.state ++ leBytes 1 d.bank ++ zeros 2 ++ leBytes 4 d.firstTile ++ leBytes 4 d.tiles ++ leBytes 4 d.generation
          | none => zeros 16)))
  ∧ (∀ rq x (s : State), s.Heard rq 4 4 → s.Acts rq x → rq.body.length = 4 → 60 ≤ rq.fld 0 4 → rq.fld 0 4 ≤ 86400 → ∃ t : State, exec (.weightVerifyPeriod rq) s = .next t ∧
      Answered t rq.mb 0 [] ∧ (t.ctx x).weights = { (s.ctx x).weights with periodS := rq.fld 0 4 })

/-- The tier commands (R193, R198, R211 to R214, R410, R452, R570): capacities and entries are shown; MIGRATE places its requests; regions are set; a window is
offered, reclaimed and granted. -/
def Obligations.TierCommandRowsComplete : Prop :=
  (∀ rq (s : State), s.Heard rq 5 1 → OnNone rq → rq.body = [] → ∃ t : State, exec (.tierCapacity rq) s = .next t ∧ Answered t rq.mb 0
      (((List.range 12).flatMap (fun k => leBytes 4 (s.capacity 0 k) ++ leBytes 4 (s.grantedAll 0 k) ++ leBytes 4 (s.lentOf 0 k))) ++
        ((List.range 12).flatMap (fun k => leBytes 4 (s.capacity 1 k) ++ leBytes 4 (s.grantedAll 1 k) ++ leBytes 4 (s.lentOf 1 k))) ++
        (leBytes 4 (s.capacity 2 0) ++ leBytes 4 (s.grantedAll 2 0) ++ leBytes 4 (s.lentOf 2 0))))
  ∧ (∀ rq x (s : State), s.Heard rq 5 2 → s.Acts rq x → rq.body.length = 6 → rq.fld 4 2 ≤ 120 → rq.fld 0 4 + rq.fld 4 2 ≤ 2 ^ 32 → ∃ t : State,
      exec (.tierReadEntries rq) s = .next t ∧
        Answered t rq.mb 0 ((List.range (rq.fld 4 2)).flatMap (fun i => leBytes 16 ((s.ctx x).entry (rq.fld 0 4 + i)).pack)))
  ∧ (∀ rq x (s : State), s.Heard rq 5 3 → s.Acts rq x → rq.body.length = 12 → rq.fld 0 4 + rq.fld 4 4 ≤ 2 ^ 32 → rq.fld 8 1 ≤ 3 → rq.fld 9 1 ≤ 2 → rq.fld 10 1 ≤ 11 →
      rq.fld 11 1 = 0 → policyFits (rq.fld 8 1) (rq.fld 9 1) = true → (s.ctx x).fenced = false → (s.ctx x).state ≠ .tearing → ((s.ctx x).sealed_ = true → rq.fld 8 1 ≠ 3 ∧ rq.fld 9 1 ≠ 1) →
      s.handleRoom rq.mb = true → ∃ t : State, exec (.tierMigrate rq) s = .next t ∧ Answered t rq.mb 0 [] ∧
        sub (t.mbox rq.mb).rsp 16 8 = leBytes 8 (s.nextHandle rq.mb 7) ∧
        (∀ a e d, rq.fld 4 4 = 1 → s.asks = [] → e = (s.ctx x).bankEntry (s.ctx x).weights.active (rq.fld 0 4) →
          a = ({ ctx := x, tile := rq.fld 0 4, bank := (s.ctx x).weights.active, tier := rq.fld 8 1, policy := rq.fld 9 1, core := rq.fld 10 1
                 region := rq.fld 10 1, handle := s.nextHandle rq.mb 7 } : MigAsk) → e.valid = true → ((s.ctx x).migEntry (rq.fld 0 4)).state = 0 →
          s.askMet a e = false → s.queuedMigs x < 4096 → s.askDest a e = some d →
          t.migs = s.migs ++ [({ ctx := x, tile := rq.fld 0 4, bank := a.bank, policy := rq.fld 9 1, core := rq.fld 10 1, region := d.2.1
                                 handle := s.nextHandle rq.mb 7 } : Mig)] ∧
          ((t.ctx x).bankEntry a.bank (rq.fld 0 4)) = { e with state := 1, destTier := d.1, destLender := d.2.2.1, destFrame := d.2.2.2 }))
  ∧ (∀ rq x (s : State), s.Heard rq 5 4 → rq.mb = 0 → s.Acts rq x → rq.body.length = 128 → regionsOk rq.body 0 = true → (s.ctx x).state = .ready →
      (s.ctx x).job.phase = 0 → ∃ t : State, exec (.tierWeightRegions rq) s = .next t ∧ Answered t 0 0 [] ∧ (t.ctx x).weights.regions = regionsAt rq.body 0)
  ∧ (∀ rq w n (s : State), s.Heard rq 5 5 → rq.mb = 0 → rq.body.length = 40 → (rq.fld 0 1 = 1 ∨ rq.fld 0 1 = 2) → rq.fld 1 1 = 0 → rq.fld 2 2 ≠ 0 →
      n = (if rq.fld 4 4 = 0 then 2000 else rq.fld 4 4) → 100 ≤ n → n ≤ 30000 → (List.range 8).find? (fun w => !s.lend.has w) = some w →
      runFrames (s.windowRuns (rq.fld 0 1) (rq.fld 2 2 * 16384)) = rq.fld 2 2 * 16384 → s.handleRoom 0 = true → ∃ t : State, exec (.lendOffer rq) s = .next t ∧
        Handed s t rq 8 (leBytes 1 w ++ zeros 7) { mb := 0, op := 8, phase := 1, total := rq.fld 2 2 * 16384, arg := w } ∧ ∃ l, t.lend.find w = some l ∧
        l.tier = rq.fld 0 1 ∧ l.gib = rq.fld 2 2 ∧ l.noticeMs = n ∧ l.state = 0 ∧ l.ranges = s.windowRuns (rq.fld 0 1) (rq.fld 2 2 * 16384))
  ∧ (∀ rq l (s : State), s.Heard rq 5 6 → rq.mb = 0 → rq.body.length = 8 → rq.fld 1 7 = 0 → s.lend.find (rq.fld 0 1) = some l → l.state = 1 → s.handleRoom 0 = true →
      ∃ t : State, ∃ m, exec (.lendReclaim rq) s = .next t ∧ Answered t 0 0 [] ∧ t.lend.find (rq.fld 0 1) = some m ∧
        m.state = (if l.peers = [] then 3 else 2) ∧ m.deadline = s.clk.tai.ns + l.noticeMs * 1000000 ∧ m.handle = s.nextHandle 0 9)
  ∧ (∀ rq x (s : State), s.Heard rq 5 7 → rq.mb = 0 → s.Acts rq x → rq.body.length = 8 → rq.fld 3 1 = 0 → rq.fld 2 1 < 8 → rq.fld 0 2 ≠ 0xFFFF → rq.fld 4 4 + gibFrames ≤ 2 ^ 32 →
      (s.ctx x).sealed_ = false → (s.ctx x).state ≠ .tearing → rq.fld 0 2 ≠ s.deviceId →
      (s.ctx x).t3.any (fun v => v.firstTile = rq.fld 4 4) = false → s.t3Tiles < 16777216 → ∃ t : State, ∃ b, exec (.grantT3 rq) s = .next t ∧ Answered t 0 0 [] ∧
        (t.ctx x).t3 = (s.ctx x).t3 ++ [({ lender := rq.fld 0 2, window := rq.fld 2 1, firstTile := rq.fld 4 4, base := b } : T3Win)] ∧
        ∀ e ∈ s.ctxs, ∀ v ∈ e.2.t3, v.lender = rq.fld 0 2 → v.window = rq.fld 2 1 → v.base ≠ b)

/-- The fabric and time commands (R238, R269, R272, R281, R283, R289, R292, R295, R298 to R302, R452, R552). -/
def Obligations.PortCommandRowsComplete : Prop :=
  (∀ rq p (s : State), s.Heard rq 6 1 → rq.mb = 0 → rq.body.length = 120 → p = rq.fld 0 1 → p < 8 → rq.fld 1 1 ≤ 3 → rq.fld 2 1 ≤ 1 → rq.fld 3 1 ≤ 2 →
      rq.fld 5 1 ≤ 1 → rq.fld 6 1 ≤ 1 → rq.fld 7 1 = 0 → rq.fld 8 2 < 4096 → 1 ≤ rq.fld 12 4 → rq.fld 12 4 ≤ 1000 →
      ((List.range 8).map (fun i => rq.fld (80 + i) 1)).all (fun d => decide (d < 64)) = true →
      pfcOk (rq.fld 1 1) (rq.fld 4 1) ((List.range 8).map (fun i => rq.fld (16 + 4 * i) 4)) ((List.range 8).map (fun i => rq.fld (48 + 4 * i) 4)) = true →
      (rq.fld 1 1 = (s.port p).mode ∨ s.portDown p = true) → (s.port p).recordDue = false → ∃ t : State, exec (.portSet rq) s = .next t ∧ Answered t 0 0 [] ∧
        (t.port p).mode = rq.fld 1 1 ∧ (t.port p).encap = rq.fld 2 1 ∧ (t.port p).flowctl = rq.fld 3 1 ∧ (t.port p).pfcSend = rq.fld 4 1 ∧
        (t.port p).small = decide (rq.fld 5 1 = 1) ∧ (t.port p).eee = decide (rq.fld 6 1 = 1) ∧ (t.port p).vlan = rq.fld 8 2 ∧
        (t.port p).udpPort = rq.fld 10 2 ∧ (t.port p).xoff = (List.range 8).map (fun i => rq.fld (16 + 4 * i) 4) ∧
        (t.port p).ownIp = ipField (sub rq.body 88 16) ∧ (t.port p).nextHop = ipField (sub rq.body 104 16) ∧
        (t.port p).dscp = (List.range 8).map (fun i => rq.fld (80 + i) 1))
  ∧ (∀ rq p (s : State), s.Heard rq 6 2 → rq.mb = 0 → rq.body.length = 8 → p = rq.fld 0 1 → p < 8 → rq.fld 2 6 = 0 → rq.fld 1 1 ≤ 1 → ∃ t : State,
      exec (.portUpdown rq) s = .next t ∧ Answered t 0 0 [] ∧ (t.port p).adminUp = decide (rq.fld 1 1 = 1) ∧
        (rq.fld 1 1 = 0 → (s.port p).recordDue = false → ∀ m ∈ portMacs (s.port p).mode p, (t.mac m).up = false))
  ∧ (∀ rq (s : State), s.Heard rq 6 3 → OnNone rq → rq.body = [] → ∃ t : State, exec (.portStatus rq) s = .next t ∧
      Answered t rq.mb 0 ((List.range 8).flatMap (fun p => leBytes 4 (s.portWord p))))
  ∧ (∀ rq c k z i (s : State), (i, c, k, z) ∈ [(Instr.peerTable rq, 4, 2, 20), (.fwdTable rq, 5, 3, 8)] → s.Heard rq 6 c → rq.mb = 0 → rq.body.length = 16 →
      rq.fld 8 4 + rq.fld 12 4 ≤ 65536 → s.handleRoom 0 = true → ∃ t : State, exec i s = .next t ∧ Handed s t rq 0x0F []
        { mb := 0, op := 0x0F, phase := 1, total := rq.fld 12 4, arg := k, arg2 := rq.fld 8 4, addr := rq.fld 0 8, len := z * rq.fld 12 4 })
  ∧ (∀ rq x (s : State) v, v = (fun i => f32Rat (rq.fld (4 * i) 4)) → s.Heard rq 6 6 → s.Acts rq x → rq.body.length = 28 →
      (ratIn (v 0) (1 / 256) (1 / 2) && ratIn (v 1) 1 1000 && ratIn (v 2) (1 / 64) (1 / 2) && ratIn (v 3) (1 / 10) 10 && ratIn (v 4) 1 100 &&
        ratIn (v 5) 10 10000) = true → 10 ≤ rq.fld 24 4 → rq.fld 24 4 ≤ 10000 → ∃ t : State, exec (.ccParams rq) s = .next t ∧ Answered t rq.mb 0 [] ∧
        (t.ctx x).cc = { g := (v 0).getD 0, dHighNs := 1000 * (v 1).getD 0, aDelay := (v 2).getD 0, incAi := 1000 * (v 3).getD 0
                         incHai := 1000 * (v 4).getD 0, rateMin := (v 5).getD 0, tFailMs := rq.fld 24 4 })
  ∧ (∀ rq (s : State), s.Heard rq 6 7 → OnNone rq → rq.body = [] → ∃ t : State, exec (.neighbours rq) s = .next t ∧ Answered t rq.mb 0
      ((List.range 32).flatMap (fun m => match (s.mac m).neighbour with
        | some n => leBytes 2 n.device ++ leBytes 1 n.port ++ leBytes 1 n.mac ++ (leBytes 1 (if (s.mac m).several then 1 else 0) ++ zeros 3)
        | none => leBytes 2 0xFFFF ++ zeros 2 ++ (leBytes 1 (if (s.mac m).several then 1 else 0) ++ zeros 3))))
  ∧ (∀ rq (s : State), s.Heard rq 6 8 → rq.mb = 0 → rq.body.length = 4 → 60 ≤ rq.fld 0 4 → rq.fld 0 4 ≤ 86400 → ∃ t : State, exec (.recalPeriod rq) s = .next t ∧
      Answered t 0 0 [] ∧ t.recalPeriodS = rq.fld 0 4)
  ∧ (∀ rq (s : State), s.Heard rq 8 1 → OnNone rq → rq.body = [] → ∃ t : State, ∃ role, exec (.timeStatus rq) s = .next t ∧ Answered t rq.mb 0
      (leBytes 8 s.clk.tai.ns ++ leBytes 4 s.clk.tai.frac ++ leBytes 1 s.clk.ptpState ++ leBytes 1 role ++ zeros 2 ++
        leBytes 8 (ofSigned 64 s.clk.offsetNs) ++ leBytes 8 s.clk.holdErrNs ++ leBytes 8 s.clk.masterId))
  ∧ (∀ rq (s : State), s.Heard rq 8 2 → rq.mb = 0 → rq.body.length = 16 → rq.fld 12 1 ≤ 1 → -7 ≤ toSigned 8 (rq.fld 13 1) → toSigned 8 (rq.fld 13 1) ≤ 0 →
      -7 ≤ toSigned 8 (rq.fld 14 1) → toSigned 8 (rq.fld 14 1) ≤ 0 → rq.fld 15 1 = 0 → ∃ t : State, exec (.ptpConfig rq) s = .next t ∧ Answered t 0 0 [] ∧
        t.clk = { s.clk with
          roles := (List.range 8).map (fun i => rq.fld i 1), domain := rq.fld 8 1, priority1 := rq.fld 9 1, priority2 := rq.fld 10 1
          delayMech := rq.fld 11 1, twoStep := rq.fld 12 1, logSync := toSigned 8 (rq.fld 13 1), logDelay := toSigned 8 (rq.fld 14 1) })
  ∧ (∀ rq (s : State), s.Heard rq 8 3 → rq.mb = 0 → rq.body.length = 16 → rq.fld 0 1 ≤ 1 → rq.fld 1 1 ≤ 1 → rq.fld 2 6 = 0 → ∃ t : State, exec (.pps rq) s = .next t ∧
      Answered t 0 0 [] ∧ t.clk.ppsInSource = decide (rq.fld 0 1 = 1) ∧ t.clk.ppsOutEnabled = decide (rq.fld 1 1 = 1) ∧ t.clk.ppsNextEdgeS = rq.fld 8 8 ∧
      (rq.fld 1 1 = 0 → t.clk.ppsOutHighUntil = 0) ∧ t.clk.tai = s.clk.tai)
  ∧ (∀ rq (s : State), s.Heard rq 8 4 → rq.mb = 0 → rq.body.length = 32 → ∃ t : State, exec (.asymmetry rq) s = .next t ∧ Answered t 0 0 [] ∧
      t.clk.asym = (List.range 8).map (fun i => toSigned 32 (rq.fld (4 * i) 4)))

/-- What host software observes (R232, R459, R464, R466, R523, R524, R527 to R530, R535): counters are read, permitted; sampling is turned on and off, armed and disarmed; a
sample record goes to its ring or is dropped; the log and the cullets are shown; a handle is cancelled where its operation allows it. -/
def Obligations.ObserveRowsComplete : Prop :=
  (∀ rq x (s : State), s.Heard rq 9 1 → rq.body.length = 4 → rq.fld 2 2 ≤ 240 →
      (rq.mb = 0 → rq.target = 0xFFFF → 0x200 ≤ rq.fld 0 2 → ∃ t : State, exec (.countersRead rq) s = .next t ∧
        Answered t 0 0 (ctrSlots s.settleAll.counters (rq.fld 0 2) (rq.fld 2 2))) ∧
      (s.Acts rq x → rq.fld 0 2 + rq.fld 2 2 ≤ 0x200 → rq.fld 0 2 < 0x200 → s.mayCount rq.mb x = true → ∃ t : State, exec (.countersRead rq) s = .next t ∧
        Answered t rq.mb 0 (ctrSlots (s.settleAll.ctx x).counters (rq.fld 0 2) (rq.fld 2 2))))
  ∧ (∀ rq x (s : State), s.Heard rq 9 2 → rq.mb = 0 → s.Acts rq x → rq.body.length = 8 → rq.fld 0 1 ≤ 1 → rq.fld 1 7 = 0 → ∃ t : State, exec (.countersPermission rq) s = .next t ∧
      Answered t 0 0 [] ∧ (t.ctx x).permit = decide (rq.fld 0 1 = 1))
  ∧ (∀ rq x (s : State), s.Heard rq 9 3 → s.Acts rq x → rq.body.length = 48 → (rq.mb = 0 → s.life.debug ≠ 0) → (rq.mb ≠ 0 → (s.ctx x).permit = true) →
      (rq.fld 0 1 = 0 → ∃ t : State, exec (.samplingOff rq) s = .next t ∧ (t.mbox rq.mb).lastStatus = 0 ∧ (t.ctx x).sampling = { (s.ctx x).sampling with on := false }) ∧
      (rq.fld 0 1 = 1 → sampOk rq = true → ∃ t : State, exec (.samplingOn rq) s = .next t ∧ (t.mbox rq.mb).lastStatus = 0 ∧
        (t.ctx x).sampling = { (s.ctx x).sampling with on := true, samp := sampRing rq }) ∧
      (rq.fld 0 1 = 2 → sampOk rq = true → ∃ t : State, exec (.samplingArmReplay rq) s = .next t ∧ (t.mbox rq.mb).lastStatus = 0 ∧
        (t.ctx x).sampling = { (s.ctx x).sampling with armed := some (rq.fld 40 4), tracing := false, trace := sampRing rq }) ∧
      (rq.fld 0 1 = 3 → ∃ t : State, exec (.samplingDisarm rq) s = .next t ∧ (t.mbox rq.mb).lastStatus = 0 ∧
        (t.ctx x).sampling = { (s.ctx x).sampling with armed := none, tracing := false }))
  ∧ (∀ c q l r b (s : State), (s.core c).sampleQ = q :: l →
      r = (if le q 3 1 = 1 then (s.ctx (le q 0 2)).sampling.trace else (s.ctx (le q 0 2)).sampling.samp) → ∃ t : State,
        exec (.sampleRecordWrite c (some b)) s = .next t ∧ (t.core c).sampleQ = l ∧
        (r.written < leNat b + r.bufLen / 64 → t.out = s.out ++
          [Output.dmaWrite r.fn (r.bufAddr + 64 * (r.written % (r.bufLen / 64))) (q ++ leBytes 4 r.written ++ zeros 4),
           .dmaWrite r.fn r.producer (leBytes 8 (r.written + 1))]) ∧
        (leNat b + r.bufLen / 64 ≤ r.written → t.out = s.out))
  ∧ (∀ c q l (s : State), (s.core c).sampleQ = q :: l → ∃ t : State, exec (.sampleRecordWrite c none) s = .next t ∧ (t.core c).sampleQ = l ∧ t.out = s.out)
  ∧ (∀ rq n (s : State), s.Heard rq 0x0A 1 → OnNone rq → rq.body = [] → n = (match s.visible rq.mb with | e :: _ => e.seq | [] => s.logNext) → ∃ t : State,
      exec (.logStatus rq) s = .next t ∧ Answered t rq.mb 0 (leBytes 4 n ++ leBytes 4 s.logNext ++ leBytes 4 (s.overflowOf rq.mb)))
  ∧ (∀ rq (s : State), s.Heard rq 0x0A 2 → OnNone rq → rq.body.length = 16 → s.handleRoom rq.mb = true → ∃ t : State, exec (.logRead rq) s = .next t ∧ Handed s t rq 0x0F []
      { mb := rq.mb, op := 0x0F, phase := 1, total := rq.fld 4 4, arg := 1, arg2 := rq.fld 0 4, len := rq.fld 4 4, addr := rq.fld 8 8, fn := rq.mb })
  ∧ (∀ rq (s : State), s.Heard rq 0x0C 1 → OnNone rq → rq.body.length = 4 → rq.fld 2 2 ≤ 60 → ∃ t : State, exec (.culletRead rq) s = .next t ∧ Answered t rq.mb 0
      (leBytes 4 s.culls.length ++ zeros 4 ++
        (List.range (rq.fld 2 2)).flatMap (fun i => match s.culls[rq.fld 0 2 + i]? with | some e => e.bytes | none => zeros 32)))
  ∧ (∀ rq h (s : State), s.Heard rq 0x0E 2 → OnNone rq → rq.body.length = 8 → s.seeHandle rq.mb (rq.fld 0 8) = some h → h.fin = false →
      ((h.op = 0x0A ∨ h.op = 0x0F ∨ h.op = 7 ∨ h.op = 8) → ∃ t h', exec (.handleCancel rq) s = .next t ∧ Answered t rq.mb 0 [] ∧
        t.handle (rq.fld 0 8) = some h' ∧ h'.fin = true ∧ h'.status = 0x21 ∧ h'.phase = 7) ∧
      ((h.op = 2 ∨ h.op = 9 ∨ h.op = 0x0B ∨ h.op = 0x0D) → ∃ t : State, exec (.handleCancel rq) s = .next t ∧ Answered t rq.mb 0x16 [] ∧ t.handles = s.handles))

/-- Identity, firmware and core tables, core replacement, lane and DRAM repair, and the ends of module-initiated transfers (R108, R303 to R305, R456, R458, R460,
R466, R468 to R472, R494). A switch and a replacement end with the handle OK, and then a transition that waited for them begins. -/
def Obligations.FirmwareRowsComplete : Prop :=
  (∀ rq (s : State), (s.Heard rq 0x0B 1 ∨ s.HeardFree rq 0x0B 1) → OnNone rq → rq.body = [] → ∃ t : State, exec (.fwIdentity rq) s = .next t ∧ Answered t rq.mb 0 s.identity)
  ∧ (∀ rq (s : State), s.Heard rq 0x0B 2 → rq.mb = 0 → rq.body.length = 16 → s.handleRoom 0 = true → ∃ t : State, exec (.fwStage rq) s = .next t ∧
      Handed s t rq 0x0A [] { mb := 0, op := 0x0A, phase := 1, total := blocksOf (rq.fld 8 8), addr := rq.fld 0 8, len := rq.fld 8 8 })
  ∧ (∀ rq (s : State), s.Heard rq 0x0B 3 → rq.mb = 0 → rq.body = [] → s.life.staged = true → s.handleRoom 0 = true → ∃ t : State, exec (.fwActivate rq) s = .next t ∧
      Handed s t rq 0x0B [] { mb := 0, op := 0x0B, phase := if s.liveHead.isSome then 0 else 2, total := 1, addr := s.clk.tai.ns })
  ∧ (∀ k h (s : State), s.liveOp 0x0B = some (k, h) → s.handle k = some h → s.life.fwSwitch = false →
      (s.quiet = true → ∃ t : State, exec .fwSwitchStart s = .next t ∧ t.life = { s.life with fwSwitch := true } ∧ t.handle k = some { h with phase := 1 }) ∧
      (∃ u : State, exec .activateTimeout s = .next u.beginTransition ∧ u.clk = (s.toTai (h.addr + 10000000000)).clk ∧ u.life = s.life ∧
        u.handle k = some { h with fin := true, status := 0x16, phase := 6, doneNs := u.clk.tai.ns }))
  ∧ (∀ k h o (s : State), s.life.fwSwitch = true → s.liveOp 0x0B = some (k, h) → s.handle k = some h → o = s.life.slotImages.getD (1 - s.life.slot) {} →
      (∃ u : State, exec .fwSwitchResume s = .next u.beginTransition ∧ u.life.fwSwitch = false ∧ u.life.slot = 1 - s.life.slot ∧
        u.life.lastSlot = 1 - s.life.slot ∧ u.life.staged = false ∧ u.life.fwCounter = max s.life.fwCounter o.svn ∧
        Logged s u 0x0012 1 noCtx [s.life.fwRev, o.revision, 0] ∧
        u.handle k = some { h with phase := 5, done := 1, total := 1, fin := true, status := 0, doneNs := s.clk.tai.ns }) ∧
      (∃ u : State, exec .fwSwitchWatchdog s = .next u.beginTransition ∧ u.life = { s.life with fwSwitch := false } ∧
        Logged s u 0x0012 1 noCtx [s.life.fwRev, o.revision, 1] ∧
        u.handle k = some { h with phase := 6, fin := true, status := 0x25, doneNs := s.clk.tai.ns }))
  ∧ (∀ rq (s : State), s.Heard rq 0x0B 4 → rq.mb = 0 → rq.body.length = 16 → rq.fld 12 2 < 4096 → rq.fld 14 2 = 0 → s.handleRoom 0 = true → ∃ t : State,
      exec (.coreTables rq) s = .next t ∧ Handed s t rq 0x0C [] { mb := 0, op := 0x0C, phase := s.livePhase, total := popCount 12 (rq.fld 12 2)
                                                                  arg := rq.fld 12 2, addr := rq.fld 0 8, len := rq.fld 8 4 })
  ∧ (∀ c f k h (s : State), s.life.newTables = some f → s.liveOp 0x0C = some (k, h) → (s.core c).tablesDue = true → (s.core c).atBoundary = true → ∃ t : State,
      exec (.coreTablesTake c) s = .next t ∧ (t.core c).tablesDue = false ∧ (t.core c).tablesRev = f.revision ∧
        ((∀ e ∈ s.cores, e.2.tablesDue = true → e.1 = c) → s.cores.Pairwise (fun a b => a.1 < b.1) → s.handle k = some h → t.life.tables = f ∧ t.life.tablesCounter = max s.life.tablesCounter f.svn ∧
          t.handle k = some { h with phase := 5, done := h.done + 1, fin := true, status := 0, doneNs := s.clk.tai.ns }))
  ∧ (∀ rq (s : State), s.Heard rq 0x0C 2 → rq.mb = 0 → rq.body.length = 8 → rq.fld 0 1 ≤ 11 → rq.fld 1 7 = 0 → s.spares ≠ [] → s.handleRoom 0 = true → ∃ t : State,
      exec (.coreReplace rq) s = .next t ∧ Handed s t rq 0x0D [] { mb := 0, op := 0x0D, phase := s.livePhase, total := 128, arg := rq.fld 0 1 })
  ∧ (∀ c p l (s : State), (s.core c).atBoundary = true → s.spares = p :: l →
      ((s.core c).migrating = true → (∀ e, s.liveOp 0x0D = some e → e.2.arg ≠ c) → ∃ t : State, exec (.coreMigration c) s = .next t ∧ (t.core c).pc = p ∧
        (t.core c).migrating = false ∧ (t.core c).acc = [] ∧ (t.core c).active = [] ∧ (t.core c).parison = []) ∧
      (∀ k h, s.liveOp 0x0D = some (k, h) → h.arg = c → s.handle k = some h → s.tearing = [] → ∃ u : State, exec (.coreMigration c) s = .next u.beginTransition ∧
        (u.core c).pc = p ∧ (u.core c).active = [] ∧ (u.core c).parison = [] ∧
        u.handle k = some { h with phase := 5, done := 128, total := 128, fin := true, status := 0, doneNs := s.clk.tai.ns }))
  ∧ (∀ rq g h (s : State), g = rq.fld 0 1 → s.Heard rq 0x0C 3 → rq.mb = 0 → rq.body.length = 8 → g < 32 → rq.fld 1 7 = 0 → s.handleRoom 0 = true →
      h = ({ mb := 0, op := 0x0E, phase := 1, total := 1, arg := g } : Handle) →
      ((∀ m, s.laneMac g = some m → (s.mac m).retrainFrom = none ∧ bit (s.port (g / 4)).retired (g % 4) = true) → ∃ t : State, exec (.laneRetire rq) s = .next t ∧ bit (t.port (g / 4)).retired (g % 4) = true ∧
        Handed s t rq 0x0E [] { h with phase := 5, done := 1, fin := true, doneNs := s.clk.tai.ns }) ∧
      (∀ m, s.laneMac g = some m → (s.mac m).retrainFrom = none → bit (s.port (g / 4)).retired (g % 4) = false →
        lowerLanes (s.mac m).bx1 (s.mac m).lanes (g % 4) ≠ 0 → ∃ t : State, exec (.laneRetire rq) s = .next t ∧ Handed s t rq 0x0E [] h ∧
          t.mac m = { s.mac m with retrainFrom := some s.clk.cycle, retrainLane := g % 4 }) ∧
      (∀ m, s.laneMac g = some m → (s.mac m).retrainFrom = none → bit (s.port (g / 4)).retired (g % 4) = false →
        lowerLanes (s.mac m).bx1 (s.mac m).lanes (g % 4) = 0 → ∃ t : State, exec (.laneRetire rq) s = .next t ∧ (t.mac m).up = false ∧
          bit (t.port (g / 4)).retired (g % 4) = true))
  ∧ (∀ rq g (s : State), g = rq.fld 0 1 → s.Heard rq 0x0C 4 → rq.mb = 0 → rq.body.length = 8 → g < 32 → rq.fld 1 7 = 0 → s.handleRoom 0 = true →
      bit (s.port (g / 4)).retired (g % 4) = true → ∃ t : State, exec (.laneAdmit rq) s = .next t ∧ bit (t.port (g / 4)).retired (g % 4) = false ∧
        Handed s t rq 0x0E [] { mb := 0, op := 0x0E, phase := 5, done := 1, total := 1, arg := g, arg2 := 1, fin := true, doneNs := s.clk.tai.ns })
  ∧ (∀ rq n (s : State), n = popCount 12 (rq.fld 0 2) * popCount 4 (rq.fld 2 1) * 16 → s.Heard rq 0x0C 5 → rq.mb = 0 → rq.body.length = 8 → rq.fld 0 2 < 4096 →
      rq.fld 2 1 < 16 → rq.fld 3 5 = 0 → s.handleRoom 0 = true → n ≠ 0 → ∃ t : State, exec (.dramRecal rq) s = .next t ∧
        Handed s t rq 0x0E [] { mb := 0, op := 0x0E, phase := 1, total := n, arg := rq.fld 0 2 + rq.fld 2 1 * 4096, arg2 := 2 })
  ∧ (∀ layer slice bank k h (s : State), s.handles.find? (fun e => e.2.op = 0x0E && e.2.arg2 = 2 && !e.2.fin && bit e.2.arg slice && bit e.2.arg (12 + layer) &&
        !e.2.units.contains (BankLoc.t1 layer slice bank).key) = some (k, h) → ∃ t : State, ∃ r, exec (.dramBankRetrain (.t1 layer slice bank)) s = .next t ∧
        t.handle k = some r ∧ r.done = h.done + 1 ∧ r.units = h.units ++ [(BankLoc.t1 layer slice bank).key] ∧ r.fin = decide (h.total ≤ h.done + 1))
  ∧ (∀ k h (s : State), s.handle k = some h → h.fin = false → s.start.pwrok = true → s.start.gafferDown = false →
      (h.transfers = true → s.handleServed k = true) →
      (h.op = 0x0A ∨ h.op = 0x0F → ∃ t : State, exec (.moduleDmaComplete k .fault) s = .next t ∧
        t.handle k = some { h with fin := true, status := 0x1A, phase := 6, doneNs := s.clk.tai.ns }) ∧
      (∀ f, h.op = 0x0A → imageStatus f s.life.fwCounter = 0 → ∃ t : State, exec (.moduleDmaComplete k (.firmware f)) s = .next t ∧ t.life.staged = true ∧
        t.life.slotImages[if s.life.slot = 0 then 1 else 0]? = some { f with bootable := true } ∧
        t.handle k = some { h with phase := 5, done := h.total, fin := true, status := 0, doneNs := s.clk.tai.ns }) ∧
      (∀ f, h.op = 0x0A → imageStatus f s.life.fwCounter ≠ 0 → ∃ t : State, exec (.moduleDmaComplete k (.firmware f)) s = .next t ∧ t.life = s.life ∧
        t.handle k = some { h with phase := 6, fin := true, status := imageStatus f s.life.fwCounter, doneNs := s.clk.tai.ns }) ∧
      (∀ f, s.liveOp 0x0C = some (k, h) → s.life.newTables = none → imageStatus f s.life.tablesCounter = 0 → popCount 12 h.arg ≠ 0 → ∃ t : State,
        exec (.moduleDmaComplete k (.firmware f)) s = .next t ∧ t.life.newTables = some f ∧
          ∀ i, i < 12 → bit h.arg i = true → (t.core i).tablesDue = true) ∧
      (∀ im x, h.op = 3 → h.ctx = some x → (s.ctx x).job.phase = 1 → (s.ctx x).job.handle = k → structureOk im = true → 12 ≤ s.healthyCores → s.culls.length < 4096 →
        stage2 s.deviceId (s.ctx x).sealed_ im = [] → im.blocks ≤ s.t2Room x → ∃ t : State, exec (.moduleDmaComplete k (.image im)) s = .next t ∧ (t.ctx x).state = .loaded ∧
          (t.ctx x).job.phase = 2 ∧ (t.ctx x).job.image = some im ∧ (t.ctx x).job.imageFrames = im.blocks ∧
          t.handle k = some { h with phase := 5, done := im.blocks, total := im.blocks, fin := true, status := 0, doneNs := s.clk.tai.ns }) ∧
      (∀ b, h.op = 0x0F → h.arg = 2 → b.length = h.len → ((List.range h.total).map (fun i => sub b (20 * i) 20)).all (s.tableEntryOk 2) = true → ∃ t : State,
        exec (.moduleDmaComplete k (.table b)) s = .next t ∧ t.peersIp = ((List.range h.total).map (fun i => sub b (20 * i) 20)).foldl peerEntry s.peersIp ∧
          t.handle k = some { h with phase := 5, done := h.total, fin := true, status := 0, doneNs := s.clk.tai.ns }) ∧
      (∀ r, h.op = 0x0F → h.arg = 1 → r = s.logFrom h.mb h.arg2 h.len → ∃ t : State, exec (.moduleDmaComplete k .done) s = .next t ∧
        (r.1 ≠ [] → t.out = s.out ++ [Output.dmaWrite h.fn h.addr (r.1.flatMap (fun e => e.bytes))]) ∧
        t.handle k = some { h with phase := 5, done := r.1.length, total := r.1.length + r.2, fin := true, status := 0, doneNs := s.clk.tai.ns }))

/-- Signed configuration, lifecycle states, debug levels, attestation and the gaffer reset (R227, R483 to R488, R491 to R493, R496 to R498, R564, R565). A record is
installed or refused, read and never with the password's key; a challenge is given; a transition is accepted with a handle from the states that its row names; its end
erases what R486 names and takes effect, at once or after a gaffer reset; a debug level that needs no scrub takes effect at once. -/
def Obligations.LifecycleRowsComplete : Prop :=
  (∀ rq b k (s : State), s.Heard rq 0x0B 6 → rq.fld 0 1 = 1 → rq.mb = 0 → rq.body.length = 24 → k = rq.fld 1 1 → 1 ≤ k → k ≤ 7 → rq.fld 2 6 = 0 → rq.fld 20 4 = 0 →
      b.length = rq.fld 16 4 → recordForm k b = true → ∃ t : State, exec (.lifecycleInstallRecord rq (some b)) s = .next t ∧
        Answered t 0 (s.recordStatus k b) [] ∧
        (s.recordStatus k b = 0 → t.life.record k = some { counter := le b 8 4, bytes := b, valid := true }) ∧
        (s.recordStatus k b ≠ 0 → t.life = s.life))
  ∧ (∀ rq b k (s : State), s.Heard rq 0x0B 6 → rq.fld 0 1 = 2 → rq.mb = 0 → rq.body.length = 24 → k = rq.fld 1 1 → 1 ≤ k → k ≤ 7 → rq.fld 2 6 = 0 → rq.fld 20 4 = 0 →
      s.readRecord k = some b → ∃ t : State, exec (.lifecycleReadRecord rq) s = .next t ∧ Answered t 0 0 (leBytes 4 b.length) ∧
        .dmaWrite 0 (rq.fld 8 8) (b.take (rq.fld 16 4)) ∈ t.out)
  ∧ (∀ rq c i f a (s : State), (i, f, a) ∈ [(Instr.lifecycleChallenge rq, 6, 3), (.debugChallenge rq, 7, 0xFF)] → s.Heard rq 0x0B f → rq.fld 0 1 = a → rq.mb = 0 →
      rq.body.length = 8 → rq.fld 1 7 = 0 → c = padTo 32 (Config.random32 s.fresh) → ∃ t : State, exec i s = .next t ∧ Answered t 0 0 c ∧
        (t.mbox 0).challenge = some (c, s.clk.tai.ns) ∧ t.fresh = s.fresh + 1)
  ∧ (∀ rq i a from_ key r (s : State), (i, a, from_, key, r) ∈ [
        (Instr.lifecycleToFieldDebug rq, 0x10, [2], some (s.life.ownerKey 2),
          ({ toLife := 3, toDebug := s.life.debug, handle := 0, eraseNand := true } : Transition)),
        (.lifecycleToField rq, 0x11, [3], none, { toLife := 2, toDebug := 0, handle := 0, eraseNand := true, gafferReset := true }),
        (.lifecycleToReturned rq, 0x12, [2, 3], some (s.life.ownerKey 2), { toLife := 4, toDebug := 0, handle := 0, windows := true, eraseNand := true,
                                                                            zeroDram := true, eraseOwner := true, gafferReset := s.life.debug == 2 }),
        (.lifecycleManufactureToField rq, 0x13, [1], some (s.life.skovgalKey 0), { toLife := 2, toDebug := 0, handle := 0, eraseNand := true,
                                                                                   zeroDram := true, gafferReset := s.life.debug == 2 }),
        (.lifecycleToManufacture rq, 0x14, [4], some (s.life.skovgalKey 0), { toLife := 1, toDebug := s.life.debug, handle := 0, tears := false })] →
      s.Heard rq 0x0B 6 → rq.fld 0 1 = a → rq.mb = 0 → rq.body.length = (if key.isSome then 72 else 8) → rq.fld 1 7 = 0 → s.life.trans = none →
      from_.contains s.life.state = true → (∀ k, key = some k → s.authorised rq k = true) → s.handleRoom 0 = true → ∃ t : State, exec i s = .next t ∧
        Answered t 0 0 [] ∧ sub (t.mbox 0).rsp 16 8 = leBytes 8 (s.nextHandle 0 2) ∧ t.life.state = s.life.state ∧
        t.life.trans = some { r with handle := s.nextHandle 0 2, begun := !s.transitionBlocked })
  ∧ (∀ r (s : State), s.life.trans = some r → r.begun = true → r.resetting = false → s.tearing = [] → (r.windows = true → s.lend = []) → ∃ t : State,
      exec .lifecycleTransitionDone s = .next t ∧ (r.eraseNand = true → t.nand = []) ∧ (r.zeroDram = true ∨ r.gafferReset = true → t.mem = zeroDram t.mem) ∧
        (r.eraseOwner = true → ∀ k, k ≠ 1 → t.life.records.find k = none) ∧ (∀ m, (t.mbox m).session = {}) ∧
        (r.gafferReset = false → t.life.state = r.toLife ∧ t.life.debug = r.toDebug ∧ t.life.trans = none ∧
          Logged s t 0x0015 1 noCtx [s.life.state, r.toLife, s.life.debug, r.toDebug]) ∧
        (r.gafferReset = true → t.start.gafferDown = true ∧ t.life.state = s.life.state ∧ t.life.trans = some { r with resetting := true }))
  ∧ (∀ rq i lvl key (s : State), (i, lvl) ∈ [(Instr.debugNone rq, 0), (.debugObserve rq, 1), (.debugInvasive rq, 2)] → s.Heard rq 0x0B 7 → rq.fld 0 1 = lvl →
      key = (if lvl = 0 then none else if s.life.state = 4 then some (s.life.skovgalKey 0)
        else if s.life.state = 3 ∧ lvl = 2 then some (s.life.ownerKey 2) else none) → rq.mb = 0 → rq.body.length = (if key.isSome then 72 else 8) →
      rq.fld 1 7 = 0 → s.life.trans = none → ¬(s.life.state = 2 ∧ lvl = 2) → (∀ k, key = some k → s.authorised rq k = true) →
      (lvl = s.life.debug → ∃ t : State, exec i s = .next t ∧ Answered t 0 0 [] ∧ t.life = s.life) ∧
      (lvl ≠ s.life.debug → lvl ≠ 2 → s.life.debug ≠ 2 → ∃ t : State, exec i s = .next t ∧ Answered t 0 0 [] ∧
        t.life = { s.life with debug := lvl, opened := s.life.opened || decide (1 ≤ lvl) } ∧
        Logged s t 0x0015 1 noCtx [s.life.state, s.life.state, s.life.debug, lvl]) ∧
      (lvl ≠ s.life.debug → lvl = 2 ∨ s.life.debug = 2 → s.handleRoom 0 = true → ∃ t : State, exec i s = .next t ∧ Answered t 0 0 [] ∧
        t.life.debug = s.life.debug ∧ t.life.trans = some { toLife := s.life.state, toDebug := lvl, handle := s.nextHandle 0 2, windows := decide (lvl = 2),
                                                            gafferReset := decide (lvl ≠ 2), begun := !s.transitionBlocked }))
  ∧ (∀ n (s : State), s.start.pwrok = true → s.start.inReset = false → s.start.gafferDown = false → ∃ t : State, exec (.gafferReset n) s = .next t ∧ t.ctxs = [] ∧ t.mem = [] ∧
      t.flows = [] ∧ t.handles = [] ∧ t.migs = [] ∧ t.life.debug = 0 ∧ t.start.gafferDown = true ∧ t.start.stage = 2 ∧ t.start.cause = 3 ∧
      t.log = s.log ∧ t.clk = s.clk ∧ t.fwd = s.fwd ∧ (∀ c, (t.core c).rings = [] ∧ (t.core c).acc = [] ∧ (t.core c).active = []) ∧
      ∀ m, (t.mbox m).session = {} ∧ (t.mac m).up = (s.mac m).up)
  ∧ (∀ rq x y (s : State), (s.Heard rq 0x0B 5 ∨ s.HeardFree rq 0x0B 5) → OnNone rq → x = (if rq.mb = 0 then rq.target else rq.mb - 1) →
      (rq.mb = 0 → x ≠ 0xFFFF → (s.ctx x).created = true) → y = (if x ≠ 0xFFFF ∧ (s.ctx x).created = true then some x else none) → rq.body.length = 40 →
      rq.fld 33 7 = 0 → ∃ t : State, exec (.attest rq) s = .next t ∧
        (rq.fld 32 1 = 0 → Answered t rq.mb 0 (s.report y (rq.body.take 32))) ∧
        (rq.fld 32 1 ≠ 0 → Answered t rq.mb 0 ((Config.certChunk (rq.fld 32 1)).take 1984)))

/-- Power, cooling, the power states and the power-fail warning (R211, R214, R234, R407 to R409, R499 to R520, R550, R557, R563). A sample is taken and acts by rules
1 and 2, the ticks by rule 3 and R517; a trip and the warning fence every context; the states of family 0x0D are entered, the caps set and the measurements read; the
journal commit block is written; the warning ends, and a coordinator begins the recovery at the rejoin. -/
def Obligations.PowerRowsComplete : Prop :=
  (∀ mv ma mw cap sl run (s : State), s.gafferOn = true → (cap, sl) = s.power.nextCap.getD (s.power.capW, s.power.sealedW) →
      run = (decide (501 ≤ ((mw :: s.power.sumMw).take 100000).length) && ((mw :: s.power.sumMw).take 501).all (fun w => decide (cap * 1000 < w))) → ∃ t : State,
        exec (.powerSample mv ma mw) s = .next t ∧ t.clk = (s.toTai (s.power.sampleNs + 10000)).clk ∧ t.power.mv = mv ∧ t.power.ma = ma ∧ t.power.mw = mw ∧
        t.power.capW = cap ∧ t.power.sealedW = sl ∧ t.power.nextCap = none ∧ t.power.sumMw = (mw :: s.power.sumMw).take 100000 ∧
        t.power.samples = (s.power.samples ++ [(mv, ma, mw)]).drop (s.power.samples.length + 1 - 100) ∧
        (745000 < mw ∨ run = true → s.power.nSh ≤ 4 → t.power.nSh = s.power.nSh) ∧ (745000 < mw ∨ run = true → 4 < s.power.nSh →
          t.power.nSh = max 4 (s.power.nSh - 4)) ∧
        (mw ≤ 745000 → run = false → t.power.nSh = s.power.nSh) ∧ t.power.outside = decide (mv < 44000 ∨ 60000 < mv))
  ∧ (∀ m u (s : State), s.gafferOn = true → m = meanOf s.power.sumMw → u = s.toTai (s.power.capTickNs + 1000000) → ∃ t : State, exec .capControlTick s = .next t ∧ t.clk = u.clk ∧
      t.power.capTickNs = u.clk.tai.ns ∧ (s.power.capW * 1000 - 5000 < m → 4 < s.power.nSh → t.power.nSh = max 4 (s.power.nSh - 1)) ∧
      (m ≤ s.power.capW * 1000 - 5000 → m < s.power.capW * 1000 - 15000 → s.power.nSh < 64 → (∀ c, s.power.fellAt = some c → c + 1050000 ≤ u.clk.cycle) →
        t.power.nSh = s.power.nSh + 1) ∧
      (m ≤ s.power.capW * 1000 - 5000 → s.power.capW * 1000 - 15000 ≤ m → t.power.nSh = s.power.nSh))
  ∧ (∀ cs u (s : State), s.gafferOn = true → u = cs.foldl (fun s r => State.reading s r) (s.toTai (s.power.thermTickNs + 1000000)) → ∃ t : State,
      exec (.thermalTick cs) s = .next t ∧ t.clk = u.clk ∧ t.power.temps = u.power.temps ∧ t.power.slices = u.power.slices ∧
        ((∃ k ∈ sensors, throttleAt (k / 64) ≤ u.temp k) → t.power.nT = max 8 (s.power.nT - 4) ∧ (s.power.nT = 64 → bit t.pins.alertStatus 1 = true)) ∧
        ((∀ k ∈ sensors, u.temp k < releaseAt (k / 64)) → s.power.nT < 64 → t.power.nT = s.power.nT + 1) ∧
        ((∀ k ∈ sensors, u.temp k < throttleAt (k / 64)) → (∃ k ∈ sensors, releaseAt (k / 64) ≤ u.temp k) → t.power.nT = s.power.nT))
  ∧ (∀ r (s : State), s.gafferOn = true → tripAt r.part ≤ r.centi → ∃ t : State, exec (.thermalTrip r) s = .next t ∧ t.power.state = .idle ∧ t.power.tripped = true ∧
      t.pins.thermN = false ∧ bit t.pins.alertStatus 2 = true ∧ (∀ x, (s.ctx x).created = true → (t.ctx x).fenced = true) ∧
      ∀ c, (t.core c).n ≠ 0 → (t.core c).rampDown = true)
  ∧ (∀ rq (s : State), s.Heard rq 0x0D 1 → rq.mb = 0 → rq.body.length = 8 → rq.fld 1 7 = 0 →
      (rq.fld 0 1 = 0 → (s.power.tripped = true → s.cooled = true) → ∃ t : State, exec (.powerStateActive rq) s = .next t ∧ Answered t 0 0 [] ∧
        t.power = { s.power with state := .active, tripped := false } ∧ (s.power.tripped = true → t.pins.thermN = true)) ∧
      (rq.fld 0 1 = 1 → s.anyRunning = false → ∃ t : State, exec (.powerStateIdle rq) s = .next t ∧ Answered t 0 0 [] ∧
        t.power = { s.power with state := .idle } ∧ ∀ c, (t.core c).n ≠ 0 → (t.core c).rampDown = true) ∧
      (rq.fld 0 1 = 2 → s.anyRunning = false → s.power.state ≠ .standby → ∃ t : State, exec (.powerStateStandby rq) s = .next t ∧
        (s.lend = [] → Answered t 0 0 [] ∧ t.power.state = .standby ∧ t.power.wait = none ∧ (∀ m, (t.mbox m).session = {}) ∧
          ∀ p m, p < 8 → m ∈ portMacs (s.port p).mode p → (t.mac m).up = false) ∧
        ((∀ e ∈ s.lend, e.2.state ≠ 1) → s.lend ≠ [] → t.power = { s.power with wait := some rq } ∧ (t.mbox 0).busy = true ∧ t.lend = s.lend)))
  ∧ (∀ w l (s : State), s.lend.find w = some l → s.power.wait = none →
      (l.state = 0 → ∃ t : State, exec (.windowZeroFillComplete w) s = .next t ∧ t.lend.find w = some { l with state := 1, handle := 0 } ∧
        (∀ h, s.handle l.handle = some h → h.fin = false → t.handle l.handle = some { h with fin := true, status := 0, phase := 5, doneNs := s.clk.tai.ns })) ∧
      (l.state ≠ 0 → l.state ≠ 1 → l.state ≠ 2 → ∃ t : State, exec (.windowZeroFillComplete w) s = .next t ∧ t.lend = s.lend.del w))
  ∧ (∀ rq (s : State), s.Heard rq 0x0D 2 → rq.mb = 0 → rq.body.length = 4 → 250 ≤ rq.fld 0 2 → rq.fld 0 2 ≤ 650 → rq.fld 2 2 ≤ rq.fld 0 2 →
      (s.anySealed = true → rq.fld 2 2 = s.power.sealedW) → ∃ t : State, exec (.powerCap rq) s = .next t ∧ Answered t 0 0 [] ∧
        t.power = { s.power with nextCap := some (rq.fld 0 2, rq.fld 2 2) })
  ∧ (∀ rq (s : State), s.Heard rq 0x0D 3 → OnNone rq → rq.body = [] → ∃ t : State, exec (.powerRead rq) s = .next t ∧ Answered t rq.mb 0
      (leBytes 4 (meanOf (s.power.samples.map (fun e => e.1))) ++ leBytes 4 (meanOf (s.power.samples.map (fun e => e.2.1))) ++
        leBytes 4 (meanOf (s.power.samples.map (fun e => e.2.2))) ++ zeros 4 ++
        (List.range 48).flatMap (fun i => leBytes 2 (ofSigned 16 (s.temp (dramKey i)))) ++
        leBytes 2 (ofSigned 16 (s.hottest ((List.range 20).map (sensorKey 0))))))
  ∧ (∀ (s : State), s.pins.pfwAsserted = false → ∃ t : State, exec .pfwAssert s = .next t ∧ t.clk = (s.advance 2100).clk ∧ t.pins.pfwAsserted = true ∧ t.pins.nandClosed = true ∧
      t.pins.journaled = false ∧ t.pins.pfwNs = t.clk.tai.ns ∧ bit t.pins.alertStatus 3 = true ∧
      (s.start.stage = 7 → (∀ x, (s.ctx x).created = true → (t.ctx x).fenced = true) ∧ (∀ c, (t.core c).n ≠ 0 → (t.core c).rampDown = true) ∧
        ∀ rq, s.power.wait = some rq → (t.mbox rq.mb).lastStatus = 0x25 ∧ (t.mbox rq.mb).done = true))
  ∧ (∀ u (s : State), s.commitDue = true → u = s.toTai (s.pins.pfwNs + 2000000) → ∃ t : State, exec .pfwJournalCommit s = .next t ∧ t.clk = u.clk ∧ t.pins.journaled = true ∧
      t.pins.quiesced = true ∧ t.nand.all (fun n => n.whole) = true ∧ t.nand.length = (s.nand.filter (fun n => n.whole)).length ∧
      t.journal = { valid := true, pfw := true, own := s.newestWhole 0, mirror := s.newestWhole 1 } ∧
      ∀ n ∈ s.nand, n.whole = true → (n.role = 0 → n.record.generation ≤ t.journal.own.getOr n.jobId 0) ∧
        (n.role = 1 → n.record.generation ≤ t.journal.mirror.getOr n.jobId 0))
  ∧ (∀ u (s : State), s.pins.pfwAsserted = true → u = s.advance 1050000 → ∃ t : State, exec .pfwRelease s = .next t ∧ t.clk = u.clk ∧ t.pins.pfwAsserted = false ∧
      t.pins.releaseNs = some u.clk.tai.ns ∧ t.pins.nandClosed = false ∧ bit t.pins.alertStatus 3 = true)
  ∧ (∀ n (s : State), s.pins.releaseNs = some n → (s.start.stage = 7 → ∃ t : State, exec .pfwRejoin s = .next t ∧ t.clk = (s.toTai (n + 100000000)).clk ∧
        t.pins.releaseNs = none ∧ ∀ x, s.ctxs = [(x, s.ctx x)] → (s.ctx x).job.phase = 4 → (s.ctx x).job.plan.coordinator = true →
          (s.ctx x).recov.state = .none_ → (t.ctx x).recov.state ≠ .none_ ∧ (t.ctx x).recov.trigger = 3) ∧
      (s.start.stage ≠ 7 → s.pins.pfwAsserted = false → ∃ t : State, exec .pfwRejoin s = .next t ∧ t.start.pfwHeld = false ∧ t.pins.releaseNs = none ∧
        (s.start.pfwHeld = true → s.start.portsDone = true → t.start.stage = 7)))

/-- Start-up, the resets, PCI Express and SMBus (R21, R231, R436, R451, R489, R495, R513, R514, R544, R548, R549, R551, R554 to R566). Each stage ends where R558 says
when nothing holds the sequence, with the failures of R559, R560 and R562; a reset keeps what flash and NAND hold; the function-level resets end the sessions that
they reach; SMBus reads answer with their register. -/
def Obligations.StartupRowsComplete : Prop :=
  (∀ (s : State), s.power.state ≠ .off → s.start.inReset = false → ∃ t : State, exec .moduleReset s = .next t ∧ t.start.inReset = true ∧ t.start.cause = 2 ∧ t.start.stage = 1 ∧
      t.ctxs = [] ∧ t.mem = [] ∧ t.log = [] ∧ t.life.state = s.life.state ∧ t.life.records = s.life.records ∧ t.culls = s.culls ∧ t.pins.perstN = s.pins.perstN ∧
      (s.commitDue = false → t.nand = s.nand ∧ t.journal = s.journal) ∧ (s.commitDue = true → t.journal.valid = true ∧ t.nand.all (fun n => n.whole) = true))
  ∧ (∀ (s : State), s.start.inReset = true → ∃ t : State, exec .moduleResetRelease s = .next t ∧ t.start = { s.start with inReset := false, atCycle := s.clk.cycle })
  ∧ (∀ (s : State), ∃ t : State, exec .inputRemoved s = .next t ∧ t.power.state = .off ∧ t.ctxs = [] ∧ t.mem = [] ∧ t.nand = s.nand ∧ t.journal = s.journal ∧
      t.life.records = s.life.records ∧ t.life.fwCounter = s.life.fwCounter ∧ t.culls = s.culls)
  ∧ (∀ n (s : State), s.power.state = .off → ∃ t : State, exec (.powerOn n) s = .next t ∧ t.power.state = .active ∧ t.start.cause = 1 ∧ t.start.stage = 1 ∧
      t.pins.smbAddr = 0x58 + n % 4 ∧ t.nand = s.nand ∧ t.life.records = s.life.records)
  ∧ (∀ v a (s : State), s.atStage 1 = true → s.start.pfwHeld = false → s.pins.releaseNs = none → a = s.life.lastSlot → ∃ t : State, exec (.romStageEnd v) s = .next t ∧
      (v.regionOk = false → t.start.stage = 15 ∧ t.start.failCode = 4) ∧
      (v.regionOk = true → s.boots v a = true → t.start.stage = 2 ∧ t.start.fallback = false) ∧
      (v.regionOk = true → s.boots v a = false → s.boots v (1 - a) = true → (s.life.slotImages.getD (1 - a) {}).bootable = true →
        t.start.stage = 2 ∧ t.start.fallback = true) ∧
      (v.regionOk = true → s.boots v a = false → s.boots v (1 - a) = false → t.start.stage = 15 ∧ t.start.failCode = 1))
  ∧ (∀ ok (s : State), s.atStage 2 = true → s.start.pfwHeld = false → s.pins.releaseNs = none → ∃ t : State, exec (.firmwareStageEnd ok) s = .next t ∧
      (ok = false → t.start.stage = 15 ∧ t.start.failCode = 3) ∧
      (ok = true → t.start.stage = 3 ∧ t.life.slot = (if s.start.fallback then 1 - s.life.lastSlot else s.life.lastSlot)))
  ∧ (∀ bad (s : State), s.atStage 3 = true → s.start.pfwHeld = false → s.pins.releaseNs = none → s.start.pwrok = false → ∃ t : State, exec (.railsStageEnd bad) s = .next t ∧
      t.start.pwrok = true ∧ t.pcie.linkUp = s.pins.perstN ∧ (∀ k, t.life.record k = if bad.contains k then none else (s.life.records.find k).map (fun r => { r with valid := true })) ∧
      t.start.noModule = (t.life.record 1).isNone ∧ t.start.noOwner = (t.life.record 2).isNone ∧
      t.start.stage = (if (t.life.record 1).isNone then 3 else 4) ∧
      ((t.life.record 5).isNone = true → t.power.capW = 650 ∧ t.power.sealedW = 650))
  ∧ (∀ v (s : State), s.atStage 4 = true → s.start.pfwHeld = false → s.pins.releaseNs = none → ∃ t : State, exec (.memoryStageEnd v) s = .next t ∧ t.start.stage = 5 ∧ t.mem = [] ∧
      t.nand = (s.nand.filter (fun n => n.whole)).map (fun n => { n with record := { n.record with state := 2 } }) ∧
      ∀ b ∈ v.badBanks, (1, b.2.1 * 64 + b.1 * 16 + b.2.2) ∈ t.withdrawn)
  ∧ (∀ fs (s : State), s.atStage 5 = true → s.start.pfwHeld = false → s.pins.releaseNs = none → ∃ t : State, exec (.coresStageEnd fs) s = .next t ∧
      t.start.passed = (List.range 14).filter (fun p => fs.all (fun f => f.1 != p)) ∧
      ((∀ p, p < 14 → ∃ f, fs.find? (fun f => f.1 = p) = some f ∧ f.2 ≤ 2) → t.start.stage = 15 ∧ t.start.failCode = 2) ∧
      ((∃ p, p < 14 ∧ ∀ f, fs.find? (fun f => f.1 = p) = some f → 2 < f.2) → t.start.stage = 6 ∧
        (fs = [] → s.culls = [] → ∀ c, c < 12 → (t.core c).bound = true ∧ (t.core c).pc = c)))
  ∧ (∀ (s : State), s.atStage 6 = true → s.start.pfwHeld = false → s.pins.releaseNs = none → ∃ t : State, exec .portsStageEnd s = .next t ∧
      (s.pins.pfwAsserted = true → t.start.portsDone = true ∧ t.start.pfwHeld = true ∧ t.start.stage = 6) ∧
      (s.pins.pfwAsserted = false → t.start.stage = 7 ∧ t.power.state = .active ∧ bit t.pins.alertStatus 0 = true ∧
        ∀ p, p < 8 → (t.port p).adminUp = (if (s.life.record 4).isNone then (s.port p).adminUp else true)))
  ∧ (∀ (s : State), s.start.gafferDown = true → ∃ t : State, exec .gafferResetComplete s = .next t ∧ t.start.stage = 7 ∧ t.start.gafferDown = false ∧ t.lend = [] ∧
      ∀ r, s.life.trans = some r → t.life.state = r.toLife ∧ t.life.debug = r.toDebug ∧ t.life.trans = none)
  ∧ (∀ l (s : State), ∃ t : State, exec (.perstAssert l) s = .next t ∧ t.pcie.linkUp = false ∧ t.pcie.vfEnabled = [] ∧ t.pcie.maxRead = 512 ∧ t.pins.perstN = (s.pins.perstN && l) ∧
      ∀ d h, d ∈ s.dmaOrder → d.shard = none → s.handle d.handle = some h → h.op = 0x0A → ∃ r, t.handle d.handle = some r ∧ r.fin = true ∧ r.status = 0x1A)
  ∧ (∀ (s : State), ∃ t : State, exec .perstDeassert s = .next t ∧ t.pins.perstN = true ∧ t.pcie.linkUp = (s.start.pwrok && !s.start.inReset))
  ∧ (∀ (s : State), ∃ t : State, exec .flrPhysicalFunction s = .next t ∧ t.pcie.vfEnabled = [] ∧ t.pcie.linkUp = s.pcie.linkUp ∧
      (∀ m, m = 0 ∨ s.pcie.vfEnabled.getOr (m - 1) false = false → (t.mbox m).session = {}) ∧
      ∀ m, m ≠ 0 → s.pcie.vfEnabled.getOr (m - 1) false = true → (t.mbox m).session = (s.mbox m).session)
  ∧ (∀ n (s : State), n ≠ 0 → s.pcie.vfEnabled.getOr (n - 1) false = true → ∃ t : State, exec (.flrVirtualFunction n) s = .next t ∧ t.pcie = s.pcie ∧ (t.mbox n).session = {} ∧
      ∀ m, m ≠ n → (t.mbox m).session = (s.mbox m).session)
  ∧ (∀ i b (s : State), (i, b) ∈ [(Instr.smbPart, partNumber), (.smbSerial, padTo 16 Config.serial), (.smbBootStatus, leBytes 4 s.bootStatus),
        (.smbInput, if s.gafferStarted then leBytes 4 s.inputMeans.1 ++ leBytes 4 s.inputMeans.2.1 ++ leBytes 4 s.inputMeans.2.2 else zeros 12),
        (.smbTemp, if s.gafferStarted then (List.range 4).flatMap (fun p => leBytes 2 (ofSigned 16 (s.hottest (sensors.filter (fun k => k / 64 = p))))) else zeros 8),
        (.smbLogSeq, if s.gafferStarted then leBytes 4 s.logNext else zeros 4)] → s.power.state ≠ .off → s.start.inReset = false → ∃ t : State,
      exec i s = .next t ∧ t.out = s.out ++ [Output.smbus b])
  ∧ (∀ v (s : State), s.power.state ≠ .off → s.start.inReset = false → ∃ t : State, exec (.smbAlertStatusWrite v) s = .next t ∧
      (∀ k, k < 16 → bit t.pins.alertStatus k = (bit s.pins.alertStatus k && !bit v k)) ∧ t.pins.alertMask = s.pins.alertMask)
  ∧ (∀ (s : State), s.power.state ≠ .off → s.start.inReset = false → ∃ t : State, exec .smbAlertResponse s = .next t ∧
      (s.alertLow = true → t.out = s.out ++ [Output.smbus (leBytes 1 s.pins.smbAddr)]) ∧ (s.alertLow = false → t.out = s.out ++ [Output.smbNack]))

/-- Register writes, the diagnostic BAR and the scrubbers (R4, R7 to R9, R194, R204, R205, R220 to R227, R436 to R439, R443, R555). -/
def Obligations.RegisterRowsComplete : Prop :=
  (∀ fn off v m o (s : State), s.pcie.linkUp = true → s.bar0Loc fn off = .page m o → ∃ t : State, exec (.registerWrite (.bar0 fn off 1) v) s = .next t ∧
      t.mbox m = (s.mbox m).writeByte o (v % 256) ∧ ∀ n, n ≠ m → t.mbox n = s.mbox n)
  ∧ (∀ fn off v m (s : State), s.pcie.linkUp = true → s.bar0Loc fn off = .doorbell m 0 → ∃ t : State, exec (.registerWrite (.bar0 fn off 1) v) s = .next t ∧
      t.mbox m = { s.mbox m with overrun := (s.mbox m).overrun || (s.mbox m).done || (s.mbox m).busy })
  ∧ (∀ fn off n v (s : State), s.pcie.linkUp = true → s.bar0Loc fn off = .none_ → ∃ t : State, exec (.registerWrite (.bar0 fn off n) v) s = .next t ∧
      t.out = s.out ++ [Output.unsupported] ∧ t.mailboxes = s.mailboxes)
  ∧ (∀ fn off v (s : State), s.pcie.linkUp = true → (∃ x o, s.bar0Loc fn off = .counters x o) ∨ s.bar0Loc fn off = .reserved →
      exec (.registerWrite (.bar0 fn off 1) v) s = .next s)
  ∧ (∀ v (s : State), s.power.state ≠ .off → s.start.inReset = false → ∃ t : State, exec (.registerWrite (.smb 7) v) s = .next t ∧ t.pins.alertMask = v % 32)
  ∧ (∀ n (s : State), s.pcie.linkUp = true → ∃ t : State, exec (.registerWrite .sriov n) s = .next t ∧ ∀ i, t.pcie.vfEnabled.getOr i false = decide (i < min 512 n))
  ∧ (∀ n (s : State), s.pcie.linkUp = true → n ≤ 5 → ∃ t : State, exec (.registerWrite .maxRead n) s = .next t ∧ t.pcie = { s.pcie with maxRead := 128 * 2 ^ n })
  ∧ (∀ v (s : State), s.debugOpen = true → ∃ t : State, exec (.registerWrite .debugPort v) s = .next t ∧
      t.pins.tap = (if bit v 2 = true then s.pins.tap.step (bit v 1) else .reset) ∧ t.mem = s.mem ∧ t.life = s.life)
  ∧ (∀ fn off n (s : State), ∃ t : State, exec (.bar2Read fn off n) s = .next t ∧ t.mem = s.mem ∧
      (s.bar2Ok fn off n = true → t.out = s.out ++ [Output.completion (s.localRead (fn - 1) off n)]) ∧
      (s.bar2Ok fn off n = false → t.out = s.out ++ [Output.unsupported]))
  ∧ (∀ fn off data (s : State), (s.bar2Ok fn off data.length = false → ∃ t : State, exec (.bar2Write fn off data) s = .next t ∧ t.mem = s.mem ∧ t.out = s.out ++ [Output.unsupported]) ∧
      (s.bar2Ok fn off data.length = true → data ≠ [] → off / tileBytes = (off + data.length - 1) / tileBytes →
        (((s.ctx (fn - 1)).entry (off / tileBytes)).stalls = false → ∃ t : State, exec (.bar2Write fn off data) s = .next t ∧
          t = s.tileWrite1 (fn - 1) (off / tileBytes) (off % tileBytes) data) ∧
        (((s.ctx (fn - 1)).entry (off / tileBytes)).stalls = true → ∃ t : State, exec (.bar2Write fn off data) s = .next t ∧ t.mem = s.mem ∧
          t.stalled = s.stalled ++ [({ ctx := fn - 1, tile := off / tileBytes, off := off % tileBytes, data := data } : Stalled)])))
  ∧ (∀ st a e w (s : State), s.hasLog = true →
      (e.hits = [] → e.wrongRow = false → ∃ t : State, exec (.scrubLine st a e w) s = .next t ∧ t.log = s.log ∧ t.mem = s.mem) ∧
      (∀ tier lane b, s.power.state ≠ .standby → (st, tier) ∈ [(Store.t1, 1), (.t2, 2)] → e.verdict tier = .corrected lane → b = s.bankOf tier 0 (a / 1024) (a % 1024) → ∃ t : State,
        exec (.scrubLine st a e w) s = .next t ∧ (w = true ∨ e.weight tier ≤ 1 → t.mem = s.mem) ∧
        (t.counters.getOr 0x1832 {}).value = ((s.counters.getOr 0x1832 {}).add 1).value ∧
        (t.banks.getOr b.1.key {}).corrected = (s.banks.getOr b.1.key {}).corrected + 1) ∧
      (∀ tier cls x k bank, s.power.state ≠ .standby → (st, tier) ∈ [(Store.t1, 1), (.t2, 2)] → e.verdict tier = .uncorrectable cls → reservedFrame tier (a / 1024) = false →
        s.frameTile tier (a / 1024) = some (x, bank, k) → ∃ t : State, exec (.scrubLine st a e w) s = .next t ∧
          ((t.ctx x).bankEntry bank k).lost = true ∧ ((t.ctx x).fenceDue = true ∨ (t.ctx x).fenced = true)) ∧
      (∀ cls, st = .gaffer → e.verdict 0 = .uncorrectable cls → s.start.gafferDown = false → ∃ t : State, exec (.scrubLine st a e w) s = .next t ∧
        t.start.gafferDown = true ∧ t.start.cause = 3 ∧ t.ctxs = []))

/-- One step runs the command at the front of the queue on the state with the rest of the queue. -/
def Obligations.StepRunsTheFrontCommand : Prop :=
  ∀ c r (s : State), s.pending = c :: r → step s = exec c { s with pending := r }

/-- With nothing queued one step lets one cycle of 1.05 GHz pass and changes the clock alone (the model's choice, log 2; the clock, log 4). Two such steps are one
advance of two cycles, and 21,000 cycles at no correction are 20 microseconds of the PTP clock. -/
def Obligations.EmptyQueueLetsACyclePass : Prop :=
  (∀ s : State, s.pending = [] → ∃ t : State, step s = .next t ∧ t.clk.cycle = (s.clk.cycle + 1) % 2 ^ 64 ∧ Only [.clk] s t ∧ s.clk.tai.ns ≤ t.clk.tai.ns)
  ∧ (∀ (s : State) m n, (s.advance m).advance n = s.advance (m + n))
  ∧ (∀ s : State, s.clk.freqPpb = 0 → s.clk.rem = 0 → (s.advance 21000).clk.tai.units = s.clk.tai.units + 20000 * 65536)

/-- What reset leaves, where the manual gives the value: STAGE, SLOT and the other fields of R556, n_sh and n_t at 64, the caps at 650 W, an alert mask of 0, no
context, no session, memory with nothing in it, and an empty queue (R427, R438, R439, R485, R506, R507, R517, R549, R555, R556, R564). -/
def Obligations.ResetState : Prop :=
  (State.reset.bootStatus / 2 ^ 28 = 1 ∧ State.reset.bootStatus / 2 ^ 26 % 4 = 0 ∧ State.reset.bootStatus / 2 ^ 24 % 4 = 3 ∧
    State.reset.bootStatus / 2 ^ 8 % 256 = 0 ∧ State.reset.bootStatus % 16 = 0)
  ∧ State.reset.power.nSh = 64 ∧ State.reset.power.nT = 64 ∧ State.reset.power.capW = 650 ∧ State.reset.power.sealedW = 650
  ∧ State.reset.pins.alertMask = 0 ∧ State.reset.life.debug = 0 ∧ State.reset.pcie.linkUp = false ∧ State.reset.mailUp = false
  ∧ State.reset.pending = [] ∧ State.reset.mem = [] ∧ (∀ x, (State.reset.ctx x).state = .free ∧ (State.reset.ctx x).weights.punty (State.reset.ctx x).job.step = 0)
  ∧ (∀ m, (State.reset.mbox m).session.isOpen = false ∧ State.reset.mbxControl m = 0x20) ∧ (∀ k, State.reset.handle k = none)

/-- The invariant holds of the state after reset. -/
def Obligations.ResetMeetsTheInvariant : Prop := Machine.Inv State.reset

/-- Every step keeps the invariant, whatever command it runs: memory keeps its canonical form, so that equal memories are equal data, and the two power fractions
stay in the ranges of R506 and R517, which bound every core's issue. No step stops the module. -/
def Obligations.StepKeepsTheInvariant : Prop := ∀ (s : State), Machine.Inv s → ∃ t : State, step s = .next t ∧ Machine.Inv t

/-- The frame of every command: exec answers a next state, and only the fields of the state that `touches` lists for the command can have changed. No command changes
the queue, and none but those listed changes memory, the contexts, the mailboxes, the log, the counters or any other field. -/
def Obligations.EveryCommandChangesOnlyItsFields : Prop :=
  (∀ i (s : State), ∃ t : State, exec i s = .next t ∧ Only (touches i) s t) ∧ ∀ i (s : State) t, exec i s = .next t → t.pending = s.pending

/-- The frame of memory for the rows that store (R162, R169, R197, R199, R205, R230, R386). The end of an operation of a vector, move or update unit, and of an array
drain, stores to the bytes of its writes and to no other, where no generation asks for a copy before write. A write at BAR2 to a tile stores to its bytes, and to the
frame of the secure reserve that a copy before write takes. -/
def Obligations.MemoryChangesOnlyWhereWritten : Prop :=
  (∀ c n (s : State), (∀ y, (s.ctx y).sec.newest = none) → ∃ t : State, exec (.opComplete c n) s = .next t ∧
      (∀ u, n = 0 → (s.core c).vec = some u → OnlyBytes (u.effs.map (s.effRange c u.ctx)) s t) ∧
      (∀ u, n = 1 → (s.core c).mov = some u → OnlyBytes (u.effs.map (s.effRange c u.ctx)) s t) ∧
      (∀ u, 2 ≤ n → (s.core c).chan = some u → OnlyBytes (u.effs.map (s.effRange c u.ctx)) s t))
  ∧ (∀ c d l (s : State), (∀ y, (s.ctx y).sec.newest = none) → (s.core c).drains = d :: l → ∃ t : State, exec (.drainComplete c) s = .next t ∧
      OnlyBytes (d.writes.map (fun w => (tsPhys c w.1, w.2.length))) s t)
  ∧ (∀ fn off data (s : State), data ≠ [] → off / tileBytes = (off + data.length - 1) / tileBytes → ∃ t : State, exec (.bar2Write fn off data) s = .next t ∧
      OnlyBytes ((((s.ctx (fn - 1)).entry (off / tileBytes)).phys (fn - 1) (off / tileBytes) + off % tileBytes, data.length) ::
        (match s.reserveFrame (fn - 1) with | some f => [(capPhys f, tileBytes)] | none => [])) s t)

/-- The frame of the descriptors that start a unit (R152, R159 to R162): every other core and every other context keep all they hold, the other rings of the core keep
theirs, and the ring keeps its base and size; memory, the log and the mailboxes are unchanged. An OPT_UPDATE, before which the gaffer may write the hyperparameter
record of its step into the core's tile store (R365), keeps every other core and ring too. -/
def Obligations.StartingAUnitChangesItsCoreAlone : Prop :=
  (∀ (c r : Nat) (i : Instr) (s : State), i ∈ [Instr.convertComputedScales c r, .convertSuppliedScales c r, .convertSplitTwo c r, .convertSplitThree c r, .vectorAdd c r, .vectorSubtract c r,
        .vectorMultiply c r, .vectorFma c r, .vectorFmaP0 c r, .vectorMaximum c r, .vectorMinimum c r, .vectorExp c r, .vectorLog c r, .vectorRcp c r,
        .vectorRsqrt c r, .vectorSqrt c r, .vectorSigmoid c r, .vectorGelu c r, .vectorSilu c r] ++
      [Instr.vectorSoftmax c r, .vectorLayerNorm c r, .vectorRmsNorm c r, .vectorRowSum c r, .vectorRowMaximum c r, .vectorUniformRandom c r, .vectorDropout c r,
        .tileMoveLoad c r, .tileMoveStore c r, .tileMoveCopy c r, .nop c r, .endDesc c r, .jump c r, .cursor c r] →
    ∃ t : State, exec i s = .next t ∧ Only [.fresh, .cores, .ctxs] s t ∧ (∀ k, k ≠ c → t.core k = s.core k) ∧ (∀ y, y ≠ (s.ring c r).ctx → t.ctx y = s.ctx y) ∧
      (∀ q, q ≠ r → t.ring c q = s.ring c q) ∧ (t.ring c r).base = (s.ring c r).base ∧ (t.ring c r).size = (s.ring c r).size)
  ∧ ∀ (c r : Nat) (i : Instr) (s : State), i ∈ [Instr.optUpdateAdam c r, .optUpdateMomentum c r] → ∃ t : State, exec i s = .next t ∧
      Only [.fresh, .mem, .cores, .ctxs, .migs, .stalled, .rowCopies] s t ∧ (∀ k, k ≠ c → t.core k = s.core k) ∧ (∀ q, q ≠ r → t.ring c q = s.ring c q) ∧
      (t.ring c r).base = (s.ring c r).base ∧ (t.ring c r).size = (s.ring c r).size

/-- R112: the product of two finite nonzero codes is an A48 value exactly: RNE48 returns the very value, at the scale of A48's 37-bit significand, with no overflow, and
its binary exponent lies in the stated range. -/
def Obligations.ProductsAreExact : Prop :=
  (∀ a b : Kb16, a.isZero = false → a.isNan = false → a.isInf = false → b.isZero = false → b.isNan = false → b.isInf = false → ∃ n i,
      (kb16Product a b).1 = .fin (a.sign != b.sign) n (i - 31) ∧ 2 ^ 31 ≤ n ∧ n < 2 ^ 32 ∧ i = (a.log + b.log) / 256 ∧ n = t16 ((a.log + b.log) % 256).toNat ∧
      -272 ≤ i ∧ i ≤ 269 ∧ (rne48 (kb16Product a b).1).1.val = .fin (a.sign != b.sign) (n * 2 ^ 5) (i - 36) ∧ (rne48 (kb16Product a b).1).2 = false)
  ∧ (∀ (a b : Kb8) (p q : Int), a.isZero = false → a.isNan = false → b.isZero = false → b.isNan = false → -128 ≤ p → p ≤ 127 → -128 ≤ q → q ≤ 127 → ∃ n i,
      (kb8Product a b p q).1 = .fin (a.sign != b.sign) n (i - 31) ∧ 2 ^ 31 ≤ n ∧ n < 2 ^ 32 ∧ i = (a.log + b.log) / 8 + p + q ∧
      n = t16 (32 * ((a.log + b.log) % 8).toNat) ∧ -272 ≤ i ∧ i ≤ 269 ∧
      (rne48 (kb8Product a b p q).1).1.val = .fin (a.sign != b.sign) (n * 2 ^ 5) (i - 36) ∧ (rne48 (kb8Product a b p q).1).2 = false)

/-- R52: KB8 with block scale b to KB16 sets L16 = 32 × L8 + 256 × b with the sign unchanged, exactly while it lies in the finite range; above it overflows by the mode
(R46), below it is zero; zero and NaN map to zero and NaN. -/
def Obligations.Kb8WidensToKb16 : Prop :=
  ∀ (c : Kb8) (b : Int) (m : Mode), -128 ≤ b → b ≤ 127 →
    (c.isZero = true → (kb8ToKb16 c b m).1.isZero = true) ∧ (c.isNan = true → (kb8ToKb16 c b m).1.isNan = true) ∧
    (c.isZero = false → c.isNan = false →
      (-16383 ≤ 32 * c.log + 256 * b → 32 * c.log + 256 * b ≤ 16382 → (kb8ToKb16 c b m).1.log = 32 * c.log + 256 * b ∧ (kb8ToKb16 c b m).1.sign = c.sign ∧
        (kb8ToKb16 c b m).2 = false ∧ (kb8ToKb16 c b m).1.lin = c.lin b) ∧
      (16383 ≤ 32 * c.log + 256 * b → (kb8ToKb16 c b m).2 = true ∧ (kb8ToKb16 c b m).1.sign = c.sign ∧
        (kb8ToKb16 c b m).1.log = (match m with | .strict => 16383 | .saturate => 16382)) ∧
      (32 * c.log + 256 * b ≤ -16384 → kb8ToKb16 c b m = (0x4000#16, false)))

/-- R53, from KB16 to KB8 with block scale b. L8 is (L16 - 256 b) / 32 rounded to the nearest integer, the even one on a tie; above 63 it saturates and sets the overflow
flag, at -64 and below it is the zero code and sets none (R49); zero and NaN map to zero and NaN; an Inf saturates with the input-Inf flag; e_max of a block of one
KB16 element is floor(L16 / 256); and the code and the overflow are those of R48 applied to lin of the KB16 value. -/
def Obligations.Kb16NarrowsAsItsValueDoes : Prop :=
  ∀ (c : Kb16) (b q : Int),
    (c.isZero = true → kb16ToKb8 c b = (0x40#8, false)) ∧ (c.isNan = true → kb16ToKb8 c b = (0xC0#8, false)) ∧
    (c.isInf = true → toKb8 1 c.toNat c.lin b = ((Kb8.mk c.sign 63).toNat, occInput ||| occInf)) ∧
    (c.isZero = false → c.isNan = false → c.isInf = false → blockExp [c.lin] = some (c.log / 256) ∧
      (32 * q - 16 ≤ c.log - 256 * b → c.log - 256 * b ≤ 32 * q + 16 → (c.log - 256 * b = 32 * q - 16 ∨ c.log - 256 * b = 32 * q + 16 → q % 2 = 0) →
        (64 ≤ q → kb16ToKb8 c b = (Kb8.mk c.sign 63, true)) ∧ (q ≤ -64 → kb16ToKb8 c b = (0x40#8, false)) ∧
        (-63 ≤ q → q ≤ 63 → (kb16ToKb8 c b).1.log = q ∧ (kb16ToKb8 c b).1.sign = c.sign ∧ (kb16ToKb8 c b).2 = false))) ∧
    kb16ToKb8 c b = kb8From c.lin b

/-- RNE48 rounds to the nearest A48 value, a tie to the even significand (R116): a finite nonzero result lies within half a unit of its last place of the exact value, at
half a unit its significand is even, and the sign is that of the value; a value of 2^1024 or more overflows, one below 2^-1022 less half a unit is flushed to zero, and
no value between them does either. -/
def Obligations.Rne48IsNearest : Prop :=
  ∀ (sg : Bool) (m : Nat) (e : Int) (v d : Rat), m ≠ 0 → v = (m : Rat) * (2 : Rat) ^ e →
    (∀ s n k, (rne48 (.fin sg m e)).1.val = .fin s n k → n ≠ 0 → d = v - (n : Rat) * (2 : Rat) ^ k → s = sg ∧ 2 ^ 36 ≤ n ∧ n < 2 ^ 37 ∧
      2 * d ≤ (2 : Rat) ^ k ∧ -(2 : Rat) ^ k ≤ 2 * d ∧ (2 * d = (2 : Rat) ^ k ∨ 2 * d = -(2 : Rat) ^ k → n % 2 = 0)) ∧
    ((2 : Rat) ^ (1024 : Int) ≤ v → rne48 (.fin sg m e) = (A48.mk sg 2047 0, true)) ∧
    (v < (2 : Rat) ^ (-1022 : Int) - (2 : Rat) ^ (-1060 : Int) → rne48 (.fin sg m e) = (A48.mk sg 0 0, false)) ∧
    ((2 : Rat) ^ (-1022 : Int) ≤ v → v < (2 : Rat) ^ (1024 : Int) - (2 : Rat) ^ (986 : Int) →
      (rne48 (.fin sg m e)).2 = false ∧ (rne48 (.fin sg m e)).1.val.finNonzero = true)

/-- R123: after E entries level j of a ladder is occupied exactly when bit j of E is set, in normal and in compensated mode, and a drain with E = 0 returns +0. -/
def Obligations.LadderLevelsCountTheEntries : Prop :=
  (∀ (comp : Bool) (xs : List A48) (j : Nat),
    (match (xs.foldl (fun l x => (ladderPush comp l (x, A48.zero)).1) [])[j]? with | some (some _) => true | _ => false) = bit xs.length j)
  ∧ ∀ comp, (ladderDrain comp []).1 = A48.zero

/-- R124: when the number of entries is 2^m, the drain finds level m alone occupied, and the ladder's result is the balanced pairwise tree of the entries, joined by
position (2j, 2j + 1) at every level. With the chunk sum of R120 as each entry it is one balanced tree over the whole reduction. -/
def Obligations.LadderOfAPowerOfTwoIsATree : Prop :=
  ∀ (m : Nat) (xs : List A48), xs.length = 2 ^ m →
    (∀ j, (match (xs.foldl (fun l x => (ladderPush false l (x, A48.zero)).1) [])[j]? with | some (some _) => true | _ => false) = decide (j = m)) ∧
    (ladderDrain false (xs.foldl (fun l x => (ladderPush false l (x, A48.zero)).1) [])).1 = (treeLevels m xs).headD A48.zero ∧
    ∀ ps : List Val, ps.length = 2 ^ m * 256 → xs = (List.range (2 ^ m)).map (fun k => chunkSum ((ps.drop (256 * k)).take 256)) →
      (treeLevels m xs).headD A48.zero = (treeLevels (8 + m) (ps.map (fun v => (rne48 v).1))).headD A48.zero

/-- R329: with two data members x and y of a parity group of P₀ and P₁ lost, the accumulator of P₀ times alpha^y, P₁ and each other member q times alpha^y xor alpha^q,
times the inverse of alpha^x xor alpha^y, is the byte of member x; with x alone lost, P₀ and the others give it by xor, and P₁ alone by the powers of alpha. -/
def Obligations.RebuildRestoresLostData : Prop :=
  ∀ (n x y : Nat) (d : Nat → Nat) (al : Nat → Nat) (sum : (Nat → Nat) → (Nat → Bool) → Nat), n ≤ 255 → x < n → y < n → x ≠ y → (∀ q, d q < 256) →
    al = (fun q => (List.range q).foldl (fun a _ => gfAlpha a) 1) →
    sum = (fun f keep => ((List.range n).filter keep).foldl (fun a q => a ^^^ f q) 0) →
    (sum d (fun _ => true)) ^^^ (sum d (fun q => q != x)) = d x ∧
    (∀ i, i < 256 → gfMul i (al x) = 1 →
      gfMul (sum (fun q => gfMul (d q) (al q)) (fun _ => true) ^^^ sum (fun q => gfMul (d q) (al q)) (fun q => q != x)) i = d x) ∧
    (∀ i, i < 256 → gfMul i (al x ^^^ al y) = 1 →
      gfMul (gfMul (sum d (fun _ => true)) (al y) ^^^ sum (fun q => gfMul (d q) (al q)) (fun _ => true) ^^^
        sum (fun q => gfMul (d q) (al y ^^^ al q)) (fun q => q != x && q != y)) i = d x) ∧
    ∃ i, i < 256 ∧ gfMul i (al x ^^^ al y) = 1

/-- The doorbell of every mailbox command (R443, R549, R561): while the mailboxes are not served nothing happens; while BUSY or DONE is set the command is ignored and sets
OVERRUN, and neither the response nor the session changes. (A standby that waits has windows left, R514: the third premise rules out states that no run reaches.) -/
def Obligations.DoorbellWhileBusyIsIgnored : Prop :=
  ∀ rq d i f c a ad (s : State), MailRow rq d i f c a ad → (∀ v, a = some v → rq.fld 0 1 = v) → (s.power.wait = none ∨ s.lend ≠ []) →
    (s.mailUp = false → exec i s = .next s) ∧
    (s.mailUp = true → (s.mbox rq.mb).done = true ∨ (s.mbox rq.mb).busy = true → ∃ t : State, exec i s = .next t ∧ Only [.mailboxes] s t ∧
      (t.mbox rq.mb).overrun = true ∧ (t.mbox rq.mb).rsp = (s.mbox rq.mb).rsp ∧ (t.mbox rq.mb).lastStatus = (s.mbox rq.mb).lastStatus ∧
      (t.mbox rq.mb).session = (s.mbox rq.mb).session ∧ (t.mbox rq.mb).nextTag = (s.mbox rq.mb).nextTag ∧ ∀ m, m ≠ rq.mb → t.mbox m = s.mbox m)

/-- Every mailbox command is executed only when tag, epoch and MAC are right (R443, R446, R449, R450): otherwise it is answered TAG_ORDER, AUTH_FAILED or NO_SESSION, it
has none of its effects (only the page, its interrupt and the log change), and neither the tag nor the epoch advances while the session stays open. -/
def Obligations.UnauthenticatedCommandsDoNothing : Prop :=
  ∀ rq d i f c a ad st b (s : State), MailRow rq d i f c a ad → (∀ v, a = some v → rq.fld 0 1 = v) → (s.power.wait = none ∨ s.lend ≠ []) → s.mailUp = true →
    b = s.mbox rq.mb → b.done = false → b.busy = false →
    (rq.dbTag ≠ rq.tag ∧ st = 0x12 ∨
     rq.dbTag = rq.tag ∧ b.session.isOpen = true ∧ (rq.epoch ≠ b.epoch ∨ rq.tag ≠ b.nextTag) ∧ st = 0x12 ∨
     rq.dbTag = rq.tag ∧ b.session.isOpen = true ∧ rq.epoch = b.epoch ∧ rq.tag = b.nextTag ∧
       (if keyCmd f c = true then macZero rq else macOk rq f c b.session.kReq) = false ∧ st = 0x11 ∨
     rq.dbTag = rq.tag ∧ b.session.isOpen = false ∧ freeCmd f c = false ∧ st = 0x10 ∨
     rq.dbTag = rq.tag ∧ b.session.isOpen = false ∧ freeCmd f c = true ∧ macZero rq = false ∧ st = 0x11) →
    ∃ t : State, exec i s = .next t ∧ Answered t rq.mb st [] ∧ Only [.out, .ctxs, .mailboxes, .log, .logNext, .logOverflow] s t ∧
      ((t.mbox rq.mb).session.isOpen = true → (t.mbox rq.mb).nextTag = b.nextTag ∧ (t.mbox rq.mb).epoch = b.epoch) ∧
      (b.session.isOpen = true → 15 ≤ b.session.fails → (t.mbox rq.mb).session.isOpen = false) ∧
      (b.session.isOpen = true → b.session.fails < 15 → (t.mbox rq.mb).session.isOpen = true ∧ (t.mbox rq.mb).session.fails = b.session.fails + 1)

/-- A command of the admin mailbox alone that a context mailbox sends is answered CHANNEL and has no effect (R452). -/
def Obligations.AdminCommandsNeedTheAdminMailbox : Prop :=
  ∀ rq d i f c a (s : State), MailRow rq d i f c a true → (∀ v, a = some v → rq.fld 0 1 = v) → (s.power.wait = none ∨ s.lend ≠ []) → s.Heard rq f c →
    rq.mb ≠ 0 → ∃ t : State, exec i s = .next t ∧ Answered t rq.mb 0x13 [] ∧ Only [.out, .mailboxes] s t

/-- The event log is a ring of 65,536 entries (R464, R466): an event is appended with the next SEQ, which rises by one modulo 2^32; when the ring is full the oldest entry
goes, and the overflow counter adds one, saturating. -/
def Obligations.LogIsARing : Prop :=
  ∀ (s t : State) (code sev x : Nat) (args : List Nat), s.log.length ≤ 65536 → t = s.event code sev x args →
    Logged s t code sev x args ∧ t.log.length ≤ 65536 ∧ t.logNext = (s.logNext + 1) % 2 ^ 32 ∧
    (∃ e, t.log = (if s.log.length < 65536 then s.log else s.log.tail) ++ [e] ∧ e.seq = s.logNext) ∧
    t.logOverflow = (if s.log.length < 65536 then s.logOverflow else min (s.logOverflow + 1) 0xFFFFFFFF)

/-- R517: n_t starts at 64; each 1 ms it falls by 4 to 8 while a sensor is at or above its throttle point, rises by 1 to 64 when every sensor is below its release point,
and holds between; it bounds every core, sealed or shared; event 0x0017 is logged when it first falls below 64 and when it returns to 64. -/
def Obligations.ThermalCeilingFollowsTheSensors : Prop :=
  State.reset.power.nT = 64 ∧ (∀ (s : State) c, s.ceiling c ≤ s.power.nT) ∧
  (∀ cs u (s : State), s.gafferOn = true → PowerOk s.power → u = cs.foldl (fun s r => State.reading s r) (s.toTai (s.power.thermTickNs + 1000000)) → ∃ t : State,
    exec (.thermalTick cs) s = .next t ∧
      ((∃ k ∈ sensors, throttleAt (k / 64) ≤ u.temp k) → t.power.nT = max 8 (s.power.nT - 4) ∧
        (s.power.nT = 64 → s.hasLog = true → ∃ k ∈ sensors, throttleAt (k / 64) ≤ u.temp k ∧ t.power.throttleBy = k ∧
          ∃ e ∈ t.log, e.type = 1 ∧ e.sev = 1 ∧ e.body = padTo 64 (leBytes 2 0x0017 ++ zeros 6 ++ leBytes 8 (k / 64) ++ leBytes 8 (k % 64) ++
            leBytes 8 (ofSigned 64 (u.temp k))))) ∧
      ((∀ k ∈ sensors, u.temp k < releaseAt (k / 64)) → t.power.nT = min 64 (s.power.nT + 1) ∧
        (s.power.nT = 63 → s.hasLog = true → ∃ e ∈ t.log, e.type = 1 ∧ e.sev = 0 ∧
          e.body = padTo 64 (leBytes 2 0x0017 ++ zeros 6 ++ leBytes 8 (s.power.throttleBy / 64) ++ leBytes 8 (s.power.throttleBy % 64) ++
            leBytes 8 (ofSigned 64 (u.temp s.power.throttleBy))))) ∧
      ((∀ k ∈ sensors, u.temp k < throttleAt (k / 64)) → (∃ k ∈ sensors, releaseAt (k / 64) ≤ u.temp k) → t.power.nT = s.power.nT))

/-- The dispatch of an expert layer (R354). Experts are ranked in descending score, equal scores by the lower index, a NaN below every number. Of one token, every TOP_K
choice with room is taken; a choice goes to no expert twice and to none that is full; and where a choice is dropped, each of the OVERFLOW_DEPTH experts searched is full or
already the token's. Over a micro-batch no expert takes more tokens than its capacity (R353). That two moved choices of a token never share an expert is the model's
reading (log 90). -/
def Obligations.ExpertsAreDispatchedInOrder : Prop :=
  (∀ l : List F32, (ranking l).Perm (List.range l.length) ∧ (ranking l).Pairwise (fun a b =>
      scoreKey (l.getD b 0) < scoreKey (l.getD a 0) ∨ scoreKey (l.getD a 0) = scoreKey (l.getD b 0) ∧ a < b))
  ∧ (∀ x y : F32, x.val = .nan → y.val ≠ .nan → scoreKey x < scoreKey y)
  ∧ (∀ cap k depth (used : Map Nat) rank r, rank.Nodup → r = dispatchToken cap k depth used rank → r.2.length = min k rank.length ∧ (r.2.filterMap id).Nodup ∧ ∀ e,
      r.1.getOr e 0 = used.getOr e 0 + (if some e ∈ r.2 then 1 else 0) ∧ (some e ∈ r.2 → used.getOr e 0 < cap) ∧
      (e ∈ rank.take k → used.getOr e 0 < cap → some e ∈ r.2) ∧
      (none ∈ r.2 → e ∈ (rank.drop k).take depth → cap ≤ used.getOr e 0 ∨ some e ∈ r.2))
  ∧ ∀ (m : Manifest) ls, (dispatch m ls).length = ls.length ∧ ∀ e, ((dispatch m ls).flatten.filter (fun c => c = some e)).length ≤ capacity m

/-- R547 and R467: at most eight transfers hold a DMA channel, the first in the order of their acceptance of those not yet over; each has at most 96 reads outstanding, of
the Max Read Request Size at most, so that the 768 read tags they share are never exceeded; and a transfer asked for joins behind all that wait. -/
def Obligations.ReadTagsSuffice : Prop :=
  (∀ (s : State), s.dmaServing.length ≤ 8 ∧ (∃ l, s.dmaOrder = s.dmaServing ++ l) ∧ s.dmaTagsUsed ≤ 768 ∧
      ∀ d, s.dmaOut d ≤ 96 ∧ (0 < s.pcie.maxRead → s.dmaOut d < 96 → d.bytes ≤ s.dmaOut d * s.pcie.maxRead))
  ∧ ∀ (s : State) d, d.shard = none → s.xferLive d = true → (s.dmaAsk d).dmaOrder = s.dmaOrder ++ [d]

/-- R553: the debug port is open only at the debug level invasive. Otherwise the module ignores its pins, holds the test access port in reset, and places DBG_TDO in high
impedance; and five clocks with DBG_TMS high bring an open port to its reset state too (IEEE 1149.1, the model's, log 93). -/
def Obligations.DebugPortIsClosed : Prop :=
  (∀ (s : State) v, s.life.debug ≠ 2 → s.tap = .reset ∧ s.dbgTdo = none ∧ exec (.registerWrite .debugPort v) s = .next s)
  ∧ ∀ t : Tap, ((((t.step true).step true).step true).step true).step true = .reset

/-- The turns of a slotted arbiter (R479): turn j belongs to the sealed context bound to core j modulo 12 if there is one, which takes it or leaves it unused; any other turn
goes to a shared context that asks, by the arbiter's own rule, and no sealed context ever takes a turn that is not its own. -/
def Obligations.TurnsBelongToTheirContext : Prop :=
  ∀ (s : State) j (asks : List Nat) (rule : List Nat → Option Nat), (∀ l x, rule l = some x → x ∈ l) →
    s.turnOwner (j + 12) = s.turnOwner j ∧
    (∀ x, s.turnOwner j = some x → s.turnGrant j asks rule = if x ∈ asks then some x else none) ∧
    (s.turnOwner j = none → s.turnGrant j asks rule = rule (asks.filter (fun x => !(s.ctx x).sealed_))) ∧
    (∀ x, s.turnGrant j asks rule = some x → x ∈ asks ∧ ((s.ctx x).sealed_ = true → s.turnOwner j = some x))
end

