-- ==== Sys2Proof/Laws/Memory.lean ====
section
/-! SUPPORT. The laws of the memory: what a byte reads as after each operation, and that every operation keeps the canonical form. -/

namespace Sys2Proof.Machine

/-! ## The canonical form -/

/-- The canonical form, cell by cell: addresses strictly rising, no cell holding 0. -/
theorem Memory.wf_iff (m : List Host.Cell) :
    Memory.wf m = true ↔ m.Pairwise (fun c d => c.1 < d.1) ∧ ∀ c ∈ m, c.2 ≠ 0#8 := by
  induction m with
  | nil => simp [Memory.wf]
  | cons c m ih =>
    cases m with
    | nil => obtain ⟨a, b⟩ := c; simp [Memory.wf]
    | cons d m =>
      obtain ⟨a, b⟩ := c
      obtain ⟨a', b'⟩ := d
      have e : Memory.wf ((a, b) :: (a', b') :: m) = (b != 0#8 && decide (a < a') && Memory.wf ((a', b') :: m)) := rfl
      rw [e, Bool.and_eq_true, Bool.and_eq_true, ih]
      simp only [bne_iff_ne, decide_eq_true_eq, List.pairwise_cons, List.mem_cons, forall_eq_or_imp]
      constructor
      · rintro ⟨⟨hb, hl⟩, ⟨h1, h2⟩, h3, h4⟩
        exact ⟨⟨⟨hl, fun x hx => lt_trans hl (h1 x hx)⟩, h1, h2⟩, hb, h3, h4⟩
      · rintro ⟨⟨⟨hl, _⟩, h1, h2⟩, hb, h3, h4⟩
        exact ⟨⟨hb, hl⟩, ⟨h1, h2⟩, h3, h4⟩

/-- The cells of a byte string lie in its range. -/
theorem Memory.cells_range (a : Nat) (bs : List Byte) : ∀ c ∈ Memory.cells a bs, a ≤ c.1 ∧ c.1 < a + bs.length := by
  induction bs generalizing a with
  | nil => simp [Memory.cells]
  | cons b bs ih =>
    intro c hc
    unfold Memory.cells at hc
    have key : c ∈ Memory.cells (a + 1) bs → a ≤ c.1 ∧ c.1 < a + (b :: bs).length := by
      intro h
      have := ih (a + 1) c h
      simp only [List.length_cons]
      omega
    split at hc
    · exact key hc
    · rcases List.mem_cons.mp hc with h | h
      · subst h; simp
      · exact key h

/-- The cells of a byte string are canonical. -/
theorem Memory.cells_wf (a : Nat) (bs : List Byte) : Memory.wf (Memory.cells a bs) = true := by
  rw [Memory.wf_iff]
  induction bs generalizing a with
  | nil => simp [Memory.cells]
  | cons b bs ih =>
    unfold Memory.cells
    split
    · exact ih (a + 1)
    · rename_i hb
      refine ⟨List.pairwise_cons.mpr ⟨fun c hc => ?_, (ih (a + 1)).1⟩, fun c hc => ?_⟩
      · have := (Memory.cells_range (a + 1) bs c hc).1
        simp only
        omega
      · rcases List.mem_cons.mp hc with h | h
        · subst h; exact hb
        · exact (ih (a + 1)).2 c h

/-- Replacing the cells of a range by canonical cells inside it keeps the canonical form. -/
theorem Memory.splice_wf {m cs : List Host.Cell} {a n : Nat} (hm : Memory.wf m = true) (hc : Memory.wf cs = true)
    (hr : ∀ c ∈ cs, a ≤ c.1 ∧ c.1 < a + n) : Memory.wf (Memory.splice m a n cs) = true := by
  rw [Memory.wf_iff] at *
  unfold Memory.splice
  refine ⟨?_, ?_⟩
  · rw [List.pairwise_append, List.pairwise_append]
    refine ⟨⟨hm.1.filter _, hc.1, fun x hx y hy => ?_⟩, hm.1.filter _, fun x hx y hy => ?_⟩
    · have h1 := (List.mem_filter.mp hx).2
      have h2 := (hr y hy).1
      simp only [decide_eq_true_eq] at h1
      omega
    · have h3 := (List.mem_filter.mp hy).2
      simp only [decide_eq_true_eq] at h3
      rcases List.mem_append.mp hx with h | h
      · have h1 := (List.mem_filter.mp h).2
        simp only [decide_eq_true_eq] at h1
        omega
      · have h2 := (hr x h).2
        omega
  · intro c h
    rcases List.mem_append.mp h with h | h
    · rcases List.mem_append.mp h with h | h
      · exact hm.2 c (List.mem_filter.mp h).1
      · exact hc.2 c h
    · exact hm.2 c (List.mem_filter.mp h).1

/-- A write keeps the canonical form. -/
theorem Memory.write_wf {m : List Host.Cell} (a : Nat) (bs : List Byte) (hm : Memory.wf m = true) :
    Memory.wf (Memory.write m a bs) = true :=
  Memory.splice_wf hm (Memory.cells_wf a bs) (Memory.cells_range a bs)

/-- A zero-fill keeps the canonical form. -/
theorem Memory.clear_wf {m : List Host.Cell} (a n : Nat) (hm : Memory.wf m = true) : Memory.wf (Memory.clear m a n) = true :=
  Memory.splice_wf hm rfl (fun _ h => nomatch h)

/-- A part of a canonical memory, moved by a constant, is canonical. -/
theorem Memory.shift_wf {m : List Host.Cell} (p : Host.Cell → Bool) (f : Nat → Nat)
    (hf : ∀ c ∈ m, ∀ d ∈ m, p c = true → p d = true → c.1 < d.1 → f c.1 < f d.1) (hm : Memory.wf m = true) :
    Memory.wf ((m.filter p).map (fun c => (f c.1, c.2))) = true := by
  rw [Memory.wf_iff] at *
  refine ⟨?_, ?_⟩
  · rw [List.pairwise_map]
    refine List.Pairwise.imp_of_mem ?_ (hm.1.filter p)
    intro c d hc hd h
    exact hf c (List.mem_filter.mp hc).1 d (List.mem_filter.mp hd).1 (List.mem_filter.mp hc).2 (List.mem_filter.mp hd).2 h
  · intro c hc
    obtain ⟨d, hd, rfl⟩ := List.mem_map.mp hc
    exact hm.2 d (List.mem_filter.mp hd).1

/-- A copy keeps the canonical form. -/
theorem Memory.copy_wf {m : List Host.Cell} (src dst n : Nat) (hm : Memory.wf m = true) : Memory.wf (Memory.copy m src dst n) = true := by
  refine Memory.splice_wf hm (Memory.shift_wf _ (fun k => k - src + dst) ?_ hm) ?_
  · intro c _ d _ hc hd h
    simp only [decide_eq_true_eq] at hc hd
    omega
  · intro c hc
    obtain ⟨d, hd, rfl⟩ := List.mem_map.mp hc
    have := (List.mem_filter.mp hd).2
    simp only [decide_eq_true_eq] at this
    simp only
    omega

/-- A load of cells keeps the canonical form. -/
theorem Memory.load_wf {m : List Host.Cell} (a n : Nat) (cells : List Host.Cell) (hm : Memory.wf m = true) :
    Memory.wf (Memory.load m a n cells) = true := by
  unfold Memory.load
  have key : ∀ k : List Host.Cell, Memory.wf k = true →
      Memory.wf (cells.foldl (fun m c => if c.1 < n then Memory.write m (a + c.1) [c.2] else m) k) = true := by
    induction cells with
    | nil => exact fun k hk => hk
    | cons c cells ih =>
      intro k hk
      refine ih _ ?_
      dsimp only
      split
      · exact Memory.write_wf _ _ hk
      · exact hk
  exact key _ (Memory.clear_wf _ _ hm)

/-! ## What a byte reads as -/

/-- An address below every cell reads 0. -/
theorem Memory.get_of_none {m : List Host.Cell} {k : Nat} (h : ∀ c ∈ m, c.1 ≠ k) : Memory.get m k = 0#8 := by
  induction m with
  | nil => rfl
  | cons c m ih =>
    obtain ⟨a, b⟩ := c
    have h1 : a ≠ k := h (a, b) (List.mem_cons_self ..)
    have h2 := ih (fun c hc => h c (List.mem_cons_of_mem _ hc))
    simp only [Memory.get, if_neg h1, h2]

/-- Reading a memory of which only the addresses that p selects are kept. -/
theorem Memory.get_filter (p : Nat → Bool) (m : List Host.Cell) (k : Nat) :
    Memory.get (m.filter (fun c => p c.1)) k = if p k then Memory.get m k else 0#8 := by
  induction m with
  | nil => simp [Memory.get]
  | cons c m ih =>
    obtain ⟨a, b⟩ := c
    by_cases hp : p a = true
    · rw [List.filter_cons_of_pos (by simpa using hp)]
      by_cases hk : a = k
      · subst hk; simp [Memory.get, hp]
      · simp [Memory.get, hk, ih]
    · rw [List.filter_cons_of_neg (by simpa using hp), ih]
      by_cases hk : a = k
      · subst hk; simp [hp]
      · simp [Memory.get, hk]

/-- Reading two memories joined: the first one's cells hide the second's. -/
theorem Memory.get_append (m n : List Host.Cell) (k : Nat) :
    Memory.get (m ++ n) k = if ∃ c ∈ m, c.1 = k then Memory.get m k else Memory.get n k := by
  induction m with
  | nil => simp
  | cons c m ih =>
    obtain ⟨a, b⟩ := c
    by_cases hk : a = k
    · subst hk; simp [Memory.get]
    · simp only [List.cons_append, Memory.get, ih, List.mem_cons, exists_eq_or_imp, hk, false_or, if_false]

/-- Reading after the cells of a range were replaced. -/
theorem Memory.get_splice {cs : List Host.Cell} {a n : Nat} (m : List Host.Cell) (hr : ∀ c ∈ cs, a ≤ c.1 ∧ c.1 < a + n) (k : Nat) :
    Memory.get (Memory.splice m a n cs) k = if a ≤ k ∧ k < a + n then Memory.get cs k else Memory.get m k := by
  have low := Memory.get_filter (fun x => decide (x < a)) m k
  have high := Memory.get_filter (fun x => decide (a + n ≤ x)) m k
  unfold Memory.splice
  rw [Memory.get_append, Memory.get_append]
  simp only [decide_eq_true_eq] at low high
  by_cases h1 : ∃ c ∈ m.filter (fun c => decide (c.1 < a)) ++ cs, c.1 = k
  · rw [if_pos h1]
    by_cases h2 : ∃ c ∈ m.filter (fun c => decide (c.1 < a)), c.1 = k
    · obtain ⟨c, hc, hk⟩ := h2
      have hlt := (List.mem_filter.mp hc).2
      simp only [decide_eq_true_eq] at hlt
      rw [if_pos ⟨c, hc, hk⟩, low, if_pos (by omega), if_neg (by omega)]
    · rw [if_neg h2]
      obtain ⟨c, hc, hk⟩ := h1
      rcases List.mem_append.mp hc with h | h
      · exact absurd ⟨c, h, hk⟩ h2
      · have := hr c h
        rw [if_pos (by omega)]
  · rw [if_neg h1, high]
    have hcs : Memory.get cs k = 0#8 := Memory.get_of_none (fun c hc hk => h1 ⟨c, List.mem_append_right _ hc, hk⟩)
    have hlow : k < a → Memory.get m k = 0#8 := by
      intro hlt
      have : Memory.get (m.filter (fun c => decide (c.1 < a))) k = 0#8 :=
        Memory.get_of_none (fun c hc hk => h1 ⟨c, List.mem_append_left _ hc, hk⟩)
      rw [low, if_pos hlt] at this
      exact this
    by_cases hh : a + n ≤ k
    · rw [if_pos hh, if_neg (by omega)]
    · rw [if_neg hh]
      by_cases ha : k < a
      · rw [if_neg (by omega), hlow ha]
      · rw [if_pos (by omega), hcs]

/-- The cells of a byte string hold its bytes. -/
theorem Memory.get_cells (a : Nat) (bs : List Byte) (k : Nat) :
    Memory.get (Memory.cells a bs) k = if a ≤ k then bs.getD (k - a) 0#8 else 0#8 := by
  induction bs generalizing a with
  | nil => simp [Memory.cells, Memory.get]
  | cons b bs ih =>
    have next : a + 1 ≤ k → (b :: bs).getD (k - a) 0#8 = bs.getD (k - (a + 1)) 0#8 := by
      intro h
      have : k - a = (k - (a + 1)) + 1 := by omega
      rw [this]
      rfl
    have rest := ih (a + 1)
    unfold Memory.cells
    split
    · rename_i hb
      rw [rest]
      by_cases h1 : a + 1 ≤ k
      · rw [if_pos h1, if_pos (by omega), next h1]
      · rw [if_neg h1]
        by_cases h2 : a ≤ k
        · have : k - a = 0 := by omega
          rw [if_pos h2, this]
          exact hb.symm
        · rw [if_neg h2]
    · simp only [Memory.get, rest]
      by_cases h0 : a = k
      · subst h0; simp
      · rw [if_neg h0]
        by_cases h1 : a + 1 ≤ k
        · rw [if_pos h1, if_pos (by omega), next h1]
        · rw [if_neg h1, if_neg (by omega)]

/-- A byte after a write: the byte written inside its range, the old byte outside. -/
theorem Memory.get_write (m : List Host.Cell) (a : Nat) (bs : List Byte) (k : Nat) :
    Memory.get (Memory.write m a bs) k = if a ≤ k ∧ k < a + bs.length then bs.getD (k - a) 0#8 else Memory.get m k := by
  unfold Memory.write
  rw [Memory.get_splice m (Memory.cells_range a bs), Memory.get_cells]
  by_cases h : a ≤ k ∧ k < a + bs.length
  · rw [if_pos h, if_pos h, if_pos h.1]
  · rw [if_neg h, if_neg h]

/-- A byte after a zero-fill: 0 inside the range, the old byte outside. -/
theorem Memory.get_clear (m : List Host.Cell) (a n k : Nat) :
    Memory.get (Memory.clear m a n) k = if a ≤ k ∧ k < a + n then 0#8 else Memory.get m k :=
  Memory.get_splice m (fun _ h => absurd h (List.not_mem_nil)) k

end Sys2Proof.Machine
end

