-- ==== Sys2Proof/Laws/Frame.lean ====
section
/-! SUPPORT. The frame calculus: `Rel l s t` says that from s to t only the fields of l change and that the invariant is kept; it composes along
chains of operations, and every update of fields of the state has its lemma. -/

namespace Sys2Proof.Machine

theorem Only.refl (l : List Fld) (s : State) : Only l s s := by
  intro f _
  cases f <;> rfl

theorem Only.trans {l : List Fld} {s t u : State} (h : Only l s t) (g : Only l t u) : Only l s u := by
  intro f hf
  have h1 := h f hf
  have h2 := g f hf
  cases f <;> exact h2.trans h1

/-- The fields of l are among those of m. -/
def subF (l m : List Fld) : Bool := l.all (fun f => m.contains f)

theorem Only.mono {l m : List Fld} (hs : subF l m = true) {s t : State} (h : Only l s t) : Only m s t := by
  intro f hf
  refine h f (fun hl => hf ?_)
  have := List.all_eq_true.mp hs f hl
  simpa using this

/-- From s to t only the fields of l change, and the invariant is kept. -/
def Rel (l : List Fld) (s t : State) : Prop := Only l s t ∧ (Inv s → Inv t)

theorem Rel.only {l : List Fld} {s t : State} (h : Rel l s t) : Only l s t := h.1

theorem Rel.inv {l : List Fld} {s t : State} (h : Rel l s t) (hs : Inv s) : Inv t := h.2 hs

theorem Rel.refl (l : List Fld) (s : State) : Rel l s s := ⟨Only.refl l s, id⟩

theorem Rel.trans {l : List Fld} {s t u : State} (h : Rel l s t) (g : Rel l t u) : Rel l s u := ⟨h.1.trans g.1, fun i => g.2 (h.2 i)⟩

theorem Rel.mono {l m : List Fld} {s t : State} (hs : subF l m = true) (h : Rel l s t) : Rel m s t := ⟨h.1.mono hs, h.2⟩

theorem subF_trans {l m n : List Fld} (h : subF l m = true) (g : subF m n = true) : subF l n = true := by
  rw [subF, List.all_eq_true] at *
  intro f hf
  have := h f hf
  exact g f (by simpa using this)

theorem Rel.of_some {l : List Fld} {s t : State} (h : Rel l s t) : ∀ u, some t = some u → Rel l s u := by
  intro u e
  cases e
  exact h

theorem Rel.of_none {l : List Fld} {s : State} : ∀ u, none = some u → Rel l s u := fun _ e => nomatch e

/-- A chain by way of a state in its middle. -/
theorem Rel.via {l : List Fld} {s t u : State} (h : Rel l s t) (k : Rel l s t → Rel l s u) : Rel l s u := k h

/-- One more operation at the end of a chain. -/
theorem Rel.step {l m : List Fld} {s t u : State} (hs : subF m l = true) (g : Rel m t u) (h : Rel l s t) : Rel l s u := h.trans (g.mono hs)

/-- An operation folded over a list at the end of a chain. -/
theorem Rel.foldl {α : Type} {l : List Fld} {s t : State} {f : State → α → State} {xs : List α}
    (g : ∀ u a, Rel l u (f u a)) (h : Rel l s t) : Rel l s (xs.foldl f t) := by
  induction xs generalizing t with
  | nil => exact h
  | cons a xs ih => exact ih (h.trans (g t a))

/-- The same, for a fold whose accumulator carries more than the state. -/
theorem Rel.foldlPair {α β : Type} {l : List Fld} {s : State} {f : State × β → α → State × β} {xs : List α} {p : State × β}
    (g : ∀ u b a, Rel l u (f (u, b) a).1) (h : Rel l s p.1) : Rel l s (xs.foldl f p).1 := by
  induction xs generalizing p with
  | nil => exact h
  | cons a xs ih => exact ih (h.trans (g p.1 p.2 a))

theorem Rel.pair {β : Type} {l : List Fld} {s t : State} {b : β} (h : Rel l s t) : Rel l s (t, b).1 := h

theorem Rel.of_eq {β : Type} {l : List Fld} {s t : State} {p : State × β} {b : β} (e : p = (t, b)) (h : Rel l s p.1) : Rel l s t := by
  rw [e] at h
  exact h

/-- The outcome is a next state, reached by changes of the fields of l alone that keep the invariant. -/
def Next (l : List Fld) (s : State) (o : Host.Outcome State Fault Refusal) : Prop := ∃ t, o = .next t ∧ Rel l s t

theorem Next.intro {l : List Fld} {s t : State} (h : Rel l s t) : Next l s (.next t) := ⟨t, rfl, h⟩

theorem Next.via {l : List Fld} {s t : State} {o : Host.Outcome State Fault Refusal} (h : Rel l s t) (k : Rel l s t → Next l s o) : Next l s o := k h

theorem Next.mono {l m : List Fld} {s : State} {o : Host.Outcome State Fault Refusal} (g : Next l s o) (hs : subF l m = true) : Next m s o :=
  g.imp (fun _ h => ⟨h.1, h.2.mono hs⟩)

/-- A change that leaves memory and power alone keeps the invariant. -/
theorem Rel.of_only {l : List Fld} {s t : State} (h : Only l s t) (hm : t.mem = s.mem) (hp : t.power = s.power) : Rel l s t :=
  ⟨h, fun i => ⟨by rw [hm]; exact i.mem, by rw [hp]; exact i.power⟩⟩

theorem Rel.set_pending {s : State} {v0 : List Instr} :
    Rel [.pending] s { s with pending := v0 } :=
  .of_only (fun f hf => by cases f <;> first | rfl | exact absurd (by decide) hf) rfl rfl

theorem Rel.set_out {s : State} {v1 : List Output} :
    Rel [.out] s { s with out := v1 } :=
  .of_only (fun f hf => by cases f <;> first | rfl | exact absurd (by decide) hf) rfl rfl

theorem Rel.set_fresh {s : State} {v2 : Nat} :
    Rel [.fresh] s { s with fresh := v2 } :=
  .of_only (fun f hf => by cases f <;> first | rfl | exact absurd (by decide) hf) rfl rfl

theorem Rel.set_clk {s : State} {v3 : Clock} :
    Rel [.clk] s { s with clk := v3 } :=
  .of_only (fun f hf => by cases f <;> first | rfl | exact absurd (by decide) hf) rfl rfl

theorem Rel.set_mem {s : State} {v4 : List Host.Cell} (hm : Memory.wf s.mem = true → Memory.wf v4 = true) :
    Rel [.mem] s { s with mem := v4 } :=
  ⟨fun f hf => by cases f <;> first | rfl | exact absurd (by decide) hf, fun i => ⟨hm i.mem, i.power⟩⟩

theorem Rel.set_mem_cores_ctxs_migs_asks_stalled_rowCopies_freed_tcache_flows_trk_ctrl_fcache_atoms_probes_macs_mailboxes_handles_life_start_pcie_pins {s : State} {v4 : List Host.Cell} {v6 : Map Core} {v7 : Map Ctx} {v8 : List Mig} {v9 : List MigAsk} {v10 : List Stalled} {v15 : List RowCopy} {v19 : List (Nat × Nat × Nat)} {v20 : List TEntry} {v25 : Map Flow} {v26 : Map Trk} {v28 : List CtrlMsg} {v31 : List Nat} {v32 : List (Nat × Nat × Nat × Nat)} {v33 : List (Nat × Nat × Nat × Nat × Nat)} {v36 : Map Mac} {v46 : Map Mailbox} {v49 : Map Handle} {v57 : Life} {v58 : Startup} {v59 : Pcie} {v60 : Pins} (hm : Memory.wf s.mem = true → Memory.wf v4 = true) :
    Rel [.mem, .cores, .ctxs, .migs, .asks, .stalled, .rowCopies, .freed, .tcache, .flows, .trk, .ctrl, .fcache, .atoms, .probes, .macs, .mailboxes, .handles, .life, .start, .pcie, .pins] s { s with mem := v4, cores := v6, ctxs := v7, migs := v8, asks := v9, stalled := v10, rowCopies := v15, freed := v19, tcache := v20, flows := v25, trk := v26, ctrl := v28, fcache := v31, atoms := v32, probes := v33, macs := v36, mailboxes := v46, handles := v49, life := v57, start := v58, pcie := v59, pins := v60 } :=
  ⟨fun f hf => by cases f <;> first | rfl | exact absurd (by decide) hf, fun i => ⟨hm i.mem, i.power⟩⟩

theorem Rel.set_mem_nand_start {s : State} {v4 : List Host.Cell} {v54 : List NandGen} {v58 : Startup} (hm : Memory.wf s.mem = true → Memory.wf v4 = true) :
    Rel [.mem, .nand, .start] s { s with mem := v4, nand := v54, start := v58 } :=
  ⟨fun f hf => by cases f <;> first | rfl | exact absurd (by decide) hf, fun i => ⟨hm i.mem, i.power⟩⟩

theorem Rel.set_cores {s : State} {v6 : Map Core} :
    Rel [.cores] s { s with cores := v6 } :=
  .of_only (fun f hf => by cases f <;> first | rfl | exact absurd (by decide) hf) rfl rfl

theorem Rel.set_cores_tcache {s : State} {v6 : Map Core} {v20 : List TEntry} :
    Rel [.cores, .tcache] s { s with cores := v6, tcache := v20 } :=
  .of_only (fun f hf => by cases f <;> first | rfl | exact absurd (by decide) hf) rfl rfl

theorem Rel.set_ctxs {s : State} {v7 : Map Ctx} :
    Rel [.ctxs] s { s with ctxs := v7 } :=
  .of_only (fun f hf => by cases f <;> first | rfl | exact absurd (by decide) hf) rfl rfl

theorem Rel.set_migs {s : State} {v8 : List Mig} :
    Rel [.migs] s { s with migs := v8 } :=
  .of_only (fun f hf => by cases f <;> first | rfl | exact absurd (by decide) hf) rfl rfl

theorem Rel.set_migs_asks {s : State} {v8 : List Mig} {v9 : List MigAsk} :
    Rel [.migs, .asks] s { s with migs := v8, asks := v9 } :=
  .of_only (fun f hf => by cases f <;> first | rfl | exact absurd (by decide) hf) rfl rfl

theorem Rel.set_migs_asks_stalled {s : State} {v8 : List Mig} {v9 : List MigAsk} {v10 : List Stalled} :
    Rel [.migs, .asks, .stalled] s { s with migs := v8, asks := v9, stalled := v10 } :=
  .of_only (fun f hf => by cases f <;> first | rfl | exact absurd (by decide) hf) rfl rfl

theorem Rel.set_asks {s : State} {v9 : List MigAsk} :
    Rel [.asks] s { s with asks := v9 } :=
  .of_only (fun f hf => by cases f <;> first | rfl | exact absurd (by decide) hf) rfl rfl

theorem Rel.set_asks_stalled {s : State} {v9 : List MigAsk} {v10 : List Stalled} :
    Rel [.asks, .stalled] s { s with asks := v9, stalled := v10 } :=
  .of_only (fun f hf => by cases f <;> first | rfl | exact absurd (by decide) hf) rfl rfl

theorem Rel.set_stalled {s : State} {v10 : List Stalled} :
    Rel [.stalled] s { s with stalled := v10 } :=
  .of_only (fun f hf => by cases f <;> first | rfl | exact absurd (by decide) hf) rfl rfl

theorem Rel.set_migRr {s : State} {v11 : Nat} :
    Rel [.migRr] s { s with migRr := v11 } :=
  .of_only (fun f hf => by cases f <;> first | rfl | exact absurd (by decide) hf) rfl rfl

theorem Rel.set_verifyLast {s : State} {v12 : Nat} :
    Rel [.verifyLast] s { s with verifyLast := v12 } :=
  .of_only (fun f hf => by cases f <;> first | rfl | exact absurd (by decide) hf) rfl rfl

theorem Rel.set_lend {s : State} {v13 : Map LendWin} :
    Rel [.lend] s { s with lend := v13 } :=
  .of_only (fun f hf => by cases f <;> first | rfl | exact absurd (by decide) hf) rfl rfl

theorem Rel.set_banks {s : State} {v14 : Map BankErr} :
    Rel [.banks] s { s with banks := v14 } :=
  .of_only (fun f hf => by cases f <;> first | rfl | exact absurd (by decide) hf) rfl rfl

theorem Rel.set_banks_rowCopies {s : State} {v14 : Map BankErr} {v15 : List RowCopy} :
    Rel [.banks, .rowCopies] s { s with banks := v14, rowCopies := v15 } :=
  .of_only (fun f hf => by cases f <;> first | rfl | exact absurd (by decide) hf) rfl rfl

theorem Rel.set_banks_rowCopies_rowMap {s : State} {v14 : Map BankErr} {v15 : List RowCopy} {v16 : List (BankLoc × Nat × Nat)} :
    Rel [.banks, .rowCopies, .rowMap] s { s with banks := v14, rowCopies := v15, rowMap := v16 } :=
  .of_only (fun f hf => by cases f <;> first | rfl | exact absurd (by decide) hf) rfl rfl

theorem Rel.set_banks_laneSpares {s : State} {v14 : Map BankErr} {v21 : List (Nat × Nat)} :
    Rel [.banks, .laneSpares] s { s with banks := v14, laneSpares := v21 } :=
  .of_only (fun f hf => by cases f <;> first | rfl | exact absurd (by decide) hf) rfl rfl

theorem Rel.set_banks_ports_life_pins {s : State} {v14 : Map BankErr} {v37 : Map Port} {v57 : Life} {v60 : Pins} :
    Rel [.banks, .ports, .life, .pins] s { s with banks := v14, ports := v37, life := v57, pins := v60 } :=
  .of_only (fun f hf => by cases f <;> first | rfl | exact absurd (by decide) hf) rfl rfl

theorem Rel.set_rowCopies {s : State} {v15 : List RowCopy} :
    Rel [.rowCopies] s { s with rowCopies := v15 } :=
  .of_only (fun f hf => by cases f <;> first | rfl | exact absurd (by decide) hf) rfl rfl

theorem Rel.set_withdrawn_bankSpares {s : State} {v17 : List (Nat × Nat)} {v22 : List Nat} :
    Rel [.withdrawn, .bankSpares] s { s with withdrawn := v17, bankSpares := v22 } :=
  .of_only (fun f hf => by cases f <;> first | rfl | exact absurd (by decide) hf) rfl rfl

theorem Rel.set_retiredFrames {s : State} {v18 : List (Nat × Nat)} :
    Rel [.retiredFrames] s { s with retiredFrames := v18 } :=
  .of_only (fun f hf => by cases f <;> first | rfl | exact absurd (by decide) hf) rfl rfl

theorem Rel.set_retiredFrames_freed_flows_trk_nand {s : State} {v18 : List (Nat × Nat)} {v19 : List (Nat × Nat × Nat)} {v25 : Map Flow} {v26 : Map Trk} {v54 : List NandGen} :
    Rel [.retiredFrames, .freed, .flows, .trk, .nand] s { s with retiredFrames := v18, freed := v19, flows := v25, trk := v26, nand := v54 } :=
  .of_only (fun f hf => by cases f <;> first | rfl | exact absurd (by decide) hf) rfl rfl

theorem Rel.set_freed {s : State} {v19 : List (Nat × Nat × Nat)} :
    Rel [.freed] s { s with freed := v19 } :=
  .of_only (fun f hf => by cases f <;> first | rfl | exact absurd (by decide) hf) rfl rfl

theorem Rel.set_tcache {s : State} {v20 : List TEntry} :
    Rel [.tcache] s { s with tcache := v20 } :=
  .of_only (fun f hf => by cases f <;> first | rfl | exact absurd (by decide) hf) rfl rfl

theorem Rel.set_culls {s : State} {v23 : List Cullet} :
    Rel [.culls] s { s with culls := v23 } :=
  .of_only (fun f hf => by cases f <;> first | rfl | exact absurd (by decide) hf) rfl rfl

theorem Rel.set_arrayErrs {s : State} {v24 : List (Nat × Nat)} :
    Rel [.arrayErrs] s { s with arrayErrs := v24 } :=
  .of_only (fun f hf => by cases f <;> first | rfl | exact absurd (by decide) hf) rfl rfl

theorem Rel.set_flows {s : State} {v25 : Map Flow} :
    Rel [.flows] s { s with flows := v25 } :=
  .of_only (fun f hf => by cases f <;> first | rfl | exact absurd (by decide) hf) rfl rfl

theorem Rel.set_flows_trk_ctrl {s : State} {v25 : Map Flow} {v26 : Map Trk} {v28 : List CtrlMsg} :
    Rel [.flows, .trk, .ctrl] s { s with flows := v25, trk := v26, ctrl := v28 } :=
  .of_only (fun f hf => by cases f <;> first | rfl | exact absurd (by decide) hf) rfl rfl

theorem Rel.set_flows_ctrl {s : State} {v25 : Map Flow} {v28 : List CtrlMsg} :
    Rel [.flows, .ctrl] s { s with flows := v25, ctrl := v28 } :=
  .of_only (fun f hf => by cases f <;> first | rfl | exact absurd (by decide) hf) rfl rfl

theorem Rel.set_flows_fcache {s : State} {v25 : Map Flow} {v31 : List Nat} :
    Rel [.flows, .fcache] s { s with flows := v25, fcache := v31 } :=
  .of_only (fun f hf => by cases f <;> first | rfl | exact absurd (by decide) hf) rfl rfl

theorem Rel.set_trk {s : State} {v26 : Map Trk} :
    Rel [.trk] s { s with trk := v26 } :=
  .of_only (fun f hf => by cases f <;> first | rfl | exact absurd (by decide) hf) rfl rfl

theorem Rel.set_trk_trkNext {s : State} {v26 : Map Trk} {v27 : Nat} :
    Rel [.trk, .trkNext] s { s with trk := v26, trkNext := v27 } :=
  .of_only (fun f hf => by cases f <;> first | rfl | exact absurd (by decide) hf) rfl rfl

theorem Rel.set_ctrl {s : State} {v28 : List CtrlMsg} :
    Rel [.ctrl] s { s with ctrl := v28 } :=
  .of_only (fun f hf => by cases f <;> first | rfl | exact absurd (by decide) hf) rfl rfl

theorem Rel.set_ctrl_ctrlNext {s : State} {v28 : List CtrlMsg} {v30 : Nat} :
    Rel [.ctrl, .ctrlNext] s { s with ctrl := v28, ctrlNext := v30 } :=
  .of_only (fun f hf => by cases f <;> first | rfl | exact absurd (by decide) hf) rfl rfl

theorem Rel.set_ctrlSeen {s : State} {v29 : List (Nat × Nat × Nat)} :
    Rel [.ctrlSeen] s { s with ctrlSeen := v29 } :=
  .of_only (fun f hf => by cases f <;> first | rfl | exact absurd (by decide) hf) rfl rfl

theorem Rel.set_fcache {s : State} {v31 : List Nat} :
    Rel [.fcache] s { s with fcache := v31 } :=
  .of_only (fun f hf => by cases f <;> first | rfl | exact absurd (by decide) hf) rfl rfl

theorem Rel.set_atoms {s : State} {v32 : List (Nat × Nat × Nat × Nat)} :
    Rel [.atoms] s { s with atoms := v32 } :=
  .of_only (fun f hf => by cases f <;> first | rfl | exact absurd (by decide) hf) rfl rfl

theorem Rel.set_probes {s : State} {v33 : List (Nat × Nat × Nat × Nat × Nat)} :
    Rel [.probes] s { s with probes := v33 } :=
  .of_only (fun f hf => by cases f <;> first | rfl | exact absurd (by decide) hf) rfl rfl

theorem Rel.set_probeLast {s : State} {v34 : Map Nat} :
    Rel [.probeLast] s { s with probeLast := v34 } :=
  .of_only (fun f hf => by cases f <;> first | rfl | exact absurd (by decide) hf) rfl rfl

theorem Rel.set_links {s : State} {v35 : List LinkMeasure} :
    Rel [.links] s { s with links := v35 } :=
  .of_only (fun f hf => by cases f <;> first | rfl | exact absurd (by decide) hf) rfl rfl

theorem Rel.set_macs {s : State} {v36 : Map Mac} :
    Rel [.macs] s { s with macs := v36 } :=
  .of_only (fun f hf => by cases f <;> first | rfl | exact absurd (by decide) hf) rfl rfl

theorem Rel.set_ports {s : State} {v37 : Map Port} :
    Rel [.ports] s { s with ports := v37 } :=
  .of_only (fun f hf => by cases f <;> first | rfl | exact absurd (by decide) hf) rfl rfl

theorem Rel.set_lanes {s : State} {v38 : Map Lane} :
    Rel [.lanes] s { s with lanes := v38 } :=
  .of_only (fun f hf => by cases f <;> first | rfl | exact absurd (by decide) hf) rfl rfl

theorem Rel.set_recal {s : State} {v39 : Option (Nat × Nat)} :
    Rel [.recal] s { s with recal := v39 } :=
  .of_only (fun f hf => by cases f <;> first | rfl | exact absurd (by decide) hf) rfl rfl

theorem Rel.set_recalPeriodS {s : State} {v40 : Nat} :
    Rel [.recalPeriodS] s { s with recalPeriodS := v40 } :=
  .of_only (fun f hf => by cases f <;> first | rfl | exact absurd (by decide) hf) rfl rfl

theorem Rel.set_fwd {s : State} {v41 : Map FwdEntry} :
    Rel [.fwd] s { s with fwd := v41 } :=
  .of_only (fun f hf => by cases f <;> first | rfl | exact absurd (by decide) hf) rfl rfl

theorem Rel.set_peersIp {s : State} {v42 : Map Nat} :
    Rel [.peersIp] s { s with peersIp := v42 } :=
  .of_only (fun f hf => by cases f <;> first | rfl | exact absurd (by decide) hf) rfl rfl

theorem Rel.set_fwdDropNs {s : State} {v43 : Map Nat} :
    Rel [.fwdDropNs] s { s with fwdDropNs := v43 } :=
  .of_only (fun f hf => by cases f <;> first | rfl | exact absurd (by decide) hf) rfl rfl

theorem Rel.set_ecnDraws {s : State} {v45 : Nat} :
    Rel [.ecnDraws] s { s with ecnDraws := v45 } :=
  .of_only (fun f hf => by cases f <;> first | rfl | exact absurd (by decide) hf) rfl rfl

theorem Rel.set_mailboxes {s : State} {v46 : Map Mailbox} :
    Rel [.mailboxes] s { s with mailboxes := v46 } :=
  .of_only (fun f hf => by cases f <;> first | rfl | exact absurd (by decide) hf) rfl rfl

theorem Rel.set_pwFails {s : State} {v47 : List Nat} :
    Rel [.pwFails] s { s with pwFails := v47 } :=
  .of_only (fun f hf => by cases f <;> first | rfl | exact absurd (by decide) hf) rfl rfl

theorem Rel.set_pwFails_lockedUntil {s : State} {v47 : List Nat} {v48 : Nat} :
    Rel [.pwFails, .lockedUntil] s { s with pwFails := v47, lockedUntil := v48 } :=
  .of_only (fun f hf => by cases f <;> first | rfl | exact absurd (by decide) hf) rfl rfl

theorem Rel.set_lockedUntil {s : State} {v48 : Nat} :
    Rel [.lockedUntil] s { s with lockedUntil := v48 } :=
  .of_only (fun f hf => by cases f <;> first | rfl | exact absurd (by decide) hf) rfl rfl

theorem Rel.set_handles {s : State} {v49 : Map Handle} :
    Rel [.handles] s { s with handles := v49 } :=
  .of_only (fun f hf => by cases f <;> first | rfl | exact absurd (by decide) hf) rfl rfl

theorem Rel.set_log_logNext {s : State} {v50 : List LogEntry} {v51 : Nat} :
    Rel [.log, .logNext] s { s with log := v50, logNext := v51 } :=
  .of_only (fun f hf => by cases f <;> first | rfl | exact absurd (by decide) hf) rfl rfl

theorem Rel.set_log_logOverflow {s : State} {v50 : List LogEntry} {v52 : Nat} :
    Rel [.log, .logOverflow] s { s with log := v50, logOverflow := v52 } :=
  .of_only (fun f hf => by cases f <;> first | rfl | exact absurd (by decide) hf) rfl rfl

theorem Rel.set_counters {s : State} {v53 : Map Ctr} :
    Rel [.counters] s { s with counters := v53 } :=
  .of_only (fun f hf => by cases f <;> first | rfl | exact absurd (by decide) hf) rfl rfl

theorem Rel.set_nand {s : State} {v54 : List NandGen} :
    Rel [.nand] s { s with nand := v54 } :=
  .of_only (fun f hf => by cases f <;> first | rfl | exact absurd (by decide) hf) rfl rfl

theorem Rel.set_nand_journal {s : State} {v54 : List NandGen} {v55 : Journal} :
    Rel [.nand, .journal] s { s with nand := v54, journal := v55 } :=
  .of_only (fun f hf => by cases f <;> first | rfl | exact absurd (by decide) hf) rfl rfl

theorem Rel.set_nand_journal_pins {s : State} {v54 : List NandGen} {v55 : Journal} {v60 : Pins} :
    Rel [.nand, .journal, .pins] s { s with nand := v54, journal := v55, pins := v60 } :=
  .of_only (fun f hf => by cases f <;> first | rfl | exact absurd (by decide) hf) rfl rfl

theorem Rel.set_power {s : State} {v56 : Power} (hp : PowerOk s.power → PowerOk v56) :
    Rel [.power] s { s with power := v56 } :=
  ⟨fun f hf => by cases f <;> first | rfl | exact absurd (by decide) hf, fun i => ⟨i.mem, hp i.power⟩⟩

theorem Rel.set_power_start {s : State} {v56 : Power} {v58 : Startup} (hp : PowerOk s.power → PowerOk v56) :
    Rel [.power, .start] s { s with power := v56, start := v58 } :=
  ⟨fun f hf => by cases f <;> first | rfl | exact absurd (by decide) hf, fun i => ⟨i.mem, hp i.power⟩⟩

theorem Rel.set_power_start_pcie {s : State} {v56 : Power} {v58 : Startup} {v59 : Pcie} (hp : PowerOk s.power → PowerOk v56) :
    Rel [.power, .start, .pcie] s { s with power := v56, start := v58, pcie := v59 } :=
  ⟨fun f hf => by cases f <;> first | rfl | exact absurd (by decide) hf, fun i => ⟨i.mem, hp i.power⟩⟩

theorem Rel.set_power_pins {s : State} {v56 : Power} {v60 : Pins} (hp : PowerOk s.power → PowerOk v56) :
    Rel [.power, .pins] s { s with power := v56, pins := v60 } :=
  ⟨fun f hf => by cases f <;> first | rfl | exact absurd (by decide) hf, fun i => ⟨i.mem, hp i.power⟩⟩

theorem Rel.set_life {s : State} {v57 : Life} :
    Rel [.life] s { s with life := v57 } :=
  .of_only (fun f hf => by cases f <;> first | rfl | exact absurd (by decide) hf) rfl rfl

theorem Rel.set_life_start {s : State} {v57 : Life} {v58 : Startup} :
    Rel [.life, .start] s { s with life := v57, start := v58 } :=
  .of_only (fun f hf => by cases f <;> first | rfl | exact absurd (by decide) hf) rfl rfl

theorem Rel.set_start {s : State} {v58 : Startup} :
    Rel [.start] s { s with start := v58 } :=
  .of_only (fun f hf => by cases f <;> first | rfl | exact absurd (by decide) hf) rfl rfl

theorem Rel.set_start_pins {s : State} {v58 : Startup} {v60 : Pins} :
    Rel [.start, .pins] s { s with start := v58, pins := v60 } :=
  .of_only (fun f hf => by cases f <;> first | rfl | exact absurd (by decide) hf) rfl rfl

theorem Rel.set_pcie {s : State} {v59 : Pcie} :
    Rel [.pcie] s { s with pcie := v59 } :=
  .of_only (fun f hf => by cases f <;> first | rfl | exact absurd (by decide) hf) rfl rfl

theorem Rel.set_pcie_pins {s : State} {v59 : Pcie} {v60 : Pins} :
    Rel [.pcie, .pins] s { s with pcie := v59, pins := v60 } :=
  .of_only (fun f hf => by cases f <;> first | rfl | exact absurd (by decide) hf) rfl rfl

theorem Rel.set_pins {s : State} {v60 : Pins} :
    Rel [.pins] s { s with pins := v60 } :=
  .of_only (fun f hf => by cases f <;> first | rfl | exact absurd (by decide) hf) rfl rfl

/-! ## What a frame says of one field -/

theorem Rel.pending {l : List Fld} {s t : State} (h : Rel l s t) (hf : Fld.pending ∉ l) : t.pending = s.pending := h.1 .pending hf
theorem Rel.out {l : List Fld} {s t : State} (h : Rel l s t) (hf : Fld.out ∉ l) : t.out = s.out := h.1 .out hf
theorem Rel.fresh {l : List Fld} {s t : State} (h : Rel l s t) (hf : Fld.fresh ∉ l) : t.fresh = s.fresh := h.1 .fresh hf
theorem Rel.clk {l : List Fld} {s t : State} (h : Rel l s t) (hf : Fld.clk ∉ l) : t.clk = s.clk := h.1 .clk hf
theorem Rel.mem {l : List Fld} {s t : State} (h : Rel l s t) (hf : Fld.mem ∉ l) : t.mem = s.mem := h.1 .mem hf
theorem Rel.deviceId {l : List Fld} {s t : State} (h : Rel l s t) (hf : Fld.deviceId ∉ l) : t.deviceId = s.deviceId := h.1 .deviceId hf
theorem Rel.cores {l : List Fld} {s t : State} (h : Rel l s t) (hf : Fld.cores ∉ l) : t.cores = s.cores := h.1 .cores hf
theorem Rel.ctxs {l : List Fld} {s t : State} (h : Rel l s t) (hf : Fld.ctxs ∉ l) : t.ctxs = s.ctxs := h.1 .ctxs hf
theorem Rel.migs {l : List Fld} {s t : State} (h : Rel l s t) (hf : Fld.migs ∉ l) : t.migs = s.migs := h.1 .migs hf
theorem Rel.asks {l : List Fld} {s t : State} (h : Rel l s t) (hf : Fld.asks ∉ l) : t.asks = s.asks := h.1 .asks hf
theorem Rel.stalled {l : List Fld} {s t : State} (h : Rel l s t) (hf : Fld.stalled ∉ l) : t.stalled = s.stalled := h.1 .stalled hf
theorem Rel.migRr {l : List Fld} {s t : State} (h : Rel l s t) (hf : Fld.migRr ∉ l) : t.migRr = s.migRr := h.1 .migRr hf
theorem Rel.verifyLast {l : List Fld} {s t : State} (h : Rel l s t) (hf : Fld.verifyLast ∉ l) : t.verifyLast = s.verifyLast := h.1 .verifyLast hf
theorem Rel.lend {l : List Fld} {s t : State} (h : Rel l s t) (hf : Fld.lend ∉ l) : t.lend = s.lend := h.1 .lend hf
theorem Rel.banks {l : List Fld} {s t : State} (h : Rel l s t) (hf : Fld.banks ∉ l) : t.banks = s.banks := h.1 .banks hf
theorem Rel.rowCopies {l : List Fld} {s t : State} (h : Rel l s t) (hf : Fld.rowCopies ∉ l) : t.rowCopies = s.rowCopies := h.1 .rowCopies hf
theorem Rel.rowMap {l : List Fld} {s t : State} (h : Rel l s t) (hf : Fld.rowMap ∉ l) : t.rowMap = s.rowMap := h.1 .rowMap hf
theorem Rel.withdrawn {l : List Fld} {s t : State} (h : Rel l s t) (hf : Fld.withdrawn ∉ l) : t.withdrawn = s.withdrawn := h.1 .withdrawn hf
theorem Rel.retiredFrames {l : List Fld} {s t : State} (h : Rel l s t) (hf : Fld.retiredFrames ∉ l) : t.retiredFrames = s.retiredFrames := h.1 .retiredFrames hf
theorem Rel.freed {l : List Fld} {s t : State} (h : Rel l s t) (hf : Fld.freed ∉ l) : t.freed = s.freed := h.1 .freed hf
theorem Rel.tcache {l : List Fld} {s t : State} (h : Rel l s t) (hf : Fld.tcache ∉ l) : t.tcache = s.tcache := h.1 .tcache hf
theorem Rel.laneSpares {l : List Fld} {s t : State} (h : Rel l s t) (hf : Fld.laneSpares ∉ l) : t.laneSpares = s.laneSpares := h.1 .laneSpares hf
theorem Rel.bankSpares {l : List Fld} {s t : State} (h : Rel l s t) (hf : Fld.bankSpares ∉ l) : t.bankSpares = s.bankSpares := h.1 .bankSpares hf
theorem Rel.culls {l : List Fld} {s t : State} (h : Rel l s t) (hf : Fld.culls ∉ l) : t.culls = s.culls := h.1 .culls hf
theorem Rel.arrayErrs {l : List Fld} {s t : State} (h : Rel l s t) (hf : Fld.arrayErrs ∉ l) : t.arrayErrs = s.arrayErrs := h.1 .arrayErrs hf
theorem Rel.flows {l : List Fld} {s t : State} (h : Rel l s t) (hf : Fld.flows ∉ l) : t.flows = s.flows := h.1 .flows hf
theorem Rel.trk {l : List Fld} {s t : State} (h : Rel l s t) (hf : Fld.trk ∉ l) : t.trk = s.trk := h.1 .trk hf
theorem Rel.trkNext {l : List Fld} {s t : State} (h : Rel l s t) (hf : Fld.trkNext ∉ l) : t.trkNext = s.trkNext := h.1 .trkNext hf
theorem Rel.ctrl {l : List Fld} {s t : State} (h : Rel l s t) (hf : Fld.ctrl ∉ l) : t.ctrl = s.ctrl := h.1 .ctrl hf
theorem Rel.ctrlSeen {l : List Fld} {s t : State} (h : Rel l s t) (hf : Fld.ctrlSeen ∉ l) : t.ctrlSeen = s.ctrlSeen := h.1 .ctrlSeen hf
theorem Rel.ctrlNext {l : List Fld} {s t : State} (h : Rel l s t) (hf : Fld.ctrlNext ∉ l) : t.ctrlNext = s.ctrlNext := h.1 .ctrlNext hf
theorem Rel.fcache {l : List Fld} {s t : State} (h : Rel l s t) (hf : Fld.fcache ∉ l) : t.fcache = s.fcache := h.1 .fcache hf
theorem Rel.atoms {l : List Fld} {s t : State} (h : Rel l s t) (hf : Fld.atoms ∉ l) : t.atoms = s.atoms := h.1 .atoms hf
theorem Rel.probes {l : List Fld} {s t : State} (h : Rel l s t) (hf : Fld.probes ∉ l) : t.probes = s.probes := h.1 .probes hf
theorem Rel.probeLast {l : List Fld} {s t : State} (h : Rel l s t) (hf : Fld.probeLast ∉ l) : t.probeLast = s.probeLast := h.1 .probeLast hf
theorem Rel.links {l : List Fld} {s t : State} (h : Rel l s t) (hf : Fld.links ∉ l) : t.links = s.links := h.1 .links hf
theorem Rel.macs {l : List Fld} {s t : State} (h : Rel l s t) (hf : Fld.macs ∉ l) : t.macs = s.macs := h.1 .macs hf
theorem Rel.ports {l : List Fld} {s t : State} (h : Rel l s t) (hf : Fld.ports ∉ l) : t.ports = s.ports := h.1 .ports hf
theorem Rel.lanes {l : List Fld} {s t : State} (h : Rel l s t) (hf : Fld.lanes ∉ l) : t.lanes = s.lanes := h.1 .lanes hf
theorem Rel.recal {l : List Fld} {s t : State} (h : Rel l s t) (hf : Fld.recal ∉ l) : t.recal = s.recal := h.1 .recal hf
theorem Rel.recalPeriodS {l : List Fld} {s t : State} (h : Rel l s t) (hf : Fld.recalPeriodS ∉ l) : t.recalPeriodS = s.recalPeriodS := h.1 .recalPeriodS hf
theorem Rel.fwd {l : List Fld} {s t : State} (h : Rel l s t) (hf : Fld.fwd ∉ l) : t.fwd = s.fwd := h.1 .fwd hf
theorem Rel.peersIp {l : List Fld} {s t : State} (h : Rel l s t) (hf : Fld.peersIp ∉ l) : t.peersIp = s.peersIp := h.1 .peersIp hf
theorem Rel.fwdDropNs {l : List Fld} {s t : State} (h : Rel l s t) (hf : Fld.fwdDropNs ∉ l) : t.fwdDropNs = s.fwdDropNs := h.1 .fwdDropNs hf
theorem Rel.hopLimit {l : List Fld} {s t : State} (h : Rel l s t) (hf : Fld.hopLimit ∉ l) : t.hopLimit = s.hopLimit := h.1 .hopLimit hf
theorem Rel.ecnDraws {l : List Fld} {s t : State} (h : Rel l s t) (hf : Fld.ecnDraws ∉ l) : t.ecnDraws = s.ecnDraws := h.1 .ecnDraws hf
theorem Rel.mailboxes {l : List Fld} {s t : State} (h : Rel l s t) (hf : Fld.mailboxes ∉ l) : t.mailboxes = s.mailboxes := h.1 .mailboxes hf
theorem Rel.pwFails {l : List Fld} {s t : State} (h : Rel l s t) (hf : Fld.pwFails ∉ l) : t.pwFails = s.pwFails := h.1 .pwFails hf
theorem Rel.lockedUntil {l : List Fld} {s t : State} (h : Rel l s t) (hf : Fld.lockedUntil ∉ l) : t.lockedUntil = s.lockedUntil := h.1 .lockedUntil hf
theorem Rel.handles {l : List Fld} {s t : State} (h : Rel l s t) (hf : Fld.handles ∉ l) : t.handles = s.handles := h.1 .handles hf
theorem Rel.log {l : List Fld} {s t : State} (h : Rel l s t) (hf : Fld.log ∉ l) : t.log = s.log := h.1 .log hf
theorem Rel.logNext {l : List Fld} {s t : State} (h : Rel l s t) (hf : Fld.logNext ∉ l) : t.logNext = s.logNext := h.1 .logNext hf
theorem Rel.logOverflow {l : List Fld} {s t : State} (h : Rel l s t) (hf : Fld.logOverflow ∉ l) : t.logOverflow = s.logOverflow := h.1 .logOverflow hf
theorem Rel.counters {l : List Fld} {s t : State} (h : Rel l s t) (hf : Fld.counters ∉ l) : t.counters = s.counters := h.1 .counters hf
theorem Rel.nand {l : List Fld} {s t : State} (h : Rel l s t) (hf : Fld.nand ∉ l) : t.nand = s.nand := h.1 .nand hf
theorem Rel.journal {l : List Fld} {s t : State} (h : Rel l s t) (hf : Fld.journal ∉ l) : t.journal = s.journal := h.1 .journal hf
theorem Rel.power {l : List Fld} {s t : State} (h : Rel l s t) (hf : Fld.power ∉ l) : t.power = s.power := h.1 .power hf
theorem Rel.life {l : List Fld} {s t : State} (h : Rel l s t) (hf : Fld.life ∉ l) : t.life = s.life := h.1 .life hf
theorem Rel.start {l : List Fld} {s t : State} (h : Rel l s t) (hf : Fld.start ∉ l) : t.start = s.start := h.1 .start hf
theorem Rel.pcie {l : List Fld} {s t : State} (h : Rel l s t) (hf : Fld.pcie ∉ l) : t.pcie = s.pcie := h.1 .pcie hf
theorem Rel.pins {l : List Fld} {s t : State} (h : Rel l s t) (hf : Fld.pins ∉ l) : t.pins = s.pins := h.1 .pins hf

end Sys2Proof.Machine
end

