-- ==== Sys2Proof/Laws/Ops.lean ====
section
/-! SUPPORT. What the operations and the meanings of Machine/Ops.lean can change: for each operation the fields of the state it may change, and
for each meaning that it answers a next state and the fields that it may change; all of them keep the invariant. -/

namespace Sys2Proof.Machine

theorem State.clearMem_rel (s : State) (a : Nat) (n : Nat) : Rel [.mem] s (State.clearMem s a n) := by
  unfold State.clearMem
  refine Rel.step (by decide) (Rel.set_mem (hm := ?_)) ?_
  · exact Memory.clear_wf _ _
  · exact Rel.refl _ _

theorem State.setCtx_rel (s : State) (x : Nat) (v : Ctx) : Rel [.ctxs] s (State.setCtx s x v) := by
  unfold State.setCtx
  refine Rel.step (by decide) Rel.set_ctxs ?_
  exact Rel.refl _ _

theorem State.updCtx_rel (s : State) (x : Nat) (f : Ctx → Ctx) : Rel [.ctxs] s (State.updCtx s x f) := by
  unfold State.updCtx
  refine Rel.step (by decide) (State.setCtx_rel _ _ _) ?_
  exact Rel.refl _ _

theorem State.updJob_rel (s : State) (x : Nat) (f : Job → Job) : Rel [.ctxs] s (State.updJob s x f) := by
  unfold State.updJob
  refine Rel.step (by decide) (State.updCtx_rel _ _ _) ?_
  exact Rel.refl _ _

theorem State.count_rel (s : State) (x : Nat) (i : Nat) (k : Nat) : Rel [.ctxs] s (State.count s x i k) := by
  unfold State.count
  refine Rel.step (by decide) (State.updCtx_rel _ _ _) ?_
  exact Rel.refl _ _

theorem State.logRoom_rel (s : State) : Rel [.ctxs, .log, .logOverflow] s (State.logRoom s) := by
  unfold State.logRoom
  split
  · exact Rel.refl _ _
  · split
    · exact Rel.refl _ _
    · extract_lets +onlyGivenNames x1; (refine Rel.via (t := x1) ?_ (fun _ => ?_); (on_goal 2 => try clear_value x1); (on_goal 1 => unfold x1); (on_goal 1 => clear x1))
      · refine Rel.step (by decide) Rel.set_log_logOverflow ?_
        exact Rel.refl _ _
      · split
        · assumption
        · refine Rel.step (by decide) (State.updCtx_rel _ _ _) ?_
          assumption

theorem State.emit_rel (s : State) (o : Output) : Rel [.out] s (State.emit s o) := by
  unfold State.emit
  refine Rel.step (by decide) Rel.set_out ?_
  exact Rel.refl _ _

theorem State.setMbox_rel (s : State) (m : Nat) (v : Mailbox) : Rel [.mailboxes] s (State.setMbox s m v) := by
  unfold State.setMbox
  refine Rel.step (by decide) Rel.set_mailboxes ?_
  exact Rel.refl _ _

theorem State.notify_rel (s : State) (m : Nat) (sev : Nat) : Rel [.out, .mailboxes] s (State.notify s m sev) := by
  unfold State.notify
  extract_lets +onlyGivenNames x1; try clear_value x1
  split
  · exact Rel.refl _ _
  · extract_lets +onlyGivenNames x2; (refine Rel.via (t := x2) ?_ (fun _ => ?_); (on_goal 2 => try clear_value x2); (on_goal 1 => unfold x2); (on_goal 1 => clear x2))
    · refine Rel.step (by decide) (State.setMbox_rel _ _ _) ?_
      exact Rel.refl _ _
    · split
      · refine Rel.step (by decide) (State.emit_rel _ _) ?_
        assumption
      · assumption

theorem State.logRecord_rel (s : State) (type : Nat) (sev : Nat) (x : Nat) (body : Nat → List Byte) : Rel [.out, .ctxs, .mailboxes, .log, .logNext, .logOverflow] s (State.logRecord s type sev x body) := by
  unfold State.logRecord
  extract_lets +onlyGivenNames x1; (refine Rel.via (t := x1) ?_ (fun _ => ?_); (on_goal 2 => try clear_value x1); (on_goal 1 => unfold x1); (on_goal 1 => clear x1))
  · refine Rel.step (by decide) (State.logRoom_rel _) ?_
    exact Rel.refl _ _
  · extract_lets +onlyGivenNames x2; try clear_value x2
    extract_lets +onlyGivenNames x3; (refine Rel.via (t := x3) ?_ (fun _ => ?_); (on_goal 2 => try clear_value x3); (on_goal 1 => unfold x3); (on_goal 1 => clear x3))
    · refine Rel.step (by decide) Rel.set_log_logNext ?_
      assumption
    · extract_lets +onlyGivenNames x4; (refine Rel.via (t := x4) ?_ (fun _ => ?_); (on_goal 2 => try clear_value x4); (on_goal 1 => unfold x4); (on_goal 1 => clear x4))
      · refine Rel.step (by decide) (State.notify_rel _ _ _) ?_
        assumption
      · split
        · assumption
        · refine Rel.step (by decide) (State.notify_rel _ _ _) ?_
          assumption

theorem State.event_rel (s : State) (code : Nat) (sev : Nat) (x : Nat) (args : List Nat) : Rel [.out, .ctxs, .mailboxes, .log, .logNext, .logOverflow] s (State.event s code sev x args) := by
  unfold State.event
  refine Rel.step (by decide) (State.logRecord_rel _ _ _ _ _) ?_
  exact Rel.refl _ _

theorem State.setCore_rel (s : State) (c : Nat) (v : Core) : Rel [.cores] s (State.setCore s c v) := by
  unfold State.setCore
  refine Rel.step (by decide) Rel.set_cores ?_
  exact Rel.refl _ _

theorem State.updCore_rel (s : State) (c : Nat) (f : Core → Core) : Rel [.cores] s (State.updCore s c f) := by
  unfold State.updCore
  refine Rel.step (by decide) (State.setCore_rel _ _ _) ?_
  exact Rel.refl _ _

theorem State.updRing_rel (s : State) (c : Nat) (r : Nat) (f : Ring → Ring) : Rel [.cores] s (State.updRing s c r f) := by
  unfold State.updRing
  refine Rel.step (by decide) (State.updCore_rel _ _ _) ?_
  exact Rel.refl _ _

theorem State.draw_rel (s : State) : Rel [.fresh] s (State.draw s) := by
  unfold State.draw
  refine Rel.step (by decide) Rel.set_fresh ?_
  exact Rel.refl _ _

theorem State.countM_rel (s : State) (i : Nat) (k : Nat) : Rel [.counters] s (State.countM s i k) := by
  unfold State.countM
  refine Rel.step (by decide) Rel.set_counters ?_
  exact Rel.refl _ _

theorem State.countFab_rel (s : State) (k : Nat) : Rel [.counters] s (State.countFab s k) := by
  unfold State.countFab
  refine Rel.step (by decide) (State.countM_rel _ _ _) ?_
  exact Rel.refl _ _

theorem State.countMac_rel (s : State) (m : Nat) (k : Nat) (n : Nat) : Rel [.counters] s (State.countMac s m k n) := by
  unfold State.countMac
  refine Rel.step (by decide) (State.countM_rel _ _ _) ?_
  exact Rel.refl _ _

theorem State.setMac_rel (s : State) (m : Nat) (v : Mac) : Rel [.macs] s (State.setMac s m v) := by
  unfold State.setMac
  refine Rel.step (by decide) Rel.set_macs ?_
  exact Rel.refl _ _

theorem State.setFlow_rel (s : State) (f : Nat) (v : Flow) : Rel [.flows] s (State.setFlow s f v) := by
  unfold State.setFlow
  refine Rel.step (by decide) Rel.set_flows ?_
  exact Rel.refl _ _

theorem State.updMbox_rel (s : State) (m : Nat) (f : Mailbox → Mailbox) : Rel [.mailboxes] s (State.updMbox s m f) := by
  unfold State.updMbox
  refine Rel.step (by decide) (State.setMbox_rel _ _ _) ?_
  exact Rel.refl _ _

theorem State.handleEvent_rel (s : State) (k : Nat) (status : Nat) (x : Option Nat) : Rel [.out, .ctxs, .mailboxes, .log, .logNext, .logOverflow] s (State.handleEvent s k status x) := by
  unfold State.handleEvent
  refine Rel.step (by decide) (State.event_rel _ _ _ _ _) ?_
  exact Rel.refl _ _

theorem State.setHandle_rel (s : State) (h : Nat) (v : Handle) : Rel [.handles] s (State.setHandle s h v) := by
  unfold State.setHandle
  refine Rel.step (by decide) Rel.set_handles ?_
  exact Rel.refl _ _

theorem State.finish_rel (s : State) (k : Nat) (status : Nat) : Rel [.out, .ctxs, .mailboxes, .handles, .log, .logNext, .logOverflow] s (State.finish s k status) := by
  unfold State.finish
  split
  · exact Rel.refl _ _
  · split
    · exact Rel.refl _ _
    · extract_lets +onlyGivenNames x1; try clear_value x1
      extract_lets +onlyGivenNames x2; (refine Rel.via (t := x2) ?_ (fun _ => ?_); (on_goal 2 => try clear_value x2); (on_goal 1 => unfold x2); (on_goal 1 => clear x2))
      · refine Rel.step (by decide) (State.setHandle_rel _ _ _) ?_
        exact Rel.refl _ _
      · split
        · refine Rel.step (by decide) (State.handleEvent_rel _ _ _ _) ?_
          assumption
        · assumption

theorem State.mapRings_rel (s : State) (x : Nat) (f : Ring → Ring) : Rel [.cores] s (State.mapRings s x f) := by
  unfold State.mapRings
  refine Rel.step (by decide) Rel.set_cores ?_
  exact Rel.refl _ _

theorem State.progress_rel (s : State) (k : Nat) (phase : Nat) (done : Nat) (total : Nat) : Rel [.handles] s (State.progress s k phase done total) := by
  unfold State.progress
  split
  · exact Rel.refl _ _
  · split
    · exact Rel.refl _ _
    · refine Rel.step (by decide) (State.setHandle_rel _ _ _) ?_
      exact Rel.refl _ _

theorem State.newHandle_rel (s : State) (h : Handle) : Rel [.mailboxes, .handles] s (State.newHandle s h).1 := by
  unfold State.newHandle
  extract_lets +onlyGivenNames x1; try clear_value x1
  extract_lets +onlyGivenNames x2; try clear_value x2
  refine Rel.pair ?_
  refine Rel.step (by decide) (State.setHandle_rel _ _ _) ?_
  refine Rel.step (by decide) (State.updMbox_rel _ _ _) ?_
  exact Rel.refl _ _

theorem State.advance_rel (s : State) (n : Nat) : Rel [.clk] s (State.advance s n) := by
  unfold State.advance
  refine Rel.step (by decide) Rel.set_clk ?_
  exact Rel.refl _ _

theorem State.phase_rel (s : State) (k : Nat) (ph : Nat) : Rel [.handles] s (State.phase s k ph) := by
  unfold State.phase
  split
  · exact Rel.refl _ _
  · split
    · exact Rel.refl _ _
    · refine Rel.step (by decide) (State.setHandle_rel _ _ _) ?_
      exact Rel.refl _ _

theorem State.updWeights_rel (s : State) (x : Nat) (f : Weights → Weights) : Rel [.ctxs] s (State.updWeights s x f) := by
  unfold State.updWeights
  refine Rel.step (by decide) (State.updCtx_rel _ _ _) ?_
  exact Rel.refl _ _

theorem State.alert_rel (s : State) (i : Nat) : Rel [.pins] s (State.alert s i) := by
  unfold State.alert
  refine Rel.step (by decide) Rel.set_pins ?_
  exact Rel.refl _ _

theorem State.setPort_rel (s : State) (p : Nat) (v : Port) : Rel [.ports] s (State.setPort s p v) := by
  unfold State.setPort
  refine Rel.step (by decide) Rel.set_ports ?_
  exact Rel.refl _ _

theorem State.updPort_rel (s : State) (p : Nat) (f : Port → Port) : Rel [.ports] s (State.updPort s p f) := by
  unfold State.updPort
  refine Rel.step (by decide) (State.setPort_rel _ _ _) ?_
  exact Rel.refl _ _

theorem State.progress1_rel (s : State) (k : Nat) : Rel [.handles] s (State.progress1 s k) := by
  unfold State.progress1
  split
  · exact Rel.refl _ _
  · split
    · exact Rel.refl _ _
    · refine Rel.step (by decide) (State.setHandle_rel _ _ _) ?_
      exact Rel.refl _ _

theorem State.toCycle_rel (s : State) (t : Nat) : Rel [.clk] s (State.toCycle s t) := by
  unfold State.toCycle
  refine Rel.step (by decide) (State.advance_rel _ _) ?_
  exact Rel.refl _ _

theorem State.updRecov_rel (s : State) (x : Nat) (f : Recovery → Recovery) : Rel [.ctxs] s (State.updRecov s x f) := by
  unfold State.updRecov
  refine Rel.step (by decide) (State.updCtx_rel _ _ _) ?_
  exact Rel.refl _ _

theorem State.updSec_rel (s : State) (x : Nat) (f : Sec → Sec) : Rel [.ctxs] s (State.updSec s x f) := by
  unfold State.updSec
  refine Rel.step (by decide) (State.updCtx_rel _ _ _) ?_
  exact Rel.refl _ _

theorem State.toTai_rel (s : State) (ns : Nat) : Rel [.clk] s (State.toTai s ns) := by
  unfold State.toTai
  split
  · exact Rel.refl _ _
  · extract_lets +onlyGivenNames x1; (refine Rel.via (t := x1) ?_ (fun _ => ?_); (on_goal 2 => try clear_value x1); (on_goal 1 => unfold x1); (on_goal 1 => clear x1))
    · refine Rel.step (by decide) (State.advance_rel _ _) ?_
      exact Rel.refl _ _
    · refine Rel.step (by decide) Rel.set_clk ?_
      assumption

theorem State.countCore_rel (s : State) (c : Nat) (k : Nat) (n : Nat) (x : Option Nat) : Rel [.ctxs, .counters] s (State.countCore s c k n x) := by
  unfold State.countCore
  extract_lets +onlyGivenNames x1; (refine Rel.via (t := x1) ?_ (fun _ => ?_); (on_goal 2 => try clear_value x1); (on_goal 1 => unfold x1); (on_goal 1 => clear x1))
  · refine Rel.step (by decide) (State.countM_rel _ _ _) ?_
    exact Rel.refl _ _
  · split
    · refine Rel.step (by decide) (State.count_rel _ _ _ _) ?_
      assumption
    · assumption

theorem State.dma_rel (s : State) (fn : Nat) (addr : Nat) (data : List Byte) : Rel [.out] s (State.dma s fn addr data) := by
  unfold State.dma
  refine Rel.step (by decide) (State.emit_rel _ _) ?_
  exact Rel.refl _ _

theorem State.updFlow_rel (s : State) (f : Nat) (g : Flow → Flow) : Rel [.flows] s (State.updFlow s f g) := by
  unfold State.updFlow
  refine Rel.step (by decide) (State.setFlow_rel _ _ _) ?_
  exact Rel.refl _ _

theorem State.updMac_rel (s : State) (m : Nat) (f : Mac → Mac) : Rel [.macs] s (State.updMac s m f) := by
  unfold State.updMac
  refine Rel.step (by decide) (State.setMac_rel _ _ _) ?_
  exact Rel.refl _ _

theorem State.updLane_rel (s : State) (l : Nat) (f : Lane → Lane) : Rel [.lanes] s (State.updLane s l f) := by
  unfold State.updLane
  refine Rel.step (by decide) Rel.set_lanes ?_
  exact Rel.refl _ _

theorem State.toFabric_rel (s : State) (x : Nat) (ns : Nat) : Rel [.clk] s (State.toFabric s x ns) := by
  unfold State.toFabric
  refine Rel.step (by decide) (State.toTai_rel _ _) ?_
  exact Rel.refl _ _

end Sys2Proof.Machine
end

