-- ==== Sys2Proof/Laws/Arbiter.lean ====
section
/-! SUPPORT. What the operations and the meanings of Machine/Arbiter.lean can change: for each operation the fields of the state it may change, and
for each meaning that it answers a next state and the fields that it may change; all of them keep the invariant. -/

namespace Sys2Proof.Machine

theorem State.dmaAsk_rel (s : State) (t : DmaXfer) : Rel [.pcie] s (State.dmaAsk s t) := by
  unfold State.dmaAsk
  refine Rel.step (by decide) Rel.set_pcie ?_
  exact Rel.refl _ _

end Sys2Proof.Machine
end

