-- ==== Sys2Proof/Laws/Tiles.lean ====
section
/-! SUPPORT. What the operations and the meanings of Machine/Tiles.lean can change: for each operation the fields of the state it may change, and
for each meaning that it answers a next state and the fields that it may change; all of them keep the invariant. -/

namespace Sys2Proof.Machine

theorem State.releaseFrame_rel (s : State) (x : Nat) (t : Nat) (tier : Nat) (core : Nat) (frame : Nat) : Rel [.mem, .freed] s (State.releaseFrame s x t tier core frame) := by
  unfold State.releaseFrame
  extract_lets +onlyGivenNames x1; (refine Rel.via (t := x1) ?_ (fun _ => ?_); (on_goal 2 => try clear_value x1); (on_goal 1 => unfold x1); (on_goal 1 => clear x1))
  · split
    · exact Rel.refl _ _
    · refine Rel.step (by decide) (State.clearMem_rel _ _ _) ?_
      exact Rel.refl _ _
  · extract_lets +onlyGivenNames x2; try clear_value x2
    split
    · assumption
    · refine Rel.step (by decide) Rel.set_freed ?_
      assumption

theorem State.releaseEntry_rel (s : State) (x : Nat) (t : Nat) (e : TileEntry) : Rel [.mem, .freed] s (State.releaseEntry s x t e) := by
  unfold State.releaseEntry
  refine Rel.step (by decide) (State.releaseFrame_rel _ _ _ _ _ _) ?_
  exact Rel.refl _ _

theorem State.releaseCap_rel (s : State) (x : Nat) (f : Nat) : Rel [.mem, .freed] s (State.releaseCap s x f) := by
  unfold State.releaseCap
  split
  · refine Rel.step (by decide) (State.releaseFrame_rel _ _ _ _ _ _) ?_
    exact Rel.refl _ _
  · refine Rel.step (by decide) (State.releaseFrame_rel _ _ _ _ _ _) ?_
    exact Rel.refl _ _

theorem State.abortGen_rel (s : State) (x : Nat) : Rel [.mem, .ctxs, .freed, .nand] s (State.abortGen s x) := by
  unfold State.abortGen
  extract_lets +onlyGivenNames x1; try clear_value x1
  split
  · exact Rel.refl _ _
  · extract_lets +onlyGivenNames x2; (refine Rel.via (t := x2) ?_ (fun _ => ?_); (on_goal 2 => try clear_value x2); (on_goal 1 => unfold x2); (on_goal 1 => clear x2))
    · refine Rel.foldl (fun _ _ => ?_) ?_
      · refine Rel.step (by decide) (State.releaseCap_rel _ _ _) ?_
        exact Rel.refl _ _
      · exact Rel.refl _ _
    · extract_lets +onlyGivenNames x3; try clear_value x3
      extract_lets +onlyGivenNames x4; try clear_value x4
      extract_lets +onlyGivenNames x5; try clear_value x5
      extract_lets +onlyGivenNames x6; (refine Rel.via (t := x6) ?_ (fun _ => ?_); (on_goal 2 => try clear_value x6); (on_goal 1 => unfold x6); (on_goal 1 => clear x6))
      · refine Rel.step (by decide) (State.setCtx_rel _ _ _) ?_
        assumption
      · refine Rel.step (by decide) Rel.set_nand ?_
        assumption

theorem State.fenceLater_rel (s : State) (x : Nat) : Rel [.ctxs] s (State.fenceLater s x) := by
  unfold State.fenceLater
  refine Rel.step (by decide) (State.updCtx_rel _ _ _) ?_
  exact Rel.refl _ _

theorem State.markWritten_rel (s : State) (x : Nat) (t : Nat) : Rel [.ctxs] s (State.markWritten s x t) := by
  unfold State.markWritten
  extract_lets +onlyGivenNames x1; try clear_value x1
  extract_lets +onlyGivenNames x2; try clear_value x2
  extract_lets +onlyGivenNames x3; try clear_value x3
  extract_lets +onlyGivenNames x4; try clear_value x4
  refine Rel.step (by decide) (State.setCtx_rel _ _ _) ?_
  exact Rel.refl _ _

theorem State.holdBytes_rel (s : State) (w1 : Nat) (w2 : List Byte) : Rel [.mem, .rowCopies] s (State.holdBytes s w1 w2) := by
  unfold State.holdBytes
  split
  · exact Rel.refl _ _
  · extract_lets +onlyGivenNames x1; (refine Rel.via (t := x1) ?_ (fun _ => ?_); (on_goal 2 => try clear_value x1); (on_goal 1 => unfold x1); (on_goal 1 => clear x1))
    · split
      · refine Rel.step (by decide) Rel.set_rowCopies ?_
        exact Rel.refl _ _
      · refine Rel.step (by decide) (Rel.set_mem (hm := ?_)) ?_
        · exact Memory.write_wf _ _
        · exact Rel.refl _ _
    · refine Rel.step (by decide) (State.holdBytes_rel _ _ _) ?_
      assumption

theorem State.memCopy_rel (s : State) (src : Nat) (dst : Nat) (n : Nat) : Rel [.mem, .rowCopies] s (State.memCopy s src dst n) := by
  unfold State.memCopy
  split
  · refine Rel.step (by decide) (Rel.set_mem (hm := ?_)) ?_
    · exact Memory.copy_wf _ _ _
    · exact Rel.refl _ _
  · refine Rel.step (by decide) (State.holdBytes_rel _ _ _) ?_
    exact Rel.refl _ _

theorem State.secureCopy_rel (s : State) (x : Nat) (t : Nat) : Rel [.mem, .ctxs, .rowCopies] s (State.secureCopy s x t) := by
  unfold State.secureCopy
  extract_lets +onlyGivenNames x1; try clear_value x1
  extract_lets +onlyGivenNames x2; try clear_value x2
  split
  · exact Rel.refl _ _
  · split
    · exact Rel.refl _ _
    · extract_lets +onlyGivenNames x3; try clear_value x3
      extract_lets +onlyGivenNames x4; try clear_value x4
      split
      · exact Rel.refl _ _
      · split
        · exact Rel.refl _ _
        · extract_lets +onlyGivenNames x5; (refine Rel.via (t := x5) ?_ (fun _ => ?_); (on_goal 2 => try clear_value x5); (on_goal 1 => unfold x5); (on_goal 1 => clear x5))
          · refine Rel.step (by decide) (State.memCopy_rel _ _ _ _) ?_
            exact Rel.refl _ _
          · extract_lets +onlyGivenNames x6; (refine Rel.via (t := x6) ?_ (fun _ => ?_); (on_goal 2 => try clear_value x6); (on_goal 1 => unfold x6); (on_goal 1 => clear x6))
            · refine Rel.step (by decide) (State.count_rel _ _ _ _) ?_
              assumption
            · extract_lets +onlyGivenNames x7; try clear_value x7
              extract_lets +onlyGivenNames x8; try clear_value x8
              extract_lets +onlyGivenNames x9; try clear_value x9
              split
              · refine Rel.step (by decide) (State.setCtx_rel _ _ _) ?_
                assumption
              · refine Rel.step (by decide) (State.setCtx_rel _ _ _) ?_
                assumption

theorem State.fillTile_rel (s : State) (x : Nat) (t : Nat) (src : Nat) : Rel [.mem, .ctxs, .rowCopies] s (State.fillTile s x t src) := by
  unfold State.fillTile
  extract_lets +onlyGivenNames x1; (refine Rel.via (t := x1) ?_ (fun _ => ?_); (on_goal 2 => try clear_value x1); (on_goal 1 => unfold x1); (on_goal 1 => clear x1))
  · refine Rel.step (by decide) (State.secureCopy_rel _ _ _) ?_
    exact Rel.refl _ _
  · refine Rel.step (by decide) (State.markWritten_rel _ _ _) ?_
    refine Rel.step (by decide) (State.memCopy_rel _ _ _ _) ?_
    assumption

theorem State.loadHdr_rel (s : State) (c : Nat) (a : Nat) (hdr : Nat) : Rel [.cores] s (State.loadHdr s c a hdr) := by
  unfold State.loadHdr
  extract_lets +onlyGivenNames x1; try clear_value x1
  refine Rel.step (by decide) (State.updCore_rel _ _ _) ?_
  exact Rel.refl _ _

theorem State.tsTouch_rel (s : State) (c : Nat) (a : Nat) (n : Nat) : Rel [.mem, .cores, .ctxs, .rowCopies] s (State.tsTouch s c a n) := by
  unfold State.tsTouch
  refine Rel.foldl (fun _ _ => ?_) ?_
  · split
    · refine Rel.step (by decide) (State.markWritten_rel _ _ _) ?_
      refine Rel.step (by decide) (State.secureCopy_rel _ _ _) ?_
      exact Rel.refl _ _
    · refine Rel.step (by decide) (State.updCore_rel _ _ _) ?_
      exact Rel.refl _ _
  · exact Rel.refl _ _

theorem State.loadTile_rel (s : State) (c : Nat) (x : Nat) (t : Nat) (a : Nat) : Rel [.mem, .cores, .ctxs, .rowCopies] s (State.loadTile s c x t a) := by
  unfold State.loadTile
  extract_lets +onlyGivenNames x1; (refine Rel.via (t := x1) ?_ (fun _ => ?_); (on_goal 2 => try clear_value x1); (on_goal 1 => unfold x1); (on_goal 1 => clear x1))
  · refine Rel.step (by decide) (State.tsTouch_rel _ _ _ _) ?_
    exact Rel.refl _ _
  · extract_lets +onlyGivenNames x2; (refine Rel.via (t := x2) ?_ (fun _ => ?_); (on_goal 2 => try clear_value x2); (on_goal 1 => unfold x2); (on_goal 1 => clear x2))
    · refine Rel.step (by decide) (State.memCopy_rel _ _ _ _) ?_
      assumption
    · split
      · assumption
      · refine Rel.step (by decide) (State.loadHdr_rel _ _ _ _) ?_
        assumption

theorem State.memWrite_rel (s : State) (a : Nat) (data : List Byte) : Rel [.mem, .rowCopies] s (State.memWrite s a data) := by
  unfold State.memWrite
  split
  · refine Rel.step (by decide) (Rel.set_mem (hm := ?_)) ?_
    · exact Memory.write_wf _ _
    · exact Rel.refl _ _
  · refine Rel.step (by decide) (State.holdBytes_rel _ _ _) ?_
    exact Rel.refl _ _

theorem State.rush_rel (s : State) (x : Nat) (ts : List Nat) : Rel [.migs] s (State.rush s x ts) := by
  unfold State.rush
  refine Rel.step (by decide) Rel.set_migs ?_
  exact Rel.refl _ _

theorem State.tileWrite1_rel (s : State) (x : Nat) (t : Nat) (off : Nat) (data : List Byte) : Rel [.mem, .ctxs, .rowCopies] s (State.tileWrite1 s x t off data) := by
  unfold State.tileWrite1
  extract_lets +onlyGivenNames x1; (refine Rel.via (t := x1) ?_ (fun _ => ?_); (on_goal 2 => try clear_value x1); (on_goal 1 => unfold x1); (on_goal 1 => clear x1))
  · refine Rel.step (by decide) (State.secureCopy_rel _ _ _) ?_
    exact Rel.refl _ _
  · extract_lets +onlyGivenNames x2; (refine Rel.via (t := x2) ?_ (fun _ => ?_); (on_goal 2 => try clear_value x2); (on_goal 1 => unfold x2); (on_goal 1 => clear x2))
    · refine Rel.step (by decide) (State.memWrite_rel _ _ _) ?_
      assumption
    · refine Rel.step (by decide) (State.markWritten_rel _ _ _) ?_
      assumption

theorem State.writeTile_rel (s : State) (x : Nat) (t : Nat) (off : Nat) (data : List Byte) : Rel [.mem, .ctxs, .migs, .stalled, .rowCopies] s (State.writeTile s x t off data) := by
  unfold State.writeTile
  split
  · refine Rel.step (by decide) (State.rush_rel _ _ _) ?_
    refine Rel.step (by decide) Rel.set_stalled ?_
    exact Rel.refl _ _
  · refine Rel.step (by decide) (State.tileWrite1_rel _ _ _ _ _) ?_
    exact Rel.refl _ _

theorem State.tsWrite_rel (s : State) (c : Nat) (a : Nat) (data : List Byte) : Rel [.mem, .cores, .ctxs, .migs, .stalled, .rowCopies] s (State.tsWrite s c a data) := by
  unfold State.tsWrite
  refine Rel.foldl (fun _ _ => ?_) ?_
  · extract_lets +onlyGivenNames x1; try clear_value x1
    extract_lets +onlyGivenNames x2; try clear_value x2
    extract_lets +onlyGivenNames x3; try clear_value x3
    split
    · refine Rel.step (by decide) (State.writeTile_rel _ _ _ _ _) ?_
      exact Rel.refl _ _
    · refine Rel.step (by decide) (State.updCore_rel _ _ _) ?_
      refine Rel.step (by decide) (State.memWrite_rel _ _ _) ?_
      exact Rel.refl _ _
  · exact Rel.refl _ _

theorem State.applyEff_rel (s : State) (c : Nat) (x : Nat) (w3 : Eff) : Rel [.mem, .cores, .ctxs, .migs, .stalled, .rowCopies] s (State.applyEff s c x w3) := by
  unfold State.applyEff
  split
  · refine Rel.step (by decide) (State.tsWrite_rel _ _ _ _) ?_
    exact Rel.refl _ _
  · refine Rel.step (by decide) (State.writeTile_rel _ _ _ _ _) ?_
    exact Rel.refl _ _
  · refine Rel.step (by decide) (State.loadTile_rel _ _ _ _ _) ?_
    exact Rel.refl _ _
  · refine Rel.step (by decide) (State.fillTile_rel _ _ _ _) ?_
    exact Rel.refl _ _
  · refine Rel.step (by decide) (State.fillTile_rel _ _ _ _) ?_
    exact Rel.refl _ _

theorem State.applyEffs_rel (s : State) (c : Nat) (x : Nat) (es : List Eff) : Rel [.mem, .cores, .ctxs, .migs, .stalled, .rowCopies] s (State.applyEffs s c x es) := by
  unfold State.applyEffs
  refine Rel.foldl (fun _ _ => ?_) ?_
  · refine Rel.step (by decide) (State.applyEff_rel _ _ _ _) ?_
    exact Rel.refl _ _
  · exact Rel.refl _ _

theorem State.fabTranslate_rel (s : State) (x : Nat) (t : Nat) : Rel [.ctxs, .tcache] s (State.fabTranslate s x t) := by
  unfold State.fabTranslate
  extract_lets +onlyGivenNames x1; try clear_value x1
  extract_lets +onlyGivenNames x2; try clear_value x2
  extract_lets +onlyGivenNames x3; (refine Rel.via (t := x3) ?_ (fun _ => ?_); (on_goal 2 => try clear_value x3); (on_goal 1 => unfold x3); (on_goal 1 => clear x3))
  · refine Rel.step (by decide) Rel.set_tcache ?_
    exact Rel.refl _ _
  · split
    · refine Rel.step (by decide) (State.count_rel _ _ _ _) ?_
      assumption
    · assumption

theorem State.fabUse_rel (s : State) (x : Nat) (addr : Nat) (n : Nat) : Rel [.ctxs, .tcache] s (State.fabUse s x addr n) := by
  unfold State.fabUse
  refine Rel.foldl (fun _ _ => ?_) ?_
  · refine Rel.step (by decide) (State.fabTranslate_rel _ _ _) ?_
    exact Rel.refl _ _
  · exact Rel.refl _ _

theorem State.localWrite_rel (s : State) (x : Nat) (addr : Nat) (data : List Byte) : Rel [.mem, .ctxs, .migs, .stalled, .rowCopies] s (State.localWrite s x addr data) := by
  unfold State.localWrite
  refine Rel.foldl (fun _ _ => ?_) ?_
  · extract_lets +onlyGivenNames x1; try clear_value x1
    extract_lets +onlyGivenNames x2; try clear_value x2
    refine Rel.step (by decide) (State.writeTile_rel _ _ _ _ _) ?_
    exact Rel.refl _ _
  · exact Rel.refl _ _

theorem State.ownWindow_rel (s : State) (tier : Nat) (core : Nat) (w : Nat) : Rel [.cores] s (State.ownWindow s tier core w) := by
  unfold State.ownWindow
  split
  · refine Rel.step (by decide) (State.updCore_rel _ _ _) ?_
    exact Rel.refl _ _
  · exact Rel.refl _ _

theorem State.invalidate_rel (s : State) (x : Nat) (gone : Nat → Bool) : Rel [.cores, .tcache] s (State.invalidate s x gone) := by
  unfold State.invalidate
  extract_lets +onlyGivenNames x1; try clear_value x1
  refine Rel.step (by decide) Rel.set_cores_tcache ?_
  exact Rel.refl _ _

theorem State.tileError_rel (s : State) (tier : Nat) (cls : Nat) (source : Nat) (x : Nat) (core : Nat) (addr : Nat) (line : Nat) (lender : Nat) (location : Nat) : Rel [.out, .ctxs, .mailboxes, .log, .logNext, .logOverflow] s (State.tileError s tier cls source x core addr line lender location) := by
  unfold State.tileError
  extract_lets +onlyGivenNames x1; try clear_value x1
  refine Rel.step (by decide) (State.logRecord_rel _ _ _ _ _) ?_
  exact Rel.refl _ _

theorem State.moveTranslate_rel (s : State) (c : Nat) (x : Nat) (t : Nat) : Rel [.cores, .ctxs] s (State.moveTranslate s c x t) := by
  unfold State.moveTranslate
  extract_lets +onlyGivenNames x1; try clear_value x1
  extract_lets +onlyGivenNames x2; (refine Rel.via (t := x2) ?_ (fun _ => ?_); (on_goal 2 => try clear_value x2); (on_goal 1 => unfold x2); (on_goal 1 => clear x2))
  · refine Rel.step (by decide) (State.updCore_rel _ _ _) ?_
    exact Rel.refl _ _
  · split
    · refine Rel.step (by decide) (State.count_rel _ _ _ _) ?_
      assumption
    · assumption

end Sys2Proof.Machine
end

