-- ==== Sys2Proof/Laws/Ecc.lean ====
section
/-! SUPPORT. What the operations and the meanings of Machine/Ecc.lean can change: for each operation the fields of the state it may change, and
for each meaning that it answers a next state and the fields that it may change; all of them keep the invariant. -/

namespace Sys2Proof.Machine

theorem State.addCullet_rel (s : State) (e : Cullet) : Rel [.out, .ctxs, .culls, .mailboxes, .log, .logNext, .logOverflow] s (State.addCullet s e) := by
  unfold State.addCullet
  split
  · exact Rel.refl _ _
  · extract_lets +onlyGivenNames x1; (refine Rel.via (t := x1) ?_ (fun _ => ?_); (on_goal 2 => try clear_value x1); (on_goal 1 => unfold x1); (on_goal 1 => clear x1))
    · refine Rel.step (by decide) Rel.set_culls ?_
      exact Rel.refl _ _
    · extract_lets +onlyGivenNames x2; (refine Rel.via (t := x2) ?_ (fun _ => ?_); (on_goal 2 => try clear_value x2); (on_goal 1 => unfold x2); (on_goal 1 => clear x2))
      · refine Rel.step (by decide) (State.logRecord_rel _ _ _ _ _) ?_
        assumption
      · split
        · refine Rel.step (by decide) (State.event_rel _ _ _ _ _) ?_
          assumption
        · assumption

theorem State.spareRow_rel (s : State) (loc : BankLoc) (row : Nat) (cause : Nat) : Rel [.banks, .rowCopies] s (State.spareRow s loc row cause) := by
  unfold State.spareRow
  extract_lets +onlyGivenNames x1; try clear_value x1
  split
  · refine Rel.step (by decide) Rel.set_banks ?_
    exact Rel.refl _ _
  · refine Rel.step (by decide) Rel.set_banks_rowCopies ?_
    exact Rel.refl _ _

theorem State.correctedErr_rel (s : State) (x : Option Nat) (loc : BankLoc) (row : Nat) (lane : Nat) : Rel [.out, .ctxs, .banks, .rowCopies, .mailboxes, .log, .logNext, .logOverflow, .counters] s (State.correctedErr s x loc row lane) := by
  unfold State.correctedErr
  extract_lets +onlyGivenNames x1; try clear_value x1
  extract_lets +onlyGivenNames x2; (refine Rel.via (t := x2) ?_ (fun _ => ?_); (on_goal 2 => try clear_value x2); (on_goal 1 => unfold x2); (on_goal 1 => clear x2))
  · refine Rel.step (by decide) (State.countM_rel _ _ _) ?_
    exact Rel.refl _ _
  · extract_lets +onlyGivenNames x3; (refine Rel.via (t := x3) ?_ (fun _ => ?_); (on_goal 2 => try clear_value x3); (on_goal 1 => unfold x3); (on_goal 1 => clear x3))
    · split
      · refine Rel.step (by decide) (State.count_rel _ _ _ _) ?_
        assumption
      · assumption
    · extract_lets +onlyGivenNames x4; try clear_value x4
      extract_lets +onlyGivenNames x5; try clear_value x5
      extract_lets +onlyGivenNames x6; try clear_value x6
      extract_lets +onlyGivenNames x7; (refine Rel.via (t := x7) ?_ (fun _ => ?_); (on_goal 2 => try clear_value x7); (on_goal 1 => unfold x7); (on_goal 1 => clear x7))
      · refine Rel.step (by decide) Rel.set_banks ?_
        assumption
      · extract_lets +onlyGivenNames x8; (refine Rel.via (t := x8) ?_ (fun _ => ?_); (on_goal 2 => try clear_value x8); (on_goal 1 => unfold x8); (on_goal 1 => clear x8))
        · split
          · refine Rel.step (by decide) (State.event_rel _ _ _ _ _) ?_
            assumption
          · assumption
        · split
          · refine Rel.step (by decide) (State.spareRow_rel _ _ _ _) ?_
            assumption
          · assumption

theorem State.spoil_rel (s : State) (a : Nat) (fs : List (Nat × Byte)) : Rel [.mem] s (State.spoil s a fs) := by
  unfold State.spoil
  refine Rel.foldl (fun _ _ => ?_) ?_
  · refine Rel.step (by decide) (Rel.set_mem (hm := ?_)) ?_
    · exact Memory.write_wf _ _
    · exact Rel.refl _ _
  · exact Rel.refl _ _

theorem State.uncRow_rel (s : State) (loc : BankLoc) (row : Nat) (cause : Nat) : Rel [.banks, .rowCopies] s (State.uncRow s loc row cause) := by
  unfold State.uncRow
  split
  · exact Rel.refl _ _
  · extract_lets +onlyGivenNames x1; try clear_value x1
    extract_lets +onlyGivenNames x2; try clear_value x2
    extract_lets +onlyGivenNames x3; (refine Rel.via (t := x3) ?_ (fun _ => ?_); (on_goal 2 => try clear_value x3); (on_goal 1 => unfold x3); (on_goal 1 => clear x3))
    · refine Rel.step (by decide) Rel.set_banks ?_
      exact Rel.refl _ _
    · refine Rel.step (by decide) (State.spareRow_rel _ _ _ _) ?_
      assumption

theorem State.loseLine_rel (s : State) (x : Nat) (bank : Nat) (t : Nat) (tier : Nat) (core : Nat) (frame : Nat) (lender : Nat) (line : Nat) (cls : Nat) (source : Nat) (acc : Nat) : Rel [.out, .ctxs, .banks, .rowCopies, .mailboxes, .log, .logNext, .logOverflow] s (State.loseLine s x bank t tier core frame lender line cls source acc) := by
  unfold State.loseLine
  extract_lets +onlyGivenNames x1; try clear_value x1
  extract_lets +onlyGivenNames x2; try clear_value x2
  extract_lets +onlyGivenNames x3; (refine Rel.via (t := x3) ?_ (fun _ => ?_); (on_goal 2 => try clear_value x3); (on_goal 1 => unfold x3); (on_goal 1 => clear x3))
  · refine Rel.step (by decide) (State.tileError_rel _ _ _ _ _ _ _ _ _ _) ?_
    exact Rel.refl _ _
  · extract_lets +onlyGivenNames x4; try clear_value x4
    extract_lets +onlyGivenNames x5; try clear_value x5
    extract_lets +onlyGivenNames x6; (refine Rel.via (t := x6) ?_ (fun _ => ?_); (on_goal 2 => try clear_value x6); (on_goal 1 => unfold x6); (on_goal 1 => clear x6))
    · refine Rel.step (by decide) (State.fenceLater_rel _ _) ?_
      refine Rel.step (by decide) (State.setCtx_rel _ _ _) ?_
      assumption
    · split
      · assumption
      · extract_lets +onlyGivenNames x7; try clear_value x7
        refine Rel.step (by decide) (State.uncRow_rel _ _ _ _) ?_
        assumption

theorem State.uncorrectable_rel (s : State) (x : Nat) (bank : Nat) (t : Nat) (line : Nat) (cls : Nat) (source : Nat) (acc : Nat) : Rel [.out, .ctxs, .banks, .rowCopies, .mailboxes, .log, .logNext, .logOverflow] s (State.uncorrectable s x bank t line cls source acc) := by
  unfold State.uncorrectable
  extract_lets +onlyGivenNames x1; try clear_value x1
  refine Rel.step (by decide) (State.loseLine_rel _ _ _ _ _ _ _ _ _ _ _ _) ?_
  exact Rel.refl _ _

theorem State.eccHit_rel (s : State) (x : Nat) (h : EccHit) : Rel [.out, .mem, .ctxs, .banks, .rowCopies, .mailboxes, .log, .logNext, .logOverflow, .counters] s (State.eccHit s x h) := by
  unfold State.eccHit
  extract_lets +onlyGivenNames x1; try clear_value x1
  extract_lets +onlyGivenNames x2; try clear_value x2
  split
  · exact Rel.refl _ _
  · extract_lets +onlyGivenNames x3; (refine Rel.via (t := x3) ?_ (fun _ => ?_); (on_goal 2 => try clear_value x3); (on_goal 1 => unfold x3); (on_goal 1 => clear x3))
    · refine Rel.step (by decide) (State.spoil_rel _ _ _) ?_
      exact Rel.refl _ _
    · split
      · assumption
      · split
        · assumption
        · extract_lets +onlyGivenNames x4; try clear_value x4
          refine Rel.step (by decide) (State.correctedErr_rel _ _ _ _ _) ?_
          assumption
      · refine Rel.step (by decide) (State.uncorrectable_rel _ _ _ _ _ _ _ _) ?_
        assumption

theorem State.eccOpt_rel (s : State) (x : Nat) (h : Option EccHit) : Rel [.out, .mem, .ctxs, .banks, .rowCopies, .mailboxes, .log, .logNext, .logOverflow, .counters] s (State.eccOpt s x h) := by
  unfold State.eccOpt
  split
  · refine Rel.step (by decide) (State.eccHit_rel _ _ _) ?_
    exact Rel.refl _ _
  · exact Rel.refl _ _

theorem State.loseT3_rel (s : State) (cls : Nat) (sel : Nat → Nat → TileEntry → Bool) : Rel [.out, .ctxs, .mailboxes, .log, .logNext, .logOverflow] s (State.loseT3 s cls sel) := by
  unfold State.loseT3
  refine Rel.foldl (fun _ _ => ?_) ?_
  · refine Rel.foldl (fun _ _ => ?_) ?_
    · extract_lets +onlyGivenNames x1; (refine Rel.via (t := x1) ?_ (fun _ => ?_); (on_goal 2 => try clear_value x1); (on_goal 1 => unfold x1); (on_goal 1 => clear x1))
      · refine Rel.step (by decide) (State.tileError_rel _ _ _ _ _ _ _ _ _ _) ?_
        exact Rel.refl _ _
      · refine Rel.step (by decide) (State.fenceLater_rel _ _) ?_
        refine Rel.step (by decide) (State.updCtx_rel _ _ _) ?_
        assumption
    · exact Rel.refl _ _
  · exact Rel.refl _ _

end Sys2Proof.Machine
end

