-- ==== Sys2Proof/Laws/Wire.lean ====
section
/-! SUPPORT. What the operations and the meanings of Machine/Wire.lean can change: for each operation the fields of the state it may change, and
for each meaning that it answers a next state and the fields that it may change; all of them keep the invariant. -/

namespace Sys2Proof.Machine

theorem State.bindFlow_rel (s : State) (x : Nat) (peer : Nat) (queue : Nat) (f : Nat) : Rel [.ctxs] s (State.bindFlow s x peer queue f) := by
  unfold State.bindFlow
  refine Rel.step (by decide) (State.updCtx_rel _ _ _) ?_
  exact Rel.refl _ _

theorem State.ecn_rel (s : State) (m : Nat) (q : Nat) (f : Frame) : Rel [.ecnDraws, .counters] s (State.ecn s m q f).1 := by
  unfold State.ecn
  extract_lets +onlyGivenNames x1; try clear_value x1
  extract_lets +onlyGivenNames x2; try clear_value x2
  split
  · refine Rel.pair ?_
    exact Rel.refl _ _
  · split
    · refine Rel.pair ?_
      refine Rel.step (by decide) (State.countFab_rel _ _) ?_
      refine Rel.step (by decide) Rel.set_ecnDraws ?_
      exact Rel.refl _ _
    · refine Rel.pair ?_
      refine Rel.step (by decide) Rel.set_ecnDraws ?_
      exact Rel.refl _ _

theorem State.leaveLpi_rel (s : State) (m : Nat) : Rel [.macs, .counters] s (State.leaveLpi s m) := by
  unfold State.leaveLpi
  extract_lets +onlyGivenNames x1; try clear_value x1
  split
  · exact Rel.refl _ _
  · refine Rel.step (by decide) (State.countMac_rel _ _ _ _) ?_
    refine Rel.step (by decide) (State.setMac_rel _ _ _) ?_
    exact Rel.refl _ _

theorem State.enqueue_rel (s : State) (m : Nat) (q : Nat) (f : Frame) : Rel [.macs, .ecnDraws, .counters] s (State.enqueue s m q f) := by
  unfold State.enqueue
  extract_lets +onlyGivenNames x1; (refine Rel.via (t := x1.1) ?_ (fun _ => ?_); (on_goal 1 => unfold x1); (on_goal 1 => try clear x1))
  · refine Rel.step (by decide) (State.ecn_rel _ _ _ _) ?_
    exact Rel.refl _ _
  · extract_lets +onlyGivenNames x2; (refine Rel.via (t := x2) ?_ (fun _ => ?_); (on_goal 2 => try clear_value x2); (on_goal 1 => unfold x2); (on_goal 1 => clear x2))
    · assumption
    · extract_lets +onlyGivenNames x3; try clear_value x3
      extract_lets +onlyGivenNames x4; try clear_value x4
      extract_lets +onlyGivenNames x5; try clear_value x5
      refine Rel.step (by decide) (State.leaveLpi_rel _ _) ?_
      refine Rel.step (by decide) (State.setMac_rel _ _ _) ?_
      assumption

theorem State.emitCtrl_rel (s : State) (peer : Nat) (msgId : Nat) (op : Nat) (body : List Byte) : Rel [.macs, .ecnDraws, .counters] s (State.emitCtrl s peer msgId op body) := by
  unfold State.emitCtrl
  extract_lets +onlyGivenNames x1; try clear_value x1
  split
  · exact Rel.refl _ _
  · refine Rel.step (by decide) (State.enqueue_rel _ _ _ _) ?_
    exact Rel.refl _ _

theorem State.sendCtrl_rel (s : State) (peer : Nat) (op : Nat) (body : List Byte) : Rel [.ctrl, .ctrlNext, .macs, .ecnDraws, .counters] s (State.sendCtrl s peer op body) := by
  unfold State.sendCtrl
  extract_lets +onlyGivenNames x1; try clear_value x1
  extract_lets +onlyGivenNames x2; try clear_value x2
  extract_lets +onlyGivenNames x3; try clear_value x3
  extract_lets +onlyGivenNames x4; (refine Rel.via (t := x4) ?_ (fun _ => ?_); (on_goal 2 => try clear_value x4); (on_goal 1 => unfold x4); (on_goal 1 => clear x4))
  · refine Rel.step (by decide) Rel.set_ctrl_ctrlNext ?_
    exact Rel.refl _ _
  · split
    · refine Rel.step (by decide) (State.emitCtrl_rel _ _ _ _ _) ?_
      assumption
    · assumption

theorem State.openNow_rel (s : State) (x : Nat) (a : OpenAsk) : Rel [.fresh, .ctxs, .flows, .ctrl, .ctrlNext, .macs, .ecnDraws, .counters] s (State.openNow s x a) := by
  unfold State.openNow
  split
  · exact Rel.refl _ _
  · extract_lets +onlyGivenNames x1; try clear_value x1
    extract_lets +onlyGivenNames x2; (refine Rel.via (t := x2) ?_ (fun _ => ?_); (on_goal 2 => try clear_value x2); (on_goal 1 => unfold x2); (on_goal 1 => clear x2))
    · refine Rel.step (by decide) (State.setFlow_rel _ _ _) ?_
      refine Rel.step (by decide) (State.draw_rel _) ?_
      exact Rel.refl _ _
    · extract_lets +onlyGivenNames x3; (refine Rel.via (t := x3) ?_ (fun _ => ?_); (on_goal 2 => try clear_value x3); (on_goal 1 => unfold x3); (on_goal 1 => clear x3))
      · split
        · assumption
        · refine Rel.step (by decide) (State.bindFlow_rel _ _ _ _ _) ?_
          assumption
      · extract_lets +onlyGivenNames x4; try clear_value x4
        refine Rel.step (by decide) (State.sendCtrl_rel _ _ _ _) ?_
        assumption

theorem State.retryOpens_rel (s : State) (x : Nat) : Rel [.fresh, .ctxs, .flows, .ctrl, .ctrlNext, .macs, .ecnDraws, .counters] s (State.retryOpens s x) := by
  unfold State.retryOpens
  refine Rel.foldl (fun _ _ => ?_) ?_
  · split
    · refine Rel.step (by decide) (State.openNow_rel _ _ _) ?_
      refine Rel.step (by decide) (State.updCtx_rel _ _ _) ?_
      exact Rel.refl _ _
    · exact Rel.refl _ _
  · exact Rel.refl _ _

theorem State.dropFlow_rel (s : State) (f : Nat) : Rel [.fresh, .ctxs, .flows, .ctrl, .ctrlNext, .fcache, .macs, .ecnDraws, .counters] s (State.dropFlow s f) := by
  unfold State.dropFlow
  extract_lets +onlyGivenNames x1; try clear_value x1
  refine Rel.step (by decide) (State.retryOpens_rel _ _) ?_
  refine Rel.step (by decide) Rel.set_flows_fcache ?_
  exact Rel.refl _ _

theorem State.pumpN_rel (s : State) (f : Nat) (w2 : Nat) : Rel [.flows, .macs, .ecnDraws, .counters] s (State.pumpN s f w2) := by
  induction w2 generalizing s with
  | zero => exact Rel.refl _ _
  | succ n ih =>
    rw [State.pumpN]
    split
    · exact Rel.refl _ _
    · split
      · exact Rel.refl _ _
      · split
        · exact Rel.refl _ _
        · split
          · exact Rel.refl _ _
          · refine Rel.step (by decide) (ih _) ?_
            refine Rel.step (by decide) (State.enqueue_rel _ _ _ _) ?_
            refine Rel.step (by decide) (State.setFlow_rel _ _ _) ?_
            exact Rel.refl _ _

theorem State.pump_rel (s : State) (f : Nat) : Rel [.flows, .macs, .ecnDraws, .counters] s (State.pump s f) := by
  unfold State.pump
  refine Rel.step (by decide) (State.pumpN_rel _ _ _) ?_
  exact Rel.refl _ _

theorem State.pumpAll_rel (s : State) : Rel [.flows, .macs, .ecnDraws, .counters] s (State.pumpAll s) := by
  unfold State.pumpAll
  refine Rel.foldl (fun _ _ => ?_) ?_
  · refine Rel.step (by decide) (State.pump_rel _ _) ?_
    exact Rel.refl _ _
  · exact Rel.refl _ _

theorem State.endCtrl_rel (s : State) (peer : Nat) (msgId : Nat) : Rel [.ctrl, .macs, .ecnDraws, .counters] s (State.endCtrl s peer msgId) := by
  unfold State.endCtrl
  extract_lets +onlyGivenNames x1; (refine Rel.via (t := x1) ?_ (fun _ => ?_); (on_goal 2 => try clear_value x1); (on_goal 1 => unfold x1); (on_goal 1 => clear x1))
  · refine Rel.step (by decide) Rel.set_ctrl ?_
    exact Rel.refl _ _
  · split
    · assumption
    · split
      · assumption
      · extract_lets +onlyGivenNames x2; try clear_value x2
        extract_lets +onlyGivenNames x3; (refine Rel.via (t := x3) ?_ (fun _ => ?_); (on_goal 2 => try clear_value x3); (on_goal 1 => unfold x3); (on_goal 1 => clear x3))
        · refine Rel.step (by decide) Rel.set_ctrl ?_
          assumption
        · refine Rel.step (by decide) (State.emitCtrl_rel _ _ _ _ _) ?_
          assumption

theorem State.sendMsg_rel (s : State) (f : Nat) (op : Nat) (parts : List (List Byte × List Byte)) : Rel [.flows, .macs, .ecnDraws, .counters] s (State.sendMsg s f op parts) := by
  unfold State.sendMsg
  extract_lets +onlyGivenNames x1; try clear_value x1
  extract_lets +onlyGivenNames x2; try clear_value x2
  extract_lets +onlyGivenNames x3; try clear_value x3
  extract_lets +onlyGivenNames x4; try clear_value x4
  refine Rel.step (by decide) (State.pump_rel _ _) ?_
  refine Rel.step (by decide) (State.setFlow_rel _ _ _) ?_
  exact Rel.refl _ _

theorem State.flowUse_rel (s : State) (f : Nat) : Rel [.ctxs, .fcache] s (State.flowUse s f) := by
  unfold State.flowUse
  split
  · exact Rel.refl _ _
  · split
    · refine Rel.step (by decide) Rel.set_fcache ?_
      exact Rel.refl _ _
    · extract_lets +onlyGivenNames x1; try clear_value x1
      extract_lets +onlyGivenNames x2; try clear_value x2
      extract_lets +onlyGivenNames x3; try clear_value x3
      refine Rel.step (by decide) (State.count_rel _ _ _ _) ?_
      refine Rel.step (by decide) Rel.set_fcache ?_
      exact Rel.refl _ _

theorem State.sendOpen_rel (s : State) (x : Nat) (a : OpenAsk) : Rel [.fresh, .ctxs, .flows, .ctrl, .ctrlNext, .macs, .ecnDraws, .counters] s (State.sendOpen s x a) := by
  unfold State.sendOpen
  split
  · refine Rel.step (by decide) (State.openNow_rel _ _ _) ?_
    exact Rel.refl _ _
  · refine Rel.step (by decide) (State.updCtx_rel _ _ _) ?_
    exact Rel.refl _ _

theorem State.sendAck_rel (s : State) (f : Nat) : Rel [.flows, .macs, .ecnDraws, .counters] s (State.sendAck s f) := by
  unfold State.sendAck
  extract_lets +onlyGivenNames x1; try clear_value x1
  extract_lets +onlyGivenNames x2; try clear_value x2
  extract_lets +onlyGivenNames x3; try clear_value x3
  extract_lets +onlyGivenNames x4; (refine Rel.via (t := x4) ?_ (fun _ => ?_); (on_goal 2 => try clear_value x4); (on_goal 1 => unfold x4); (on_goal 1 => clear x4))
  · refine Rel.step (by decide) (State.setFlow_rel _ _ _) ?_
    exact Rel.refl _ _
  · split
    · assumption
    · refine Rel.step (by decide) (State.enqueue_rel _ _ _ _) ?_
      assumption

end Sys2Proof.Machine
end

