-- ==== Sys2Proof/Laws/Issue.lean ====
section
/-! SUPPORT. What the operations and the meanings of Machine/Issue.lean can change: for each operation the fields of the state it may change, and
for each meaning that it answers a next state and the fields that it may change; all of them keep the invariant. -/

namespace Sys2Proof.Machine

theorem State.queueSamples_rel (s : State) (c : Nat) (g : Ring) (ds : List OutDesc) : Rel [.cores, .ctxs] s (State.queueSamples s c g ds) := by
  unfold State.queueSamples
  refine Rel.foldl (fun _ _ => ?_) ?_
  · split
    · exact Rel.refl _ _
    · split
      · refine Rel.step (by decide) (State.updCore_rel _ _ _) ?_
        exact Rel.refl _ _
      · refine Rel.step (by decide) (State.count_rel _ _ _ _) ?_
        exact Rel.refl _ _
  · exact Rel.refl _ _

theorem State.completeIf_rel (s : State) (c : Nat) (r : Nat) (p : OutDesc → Bool) (status : Nat) (flags : Nat) : Rel [.cores, .ctxs] s (State.completeIf s c r p status flags) := by
  unfold State.completeIf
  extract_lets +onlyGivenNames x1; try clear_value x1
  extract_lets +onlyGivenNames x2; try clear_value x2
  extract_lets +onlyGivenNames x3; try clear_value x3
  split
  · exact Rel.refl _ _
  · extract_lets +onlyGivenNames x4; (refine Rel.via (t := x4) ?_ (fun _ => ?_); (on_goal 2 => try clear_value x4); (on_goal 1 => unfold x4); (on_goal 1 => clear x4))
    · refine Rel.step (by decide) (State.updRing_rel _ _ _ _) ?_
      exact Rel.refl _ _
    · extract_lets +onlyGivenNames x5; (refine Rel.via (t := x5) ?_ (fun _ => ?_); (on_goal 2 => try clear_value x5); (on_goal 1 => unfold x5); (on_goal 1 => clear x5))
      · split
        · refine Rel.step (by decide) (State.count_rel _ _ _ _) ?_
          assumption
        · assumption
      · refine Rel.step (by decide) (State.queueSamples_rel _ _ _ _) ?_
        assumption

theorem State.complete_rel (s : State) (c : Nat) (r : Nat) (id : Nat) (status : Nat) (flags : Nat) : Rel [.cores, .ctxs] s (State.complete s c r id status flags) := by
  unfold State.complete
  refine Rel.step (by decide) (State.completeIf_rel _ _ _ _ _ _) ?_
  exact Rel.refl _ _

theorem State.dropQueued_rel (s : State) (x : Nat) : Rel [.out, .mem, .ctxs, .migs, .asks, .freed, .mailboxes, .handles, .log, .logNext, .logOverflow] s (State.dropQueued s x) := by
  unfold State.dropQueued
  extract_lets +onlyGivenNames x1; try clear_value x1
  extract_lets +onlyGivenNames x2; try clear_value x2
  extract_lets +onlyGivenNames x3; (refine Rel.via (t := x3) ?_ (fun _ => ?_); (on_goal 2 => try clear_value x3); (on_goal 1 => unfold x3); (on_goal 1 => clear x3))
  · refine Rel.step (by decide) Rel.set_migs_asks ?_
    exact Rel.refl _ _
  · extract_lets +onlyGivenNames x4; (refine Rel.via (t := x4) ?_ (fun _ => ?_); (on_goal 2 => try clear_value x4); (on_goal 1 => unfold x4); (on_goal 1 => clear x4))
    · refine Rel.foldl (fun _ _ => ?_) ?_
      · extract_lets +onlyGivenNames x5; try clear_value x5
        extract_lets +onlyGivenNames x6; try clear_value x6
        refine Rel.step (by decide) (State.releaseFrame_rel _ _ _ _ _ _) ?_
        refine Rel.step (by decide) (State.setCtx_rel _ _ _) ?_
        exact Rel.refl _ _
      · assumption
    · extract_lets +onlyGivenNames x7; (refine Rel.via (t := x7) ?_ (fun _ => ?_); (on_goal 2 => try clear_value x7); (on_goal 1 => unfold x7); (on_goal 1 => clear x7))
      · refine Rel.foldl (fun _ _ => ?_) ?_
        · refine Rel.step (by decide) (State.finish_rel _ _ _) ?_
          exact Rel.refl _ _
        · assumption
      · split
        · assumption
        · refine Rel.step (by decide) (State.count_rel _ _ _ _) ?_
          assumption

theorem State.partWrite_rel (s : State) (c : Nat) (x : Nat) (es : List Eff) : Rel [.fresh, .mem, .cores, .ctxs, .migs, .stalled, .rowCopies] s (State.partWrite s c x es) := by
  unfold State.partWrite
  refine Rel.step (by decide) (State.draw_rel _) ?_
  refine Rel.step (by decide) (State.applyEffs_rel _ _ _ _) ?_
  exact Rel.refl _ _

theorem State.partWrites_rel (s : State) (c : Nat) (x : Nat) : Rel [.fresh, .mem, .cores, .ctxs, .migs, .stalled, .rowCopies] s (State.partWrites s c x) := by
  unfold State.partWrites
  extract_lets +onlyGivenNames x1; try clear_value x1
  extract_lets +onlyGivenNames x2; try clear_value x2
  extract_lets +onlyGivenNames x3; (refine Rel.via (t := x3) ?_ (fun _ => ?_); (on_goal 2 => try clear_value x3); (on_goal 1 => unfold x3); (on_goal 1 => clear x3))
  · split
    · exact Rel.refl _ _
    · refine Rel.step (by decide) (State.partWrite_rel _ _ _ _) ?_
      exact Rel.refl _ _
  · extract_lets +onlyGivenNames x4; (refine Rel.via (t := x4) ?_ (fun _ => ?_); (on_goal 2 => try clear_value x4); (on_goal 1 => unfold x4); (on_goal 1 => clear x4))
    · split
      · assumption
      · refine Rel.step (by decide) (State.partWrite_rel _ _ _ _) ?_
        assumption
    · split
      · split
        · refine Rel.step (by decide) (State.partWrite_rel _ _ _ _) ?_
          assumption
        · assumption
      · assumption

theorem State.fence_rel (s : State) (x : Nat) : Rel [.out, .fresh, .mem, .cores, .ctxs, .migs, .asks, .stalled, .rowCopies, .freed, .flows, .mailboxes, .handles, .log, .logNext, .logOverflow, .nand] s (State.fence s x) := by
  unfold State.fence
  extract_lets +onlyGivenNames x1; (refine Rel.via (t := x1) ?_ (fun _ => ?_); (on_goal 2 => try clear_value x1); (on_goal 1 => unfold x1); (on_goal 1 => clear x1))
  · refine Rel.foldl (fun _ _ => ?_) ?_
    · refine Rel.step (by decide) (State.partWrites_rel _ _ _) ?_
      exact Rel.refl _ _
    · exact Rel.refl _ _
  · extract_lets +onlyGivenNames x2; (refine Rel.via (t := x2) ?_ (fun _ => ?_); (on_goal 2 => try clear_value x2); (on_goal 1 => unfold x2); (on_goal 1 => clear x2))
    · refine Rel.foldl (fun _ _ => ?_) ?_
      · refine Rel.foldl (fun _ _ => ?_) ?_
        · split
          · refine Rel.step (by decide) (State.completeIf_rel _ _ _ _ _ _) ?_
            exact Rel.refl _ _
          · exact Rel.refl _ _
        · exact Rel.refl _ _
      · assumption
    · extract_lets +onlyGivenNames x3; (refine Rel.via (t := x3) ?_ (fun _ => ?_); (on_goal 2 => try clear_value x3); (on_goal 1 => unfold x3); (on_goal 1 => clear x3))
      · refine Rel.step (by decide) (State.mapRings_rel _ _ _) ?_
        assumption
      · extract_lets +onlyGivenNames x4; (refine Rel.via (t := x4) ?_ (fun _ => ?_); (on_goal 2 => try clear_value x4); (on_goal 1 => unfold x4); (on_goal 1 => clear x4))
        · refine Rel.step (by decide) Rel.set_cores ?_
          assumption
        · extract_lets +onlyGivenNames x5; (refine Rel.via (t := x5) ?_ (fun _ => ?_); (on_goal 2 => try clear_value x5); (on_goal 1 => unfold x5); (on_goal 1 => clear x5))
          · refine Rel.step (by decide) (State.dropQueued_rel _ _) ?_
            assumption
          · extract_lets +onlyGivenNames x6; (refine Rel.via (t := x6) ?_ (fun _ => ?_); (on_goal 2 => try clear_value x6); (on_goal 1 => unfold x6); (on_goal 1 => clear x6))
            · refine Rel.step (by decide) (State.abortGen_rel _ _) ?_
              assumption
            · extract_lets +onlyGivenNames x7; (refine Rel.via (t := x7) ?_ (fun _ => ?_); (on_goal 2 => try clear_value x7); (on_goal 1 => unfold x7); (on_goal 1 => clear x7))
              · refine Rel.step (by decide) Rel.set_flows ?_
                assumption
              · refine Rel.step (by decide) (State.updCtx_rel _ _ _) ?_
                assumption

theorem State.wake_rel (s : State) (x : Nat) (ev : Nat) : Rel [.cores, .ctxs] s (State.wake s x ev) := by
  unfold State.wake
  extract_lets +onlyGivenNames x1; try clear_value x1
  refine Rel.foldl (fun _ _ => ?_) ?_
  · refine Rel.foldl (fun _ _ => ?_) ?_
    · split
      · refine Rel.step (by decide) (State.completeIf_rel _ _ _ _ _ _) ?_
        exact Rel.refl _ _
      · exact Rel.refl _ _
    · exact Rel.refl _ _
  · exact Rel.refl _ _

theorem State.signal_rel (s : State) (x : Nat) (ev : Nat) : Rel [.cores, .ctxs] s (State.signal s x ev) := by
  unfold State.signal
  refine Rel.step (by decide) (State.wake_rel _ _ _) ?_
  refine Rel.step (by decide) (State.updCtx_rel _ _ _) ?_
  exact Rel.refl _ _

theorem State.gradFinal_rel (s : State) (x : Nat) (coll : Nat) (sel : Nat → Nat → Bool) : Rel [.ctxs] s (State.gradFinal s x coll sel) := by
  unfold State.gradFinal
  refine Rel.foldl (fun _ _ => ?_) ?_
  · refine Rel.step (by decide) (State.updCtx_rel _ _ _) ?_
    exact Rel.refl _ _
  · exact Rel.refl _ _

theorem State.endWait_rel (s : State) (c : Nat) (r : Nat) : Rel [.cores, .ctxs] s (State.endWait s c r) := by
  unfold State.endWait
  extract_lets +onlyGivenNames x1; try clear_value x1
  split
  · exact Rel.refl _ _
  · refine Rel.step (by decide) (State.updRing_rel _ _ _ _) ?_
    refine Rel.step (by decide) (State.count_rel _ _ _ _) ?_
    exact Rel.refl _ _

theorem State.noteWait_rel (s : State) (c : Nat) (r : Nat) (d : Nat) : Rel [.cores] s (State.noteWait s c r d) := by
  unfold State.noteWait
  split
  · refine Rel.step (by decide) (State.updRing_rel _ _ _ _) ?_
    exact Rel.refl _ _
  · exact Rel.refl _ _

theorem State.tagDesc_rel (s : State) (c : Nat) (r : Nat) (d : Nat) : Rel [.cores] s (State.tagDesc s c r d).1 := by
  unfold State.tagDesc
  extract_lets +onlyGivenNames x1; try clear_value x1
  extract_lets +onlyGivenNames x2; try clear_value x2
  extract_lets +onlyGivenNames x3; try clear_value x3
  split
  · refine Rel.pair ?_
    exact Rel.refl _ _
  · extract_lets +onlyGivenNames x4; try clear_value x4
    extract_lets +onlyGivenNames x5; try clear_value x5
    refine Rel.pair ?_
    refine Rel.step (by decide) (State.updCore_rel _ _ _) ?_
    exact Rel.refl _ _

theorem State.takeDesc_rel (s : State) (c : Nat) (r : Nat) (d : Nat) (deadline : Option Nat) : Rel [.cores] s (State.takeDesc s c r d deadline) := by
  unfold State.takeDesc
  extract_lets +onlyGivenNames x1; try clear_value x1
  extract_lets +onlyGivenNames x2; try clear_value x2
  extract_lets +onlyGivenNames x3; (refine Rel.via (t := x3.1) ?_ (fun _ => ?_); (on_goal 1 => unfold x3); (on_goal 1 => try clear x3))
  · refine Rel.step (by decide) (State.tagDesc_rel _ _ _ _) ?_
    exact Rel.refl _ _
  · refine Rel.step (by decide) (State.updCore_rel _ _ _) ?_
    assumption

theorem State.issue_rel {l : List Fld} {s0 : State} {s : State} {c : Nat} {r : Nat} {op : Nat} {sb : Nat} {deadline : State → Nat → Option Nat} {run : State → Nat → Nat → State}
    (hsub : subF [.cores, .ctxs] l = true) (hact0 : ∀ u a1 a2, Rel l u (run u a1 a2)) (hrel : Rel l s0 s) : Rel l s0 (State.issue s c r op sb deadline run) := by
  unfold State.issue
  extract_lets +onlyGivenNames x1; try clear_value x1
  split
  · extract_lets +onlyGivenNames x2; try clear_value x2
    split
    · refine Rel.step (subF_trans (by decide) hsub) (State.complete_rel _ _ _ _ _ _) ?_
      refine Rel.step (subF_trans (by decide) hsub) (State.takeDesc_rel _ _ _ _ _) ?_
      assumption
    · refine Rel.trans ?_ (hact0 _ _ _)
      refine Rel.step (subF_trans (by decide) hsub) (State.takeDesc_rel _ _ _ _ _) ?_
      assumption
  · split
    · refine Rel.step (subF_trans (by decide) hsub) (State.noteWait_rel _ _ _ _) ?_
      assumption
    · assumption

theorem State.retire_rel (s : State) (c : Nat) (r : Nat) : Rel [.cores, .ctxs] s (State.retire s c r) := by
  unfold State.retire
  extract_lets +onlyGivenNames x1; try clear_value x1
  split
  · exact Rel.refl _ _
  · split
    · exact Rel.refl _ _
    · extract_lets +onlyGivenNames x2; (refine Rel.via (t := x2) ?_ (fun _ => ?_); (on_goal 2 => try clear_value x2); (on_goal 1 => unfold x2); (on_goal 1 => clear x2))
      · refine Rel.step (by decide) (State.updRing_rel _ _ _ _) ?_
        exact Rel.refl _ _
      · extract_lets +onlyGivenNames x3; (refine Rel.via (t := x3) ?_ (fun _ => ?_); (on_goal 2 => try clear_value x3); (on_goal 1 => unfold x3); (on_goal 1 => clear x3))
        · refine Rel.step (by decide) (State.count_rel _ _ _ _) ?_
          assumption
        · extract_lets +onlyGivenNames x4; (refine Rel.via (t := x4) ?_ (fun _ => ?_); (on_goal 2 => try clear_value x4); (on_goal 1 => unfold x4); (on_goal 1 => clear x4))
          · split
            · refine Rel.step (by decide) (State.gradFinal_rel _ _ _ _) ?_
              assumption
            · assumption
          · split
            · refine Rel.step (by decide) (State.signal_rel _ _ _) ?_
              assumption
            · assumption

theorem State.serveCompl_rel (s : State) (c : Nat) (r : Nat) : Rel [.out, .cores, .ctxs, .mailboxes, .log, .logNext, .logOverflow] s (State.serveCompl s c r) := by
  unfold State.serveCompl
  split
  · exact Rel.refl _ _
  · extract_lets +onlyGivenNames x1; try clear_value x1
    extract_lets +onlyGivenNames x2; (refine Rel.via (t := x2) ?_ (fun _ => ?_); (on_goal 2 => try clear_value x2); (on_goal 1 => unfold x2); (on_goal 1 => clear x2))
    · refine Rel.foldl (fun _ _ => ?_) ?_
      · split
        · exact Rel.refl _ _
        · refine Rel.step (by decide) (State.logRecord_rel _ _ _ _ _) ?_
          exact Rel.refl _ _
      · exact Rel.refl _ _
    · refine Rel.step (by decide) (State.updRing_rel _ _ _ _) ?_
      assumption

end Sys2Proof.Machine
end

