-- ==== Sys2Proof/Laws/Events.lean ====
section
/-! SUPPORT. What the operations and the meanings of Machine/Events.lean can change: for each operation the fields of the state it may change, and
for each meaning that it answers a next state and the fields that it may change; all of them keep the invariant. -/

namespace Sys2Proof.Machine

theorem State.evMark_rel (s : State) (x : Nat) (kind : Nat) (idx : Nat) : Rel [.ctxs] s (State.evMark s x kind idx) := by
  unfold State.evMark
  refine Rel.step (by decide) (State.updJob_rel _ _ _) ?_
  exact Rel.refl _ _

end Sys2Proof.Machine
end

