-- ==== Sys2Proof/Laws/Control.lean ====
section
/-! SUPPORT. What the operations and the meanings of Machine/Control.lean can change: for each operation the fields of the state it may change, and
for each meaning that it answers a next state and the fields that it may change; all of them keep the invariant. -/

namespace Sys2Proof.Machine

theorem State.eventWait_rel (s : State) (core : Nat) (ring : Nat) (sb : Nat) : Rel [.cores, .ctxs] s (State.eventWait s core ring sb) := by
  unfold State.eventWait
  extract_lets +onlyGivenNames x1; try clear_value x1
  refine State.issue_rel (by decide) (fun _ _ _ => ?_) ?_
  · split
    · refine Rel.step (by decide) (State.complete_rel _ _ _ _ _ _) ?_
      exact Rel.refl _ _
    · exact Rel.refl _ _
  · exact Rel.refl _ _

theorem State.toDeadline_rel (s : State) (x : Nat) (u : Nat) : Rel [.clk] s (State.toDeadline s x u) := by
  unfold State.toDeadline
  refine Rel.step (by decide) (State.toFabric_rel _ _ _) ?_
  exact Rel.refl _ _

theorem execBarrier_next (core : Nat) (ring : Nat) (s : State) : Next [.cores, .ctxs] s (execBarrier core ring s) := by
  unfold execBarrier
  extract_lets +onlyGivenNames x1; try clear_value x1
  refine Next.intro ?_
  refine State.issue_rel (by decide) (fun _ _ _ => ?_) ?_
  · extract_lets +onlyGivenNames x2; try clear_value x2
    split
    · exact Rel.refl _ _
    · extract_lets +onlyGivenNames x3; (refine Rel.via (t := x3) ?_ (fun _ => ?_); (on_goal 2 => try clear_value x3); (on_goal 1 => unfold x3); (on_goal 1 => clear x3))
      · refine Rel.step (by decide) (State.complete_rel _ _ _ _ _ _) ?_
        exact Rel.refl _ _
      · split
        · refine Rel.step (by decide) (State.count_rel _ _ _ _) ?_
          assumption
        · assumption
  · exact Rel.refl _ _

theorem execBarrierRelease_next (core : Nat) (ring : Nat) (s : State) : Next [.clk, .cores, .ctxs] s (execBarrierRelease core ring s) := by
  unfold execBarrierRelease
  extract_lets +onlyGivenNames x1; try clear_value x1
  split
  · refine Next.intro ?_
    exact Rel.refl _ _
  · split
    · refine Next.intro ?_
      exact Rel.refl _ _
    · split
      · refine Next.intro ?_
        exact Rel.refl _ _
      · refine Next.intro ?_
        refine Rel.step (by decide) (State.updCore_rel _ _ _) ?_
        refine Rel.step (by decide) (State.complete_rel _ _ _ _ _ _) ?_
        refine Rel.step (by decide) (State.toDeadline_rel _ _ _) ?_
        exact Rel.refl _ _

theorem execCompletionRingService_next (core : Nat) (ring : Nat) (s : State) : Next [.out, .cores, .ctxs, .mailboxes, .log, .logNext, .logOverflow] s (execCompletionRingService core ring s) := by
  unfold execCompletionRingService
  refine Next.intro ?_
  refine Rel.step (by decide) (State.serveCompl_rel _ _ _) ?_
  exact Rel.refl _ _

theorem execCursor_next (core : Nat) (ring : Nat) (s : State) : Next [.cores, .ctxs] s (execCursor core ring s) := by
  unfold execCursor
  refine Next.intro ?_
  refine State.issue_rel (by decide) (fun _ _ _ => ?_) ?_
  · refine Rel.step (by decide) (State.updRing_rel _ _ _ _) ?_
    refine Rel.step (by decide) (State.complete_rel _ _ _ _ _ _) ?_
    exact Rel.refl _ _
  · exact Rel.refl _ _

theorem execDescriptorRetire_next (core : Nat) (ring : Nat) (s : State) : Next [.cores, .ctxs] s (execDescriptorRetire core ring s) := by
  unfold execDescriptorRetire
  refine Next.intro ?_
  refine Rel.step (by decide) (State.retire_rel _ _ _) ?_
  exact Rel.refl _ _

theorem execEndDesc_next (core : Nat) (ring : Nat) (s : State) : Next [.cores, .ctxs] s (execEndDesc core ring s) := by
  unfold execEndDesc
  refine Next.intro ?_
  refine State.issue_rel (by decide) (fun _ _ _ => ?_) ?_
  · refine Rel.step (by decide) (State.updRing_rel _ _ _ _) ?_
    refine Rel.step (by decide) (State.complete_rel _ _ _ _ _ _) ?_
    exact Rel.refl _ _
  · exact Rel.refl _ _

theorem execEventWaitAtLeast_next (core : Nat) (ring : Nat) (s : State) : Next [.cores, .ctxs] s (execEventWaitAtLeast core ring s) := by
  unfold execEventWaitAtLeast
  refine Next.intro ?_
  refine Rel.step (by decide) (State.eventWait_rel _ _ _ _) ?_
  exact Rel.refl _ _

theorem execEventWaitEqual_next (core : Nat) (ring : Nat) (s : State) : Next [.cores, .ctxs] s (execEventWaitEqual core ring s) := by
  unfold execEventWaitEqual
  refine Next.intro ?_
  refine Rel.step (by decide) (State.eventWait_rel _ _ _ _) ?_
  exact Rel.refl _ _

theorem execEventWaitTimeout_next (core : Nat) (ring : Nat) (s : State) : Next [.clk, .cores, .ctxs] s (execEventWaitTimeout core ring s) := by
  unfold execEventWaitTimeout
  extract_lets +onlyGivenNames x1; try clear_value x1
  split
  · refine Next.intro ?_
    exact Rel.refl _ _
  · split
    · refine Next.intro ?_
      exact Rel.refl _ _
    · refine Next.intro ?_
      refine Rel.step (by decide) (State.complete_rel _ _ _ _ _ _) ?_
      refine Rel.step (by decide) (State.toDeadline_rel _ _ _) ?_
      exact Rel.refl _ _

theorem execJump_next (core : Nat) (ring : Nat) (s : State) : Next [.cores, .ctxs] s (execJump core ring s) := by
  unfold execJump
  refine Next.intro ?_
  refine State.issue_rel (by decide) (fun _ _ _ => ?_) ?_
  · split
    · refine Rel.step (by decide) (State.updRing_rel _ _ _ _) ?_
      refine Rel.step (by decide) (State.complete_rel _ _ _ _ _ _) ?_
      exact Rel.refl _ _
    · refine Rel.step (by decide) (State.complete_rel _ _ _ _ _ _) ?_
      exact Rel.refl _ _
  · exact Rel.refl _ _

theorem execNop_next (core : Nat) (ring : Nat) (s : State) : Next [.cores, .ctxs] s (execNop core ring s) := by
  unfold execNop
  refine Next.intro ?_
  refine State.issue_rel (by decide) (fun _ _ _ => ?_) ?_
  · refine Rel.step (by decide) (State.complete_rel _ _ _ _ _ _) ?_
    exact Rel.refl _ _
  · exact Rel.refl _ _

theorem execReservedOpcode_next (core : Nat) (ring : Nat) (s : State) : Next [.cores, .ctxs] s (execReservedOpcode core ring s) := by
  unfold execReservedOpcode
  extract_lets +onlyGivenNames x1; try clear_value x1
  split
  · refine Next.intro ?_
    exact Rel.refl _ _
  · refine Next.intro ?_
    refine State.issue_rel (by decide) (fun _ _ _ => ?_) ?_
    · exact Rel.refl _ _
    · exact Rel.refl _ _

end Sys2Proof.Machine
end

