-- ==== Sys2Proof/Laws/VectorOps.lean ====
section
/-! SUPPORT. What the operations and the meanings of Machine/VectorOps.lean can change: for each operation the fields of the state it may change, and
for each meaning that it answers a next state and the fields that it may change; all of them keep the invariant. -/

namespace Sys2Proof.Machine

theorem State.endOp_rel {l : List Fld} {s0 : State} {s : State} {c : Nat} {x : Nat} {due : Nat} {es : List Eff} {fin : State → State}
    (hsub : subF [.clk, .mem, .cores, .ctxs, .migs, .stalled, .rowCopies] l = true) (hact0 : ∀ u, Rel l u (fin u)) (hrel : Rel l s0 s) : Rel l s0 (State.endOp s c x due es fin) := by
  unfold State.endOp
  extract_lets +onlyGivenNames x1; (refine Rel.via (t := x1) ?_ (fun _ => ?_); (on_goal 2 => try clear_value x1); (on_goal 1 => unfold x1); (on_goal 1 => clear x1))
  · refine Rel.step (subF_trans (by decide) hsub) (State.toCycle_rel _ _) ?_
    assumption
  · split
    · refine Rel.step (subF_trans (by decide) hsub) (State.rush_rel _ _ _) ?_
      assumption
    · refine Rel.trans ?_ (hact0 _)
      refine Rel.step (subF_trans (by decide) hsub) (State.applyEffs_rel _ _ _ _) ?_
      assumption

theorem State.startVec_rel (s : State) (c : Nat) (r : Nat) (slot : Nat) (res : List Eff × Nat × Nat) (cycles : Nat) : Rel [.cores, .ctxs] s (State.startVec s c r slot res cycles) := by
  unfold State.startVec
  extract_lets +onlyGivenNames x1; try clear_value x1
  extract_lets +onlyGivenNames x2; (refine Rel.via (t := x2) ?_ (fun _ => ?_); (on_goal 2 => try clear_value x2); (on_goal 1 => unfold x2); (on_goal 1 => clear x2))
  · refine Rel.step (by decide) (State.count_rel _ _ _ _) ?_
    exact Rel.refl _ _
  · refine Rel.step (by decide) (State.updCore_rel _ _ _) ?_
    assumption

theorem State.runVec_rel (s : State) (c : Nat) (r : Nat) (slot : Nat) (d : Nat) (res : List Eff × Nat × Nat) (cycles : Option Nat) : Rel [.fresh, .cores, .ctxs] s (State.runVec s c r slot d res cycles) := by
  unfold State.runVec
  extract_lets +onlyGivenNames x1; try clear_value x1
  split
  · refine Rel.step (by decide) (State.complete_rel _ _ _ _ _ _) ?_
    exact Rel.refl _ _
  · split
    · refine Rel.step (by decide) (State.complete_rel _ _ _ _ _ _) ?_
      exact Rel.refl _ _
    · split
      · refine Rel.step (by decide) (State.startVec_rel _ _ _ _ _ _) ?_
        exact Rel.refl _ _
      · refine Rel.step (by decide) (State.draw_rel _) ?_
        refine Rel.step (by decide) (State.startVec_rel _ _ _ _ _ _) ?_
        exact Rel.refl _ _

theorem State.execConv_rel (s : State) (core : Nat) (ring : Nat) (sb : Nat) : Rel [.fresh, .cores, .ctxs] s (State.execConv s core ring sb) := by
  unfold State.execConv
  refine State.issue_rel (by decide) (fun _ _ _ => ?_) ?_
  · extract_lets +onlyGivenNames x1; try clear_value x1
    refine Rel.step (by decide) (State.runVec_rel _ _ _ _ _ _ _) ?_
    exact Rel.refl _ _
  · exact Rel.refl _ _

theorem State.execMove_rel (s : State) (core : Nat) (ring : Nat) (sb : Nat) (effs : Nat → List Eff) : Rel [.fresh, .cores, .ctxs] s (State.execMove s core ring sb effs) := by
  unfold State.execMove
  refine State.issue_rel (by decide) (fun _ _ _ => ?_) ?_
  · extract_lets +onlyGivenNames x1; try clear_value x1
    extract_lets +onlyGivenNames x2; try clear_value x2
    split
    · refine Rel.step (by decide) (State.complete_rel _ _ _ _ _ _) ?_
      exact Rel.refl _ _
    · extract_lets +onlyGivenNames x3; (refine Rel.via (t := x3) ?_ (fun _ => ?_); (on_goal 2 => try clear_value x3); (on_goal 1 => unfold x3); (on_goal 1 => clear x3))
      · refine Rel.foldl (fun _ _ => ?_) ?_
        · refine Rel.step (by decide) (State.moveTranslate_rel _ _ _ _) ?_
          exact Rel.refl _ _
        · exact Rel.refl _ _
      · split
        · refine Rel.step (by decide) (State.complete_rel _ _ _ _ _ _) ?_
          assumption
        · extract_lets +onlyGivenNames x4; try clear_value x4
          extract_lets +onlyGivenNames x5; (refine Rel.via (t := x5) ?_ (fun _ => ?_); (on_goal 2 => try clear_value x5); (on_goal 1 => unfold x5); (on_goal 1 => clear x5))
          · refine Rel.step (by decide) (State.draw_rel _) ?_
            assumption
          · refine Rel.step (by decide) (State.updCore_rel _ _ _) ?_
            assumption
  · exact Rel.refl _ _

theorem State.writeHyper_rel (s : State) (c : Nat) (x : Nat) (a : Nat) (step : Nat) : Rel [.fresh, .mem, .cores, .ctxs, .migs, .stalled, .rowCopies] s (State.writeHyper s c x a step) := by
  unfold State.writeHyper
  extract_lets +onlyGivenNames x1; try clear_value x1
  extract_lets +onlyGivenNames x2; try clear_value x2
  extract_lets +onlyGivenNames x3; try clear_value x3
  extract_lets +onlyGivenNames x4; (refine Rel.via (t := x4) ?_ (fun _ => ?_); (on_goal 2 => try clear_value x4); (on_goal 1 => unfold x4); (on_goal 1 => clear x4))
  · refine Rel.step (by decide) (State.tsWrite_rel _ _ _ _) ?_
    exact Rel.refl _ _
  · refine Rel.step (by decide) (State.draw_rel _) ?_
    refine Rel.step (by decide) (State.draw_rel _) ?_
    refine Rel.step (by decide) (State.tsWrite_rel _ _ _ _) ?_
    assumption

theorem State.prepHyper_rel (s : State) (c : Nat) (x : Nat) (d : Nat) (step : Nat) : Rel [.fresh, .mem, .cores, .ctxs, .migs, .stalled, .rowCopies] s (State.prepHyper s c x d step) := by
  unfold State.prepHyper
  extract_lets +onlyGivenNames x1; try clear_value x1
  split
  · exact Rel.refl _ _
  · refine Rel.step (by decide) (State.updJob_rel _ _ _) ?_
    refine Rel.step (by decide) (State.writeHyper_rel _ _ _ _ _) ?_
    exact Rel.refl _ _

theorem State.execOpt_rel (s : State) (core : Nat) (ring : Nat) (sb : Nat) : Rel [.fresh, .mem, .cores, .ctxs, .migs, .stalled, .rowCopies] s (State.execOpt s core ring sb) := by
  unfold State.execOpt
  refine State.issue_rel (by decide) (fun _ _ _ => ?_) ?_
  · extract_lets +onlyGivenNames x1; try clear_value x1
    split
    · split
      · refine Rel.step (by decide) (State.complete_rel _ _ _ _ _ _) ?_
        refine Rel.step (by decide) (State.updCtx_rel _ _ _) ?_
        exact Rel.refl _ _
      · extract_lets +onlyGivenNames x2; (refine Rel.via (t := x2) ?_ (fun _ => ?_); (on_goal 2 => try clear_value x2); (on_goal 1 => unfold x2); (on_goal 1 => clear x2))
        · refine Rel.step (by decide) (State.prepHyper_rel _ _ _ _ _) ?_
          refine Rel.step (by decide) (State.updCtx_rel _ _ _) ?_
          exact Rel.refl _ _
        · refine Rel.step (by decide) (State.runVec_rel _ _ _ _ _ _ _) ?_
          assumption
    · refine Rel.step (by decide) (State.runVec_rel _ _ _ _ _ _ _) ?_
      exact Rel.refl _ _
  · exact Rel.refl _ _

theorem State.execVec_rel (s : State) (core : Nat) (ring : Nat) (sb : Nat) : Rel [.fresh, .cores, .ctxs] s (State.execVec s core ring sb) := by
  unfold State.execVec
  refine State.issue_rel (by decide) (fun _ _ _ => ?_) ?_
  · extract_lets +onlyGivenNames x1; try clear_value x1
    refine Rel.step (by decide) (State.runVec_rel _ _ _ _ _ _ _) ?_
    exact Rel.refl _ _
  · exact Rel.refl _ _

theorem execConvertComputedScales_next (core : Nat) (ring : Nat) (s : State) : Next [.fresh, .cores, .ctxs] s (execConvertComputedScales core ring s) := by
  unfold execConvertComputedScales
  refine Next.intro ?_
  refine Rel.step (by decide) (State.execConv_rel _ _ _ _) ?_
  exact Rel.refl _ _

theorem execConvertSplitThree_next (core : Nat) (ring : Nat) (s : State) : Next [.fresh, .cores, .ctxs] s (execConvertSplitThree core ring s) := by
  unfold execConvertSplitThree
  refine Next.intro ?_
  refine Rel.step (by decide) (State.execConv_rel _ _ _ _) ?_
  exact Rel.refl _ _

theorem execConvertSplitTwo_next (core : Nat) (ring : Nat) (s : State) : Next [.fresh, .cores, .ctxs] s (execConvertSplitTwo core ring s) := by
  unfold execConvertSplitTwo
  refine Next.intro ?_
  refine Rel.step (by decide) (State.execConv_rel _ _ _ _) ?_
  exact Rel.refl _ _

theorem execConvertSuppliedScales_next (core : Nat) (ring : Nat) (s : State) : Next [.fresh, .cores, .ctxs] s (execConvertSuppliedScales core ring s) := by
  unfold execConvertSuppliedScales
  refine Next.intro ?_
  refine Rel.step (by decide) (State.execConv_rel _ _ _ _) ?_
  exact Rel.refl _ _

theorem execOpComplete_next (core : Nat) (unit : Nat) (s : State) : Next [.clk, .mem, .cores, .ctxs, .migs, .stalled, .rowCopies] s (execOpComplete core unit s) := by
  unfold execOpComplete
  extract_lets +onlyGivenNames x1; try clear_value x1
  split
  · split
    · refine Next.intro ?_
      exact Rel.refl _ _
    · refine Next.intro ?_
      refine State.endOp_rel (by decide) (fun _ => ?_) ?_
      · refine Rel.step (by decide) (State.complete_rel _ _ _ _ _ _) ?_
        refine Rel.step (by decide) (State.updCore_rel _ _ _) ?_
        exact Rel.refl _ _
      · exact Rel.refl _ _
  · split
    · split
      · refine Next.intro ?_
        exact Rel.refl _ _
      · refine Next.intro ?_
        refine State.endOp_rel (by decide) (fun _ => ?_) ?_
        · refine Rel.step (by decide) (State.complete_rel _ _ _ _ _ _) ?_
          refine Rel.step (by decide) (State.updCore_rel _ _ _) ?_
          exact Rel.refl _ _
        · exact Rel.refl _ _
    · split
      · refine Next.intro ?_
        exact Rel.refl _ _
      · refine Next.intro ?_
        refine State.endOp_rel (by decide) (fun _ => ?_) ?_
        · refine Rel.step (by decide) (State.updCtx_rel _ _ _) ?_
          refine Rel.step (by decide) (State.updCore_rel _ _ _) ?_
          exact Rel.refl _ _
        · exact Rel.refl _ _

theorem execOptUpdateAdam_next (core : Nat) (ring : Nat) (s : State) : Next [.fresh, .mem, .cores, .ctxs, .migs, .stalled, .rowCopies] s (execOptUpdateAdam core ring s) := by
  unfold execOptUpdateAdam
  refine Next.intro ?_
  refine Rel.step (by decide) (State.execOpt_rel _ _ _ _) ?_
  exact Rel.refl _ _

theorem execOptUpdateMomentum_next (core : Nat) (ring : Nat) (s : State) : Next [.fresh, .mem, .cores, .ctxs, .migs, .stalled, .rowCopies] s (execOptUpdateMomentum core ring s) := by
  unfold execOptUpdateMomentum
  refine Next.intro ?_
  refine Rel.step (by decide) (State.execOpt_rel _ _ _ _) ?_
  exact Rel.refl _ _

theorem execTileMoveCopy_next (core : Nat) (ring : Nat) (s : State) : Next [.fresh, .cores, .ctxs] s (execTileMoveCopy core ring s) := by
  unfold execTileMoveCopy
  refine Next.intro ?_
  refine Rel.step (by decide) (State.execMove_rel _ _ _ _ _) ?_
  exact Rel.refl _ _

theorem execTileMoveLoad_next (core : Nat) (ring : Nat) (s : State) : Next [.fresh, .cores, .ctxs] s (execTileMoveLoad core ring s) := by
  unfold execTileMoveLoad
  refine Next.intro ?_
  refine Rel.step (by decide) (State.execMove_rel _ _ _ _ _) ?_
  exact Rel.refl _ _

theorem execTileMoveStore_next (core : Nat) (ring : Nat) (s : State) : Next [.fresh, .cores, .ctxs] s (execTileMoveStore core ring s) := by
  unfold execTileMoveStore
  refine Next.intro ?_
  refine Rel.step (by decide) (State.execMove_rel _ _ _ _ _) ?_
  exact Rel.refl _ _

theorem execUpdateChannelIssue_next (core : Nat) (s : State) : Next [.fresh, .mem, .cores, .ctxs, .migs, .stalled, .rowCopies] s (execUpdateChannelIssue core s) := by
  unfold execUpdateChannelIssue
  split
  · refine Next.intro ?_
    exact Rel.refl _ _
  · split
    · refine Next.intro ?_
      exact Rel.refl _ _
    · extract_lets +onlyGivenNames x1; try clear_value x1
      extract_lets +onlyGivenNames x2; (refine Next.via (t := x2) ?_ (fun _ => ?_); (on_goal 2 => try clear_value x2); (on_goal 1 => unfold x2); (on_goal 1 => clear x2))
      · split
        · refine Rel.step (by decide) (State.prepHyper_rel _ _ _ _ _) ?_
          exact Rel.refl _ _
        · exact Rel.refl _ _
      · extract_lets +onlyGivenNames x3; try clear_value x3
        split
        extract_lets +onlyGivenNames x4; (refine Next.via (t := x4) ?_ (fun _ => ?_); (on_goal 2 => try clear_value x4); (on_goal 1 => unfold x4); (on_goal 1 => clear x4))
        · refine Rel.step (by decide) (State.draw_rel _) ?_
          assumption
        · extract_lets +onlyGivenNames x5; (refine Next.via (t := x5) ?_ (fun _ => ?_); (on_goal 2 => try clear_value x5); (on_goal 1 => unfold x5); (on_goal 1 => clear x5))
          · refine Rel.step (by decide) (State.updCtx_rel _ _ _) ?_
            assumption
          · extract_lets +onlyGivenNames x6; (refine Next.via (t := x6) ?_ (fun _ => ?_); (on_goal 2 => try clear_value x6); (on_goal 1 => unfold x6); (on_goal 1 => clear x6))
            · refine Rel.step (by decide) (State.count_rel _ _ _ _) ?_
              refine Rel.step (by decide) (State.count_rel _ _ _ _) ?_
              assumption
            · refine Next.intro ?_
              refine Rel.step (by decide) (State.updCore_rel _ _ _) ?_
              assumption

theorem execVectorAdd_next (core : Nat) (ring : Nat) (s : State) : Next [.fresh, .cores, .ctxs] s (execVectorAdd core ring s) := by
  unfold execVectorAdd
  refine Next.intro ?_
  refine Rel.step (by decide) (State.execVec_rel _ _ _ _) ?_
  exact Rel.refl _ _

theorem execVectorDropout_next (core : Nat) (ring : Nat) (s : State) : Next [.fresh, .cores, .ctxs] s (execVectorDropout core ring s) := by
  unfold execVectorDropout
  refine Next.intro ?_
  refine Rel.step (by decide) (State.execVec_rel _ _ _ _) ?_
  exact Rel.refl _ _

theorem execVectorExp_next (core : Nat) (ring : Nat) (s : State) : Next [.fresh, .cores, .ctxs] s (execVectorExp core ring s) := by
  unfold execVectorExp
  refine Next.intro ?_
  refine Rel.step (by decide) (State.execVec_rel _ _ _ _) ?_
  exact Rel.refl _ _

theorem execVectorFma_next (core : Nat) (ring : Nat) (s : State) : Next [.fresh, .cores, .ctxs] s (execVectorFma core ring s) := by
  unfold execVectorFma
  refine Next.intro ?_
  refine Rel.step (by decide) (State.execVec_rel _ _ _ _) ?_
  exact Rel.refl _ _

theorem execVectorFmaP0_next (core : Nat) (ring : Nat) (s : State) : Next [.fresh, .cores, .ctxs] s (execVectorFmaP0 core ring s) := by
  unfold execVectorFmaP0
  refine Next.intro ?_
  refine Rel.step (by decide) (State.execVec_rel _ _ _ _) ?_
  exact Rel.refl _ _

theorem execVectorGelu_next (core : Nat) (ring : Nat) (s : State) : Next [.fresh, .cores, .ctxs] s (execVectorGelu core ring s) := by
  unfold execVectorGelu
  refine Next.intro ?_
  refine Rel.step (by decide) (State.execVec_rel _ _ _ _) ?_
  exact Rel.refl _ _

theorem execVectorLayerNorm_next (core : Nat) (ring : Nat) (s : State) : Next [.fresh, .cores, .ctxs] s (execVectorLayerNorm core ring s) := by
  unfold execVectorLayerNorm
  refine Next.intro ?_
  refine Rel.step (by decide) (State.execVec_rel _ _ _ _) ?_
  exact Rel.refl _ _

theorem execVectorLog_next (core : Nat) (ring : Nat) (s : State) : Next [.fresh, .cores, .ctxs] s (execVectorLog core ring s) := by
  unfold execVectorLog
  refine Next.intro ?_
  refine Rel.step (by decide) (State.execVec_rel _ _ _ _) ?_
  exact Rel.refl _ _

theorem execVectorMaximum_next (core : Nat) (ring : Nat) (s : State) : Next [.fresh, .cores, .ctxs] s (execVectorMaximum core ring s) := by
  unfold execVectorMaximum
  refine Next.intro ?_
  refine Rel.step (by decide) (State.execVec_rel _ _ _ _) ?_
  exact Rel.refl _ _

theorem execVectorMinimum_next (core : Nat) (ring : Nat) (s : State) : Next [.fresh, .cores, .ctxs] s (execVectorMinimum core ring s) := by
  unfold execVectorMinimum
  refine Next.intro ?_
  refine Rel.step (by decide) (State.execVec_rel _ _ _ _) ?_
  exact Rel.refl _ _

theorem execVectorMultiply_next (core : Nat) (ring : Nat) (s : State) : Next [.fresh, .cores, .ctxs] s (execVectorMultiply core ring s) := by
  unfold execVectorMultiply
  refine Next.intro ?_
  refine Rel.step (by decide) (State.execVec_rel _ _ _ _) ?_
  exact Rel.refl _ _

theorem execVectorRcp_next (core : Nat) (ring : Nat) (s : State) : Next [.fresh, .cores, .ctxs] s (execVectorRcp core ring s) := by
  unfold execVectorRcp
  refine Next.intro ?_
  refine Rel.step (by decide) (State.execVec_rel _ _ _ _) ?_
  exact Rel.refl _ _

theorem execVectorRmsNorm_next (core : Nat) (ring : Nat) (s : State) : Next [.fresh, .cores, .ctxs] s (execVectorRmsNorm core ring s) := by
  unfold execVectorRmsNorm
  refine Next.intro ?_
  refine Rel.step (by decide) (State.execVec_rel _ _ _ _) ?_
  exact Rel.refl _ _

theorem execVectorRowMaximum_next (core : Nat) (ring : Nat) (s : State) : Next [.fresh, .cores, .ctxs] s (execVectorRowMaximum core ring s) := by
  unfold execVectorRowMaximum
  refine Next.intro ?_
  refine Rel.step (by decide) (State.execVec_rel _ _ _ _) ?_
  exact Rel.refl _ _

theorem execVectorRowSum_next (core : Nat) (ring : Nat) (s : State) : Next [.fresh, .cores, .ctxs] s (execVectorRowSum core ring s) := by
  unfold execVectorRowSum
  refine Next.intro ?_
  refine Rel.step (by decide) (State.execVec_rel _ _ _ _) ?_
  exact Rel.refl _ _

theorem execVectorRsqrt_next (core : Nat) (ring : Nat) (s : State) : Next [.fresh, .cores, .ctxs] s (execVectorRsqrt core ring s) := by
  unfold execVectorRsqrt
  refine Next.intro ?_
  refine Rel.step (by decide) (State.execVec_rel _ _ _ _) ?_
  exact Rel.refl _ _

theorem execVectorSigmoid_next (core : Nat) (ring : Nat) (s : State) : Next [.fresh, .cores, .ctxs] s (execVectorSigmoid core ring s) := by
  unfold execVectorSigmoid
  refine Next.intro ?_
  refine Rel.step (by decide) (State.execVec_rel _ _ _ _) ?_
  exact Rel.refl _ _

theorem execVectorSilu_next (core : Nat) (ring : Nat) (s : State) : Next [.fresh, .cores, .ctxs] s (execVectorSilu core ring s) := by
  unfold execVectorSilu
  refine Next.intro ?_
  refine Rel.step (by decide) (State.execVec_rel _ _ _ _) ?_
  exact Rel.refl _ _

theorem execVectorSoftmax_next (core : Nat) (ring : Nat) (s : State) : Next [.fresh, .cores, .ctxs] s (execVectorSoftmax core ring s) := by
  unfold execVectorSoftmax
  refine Next.intro ?_
  refine Rel.step (by decide) (State.execVec_rel _ _ _ _) ?_
  exact Rel.refl _ _

theorem execVectorSqrt_next (core : Nat) (ring : Nat) (s : State) : Next [.fresh, .cores, .ctxs] s (execVectorSqrt core ring s) := by
  unfold execVectorSqrt
  refine Next.intro ?_
  refine Rel.step (by decide) (State.execVec_rel _ _ _ _) ?_
  exact Rel.refl _ _

theorem execVectorSubtract_next (core : Nat) (ring : Nat) (s : State) : Next [.fresh, .cores, .ctxs] s (execVectorSubtract core ring s) := by
  unfold execVectorSubtract
  refine Next.intro ?_
  refine Rel.step (by decide) (State.execVec_rel _ _ _ _) ?_
  exact Rel.refl _ _

theorem execVectorUniformRandom_next (core : Nat) (ring : Nat) (s : State) : Next [.fresh, .cores, .ctxs] s (execVectorUniformRandom core ring s) := by
  unfold execVectorUniformRandom
  refine Next.intro ?_
  refine Rel.step (by decide) (State.execVec_rel _ _ _ _) ?_
  exact Rel.refl _ _

end Sys2Proof.Machine
end

