-- ==== Sys2Proof/Laws/Arrays.lean ====
section
/-! SUPPORT. What the operations and the meanings of Machine/Arrays.lean can change: for each operation the fields of the state it may change, and
for each meaning that it answers a next state and the fields that it may change; all of them keep the invariant. -/

namespace Sys2Proof.Machine

theorem State.arrayError_rel (s : State) (cls : Nat) (c : Nat) (a : Nat) (row : Nat) (x : Nat) (gen : Nat) (clean : Nat) : Rel [.out, .ctxs, .mailboxes, .log, .logNext, .logOverflow] s (State.arrayError s cls c a row x gen clean) := by
  unfold State.arrayError
  refine Rel.step (by decide) (State.logRecord_rel _ _ _ _ _) ?_
  exact Rel.refl _ _

theorem State.arrayFault_rel (s : State) (c : Nat) (a : Nat) : Rel [.out, .cores, .ctxs, .culls, .arrayErrs, .mailboxes, .log, .logNext, .logOverflow] s (State.arrayFault s c a) := by
  unfold State.arrayFault
  extract_lets +onlyGivenNames x1; try clear_value x1
  extract_lets +onlyGivenNames x2; try clear_value x2
  extract_lets +onlyGivenNames x3; try clear_value x3
  extract_lets +onlyGivenNames x4; try clear_value x4
  extract_lets +onlyGivenNames x5; (refine Rel.via (t := x5) ?_ (fun _ => ?_); (on_goal 2 => try clear_value x5); (on_goal 1 => unfold x5); (on_goal 1 => clear x5))
  · refine Rel.step (by decide) Rel.set_arrayErrs ?_
    exact Rel.refl _ _
  · split
    · extract_lets +onlyGivenNames x6; (refine Rel.via (t := x6) ?_ (fun _ => ?_); (on_goal 2 => try clear_value x6); (on_goal 1 => unfold x6); (on_goal 1 => clear x6))
      · refine Rel.step (by decide) (State.addCullet_rel _ _) ?_
        assumption
      · split
        · refine Rel.foldl (fun _ _ => ?_) ?_
          · refine Rel.step (by decide) (State.fenceLater_rel _ _) ?_
            exact Rel.refl _ _
          · assumption
        · refine Rel.step (by decide) (State.updCore_rel _ _ _) ?_
          assumption
    · assumption

theorem State.failArr_rel (s : State) (c : Nat) (a : ArrOp) (status : Nat) : Rel [.cores, .ctxs] s (State.failArr s c a status) := by
  unfold State.failArr
  extract_lets +onlyGivenNames x1; try clear_value x1
  extract_lets +onlyGivenNames x2; (refine Rel.via (t := x2) ?_ (fun _ => ?_); (on_goal 2 => try clear_value x2); (on_goal 1 => unfold x2); (on_goal 1 => clear x2))
  · refine Rel.step (by decide) (State.updCore_rel _ _ _) ?_
    exact Rel.refl _ _
  · refine Rel.step (by decide) (State.complete_rel _ _ _ _ _ _) ?_
    assumption

theorem State.accFails_rel (s : State) (c : Nat) (arr : Nat) (accRow : Nat) (a : ArrOp) : Rel [.out, .cores, .ctxs, .culls, .arrayErrs, .mailboxes, .log, .logNext, .logOverflow] s (State.accFails s c arr accRow a) := by
  unfold State.accFails
  extract_lets +onlyGivenNames x1; try clear_value x1
  extract_lets +onlyGivenNames x2; (refine Rel.via (t := x2) ?_ (fun _ => ?_); (on_goal 2 => try clear_value x2); (on_goal 1 => unfold x2); (on_goal 1 => clear x2))
  · refine Rel.step (by decide) (State.fenceLater_rel _ _) ?_
    refine Rel.step (by decide) (State.arrayFault_rel _ _ _) ?_
    refine Rel.step (by decide) (State.arrayError_rel _ _ _ _ _ _ _ _) ?_
    exact Rel.refl _ _
  · refine Rel.step (by decide) (State.failArr_rel _ _ _ _) ?_
    assumption

theorem State.ceilingFell_rel (s : State) : Rel [.cores] s (State.ceilingFell s) := by
  unfold State.ceilingFell
  refine Rel.step (by decide) Rel.set_cores ?_
  exact Rel.refl _ _

theorem State.outUpd_rel (s : State) (c : Nat) (r : Nat) (slot : Nat) (f : OutDesc → OutDesc) : Rel [.cores] s (State.outUpd s c r slot f) := by
  unfold State.outUpd
  refine Rel.step (by decide) (State.updRing_rel _ _ _ _) ?_
  exact Rel.refl _ _

theorem State.settle_rel (s : State) (c : Nat) : Rel [.cores, .ctxs, .counters] s (State.settle s c) := by
  unfold State.settle
  extract_lets +onlyGivenNames x1; try clear_value x1
  extract_lets +onlyGivenNames x2; (refine Rel.via (t := x2) ?_ (fun _ => ?_); (on_goal 2 => try clear_value x2); (on_goal 1 => unfold x2); (on_goal 1 => clear x2))
  · split
    · refine Rel.step (by decide) (State.countCore_rel _ _ _ _ _) ?_
      exact Rel.refl _ _
    · exact Rel.refl _ _
  · refine Rel.step (by decide) (State.updCore_rel _ _ _) ?_
    assumption

theorem State.setN_rel (s : State) (c : Nat) (n : Nat) (f : Core → Core) : Rel [.cores, .ctxs, .counters] s (State.setN s c n f) := by
  unfold State.setN
  extract_lets +onlyGivenNames x1; (refine Rel.via (t := x1) ?_ (fun _ => ?_); (on_goal 2 => try clear_value x1); (on_goal 1 => unfold x1); (on_goal 1 => clear x1))
  · refine Rel.step (by decide) (State.settle_rel _ _) ?_
    exact Rel.refl _ _
  · extract_lets +onlyGivenNames x2; try clear_value x2
    refine Rel.step (by decide) (State.updCore_rel _ _ _) ?_
    assumption

theorem State.startUp_rel (s : State) (c : Nat) : Rel [.cores, .ctxs, .counters] s (State.startUp s c) := by
  unfold State.startUp
  extract_lets +onlyGivenNames x1; try clear_value x1
  extract_lets +onlyGivenNames x2; try clear_value x2
  split
  · refine Rel.step (by decide) (State.setN_rel _ _ _ _) ?_
    exact Rel.refl _ _
  · refine Rel.step (by decide) (State.updCore_rel _ _ _) ?_
    exact Rel.refl _ _

theorem State.tagUpd_rel (s : State) (c : Nat) (r : Nat) (slot : Nat) (f : Tagged → Tagged) : Rel [.cores] s (State.tagUpd s c r slot f) := by
  unfold State.tagUpd
  refine Rel.step (by decide) (State.updRing_rel _ _ _ _) ?_
  exact Rel.refl _ _

theorem State.enterRow_rel (s : State) (core : Nat) : Rel [.clk, .cores, .ctxs, .counters] s (State.enterRow s core) := by
  unfold State.enterRow
  split
  · exact Rel.refl _ _
  · split
    · exact Rel.refl _ _
    · extract_lets +onlyGivenNames x1; try clear_value x1
      extract_lets +onlyGivenNames x2; (refine Rel.via (t := x2) ?_ (fun _ => ?_); (on_goal 2 => try clear_value x2); (on_goal 1 => unfold x2); (on_goal 1 => clear x2))
      · exact Rel.refl _ _
      · extract_lets +onlyGivenNames x3; (refine Rel.via (t := x3) ?_ (fun _ => ?_); (on_goal 2 => try clear_value x3); (on_goal 1 => unfold x3); (on_goal 1 => clear x3))
        · refine Rel.step (by decide) (State.startUp_rel _ _) ?_
          exact Rel.refl _ _
        · extract_lets +onlyGivenNames x4; try clear_value x4
          split
          · assumption
          · extract_lets +onlyGivenNames x5; (refine Rel.via (t := x5) ?_ (fun _ => ?_); (on_goal 2 => try clear_value x5); (on_goal 1 => unfold x5); (on_goal 1 => clear x5))
            · refine Rel.step (by decide) (State.toCycle_rel _ _) ?_
              assumption
            · extract_lets +onlyGivenNames x6; (refine Rel.via (t := x6) ?_ (fun _ => ?_); (on_goal 2 => try clear_value x6); (on_goal 1 => unfold x6); (on_goal 1 => clear x6))
              · split
                · assumption
                · refine Rel.step (by decide) (State.settle_rel _ _) ?_
                  assumption
              · extract_lets +onlyGivenNames x7; try clear_value x7
                extract_lets +onlyGivenNames x8; try clear_value x8
                extract_lets +onlyGivenNames x9; try clear_value x9
                extract_lets +onlyGivenNames x10; try clear_value x10
                extract_lets +onlyGivenNames x11; try clear_value x11
                extract_lets +onlyGivenNames x12; try clear_value x12
                extract_lets +onlyGivenNames x13; try clear_value x13
                extract_lets +onlyGivenNames x14; try clear_value x14
                extract_lets +onlyGivenNames x15; try clear_value x15
                extract_lets +onlyGivenNames x16; try clear_value x16
                extract_lets +onlyGivenNames x17; (refine Rel.via (t := x17) ?_ (fun _ => ?_); (on_goal 2 => try clear_value x17); (on_goal 1 => unfold x17); (on_goal 1 => clear x17))
                · refine Rel.step (by decide) (State.countCore_rel _ _ _ _ _) ?_
                  assumption
                · extract_lets +onlyGivenNames x18; (refine Rel.via (t := x18) ?_ (fun _ => ?_); (on_goal 2 => try clear_value x18); (on_goal 1 => unfold x18); (on_goal 1 => clear x18))
                  · split
                    · assumption
                    · refine Rel.step (by decide) (State.countCore_rel _ _ _ _ _) ?_
                      assumption
                  · extract_lets +onlyGivenNames x19; (refine Rel.via (t := x19) ?_ (fun _ => ?_); (on_goal 2 => try clear_value x19); (on_goal 1 => unfold x19); (on_goal 1 => clear x19))
                    · split
                      · refine Rel.step (by decide) (State.countCore_rel _ _ _ _ _) ?_
                        assumption
                      · assumption
                    · extract_lets +onlyGivenNames x20; (refine Rel.via (t := x20) ?_ (fun _ => ?_); (on_goal 2 => try clear_value x20); (on_goal 1 => unfold x20); (on_goal 1 => clear x20))
                      · refine Rel.step (by decide) (State.tagUpd_rel _ _ _ _ _) ?_
                        assumption
                      · extract_lets +onlyGivenNames x21; try clear_value x21
                        extract_lets +onlyGivenNames x22; (refine Rel.via (t := x22) ?_ (fun _ => ?_); (on_goal 2 => try clear_value x22); (on_goal 1 => unfold x22); (on_goal 1 => clear x22))
                        · refine Rel.step (by decide) (State.updCore_rel _ _ _) ?_
                          assumption
                        · split
                          · refine Rel.step (by decide) (State.outUpd_rel _ _ _ _ _) ?_
                            assumption
                          · assumption

theorem State.settleAll_rel (s : State) : Rel [.cores, .ctxs, .counters] s (State.settleAll s) := by
  unfold State.settleAll
  refine Rel.foldl (fun _ _ => ?_) ?_
  · refine Rel.step (by decide) (State.settle_rel _ _) ?_
    exact Rel.refl _ _
  · exact Rel.refl _ _

theorem State.fillKeepers_rel (s : State) (c : Nat) : Rel [.cores, .ctxs, .counters] s (State.fillKeepers s c) := by
  unfold State.fillKeepers
  extract_lets +onlyGivenNames x1; try clear_value x1
  extract_lets +onlyGivenNames x2; try clear_value x2
  extract_lets +onlyGivenNames x3; (refine Rel.via (t := x3) ?_ (fun _ => ?_); (on_goal 2 => try clear_value x3); (on_goal 1 => unfold x3); (on_goal 1 => clear x3))
  · split
    · exact Rel.refl _ _
    · refine Rel.step (by decide) (State.countCore_rel _ _ _ _ _) ?_
      exact Rel.refl _ _
  · refine Rel.step (by decide) (State.updCore_rel _ _ _) ?_
    assumption

theorem State.ownerError_rel (s : State) (c : Nat) (a : ArrOp) : Rel [.out, .cores, .ctxs, .mailboxes, .log, .logNext, .logOverflow] s (State.ownerError s c a) := by
  unfold State.ownerError
  extract_lets +onlyGivenNames x1; (refine Rel.via (t := x1) ?_ (fun _ => ?_); (on_goal 2 => try clear_value x1); (on_goal 1 => unfold x1); (on_goal 1 => clear x1))
  · refine Rel.foldl (fun _ _ => ?_) ?_
    · extract_lets +onlyGivenNames x2; try clear_value x2
      refine Rel.step (by decide) (State.arrayError_rel _ _ _ _ _ _ _ _) ?_
      exact Rel.refl _ _
    · exact Rel.refl _ _
  · refine Rel.step (by decide) (State.failArr_rel _ _ _ _) ?_
    assumption

theorem State.stream_rel (s : State) (c : Nat) (a : ArrOp) : Rel [.cores, .ctxs, .counters] s (State.stream s c a) := by
  unfold State.stream
  extract_lets +onlyGivenNames x1; (refine Rel.via (t := x1) ?_ (fun _ => ?_); (on_goal 2 => try clear_value x1); (on_goal 1 => unfold x1); (on_goal 1 => clear x1))
  · refine Rel.step (by decide) (State.countCore_rel _ _ _ _ _) ?_
    exact Rel.refl _ _
  · split
    · extract_lets +onlyGivenNames x2; (refine Rel.via (t := x2) ?_ (fun _ => ?_); (on_goal 2 => try clear_value x2); (on_goal 1 => unfold x2); (on_goal 1 => clear x2))
      · refine Rel.step (by decide) (State.updCore_rel _ _ _) ?_
        assumption
      · split
        · refine Rel.step (by decide) (State.outUpd_rel _ _ _ _ _) ?_
          assumption
        · assumption
    · refine Rel.step (by decide) (State.updCore_rel _ _ _) ?_
      assumption

theorem State.strike_rel (s : State) (c : Nat) (row : Nat) (bad : List Nat) : Rel [.cores] s (State.strike s c row bad) := by
  unfold State.strike
  refine Rel.step (by decide) (State.updCore_rel _ _ _) ?_
  exact Rel.refl _ _

theorem State.sweepArray_rel (s : State) (c : Nat) (row : Nat) (a : Nat) : Rel [.out, .cores, .ctxs, .culls, .arrayErrs, .mailboxes, .log, .logNext, .logOverflow] s (State.sweepArray s c row a) := by
  unfold State.sweepArray
  split
  · exact Rel.refl _ _
  · split
    · extract_lets +onlyGivenNames x1; try clear_value x1
      extract_lets +onlyGivenNames x2; try clear_value x2
      extract_lets +onlyGivenNames x3; (refine Rel.via (t := x3) ?_ (fun _ => ?_); (on_goal 2 => try clear_value x3); (on_goal 1 => unfold x3); (on_goal 1 => clear x3))
      · refine Rel.step (by decide) (State.arrayFault_rel _ _ _) ?_
        refine Rel.step (by decide) (State.arrayError_rel _ _ _ _ _ _ _ _) ?_
        exact Rel.refl _ _
      · split
        · refine Rel.step (by decide) (State.fenceLater_rel _ _) ?_
          assumption
        · assumption
    · refine Rel.step (by decide) (State.updCore_rel _ _ _) ?_
      exact Rel.refl _ _

theorem State.sweepFails_rel (s : State) (c : Nat) (row : Nat) : Rel [.cores, .ctxs] s (State.sweepFails s c row) := by
  unfold State.sweepFails
  extract_lets +onlyGivenNames x1; try clear_value x1
  split
  · split
    · refine Rel.step (by decide) (State.failArr_rel _ _ _ _) ?_
      exact Rel.refl _ _
    · exact Rel.refl _ _
  · exact Rel.refl _ _

theorem State.tagEmpty_rel (s : State) (c : Nat) : Rel [.cores] s (State.tagEmpty s c) := by
  unfold State.tagEmpty
  split
  · split
    · exact Rel.refl _ _
    · refine Rel.step (by decide) (State.tagUpd_rel _ _ _ _ _) ?_
      exact Rel.refl _ _
  · exact Rel.refl _ _

theorem execArrayMul_next (core : Nat) (ring : Nat) (s : State) : Next [.cores, .ctxs] s (execArrayMul core ring s) := by
  unfold execArrayMul
  refine Next.intro ?_
  refine State.issue_rel (by decide) (fun _ _ _ => ?_) ?_
  · extract_lets +onlyGivenNames x1; try clear_value x1
    split
    · refine Rel.step (by decide) (State.complete_rel _ _ _ _ _ _) ?_
      exact Rel.refl _ _
    · extract_lets +onlyGivenNames x2; try clear_value x2
      refine Rel.step (by decide) (State.updCore_rel _ _ _) ?_
      exact Rel.refl _ _
  · exact Rel.refl _ _

theorem execArrayRowEntry_next (core : Nat) (s : State) : Next [.clk, .cores, .ctxs, .counters] s (execArrayRowEntry core s) := by
  unfold execArrayRowEntry
  split
  · refine Next.intro ?_
    exact Rel.refl _ _
  · refine Next.intro ?_
    refine Rel.step (by decide) (State.enterRow_rel _ _) ?_
    split
    · refine Rel.step (by decide) (State.stream_rel _ _ _) ?_
      exact Rel.refl _ _
    · exact Rel.refl _ _

theorem execCeilingStepDown_next (core : Nat) (s : State) : Next [.clk, .cores, .ctxs, .counters] s (execCeilingStepDown core s) := by
  unfold execCeilingStepDown
  extract_lets +onlyGivenNames x1; try clear_value x1
  split
  · refine Next.intro ?_
    refine Rel.step (by decide) (State.updCore_rel _ _ _) ?_
    exact Rel.refl _ _
  · extract_lets +onlyGivenNames x2; (refine Next.via (t := x2) ?_ (fun _ => ?_); (on_goal 2 => try clear_value x2); (on_goal 1 => unfold x2); (on_goal 1 => clear x2))
    · refine Rel.step (by decide) (State.toCycle_rel _ _) ?_
      exact Rel.refl _ _
    · refine Next.intro ?_
      refine Rel.step (by decide) (State.setN_rel _ _ _ _) ?_
      assumption

theorem execDrainComplete_next (core : Nat) (s : State) : Next [.clk, .mem, .cores, .ctxs, .migs, .stalled, .rowCopies] s (execDrainComplete core s) := by
  unfold execDrainComplete
  split
  · refine Next.intro ?_
    exact Rel.refl _ _
  · refine Next.intro ?_
    refine State.endOp_rel (by decide) (fun _ => ?_) ?_
    · refine Rel.step (by decide) (State.complete_rel _ _ _ _ _ _) ?_
      refine Rel.step (by decide) (State.updCore_rel _ _ _) ?_
      exact Rel.refl _ _
    · exact Rel.refl _ _

theorem execDrainStart_next (d : DrainBegin) (s : State) : Next [.out, .fresh, .clk, .cores, .ctxs, .culls, .arrayErrs, .mailboxes, .log, .logNext, .logOverflow, .counters] s (execDrainStart d s) := by
  unfold execDrainStart
  extract_lets +onlyGivenNames x1; try clear_value x1
  extract_lets +onlyGivenNames x2; try clear_value x2
  extract_lets +onlyGivenNames x3; try clear_value x3
  split
  · refine Next.intro ?_
    exact Rel.refl _ _
  · split
    · refine Next.intro ?_
      exact Rel.refl _ _
    · extract_lets +onlyGivenNames x4; (refine Next.via (t := x4) ?_ (fun _ => ?_); (on_goal 2 => try clear_value x4); (on_goal 1 => unfold x4); (on_goal 1 => clear x4))
      · refine Rel.step (by decide) (State.toCycle_rel _ _) ?_
        exact Rel.refl _ _
      · split
        · refine Next.intro ?_
          refine Rel.step (by decide) (State.accFails_rel _ _ _ _ _) ?_
          assumption
        · extract_lets +onlyGivenNames x5; (refine Next.via (t := x5) ?_ (fun _ => ?_); (on_goal 2 => try clear_value x5); (on_goal 1 => unfold x5); (on_goal 1 => clear x5))
          · split
            · refine Rel.step (by decide) (State.countM_rel _ _ _) ?_
              assumption
            · assumption
          · extract_lets +onlyGivenNames x6; try clear_value x6
            extract_lets +onlyGivenNames x7; (refine Next.via (t := x7) ?_ (fun _ => ?_); (on_goal 2 => try clear_value x7); (on_goal 1 => unfold x7); (on_goal 1 => clear x7))
            · refine Rel.step (by decide) Rel.set_fresh ?_
              assumption
            · extract_lets +onlyGivenNames x8; try clear_value x8
              extract_lets +onlyGivenNames x9; (refine Next.via (t := x9) ?_ (fun _ => ?_); (on_goal 2 => try clear_value x9); (on_goal 1 => unfold x9); (on_goal 1 => clear x9))
              · refine Rel.step (by decide) (State.tagUpd_rel _ _ _ _ _) ?_
                assumption
              · refine Next.intro ?_
                refine Rel.step (by decide) (State.updCore_rel _ _ _) ?_
                assumption

theorem execEmptyIssueSlot_next (core : Nat) (lostArbitration : Bool) (s : State) : Next [.clk, .cores, .ctxs, .counters] s (execEmptyIssueSlot core lostArbitration s) := by
  unfold execEmptyIssueSlot
  extract_lets +onlyGivenNames x1; try clear_value x1
  split
  · refine Next.intro ?_
    exact Rel.refl _ _
  · extract_lets +onlyGivenNames x2; try clear_value x2
    extract_lets +onlyGivenNames x3; (refine Next.via (t := x3) ?_ (fun _ => ?_); (on_goal 2 => try clear_value x3); (on_goal 1 => unfold x3); (on_goal 1 => clear x3))
    · refine Rel.step (by decide) (State.toCycle_rel _ _) ?_
      exact Rel.refl _ _
    · extract_lets +onlyGivenNames x4; try clear_value x4
      extract_lets +onlyGivenNames x5; (refine Next.via (t := x5) ?_ (fun _ => ?_); (on_goal 2 => try clear_value x5); (on_goal 1 => unfold x5); (on_goal 1 => clear x5))
      · refine Rel.step (by decide) (State.countCore_rel _ _ _ _ _) ?_
        assumption
      · extract_lets +onlyGivenNames x6; (refine Next.via (t := x6) ?_ (fun _ => ?_); (on_goal 2 => try clear_value x6); (on_goal 1 => unfold x6); (on_goal 1 => clear x6))
        · split
          · refine Rel.step (by decide) (State.countCore_rel _ _ _ _ _) ?_
            assumption
          · assumption
        · refine Next.intro ?_
          refine Rel.step (by decide) (State.updCore_rel _ _ _) ?_
          refine Rel.step (by decide) (State.tagEmpty_rel _ _) ?_
          assumption

theorem execLadderPush_next (core : Nat) (ecc : AccEcc) (s : State) : Next [.out, .clk, .cores, .ctxs, .culls, .arrayErrs, .mailboxes, .log, .logNext, .logOverflow, .counters] s (execLadderPush core ecc s) := by
  unfold execLadderPush
  split
  · refine Next.intro ?_
    exact Rel.refl _ _
  · extract_lets +onlyGivenNames x1; (refine Next.via (t := x1) ?_ (fun _ => ?_); (on_goal 2 => try clear_value x1); (on_goal 1 => unfold x1); (on_goal 1 => clear x1))
    · refine Rel.step (by decide) (State.toCycle_rel _ _) ?_
      exact Rel.refl _ _
    · split
      · refine Next.intro ?_
        refine Rel.step (by decide) (State.updCore_rel _ _ _) ?_
        assumption
      · split
        · refine Next.intro ?_
          refine Rel.step (by decide) (State.accFails_rel _ _ _ _ _) ?_
          assumption
        · extract_lets +onlyGivenNames x2; (refine Next.via (t := x2) ?_ (fun _ => ?_); (on_goal 2 => try clear_value x2); (on_goal 1 => unfold x2); (on_goal 1 => clear x2))
          · split
            · refine Rel.step (by decide) (State.countM_rel _ _ _) ?_
              assumption
            · assumption
          · extract_lets +onlyGivenNames x3; try clear_value x3
            extract_lets +onlyGivenNames x4; try clear_value x4
            extract_lets +onlyGivenNames x5; try clear_value x5
            refine Next.intro ?_
            refine Rel.step (by decide) (State.updCore_rel _ _ _) ?_
            assumption

theorem execLehrRampDownStart_next (core : Nat) (s : State) : Next [.cores, .ctxs, .counters] s (execLehrRampDownStart core s) := by
  unfold execLehrRampDownStart
  extract_lets +onlyGivenNames x1; try clear_value x1
  split
  · refine Next.intro ?_
    exact Rel.refl _ _
  · refine Next.intro ?_
    refine Rel.step (by decide) (State.setN_rel _ _ _ _) ?_
    exact Rel.refl _ _

theorem execLehrStep_next (core : Nat) (s : State) : Next [.clk, .cores, .ctxs, .counters] s (execLehrStep core s) := by
  unfold execLehrStep
  extract_lets +onlyGivenNames x1; try clear_value x1
  split
  · refine Next.intro ?_
    exact Rel.refl _ _
  · extract_lets +onlyGivenNames x2; (refine Next.via (t := x2) ?_ (fun _ => ?_); (on_goal 2 => try clear_value x2); (on_goal 1 => unfold x2); (on_goal 1 => clear x2))
    · refine Rel.step (by decide) (State.fillKeepers_rel _ _) ?_
      refine Rel.step (by decide) (State.toCycle_rel _ _) ?_
      exact Rel.refl _ _
    · refine Next.intro ?_
      refine Rel.step (by decide) (State.setN_rel _ _ _ _) ?_
      assumption

theorem execParisonLoadDone_next (core : Nat) (first : List (Nat × Nat)) (second : List (Nat × Nat)) (s : State) : Next [.out, .clk, .cores, .ctxs, .culls, .arrayErrs, .mailboxes, .log, .logNext, .logOverflow] s (execParisonLoadDone core first second s) := by
  unfold execParisonLoadDone
  extract_lets +onlyGivenNames x1; try clear_value x1
  split
  · refine Next.intro ?_
    exact Rel.refl _ _
  · split
    · refine Next.intro ?_
      refine Rel.step (by decide) (State.updCore_rel _ _ _) ?_
      exact Rel.refl _ _
    · extract_lets +onlyGivenNames x2; try clear_value x2
      extract_lets +onlyGivenNames x3; (refine Next.via (t := x3) ?_ (fun _ => ?_); (on_goal 2 => try clear_value x3); (on_goal 1 => unfold x3); (on_goal 1 => clear x3))
      · refine Rel.step (by decide) (State.toCycle_rel _ _) ?_
        exact Rel.refl _ _
      · extract_lets +onlyGivenNames x4; try clear_value x4
        split
        · extract_lets +onlyGivenNames x5; try clear_value x5
          extract_lets +onlyGivenNames x6; (refine Next.via (t := x6) ?_ (fun _ => ?_); (on_goal 2 => try clear_value x6); (on_goal 1 => unfold x6); (on_goal 1 => clear x6))
          · refine Rel.step (by decide) (State.outUpd_rel _ _ _ _ _) ?_
            assumption
          · refine Next.intro ?_
            refine Rel.step (by decide) (State.updCore_rel _ _ _) ?_
            assumption
        · extract_lets +onlyGivenNames x7; try clear_value x7
          extract_lets +onlyGivenNames x8; (refine Next.via (t := x8) ?_ (fun _ => ?_); (on_goal 2 => try clear_value x8); (on_goal 1 => unfold x8); (on_goal 1 => clear x8))
          · refine Rel.foldl (fun _ _ => ?_) ?_
            · extract_lets +onlyGivenNames x9; try clear_value x9
              extract_lets +onlyGivenNames x10; try clear_value x10
              refine Rel.step (by decide) (State.arrayFault_rel _ _ _) ?_
              refine Rel.step (by decide) (State.arrayError_rel _ _ _ _ _ _ _ _) ?_
              exact Rel.refl _ _
            · assumption
          · refine Next.intro ?_
            refine Rel.step (by decide) (State.failArr_rel _ _ _ _) ?_
            assumption

theorem execParisonLoadStart_next (core : Nat) (s : State) : Next [.clk, .cores, .ctxs, .counters] s (execParisonLoadStart core s) := by
  unfold execParisonLoadStart
  split
  · extract_lets +onlyGivenNames x1; (refine Next.via (t := x1) ?_ (fun _ => ?_); (on_goal 2 => try clear_value x1); (on_goal 1 => unfold x1); (on_goal 1 => clear x1))
    · refine Rel.step (by decide) (State.toCycle_rel _ _) ?_
      exact Rel.refl _ _
    · extract_lets +onlyGivenNames x2; try clear_value x2
      extract_lets +onlyGivenNames x3; (refine Next.via (t := x3) ?_ (fun _ => ?_); (on_goal 2 => try clear_value x3); (on_goal 1 => unfold x3); (on_goal 1 => clear x3))
      · refine Rel.step (by decide) (State.countCore_rel _ _ _ _ _) ?_
        assumption
      · refine Next.intro ?_
        refine Rel.step (by decide) (State.updCore_rel _ _ _) ?_
        assumption
  · refine Next.intro ?_
    exact Rel.refl _ _

theorem execParitySweep_next (core : Nat) (bad : List Nat) (s : State) : Next [.out, .clk, .cores, .ctxs, .culls, .arrayErrs, .mailboxes, .log, .logNext, .logOverflow] s (execParitySweep core bad s) := by
  unfold execParitySweep
  extract_lets +onlyGivenNames x1; try clear_value x1
  extract_lets +onlyGivenNames x2; (refine Next.via (t := x2) ?_ (fun _ => ?_); (on_goal 2 => try clear_value x2); (on_goal 1 => unfold x2); (on_goal 1 => clear x2))
  · refine Rel.step (by decide) (State.strike_rel _ _ _ _) ?_
    refine Rel.step (by decide) (State.toCycle_rel _ _) ?_
    exact Rel.refl _ _
  · extract_lets +onlyGivenNames x3; (refine Next.via (t := x3) ?_ (fun _ => ?_); (on_goal 2 => try clear_value x3); (on_goal 1 => unfold x3); (on_goal 1 => clear x3))
    · refine Rel.foldl (fun _ _ => ?_) ?_
      · refine Rel.step (by decide) (State.sweepArray_rel _ _ _ _) ?_
        exact Rel.refl _ _
      · assumption
    · extract_lets +onlyGivenNames x4; (refine Next.via (t := x4) ?_ (fun _ => ?_); (on_goal 2 => try clear_value x4); (on_goal 1 => unfold x4); (on_goal 1 => clear x4))
      · refine Rel.step (by decide) (State.sweepFails_rel _ _ _) ?_
        assumption
      · refine Next.intro ?_
        refine Rel.step (by decide) (State.updCore_rel _ _ _) ?_
        assumption

theorem execPreRampStart_next (core : Nat) (s : State) : Next [.clk, .cores, .ctxs, .counters] s (execPreRampStart core s) := by
  unfold execPreRampStart
  split
  · refine Next.intro ?_
    exact Rel.refl _ _
  · split
    · refine Next.intro ?_
      exact Rel.refl _ _
    · refine Next.intro ?_
      refine Rel.step (by decide) (State.updCore_rel _ _ _) ?_
      refine Rel.step (by decide) (State.startUp_rel _ _) ?_
      refine Rel.step (by decide) (State.toFabric_rel _ _ _) ?_
      exact Rel.refl _ _

theorem execRampUpStep_next (core : Nat) (s : State) : Next [.clk, .cores, .ctxs, .counters] s (execRampUpStep core s) := by
  unfold execRampUpStep
  extract_lets +onlyGivenNames x1; try clear_value x1
  split
  · refine Next.intro ?_
    exact Rel.refl _ _
  · split
    · refine Next.intro ?_
      refine Rel.step (by decide) (State.updCore_rel _ _ _) ?_
      exact Rel.refl _ _
    · extract_lets +onlyGivenNames x2; (refine Next.via (t := x2) ?_ (fun _ => ?_); (on_goal 2 => try clear_value x2); (on_goal 1 => unfold x2); (on_goal 1 => clear x2))
      · refine Rel.step (by decide) (State.toCycle_rel _ _) ?_
        exact Rel.refl _ _
      · extract_lets +onlyGivenNames x3; try clear_value x3
        refine Next.intro ?_
        refine Rel.step (by decide) (State.setN_rel _ _ _ _) ?_
        assumption

theorem execWeightSetSwitch_next (core : Nat) (s : State) : Next [.out, .clk, .cores, .ctxs, .mailboxes, .log, .logNext, .logOverflow, .counters] s (execWeightSetSwitch core s) := by
  unfold execWeightSetSwitch
  split
  · refine Next.intro ?_
    exact Rel.refl _ _
  · split
    · refine Next.intro ?_
      exact Rel.refl _ _
    · extract_lets +onlyGivenNames x1; (refine Next.via (t := x1) ?_ (fun _ => ?_); (on_goal 2 => try clear_value x1); (on_goal 1 => unfold x1); (on_goal 1 => clear x1))
      · refine Rel.step (by decide) (State.countCore_rel _ _ _ _ _) ?_
        exact Rel.refl _ _
      · extract_lets +onlyGivenNames x2; (refine Next.via (t := x2) ?_ (fun _ => ?_); (on_goal 2 => try clear_value x2); (on_goal 1 => unfold x2); (on_goal 1 => clear x2))
        · refine Rel.step (by decide) (State.startUp_rel _ _) ?_
          assumption
        · extract_lets +onlyGivenNames x3; try clear_value x3
          extract_lets +onlyGivenNames x4; (refine Next.via (t := x4) ?_ (fun _ => ?_); (on_goal 2 => try clear_value x4); (on_goal 1 => unfold x4); (on_goal 1 => clear x4))
          · refine Rel.step (by decide) (State.toCycle_rel _ _) ?_
            assumption
          · extract_lets +onlyGivenNames x5; (refine Next.via (t := x5) ?_ (fun _ => ?_); (on_goal 2 => try clear_value x5); (on_goal 1 => unfold x5); (on_goal 1 => clear x5))
            · refine Rel.step (by decide) (State.updCore_rel _ _ _) ?_
              assumption
            · extract_lets +onlyGivenNames x6; (refine Next.via (t := x6) ?_ (fun _ => ?_); (on_goal 2 => try clear_value x6); (on_goal 1 => unfold x6); (on_goal 1 => clear x6))
              · refine Rel.step (by decide) (State.countCore_rel _ _ _ _ _) ?_
                assumption
              · split
                · refine Next.intro ?_
                  refine Rel.step (by decide) (State.stream_rel _ _ _) ?_
                  assumption
                · refine Next.intro ?_
                  refine Rel.step (by decide) (State.ownerError_rel _ _ _) ?_
                  assumption

end Sys2Proof.Machine
end

