-- ==== Sys2Proof/Laws/Fabric.lean ====
section
/-! SUPPORT. What the operations and the meanings of Machine/Fabric.lean can change: for each operation the fields of the state it may change, and
for each meaning that it answers a next state and the fields that it may change; all of them keep the invariant. -/

namespace Sys2Proof.Machine

theorem State.remoteEvent_rel (s : State) (x : Nat) (ev : Nat) (eflags : Nat) : Rel [.cores, .ctxs] s (State.remoteEvent s x ev eflags) := by
  unfold State.remoteEvent
  split
  · refine Rel.step (by decide) (State.signal_rel _ _ _) ?_
    exact Rel.refl _ _
  · exact Rel.refl _ _

theorem State.atomApply_rel (s : State) (x : Nat) (op : Nat) (addr : Nat) (operand : Nat) (compare : Nat) (ev : Nat) (eflags : Nat) : Rel [.mem, .cores, .ctxs, .migs, .stalled, .rowCopies, .tcache] s (State.atomApply s x op addr operand compare ev eflags) := by
  unfold State.atomApply
  extract_lets +onlyGivenNames x1; try clear_value x1
  extract_lets +onlyGivenNames x2; (refine Rel.via (t := x2) ?_ (fun _ => ?_); (on_goal 2 => try clear_value x2); (on_goal 1 => unfold x2); (on_goal 1 => clear x2))
  · refine Rel.step (by decide) (State.fabUse_rel _ _ _ _) ?_
    exact Rel.refl _ _
  · refine Rel.step (by decide) (State.remoteEvent_rel _ _ _ _) ?_
    refine Rel.step (by decide) (State.localWrite_rel _ _ _ _) ?_
    assumption

theorem State.respond_rel (s : State) (f : Nat) (op : Nat) (psn : Nat) (status : Nat) (data : List Byte) : Rel [.flows, .macs, .ecnDraws, .counters] s (State.respond s f op psn status data) := by
  unfold State.respond
  refine Rel.step (by decide) (State.sendMsg_rel _ _ _ _) ?_
  exact Rel.refl _ _

theorem State.logRemote_rel (s : State) (x : Nat) (status : Nat) (flow : Nat) (psn : Nat) (peer : Nat) : Rel [.out, .ctxs, .mailboxes, .log, .logNext, .logOverflow] s (State.logRemote s x status flow psn peer) := by
  unfold State.logRemote
  refine Rel.step (by decide) (State.logRecord_rel _ _ _ _ _) ?_
  exact Rel.refl _ _

theorem State.endRemote_rel (s : State) (c : Nat) (r : Nat) (slot : Nat) (x : Nat) (status : Nat) (flow : Nat) (psn : Nat) (peer : Nat) : Rel [.out, .cores, .ctxs, .mailboxes, .log, .logNext, .logOverflow] s (State.endRemote s c r slot x status flow psn peer) := by
  unfold State.endRemote
  split
  · refine Rel.step (by decide) (State.complete_rel _ _ _ _ _ _) ?_
    exact Rel.refl _ _
  · refine Rel.step (by decide) (State.complete_rel _ _ _ _ _ _) ?_
    refine Rel.step (by decide) (State.logRemote_rel _ _ _ _ _ _) ?_
    exact Rel.refl _ _

theorem State.track_rel (s : State) (t : Trk) : Rel [.trk, .trkNext] s (State.track s t) := by
  unfold State.track
  refine Rel.step (by decide) Rel.set_trk_trkNext ?_
  exact Rel.refl _ _

theorem State.sendFabric_rel (s : State) (c : Nat) (r : Nat) (slot : Nat) (x : Nat) (d : Nat) : Rel [.ctxs, .flows, .trk, .trkNext, .fcache, .macs, .ecnDraws, .counters] s (State.sendFabric s c r slot x d) := by
  unfold State.sendFabric
  extract_lets +onlyGivenNames x1; try clear_value x1
  extract_lets +onlyGivenNames x2; try clear_value x2
  extract_lets +onlyGivenNames x3; try clear_value x3
  extract_lets +onlyGivenNames x4; try clear_value x4
  extract_lets +onlyGivenNames x5; try clear_value x5
  extract_lets +onlyGivenNames x6; (refine Rel.via (t := x6) ?_ (fun _ => ?_); (on_goal 2 => try clear_value x6); (on_goal 1 => unfold x6); (on_goal 1 => clear x6))
  · refine Rel.step (by decide) (State.flowUse_rel _ _) ?_
    exact Rel.refl _ _
  · extract_lets +onlyGivenNames x7; (refine Rel.via (t := x7) ?_ (fun _ => ?_); (on_goal 2 => try clear_value x7); (on_goal 1 => unfold x7); (on_goal 1 => clear x7))
    · refine Rel.step (by decide) (State.track_rel _ _) ?_
      assumption
    · refine Rel.step (by decide) (State.sendMsg_rel _ _ _ _) ?_
      assumption

theorem State.fabEffect_rel (s : State) (c : Nat) (x : Nat) (d : Nat) : Rel [.mem, .cores, .ctxs, .migs, .stalled, .rowCopies, .tcache] s (State.fabEffect s c x d) := by
  unfold State.fabEffect
  extract_lets +onlyGivenNames x1; try clear_value x1
  extract_lets +onlyGivenNames x2; try clear_value x2
  extract_lets +onlyGivenNames x3; try clear_value x3
  extract_lets +onlyGivenNames x4; try clear_value x4
  split
  · refine Rel.step (by decide) (State.remoteEvent_rel _ _ _ _) ?_
    refine Rel.step (by decide) (State.localWrite_rel _ _ _ _) ?_
    refine Rel.step (by decide) (State.fabUse_rel _ _ _ _) ?_
    exact Rel.refl _ _
  · split
    · refine Rel.step (by decide) (State.remoteEvent_rel _ _ _ _) ?_
      refine Rel.step (by decide) (State.tsWrite_rel _ _ _ _) ?_
      refine Rel.step (by decide) (State.fabUse_rel _ _ _ _) ?_
      exact Rel.refl _ _
    · extract_lets +onlyGivenNames x5; try clear_value x5
      extract_lets +onlyGivenNames x6; (refine Rel.via (t := x6) ?_ (fun _ => ?_); (on_goal 2 => try clear_value x6); (on_goal 1 => unfold x6); (on_goal 1 => clear x6))
      · refine Rel.step (by decide) (State.atomApply_rel _ _ _ _ _ _ _ _) ?_
        exact Rel.refl _ _
      · split
        · assumption
        · refine Rel.step (by decide) (State.tsWrite_rel _ _ _ _) ?_
          assumption

theorem State.serveLocal_rel (s : State) (c : Nat) (r : Nat) (slot : Nat) (x : Nat) (d : Nat) : Rel [.out, .mem, .cores, .ctxs, .migs, .stalled, .rowCopies, .tcache, .trk, .trkNext, .mailboxes, .log, .logNext, .logOverflow] s (State.serveLocal s c r slot x d) := by
  unfold State.serveLocal
  extract_lets +onlyGivenNames x1; try clear_value x1
  split
  · refine Rel.step (by decide) (State.endRemote_rel _ _ _ _ _ _ _ _ _) ?_
    exact Rel.refl _ _
  · split
    · extract_lets +onlyGivenNames x2; (refine Rel.via (t := x2) ?_ (fun _ => ?_); (on_goal 2 => try clear_value x2); (on_goal 1 => unfold x2); (on_goal 1 => clear x2))
      · refine Rel.step (by decide) (State.rush_rel _ _ _) ?_
        exact Rel.refl _ _
      · split
        · assumption
        · refine Rel.step (by decide) (State.track_rel _ _) ?_
          assumption
    · extract_lets +onlyGivenNames x3; (refine Rel.via (t := x3) ?_ (fun _ => ?_); (on_goal 2 => try clear_value x3); (on_goal 1 => unfold x3); (on_goal 1 => clear x3))
      · refine Rel.step (by decide) (State.complete_rel _ _ _ _ _ _) ?_
        refine Rel.step (by decide) (State.fabEffect_rel _ _ _ _) ?_
        exact Rel.refl _ _
      · refine Rel.step (by decide) Rel.set_trk ?_
        assumption

theorem State.execFabric_rel (s : State) (core : Nat) (ring : Nat) (sb : Nat) : Rel [.out, .mem, .cores, .ctxs, .migs, .stalled, .rowCopies, .tcache, .flows, .trk, .trkNext, .fcache, .macs, .ecnDraws, .mailboxes, .log, .logNext, .logOverflow, .counters] s (State.execFabric s core ring sb) := by
  unfold State.execFabric
  refine State.issue_rel (by decide) (fun _ _ _ => ?_) ?_
  · extract_lets +onlyGivenNames x1; (refine Rel.via (t := x1) ?_ (fun _ => ?_); (on_goal 2 => try clear_value x1); (on_goal 1 => unfold x1); (on_goal 1 => clear x1))
    · refine Rel.step (by decide) (State.endWait_rel _ _ _) ?_
      exact Rel.refl _ _
    · extract_lets +onlyGivenNames x2; try clear_value x2
      extract_lets +onlyGivenNames x3; try clear_value x3
      split
      · refine Rel.step (by decide) (State.complete_rel _ _ _ _ _ _) ?_
        assumption
      · split
        · refine Rel.step (by decide) (State.serveLocal_rel _ _ _ _ _ _) ?_
          assumption
        · extract_lets +onlyGivenNames x4; try clear_value x4
          split
          · refine Rel.step (by decide) (State.complete_rel _ _ _ _ _ _) ?_
            assumption
          · split
            · refine Rel.step (by decide) (State.complete_rel _ _ _ _ _ _) ?_
              assumption
            · split
              · refine Rel.step (by decide) (State.complete_rel _ _ _ _ _ _) ?_
                assumption
              · assumption
              · refine Rel.step (by decide) (State.sendFabric_rel _ _ _ _ _ _) ?_
                assumption
              · refine Rel.step (by decide) (State.complete_rel _ _ _ _ _ _) ?_
                assumption
              · refine Rel.step (by decide) (State.complete_rel _ _ _ _ _ _) ?_
                assumption
  · exact Rel.refl _ _

theorem State.retryLocal_rel (s : State) (x : Nat) : Rel [.out, .mem, .cores, .ctxs, .migs, .stalled, .rowCopies, .tcache, .trk, .trkNext, .mailboxes, .log, .logNext, .logOverflow] s (State.retryLocal s x) := by
  unfold State.retryLocal
  refine Rel.foldl (fun _ _ => ?_) ?_
  · split
    · refine Rel.step (by decide) (State.serveLocal_rel _ _ _ _ _ _) ?_
      exact Rel.refl _ _
    · refine Rel.step (by decide) Rel.set_trk ?_
      exact Rel.refl _ _
  · exact Rel.refl _ _

theorem execFabricA48Add_next (core : Nat) (ring : Nat) (s : State) : Next [.out, .mem, .cores, .ctxs, .migs, .stalled, .rowCopies, .tcache, .flows, .trk, .trkNext, .fcache, .macs, .ecnDraws, .mailboxes, .log, .logNext, .logOverflow, .counters] s (execFabricA48Add core ring s) := by
  unfold execFabricA48Add
  refine Next.intro ?_
  refine Rel.step (by decide) (State.execFabric_rel _ _ _ _) ?_
  exact Rel.refl _ _

theorem execFabricAtomicAdd_next (core : Nat) (ring : Nat) (s : State) : Next [.out, .mem, .cores, .ctxs, .migs, .stalled, .rowCopies, .tcache, .flows, .trk, .trkNext, .fcache, .macs, .ecnDraws, .mailboxes, .log, .logNext, .logOverflow, .counters] s (execFabricAtomicAdd core ring s) := by
  unfold execFabricAtomicAdd
  refine Next.intro ?_
  refine Rel.step (by decide) (State.execFabric_rel _ _ _ _) ?_
  exact Rel.refl _ _

theorem execFabricAtomicMax_next (core : Nat) (ring : Nat) (s : State) : Next [.out, .mem, .cores, .ctxs, .migs, .stalled, .rowCopies, .tcache, .flows, .trk, .trkNext, .fcache, .macs, .ecnDraws, .mailboxes, .log, .logNext, .logOverflow, .counters] s (execFabricAtomicMax core ring s) := by
  unfold execFabricAtomicMax
  refine Next.intro ?_
  refine Rel.step (by decide) (State.execFabric_rel _ _ _ _) ?_
  exact Rel.refl _ _

theorem execFabricAtomicMin_next (core : Nat) (ring : Nat) (s : State) : Next [.out, .mem, .cores, .ctxs, .migs, .stalled, .rowCopies, .tcache, .flows, .trk, .trkNext, .fcache, .macs, .ecnDraws, .mailboxes, .log, .logNext, .logOverflow, .counters] s (execFabricAtomicMin core ring s) := by
  unfold execFabricAtomicMin
  refine Next.intro ?_
  refine Rel.step (by decide) (State.execFabric_rel _ _ _ _) ?_
  exact Rel.refl _ _

theorem execFabricCompareSwap_next (core : Nat) (ring : Nat) (s : State) : Next [.out, .mem, .cores, .ctxs, .migs, .stalled, .rowCopies, .tcache, .flows, .trk, .trkNext, .fcache, .macs, .ecnDraws, .mailboxes, .log, .logNext, .logOverflow, .counters] s (execFabricCompareSwap core ring s) := by
  unfold execFabricCompareSwap
  refine Next.intro ?_
  refine Rel.step (by decide) (State.execFabric_rel _ _ _ _) ?_
  exact Rel.refl _ _

theorem execFabricGet_next (core : Nat) (ring : Nat) (s : State) : Next [.out, .mem, .cores, .ctxs, .migs, .stalled, .rowCopies, .tcache, .flows, .trk, .trkNext, .fcache, .macs, .ecnDraws, .mailboxes, .log, .logNext, .logOverflow, .counters] s (execFabricGet core ring s) := by
  unfold execFabricGet
  refine Next.intro ?_
  refine Rel.step (by decide) (State.execFabric_rel _ _ _ _) ?_
  exact Rel.refl _ _

theorem execFabricPut_next (core : Nat) (ring : Nat) (s : State) : Next [.out, .mem, .cores, .ctxs, .migs, .stalled, .rowCopies, .tcache, .flows, .trk, .trkNext, .fcache, .macs, .ecnDraws, .mailboxes, .log, .logNext, .logOverflow, .counters] s (execFabricPut core ring s) := by
  unfold execFabricPut
  refine Next.intro ?_
  refine Rel.step (by decide) (State.execFabric_rel _ _ _ _) ?_
  exact Rel.refl _ _

theorem execFabricTileGet_next (core : Nat) (ring : Nat) (s : State) : Next [.out, .mem, .cores, .ctxs, .migs, .stalled, .rowCopies, .tcache, .flows, .trk, .trkNext, .fcache, .macs, .ecnDraws, .mailboxes, .log, .logNext, .logOverflow, .counters] s (execFabricTileGet core ring s) := by
  unfold execFabricTileGet
  refine Next.intro ?_
  refine Rel.step (by decide) (State.execFabric_rel _ _ _ _) ?_
  exact Rel.refl _ _

theorem execFabricTilePut_next (core : Nat) (ring : Nat) (s : State) : Next [.out, .mem, .cores, .ctxs, .migs, .stalled, .rowCopies, .tcache, .flows, .trk, .trkNext, .fcache, .macs, .ecnDraws, .mailboxes, .log, .logNext, .logOverflow, .counters] s (execFabricTilePut core ring s) := by
  unfold execFabricTilePut
  refine Next.intro ?_
  refine Rel.step (by decide) (State.execFabric_rel _ _ _ _) ?_
  exact Rel.refl _ _

end Sys2Proof.Machine
end

