-- ==== Sys2Proof/Laws/Collect.lean ====
section
/-! SUPPORT. What the operations and the meanings of Machine/Collect.lean can change: for each operation the fields of the state it may change, and
for each meaning that it answers a next state and the fields that it may change; all of them keep the invariant. -/

namespace Sys2Proof.Machine

theorem State.closeInst_rel (s : State) (x : Nat) (coll : Nat) (inst : Nat) : Rel [.ctxs] s (State.closeInst s x coll inst) := by
  unfold State.closeInst
  refine Rel.step (by decide) (State.updCtx_rel _ _ _) ?_
  exact Rel.refl _ _

theorem State.checkInst_rel (s : State) (x : Nat) (coll : Nat) (inst : Nat) : Rel [.mem, .cores, .ctxs, .migs, .stalled, .rowCopies] s (State.checkInst s x coll inst) := by
  unfold State.checkInst
  split
  · split
    · exact Rel.refl _ _
    · extract_lets +onlyGivenNames x1; try clear_value x1
      extract_lets +onlyGivenNames x2; (refine Rel.via (t := x2) ?_ (fun _ => ?_); (on_goal 2 => try clear_value x2); (on_goal 1 => unfold x2); (on_goal 1 => clear x2))
      · split
        · exact Rel.refl _ _
        · refine Rel.step (by decide) (State.tsWrite_rel _ _ _ _) ?_
          exact Rel.refl _ _
      · extract_lets +onlyGivenNames x3; (refine Rel.via (t := x3) ?_ (fun _ => ?_); (on_goal 2 => try clear_value x3); (on_goal 1 => unfold x3); (on_goal 1 => clear x3))
        · refine Rel.step (by decide) (State.complete_rel _ _ _ _ _ _) ?_
          refine Rel.step (by decide) (State.closeInst_rel _ _ _ _) ?_
          assumption
        · refine Rel.step (by decide) (State.gradFinal_rel _ _ _ _) ?_
          refine Rel.step (by decide) (State.count_rel _ _ _ _) ?_
          refine Rel.step (by decide) (State.signal_rel _ _ _) ?_
          assumption
  · exact Rel.refl _ _

theorem State.putBlock_rel (s : State) (x : Nat) (coll : Nat) (inst : Nat) (r : CollRec) (i : CollInst) (dst : Nat) (kind : Nat) (data : List Byte) : Rel [.ctxs, .flows, .trk, .trkNext, .fcache, .macs, .ecnDraws, .counters] s (State.putBlock s x coll inst r i dst kind data) := by
  unfold State.putBlock
  split
  · exact Rel.refl _ _
  · extract_lets +onlyGivenNames x1; try clear_value x1
    extract_lets +onlyGivenNames x2; (refine Rel.via (t := x2) ?_ (fun _ => ?_); (on_goal 2 => try clear_value x2); (on_goal 1 => unfold x2); (on_goal 1 => clear x2))
    · refine Rel.step (by decide) (State.flowUse_rel _ _) ?_
      exact Rel.refl _ _
    · extract_lets +onlyGivenNames x3; (refine Rel.via (t := x3) ?_ (fun _ => ?_); (on_goal 2 => try clear_value x3); (on_goal 1 => unfold x3); (on_goal 1 => clear x3))
      · refine Rel.step (by decide) (State.track_rel _ _) ?_
        assumption
      · extract_lets +onlyGivenNames x4; try clear_value x4
        refine Rel.step (by decide) (State.sendMsg_rel _ _ _ _) ?_
        assumption

theorem State.sendStripe_rel (s : State) (x : Nat) (generation : Nat) (p : StripeSend) : Rel [.ctxs, .flows, .trk, .trkNext, .fcache, .macs, .ecnDraws, .counters] s (State.sendStripe s x generation p) := by
  unfold State.sendStripe
  extract_lets +onlyGivenNames x1; try clear_value x1
  split
  · exact Rel.refl _ _
  · split
    · refine Rel.step (by decide) (State.updSec_rel _ _ _) ?_
      exact Rel.refl _ _
    · extract_lets +onlyGivenNames x2; try clear_value x2
      extract_lets +onlyGivenNames x3; (refine Rel.via (t := x3) ?_ (fun _ => ?_); (on_goal 2 => try clear_value x3); (on_goal 1 => unfold x3); (on_goal 1 => clear x3))
      · refine Rel.step (by decide) (State.flowUse_rel _ _) ?_
        exact Rel.refl _ _
      · extract_lets +onlyGivenNames x4; (refine Rel.via (t := x4) ?_ (fun _ => ?_); (on_goal 2 => try clear_value x4); (on_goal 1 => unfold x4); (on_goal 1 => clear x4))
        · refine Rel.step (by decide) (State.track_rel _ _) ?_
          assumption
        · extract_lets +onlyGivenNames x5; (refine Rel.via (t := x5) ?_ (fun _ => ?_); (on_goal 2 => try clear_value x5); (on_goal 1 => unfold x5); (on_goal 1 => clear x5))
          · refine Rel.step (by decide) (State.sendMsg_rel _ _ _ _) ?_
            assumption
          · refine Rel.step (by decide) (State.updCtx_rel _ _ _) ?_
            assumption

theorem State.updInst_rel (s : State) (x : Nat) (coll : Nat) (inst : Nat) (f : CollInst → CollInst) : Rel [.ctxs] s (State.updInst s x coll inst f) := by
  unfold State.updInst
  refine Rel.step (by decide) (State.updCtx_rel _ _ _) ?_
  exact Rel.refl _ _

theorem State.sendDue_rel (s : State) (x : Nat) : Rel [.ctxs, .flows, .trk, .trkNext, .fcache, .macs, .ecnDraws, .counters] s (State.sendDue s x) := by
  unfold State.sendDue
  extract_lets +onlyGivenNames x1; (refine Rel.via (t := x1) ?_ (fun _ => ?_); (on_goal 2 => try clear_value x1); (on_goal 1 => unfold x1); (on_goal 1 => clear x1))
  · refine Rel.foldl (fun _ _ => ?_) ?_
    · extract_lets +onlyGivenNames x2; try clear_value x2
      extract_lets +onlyGivenNames x3; try clear_value x3
      split
      · split
        · refine Rel.step (by decide) (State.putBlock_rel _ _ _ _ _ _ _ _ _) ?_
          refine Rel.step (by decide) (State.updInst_rel _ _ _ _ _) ?_
          exact Rel.refl _ _
        · exact Rel.refl _ _
      · exact Rel.refl _ _
    · exact Rel.refl _ _
  · extract_lets +onlyGivenNames x4; try clear_value x4
    refine Rel.foldl (fun _ _ => ?_) ?_
    · refine Rel.step (by decide) (State.sendStripe_rel _ _ _ _) ?_
      exact Rel.refl _ _
    · refine Rel.step (by decide) (State.updSec_rel _ _ _) ?_
      assumption

theorem State.failInst_rel (s : State) (x : Nat) (coll : Nat) (inst : Nat) : Rel [.cores, .ctxs] s (State.failInst s x coll inst) := by
  unfold State.failInst
  split
  · exact Rel.refl _ _
  · split
    · refine Rel.step (by decide) (State.complete_rel _ _ _ _ _ _) ?_
      refine Rel.step (by decide) (State.closeInst_rel _ _ _ _) ?_
      exact Rel.refl _ _
    · exact Rel.refl _ _

theorem State.noteRefused_rel (s : State) (x : Nat) (f : Nat) (psn : Nat) (h : CollHdr) : Rel [.ctxs] s (State.noteRefused s x f psn h) := by
  unfold State.noteRefused
  split
  · exact Rel.refl _ _
  · split
    · refine Rel.step (by decide) (State.updInst_rel _ _ _ _ _) ?_
      exact Rel.refl _ _
    · exact Rel.refl _ _

theorem State.placeBlock_rel (s : State) (r : CollRec) (i : CollInst) (b : CollBlock) : Rel [.mem, .cores, .ctxs, .migs, .stalled, .rowCopies] s (State.placeBlock s r i b) := by
  unfold State.placeBlock
  split
  · exact Rel.refl _ _
  · refine Rel.step (by decide) (State.tsWrite_rel _ _ _ _) ?_
    exact Rel.refl _ _

theorem State.takeBlock_rel (s : State) (x : Nat) (f : Nat) (psn : Nat) (h : CollHdr) (data : List Byte) : Rel [.mem, .cores, .ctxs, .migs, .stalled, .rowCopies] s (State.takeBlock s x f psn h data) := by
  unfold State.takeBlock
  extract_lets +onlyGivenNames x1; (refine Rel.via (t := x1) ?_ (fun _ => ?_); (on_goal 2 => try clear_value x1); (on_goal 1 => unfold x1); (on_goal 1 => clear x1))
  · refine Rel.step (by decide) (State.updInst_rel _ _ _ _ _) ?_
    exact Rel.refl _ _
  · split
    · split
      · assumption
      · extract_lets +onlyGivenNames x2; (refine Rel.via (t := x2) ?_ (fun _ => ?_); (on_goal 2 => try clear_value x2); (on_goal 1 => unfold x2); (on_goal 1 => clear x2))
        · split
          · assumption
          · refine Rel.step (by decide) (State.tsWrite_rel _ _ _ _) ?_
            assumption
        · split
          · extract_lets +onlyGivenNames x3; try clear_value x3
            extract_lets +onlyGivenNames x4; try clear_value x4
            extract_lets +onlyGivenNames x5; try clear_value x5
            extract_lets +onlyGivenNames x6; try clear_value x6
            refine Rel.step (by decide) (State.updInst_rel _ _ _ _ _) ?_
            assumption
          · assumption
    · assumption

theorem State.takePermute_rel (s : State) (x : Nat) (h : CollHdr) (data : List Byte) : Rel [.mem, .ctxs, .rowCopies] s (State.takePermute s x h data).1 := by
  unfold State.takePermute
  extract_lets +onlyGivenNames x1; try clear_value x1
  extract_lets +onlyGivenNames x2; try clear_value x2
  split
  · extract_lets +onlyGivenNames x3; try clear_value x3
    refine Rel.pair ?_
    refine Rel.step (by decide) (State.updCtx_rel _ _ _) ?_
    exact Rel.refl _ _
  · extract_lets +onlyGivenNames x4; (refine Rel.via (t := x4) ?_ (fun _ => ?_); (on_goal 2 => try clear_value x4); (on_goal 1 => unfold x4); (on_goal 1 => clear x4))
    · refine Rel.step (by decide) (State.updCtx_rel _ _ _) ?_
      exact Rel.refl _ _
    · split
      · refine Rel.pair ?_
        assumption
      · extract_lets +onlyGivenNames x5; try clear_value x5
        extract_lets +onlyGivenNames x6; (refine Rel.via (t := x6) ?_ (fun _ => ?_); (on_goal 2 => try clear_value x6); (on_goal 1 => unfold x6); (on_goal 1 => clear x6))
        · refine Rel.step (by decide) (State.memWrite_rel _ _ _) ?_
          assumption
        · refine Rel.pair ?_
          refine Rel.step (by decide) (State.updJob_rel _ _ _) ?_
          assumption

theorem State.takeStripe_rel (s : State) (x : Nat) (h : CollHdr) (data : List Byte) : Rel [.ctxs] s (State.takeStripe s x h data) := by
  unfold State.takeStripe
  extract_lets +onlyGivenNames x1; try clear_value x1
  refine Rel.step (by decide) (State.updSec_rel _ _ _) ?_
  exact Rel.refl _ _

theorem State.sendBlock_rel (s : State) (x : Nat) (coll : Nat) (inst : Nat) (r : CollRec) (i : CollInst) (dst : Nat) (kind : Nat) (data : List Byte) : Rel [.ctxs, .flows, .trk, .trkNext, .fcache, .macs, .ecnDraws, .counters] s (State.sendBlock s x coll inst r i dst kind data) := by
  unfold State.sendBlock
  split
  · exact Rel.refl _ _
  · extract_lets +onlyGivenNames x1; (refine Rel.via (t := x1) ?_ (fun _ => ?_); (on_goal 2 => try clear_value x1); (on_goal 1 => unfold x1); (on_goal 1 => clear x1))
    · refine Rel.step (by decide) (State.updInst_rel _ _ _ _ _) ?_
      exact Rel.refl _ _
    · split
      · refine Rel.step (by decide) (State.putBlock_rel _ _ _ _ _ _ _ _ _) ?_
        assumption
      · refine Rel.step (by decide) (State.updInst_rel _ _ _ _ _) ?_
        assumption

theorem State.sendAll_rel (s : State) (x : Nat) (coll : Nat) (inst : Nat) (r : CollRec) (i : CollInst) (input : List Byte) : Rel [.ctxs, .flows, .trk, .trkNext, .fcache, .macs, .ecnDraws, .counters] s (State.sendAll s x coll inst r i input) := by
  unfold State.sendAll
  extract_lets +onlyGivenNames x1; try clear_value x1
  split
  · refine Rel.foldl (fun _ _ => ?_) ?_
    · refine Rel.step (by decide) (State.sendBlock_rel _ _ _ _ _ _ _ _ _) ?_
      exact Rel.refl _ _
    · exact Rel.refl _ _
  · split
    · refine Rel.foldl (fun _ _ => ?_) ?_
      · refine Rel.step (by decide) (State.sendBlock_rel _ _ _ _ _ _ _ _ _) ?_
        exact Rel.refl _ _
      · exact Rel.refl _ _
    · split
      · refine Rel.foldl (fun _ _ => ?_) ?_
        · refine Rel.step (by decide) (State.sendBlock_rel _ _ _ _ _ _ _ _ _) ?_
          exact Rel.refl _ _
        · exact Rel.refl _ _
      · split
        · refine Rel.foldl (fun _ _ => ?_) ?_
          · refine Rel.step (by decide) (State.sendBlock_rel _ _ _ _ _ _ _ _ _) ?_
            exact Rel.refl _ _
          · exact Rel.refl _ _
        · exact Rel.refl _ _

theorem State.sendPermute_rel (s : State) (x : Nat) (moves : List PermuteMove) : Rel [.mem, .ctxs, .rowCopies, .flows, .trk, .trkNext, .fcache, .macs, .ecnDraws, .counters] s (State.sendPermute s x moves) := by
  unfold State.sendPermute
  refine Rel.foldl (fun _ _ => ?_) ?_
  · refine Rel.foldl (fun _ _ => ?_) ?_
    · extract_lets +onlyGivenNames x1; try clear_value x1
      extract_lets +onlyGivenNames x2; try clear_value x2
      extract_lets +onlyGivenNames x3; try clear_value x3
      extract_lets +onlyGivenNames x4; try clear_value x4
      extract_lets +onlyGivenNames x5; try clear_value x5
      split
      · refine Rel.step (by decide) (State.updJob_rel _ _ _) ?_
        refine Rel.step (by decide) (State.takePermute_rel _ _ _ _) ?_
        exact Rel.refl _ _
      · extract_lets +onlyGivenNames x6; (refine Rel.via (t := x6) ?_ (fun _ => ?_); (on_goal 2 => try clear_value x6); (on_goal 1 => unfold x6); (on_goal 1 => clear x6))
        · refine Rel.step (by decide) (State.flowUse_rel _ _) ?_
          exact Rel.refl _ _
        · extract_lets +onlyGivenNames x7; (refine Rel.via (t := x7) ?_ (fun _ => ?_); (on_goal 2 => try clear_value x7); (on_goal 1 => unfold x7); (on_goal 1 => clear x7))
          · refine Rel.step (by decide) (State.track_rel _ _) ?_
            assumption
          · extract_lets +onlyGivenNames x8; (refine Rel.via (t := x8) ?_ (fun _ => ?_); (on_goal 2 => try clear_value x8); (on_goal 1 => unfold x8); (on_goal 1 => clear x8))
            · refine Rel.step (by decide) (State.sendMsg_rel _ _ _ _) ?_
              assumption
            · refine Rel.step (by decide) (State.updJob_rel _ _ _) ?_
              assumption
    · exact Rel.refl _ _
  · exact Rel.refl _ _

theorem State.startInst_rel (s : State) (core : Nat) (ring : Nat) (slot : Nat) (x : Nat) (d : Nat) (r : CollRec) : Rel [.out, .mem, .cores, .ctxs, .migs, .stalled, .rowCopies, .flows, .trk, .trkNext, .fcache, .macs, .ecnDraws, .mailboxes, .log, .logNext, .logOverflow, .counters] s (State.startInst s core ring slot x d r) := by
  unfold State.startInst
  extract_lets +onlyGivenNames x1; try clear_value x1
  extract_lets +onlyGivenNames x2; try clear_value x2
  extract_lets +onlyGivenNames x3; try clear_value x3
  extract_lets +onlyGivenNames x4; try clear_value x4
  extract_lets +onlyGivenNames x5; try clear_value x5
  extract_lets +onlyGivenNames x6; try clear_value x6
  extract_lets +onlyGivenNames x7; try clear_value x7
  split
  · refine Rel.step (by decide) (State.complete_rel _ _ _ _ _ _) ?_
    refine Rel.step (by decide) (State.logRemote_rel _ _ _ _ _ _) ?_
    refine Rel.step (by decide) (State.closeInst_rel _ _ _ _) ?_
    exact Rel.refl _ _
  · split
    · refine Rel.step (by decide) (State.complete_rel _ _ _ _ _ _) ?_
      refine Rel.step (by decide) (State.closeInst_rel _ _ _ _) ?_
      exact Rel.refl _ _
    · extract_lets +onlyGivenNames x8; try clear_value x8
      extract_lets +onlyGivenNames x9; try clear_value x9
      extract_lets +onlyGivenNames x10; (refine Rel.via (t := x10) ?_ (fun _ => ?_); (on_goal 2 => try clear_value x10); (on_goal 1 => unfold x10); (on_goal 1 => clear x10))
      · refine Rel.step (by decide) (State.updInst_rel _ _ _ _ _) ?_
        exact Rel.refl _ _
      · extract_lets +onlyGivenNames x11; (refine Rel.via (t := x11) ?_ (fun _ => ?_); (on_goal 2 => try clear_value x11); (on_goal 1 => unfold x11); (on_goal 1 => clear x11))
        · refine Rel.foldl (fun _ _ => ?_) ?_
          · refine Rel.step (by decide) (State.placeBlock_rel _ _ _ _) ?_
            exact Rel.refl _ _
          · assumption
        · refine Rel.step (by decide) (State.checkInst_rel _ _ _ _) ?_
          refine Rel.step (by decide) (State.sendAll_rel _ _ _ _ _ _ _) ?_
          assumption

theorem execCollShardReady_next (ctx : Nat) (coll : Nat) (inst : Nat) (s : State) : Next [.mem, .cores, .ctxs, .migs, .stalled, .rowCopies, .flows, .trk, .trkNext, .fcache, .macs, .ecnDraws, .counters] s (execCollShardReady ctx coll inst s) := by
  unfold execCollShardReady
  split
  · split
    · refine Next.intro ?_
      exact Rel.refl _ _
    · extract_lets +onlyGivenNames x1; try clear_value x1
      extract_lets +onlyGivenNames x2; (refine Next.via (t := x2) ?_ (fun _ => ?_); (on_goal 2 => try clear_value x2); (on_goal 1 => unfold x2); (on_goal 1 => clear x2))
      · refine Rel.step (by decide) (State.tsWrite_rel _ _ _ _) ?_
        exact Rel.refl _ _
      · extract_lets +onlyGivenNames x3; (refine Next.via (t := x3) ?_ (fun _ => ?_); (on_goal 2 => try clear_value x3); (on_goal 1 => unfold x3); (on_goal 1 => clear x3))
        · refine Rel.step (by decide) (State.updInst_rel _ _ _ _ _) ?_
          assumption
        · extract_lets +onlyGivenNames x4; (refine Next.via (t := x4) ?_ (fun _ => ?_); (on_goal 2 => try clear_value x4); (on_goal 1 => unfold x4); (on_goal 1 => clear x4))
          · split
            · refine Rel.foldl (fun _ _ => ?_) ?_
              · refine Rel.step (by decide) (State.sendBlock_rel _ _ _ _ _ _ _ _ _) ?_
                exact Rel.refl _ _
              · assumption
            · assumption
          · refine Next.intro ?_
            refine Rel.step (by decide) (State.checkInst_rel _ _ _ _) ?_
            assumption
  · refine Next.intro ?_
    exact Rel.refl _ _

theorem execCollStep_next (core : Nat) (ring : Nat) (s : State) : Next [.out, .mem, .cores, .ctxs, .migs, .stalled, .rowCopies, .flows, .trk, .trkNext, .fcache, .macs, .ecnDraws, .mailboxes, .log, .logNext, .logOverflow, .counters] s (execCollStep core ring s) := by
  unfold execCollStep
  refine Next.intro ?_
  refine State.issue_rel (by decide) (fun _ _ _ => ?_) ?_
  · extract_lets +onlyGivenNames x1; (refine Rel.via (t := x1) ?_ (fun _ => ?_); (on_goal 2 => try clear_value x1); (on_goal 1 => unfold x1); (on_goal 1 => clear x1))
    · refine Rel.step (by decide) (State.endWait_rel _ _ _) ?_
      exact Rel.refl _ _
    · extract_lets +onlyGivenNames x2; try clear_value x2
      extract_lets +onlyGivenNames x3; try clear_value x3
      split
      · refine Rel.step (by decide) (State.complete_rel _ _ _ _ _ _) ?_
        assumption
      · split
        · refine Rel.step (by decide) (State.complete_rel _ _ _ _ _ _) ?_
          assumption
        · split
          · refine Rel.step (by decide) (State.complete_rel _ _ _ _ _ _) ?_
            assumption
          · extract_lets +onlyGivenNames x4; (refine Rel.via (t := x4) ?_ (fun _ => ?_); (on_goal 2 => try clear_value x4); (on_goal 1 => unfold x4); (on_goal 1 => clear x4))
            · refine Rel.step (by decide) (State.updCtx_rel _ _ _) ?_
              assumption
            · split
              · refine Rel.step (by decide) (State.count_rel _ _ _ _) ?_
                refine Rel.step (by decide) (State.signal_rel _ _ _) ?_
                refine Rel.step (by decide) (State.complete_rel _ _ _ _ _ _) ?_
                refine Rel.step (by decide) (State.closeInst_rel _ _ _ _) ?_
                assumption
              · refine Rel.step (by decide) (State.startInst_rel _ _ _ _ _ _ _) ?_
                assumption
  · exact Rel.refl _ _

theorem execParityInstance_next (ctx : Nat) (plan : List StripeSend) (s : State) : Next [.ctxs, .flows, .trk, .trkNext, .fcache, .macs, .ecnDraws, .counters] s (execParityInstance ctx plan s) := by
  unfold execParityInstance
  extract_lets +onlyGivenNames x1; try clear_value x1
  split
  · refine Next.intro ?_
    exact Rel.refl _ _
  · extract_lets +onlyGivenNames x2; try clear_value x2
    extract_lets +onlyGivenNames x3; try clear_value x3
    split
    · refine Next.intro ?_
      exact Rel.refl _ _
    · refine Next.intro ?_
      refine Rel.foldl (fun _ _ => ?_) ?_
      · refine Rel.step (by decide) (State.sendStripe_rel _ _ _ _) ?_
        exact Rel.refl _ _
      · exact Rel.refl _ _

end Sys2Proof.Machine
end

