-- ==== Sys2Proof/Laws/Receive.lean ====
section
/-! SUPPORT. What the operations and the meanings of Machine/Receive.lean can change: for each operation the fields of the state it may change, and
for each meaning that it answers a next state and the fields that it may change; all of them keep the invariant. -/

namespace Sys2Proof.Machine

theorem State.closeIfDone_rel (s : State) (f : Nat) : Rel [.fresh, .ctxs, .flows, .ctrl, .ctrlNext, .fcache, .macs, .ecnDraws, .counters] s (State.closeIfDone s f) := by
  unfold State.closeIfDone
  extract_lets +onlyGivenNames x1; try clear_value x1
  split
  · exact Rel.refl _ _
  · extract_lets +onlyGivenNames x2; (refine Rel.via (t := x2) ?_ (fun _ => ?_); (on_goal 2 => try clear_value x2); (on_goal 1 => unfold x2); (on_goal 1 => clear x2))
    · split
      · exact Rel.refl _ _
      · refine Rel.step (by decide) (State.sendCtrl_rel _ _ _ _) ?_
        refine Rel.step (by decide) (State.setFlow_rel _ _ _) ?_
        exact Rel.refl _ _
    · split
      · refine Rel.step (by decide) (State.dropFlow_rel _ _) ?_
        assumption
      · assumption

theorem State.closeFlow_rel (s : State) (f : Nat) : Rel [.fresh, .ctxs, .flows, .ctrl, .ctrlNext, .fcache, .macs, .ecnDraws, .counters] s (State.closeFlow s f) := by
  unfold State.closeFlow
  extract_lets +onlyGivenNames x1; try clear_value x1
  split
  · extract_lets +onlyGivenNames x2; (refine Rel.via (t := x2) ?_ (fun _ => ?_); (on_goal 2 => try clear_value x2); (on_goal 1 => unfold x2); (on_goal 1 => clear x2))
    · refine Rel.step (by decide) (State.setFlow_rel _ _ _) ?_
      exact Rel.refl _ _
    · refine Rel.step (by decide) (State.closeIfDone_rel _ _) ?_
      refine Rel.step (by decide) (State.sendCtrl_rel _ _ _ _) ?_
      assumption
  · refine Rel.step (by decide) (State.dropFlow_rel _ _) ?_
    exact Rel.refl _ _

theorem State.atomTurn_rel (s : State) (x : Nat) (addr : Nat) (f : Nat) : Rel [.clk, .atoms] s (State.atomTurn s x addr f) := by
  unfold State.atomTurn
  extract_lets +onlyGivenNames x1; try clear_value x1
  split
  · extract_lets +onlyGivenNames x2; (refine Rel.via (t := x2) ?_ (fun _ => ?_); (on_goal 2 => try clear_value x2); (on_goal 1 => unfold x2); (on_goal 1 => clear x2))
    · refine Rel.step (by decide) (State.toCycle_rel _ _) ?_
      exact Rel.refl _ _
    · refine Rel.step (by decide) Rel.set_atoms ?_
      assumption
  · refine Rel.step (by decide) Rel.set_atoms ?_
    exact Rel.refl _ _

theorem State.countRx_rel (s : State) (m : Nat) (q : Nat) (len : Nat) : Rel [.counters] s (State.countRx s m q len) := by
  unfold State.countRx
  refine Rel.step (by decide) (State.countMac_rel _ _ _ _) ?_
  refine Rel.step (by decide) (State.countMac_rel _ _ _ _) ?_
  exact Rel.refl _ _

theorem State.endMsg_rel (s : State) (f : Nat) (m : RxMsg) : Rel [.cores, .ctxs, .flows, .macs, .ecnDraws, .counters] s (State.endMsg s f m) := by
  unfold State.endMsg
  extract_lets +onlyGivenNames x1; try clear_value x1
  extract_lets +onlyGivenNames x2; (refine Rel.via (t := x2) ?_ (fun _ => ?_); (on_goal 2 => try clear_value x2); (on_goal 1 => unfold x2); (on_goal 1 => clear x2))
  · refine Rel.step (by decide) (State.updFlow_rel _ _ _) ?_
    exact Rel.refl _ _
  · split
    · assumption
    · split
      · refine Rel.step (by decide) (State.respond_rel _ _ _ _ _ _) ?_
        assumption
      · refine Rel.step (by decide) (State.respond_rel _ _ _ _ _ _) ?_
        split
        · refine Rel.step (by decide) (State.remoteEvent_rel _ _ _ _) ?_
          assumption
        · assumption

theorem State.noteDone_rel (s : State) (f : Nat) (psn : Nat) : Rel [.flows] s (State.noteDone s f psn) := by
  unfold State.noteDone
  refine Rel.step (by decide) (State.updFlow_rel _ _ _) ?_
  exact Rel.refl _ _

theorem State.takeResponse_rel (s : State) (f : Nat) (op : Nat) (p : Pkt) : Rel [.out, .mem, .cores, .ctxs, .migs, .stalled, .rowCopies, .trk, .mailboxes, .log, .logNext, .logOverflow] s (State.takeResponse s f op p) := by
  unfold State.takeResponse
  split
  · exact Rel.refl _ _
  · extract_lets +onlyGivenNames x1; try clear_value x1
    extract_lets +onlyGivenNames x2; try clear_value x2
    split
    · split
      · exact Rel.refl _ _
      · refine Rel.step (by decide) (State.endRemote_rel _ _ _ _ _ _ _ _ _) ?_
        refine Rel.step (by decide) Rel.set_trk ?_
        exact Rel.refl _ _
    · split
      · exact Rel.refl _ _
      · extract_lets +onlyGivenNames x3; (refine Rel.via (t := x3) ?_ (fun _ => ?_); (on_goal 2 => try clear_value x3); (on_goal 1 => unfold x3); (on_goal 1 => clear x3))
        · refine Rel.step (by decide) Rel.set_trk ?_
          exact Rel.refl _ _
        · extract_lets +onlyGivenNames x4; (refine Rel.via (t := x4) ?_ (fun _ => ?_); (on_goal 2 => try clear_value x4); (on_goal 1 => unfold x4); (on_goal 1 => clear x4))
          · split
            · refine Rel.step (by decide) (State.tsWrite_rel _ _ _ _) ?_
              assumption
            · assumption
          · refine Rel.step (by decide) (State.endRemote_rel _ _ _ _ _ _ _ _ _) ?_
            assumption
    · split
      · exact Rel.refl _ _
      · extract_lets +onlyGivenNames x5; (refine Rel.via (t := x5) ?_ (fun _ => ?_); (on_goal 2 => try clear_value x5); (on_goal 1 => unfold x5); (on_goal 1 => clear x5))
        · refine Rel.step (by decide) Rel.set_trk ?_
          exact Rel.refl _ _
        · split
          · refine Rel.step (by decide) (State.failInst_rel _ _ _ _) ?_
            refine Rel.step (by decide) (State.logRemote_rel _ _ _ _ _ _) ?_
            assumption
          · split
            · assumption
            · refine Rel.step (by decide) (State.checkInst_rel _ _ _ _) ?_
              refine Rel.step (by decide) (State.updInst_rel _ _ _ _ _) ?_
              assumption
    · split
      · exact Rel.refl _ _
      · extract_lets +onlyGivenNames x6; (refine Rel.via (t := x6) ?_ (fun _ => ?_); (on_goal 2 => try clear_value x6); (on_goal 1 => unfold x6); (on_goal 1 => clear x6))
        · refine Rel.step (by decide) Rel.set_trk ?_
          exact Rel.refl _ _
        · split
          · assumption
          · refine Rel.step (by decide) (State.logRemote_rel _ _ _ _ _ _) ?_
            assumption
    · split
      · exact Rel.refl _ _
      · extract_lets +onlyGivenNames x7; (refine Rel.via (t := x7) ?_ (fun _ => ?_); (on_goal 2 => try clear_value x7); (on_goal 1 => unfold x7); (on_goal 1 => clear x7))
        · refine Rel.step (by decide) Rel.set_trk ?_
          exact Rel.refl _ _
        · split
          · refine Rel.step (by decide) (State.logRemote_rel _ _ _ _ _ _) ?_
            assumption
          · refine Rel.step (by decide) (State.updJob_rel _ _ _) ?_
            assumption
    · exact Rel.refl _ _
    · exact Rel.refl _ _

theorem State.endRequest_rel (s : State) (f : Nat) (op : Nat) (p : Pkt) : Rel [.out, .mem, .cores, .ctxs, .migs, .stalled, .rowCopies, .flows, .trk, .trkNext, .fcache, .macs, .ecnDraws, .mailboxes, .log, .logNext, .logOverflow, .counters] s (State.endRequest s f op p) := by
  unfold State.endRequest
  refine Rel.step (by decide) (State.sendDue_rel _ _) ?_
  refine Rel.step (by decide) (State.noteDone_rel _ _ _) ?_
  refine Rel.step (by decide) (State.takeResponse_rel _ _ _ _) ?_
  exact Rel.refl _ _

theorem State.failFlow_rel (s : State) (f : Nat) : Rel [.out, .cores, .ctxs, .flows, .trk, .trkNext, .fcache, .macs, .ecnDraws, .mailboxes, .log, .logNext, .logOverflow, .counters] s (State.failFlow s f) := by
  unfold State.failFlow
  extract_lets +onlyGivenNames x1; try clear_value x1
  split
  · exact Rel.refl _ _
  · extract_lets +onlyGivenNames x2; (refine Rel.via (t := x2) ?_ (fun _ => ?_); (on_goal 2 => try clear_value x2); (on_goal 1 => unfold x2); (on_goal 1 => clear x2))
    · refine Rel.step (by decide) (State.setFlow_rel _ _ _) ?_
      exact Rel.refl _ _
    · extract_lets +onlyGivenNames x3; (refine Rel.via (t := x3) ?_ (fun _ => ?_); (on_goal 2 => try clear_value x3); (on_goal 1 => unfold x3); (on_goal 1 => clear x3))
      · refine Rel.step (by decide) (State.event_rel _ _ _ _ _) ?_
        assumption
      · extract_lets +onlyGivenNames x4; try clear_value x4
        extract_lets +onlyGivenNames x5; (refine Rel.via (t := x5) ?_ (fun _ => ?_); (on_goal 2 => try clear_value x5); (on_goal 1 => unfold x5); (on_goal 1 => clear x5))
        · refine Rel.step (by decide) Rel.set_trk ?_
          assumption
        · extract_lets +onlyGivenNames x6; (refine Rel.via (t := x6) ?_ (fun _ => ?_); (on_goal 2 => try clear_value x6); (on_goal 1 => unfold x6); (on_goal 1 => clear x6))
          · refine Rel.foldl (fun _ _ => ?_) ?_
            · split
              · refine Rel.step (by decide) (State.complete_rel _ _ _ _ _ _) ?_
                exact Rel.refl _ _
              · refine Rel.step (by decide) (State.complete_rel _ _ _ _ _ _) ?_
                exact Rel.refl _ _
              · refine Rel.step (by decide) (State.complete_rel _ _ _ _ _ _) ?_
                exact Rel.refl _ _
              · refine Rel.step (by decide) (State.failInst_rel _ _ _ _) ?_
                exact Rel.refl _ _
              · exact Rel.refl _ _
            · assumption
          · extract_lets +onlyGivenNames x7; try clear_value x7
            extract_lets +onlyGivenNames x8; (refine Rel.via (t := x8) ?_ (fun _ => ?_); (on_goal 2 => try clear_value x8); (on_goal 1 => unfold x8); (on_goal 1 => clear x8))
            · refine Rel.foldl (fun _ _ => ?_) ?_
              · refine Rel.step (by decide) (State.failInst_rel _ _ _ _) ?_
                exact Rel.refl _ _
              · assumption
            · refine Rel.step (by decide) (State.loseT3_rel _ _ _) ?_
              refine Rel.step (by decide) (State.sendDue_rel _ _) ?_
              assumption

theorem State.occupy_rel (s : State) (m : Nat) (q : Nat) (len : Nat) : Rel [.out, .fresh, .macs, .counters] s (State.occupy s m q len) := by
  unfold State.occupy
  extract_lets +onlyGivenNames x1; try clear_value x1
  split
  · exact Rel.refl _ _
  · extract_lets +onlyGivenNames x2; try clear_value x2
    extract_lets +onlyGivenNames x3; try clear_value x3
    extract_lets +onlyGivenNames x4; try clear_value x4
    extract_lets +onlyGivenNames x5; (refine Rel.via (t := x5) ?_ (fun _ => ?_); (on_goal 2 => try clear_value x5); (on_goal 1 => unfold x5); (on_goal 1 => clear x5))
    · refine Rel.step (by decide) (State.draw_rel _) ?_
      exact Rel.refl _ _
    · extract_lets +onlyGivenNames x6; (refine Rel.via (t := x6) ?_ (fun _ => ?_); (on_goal 2 => try clear_value x6); (on_goal 1 => unfold x6); (on_goal 1 => clear x6))
      · refine Rel.step (by decide) (State.updMac_rel _ _ _) ?_
        assumption
      · split
        · extract_lets +onlyGivenNames x7; (refine Rel.via (t := x7) ?_ (fun _ => ?_); (on_goal 2 => try clear_value x7); (on_goal 1 => unfold x7); (on_goal 1 => clear x7))
          · refine Rel.step (by decide) (State.emit_rel _ _) ?_
            assumption
          · refine Rel.step (by decide) (State.countMac_rel _ _ _ _) ?_
            refine Rel.step (by decide) (State.updMac_rel _ _ _) ?_
            assumption
        · assumption

theorem State.resend_rel (s : State) (f : Nat) (psn : Nat) : Rel [.ctxs, .flows, .macs, .ecnDraws, .counters] s (State.resend s f psn) := by
  unfold State.resend
  extract_lets +onlyGivenNames x1; try clear_value x1
  split
  · exact Rel.refl _ _
  · extract_lets +onlyGivenNames x2; try clear_value x2
    extract_lets +onlyGivenNames x3; try clear_value x3
    split
    · exact Rel.refl _ _
    · split
      · exact Rel.refl _ _
      · extract_lets +onlyGivenNames x4; try clear_value x4
        extract_lets +onlyGivenNames x5; try clear_value x5
        extract_lets +onlyGivenNames x6; try clear_value x6
        extract_lets +onlyGivenNames x7; try clear_value x7
        extract_lets +onlyGivenNames x8; try clear_value x8
        extract_lets +onlyGivenNames x9; (refine Rel.via (t := x9) ?_ (fun _ => ?_); (on_goal 2 => try clear_value x9); (on_goal 1 => unfold x9); (on_goal 1 => clear x9))
        · refine Rel.step (by decide) (State.setFlow_rel _ _ _) ?_
          exact Rel.refl _ _
        · refine Rel.step (by decide) (State.count_rel _ _ _ _) ?_
          refine Rel.step (by decide) (State.enqueue_rel _ _ _ _) ?_
          assumption

theorem State.rxDone_rel (s : State) (f : Nat) (x : Nat) (p : Pkt) (ack : Bool) : Rel [.ctxs, .flows, .macs, .ecnDraws, .counters] s (State.rxDone s f x p ack) := by
  unfold State.rxDone
  extract_lets +onlyGivenNames x1; (refine Rel.via (t := x1) ?_ (fun _ => ?_); (on_goal 2 => try clear_value x1); (on_goal 1 => unfold x1); (on_goal 1 => clear x1))
  · refine Rel.step (by decide) (State.count_rel _ _ _ _) ?_
    refine Rel.step (by decide) (State.count_rel _ _ _ _) ?_
    exact Rel.refl _ _
  · extract_lets +onlyGivenNames x2; (refine Rel.via (t := x2) ?_ (fun _ => ?_); (on_goal 2 => try clear_value x2); (on_goal 1 => unfold x2); (on_goal 1 => clear x2))
    · split
      · refine Rel.step (by decide) (State.count_rel _ _ _ _) ?_
        assumption
      · assumption
    · split
      · refine Rel.step (by decide) (State.sendAck_rel _ _) ?_
        assumption
      · assumption

theorem State.stepMsg_rel (s : State) (f : Nat) (psn : Nat) (m : RxMsg) : Rel [.flows] s (State.stepMsg s f psn m) := by
  unfold State.stepMsg
  refine Rel.step (by decide) (State.updFlow_rel _ _ _) ?_
  exact Rel.refl _ _

theorem State.takeData_rel (s : State) (f : Nat) (p : Pkt) : Rel [.out, .mem, .cores, .ctxs, .migs, .stalled, .rowCopies, .flows, .trk, .trkNext, .fcache, .macs, .ecnDraws, .mailboxes, .log, .logNext, .logOverflow, .counters] s (State.takeData s f p) := by
  unfold State.takeData
  split
  · exact Rel.refl _ _
  · extract_lets +onlyGivenNames x1; try clear_value x1
    split
    · exact Rel.refl _ _
    · split
      · refine Rel.step (by decide) (State.endRemote_rel _ _ _ _ _ _ _ _ _) ?_
        refine Rel.step (by decide) Rel.set_trk ?_
        exact Rel.refl _ _
      · extract_lets +onlyGivenNames x2; (refine Rel.via (t := x2) ?_ (fun _ => ?_); (on_goal 2 => try clear_value x2); (on_goal 1 => unfold x2); (on_goal 1 => clear x2))
        · refine Rel.step (by decide) (State.tsWrite_rel _ _ _ _) ?_
          exact Rel.refl _ _
        · extract_lets +onlyGivenNames x3; try clear_value x3
          split
          · refine Rel.step (by decide) Rel.set_trk ?_
            assumption
          · refine Rel.step (by decide) (State.sendDue_rel _ _) ?_
            refine Rel.step (by decide) (State.noteDone_rel _ _ _) ?_
            refine Rel.step (by decide) (State.complete_rel _ _ _ _ _ _) ?_
            refine Rel.step (by decide) Rel.set_trk ?_
            assumption

theorem State.takePacket_rel (s : State) (f : Nat) (m : RxMsg) (h : HeldPkt) : Rel [.out, .mem, .cores, .ctxs, .migs, .stalled, .rowCopies, .tcache, .flows, .trk, .trkNext, .fcache, .macs, .ecnDraws, .mailboxes, .log, .logNext, .logOverflow, .counters] s (State.takePacket s f m h) := by
  unfold State.takePacket
  extract_lets +onlyGivenNames x1; try clear_value x1
  extract_lets +onlyGivenNames x2; try clear_value x2
  extract_lets +onlyGivenNames x3; try clear_value x3
  extract_lets +onlyGivenNames x4; try clear_value x4
  extract_lets +onlyGivenNames x5; try clear_value x5
  extract_lets +onlyGivenNames x6; try clear_value x6
  extract_lets +onlyGivenNames x7; try clear_value x7
  extract_lets +onlyGivenNames x8; (refine Rel.via (t := x8) ?_ (fun _ => ?_); (on_goal 2 => try clear_value x8); (on_goal 1 => unfold x8); (on_goal 1 => clear x8))
  · refine Rel.step (by decide) (State.stepMsg_rel _ _ _ _) ?_
    exact Rel.refl _ _
  · extract_lets +onlyGivenNames x9; (refine Rel.via (t := x9.1) ?_ (fun _ => ?_); (on_goal 1 => unfold x9); (on_goal 1 => try clear x9))
    · split
      · refine Rel.pair ?_
        refine Rel.step (by decide) (State.takeData_rel _ _ _) ?_
        assumption
      · split
        · refine Rel.pair ?_
          split
          · refine Rel.step (by decide) (State.noteRefused_rel _ _ _ _ _) ?_
            assumption
          · assumption
        · split
          · split
            · refine Rel.pair ?_
              refine Rel.step (by decide) (State.takeStripe_rel _ _ _ _) ?_
              assumption
            · split
              · refine Rel.step (by decide) (State.takePermute_rel _ _ _ _) ?_
                assumption
              · refine Rel.pair ?_
                refine Rel.step (by decide) (State.takeBlock_rel _ _ _ _ _ _) ?_
                assumption
          · refine Rel.pair ?_
            refine Rel.step (by decide) (State.localWrite_rel _ _ _ _) ?_
            refine Rel.step (by decide) (State.fabUse_rel _ _ _ _) ?_
            assumption
    · extract_lets +onlyGivenNames x10; try clear_value x10
      extract_lets +onlyGivenNames x11; (refine Rel.via (t := x11) ?_ (fun _ => ?_); (on_goal 2 => try clear_value x11); (on_goal 1 => unfold x11); (on_goal 1 => clear x11))
      · refine Rel.step (by decide) (State.updFlow_rel _ _ _) ?_
        assumption
      · split
        · extract_lets +onlyGivenNames x12; (refine Rel.via (t := x12) ?_ (fun _ => ?_); (on_goal 2 => try clear_value x12); (on_goal 1 => unfold x12); (on_goal 1 => clear x12))
          · refine Rel.step (by decide) (State.endMsg_rel _ _ _) ?_
            assumption
          · split
            · refine Rel.step (by decide) (State.checkInst_rel _ _ _ _) ?_
              assumption
            · assumption
        · assumption

theorem State.stepExec_rel (s : State) (f : Nat) (psn : Nat) : Rel [.flows] s (State.stepExec s f psn) := by
  unfold State.stepExec
  refine Rel.step (by decide) (State.updFlow_rel _ _ _) ?_
  exact Rel.refl _ _

theorem State.takeFirst_rel (s : State) (f : Nat) (h : HeldPkt) : Rel [.out, .clk, .mem, .cores, .ctxs, .migs, .stalled, .rowCopies, .tcache, .flows, .trk, .trkNext, .fcache, .atoms, .macs, .ecnDraws, .mailboxes, .log, .logNext, .logOverflow, .counters] s (State.takeFirst s f h) := by
  unfold State.takeFirst
  extract_lets +onlyGivenNames x1; try clear_value x1
  extract_lets +onlyGivenNames x2; try clear_value x2
  extract_lets +onlyGivenNames x3; try clear_value x3
  split
  · split
    · refine Rel.step (by decide) (State.stepExec_rel _ _ _) ?_
      exact Rel.refl _ _
    · extract_lets +onlyGivenNames x4; try clear_value x4
      refine Rel.step (by decide) (State.takePacket_rel _ _ _ _) ?_
      exact Rel.refl _ _
  · extract_lets +onlyGivenNames x5; (refine Rel.via (t := x5) ?_ (fun _ => ?_); (on_goal 2 => try clear_value x5); (on_goal 1 => unfold x5); (on_goal 1 => clear x5))
    · refine Rel.step (by decide) (State.stepExec_rel _ _ _) ?_
      exact Rel.refl _ _
    · split
      · extract_lets +onlyGivenNames x6; try clear_value x6
        split
        · refine Rel.step (by decide) (State.respond_rel _ _ _ _ _ _) ?_
          assumption
        · refine Rel.step (by decide) (State.remoteEvent_rel _ _ _ _) ?_
          refine Rel.step (by decide) (State.respond_rel _ _ _ _ _ _) ?_
          refine Rel.step (by decide) (State.fabUse_rel _ _ _ _) ?_
          assumption
      · split
        · extract_lets +onlyGivenNames x7; try clear_value x7
          extract_lets +onlyGivenNames x8; try clear_value x8
          extract_lets +onlyGivenNames x9; try clear_value x9
          split
          · refine Rel.step (by decide) (State.respond_rel _ _ _ _ _ _) ?_
            assumption
          · extract_lets +onlyGivenNames x10; (refine Rel.via (t := x10) ?_ (fun _ => ?_); (on_goal 2 => try clear_value x10); (on_goal 1 => unfold x10); (on_goal 1 => clear x10))
            · refine Rel.step (by decide) (State.atomTurn_rel _ _ _ _) ?_
              assumption
            · extract_lets +onlyGivenNames x11; try clear_value x11
              refine Rel.step (by decide) (State.respond_rel _ _ _ _ _ _) ?_
              refine Rel.step (by decide) (State.atomApply_rel _ _ _ _ _ _ _ _) ?_
              assumption
        · refine Rel.step (by decide) (State.endRequest_rel _ _ _ _) ?_
          assumption

theorem State.rxStep_rel (s : State) (f : Nat) : ∀ tt, (State.rxStep s f) = some tt → Rel [.out, .clk, .mem, .cores, .ctxs, .migs, .stalled, .rowCopies, .tcache, .flows, .trk, .trkNext, .fcache, .atoms, .macs, .ecnDraws, .mailboxes, .log, .logNext, .logOverflow, .counters] s tt := by
  unfold State.rxStep
  extract_lets +onlyGivenNames x1
  split
  · split
    · exact Rel.of_none
    · split
      · refine Rel.of_some ?_
        refine Rel.step (by decide) (State.takePacket_rel _ _ _ _) ?_
        exact Rel.refl _ _
      · exact Rel.of_none
  · split
    · exact Rel.of_none
    · split
      · refine Rel.of_some ?_
        refine Rel.step (by decide) (State.takeFirst_rel _ _ _) ?_
        exact Rel.refl _ _
      · exact Rel.of_none

theorem State.rxRunN_rel (s : State) (f : Nat) (w2 : Nat) : Rel [.out, .clk, .mem, .cores, .ctxs, .migs, .stalled, .rowCopies, .tcache, .flows, .trk, .trkNext, .fcache, .atoms, .macs, .ecnDraws, .mailboxes, .log, .logNext, .logOverflow, .counters] s (State.rxRunN s f w2) := by
  induction w2 generalizing s with
  | zero => exact Rel.refl _ _
  | succ n ih =>
    rw [State.rxRunN]
    split
    · refine Rel.step (by decide) (ih _) ?_
      refine Rel.step (by decide) (State.rxStep_rel _ _ _ (by assumption)) ?_
      exact Rel.refl _ _
    · refine Rel.step (by decide) (State.rush_rel _ _ _) ?_
      exact Rel.refl _ _

theorem State.rxRun_rel (s : State) (f : Nat) : Rel [.out, .clk, .mem, .cores, .ctxs, .migs, .stalled, .rowCopies, .tcache, .flows, .trk, .trkNext, .fcache, .atoms, .macs, .ecnDraws, .mailboxes, .log, .logNext, .logOverflow, .counters] s (State.rxRun s f) := by
  unfold State.rxRun
  refine Rel.step (by decide) (State.rxRunN_rel _ _ _) ?_
  exact Rel.refl _ _

theorem State.rxSeq_rel (s : State) (f : Nat) (op : Nat) (p : Pkt) : Rel [.out, .clk, .mem, .cores, .ctxs, .migs, .stalled, .rowCopies, .tcache, .flows, .trk, .trkNext, .fcache, .atoms, .macs, .ecnDraws, .mailboxes, .log, .logNext, .logOverflow, .counters] s (State.rxSeq s f op p) := by
  unfold State.rxSeq
  extract_lets +onlyGivenNames x1; try clear_value x1
  extract_lets +onlyGivenNames x2; try clear_value x2
  extract_lets +onlyGivenNames x3; try clear_value x3
  split
  · refine Rel.step (by decide) (State.sendAck_rel _ _) ?_
    refine Rel.step (by decide) (State.countFab_rel _ _) ?_
    refine Rel.step (by decide) (State.updFlow_rel _ _ _) ?_
    exact Rel.refl _ _
  · split
    · refine Rel.step (by decide) (State.countFab_rel _ _) ?_
      exact Rel.refl _ _
    · split
      · exact Rel.refl _ _
      · extract_lets +onlyGivenNames x4; try clear_value x4
        extract_lets +onlyGivenNames x5; (refine Rel.via (t := x5) ?_ (fun _ => ?_); (on_goal 2 => try clear_value x5); (on_goal 1 => unfold x5); (on_goal 1 => clear x5))
        · refine Rel.step (by decide) (State.rxRun_rel _ _) ?_
          refine Rel.step (by decide) (State.setFlow_rel _ _ _) ?_
          exact Rel.refl _ _
        · split
          · refine Rel.step (by decide) (State.countFab_rel _ _) ?_
            exact Rel.refl _ _
          · refine Rel.step (by decide) (State.rxDone_rel _ _ _ _ _) ?_
            assumption

theorem State.rxData_rel {l : List Fld} {s0 : State} {s : State} {mac : Nat} {op : Nat} {p : Pkt} {pre : State → Nat → State}
    (hsub : subF [.out, .fresh, .clk, .mem, .cores, .ctxs, .migs, .stalled, .rowCopies, .tcache, .flows, .trk, .trkNext, .fcache, .atoms, .macs, .ecnDraws, .mailboxes, .log, .logNext, .logOverflow, .counters] l = true) (hact0 : ∀ u a1, Rel l u (pre u a1)) (hrel : Rel l s0 s) : Rel l s0 (State.rxData s mac op p pre) := by
  unfold State.rxData
  extract_lets +onlyGivenNames x1; try clear_value x1
  extract_lets +onlyGivenNames x2; try clear_value x2
  extract_lets +onlyGivenNames x3; try clear_value x3
  extract_lets +onlyGivenNames x4; try clear_value x4
  extract_lets +onlyGivenNames x5; (refine Rel.via (t := x5) ?_ (fun _ => ?_); (on_goal 2 => try clear_value x5); (on_goal 1 => unfold x5); (on_goal 1 => clear x5))
  · refine Rel.step (subF_trans (by decide) hsub) (State.occupy_rel _ _ _ _) ?_
    refine Rel.step (subF_trans (by decide) hsub) (State.countRx_rel _ _ _ _) ?_
    assumption
  · split
    · refine Rel.step (subF_trans (by decide) hsub) (State.countFab_rel _ _) ?_
      assumption
    · split
      · refine Rel.step (subF_trans (by decide) hsub) (State.countFab_rel _ _) ?_
        assumption
      · split
        · refine Rel.step (subF_trans (by decide) hsub) (State.countFab_rel _ _) ?_
          assumption
        · refine Rel.step (subF_trans (by decide) hsub) (State.flowUse_rel _ _) ?_
          refine Rel.step (subF_trans (by decide) hsub) (State.rxSeq_rel _ _ _ _) ?_
          refine Rel.trans ?_ (hact0 _ _)
          assumption

theorem State.rxRetry_rel (s : State) (x : Nat) : Rel [.out, .clk, .mem, .cores, .ctxs, .migs, .stalled, .rowCopies, .tcache, .flows, .trk, .trkNext, .fcache, .atoms, .macs, .ecnDraws, .mailboxes, .log, .logNext, .logOverflow, .counters] s (State.rxRetry s x) := by
  unfold State.rxRetry
  refine Rel.foldl (fun _ _ => ?_) ?_
  · refine Rel.step (by decide) (State.rxRun_rel _ _) ?_
    exact Rel.refl _ _
  · exact Rel.refl _ _

theorem noEcc_rel (w0 : State) (w1 : Nat) : Rel [] w0 (noEcc w0 w1) := by
  unfold noEcc
  exact Rel.refl _ _

theorem execA48Add_next (mac : Nat) (p : Pkt) (s : State) : Next [.out, .fresh, .clk, .mem, .cores, .ctxs, .migs, .stalled, .rowCopies, .tcache, .flows, .trk, .trkNext, .fcache, .atoms, .macs, .ecnDraws, .mailboxes, .log, .logNext, .logOverflow, .counters] s (execA48Add mac p s) := by
  unfold execA48Add
  refine Next.intro ?_
  refine State.rxData_rel (by decide) (fun _ _ => ?_) ?_
  · refine Rel.step (by decide) (noEcc_rel _ _) ?_
    exact Rel.refl _ _
  · exact Rel.refl _ _

theorem execAckPkt_next (mac : Nat) (p : Pkt) (s : State) : Next [.out, .fresh, .ctxs, .flows, .ctrl, .ctrlNext, .fcache, .macs, .ecnDraws, .counters] s (execAckPkt mac p s) := by
  unfold execAckPkt
  extract_lets +onlyGivenNames x1; try clear_value x1
  extract_lets +onlyGivenNames x2; try clear_value x2
  extract_lets +onlyGivenNames x3; try clear_value x3
  extract_lets +onlyGivenNames x4; try clear_value x4
  extract_lets +onlyGivenNames x5; (refine Next.via (t := x5) ?_ (fun _ => ?_); (on_goal 2 => try clear_value x5); (on_goal 1 => unfold x5); (on_goal 1 => clear x5))
  · refine Rel.step (by decide) (State.occupy_rel _ _ _ _) ?_
    refine Rel.step (by decide) (State.countRx_rel _ _ _ _) ?_
    exact Rel.refl _ _
  · split
    · refine Next.intro ?_
      refine Rel.step (by decide) (State.countFab_rel _ _) ?_
      assumption
    · split
      · refine Next.intro ?_
        refine Rel.step (by decide) (State.countFab_rel _ _) ?_
        assumption
      · split
        · refine Next.intro ?_
          refine Rel.step (by decide) (State.countFab_rel _ _) ?_
          assumption
        · extract_lets +onlyGivenNames x6; try clear_value x6
          extract_lets +onlyGivenNames x7; try clear_value x7
          extract_lets +onlyGivenNames x8; try clear_value x8
          extract_lets +onlyGivenNames x9; try clear_value x9
          extract_lets +onlyGivenNames x10; try clear_value x10
          extract_lets +onlyGivenNames x11; try clear_value x11
          extract_lets +onlyGivenNames x12; try clear_value x12
          extract_lets +onlyGivenNames x13; (refine Next.via (t := x13) ?_ (fun _ => ?_); (on_goal 2 => try clear_value x13); (on_goal 1 => unfold x13); (on_goal 1 => clear x13))
          · refine Rel.step (by decide) (State.count_rel _ _ _ _) ?_
            refine Rel.step (by decide) (State.setFlow_rel _ _ _) ?_
            refine Rel.step (by decide) (State.flowUse_rel _ _) ?_
            assumption
          · refine Next.intro ?_
            refine Rel.step (by decide) (State.closeIfDone_rel _ _) ?_
            refine Rel.step (by decide) (State.pump_rel _ _) ?_
            refine Rel.foldl (fun _ _ => ?_) ?_
            · refine Rel.step (by decide) (State.resend_rel _ _ _) ?_
              exact Rel.refl _ _
            · assumption

theorem execAckTimer_next (flow : Nat) (s : State) : Next [.clk, .flows, .macs, .ecnDraws, .counters] s (execAckTimer flow s) := by
  unfold execAckTimer
  split
  · refine Next.intro ?_
    exact Rel.refl _ _
  · refine Next.intro ?_
    refine Rel.step (by decide) (State.sendAck_rel _ _) ?_
    refine Rel.step (by decide) (State.toTai_rel _ _) ?_
    exact Rel.refl _ _

theorem execAtomicAdd_next (mac : Nat) (p : Pkt) (s : State) : Next [.out, .fresh, .clk, .mem, .cores, .ctxs, .migs, .stalled, .rowCopies, .tcache, .flows, .trk, .trkNext, .fcache, .atoms, .macs, .ecnDraws, .mailboxes, .log, .logNext, .logOverflow, .counters] s (execAtomicAdd mac p s) := by
  unfold execAtomicAdd
  refine Next.intro ?_
  refine State.rxData_rel (by decide) (fun _ _ => ?_) ?_
  · refine Rel.step (by decide) (noEcc_rel _ _) ?_
    exact Rel.refl _ _
  · exact Rel.refl _ _

theorem execAtomicDone_next (mac : Nat) (p : Pkt) (s : State) : Next [.out, .fresh, .clk, .mem, .cores, .ctxs, .migs, .stalled, .rowCopies, .tcache, .flows, .trk, .trkNext, .fcache, .atoms, .macs, .ecnDraws, .mailboxes, .log, .logNext, .logOverflow, .counters] s (execAtomicDone mac p s) := by
  unfold execAtomicDone
  refine Next.intro ?_
  refine State.rxData_rel (by decide) (fun _ _ => ?_) ?_
  · refine Rel.step (by decide) (noEcc_rel _ _) ?_
    exact Rel.refl _ _
  · exact Rel.refl _ _

theorem execAtomicMax_next (mac : Nat) (p : Pkt) (s : State) : Next [.out, .fresh, .clk, .mem, .cores, .ctxs, .migs, .stalled, .rowCopies, .tcache, .flows, .trk, .trkNext, .fcache, .atoms, .macs, .ecnDraws, .mailboxes, .log, .logNext, .logOverflow, .counters] s (execAtomicMax mac p s) := by
  unfold execAtomicMax
  refine Next.intro ?_
  refine State.rxData_rel (by decide) (fun _ _ => ?_) ?_
  · refine Rel.step (by decide) (noEcc_rel _ _) ?_
    exact Rel.refl _ _
  · exact Rel.refl _ _

theorem execAtomicMin_next (mac : Nat) (p : Pkt) (s : State) : Next [.out, .fresh, .clk, .mem, .cores, .ctxs, .migs, .stalled, .rowCopies, .tcache, .flows, .trk, .trkNext, .fcache, .atoms, .macs, .ecnDraws, .mailboxes, .log, .logNext, .logOverflow, .counters] s (execAtomicMin mac p s) := by
  unfold execAtomicMin
  refine Next.intro ?_
  refine State.rxData_rel (by decide) (fun _ _ => ?_) ?_
  · refine Rel.step (by decide) (noEcc_rel _ _) ?_
    exact Rel.refl _ _
  · exact Rel.refl _ _

theorem execCcInterval_next (flow : Nat) (s : State) : Next [.clk, .flows] s (execCcInterval flow s) := by
  unfold execCcInterval
  extract_lets +onlyGivenNames x1; try clear_value x1
  split
  · refine Next.intro ?_
    exact Rel.refl _ _
  · extract_lets +onlyGivenNames x2; (refine Next.via (t := x2) ?_ (fun _ => ?_); (on_goal 2 => try clear_value x2); (on_goal 1 => unfold x2); (on_goal 1 => clear x2))
    · refine Rel.step (by decide) (State.toTai_rel _ _) ?_
      exact Rel.refl _ _
    · refine Next.intro ?_
      refine Rel.step (by decide) (State.setFlow_rel _ _ _) ?_
      assumption

theorem execCollective_next (mac : Nat) (p : Pkt) (s : State) : Next [.out, .fresh, .clk, .mem, .cores, .ctxs, .migs, .stalled, .rowCopies, .tcache, .flows, .trk, .trkNext, .fcache, .atoms, .macs, .ecnDraws, .mailboxes, .log, .logNext, .logOverflow, .counters] s (execCollective mac p s) := by
  unfold execCollective
  refine Next.intro ?_
  refine State.rxData_rel (by decide) (fun _ _ => ?_) ?_
  · refine Rel.step (by decide) (noEcc_rel _ _) ?_
    exact Rel.refl _ _
  · exact Rel.refl _ _

theorem execCollectiveDone_next (mac : Nat) (p : Pkt) (s : State) : Next [.out, .fresh, .clk, .mem, .cores, .ctxs, .migs, .stalled, .rowCopies, .tcache, .flows, .trk, .trkNext, .fcache, .atoms, .macs, .ecnDraws, .mailboxes, .log, .logNext, .logOverflow, .counters] s (execCollectiveDone mac p s) := by
  unfold execCollectiveDone
  refine Next.intro ?_
  refine State.rxData_rel (by decide) (fun _ _ => ?_) ?_
  · refine Rel.step (by decide) (noEcc_rel _ _) ?_
    exact Rel.refl _ _
  · exact Rel.refl _ _

theorem execCompareSwap_next (mac : Nat) (p : Pkt) (s : State) : Next [.out, .fresh, .clk, .mem, .cores, .ctxs, .migs, .stalled, .rowCopies, .tcache, .flows, .trk, .trkNext, .fcache, .atoms, .macs, .ecnDraws, .mailboxes, .log, .logNext, .logOverflow, .counters] s (execCompareSwap mac p s) := by
  unfold execCompareSwap
  refine Next.intro ?_
  refine State.rxData_rel (by decide) (fun _ _ => ?_) ?_
  · refine Rel.step (by decide) (noEcc_rel _ _) ?_
    exact Rel.refl _ _
  · exact Rel.refl _ _

theorem execFlowProgressTimeout_next (flow : Nat) (s : State) : Next [.out, .clk, .cores, .ctxs, .flows, .trk, .trkNext, .fcache, .macs, .ecnDraws, .mailboxes, .log, .logNext, .logOverflow, .counters] s (execFlowProgressTimeout flow s) := by
  unfold execFlowProgressTimeout
  extract_lets +onlyGivenNames x1; try clear_value x1
  split
  · refine Next.intro ?_
    exact Rel.refl _ _
  · split
    · refine Next.intro ?_
      refine Rel.step (by decide) (State.failFlow_rel _ _) ?_
      exact Rel.refl _ _
    · split
      · refine Next.intro ?_
        exact Rel.refl _ _
      · refine Next.intro ?_
        refine Rel.step (by decide) (State.failFlow_rel _ _) ?_
        refine Rel.step (by decide) (State.toTai_rel _ _) ?_
        exact Rel.refl _ _

theorem execReadData_next (mac : Nat) (p : Pkt) (s : State) : Next [.out, .fresh, .clk, .mem, .cores, .ctxs, .migs, .stalled, .rowCopies, .tcache, .flows, .trk, .trkNext, .fcache, .atoms, .macs, .ecnDraws, .mailboxes, .log, .logNext, .logOverflow, .counters] s (execReadData mac p s) := by
  unfold execReadData
  refine Next.intro ?_
  refine State.rxData_rel (by decide) (fun _ _ => ?_) ?_
  · refine Rel.step (by decide) (noEcc_rel _ _) ?_
    exact Rel.refl _ _
  · exact Rel.refl _ _

theorem execReadReq_next (mac : Nat) (p : Pkt) (ecc : Option EccHit) (s : State) : Next [.out, .fresh, .clk, .mem, .cores, .ctxs, .migs, .stalled, .banks, .rowCopies, .tcache, .flows, .trk, .trkNext, .fcache, .atoms, .macs, .ecnDraws, .mailboxes, .log, .logNext, .logOverflow, .counters] s (execReadReq mac p ecc s) := by
  unfold execReadReq
  refine Next.intro ?_
  refine State.rxData_rel (by decide) (fun _ _ => ?_) ?_
  · refine Rel.step (by decide) (State.eccOpt_rel _ _ _) ?_
    exact Rel.refl _ _
  · exact Rel.refl _ _

theorem execReservedPacket_next (mac : Nat) (h : Hdr) (s : State) : Next [.counters] s (execReservedPacket mac h s) := by
  unfold execReservedPacket
  extract_lets +onlyGivenNames x1; (refine Next.via (t := x1) ?_ (fun _ => ?_); (on_goal 2 => try clear_value x1); (on_goal 1 => unfold x1); (on_goal 1 => clear x1))
  · exact Rel.refl _ _
  · extract_lets +onlyGivenNames x2; (refine Next.via (t := x2) ?_ (fun _ => ?_); (on_goal 2 => try clear_value x2); (on_goal 1 => unfold x2); (on_goal 1 => clear x2))
    · refine Rel.step (by decide) (State.countRx_rel _ _ _ _) ?_
      exact Rel.refl _ _
    · split
      · refine Next.intro ?_
        refine Rel.step (by decide) (State.countFab_rel _ _) ?_
        assumption
      · split
        · refine Next.intro ?_
          assumption
        · refine Next.intro ?_
          refine Rel.step (by decide) (State.countFab_rel _ _) ?_
          assumption

theorem execRetransmitTimeout_next (flow : Nat) (psn : Nat) (s : State) : Next [.clk, .ctxs, .flows, .macs, .ecnDraws, .counters] s (execRetransmitTimeout flow psn s) := by
  unfold execRetransmitTimeout
  extract_lets +onlyGivenNames x1; try clear_value x1
  split
  · refine Next.intro ?_
    exact Rel.refl _ _
  · split
    · refine Next.intro ?_
      exact Rel.refl _ _
    · split
      · refine Next.intro ?_
        exact Rel.refl _ _
      · extract_lets +onlyGivenNames x2; (refine Next.via (t := x2) ?_ (fun _ => ?_); (on_goal 2 => try clear_value x2); (on_goal 1 => unfold x2); (on_goal 1 => clear x2))
        · refine Rel.step (by decide) (State.toTai_rel _ _) ?_
          exact Rel.refl _ _
        · extract_lets +onlyGivenNames x3; (refine Next.via (t := x3) ?_ (fun _ => ?_); (on_goal 2 => try clear_value x3); (on_goal 1 => unfold x3); (on_goal 1 => clear x3))
          · refine Rel.step (by decide) (State.setFlow_rel _ _ _) ?_
            assumption
          · refine Next.intro ?_
            refine Rel.step (by decide) (State.resend_rel _ _ _) ?_
            assumption

theorem execTileRead_next (mac : Nat) (p : Pkt) (s : State) : Next [.out, .fresh, .clk, .mem, .cores, .ctxs, .migs, .stalled, .rowCopies, .tcache, .flows, .trk, .trkNext, .fcache, .atoms, .macs, .ecnDraws, .mailboxes, .log, .logNext, .logOverflow, .counters] s (execTileRead mac p s) := by
  unfold execTileRead
  refine Next.intro ?_
  refine State.rxData_rel (by decide) (fun _ _ => ?_) ?_
  · refine Rel.step (by decide) (noEcc_rel _ _) ?_
    exact Rel.refl _ _
  · exact Rel.refl _ _

theorem execTileWrite_next (mac : Nat) (p : Pkt) (s : State) : Next [.out, .fresh, .clk, .mem, .cores, .ctxs, .migs, .stalled, .rowCopies, .tcache, .flows, .trk, .trkNext, .fcache, .atoms, .macs, .ecnDraws, .mailboxes, .log, .logNext, .logOverflow, .counters] s (execTileWrite mac p s) := by
  unfold execTileWrite
  refine Next.intro ?_
  refine State.rxData_rel (by decide) (fun _ _ => ?_) ?_
  · refine Rel.step (by decide) (noEcc_rel _ _) ?_
    exact Rel.refl _ _
  · exact Rel.refl _ _

theorem execWriteDone_next (mac : Nat) (p : Pkt) (s : State) : Next [.out, .fresh, .clk, .mem, .cores, .ctxs, .migs, .stalled, .rowCopies, .tcache, .flows, .trk, .trkNext, .fcache, .atoms, .macs, .ecnDraws, .mailboxes, .log, .logNext, .logOverflow, .counters] s (execWriteDone mac p s) := by
  unfold execWriteDone
  refine Next.intro ?_
  refine State.rxData_rel (by decide) (fun _ _ => ?_) ?_
  · refine Rel.step (by decide) (noEcc_rel _ _) ?_
    exact Rel.refl _ _
  · exact Rel.refl _ _

theorem execWriteReq_next (mac : Nat) (p : Pkt) (s : State) : Next [.out, .fresh, .clk, .mem, .cores, .ctxs, .migs, .stalled, .rowCopies, .tcache, .flows, .trk, .trkNext, .fcache, .atoms, .macs, .ecnDraws, .mailboxes, .log, .logNext, .logOverflow, .counters] s (execWriteReq mac p s) := by
  unfold execWriteReq
  refine Next.intro ?_
  refine State.rxData_rel (by decide) (fun _ _ => ?_) ?_
  · refine Rel.step (by decide) (noEcc_rel _ _) ?_
    exact Rel.refl _ _
  · exact Rel.refl _ _

end Sys2Proof.Machine
end

