-- ==== Sys2Proof/Laws/Ptp.lean ====
section
/-! SUPPORT. What the operations and the meanings of Machine/Ptp.lean can change: for each operation the fields of the state it may change, and
for each meaning that it answers a next state and the fields that it may change; all of them keep the invariant. -/

namespace Sys2Proof.Machine

theorem State.updPtp_rel (s : State) (p : Nat) (f : PtpPort → PtpPort) : Rel [.clk] s (State.updPtp s p f) := by
  unfold State.updPtp
  refine Rel.step (by decide) Rel.set_clk ?_
  exact Rel.refl _ _

theorem State.hearMaster_rel (s : State) (p : Nat) (m : PtpMsg) (d : PtpData) : Rel [.clk] s (State.hearMaster s p m d) := by
  unfold State.hearMaster
  split
  · exact Rel.refl _ _
  · refine Rel.step (by decide) (State.updPtp_rel _ _ _) ?_
    exact Rel.refl _ _

theorem State.sendPtp_rel (s : State) (m : Nat) (k : PtpOut) (ns : Int) : Rel [.macs, .ecnDraws, .counters] s (State.sendPtp s m k ns) := by
  unfold State.sendPtp
  refine Rel.step (by decide) (State.enqueue_rel _ _ _ _) ?_
  exact Rel.refl _ _

end Sys2Proof.Machine
end

