-- ==== Sys2Proof/Laws/MacTx.lean ====
section
/-! SUPPORT. What the operations and the meanings of Machine/MacTx.lean can change: for each operation the fields of the state it may change, and
for each meaning that it answers a next state and the fields that it may change; all of them keep the invariant. -/

namespace Sys2Proof.Machine

theorem State.fwdDrop_rel (s : State) (dst : Nat) (port : Nat) : Rel [.out, .ctxs, .fwdDropNs, .mailboxes, .log, .logNext, .logOverflow, .counters] s (State.fwdDrop s dst port) := by
  unfold State.fwdDrop
  extract_lets +onlyGivenNames x1; try clear_value x1
  extract_lets +onlyGivenNames x2; (refine Rel.via (t := x2) ?_ (fun _ => ?_); (on_goal 2 => try clear_value x2); (on_goal 1 => unfold x2); (on_goal 1 => clear x2))
  · refine Rel.step (by decide) (State.countFab_rel _ _) ?_
    exact Rel.refl _ _
  · split
    · split
      · assumption
      · refine Rel.step (by decide) (State.event_rel _ _ _ _ _) ?_
        refine Rel.step (by decide) Rel.set_fwdDropNs ?_
        assumption
    · refine Rel.step (by decide) (State.event_rel _ _ _ _ _) ?_
      refine Rel.step (by decide) Rel.set_fwdDropNs ?_
      assumption

theorem State.pumpPaced_rel (s : State) : Rel [.flows, .macs, .ecnDraws, .counters] s (State.pumpPaced s) := by
  unfold State.pumpPaced
  refine Rel.foldl (fun _ _ => ?_) ?_
  · refine Rel.step (by decide) (State.pump_rel _ _) ?_
    exact Rel.refl _ _
  · exact Rel.refl _ _

theorem State.sentCopy_rel (s : State) (f : Nat) (psn : Nat) (path : Nat) : Rel [.flows] s (State.sentCopy s f psn path).1 := by
  unfold State.sentCopy
  extract_lets +onlyGivenNames x1; try clear_value x1
  extract_lets +onlyGivenNames x2; try clear_value x2
  refine Rel.pair ?_
  refine Rel.step (by decide) (State.setFlow_rel _ _ _) ?_
  exact Rel.refl _ _

theorem State.stamp_rel (s : State) (m : Nat) (f : Frame) : Rel [.clk, .flows, .macs, .ecnDraws, .counters] s (State.stamp s m f).1 := by
  unfold State.stamp
  split
  · refine Rel.pair ?_
    exact Rel.refl _ _
  · split
    · extract_lets +onlyGivenNames x1; (refine Rel.via (t := x1.1) ?_ (fun _ => ?_); (on_goal 1 => unfold x1); (on_goal 1 => try clear x1))
      · split
        · refine Rel.pair ?_
          exact Rel.refl _ _
        · refine Rel.step (by decide) (State.sentCopy_rel _ _ _ _) ?_
          exact Rel.refl _ _
      · extract_lets +onlyGivenNames x2; try clear_value x2
        extract_lets +onlyGivenNames x3; try clear_value x3
        extract_lets +onlyGivenNames x4; try clear_value x4
        refine Rel.pair ?_
        assumption
    · extract_lets +onlyGivenNames x5; try clear_value x5
      extract_lets +onlyGivenNames x6; try clear_value x6
      refine Rel.pair ?_
      exact Rel.refl _ _
    · extract_lets +onlyGivenNames x7; try clear_value x7
      split
      · split
        · refine Rel.pair ?_
          refine Rel.step (by decide) (State.sendPtp_rel _ _ _ _) ?_
          exact Rel.refl _ _
        · refine Rel.pair ?_
          exact Rel.refl _ _
      · refine Rel.pair ?_
        refine Rel.step (by decide) (State.updPtp_rel _ _ _) ?_
        exact Rel.refl _ _
      · refine Rel.pair ?_
        refine Rel.step (by decide) (State.updPtp_rel _ _ _) ?_
        exact Rel.refl _ _
      · refine Rel.pair ?_
        exact Rel.refl _ _
      · refine Rel.pair ?_
        exact Rel.refl _ _
      · refine Rel.pair ?_
        exact Rel.refl _ _
    · refine Rel.pair ?_
      exact Rel.refl _ _

theorem State.startFrame_rel (s : State) (m : Nat) (q : Nat) (f : Frame) : Rel [.out, .clk, .ctxs, .flows, .macs, .ecnDraws, .counters] s (State.startFrame s m q f) := by
  unfold State.startFrame
  extract_lets +onlyGivenNames x1; (refine Rel.via (t := x1.1) ?_ (fun _ => ?_); (on_goal 1 => unfold x1); (on_goal 1 => try clear x1))
  · refine Rel.step (by decide) (State.stamp_rel _ _ _) ?_
    exact Rel.refl _ _
  · extract_lets +onlyGivenNames x2; (refine Rel.via (t := x2) ?_ (fun _ => ?_); (on_goal 2 => try clear_value x2); (on_goal 1 => unfold x2); (on_goal 1 => clear x2))
    · refine Rel.step (by decide) (State.emit_rel _ _) ?_
      assumption
    · extract_lets +onlyGivenNames x3; (refine Rel.via (t := x3) ?_ (fun _ => ?_); (on_goal 2 => try clear_value x3); (on_goal 1 => unfold x3); (on_goal 1 => clear x3))
      · refine Rel.step (by decide) (State.updMac_rel _ _ _) ?_
        assumption
      · extract_lets +onlyGivenNames x4; (refine Rel.via (t := x4) ?_ (fun _ => ?_); (on_goal 2 => try clear_value x4); (on_goal 1 => unfold x4); (on_goal 1 => clear x4))
        · refine Rel.step (by decide) (State.countMac_rel _ _ _ _) ?_
          refine Rel.step (by decide) (State.countMac_rel _ _ _ _) ?_
          assumption
        · split
          · refine Rel.step (by decide) (State.count_rel _ _ _ _) ?_
            refine Rel.step (by decide) (State.count_rel _ _ _ _) ?_
            assumption
          · assumption

theorem execFrameForward_next (mac : Nat) (h : Hdr) (fcsBad : Bool) (s : State) : Next [.out, .clk, .ctxs, .flows, .macs, .fwdDropNs, .ecnDraws, .mailboxes, .log, .logNext, .logOverflow, .counters] s (execFrameForward mac h fcsBad s) := by
  unfold execFrameForward
  split
  · refine Next.intro ?_
    exact Rel.refl _ _
  · extract_lets +onlyGivenNames x1; (refine Next.via (t := x1) ?_ (fun _ => ?_); (on_goal 2 => try clear_value x1); (on_goal 1 => unfold x1); (on_goal 1 => clear x1))
    · refine Rel.step (by decide) (State.countRx_rel _ _ _ _) ?_
      exact Rel.refl _ _
    · split
      · refine Next.intro ?_
        refine Rel.step (by decide) (State.countFab_rel _ _) ?_
        assumption
      · split
        · refine Next.intro ?_
          refine Rel.step (by decide) (State.countFab_rel _ _) ?_
          assumption
        · split
          · refine Next.intro ?_
            refine Rel.step (by decide) (State.fwdDrop_rel _ _ _) ?_
            assumption
          · split
            · refine Next.intro ?_
              refine Rel.step (by decide) (State.countFab_rel _ _) ?_
              refine Rel.step (by decide) (State.startFrame_rel _ _ _ _) ?_
              assumption
            · split
              · refine Next.intro ?_
                refine Rel.step (by decide) (State.countMac_rel _ _ _ _) ?_
                assumption
              · split
                · refine Next.intro ?_
                  refine Rel.step (by decide) (State.countFab_rel _ _) ?_
                  assumption
                · refine Next.intro ?_
                  refine Rel.step (by decide) (State.countFab_rel _ _) ?_
                  refine Rel.step (by decide) (State.enqueue_rel _ _ _ _) ?_
                  assumption

theorem execMacFrameStart_next (mac : Nat) (s : State) : Next [.out, .clk, .ctxs, .flows, .macs, .ecnDraws, .counters] s (execMacFrameStart mac s) := by
  unfold execMacFrameStart
  extract_lets +onlyGivenNames x1; try clear_value x1
  extract_lets +onlyGivenNames x2; try clear_value x2
  extract_lets +onlyGivenNames x3; try clear_value x3
  split
  · refine Next.intro ?_
    exact Rel.refl _ _
  · extract_lets +onlyGivenNames x4; (refine Next.via (t := x4) ?_ (fun _ => ?_); (on_goal 2 => try clear_value x4); (on_goal 1 => unfold x4); (on_goal 1 => clear x4))
    · refine Rel.step (by decide) (State.toCycle_rel _ _) ?_
      exact Rel.refl _ _
    · extract_lets +onlyGivenNames x5; (refine Next.via (t := x5) ?_ (fun _ => ?_); (on_goal 2 => try clear_value x5); (on_goal 1 => unfold x5); (on_goal 1 => clear x5))
      · split
        · refine Rel.step (by decide) (State.toTai_rel _ _) ?_
          assumption
        · assumption
      · extract_lets +onlyGivenNames x6; (refine Next.via (t := x6) ?_ (fun _ => ?_); (on_goal 2 => try clear_value x6); (on_goal 1 => unfold x6); (on_goal 1 => clear x6))
        · refine Rel.step (by decide) (State.pumpPaced_rel _) ?_
          assumption
        · extract_lets +onlyGivenNames x7; (refine Next.via (t := x7) ?_ (fun _ => ?_); (on_goal 2 => try clear_value x7); (on_goal 1 => unfold x7); (on_goal 1 => clear x7))
          · refine Rel.step (by decide) (State.updMac_rel _ _ _) ?_
            assumption
          · split
            · refine Next.intro ?_
              assumption
            · split
              · refine Next.intro ?_
                assumption
              · extract_lets +onlyGivenNames x8; (refine Next.via (t := x8) ?_ (fun _ => ?_); (on_goal 2 => try clear_value x8); (on_goal 1 => unfold x8); (on_goal 1 => clear x8))
                · refine Rel.step (by decide) (State.updMac_rel _ _ _) ?_
                  assumption
                · refine Next.intro ?_
                  refine Rel.step (by decide) (State.startFrame_rel _ _ _ _) ?_
                  assumption

end Sys2Proof.Machine
end

