-- ==== Sys2Proof/Laws/Migrate.lean ====
section
/-! SUPPORT. What the operations and the meanings of Machine/Migrate.lean can change: for each operation the fields of the state it may change, and
for each meaning that it answers a next state and the fields that it may change; all of them keep the invariant. -/

namespace Sys2Proof.Machine

theorem State.abortMig_rel (s : State) (x : Nat) (t : Nat) (cause : AbortCause) : Rel [.ctxs, .migs] s (State.abortMig s x t cause) := by
  unfold State.abortMig
  extract_lets +onlyGivenNames x1; try clear_value x1
  extract_lets +onlyGivenNames x2; try clear_value x2
  extract_lets +onlyGivenNames x3; (refine Rel.via (t := x3) ?_ (fun _ => ?_); (on_goal 2 => try clear_value x3); (on_goal 1 => unfold x3); (on_goal 1 => clear x3))
  · refine Rel.step (by decide) (State.setCtx_rel _ _ _) ?_
    exact Rel.refl _ _
  · refine Rel.step (by decide) (State.count_rel _ _ _ _) ?_
    refine Rel.step (by decide) Rel.set_migs ?_
    assumption

theorem State.acceptMig_rel (s : State) (m : Mig) (tier : Nat) (d : Nat × Nat) : Rel [.ctxs, .migs] s (State.acceptMig s m tier d) := by
  unfold State.acceptMig
  extract_lets +onlyGivenNames x1; try clear_value x1
  extract_lets +onlyGivenNames x2; try clear_value x2
  extract_lets +onlyGivenNames x3; (refine Rel.via (t := x3) ?_ (fun _ => ?_); (on_goal 2 => try clear_value x3); (on_goal 1 => unfold x3); (on_goal 1 => clear x3))
  · refine Rel.step (by decide) (State.setCtx_rel _ _ _) ?_
    exact Rel.refl _ _
  · refine Rel.step (by decide) Rel.set_migs ?_
    assumption

theorem State.revoke_rel (s : State) (w : Nat) : Rel [.lend] s (State.revoke s w) := by
  unfold State.revoke
  split
  · refine Rel.step (by decide) Rel.set_lend ?_
    exact Rel.refl _ _
  · exact Rel.refl _ _

theorem State.reclaimWindow_rel (s : State) (w : Nat) (k : Nat) : Rel [.lend, .ctrl, .ctrlNext, .macs, .ecnDraws, .counters] s (State.reclaimWindow s w k) := by
  unfold State.reclaimWindow
  split
  · exact Rel.refl _ _
  · extract_lets +onlyGivenNames x1; try clear_value x1
    extract_lets +onlyGivenNames x2; (refine Rel.via (t := x2) ?_ (fun _ => ?_); (on_goal 2 => try clear_value x2); (on_goal 1 => unfold x2); (on_goal 1 => clear x2))
    · refine Rel.step (by decide) Rel.set_lend ?_
      exact Rel.refl _ _
    · extract_lets +onlyGivenNames x3; (refine Rel.via (t := x3) ?_ (fun _ => ?_); (on_goal 2 => try clear_value x3); (on_goal 1 => unfold x3); (on_goal 1 => clear x3))
      · refine Rel.foldl (fun _ _ => ?_) ?_
        · refine Rel.step (by decide) (State.sendCtrl_rel _ _ _ _) ?_
          exact Rel.refl _ _
        · assumption
      · split
        · refine Rel.step (by decide) (State.revoke_rel _ _) ?_
          assumption
        · assumption

theorem State.migDone_rel (s : State) (h : Nat) : Rel [.out, .ctxs, .mailboxes, .handles, .log, .logNext, .logOverflow] s (State.migDone s h) := by
  unfold State.migDone
  extract_lets +onlyGivenNames x1; (refine Rel.via (t := x1) ?_ (fun _ => ?_); (on_goal 2 => try clear_value x1); (on_goal 1 => unfold x1); (on_goal 1 => clear x1))
  · refine Rel.step (by decide) (State.progress1_rel _ _) ?_
    exact Rel.refl _ _
  · split
    · split
      · refine Rel.step (by decide) (State.finish_rel _ _ _) ?_
        assumption
      · assumption
    · assumption

theorem State.askMig_rel (s : State) (a : MigAsk) (retried : optParam Bool Bool.false) : Rel [.out, .ctxs, .migs, .asks, .mailboxes, .handles, .log, .logNext, .logOverflow] s (State.askMig s a retried).1 := by
  unfold State.askMig
  extract_lets +onlyGivenNames x1; try clear_value x1
  extract_lets +onlyGivenNames x2; try clear_value x2
  split
  · refine Rel.pair ?_
    exact Rel.refl _ _
  · split
    · extract_lets +onlyGivenNames x3; try clear_value x3
      split
      · refine Rel.pair ?_
        exact Rel.refl _ _
      · refine Rel.pair ?_
        refine Rel.foldl (fun _ _ => ?_) ?_
        · refine Rel.step (by decide) (State.migDone_rel _ _) ?_
          exact Rel.refl _ _
        · refine Rel.step (by decide) Rel.set_asks ?_
          exact Rel.refl _ _
    · split
      · refine Rel.pair ?_
        exact Rel.refl _ _
      · split
        · refine Rel.pair ?_
          exact Rel.refl _ _
        · split
          · refine Rel.pair ?_
            exact Rel.refl _ _
          · extract_lets +onlyGivenNames x4; try clear_value x4
            refine Rel.pair ?_
            refine Rel.step (by decide) (State.acceptMig_rel _ _ _ _) ?_
            exact Rel.refl _ _

theorem State.askElsewhere_rel (s : State) (x : Nat) (t : Nat) (m : Mig) : Rel [.out, .ctxs, .migs, .asks, .mailboxes, .handles, .log, .logNext, .logOverflow] s (State.askElsewhere s x t m) := by
  unfold State.askElsewhere
  extract_lets +onlyGivenNames x1; try clear_value x1
  extract_lets +onlyGivenNames x2
  extract_lets +onlyGivenNames x3; (refine Rel.via (t := x3.1) ?_ (fun _ => ?_); (on_goal 1 => unfold x3); (on_goal 1 => try clear x3))
  · split
    · refine Rel.pair ?_
      exact Rel.refl _ _
    · refine Rel.step (by decide) (State.askMig_rel _ _ _) ?_
      exact Rel.refl _ _
  · extract_lets +onlyGivenNames x4; (refine Rel.via (t := x4.1) ?_ (fun _ => ?_); (on_goal 1 => unfold x4); (on_goal 1 => try clear x4))
    · unfold x2
      split
      · refine Rel.step (by decide) (State.askMig_rel _ _ _) ?_
        refine Rel.foldlPair (fun _ _ _ => ?_) ?_
        · split
          · refine Rel.step (by decide) (State.askMig_rel _ _ _) ?_
            refine Rel.pair ?_
            exact Rel.refl _ _
          · refine Rel.pair ?_
            exact Rel.refl _ _
        · assumption
      · refine Rel.foldlPair (fun _ _ _ => ?_) ?_
        · split
          · refine Rel.step (by decide) (State.askMig_rel _ _ _) ?_
            refine Rel.pair ?_
            exact Rel.refl _ _
          · refine Rel.pair ?_
            exact Rel.refl _ _
        · assumption
    · split
      · assumption
      · assumption
      · refine Rel.step (by decide) (State.migDone_rel _ _) ?_
        assumption
      · refine Rel.step (by decide) (State.finish_rel _ _ _) ?_
        assumption
      · extract_lets +onlyGivenNames x5; (refine Rel.via (t := x5) ?_ (fun _ => ?_); (on_goal 2 => try clear_value x5); (on_goal 1 => unfold x5); (on_goal 1 => clear x5))
        · assumption
        · refine Rel.step (by decide) Rel.set_asks ?_
          assumption
      · refine Rel.step (by decide) (State.finish_rel _ _ _) ?_
        assumption

theorem State.askOrWait_rel (s : State) (a : MigAsk) : Rel [.out, .ctxs, .migs, .asks, .mailboxes, .handles, .log, .logNext, .logOverflow] s (State.askOrWait s a) := by
  unfold State.askOrWait
  split
  · refine Rel.step (by decide) Rel.set_asks ?_
    refine Rel.of_eq (by assumption) ?_
    refine Rel.step (by decide) (State.askMig_rel _ _ _) ?_
    exact Rel.refl _ _
  · refine Rel.of_eq (by assumption) ?_
    refine Rel.step (by decide) (State.askMig_rel _ _ _) ?_
    exact Rel.refl _ _

theorem State.askReclaim_rel (s : State) (x : Nat) (t : Nat) (h : Nat) : Rel [.out, .ctxs, .migs, .asks, .mailboxes, .handles, .log, .logNext, .logOverflow] s (State.askReclaim s x t h) := by
  unfold State.askReclaim
  refine Rel.step (by decide) (State.askOrWait_rel _ _) ?_
  exact Rel.refl _ _

theorem State.loseWindow_rel (s : State) (cls : Nat) (lender : Nat) (window : Nat) : Rel [.out, .ctxs, .mailboxes, .log, .logNext, .logOverflow] s (State.loseWindow s cls lender window) := by
  unfold State.loseWindow
  extract_lets +onlyGivenNames x1; (refine Rel.via (t := x1) ?_ (fun _ => ?_); (on_goal 2 => try clear_value x1); (on_goal 1 => unfold x1); (on_goal 1 => clear x1))
  · refine Rel.step (by decide) (State.loseT3_rel _ _ _) ?_
    exact Rel.refl _ _
  · refine Rel.step (by decide) Rel.set_ctxs ?_
    assumption

theorem State.placeAsk_rel (s : State) (a : MigAsk) : Rel [.out, .ctxs, .migs, .asks, .mailboxes, .handles, .log, .logNext, .logOverflow] s (State.placeAsk s a) := by
  unfold State.placeAsk
  split
  · refine Rel.step (by decide) (State.phase_rel _ _ _) ?_
    refine Rel.of_eq (by assumption) ?_
    refine Rel.step (by decide) (State.askMig_rel _ _ _) ?_
    refine Rel.step (by decide) Rel.set_asks ?_
    exact Rel.refl _ _
  · refine Rel.step (by decide) (State.migDone_rel _ _) ?_
    refine Rel.of_eq (by assumption) ?_
    refine Rel.step (by decide) (State.askMig_rel _ _ _) ?_
    refine Rel.step (by decide) Rel.set_asks ?_
    exact Rel.refl _ _
  · refine Rel.of_eq (by assumption) ?_
    refine Rel.step (by decide) (State.askMig_rel _ _ _) ?_
    refine Rel.step (by decide) Rel.set_asks ?_
    exact Rel.refl _ _
  · refine Rel.step (by decide) (State.phase_rel _ _ _) ?_
    exact Rel.refl _ _
  · split
    · refine Rel.of_eq (by assumption) ?_
      refine Rel.step (by decide) (State.askMig_rel _ _ _) ?_
      refine Rel.step (by decide) Rel.set_asks ?_
      exact Rel.refl _ _
    · refine Rel.step (by decide) (State.finish_rel _ _ _) ?_
      refine Rel.step (by decide) Rel.set_asks ?_
      refine Rel.of_eq (by assumption) ?_
      refine Rel.step (by decide) (State.askMig_rel _ _ _) ?_
      refine Rel.step (by decide) Rel.set_asks ?_
      exact Rel.refl _ _
  · refine Rel.step (by decide) (State.finish_rel _ _ _) ?_
    refine Rel.of_eq (by assumption) ?_
    refine Rel.step (by decide) (State.askMig_rel _ _ _) ?_
    refine Rel.step (by decide) Rel.set_asks ?_
    exact Rel.refl _ _

theorem State.placeAsks_rel (s : State) (x : Nat) : Rel [.out, .ctxs, .migs, .asks, .mailboxes, .handles, .log, .logNext, .logOverflow] s (State.placeAsks s x) := by
  unfold State.placeAsks
  refine Rel.foldl (fun _ _ => ?_) ?_
  · split
    · refine Rel.step (by decide) (State.placeAsk_rel _ _) ?_
      exact Rel.refl _ _
    · exact Rel.refl _ _
  · exact Rel.refl _ _

theorem State.releaseWindows_rel (s : State) : Rel [.ctxs, .ctrl, .ctrlNext, .macs, .ecnDraws, .counters] s (State.releaseWindows s) := by
  unfold State.releaseWindows
  extract_lets +onlyGivenNames x1; try clear_value x1
  refine Rel.foldl (fun _ _ => ?_) ?_
  · split
    · exact Rel.refl _ _
    · extract_lets +onlyGivenNames x2; (refine Rel.via (t := x2) ?_ (fun _ => ?_); (on_goal 2 => try clear_value x2); (on_goal 1 => unfold x2); (on_goal 1 => clear x2))
      · refine Rel.step (by decide) Rel.set_ctxs ?_
        exact Rel.refl _ _
      · refine Rel.step (by decide) (State.sendCtrl_rel _ _ _ _) ?_
        assumption
  · exact Rel.refl _ _

theorem State.stallEnds_rel (s : State) (m : Mig) : Rel [.ctxs] s (State.stallEnds s m) := by
  unfold State.stallEnds
  split
  · refine Rel.step (by decide) (State.count_rel _ _ _ _) ?_
    exact Rel.refl _ _
  · exact Rel.refl _ _

theorem State.tellLost_rel (s : State) (first : Nat) : Rel [.ctrl, .ctrlNext, .macs, .ecnDraws, .counters] s (State.tellLost s first) := by
  unfold State.tellLost
  refine Rel.foldl (fun _ _ => ?_) ?_
  · split
    · refine Rel.foldl (fun _ _ => ?_) ?_
      · refine Rel.step (by decide) (State.sendCtrl_rel _ _ _ _) ?_
        exact Rel.refl _ _
      · exact Rel.refl _ _
    · exact Rel.refl _ _
  · exact Rel.refl _ _

theorem State.unstall_rel (s : State) (x : Nat) (t : Nat) : Rel [.out, .clk, .mem, .cores, .ctxs, .migs, .stalled, .rowCopies, .tcache, .flows, .trk, .trkNext, .fcache, .atoms, .macs, .ecnDraws, .mailboxes, .log, .logNext, .logOverflow, .counters] s (State.unstall s x t) := by
  unfold State.unstall
  extract_lets +onlyGivenNames x1; try clear_value x1
  extract_lets +onlyGivenNames x2; (refine Rel.via (t := x2) ?_ (fun _ => ?_); (on_goal 2 => try clear_value x2); (on_goal 1 => unfold x2); (on_goal 1 => clear x2))
  · refine Rel.step (by decide) Rel.set_stalled ?_
    exact Rel.refl _ _
  · extract_lets +onlyGivenNames x3; (refine Rel.via (t := x3) ?_ (fun _ => ?_); (on_goal 2 => try clear_value x3); (on_goal 1 => unfold x3); (on_goal 1 => clear x3))
    · refine Rel.foldl (fun _ _ => ?_) ?_
      · refine Rel.step (by decide) (State.writeTile_rel _ _ _ _ _) ?_
        exact Rel.refl _ _
      · assumption
    · refine Rel.step (by decide) (State.retryLocal_rel _ _) ?_
      refine Rel.step (by decide) (State.rxRetry_rel _ _) ?_
      assumption

theorem State.verifyFails_rel (s : State) (x : Nat) (t : Nat) (line : Nat) (e : TileEntry) (region : Nat) : Rel [.out, .ctxs, .banks, .rowCopies, .retiredFrames, .mailboxes, .log, .logNext, .logOverflow] s (State.verifyFails s x t line e region) := by
  unfold State.verifyFails
  extract_lets +onlyGivenNames x1; try clear_value x1
  extract_lets +onlyGivenNames x2; (refine Rel.via (t := x2) ?_ (fun _ => ?_); (on_goal 2 => try clear_value x2); (on_goal 1 => unfold x2); (on_goal 1 => clear x2))
  · refine Rel.step (by decide) (State.tileError_rel _ _ _ _ _ _ _ _ _ _) ?_
    exact Rel.refl _ _
  · split
    · assumption
    · split
      · refine Rel.step (by decide) Rel.set_retiredFrames ?_
        assumption
      · extract_lets +onlyGivenNames x3; try clear_value x3
        extract_lets +onlyGivenNames x4; try clear_value x4
        extract_lets +onlyGivenNames x5; (refine Rel.via (t := x5) ?_ (fun _ => ?_); (on_goal 2 => try clear_value x5); (on_goal 1 => unfold x5); (on_goal 1 => clear x5))
        · refine Rel.step (by decide) (State.uncRow_rel _ _ _ _) ?_
          assumption
        · split
          · refine Rel.step (by decide) Rel.set_retiredFrames ?_
            assumption
          · assumption

theorem State.windowFilled_rel (s : State) (window : Nat) : Rel [.out, .mem, .ctxs, .lend, .mailboxes, .handles, .log, .logNext, .logOverflow] s (State.windowFilled s window) := by
  unfold State.windowFilled
  split
  · exact Rel.refl _ _
  · split
    · exact Rel.refl _ _
    · extract_lets +onlyGivenNames x1; (refine Rel.via (t := x1) ?_ (fun _ => ?_); (on_goal 2 => try clear_value x1); (on_goal 1 => unfold x1); (on_goal 1 => clear x1))
      · refine Rel.foldl (fun _ _ => ?_) ?_
        · refine Rel.step (by decide) (State.clearMem_rel _ _ _) ?_
          exact Rel.refl _ _
        · exact Rel.refl _ _
      · extract_lets +onlyGivenNames x2; (refine Rel.via (t := x2) ?_ (fun _ => ?_); (on_goal 2 => try clear_value x2); (on_goal 1 => unfold x2); (on_goal 1 => clear x2))
        · split
          · refine Rel.step (by decide) Rel.set_lend ?_
            assumption
          · refine Rel.step (by decide) Rel.set_lend ?_
            assumption
        · refine Rel.step (by decide) (State.finish_rel _ _ _) ?_
          assumption

theorem execBankSpare_next (layer : Nat) (slice : Nat) (bank : Nat) (s : State) : Next [.out, .ctxs, .migs, .asks, .withdrawn, .bankSpares, .culls, .ctrl, .ctrlNext, .macs, .ecnDraws, .mailboxes, .handles, .log, .logNext, .logOverflow, .counters] s (execBankSpare layer slice bank s) := by
  unfold execBankSpare
  extract_lets +onlyGivenNames x1; try clear_value x1
  extract_lets +onlyGivenNames x2; try clear_value x2
  extract_lets +onlyGivenNames x3; try clear_value x3
  extract_lets +onlyGivenNames x4; try clear_value x4
  extract_lets +onlyGivenNames x5; try clear_value x5
  split
  · refine Next.intro ?_
    exact Rel.refl _ _
  · extract_lets +onlyGivenNames x6; try clear_value x6
    extract_lets +onlyGivenNames x7; try clear_value x7
    extract_lets +onlyGivenNames x8; try clear_value x8
    extract_lets +onlyGivenNames x9; (refine Next.via (t := x9) ?_ (fun _ => ?_); (on_goal 2 => try clear_value x9); (on_goal 1 => unfold x9); (on_goal 1 => clear x9))
    · refine Rel.step (by decide) Rel.set_withdrawn_bankSpares ?_
      exact Rel.refl _ _
    · extract_lets +onlyGivenNames x10; (refine Next.via (t := x10) ?_ (fun _ => ?_); (on_goal 2 => try clear_value x10); (on_goal 1 => unfold x10); (on_goal 1 => clear x10))
      · refine Rel.foldl (fun _ _ => ?_) ?_
        · refine Rel.step (by decide) (State.askOrWait_rel _ _) ?_
          exact Rel.refl _ _
        · assumption
      · extract_lets +onlyGivenNames x11; (refine Next.via (t := x11) ?_ (fun _ => ?_); (on_goal 2 => try clear_value x11); (on_goal 1 => unfold x11); (on_goal 1 => clear x11))
        · refine Rel.step (by decide) (State.tellLost_rel _ _) ?_
          assumption
        · extract_lets +onlyGivenNames x12; try clear_value x12
          extract_lets +onlyGivenNames x13; try clear_value x13
          refine Next.intro ?_
          refine Rel.step (by decide) (State.addCullet_rel _ _) ?_
          assumption

theorem execContextFence_next (ctx : Nat) (ecc : Option EccHit) (s : State) : Next [.out, .fresh, .mem, .cores, .ctxs, .migs, .asks, .stalled, .banks, .rowCopies, .freed, .flows, .mailboxes, .handles, .log, .logNext, .logOverflow, .counters, .nand] s (execContextFence ctx ecc s) := by
  unfold execContextFence
  extract_lets +onlyGivenNames x1; (refine Next.via (t := x1) ?_ (fun _ => ?_); (on_goal 2 => try clear_value x1); (on_goal 1 => unfold x1); (on_goal 1 => clear x1))
  · refine Rel.step (by decide) (State.eccOpt_rel _ _ _) ?_
    exact Rel.refl _ _
  · refine Next.intro ?_
    split
    · refine Rel.step (by decide) (State.fence_rel _ _) ?_
      assumption
    · assumption

theorem execLaneSpare_next (layer : Nat) (slice : Nat) (lane : Nat) (s : State) : Next [.out, .fresh, .ctxs, .banks, .laneSpares, .culls, .mailboxes, .log, .logNext, .logOverflow] s (execLaneSpare layer slice lane s) := by
  unfold execLaneSpare
  extract_lets +onlyGivenNames x1; try clear_value x1
  extract_lets +onlyGivenNames x2; try clear_value x2
  extract_lets +onlyGivenNames x3; try clear_value x3
  extract_lets +onlyGivenNames x4; try clear_value x4
  split
  · refine Next.intro ?_
    exact Rel.refl _ _
  · extract_lets +onlyGivenNames x5; (refine Next.via (t := x5) ?_ (fun _ => ?_); (on_goal 2 => try clear_value x5); (on_goal 1 => unfold x5); (on_goal 1 => clear x5))
    · refine Rel.step (by decide) Rel.set_banks_laneSpares ?_
      exact Rel.refl _ _
    · extract_lets +onlyGivenNames x6; try clear_value x6
      extract_lets +onlyGivenNames x7; try clear_value x7
      refine Next.intro ?_
      refine Rel.step (by decide) (State.addCullet_rel _ _) ?_
      refine Rel.step (by decide) (State.draw_rel _) ?_
      assumption

theorem execMigrationAbort_next (ctx : Nat) (tile : Nat) (cause : AbortCause) (s : State) : Next [.out, .fresh, .ctxs, .migs, .banks, .rowCopies, .retiredFrames, .mailboxes, .log, .logNext, .logOverflow] s (execMigrationAbort ctx tile cause s) := by
  unfold execMigrationAbort
  extract_lets +onlyGivenNames x1; try clear_value x1
  extract_lets +onlyGivenNames x2; try clear_value x2
  split
  · refine Next.intro ?_
    exact Rel.refl _ _
  · split
    · refine Next.intro ?_
      exact Rel.refl _ _
    · split
      · extract_lets +onlyGivenNames x3; try clear_value x3
        refine Next.intro ?_
        refine Rel.step (by decide) (State.uncorrectable_rel _ _ _ _ _ _ _ _) ?_
        refine Rel.step (by decide) (State.abortMig_rel _ _ _ _) ?_
        refine Rel.step (by decide) (State.draw_rel _) ?_
        exact Rel.refl _ _
      · extract_lets +onlyGivenNames x4; try clear_value x4
        refine Next.intro ?_
        refine Rel.step (by decide) (State.verifyFails_rel _ _ _ _ _ _) ?_
        refine Rel.step (by decide) (State.abortMig_rel _ _ _ _) ?_
        refine Rel.step (by decide) (State.draw_rel _) ?_
        exact Rel.refl _ _
      · refine Next.intro ?_
        split
        · refine Rel.step (by decide) (State.abortMig_rel _ _ _ _) ?_
          exact Rel.refl _ _
        · exact Rel.refl _ _
      · refine Next.intro ?_
        split
        · refine Rel.step (by decide) (State.abortMig_rel _ _ _ _) ?_
          exact Rel.refl _ _
        · exact Rel.refl _ _
      · refine Next.intro ?_
        split
        · refine Rel.step (by decide) (State.abortMig_rel _ _ _ _) ?_
          exact Rel.refl _ _
        · exact Rel.refl _ _

theorem execMigrationAbortDone_next (ctx : Nat) (tile : Nat) (s : State) : Next [.out, .clk, .mem, .cores, .ctxs, .migs, .asks, .stalled, .rowCopies, .freed, .tcache, .flows, .trk, .trkNext, .fcache, .atoms, .macs, .ecnDraws, .mailboxes, .handles, .log, .logNext, .logOverflow, .counters] s (execMigrationAbortDone ctx tile s) := by
  unfold execMigrationAbortDone
  split
  · refine Next.intro ?_
    exact Rel.refl _ _
  · extract_lets +onlyGivenNames x1; try clear_value x1
    extract_lets +onlyGivenNames x2; try clear_value x2
    split
    · refine Next.intro ?_
      exact Rel.refl _ _
    · extract_lets +onlyGivenNames x3; (refine Next.via (t := x3) ?_ (fun _ => ?_); (on_goal 2 => try clear_value x3); (on_goal 1 => unfold x3); (on_goal 1 => clear x3))
      · refine Rel.step (by decide) (State.setCtx_rel _ _ _) ?_
        exact Rel.refl _ _
      · extract_lets +onlyGivenNames x4; (refine Next.via (t := x4) ?_ (fun _ => ?_); (on_goal 2 => try clear_value x4); (on_goal 1 => unfold x4); (on_goal 1 => clear x4))
        · refine Rel.step (by decide) (State.releaseFrame_rel _ _ _ _ _ _) ?_
          assumption
        · extract_lets +onlyGivenNames x5; (refine Next.via (t := x5) ?_ (fun _ => ?_); (on_goal 2 => try clear_value x5); (on_goal 1 => unfold x5); (on_goal 1 => clear x5))
          · refine Rel.step (by decide) Rel.set_migs ?_
            assumption
          · extract_lets +onlyGivenNames x6; (refine Next.via (t := x6) ?_ (fun _ => ?_); (on_goal 2 => try clear_value x6); (on_goal 1 => unfold x6); (on_goal 1 => clear x6))
            · refine Rel.step (by decide) (State.unstall_rel _ _ _) ?_
              refine Rel.step (by decide) (State.stallEnds_rel _ _) ?_
              assumption
            · extract_lets +onlyGivenNames x7; try clear_value x7
              extract_lets +onlyGivenNames x8; (refine Next.via (t := x8) ?_ (fun _ => ?_); (on_goal 2 => try clear_value x8); (on_goal 1 => unfold x8); (on_goal 1 => clear x8))
              · split
                · split
                  · refine Rel.of_eq (by assumption) ?_
                    refine Rel.step (by decide) (State.askMig_rel _ _ _) ?_
                    assumption
                  · refine Rel.step (by decide) (State.finish_rel _ _ _) ?_
                    refine Rel.of_eq (by assumption) ?_
                    refine Rel.step (by decide) (State.askMig_rel _ _ _) ?_
                    assumption
                  · refine Rel.step (by decide) (State.finish_rel _ _ _) ?_
                    refine Rel.of_eq (by assumption) ?_
                    refine Rel.step (by decide) (State.askMig_rel _ _ _) ?_
                    assumption
                · split
                  · refine Rel.step (by decide) (State.askElsewhere_rel _ _ _ _) ?_
                    assumption
                  · refine Rel.step (by decide) (State.finish_rel _ _ _) ?_
                    assumption
              · refine Next.intro ?_
                refine Rel.step (by decide) (State.placeAsks_rel _ _) ?_
                assumption

theorem execMigrationCommit_next (ctx : Nat) (tile : Nat) (s : State) : Next [.out, .clk, .mem, .cores, .ctxs, .migs, .asks, .stalled, .rowCopies, .freed, .tcache, .flows, .trk, .trkNext, .ctrl, .ctrlNext, .fcache, .atoms, .macs, .ecnDraws, .mailboxes, .handles, .log, .logNext, .logOverflow, .counters] s (execMigrationCommit ctx tile s) := by
  unfold execMigrationCommit
  split
  · refine Next.intro ?_
    exact Rel.refl _ _
  · extract_lets +onlyGivenNames x1; try clear_value x1
    extract_lets +onlyGivenNames x2; try clear_value x2
    split
    · refine Next.intro ?_
      exact Rel.refl _ _
    · extract_lets +onlyGivenNames x3; try clear_value x3
      extract_lets +onlyGivenNames x4; (refine Next.via (t := x4) ?_ (fun _ => ?_); (on_goal 2 => try clear_value x4); (on_goal 1 => unfold x4); (on_goal 1 => clear x4))
      · split
        · exact Rel.refl _ _
        · refine Rel.step (by decide) (State.releaseEntry_rel _ _ _ _) ?_
          exact Rel.refl _ _
      · extract_lets +onlyGivenNames x5; (refine Next.via (t := x5) ?_ (fun _ => ?_); (on_goal 2 => try clear_value x5); (on_goal 1 => unfold x5); (on_goal 1 => clear x5))
        · refine Rel.step (by decide) (State.setCtx_rel _ _ _) ?_
          assumption
        · extract_lets +onlyGivenNames x6; (refine Next.via (t := x6) ?_ (fun _ => ?_); (on_goal 2 => try clear_value x6); (on_goal 1 => unfold x6); (on_goal 1 => clear x6))
          · refine Rel.step (by decide) (State.invalidate_rel _ _ _) ?_
            assumption
          · extract_lets +onlyGivenNames x7; (refine Next.via (t := x7) ?_ (fun _ => ?_); (on_goal 2 => try clear_value x7); (on_goal 1 => unfold x7); (on_goal 1 => clear x7))
            · refine Rel.step (by decide) Rel.set_migs ?_
              assumption
            · extract_lets +onlyGivenNames x8; (refine Next.via (t := x8) ?_ (fun _ => ?_); (on_goal 2 => try clear_value x8); (on_goal 1 => unfold x8); (on_goal 1 => clear x8))
              · refine Rel.step (by decide) (State.migDone_rel _ _) ?_
                refine Rel.step (by decide) (State.stallEnds_rel _ _) ?_
                refine Rel.step (by decide) (State.count_rel _ _ _ _) ?_
                assumption
              · refine Next.intro ?_
                refine Rel.step (by decide) (State.releaseWindows_rel _) ?_
                refine Rel.step (by decide) (State.placeAsks_rel _ _) ?_
                refine Rel.step (by decide) (State.unstall_rel _ _ _) ?_
                assumption

theorem execMigrationCopyDone_next (ctx : Nat) (tile : Nat) (s : State) : Next [.mem, .cores, .ctxs, .rowCopies] s (execMigrationCopyDone ctx tile s) := by
  unfold execMigrationCopyDone
  split
  · refine Next.intro ?_
    exact Rel.refl _ _
  · extract_lets +onlyGivenNames x1; try clear_value x1
    extract_lets +onlyGivenNames x2; try clear_value x2
    split
    · refine Next.intro ?_
      exact Rel.refl _ _
    · extract_lets +onlyGivenNames x3; try clear_value x3
      extract_lets +onlyGivenNames x4; (refine Next.via (t := x4) ?_ (fun _ => ?_); (on_goal 2 => try clear_value x4); (on_goal 1 => unfold x4); (on_goal 1 => clear x4))
      · split
        · exact Rel.refl _ _
        · refine Rel.step (by decide) (State.ownWindow_rel _ _ _ _) ?_
          refine Rel.step (by decide) (State.memCopy_rel _ _ _ _) ?_
          exact Rel.refl _ _
      · refine Next.intro ?_
        refine Rel.step (by decide) (State.setCtx_rel _ _ _) ?_
        assumption

theorem execMigrationSlotGrant_next (ctx : Nat) (s : State) : Next [.out, .ctxs, .migs, .asks, .migRr, .mailboxes, .handles, .log, .logNext, .logOverflow] s (execMigrationSlotGrant ctx s) := by
  unfold execMigrationSlotGrant
  split
  · refine Next.intro ?_
    exact Rel.refl _ _
  · split
    · refine Next.intro ?_
      exact Rel.refl _ _
    · extract_lets +onlyGivenNames x1; try clear_value x1
      extract_lets +onlyGivenNames x2; try clear_value x2
      extract_lets +onlyGivenNames x3; (refine Next.via (t := x3) ?_ (fun _ => ?_); (on_goal 2 => try clear_value x3); (on_goal 1 => unfold x3); (on_goal 1 => clear x3))
      · refine Rel.step (by decide) (State.setCtx_rel _ _ _) ?_
        exact Rel.refl _ _
      · extract_lets +onlyGivenNames x4; (refine Next.via (t := x4) ?_ (fun _ => ?_); (on_goal 2 => try clear_value x4); (on_goal 1 => unfold x4); (on_goal 1 => clear x4))
        · split
          · assumption
          · refine Rel.step (by decide) Rel.set_migRr ?_
            assumption
        · refine Next.intro ?_
          refine Rel.step (by decide) (State.placeAsks_rel _ _) ?_
          assumption

theorem execReclaimDeadline_next (side : LendSide) (s : State) : Next [.out, .clk, .ctxs, .lend, .mailboxes, .log, .logNext, .logOverflow] s (execReclaimDeadline side s) := by
  unfold execReclaimDeadline
  split
  · split
    · split
      · refine Next.intro ?_
        refine Rel.step (by decide) (State.revoke_rel _ _) ?_
        refine Rel.step (by decide) (State.toTai_rel _ _) ?_
        exact Rel.refl _ _
      · refine Next.intro ?_
        exact Rel.refl _ _
    · refine Next.intro ?_
      exact Rel.refl _ _
  · split
    · refine Next.intro ?_
      exact Rel.refl _ _
    · refine Next.intro ?_
      refine Rel.step (by decide) (State.loseWindow_rel _ _ _ _) ?_
      refine Rel.step (by decide) (State.toTai_rel _ _) ?_
      exact Rel.refl _ _

theorem execResidencyPass_next (ctx : Nat) (moves : List MoveReq) (s : State) : Next [.out, .clk, .ctxs, .migs, .asks, .mailboxes, .handles, .log, .logNext, .logOverflow] s (execResidencyPass ctx moves s) := by
  unfold execResidencyPass
  extract_lets +onlyGivenNames x1; try clear_value x1
  split
  · refine Next.intro ?_
    exact Rel.refl _ _
  · extract_lets +onlyGivenNames x2; (refine Next.via (t := x2) ?_ (fun _ => ?_); (on_goal 2 => try clear_value x2); (on_goal 1 => unfold x2); (on_goal 1 => clear x2))
    · split
      · refine Rel.step (by decide) (State.toTai_rel _ _) ?_
        exact Rel.refl _ _
      · exact Rel.refl _ _
    · extract_lets +onlyGivenNames x3; (refine Next.via (t := x3) ?_ (fun _ => ?_); (on_goal 2 => try clear_value x3); (on_goal 1 => unfold x3); (on_goal 1 => clear x3))
      · refine Rel.step (by decide) (State.updCtx_rel _ _ _) ?_
        assumption
      · refine Next.intro ?_
        refine Rel.foldl (fun _ _ => ?_) ?_
        · split
          · exact Rel.refl _ _
          · refine Rel.step (by decide) (State.askMig_rel _ _ _) ?_
            exact Rel.refl _ _
        · assumption

theorem execRowSpareSwitch_next (loc : BankLoc) (row : Nat) (s : State) : Next [.out, .fresh, .mem, .ctxs, .banks, .rowCopies, .rowMap, .culls, .mailboxes, .log, .logNext, .logOverflow] s (execRowSpareSwitch loc row s) := by
  unfold execRowSpareSwitch
  split
  · refine Next.intro ?_
    exact Rel.refl _ _
  · extract_lets +onlyGivenNames x1; try clear_value x1
    extract_lets +onlyGivenNames x2; try clear_value x2
    extract_lets +onlyGivenNames x3; (refine Next.via (t := x3) ?_ (fun _ => ?_); (on_goal 2 => try clear_value x3); (on_goal 1 => unfold x3); (on_goal 1 => clear x3))
    · refine Rel.step (by decide) (State.draw_rel _) ?_
      exact Rel.refl _ _
    · extract_lets +onlyGivenNames x4; (refine Next.via (t := x4) ?_ (fun _ => ?_); (on_goal 2 => try clear_value x4); (on_goal 1 => unfold x4); (on_goal 1 => clear x4))
      · refine Rel.step (by decide) Rel.set_banks_rowCopies_rowMap ?_
        assumption
      · extract_lets +onlyGivenNames x5; (refine Next.via (t := x5) ?_ (fun _ => ?_); (on_goal 2 => try clear_value x5); (on_goal 1 => unfold x5); (on_goal 1 => clear x5))
        · refine Rel.foldl (fun _ _ => ?_) ?_
          · refine Rel.step (by decide) (State.memWrite_rel _ _ _) ?_
            exact Rel.refl _ _
          · assumption
        · refine Next.intro ?_
          refine Rel.step (by decide) (State.addCullet_rel _ _) ?_
          assumption

theorem execSliceTemperatureChange_next (layer : Nat) (slice : Nat) (centi : Int) (s : State) : Next [.power] s (execSliceTemperatureChange layer slice centi s) := by
  unfold execSliceTemperatureChange
  extract_lets +onlyGivenNames x1; try clear_value x1
  extract_lets +onlyGivenNames x2
  refine Next.intro ?_
  refine Rel.step (by decide) (Rel.set_power (hp := ?_)) ?_
  · exact fun h => ⟨h.1, h.2.1, h.2.2.1, h.2.2.2⟩
  · exact Rel.refl _ _

end Sys2Proof.Machine
end

