-- ==== Sys2Proof/Laws/FlowCtl.lean ====
section
/-! SUPPORT. What the operations and the meanings of Machine/FlowCtl.lean can change: for each operation the fields of the state it may change, and
for each meaning that it answers a next state and the fields that it may change; all of them keep the invariant. -/

namespace Sys2Proof.Machine

theorem State.loseFlow_rel (s : State) (f : Nat) : Rel [.flows, .ctrl, .ctrlNext, .macs, .ecnDraws, .counters] s (State.loseFlow s f) := by
  unfold State.loseFlow
  split
  · exact Rel.refl _ _
  · split
    · exact Rel.refl _ _
    · refine Rel.step (by decide) (State.sendCtrl_rel _ _ _ _) ?_
      refine Rel.step (by decide) (State.setFlow_rel _ _ _) ?_
      exact Rel.refl _ _

theorem State.measure_rel (s : State) (port : Nat) (dev : Nat) (f : LinkMeasure → LinkMeasure) : Rel [.links] s (State.measure s port dev f) := by
  unfold State.measure
  extract_lets +onlyGivenNames x1; try clear_value x1
  extract_lets +onlyGivenNames x2; try clear_value x2
  split
  · refine Rel.step (by decide) Rel.set_links ?_
    exact Rel.refl _ _
  · refine Rel.step (by decide) Rel.set_links ?_
    exact Rel.refl _ _

theorem State.releaseBy_rel (s : State) (w : Nat) (src : Nat) : Rel [.lend, .handles] s (State.releaseBy s w src) := by
  unfold State.releaseBy
  split
  · exact Rel.refl _ _
  · split
    · exact Rel.refl _ _
    · extract_lets +onlyGivenNames x1; try clear_value x1
      extract_lets +onlyGivenNames x2; (refine Rel.via (t := x2) ?_ (fun _ => ?_); (on_goal 2 => try clear_value x2); (on_goal 1 => unfold x2); (on_goal 1 => clear x2))
      · refine Rel.step (by decide) Rel.set_lend ?_
        exact Rel.refl _ _
      · extract_lets +onlyGivenNames x3; (refine Rel.via (t := x3) ?_ (fun _ => ?_); (on_goal 2 => try clear_value x3); (on_goal 1 => unfold x3); (on_goal 1 => clear x3))
        · refine Rel.step (by decide) (State.progress1_rel _ _) ?_
          assumption
        · split
          · refine Rel.step (by decide) (State.revoke_rel _ _) ?_
            assumption
          · assumption

theorem State.rxCtrl_rel {l : List Fld} {s0 : State} {s : State} {mac : Nat} {op : Nat} {p : Pkt} {ok : List Byte → Bool} {act : State → List Byte → State}
    (hsub : subF [.out, .fresh, .ctrlSeen, .macs, .ecnDraws, .counters] l = true) (hact0 : ∀ u a1, Rel l u (act u a1)) (hrel : Rel l s0 s) : Rel l s0 (State.rxCtrl s mac op p ok act) := by
  unfold State.rxCtrl
  extract_lets +onlyGivenNames x1; try clear_value x1
  extract_lets +onlyGivenNames x2; try clear_value x2
  extract_lets +onlyGivenNames x3; (refine Rel.via (t := x3) ?_ (fun _ => ?_); (on_goal 2 => try clear_value x3); (on_goal 1 => unfold x3); (on_goal 1 => clear x3))
  · refine Rel.step (subF_trans (by decide) hsub) (State.occupy_rel _ _ _ _) ?_
    refine Rel.step (subF_trans (by decide) hsub) (State.countRx_rel _ _ _ _) ?_
    assumption
  · split
    · refine Rel.step (subF_trans (by decide) hsub) (State.countFab_rel _ _) ?_
      assumption
    · split
      · refine Rel.step (subF_trans (by decide) hsub) (State.countFab_rel _ _) ?_
        assumption
      · split
        · refine Rel.step (subF_trans (by decide) hsub) (State.countFab_rel _ _) ?_
          assumption
        · split
          · assumption
          · extract_lets +onlyGivenNames x4; try clear_value x4
            extract_lets +onlyGivenNames x5; try clear_value x5
            extract_lets +onlyGivenNames x6; (refine Rel.via (t := x6) ?_ (fun _ => ?_); (on_goal 2 => try clear_value x6); (on_goal 1 => unfold x6); (on_goal 1 => clear x6))
            · refine Rel.step (subF_trans (by decide) hsub) (State.emitCtrl_rel _ _ _ _ _) ?_
              assumption
            · extract_lets +onlyGivenNames x7; try clear_value x7
              split
              · refine Rel.step (subF_trans (by decide) hsub) Rel.set_ctrlSeen ?_
                assumption
              · refine Rel.trans ?_ (hact0 _ _)
                refine Rel.step (subF_trans (by decide) hsub) Rel.set_ctrlSeen ?_
                assumption

theorem State.sendProbes_rel (s : State) (port : Nat) (peer : Nat) : Rel [.ctrl, .ctrlNext, .probes, .macs, .ecnDraws, .counters] s (State.sendProbes s port peer) := by
  unfold State.sendProbes
  refine Rel.foldl (fun _ _ => ?_) ?_
  · split
    · exact Rel.refl _ _
    · extract_lets +onlyGivenNames x1; (refine Rel.via (t := x1) ?_ (fun _ => ?_); (on_goal 2 => try clear_value x1); (on_goal 1 => unfold x1); (on_goal 1 => clear x1))
      · refine Rel.step (by decide) Rel.set_probes ?_
        exact Rel.refl _ _
      · refine Rel.step (by decide) (State.sendCtrl_rel _ _ _ _) ?_
        assumption
  · exact Rel.refl _ _

theorem State.takeOpen_rel (s : State) (src : Nat) (b : List Byte) : Rel [.fresh, .ctxs, .flows, .ctrl, .ctrlNext, .macs, .ecnDraws, .counters] s (State.takeOpen s src b) := by
  unfold State.takeOpen
  extract_lets +onlyGivenNames x1; try clear_value x1
  extract_lets +onlyGivenNames x2; try clear_value x2
  extract_lets +onlyGivenNames x3; try clear_value x3
  extract_lets +onlyGivenNames x4; try clear_value x4
  extract_lets +onlyGivenNames x5
  extract_lets +onlyGivenNames x6; try clear_value x6
  split
  · unfold x5
    refine Rel.step (by decide) (State.sendCtrl_rel _ _ _ _) ?_
    exact Rel.refl _ _
  · split
    · unfold x5
      refine Rel.step (by decide) (State.sendCtrl_rel _ _ _ _) ?_
      exact Rel.refl _ _
    · split
      · unfold x5
        refine Rel.step (by decide) (State.sendCtrl_rel _ _ _ _) ?_
        exact Rel.refl _ _
      · split
        · unfold x5
          refine Rel.step (by decide) (State.sendCtrl_rel _ _ _ _) ?_
          exact Rel.refl _ _
        · split
          · refine Rel.step (by decide) (State.sendCtrl_rel _ _ _ _) ?_
            exact Rel.refl _ _
          · extract_lets +onlyGivenNames x7; try clear_value x7
            split
            · exact Rel.refl _ _
            · extract_lets +onlyGivenNames x8; (refine Rel.via (t := x8) ?_ (fun _ => ?_); (on_goal 2 => try clear_value x8); (on_goal 1 => unfold x8); (on_goal 1 => clear x8))
              · split
                · refine Rel.step (by decide) Rel.set_flows_ctrl ?_
                  exact Rel.refl _ _
                · exact Rel.refl _ _
              · split
                · unfold x5
                  refine Rel.step (by decide) (State.sendCtrl_rel _ _ _ _) ?_
                  assumption
                · extract_lets +onlyGivenNames x9; try clear_value x9
                  extract_lets +onlyGivenNames x10; try clear_value x10
                  extract_lets +onlyGivenNames x11; (refine Rel.via (t := x11) ?_ (fun _ => ?_); (on_goal 2 => try clear_value x11); (on_goal 1 => unfold x11); (on_goal 1 => clear x11))
                  · refine Rel.step (by decide) (State.setFlow_rel _ _ _) ?_
                    refine Rel.step (by decide) (State.draw_rel _) ?_
                    assumption
                  · extract_lets +onlyGivenNames x12; (refine Rel.via (t := x12) ?_ (fun _ => ?_); (on_goal 2 => try clear_value x12); (on_goal 1 => unfold x12); (on_goal 1 => clear x12))
                    · split
                      · refine Rel.step (by decide) (State.bindFlow_rel _ _ _ _ _) ?_
                        assumption
                      · assumption
                    · refine Rel.step (by decide) (State.sendCtrl_rel _ _ _ _) ?_
                      assumption

theorem State.unreachable_rel (s : State) (peer : Nat) : Rel [.out, .fresh, .cores, .ctxs, .flows, .trk, .trkNext, .ctrl, .ctrlNext, .fcache, .macs, .ecnDraws, .mailboxes, .log, .logNext, .logOverflow, .counters] s (State.unreachable s peer) := by
  unfold State.unreachable
  extract_lets +onlyGivenNames x1; try clear_value x1
  extract_lets +onlyGivenNames x2; (refine Rel.via (t := x2) ?_ (fun _ => ?_); (on_goal 2 => try clear_value x2); (on_goal 1 => unfold x2); (on_goal 1 => clear x2))
  · refine Rel.foldl (fun _ _ => ?_) ?_
    · split
      · refine Rel.step (by decide) (State.dropFlow_rel _ _) ?_
        exact Rel.refl _ _
      · refine Rel.step (by decide) (State.failFlow_rel _ _) ?_
        exact Rel.refl _ _
    · exact Rel.refl _ _
  · extract_lets +onlyGivenNames x3; try clear_value x3
    extract_lets +onlyGivenNames x4; (refine Rel.via (t := x4) ?_ (fun _ => ?_); (on_goal 2 => try clear_value x4); (on_goal 1 => unfold x4); (on_goal 1 => clear x4))
    · refine Rel.foldl (fun _ _ => ?_) ?_
      · refine Rel.step (by decide) (State.loseWindow_rel _ _ _ _) ?_
        exact Rel.refl _ _
      · assumption
    · refine Rel.step (by decide) Rel.set_ctrl ?_
      assumption

theorem execCloseDone_next (mac : Nat) (p : Pkt) (s : State) : Next [.out, .fresh, .ctxs, .flows, .ctrl, .ctrlSeen, .ctrlNext, .fcache, .macs, .ecnDraws, .counters] s (execCloseDone mac p s) := by
  unfold execCloseDone
  refine Next.intro ?_
  refine State.rxCtrl_rel (by decide) (fun _ _ => ?_) ?_
  · split
    · refine Rel.step (by decide) (State.closeIfDone_rel _ _) ?_
      refine Rel.step (by decide) (State.updFlow_rel _ _ _) ?_
      exact Rel.refl _ _
    · exact Rel.refl _ _
  · exact Rel.refl _ _

theorem execCloseFlow_next (mac : Nat) (p : Pkt) (s : State) : Next [.out, .fresh, .ctxs, .flows, .ctrl, .ctrlSeen, .ctrlNext, .fcache, .macs, .ecnDraws, .counters] s (execCloseFlow mac p s) := by
  unfold execCloseFlow
  refine Next.intro ?_
  refine State.rxCtrl_rel (by decide) (fun _ _ => ?_) ?_
  · split
    · refine Rel.step (by decide) (State.closeIfDone_rel _ _) ?_
      refine Rel.step (by decide) (State.updFlow_rel _ _ _) ?_
      exact Rel.refl _ _
    · exact Rel.refl _ _
  · exact Rel.refl _ _

theorem execCtrlAck_next (mac : Nat) (p : Pkt) (s : State) : Next [.out, .fresh, .ctxs, .flows, .ctrl, .macs, .ecnDraws, .counters] s (execCtrlAck mac p s) := by
  unfold execCtrlAck
  extract_lets +onlyGivenNames x1; try clear_value x1
  extract_lets +onlyGivenNames x2; try clear_value x2
  extract_lets +onlyGivenNames x3; (refine Next.via (t := x3) ?_ (fun _ => ?_); (on_goal 2 => try clear_value x3); (on_goal 1 => unfold x3); (on_goal 1 => clear x3))
  · refine Rel.step (by decide) (State.occupy_rel _ _ _ _) ?_
    refine Rel.step (by decide) (State.countRx_rel _ _ _ _) ?_
    exact Rel.refl _ _
  · split
    · refine Next.intro ?_
      refine Rel.step (by decide) (State.countFab_rel _ _) ?_
      assumption
    · split
      · refine Next.intro ?_
        refine Rel.step (by decide) (State.countFab_rel _ _) ?_
        assumption
      · split
        · refine Next.intro ?_
          refine Rel.step (by decide) (State.countFab_rel _ _) ?_
          assumption
        · extract_lets +onlyGivenNames x4; try clear_value x4
          split
          · refine Next.intro ?_
            assumption
          · extract_lets +onlyGivenNames x5; (refine Next.via (t := x5) ?_ (fun _ => ?_); (on_goal 2 => try clear_value x5); (on_goal 1 => unfold x5); (on_goal 1 => clear x5))
            · refine Rel.step (by decide) (State.endCtrl_rel _ _ _) ?_
              assumption
            · split
              · refine Next.intro ?_
                assumption
              · extract_lets +onlyGivenNames x6; try clear_value x6
                extract_lets +onlyGivenNames x7; try clear_value x7
                split
                · refine Next.intro ?_
                  assumption
                · extract_lets +onlyGivenNames x8; (refine Next.via (t := x8) ?_ (fun _ => ?_); (on_goal 2 => try clear_value x8); (on_goal 1 => unfold x8); (on_goal 1 => clear x8))
                  · refine Rel.step (by decide) (State.setFlow_rel _ _ _) ?_
                    assumption
                  · refine Next.intro ?_
                    split
                    · refine Rel.step (by decide) (State.updJob_rel _ _ _) ?_
                      assumption
                    · assumption

theorem execCtrlRetransmitTimeout_next (peer : Nat) (msgId : Nat) (s : State) : Next [.out, .fresh, .clk, .cores, .ctxs, .flows, .trk, .trkNext, .ctrl, .ctrlNext, .fcache, .macs, .ecnDraws, .mailboxes, .log, .logNext, .logOverflow, .counters] s (execCtrlRetransmitTimeout peer msgId s) := by
  unfold execCtrlRetransmitTimeout
  split
  · refine Next.intro ?_
    exact Rel.refl _ _
  · extract_lets +onlyGivenNames x1; (refine Next.via (t := x1) ?_ (fun _ => ?_); (on_goal 2 => try clear_value x1); (on_goal 1 => unfold x1); (on_goal 1 => clear x1))
    · refine Rel.step (by decide) (State.toTai_rel _ _) ?_
      exact Rel.refl _ _
    · split
      · refine Next.intro ?_
        refine Rel.step (by decide) (State.unreachable_rel _ _) ?_
        assumption
      · extract_lets +onlyGivenNames x2; (refine Next.via (t := x2) ?_ (fun _ => ?_); (on_goal 2 => try clear_value x2); (on_goal 1 => unfold x2); (on_goal 1 => clear x2))
        · refine Rel.step (by decide) Rel.set_ctrl ?_
          assumption
        · refine Next.intro ?_
          refine Rel.step (by decide) (State.countFab_rel _ _) ?_
          refine Rel.step (by decide) (State.emitCtrl_rel _ _ _ _ _) ?_
          assumption

theorem execOpenAccept_next (mac : Nat) (p : Pkt) (s : State) : Next [.out, .fresh, .flows, .ctrlSeen, .macs, .ecnDraws, .counters] s (execOpenAccept mac p s) := by
  unfold execOpenAccept
  refine Next.intro ?_
  refine State.rxCtrl_rel (by decide) (fun _ _ => ?_) ?_
  · extract_lets +onlyGivenNames x1; try clear_value x1
    extract_lets +onlyGivenNames x2; try clear_value x2
    split
    · exact Rel.refl _ _
    · refine Rel.step (by decide) (State.setFlow_rel _ _ _) ?_
      exact Rel.refl _ _
  · exact Rel.refl _ _

theorem execOpenFlow_next (mac : Nat) (p : Pkt) (s : State) : Next [.out, .fresh, .ctxs, .flows, .ctrl, .ctrlSeen, .ctrlNext, .macs, .ecnDraws, .counters] s (execOpenFlow mac p s) := by
  unfold execOpenFlow
  refine Next.intro ?_
  refine State.rxCtrl_rel (by decide) (fun _ _ => ?_) ?_
  · refine Rel.step (by decide) (State.takeOpen_rel _ _ _) ?_
    exact Rel.refl _ _
  · exact Rel.refl _ _

theorem execOpenRefuse_next (mac : Nat) (p : Pkt) (s : State) : Next [.out, .fresh, .ctxs, .flows, .ctrl, .ctrlSeen, .ctrlNext, .fcache, .macs, .ecnDraws, .counters] s (execOpenRefuse mac p s) := by
  unfold execOpenRefuse
  refine Next.intro ?_
  refine State.rxCtrl_rel (by decide) (fun _ _ => ?_) ?_
  · extract_lets +onlyGivenNames x1; try clear_value x1
    extract_lets +onlyGivenNames x2; try clear_value x2
    split
    · exact Rel.refl _ _
    · refine Rel.step (by decide) (State.dropFlow_rel _ _) ?_
      exact Rel.refl _ _
  · exact Rel.refl _ _

theorem execProbe_next (mac : Nat) (p : Pkt) (s : State) : Next [.out, .fresh, .ctrl, .ctrlSeen, .ctrlNext, .macs, .ecnDraws, .counters] s (execProbe mac p s) := by
  unfold execProbe
  refine Next.intro ?_
  refine State.rxCtrl_rel (by decide) (fun _ _ => ?_) ?_
  · refine Rel.step (by decide) (State.sendCtrl_rel _ _ _ _) ?_
    exact Rel.refl _ _
  · exact Rel.refl _ _

theorem execProbeReply_next (mac : Nat) (p : Pkt) (s : State) : Next [.out, .fresh, .ctrlSeen, .probes, .probeLast, .links, .macs, .ecnDraws, .counters] s (execProbeReply mac p s) := by
  unfold execProbeReply
  refine Next.intro ?_
  refine State.rxCtrl_rel (by decide) (fun _ _ => ?_) ?_
  · extract_lets +onlyGivenNames x1; try clear_value x1
    extract_lets +onlyGivenNames x2; try clear_value x2
    extract_lets +onlyGivenNames x3; try clear_value x3
    split
    · exact Rel.refl _ _
    · extract_lets +onlyGivenNames x4; (refine Rel.via (t := x4) ?_ (fun _ => ?_); (on_goal 2 => try clear_value x4); (on_goal 1 => unfold x4); (on_goal 1 => clear x4))
      · refine Rel.step (by decide) Rel.set_probes ?_
        exact Rel.refl _ _
      · split
        · extract_lets +onlyGivenNames x5; try clear_value x5
          extract_lets +onlyGivenNames x6; try clear_value x6
          refine Rel.step (by decide) (State.measure_rel _ _ _ _) ?_
          refine Rel.step (by decide) (State.draw_rel _) ?_
          assumption
        · split
          · extract_lets +onlyGivenNames x7; try clear_value x7
            extract_lets +onlyGivenNames x8; (refine Rel.via (t := x8) ?_ (fun _ => ?_); (on_goal 2 => try clear_value x8); (on_goal 1 => unfold x8); (on_goal 1 => clear x8))
            · refine Rel.step (by decide) Rel.set_probeLast ?_
              assumption
            · split
              · split
                · extract_lets +onlyGivenNames x9; try clear_value x9
                  refine Rel.step (by decide) (State.measure_rel _ _ _ _) ?_
                  assumption
                · assumption
              · assumption
          · assumption
  · exact Rel.refl _ _

theorem execReclaimNotice_next (mac : Nat) (p : Pkt) (s : State) : Next [.out, .fresh, .ctxs, .migs, .asks, .ctrl, .ctrlSeen, .ctrlNext, .macs, .ecnDraws, .mailboxes, .handles, .log, .logNext, .logOverflow, .counters] s (execReclaimNotice mac p s) := by
  unfold execReclaimNotice
  refine Next.intro ?_
  refine State.rxCtrl_rel (by decide) (fun _ _ => ?_) ?_
  · extract_lets +onlyGivenNames x1; try clear_value x1
    extract_lets +onlyGivenNames x2; try clear_value x2
    extract_lets +onlyGivenNames x3; try clear_value x3
    extract_lets +onlyGivenNames x4; try clear_value x4
    extract_lets +onlyGivenNames x5; (refine Rel.via (t := x5) ?_ (fun _ => ?_); (on_goal 2 => try clear_value x5); (on_goal 1 => unfold x5); (on_goal 1 => clear x5))
    · refine Rel.step (by decide) Rel.set_ctxs ?_
      exact Rel.refl _ _
    · extract_lets +onlyGivenNames x6; try clear_value x6
      extract_lets +onlyGivenNames x7; (refine Rel.via (t := x7) ?_ (fun _ => ?_); (on_goal 2 => try clear_value x7); (on_goal 1 => unfold x7); (on_goal 1 => clear x7))
      · refine Rel.foldl (fun _ _ => ?_) ?_
        · refine Rel.step (by decide) (State.abortMig_rel _ _ _ _) ?_
          exact Rel.refl _ _
        · assumption
      · extract_lets +onlyGivenNames x8; (refine Rel.via (t := x8) ?_ (fun _ => ?_); (on_goal 2 => try clear_value x8); (on_goal 1 => unfold x8); (on_goal 1 => clear x8))
        · refine Rel.foldl (fun _ _ => ?_) ?_
          · refine Rel.foldl (fun _ _ => ?_) ?_
            · refine Rel.step (by decide) (State.askReclaim_rel _ _ _ _) ?_
              exact Rel.refl _ _
            · exact Rel.refl _ _
          · assumption
        · refine Rel.step (by decide) (State.releaseWindows_rel _) ?_
          assumption
  · exact Rel.refl _ _

theorem execResyncQuery_next (mac : Nat) (p : Pkt) (s : State) : Next [.out, .fresh, .ctrl, .ctrlSeen, .ctrlNext, .macs, .ecnDraws, .counters] s (execResyncQuery mac p s) := by
  unfold execResyncQuery
  refine Next.intro ?_
  refine State.rxCtrl_rel (by decide) (fun _ _ => ?_) ?_
  · extract_lets +onlyGivenNames x1; try clear_value x1
    extract_lets +onlyGivenNames x2; try clear_value x2
    extract_lets +onlyGivenNames x3; try clear_value x3
    extract_lets +onlyGivenNames x4; try clear_value x4
    refine Rel.step (by decide) (State.sendCtrl_rel _ _ _ _) ?_
    exact Rel.refl _ _
  · exact Rel.refl _ _

theorem execResyncState_next (mac : Nat) (p : Pkt) (s : State) : Next [.out, .fresh, .cores, .ctxs, .flows, .trk, .trkNext, .ctrlSeen, .fcache, .macs, .ecnDraws, .mailboxes, .log, .logNext, .logOverflow, .counters] s (execResyncState mac p s) := by
  unfold execResyncState
  refine Next.intro ?_
  refine State.rxCtrl_rel (by decide) (fun _ _ => ?_) ?_
  · extract_lets +onlyGivenNames x1; try clear_value x1
    extract_lets +onlyGivenNames x2; try clear_value x2
    split
    · exact Rel.refl _ _
    · extract_lets +onlyGivenNames x3; try clear_value x3
      extract_lets +onlyGivenNames x4; try clear_value x4
      extract_lets +onlyGivenNames x5; try clear_value x5
      extract_lets +onlyGivenNames x6; try clear_value x6
      extract_lets +onlyGivenNames x7; try clear_value x7
      extract_lets +onlyGivenNames x8; try clear_value x8
      split
      · refine Rel.step (by decide) (State.failFlow_rel _ _) ?_
        refine Rel.step (by decide) (State.setFlow_rel _ _ _) ?_
        exact Rel.refl _ _
      · extract_lets +onlyGivenNames x9; try clear_value x9
        refine Rel.step (by decide) (State.pump_rel _ _) ?_
        refine Rel.step (by decide) (State.setFlow_rel _ _ _) ?_
        exact Rel.refl _ _
  · exact Rel.refl _ _

theorem execWindowLost_next (mac : Nat) (p : Pkt) (s : State) : Next [.out, .fresh, .ctxs, .ctrlSeen, .macs, .ecnDraws, .mailboxes, .log, .logNext, .logOverflow, .counters] s (execWindowLost mac p s) := by
  unfold execWindowLost
  refine Next.intro ?_
  refine State.rxCtrl_rel (by decide) (fun _ _ => ?_) ?_
  · refine Rel.step (by decide) (State.loseWindow_rel _ _ _ _) ?_
    exact Rel.refl _ _
  · exact Rel.refl _ _

theorem execWindowRelease_next (mac : Nat) (p : Pkt) (s : State) : Next [.out, .fresh, .lend, .ctrlSeen, .macs, .ecnDraws, .handles, .counters] s (execWindowRelease mac p s) := by
  unfold execWindowRelease
  refine Next.intro ?_
  refine State.rxCtrl_rel (by decide) (fun _ _ => ?_) ?_
  · refine Rel.step (by decide) (State.releaseBy_rel _ _ _) ?_
    exact Rel.refl _ _
  · exact Rel.refl _ _

end Sys2Proof.Machine
end

