-- ==== Sys2Proof/Laws/Ports.lean ====
section
/-! SUPPORT. What the operations and the meanings of Machine/Ports.lean can change: for each operation the fields of the state it may change, and
for each meaning that it answers a next state and the fields that it may change; all of them keep the invariant. -/

namespace Sys2Proof.Machine

theorem State.countGaffer_rel (s : State) (mac : Nat) : Rel [.counters] s (State.countGaffer s mac) := by
  unfold State.countGaffer
  refine Rel.step (by decide) (State.countRx_rel _ _ _ _) ?_
  exact Rel.refl _ _

theorem State.flushMac_rel (s : State) (m : Nat) : Rel [.flows, .macs] s (State.flushMac s m) := by
  unfold State.flushMac
  extract_lets +onlyGivenNames x1; try clear_value x1
  extract_lets +onlyGivenNames x2; (refine Rel.via (t := x2) ?_ (fun _ => ?_); (on_goal 2 => try clear_value x2); (on_goal 1 => unfold x2); (on_goal 1 => clear x2))
  · refine Rel.step (by decide) (State.updMac_rel _ _ _) ?_
    exact Rel.refl _ _
  · refine Rel.foldl (fun _ _ => ?_) ?_
    · split
      · split
        · exact Rel.refl _ _
        · refine Rel.step (by decide) (State.updFlow_rel _ _ _) ?_
          exact Rel.refl _ _
      · exact Rel.refl _ _
    · assumption

theorem State.reRate_rel (s : State) : Rel [.flows] s (State.reRate s) := by
  unfold State.reRate
  refine Rel.step (by decide) Rel.set_flows ?_
  exact Rel.refl _ _

theorem State.macDown_rel (s : State) (m : Nat) (lane : Nat) : Rel [.out, .ctxs, .flows, .macs, .ports, .fwd, .ecnDraws, .mailboxes, .log, .logNext, .logOverflow, .counters] s (State.macDown s m lane) := by
  unfold State.macDown
  extract_lets +onlyGivenNames x1; try clear_value x1
  extract_lets +onlyGivenNames x2; (refine Rel.via (t := x2) ?_ (fun _ => ?_); (on_goal 2 => try clear_value x2); (on_goal 1 => unfold x2); (on_goal 1 => clear x2))
  · refine Rel.step (by decide) (State.flushMac_rel _ _) ?_
    exact Rel.refl _ _
  · extract_lets +onlyGivenNames x3; (refine Rel.via (t := x3) ?_ (fun _ => ?_); (on_goal 2 => try clear_value x3); (on_goal 1 => unfold x3); (on_goal 1 => clear x3))
    · refine Rel.step (by decide) (State.updMac_rel _ _ _) ?_
      assumption
    · extract_lets +onlyGivenNames x4; try clear_value x4
      extract_lets +onlyGivenNames x5; (refine Rel.via (t := x5) ?_ (fun _ => ?_); (on_goal 2 => try clear_value x5); (on_goal 1 => unfold x5); (on_goal 1 => clear x5))
      · refine Rel.step (by decide) (State.updPort_rel _ _ _) ?_
        assumption
      · extract_lets +onlyGivenNames x6; (refine Rel.via (t := x6) ?_ (fun _ => ?_); (on_goal 2 => try clear_value x6); (on_goal 1 => unfold x6); (on_goal 1 => clear x6))
        · refine Rel.step (by decide) Rel.set_fwd ?_
          assumption
        · extract_lets +onlyGivenNames x7; (refine Rel.via (t := x7) ?_ (fun _ => ?_); (on_goal 2 => try clear_value x7); (on_goal 1 => unfold x7); (on_goal 1 => clear x7))
          · refine Rel.step (by decide) Rel.set_flows ?_
            assumption
          · refine Rel.step (by decide) (State.pumpAll_rel _) ?_
            refine Rel.step (by decide) (State.event_rel _ _ _ _ _) ?_
            refine Rel.step (by decide) (State.reRate_rel _) ?_
            assumption

theorem State.excuse_rel (s : State) (m : Nat) (q : Nat) (a : Nat) (b : Nat) : Rel [.flows] s (State.excuse s m q a b) := by
  unfold State.excuse
  extract_lets +onlyGivenNames x1; try clear_value x1
  refine Rel.step (by decide) Rel.set_flows ?_
  exact Rel.refl _ _

theorem State.endLoss_rel (s : State) (m : Nat) : Rel [.flows] s (State.endLoss s m) := by
  unfold State.endLoss
  extract_lets +onlyGivenNames x1; try clear_value x1
  split
  · exact Rel.refl _ _
  · refine Rel.foldl (fun _ _ => ?_) ?_
    · refine Rel.step (by decide) (State.excuse_rel _ _ _ _ _) ?_
      exact Rel.refl _ _
    · exact Rel.refl _ _

theorem State.endPause_rel (s : State) (m : Nat) (q : Nat) : Rel [.flows, .macs, .counters] s (State.endPause s m q) := by
  unfold State.endPause
  extract_lets +onlyGivenNames x1; try clear_value x1
  split
  · exact Rel.refl _ _
  · extract_lets +onlyGivenNames x2; try clear_value x2
    extract_lets +onlyGivenNames x3; try clear_value x3
    extract_lets +onlyGivenNames x4; (refine Rel.via (t := x4) ?_ (fun _ => ?_); (on_goal 2 => try clear_value x4); (on_goal 1 => unfold x4); (on_goal 1 => clear x4))
    · refine Rel.step (by decide) (State.countMac_rel _ _ _ _) ?_
      refine Rel.step (by decide) (State.setMac_rel _ _ _) ?_
      exact Rel.refl _ _
    · extract_lets +onlyGivenNames x5; try clear_value x5
      refine Rel.step (by decide) (State.excuse_rel _ _ _ _ _) ?_
      assumption

theorem State.endRetrain_rel (s : State) (m : Nat) : Rel [.flows, .macs, .counters] s (State.endRetrain s m) := by
  unfold State.endRetrain
  split
  · exact Rel.refl _ _
  · extract_lets +onlyGivenNames x1; try clear_value x1
    extract_lets +onlyGivenNames x2; try clear_value x2
    extract_lets +onlyGivenNames x3; (refine Rel.via (t := x3) ?_ (fun _ => ?_); (on_goal 2 => try clear_value x3); (on_goal 1 => unfold x3); (on_goal 1 => clear x3))
    · refine Rel.step (by decide) (State.countMac_rel _ _ _ _) ?_
      refine Rel.step (by decide) (State.updMac_rel _ _ _) ?_
      exact Rel.refl _ _
    · refine Rel.foldl (fun _ _ => ?_) ?_
      · refine Rel.step (by decide) (State.excuse_rel _ _ _ _ _) ?_
        exact Rel.refl _ _
      · assumption

theorem State.fecCount_rel (s : State) (mac : Nat) (st : FecStats) : Rel [.macs, .counters] s (State.fecCount s mac st) := by
  unfold State.fecCount
  extract_lets +onlyGivenNames x1; try clear_value x1
  extract_lets +onlyGivenNames x2; (refine Rel.via (t := x2) ?_ (fun _ => ?_); (on_goal 2 => try clear_value x2); (on_goal 1 => unfold x2); (on_goal 1 => clear x2))
  · refine Rel.step (by decide) (State.countMac_rel _ _ _ _) ?_
    refine Rel.step (by decide) (State.countMac_rel _ _ _ _) ?_
    exact Rel.refl _ _
  · extract_lets +onlyGivenNames x3; (refine Rel.via (t := x3) ?_ (fun _ => ?_); (on_goal 2 => try clear_value x3); (on_goal 1 => unfold x3); (on_goal 1 => clear x3))
    · refine Rel.foldl (fun _ _ => ?_) ?_
      · refine Rel.step (by decide) (State.countMac_rel _ _ _ _) ?_
        exact Rel.refl _ _
      · assumption
    · refine Rel.step (by decide) (State.updMac_rel _ _ _) ?_
      assumption

theorem State.servo_rel (s : State) (off : Int) (ppb : Int) : Rel [.out, .clk, .ctxs, .mailboxes, .log, .logNext, .logOverflow] s (State.servo s off ppb) := by
  unfold State.servo
  extract_lets +onlyGivenNames x1; try clear_value x1
  extract_lets +onlyGivenNames x2; try clear_value x2
  split
  · extract_lets +onlyGivenNames x3; try clear_value x3
    extract_lets +onlyGivenNames x4; (refine Rel.via (t := x4) ?_ (fun _ => ?_); (on_goal 2 => try clear_value x4); (on_goal 1 => unfold x4); (on_goal 1 => clear x4))
    · refine Rel.step (by decide) Rel.set_clk ?_
      exact Rel.refl _ _
    · split
      · refine Rel.step (by decide) (State.event_rel _ _ _ _ _) ?_
        assumption
      · assumption
  · split
    · refine Rel.step (by decide) Rel.set_clk ?_
      exact Rel.refl _ _
    · refine Rel.step (by decide) Rel.set_clk ?_
      exact Rel.refl _ _

theorem State.followSync_rel (s : State) (p : Nat) (m : PtpMsg) (off : Int) : Rel [.out, .clk, .ctxs, .mailboxes, .log, .logNext, .logOverflow] s (State.followSync s p m off) := by
  unfold State.followSync
  extract_lets +onlyGivenNames x1; (refine Rel.via (t := x1) ?_ (fun _ => ?_); (on_goal 2 => try clear_value x1); (on_goal 1 => unfold x1); (on_goal 1 => clear x1))
  · refine Rel.step (by decide) (State.updPtp_rel _ _ _) ?_
    exact Rel.refl _ _
  · refine Rel.step (by decide) (State.servo_rel _ _ _) ?_
    refine Rel.step (by decide) Rel.set_clk ?_
    assumption

theorem State.laneCullet_rel (s : State) (p : Nat) (lane : Nat) (action : Nat) : Rel [.out, .ctxs, .culls, .mailboxes, .log, .logNext, .logOverflow] s (State.laneCullet s p lane action) := by
  unfold State.laneCullet
  refine Rel.step (by decide) (State.addCullet_rel _ _) ?_
  exact Rel.refl _ _

theorem State.laneHandle_rel (s : State) (lane : Nat) (status : Nat) : Rel [.out, .ctxs, .mailboxes, .handles, .log, .logNext, .logOverflow] s (State.laneHandle s lane status) := by
  unfold State.laneHandle
  split
  · refine Rel.step (by decide) (State.finish_rel _ _ _) ?_
    refine Rel.step (by decide) (State.progress1_rel _ _) ?_
    exact Rel.refl _ _
  · exact Rel.refl _ _

theorem State.linkMac_rel (s : State) (m : Nat) (use : Nat) : Rel [.flows, .macs, .lanes] s (State.linkMac s m use) := by
  unfold State.linkMac
  extract_lets +onlyGivenNames x1; (refine Rel.via (t := x1) ?_ (fun _ => ?_); (on_goal 2 => try clear_value x1); (on_goal 1 => unfold x1); (on_goal 1 => clear x1))
  · refine Rel.step (by decide) (State.endLoss_rel _ _) ?_
    exact Rel.refl _ _
  · extract_lets +onlyGivenNames x2; (refine Rel.via (t := x2) ?_ (fun _ => ?_); (on_goal 2 => try clear_value x2); (on_goal 1 => unfold x2); (on_goal 1 => clear x2))
    · refine Rel.foldl (fun _ _ => ?_) ?_
      · refine Rel.step (by decide) (State.updLane_rel _ _ _) ?_
        exact Rel.refl _ _
      · assumption
    · refine Rel.step (by decide) (State.updMac_rel _ _ _) ?_
      assumption

theorem State.resolveHop_rel (s : State) (p : Nat) : Rel [.macs, .ports, .ecnDraws, .counters] s (State.resolveHop s p) := by
  unfold State.resolveHop
  extract_lets +onlyGivenNames x1; try clear_value x1
  split
  · exact Rel.refl _ _
  · split
    · exact Rel.refl _ _
    · extract_lets +onlyGivenNames x2; try clear_value x2
      extract_lets +onlyGivenNames x3; try clear_value x3
      extract_lets +onlyGivenNames x4; (refine Rel.via (t := x4) ?_ (fun _ => ?_); (on_goal 2 => try clear_value x4); (on_goal 1 => unfold x4); (on_goal 1 => clear x4))
      · refine Rel.step (by decide) (State.updPort_rel _ _ _) ?_
        exact Rel.refl _ _
      · refine Rel.step (by decide) (State.enqueue_rel _ _ _ _) ?_
        assumption

theorem State.retireLane_rel (s : State) (lane : Nat) : Rel [.out, .ctxs, .culls, .flows, .macs, .ports, .fwd, .ecnDraws, .mailboxes, .handles, .log, .logNext, .logOverflow, .counters] s (State.retireLane s lane) := by
  unfold State.retireLane
  split
  · exact Rel.refl _ _
  · extract_lets +onlyGivenNames x1; try clear_value x1
    split
    · exact Rel.refl _ _
    · split
      · extract_lets +onlyGivenNames x2; (refine Rel.via (t := x2) ?_ (fun _ => ?_); (on_goal 2 => try clear_value x2); (on_goal 1 => unfold x2); (on_goal 1 => clear x2))
        · refine Rel.step (by decide) (State.updPort_rel _ _ _) ?_
          exact Rel.refl _ _
        · refine Rel.step (by decide) (State.laneHandle_rel _ _ _) ?_
          refine Rel.step (by decide) (State.macDown_rel _ _ _) ?_
          refine Rel.step (by decide) (State.laneCullet_rel _ _ _ _) ?_
          assumption
      · refine Rel.step (by decide) (State.setMac_rel _ _ _) ?_
        exact Rel.refl _ _

theorem State.setPause_rel (s : State) (m : Nat) (q : Nat) (n : Nat) : Rel [.flows, .macs, .counters] s (State.setPause s m q n) := by
  unfold State.setPause
  extract_lets +onlyGivenNames x1; (refine Rel.via (t := x1) ?_ (fun _ => ?_); (on_goal 2 => try clear_value x1); (on_goal 1 => unfold x1); (on_goal 1 => clear x1))
  · refine Rel.step (by decide) (State.endPause_rel _ _ _) ?_
    exact Rel.refl _ _
  · split
    · assumption
    · refine Rel.step (by decide) (State.updMac_rel _ _ _) ?_
      assumption

theorem execArpRequest_next (mac : Nat) (targetIp : Nat) (senderIp : Nat) (senderMac : Nat) (s : State) : Next [.macs, .ecnDraws, .counters] s (execArpRequest mac targetIp senderIp senderMac s) := by
  unfold execArpRequest
  extract_lets +onlyGivenNames x1; try clear_value x1
  extract_lets +onlyGivenNames x2; (refine Next.via (t := x2) ?_ (fun _ => ?_); (on_goal 2 => try clear_value x2); (on_goal 1 => unfold x2); (on_goal 1 => clear x2))
  · refine Rel.step (by decide) (State.countGaffer_rel _ _) ?_
    exact Rel.refl _ _
  · split
    · refine Next.intro ?_
      refine Rel.step (by decide) (State.enqueue_rel _ _ _ _) ?_
      assumption
    · refine Next.intro ?_
      assumption

theorem execFecMonitorWindow_next (mac : Nat) (st : FecStats) (s : State) : Next [.out, .ctxs, .culls, .flows, .macs, .ports, .fwd, .ecnDraws, .mailboxes, .handles, .log, .logNext, .logOverflow, .counters] s (execFecMonitorWindow mac st s) := by
  unfold execFecMonitorWindow
  split
  · refine Next.intro ?_
    refine Rel.step (by decide) (State.retireLane_rel _ _) ?_
    refine Rel.step (by decide) (State.fecCount_rel _ _ _) ?_
    exact Rel.refl _ _
  · refine Next.intro ?_
    refine Rel.step (by decide) (State.fecCount_rel _ _ _) ?_
    exact Rel.refl _ _

theorem execLaneLockLoss_next (lane : Nat) (s : State) : Next [.out, .ctxs, .culls, .flows, .macs, .ports, .lanes, .fwd, .ecnDraws, .mailboxes, .handles, .log, .logNext, .logOverflow, .counters] s (execLaneLockLoss lane s) := by
  unfold execLaneLockLoss
  extract_lets +onlyGivenNames x1; try clear_value x1
  extract_lets +onlyGivenNames x2; (refine Next.via (t := x2) ?_ (fun _ => ?_); (on_goal 2 => try clear_value x2); (on_goal 1 => unfold x2); (on_goal 1 => clear x2))
  · refine Rel.step (by decide) (State.updLane_rel _ _ _) ?_
    exact Rel.refl _ _
  · split
    · refine Next.intro ?_
      refine Rel.step (by decide) (State.retireLane_rel _ _) ?_
      assumption
    · refine Next.intro ?_
      assumption

theorem execLaneRecalApply_next (lane : Nat) (s : State) : Next [.lanes, .recal, .counters] s (execLaneRecalApply lane s) := by
  unfold execLaneRecalApply
  split
  · refine Next.intro ?_
    exact Rel.refl _ _
  · split
    · refine Next.intro ?_
      exact Rel.refl _ _
    · extract_lets +onlyGivenNames x1; (refine Next.via (t := x1) ?_ (fun _ => ?_); (on_goal 2 => try clear_value x1); (on_goal 1 => unfold x1); (on_goal 1 => clear x1))
      · refine Rel.step (by decide) (State.updLane_rel _ _ _) ?_
        refine Rel.step (by decide) Rel.set_recal ?_
        exact Rel.refl _ _
      · split
        · refine Next.intro ?_
          refine Rel.step (by decide) (State.countMac_rel _ _ _ _) ?_
          assumption
        · refine Next.intro ?_
          assumption

theorem execLaneRecalStart_next (lane : Nat) (why : RecalCause) (s : State) : Next [.clk, .lanes, .recal] s (execLaneRecalStart lane why s) := by
  unfold execLaneRecalStart
  extract_lets +onlyGivenNames x1; try clear_value x1
  split
  · split
    · extract_lets +onlyGivenNames x2; (refine Next.via (t := x2) ?_ (fun _ => ?_); (on_goal 2 => try clear_value x2); (on_goal 1 => unfold x2); (on_goal 1 => clear x2))
      · refine Rel.step (by decide) (State.toTai_rel _ _) ?_
        exact Rel.refl _ _
      · refine Next.intro ?_
        refine Rel.step (by decide) Rel.set_recal ?_
        assumption
    · split
      · refine Next.intro ?_
        exact Rel.refl _ _
      · refine Next.intro ?_
        refine Rel.step (by decide) (State.updLane_rel _ _ _) ?_
        refine Rel.step (by decide) Rel.set_recal ?_
        exact Rel.refl _ _
    · extract_lets +onlyGivenNames x3; try clear_value x3
      split
      · split
        · refine Next.intro ?_
          refine Rel.step (by decide) Rel.set_recal ?_
          exact Rel.refl _ _
        · refine Next.intro ?_
          exact Rel.refl _ _
      · split
        · refine Next.intro ?_
          refine Rel.step (by decide) Rel.set_recal ?_
          exact Rel.refl _ _
        · refine Next.intro ?_
          exact Rel.refl _ _
  · refine Next.intro ?_
    exact Rel.refl _ _

theorem execLinkUp_next (port : Nat) (macs : Nat) (lanes : Nat) (s : State) : Next [.flows, .macs, .ports, .lanes, .ecnDraws, .counters] s (execLinkUp port macs lanes s) := by
  unfold execLinkUp
  extract_lets +onlyGivenNames x1; try clear_value x1
  split
  · refine Next.intro ?_
    exact Rel.refl _ _
  · extract_lets +onlyGivenNames x2; (refine Next.via (t := x2) ?_ (fun _ => ?_); (on_goal 2 => try clear_value x2); (on_goal 1 => unfold x2); (on_goal 1 => clear x2))
    · refine Rel.foldl (fun _ _ => ?_) ?_
      · extract_lets +onlyGivenNames x3; try clear_value x3
        split
        · refine Rel.step (by decide) (State.linkMac_rel _ _ _) ?_
          exact Rel.refl _ _
        · exact Rel.refl _ _
      · exact Rel.refl _ _
    · extract_lets +onlyGivenNames x4; try clear_value x4
      extract_lets +onlyGivenNames x5; (refine Next.via (t := x5) ?_ (fun _ => ?_); (on_goal 2 => try clear_value x5); (on_goal 1 => unfold x5); (on_goal 1 => clear x5))
      · refine Rel.step (by decide) (State.updPort_rel _ _ _) ?_
        assumption
      · refine Next.intro ?_
        refine Rel.step (by decide) (State.pumpAll_rel _) ?_
        refine Rel.step (by decide) (State.reRate_rel _) ?_
        refine Rel.step (by decide) (State.resolveHop_rel _ _) ?_
        assumption

theorem execLinkUpAfterRetirement_next (mac : Nat) (s : State) : Next [.out, .ctxs, .culls, .flows, .macs, .ports, .lanes, .ecnDraws, .mailboxes, .handles, .log, .logNext, .logOverflow, .counters] s (execLinkUpAfterRetirement mac s) := by
  unfold execLinkUpAfterRetirement
  extract_lets +onlyGivenNames x1; try clear_value x1
  extract_lets +onlyGivenNames x2; try clear_value x2
  split
  · refine Next.intro ?_
    exact Rel.refl _ _
  · extract_lets +onlyGivenNames x3; try clear_value x3
    extract_lets +onlyGivenNames x4; (refine Next.via (t := x4) ?_ (fun _ => ?_); (on_goal 2 => try clear_value x4); (on_goal 1 => unfold x4); (on_goal 1 => clear x4))
    · refine Rel.step (by decide) (State.endRetrain_rel _ _) ?_
      exact Rel.refl _ _
    · extract_lets +onlyGivenNames x5; (refine Next.via (t := x5) ?_ (fun _ => ?_); (on_goal 2 => try clear_value x5); (on_goal 1 => unfold x5); (on_goal 1 => clear x5))
      · refine Rel.step (by decide) (State.endLoss_rel _ _) ?_
        assumption
      · extract_lets +onlyGivenNames x6; (refine Next.via (t := x6) ?_ (fun _ => ?_); (on_goal 2 => try clear_value x6); (on_goal 1 => unfold x6); (on_goal 1 => clear x6))
        · refine Rel.foldl (fun _ _ => ?_) ?_
          · refine Rel.step (by decide) (State.updLane_rel _ _ _) ?_
            exact Rel.refl _ _
          · assumption
        · extract_lets +onlyGivenNames x7; (refine Next.via (t := x7) ?_ (fun _ => ?_); (on_goal 2 => try clear_value x7); (on_goal 1 => unfold x7); (on_goal 1 => clear x7))
          · refine Rel.step (by decide) (State.updMac_rel _ _ _) ?_
            assumption
          · extract_lets +onlyGivenNames x8; try clear_value x8
            extract_lets +onlyGivenNames x9; (refine Next.via (t := x9) ?_ (fun _ => ?_); (on_goal 2 => try clear_value x9); (on_goal 1 => unfold x9); (on_goal 1 => clear x9))
            · refine Rel.step (by decide) (State.updPort_rel _ _ _) ?_
              assumption
            · extract_lets +onlyGivenNames x10; (refine Next.via (t := x10) ?_ (fun _ => ?_); (on_goal 2 => try clear_value x10); (on_goal 1 => unfold x10); (on_goal 1 => clear x10))
              · refine Rel.step (by decide) (State.event_rel _ _ _ _ _) ?_
                refine Rel.step (by decide) (State.laneCullet_rel _ _ _ _) ?_
                assumption
              · refine Next.intro ?_
                refine Rel.step (by decide) (State.pumpAll_rel _) ?_
                refine Rel.step (by decide) (State.laneHandle_rel _ _ _) ?_
                refine Rel.step (by decide) (State.reRate_rel _) ?_
                assumption

theorem execLldpTransmit_next (mac : Nat) (s : State) : Next [.clk, .macs, .ecnDraws, .counters] s (execLldpTransmit mac s) := by
  unfold execLldpTransmit
  extract_lets +onlyGivenNames x1; try clear_value x1
  split
  · refine Next.intro ?_
    exact Rel.refl _ _
  · extract_lets +onlyGivenNames x2; (refine Next.via (t := x2) ?_ (fun _ => ?_); (on_goal 2 => try clear_value x2); (on_goal 1 => unfold x2); (on_goal 1 => clear x2))
    · split
      · exact Rel.refl _ _
      · refine Rel.step (by decide) (State.toTai_rel _ _) ?_
        exact Rel.refl _ _
    · extract_lets +onlyGivenNames x3; (refine Next.via (t := x3) ?_ (fun _ => ?_); (on_goal 2 => try clear_value x3); (on_goal 1 => unfold x3); (on_goal 1 => clear x3))
      · refine Rel.step (by decide) (State.updMac_rel _ _ _) ?_
        assumption
      · extract_lets +onlyGivenNames x4; try clear_value x4
        refine Next.intro ?_
        refine Rel.step (by decide) (State.enqueue_rel _ _ _ _) ?_
        assumption

theorem execLldpdu_next (mac : Nat) (n : LldpInfo) (s : State) : Next [.out, .ctxs, .macs, .mailboxes, .log, .logNext, .logOverflow, .counters] s (execLldpdu mac n s) := by
  unfold execLldpdu
  extract_lets +onlyGivenNames x1; (refine Next.via (t := x1) ?_ (fun _ => ?_); (on_goal 2 => try clear_value x1); (on_goal 1 => unfold x1); (on_goal 1 => clear x1))
  · refine Rel.step (by decide) (State.countGaffer_rel _ _) ?_
    exact Rel.refl _ _
  · extract_lets +onlyGivenNames x2; try clear_value x2
    extract_lets +onlyGivenNames x3; try clear_value x3
    extract_lets +onlyGivenNames x4; try clear_value x4
    extract_lets +onlyGivenNames x5; try clear_value x5
    extract_lets +onlyGivenNames x6; (refine Next.via (t := x6) ?_ (fun _ => ?_); (on_goal 2 => try clear_value x6); (on_goal 1 => unfold x6); (on_goal 1 => clear x6))
    · refine Rel.step (by decide) (State.setMac_rel _ _ _) ?_
      assumption
    · refine Next.intro ?_
      split
      · refine Rel.step (by decide) (State.event_rel _ _ _ _ _) ?_
        assumption
      · assumption

theorem execLpiEntry_next (mac : Nat) (s : State) : Next [.clk, .macs, .counters] s (execLpiEntry mac s) := by
  unfold execLpiEntry
  extract_lets +onlyGivenNames x1; try clear_value x1
  extract_lets +onlyGivenNames x2; try clear_value x2
  split
  · refine Next.intro ?_
    exact Rel.refl _ _
  · extract_lets +onlyGivenNames x3; (refine Next.via (t := x3) ?_ (fun _ => ?_); (on_goal 2 => try clear_value x3); (on_goal 1 => unfold x3); (on_goal 1 => clear x3))
    · refine Rel.step (by decide) (State.toCycle_rel _ _) ?_
      exact Rel.refl _ _
    · split
      · refine Next.intro ?_
        assumption
      · refine Next.intro ?_
        refine Rel.step (by decide) (State.countMac_rel _ _ _ _) ?_
        refine Rel.step (by decide) (State.updMac_rel _ _ _) ?_
        assumption

theorem execLpiWakeForWindow_next (mac : Nat) (ctx : Nat) (entry : Nat) (s : State) : Next [.clk, .macs, .counters] s (execLpiWakeForWindow mac ctx entry s) := by
  unfold execLpiWakeForWindow
  split
  · refine Next.intro ?_
    exact Rel.refl _ _
  · split
    · refine Next.intro ?_
      exact Rel.refl _ _
    · refine Next.intro ?_
      refine Rel.step (by decide) (State.leaveLpi_rel _ _) ?_
      refine Rel.step (by decide) (State.toTai_rel _ _) ?_
      exact Rel.refl _ _

theorem execNeighbourSolicitation_next (mac : Nat) (targetIp : Nat) (senderIp : Nat) (senderMac : Nat) (s : State) : Next [.macs, .ecnDraws, .counters] s (execNeighbourSolicitation mac targetIp senderIp senderMac s) := by
  unfold execNeighbourSolicitation
  extract_lets +onlyGivenNames x1; try clear_value x1
  extract_lets +onlyGivenNames x2; (refine Next.via (t := x2) ?_ (fun _ => ?_); (on_goal 2 => try clear_value x2); (on_goal 1 => unfold x2); (on_goal 1 => clear x2))
  · refine Rel.step (by decide) (State.countGaffer_rel _ _) ?_
    exact Rel.refl _ _
  · split
    · refine Next.intro ?_
      refine Rel.step (by decide) (State.enqueue_rel _ _ _ _) ?_
      assumption
    · refine Next.intro ?_
      assumption

theorem execPauseExpiry_next (mac : Nat) (prio : Nat) (s : State) : Next [.clk, .flows, .macs, .ecnDraws, .counters] s (execPauseExpiry mac prio s) := by
  unfold execPauseExpiry
  split
  · refine Next.intro ?_
    exact Rel.refl _ _
  · refine Next.intro ?_
    refine Rel.step (by decide) (State.pumpAll_rel _) ?_
    refine Rel.step (by decide) (State.endPause_rel _ _ _) ?_
    refine Rel.step (by decide) (State.toCycle_rel _ _) ?_
    exact Rel.refl _ _

theorem execPauseFrame_next (mac : Nat) (quanta : Nat) (s : State) : Next [.flows, .macs, .ecnDraws, .counters] s (execPauseFrame mac quanta s) := by
  unfold execPauseFrame
  split
  · refine Next.intro ?_
    refine Rel.step (by decide) (State.countMac_rel _ _ _ _) ?_
    exact Rel.refl _ _
  · extract_lets +onlyGivenNames x1; (refine Next.via (t := x1) ?_ (fun _ => ?_); (on_goal 2 => try clear_value x1); (on_goal 1 => unfold x1); (on_goal 1 => clear x1))
    · refine Rel.foldl (fun _ _ => ?_) ?_
      · refine Rel.step (by decide) (State.setPause_rel _ _ _ _) ?_
        exact Rel.refl _ _
      · refine Rel.step (by decide) (State.countMac_rel _ _ _ _) ?_
        exact Rel.refl _ _
    · extract_lets +onlyGivenNames x2; (refine Next.via (t := x2) ?_ (fun _ => ?_); (on_goal 2 => try clear_value x2); (on_goal 1 => unfold x2); (on_goal 1 => clear x2))
      · refine Rel.step (by decide) (State.updMac_rel _ _ _) ?_
        assumption
      · refine Next.intro ?_
        split
        · refine Rel.step (by decide) (State.pumpAll_rel _) ?_
          assumption
        · assumption

theorem execPfcFrame_next (mac : Nat) (enable : Nat) (quanta : List Nat) (s : State) : Next [.flows, .macs, .ecnDraws, .counters] s (execPfcFrame mac enable quanta s) := by
  unfold execPfcFrame
  split
  · refine Next.intro ?_
    refine Rel.step (by decide) (State.countMac_rel _ _ _ _) ?_
    exact Rel.refl _ _
  · refine Next.intro ?_
    refine Rel.step (by decide) (State.pumpAll_rel _) ?_
    refine Rel.foldl (fun _ _ => ?_) ?_
    · split
      · refine Rel.step (by decide) (State.setPause_rel _ _ _ _) ?_
        refine Rel.step (by decide) (State.countMac_rel _ _ _ _) ?_
        exact Rel.refl _ _
      · exact Rel.refl _ _
    · exact Rel.refl _ _

theorem execPfcRepeat_next (mac : Nat) (prio : Nat) (s : State) : Next [.out, .clk, .macs, .counters] s (execPfcRepeat mac prio s) := by
  unfold execPfcRepeat
  extract_lets +onlyGivenNames x1; try clear_value x1
  split
  · refine Next.intro ?_
    exact Rel.refl _ _
  · split
    · refine Next.intro ?_
      exact Rel.refl _ _
    · extract_lets +onlyGivenNames x2; (refine Next.via (t := x2) ?_ (fun _ => ?_); (on_goal 2 => try clear_value x2); (on_goal 1 => unfold x2); (on_goal 1 => clear x2))
      · refine Rel.step (by decide) (State.toCycle_rel _ _) ?_
        exact Rel.refl _ _
      · extract_lets +onlyGivenNames x3; (refine Next.via (t := x3) ?_ (fun _ => ?_); (on_goal 2 => try clear_value x3); (on_goal 1 => unfold x3); (on_goal 1 => clear x3))
        · refine Rel.step (by decide) (State.emit_rel _ _) ?_
          assumption
        · refine Next.intro ?_
          refine Rel.step (by decide) (State.countMac_rel _ _ _ _) ?_
          refine Rel.step (by decide) (State.updMac_rel _ _ _) ?_
          assumption

theorem execPfcXonSend_next (mac : Nat) (prio : Nat) (s : State) : Next [.out, .fresh, .macs, .counters] s (execPfcXonSend mac prio s) := by
  unfold execPfcXonSend
  extract_lets +onlyGivenNames x1; try clear_value x1
  split
  · refine Next.intro ?_
    exact Rel.refl _ _
  · extract_lets +onlyGivenNames x2; try clear_value x2
    extract_lets +onlyGivenNames x3; try clear_value x3
    extract_lets +onlyGivenNames x4; (refine Next.via (t := x4) ?_ (fun _ => ?_); (on_goal 2 => try clear_value x4); (on_goal 1 => unfold x4); (on_goal 1 => clear x4))
    · refine Rel.step (by decide) (State.setMac_rel _ _ _) ?_
      refine Rel.step (by decide) (State.draw_rel _) ?_
      exact Rel.refl _ _
    · refine Next.intro ?_
      refine Rel.step (by decide) (State.countMac_rel _ _ _ _) ?_
      refine Rel.step (by decide) (State.emit_rel _ _) ?_
      assumption

theorem execPpsInEdge_next (taiNs : Nat) (s : State) : Next [.out, .clk, .ctxs, .mailboxes, .log, .logNext, .logOverflow] s (execPpsInEdge taiNs s) := by
  unfold execPpsInEdge
  extract_lets +onlyGivenNames x1; (refine Next.via (t := x1) ?_ (fun _ => ?_); (on_goal 2 => try clear_value x1); (on_goal 1 => unfold x1); (on_goal 1 => clear x1))
  · refine Rel.step (by decide) (State.toTai_rel _ _) ?_
    exact Rel.refl _ _
  · extract_lets +onlyGivenNames x2; try clear_value x2
    extract_lets +onlyGivenNames x3; try clear_value x3
    split
    · refine Next.intro ?_
      refine Rel.step (by decide) Rel.set_clk ?_
      assumption
    · extract_lets +onlyGivenNames x4; (refine Next.via (t := x4) ?_ (fun _ => ?_); (on_goal 2 => try clear_value x4); (on_goal 1 => unfold x4); (on_goal 1 => clear x4))
      · refine Rel.step (by decide) Rel.set_clk ?_
        assumption
      · split
        · refine Next.intro ?_
          refine Rel.step (by decide) (State.servo_rel _ _ _) ?_
          assumption
        · refine Next.intro ?_
          assumption

theorem execPpsInLost_next (s : State) : Next [.clk] s (execPpsInLost s) := by
  unfold execPpsInLost
  split
  · refine Next.intro ?_
    exact Rel.refl _ _
  · split
    · refine Next.intro ?_
      exact Rel.refl _ _
    · extract_lets +onlyGivenNames x1; (refine Next.via (t := x1) ?_ (fun _ => ?_); (on_goal 2 => try clear_value x1); (on_goal 1 => unfold x1); (on_goal 1 => clear x1))
      · refine Rel.step (by decide) (State.toTai_rel _ _) ?_
        exact Rel.refl _ _
      · refine Next.intro ?_
        refine Rel.step (by decide) Rel.set_clk ?_
        assumption

theorem execPpsOutSecond_next (s : State) : Next [.clk] s (execPpsOutSecond s) := by
  unfold execPpsOutSecond
  extract_lets +onlyGivenNames x1; try clear_value x1
  extract_lets +onlyGivenNames x2; (refine Next.via (t := x2) ?_ (fun _ => ?_); (on_goal 2 => try clear_value x2); (on_goal 1 => unfold x2); (on_goal 1 => clear x2))
  · refine Rel.step (by decide) (State.toTai_rel _ _) ?_
    exact Rel.refl _ _
  · split
    · refine Next.intro ?_
      refine Rel.step (by decide) Rel.set_clk ?_
      assumption
    · refine Next.intro ?_
      assumption

theorem execPtpHoldoverEntry_next (errNs : Nat) (s : State) : Next [.out, .clk, .ctxs, .mailboxes, .log, .logNext, .logOverflow] s (execPtpHoldoverEntry errNs s) := by
  unfold execPtpHoldoverEntry
  extract_lets +onlyGivenNames x1; try clear_value x1
  extract_lets +onlyGivenNames x2; try clear_value x2
  extract_lets +onlyGivenNames x3; (refine Next.via (t := x3) ?_ (fun _ => ?_); (on_goal 2 => try clear_value x3); (on_goal 1 => unfold x3); (on_goal 1 => clear x3))
  · refine Rel.step (by decide) Rel.set_clk ?_
    exact Rel.refl _ _
  · refine Next.intro ?_
    split
    · assumption
    · refine Rel.step (by decide) (State.event_rel _ _ _ _ _) ?_
      assumption

theorem execPtpMessage_next (mac : Nat) (m : PtpMsg) (s : State) : Next [.out, .clk, .ctxs, .macs, .ecnDraws, .mailboxes, .log, .logNext, .logOverflow, .counters] s (execPtpMessage mac m s) := by
  unfold execPtpMessage
  extract_lets +onlyGivenNames x1; (refine Next.via (t := x1) ?_ (fun _ => ?_); (on_goal 2 => try clear_value x1); (on_goal 1 => unfold x1); (on_goal 1 => clear x1))
  · refine Rel.step (by decide) (State.countGaffer_rel _ _) ?_
    exact Rel.refl _ _
  · extract_lets +onlyGivenNames x2; try clear_value x2
    extract_lets +onlyGivenNames x3; try clear_value x3
    extract_lets +onlyGivenNames x4; try clear_value x4
    split
    · refine Next.intro ?_
      assumption
    · split
      · refine Next.intro ?_
        refine Rel.step (by decide) (State.hearMaster_rel _ _ _ _) ?_
        assumption
      · split
        · refine Next.intro ?_
          refine Rel.step (by decide) (State.followSync_rel _ _ _ _) ?_
          assumption
        · refine Next.intro ?_
          assumption
      · split
        · refine Next.intro ?_
          refine Rel.step (by decide) (State.updPtp_rel _ _ _) ?_
          assumption
        · refine Next.intro ?_
          assumption
      · split
        · split
          · refine Next.intro ?_
            refine Rel.step (by decide) (State.followSync_rel _ _ _ _) ?_
            assumption
          · refine Next.intro ?_
            assumption
        · refine Next.intro ?_
          assumption
      · split
        · refine Next.intro ?_
          refine Rel.step (by decide) (State.sendPtp_rel _ _ _ _) ?_
          assumption
        · refine Next.intro ?_
          assumption
      · split
        · split
          · refine Next.intro ?_
            refine Rel.step (by decide) (State.updPtp_rel _ _ _) ?_
            assumption
          · refine Next.intro ?_
            assumption
        · refine Next.intro ?_
          assumption
      · refine Next.intro ?_
        refine Rel.step (by decide) (State.sendPtp_rel _ _ _ _) ?_
        assumption
      · split
        · split
          · refine Next.intro ?_
            refine Rel.step (by decide) (State.updPtp_rel _ _ _) ?_
            assumption
          · refine Next.intro ?_
            assumption
        · refine Next.intro ?_
          assumption

theorem execPtpSyncTimer_next (port : Nat) (s : State) : Next [.clk, .macs, .ecnDraws, .counters] s (execPtpSyncTimer port s) := by
  unfold execPtpSyncTimer
  extract_lets +onlyGivenNames x1; (refine Next.via (t := x1) ?_ (fun _ => ?_); (on_goal 2 => try clear_value x1); (on_goal 1 => unfold x1); (on_goal 1 => clear x1))
  · split
    · refine Rel.step (by decide) (State.toTai_rel _ _) ?_
      exact Rel.refl _ _
    · exact Rel.refl _ _
  · extract_lets +onlyGivenNames x2; (refine Next.via (t := x2) ?_ (fun _ => ?_); (on_goal 2 => try clear_value x2); (on_goal 1 => unfold x2); (on_goal 1 => clear x2))
    · refine Rel.step (by decide) (State.updPtp_rel _ _ _) ?_
      assumption
    · split
      · refine Next.intro ?_
        refine Rel.step (by decide) (State.sendPtp_rel _ _ _ _) ?_
        assumption
      · refine Next.intro ?_
        assumption

theorem execRetrainingTimeout_next (mac : Nat) (s : State) : Next [.out, .clk, .ctxs, .flows, .macs, .ports, .fwd, .ecnDraws, .mailboxes, .handles, .log, .logNext, .logOverflow, .counters] s (execRetrainingTimeout mac s) := by
  unfold execRetrainingTimeout
  extract_lets +onlyGivenNames x1; try clear_value x1
  split
  · refine Next.intro ?_
    exact Rel.refl _ _
  · extract_lets +onlyGivenNames x2; (refine Next.via (t := x2) ?_ (fun _ => ?_); (on_goal 2 => try clear_value x2); (on_goal 1 => unfold x2); (on_goal 1 => clear x2))
    · refine Rel.step (by decide) (State.endRetrain_rel _ _) ?_
      refine Rel.step (by decide) (State.toCycle_rel _ _) ?_
      exact Rel.refl _ _
    · refine Next.intro ?_
      refine Rel.step (by decide) (State.laneHandle_rel _ _ _) ?_
      refine Rel.step (by decide) (State.macDown_rel _ _ _) ?_
      assumption

theorem execUnhandledFrame_next (mac : Nat) (why : DropCause) (s : State) : Next [.counters] s (execUnhandledFrame mac why s) := by
  unfold execUnhandledFrame
  refine Next.intro ?_
  split
  · refine Rel.step (by decide) (State.countMac_rel _ _ _ _) ?_
    exact Rel.refl _ _
  · refine Rel.step (by decide) (State.countMac_rel _ _ _ _) ?_
    exact Rel.refl _ _
  · refine Rel.step (by decide) (State.countMac_rel _ _ _ _) ?_
    exact Rel.refl _ _
  · refine Rel.step (by decide) (State.countMac_rel _ _ _ _) ?_
    exact Rel.refl _ _
  · refine Rel.step (by decide) (State.countFab_rel _ _) ?_
    exact Rel.refl _ _
  · refine Rel.step (by decide) (State.countFab_rel _ _) ?_
    exact Rel.refl _ _
  · refine Rel.step (by decide) (State.countFab_rel _ _) ?_
    exact Rel.refl _ _
  · refine Rel.step (by decide) (State.countMac_rel _ _ _ _) ?_
    exact Rel.refl _ _
  · refine Rel.step (by decide) (State.countMac_rel _ _ _ _) ?_
    exact Rel.refl _ _

theorem execWindowClose_next (ctx : Nat) (entry : Nat) (s : State) : Next [.out, .clk, .ctxs, .macs, .mailboxes, .log, .logNext, .logOverflow, .counters] s (execWindowClose ctx entry s) := by
  unfold execWindowClose
  split
  · refine Next.intro ?_
    exact Rel.refl _ _
  · split
    · refine Next.intro ?_
      exact Rel.refl _ _
    · split
      · refine Next.intro ?_
        exact Rel.refl _ _
      · extract_lets +onlyGivenNames x1; (refine Next.via (t := x1) ?_ (fun _ => ?_); (on_goal 2 => try clear_value x1); (on_goal 1 => unfold x1); (on_goal 1 => clear x1))
        · refine Rel.step (by decide) (State.toTai_rel _ _) ?_
          exact Rel.refl _ _
        · extract_lets +onlyGivenNames x2; try clear_value x2
          extract_lets +onlyGivenNames x3; (refine Next.via (t := x3) ?_ (fun _ => ?_); (on_goal 2 => try clear_value x3); (on_goal 1 => unfold x3); (on_goal 1 => clear x3))
          · refine Rel.step (by decide) (State.updMac_rel _ _ _) ?_
            assumption
          · refine Next.intro ?_
            split
            · refine Rel.step (by decide) (State.event_rel _ _ _ _ _) ?_
              refine Rel.step (by decide) (State.countMac_rel _ _ _ _) ?_
              refine Rel.step (by decide) (State.count_rel _ _ _ _) ?_
              assumption
            · assumption

theorem execWindowOpen_next (ctx : Nat) (entry : Nat) (s : State) : Next [.clk, .ctxs, .flows, .macs, .ecnDraws, .counters] s (execWindowOpen ctx entry s) := by
  unfold execWindowOpen
  split
  · refine Next.intro ?_
    exact Rel.refl _ _
  · extract_lets +onlyGivenNames x1; try clear_value x1
    split
    · refine Next.intro ?_
      exact Rel.refl _ _
    · extract_lets +onlyGivenNames x2; (refine Next.via (t := x2) ?_ (fun _ => ?_); (on_goal 2 => try clear_value x2); (on_goal 1 => unfold x2); (on_goal 1 => clear x2))
      · refine Rel.step (by decide) (State.evMark_rel _ _ _ _) ?_
        refine Rel.step (by decide) (State.toTai_rel _ _) ?_
        exact Rel.refl _ _
      · extract_lets +onlyGivenNames x3; try clear_value x3
        extract_lets +onlyGivenNames x4; (refine Next.via (t := x4) ?_ (fun _ => ?_); (on_goal 2 => try clear_value x4); (on_goal 1 => unfold x4); (on_goal 1 => clear x4))
        · refine Rel.step (by decide) (State.leaveLpi_rel _ _) ?_
          assumption
        · extract_lets +onlyGivenNames x5; (refine Next.via (t := x5) ?_ (fun _ => ?_); (on_goal 2 => try clear_value x5); (on_goal 1 => unfold x5); (on_goal 1 => clear x5))
          · refine Rel.step (by decide) (State.excuse_rel _ _ _ _ _) ?_
            assumption
          · extract_lets +onlyGivenNames x6; (refine Next.via (t := x6) ?_ (fun _ => ?_); (on_goal 2 => try clear_value x6); (on_goal 1 => unfold x6); (on_goal 1 => clear x6))
            · refine Rel.step (by decide) (State.updMac_rel _ _ _) ?_
              assumption
            · extract_lets +onlyGivenNames x7; try clear_value x7
              extract_lets +onlyGivenNames x8; (refine Next.via (t := x8) ?_ (fun _ => ?_); (on_goal 2 => try clear_value x8); (on_goal 1 => unfold x8); (on_goal 1 => clear x8))
              · refine Rel.step (by decide) Rel.set_flows ?_
                assumption
              · refine Next.intro ?_
                refine Rel.step (by decide) (State.pumpAll_rel _) ?_
                assumption

end Sys2Proof.Machine
end

