-- ==== Sys2Proof/Laws/Jobs.lean ====
section
/-! SUPPORT. What the operations and the meanings of Machine/Jobs.lean can change: for each operation the fields of the state it may change, and
for each meaning that it answers a next state and the fields that it may change; all of them keep the invariant. -/

namespace Sys2Proof.Machine

theorem State.updReshard_rel (s : State) (x : Nat) (f : Reshard → Reshard) : Rel [.ctxs] s (State.updReshard s x f) := by
  unfold State.updReshard
  refine Rel.step (by decide) (State.updJob_rel _ _ _) ?_
  exact Rel.refl _ _

theorem State.abandonReshard_rel (s : State) (x : Nat) : Rel [.mem, .ctxs, .freed] s (State.abandonReshard s x) := by
  unfold State.abandonReshard
  extract_lets +onlyGivenNames x1; try clear_value x1
  extract_lets +onlyGivenNames x2; (refine Rel.via (t := x2) ?_ (fun _ => ?_); (on_goal 2 => try clear_value x2); (on_goal 1 => unfold x2); (on_goal 1 => clear x2))
  · refine Rel.foldl (fun _ _ => ?_) ?_
    · refine Rel.step (by decide) (State.releaseEntry_rel _ _ _ _) ?_
      exact Rel.refl _ _
    · exact Rel.refl _ _
  · refine Rel.step (by decide) (State.updReshard_rel _ _ _) ?_
    assumption

theorem State.closeFlows_rel (s : State) (x : Nat) : Rel [.fresh, .ctxs, .flows, .ctrl, .ctrlNext, .fcache, .macs, .ecnDraws, .counters] s (State.closeFlows s x) := by
  unfold State.closeFlows
  refine Rel.foldl (fun _ _ => ?_) ?_
  · refine Rel.step (by decide) (State.closeFlow_rel _ _) ?_
    exact Rel.refl _ _
  · exact Rel.refl _ _

theorem State.closePlanning_rel (s : State) (x : Nat) : Rel [.fresh, .ctxs, .flows, .ctrl, .ctrlNext, .fcache, .macs, .ecnDraws, .counters] s (State.closePlanning s x) := by
  unfold State.closePlanning
  refine Rel.foldl (fun _ _ => ?_) ?_
  · refine Rel.step (by decide) (State.closeFlow_rel _ _) ?_
    exact Rel.refl _ _
  · exact Rel.refl _ _

theorem State.createTile_rel (s : State) (x : Nat) (t : Nat) (e : TensorEntry) (data : List Byte) : Rel [.mem, .cores, .ctxs, .rowCopies] s (State.createTile s x t e data) := by
  unfold State.createTile
  split
  · exact Rel.refl _ _
  · extract_lets +onlyGivenNames x1; try clear_value x1
    extract_lets +onlyGivenNames x2; try clear_value x2
    extract_lets +onlyGivenNames x3; (refine Rel.via (t := x3) ?_ (fun _ => ?_); (on_goal 2 => try clear_value x3); (on_goal 1 => unfold x3); (on_goal 1 => clear x3))
    · refine Rel.step (by decide) (State.setCtx_rel _ _ _) ?_
      exact Rel.refl _ _
    · refine Rel.step (by decide) (State.ownWindow_rel _ _ _ _) ?_
      refine Rel.step (by decide) (State.memWrite_rel _ _ _) ?_
      assumption

theorem State.createTiles_rel (s : State) (x : Nat) (im : JobImage) (r : List Nat) : Rel [.out, .mem, .cores, .ctxs, .migs, .asks, .rowCopies, .mailboxes, .handles, .log, .logNext, .logOverflow] s (State.createTiles s x im r) := by
  unfold State.createTiles
  extract_lets +onlyGivenNames x1; (refine Rel.via (t := x1) ?_ (fun _ => ?_); (on_goal 2 => try clear_value x1); (on_goal 1 => unfold x1); (on_goal 1 => clear x1))
  · refine Rel.foldl (fun _ _ => ?_) ?_
    · refine Rel.foldl (fun _ _ => ?_) ?_
      · extract_lets +onlyGivenNames x2; try clear_value x2
        extract_lets +onlyGivenNames x3; try clear_value x3
        split
        · extract_lets +onlyGivenNames x4; try clear_value x4
          extract_lets +onlyGivenNames x5; (refine Rel.via (t := x5) ?_ (fun _ => ?_); (on_goal 2 => try clear_value x5); (on_goal 1 => unfold x5); (on_goal 1 => clear x5))
          · refine Rel.step (by decide) (State.setCtx_rel _ _ _) ?_
            exact Rel.refl _ _
          · split
            · assumption
            · refine Rel.step (by decide) (State.askMig_rel _ _ _) ?_
              assumption
        · refine Rel.step (by decide) (State.createTile_rel _ _ _ _ _) ?_
          exact Rel.refl _ _
      · exact Rel.refl _ _
    · exact Rel.refl _ _
  · refine Rel.step (by decide) (State.updCtx_rel _ _ _) ?_
    assumption

theorem State.sendReport_rel (s : State) (x : Nat) (b : List Byte) : Rel [.out] s (State.sendReport s x b) := by
  unfold State.sendReport
  extract_lets +onlyGivenNames x1; try clear_value x1
  split
  · exact Rel.refl _ _
  · refine Rel.step (by decide) (State.dma_rel _ _ _ _) ?_
    exact Rel.refl _ _

theorem State.dropCopies_rel (s : State) (x : Nat) : Rel [.mem, .freed] s (State.dropCopies s x) := by
  unfold State.dropCopies
  extract_lets +onlyGivenNames x1; try clear_value x1
  refine Rel.foldl (fun _ _ => ?_) ?_
  · refine Rel.step (by decide) (State.releaseCap_rel _ _ _) ?_
    exact Rel.refl _ _
  · exact Rel.refl _ _

theorem State.dropRings_rel (s : State) (x : Nat) : Rel [.cores] s (State.dropRings s x) := by
  unfold State.dropRings
  refine Rel.step (by decide) Rel.set_cores ?_
  exact Rel.refl _ _

theorem State.dropTiles_rel (s : State) (x : Nat) (gone : Nat → Bool) : Rel [.mem, .cores, .ctxs, .migs, .asks, .stalled, .freed, .tcache] s (State.dropTiles s x gone) := by
  unfold State.dropTiles
  extract_lets +onlyGivenNames x1; try clear_value x1
  extract_lets +onlyGivenNames x2; try clear_value x2
  extract_lets +onlyGivenNames x3; (refine Rel.via (t := x3) ?_ (fun _ => ?_); (on_goal 2 => try clear_value x3); (on_goal 1 => unfold x3); (on_goal 1 => clear x3))
  · refine Rel.foldl (fun _ _ => ?_) ?_
    · extract_lets +onlyGivenNames x4; (refine Rel.via (t := x4) ?_ (fun _ => ?_); (on_goal 2 => try clear_value x4); (on_goal 1 => unfold x4); (on_goal 1 => clear x4))
      · refine Rel.step (by decide) (State.releaseEntry_rel _ _ _ _) ?_
        exact Rel.refl _ _
      · split
        · split
          · assumption
          · refine Rel.step (by decide) (State.releaseFrame_rel _ _ _ _ _ _) ?_
            assumption
        · assumption
    · exact Rel.refl _ _
  · extract_lets +onlyGivenNames x5; (refine Rel.via (t := x5) ?_ (fun _ => ?_); (on_goal 2 => try clear_value x5); (on_goal 1 => unfold x5); (on_goal 1 => clear x5))
    · refine Rel.step (by decide) (State.invalidate_rel _ _ _) ?_
      assumption
    · extract_lets +onlyGivenNames x6; (refine Rel.via (t := x6) ?_ (fun _ => ?_); (on_goal 2 => try clear_value x6); (on_goal 1 => unfold x6); (on_goal 1 => clear x6))
      · refine Rel.step (by decide) Rel.set_migs_asks_stalled ?_
        assumption
      · refine Rel.step (by decide) (State.updCtx_rel _ _ _) ?_
        assumption

theorem State.newTable_rel (s : State) (x : Nat) (im : JobImage) (r : List Nat) : Rel [.mem, .cores, .ctxs, .rowCopies, .freed, .tcache] s (State.newTable s x im r) := by
  unfold State.newTable
  extract_lets +onlyGivenNames x1; try clear_value x1
  extract_lets +onlyGivenNames x2; try clear_value x2
  extract_lets +onlyGivenNames x3; try clear_value x3
  extract_lets +onlyGivenNames x4; try clear_value x4
  extract_lets +onlyGivenNames x5; (refine Rel.via (t := x5) ?_ (fun _ => ?_); (on_goal 2 => try clear_value x5); (on_goal 1 => unfold x5); (on_goal 1 => clear x5))
  · refine Rel.step (by decide) (State.invalidate_rel _ _ _) ?_
    refine Rel.foldl (fun _ _ => ?_) ?_
    · refine Rel.step (by decide) (State.releaseEntry_rel _ _ _ _) ?_
      exact Rel.refl _ _
    · exact Rel.refl _ _
  · extract_lets +onlyGivenNames x6; (refine Rel.via (t := x6) ?_ (fun _ => ?_); (on_goal 2 => try clear_value x6); (on_goal 1 => unfold x6); (on_goal 1 => clear x6))
    · refine Rel.step (by decide) (State.updCtx_rel _ _ _) ?_
      assumption
    · extract_lets +onlyGivenNames x7; (refine Rel.via (t := x7) ?_ (fun _ => ?_); (on_goal 2 => try clear_value x7); (on_goal 1 => unfold x7); (on_goal 1 => clear x7))
      · refine Rel.step (by decide) (State.updReshard_rel _ _ _) ?_
        assumption
      · refine Rel.foldl (fun _ _ => ?_) ?_
        · refine Rel.foldl (fun _ _ => ?_) ?_
          · split
            · exact Rel.refl _ _
            · refine Rel.step (by decide) (State.createTile_rel _ _ _ _ _) ?_
              exact Rel.refl _ _
          · exact Rel.refl _ _
        · assumption

theorem State.loadRings_rel (s : State) (x : Nat) (gs : List RingImage) : Rel [.mem, .cores, .ctxs, .migs, .stalled, .rowCopies] s (State.loadRings s x gs) := by
  unfold State.loadRings
  refine Rel.step (by decide) (State.ceilingFell_rel _) ?_
  refine Rel.foldl (fun _ _ => ?_) ?_
  · split
    · exact Rel.refl _ _
    · extract_lets +onlyGivenNames x1; (refine Rel.via (t := x1) ?_ (fun _ => ?_); (on_goal 2 => try clear_value x1); (on_goal 1 => unfold x1); (on_goal 1 => clear x1))
      · refine Rel.foldl (fun _ _ => ?_) ?_
        · refine Rel.step (by decide) (State.tsWrite_rel _ _ _ _) ?_
          exact Rel.refl _ _
        · exact Rel.refl _ _
      · refine Rel.step (by decide) (State.updRing_rel _ _ _ _) ?_
        assumption
  · exact Rel.refl _ _

theorem State.openNew_rel (s : State) (x : Nat) (needs : List (Nat × List Nat × Nat)) : Rel [.fresh, .ctxs, .flows, .ctrl, .ctrlNext, .macs, .ecnDraws, .counters] s (State.openNew s x needs) := by
  unfold State.openNew
  refine Rel.foldl (fun _ _ => ?_) ?_
  · extract_lets +onlyGivenNames x1; try clear_value x1
    split
    · exact Rel.refl _ _
    · refine Rel.step (by decide) (State.sendOpen_rel _ _ _) ?_
      exact Rel.refl _ _
  · exact Rel.refl _ _

theorem State.prefetch_rel (s : State) (x : Nat) (d : FeedDma) : Rel [.out, .mem, .ctxs, .migs, .stalled, .rowCopies] s (State.prefetch s x d) := by
  unfold State.prefetch
  split
  · refine Rel.step (by decide) (State.updCtx_rel _ _ _) ?_
    exact Rel.refl _ _
  · extract_lets +onlyGivenNames x1; (refine Rel.via (t := x1) ?_ (fun _ => ?_); (on_goal 2 => try clear_value x1); (on_goal 1 => unfold x1); (on_goal 1 => clear x1))
    · refine Rel.step (by decide) (State.localWrite_rel _ _ _ _) ?_
      exact Rel.refl _ _
    · extract_lets +onlyGivenNames x2; (refine Rel.via (t := x2) ?_ (fun _ => ?_); (on_goal 2 => try clear_value x2); (on_goal 1 => unfold x2); (on_goal 1 => clear x2))
      · refine Rel.step (by decide) (State.updCtx_rel _ _ _) ?_
        assumption
      · refine Rel.step (by decide) (State.dma_rel _ _ _ _) ?_
        assumption

theorem State.refuseJob_rel (s : State) (x : Nat) (status : Nat) (replies : List MemberReply) : Rel [.out, .fresh, .ctxs, .flows, .ctrl, .ctrlNext, .fcache, .macs, .ecnDraws, .mailboxes, .handles, .log, .logNext, .logOverflow, .counters] s (State.refuseJob s x status replies) := by
  unfold State.refuseJob
  extract_lets +onlyGivenNames x1; try clear_value x1
  extract_lets +onlyGivenNames x2; try clear_value x2
  extract_lets +onlyGivenNames x3; try clear_value x3
  extract_lets +onlyGivenNames x4; (refine Rel.via (t := x4) ?_ (fun _ => ?_); (on_goal 2 => try clear_value x4); (on_goal 1 => unfold x4); (on_goal 1 => clear x4))
  · refine Rel.step (by decide) (State.closeFlows_rel _ _) ?_
    refine Rel.step (by decide) (State.sendReport_rel _ _ _) ?_
    exact Rel.refl _ _
  · extract_lets +onlyGivenNames x5; (refine Rel.via (t := x5) ?_ (fun _ => ?_); (on_goal 2 => try clear_value x5); (on_goal 1 => unfold x5); (on_goal 1 => clear x5))
    · refine Rel.step (by decide) (State.updCtx_rel _ _ _) ?_
      assumption
    · refine Rel.step (by decide) (State.finish_rel _ _ _) ?_
      assumption

theorem State.sendMoves_rel (s : State) (x : Nat) (ms : List PermuteMove) : Rel [.mem, .ctxs, .rowCopies, .flows, .trk, .trkNext, .fcache, .macs, .ecnDraws, .counters] s (State.sendMoves s x ms) := by
  unfold State.sendMoves
  extract_lets +onlyGivenNames x1; try clear_value x1
  refine Rel.foldl (fun _ _ => ?_) ?_
  · split
    · refine Rel.step (by decide) (State.sendPermute_rel _ _ _) ?_
      exact Rel.refl _ _
    · exact Rel.refl _ _
  · exact Rel.refl _ _

theorem State.startJob_rel (s : State) (x : Nat) (grid : Nat) (restore : Bool) (replies : List MemberReply) : Rel [.out, .fresh, .mem, .cores, .ctxs, .migs, .asks, .stalled, .rowCopies, .flows, .ctrl, .ctrlNext, .fcache, .macs, .ecnDraws, .mailboxes, .handles, .log, .logNext, .logOverflow, .counters] s (State.startJob s x grid restore replies) := by
  unfold State.startJob
  split
  · exact Rel.refl _ _
  · extract_lets +onlyGivenNames x1; (refine Rel.via (t := x1) ?_ (fun _ => ?_); (on_goal 2 => try clear_value x1); (on_goal 1 => unfold x1); (on_goal 1 => clear x1))
    · split
      · split
        · exact Rel.refl _ _
        · refine Rel.step (by decide) (State.createTiles_rel _ _ _ _) ?_
          refine Rel.step (by decide) (State.loadRings_rel _ _ _) ?_
          exact Rel.refl _ _
      · exact Rel.refl _ _
    · extract_lets +onlyGivenNames x2; try clear_value x2
      extract_lets +onlyGivenNames x3; try clear_value x3
      extract_lets +onlyGivenNames x4; (refine Rel.via (t := x4) ?_ (fun _ => ?_); (on_goal 2 => try clear_value x4); (on_goal 1 => unfold x4); (on_goal 1 => clear x4))
      · refine Rel.step (by decide) (State.updCtx_rel _ _ _) ?_
        assumption
      · extract_lets +onlyGivenNames x5; (refine Rel.via (t := x5) ?_ (fun _ => ?_); (on_goal 2 => try clear_value x5); (on_goal 1 => unfold x5); (on_goal 1 => clear x5))
        · refine Rel.step (by decide) (State.closePlanning_rel _ _) ?_
          assumption
        · extract_lets +onlyGivenNames x6; try clear_value x6
          extract_lets +onlyGivenNames x7; (refine Rel.via (t := x7) ?_ (fun _ => ?_); (on_goal 2 => try clear_value x7); (on_goal 1 => unfold x7); (on_goal 1 => clear x7))
          · split
            · refine Rel.step (by decide) (State.sendReport_rel _ _ _) ?_
              assumption
            · assumption
          · extract_lets +onlyGivenNames x8; (refine Rel.via (t := x8) ?_ (fun _ => ?_); (on_goal 2 => try clear_value x8); (on_goal 1 => unfold x8); (on_goal 1 => clear x8))
            · refine Rel.step (by decide) (State.progress_rel _ _ _ _ _) ?_
              assumption
            · refine Rel.step (by decide) (State.finish_rel _ _ _) ?_
              assumption

theorem State.startTrace_rel (s : State) (x : Nat) : Rel [.ctxs] s (State.startTrace s x) := by
  unfold State.startTrace
  extract_lets +onlyGivenNames x1; try clear_value x1
  split
  · split
    · refine Rel.step (by decide) (State.updCtx_rel _ _ _) ?_
      exact Rel.refl _ _
    · exact Rel.refl _ _
  · exact Rel.refl _ _

theorem State.stopJob_rel (s : State) (x : Nat) : Rel [.out, .fresh, .mem, .cores, .ctxs, .migs, .asks, .stalled, .rowCopies, .freed, .tcache, .flows, .ctrl, .ctrlNext, .fcache, .macs, .ecnDraws, .mailboxes, .handles, .log, .logNext, .logOverflow, .counters, .nand] s (State.stopJob s x) := by
  unfold State.stopJob
  extract_lets +onlyGivenNames x1; try clear_value x1
  extract_lets +onlyGivenNames x2; try clear_value x2
  extract_lets +onlyGivenNames x3; (refine Rel.via (t := x3) ?_ (fun _ => ?_); (on_goal 2 => try clear_value x3); (on_goal 1 => unfold x3); (on_goal 1 => clear x3))
  · refine Rel.foldl (fun _ _ => ?_) ?_
    · refine Rel.step (by decide) (State.finish_rel _ _ _) ?_
      exact Rel.refl _ _
    · exact Rel.refl _ _
  · extract_lets +onlyGivenNames x4; (refine Rel.via (t := x4) ?_ (fun _ => ?_); (on_goal 2 => try clear_value x4); (on_goal 1 => unfold x4); (on_goal 1 => clear x4))
    · refine Rel.step (by decide) (State.dropRings_rel _ _) ?_
      refine Rel.step (by decide) (State.dropTiles_rel _ _ _) ?_
      refine Rel.step (by decide) (State.dropCopies_rel _ _) ?_
      refine Rel.step (by decide) (State.abandonReshard_rel _ _) ?_
      refine Rel.step (by decide) (State.fence_rel _ _) ?_
      assumption
    · extract_lets +onlyGivenNames x5; (refine Rel.via (t := x5) ?_ (fun _ => ?_); (on_goal 2 => try clear_value x5); (on_goal 1 => unfold x5); (on_goal 1 => clear x5))
      · refine Rel.step (by decide) (State.closeFlows_rel _ _) ?_
        assumption
      · refine Rel.step (by decide) (State.updCtx_rel _ _ _) ?_
        assumption

theorem execJobStartDecision_next (ctx : Nat) (d : StartInput) (s : State) : Next [.out, .fresh, .mem, .cores, .ctxs, .migs, .asks, .stalled, .rowCopies, .flows, .ctrl, .ctrlNext, .fcache, .macs, .ecnDraws, .mailboxes, .handles, .log, .logNext, .logOverflow, .counters] s (execJobStartDecision ctx d s) := by
  unfold execJobStartDecision
  extract_lets +onlyGivenNames x1; try clear_value x1
  split
  · refine Next.intro ?_
    exact Rel.refl _ _
  · split
    · refine Next.intro ?_
      exact Rel.refl _ _
    · split
      · extract_lets +onlyGivenNames x2; try clear_value x2
        extract_lets +onlyGivenNames x3; try clear_value x3
        split
        · refine Next.intro ?_
          exact Rel.refl _ _
        · extract_lets +onlyGivenNames x4; (refine Next.via (t := x4) ?_ (fun _ => ?_); (on_goal 2 => try clear_value x4); (on_goal 1 => unfold x4); (on_goal 1 => clear x4))
          · split
            · refine Rel.step (by decide) (State.updJob_rel _ _ _) ?_
              exact Rel.refl _ _
            · exact Rel.refl _ _
          · split
            · refine Next.intro ?_
              refine Rel.step (by decide) (State.refuseJob_rel _ _ _ _) ?_
              assumption
            · refine Next.intro ?_
              refine Rel.step (by decide) (State.startJob_rel _ _ _ _ _) ?_
              assumption
      · split
        · refine Next.intro ?_
          exact Rel.refl _ _
        · refine Next.intro ?_
          refine Rel.step (by decide) (State.startJob_rel _ _ _ _ _) ?_
          exact Rel.refl _ _
      · split
        · refine Next.intro ?_
          exact Rel.refl _ _
        · refine Next.intro ?_
          refine Rel.step (by decide) (State.refuseJob_rel _ _ _ _) ?_
          exact Rel.refl _ _

theorem execJobStepStart_next (ctx : Nat) (s : State) : Next [.out, .fresh, .clk, .mem, .cores, .ctxs, .migs, .asks, .stalled, .rowCopies, .freed, .tcache, .flows, .ctrl, .ctrlNext, .fcache, .macs, .ecnDraws, .mailboxes, .handles, .log, .logNext, .logOverflow, .counters, .nand] s (execJobStepStart ctx s) := by
  unfold execJobStepStart
  extract_lets +onlyGivenNames x1; try clear_value x1
  split
  · refine Next.intro ?_
    exact Rel.refl _ _
  · split
    · refine Next.intro ?_
      exact Rel.refl _ _
    · split
      · refine Next.intro ?_
        refine Rel.step (by decide) (State.stopJob_rel _ _) ?_
        refine Rel.step (by decide) (State.updJob_rel _ _ _) ?_
        exact Rel.refl _ _
      · split
        · refine Next.intro ?_
          exact Rel.refl _ _
        · extract_lets +onlyGivenNames x2; try clear_value x2
          extract_lets +onlyGivenNames x3; (refine Next.via (t := x3) ?_ (fun _ => ?_); (on_goal 2 => try clear_value x3); (on_goal 1 => unfold x3); (on_goal 1 => clear x3))
          · refine Rel.step (by decide) (State.toFabric_rel _ _ _) ?_
            exact Rel.refl _ _
          · extract_lets +onlyGivenNames x4; try clear_value x4
            extract_lets +onlyGivenNames x5; (refine Next.via (t := x5) ?_ (fun _ => ?_); (on_goal 2 => try clear_value x5); (on_goal 1 => unfold x5); (on_goal 1 => clear x5))
            · split
              · assumption
              · refine Rel.step (by decide) (State.event_rel _ _ _ _ _) ?_
                refine Rel.step (by decide) (State.count_rel _ _ _ _) ?_
                assumption
            · extract_lets +onlyGivenNames x6; (refine Next.via (t := x6) ?_ (fun _ => ?_); (on_goal 2 => try clear_value x6); (on_goal 1 => unfold x6); (on_goal 1 => clear x6))
              · split
                · refine Rel.step (by decide) (State.updSec_rel _ _ _) ?_
                  assumption
                · assumption
              · extract_lets +onlyGivenNames x7; (refine Next.via (t := x7) ?_ (fun _ => ?_); (on_goal 2 => try clear_value x7); (on_goal 1 => unfold x7); (on_goal 1 => clear x7))
                · refine Rel.step (by decide) (State.updJob_rel _ _ _) ?_
                  assumption
                · extract_lets +onlyGivenNames x8; (refine Next.via (t := x8) ?_ (fun _ => ?_); (on_goal 2 => try clear_value x8); (on_goal 1 => unfold x8); (on_goal 1 => clear x8))
                  · split
                    · refine Rel.step (by decide) (State.startTrace_rel _ _) ?_
                      assumption
                    · assumption
                  · refine Next.intro ?_
                    refine Rel.step (by decide) (State.mapRings_rel _ _ _) ?_
                    assumption

theorem execPermuteInstance_next (ctx : Nat) (s : State) : Next [.mem, .ctxs, .rowCopies, .flows, .trk, .trkNext, .fcache, .macs, .ecnDraws, .counters] s (execPermuteInstance ctx s) := by
  unfold execPermuteInstance
  extract_lets +onlyGivenNames x1; try clear_value x1
  split
  · refine Next.intro ?_
    exact Rel.refl _ _
  · refine Next.intro ?_
    refine Rel.step (by decide) (State.sendMoves_rel _ _ _) ?_
    exact Rel.refl _ _

theorem execPlanAccept_next (ctx : Nat) (plan : PlanMsg) (s : State) : Next [.fresh, .ctxs, .flows, .ctrl, .ctrlNext, .macs, .ecnDraws, .handles, .counters] s (execPlanAccept ctx plan s) := by
  unfold execPlanAccept
  extract_lets +onlyGivenNames x1; try clear_value x1
  split
  · refine Next.intro ?_
    exact Rel.refl _ _
  · extract_lets +onlyGivenNames x2; try clear_value x2
    split
    · refine Next.intro ?_
      exact Rel.refl _ _
    · extract_lets +onlyGivenNames x3; try clear_value x3
      extract_lets +onlyGivenNames x4; try clear_value x4
      extract_lets +onlyGivenNames x5; try clear_value x5
      extract_lets +onlyGivenNames x6; try clear_value x6
      extract_lets +onlyGivenNames x7; (refine Next.via (t := x7) ?_ (fun _ => ?_); (on_goal 2 => try clear_value x7); (on_goal 1 => unfold x7); (on_goal 1 => clear x7))
      · refine Rel.step (by decide) (State.updCtx_rel _ _ _) ?_
        exact Rel.refl _ _
      · extract_lets +onlyGivenNames x8; (refine Next.via (t := x8) ?_ (fun _ => ?_); (on_goal 2 => try clear_value x8); (on_goal 1 => unfold x8); (on_goal 1 => clear x8))
        · split
          · assumption
          · split
            · assumption
            · refine Rel.foldl (fun _ _ => ?_) ?_
              · extract_lets +onlyGivenNames x9; try clear_value x9
                split
                · refine Rel.step (by decide) (State.sendOpen_rel _ _ _) ?_
                  exact Rel.refl _ _
                · exact Rel.refl _ _
              · assumption
        · refine Next.intro ?_
          refine Rel.step (by decide) (State.progress_rel _ _ _ _ _) ?_
          assumption

theorem execPlanPlacement_next (ctx : Nat) (meas : PlanMeasure) (s : State) : Next [.ctxs] s (execPlanPlacement ctx meas s) := by
  unfold execPlanPlacement
  extract_lets +onlyGivenNames x1; try clear_value x1
  split
  · refine Next.intro ?_
    exact Rel.refl _ _
  · split
    · refine Next.intro ?_
      exact Rel.refl _ _
    · extract_lets +onlyGivenNames x2; try clear_value x2
      extract_lets +onlyGivenNames x3; try clear_value x3
      extract_lets +onlyGivenNames x4; try clear_value x4
      extract_lets +onlyGivenNames x5; try clear_value x5
      extract_lets +onlyGivenNames x6; try clear_value x6
      refine Next.intro ?_
      refine Rel.step (by decide) (State.updJob_rel _ _ _) ?_
      exact Rel.refl _ _

theorem execPrefetch_next (ctx : Nat) (d : FeedDma) (s : State) : Next [.out, .clk, .mem, .ctxs, .migs, .stalled, .rowCopies] s (execPrefetch ctx d s) := by
  unfold execPrefetch
  extract_lets +onlyGivenNames x1; try clear_value x1
  extract_lets +onlyGivenNames x2; try clear_value x2
  split
  · refine Next.intro ?_
    exact Rel.refl _ _
  · split
    · refine Next.intro ?_
      exact Rel.refl _ _
    · extract_lets +onlyGivenNames x3; (refine Next.via (t := x3) ?_ (fun _ => ?_); (on_goal 2 => try clear_value x3); (on_goal 1 => unfold x3); (on_goal 1 => clear x3))
      · refine Rel.step (by decide) (State.toTai_rel _ _) ?_
        exact Rel.refl _ _
      · split
        · refine Next.intro ?_
          refine Rel.step (by decide) (State.updJob_rel _ _ _) ?_
          assumption
        · refine Next.intro ?_
          refine Rel.step (by decide) (State.prefetch_rel _ _ _) ?_
          assumption

theorem execPrefetchRetry_next (ctx : Nat) (d : FeedDma) (s : State) : Next [.out, .clk, .mem, .ctxs, .migs, .stalled, .rowCopies] s (execPrefetchRetry ctx d s) := by
  unfold execPrefetchRetry
  split
  · refine Next.intro ?_
    exact Rel.refl _ _
  · refine Next.intro ?_
    refine Rel.step (by decide) (State.prefetch_rel _ _ _) ?_
    refine Rel.step (by decide) (State.advance_rel _ _) ?_
    exact Rel.refl _ _

theorem execReshardBoundary_next (ctx : Nat) (s : State) : Next [.ctxs] s (execReshardBoundary ctx s) := by
  unfold execReshardBoundary
  extract_lets +onlyGivenNames x1; try clear_value x1
  split
  · refine Next.intro ?_
    exact Rel.refl _ _
  · refine Next.intro ?_
    refine Rel.step (by decide) (State.updReshard_rel _ _ _) ?_
    exact Rel.refl _ _

theorem execReshardCommit_next (ctx : Nat) (lay : NewLayout) (s : State) : Next [.fresh, .clk, .mem, .cores, .ctxs, .rowCopies, .freed, .tcache, .flows, .ctrl, .ctrlNext, .fcache, .macs, .ecnDraws, .counters] s (execReshardCommit ctx lay s) := by
  unfold execReshardCommit
  extract_lets +onlyGivenNames x1; try clear_value x1
  split
  · refine Next.intro ?_
    exact Rel.refl _ _
  · split
    · refine Next.intro ?_
      exact Rel.refl _ _
    · extract_lets +onlyGivenNames x2; try clear_value x2
      extract_lets +onlyGivenNames x3; (refine Next.via (t := x3) ?_ (fun _ => ?_); (on_goal 2 => try clear_value x3); (on_goal 1 => unfold x3); (on_goal 1 => clear x3))
      · refine Rel.step (by decide) (State.toFabric_rel _ _ _) ?_
        exact Rel.refl _ _
      · extract_lets +onlyGivenNames x4; try clear_value x4
        extract_lets +onlyGivenNames x5; try clear_value x5
        extract_lets +onlyGivenNames x6; try clear_value x6
        extract_lets +onlyGivenNames x7; try clear_value x7
        extract_lets +onlyGivenNames x8; try clear_value x8
        extract_lets +onlyGivenNames x9; (refine Next.via (t := x9) ?_ (fun _ => ?_); (on_goal 2 => try clear_value x9); (on_goal 1 => unfold x9); (on_goal 1 => clear x9))
        · split
          · refine Rel.step (by decide) (State.newTable_rel _ _ _ _) ?_
            assumption
          · assumption
        · extract_lets +onlyGivenNames x10; try clear_value x10
          extract_lets +onlyGivenNames x11; try clear_value x11
          extract_lets +onlyGivenNames x12; try clear_value x12
          extract_lets +onlyGivenNames x13; try clear_value x13
          extract_lets +onlyGivenNames x14; try clear_value x14
          extract_lets +onlyGivenNames x15; (refine Next.via (t := x15) ?_ (fun _ => ?_); (on_goal 2 => try clear_value x15); (on_goal 1 => unfold x15); (on_goal 1 => clear x15))
          · refine Rel.step (by decide) (State.updCtx_rel _ _ _) ?_
            assumption
          · refine Next.intro ?_
            refine Rel.foldl (fun _ _ => ?_) ?_
            · refine Rel.step (by decide) (State.closeFlow_rel _ _) ?_
              exact Rel.refl _ _
            · assumption

theorem execReshardCommitBroadcast_next (ctx : Nat) (commitNs : Nat) (s : State) : Next [.ctxs] s (execReshardCommitBroadcast ctx commitNs s) := by
  unfold execReshardCommitBroadcast
  extract_lets +onlyGivenNames x1; try clear_value x1
  split
  · refine Next.intro ?_
    exact Rel.refl _ _
  · refine Next.intro ?_
    refine Rel.step (by decide) (State.updReshard_rel _ _ _) ?_
    exact Rel.refl _ _

theorem execReshardDrainDone_next (ctx : Nat) (s : State) : Next [.fresh, .mem, .ctxs, .rowCopies, .flows, .trk, .trkNext, .ctrl, .ctrlNext, .fcache, .macs, .ecnDraws, .counters] s (execReshardDrainDone ctx s) := by
  unfold execReshardDrainDone
  extract_lets +onlyGivenNames x1; try clear_value x1
  split
  · refine Next.intro ?_
    exact Rel.refl _ _
  · extract_lets +onlyGivenNames x2; (refine Next.via (t := x2) ?_ (fun _ => ?_); (on_goal 2 => try clear_value x2); (on_goal 1 => unfold x2); (on_goal 1 => clear x2))
    · refine Rel.step (by decide) (State.sendMoves_rel _ _ _) ?_
      refine Rel.step (by decide) (State.updReshard_rel _ _ _) ?_
      exact Rel.refl _ _
    · refine Next.intro ?_
      refine Rel.step (by decide) (State.openNew_rel _ _ _) ?_
      assumption

theorem execReshardPermuteDone_next (ctx : Nat) (s : State) : Next [.ctxs] s (execReshardPermuteDone ctx s) := by
  unfold execReshardPermuteDone
  extract_lets +onlyGivenNames x1; try clear_value x1
  extract_lets +onlyGivenNames x2; try clear_value x2
  split
  · refine Next.intro ?_
    exact Rel.refl _ _
  · refine Next.intro ?_
    refine Rel.step (by decide) (State.updReshard_rel _ _ _) ?_
    exact Rel.refl _ _

theorem execReshardRequest_next (ctx : Nat) (rq : ReshardReq) (s : State) : Next [.fresh, .ctxs, .flows, .ctrl, .ctrlNext, .macs, .ecnDraws, .counters] s (execReshardRequest ctx rq s) := by
  unfold execReshardRequest
  extract_lets +onlyGivenNames x1; try clear_value x1
  extract_lets +onlyGivenNames x2; try clear_value x2
  split
  · refine Next.intro ?_
    exact Rel.refl _ _
  · split
    · refine Next.intro ?_
      exact Rel.refl _ _
    · extract_lets +onlyGivenNames x3; try clear_value x3
      split
      · refine Next.intro ?_
        refine Rel.step (by decide) (State.openNew_rel _ _ _) ?_
        refine Rel.step (by decide) (State.updReshard_rel _ _ _) ?_
        exact Rel.refl _ _
      · split
        · refine Next.intro ?_
          refine Rel.step (by decide) (State.updReshard_rel _ _ _) ?_
          exact Rel.refl _ _
        · refine Next.intro ?_
          refine Rel.step (by decide) (State.updReshard_rel _ _ _) ?_
          exact Rel.refl _ _
        · refine Next.intro ?_
          refine Rel.step (by decide) (State.updReshard_rel _ _ _) ?_
          exact Rel.refl _ _
        · refine Next.intro ?_
          refine Rel.step (by decide) (State.updReshard_rel _ _ _) ?_
          exact Rel.refl _ _
        · refine Next.intro ?_
          refine Rel.step (by decide) (State.updReshard_rel _ _ _) ?_
          exact Rel.refl _ _
        · refine Next.intro ?_
          refine Rel.step (by decide) (State.updReshard_rel _ _ _) ?_
          exact Rel.refl _ _

theorem execStartWaitTimeout_next (ctx : Nat) (s : State) : Next [.out, .fresh, .clk, .ctxs, .flows, .ctrl, .ctrlNext, .fcache, .macs, .ecnDraws, .mailboxes, .handles, .log, .logNext, .logOverflow, .counters] s (execStartWaitTimeout ctx s) := by
  unfold execStartWaitTimeout
  extract_lets +onlyGivenNames x1; try clear_value x1
  split
  · refine Next.intro ?_
    exact Rel.refl _ _
  · extract_lets +onlyGivenNames x2; try clear_value x2
    split
    · refine Next.intro ?_
      exact Rel.refl _ _
    · refine Next.intro ?_
      refine Rel.step (by decide) (State.refuseJob_rel _ _ _ _) ?_
      refine Rel.step (by decide) (State.toTai_rel _ _) ?_
      exact Rel.refl _ _

theorem execValidationLossCompare_next (ctx : Nat) (step : Nat) (losses : List (Nat × F32)) (s : State) : Next [.out, .ctxs, .mailboxes, .handles, .log, .logNext, .logOverflow] s (execValidationLossCompare ctx step losses s) := by
  unfold execValidationLossCompare
  extract_lets +onlyGivenNames x1; try clear_value x1
  split
  · refine Next.intro ?_
    exact Rel.refl _ _
  · extract_lets +onlyGivenNames x2; try clear_value x2
    extract_lets +onlyGivenNames x3; (refine Next.via (t := x3) ?_ (fun _ => ?_); (on_goal 2 => try clear_value x3); (on_goal 1 => unfold x3); (on_goal 1 => clear x3))
    · refine Rel.foldl (fun _ _ => ?_) ?_
      · refine Rel.step (by decide) (State.event_rel _ _ _ _ _) ?_
        exact Rel.refl _ _
      · exact Rel.refl _ _
    · extract_lets +onlyGivenNames x4; (refine Next.via (t := x4) ?_ (fun _ => ?_); (on_goal 2 => try clear_value x4); (on_goal 1 => unfold x4); (on_goal 1 => clear x4))
      · refine Rel.step (by decide) (State.updJob_rel _ _ _) ?_
        assumption
      · extract_lets +onlyGivenNames x5; (refine Next.via (t := x5) ?_ (fun _ => ?_); (on_goal 2 => try clear_value x5); (on_goal 1 => unfold x5); (on_goal 1 => clear x5))
        · refine Rel.step (by decide) (State.progress1_rel _ _) ?_
          assumption
        · split
          · extract_lets +onlyGivenNames x6; try clear_value x6
            refine Next.intro ?_
            refine Rel.step (by decide) (State.finish_rel _ _ _) ?_
            refine Rel.step (by decide) (State.updJob_rel _ _ _) ?_
            assumption
          · refine Next.intro ?_
            assumption

end Sys2Proof.Machine
end

