-- ==== Sys2Proof/Laws/Secure.lean ====
section
/-! SUPPORT. What the operations and the meanings of Machine/Secure.lean can change: for each operation the fields of the state it may change, and
for each meaning that it answers a next state and the fields that it may change; all of them keep the invariant. -/

namespace Sys2Proof.Machine

theorem State.boundaryTime_rel (s : State) (ctx : Nat) (j : Job) (first : Option (Nat × EvtEntry)) : Rel [.clk, .ctxs] s (State.boundaryTime s ctx j first) := by
  unfold State.boundaryTime
  split
  · split
    · exact Rel.refl _ _
    · refine Rel.step (by decide) (State.evMark_rel _ _ _ _) ?_
      refine Rel.step (by decide) (State.toTai_rel _ _) ?_
      exact Rel.refl _ _
  · exact Rel.refl _ _

theorem State.capture_rel (s : State) (x : Nat) (im : JobImage) : Rel [.fresh, .ctxs] s (State.capture s x im) := by
  unfold State.capture
  extract_lets +onlyGivenNames x1; try clear_value x1
  extract_lets +onlyGivenNames x2; try clear_value x2
  extract_lets +onlyGivenNames x3; try clear_value x3
  extract_lets +onlyGivenNames x4; try clear_value x4
  extract_lets +onlyGivenNames x5; try clear_value x5
  extract_lets +onlyGivenNames x6; try clear_value x6
  extract_lets +onlyGivenNames x7; try clear_value x7
  extract_lets +onlyGivenNames x8; try clear_value x8
  extract_lets +onlyGivenNames x9; try clear_value x9
  extract_lets +onlyGivenNames x10; (refine Rel.via (t := x10) ?_ (fun _ => ?_); (on_goal 2 => try clear_value x10); (on_goal 1 => unfold x10); (on_goal 1 => clear x10))
  · refine Rel.step (by decide) (State.draw_rel _) ?_
    refine Rel.step (by decide) (State.draw_rel _) ?_
    refine Rel.step (by decide) (State.draw_rel _) ?_
    refine Rel.step (by decide) (State.draw_rel _) ?_
    exact Rel.refl _ _
  · refine Rel.step (by decide) (State.updCtx_rel _ _ _) ?_
    assumption

theorem State.updNand_rel (s : State) (job : Nat) (gen : Nat) (f : NandGen → NandGen) : Rel [.nand] s (State.updNand s job gen f) := by
  unfold State.updNand
  refine Rel.step (by decide) Rel.set_nand ?_
  exact Rel.refl _ _

theorem State.commitGen_rel (s : State) (x : Nat) (commitNs : Nat) (nextStep : Nat) : Rel [.mem, .ctxs, .freed, .nand] s (State.commitGen s x commitNs nextStep) := by
  unfold State.commitGen
  extract_lets +onlyGivenNames x1; try clear_value x1
  split
  · exact Rel.refl _ _
  · extract_lets +onlyGivenNames x2; try clear_value x2
    extract_lets +onlyGivenNames x3
    extract_lets +onlyGivenNames x4; try clear_value x4
    extract_lets +onlyGivenNames x5; (refine Rel.via (t := x5) ?_ (fun _ => ?_); (on_goal 2 => try clear_value x5); (on_goal 1 => unfold x5); (on_goal 1 => clear x5))
    · split
      · unfold x3
        refine Rel.foldl (fun _ _ => ?_) ?_
        · refine Rel.step (by decide) (State.releaseCap_rel _ _ _) ?_
          exact Rel.refl _ _
        · exact Rel.refl _ _
      · unfold x3
        refine Rel.foldl (fun _ _ => ?_) ?_
        · refine Rel.step (by decide) (State.releaseCap_rel _ _ _) ?_
          exact Rel.refl _ _
        · exact Rel.refl _ _
    · extract_lets +onlyGivenNames x6; try clear_value x6
      extract_lets +onlyGivenNames x7; try clear_value x7
      extract_lets +onlyGivenNames x8; (refine Rel.via (t := x8) ?_ (fun _ => ?_); (on_goal 2 => try clear_value x8); (on_goal 1 => unfold x8); (on_goal 1 => clear x8))
      · refine Rel.step (by decide) (State.updSec_rel _ _ _) ?_
        assumption
      · extract_lets +onlyGivenNames x9; (refine Rel.via (t := x9) ?_ (fun _ => ?_); (on_goal 2 => try clear_value x9); (on_goal 1 => unfold x9); (on_goal 1 => clear x9))
        · refine Rel.step (by decide) (State.updNand_rel _ _ _ _) ?_
          refine Rel.step (by decide) (State.count_rel _ _ _ _) ?_
          assumption
        · refine Rel.step (by decide) Rel.set_nand ?_
          assumption

theorem State.mirrorIn_rel (s : State) (x : Nat) (c : MirrorCopy) : Rel [.nand, .journal] s (State.mirrorIn s x c) := by
  unfold State.mirrorIn
  extract_lets +onlyGivenNames x1; try clear_value x1
  split
  · exact Rel.refl _ _
  · refine Rel.step (by decide) Rel.set_nand_journal ?_
    exact Rel.refl _ _

theorem State.partDone_rel (s : State) (ctx : Nat) (parityPart : Bool) : Rel [.ctxs, .nand, .journal] s (State.partDone s ctx parityPart) := by
  unfold State.partDone
  extract_lets +onlyGivenNames x1; try clear_value x1
  split
  · exact Rel.refl _ _
  · extract_lets +onlyGivenNames x2; try clear_value x2
    extract_lets +onlyGivenNames x3; try clear_value x3
    split
    · exact Rel.refl _ _
    · extract_lets +onlyGivenNames x4; try clear_value x4
      extract_lets +onlyGivenNames x5; (refine Rel.via (t := x5) ?_ (fun _ => ?_); (on_goal 2 => try clear_value x5); (on_goal 1 => unfold x5); (on_goal 1 => clear x5))
      · refine Rel.step (by decide) (State.updSec_rel _ _ _) ?_
        exact Rel.refl _ _
      · extract_lets +onlyGivenNames x6; try clear_value x6
        extract_lets +onlyGivenNames x7; (refine Rel.via (t := x7) ?_ (fun _ => ?_); (on_goal 2 => try clear_value x7); (on_goal 1 => unfold x7); (on_goal 1 => clear x7))
        · split
          · refine Rel.step (by decide) (State.updSec_rel _ _ _) ?_
            exact Rel.refl _ _
          · refine Rel.step (by decide) Rel.set_nand_journal ?_
            assumption
        · extract_lets +onlyGivenNames x8; try clear_value x8
          split
          · assumption
          · extract_lets +onlyGivenNames x9; (refine Rel.via (t := x9) ?_ (fun _ => ?_); (on_goal 2 => try clear_value x9); (on_goal 1 => unfold x9); (on_goal 1 => clear x9))
            · refine Rel.step (by decide) (State.updCtx_rel _ _ _) ?_
              assumption
            · refine Rel.step (by decide) (State.updSec_rel _ _ _) ?_
              assumption

theorem State.writeLoss_rel (s : State) (x : Nat) (v : F32) : Rel [.ctxs, .nand] s (State.writeLoss s x v) := by
  unfold State.writeLoss
  extract_lets +onlyGivenNames x1; try clear_value x1
  split
  · split
    · refine Rel.step (by decide) (State.updSec_rel _ _ _) ?_
      exact Rel.refl _ _
    · exact Rel.refl _ _
  · split
    · exact Rel.refl _ _
    · split
      · exact Rel.refl _ _
      · extract_lets +onlyGivenNames x2; try clear_value x2
        extract_lets +onlyGivenNames x3; (refine Rel.via (t := x3) ?_ (fun _ => ?_); (on_goal 2 => try clear_value x3); (on_goal 1 => unfold x3); (on_goal 1 => clear x3))
        · refine Rel.step (by decide) (State.updSec_rel _ _ _) ?_
          exact Rel.refl _ _
        · split
          · assumption
          · refine Rel.step (by decide) (State.updNand_rel _ _ _ _) ?_
            assumption

theorem execBoundary_next (ctx : Nat) (s : State) : Next [.out, .fresh, .clk, .ctxs, .mailboxes, .log, .logNext, .logOverflow] s (execBoundary ctx s) := by
  unfold execBoundary
  extract_lets +onlyGivenNames x1; try clear_value x1
  split
  · refine Next.intro ?_
    exact Rel.refl _ _
  · extract_lets +onlyGivenNames x2; try clear_value x2
    extract_lets +onlyGivenNames x3; try clear_value x3
    extract_lets +onlyGivenNames x4; try clear_value x4
    split
    · refine Next.intro ?_
      exact Rel.refl _ _
    · extract_lets +onlyGivenNames x5; (refine Next.via (t := x5) ?_ (fun _ => ?_); (on_goal 2 => try clear_value x5); (on_goal 1 => unfold x5); (on_goal 1 => clear x5))
      · refine Rel.step (by decide) (State.boundaryTime_rel _ _ _ _) ?_
        exact Rel.refl _ _
      · extract_lets +onlyGivenNames x6
        split
        · refine Next.intro ?_
          unfold x6
          refine Rel.step (by decide) (State.updJob_rel _ _ _) ?_
          assumption
        · split
          · refine Next.intro ?_
            refine Rel.step (by decide) (State.updJob_rel _ _ _) ?_
            assumption
          · split
            · extract_lets +onlyGivenNames x7; (refine Next.via (t := x7) ?_ (fun _ => ?_); (on_goal 2 => try clear_value x7); (on_goal 1 => unfold x7); (on_goal 1 => clear x7))
              · refine Rel.step (by decide) (State.updSec_rel _ _ _) ?_
                refine Rel.step (by decide) (State.count_rel _ _ _ _) ?_
                assumption
              · refine Next.intro ?_
                refine Rel.step (by decide) (State.updJob_rel _ _ _) ?_
                refine Rel.step (by decide) (State.event_rel _ _ _ _ _) ?_
                assumption
            · split
              · refine Next.intro ?_
                unfold x6
                refine Rel.step (by decide) (State.updJob_rel _ _ _) ?_
                assumption
              · refine Next.intro ?_
                refine Rel.step (by decide) (State.updJob_rel _ _ _) ?_
                refine Rel.step (by decide) (State.capture_rel _ _ _) ?_
                assumption

theorem execGenerationCommit_next (ctx : Nat) (generation : Nat) (commitNs : Nat) (nextStep : Nat) (s : State) : Next [.mem, .ctxs, .freed, .nand] s (execGenerationCommit ctx generation commitNs nextStep s) := by
  unfold execGenerationCommit
  split
  · split
    · refine Next.intro ?_
      refine Rel.step (by decide) (State.commitGen_rel _ _ _ _) ?_
      exact Rel.refl _ _
    · refine Next.intro ?_
      exact Rel.refl _ _
  · refine Next.intro ?_
    exact Rel.refl _ _

theorem execLossCapture_next (ctx : Nat) (loss : Option F32) (s : State) : Next [.ctxs, .nand] s (execLossCapture ctx loss s) := by
  unfold execLossCapture
  extract_lets +onlyGivenNames x1; try clear_value x1
  split
  · refine Next.intro ?_
    exact Rel.refl _ _
  · split
    · refine Next.intro ?_
      exact Rel.refl _ _
    · split
      · refine Next.intro ?_
        refine Rel.step (by decide) (State.writeLoss_rel _ _ _) ?_
        exact Rel.refl _ _
      · split
        · refine Next.intro ?_
          refine Rel.step (by decide) (State.writeLoss_rel _ _ _) ?_
          exact Rel.refl _ _
        · refine Next.intro ?_
          exact Rel.refl _ _

theorem execSecuringCommit_next (ctx : Nat) (s : State) : Next [.out, .mem, .ctxs, .freed, .mailboxes, .log, .logNext, .logOverflow, .nand] s (execSecuringCommit ctx s) := by
  unfold execSecuringCommit
  extract_lets +onlyGivenNames x1; try clear_value x1
  split
  · split
    · refine Next.intro ?_
      exact Rel.refl _ _
    · extract_lets +onlyGivenNames x2; try clear_value x2
      extract_lets +onlyGivenNames x3; try clear_value x3
      extract_lets +onlyGivenNames x4; try clear_value x4
      extract_lets +onlyGivenNames x5; try clear_value x5
      extract_lets +onlyGivenNames x6; (refine Next.via (t := x6) ?_ (fun _ => ?_); (on_goal 2 => try clear_value x6); (on_goal 1 => unfold x6); (on_goal 1 => clear x6))
      · split
        · refine Rel.step (by decide) (State.event_rel _ _ _ _ _) ?_
          exact Rel.refl _ _
        · exact Rel.refl _ _
      · refine Next.intro ?_
        refine Rel.step (by decide) (State.commitGen_rel _ _ _ _) ?_
        assumption
  · refine Next.intro ?_
    exact Rel.refl _ _

theorem execSecuringPartDone_next (ctx : Nat) (part : SecPart) (s : State) : Next [.ctxs, .nand, .journal] s (execSecuringPartDone ctx part s) := by
  unfold execSecuringPartDone
  split
  · refine Next.intro ?_
    refine Rel.step (by decide) (State.partDone_rel _ _ _) ?_
    exact Rel.refl _ _
  · refine Next.intro ?_
    refine Rel.step (by decide) (State.partDone_rel _ _ _) ?_
    exact Rel.refl _ _
  · refine Next.intro ?_
    refine Rel.step (by decide) (State.mirrorIn_rel _ _ _) ?_
    exact Rel.refl _ _

end Sys2Proof.Machine
end

