-- ==== Sys2Proof/Laws/Recover.lean ====
section
/-! SUPPORT. What the operations and the meanings of Machine/Recover.lean can change: for each operation the fields of the state it may change, and
for each meaning that it answers a next state and the fields that it may change; all of them keep the invariant. -/

namespace Sys2Proof.Machine

theorem State.disarm_rel (s : State) (x : Nat) : Rel [.ctxs] s (State.disarm s x) := by
  unfold State.disarm
  refine Rel.step (by decide) (State.updCtx_rel _ _ _) ?_
  exact Rel.refl _ _

theorem State.beginRecovery_rel (s : State) (x : Nat) (code : Nat) (atNs : Nat) (lost : List Nat) : Rel [.ctxs] s (State.beginRecovery s x code atNs lost) := by
  unfold State.beginRecovery
  extract_lets +onlyGivenNames x1; try clear_value x1
  extract_lets +onlyGivenNames x2; try clear_value x2
  extract_lets +onlyGivenNames x3; (refine Rel.via (t := x3) ?_ (fun _ => ?_); (on_goal 2 => try clear_value x3); (on_goal 1 => unfold x3); (on_goal 1 => clear x3))
  · refine Rel.step (by decide) (State.updRecov_rel _ _ _) ?_
    exact Rel.refl _ _
  · extract_lets +onlyGivenNames x4; (refine Rel.via (t := x4) ?_ (fun _ => ?_); (on_goal 2 => try clear_value x4); (on_goal 1 => unfold x4); (on_goal 1 => clear x4))
    · split
      · assumption
      · refine Rel.step (by decide) (State.disarm_rel _ _) ?_
        assumption
    · split
      · refine Rel.step (by decide) (State.updSec_rel _ _ _) ?_
        assumption
      · assumption

theorem State.cancelWeights_rel (s : State) (x : Nat) : Rel [.out, .ctxs, .mailboxes, .handles, .log, .logNext, .logOverflow] s (State.cancelWeights s x) := by
  unfold State.cancelWeights
  extract_lets +onlyGivenNames x1; try clear_value x1
  extract_lets +onlyGivenNames x2; try clear_value x2
  extract_lets +onlyGivenNames x3; try clear_value x3
  extract_lets +onlyGivenNames x4; (refine Rel.via (t := x4) ?_ (fun _ => ?_); (on_goal 2 => try clear_value x4); (on_goal 1 => unfold x4); (on_goal 1 => clear x4))
  · refine Rel.foldl (fun _ _ => ?_) ?_
    · refine Rel.step (by decide) (State.finish_rel _ _ _) ?_
      exact Rel.refl _ _
    · exact Rel.refl _ _
  · refine Rel.step (by decide) (State.updWeights_rel _ _ _) ?_
    assumption

theorem State.enterLayout_rel (s : State) (x : Nat) : Rel [.mem, .cores, .ctxs, .rowCopies, .freed, .tcache] s (State.enterLayout s x) := by
  unfold State.enterLayout
  extract_lets +onlyGivenNames x1; try clear_value x1
  split
  · split
    · refine Rel.step (by decide) (State.updReshard_rel _ _ _) ?_
      refine Rel.step (by decide) (State.newTable_rel _ _ _ _) ?_
      exact Rel.refl _ _
    · exact Rel.refl _ _
  · exact Rel.refl _ _

theorem State.enterRefill_rel (s : State) (x : Nat) : Rel [.out, .fresh, .mem, .cores, .ctxs, .migs, .asks, .stalled, .rowCopies, .flows, .ctrl, .ctrlNext, .fcache, .macs, .ecnDraws, .mailboxes, .handles, .log, .logNext, .logOverflow, .counters] s (State.enterRefill s x) := by
  unfold State.enterRefill
  extract_lets +onlyGivenNames x1; try clear_value x1
  split
  · exact Rel.refl _ _
  · extract_lets +onlyGivenNames x2; try clear_value x2
    extract_lets +onlyGivenNames x3; try clear_value x3
    extract_lets +onlyGivenNames x4; try clear_value x4
    extract_lets +onlyGivenNames x5; try clear_value x5
    extract_lets +onlyGivenNames x6; (refine Rel.via (t := x6) ?_ (fun _ => ?_); (on_goal 2 => try clear_value x6); (on_goal 1 => unfold x6); (on_goal 1 => clear x6))
    · refine Rel.step (by decide) (State.updCtx_rel _ _ _) ?_
      exact Rel.refl _ _
    · extract_lets +onlyGivenNames x7; (refine Rel.via (t := x7) ?_ (fun _ => ?_); (on_goal 2 => try clear_value x7); (on_goal 1 => unfold x7); (on_goal 1 => clear x7))
      · split
        · refine Rel.step (by decide) (State.createTiles_rel _ _ _ _) ?_
          refine Rel.step (by decide) (State.loadRings_rel _ _ _) ?_
          assumption
        · exact Rel.refl _ _
      · extract_lets +onlyGivenNames x8; (refine Rel.via (t := x8) ?_ (fun _ => ?_); (on_goal 2 => try clear_value x8); (on_goal 1 => unfold x8); (on_goal 1 => clear x8))
        · refine Rel.step (by decide) (State.closeFlows_rel _ _) ?_
          assumption
        · split
          · assumption
          · refine Rel.foldl (fun _ _ => ?_) ?_
            · extract_lets +onlyGivenNames x9; try clear_value x9
              split
              · refine Rel.step (by decide) (State.sendOpen_rel _ _ _) ?_
                exact Rel.refl _ _
              · exact Rel.refl _ _
            · assumption

theorem State.recoveryRecord_rel (s : State) (x : Nat) (outcome : Nat) (verify : Nat) : Rel [.out, .ctxs, .mailboxes, .log, .logNext, .logOverflow] s (State.recoveryRecord s x outcome verify) := by
  unfold State.recoveryRecord
  extract_lets +onlyGivenNames x1; try clear_value x1
  extract_lets +onlyGivenNames x2; try clear_value x2
  extract_lets +onlyGivenNames x3; try clear_value x3
  extract_lets +onlyGivenNames x4; try clear_value x4
  extract_lets +onlyGivenNames x5; (refine Rel.via (t := x5) ?_ (fun _ => ?_); (on_goal 2 => try clear_value x5); (on_goal 1 => unfold x5); (on_goal 1 => clear x5))
  · refine Rel.step (by decide) (State.updRecov_rel _ _ _) ?_
    exact Rel.refl _ _
  · refine Rel.step (by decide) (State.logRecord_rel _ _ _ _ _) ?_
    assumption

theorem State.restoreBlocks_rel (s : State) (x : Nat) (b : SecBlocks) (same : Bool) : Rel [.cores, .ctxs] s (State.restoreBlocks s x b same) := by
  unfold State.restoreBlocks
  extract_lets +onlyGivenNames x1; (refine Rel.via (t := x1) ?_ (fun _ => ?_); (on_goal 2 => try clear_value x1); (on_goal 1 => unfold x1); (on_goal 1 => clear x1))
  · refine Rel.foldl (fun _ _ => ?_) ?_
    · refine Rel.step (by decide) (State.updRing_rel _ _ _ _) ?_
      exact Rel.refl _ _
    · exact Rel.refl _ _
  · extract_lets +onlyGivenNames x2; (refine Rel.via (t := x2) ?_ (fun _ => ?_); (on_goal 2 => try clear_value x2); (on_goal 1 => unfold x2); (on_goal 1 => clear x2))
    · refine Rel.step (by decide) (State.mapRings_rel _ _ _) ?_
      assumption
    · refine Rel.step (by decide) (State.updCtx_rel _ _ _) ?_
      assumption

theorem State.restoreTile_rel (s : State) (x : Nat) (t : Nat) (cells : List Host.Cell) : Rel [.mem, .ctxs] s (State.restoreTile s x t cells) := by
  unfold State.restoreTile
  extract_lets +onlyGivenNames x1; try clear_value x1
  extract_lets +onlyGivenNames x2; (refine Rel.via (t := x2) ?_ (fun _ => ?_); (on_goal 2 => try clear_value x2); (on_goal 1 => unfold x2); (on_goal 1 => clear x2))
  · refine Rel.step (by decide) (Rel.set_mem (hm := ?_)) ?_
    · exact Memory.load_wf _ _ _
    · exact Rel.refl _ _
  · refine Rel.step (by decide) (State.setCtx_rel _ _ _) ?_
    assumption

theorem State.restoreTiles_rel (s : State) (x : Nat) (snap : Bool) (r : SecRec) (us : List Update) (rebuilt : List (Nat × Nat × RebuildCase)) (given : List (Nat × List Byte)) : Rel [.mem, .ctxs] s (State.restoreTiles s x snap r us rebuilt given) := by
  unfold State.restoreTiles
  extract_lets +onlyGivenNames x1; try clear_value x1
  extract_lets +onlyGivenNames x2; try clear_value x2
  extract_lets +onlyGivenNames x3; (refine Rel.via (t := x3) ?_ (fun _ => ?_); (on_goal 2 => try clear_value x3); (on_goal 1 => unfold x3); (on_goal 1 => clear x3))
  · refine Rel.foldl (fun _ _ => ?_) ?_
    · extract_lets +onlyGivenNames x4
      split
      · extract_lets +onlyGivenNames x5; (refine Rel.via (t := x5) ?_ (fun _ => ?_); (on_goal 2 => try clear_value x5); (on_goal 1 => unfold x5); (on_goal 1 => clear x5))
        · unfold x4
          extract_lets +onlyGivenNames x6; try clear_value x6
          split
          · refine Rel.step (by decide) (State.clearMem_rel _ _ _) ?_
            exact Rel.refl _ _
          · exact Rel.refl _ _
        · split
          · assumption
          · unfold x4
            extract_lets +onlyGivenNames x7; try clear_value x7
            split
            · refine Rel.step (by decide) (State.clearMem_rel _ _ _) ?_
              assumption
            · assumption
      · split
        · exact Rel.refl _ _
        · unfold x4
          extract_lets +onlyGivenNames x8; try clear_value x8
          split
          · refine Rel.step (by decide) (State.clearMem_rel _ _ _) ?_
            exact Rel.refl _ _
          · exact Rel.refl _ _
    · exact Rel.refl _ _
  · extract_lets +onlyGivenNames x9; (refine Rel.via (t := x9) ?_ (fun _ => ?_); (on_goal 2 => try clear_value x9); (on_goal 1 => unfold x9); (on_goal 1 => clear x9))
    · split
      · refine Rel.foldl (fun _ _ => ?_) ?_
        · split
          · refine Rel.step (by decide) (State.restoreTile_rel _ _ _ _) ?_
            exact Rel.refl _ _
          · exact Rel.refl _ _
        · assumption
      · refine Rel.foldl (fun _ _ => ?_) ?_
        · extract_lets +onlyGivenNames x10; (refine Rel.via (t := x10) ?_ (fun _ => ?_); (on_goal 2 => try clear_value x10); (on_goal 1 => unfold x10); (on_goal 1 => clear x10))
          · refine Rel.step (by decide) (Rel.set_mem (hm := ?_)) ?_
            · exact Memory.copy_wf _ _ _
            · exact Rel.refl _ _
          · split
            · refine Rel.step (by decide) (State.setCtx_rel _ _ _) ?_
              assumption
            · assumption
        · assumption
    · extract_lets +onlyGivenNames x11; (refine Rel.via (t := x11) ?_ (fun _ => ?_); (on_goal 2 => try clear_value x11); (on_goal 1 => unfold x11); (on_goal 1 => clear x11))
      · refine Rel.foldl (fun _ _ => ?_) ?_
        · refine Rel.step (by decide) (State.restoreTile_rel _ _ _ _) ?_
          exact Rel.refl _ _
        · assumption
      · extract_lets +onlyGivenNames x12; (refine Rel.via (t := x12) ?_ (fun _ => ?_); (on_goal 2 => try clear_value x12); (on_goal 1 => unfold x12); (on_goal 1 => clear x12))
        · refine Rel.foldl (fun _ _ => ?_) ?_
          · extract_lets +onlyGivenNames x13; try clear_value x13
            refine Rel.step (by decide) (Rel.set_mem (hm := ?_)) ?_
            · exact Memory.write_wf _ _
            · exact Rel.refl _ _
          · assumption
        · refine Rel.step (by decide) (State.updCtx_rel _ _ _) ?_
          assumption

theorem State.undoSwitch_rel (s : State) (x : Nat) (r : SecRec) : Rel [.mem, .ctxs, .freed] s (State.undoSwitch s x r) := by
  unfold State.undoSwitch
  extract_lets +onlyGivenNames x1; try clear_value x1
  extract_lets +onlyGivenNames x2; try clear_value x2
  extract_lets +onlyGivenNames x3; try clear_value x3
  extract_lets +onlyGivenNames x4; (refine Rel.via (t := x4) ?_ (fun _ => ?_); (on_goal 2 => try clear_value x4); (on_goal 1 => unfold x4); (on_goal 1 => clear x4))
  · split
    · exact Rel.refl _ _
    · refine Rel.foldl (fun _ _ => ?_) ?_
      · extract_lets +onlyGivenNames x5; try clear_value x5
        extract_lets +onlyGivenNames x6; (refine Rel.via (t := x6) ?_ (fun _ => ?_); (on_goal 2 => try clear_value x6); (on_goal 1 => unfold x6); (on_goal 1 => clear x6))
        · split
          · refine Rel.step (by decide) (State.releaseEntry_rel _ _ _ _) ?_
            exact Rel.refl _ _
          · exact Rel.refl _ _
        · refine Rel.step (by decide) (State.updCtx_rel _ _ _) ?_
          assumption
      · exact Rel.refl _ _
  · refine Rel.step (by decide) (State.updWeights_rel _ _ _) ?_
    assumption

theorem execCheckingComplete_next (ctx : Nat) (failed : List Nat) (s : State) : Next [.ctxs, .handles] s (execCheckingComplete ctx failed s) := by
  unfold execCheckingComplete
  extract_lets +onlyGivenNames x1; try clear_value x1
  split
  · refine Next.intro ?_
    exact Rel.refl _ _
  · split
    · refine Next.intro ?_
      refine Rel.step (by decide) (State.progress1_rel _ _) ?_
      refine Rel.step (by decide) (State.updRecov_rel _ _ _) ?_
      exact Rel.refl _ _
    · refine Next.intro ?_
      refine Rel.step (by decide) (State.updRecov_rel _ _ _) ?_
      exact Rel.refl _ _

theorem execHaltingEnd_next (ctx : Nat) (v : HaltView) (s : State) : Next [.out, .ctxs, .mailboxes, .log, .logNext, .logOverflow] s (execHaltingEnd ctx v s) := by
  unfold execHaltingEnd
  extract_lets +onlyGivenNames x1; try clear_value x1
  split
  · refine Next.intro ?_
    exact Rel.refl _ _
  · split
    · refine Next.intro ?_
      exact Rel.refl _ _
    · extract_lets +onlyGivenNames x2; try clear_value x2
      extract_lets +onlyGivenNames x3; try clear_value x3
      extract_lets +onlyGivenNames x4; try clear_value x4
      extract_lets +onlyGivenNames x5; try clear_value x5
      extract_lets +onlyGivenNames x6; try clear_value x6
      split
      · refine Next.intro ?_
        refine Rel.step (by decide) (State.recoveryRecord_rel _ _ _ _) ?_
        refine Rel.step (by decide) (State.updRecov_rel _ _ _) ?_
        exact Rel.refl _ _
      · extract_lets +onlyGivenNames x7; try clear_value x7
        extract_lets +onlyGivenNames x8; (refine Next.via (t := x8) ?_ (fun _ => ?_); (on_goal 2 => try clear_value x8); (on_goal 1 => unfold x8); (on_goal 1 => clear x8))
        · refine Rel.step (by decide) (State.updRecov_rel _ _ _) ?_
          exact Rel.refl _ _
        · extract_lets +onlyGivenNames x9; (refine Next.via (t := x9) ?_ (fun _ => ?_); (on_goal 2 => try clear_value x9); (on_goal 1 => unfold x9); (on_goal 1 => clear x9))
          · refine Rel.step (by decide) (State.updSec_rel _ _ _) ?_
            assumption
          · split
            · extract_lets +onlyGivenNames x10; try clear_value x10
              extract_lets +onlyGivenNames x11; (refine Next.via (t := x11) ?_ (fun _ => ?_); (on_goal 2 => try clear_value x11); (on_goal 1 => unfold x11); (on_goal 1 => clear x11))
              · refine Rel.step (by decide) (State.updJob_rel _ _ _) ?_
                assumption
              · refine Next.intro ?_
                refine Rel.step (by decide) (State.updRecov_rel _ _ _) ?_
                assumption
            · split
              · extract_lets +onlyGivenNames x12; try clear_value x12
                extract_lets +onlyGivenNames x13; try clear_value x13
                extract_lets +onlyGivenNames x14; try clear_value x14
                extract_lets +onlyGivenNames x15; try clear_value x15
                extract_lets +onlyGivenNames x16; try clear_value x16
                extract_lets +onlyGivenNames x17; try clear_value x17
                extract_lets +onlyGivenNames x18; try clear_value x18
                extract_lets +onlyGivenNames x19; try clear_value x19
                extract_lets +onlyGivenNames x20; try clear_value x20
                split
                · refine Next.intro ?_
                  refine Rel.step (by decide) (State.recoveryRecord_rel _ _ _ _) ?_
                  refine Rel.step (by decide) (State.updRecov_rel _ _ _) ?_
                  assumption
                · extract_lets +onlyGivenNames x21; (refine Next.via (t := x21) ?_ (fun _ => ?_); (on_goal 2 => try clear_value x21); (on_goal 1 => unfold x21); (on_goal 1 => clear x21))
                  · refine Rel.step (by decide) (State.updCtx_rel _ _ _) ?_
                    assumption
                  · refine Next.intro ?_
                    refine Rel.step (by decide) (State.updRecov_rel _ _ _) ?_
                    assumption
              · refine Next.intro ?_
                refine Rel.step (by decide) (State.recoveryRecord_rel _ _ _ _) ?_
                refine Rel.step (by decide) (State.updRecov_rel _ _ _) ?_
                assumption

theorem execRecoveryHalt_next (ctx : Nat) (s : State) : Next [.out, .fresh, .mem, .cores, .ctxs, .migs, .asks, .stalled, .rowCopies, .freed, .flows, .mailboxes, .handles, .log, .logNext, .logOverflow, .nand] s (execRecoveryHalt ctx s) := by
  unfold execRecoveryHalt
  extract_lets +onlyGivenNames x1; try clear_value x1
  split
  · refine Next.intro ?_
    exact Rel.refl _ _
  · extract_lets +onlyGivenNames x2; (refine Next.via (t := x2) ?_ (fun _ => ?_); (on_goal 2 => try clear_value x2); (on_goal 1 => unfold x2); (on_goal 1 => clear x2))
    · split
      · refine Rel.step (by decide) (State.beginRecovery_rel _ _ _ _ _) ?_
        exact Rel.refl _ _
      · refine Rel.step (by decide) (State.updRecov_rel _ _ _) ?_
        exact Rel.refl _ _
    · extract_lets +onlyGivenNames x3; (refine Next.via (t := x3) ?_ (fun _ => ?_); (on_goal 2 => try clear_value x3); (on_goal 1 => unfold x3); (on_goal 1 => clear x3))
      · refine Rel.step (by decide) (State.abandonReshard_rel _ _) ?_
        refine Rel.step (by decide) (State.fence_rel _ _) ?_
        assumption
      · refine Next.intro ?_
        refine Rel.step (by decide) (State.progress1_rel _ _) ?_
        assumption

theorem execRecoveryTrigger_next (ctx : Nat) (t : Trigger) (s : State) : Next [.ctxs] s (execRecoveryTrigger ctx t s) := by
  unfold execRecoveryTrigger
  extract_lets +onlyGivenNames x1; try clear_value x1
  split
  · refine Next.intro ?_
    exact Rel.refl _ _
  · refine Next.intro ?_
    refine Rel.step (by decide) (State.beginRecovery_rel _ _ _ _ _) ?_
    exact Rel.refl _ _

theorem execRefillComplete_next (ctx : Nat) (rebuilt : Refill) (s : State) : Next [.out, .mem, .cores, .ctxs, .rowCopies, .freed, .tcache, .mailboxes, .handles, .log, .logNext, .logOverflow] s (execRefillComplete ctx rebuilt s) := by
  unfold execRefillComplete
  extract_lets +onlyGivenNames x1; try clear_value x1
  split
  · split
    · refine Next.intro ?_
      exact Rel.refl _ _
    · extract_lets +onlyGivenNames x2; try clear_value x2
      extract_lets +onlyGivenNames x3; try clear_value x3
      extract_lets +onlyGivenNames x4; (refine Next.via (t := x4) ?_ (fun _ => ?_); (on_goal 2 => try clear_value x4); (on_goal 1 => unfold x4); (on_goal 1 => clear x4))
      · refine Rel.step (by decide) (State.restoreTiles_rel _ _ _ _ _ _ _) ?_
        refine Rel.step (by decide) (State.cancelWeights_rel _ _) ?_
        exact Rel.refl _ _
      · extract_lets +onlyGivenNames x5; (refine Next.via (t := x5) ?_ (fun _ => ?_); (on_goal 2 => try clear_value x5); (on_goal 1 => unfold x5); (on_goal 1 => clear x5))
        · split
          · refine Rel.step (by decide) (State.event_rel _ _ _ _ _) ?_
            refine Rel.step (by decide) (State.undoSwitch_rel _ _ _) ?_
            assumption
          · assumption
        · extract_lets +onlyGivenNames x6; (refine Next.via (t := x6) ?_ (fun _ => ?_); (on_goal 2 => try clear_value x6); (on_goal 1 => unfold x6); (on_goal 1 => clear x6))
          · refine Rel.step (by decide) (State.restoreBlocks_rel _ _ _ _) ?_
            refine Rel.step (by decide) (State.enterLayout_rel _ _) ?_
            assumption
          · extract_lets +onlyGivenNames x7; (refine Next.via (t := x7) ?_ (fun _ => ?_); (on_goal 2 => try clear_value x7); (on_goal 1 => unfold x7); (on_goal 1 => clear x7))
            · refine Rel.step (by decide) (State.updCtx_rel _ _ _) ?_
              assumption
            · refine Next.intro ?_
              refine Rel.step (by decide) (State.progress1_rel _ _) ?_
              refine Rel.step (by decide) (State.updRecov_rel _ _ _) ?_
              assumption
  · refine Next.intro ?_
    exact Rel.refl _ _

theorem execReplayCompare_next (ctx : Nat) (loss : F32) (s : State) : Next [.out, .ctxs, .mailboxes, .handles, .log, .logNext, .logOverflow] s (execReplayCompare ctx loss s) := by
  unfold execReplayCompare
  extract_lets +onlyGivenNames x1; try clear_value x1
  split
  · split
    · refine Next.intro ?_
      exact Rel.refl _ _
    · extract_lets +onlyGivenNames x2; (refine Next.via (t := x2) ?_ (fun _ => ?_); (on_goal 2 => try clear_value x2); (on_goal 1 => unfold x2); (on_goal 1 => clear x2))
      · split
        · refine Rel.step (by decide) (State.disarm_rel _ _) ?_
          exact Rel.refl _ _
        · exact Rel.refl _ _
      · extract_lets +onlyGivenNames x3; try clear_value x3
        split
        · extract_lets +onlyGivenNames x4; (refine Next.via (t := x4) ?_ (fun _ => ?_); (on_goal 2 => try clear_value x4); (on_goal 1 => unfold x4); (on_goal 1 => clear x4))
          · refine Rel.step (by decide) (State.recoveryRecord_rel _ _ _ _) ?_
            assumption
          · extract_lets +onlyGivenNames x5; try clear_value x5
            extract_lets +onlyGivenNames x6; (refine Next.via (t := x6) ?_ (fun _ => ?_); (on_goal 2 => try clear_value x6); (on_goal 1 => unfold x6); (on_goal 1 => clear x6))
            · refine Rel.step (by decide) (State.updRecov_rel _ _ _) ?_
              assumption
            · refine Next.intro ?_
              refine Rel.step (by decide) (State.finish_rel _ _ _) ?_
              assumption
        · split
          · refine Next.intro ?_
            refine Rel.step (by decide) (State.recoveryRecord_rel _ _ _ _) ?_
            refine Rel.step (by decide) (State.updRecov_rel _ _ _) ?_
            assumption
          · refine Next.intro ?_
            refine Rel.step (by decide) (State.updRecov_rel _ _ _) ?_
            assumption
  · refine Next.intro ?_
    exact Rel.refl _ _

end Sys2Proof.Machine
end

