-- ==== Sys2Proof/Laws/Weights.lean ====
section
/-! SUPPORT. What the operations and the meanings of Machine/Weights.lean can change: for each operation the fields of the state it may change, and
for each meaning that it answers a next state and the fields that it may change; all of them keep the invariant. -/

namespace Sys2Proof.Machine

theorem State.loadPhase_rel (s : State) (x : Nat) (ph : Nat) : Rel [.handles] s (State.loadPhase s x ph) := by
  unfold State.loadPhase
  refine Rel.foldl (fun _ _ => ?_) ?_
  · refine Rel.step (by decide) (State.phase_rel _ _ _) ?_
    exact Rel.refl _ _
  · exact Rel.refl _ _

theorem State.agreeSwitch_rel (s : State) (x : Nat) (k : Nat) : Rel [.ctxs, .handles] s (State.agreeSwitch s x k) := by
  unfold State.agreeSwitch
  refine Rel.step (by decide) (State.updWeights_rel _ _ _) ?_
  refine Rel.step (by decide) (State.loadPhase_rel _ _ _) ?_
  exact Rel.refl _ _

theorem State.beginPass_rel (s : State) (x : Nat) : Rel [.ctxs] s (State.beginPass s x) := by
  unfold State.beginPass
  refine Rel.step (by decide) (State.updWeights_rel _ _ _) ?_
  exact Rel.refl _ _

theorem State.clearLost_rel (s : State) (x : Nat) (d : DSlot) : Rel [.ctxs] s (State.clearLost s x d) := by
  unfold State.clearLost
  refine Rel.foldl (fun _ _ => ?_) ?_
  · refine Rel.step (by decide) (State.setCtx_rel _ _ _) ?_
    exact Rel.refl _ _
  · exact Rel.refl _ _

theorem State.setReports_rel (s : State) (x : Nat) (n : Nat) : Rel [.ctxs, .handles] s (State.setReports s x n) := by
  unfold State.setReports
  extract_lets +onlyGivenNames x1; (refine Rel.via (t := x1) ?_ (fun _ => ?_); (on_goal 2 => try clear_value x1); (on_goal 1 => unfold x1); (on_goal 1 => clear x1))
  · refine Rel.step (by decide) (State.updWeights_rel _ _ _) ?_
    exact Rel.refl _ _
  · extract_lets +onlyGivenNames x2; try clear_value x2
    split
    · refine Rel.step (by decide) (State.progress_rel _ _ _ _ _) ?_
      assumption
    · assumption

theorem State.countReport_rel (s : State) (x : Nat) (ready : Bool) : Rel [.ctxs, .handles] s (State.countReport s x ready) := by
  unfold State.countReport
  extract_lets +onlyGivenNames x1; try clear_value x1
  split
  · refine Rel.step (by decide) (State.setReports_rel _ _ _) ?_
    exact Rel.refl _ _
  · exact Rel.refl _ _

theorem State.decideSwitch_rel (s : State) (x : Nat) (m : Manifest) : Rel [.out, .ctxs, .mailboxes, .handles, .log, .logNext, .logOverflow] s (State.decideSwitch s x m) := by
  unfold State.decideSwitch
  extract_lets +onlyGivenNames x1; try clear_value x1
  extract_lets +onlyGivenNames x2; try clear_value x2
  split
  · exact Rel.refl _ _
  · extract_lets +onlyGivenNames x3; try clear_value x3
    split
    · refine Rel.step (by decide) (State.updWeights_rel _ _ _) ?_
      refine Rel.step (by decide) (State.finish_rel _ _ _) ?_
      exact Rel.refl _ _
    · refine Rel.step (by decide) (State.agreeSwitch_rel _ _ _) ?_
      refine Rel.step (by decide) (State.phase_rel _ _ _) ?_
      exact Rel.refl _ _

theorem State.deferSwitch_rel (s : State) (x : Nat) : Rel [.ctxs, .handles] s (State.deferSwitch s x) := by
  unfold State.deferSwitch
  extract_lets +onlyGivenNames x1; try clear_value x1
  extract_lets +onlyGivenNames x2; (refine Rel.via (t := x2) ?_ (fun _ => ?_); (on_goal 2 => try clear_value x2); (on_goal 1 => unfold x2); (on_goal 1 => clear x2))
  · refine Rel.step (by decide) (State.updWeights_rel _ _ _) ?_
    refine Rel.step (by decide) (State.phase_rel _ _ _) ?_
    refine Rel.step (by decide) (State.loadPhase_rel _ _ _) ?_
    exact Rel.refl _ _
  · split
    · refine Rel.step (by decide) (State.setReports_rel _ _ _) ?_
      assumption
    · assumption

theorem State.updSlot_rel (s : State) (x : Nat) (slot : Nat) (f : DSlot → DSlot) : Rel [.ctxs] s (State.updSlot s x slot f) := by
  unfold State.updSlot
  refine Rel.step (by decide) (State.updWeights_rel _ _ _) ?_
  exact Rel.refl _ _

theorem State.failShard_rel (s : State) (x : Nat) (slot : Nat) (status : Nat) (d : DSlot) : Rel [.out, .ctxs, .mailboxes, .handles, .log, .logNext, .logOverflow] s (State.failShard s x slot status d) := by
  unfold State.failShard
  extract_lets +onlyGivenNames x1; (refine Rel.via (t := x1) ?_ (fun _ => ?_); (on_goal 2 => try clear_value x1); (on_goal 1 => unfold x1); (on_goal 1 => clear x1))
  · refine Rel.step (by decide) (State.updSlot_rel _ _ _ _) ?_
    exact Rel.refl _ _
  · split
    · assumption
    · refine Rel.step (by decide) (State.finish_rel _ _ _) ?_
      assumption

theorem State.fetchShard_rel (s : State) (x : Nat) (slot : Nat) (d : DSlot) : Rel [.pcie] s (State.fetchShard s x slot d) := by
  unfold State.fetchShard
  refine Rel.step (by decide) (State.dmaAsk_rel _ _) ?_
  exact Rel.refl _ _

theorem State.loadStep_rel (s : State) (x : Nat) (handle : Nat) : Rel [.handles] s (State.loadStep s x handle) := by
  unfold State.loadStep
  refine Rel.step (by decide) (State.phase_rel _ _ _) ?_
  exact Rel.refl _ _

theorem State.loseShard_rel (s : State) (x : Nat) (k : DSlot) : Rel [.out, .fresh, .mem, .cores, .ctxs, .migs, .asks, .stalled, .rowCopies, .freed, .flows, .mailboxes, .handles, .log, .logNext, .logOverflow, .nand] s (State.loseShard s x k) := by
  unfold State.loseShard
  extract_lets +onlyGivenNames x1; (refine Rel.via (t := x1) ?_ (fun _ => ?_); (on_goal 2 => try clear_value x1); (on_goal 1 => unfold x1); (on_goal 1 => clear x1))
  · refine Rel.foldl (fun _ _ => ?_) ?_
    · refine Rel.step (by decide) (State.setCtx_rel _ _ _) ?_
      exact Rel.refl _ _
    · exact Rel.refl _ _
  · refine Rel.step (by decide) (State.fence_rel _ _) ?_
    assumption

theorem State.mismatch_rel (s : State) (x : Nat) (slot : Nat) (check : Nat) (d : DSlot) : Rel [.out, .ctxs, .mailboxes, .log, .logNext, .logOverflow] s (State.mismatch s x slot check d) := by
  unfold State.mismatch
  refine Rel.step (by decide) (State.event_rel _ _ _ _ _) ?_
  exact Rel.refl _ _

theorem State.newFrames_rel (s : State) (x : Nat) (d : DSlot) (cause : Nat) : Rel [.ctxs, .banks, .rowCopies, .retiredFrames] s (State.newFrames s x d cause) := by
  unfold State.newFrames
  refine Rel.foldl (fun _ _ => ?_) ?_
  · extract_lets +onlyGivenNames x1; try clear_value x1
    extract_lets +onlyGivenNames x2; try clear_value x2
    extract_lets +onlyGivenNames x3; try clear_value x3
    split
    · exact Rel.refl _ _
    · extract_lets +onlyGivenNames x4; (refine Rel.via (t := x4) ?_ (fun _ => ?_); (on_goal 2 => try clear_value x4); (on_goal 1 => unfold x4); (on_goal 1 => clear x4))
      · refine Rel.step (by decide) (State.setCtx_rel _ _ _) ?_
        exact Rel.refl _ _
      · extract_lets +onlyGivenNames x5; (refine Rel.via (t := x5) ?_ (fun _ => ?_); (on_goal 2 => try clear_value x5); (on_goal 1 => unfold x5); (on_goal 1 => clear x5))
        · refine Rel.step (by decide) Rel.set_retiredFrames ?_
          assumption
        · refine Rel.step (by decide) (State.uncRow_rel _ _ _ _) ?_
          assumption
  · exact Rel.refl _ _

theorem State.oldFrame_rel (s : State) (x : Nat) (t : Nat) (e : TileEntry) : Rel [.mem, .ctxs, .freed] s (State.oldFrame s x t e) := by
  unfold State.oldFrame
  extract_lets +onlyGivenNames x1; try clear_value x1
  extract_lets +onlyGivenNames x2; try clear_value x2
  extract_lets +onlyGivenNames x3; try clear_value x3
  extract_lets +onlyGivenNames x4; try clear_value x4
  split
  · refine Rel.step (by decide) (State.updSec_rel _ _ _) ?_
    exact Rel.refl _ _
  · split
    · refine Rel.step (by decide) (State.updSec_rel _ _ _) ?_
      exact Rel.refl _ _
    · refine Rel.step (by decide) (State.releaseEntry_rel _ _ _ _) ?_
      exact Rel.refl _ _

theorem State.putShardTile_rel (s : State) (x : Nat) (slot : Nat) (i : Nat) (d : DSlot) (hdrs : List Byte) (data : List Byte) : Rel [.mem, .ctxs, .rowCopies] s (State.putShardTile s x slot i d hdrs data) := by
  unfold State.putShardTile
  extract_lets +onlyGivenNames x1; try clear_value x1
  extract_lets +onlyGivenNames x2; try clear_value x2
  extract_lets +onlyGivenNames x3; try clear_value x3
  extract_lets +onlyGivenNames x4; (refine Rel.via (t := x4) ?_ (fun _ => ?_); (on_goal 2 => try clear_value x4); (on_goal 1 => unfold x4); (on_goal 1 => clear x4))
  · refine Rel.step (by decide) (State.memWrite_rel _ _ _) ?_
    exact Rel.refl _ _
  · extract_lets +onlyGivenNames x5; try clear_value x5
    extract_lets +onlyGivenNames x6; try clear_value x6
    refine Rel.step (by decide) (State.setCtx_rel _ _ _) ?_
    assumption

theorem State.readbackFault_rel (s : State) (x : Nat) (k : DSlot) (errs : List (Nat × Byte)) : Rel [.out, .ctxs, .mailboxes, .log, .logNext, .logOverflow] s (State.readbackFault s x k errs) := by
  unfold State.readbackFault
  extract_lets +onlyGivenNames x1; try clear_value x1
  extract_lets +onlyGivenNames x2; try clear_value x2
  extract_lets +onlyGivenNames x3; try clear_value x3
  extract_lets +onlyGivenNames x4; try clear_value x4
  refine Rel.step (by decide) (State.tileError_rel _ _ _ _ _ _ _ _ _ _) ?_
  exact Rel.refl _ _

theorem State.reloadShard_rel (s : State) (x : Nat) (slot : Nat) (k : DSlot) (f : DSlot → DSlot) : Rel [.ctxs, .handles, .pcie] s (State.reloadShard s x slot k f) := by
  unfold State.reloadShard
  refine Rel.step (by decide) (State.loadStep_rel _ _ _) ?_
  refine Rel.step (by decide) (State.fetchShard_rel _ _ _ _) ?_
  refine Rel.step (by decide) (State.updSlot_rel _ _ _ _) ?_
  exact Rel.refl _ _

theorem State.reportReady_rel (s : State) (x : Nat) : Rel [.ctxs, .handles] s (State.reportReady s x) := by
  unfold State.reportReady
  extract_lets +onlyGivenNames x1; try clear_value x1
  split
  · refine Rel.step (by decide) (State.countReport_rel _ _ _) ?_
    refine Rel.step (by decide) (State.updWeights_rel _ _ _) ?_
    exact Rel.refl _ _
  · exact Rel.refl _ _

theorem State.sealedStep_rel (s : State) (x : Nat) (k : DSlot) : Rel [.out, .ctxs, .mailboxes, .handles, .log, .logNext, .logOverflow] s (State.sealedStep s x k) := by
  unfold State.sealedStep
  split
  · exact Rel.refl _ _
  · extract_lets +onlyGivenNames x1; try clear_value x1
    split
    · refine Rel.step (by decide) (State.progress_rel _ _ _ _ _) ?_
      exact Rel.refl _ _
    · extract_lets +onlyGivenNames x2; (refine Rel.via (t := x2) ?_ (fun _ => ?_); (on_goal 2 => try clear_value x2); (on_goal 1 => unfold x2); (on_goal 1 => clear x2))
      · refine Rel.step (by decide) (State.progress_rel _ _ _ _ _) ?_
        exact Rel.refl _ _
      · split
        · refine Rel.step (by decide) (State.finish_rel _ _ _) ?_
          assumption
        · refine Rel.step (by decide) (State.updWeights_rel _ _ _) ?_
          assumption

theorem State.shardFails_rel (s : State) (x : Nat) (slot : Nat) (k : DSlot) : Rel [.out, .fresh, .mem, .cores, .ctxs, .migs, .asks, .stalled, .rowCopies, .freed, .flows, .mailboxes, .handles, .log, .logNext, .logOverflow, .nand, .pcie] s (State.shardFails s x slot k) := by
  unfold State.shardFails
  extract_lets +onlyGivenNames x1; try clear_value x1
  extract_lets +onlyGivenNames x2; (refine Rel.via (t := x2) ?_ (fun _ => ?_); (on_goal 2 => try clear_value x2); (on_goal 1 => unfold x2); (on_goal 1 => clear x2))
  · refine Rel.step (by decide) (State.mismatch_rel _ _ _ _ _) ?_
    refine Rel.step (by decide) (State.count_rel _ _ _ _) ?_
    exact Rel.refl _ _
  · extract_lets +onlyGivenNames x3; (refine Rel.via (t := x3) ?_ (fun _ => ?_); (on_goal 2 => try clear_value x3); (on_goal 1 => unfold x3); (on_goal 1 => clear x3))
    · refine Rel.step (by decide) (State.updSlot_rel _ _ _ _) ?_
      assumption
    · extract_lets +onlyGivenNames x4; (refine Rel.via (t := x4) ?_ (fun _ => ?_); (on_goal 2 => try clear_value x4); (on_goal 1 => unfold x4); (on_goal 1 => clear x4))
      · refine Rel.step (by decide) (State.fetchShard_rel _ _ _ _) ?_
        assumption
      · split
        · refine Rel.step (by decide) (State.loseShard_rel _ _ _) ?_
          assumption
        · assumption

theorem State.shardTile_rel (s : State) (x : Nat) (bank : Nat) (t : Nat) (tier : Nat) (policy : Nat) :
    ∀ tt, State.shardTile s x bank t tier policy = some tt → Rel [.mem, .cores, .ctxs, .freed, .tcache] s tt := by
  intro tt h
  unfold State.shardTile at h
  dsimp only at h
  split at h
  · exact Rel.of_some (Rel.step (by decide) (State.setCtx_rel _ _ _) (Rel.refl _ _)) tt h
  · obtain ⟨f, -, rfl⟩ := Option.map_eq_some_iff.mp h
    refine Rel.step (by decide) (State.setCtx_rel _ _ _) ?_
    split
    · refine Rel.step (by decide) (State.setCtx_rel _ _ _) ?_
      refine Rel.step (by decide) (State.invalidate_rel _ _ _) ?_
      exact (State.releaseEntry_rel _ _ _ _).mono (by decide)
    · exact Rel.refl _ _

theorem State.shardFrames_rel (s : State) (x : Nat) (bank : Nat) (l : List ShardEntry) :
    ∀ tt, State.shardFrames s x bank l = some tt → Rel [.mem, .cores, .ctxs, .freed, .tcache] s tt := by
  have bind (o : Option State) (f : State → Option State) (hf : ∀ u v, f u = some v → Rel [.mem, .cores, .ctxs, .freed, .tcache] u v)
      (ho : ∀ u, o = some u → Rel [.mem, .cores, .ctxs, .freed, .tcache] s u) : ∀ v, o.bind f = some v → Rel [.mem, .cores, .ctxs, .freed, .tcache] s v := by
    intro v h
    obtain ⟨u, hu, hv⟩ := Option.bind_eq_some_iff.mp h
    exact (ho u hu).trans (hf u v hv)
  have inner (e : ShardEntry) (ts : List Nat) : ∀ o : Option State, (∀ u, o = some u → Rel [.mem, .cores, .ctxs, .freed, .tcache] s u) →
      ∀ v, ts.foldl (fun (o : Option State) t => o.bind (fun s => s.shardTile x bank t e.tier e.policy)) o = some v → Rel [.mem, .cores, .ctxs, .freed, .tcache] s v := by
    induction ts with
    | nil => exact fun o ho => ho
    | cons t ts ih => exact fun o ho => ih _ (bind o _ (fun u v h => State.shardTile_rel u x bank t e.tier e.policy v h) ho)
  have outer (es : List ShardEntry) : ∀ o : Option State, (∀ u, o = some u → Rel [.mem, .cores, .ctxs, .freed, .tcache] s u) →
      ∀ v, es.foldl (fun (o : Option State) e => e.list.foldl (fun (o : Option State) t => o.bind (fun s => s.shardTile x bank t e.tier e.policy)) o) o = some v →
        Rel [.mem, .cores, .ctxs, .freed, .tcache] s v := by
    induction es with
    | nil => exact fun o ho => ho
    | cons e es ih => exact fun o ho => ih _ (inner e e.list o ho)
  exact outer l (some s) (Rel.of_some (Rel.refl _ _))

theorem State.switchBank_rel (s : State) (x : Nat) : Rel [.out, .mem, .cores, .ctxs, .freed, .tcache, .mailboxes, .handles, .log, .logNext, .logOverflow] s (State.switchBank s x) := by
  unfold State.switchBank
  extract_lets +onlyGivenNames x1; try clear_value x1
  extract_lets +onlyGivenNames x2; try clear_value x2
  extract_lets +onlyGivenNames x3; try clear_value x3
  extract_lets +onlyGivenNames x4; (refine Rel.via (t := x4) ?_ (fun _ => ?_); (on_goal 2 => try clear_value x4); (on_goal 1 => unfold x4); (on_goal 1 => clear x4))
  · refine Rel.foldl (fun _ _ => ?_) ?_
    · extract_lets +onlyGivenNames x5; try clear_value x5
      split
      · exact Rel.refl _ _
      · extract_lets +onlyGivenNames x6; (refine Rel.via (t := x6) ?_ (fun _ => ?_); (on_goal 2 => try clear_value x6); (on_goal 1 => unfold x6); (on_goal 1 => clear x6))
        · refine Rel.step (by decide) (State.oldFrame_rel _ _ _ _) ?_
          exact Rel.refl _ _
        · refine Rel.step (by decide) (State.setCtx_rel _ _ _) ?_
          assumption
    · exact Rel.refl _ _
  · extract_lets +onlyGivenNames x7; (refine Rel.via (t := x7) ?_ (fun _ => ?_); (on_goal 2 => try clear_value x7); (on_goal 1 => unfold x7); (on_goal 1 => clear x7))
    · refine Rel.step (by decide) (State.updWeights_rel _ _ _) ?_
      assumption
    · extract_lets +onlyGivenNames x8; (refine Rel.via (t := x8) ?_ (fun _ => ?_); (on_goal 2 => try clear_value x8); (on_goal 1 => unfold x8); (on_goal 1 => clear x8))
      · refine Rel.step (by decide) (State.updCtx_rel _ _ _) ?_
        assumption
      · extract_lets +onlyGivenNames x9; (refine Rel.via (t := x9) ?_ (fun _ => ?_); (on_goal 2 => try clear_value x9); (on_goal 1 => unfold x9); (on_goal 1 => clear x9))
        · refine Rel.step (by decide) (State.updSec_rel _ _ _) ?_
          assumption
        · extract_lets +onlyGivenNames x10; (refine Rel.via (t := x10) ?_ (fun _ => ?_); (on_goal 2 => try clear_value x10); (on_goal 1 => unfold x10); (on_goal 1 => clear x10))
          · refine Rel.step (by decide) (State.invalidate_rel _ _ _) ?_
            assumption
          · extract_lets +onlyGivenNames x11; (refine Rel.via (t := x11) ?_ (fun _ => ?_); (on_goal 2 => try clear_value x11); (on_goal 1 => unfold x11); (on_goal 1 => clear x11))
            · refine Rel.foldl (fun _ _ => ?_) ?_
              · refine Rel.step (by decide) (State.finish_rel _ _ _) ?_
                exact Rel.refl _ _
              · assumption
            · refine Rel.step (by decide) (State.finish_rel _ _ _) ?_
              assumption

theorem State.unreport_rel (s : State) (x : Nat) : Rel [.ctxs, .handles] s (State.unreport s x) := by
  unfold State.unreport
  split
  · refine Rel.step (by decide) (State.countReport_rel _ _ _) ?_
    refine Rel.step (by decide) (State.updWeights_rel _ _ _) ?_
    exact Rel.refl _ _
  · exact Rel.refl _ _

theorem State.takeList_rel (s : State) (x : Nat) (handle : Nat) (fn : Nat) (b : List Byte) : Rel [.out, .mem, .cores, .ctxs, .freed, .tcache, .mailboxes, .handles, .log, .logNext, .logOverflow, .pcie] s (State.takeList s x handle fn b).1 := by
  unfold State.takeList
  extract_lets +onlyGivenNames x1; try clear_value x1
  extract_lets +onlyGivenNames x2; try clear_value x2
  extract_lets +onlyGivenNames x3; try clear_value x3
  extract_lets +onlyGivenNames x4; try clear_value x4
  extract_lets +onlyGivenNames x5; try clear_value x5
  split
  · refine Rel.pair ?_
    exact Rel.refl _ _
  · split
    · refine Rel.pair ?_
      exact Rel.refl _ _
    · split
      · refine Rel.pair ?_
        exact Rel.refl _ _
      · split
        · refine Rel.pair ?_
          exact Rel.refl _ _
        · split
          · refine Rel.pair ?_
            exact Rel.refl _ _
          · extract_lets +onlyGivenNames x6; try clear_value x6
            extract_lets +onlyGivenNames x7; try clear_value x7
            extract_lets +onlyGivenNames x8; (refine Rel.via (t := x8) ?_ (fun _ => ?_); (on_goal 2 => try clear_value x8); (on_goal 1 => unfold x8); (on_goal 1 => clear x8))
            · refine Rel.step (by decide) (State.updWeights_rel _ _ _) ?_
              refine Rel.step (by decide) (State.shardFrames_rel _ _ _ _ _ (by assumption)) ?_
              exact Rel.refl _ _
            · extract_lets +onlyGivenNames x9; (refine Rel.via (t := x9) ?_ (fun _ => ?_); (on_goal 2 => try clear_value x9); (on_goal 1 => unfold x9); (on_goal 1 => clear x9))
              · split
                · assumption
                · refine Rel.step (by decide) (State.unreport_rel _ _) ?_
                  assumption
              · extract_lets +onlyGivenNames x10; try clear_value x10
                extract_lets +onlyGivenNames x11; (refine Rel.via (t := x11) ?_ (fun _ => ?_); (on_goal 2 => try clear_value x11); (on_goal 1 => unfold x11); (on_goal 1 => clear x11))
                · refine Rel.foldl (fun _ _ => ?_) ?_
                  · refine Rel.step (by decide) (State.finish_rel _ _ _) ?_
                    exact Rel.refl _ _
                  · assumption
                · extract_lets +onlyGivenNames x12; (refine Rel.via (t := x12) ?_ (fun _ => ?_); (on_goal 2 => try clear_value x12); (on_goal 1 => unfold x12); (on_goal 1 => clear x12))
                  · refine Rel.foldl (fun _ _ => ?_) ?_
                    · extract_lets +onlyGivenNames x13; try clear_value x13
                      extract_lets +onlyGivenNames x14; try clear_value x14
                      refine Rel.step (by decide) (State.fetchShard_rel _ _ _ _) ?_
                      refine Rel.step (by decide) (State.updWeights_rel _ _ _) ?_
                      exact Rel.refl _ _
                    · assumption
                  · refine Rel.pair ?_
                    refine Rel.step (by decide) (State.progress_rel _ _ _ _ _) ?_
                    assumption

theorem execPuntySwitch_next (ctx : Nat) (s : State) : Next [.out, .mem, .cores, .ctxs, .freed, .tcache, .mailboxes, .handles, .log, .logNext, .logOverflow] s (execPuntySwitch ctx s) := by
  unfold execPuntySwitch
  extract_lets +onlyGivenNames x1; try clear_value x1
  extract_lets +onlyGivenNames x2; try clear_value x2
  split
  · refine Next.intro ?_
    exact Rel.refl _ _
  · split
    · split
      · refine Next.intro ?_
        exact Rel.refl _ _
      · refine Next.intro ?_
        refine Rel.step (by decide) (State.switchBank_rel _ _) ?_
        exact Rel.refl _ _
    · split
      · refine Next.intro ?_
        exact Rel.refl _ _
      · refine Next.intro ?_
        refine Rel.step (by decide) (State.switchBank_rel _ _) ?_
        exact Rel.refl _ _

theorem execShardArrival_next (ctx : Nat) (slot : Nat) (d : ShardDma) (s : State) : Next [.out, .mem, .ctxs, .rowCopies, .mailboxes, .handles, .log, .logNext, .logOverflow, .pcie] s (execShardArrival ctx slot d s) := by
  unfold execShardArrival
  split
  · refine Next.intro ?_
    exact Rel.refl _ _
  · split
    · refine Next.intro ?_
      exact Rel.refl _ _
    · split
      · refine Next.intro ?_
        refine Rel.step (by decide) (State.failShard_rel _ _ _ _ _) ?_
        exact Rel.refl _ _
      · extract_lets +onlyGivenNames x1; try clear_value x1
        extract_lets +onlyGivenNames x2; try clear_value x2
        extract_lets +onlyGivenNames x3; (refine Next.via (t := x3) ?_ (fun _ => ?_); (on_goal 2 => try clear_value x3); (on_goal 1 => unfold x3); (on_goal 1 => clear x3))
        · refine Rel.foldl (fun _ _ => ?_) ?_
          · refine Rel.step (by decide) (State.putShardTile_rel _ _ _ _ _ _ _) ?_
            exact Rel.refl _ _
          · exact Rel.refl _ _
        · split
          · refine Next.intro ?_
            refine Rel.step (by decide) (State.loadStep_rel _ _ _) ?_
            refine Rel.step (by decide) (State.updSlot_rel _ _ _ _) ?_
            assumption
          · extract_lets +onlyGivenNames x4; (refine Next.via (t := x4) ?_ (fun _ => ?_); (on_goal 2 => try clear_value x4); (on_goal 1 => unfold x4); (on_goal 1 => clear x4))
            · refine Rel.step (by decide) (State.mismatch_rel _ _ _ _ _) ?_
              assumption
            · split
              · refine Next.intro ?_
                refine Rel.step (by decide) (State.failShard_rel _ _ _ _ _) ?_
                assumption
              · refine Next.intro ?_
                refine Rel.step (by decide) (State.reloadShard_rel _ _ _ _ _) ?_
                assumption

theorem execShardReadback_next (ctx : Nat) (slot : Nat) (errs : List (Nat × Byte)) (s : State) : Next [.out, .ctxs, .banks, .rowCopies, .retiredFrames, .mailboxes, .handles, .log, .logNext, .logOverflow, .pcie] s (execShardReadback ctx slot errs s) := by
  unfold execShardReadback
  split
  · refine Next.intro ?_
    exact Rel.refl _ _
  · split
    · refine Next.intro ?_
      exact Rel.refl _ _
    · split
      · extract_lets +onlyGivenNames x1; (refine Next.via (t := x1) ?_ (fun _ => ?_); (on_goal 2 => try clear_value x1); (on_goal 1 => unfold x1); (on_goal 1 => clear x1))
        · refine Rel.step (by decide) (State.updSlot_rel _ _ _ _) ?_
          exact Rel.refl _ _
        · refine Next.intro ?_
          refine Rel.step (by decide) (State.sealedStep_rel _ _ _) ?_
          refine Rel.step (by decide) (State.reportReady_rel _ _) ?_
          refine Rel.step (by decide) (State.clearLost_rel _ _ _) ?_
          assumption
      · extract_lets +onlyGivenNames x2; (refine Next.via (t := x2) ?_ (fun _ => ?_); (on_goal 2 => try clear_value x2); (on_goal 1 => unfold x2); (on_goal 1 => clear x2))
        · refine Rel.step (by decide) (State.mismatch_rel _ _ _ _ _) ?_
          exact Rel.refl _ _
        · extract_lets +onlyGivenNames x3; try clear_value x3
          extract_lets +onlyGivenNames x4; (refine Next.via (t := x4) ?_ (fun _ => ?_); (on_goal 2 => try clear_value x4); (on_goal 1 => unfold x4); (on_goal 1 => clear x4))
          · refine Rel.step (by decide) (State.readbackFault_rel _ _ _ _) ?_
            assumption
          · split
            · refine Next.intro ?_
              refine Rel.step (by decide) (State.failShard_rel _ _ _ _ _) ?_
              assumption
            · refine Next.intro ?_
              refine Rel.step (by decide) (State.reloadShard_rel _ _ _ _ _) ?_
              refine Rel.step (by decide) (State.newFrames_rel _ _ _ _) ?_
              assumption

theorem execShardVerify_next (ctx : Nat) (slot : Nat) (v : VerifyView) (s : State) : Next [.out, .fresh, .mem, .cores, .ctxs, .migs, .asks, .stalled, .verifyLast, .rowCopies, .freed, .flows, .mailboxes, .handles, .log, .logNext, .logOverflow, .nand, .pcie] s (execShardVerify ctx slot v s) := by
  unfold execShardVerify
  split
  · refine Next.intro ?_
    exact Rel.refl _ _
  · split
    · refine Next.intro ?_
      exact Rel.refl _ _
    · extract_lets +onlyGivenNames x1; (refine Next.via (t := x1) ?_ (fun _ => ?_); (on_goal 2 => try clear_value x1); (on_goal 1 => unfold x1); (on_goal 1 => clear x1))
      · refine Rel.step (by decide) (State.updWeights_rel _ _ _) ?_
        exact Rel.refl _ _
      · extract_lets +onlyGivenNames x2; (refine Next.via (t := x2) ?_ (fun _ => ?_); (on_goal 2 => try clear_value x2); (on_goal 1 => unfold x2); (on_goal 1 => clear x2))
        · refine Rel.step (by decide) Rel.set_verifyLast ?_
          assumption
        · extract_lets +onlyGivenNames x3; (refine Next.via (t := x3) ?_ (fun _ => ?_); (on_goal 2 => try clear_value x3); (on_goal 1 => unfold x3); (on_goal 1 => clear x3))
          · split
            · assumption
            · split
              · refine Rel.step (by decide) (State.count_rel _ _ _ _) ?_
                assumption
              · refine Rel.step (by decide) (State.shardFails_rel _ _ _ _) ?_
                assumption
          · extract_lets +onlyGivenNames x4; try clear_value x4
            split
            · refine Next.intro ?_
              refine Rel.step (by decide) (State.beginPass_rel _ _) ?_
              assumption
            · refine Next.intro ?_
              assumption

theorem execSwitchAgree_next (ctx : Nat) (news : SwitchNews) (s : State) : Next [.out, .ctxs, .mailboxes, .handles, .log, .logNext, .logOverflow] s (execSwitchAgree ctx news s) := by
  unfold execSwitchAgree
  extract_lets +onlyGivenNames x1; try clear_value x1
  extract_lets +onlyGivenNames x2; try clear_value x2
  split
  · refine Next.intro ?_
    exact Rel.refl _ _
  · split
    · refine Next.intro ?_
      exact Rel.refl _ _
    · split
      · refine Next.intro ?_
        split
        · refine Rel.step (by decide) (State.setReports_rel _ _ _) ?_
          exact Rel.refl _ _
        · exact Rel.refl _ _
      · refine Next.intro ?_
        split
        · refine Rel.step (by decide) (State.decideSwitch_rel _ _ _) ?_
          exact Rel.refl _ _
        · exact Rel.refl _ _
      · refine Next.intro ?_
        split
        · refine Rel.step (by decide) (State.agreeSwitch_rel _ _ _) ?_
          exact Rel.refl _ _
        · exact Rel.refl _ _

theorem execSwitchDeferral_next (d : Deferral) (s : State) : Next [.out, .fresh, .mem, .cores, .ctxs, .migs, .asks, .stalled, .rowCopies, .freed, .flows, .mailboxes, .handles, .log, .logNext, .logOverflow, .nand] s (execSwitchDeferral d s) := by
  unfold execSwitchDeferral
  extract_lets +onlyGivenNames x1; try clear_value x1
  extract_lets +onlyGivenNames x2; try clear_value x2
  extract_lets +onlyGivenNames x3; try clear_value x3
  split
  · refine Next.intro ?_
    exact Rel.refl _ _
  · split
    · refine Next.intro ?_
      split
      · split
        · refine Rel.step (by decide) (State.countReport_rel _ _ _) ?_
          exact Rel.refl _ _
        · exact Rel.refl _ _
      · split
        · exact Rel.refl _ _
        · refine Rel.step (by decide) (State.unreport_rel _ _) ?_
          exact Rel.refl _ _
    · extract_lets +onlyGivenNames x4; try clear_value x4
      split
      · refine Next.intro ?_
        exact Rel.refl _ _
      · split
        · refine Next.intro ?_
          refine Rel.step (by decide) (State.deferSwitch_rel _ _) ?_
          exact Rel.refl _ _
        · refine Next.intro ?_
          refine Rel.step (by decide) (State.fence_rel _ _) ?_
          exact Rel.refl _ _

theorem execVerifyPass_next (ctx : Nat) (s : State) : Next [.out, .clk, .ctxs, .mailboxes, .log, .logNext, .logOverflow] s (execVerifyPass ctx s) := by
  unfold execVerifyPass
  extract_lets +onlyGivenNames x1; try clear_value x1
  split
  · refine Next.intro ?_
    exact Rel.refl _ _
  · extract_lets +onlyGivenNames x2; (refine Next.via (t := x2) ?_ (fun _ => ?_); (on_goal 2 => try clear_value x2); (on_goal 1 => unfold x2); (on_goal 1 => clear x2))
    · refine Rel.step (by decide) (State.toTai_rel _ _) ?_
      exact Rel.refl _ _
    · split
      · refine Next.intro ?_
        refine Rel.step (by decide) (State.beginPass_rel _ _) ?_
        assumption
      · split
        · refine Next.intro ?_
          assumption
        · refine Next.intro ?_
          refine Rel.step (by decide) (State.updWeights_rel _ _ _) ?_
          refine Rel.step (by decide) (State.event_rel _ _ _ _ _) ?_
          assumption

end Sys2Proof.Machine
end

