-- ==== Sys2Proof/Laws/Mailbox.lean ====
section
/-! SUPPORT. What the operations and the meanings of Machine/Mailbox.lean can change: for each operation the fields of the state it may change, and
for each meaning that it answers a next state and the fields that it may change; all of them keep the invariant. -/

namespace Sys2Proof.Machine

theorem State.endSession_rel (s : State) (m : Nat) : Rel [.mailboxes] s (State.endSession s m) := by
  unfold State.endSession
  refine Rel.step (by decide) (State.updMbox_rel _ _ _) ?_
  exact Rel.refl _ _

theorem State.given_rel (s : State) (k : Nat) : Rel [] s (State.given s k).1 := by
  unfold State.given
  refine Rel.pair ?_
  exact Rel.refl _ _

theorem State.withHandle_rel {l : List Fld} {s0 : State} {s : State} {h : Handle} {f : State → Nat → State × Reply}
    (hsub : subF [.mailboxes, .handles, .pcie] l = true) (hact0 : ∀ u a1, Rel l u (f u a1).1) (hrel : Rel l s0 s) : Rel l s0 (State.withHandle s h f).1 := by
  unfold State.withHandle
  split
  · refine Rel.pair ?_
    assumption
  · extract_lets +onlyGivenNames x1; (refine Rel.via (t := x1.1) ?_ (fun _ => ?_); (on_goal 1 => unfold x1); (on_goal 1 => try clear x1))
    · refine Rel.step (subF_trans (by decide) hsub) (State.newHandle_rel _ _) ?_
      assumption
    · refine Rel.trans ?_ (hact0 _ _)
      split
      · refine Rel.step (subF_trans (by decide) hsub) (State.dmaAsk_rel _ _) ?_
        assumption
      · assumption

theorem State.answer_rel (s : State) (rq : Req) (family : Nat) (code : Nat) (key : List Byte) (r : Reply) : Rel [.out, .mailboxes] s (State.answer s rq family code key r) := by
  unfold State.answer
  extract_lets +onlyGivenNames x1; try clear_value x1
  extract_lets +onlyGivenNames x2; try clear_value x2
  extract_lets +onlyGivenNames x3; (refine Rel.via (t := x3) ?_ (fun _ => ?_); (on_goal 2 => try clear_value x3); (on_goal 1 => unfold x3); (on_goal 1 => clear x3))
  · refine Rel.step (by decide) (State.updMbox_rel _ _ _) ?_
    exact Rel.refl _ _
  · split
    · refine Rel.step (by decide) (State.emit_rel _ _) ?_
      assumption
    · assumption

theorem State.security_rel (s : State) (m : Nat) (reason : Nat) (tag : Nat) (epoch : Nat) : Rel [.out, .ctxs, .mailboxes, .log, .logNext, .logOverflow] s (State.security s m reason tag epoch) := by
  unfold State.security
  refine Rel.step (by decide) (State.logRecord_rel _ _ _ _ _) ?_
  exact Rel.refl _ _

theorem State.authFail_rel (s : State) (rq : Req) (reason : Nat) : Rel [.out, .ctxs, .mailboxes, .log, .logNext, .logOverflow] s (State.authFail s rq reason) := by
  unfold State.authFail
  extract_lets +onlyGivenNames x1; (refine Rel.via (t := x1) ?_ (fun _ => ?_); (on_goal 2 => try clear_value x1); (on_goal 1 => unfold x1); (on_goal 1 => clear x1))
  · refine Rel.step (by decide) (State.updMbox_rel _ _ _) ?_
    exact Rel.refl _ _
  · extract_lets +onlyGivenNames x2; (refine Rel.via (t := x2) ?_ (fun _ => ?_); (on_goal 2 => try clear_value x2); (on_goal 1 => unfold x2); (on_goal 1 => clear x2))
    · refine Rel.step (by decide) (State.security_rel _ _ _ _ _) ?_
      assumption
    · split
      · refine Rel.step (by decide) (State.endSession_rel _ _) ?_
        refine Rel.step (by decide) (State.security_rel _ _ _ _ _) ?_
        assumption
      · assumption

theorem State.authenticate_rel (s : State) (rq : Req) (family : Nat) (code : Nat) : Rel [.out, .ctxs, .mailboxes, .log, .logNext, .logOverflow] s (State.authenticate s rq family code).1 := by
  unfold State.authenticate
  extract_lets +onlyGivenNames x1; try clear_value x1
  split
  · split
    · refine Rel.pair ?_
      refine Rel.step (by decide) (State.authFail_rel _ _ _) ?_
      exact Rel.refl _ _
    · split
      · split
        · refine Rel.pair ?_
          refine Rel.step (by decide) (State.authFail_rel _ _ _) ?_
          exact Rel.refl _ _
        · refine Rel.pair ?_
          refine Rel.step (by decide) (State.setMbox_rel _ _ _) ?_
          exact Rel.refl _ _
      · split
        · refine Rel.pair ?_
          refine Rel.step (by decide) (State.authFail_rel _ _ _) ?_
          exact Rel.refl _ _
        · refine Rel.pair ?_
          refine Rel.step (by decide) (State.setMbox_rel _ _ _) ?_
          exact Rel.refl _ _
  · split
    · refine Rel.pair ?_
      exact Rel.refl _ _
    · split
      · refine Rel.pair ?_
        exact Rel.refl _ _
      · split
        · refine Rel.pair ?_
          exact Rel.refl _ _
        · refine Rel.pair ?_
          exact Rel.refl _ _

theorem State.mailRun_rel {l : List Fld} {s0 : State} {s : State} {rq : Req} {family : Nat} {code : Nat} {act : State → State × Option Reply}
    (hsub : subF [.out, .ctxs, .mailboxes, .log, .logNext, .logOverflow] l = true) (hact0 : ∀ u, Rel l u (act u).1) (hrel : Rel l s0 s) : Rel l s0 (State.mailRun s rq family code act) := by
  unfold State.mailRun
  split
  · assumption
  · extract_lets +onlyGivenNames x1; (refine Rel.via (t := x1) ?_ (fun _ => ?_); (on_goal 2 => try clear_value x1); (on_goal 1 => unfold x1); (on_goal 1 => clear x1))
    · refine Rel.step (subF_trans (by decide) hsub) (State.updMbox_rel _ _ _) ?_
      assumption
    · extract_lets +onlyGivenNames x2; try clear_value x2
      split
      · refine Rel.step (subF_trans (by decide) hsub) (State.setMbox_rel _ _ _) ?_
        assumption
      · extract_lets +onlyGivenNames x3; try clear_value x3
        extract_lets +onlyGivenNames x4; (refine Rel.via (t := x4) ?_ (fun _ => ?_); (on_goal 2 => try clear_value x4); (on_goal 1 => unfold x4); (on_goal 1 => clear x4))
        · refine Rel.step (subF_trans (by decide) hsub) (State.setMbox_rel _ _ _) ?_
          assumption
        · split
          · refine Rel.step (subF_trans (by decide) hsub) (State.answer_rel _ _ _ _ _ _) ?_
            refine Rel.of_eq (by assumption) ?_
            refine Rel.step (subF_trans (by decide) hsub) (State.authenticate_rel _ _ _ _) ?_
            assumption
          · split
            · refine Rel.step (subF_trans (by decide) hsub) (State.answer_rel _ _ _ _ _ _) ?_
              refine Rel.of_eq (by assumption) ?_
              refine Rel.step (subF_trans (by decide) hsub) (State.authenticate_rel _ _ _ _) ?_
              assumption
            · split
              · refine Rel.step (subF_trans (by decide) hsub) (State.answer_rel _ _ _ _ _ _) ?_
                refine Rel.of_eq (by assumption) ?_
                refine Rel.step (subF_trans (by decide) hsub) (State.authenticate_rel _ _ _ _) ?_
                assumption
              · extract_lets +onlyGivenNames x5; (refine Rel.via (t := x5.1) ?_ (fun _ => ?_); (on_goal 1 => unfold x5); (on_goal 1 => try clear x5))
                · refine Rel.trans ?_ (hact0 _)
                  refine Rel.of_eq (by assumption) ?_
                  refine Rel.step (subF_trans (by decide) hsub) (State.authenticate_rel _ _ _ _) ?_
                  assumption
                · split
                  · refine Rel.step (subF_trans (by decide) hsub) (State.answer_rel _ _ _ _ _ _) ?_
                    assumption
                  · refine Rel.step (subF_trans (by decide) hsub) (State.updMbox_rel _ _ _) ?_
                    assumption

theorem State.mailCmd_rel {l : List Fld} {s0 : State} {s : State} {rq : Req} {family : Nat} {code : Nat} {act : State → State × Reply}
    (hsub : subF [.out, .ctxs, .mailboxes, .log, .logNext, .logOverflow] l = true) (hact0 : ∀ u, Rel l u (act u).1) (hrel : Rel l s0 s) : Rel l s0 (State.mailCmd s rq family code act) := by
  unfold State.mailCmd
  refine State.mailRun_rel (subF_trans (by decide) hsub) (fun _ => ?_) ?_
  · refine Rel.pair ?_
    refine Rel.trans ?_ (hact0 _)
    exact Rel.refl _ _
  · assumption

theorem State.actionCmd_rel {l : List Fld} {s0 : State} {s : State} {rq : Req} {family : Nat} {code : Nat} {action : Nat} {act : State → State × Reply}
    (hsub : subF [.out, .ctxs, .mailboxes, .log, .logNext, .logOverflow] l = true) (hact0 : ∀ u, Rel l u (act u).1) (hrel : Rel l s0 s) : Rel l s0 (State.actionCmd s rq family code action act) := by
  unfold State.actionCmd
  split
  · refine State.mailCmd_rel (subF_trans (by decide) hsub) (fun _ => ?_) ?_
    · refine Rel.trans ?_ (hact0 _)
      exact Rel.refl _ _
    · assumption
  · assumption

theorem State.adm_rel {l : List Fld} {s0 : State} {s : State} {rq : Req} {f : State × Reply}
    (hsub : subF [] l = true) (hact0 : Rel l s0 f.1) (hrel : Rel l s0 s) : Rel l s0 (State.adm s rq f).1 := by
  unfold State.adm
  split
  · assumption
  · refine Rel.pair ?_
    assumption

theorem State.anyMb_rel {l : List Fld} {s0 : State} {s : State} {rq : Req} {f : State × Reply}
    (hsub : subF [] l = true) (hact0 : Rel l s0 f.1) (hrel : Rel l s0 s) : Rel l s0 (State.anyMb s rq f).1 := by
  unfold State.anyMb
  split
  · refine Rel.pair ?_
    assumption
  · assumption

theorem State.asCoord_rel {l : List Fld} {s0 : State} {s : State} {x : Nat} {f : State × Reply}
    (hsub : subF [] l = true) (hact0 : Rel l s0 f.1) (hrel : Rel l s0 s) : Rel l s0 (State.asCoord s x f).1 := by
  unfold State.asCoord
  split
  · assumption
  · refine Rel.pair ?_
    assumption

theorem State.bodyOf_rel {l : List Fld} {s0 : State} {s : State} {rq : Req} {n : Nat} {ok : Bool} {f : State × Reply}
    (hsub : subF [] l = true) (hact0 : Rel l s0 f.1) (hrel : Rel l s0 s) : Rel l s0 (State.bodyOf s rq n ok f).1 := by
  unfold State.bodyOf
  split
  · assumption
  · refine Rel.pair ?_
    assumption

theorem State.done_rel (s : State) (b : optParam (List Byte) []) : Rel [] s (State.done s b).1 := by
  unfold State.done
  refine Rel.pair ?_
  exact Rel.refl _ _

theorem State.fail_rel (s : State) (st : Nat) : Rel [] s (State.fail s st).1 := by
  unfold State.fail
  refine Rel.pair ?_
  exact Rel.refl _ _

theorem State.onCtx_rel {l : List Fld} {s0 : State} {s : State} {rq : Req} {f : Nat → State × Reply}
    (hsub : subF [] l = true) (hact0 : ∀ a0, Rel l s0 (f a0).1) (hrel : Rel l s0 s) : Rel l s0 (State.onCtx s rq f).1 := by
  unfold State.onCtx
  split
  · split
    · refine Rel.trans ?_ (hact0 _)
      exact Rel.refl _ _
    · refine Rel.pair ?_
      assumption
  · split
    · refine Rel.pair ?_
      assumption
    · split
      · refine Rel.pair ?_
        assumption
      · refine Rel.trans ?_ (hact0 _)
        exact Rel.refl _ _

theorem State.endSessions_rel (s : State) : Rel [.mailboxes] s (State.endSessions s) := by
  unfold State.endSessions
  refine Rel.step (by decide) Rel.set_mailboxes ?_
  exact Rel.refl _ _

theorem State.passwordFail_rel (s : State) (rq : Req) : Rel [.out, .ctxs, .mailboxes, .pwFails, .lockedUntil, .log, .logNext, .logOverflow] s (State.passwordFail s rq) := by
  unfold State.passwordFail
  extract_lets +onlyGivenNames x1; try clear_value x1
  extract_lets +onlyGivenNames x2; try clear_value x2
  extract_lets +onlyGivenNames x3; (refine Rel.via (t := x3) ?_ (fun _ => ?_); (on_goal 2 => try clear_value x3); (on_goal 1 => unfold x3); (on_goal 1 => clear x3))
  · refine Rel.step (by decide) (State.security_rel _ _ _ _ _) ?_
    exact Rel.refl _ _
  · split
    · refine Rel.step (by decide) Rel.set_pwFails_lockedUntil ?_
      assumption
    · refine Rel.step (by decide) Rel.set_pwFails ?_
      assumption

theorem execConfirm_next (rq : Req) (s : State) : Next [.out, .ctxs, .mailboxes, .pwFails, .lockedUntil, .log, .logNext, .logOverflow] s (execConfirm rq s) := by
  unfold execConfirm
  refine Next.intro ?_
  refine State.mailCmd_rel (by decide) (fun _ => ?_) ?_
  · refine State.anyMb_rel (by decide) ?_ ?_
    · refine State.bodyOf_rel (by decide) ?_ ?_
      · extract_lets +onlyGivenNames x1; try clear_value x1
        split
        · refine Rel.step (by decide) (State.fail_rel _ _) ?_
          exact Rel.refl _ _
        · split
          · refine Rel.step (by decide) (State.fail_rel _ _) ?_
            exact Rel.refl _ _
          · split
            · extract_lets +onlyGivenNames x2; (refine Rel.via (t := x2) ?_ (fun _ => ?_); (on_goal 2 => try clear_value x2); (on_goal 1 => unfold x2); (on_goal 1 => clear x2))
              · refine Rel.step (by decide) (State.updMbox_rel _ _ _) ?_
                exact Rel.refl _ _
              · split
                · refine Rel.step (by decide) (State.fail_rel _ _) ?_
                  refine Rel.step (by decide) (State.passwordFail_rel _ _) ?_
                  assumption
                · refine Rel.step (by decide) (State.fail_rel _ _) ?_
                  refine Rel.step (by decide) (State.security_rel _ _ _ _ _) ?_
                  assumption
            · extract_lets +onlyGivenNames x3; (refine Rel.via (t := x3) ?_ (fun _ => ?_); (on_goal 2 => try clear_value x3); (on_goal 1 => unfold x3); (on_goal 1 => clear x3))
              · refine Rel.step (by decide) (State.updMbox_rel _ _ _) ?_
                exact Rel.refl _ _
              · refine Rel.step (by decide) (State.done_rel _ _) ?_
                assumption
      · exact Rel.refl _ _
    · exact Rel.refl _ _
  · exact Rel.refl _ _

theorem execHandleExpiry_next (handle : Nat) (s : State) : Next [.clk, .handles] s (execHandleExpiry handle s) := by
  unfold execHandleExpiry
  split
  · refine Next.intro ?_
    exact Rel.refl _ _
  · split
    · refine Next.intro ?_
      exact Rel.refl _ _
    · extract_lets +onlyGivenNames x1; (refine Next.via (t := x1) ?_ (fun _ => ?_); (on_goal 2 => try clear_value x1); (on_goal 1 => unfold x1); (on_goal 1 => clear x1))
      · refine Rel.step (by decide) (State.toTai_rel _ _) ?_
        exact Rel.refl _ _
      · refine Next.intro ?_
        refine Rel.step (by decide) Rel.set_handles ?_
        assumption

theorem execHandleQuery_next (rq : Req) (s : State) : Next [.out, .ctxs, .mailboxes, .log, .logNext, .logOverflow] s (execHandleQuery rq s) := by
  unfold execHandleQuery
  refine Next.intro ?_
  refine State.mailCmd_rel (by decide) (fun _ => ?_) ?_
  · refine State.anyMb_rel (by decide) ?_ ?_
    · refine State.bodyOf_rel (by decide) ?_ ?_
      · split
        · refine Rel.step (by decide) (State.fail_rel _ _) ?_
          exact Rel.refl _ _
        · refine Rel.step (by decide) (State.done_rel _ _) ?_
          exact Rel.refl _ _
      · exact Rel.refl _ _
    · exact Rel.refl _ _
  · exact Rel.refl _ _

theorem execOpenPassword_next (rq : Req) (s : State) : Next [.out, .fresh, .ctxs, .mailboxes, .log, .logNext, .logOverflow] s (execOpenPassword rq s) := by
  unfold execOpenPassword
  refine Next.intro ?_
  refine State.mailCmd_rel (by decide) (fun _ => ?_) ?_
  · refine State.adm_rel (by decide) ?_ ?_
    · refine State.bodyOf_rel (by decide) ?_ ?_
      · split
        · refine Rel.step (by decide) (State.fail_rel _ _) ?_
          exact Rel.refl _ _
        · split
          · refine Rel.step (by decide) (State.fail_rel _ _) ?_
            exact Rel.refl _ _
          · extract_lets +onlyGivenNames x1; try clear_value x1
            extract_lets +onlyGivenNames x2; try clear_value x2
            extract_lets +onlyGivenNames x3; try clear_value x3
            extract_lets +onlyGivenNames x4; try clear_value x4
            extract_lets +onlyGivenNames x5; (refine Rel.via (t := x5) ?_ (fun _ => ?_); (on_goal 2 => try clear_value x5); (on_goal 1 => unfold x5); (on_goal 1 => clear x5))
            · refine Rel.step (by decide) (State.updMbox_rel _ _ _) ?_
              refine Rel.step (by decide) (State.draw_rel _) ?_
              exact Rel.refl _ _
            · refine Rel.step (by decide) (State.done_rel _ _) ?_
              assumption
      · exact Rel.refl _ _
    · exact Rel.refl _ _
  · exact Rel.refl _ _

theorem execOpenSm2_next (rq : Req) (s : State) : Next [.out, .fresh, .ctxs, .mailboxes, .log, .logNext, .logOverflow] s (execOpenSm2 rq s) := by
  unfold execOpenSm2
  refine Next.intro ?_
  refine State.mailCmd_rel (by decide) (fun _ => ?_) ?_
  · refine State.anyMb_rel (by decide) ?_ ?_
    · split
      · refine Rel.step (by decide) (State.fail_rel _ _) ?_
        exact Rel.refl _ _
      · extract_lets +onlyGivenNames x1; try clear_value x1
        extract_lets +onlyGivenNames x2; try clear_value x2
        extract_lets +onlyGivenNames x3; try clear_value x3
        refine State.bodyOf_rel (by decide) ?_ ?_
        · split
          · refine Rel.step (by decide) (State.fail_rel _ _) ?_
            exact Rel.refl _ _
          · extract_lets +onlyGivenNames x4; try clear_value x4
            extract_lets +onlyGivenNames x5; (refine Rel.via (t := x5) ?_ (fun _ => ?_); (on_goal 2 => try clear_value x5); (on_goal 1 => unfold x5); (on_goal 1 => clear x5))
            · refine Rel.step (by decide) (State.updMbox_rel _ _ _) ?_
              refine Rel.step (by decide) (State.draw_rel _) ?_
              exact Rel.refl _ _
            · refine Rel.step (by decide) (State.done_rel _ _) ?_
              assumption
        · exact Rel.refl _ _
    · exact Rel.refl _ _
  · exact Rel.refl _ _

theorem execPasswordLockoutEnd_next (s : State) : Next [.clk, .lockedUntil] s (execPasswordLockoutEnd s) := by
  unfold execPasswordLockoutEnd
  split
  · refine Next.intro ?_
    exact Rel.refl _ _
  · extract_lets +onlyGivenNames x1; (refine Next.via (t := x1) ?_ (fun _ => ?_); (on_goal 2 => try clear_value x1); (on_goal 1 => unfold x1); (on_goal 1 => clear x1))
    · refine Rel.step (by decide) (State.toTai_rel _ _) ?_
      exact Rel.refl _ _
    · refine Next.intro ?_
      refine Rel.step (by decide) Rel.set_lockedUntil ?_
      assumption

theorem execReservedCommand_next (rq : Req) (family : Nat) (code : Nat) (s : State) : Next [.out, .ctxs, .mailboxes, .log, .logNext, .logOverflow] s (execReservedCommand rq family code s) := by
  unfold execReservedCommand
  split
  · refine Next.intro ?_
    exact Rel.refl _ _
  · refine Next.intro ?_
    refine State.mailCmd_rel (by decide) (fun _ => ?_) ?_
    · refine Rel.step (by decide) (State.fail_rel _ _) ?_
      exact Rel.refl _ _
    · exact Rel.refl _ _

theorem execSessionClose_next (rq : Req) (s : State) : Next [.out, .ctxs, .mailboxes, .log, .logNext, .logOverflow] s (execSessionClose rq s) := by
  unfold execSessionClose
  refine Next.intro ?_
  refine State.mailCmd_rel (by decide) (fun _ => ?_) ?_
  · refine State.anyMb_rel (by decide) ?_ ?_
    · refine State.bodyOf_rel (by decide) ?_ ?_
      · refine Rel.step (by decide) (State.done_rel _ _) ?_
        refine Rel.step (by decide) (State.endSession_rel _ _) ?_
        exact Rel.refl _ _
      · exact Rel.refl _ _
    · exact Rel.refl _ _
  · exact Rel.refl _ _

end Sys2Proof.Machine
end

