-- ==== Sys2Proof/Laws/Contexts.lean ====
section
/-! SUPPORT. What the operations and the meanings of Machine/Contexts.lean can change: for each operation the fields of the state it may change, and
for each meaning that it answers a next state and the fields that it may change; all of them keep the invariant. -/

namespace Sys2Proof.Machine

theorem State.leaveWindows_rel (s : State) (x : Nat) : Rel [.mem, .ctxs, .ctrl, .ctrlNext, .macs, .ecnDraws, .counters] s (State.leaveWindows s x) := by
  unfold State.leaveWindows
  extract_lets +onlyGivenNames x1; try clear_value x1
  extract_lets +onlyGivenNames x2; (refine Rel.via (t := x2) ?_ (fun _ => ?_); (on_goal 2 => try clear_value x2); (on_goal 1 => unfold x2); (on_goal 1 => clear x2))
  · refine Rel.foldl (fun _ _ => ?_) ?_
    · refine Rel.step (by decide) (State.clearMem_rel _ _ _) ?_
      exact Rel.refl _ _
    · exact Rel.refl _ _
  · extract_lets +onlyGivenNames x3; (refine Rel.via (t := x3) ?_ (fun _ => ?_); (on_goal 2 => try clear_value x3); (on_goal 1 => unfold x3); (on_goal 1 => clear x3))
    · refine Rel.step (by decide) (State.updCtx_rel _ _ _) ?_
      assumption
    · refine Rel.foldl (fun _ _ => ?_) ?_
      · split
        · exact Rel.refl _ _
        · refine Rel.step (by decide) (State.sendCtrl_rel _ _ _ _) ?_
          exact Rel.refl _ _
      · assumption

theorem State.beginTeardown_rel (s : State) (x : Nat) (k : Nat) (keep : Bool) : Rel [.out, .fresh, .mem, .cores, .ctxs, .migs, .asks, .stalled, .rowCopies, .freed, .flows, .ctrl, .ctrlNext, .fcache, .macs, .ecnDraws, .mailboxes, .handles, .log, .logNext, .logOverflow, .counters, .nand] s (State.beginTeardown s x k keep) := by
  unfold State.beginTeardown
  extract_lets +onlyGivenNames x1; (refine Rel.via (t := x1) ?_ (fun _ => ?_); (on_goal 2 => try clear_value x1); (on_goal 1 => unfold x1); (on_goal 1 => clear x1))
  · refine Rel.step (by decide) (State.fence_rel _ _) ?_
    exact Rel.refl _ _
  · extract_lets +onlyGivenNames x2; try clear_value x2
    extract_lets +onlyGivenNames x3; (refine Rel.via (t := x3) ?_ (fun _ => ?_); (on_goal 2 => try clear_value x3); (on_goal 1 => unfold x3); (on_goal 1 => clear x3))
    · refine Rel.foldl (fun _ _ => ?_) ?_
      · refine Rel.step (by decide) (State.finish_rel _ _ _) ?_
        exact Rel.refl _ _
      · assumption
    · extract_lets +onlyGivenNames x4; (refine Rel.via (t := x4) ?_ (fun _ => ?_); (on_goal 2 => try clear_value x4); (on_goal 1 => unfold x4); (on_goal 1 => clear x4))
      · refine Rel.foldl (fun _ _ => ?_) ?_
        · refine Rel.step (by decide) (State.abortMig_rel _ _ _ _) ?_
          exact Rel.refl _ _
        · assumption
      · extract_lets +onlyGivenNames x5; (refine Rel.via (t := x5) ?_ (fun _ => ?_); (on_goal 2 => try clear_value x5); (on_goal 1 => unfold x5); (on_goal 1 => clear x5))
        · refine Rel.step (by decide) Rel.set_asks_stalled ?_
          assumption
        · extract_lets +onlyGivenNames x6; (refine Rel.via (t := x6) ?_ (fun _ => ?_); (on_goal 2 => try clear_value x6); (on_goal 1 => unfold x6); (on_goal 1 => clear x6))
          · refine Rel.step (by decide) (State.endSession_rel _ _) ?_
            assumption
          · extract_lets +onlyGivenNames x7; (refine Rel.via (t := x7) ?_ (fun _ => ?_); (on_goal 2 => try clear_value x7); (on_goal 1 => unfold x7); (on_goal 1 => clear x7))
            · refine Rel.step (by decide) (State.leaveWindows_rel _ _) ?_
              refine Rel.step (by decide) (State.closeFlows_rel _ _) ?_
              refine Rel.step (by decide) (State.abandonReshard_rel _ _) ?_
              assumption
            · extract_lets +onlyGivenNames x8; (refine Rel.via (t := x8) ?_ (fun _ => ?_); (on_goal 2 => try clear_value x8); (on_goal 1 => unfold x8); (on_goal 1 => clear x8))
              · refine Rel.step (by decide) (State.updCtx_rel _ _ _) ?_
                assumption
              · refine Rel.step (by decide) (State.progress_rel _ _ _ _ _) ?_
                assumption

theorem State.dropCreate_rel (s : State) (x : Nat) : Rel [.out, .ctxs, .mailboxes, .handles, .log, .logNext, .logOverflow] s (State.dropCreate s x) := by
  unfold State.dropCreate
  extract_lets +onlyGivenNames x1; try clear_value x1
  split
  · exact Rel.refl _ _
  · refine Rel.step (by decide) (State.finish_rel _ _ _) ?_
    refine Rel.step (by decide) (State.setCtx_rel _ _ _) ?_
    exact Rel.refl _ _

theorem State.takeBack_rel (s : State) (w : Nat) (l : LendWin) : Rel [.out, .ctxs, .lend, .ctrl, .ctrlNext, .macs, .ecnDraws, .mailboxes, .handles, .log, .logNext, .logOverflow, .counters] s (State.takeBack s w l) := by
  unfold State.takeBack
  split
  · refine Rel.step (by decide) (State.finish_rel _ _ _) ?_
    refine Rel.step (by decide) Rel.set_lend ?_
    exact Rel.refl _ _
  · split
    · refine Rel.step (by decide) (State.reclaimWindow_rel _ _ _) ?_
      exact Rel.refl _ _
    · exact Rel.refl _ _

theorem State.beginTransition_rel (s : State) : Rel [.out, .fresh, .mem, .cores, .ctxs, .migs, .asks, .stalled, .lend, .rowCopies, .freed, .flows, .ctrl, .ctrlNext, .fcache, .macs, .ecnDraws, .mailboxes, .handles, .log, .logNext, .logOverflow, .counters, .nand, .life] s (State.beginTransition s) := by
  unfold State.beginTransition
  split
  · exact Rel.refl _ _
  · split
    · exact Rel.refl _ _
    · extract_lets +onlyGivenNames x1; try clear_value x1
      extract_lets +onlyGivenNames x2; (refine Rel.via (t := x2) ?_ (fun _ => ?_); (on_goal 2 => try clear_value x2); (on_goal 1 => unfold x2); (on_goal 1 => clear x2))
      · refine Rel.step (by decide) Rel.set_life ?_
        exact Rel.refl _ _
      · extract_lets +onlyGivenNames x3; try clear_value x3
        extract_lets +onlyGivenNames x4; (refine Rel.via (t := x4) ?_ (fun _ => ?_); (on_goal 2 => try clear_value x4); (on_goal 1 => unfold x4); (on_goal 1 => clear x4))
        · split
          · refine Rel.foldl (fun _ _ => ?_) ?_
            · extract_lets +onlyGivenNames x5; (refine Rel.via (t := x5) ?_ (fun _ => ?_); (on_goal 2 => try clear_value x5); (on_goal 1 => unfold x5); (on_goal 1 => clear x5))
              · refine Rel.step (by decide) (State.dropCreate_rel _ _) ?_
                exact Rel.refl _ _
              · split
                · refine Rel.step (by decide) (State.beginTeardown_rel _ _ _ _) ?_
                  assumption
                · assumption
            · assumption
          · assumption
        · extract_lets +onlyGivenNames x6; (refine Rel.via (t := x6) ?_ (fun _ => ?_); (on_goal 2 => try clear_value x6); (on_goal 1 => unfold x6); (on_goal 1 => clear x6))
          · split
            · refine Rel.foldl (fun _ _ => ?_) ?_
              · refine Rel.step (by decide) (State.takeBack_rel _ _ _) ?_
                exact Rel.refl _ _
              · assumption
            · assumption
          · refine Rel.step (by decide) (State.progress_rel _ _ _ _ _) ?_
            assumption

theorem State.finishCreate_rel (s : State) (x : Nat) (p : PendCreate) : Rel [.out, .ctxs, .mailboxes, .handles, .log, .logNext, .logOverflow] s (State.finishCreate s x p) := by
  unfold State.finishCreate
  refine Rel.step (by decide) (State.finish_rel _ _ _) ?_
  refine Rel.step (by decide) (State.setCtx_rel _ _ _) ?_
  exact Rel.refl _ _

theorem State.releaseCreates_rel (s : State) (y : Nat) : Rel [.out, .ctxs, .mailboxes, .handles, .log, .logNext, .logOverflow] s (State.releaseCreates s y) := by
  unfold State.releaseCreates
  refine Rel.foldl (fun _ _ => ?_) ?_
  · extract_lets +onlyGivenNames x1; try clear_value x1
    split
    · exact Rel.refl _ _
    · extract_lets +onlyGivenNames x2; try clear_value x2
      split
      · refine Rel.step (by decide) (State.finishCreate_rel _ _ _) ?_
        exact Rel.refl _ _
      · refine Rel.step (by decide) (State.setCtx_rel _ _ _) ?_
        exact Rel.refl _ _
  · exact Rel.refl _ _

theorem State.scrubCores_rel (s : State) (x : Nat) : Rel [.mem, .cores] s (State.scrubCores s x) := by
  unfold State.scrubCores
  extract_lets +onlyGivenNames x1; (refine Rel.via (t := x1) ?_ (fun _ => ?_); (on_goal 2 => try clear_value x1); (on_goal 1 => unfold x1); (on_goal 1 => clear x1))
  · refine Rel.foldl (fun _ _ => ?_) ?_
    · refine Rel.foldl (fun _ _ => ?_) ?_
      · refine Rel.step (by decide) (State.clearMem_rel _ _ _) ?_
        exact Rel.refl _ _
      · exact Rel.refl _ _
    · exact Rel.refl _ _
  · extract_lets +onlyGivenNames x2; try clear_value x2
    refine Rel.step (by decide) Rel.set_cores ?_
    assumption

theorem State.scrubT0_rel (s : State) (x : Nat) : Rel [.mem] s (State.scrubT0 s x) := by
  unfold State.scrubT0
  extract_lets +onlyGivenNames x1; (refine Rel.via (t := x1) ?_ (fun _ => ?_); (on_goal 2 => try clear_value x1); (on_goal 1 => unfold x1); (on_goal 1 => clear x1))
  · refine Rel.foldl (fun _ _ => ?_) ?_
    · refine Rel.step (by decide) (State.clearMem_rel _ _ _) ?_
      exact Rel.refl _ _
    · exact Rel.refl _ _
  · refine Rel.foldl (fun _ _ => ?_) ?_
    · split
      · refine Rel.step (by decide) (State.clearMem_rel _ _ _) ?_
        exact Rel.refl _ _
      · exact Rel.refl _ _
    · assumption

theorem State.tornDown_rel (s : State) (k : Nat) (tiles : Nat) : Rel [.out, .ctxs, .mailboxes, .handles, .log, .logNext, .logOverflow] s (State.tornDown s k tiles) := by
  unfold State.tornDown
  split
  · split
    · split
      · refine Rel.step (by decide) (State.progress_rel _ _ _ _ _) ?_
        exact Rel.refl _ _
      · exact Rel.refl _ _
    · refine Rel.step (by decide) (State.finish_rel _ _ _) ?_
      refine Rel.step (by decide) (State.progress_rel _ _ _ _ _) ?_
      exact Rel.refl _ _
  · refine Rel.step (by decide) (State.finish_rel _ _ _) ?_
    refine Rel.step (by decide) (State.progress_rel _ _ _ _ _) ?_
    exact Rel.refl _ _

theorem State.endTeardown_rel (s : State) (x : Nat) (bad : List (Nat × Nat)) : Rel [.out, .fresh, .mem, .cores, .ctxs, .migs, .asks, .stalled, .lend, .banks, .rowCopies, .retiredFrames, .freed, .tcache, .flows, .trk, .ctrl, .ctrlNext, .fcache, .macs, .ecnDraws, .mailboxes, .handles, .log, .logNext, .logOverflow, .counters, .nand, .life] s (State.endTeardown s x bad) := by
  unfold State.endTeardown
  extract_lets +onlyGivenNames x1; try clear_value x1
  extract_lets +onlyGivenNames x2; (refine Rel.via (t := x2) ?_ (fun _ => ?_); (on_goal 2 => try clear_value x2); (on_goal 1 => unfold x2); (on_goal 1 => clear x2))
  · refine Rel.step (by decide) (State.dropTiles_rel _ _ _) ?_
    refine Rel.step (by decide) (State.dropCopies_rel _ _) ?_
    refine Rel.step (by decide) (State.scrubT0_rel _ _) ?_
    refine Rel.step (by decide) (State.scrubCores_rel _ _) ?_
    exact Rel.refl _ _
  · extract_lets +onlyGivenNames x3; (refine Rel.via (t := x3) ?_ (fun _ => ?_); (on_goal 2 => try clear_value x3); (on_goal 1 => unfold x3); (on_goal 1 => clear x3))
    · refine Rel.step (by decide) Rel.set_retiredFrames_freed_flows_trk_nand ?_
      assumption
    · extract_lets +onlyGivenNames x4; (refine Rel.via (t := x4) ?_ (fun _ => ?_); (on_goal 2 => try clear_value x4); (on_goal 1 => unfold x4); (on_goal 1 => clear x4))
      · refine Rel.foldl (fun _ _ => ?_) ?_
        · extract_lets +onlyGivenNames x5; try clear_value x5
          refine Rel.step (by decide) (State.uncRow_rel _ _ _ _) ?_
          exact Rel.refl _ _
        · assumption
      · extract_lets +onlyGivenNames x6; (refine Rel.via (t := x6) ?_ (fun _ => ?_); (on_goal 2 => try clear_value x6); (on_goal 1 => unfold x6); (on_goal 1 => clear x6))
        · refine Rel.step (by decide) (State.tornDown_rel _ _ _) ?_
          assumption
        · extract_lets +onlyGivenNames x7; (refine Rel.via (t := x7) ?_ (fun _ => ?_); (on_goal 2 => try clear_value x7); (on_goal 1 => unfold x7); (on_goal 1 => clear x7))
          · refine Rel.step (by decide) (State.setCtx_rel _ _ _) ?_
            assumption
          · refine Rel.step (by decide) (State.beginTransition_rel _) ?_
            refine Rel.step (by decide) (State.releaseCreates_rel _ _) ?_
            assumption

theorem execContextCreate_next (rq : Req) (s : State) : Next [.out, .ctxs, .mailboxes, .handles, .log, .logNext, .logOverflow, .pcie] s (execContextCreate rq s) := by
  unfold execContextCreate
  refine Next.intro ?_
  refine State.mailCmd_rel (by decide) (fun _ => ?_) ?_
  · refine State.adm_rel (by decide) ?_ ?_
    · extract_lets +onlyGivenNames x1; try clear_value x1
      extract_lets +onlyGivenNames x2; try clear_value x2
      extract_lets +onlyGivenNames x3; try clear_value x3
      extract_lets +onlyGivenNames x4; try clear_value x4
      refine State.bodyOf_rel (by decide) ?_ ?_
      · split
        · refine Rel.step (by decide) (State.fail_rel _ _) ?_
          exact Rel.refl _ _
        · split
          · refine Rel.step (by decide) (State.fail_rel _ _) ?_
            exact Rel.refl _ _
          · extract_lets +onlyGivenNames x5; try clear_value x5
            extract_lets +onlyGivenNames x6; try clear_value x6
            extract_lets +onlyGivenNames x7; try clear_value x7
            extract_lets +onlyGivenNames x8; try clear_value x8
            extract_lets +onlyGivenNames x9; try clear_value x9
            split
            · refine Rel.step (by decide) (State.fail_rel _ _) ?_
              exact Rel.refl _ _
            · refine State.withHandle_rel (by decide) (fun _ _ => ?_) ?_
              · extract_lets +onlyGivenNames x10; try clear_value x10
                split
                · refine Rel.pair ?_
                  refine Rel.step (by decide) (State.finishCreate_rel _ _ _) ?_
                  exact Rel.refl _ _
                · extract_lets +onlyGivenNames x11; try clear_value x11
                  extract_lets +onlyGivenNames x12; (refine Rel.via (t := x12) ?_ (fun _ => ?_); (on_goal 2 => try clear_value x12); (on_goal 1 => unfold x12); (on_goal 1 => clear x12))
                  · refine Rel.step (by decide) (State.setCtx_rel _ _ _) ?_
                    exact Rel.refl _ _
                  · extract_lets +onlyGivenNames x13; (refine Rel.via (t := x13) ?_ (fun _ => ?_); (on_goal 2 => try clear_value x13); (on_goal 1 => unfold x13); (on_goal 1 => clear x13))
                    · split
                      · refine Rel.step (by decide) (State.progress_rel _ _ _ _ _) ?_
                        assumption
                      · assumption
                    · refine Rel.pair ?_
                      assumption
              · exact Rel.refl _ _
      · exact Rel.refl _ _
    · exact Rel.refl _ _
  · exact Rel.refl _ _

theorem execContextQuery_next (rq : Req) (s : State) : Next [.out, .ctxs, .mailboxes, .log, .logNext, .logOverflow] s (execContextQuery rq s) := by
  unfold execContextQuery
  refine Next.intro ?_
  refine State.mailCmd_rel (by decide) (fun _ => ?_) ?_
  · refine State.onCtx_rel (by decide) (fun _ => ?_) ?_
    · refine State.bodyOf_rel (by decide) ?_ ?_
      · extract_lets +onlyGivenNames x1; try clear_value x1
        refine Rel.step (by decide) (State.done_rel _ _) ?_
        exact Rel.refl _ _
      · exact Rel.refl _ _
    · exact Rel.refl _ _
  · exact Rel.refl _ _

theorem execContextTeardown_next (rq : Req) (s : State) : Next [.out, .fresh, .mem, .cores, .ctxs, .migs, .asks, .stalled, .rowCopies, .freed, .flows, .ctrl, .ctrlNext, .fcache, .macs, .ecnDraws, .mailboxes, .handles, .log, .logNext, .logOverflow, .counters, .nand, .pcie] s (execContextTeardown rq s) := by
  unfold execContextTeardown
  refine Next.intro ?_
  refine State.mailCmd_rel (by decide) (fun _ => ?_) ?_
  · refine State.adm_rel (by decide) ?_ ?_
    · extract_lets +onlyGivenNames x1; try clear_value x1
      extract_lets +onlyGivenNames x2; try clear_value x2
      split
      · refine Rel.step (by decide) (State.fail_rel _ _) ?_
        exact Rel.refl _ _
      · split
        · refine Rel.step (by decide) (State.fail_rel _ _) ?_
          exact Rel.refl _ _
        · refine State.bodyOf_rel (by decide) ?_ ?_
          · split
            · refine Rel.step (by decide) (State.given_rel _ _) ?_
              exact Rel.refl _ _
            · extract_lets +onlyGivenNames x3; try clear_value x3
              refine Rel.step (by decide) (State.given_rel _ _) ?_
              refine Rel.step (by decide) (State.dropCreate_rel _ _) ?_
              exact Rel.refl _ _
            · refine State.withHandle_rel (by decide) (fun _ _ => ?_) ?_
              · refine Rel.step (by decide) (State.given_rel _ _) ?_
                refine Rel.step (by decide) (State.beginTeardown_rel _ _ _ _) ?_
                exact Rel.refl _ _
              · exact Rel.refl _ _
          · exact Rel.refl _ _
    · exact Rel.refl _ _
  · exact Rel.refl _ _

theorem execSetGrants_next (rq : Req) (s : State) : Next [.out, .ctxs, .mailboxes, .log, .logNext, .logOverflow] s (execSetGrants rq s) := by
  unfold execSetGrants
  refine Next.intro ?_
  refine State.mailCmd_rel (by decide) (fun _ => ?_) ?_
  · refine State.adm_rel (by decide) ?_ ?_
    · refine State.onCtx_rel (by decide) (fun _ => ?_) ?_
      · refine State.bodyOf_rel (by decide) ?_ ?_
        · extract_lets +onlyGivenNames x1; try clear_value x1
          split
          · refine Rel.step (by decide) (State.fail_rel _ _) ?_
            exact Rel.refl _ _
          · extract_lets +onlyGivenNames x2; try clear_value x2
            extract_lets +onlyGivenNames x3; try clear_value x3
            split
            · refine Rel.step (by decide) (State.fail_rel _ _) ?_
              exact Rel.refl _ _
            · refine Rel.step (by decide) (State.done_rel _ _) ?_
              refine Rel.step (by decide) (State.setCtx_rel _ _ _) ?_
              exact Rel.refl _ _
        · exact Rel.refl _ _
      · exact Rel.refl _ _
    · exact Rel.refl _ _
  · exact Rel.refl _ _

theorem execTeardownFlowRelease_next (ctx : Nat) (s : State) : Next [.clk, .flows, .trk, .ctrl] s (execTeardownFlowRelease ctx s) := by
  unfold execTeardownFlowRelease
  extract_lets +onlyGivenNames x1; try clear_value x1
  split
  · refine Next.intro ?_
    exact Rel.refl _ _
  · extract_lets +onlyGivenNames x2; (refine Next.via (t := x2) ?_ (fun _ => ?_); (on_goal 2 => try clear_value x2); (on_goal 1 => unfold x2); (on_goal 1 => clear x2))
    · refine Rel.step (by decide) (State.toTai_rel _ _) ?_
      exact Rel.refl _ _
    · extract_lets +onlyGivenNames x3; try clear_value x3
      refine Next.intro ?_
      refine Rel.step (by decide) Rel.set_flows_trk_ctrl ?_
      assumption

theorem execTeardownScrubComplete_next (ctx : Nat) (badFrames : List (Nat × Nat)) (s : State) : Next [.out, .fresh, .mem, .cores, .ctxs, .migs, .asks, .stalled, .lend, .banks, .rowCopies, .retiredFrames, .freed, .tcache, .flows, .trk, .ctrl, .ctrlNext, .fcache, .macs, .ecnDraws, .mailboxes, .handles, .log, .logNext, .logOverflow, .counters, .nand, .life] s (execTeardownScrubComplete ctx badFrames s) := by
  unfold execTeardownScrubComplete
  split
  · refine Next.intro ?_
    exact Rel.refl _ _
  · refine Next.intro ?_
    refine Rel.step (by decide) (State.endTeardown_rel _ _ _) ?_
    exact Rel.refl _ _

end Sys2Proof.Machine
end

