-- ==== Sys2Proof/Laws/JobCmds.lean ====
section
/-! SUPPORT. What the operations and the meanings of Machine/JobCmds.lean can change: for each operation the fields of the state it may change, and
for each meaning that it answers a next state and the fields that it may change; all of them keep the invariant. -/

namespace Sys2Proof.Machine

theorem State.decide'_rel {l : List Fld} {s0 : State} {s : State} {rq : Req} {act : Nat → State → State}
    (hsub : subF [] l = true) (hact0 : ∀ a0 u, Rel l u (act a0 u)) (hrel : Rel l s0 s) : Rel l s0 (State.decide' s rq act).1 := by
  unfold State.decide'
  refine State.onCtx_rel (subF_trans (by decide) hsub) (fun _ => ?_) ?_
  · refine State.bodyOf_rel (subF_trans (by decide) hsub) ?_ ?_
    · refine State.asCoord_rel (subF_trans (by decide) hsub) ?_ ?_
      · split
        · refine Rel.step (subF_trans (by decide) hsub) (State.fail_rel _ _) ?_
          assumption
        · refine Rel.step (subF_trans (by decide) hsub) (State.done_rel _ _) ?_
          refine Rel.trans ?_ (hact0 _ _)
          assumption
      · assumption
    · assumption
  · assumption

theorem State.loadFails_rel (s : State) (x : Nat) (k : Nat) (status : Nat) (rep : List Byte) : Rel [.out, .ctxs, .mailboxes, .handles, .log, .logNext, .logOverflow] s (State.loadFails s x k status rep) := by
  unfold State.loadFails
  refine Rel.step (by decide) (State.finish_rel _ _ _) ?_
  refine Rel.step (by decide) (State.updJob_rel _ _ _) ?_
  refine Rel.step (by decide) (State.sendReport_rel _ _ _) ?_
  exact Rel.refl _ _

theorem State.imageFetched_rel (s : State) (x : Nat) (k : Nat) (im : JobImage) : Rel [.out, .ctxs, .mailboxes, .handles, .log, .logNext, .logOverflow] s (State.imageFetched s x k im) := by
  unfold State.imageFetched
  extract_lets +onlyGivenNames x1; try clear_value x1
  split
  · exact Rel.refl _ _
  · split
    · refine Rel.step (by decide) (State.loadFails_rel _ _ _ _ _) ?_
      exact Rel.refl _ _
    · extract_lets +onlyGivenNames x2; try clear_value x2
      extract_lets +onlyGivenNames x3; try clear_value x3
      extract_lets +onlyGivenNames x4; try clear_value x4
      split
      · refine Rel.step (by decide) (State.loadFails_rel _ _ _ _ _) ?_
        exact Rel.refl _ _
      · extract_lets +onlyGivenNames x5; (refine Rel.via (t := x5) ?_ (fun _ => ?_); (on_goal 2 => try clear_value x5); (on_goal 1 => unfold x5); (on_goal 1 => clear x5))
        · refine Rel.step (by decide) (State.updCtx_rel _ _ _) ?_
          exact Rel.refl _ _
        · refine Rel.step (by decide) (State.finish_rel _ _ _) ?_
          refine Rel.step (by decide) (State.progress_rel _ _ _ _ _) ?_
          assumption

theorem execJobAddModule_next (rq : Req) (s : State) : Next [.out, .ctxs, .mailboxes, .log, .logNext, .logOverflow] s (execJobAddModule rq s) := by
  unfold execJobAddModule
  refine Next.intro ?_
  refine State.mailCmd_rel (by decide) (fun _ => ?_) ?_
  · refine State.onCtx_rel (by decide) (fun _ => ?_) ?_
    · refine State.bodyOf_rel (by decide) ?_ ?_
      · refine State.asCoord_rel (by decide) ?_ ?_
        · extract_lets +onlyGivenNames x1; try clear_value x1
          split
          · refine Rel.step (by decide) (State.fail_rel _ _) ?_
            exact Rel.refl _ _
          · extract_lets +onlyGivenNames x2; (refine Rel.via (t := x2) ?_ (fun _ => ?_); (on_goal 2 => try clear_value x2); (on_goal 1 => unfold x2); (on_goal 1 => clear x2))
            · refine Rel.step (by decide) (State.updJob_rel _ _ _) ?_
              exact Rel.refl _ _
            · refine Rel.step (by decide) (State.done_rel _ _) ?_
              split
              · refine Rel.step (by decide) (State.updRecov_rel _ _ _) ?_
                assumption
              · assumption
        · exact Rel.refl _ _
      · exact Rel.refl _ _
    · exact Rel.refl _ _
  · exact Rel.refl _ _

theorem execJobCursor_next (rq : Req) (s : State) : Next [.out, .fresh, .mem, .cores, .ctxs, .migs, .asks, .stalled, .rowCopies, .flows, .ctrl, .ctrlNext, .fcache, .macs, .ecnDraws, .mailboxes, .handles, .log, .logNext, .logOverflow, .counters] s (execJobCursor rq s) := by
  unfold execJobCursor
  refine Next.intro ?_
  refine State.mailCmd_rel (by decide) (fun _ => ?_) ?_
  · refine State.onCtx_rel (by decide) (fun _ => ?_) ?_
    · refine State.bodyOf_rel (by decide) ?_ ?_
      · extract_lets +onlyGivenNames x1; try clear_value x1
        split
        · refine Rel.step (by decide) (State.fail_rel _ _) ?_
          exact Rel.refl _ _
        · extract_lets +onlyGivenNames x2; try clear_value x2
          extract_lets +onlyGivenNames x3
          split
          · refine Rel.step (by decide) (State.fail_rel _ _) ?_
            exact Rel.refl _ _
          · split
            · refine Rel.step (by decide) (State.done_rel _ _) ?_
              unfold x3
              refine Rel.step (by decide) (State.progress1_rel _ _) ?_
              refine Rel.step (by decide) (State.enterRefill_rel _ _) ?_
              refine Rel.step (by decide) (State.updRecov_rel _ _ _) ?_
              exact Rel.refl _ _
            · split
              · refine Rel.step (by decide) (State.done_rel _ _) ?_
                unfold x3
                refine Rel.step (by decide) (State.progress1_rel _ _) ?_
                refine Rel.step (by decide) (State.enterRefill_rel _ _) ?_
                refine Rel.step (by decide) (State.updRecov_rel _ _ _) ?_
                refine Rel.step (by decide) (State.event_rel _ _ _ _ _) ?_
                exact Rel.refl _ _
              · extract_lets +onlyGivenNames x4; (refine Rel.via (t := x4) ?_ (fun _ => ?_); (on_goal 2 => try clear_value x4); (on_goal 1 => unfold x4); (on_goal 1 => clear x4))
                · refine Rel.step (by decide) (State.recoveryRecord_rel _ _ _ _) ?_
                  exact Rel.refl _ _
                · refine Rel.pair ?_
                  assumption
      · exact Rel.refl _ _
    · exact Rel.refl _ _
  · exact Rel.refl _ _

theorem execJobDecideResume_next (rq : Req) (s : State) : Next [.out, .ctxs, .mailboxes, .handles, .log, .logNext, .logOverflow] s (execJobDecideResume rq s) := by
  unfold execJobDecideResume
  refine Next.intro ?_
  refine State.actionCmd_rel (by decide) (fun _ => ?_) ?_
  · refine State.decide'_rel (by decide) (fun _ _ => ?_) ?_
    · extract_lets +onlyGivenNames x1; try clear_value x1
      refine Rel.step (by decide) (State.finish_rel _ _ _) ?_
      refine Rel.step (by decide) (State.updRecov_rel _ _ _) ?_
      refine Rel.step (by decide) (State.recoveryRecord_rel _ _ _ _) ?_
      exact Rel.refl _ _
    · exact Rel.refl _ _
  · exact Rel.refl _ _

theorem execJobDecideStop_next (rq : Req) (s : State) : Next [.out, .fresh, .mem, .cores, .ctxs, .migs, .asks, .stalled, .rowCopies, .freed, .tcache, .flows, .ctrl, .ctrlNext, .fcache, .macs, .ecnDraws, .mailboxes, .handles, .log, .logNext, .logOverflow, .counters, .nand] s (execJobDecideStop rq s) := by
  unfold execJobDecideStop
  refine Next.intro ?_
  refine State.actionCmd_rel (by decide) (fun _ => ?_) ?_
  · refine State.decide'_rel (by decide) (fun _ _ => ?_) ?_
    · refine Rel.step (by decide) (State.stopJob_rel _ _) ?_
      exact Rel.refl _ _
    · exact Rel.refl _ _
  · exact Rel.refl _ _

theorem execJobFeed_next (rq : Req) (s : State) : Next [.out, .ctxs, .mailboxes, .log, .logNext, .logOverflow] s (execJobFeed rq s) := by
  unfold execJobFeed
  refine Next.intro ?_
  refine State.mailCmd_rel (by decide) (fun _ => ?_) ?_
  · refine State.onCtx_rel (by decide) (fun _ => ?_) ?_
    · extract_lets +onlyGivenNames x1; try clear_value x1
      extract_lets +onlyGivenNames x2; try clear_value x2
      refine State.bodyOf_rel (by decide) ?_ ?_
      · split
        · refine Rel.step (by decide) (State.fail_rel _ _) ?_
          exact Rel.refl _ _
        · refine Rel.step (by decide) (State.done_rel _ _) ?_
          refine Rel.step (by decide) (State.updCtx_rel _ _ _) ?_
          exact Rel.refl _ _
      · exact Rel.refl _ _
    · exact Rel.refl _ _
  · exact Rel.refl _ _

theorem execJobLoad_next (rq : Req) (s : State) : Next [.out, .ctxs, .mailboxes, .handles, .log, .logNext, .logOverflow, .pcie] s (execJobLoad rq s) := by
  unfold execJobLoad
  refine Next.intro ?_
  refine State.mailCmd_rel (by decide) (fun _ => ?_) ?_
  · refine State.onCtx_rel (by decide) (fun _ => ?_) ?_
    · refine State.bodyOf_rel (by decide) ?_ ?_
      · extract_lets +onlyGivenNames x1; try clear_value x1
        split
        · refine Rel.step (by decide) (State.fail_rel _ _) ?_
          exact Rel.refl _ _
        · refine State.withHandle_rel (by decide) (fun _ _ => ?_) ?_
          · refine Rel.step (by decide) (State.given_rel _ _) ?_
            refine Rel.step (by decide) (State.updJob_rel _ _ _) ?_
            exact Rel.refl _ _
          · exact Rel.refl _ _
      · exact Rel.refl _ _
    · exact Rel.refl _ _
  · exact Rel.refl _ _

theorem execJobRecover_next (rq : Req) (s : State) : Next [.out, .ctxs, .mailboxes, .handles, .log, .logNext, .logOverflow, .pcie] s (execJobRecover rq s) := by
  unfold execJobRecover
  refine Next.intro ?_
  refine State.mailCmd_rel (by decide) (fun _ => ?_) ?_
  · refine State.onCtx_rel (by decide) (fun _ => ?_) ?_
    · refine State.bodyOf_rel (by decide) ?_ ?_
      · refine State.asCoord_rel (by decide) ?_ ?_
        · extract_lets +onlyGivenNames x1; try clear_value x1
          split
          · refine Rel.step (by decide) (State.fail_rel _ _) ?_
            exact Rel.refl _ _
          · refine State.withHandle_rel (by decide) (fun _ _ => ?_) ?_
            · split
              · split
                · refine Rel.step (by decide) (State.given_rel _ _) ?_
                  refine Rel.step (by decide) (State.updRecov_rel _ _ _) ?_
                  refine Rel.step (by decide) (State.beginRecovery_rel _ _ _ _ _) ?_
                  exact Rel.refl _ _
                · refine Rel.step (by decide) (State.given_rel _ _) ?_
                  refine Rel.step (by decide) (State.finish_rel _ _ _) ?_
                  exact Rel.refl _ _
              · refine Rel.step (by decide) (State.given_rel _ _) ?_
                refine Rel.step (by decide) (State.updRecov_rel _ _ _) ?_
                refine Rel.step (by decide) (State.beginRecovery_rel _ _ _ _ _) ?_
                exact Rel.refl _ _
            · exact Rel.refl _ _
        · exact Rel.refl _ _
      · exact Rel.refl _ _
    · exact Rel.refl _ _
  · exact Rel.refl _ _

theorem execJobReport_next (rq : Req) (s : State) : Next [.out, .ctxs, .mailboxes, .log, .logNext, .logOverflow] s (execJobReport rq s) := by
  unfold execJobReport
  refine Next.intro ?_
  refine State.mailCmd_rel (by decide) (fun _ => ?_) ?_
  · refine State.onCtx_rel (by decide) (fun _ => ?_) ?_
    · refine State.bodyOf_rel (by decide) ?_ ?_
      · extract_lets +onlyGivenNames x1; try clear_value x1
        split
        · refine Rel.step (by decide) (State.fail_rel _ _) ?_
          exact Rel.refl _ _
        · split
          · refine Rel.step (by decide) (State.fail_rel _ _) ?_
            exact Rel.refl _ _
          · extract_lets +onlyGivenNames x2; try clear_value x2
            refine Rel.step (by decide) (State.done_rel _ _) ?_
            split
            · exact Rel.refl _ _
            · refine Rel.step (by decide) (State.dma_rel _ _ _ _) ?_
              exact Rel.refl _ _
      · exact Rel.refl _ _
    · exact Rel.refl _ _
  · exact Rel.refl _ _

theorem execJobStart_next (rq : Req) (setList : Dma) (s : State) : Next [.out, .fresh, .ctxs, .flows, .ctrl, .ctrlNext, .probes, .macs, .ecnDraws, .mailboxes, .handles, .log, .logNext, .logOverflow, .counters, .pcie] s (execJobStart rq setList s) := by
  unfold execJobStart
  refine Next.intro ?_
  refine State.mailCmd_rel (by decide) (fun _ => ?_) ?_
  · refine State.onCtx_rel (by decide) (fun _ => ?_) ?_
    · extract_lets +onlyGivenNames x1; try clear_value x1
      refine State.bodyOf_rel (by decide) ?_ ?_
      · extract_lets +onlyGivenNames x2; try clear_value x2
        split
        · refine Rel.step (by decide) (State.fail_rel _ _) ?_
          exact Rel.refl _ _
        · refine Rel.step (by decide) (State.fail_rel _ _) ?_
          exact Rel.refl _ _
        · extract_lets +onlyGivenNames x3; try clear_value x3
          extract_lets +onlyGivenNames x4; try clear_value x4
          extract_lets +onlyGivenNames x5; try clear_value x5
          extract_lets +onlyGivenNames x6; try clear_value x6
          extract_lets +onlyGivenNames x7; try clear_value x7
          split
          · refine Rel.step (by decide) (State.fail_rel _ _) ?_
            exact Rel.refl _ _
          · split
            · refine Rel.step (by decide) (State.fail_rel _ _) ?_
              exact Rel.refl _ _
            · split
              · refine Rel.step (by decide) (State.fail_rel _ _) ?_
                exact Rel.refl _ _
              · refine State.withHandle_rel (by decide) (fun _ _ => ?_) ?_
                · extract_lets +onlyGivenNames x8; try clear_value x8
                  extract_lets +onlyGivenNames x9; try clear_value x9
                  extract_lets +onlyGivenNames x10; (refine Rel.via (t := x10) ?_ (fun _ => ?_); (on_goal 2 => try clear_value x10); (on_goal 1 => unfold x10); (on_goal 1 => clear x10))
                  · refine Rel.step (by decide) (State.updJob_rel _ _ _) ?_
                    exact Rel.refl _ _
                  · extract_lets +onlyGivenNames x11; (refine Rel.via (t := x11) ?_ (fun _ => ?_); (on_goal 2 => try clear_value x11); (on_goal 1 => unfold x11); (on_goal 1 => clear x11))
                    · refine Rel.foldl (fun _ _ => ?_) ?_
                      · refine Rel.step (by decide) (State.sendProbes_rel _ _ _) ?_
                        exact Rel.refl _ _
                      · assumption
                    · refine Rel.step (by decide) (State.given_rel _ _) ?_
                      split
                      · assumption
                      · refine Rel.step (by decide) (State.sendOpen_rel _ _ _) ?_
                        assumption
                · exact Rel.refl _ _
      · exact Rel.refl _ _
    · exact Rel.refl _ _
  · exact Rel.refl _ _

theorem execJobStatus_next (rq : Req) (s : State) : Next [.out, .ctxs, .mailboxes, .log, .logNext, .logOverflow] s (execJobStatus rq s) := by
  unfold execJobStatus
  refine Next.intro ?_
  refine State.mailCmd_rel (by decide) (fun _ => ?_) ?_
  · refine State.onCtx_rel (by decide) (fun _ => ?_) ?_
    · refine State.bodyOf_rel (by decide) ?_ ?_
      · extract_lets +onlyGivenNames x1; try clear_value x1
        refine Rel.step (by decide) (State.done_rel _ _) ?_
        exact Rel.refl _ _
      · exact Rel.refl _ _
    · exact Rel.refl _ _
  · exact Rel.refl _ _

theorem execJobStop_next (rq : Req) (s : State) : Next [.out, .fresh, .mem, .cores, .ctxs, .migs, .asks, .stalled, .rowCopies, .freed, .tcache, .flows, .ctrl, .ctrlNext, .fcache, .macs, .ecnDraws, .mailboxes, .handles, .log, .logNext, .logOverflow, .counters, .nand, .pcie] s (execJobStop rq s) := by
  unfold execJobStop
  refine Next.intro ?_
  refine State.mailCmd_rel (by decide) (fun _ => ?_) ?_
  · refine State.onCtx_rel (by decide) (fun _ => ?_) ?_
    · refine State.bodyOf_rel (by decide) ?_ ?_
      · extract_lets +onlyGivenNames x1; try clear_value x1
        split
        · refine Rel.step (by decide) (State.fail_rel _ _) ?_
          exact Rel.refl _ _
        · refine State.withHandle_rel (by decide) (fun _ _ => ?_) ?_
          · refine Rel.step (by decide) (State.given_rel _ _) ?_
            refine Rel.step (by decide) (State.finish_rel _ _ _) ?_
            refine Rel.step (by decide) (State.progress_rel _ _ _ _ _) ?_
            refine Rel.step (by decide) (State.stopJob_rel _ _) ?_
            exact Rel.refl _ _
          · exact Rel.refl _ _
      · exact Rel.refl _ _
    · exact Rel.refl _ _
  · exact Rel.refl _ _

theorem execJobValidate_next (rq : Req) (s : State) : Next [.out, .ctxs, .mailboxes, .handles, .log, .logNext, .logOverflow, .pcie] s (execJobValidate rq s) := by
  unfold execJobValidate
  refine Next.intro ?_
  refine State.mailCmd_rel (by decide) (fun _ => ?_) ?_
  · refine State.onCtx_rel (by decide) (fun _ => ?_) ?_
    · refine State.bodyOf_rel (by decide) ?_ ?_
      · refine State.asCoord_rel (by decide) ?_ ?_
        · extract_lets +onlyGivenNames x1; try clear_value x1
          split
          · refine Rel.step (by decide) (State.fail_rel _ _) ?_
            exact Rel.refl _ _
          · refine State.withHandle_rel (by decide) (fun _ _ => ?_) ?_
            · split
              · refine Rel.step (by decide) (State.given_rel _ _) ?_
                refine Rel.step (by decide) (State.finish_rel _ _ _) ?_
                exact Rel.refl _ _
              · refine Rel.step (by decide) (State.given_rel _ _) ?_
                refine Rel.step (by decide) (State.updJob_rel _ _ _) ?_
                exact Rel.refl _ _
            · exact Rel.refl _ _
        · exact Rel.refl _ _
      · exact Rel.refl _ _
    · exact Rel.refl _ _
  · exact Rel.refl _ _

theorem execReadRecord_next (rq : Req) (s : State) : Next [.out, .ctxs, .mailboxes, .log, .logNext, .logOverflow] s (execReadRecord rq s) := by
  unfold execReadRecord
  refine Next.intro ?_
  refine State.mailCmd_rel (by decide) (fun _ => ?_) ?_
  · refine State.onCtx_rel (by decide) (fun _ => ?_) ?_
    · refine State.bodyOf_rel (by decide) ?_ ?_
      · extract_lets +onlyGivenNames x1; try clear_value x1
        extract_lets +onlyGivenNames x2; try clear_value x2
        split
        · refine Rel.step (by decide) (State.done_rel _ _) ?_
          exact Rel.refl _ _
        · refine Rel.step (by decide) (State.fail_rel _ _) ?_
          exact Rel.refl _ _
      · exact Rel.refl _ _
    · exact Rel.refl _ _
  · exact Rel.refl _ _

theorem execSecureNow_next (rq : Req) (s : State) : Next [.out, .ctxs, .mailboxes, .log, .logNext, .logOverflow] s (execSecureNow rq s) := by
  unfold execSecureNow
  refine Next.intro ?_
  refine State.mailCmd_rel (by decide) (fun _ => ?_) ?_
  · refine State.onCtx_rel (by decide) (fun _ => ?_) ?_
    · refine State.bodyOf_rel (by decide) ?_ ?_
      · refine State.asCoord_rel (by decide) ?_ ?_
        · split
          · refine Rel.step (by decide) (State.fail_rel _ _) ?_
            exact Rel.refl _ _
          · refine Rel.step (by decide) (State.done_rel _ _) ?_
            refine Rel.step (by decide) (State.updSec_rel _ _ _) ?_
            exact Rel.refl _ _
        · exact Rel.refl _ _
      · exact Rel.refl _ _
    · exact Rel.refl _ _
  · exact Rel.refl _ _

theorem execSetEpoch_next (rq : Req) (s : State) : Next [.out, .ctxs, .mailboxes, .log, .logNext, .logOverflow] s (execSetEpoch rq s) := by
  unfold execSetEpoch
  refine Next.intro ?_
  refine State.mailCmd_rel (by decide) (fun _ => ?_) ?_
  · refine State.onCtx_rel (by decide) (fun _ => ?_) ?_
    · refine State.bodyOf_rel (by decide) ?_ ?_
      · extract_lets +onlyGivenNames x1; try clear_value x1
        extract_lets +onlyGivenNames x2; try clear_value x2
        split
        · refine Rel.step (by decide) (State.fail_rel _ _) ?_
          exact Rel.refl _ _
        · refine Rel.step (by decide) (State.done_rel _ _) ?_
          refine Rel.step (by decide) (State.updJob_rel _ _ _) ?_
          exact Rel.refl _ _
      · exact Rel.refl _ _
    · exact Rel.refl _ _
  · exact Rel.refl _ _

theorem execSnapshotsErase_next (rq : Req) (s : State) : Next [.out, .ctxs, .mailboxes, .handles, .log, .logNext, .logOverflow, .nand, .pcie] s (execSnapshotsErase rq s) := by
  unfold execSnapshotsErase
  refine Next.intro ?_
  refine State.mailCmd_rel (by decide) (fun _ => ?_) ?_
  · refine State.adm_rel (by decide) ?_ ?_
    · refine State.bodyOf_rel (by decide) ?_ ?_
      · extract_lets +onlyGivenNames x1; try clear_value x1
        extract_lets +onlyGivenNames x2; try clear_value x2
        split
        · refine Rel.step (by decide) (State.fail_rel _ _) ?_
          exact Rel.refl _ _
        · refine State.withHandle_rel (by decide) (fun _ _ => ?_) ?_
          · refine Rel.step (by decide) (State.given_rel _ _) ?_
            refine Rel.step (by decide) (State.finish_rel _ _ _) ?_
            refine Rel.step (by decide) (State.progress_rel _ _ _ _ _) ?_
            refine Rel.step (by decide) Rel.set_nand ?_
            exact Rel.refl _ _
          · exact Rel.refl _ _
      · exact Rel.refl _ _
    · exact Rel.refl _ _
  · exact Rel.refl _ _

theorem execSnapshotsList_next (rq : Req) (s : State) : Next [.out, .ctxs, .mailboxes, .log, .logNext, .logOverflow] s (execSnapshotsList rq s) := by
  unfold execSnapshotsList
  refine Next.intro ?_
  refine State.mailCmd_rel (by decide) (fun _ => ?_) ?_
  · refine State.onCtx_rel (by decide) (fun _ => ?_) ?_
    · refine State.bodyOf_rel (by decide) ?_ ?_
      · refine Rel.step (by decide) (State.done_rel _ _) ?_
        exact Rel.refl _ _
      · exact Rel.refl _ _
    · exact Rel.refl _ _
  · exact Rel.refl _ _

theorem execWeightLoad_next (rq : Req) (shardList : Dma) (s : State) : Next [.out, .mem, .cores, .ctxs, .freed, .tcache, .mailboxes, .handles, .log, .logNext, .logOverflow, .pcie] s (execWeightLoad rq shardList s) := by
  unfold execWeightLoad
  refine Next.intro ?_
  refine State.mailCmd_rel (by decide) (fun _ => ?_) ?_
  · refine State.onCtx_rel (by decide) (fun _ => ?_) ?_
    · refine State.bodyOf_rel (by decide) ?_ ?_
      · extract_lets +onlyGivenNames x1; try clear_value x1
        split
        · refine Rel.step (by decide) (State.fail_rel _ _) ?_
          exact Rel.refl _ _
        · refine State.withHandle_rel (by decide) (fun _ _ => ?_) ?_
          · split
            · refine Rel.step (by decide) (State.given_rel _ _) ?_
              refine Rel.step (by decide) (State.finish_rel _ _ _) ?_
              exact Rel.refl _ _
            · extract_lets +onlyGivenNames x2; (refine Rel.via (t := x2.1) ?_ (fun _ => ?_); (on_goal 1 => unfold x2); (on_goal 1 => try clear x2))
              · refine Rel.step (by decide) (State.takeList_rel _ _ _ _ _) ?_
                exact Rel.refl _ _
              · split
                · refine Rel.step (by decide) (State.given_rel _ _) ?_
                  assumption
                · refine Rel.step (by decide) (State.given_rel _ _) ?_
                  refine Rel.step (by decide) (State.finish_rel _ _ _) ?_
                  refine Rel.step (by decide) (State.updWeights_rel _ _ _) ?_
                  exact Rel.refl _ _
          · exact Rel.refl _ _
      · exact Rel.refl _ _
    · exact Rel.refl _ _
  · exact Rel.refl _ _

theorem execWeightQuery_next (rq : Req) (s : State) : Next [.out, .ctxs, .mailboxes, .log, .logNext, .logOverflow] s (execWeightQuery rq s) := by
  unfold execWeightQuery
  refine Next.intro ?_
  refine State.mailCmd_rel (by decide) (fun _ => ?_) ?_
  · refine State.onCtx_rel (by decide) (fun _ => ?_) ?_
    · refine State.bodyOf_rel (by decide) ?_ ?_
      · extract_lets +onlyGivenNames x1; try clear_value x1
        extract_lets +onlyGivenNames x2; try clear_value x2
        extract_lets +onlyGivenNames x3; try clear_value x3
        refine Rel.step (by decide) (State.done_rel _ _) ?_
        exact Rel.refl _ _
      · exact Rel.refl _ _
    · exact Rel.refl _ _
  · exact Rel.refl _ _

theorem execWeightSwitch_next (rq : Req) (s : State) : Next [.out, .ctxs, .mailboxes, .handles, .log, .logNext, .logOverflow, .pcie] s (execWeightSwitch rq s) := by
  unfold execWeightSwitch
  refine Next.intro ?_
  refine State.mailCmd_rel (by decide) (fun _ => ?_) ?_
  · refine State.onCtx_rel (by decide) (fun _ => ?_) ?_
    · refine State.bodyOf_rel (by decide) ?_ ?_
      · extract_lets +onlyGivenNames x1; try clear_value x1
        split
        · refine Rel.step (by decide) (State.fail_rel _ _) ?_
          exact Rel.refl _ _
        · split
          · refine Rel.step (by decide) (State.fail_rel _ _) ?_
            exact Rel.refl _ _
          · extract_lets +onlyGivenNames x2; try clear_value x2
            refine State.withHandle_rel (by decide) (fun _ _ => ?_) ?_
            · refine Rel.step (by decide) (State.given_rel _ _) ?_
              refine Rel.step (by decide) (State.reportReady_rel _ _) ?_
              refine Rel.step (by decide) (State.updWeights_rel _ _ _) ?_
              exact Rel.refl _ _
            · exact Rel.refl _ _
      · exact Rel.refl _ _
    · exact Rel.refl _ _
  · exact Rel.refl _ _

theorem execWeightVerifyPeriod_next (rq : Req) (s : State) : Next [.out, .ctxs, .mailboxes, .log, .logNext, .logOverflow] s (execWeightVerifyPeriod rq s) := by
  unfold execWeightVerifyPeriod
  refine Next.intro ?_
  refine State.mailCmd_rel (by decide) (fun _ => ?_) ?_
  · refine State.onCtx_rel (by decide) (fun _ => ?_) ?_
    · refine State.bodyOf_rel (by decide) ?_ ?_
      · refine Rel.step (by decide) (State.done_rel _ _) ?_
        refine Rel.step (by decide) (State.updWeights_rel _ _ _) ?_
        exact Rel.refl _ _
      · exact Rel.refl _ _
    · exact Rel.refl _ _
  · exact Rel.refl _ _

end Sys2Proof.Machine
end

