-- ==== Sys2Proof/Laws/TierCmds.lean ====
section
/-! SUPPORT. What the operations and the meanings of Machine/TierCmds.lean can change: for each operation the fields of the state it may change, and
for each meaning that it answers a next state and the fields that it may change; all of them keep the invariant. -/

namespace Sys2Proof.Machine

theorem execGrantT3_next (rq : Req) (s : State) : Next [.out, .ctxs, .mailboxes, .log, .logNext, .logOverflow] s (execGrantT3 rq s) := by
  unfold execGrantT3
  refine Next.intro ?_
  refine State.mailCmd_rel (by decide) (fun _ => ?_) ?_
  · refine State.adm_rel (by decide) ?_ ?_
    · refine State.onCtx_rel (by decide) (fun _ => ?_) ?_
      · refine State.bodyOf_rel (by decide) ?_ ?_
        · extract_lets +onlyGivenNames x1; try clear_value x1
          split
          · refine Rel.step (by decide) (State.fail_rel _ _) ?_
            exact Rel.refl _ _
          · split
            · refine Rel.step (by decide) (State.fail_rel _ _) ?_
              exact Rel.refl _ _
            · extract_lets +onlyGivenNames x2; try clear_value x2
              extract_lets +onlyGivenNames x3; try clear_value x3
              refine Rel.step (by decide) (State.done_rel _ _) ?_
              refine Rel.step (by decide) (State.setCtx_rel _ _ _) ?_
              exact Rel.refl _ _
        · exact Rel.refl _ _
      · exact Rel.refl _ _
    · exact Rel.refl _ _
  · exact Rel.refl _ _

theorem execLendOffer_next (rq : Req) (s : State) : Next [.out, .ctxs, .lend, .mailboxes, .handles, .log, .logNext, .logOverflow, .pcie] s (execLendOffer rq s) := by
  unfold execLendOffer
  refine Next.intro ?_
  refine State.mailCmd_rel (by decide) (fun _ => ?_) ?_
  · refine State.adm_rel (by decide) ?_ ?_
    · extract_lets +onlyGivenNames x1; try clear_value x1
      extract_lets +onlyGivenNames x2; try clear_value x2
      extract_lets +onlyGivenNames x3; try clear_value x3
      refine State.bodyOf_rel (by decide) ?_ ?_
      · extract_lets +onlyGivenNames x4; try clear_value x4
        split
        · refine Rel.step (by decide) (State.fail_rel _ _) ?_
          exact Rel.refl _ _
        · split
          · refine Rel.step (by decide) (State.fail_rel _ _) ?_
            exact Rel.refl _ _
          · refine State.withHandle_rel (by decide) (fun _ _ => ?_) ?_
            · extract_lets +onlyGivenNames x5; try clear_value x5
              refine Rel.pair ?_
              refine Rel.step (by decide) Rel.set_lend ?_
              exact Rel.refl _ _
            · exact Rel.refl _ _
      · exact Rel.refl _ _
    · exact Rel.refl _ _
  · exact Rel.refl _ _

theorem execLendReclaim_next (rq : Req) (s : State) : Next [.out, .ctxs, .lend, .ctrl, .ctrlNext, .macs, .ecnDraws, .mailboxes, .handles, .log, .logNext, .logOverflow, .counters, .pcie] s (execLendReclaim rq s) := by
  unfold execLendReclaim
  refine Next.intro ?_
  refine State.mailCmd_rel (by decide) (fun _ => ?_) ?_
  · refine State.adm_rel (by decide) ?_ ?_
    · refine State.bodyOf_rel (by decide) ?_ ?_
      · extract_lets +onlyGivenNames x1; try clear_value x1
        split
        · refine Rel.step (by decide) (State.fail_rel _ _) ?_
          exact Rel.refl _ _
        · split
          · refine Rel.step (by decide) (State.fail_rel _ _) ?_
            exact Rel.refl _ _
          · refine State.withHandle_rel (by decide) (fun _ _ => ?_) ?_
            · refine Rel.step (by decide) (State.given_rel _ _) ?_
              refine Rel.step (by decide) (State.reclaimWindow_rel _ _ _) ?_
              exact Rel.refl _ _
            · exact Rel.refl _ _
      · exact Rel.refl _ _
    · exact Rel.refl _ _
  · exact Rel.refl _ _

theorem execTierCapacity_next (rq : Req) (s : State) : Next [.out, .ctxs, .mailboxes, .log, .logNext, .logOverflow] s (execTierCapacity rq s) := by
  unfold execTierCapacity
  refine Next.intro ?_
  refine State.mailCmd_rel (by decide) (fun _ => ?_) ?_
  · refine State.anyMb_rel (by decide) ?_ ?_
    · refine State.bodyOf_rel (by decide) ?_ ?_
      · extract_lets +onlyGivenNames x1; try clear_value x1
        refine Rel.step (by decide) (State.done_rel _ _) ?_
        exact Rel.refl _ _
      · exact Rel.refl _ _
    · exact Rel.refl _ _
  · exact Rel.refl _ _

theorem execTierMigrate_next (rq : Req) (s : State) : Next [.out, .ctxs, .migs, .asks, .mailboxes, .handles, .log, .logNext, .logOverflow, .pcie] s (execTierMigrate rq s) := by
  unfold execTierMigrate
  refine Next.intro ?_
  refine State.mailCmd_rel (by decide) (fun _ => ?_) ?_
  · refine State.onCtx_rel (by decide) (fun _ => ?_) ?_
    · extract_lets +onlyGivenNames x1; try clear_value x1
      extract_lets +onlyGivenNames x2; try clear_value x2
      refine State.bodyOf_rel (by decide) ?_ ?_
      · extract_lets +onlyGivenNames x3; try clear_value x3
        split
        · refine Rel.step (by decide) (State.fail_rel _ _) ?_
          exact Rel.refl _ _
        · refine State.withHandle_rel (by decide) (fun _ _ => ?_) ?_
          · split
            · refine Rel.step (by decide) (State.given_rel _ _) ?_
              refine Rel.step (by decide) (State.finish_rel _ _ _) ?_
              exact Rel.refl _ _
            · extract_lets +onlyGivenNames x4; try clear_value x4
              extract_lets +onlyGivenNames x5; (refine Rel.via (t := x5) ?_ (fun _ => ?_); (on_goal 2 => try clear_value x5); (on_goal 1 => unfold x5); (on_goal 1 => clear x5))
              · refine Rel.foldl (fun _ _ => ?_) ?_
                · split
                  · refine Rel.step (by decide) Rel.set_asks ?_
                    exact Rel.refl _ _
                  · refine Rel.step (by decide) (State.askOrWait_rel _ _) ?_
                    exact Rel.refl _ _
                · exact Rel.refl _ _
              · refine Rel.step (by decide) (State.given_rel _ _) ?_
                refine Rel.step (by decide) (State.placeAsks_rel _ _) ?_
                assumption
          · exact Rel.refl _ _
      · exact Rel.refl _ _
    · exact Rel.refl _ _
  · exact Rel.refl _ _

theorem execTierReadEntries_next (rq : Req) (s : State) : Next [.out, .ctxs, .mailboxes, .log, .logNext, .logOverflow] s (execTierReadEntries rq s) := by
  unfold execTierReadEntries
  refine Next.intro ?_
  refine State.mailCmd_rel (by decide) (fun _ => ?_) ?_
  · refine State.onCtx_rel (by decide) (fun _ => ?_) ?_
    · refine State.bodyOf_rel (by decide) ?_ ?_
      · refine Rel.step (by decide) (State.done_rel _ _) ?_
        exact Rel.refl _ _
      · exact Rel.refl _ _
    · exact Rel.refl _ _
  · exact Rel.refl _ _

theorem execTierWeightRegions_next (rq : Req) (s : State) : Next [.out, .mem, .cores, .ctxs, .migs, .asks, .stalled, .freed, .tcache, .mailboxes, .log, .logNext, .logOverflow] s (execTierWeightRegions rq s) := by
  unfold execTierWeightRegions
  refine Next.intro ?_
  refine State.mailCmd_rel (by decide) (fun _ => ?_) ?_
  · refine State.adm_rel (by decide) ?_ ?_
    · refine State.onCtx_rel (by decide) (fun _ => ?_) ?_
      · refine State.bodyOf_rel (by decide) ?_ ?_
        · extract_lets +onlyGivenNames x1; try clear_value x1
          split
          · refine Rel.step (by decide) (State.fail_rel _ _) ?_
            exact Rel.refl _ _
          · extract_lets +onlyGivenNames x2; try clear_value x2
            extract_lets +onlyGivenNames x3; try clear_value x3
            extract_lets +onlyGivenNames x4; (refine Rel.via (t := x4) ?_ (fun _ => ?_); (on_goal 2 => try clear_value x4); (on_goal 1 => unfold x4); (on_goal 1 => clear x4))
            · refine Rel.step (by decide) (State.dropTiles_rel _ _ _) ?_
              exact Rel.refl _ _
            · refine Rel.step (by decide) (State.done_rel _ _) ?_
              refine Rel.step (by decide) (State.updWeights_rel _ _ _) ?_
              assumption
        · exact Rel.refl _ _
      · exact Rel.refl _ _
    · exact Rel.refl _ _
  · exact Rel.refl _ _

end Sys2Proof.Machine
end

