-- ==== Sys2Proof/Laws/PortCmds.lean ====
section
/-! SUPPORT. What the operations and the meanings of Machine/PortCmds.lean can change: for each operation the fields of the state it may change, and
for each meaning that it answers a next state and the fields that it may change; all of them keep the invariant. -/

namespace Sys2Proof.Machine

theorem State.applyPorts_rel (s : State) (p : Nat) : Rel [.ports] s (State.applyPorts s p) := by
  unfold State.applyPorts
  split
  · extract_lets +onlyGivenNames x1; try clear_value x1
    refine Rel.step (by decide) (State.updPort_rel _ _ _) ?_
    exact Rel.refl _ _
  · exact Rel.refl _ _

theorem State.dropPort_rel (s : State) (p : Nat) : Rel [.out, .ctxs, .flows, .macs, .ports, .fwd, .ecnDraws, .mailboxes, .log, .logNext, .logOverflow, .counters] s (State.dropPort s p) := by
  unfold State.dropPort
  refine Rel.foldl (fun _ _ => ?_) ?_
  · split
    · refine Rel.step (by decide) (State.macDown_rel _ _ _) ?_
      exact Rel.refl _ _
    · exact Rel.refl _ _
  · exact Rel.refl _ _

theorem State.loadTable_rel (s : State) (k : Nat) (h : Handle) (bytes : List Byte) : Rel [.out, .ctxs, .fwd, .peersIp, .mailboxes, .handles, .log, .logNext, .logOverflow] s (State.loadTable s k h bytes) := by
  unfold State.loadTable
  extract_lets +onlyGivenNames x1; try clear_value x1
  extract_lets +onlyGivenNames x2; try clear_value x2
  split
  · refine Rel.step (by decide) (State.finish_rel _ _ _) ?_
    exact Rel.refl _ _
  · extract_lets +onlyGivenNames x3; (refine Rel.via (t := x3) ?_ (fun _ => ?_); (on_goal 2 => try clear_value x3); (on_goal 1 => unfold x3); (on_goal 1 => clear x3))
    · split
      · refine Rel.step (by decide) Rel.set_peersIp ?_
        exact Rel.refl _ _
      · refine Rel.step (by decide) Rel.set_fwd ?_
        exact Rel.refl _ _
    · refine Rel.step (by decide) (State.finish_rel _ _ _) ?_
      refine Rel.step (by decide) (State.progress_rel _ _ _ _ _) ?_
      assumption

theorem State.tableLoad_rel (s : State) (rq : Req) (kind : Nat) (size : Nat) : Rel [.mailboxes, .handles, .pcie] s (State.tableLoad s rq kind size).1 := by
  unfold State.tableLoad
  refine State.adm_rel (by decide) ?_ ?_
  · refine State.bodyOf_rel (by decide) ?_ ?_
    · refine State.withHandle_rel (by decide) (fun _ _ => ?_) ?_
      · refine Rel.step (by decide) (State.given_rel _ _) ?_
        exact Rel.refl _ _
      · exact Rel.refl _ _
    · exact Rel.refl _ _
  · exact Rel.refl _ _

theorem execAsymmetry_next (rq : Req) (s : State) : Next [.out, .clk, .ctxs, .mailboxes, .log, .logNext, .logOverflow] s (execAsymmetry rq s) := by
  unfold execAsymmetry
  refine Next.intro ?_
  refine State.mailCmd_rel (by decide) (fun _ => ?_) ?_
  · refine State.adm_rel (by decide) ?_ ?_
    · refine State.bodyOf_rel (by decide) ?_ ?_
      · refine Rel.step (by decide) (State.done_rel _ _) ?_
        refine Rel.step (by decide) Rel.set_clk ?_
        exact Rel.refl _ _
      · exact Rel.refl _ _
    · exact Rel.refl _ _
  · exact Rel.refl _ _

theorem execCcParams_next (rq : Req) (s : State) : Next [.out, .ctxs, .mailboxes, .log, .logNext, .logOverflow] s (execCcParams rq s) := by
  unfold execCcParams
  refine Next.intro ?_
  refine State.mailCmd_rel (by decide) (fun _ => ?_) ?_
  · refine State.onCtx_rel (by decide) (fun _ => ?_) ?_
    · extract_lets +onlyGivenNames x1; try clear_value x1
      refine State.bodyOf_rel (by decide) ?_ ?_
      · extract_lets +onlyGivenNames x2; try clear_value x2
        refine Rel.step (by decide) (State.done_rel _ _) ?_
        refine Rel.step (by decide) (State.updCtx_rel _ _ _) ?_
        exact Rel.refl _ _
      · exact Rel.refl _ _
    · exact Rel.refl _ _
  · exact Rel.refl _ _

theorem execFwdTable_next (rq : Req) (s : State) : Next [.out, .ctxs, .mailboxes, .handles, .log, .logNext, .logOverflow, .pcie] s (execFwdTable rq s) := by
  unfold execFwdTable
  refine Next.intro ?_
  refine State.mailCmd_rel (by decide) (fun _ => ?_) ?_
  · refine Rel.step (by decide) (State.tableLoad_rel _ _ _ _) ?_
    exact Rel.refl _ _
  · exact Rel.refl _ _

theorem execNeighbours_next (rq : Req) (s : State) : Next [.out, .ctxs, .mailboxes, .log, .logNext, .logOverflow] s (execNeighbours rq s) := by
  unfold execNeighbours
  refine Next.intro ?_
  refine State.mailCmd_rel (by decide) (fun _ => ?_) ?_
  · refine State.anyMb_rel (by decide) ?_ ?_
    · refine State.bodyOf_rel (by decide) ?_ ?_
      · refine Rel.step (by decide) (State.done_rel _ _) ?_
        exact Rel.refl _ _
      · exact Rel.refl _ _
    · exact Rel.refl _ _
  · exact Rel.refl _ _

theorem execPeerTable_next (rq : Req) (s : State) : Next [.out, .ctxs, .mailboxes, .handles, .log, .logNext, .logOverflow, .pcie] s (execPeerTable rq s) := by
  unfold execPeerTable
  refine Next.intro ?_
  refine State.mailCmd_rel (by decide) (fun _ => ?_) ?_
  · refine Rel.step (by decide) (State.tableLoad_rel _ _ _ _) ?_
    exact Rel.refl _ _
  · exact Rel.refl _ _

theorem execPortSet_next (rq : Req) (s : State) : Next [.out, .ctxs, .macs, .ports, .ecnDraws, .mailboxes, .log, .logNext, .logOverflow, .counters] s (execPortSet rq s) := by
  unfold execPortSet
  refine Next.intro ?_
  refine State.mailCmd_rel (by decide) (fun _ => ?_) ?_
  · refine State.adm_rel (by decide) ?_ ?_
    · extract_lets +onlyGivenNames x1; try clear_value x1
      extract_lets +onlyGivenNames x2; try clear_value x2
      extract_lets +onlyGivenNames x3; try clear_value x3
      extract_lets +onlyGivenNames x4; try clear_value x4
      extract_lets +onlyGivenNames x5; try clear_value x5
      refine State.bodyOf_rel (by decide) ?_ ?_
      · split
        · refine Rel.step (by decide) (State.fail_rel _ _) ?_
          exact Rel.refl _ _
        · extract_lets +onlyGivenNames x6; (refine Rel.via (t := x6) ?_ (fun _ => ?_); (on_goal 2 => try clear_value x6); (on_goal 1 => unfold x6); (on_goal 1 => clear x6))
          · refine Rel.step (by decide) (State.updPort_rel _ _ _) ?_
            exact Rel.refl _ _
          · refine Rel.step (by decide) (State.done_rel _ _) ?_
            refine Rel.step (by decide) (State.resolveHop_rel _ _) ?_
            refine Rel.step (by decide) (State.applyPorts_rel _ _) ?_
            split
            · assumption
            · refine Rel.foldl (fun _ _ => ?_) ?_
              · refine Rel.step (by decide) (State.leaveLpi_rel _ _) ?_
                exact Rel.refl _ _
              · assumption
      · exact Rel.refl _ _
    · exact Rel.refl _ _
  · exact Rel.refl _ _

theorem execPortStatus_next (rq : Req) (s : State) : Next [.out, .ctxs, .mailboxes, .log, .logNext, .logOverflow] s (execPortStatus rq s) := by
  unfold execPortStatus
  refine Next.intro ?_
  refine State.mailCmd_rel (by decide) (fun _ => ?_) ?_
  · refine State.anyMb_rel (by decide) ?_ ?_
    · refine State.bodyOf_rel (by decide) ?_ ?_
      · refine Rel.step (by decide) (State.done_rel _ _) ?_
        exact Rel.refl _ _
      · exact Rel.refl _ _
    · exact Rel.refl _ _
  · exact Rel.refl _ _

theorem execPortUpdown_next (rq : Req) (s : State) : Next [.out, .ctxs, .flows, .macs, .ports, .fwd, .ecnDraws, .mailboxes, .log, .logNext, .logOverflow, .counters] s (execPortUpdown rq s) := by
  unfold execPortUpdown
  refine Next.intro ?_
  refine State.mailCmd_rel (by decide) (fun _ => ?_) ?_
  · refine State.adm_rel (by decide) ?_ ?_
    · refine State.bodyOf_rel (by decide) ?_ ?_
      · extract_lets +onlyGivenNames x1; try clear_value x1
        split
        · refine Rel.step (by decide) (State.done_rel _ _) ?_
          refine Rel.step (by decide) (State.updPort_rel _ _ _) ?_
          exact Rel.refl _ _
        · refine Rel.step (by decide) (State.done_rel _ _) ?_
          refine Rel.step (by decide) (State.applyPorts_rel _ _) ?_
          refine Rel.step (by decide) (State.updPort_rel _ _ _) ?_
          refine Rel.step (by decide) (State.dropPort_rel _ _) ?_
          exact Rel.refl _ _
      · exact Rel.refl _ _
    · exact Rel.refl _ _
  · exact Rel.refl _ _

theorem execPps_next (rq : Req) (s : State) : Next [.out, .clk, .ctxs, .mailboxes, .log, .logNext, .logOverflow] s (execPps rq s) := by
  unfold execPps
  refine Next.intro ?_
  refine State.mailCmd_rel (by decide) (fun _ => ?_) ?_
  · refine State.adm_rel (by decide) ?_ ?_
    · refine State.bodyOf_rel (by decide) ?_ ?_
      · extract_lets +onlyGivenNames x1; try clear_value x1
        extract_lets +onlyGivenNames x2; try clear_value x2
        refine Rel.step (by decide) (State.done_rel _ _) ?_
        refine Rel.step (by decide) Rel.set_clk ?_
        exact Rel.refl _ _
      · exact Rel.refl _ _
    · exact Rel.refl _ _
  · exact Rel.refl _ _

theorem execPtpConfig_next (rq : Req) (s : State) : Next [.out, .clk, .ctxs, .mailboxes, .log, .logNext, .logOverflow] s (execPtpConfig rq s) := by
  unfold execPtpConfig
  refine Next.intro ?_
  refine State.mailCmd_rel (by decide) (fun _ => ?_) ?_
  · refine State.adm_rel (by decide) ?_ ?_
    · extract_lets +onlyGivenNames x1; try clear_value x1
      extract_lets +onlyGivenNames x2; try clear_value x2
      refine State.bodyOf_rel (by decide) ?_ ?_
      · refine Rel.step (by decide) (State.done_rel _ _) ?_
        refine Rel.step (by decide) Rel.set_clk ?_
        exact Rel.refl _ _
      · exact Rel.refl _ _
    · exact Rel.refl _ _
  · exact Rel.refl _ _

theorem execRecalPeriod_next (rq : Req) (s : State) : Next [.out, .ctxs, .recalPeriodS, .mailboxes, .log, .logNext, .logOverflow] s (execRecalPeriod rq s) := by
  unfold execRecalPeriod
  refine Next.intro ?_
  refine State.mailCmd_rel (by decide) (fun _ => ?_) ?_
  · refine State.adm_rel (by decide) ?_ ?_
    · refine State.bodyOf_rel (by decide) ?_ ?_
      · refine Rel.step (by decide) (State.done_rel _ _) ?_
        refine Rel.step (by decide) Rel.set_recalPeriodS ?_
        exact Rel.refl _ _
      · exact Rel.refl _ _
    · exact Rel.refl _ _
  · exact Rel.refl _ _

theorem execTimeStatus_next (rq : Req) (s : State) : Next [.out, .fresh, .ctxs, .mailboxes, .log, .logNext, .logOverflow] s (execTimeStatus rq s) := by
  unfold execTimeStatus
  refine Next.intro ?_
  refine State.mailCmd_rel (by decide) (fun _ => ?_) ?_
  · refine State.anyMb_rel (by decide) ?_ ?_
    · refine State.bodyOf_rel (by decide) ?_ ?_
      · extract_lets +onlyGivenNames x1; try clear_value x1
        extract_lets +onlyGivenNames x2; try clear_value x2
        refine Rel.step (by decide) (State.done_rel _ _) ?_
        refine Rel.step (by decide) (State.draw_rel _) ?_
        exact Rel.refl _ _
      · exact Rel.refl _ _
    · exact Rel.refl _ _
  · exact Rel.refl _ _

end Sys2Proof.Machine
end

