-- ==== Sys2Proof/Laws/Observe.lean ====
section
/-! SUPPORT. What the operations and the meanings of Machine/Observe.lean can change: for each operation the fields of the state it may change, and
for each meaning that it answers a next state and the fields that it may change; all of them keep the invariant. -/

namespace Sys2Proof.Machine

theorem State.cancelled_rel (s : State) (k : Nat) (h : Handle) : ∀ tt, (State.cancelled s k h) = some tt → Rel [.out, .ctxs, .asks, .lend, .mailboxes, .handles, .log, .logNext, .logOverflow] s tt := by
  unfold State.cancelled
  extract_lets +onlyGivenNames x1
  split
  · refine Rel.of_some ?_
    refine Rel.step (by decide) (State.dropCreate_rel _ _) ?_
    exact Rel.refl _ _
  · refine Rel.of_some ?_
    refine Rel.step (by decide) (State.finish_rel _ _ _) ?_
    refine Rel.step (by decide) (State.updJob_rel _ _ _) ?_
    exact Rel.refl _ _
  · refine Rel.of_some ?_
    refine Rel.step (by decide) (State.finish_rel _ _ _) ?_
    refine Rel.step (by decide) (State.updWeights_rel _ _ _) ?_
    exact Rel.refl _ _
  · split
    · exact Rel.of_none
    · refine Rel.of_some ?_
      refine Rel.step (by decide) (State.finish_rel _ _ _) ?_
      refine Rel.step (by decide) (State.updWeights_rel _ _ _) ?_
      exact Rel.refl _ _
  · refine Rel.of_some ?_
    refine Rel.step (by decide) (State.finish_rel _ _ _) ?_
    refine Rel.step (by decide) Rel.set_asks ?_
    exact Rel.refl _ _
  · refine Rel.of_some ?_
    refine Rel.step (by decide) (State.finish_rel _ _ _) ?_
    refine Rel.step (by decide) Rel.set_lend ?_
    exact Rel.refl _ _
  · refine Rel.of_some ?_
    refine Rel.step (by decide) (State.finish_rel _ _ _) ?_
    exact Rel.refl _ _
  · refine Rel.of_some ?_
    refine Rel.step (by decide) (State.finish_rel _ _ _) ?_
    exact Rel.refl _ _
  · exact Rel.of_none

theorem State.logWritten_rel (s : State) (k : Nat) (h : Handle) : Rel [.out, .ctxs, .mailboxes, .handles, .log, .logNext, .logOverflow] s (State.logWritten s k h) := by
  unfold State.logWritten
  extract_lets +onlyGivenNames x1; try clear_value x1
  extract_lets +onlyGivenNames x2; (refine Rel.via (t := x2) ?_ (fun _ => ?_); (on_goal 2 => try clear_value x2); (on_goal 1 => unfold x2); (on_goal 1 => clear x2))
  · split
    · exact Rel.refl _ _
    · refine Rel.step (by decide) (State.dma_rel _ _ _ _) ?_
      exact Rel.refl _ _
  · refine Rel.step (by decide) (State.finish_rel _ _ _) ?_
    refine Rel.step (by decide) (State.progress_rel _ _ _ _ _) ?_
    assumption

theorem State.sampling_rel (s : State) (rq : Req) (reads : Bool) (f : Sampling → Sampling) : Rel [.ctxs] s (State.sampling s rq reads f).1 := by
  unfold State.sampling
  refine State.onCtx_rel (by decide) (fun _ => ?_) ?_
  · refine State.bodyOf_rel (by decide) ?_ ?_
    · split
      · split
        · refine Rel.step (by decide) (State.fail_rel _ _) ?_
          exact Rel.refl _ _
        · extract_lets +onlyGivenNames x1; (refine Rel.via (t := x1) ?_ (fun _ => ?_); (on_goal 2 => try clear_value x1); (on_goal 1 => unfold x1); (on_goal 1 => clear x1))
          · refine Rel.step (by decide) (State.updCtx_rel _ _ _) ?_
            exact Rel.refl _ _
          · extract_lets +onlyGivenNames x2; try clear_value x2
            refine Rel.step (by decide) (State.done_rel _ _) ?_
            assumption
      · split
        · refine Rel.step (by decide) (State.fail_rel _ _) ?_
          exact Rel.refl _ _
        · extract_lets +onlyGivenNames x3; (refine Rel.via (t := x3) ?_ (fun _ => ?_); (on_goal 2 => try clear_value x3); (on_goal 1 => unfold x3); (on_goal 1 => clear x3))
          · refine Rel.step (by decide) (State.updCtx_rel _ _ _) ?_
            exact Rel.refl _ _
          · extract_lets +onlyGivenNames x4; try clear_value x4
            refine Rel.step (by decide) (State.done_rel _ _) ?_
            assumption
    · exact Rel.refl _ _
  · exact Rel.refl _ _

theorem execCountersPermission_next (rq : Req) (s : State) : Next [.out, .ctxs, .mailboxes, .log, .logNext, .logOverflow] s (execCountersPermission rq s) := by
  unfold execCountersPermission
  refine Next.intro ?_
  refine State.mailCmd_rel (by decide) (fun _ => ?_) ?_
  · refine State.adm_rel (by decide) ?_ ?_
    · refine State.onCtx_rel (by decide) (fun _ => ?_) ?_
      · refine State.bodyOf_rel (by decide) ?_ ?_
        · refine Rel.step (by decide) (State.done_rel _ _) ?_
          refine Rel.step (by decide) (State.updCtx_rel _ _ _) ?_
          exact Rel.refl _ _
        · exact Rel.refl _ _
      · exact Rel.refl _ _
    · exact Rel.refl _ _
  · exact Rel.refl _ _

theorem execCountersRead_next (rq : Req) (s : State) : Next [.out, .cores, .ctxs, .mailboxes, .log, .logNext, .logOverflow, .counters] s (execCountersRead rq s) := by
  unfold execCountersRead
  refine Next.intro ?_
  refine State.mailCmd_rel (by decide) (fun _ => ?_) ?_
  · extract_lets +onlyGivenNames x1; (refine Rel.via (t := x1) ?_ (fun _ => ?_); (on_goal 2 => try clear_value x1); (on_goal 1 => unfold x1); (on_goal 1 => clear x1))
    · refine Rel.step (by decide) (State.settleAll_rel _) ?_
      exact Rel.refl _ _
    · extract_lets +onlyGivenNames x2; try clear_value x2
      extract_lets +onlyGivenNames x3; try clear_value x3
      extract_lets +onlyGivenNames x4; try clear_value x4
      split
      · refine State.bodyOf_rel (by decide) ?_ ?_
        · split
          · refine Rel.step (by decide) (State.fail_rel _ _) ?_
            assumption
          · refine Rel.step (by decide) (State.done_rel _ _) ?_
            assumption
        · assumption
      · refine State.onCtx_rel (by decide) (fun _ => ?_) ?_
        · refine State.bodyOf_rel (by decide) ?_ ?_
          · split
            · refine Rel.step (by decide) (State.fail_rel _ _) ?_
              assumption
            · refine Rel.step (by decide) (State.done_rel _ _) ?_
              assumption
          · assumption
        · assumption
  · exact Rel.refl _ _

theorem execCulletRead_next (rq : Req) (s : State) : Next [.out, .ctxs, .mailboxes, .log, .logNext, .logOverflow] s (execCulletRead rq s) := by
  unfold execCulletRead
  refine Next.intro ?_
  refine State.mailCmd_rel (by decide) (fun _ => ?_) ?_
  · refine State.anyMb_rel (by decide) ?_ ?_
    · refine State.bodyOf_rel (by decide) ?_ ?_
      · refine Rel.step (by decide) (State.done_rel _ _) ?_
        exact Rel.refl _ _
      · exact Rel.refl _ _
    · exact Rel.refl _ _
  · exact Rel.refl _ _

theorem execHandleCancel_next (rq : Req) (s : State) : Next [.out, .ctxs, .asks, .lend, .mailboxes, .handles, .log, .logNext, .logOverflow] s (execHandleCancel rq s) := by
  unfold execHandleCancel
  refine Next.intro ?_
  refine State.mailCmd_rel (by decide) (fun _ => ?_) ?_
  · refine State.anyMb_rel (by decide) ?_ ?_
    · refine State.bodyOf_rel (by decide) ?_ ?_
      · split
        · refine Rel.step (by decide) (State.fail_rel _ _) ?_
          exact Rel.refl _ _
        · split
          · refine Rel.step (by decide) (State.fail_rel _ _) ?_
            exact Rel.refl _ _
          · split
            · refine Rel.step (by decide) (State.done_rel _ _) ?_
              refine Rel.step (by decide) (State.cancelled_rel _ _ _ _ (by assumption)) ?_
              exact Rel.refl _ _
            · refine Rel.step (by decide) (State.fail_rel _ _) ?_
              exact Rel.refl _ _
      · exact Rel.refl _ _
    · exact Rel.refl _ _
  · exact Rel.refl _ _

theorem execLogRead_next (rq : Req) (s : State) : Next [.out, .ctxs, .mailboxes, .handles, .log, .logNext, .logOverflow, .pcie] s (execLogRead rq s) := by
  unfold execLogRead
  refine Next.intro ?_
  refine State.mailCmd_rel (by decide) (fun _ => ?_) ?_
  · refine State.anyMb_rel (by decide) ?_ ?_
    · refine State.bodyOf_rel (by decide) ?_ ?_
      · refine State.withHandle_rel (by decide) (fun _ _ => ?_) ?_
        · refine Rel.step (by decide) (State.given_rel _ _) ?_
          exact Rel.refl _ _
        · exact Rel.refl _ _
      · exact Rel.refl _ _
    · exact Rel.refl _ _
  · exact Rel.refl _ _

theorem execLogStatus_next (rq : Req) (s : State) : Next [.out, .ctxs, .mailboxes, .log, .logNext, .logOverflow] s (execLogStatus rq s) := by
  unfold execLogStatus
  refine Next.intro ?_
  refine State.mailCmd_rel (by decide) (fun _ => ?_) ?_
  · refine State.anyMb_rel (by decide) ?_ ?_
    · refine State.bodyOf_rel (by decide) ?_ ?_
      · extract_lets +onlyGivenNames x1; try clear_value x1
        refine Rel.step (by decide) (State.done_rel _ _) ?_
        exact Rel.refl _ _
      · exact Rel.refl _ _
    · exact Rel.refl _ _
  · exact Rel.refl _ _

theorem execSampleRecordWrite_next (core : Nat) (consumed : Dma) (s : State) : Next [.out, .cores, .ctxs] s (execSampleRecordWrite core consumed s) := by
  unfold execSampleRecordWrite
  split
  · refine Next.intro ?_
    exact Rel.refl _ _
  · extract_lets +onlyGivenNames x1; (refine Next.via (t := x1) ?_ (fun _ => ?_); (on_goal 2 => try clear_value x1); (on_goal 1 => unfold x1); (on_goal 1 => clear x1))
    · refine Rel.step (by decide) (State.updCore_rel _ _ _) ?_
      exact Rel.refl _ _
    · extract_lets +onlyGivenNames x2; try clear_value x2
      extract_lets +onlyGivenNames x3; try clear_value x3
      extract_lets +onlyGivenNames x4; try clear_value x4
      extract_lets +onlyGivenNames x5; try clear_value x5
      extract_lets +onlyGivenNames x6; try clear_value x6
      split
      · refine Next.intro ?_
        refine Rel.step (by decide) (State.count_rel _ _ _ _) ?_
        assumption
      · split
        · extract_lets +onlyGivenNames x7; (refine Next.via (t := x7) ?_ (fun _ => ?_); (on_goal 2 => try clear_value x7); (on_goal 1 => unfold x7); (on_goal 1 => clear x7))
          · refine Rel.step (by decide) (State.dma_rel _ _ _ _) ?_
            assumption
          · extract_lets +onlyGivenNames x8; try clear_value x8
            extract_lets +onlyGivenNames x9; (refine Next.via (t := x9) ?_ (fun _ => ?_); (on_goal 2 => try clear_value x9); (on_goal 1 => unfold x9); (on_goal 1 => clear x9))
            · refine Rel.step (by decide) (State.updCtx_rel _ _ _) ?_
              assumption
            · refine Next.intro ?_
              refine Rel.step (by decide) (State.count_rel _ _ _ _) ?_
              refine Rel.step (by decide) (State.dma_rel _ _ _ _) ?_
              assumption
        · refine Next.intro ?_
          refine Rel.step (by decide) (State.count_rel _ _ _ _) ?_
          assumption

theorem execSamplingArmReplay_next (rq : Req) (s : State) : Next [.out, .ctxs, .mailboxes, .log, .logNext, .logOverflow] s (execSamplingArmReplay rq s) := by
  unfold execSamplingArmReplay
  refine Next.intro ?_
  refine State.actionCmd_rel (by decide) (fun _ => ?_) ?_
  · refine Rel.step (by decide) (State.sampling_rel _ _ _ _) ?_
    exact Rel.refl _ _
  · exact Rel.refl _ _

theorem execSamplingDisarm_next (rq : Req) (s : State) : Next [.out, .ctxs, .mailboxes, .log, .logNext, .logOverflow] s (execSamplingDisarm rq s) := by
  unfold execSamplingDisarm
  refine Next.intro ?_
  refine State.actionCmd_rel (by decide) (fun _ => ?_) ?_
  · refine Rel.step (by decide) (State.sampling_rel _ _ _ _) ?_
    exact Rel.refl _ _
  · exact Rel.refl _ _

theorem execSamplingOff_next (rq : Req) (s : State) : Next [.out, .ctxs, .mailboxes, .log, .logNext, .logOverflow] s (execSamplingOff rq s) := by
  unfold execSamplingOff
  refine Next.intro ?_
  refine State.actionCmd_rel (by decide) (fun _ => ?_) ?_
  · refine Rel.step (by decide) (State.sampling_rel _ _ _ _) ?_
    exact Rel.refl _ _
  · exact Rel.refl _ _

theorem execSamplingOn_next (rq : Req) (s : State) : Next [.out, .ctxs, .mailboxes, .log, .logNext, .logOverflow] s (execSamplingOn rq s) := by
  unfold execSamplingOn
  refine Next.intro ?_
  refine State.actionCmd_rel (by decide) (fun _ => ?_) ?_
  · refine Rel.step (by decide) (State.sampling_rel _ _ _ _) ?_
    exact Rel.refl _ _
  · exact Rel.refl _ _

end Sys2Proof.Machine
end

