-- ==== Sys2Proof/Laws/Firmware.lean ====
section
/-! SUPPORT. What the operations and the meanings of Machine/Firmware.lean can change: for each operation the fields of the state it may change, and
for each meaning that it answers a next state and the fields that it may change; all of them keep the invariant. -/

namespace Sys2Proof.Machine

theorem State.dmaFault_rel (s : State) (k : Nat) (h : Handle) : Rel [.out, .ctxs, .mailboxes, .handles, .log, .logNext, .logOverflow] s (State.dmaFault s k h) := by
  unfold State.dmaFault
  split
  · refine Rel.step (by decide) (State.loadFails_rel _ _ _ _ _) ?_
    exact Rel.refl _ _
  · refine Rel.step (by decide) (State.finish_rel _ _ _) ?_
    exact Rel.refl _ _

theorem State.endSramCopies_rel (s : State) (pc : Nat) : Rel [.mem, .rowCopies] s (State.endSramCopies s pc) := by
  unfold State.endSramCopies
  extract_lets +onlyGivenNames x1; try clear_value x1
  extract_lets +onlyGivenNames x2; (refine Rel.via (t := x2) ?_ (fun _ => ?_); (on_goal 2 => try clear_value x2); (on_goal 1 => unfold x2); (on_goal 1 => clear x2))
  · refine Rel.step (by decide) Rel.set_rowCopies ?_
    exact Rel.refl _ _
  · refine Rel.foldl (fun _ _ => ?_) ?_
    · refine Rel.foldl (fun _ _ => ?_) ?_
      · refine Rel.step (by decide) (State.memWrite_rel _ _ _) ?_
        exact Rel.refl _ _
      · exact Rel.refl _ _
    · assumption

theorem State.moveCore_rel (s : State) (c : Nat) (p : Nat) : Rel [.out, .mem, .cores, .ctxs, .rowCopies, .culls, .mailboxes, .log, .logNext, .logOverflow] s (State.moveCore s c p) := by
  unfold State.moveCore
  extract_lets +onlyGivenNames x1; try clear_value x1
  extract_lets +onlyGivenNames x2; try clear_value x2
  extract_lets +onlyGivenNames x3; (refine Rel.via (t := x3) ?_ (fun _ => ?_); (on_goal 2 => try clear_value x3); (on_goal 1 => unfold x3); (on_goal 1 => clear x3))
  · refine Rel.step (by decide) (State.endSramCopies_rel _ _) ?_
    exact Rel.refl _ _
  · extract_lets +onlyGivenNames x4; (refine Rel.via (t := x4) ?_ (fun _ => ?_); (on_goal 2 => try clear_value x4); (on_goal 1 => unfold x4); (on_goal 1 => clear x4))
    · refine Rel.step (by decide) (State.updCore_rel _ _ _) ?_
      assumption
    · extract_lets +onlyGivenNames x5; (refine Rel.via (t := x5) ?_ (fun _ => ?_); (on_goal 2 => try clear_value x5); (on_goal 1 => unfold x5); (on_goal 1 => clear x5))
      · split
        · assumption
        · refine Rel.step (by decide) (State.addCullet_rel _ _) ?_
          assumption
      · extract_lets +onlyGivenNames x6; (refine Rel.via (t := x6) ?_ (fun _ => ?_); (on_goal 2 => try clear_value x6); (on_goal 1 => unfold x6); (on_goal 1 => clear x6))
        · refine Rel.step (by decide) (State.addCullet_rel _ _) ?_
          assumption
        · refine Rel.step (by decide) (State.event_rel _ _ _ _ _) ?_
          assumption

theorem State.staged_rel (s : State) (k : Nat) (h : Handle) (f : FwImage) : Rel [.out, .ctxs, .mailboxes, .handles, .log, .logNext, .logOverflow, .life] s (State.staged s k h f) := by
  unfold State.staged
  extract_lets +onlyGivenNames x1; try clear_value x1
  split
  · refine Rel.step (by decide) (State.finish_rel _ _ _) ?_
    exact Rel.refl _ _
  · extract_lets +onlyGivenNames x2; try clear_value x2
    extract_lets +onlyGivenNames x3; try clear_value x3
    extract_lets +onlyGivenNames x4; try clear_value x4
    refine Rel.step (by decide) (State.finish_rel _ _ _) ?_
    refine Rel.step (by decide) (State.progress_rel _ _ _ _ _) ?_
    refine Rel.step (by decide) Rel.set_life ?_
    exact Rel.refl _ _

theorem State.switchEnds_rel (s : State) (result : Nat) (status : Nat) : Rel [.out, .fresh, .mem, .cores, .ctxs, .migs, .asks, .stalled, .lend, .rowCopies, .freed, .flows, .ctrl, .ctrlNext, .fcache, .macs, .ecnDraws, .mailboxes, .handles, .log, .logNext, .logOverflow, .counters, .nand, .life] s (State.switchEnds s result status) := by
  unfold State.switchEnds
  extract_lets +onlyGivenNames x1; try clear_value x1
  extract_lets +onlyGivenNames x2; try clear_value x2
  extract_lets +onlyGivenNames x3; try clear_value x3
  extract_lets +onlyGivenNames x4; try clear_value x4
  extract_lets +onlyGivenNames x5; try clear_value x5
  extract_lets +onlyGivenNames x6; (refine Rel.via (t := x6) ?_ (fun _ => ?_); (on_goal 2 => try clear_value x6); (on_goal 1 => unfold x6); (on_goal 1 => clear x6))
  · refine Rel.step (by decide) (State.event_rel _ _ _ _ _) ?_
    refine Rel.step (by decide) Rel.set_life ?_
    exact Rel.refl _ _
  · refine Rel.step (by decide) (State.beginTransition_rel _) ?_
    refine Rel.step (by decide) (State.finish_rel _ _ _) ?_
    split
    · refine Rel.step (by decide) (State.progress_rel _ _ _ _ _) ?_
      assumption
    · assumption

theorem State.tablesDone_rel (s : State) (k : Nat) (f : FwImage) : Rel [.out, .ctxs, .mailboxes, .handles, .log, .logNext, .logOverflow, .life] s (State.tablesDone s k f) := by
  unfold State.tablesDone
  split
  · exact Rel.refl _ _
  · refine Rel.step (by decide) (State.finish_rel _ _ _) ?_
    refine Rel.step (by decide) Rel.set_life ?_
    exact Rel.refl _ _

theorem State.tablesFetched_rel (s : State) (k : Nat) (h : Handle) (f : FwImage) : Rel [.out, .cores, .ctxs, .mailboxes, .handles, .log, .logNext, .logOverflow, .life] s (State.tablesFetched s k h f) := by
  unfold State.tablesFetched
  extract_lets +onlyGivenNames x1; try clear_value x1
  split
  · refine Rel.step (by decide) (State.finish_rel _ _ _) ?_
    exact Rel.refl _ _
  · extract_lets +onlyGivenNames x2; try clear_value x2
    extract_lets +onlyGivenNames x3; (refine Rel.via (t := x3) ?_ (fun _ => ?_); (on_goal 2 => try clear_value x3); (on_goal 1 => unfold x3); (on_goal 1 => clear x3))
    · refine Rel.step (by decide) Rel.set_life ?_
      exact Rel.refl _ _
    · extract_lets +onlyGivenNames x4; (refine Rel.via (t := x4) ?_ (fun _ => ?_); (on_goal 2 => try clear_value x4); (on_goal 1 => unfold x4); (on_goal 1 => clear x4))
      · refine Rel.foldl (fun _ _ => ?_) ?_
        · refine Rel.step (by decide) (State.updCore_rel _ _ _) ?_
          exact Rel.refl _ _
        · refine Rel.step (by decide) (State.phase_rel _ _ _) ?_
          assumption
      · refine Rel.step (by decide) (State.tablesDone_rel _ _ _) ?_
        assumption

theorem execActivateTimeout_next (s : State) : Next [.out, .fresh, .clk, .mem, .cores, .ctxs, .migs, .asks, .stalled, .lend, .rowCopies, .freed, .flows, .ctrl, .ctrlNext, .fcache, .macs, .ecnDraws, .mailboxes, .handles, .log, .logNext, .logOverflow, .counters, .nand, .life] s (execActivateTimeout s) := by
  unfold execActivateTimeout
  split
  · refine Next.intro ?_
    exact Rel.refl _ _
  · split
    · refine Next.intro ?_
      exact Rel.refl _ _
    · refine Next.intro ?_
      refine Rel.step (by decide) (State.beginTransition_rel _) ?_
      refine Rel.step (by decide) (State.finish_rel _ _ _) ?_
      refine Rel.step (by decide) (State.toTai_rel _ _) ?_
      exact Rel.refl _ _

theorem execCoreMigration_next (core : Nat) (s : State) : Next [.out, .fresh, .mem, .cores, .ctxs, .migs, .asks, .stalled, .lend, .rowCopies, .freed, .culls, .flows, .ctrl, .ctrlNext, .fcache, .macs, .ecnDraws, .mailboxes, .handles, .log, .logNext, .logOverflow, .counters, .nand, .life] s (execCoreMigration core s) := by
  unfold execCoreMigration
  extract_lets +onlyGivenNames x1; try clear_value x1
  split
  · refine Next.intro ?_
    exact Rel.refl _ _
  · split
    · extract_lets +onlyGivenNames x2; (refine Next.via (t := x2) ?_ (fun _ => ?_); (on_goal 2 => try clear_value x2); (on_goal 1 => unfold x2); (on_goal 1 => clear x2))
      · split
        · refine Rel.foldl (fun _ _ => ?_) ?_
          · refine Rel.step (by decide) (State.fence_rel _ _) ?_
            exact Rel.refl _ _
          · refine Rel.step (by decide) (State.updCore_rel _ _ _) ?_
            exact Rel.refl _ _
        · exact Rel.refl _ _
      · refine Next.intro ?_
        split
        · refine Rel.step (by decide) (State.beginTransition_rel _) ?_
          refine Rel.step (by decide) (State.finish_rel _ _ _) ?_
          assumption
        · assumption
    · extract_lets +onlyGivenNames x3; (refine Next.via (t := x3) ?_ (fun _ => ?_); (on_goal 2 => try clear_value x3); (on_goal 1 => unfold x3); (on_goal 1 => clear x3))
      · refine Rel.step (by decide) (State.moveCore_rel _ _ _) ?_
        exact Rel.refl _ _
      · refine Next.intro ?_
        split
        · refine Rel.step (by decide) (State.beginTransition_rel _) ?_
          refine Rel.step (by decide) (State.finish_rel _ _ _) ?_
          refine Rel.step (by decide) (State.progress_rel _ _ _ _ _) ?_
          assumption
        · assumption

theorem execCoreReplace_next (rq : Req) (s : State) : Next [.out, .ctxs, .mailboxes, .handles, .log, .logNext, .logOverflow, .pcie] s (execCoreReplace rq s) := by
  unfold execCoreReplace
  refine Next.intro ?_
  refine State.mailCmd_rel (by decide) (fun _ => ?_) ?_
  · refine State.adm_rel (by decide) ?_ ?_
    · refine State.bodyOf_rel (by decide) ?_ ?_
      · split
        · refine Rel.step (by decide) (State.fail_rel _ _) ?_
          exact Rel.refl _ _
        · refine State.withHandle_rel (by decide) (fun _ _ => ?_) ?_
          · refine Rel.step (by decide) (State.given_rel _ _) ?_
            exact Rel.refl _ _
          · exact Rel.refl _ _
      · exact Rel.refl _ _
    · exact Rel.refl _ _
  · exact Rel.refl _ _

theorem execCoreTables_next (rq : Req) (s : State) : Next [.out, .ctxs, .mailboxes, .handles, .log, .logNext, .logOverflow, .pcie] s (execCoreTables rq s) := by
  unfold execCoreTables
  refine Next.intro ?_
  refine State.mailCmd_rel (by decide) (fun _ => ?_) ?_
  · refine State.adm_rel (by decide) ?_ ?_
    · refine State.bodyOf_rel (by decide) ?_ ?_
      · refine State.withHandle_rel (by decide) (fun _ _ => ?_) ?_
        · refine Rel.step (by decide) (State.given_rel _ _) ?_
          exact Rel.refl _ _
        · exact Rel.refl _ _
      · exact Rel.refl _ _
    · exact Rel.refl _ _
  · exact Rel.refl _ _

theorem execCoreTablesTake_next (core : Nat) (s : State) : Next [.out, .cores, .ctxs, .mailboxes, .handles, .log, .logNext, .logOverflow, .life] s (execCoreTablesTake core s) := by
  unfold execCoreTablesTake
  split
  · split
    · refine Next.intro ?_
      exact Rel.refl _ _
    · refine Next.intro ?_
      refine Rel.step (by decide) (State.tablesDone_rel _ _ _) ?_
      refine Rel.step (by decide) (State.progress1_rel _ _) ?_
      refine Rel.step (by decide) (State.updCore_rel _ _ _) ?_
      exact Rel.refl _ _
  · refine Next.intro ?_
    exact Rel.refl _ _

theorem execDramBankRetrain_next (loc : BankLoc) (s : State) : Next [.out, .ctxs, .mailboxes, .handles, .log, .logNext, .logOverflow] s (execDramBankRetrain loc s) := by
  unfold execDramBankRetrain
  split
  · split
    · refine Next.intro ?_
      exact Rel.refl _ _
    · extract_lets +onlyGivenNames x1; try clear_value x1
      extract_lets +onlyGivenNames x2; (refine Next.via (t := x2) ?_ (fun _ => ?_); (on_goal 2 => try clear_value x2); (on_goal 1 => unfold x2); (on_goal 1 => clear x2))
      · refine Rel.step (by decide) (State.setHandle_rel _ _ _) ?_
        exact Rel.refl _ _
      · refine Next.intro ?_
        split
        · refine Rel.step (by decide) (State.finish_rel _ _ _) ?_
          assumption
        · assumption
  · refine Next.intro ?_
    exact Rel.refl _ _

theorem execDramRecal_next (rq : Req) (s : State) : Next [.out, .ctxs, .mailboxes, .handles, .log, .logNext, .logOverflow, .pcie] s (execDramRecal rq s) := by
  unfold execDramRecal
  refine Next.intro ?_
  refine State.mailCmd_rel (by decide) (fun _ => ?_) ?_
  · refine State.adm_rel (by decide) ?_ ?_
    · refine State.bodyOf_rel (by decide) ?_ ?_
      · extract_lets +onlyGivenNames x1; try clear_value x1
        refine State.withHandle_rel (by decide) (fun _ _ => ?_) ?_
        · refine Rel.step (by decide) (State.given_rel _ _) ?_
          split
          · refine Rel.step (by decide) (State.finish_rel _ _ _) ?_
            exact Rel.refl _ _
          · exact Rel.refl _ _
        · exact Rel.refl _ _
      · exact Rel.refl _ _
    · exact Rel.refl _ _
  · exact Rel.refl _ _

theorem execFwActivate_next (rq : Req) (s : State) : Next [.out, .ctxs, .mailboxes, .handles, .log, .logNext, .logOverflow, .pcie] s (execFwActivate rq s) := by
  unfold execFwActivate
  refine Next.intro ?_
  refine State.mailCmd_rel (by decide) (fun _ => ?_) ?_
  · refine State.adm_rel (by decide) ?_ ?_
    · refine State.bodyOf_rel (by decide) ?_ ?_
      · split
        · refine Rel.step (by decide) (State.fail_rel _ _) ?_
          exact Rel.refl _ _
        · refine State.withHandle_rel (by decide) (fun _ _ => ?_) ?_
          · refine Rel.step (by decide) (State.given_rel _ _) ?_
            exact Rel.refl _ _
          · exact Rel.refl _ _
      · exact Rel.refl _ _
    · exact Rel.refl _ _
  · exact Rel.refl _ _

theorem execFwIdentity_next (rq : Req) (s : State) : Next [.out, .ctxs, .mailboxes, .log, .logNext, .logOverflow] s (execFwIdentity rq s) := by
  unfold execFwIdentity
  refine Next.intro ?_
  refine State.mailCmd_rel (by decide) (fun _ => ?_) ?_
  · refine State.anyMb_rel (by decide) ?_ ?_
    · refine State.bodyOf_rel (by decide) ?_ ?_
      · refine Rel.step (by decide) (State.done_rel _ _) ?_
        exact Rel.refl _ _
      · exact Rel.refl _ _
    · exact Rel.refl _ _
  · exact Rel.refl _ _

theorem execFwStage_next (rq : Req) (s : State) : Next [.out, .ctxs, .mailboxes, .handles, .log, .logNext, .logOverflow, .pcie] s (execFwStage rq s) := by
  unfold execFwStage
  refine Next.intro ?_
  refine State.mailCmd_rel (by decide) (fun _ => ?_) ?_
  · refine State.adm_rel (by decide) ?_ ?_
    · refine State.bodyOf_rel (by decide) ?_ ?_
      · refine State.withHandle_rel (by decide) (fun _ _ => ?_) ?_
        · refine Rel.step (by decide) (State.given_rel _ _) ?_
          exact Rel.refl _ _
        · exact Rel.refl _ _
      · exact Rel.refl _ _
    · exact Rel.refl _ _
  · exact Rel.refl _ _

theorem execFwSwitchResume_next (s : State) : Next [.out, .fresh, .mem, .cores, .ctxs, .migs, .asks, .stalled, .lend, .rowCopies, .freed, .flows, .ctrl, .ctrlNext, .fcache, .macs, .ecnDraws, .mailboxes, .handles, .log, .logNext, .logOverflow, .counters, .nand, .life] s (execFwSwitchResume s) := by
  unfold execFwSwitchResume
  split
  · refine Next.intro ?_
    refine Rel.step (by decide) (State.switchEnds_rel _ _ _) ?_
    exact Rel.refl _ _
  · refine Next.intro ?_
    exact Rel.refl _ _

theorem execFwSwitchStart_next (s : State) : Next [.handles, .life] s (execFwSwitchStart s) := by
  unfold execFwSwitchStart
  split
  · refine Next.intro ?_
    exact Rel.refl _ _
  · split
    · refine Next.intro ?_
      exact Rel.refl _ _
    · refine Next.intro ?_
      refine Rel.step (by decide) (State.phase_rel _ _ _) ?_
      refine Rel.step (by decide) Rel.set_life ?_
      exact Rel.refl _ _

theorem execFwSwitchWatchdog_next (s : State) : Next [.out, .fresh, .mem, .cores, .ctxs, .migs, .asks, .stalled, .lend, .rowCopies, .freed, .flows, .ctrl, .ctrlNext, .fcache, .macs, .ecnDraws, .mailboxes, .handles, .log, .logNext, .logOverflow, .counters, .nand, .life] s (execFwSwitchWatchdog s) := by
  unfold execFwSwitchWatchdog
  split
  · refine Next.intro ?_
    refine Rel.step (by decide) (State.switchEnds_rel _ _ _) ?_
    exact Rel.refl _ _
  · refine Next.intro ?_
    exact Rel.refl _ _

theorem execLaneAdmit_next (rq : Req) (s : State) : Next [.out, .ctxs, .culls, .ports, .lanes, .mailboxes, .handles, .log, .logNext, .logOverflow, .pcie] s (execLaneAdmit rq s) := by
  unfold execLaneAdmit
  refine Next.intro ?_
  refine State.mailCmd_rel (by decide) (fun _ => ?_) ?_
  · refine State.adm_rel (by decide) ?_ ?_
    · refine State.bodyOf_rel (by decide) ?_ ?_
      · extract_lets +onlyGivenNames x1; try clear_value x1
        split
        · refine Rel.step (by decide) (State.fail_rel _ _) ?_
          exact Rel.refl _ _
        · refine State.withHandle_rel (by decide) (fun _ _ => ?_) ?_
          · extract_lets +onlyGivenNames x2; (refine Rel.via (t := x2) ?_ (fun _ => ?_); (on_goal 2 => try clear_value x2); (on_goal 1 => unfold x2); (on_goal 1 => clear x2))
            · refine Rel.step (by decide) (State.updPort_rel _ _ _) ?_
              exact Rel.refl _ _
            · extract_lets +onlyGivenNames x3; (refine Rel.via (t := x3) ?_ (fun _ => ?_); (on_goal 2 => try clear_value x3); (on_goal 1 => unfold x3); (on_goal 1 => clear x3))
              · refine Rel.step (by decide) (State.updLane_rel _ _ _) ?_
                assumption
              · refine Rel.step (by decide) (State.given_rel _ _) ?_
                refine Rel.step (by decide) (State.finish_rel _ _ _) ?_
                refine Rel.step (by decide) (State.progress1_rel _ _) ?_
                refine Rel.step (by decide) (State.laneCullet_rel _ _ _ _) ?_
                assumption
          · exact Rel.refl _ _
      · exact Rel.refl _ _
    · exact Rel.refl _ _
  · exact Rel.refl _ _

theorem execLaneRetire_next (rq : Req) (s : State) : Next [.out, .ctxs, .culls, .flows, .macs, .ports, .fwd, .ecnDraws, .mailboxes, .handles, .log, .logNext, .logOverflow, .counters, .pcie] s (execLaneRetire rq s) := by
  unfold execLaneRetire
  refine Next.intro ?_
  refine State.mailCmd_rel (by decide) (fun _ => ?_) ?_
  · refine State.adm_rel (by decide) ?_ ?_
    · refine State.bodyOf_rel (by decide) ?_ ?_
      · extract_lets +onlyGivenNames x1; try clear_value x1
        extract_lets +onlyGivenNames x2; try clear_value x2
        split
        · refine Rel.step (by decide) (State.fail_rel _ _) ?_
          exact Rel.refl _ _
        · refine State.withHandle_rel (by decide) (fun _ _ => ?_) ?_
          · split
            · refine Rel.step (by decide) (State.given_rel _ _) ?_
              refine Rel.step (by decide) (State.finish_rel _ _ _) ?_
              refine Rel.step (by decide) (State.progress1_rel _ _) ?_
              exact Rel.refl _ _
            · split
              · refine Rel.step (by decide) (State.given_rel _ _) ?_
                refine Rel.step (by decide) (State.retireLane_rel _ _) ?_
                exact Rel.refl _ _
              · extract_lets +onlyGivenNames x3; (refine Rel.via (t := x3) ?_ (fun _ => ?_); (on_goal 2 => try clear_value x3); (on_goal 1 => unfold x3); (on_goal 1 => clear x3))
                · refine Rel.step (by decide) (State.updPort_rel _ _ _) ?_
                  exact Rel.refl _ _
                · refine Rel.step (by decide) (State.given_rel _ _) ?_
                  refine Rel.step (by decide) (State.finish_rel _ _ _) ?_
                  refine Rel.step (by decide) (State.progress1_rel _ _) ?_
                  refine Rel.step (by decide) (State.laneCullet_rel _ _ _ _) ?_
                  assumption
          · exact Rel.refl _ _
      · exact Rel.refl _ _
    · exact Rel.refl _ _
  · exact Rel.refl _ _

theorem execModuleDmaComplete_next (handle : Nat) (d : DmaResult) (s : State) : Next [.out, .cores, .ctxs, .fwd, .peersIp, .mailboxes, .handles, .log, .logNext, .logOverflow, .life] s (execModuleDmaComplete handle d s) := by
  unfold execModuleDmaComplete
  split
  · refine Next.intro ?_
    exact Rel.refl _ _
  · extract_lets +onlyGivenNames x1; try clear_value x1
    split
    · refine Next.intro ?_
      exact Rel.refl _ _
    · split
      · split
        · refine Next.intro ?_
          refine Rel.step (by decide) (State.dmaFault_rel _ _ _) ?_
          exact Rel.refl _ _
        · refine Next.intro ?_
          exact Rel.refl _ _
      · split
        · refine Next.intro ?_
          refine Rel.step (by decide) (State.imageFetched_rel _ _ _ _) ?_
          exact Rel.refl _ _
        · refine Next.intro ?_
          exact Rel.refl _ _
      · split
        · refine Next.intro ?_
          refine Rel.step (by decide) (State.staged_rel _ _ _ _) ?_
          exact Rel.refl _ _
        · split
          · refine Next.intro ?_
            refine Rel.step (by decide) (State.tablesFetched_rel _ _ _ _) ?_
            exact Rel.refl _ _
          · refine Next.intro ?_
            exact Rel.refl _ _
      · split
        · refine Next.intro ?_
          refine Rel.step (by decide) (State.loadTable_rel _ _ _ _) ?_
          exact Rel.refl _ _
        · refine Next.intro ?_
          exact Rel.refl _ _
      · split
        · refine Next.intro ?_
          refine Rel.step (by decide) (State.logWritten_rel _ _ _) ?_
          exact Rel.refl _ _
        · refine Next.intro ?_
          exact Rel.refl _ _

end Sys2Proof.Machine
end

