-- ==== Sys2Proof/Laws/Lifecycle.lean ====
section
/-! SUPPORT. What the operations and the meanings of Machine/Lifecycle.lean can change: for each operation the fields of the state it may change, and
for each meaning that it answers a next state and the fields that it may change; all of them keep the invariant. -/

namespace Sys2Proof.Machine

theorem State.acceptTransition_rel (s : State) (t : Transition) : Rel [.out, .fresh, .mem, .cores, .ctxs, .migs, .asks, .stalled, .lend, .rowCopies, .freed, .flows, .ctrl, .ctrlNext, .fcache, .macs, .ecnDraws, .mailboxes, .handles, .log, .logNext, .logOverflow, .counters, .nand, .life, .pcie] s (State.acceptTransition s t).1 := by
  unfold State.acceptTransition
  refine State.withHandle_rel (by decide) (fun _ _ => ?_) ?_
  · refine Rel.step (by decide) (State.given_rel _ _) ?_
    refine Rel.step (by decide) (State.beginTransition_rel _) ?_
    refine Rel.step (by decide) Rel.set_life ?_
    exact Rel.refl _ _
  · exact Rel.refl _ _

theorem State.transitionEvent_rel (s : State) (life : Nat) (dbg : Nat) : Rel [.out, .ctxs, .mailboxes, .log, .logNext, .logOverflow] s (State.transitionEvent s life dbg) := by
  unfold State.transitionEvent
  refine Rel.step (by decide) (State.event_rel _ _ _ _ _) ?_
  exact Rel.refl _ _

theorem State.applyTransition_rel (s : State) (t : Transition) : Rel [.out, .ctxs, .mailboxes, .handles, .log, .logNext, .logOverflow, .life] s (State.applyTransition s t) := by
  unfold State.applyTransition
  extract_lets +onlyGivenNames x1; (refine Rel.via (t := x1) ?_ (fun _ => ?_); (on_goal 2 => try clear_value x1); (on_goal 1 => unfold x1); (on_goal 1 => clear x1))
  · refine Rel.step (by decide) (State.transitionEvent_rel _ _ _) ?_
    exact Rel.refl _ _
  · refine Rel.step (by decide) (State.finish_rel _ _ _) ?_
    refine Rel.step (by decide) Rel.set_life ?_
    assumption

theorem State.challenge_rel (s : State) (m : Nat) : Rel [.fresh, .mailboxes] s (State.challenge s m).1 := by
  unfold State.challenge
  extract_lets +onlyGivenNames x1; try clear_value x1
  refine Rel.step (by decide) (State.done_rel _ _) ?_
  refine Rel.step (by decide) (State.updMbox_rel _ _ _) ?_
  refine Rel.step (by decide) (State.draw_rel _) ?_
  exact Rel.refl _ _

theorem State.setDebug_rel (s : State) (lvl : Nat) : Rel [.out, .ctxs, .mailboxes, .log, .logNext, .logOverflow, .life] s (State.setDebug s lvl) := by
  unfold State.setDebug
  extract_lets +onlyGivenNames x1; (refine Rel.via (t := x1) ?_ (fun _ => ?_); (on_goal 2 => try clear_value x1); (on_goal 1 => unfold x1); (on_goal 1 => clear x1))
  · refine Rel.step (by decide) (State.transitionEvent_rel _ _ _) ?_
    exact Rel.refl _ _
  · refine Rel.step (by decide) Rel.set_life ?_
    assumption

theorem State.spent_rel (s : State) (m : Nat) : Rel [.mailboxes] s (State.spent s m) := by
  unfold State.spent
  refine Rel.step (by decide) (State.updMbox_rel _ _ _) ?_
  exact Rel.refl _ _

theorem State.debugTo_rel (s : State) (rq : Req) (lvl : Nat) : Rel [.out, .fresh, .mem, .cores, .ctxs, .migs, .asks, .stalled, .lend, .rowCopies, .freed, .flows, .ctrl, .ctrlNext, .fcache, .macs, .ecnDraws, .mailboxes, .handles, .log, .logNext, .logOverflow, .counters, .nand, .life, .pcie] s (State.debugTo s rq lvl).1 := by
  unfold State.debugTo
  extract_lets +onlyGivenNames x1; try clear_value x1
  extract_lets +onlyGivenNames x2; try clear_value x2
  refine State.adm_rel (by decide) ?_ ?_
  · refine State.bodyOf_rel (by decide) ?_ ?_
    · split
      · refine Rel.step (by decide) (State.fail_rel _ _) ?_
        exact Rel.refl _ _
      · split
        · refine Rel.step (by decide) (State.fail_rel _ _) ?_
          exact Rel.refl _ _
        · split
          · split
            · refine Rel.step (by decide) (State.fail_rel _ _) ?_
              exact Rel.refl _ _
            · extract_lets +onlyGivenNames x3; (refine Rel.via (t := x3) ?_ (fun _ => ?_); (on_goal 2 => try clear_value x3); (on_goal 1 => unfold x3); (on_goal 1 => clear x3))
              · split
                · refine Rel.step (by decide) (State.spent_rel _ _) ?_
                  exact Rel.refl _ _
                · exact Rel.refl _ _
              · split
                · refine Rel.step (by decide) (State.done_rel _ _) ?_
                  assumption
                · split
                  · refine Rel.step (by decide) (State.acceptTransition_rel _ _) ?_
                    assumption
                  · split
                    · refine Rel.step (by decide) (State.acceptTransition_rel _ _) ?_
                      assumption
                    · refine Rel.step (by decide) (State.done_rel _ _) ?_
                      refine Rel.step (by decide) (State.setDebug_rel _ _) ?_
                      assumption
          · split
            · refine Rel.step (by decide) (State.fail_rel _ _) ?_
              exact Rel.refl _ _
            · extract_lets +onlyGivenNames x4; (refine Rel.via (t := x4) ?_ (fun _ => ?_); (on_goal 2 => try clear_value x4); (on_goal 1 => unfold x4); (on_goal 1 => clear x4))
              · split
                · refine Rel.step (by decide) (State.spent_rel _ _) ?_
                  exact Rel.refl _ _
                · exact Rel.refl _ _
              · split
                · refine Rel.step (by decide) (State.done_rel _ _) ?_
                  assumption
                · split
                  · refine Rel.step (by decide) (State.acceptTransition_rel _ _) ?_
                    assumption
                  · split
                    · refine Rel.step (by decide) (State.acceptTransition_rel _ _) ?_
                      assumption
                    · refine Rel.step (by decide) (State.done_rel _ _) ?_
                      refine Rel.step (by decide) (State.setDebug_rel _ _) ?_
                      assumption
    · exact Rel.refl _ _
  · exact Rel.refl _ _

theorem State.eraseFor_rel (s : State) (t : Transition) : Rel [.mem, .mailboxes, .nand, .journal, .life, .start] s (State.eraseFor s t) := by
  unfold State.eraseFor
  extract_lets +onlyGivenNames x1; (refine Rel.via (t := x1) ?_ (fun _ => ?_); (on_goal 2 => try clear_value x1); (on_goal 1 => unfold x1); (on_goal 1 => clear x1))
  · split
    · refine Rel.step (by decide) Rel.set_nand_journal ?_
      exact Rel.refl _ _
    · exact Rel.refl _ _
  · extract_lets +onlyGivenNames x2; (refine Rel.via (t := x2) ?_ (fun _ => ?_); (on_goal 2 => try clear_value x2); (on_goal 1 => unfold x2); (on_goal 1 => clear x2))
    · split
      · refine Rel.step (by decide) (Rel.set_mem (hm := ?_)) ?_
        · exact Memory.clear_wf _ _
        · assumption
      · assumption
    · extract_lets +onlyGivenNames x3; try clear_value x3
      extract_lets +onlyGivenNames x4; try clear_value x4
      extract_lets +onlyGivenNames x5; (refine Rel.via (t := x5) ?_ (fun _ => ?_); (on_goal 2 => try clear_value x5); (on_goal 1 => unfold x5); (on_goal 1 => clear x5))
      · split
        · refine Rel.step (by decide) Rel.set_life_start ?_
          assumption
        · assumption
      · refine Rel.step (by decide) (State.endSessions_rel _) ?_
        assumption

theorem State.gafferReset_rel (s : State) : Rel [.mem, .cores, .ctxs, .migs, .asks, .stalled, .rowCopies, .freed, .tcache, .flows, .trk, .ctrl, .fcache, .atoms, .probes, .macs, .mailboxes, .handles, .life, .start, .pcie, .pins] s (State.gafferReset s) := by
  unfold State.gafferReset
  refine Rel.step (by decide) (Rel.set_mem_cores_ctxs_migs_asks_stalled_rowCopies_freed_tcache_flows_trk_ctrl_fcache_atoms_probes_macs_mailboxes_handles_life_start_pcie_pins (hm := ?_)) ?_
  · exact fun _ => rfl
  · exact Rel.refl _ _

theorem State.installRecord_rel (s : State) (type : Nat) (b : List Byte) : Rel [.ports, .mailboxes, .life, .start] s (State.installRecord s type b) := by
  unfold State.installRecord
  extract_lets +onlyGivenNames x1; try clear_value x1
  extract_lets +onlyGivenNames x2; try clear_value x2
  extract_lets +onlyGivenNames x3; (refine Rel.via (t := x3) ?_ (fun _ => ?_); (on_goal 2 => try clear_value x3); (on_goal 1 => unfold x3); (on_goal 1 => clear x3))
  · refine Rel.step (by decide) Rel.set_life ?_
    exact Rel.refl _ _
  · split
    · refine Rel.foldl (fun _ _ => ?_) ?_
      · refine Rel.step (by decide) (State.applyPorts_rel _ _) ?_
        refine Rel.step (by decide) (State.updPort_rel _ _ _) ?_
        exact Rel.refl _ _
      · assumption
    · split
      · extract_lets +onlyGivenNames x4; try clear_value x4
        extract_lets +onlyGivenNames x5; (refine Rel.via (t := x5) ?_ (fun _ => ?_); (on_goal 2 => try clear_value x5); (on_goal 1 => unfold x5); (on_goal 1 => clear x5))
        · refine Rel.step (by decide) Rel.set_start ?_
          assumption
        · extract_lets +onlyGivenNames x6; try clear_value x6
          split
          · refine Rel.step (by decide) (State.endSession_rel _ _) ?_
            assumption
          · assumption
      · assumption

theorem State.lifeMove_rel (s : State) (rq : Req) (froms : List Nat) (key : Option (List Byte)) (t : Transition) : Rel [.out, .fresh, .mem, .cores, .ctxs, .migs, .asks, .stalled, .lend, .rowCopies, .freed, .flows, .ctrl, .ctrlNext, .fcache, .macs, .ecnDraws, .mailboxes, .handles, .log, .logNext, .logOverflow, .counters, .nand, .life, .pcie] s (State.lifeMove s rq froms key t).1 := by
  unfold State.lifeMove
  refine State.adm_rel (by decide) ?_ ?_
  · refine State.bodyOf_rel (by decide) ?_ ?_
    · split
      · refine Rel.step (by decide) (State.fail_rel _ _) ?_
        exact Rel.refl _ _
      · split
        · refine Rel.step (by decide) (State.fail_rel _ _) ?_
          exact Rel.refl _ _
        · split
          · refine Rel.step (by decide) (State.acceptTransition_rel _ _) ?_
            exact Rel.refl _ _
          · split
            · refine Rel.step (by decide) (State.acceptTransition_rel _ _) ?_
              refine Rel.step (by decide) (State.spent_rel _ _) ?_
              exact Rel.refl _ _
            · refine Rel.step (by decide) (State.fail_rel _ _) ?_
              exact Rel.refl _ _
    · exact Rel.refl _ _
  · exact Rel.refl _ _

theorem execAttest_next (rq : Req) (s : State) : Next [.out, .ctxs, .mailboxes, .log, .logNext, .logOverflow] s (execAttest rq s) := by
  unfold execAttest
  refine Next.intro ?_
  refine State.mailCmd_rel (by decide) (fun _ => ?_) ?_
  · extract_lets +onlyGivenNames x1; try clear_value x1
    split
    · refine Rel.step (by decide) (State.fail_rel _ _) ?_
      exact Rel.refl _ _
    · split
      · refine Rel.step (by decide) (State.fail_rel _ _) ?_
        exact Rel.refl _ _
      · refine State.bodyOf_rel (by decide) ?_ ?_
        · split
          · refine Rel.step (by decide) (State.done_rel _ _) ?_
            exact Rel.refl _ _
          · refine Rel.step (by decide) (State.done_rel _ _) ?_
            exact Rel.refl _ _
        · exact Rel.refl _ _
  · exact Rel.refl _ _

theorem execDebugChallenge_next (rq : Req) (s : State) : Next [.out, .fresh, .ctxs, .mailboxes, .log, .logNext, .logOverflow] s (execDebugChallenge rq s) := by
  unfold execDebugChallenge
  refine Next.intro ?_
  refine State.actionCmd_rel (by decide) (fun _ => ?_) ?_
  · refine State.adm_rel (by decide) ?_ ?_
    · refine State.bodyOf_rel (by decide) ?_ ?_
      · refine Rel.step (by decide) (State.challenge_rel _ _) ?_
        exact Rel.refl _ _
      · exact Rel.refl _ _
    · exact Rel.refl _ _
  · exact Rel.refl _ _

theorem execDebugInvasive_next (rq : Req) (s : State) : Next [.out, .fresh, .mem, .cores, .ctxs, .migs, .asks, .stalled, .lend, .rowCopies, .freed, .flows, .ctrl, .ctrlNext, .fcache, .macs, .ecnDraws, .mailboxes, .handles, .log, .logNext, .logOverflow, .counters, .nand, .life, .pcie] s (execDebugInvasive rq s) := by
  unfold execDebugInvasive
  refine Next.intro ?_
  refine State.actionCmd_rel (by decide) (fun _ => ?_) ?_
  · refine Rel.step (by decide) (State.debugTo_rel _ _ _) ?_
    exact Rel.refl _ _
  · exact Rel.refl _ _

theorem execDebugNone_next (rq : Req) (s : State) : Next [.out, .fresh, .mem, .cores, .ctxs, .migs, .asks, .stalled, .lend, .rowCopies, .freed, .flows, .ctrl, .ctrlNext, .fcache, .macs, .ecnDraws, .mailboxes, .handles, .log, .logNext, .logOverflow, .counters, .nand, .life, .pcie] s (execDebugNone rq s) := by
  unfold execDebugNone
  refine Next.intro ?_
  refine State.actionCmd_rel (by decide) (fun _ => ?_) ?_
  · refine Rel.step (by decide) (State.debugTo_rel _ _ _) ?_
    exact Rel.refl _ _
  · exact Rel.refl _ _

theorem execDebugObserve_next (rq : Req) (s : State) : Next [.out, .fresh, .mem, .cores, .ctxs, .migs, .asks, .stalled, .lend, .rowCopies, .freed, .flows, .ctrl, .ctrlNext, .fcache, .macs, .ecnDraws, .mailboxes, .handles, .log, .logNext, .logOverflow, .counters, .nand, .life, .pcie] s (execDebugObserve rq s) := by
  unfold execDebugObserve
  refine Next.intro ?_
  refine State.actionCmd_rel (by decide) (fun _ => ?_) ?_
  · refine Rel.step (by decide) (State.debugTo_rel _ _ _) ?_
    exact Rel.refl _ _
  · exact Rel.refl _ _

theorem execGafferReset_next (_cause : Nat) (s : State) : Next [.mem, .cores, .ctxs, .migs, .asks, .stalled, .rowCopies, .freed, .tcache, .flows, .trk, .ctrl, .fcache, .atoms, .probes, .macs, .mailboxes, .handles, .life, .start, .pcie, .pins] s (execGafferReset _cause s) := by
  unfold execGafferReset
  split
  · refine Next.intro ?_
    refine Rel.step (by decide) (State.gafferReset_rel _) ?_
    exact Rel.refl _ _
  · refine Next.intro ?_
    exact Rel.refl _ _

theorem execLifecycleChallenge_next (rq : Req) (s : State) : Next [.out, .fresh, .ctxs, .mailboxes, .log, .logNext, .logOverflow] s (execLifecycleChallenge rq s) := by
  unfold execLifecycleChallenge
  refine Next.intro ?_
  refine State.actionCmd_rel (by decide) (fun _ => ?_) ?_
  · refine State.adm_rel (by decide) ?_ ?_
    · refine State.bodyOf_rel (by decide) ?_ ?_
      · refine Rel.step (by decide) (State.challenge_rel _ _) ?_
        exact Rel.refl _ _
      · exact Rel.refl _ _
    · exact Rel.refl _ _
  · exact Rel.refl _ _

theorem execLifecycleInstallRecord_next (rq : Req) (record : Dma) (s : State) : Next [.out, .ctxs, .ports, .mailboxes, .log, .logNext, .logOverflow, .life, .start] s (execLifecycleInstallRecord rq record s) := by
  unfold execLifecycleInstallRecord
  refine Next.intro ?_
  refine State.actionCmd_rel (by decide) (fun _ => ?_) ?_
  · refine State.adm_rel (by decide) ?_ ?_
    · refine State.bodyOf_rel (by decide) ?_ ?_
      · split
        · refine Rel.step (by decide) (State.fail_rel _ _) ?_
          exact Rel.refl _ _
        · split
          · refine Rel.step (by decide) (State.fail_rel _ _) ?_
            exact Rel.refl _ _
          · extract_lets +onlyGivenNames x1; try clear_value x1
            split
            · refine Rel.step (by decide) (State.fail_rel _ _) ?_
              exact Rel.refl _ _
            · refine Rel.step (by decide) (State.done_rel _ _) ?_
              refine Rel.step (by decide) (State.installRecord_rel _ _ _) ?_
              exact Rel.refl _ _
      · exact Rel.refl _ _
    · exact Rel.refl _ _
  · exact Rel.refl _ _

theorem execLifecycleManufactureToField_next (rq : Req) (s : State) : Next [.out, .fresh, .mem, .cores, .ctxs, .migs, .asks, .stalled, .lend, .rowCopies, .freed, .flows, .ctrl, .ctrlNext, .fcache, .macs, .ecnDraws, .mailboxes, .handles, .log, .logNext, .logOverflow, .counters, .nand, .life, .pcie] s (execLifecycleManufactureToField rq s) := by
  unfold execLifecycleManufactureToField
  refine Next.intro ?_
  refine State.actionCmd_rel (by decide) (fun _ => ?_) ?_
  · refine Rel.step (by decide) (State.lifeMove_rel _ _ _ _ _) ?_
    exact Rel.refl _ _
  · exact Rel.refl _ _

theorem execLifecycleReadRecord_next (rq : Req) (s : State) : Next [.out, .ctxs, .mailboxes, .log, .logNext, .logOverflow] s (execLifecycleReadRecord rq s) := by
  unfold execLifecycleReadRecord
  refine Next.intro ?_
  refine State.actionCmd_rel (by decide) (fun _ => ?_) ?_
  · refine State.adm_rel (by decide) ?_ ?_
    · refine State.bodyOf_rel (by decide) ?_ ?_
      · split
        · refine Rel.step (by decide) (State.fail_rel _ _) ?_
          exact Rel.refl _ _
        · refine Rel.step (by decide) (State.done_rel _ _) ?_
          refine Rel.step (by decide) (State.dma_rel _ _ _ _) ?_
          exact Rel.refl _ _
      · exact Rel.refl _ _
    · exact Rel.refl _ _
  · exact Rel.refl _ _

theorem execLifecycleToField_next (rq : Req) (s : State) : Next [.out, .fresh, .mem, .cores, .ctxs, .migs, .asks, .stalled, .lend, .rowCopies, .freed, .flows, .ctrl, .ctrlNext, .fcache, .macs, .ecnDraws, .mailboxes, .handles, .log, .logNext, .logOverflow, .counters, .nand, .life, .pcie] s (execLifecycleToField rq s) := by
  unfold execLifecycleToField
  refine Next.intro ?_
  refine State.actionCmd_rel (by decide) (fun _ => ?_) ?_
  · refine Rel.step (by decide) (State.lifeMove_rel _ _ _ _ _) ?_
    exact Rel.refl _ _
  · exact Rel.refl _ _

theorem execLifecycleToFieldDebug_next (rq : Req) (s : State) : Next [.out, .fresh, .mem, .cores, .ctxs, .migs, .asks, .stalled, .lend, .rowCopies, .freed, .flows, .ctrl, .ctrlNext, .fcache, .macs, .ecnDraws, .mailboxes, .handles, .log, .logNext, .logOverflow, .counters, .nand, .life, .pcie] s (execLifecycleToFieldDebug rq s) := by
  unfold execLifecycleToFieldDebug
  refine Next.intro ?_
  refine State.actionCmd_rel (by decide) (fun _ => ?_) ?_
  · refine Rel.step (by decide) (State.lifeMove_rel _ _ _ _ _) ?_
    exact Rel.refl _ _
  · exact Rel.refl _ _

theorem execLifecycleToManufacture_next (rq : Req) (s : State) : Next [.out, .fresh, .mem, .cores, .ctxs, .migs, .asks, .stalled, .lend, .rowCopies, .freed, .flows, .ctrl, .ctrlNext, .fcache, .macs, .ecnDraws, .mailboxes, .handles, .log, .logNext, .logOverflow, .counters, .nand, .life, .pcie] s (execLifecycleToManufacture rq s) := by
  unfold execLifecycleToManufacture
  refine Next.intro ?_
  refine State.actionCmd_rel (by decide) (fun _ => ?_) ?_
  · refine Rel.step (by decide) (State.lifeMove_rel _ _ _ _ _) ?_
    exact Rel.refl _ _
  · exact Rel.refl _ _

theorem execLifecycleToReturned_next (rq : Req) (s : State) : Next [.out, .fresh, .mem, .cores, .ctxs, .migs, .asks, .stalled, .lend, .rowCopies, .freed, .flows, .ctrl, .ctrlNext, .fcache, .macs, .ecnDraws, .mailboxes, .handles, .log, .logNext, .logOverflow, .counters, .nand, .life, .pcie] s (execLifecycleToReturned rq s) := by
  unfold execLifecycleToReturned
  refine Next.intro ?_
  refine State.actionCmd_rel (by decide) (fun _ => ?_) ?_
  · refine Rel.step (by decide) (State.lifeMove_rel _ _ _ _ _) ?_
    exact Rel.refl _ _
  · exact Rel.refl _ _

theorem execLifecycleTransitionDone_next (s : State) : Next ([.out, .fresh, .mem, .cores, .ctxs, .migs, .asks, .stalled, .lend, .rowCopies, .freed, .tcache, .flows, .trk, .ctrl, .ctrlNext, .fcache, .atoms, .probes, .macs, .ecnDraws, .mailboxes, .handles, .log] ++ [.logNext, .logOverflow, .counters, .nand, .journal, .life, .start, .pcie, .pins]) s (execLifecycleTransitionDone s) := by
  unfold execLifecycleTransitionDone
  extract_lets +onlyGivenNames x1; (refine Next.via (t := x1) ?_ (fun _ => ?_); (on_goal 2 => try clear_value x1); (on_goal 1 => unfold x1); (on_goal 1 => clear x1))
  · refine Rel.step (by decide) (State.beginTransition_rel _) ?_
    exact Rel.refl _ _
  · split
    · refine Next.intro ?_
      assumption
    · split
      · refine Next.intro ?_
        assumption
      · extract_lets +onlyGivenNames x2; (refine Next.via (t := x2) ?_ (fun _ => ?_); (on_goal 2 => try clear_value x2); (on_goal 1 => unfold x2); (on_goal 1 => clear x2))
        · refine Rel.step (by decide) (State.eraseFor_rel _ _) ?_
          assumption
        · split
          · refine Next.intro ?_
            refine Rel.step (by decide) (State.gafferReset_rel _) ?_
            refine Rel.step (by decide) Rel.set_life ?_
            assumption
          · refine Next.intro ?_
            refine Rel.step (by decide) (State.applyTransition_rel _ _) ?_
            assumption

end Sys2Proof.Machine
end

