-- ==== Sys2Proof/Laws/Map.lean ====
section
/-! SUPPORT. Sparse tables and the parts of the state: what a table holds after an entry is set, and what a part of the state is after a part has
been set. -/

namespace Sys2Proof

/-- After an entry is set the table holds it. -/
@[simp] theorem Map.find_set {α : Type} (m : Map α) (k : Nat) (v : α) : (m.set k v).find k = some v := by
  induction m with
  | nil => simp [Map.set, Map.find]
  | cons e m ih =>
    rw [Map.set]
    split
    · simp [Map.find]
    · split
      · simp [Map.find]
      · rename_i h1 h2
        simp [Map.find, h2, ih]

/-- The other entries stay. -/
theorem Map.find_set_ne {α : Type} (m : Map α) {k j : Nat} (v : α) (h : j ≠ k) : (m.set k v).find j = m.find j := by
  induction m with
  | nil => simp [Map.set, Map.find, Ne.symm h]
  | cons e m ih =>
    rw [Map.set]
    split
    · simp [Map.find, Ne.symm h]
    · split
      · rename_i h2
        simp [Map.find, h2, Ne.symm h]
      · simp only [Map.find, ih]

/-- The later of two values set at one key stands. -/
theorem Map.set_set {α : Type} (m : Map α) (k : Nat) (v w : α) : (m.set k v).set k w = m.set k w := by
  induction m with
  | nil => simp [Map.set]
  | cons a m ih =>
    by_cases h1 : k < a.1
    · simp [Map.set, h1]
    · by_cases h2 : a.1 = k
      · simp [Map.set, h2]
      · simp [Map.set, h1, h2, ih]

/-- A table's entries satisfy a test as before, when the entry that is set fares as the one it replaces. -/
theorem Map.any_set {α : Type} (m : Map α) (k : Nat) (v : α) (p : Nat × α → Bool) (h : ∀ w, m.find k = some w → p (k, v) = p (k, w))
    (g : m.find k = none → p (k, v) = false) : List.any (m.set k v) p = List.any m p := by
  have mem : ∀ (l : Map α) (w : α), l.find k = some w → (k, w) ∈ (l : List (Nat × α)) := by
    intro l w
    induction l with
    | nil => exact fun e => nomatch e
    | cons e l ih =>
      rw [Map.find]
      split
      · rename_i he
        intro hw
        cases hw
        exact he ▸ List.mem_cons_self
      · exact fun hw => List.mem_cons_of_mem _ (ih hw)
  have front : ∀ l : Map α, (∀ w, l.find k = some w → p (k, v) = p (k, w)) → (l.find k = none → p (k, v) = false) →
      (p (k, v) || List.any l p) = List.any l p := by
    intro l h g
    cases hf : l.find k with
    | none => simp [g hf]
    | some w =>
      cases hp : p (k, v)
      · rfl
      · exact (List.any_eq_true.mpr ⟨_, mem l w hf, by rw [← h w hf, hp]⟩).symm
  induction m with
  | nil => simpa [Map.set] using g rfl
  | cons e m ih =>
    rw [Map.set]
    split
    · exact front (e :: m) h g
    · split
      · rename_i he
        have := h e.2 (by simp [Map.find, he])
        have he' : (k, e.2) = e := by rw [← he]
        simp only [List.any_cons]
        rw [← he', this]
      · rename_i he
        have hf : Map.find (e :: m) k = Map.find m k := by simp [Map.find, he]
        rw [hf] at h g
        simp only [List.any_cons]
        exact congrArg _ (ih h g)

/-- Values set one after the other at distinct keys are all found. -/
theorem Map.find_foldl_set {α β : Type} (key : β → Nat) (val : β → α) (ps : List β) (m : Map α) (hn : (ps.map key).Nodup) {p : β} (hp : p ∈ ps) :
    (ps.foldl (fun m q => m.set (key q) (val q)) m).find (key p) = some (val p) := by
  have keep : ∀ (l : List β) (m : Map α) (k : Nat), k ∉ l.map key → (l.foldl (fun m q => m.set (key q) (val q)) m).find k = m.find k := by
    intro l
    induction l with
    | nil => intros; rfl
    | cons a l ih =>
      intro m k hk
      rw [List.map_cons, List.mem_cons, not_or] at hk
      rw [List.foldl_cons, ih _ _ hk.2, Map.find_set_ne _ _ hk.1]
  induction ps generalizing m with
  | nil => exact absurd hp List.not_mem_nil
  | cons a l ih =>
    rw [List.map_cons, List.nodup_cons] at hn
    rw [List.foldl_cons]
    rcases List.mem_cons.mp hp with rfl | hp
    · rw [keep l _ _ hn.1, Map.find_set]
    · exact ih _ hn.2 hp

@[simp] theorem Map.getOr_set {α : Type} (m : Map α) (k : Nat) (v d : α) : (m.set k v).getOr k d = v := by simp [Map.getOr]

theorem Map.getOr_set_ne {α : Type} (m : Map α) {k j : Nat} (v d : α) (h : j ≠ k) : (m.set k v).getOr j d = m.getOr j d := by
  simp [Map.getOr, Map.find_set_ne m v h]

@[simp] theorem Map.getOr_upd {α : Type} (m : Map α) (k : Nat) (d e : α) (f : α → α) : (m.upd k d f).getOr k e = f (m.getOr k d) := by
  simp [Map.upd]

/-- A change of every value changes what a listed key holds. -/
theorem Map.find_vals {α : Type} (m : Map α) (k : Nat) (f : Nat → α → α) : (m.vals f).find k = (m.find k).map (f k) := by
  induction m with
  | nil => rfl
  | cons e m ih =>
    rw [Map.vals] at ih
    simp only [Map.vals, List.map_cons, Map.find, ih]
    split
    · rename_i h
      subst h
      rfl
    · rfl

/-- A deleted key is not listed. -/
@[simp] theorem Map.find_del {α : Type} (m : Map α) (k : Nat) : (m.del k).find k = none := by
  induction m with
  | nil => rfl
  | cons e m ih =>
    rw [Map.del] at ih
    by_cases h : e.1 = k
    · simp [Map.del, h, ih]
    · simp [Map.del, h, Map.find, ih]

namespace Machine

@[simp] theorem State.ctx_setCtx (s : State) (x : Nat) (v : Ctx) : (s.setCtx x v).ctx x = v := by simp [State.ctx, State.setCtx]
theorem State.ctx_setCtx_ne (s : State) {x y : Nat} (v : Ctx) (h : y ≠ x) : (s.setCtx x v).ctx y = s.ctx y := by
  simp [State.ctx, State.setCtx, Map.getOr_set_ne _ _ _ h]
@[simp] theorem State.ctx_updCtx (s : State) (x : Nat) (f : Ctx → Ctx) : (s.updCtx x f).ctx x = f (s.ctx x) := by simp [State.updCtx]
theorem State.ctx_updCtx_ne (s : State) {x y : Nat} (f : Ctx → Ctx) (h : y ≠ x) : (s.updCtx x f).ctx y = s.ctx y := by
  simp [State.updCtx, State.ctx_setCtx_ne _ _ h]
@[simp] theorem State.core_setCore (s : State) (c : Nat) (v : Core) : (s.setCore c v).core c = v := by simp [State.core, State.setCore]
theorem State.core_setCore_ne (s : State) {c d : Nat} (v : Core) (h : d ≠ c) : (s.setCore c v).core d = s.core d := by
  simp [State.core, State.setCore, Map.getOr_set_ne _ _ _ h]
@[simp] theorem State.core_updCore (s : State) (c : Nat) (f : Core → Core) : (s.updCore c f).core c = f (s.core c) := by simp [State.updCore]
theorem State.core_updCore_ne (s : State) {c d : Nat} (f : Core → Core) (h : d ≠ c) : (s.updCore c f).core d = s.core d := by
  simp [State.updCore, State.core_setCore_ne _ _ h]
@[simp] theorem Core.ring_setRing (k : Core) (r : Nat) (v : Ring) : (k.setRing r v).ring r = v := by simp [Core.ring, Core.setRing]
theorem Core.ring_setRing_ne (k : Core) {r q : Nat} (v : Ring) (h : q ≠ r) : (k.setRing r v).ring q = k.ring q := by
  simp [Core.ring, Core.setRing, Map.getOr_set_ne _ _ _ h]
@[simp] theorem Core.ring_updRing (k : Core) (r : Nat) (f : Ring → Ring) : (k.updRing r f).ring r = f (k.ring r) := by simp [Core.updRing]
@[simp] theorem State.ring_updRing (s : State) (c r : Nat) (f : Ring → Ring) : (s.updRing c r f).ring c r = f (s.ring c r) := by
  simp [State.ring, State.updRing]
@[simp] theorem State.flow_setFlow (s : State) (f : Nat) (v : Flow) : (s.setFlow f v).flow f = v := by simp [State.flow, State.setFlow]
theorem State.flow_setFlow_ne (s : State) {f g : Nat} (v : Flow) (h : g ≠ f) : (s.setFlow f v).flow g = s.flow g := by
  simp [State.flow, State.setFlow, Map.getOr_set_ne _ _ _ h]
@[simp] theorem State.flow_updFlow (s : State) (f : Nat) (g : Flow → Flow) : (s.updFlow f g).flow f = g (s.flow f) := by simp [State.updFlow]
@[simp] theorem State.mac_setMac (s : State) (m : Nat) (v : Mac) : (s.setMac m v).mac m = v := by simp [State.mac, State.setMac]
@[simp] theorem State.mac_updMac (s : State) (m : Nat) (f : Mac → Mac) : (s.updMac m f).mac m = f (s.mac m) := by simp [State.updMac]
@[simp] theorem State.port_setPort (s : State) (p : Nat) (v : Port) : (s.setPort p v).port p = v := by simp [State.port, State.setPort]
@[simp] theorem State.port_updPort (s : State) (p : Nat) (f : Port → Port) : (s.updPort p f).port p = f (s.port p) := by simp [State.updPort]
@[simp] theorem State.lane_updLane (s : State) (l : Nat) (f : Lane → Lane) : (s.updLane l f).lane l = f (s.lane l) := by
  simp [State.lane, State.updLane]
@[simp] theorem State.mbox_setMbox (s : State) (m : Nat) (v : Mailbox) : (s.setMbox m v).mbox m = v := by simp [State.mbox, State.setMbox]
theorem State.mbox_setMbox_ne (s : State) {m n : Nat} (v : Mailbox) (h : n ≠ m) : (s.setMbox m v).mbox n = s.mbox n := by
  simp [State.mbox, State.setMbox, Map.getOr_set_ne _ _ _ h]
@[simp] theorem State.mbox_updMbox (s : State) (m : Nat) (f : Mailbox → Mailbox) : (s.updMbox m f).mbox m = f (s.mbox m) := by
  simp [State.updMbox]
@[simp] theorem State.handle_setHandle (s : State) (k : Nat) (v : Handle) : (s.setHandle k v).handle k = some v := by
  simp [State.handle, State.setHandle]
theorem State.handle_setHandle_ne (s : State) {k j : Nat} (v : Handle) (h : j ≠ k) : (s.setHandle k v).handle j = s.handle j := by
  simp [State.handle, State.setHandle, Map.find_set_ne _ _ h]

end Machine

end Sys2Proof
end

