-- ==== Sys2Proof/Laws/State.lean ====
section
/-! SUPPORT. For each named update of the state and each field, what the field is after the update. -/

namespace Sys2Proof.Machine

@[simp] theorem State.setCore_pending (s : State) (c : Nat) (v : Core) : (s.setCore c v).pending = s.pending := rfl
@[simp] theorem State.setCore_out (s : State) (c : Nat) (v : Core) : (s.setCore c v).out = s.out := rfl
@[simp] theorem State.setCore_fresh (s : State) (c : Nat) (v : Core) : (s.setCore c v).fresh = s.fresh := rfl
@[simp] theorem State.setCore_clk (s : State) (c : Nat) (v : Core) : (s.setCore c v).clk = s.clk := rfl
@[simp] theorem State.setCore_mem (s : State) (c : Nat) (v : Core) : (s.setCore c v).mem = s.mem := rfl
@[simp] theorem State.setCore_deviceId (s : State) (c : Nat) (v : Core) : (s.setCore c v).deviceId = s.deviceId := rfl
@[simp] theorem State.setCore_ctxs (s : State) (c : Nat) (v : Core) : (s.setCore c v).ctxs = s.ctxs := rfl
@[simp] theorem State.setCore_migs (s : State) (c : Nat) (v : Core) : (s.setCore c v).migs = s.migs := rfl
@[simp] theorem State.setCore_asks (s : State) (c : Nat) (v : Core) : (s.setCore c v).asks = s.asks := rfl
@[simp] theorem State.setCore_stalled (s : State) (c : Nat) (v : Core) : (s.setCore c v).stalled = s.stalled := rfl
@[simp] theorem State.setCore_migRr (s : State) (c : Nat) (v : Core) : (s.setCore c v).migRr = s.migRr := rfl
@[simp] theorem State.setCore_verifyLast (s : State) (c : Nat) (v : Core) : (s.setCore c v).verifyLast = s.verifyLast := rfl
@[simp] theorem State.setCore_lend (s : State) (c : Nat) (v : Core) : (s.setCore c v).lend = s.lend := rfl
@[simp] theorem State.setCore_banks (s : State) (c : Nat) (v : Core) : (s.setCore c v).banks = s.banks := rfl
@[simp] theorem State.setCore_rowCopies (s : State) (c : Nat) (v : Core) : (s.setCore c v).rowCopies = s.rowCopies := rfl
@[simp] theorem State.setCore_rowMap (s : State) (c : Nat) (v : Core) : (s.setCore c v).rowMap = s.rowMap := rfl
@[simp] theorem State.setCore_withdrawn (s : State) (c : Nat) (v : Core) : (s.setCore c v).withdrawn = s.withdrawn := rfl
@[simp] theorem State.setCore_retiredFrames (s : State) (c : Nat) (v : Core) : (s.setCore c v).retiredFrames = s.retiredFrames := rfl
@[simp] theorem State.setCore_freed (s : State) (c : Nat) (v : Core) : (s.setCore c v).freed = s.freed := rfl
@[simp] theorem State.setCore_tcache (s : State) (c : Nat) (v : Core) : (s.setCore c v).tcache = s.tcache := rfl
@[simp] theorem State.setCore_laneSpares (s : State) (c : Nat) (v : Core) : (s.setCore c v).laneSpares = s.laneSpares := rfl
@[simp] theorem State.setCore_bankSpares (s : State) (c : Nat) (v : Core) : (s.setCore c v).bankSpares = s.bankSpares := rfl
@[simp] theorem State.setCore_culls (s : State) (c : Nat) (v : Core) : (s.setCore c v).culls = s.culls := rfl
@[simp] theorem State.setCore_arrayErrs (s : State) (c : Nat) (v : Core) : (s.setCore c v).arrayErrs = s.arrayErrs := rfl
@[simp] theorem State.setCore_flows (s : State) (c : Nat) (v : Core) : (s.setCore c v).flows = s.flows := rfl
@[simp] theorem State.setCore_trk (s : State) (c : Nat) (v : Core) : (s.setCore c v).trk = s.trk := rfl
@[simp] theorem State.setCore_trkNext (s : State) (c : Nat) (v : Core) : (s.setCore c v).trkNext = s.trkNext := rfl
@[simp] theorem State.setCore_ctrl (s : State) (c : Nat) (v : Core) : (s.setCore c v).ctrl = s.ctrl := rfl
@[simp] theorem State.setCore_ctrlSeen (s : State) (c : Nat) (v : Core) : (s.setCore c v).ctrlSeen = s.ctrlSeen := rfl
@[simp] theorem State.setCore_ctrlNext (s : State) (c : Nat) (v : Core) : (s.setCore c v).ctrlNext = s.ctrlNext := rfl
@[simp] theorem State.setCore_fcache (s : State) (c : Nat) (v : Core) : (s.setCore c v).fcache = s.fcache := rfl
@[simp] theorem State.setCore_atoms (s : State) (c : Nat) (v : Core) : (s.setCore c v).atoms = s.atoms := rfl
@[simp] theorem State.setCore_probes (s : State) (c : Nat) (v : Core) : (s.setCore c v).probes = s.probes := rfl
@[simp] theorem State.setCore_probeLast (s : State) (c : Nat) (v : Core) : (s.setCore c v).probeLast = s.probeLast := rfl
@[simp] theorem State.setCore_links (s : State) (c : Nat) (v : Core) : (s.setCore c v).links = s.links := rfl
@[simp] theorem State.setCore_macs (s : State) (c : Nat) (v : Core) : (s.setCore c v).macs = s.macs := rfl
@[simp] theorem State.setCore_ports (s : State) (c : Nat) (v : Core) : (s.setCore c v).ports = s.ports := rfl
@[simp] theorem State.setCore_lanes (s : State) (c : Nat) (v : Core) : (s.setCore c v).lanes = s.lanes := rfl
@[simp] theorem State.setCore_recal (s : State) (c : Nat) (v : Core) : (s.setCore c v).recal = s.recal := rfl
@[simp] theorem State.setCore_recalPeriodS (s : State) (c : Nat) (v : Core) : (s.setCore c v).recalPeriodS = s.recalPeriodS := rfl
@[simp] theorem State.setCore_fwd (s : State) (c : Nat) (v : Core) : (s.setCore c v).fwd = s.fwd := rfl
@[simp] theorem State.setCore_peersIp (s : State) (c : Nat) (v : Core) : (s.setCore c v).peersIp = s.peersIp := rfl
@[simp] theorem State.setCore_fwdDropNs (s : State) (c : Nat) (v : Core) : (s.setCore c v).fwdDropNs = s.fwdDropNs := rfl
@[simp] theorem State.setCore_hopLimit (s : State) (c : Nat) (v : Core) : (s.setCore c v).hopLimit = s.hopLimit := rfl
@[simp] theorem State.setCore_ecnDraws (s : State) (c : Nat) (v : Core) : (s.setCore c v).ecnDraws = s.ecnDraws := rfl
@[simp] theorem State.setCore_mailboxes (s : State) (c : Nat) (v : Core) : (s.setCore c v).mailboxes = s.mailboxes := rfl
@[simp] theorem State.setCore_pwFails (s : State) (c : Nat) (v : Core) : (s.setCore c v).pwFails = s.pwFails := rfl
@[simp] theorem State.setCore_lockedUntil (s : State) (c : Nat) (v : Core) : (s.setCore c v).lockedUntil = s.lockedUntil := rfl
@[simp] theorem State.setCore_handles (s : State) (c : Nat) (v : Core) : (s.setCore c v).handles = s.handles := rfl
@[simp] theorem State.setCore_log (s : State) (c : Nat) (v : Core) : (s.setCore c v).log = s.log := rfl
@[simp] theorem State.setCore_logNext (s : State) (c : Nat) (v : Core) : (s.setCore c v).logNext = s.logNext := rfl
@[simp] theorem State.setCore_logOverflow (s : State) (c : Nat) (v : Core) : (s.setCore c v).logOverflow = s.logOverflow := rfl
@[simp] theorem State.setCore_counters (s : State) (c : Nat) (v : Core) : (s.setCore c v).counters = s.counters := rfl
@[simp] theorem State.setCore_nand (s : State) (c : Nat) (v : Core) : (s.setCore c v).nand = s.nand := rfl
@[simp] theorem State.setCore_journal (s : State) (c : Nat) (v : Core) : (s.setCore c v).journal = s.journal := rfl
@[simp] theorem State.setCore_power (s : State) (c : Nat) (v : Core) : (s.setCore c v).power = s.power := rfl
@[simp] theorem State.setCore_life (s : State) (c : Nat) (v : Core) : (s.setCore c v).life = s.life := rfl
@[simp] theorem State.setCore_start (s : State) (c : Nat) (v : Core) : (s.setCore c v).start = s.start := rfl
@[simp] theorem State.setCore_pcie (s : State) (c : Nat) (v : Core) : (s.setCore c v).pcie = s.pcie := rfl
@[simp] theorem State.setCore_pins (s : State) (c : Nat) (v : Core) : (s.setCore c v).pins = s.pins := rfl

@[simp] theorem State.updCore_pending (s : State) (c : Nat) (f : Core → Core) : (s.updCore c f).pending = s.pending := rfl
@[simp] theorem State.updCore_out (s : State) (c : Nat) (f : Core → Core) : (s.updCore c f).out = s.out := rfl
@[simp] theorem State.updCore_fresh (s : State) (c : Nat) (f : Core → Core) : (s.updCore c f).fresh = s.fresh := rfl
@[simp] theorem State.updCore_clk (s : State) (c : Nat) (f : Core → Core) : (s.updCore c f).clk = s.clk := rfl
@[simp] theorem State.updCore_mem (s : State) (c : Nat) (f : Core → Core) : (s.updCore c f).mem = s.mem := rfl
@[simp] theorem State.updCore_deviceId (s : State) (c : Nat) (f : Core → Core) : (s.updCore c f).deviceId = s.deviceId := rfl
@[simp] theorem State.updCore_ctxs (s : State) (c : Nat) (f : Core → Core) : (s.updCore c f).ctxs = s.ctxs := rfl
@[simp] theorem State.updCore_migs (s : State) (c : Nat) (f : Core → Core) : (s.updCore c f).migs = s.migs := rfl
@[simp] theorem State.updCore_asks (s : State) (c : Nat) (f : Core → Core) : (s.updCore c f).asks = s.asks := rfl
@[simp] theorem State.updCore_stalled (s : State) (c : Nat) (f : Core → Core) : (s.updCore c f).stalled = s.stalled := rfl
@[simp] theorem State.updCore_migRr (s : State) (c : Nat) (f : Core → Core) : (s.updCore c f).migRr = s.migRr := rfl
@[simp] theorem State.updCore_verifyLast (s : State) (c : Nat) (f : Core → Core) : (s.updCore c f).verifyLast = s.verifyLast := rfl
@[simp] theorem State.updCore_lend (s : State) (c : Nat) (f : Core → Core) : (s.updCore c f).lend = s.lend := rfl
@[simp] theorem State.updCore_banks (s : State) (c : Nat) (f : Core → Core) : (s.updCore c f).banks = s.banks := rfl
@[simp] theorem State.updCore_rowCopies (s : State) (c : Nat) (f : Core → Core) : (s.updCore c f).rowCopies = s.rowCopies := rfl
@[simp] theorem State.updCore_rowMap (s : State) (c : Nat) (f : Core → Core) : (s.updCore c f).rowMap = s.rowMap := rfl
@[simp] theorem State.updCore_withdrawn (s : State) (c : Nat) (f : Core → Core) : (s.updCore c f).withdrawn = s.withdrawn := rfl
@[simp] theorem State.updCore_retiredFrames (s : State) (c : Nat) (f : Core → Core) : (s.updCore c f).retiredFrames = s.retiredFrames := rfl
@[simp] theorem State.updCore_freed (s : State) (c : Nat) (f : Core → Core) : (s.updCore c f).freed = s.freed := rfl
@[simp] theorem State.updCore_tcache (s : State) (c : Nat) (f : Core → Core) : (s.updCore c f).tcache = s.tcache := rfl
@[simp] theorem State.updCore_laneSpares (s : State) (c : Nat) (f : Core → Core) : (s.updCore c f).laneSpares = s.laneSpares := rfl
@[simp] theorem State.updCore_bankSpares (s : State) (c : Nat) (f : Core → Core) : (s.updCore c f).bankSpares = s.bankSpares := rfl
@[simp] theorem State.updCore_culls (s : State) (c : Nat) (f : Core → Core) : (s.updCore c f).culls = s.culls := rfl
@[simp] theorem State.updCore_arrayErrs (s : State) (c : Nat) (f : Core → Core) : (s.updCore c f).arrayErrs = s.arrayErrs := rfl
@[simp] theorem State.updCore_flows (s : State) (c : Nat) (f : Core → Core) : (s.updCore c f).flows = s.flows := rfl
@[simp] theorem State.updCore_trk (s : State) (c : Nat) (f : Core → Core) : (s.updCore c f).trk = s.trk := rfl
@[simp] theorem State.updCore_trkNext (s : State) (c : Nat) (f : Core → Core) : (s.updCore c f).trkNext = s.trkNext := rfl
@[simp] theorem State.updCore_ctrl (s : State) (c : Nat) (f : Core → Core) : (s.updCore c f).ctrl = s.ctrl := rfl
@[simp] theorem State.updCore_ctrlSeen (s : State) (c : Nat) (f : Core → Core) : (s.updCore c f).ctrlSeen = s.ctrlSeen := rfl
@[simp] theorem State.updCore_ctrlNext (s : State) (c : Nat) (f : Core → Core) : (s.updCore c f).ctrlNext = s.ctrlNext := rfl
@[simp] theorem State.updCore_fcache (s : State) (c : Nat) (f : Core → Core) : (s.updCore c f).fcache = s.fcache := rfl
@[simp] theorem State.updCore_atoms (s : State) (c : Nat) (f : Core → Core) : (s.updCore c f).atoms = s.atoms := rfl
@[simp] theorem State.updCore_probes (s : State) (c : Nat) (f : Core → Core) : (s.updCore c f).probes = s.probes := rfl
@[simp] theorem State.updCore_probeLast (s : State) (c : Nat) (f : Core → Core) : (s.updCore c f).probeLast = s.probeLast := rfl
@[simp] theorem State.updCore_links (s : State) (c : Nat) (f : Core → Core) : (s.updCore c f).links = s.links := rfl
@[simp] theorem State.updCore_macs (s : State) (c : Nat) (f : Core → Core) : (s.updCore c f).macs = s.macs := rfl
@[simp] theorem State.updCore_ports (s : State) (c : Nat) (f : Core → Core) : (s.updCore c f).ports = s.ports := rfl
@[simp] theorem State.updCore_lanes (s : State) (c : Nat) (f : Core → Core) : (s.updCore c f).lanes = s.lanes := rfl
@[simp] theorem State.updCore_recal (s : State) (c : Nat) (f : Core → Core) : (s.updCore c f).recal = s.recal := rfl
@[simp] theorem State.updCore_recalPeriodS (s : State) (c : Nat) (f : Core → Core) : (s.updCore c f).recalPeriodS = s.recalPeriodS := rfl
@[simp] theorem State.updCore_fwd (s : State) (c : Nat) (f : Core → Core) : (s.updCore c f).fwd = s.fwd := rfl
@[simp] theorem State.updCore_peersIp (s : State) (c : Nat) (f : Core → Core) : (s.updCore c f).peersIp = s.peersIp := rfl
@[simp] theorem State.updCore_fwdDropNs (s : State) (c : Nat) (f : Core → Core) : (s.updCore c f).fwdDropNs = s.fwdDropNs := rfl
@[simp] theorem State.updCore_hopLimit (s : State) (c : Nat) (f : Core → Core) : (s.updCore c f).hopLimit = s.hopLimit := rfl
@[simp] theorem State.updCore_ecnDraws (s : State) (c : Nat) (f : Core → Core) : (s.updCore c f).ecnDraws = s.ecnDraws := rfl
@[simp] theorem State.updCore_mailboxes (s : State) (c : Nat) (f : Core → Core) : (s.updCore c f).mailboxes = s.mailboxes := rfl
@[simp] theorem State.updCore_pwFails (s : State) (c : Nat) (f : Core → Core) : (s.updCore c f).pwFails = s.pwFails := rfl
@[simp] theorem State.updCore_lockedUntil (s : State) (c : Nat) (f : Core → Core) : (s.updCore c f).lockedUntil = s.lockedUntil := rfl
@[simp] theorem State.updCore_handles (s : State) (c : Nat) (f : Core → Core) : (s.updCore c f).handles = s.handles := rfl
@[simp] theorem State.updCore_log (s : State) (c : Nat) (f : Core → Core) : (s.updCore c f).log = s.log := rfl
@[simp] theorem State.updCore_logNext (s : State) (c : Nat) (f : Core → Core) : (s.updCore c f).logNext = s.logNext := rfl
@[simp] theorem State.updCore_logOverflow (s : State) (c : Nat) (f : Core → Core) : (s.updCore c f).logOverflow = s.logOverflow := rfl
@[simp] theorem State.updCore_counters (s : State) (c : Nat) (f : Core → Core) : (s.updCore c f).counters = s.counters := rfl
@[simp] theorem State.updCore_nand (s : State) (c : Nat) (f : Core → Core) : (s.updCore c f).nand = s.nand := rfl
@[simp] theorem State.updCore_journal (s : State) (c : Nat) (f : Core → Core) : (s.updCore c f).journal = s.journal := rfl
@[simp] theorem State.updCore_power (s : State) (c : Nat) (f : Core → Core) : (s.updCore c f).power = s.power := rfl
@[simp] theorem State.updCore_life (s : State) (c : Nat) (f : Core → Core) : (s.updCore c f).life = s.life := rfl
@[simp] theorem State.updCore_start (s : State) (c : Nat) (f : Core → Core) : (s.updCore c f).start = s.start := rfl
@[simp] theorem State.updCore_pcie (s : State) (c : Nat) (f : Core → Core) : (s.updCore c f).pcie = s.pcie := rfl
@[simp] theorem State.updCore_pins (s : State) (c : Nat) (f : Core → Core) : (s.updCore c f).pins = s.pins := rfl

@[simp] theorem State.setCtx_pending (s : State) (x : Nat) (v : Ctx) : (s.setCtx x v).pending = s.pending := rfl
@[simp] theorem State.setCtx_out (s : State) (x : Nat) (v : Ctx) : (s.setCtx x v).out = s.out := rfl
@[simp] theorem State.setCtx_fresh (s : State) (x : Nat) (v : Ctx) : (s.setCtx x v).fresh = s.fresh := rfl
@[simp] theorem State.setCtx_clk (s : State) (x : Nat) (v : Ctx) : (s.setCtx x v).clk = s.clk := rfl
@[simp] theorem State.setCtx_mem (s : State) (x : Nat) (v : Ctx) : (s.setCtx x v).mem = s.mem := rfl
@[simp] theorem State.setCtx_deviceId (s : State) (x : Nat) (v : Ctx) : (s.setCtx x v).deviceId = s.deviceId := rfl
@[simp] theorem State.setCtx_cores (s : State) (x : Nat) (v : Ctx) : (s.setCtx x v).cores = s.cores := rfl
@[simp] theorem State.setCtx_migs (s : State) (x : Nat) (v : Ctx) : (s.setCtx x v).migs = s.migs := rfl
@[simp] theorem State.setCtx_asks (s : State) (x : Nat) (v : Ctx) : (s.setCtx x v).asks = s.asks := rfl
@[simp] theorem State.setCtx_stalled (s : State) (x : Nat) (v : Ctx) : (s.setCtx x v).stalled = s.stalled := rfl
@[simp] theorem State.setCtx_migRr (s : State) (x : Nat) (v : Ctx) : (s.setCtx x v).migRr = s.migRr := rfl
@[simp] theorem State.setCtx_verifyLast (s : State) (x : Nat) (v : Ctx) : (s.setCtx x v).verifyLast = s.verifyLast := rfl
@[simp] theorem State.setCtx_lend (s : State) (x : Nat) (v : Ctx) : (s.setCtx x v).lend = s.lend := rfl
@[simp] theorem State.setCtx_banks (s : State) (x : Nat) (v : Ctx) : (s.setCtx x v).banks = s.banks := rfl
@[simp] theorem State.setCtx_rowCopies (s : State) (x : Nat) (v : Ctx) : (s.setCtx x v).rowCopies = s.rowCopies := rfl
@[simp] theorem State.setCtx_rowMap (s : State) (x : Nat) (v : Ctx) : (s.setCtx x v).rowMap = s.rowMap := rfl
@[simp] theorem State.setCtx_withdrawn (s : State) (x : Nat) (v : Ctx) : (s.setCtx x v).withdrawn = s.withdrawn := rfl
@[simp] theorem State.setCtx_retiredFrames (s : State) (x : Nat) (v : Ctx) : (s.setCtx x v).retiredFrames = s.retiredFrames := rfl
@[simp] theorem State.setCtx_freed (s : State) (x : Nat) (v : Ctx) : (s.setCtx x v).freed = s.freed := rfl
@[simp] theorem State.setCtx_tcache (s : State) (x : Nat) (v : Ctx) : (s.setCtx x v).tcache = s.tcache := rfl
@[simp] theorem State.setCtx_laneSpares (s : State) (x : Nat) (v : Ctx) : (s.setCtx x v).laneSpares = s.laneSpares := rfl
@[simp] theorem State.setCtx_bankSpares (s : State) (x : Nat) (v : Ctx) : (s.setCtx x v).bankSpares = s.bankSpares := rfl
@[simp] theorem State.setCtx_culls (s : State) (x : Nat) (v : Ctx) : (s.setCtx x v).culls = s.culls := rfl
@[simp] theorem State.setCtx_arrayErrs (s : State) (x : Nat) (v : Ctx) : (s.setCtx x v).arrayErrs = s.arrayErrs := rfl
@[simp] theorem State.setCtx_flows (s : State) (x : Nat) (v : Ctx) : (s.setCtx x v).flows = s.flows := rfl
@[simp] theorem State.setCtx_trk (s : State) (x : Nat) (v : Ctx) : (s.setCtx x v).trk = s.trk := rfl
@[simp] theorem State.setCtx_trkNext (s : State) (x : Nat) (v : Ctx) : (s.setCtx x v).trkNext = s.trkNext := rfl
@[simp] theorem State.setCtx_ctrl (s : State) (x : Nat) (v : Ctx) : (s.setCtx x v).ctrl = s.ctrl := rfl
@[simp] theorem State.setCtx_ctrlSeen (s : State) (x : Nat) (v : Ctx) : (s.setCtx x v).ctrlSeen = s.ctrlSeen := rfl
@[simp] theorem State.setCtx_ctrlNext (s : State) (x : Nat) (v : Ctx) : (s.setCtx x v).ctrlNext = s.ctrlNext := rfl
@[simp] theorem State.setCtx_fcache (s : State) (x : Nat) (v : Ctx) : (s.setCtx x v).fcache = s.fcache := rfl
@[simp] theorem State.setCtx_atoms (s : State) (x : Nat) (v : Ctx) : (s.setCtx x v).atoms = s.atoms := rfl
@[simp] theorem State.setCtx_probes (s : State) (x : Nat) (v : Ctx) : (s.setCtx x v).probes = s.probes := rfl
@[simp] theorem State.setCtx_probeLast (s : State) (x : Nat) (v : Ctx) : (s.setCtx x v).probeLast = s.probeLast := rfl
@[simp] theorem State.setCtx_links (s : State) (x : Nat) (v : Ctx) : (s.setCtx x v).links = s.links := rfl
@[simp] theorem State.setCtx_macs (s : State) (x : Nat) (v : Ctx) : (s.setCtx x v).macs = s.macs := rfl
@[simp] theorem State.setCtx_ports (s : State) (x : Nat) (v : Ctx) : (s.setCtx x v).ports = s.ports := rfl
@[simp] theorem State.setCtx_lanes (s : State) (x : Nat) (v : Ctx) : (s.setCtx x v).lanes = s.lanes := rfl
@[simp] theorem State.setCtx_recal (s : State) (x : Nat) (v : Ctx) : (s.setCtx x v).recal = s.recal := rfl
@[simp] theorem State.setCtx_recalPeriodS (s : State) (x : Nat) (v : Ctx) : (s.setCtx x v).recalPeriodS = s.recalPeriodS := rfl
@[simp] theorem State.setCtx_fwd (s : State) (x : Nat) (v : Ctx) : (s.setCtx x v).fwd = s.fwd := rfl
@[simp] theorem State.setCtx_peersIp (s : State) (x : Nat) (v : Ctx) : (s.setCtx x v).peersIp = s.peersIp := rfl
@[simp] theorem State.setCtx_fwdDropNs (s : State) (x : Nat) (v : Ctx) : (s.setCtx x v).fwdDropNs = s.fwdDropNs := rfl
@[simp] theorem State.setCtx_hopLimit (s : State) (x : Nat) (v : Ctx) : (s.setCtx x v).hopLimit = s.hopLimit := rfl
@[simp] theorem State.setCtx_ecnDraws (s : State) (x : Nat) (v : Ctx) : (s.setCtx x v).ecnDraws = s.ecnDraws := rfl
@[simp] theorem State.setCtx_mailboxes (s : State) (x : Nat) (v : Ctx) : (s.setCtx x v).mailboxes = s.mailboxes := rfl
@[simp] theorem State.setCtx_pwFails (s : State) (x : Nat) (v : Ctx) : (s.setCtx x v).pwFails = s.pwFails := rfl
@[simp] theorem State.setCtx_lockedUntil (s : State) (x : Nat) (v : Ctx) : (s.setCtx x v).lockedUntil = s.lockedUntil := rfl
@[simp] theorem State.setCtx_handles (s : State) (x : Nat) (v : Ctx) : (s.setCtx x v).handles = s.handles := rfl
@[simp] theorem State.setCtx_log (s : State) (x : Nat) (v : Ctx) : (s.setCtx x v).log = s.log := rfl
@[simp] theorem State.setCtx_logNext (s : State) (x : Nat) (v : Ctx) : (s.setCtx x v).logNext = s.logNext := rfl
@[simp] theorem State.setCtx_logOverflow (s : State) (x : Nat) (v : Ctx) : (s.setCtx x v).logOverflow = s.logOverflow := rfl
@[simp] theorem State.setCtx_counters (s : State) (x : Nat) (v : Ctx) : (s.setCtx x v).counters = s.counters := rfl
@[simp] theorem State.setCtx_nand (s : State) (x : Nat) (v : Ctx) : (s.setCtx x v).nand = s.nand := rfl
@[simp] theorem State.setCtx_journal (s : State) (x : Nat) (v : Ctx) : (s.setCtx x v).journal = s.journal := rfl
@[simp] theorem State.setCtx_power (s : State) (x : Nat) (v : Ctx) : (s.setCtx x v).power = s.power := rfl
@[simp] theorem State.setCtx_life (s : State) (x : Nat) (v : Ctx) : (s.setCtx x v).life = s.life := rfl
@[simp] theorem State.setCtx_start (s : State) (x : Nat) (v : Ctx) : (s.setCtx x v).start = s.start := rfl
@[simp] theorem State.setCtx_pcie (s : State) (x : Nat) (v : Ctx) : (s.setCtx x v).pcie = s.pcie := rfl
@[simp] theorem State.setCtx_pins (s : State) (x : Nat) (v : Ctx) : (s.setCtx x v).pins = s.pins := rfl

@[simp] theorem State.updCtx_pending (s : State) (x : Nat) (f : Ctx → Ctx) : (s.updCtx x f).pending = s.pending := rfl
@[simp] theorem State.updCtx_out (s : State) (x : Nat) (f : Ctx → Ctx) : (s.updCtx x f).out = s.out := rfl
@[simp] theorem State.updCtx_fresh (s : State) (x : Nat) (f : Ctx → Ctx) : (s.updCtx x f).fresh = s.fresh := rfl
@[simp] theorem State.updCtx_clk (s : State) (x : Nat) (f : Ctx → Ctx) : (s.updCtx x f).clk = s.clk := rfl
@[simp] theorem State.updCtx_mem (s : State) (x : Nat) (f : Ctx → Ctx) : (s.updCtx x f).mem = s.mem := rfl
@[simp] theorem State.updCtx_deviceId (s : State) (x : Nat) (f : Ctx → Ctx) : (s.updCtx x f).deviceId = s.deviceId := rfl
@[simp] theorem State.updCtx_cores (s : State) (x : Nat) (f : Ctx → Ctx) : (s.updCtx x f).cores = s.cores := rfl
@[simp] theorem State.updCtx_migs (s : State) (x : Nat) (f : Ctx → Ctx) : (s.updCtx x f).migs = s.migs := rfl
@[simp] theorem State.updCtx_asks (s : State) (x : Nat) (f : Ctx → Ctx) : (s.updCtx x f).asks = s.asks := rfl
@[simp] theorem State.updCtx_stalled (s : State) (x : Nat) (f : Ctx → Ctx) : (s.updCtx x f).stalled = s.stalled := rfl
@[simp] theorem State.updCtx_migRr (s : State) (x : Nat) (f : Ctx → Ctx) : (s.updCtx x f).migRr = s.migRr := rfl
@[simp] theorem State.updCtx_verifyLast (s : State) (x : Nat) (f : Ctx → Ctx) : (s.updCtx x f).verifyLast = s.verifyLast := rfl
@[simp] theorem State.updCtx_lend (s : State) (x : Nat) (f : Ctx → Ctx) : (s.updCtx x f).lend = s.lend := rfl
@[simp] theorem State.updCtx_banks (s : State) (x : Nat) (f : Ctx → Ctx) : (s.updCtx x f).banks = s.banks := rfl
@[simp] theorem State.updCtx_rowCopies (s : State) (x : Nat) (f : Ctx → Ctx) : (s.updCtx x f).rowCopies = s.rowCopies := rfl
@[simp] theorem State.updCtx_rowMap (s : State) (x : Nat) (f : Ctx → Ctx) : (s.updCtx x f).rowMap = s.rowMap := rfl
@[simp] theorem State.updCtx_withdrawn (s : State) (x : Nat) (f : Ctx → Ctx) : (s.updCtx x f).withdrawn = s.withdrawn := rfl
@[simp] theorem State.updCtx_retiredFrames (s : State) (x : Nat) (f : Ctx → Ctx) : (s.updCtx x f).retiredFrames = s.retiredFrames := rfl
@[simp] theorem State.updCtx_freed (s : State) (x : Nat) (f : Ctx → Ctx) : (s.updCtx x f).freed = s.freed := rfl
@[simp] theorem State.updCtx_tcache (s : State) (x : Nat) (f : Ctx → Ctx) : (s.updCtx x f).tcache = s.tcache := rfl
@[simp] theorem State.updCtx_laneSpares (s : State) (x : Nat) (f : Ctx → Ctx) : (s.updCtx x f).laneSpares = s.laneSpares := rfl
@[simp] theorem State.updCtx_bankSpares (s : State) (x : Nat) (f : Ctx → Ctx) : (s.updCtx x f).bankSpares = s.bankSpares := rfl
@[simp] theorem State.updCtx_culls (s : State) (x : Nat) (f : Ctx → Ctx) : (s.updCtx x f).culls = s.culls := rfl
@[simp] theorem State.updCtx_arrayErrs (s : State) (x : Nat) (f : Ctx → Ctx) : (s.updCtx x f).arrayErrs = s.arrayErrs := rfl
@[simp] theorem State.updCtx_flows (s : State) (x : Nat) (f : Ctx → Ctx) : (s.updCtx x f).flows = s.flows := rfl
@[simp] theorem State.updCtx_trk (s : State) (x : Nat) (f : Ctx → Ctx) : (s.updCtx x f).trk = s.trk := rfl
@[simp] theorem State.updCtx_trkNext (s : State) (x : Nat) (f : Ctx → Ctx) : (s.updCtx x f).trkNext = s.trkNext := rfl
@[simp] theorem State.updCtx_ctrl (s : State) (x : Nat) (f : Ctx → Ctx) : (s.updCtx x f).ctrl = s.ctrl := rfl
@[simp] theorem State.updCtx_ctrlSeen (s : State) (x : Nat) (f : Ctx → Ctx) : (s.updCtx x f).ctrlSeen = s.ctrlSeen := rfl
@[simp] theorem State.updCtx_ctrlNext (s : State) (x : Nat) (f : Ctx → Ctx) : (s.updCtx x f).ctrlNext = s.ctrlNext := rfl
@[simp] theorem State.updCtx_fcache (s : State) (x : Nat) (f : Ctx → Ctx) : (s.updCtx x f).fcache = s.fcache := rfl
@[simp] theorem State.updCtx_atoms (s : State) (x : Nat) (f : Ctx → Ctx) : (s.updCtx x f).atoms = s.atoms := rfl
@[simp] theorem State.updCtx_probes (s : State) (x : Nat) (f : Ctx → Ctx) : (s.updCtx x f).probes = s.probes := rfl
@[simp] theorem State.updCtx_probeLast (s : State) (x : Nat) (f : Ctx → Ctx) : (s.updCtx x f).probeLast = s.probeLast := rfl
@[simp] theorem State.updCtx_links (s : State) (x : Nat) (f : Ctx → Ctx) : (s.updCtx x f).links = s.links := rfl
@[simp] theorem State.updCtx_macs (s : State) (x : Nat) (f : Ctx → Ctx) : (s.updCtx x f).macs = s.macs := rfl
@[simp] theorem State.updCtx_ports (s : State) (x : Nat) (f : Ctx → Ctx) : (s.updCtx x f).ports = s.ports := rfl
@[simp] theorem State.updCtx_lanes (s : State) (x : Nat) (f : Ctx → Ctx) : (s.updCtx x f).lanes = s.lanes := rfl
@[simp] theorem State.updCtx_recal (s : State) (x : Nat) (f : Ctx → Ctx) : (s.updCtx x f).recal = s.recal := rfl
@[simp] theorem State.updCtx_recalPeriodS (s : State) (x : Nat) (f : Ctx → Ctx) : (s.updCtx x f).recalPeriodS = s.recalPeriodS := rfl
@[simp] theorem State.updCtx_fwd (s : State) (x : Nat) (f : Ctx → Ctx) : (s.updCtx x f).fwd = s.fwd := rfl
@[simp] theorem State.updCtx_peersIp (s : State) (x : Nat) (f : Ctx → Ctx) : (s.updCtx x f).peersIp = s.peersIp := rfl
@[simp] theorem State.updCtx_fwdDropNs (s : State) (x : Nat) (f : Ctx → Ctx) : (s.updCtx x f).fwdDropNs = s.fwdDropNs := rfl
@[simp] theorem State.updCtx_hopLimit (s : State) (x : Nat) (f : Ctx → Ctx) : (s.updCtx x f).hopLimit = s.hopLimit := rfl
@[simp] theorem State.updCtx_ecnDraws (s : State) (x : Nat) (f : Ctx → Ctx) : (s.updCtx x f).ecnDraws = s.ecnDraws := rfl
@[simp] theorem State.updCtx_mailboxes (s : State) (x : Nat) (f : Ctx → Ctx) : (s.updCtx x f).mailboxes = s.mailboxes := rfl
@[simp] theorem State.updCtx_pwFails (s : State) (x : Nat) (f : Ctx → Ctx) : (s.updCtx x f).pwFails = s.pwFails := rfl
@[simp] theorem State.updCtx_lockedUntil (s : State) (x : Nat) (f : Ctx → Ctx) : (s.updCtx x f).lockedUntil = s.lockedUntil := rfl
@[simp] theorem State.updCtx_handles (s : State) (x : Nat) (f : Ctx → Ctx) : (s.updCtx x f).handles = s.handles := rfl
@[simp] theorem State.updCtx_log (s : State) (x : Nat) (f : Ctx → Ctx) : (s.updCtx x f).log = s.log := rfl
@[simp] theorem State.updCtx_logNext (s : State) (x : Nat) (f : Ctx → Ctx) : (s.updCtx x f).logNext = s.logNext := rfl
@[simp] theorem State.updCtx_logOverflow (s : State) (x : Nat) (f : Ctx → Ctx) : (s.updCtx x f).logOverflow = s.logOverflow := rfl
@[simp] theorem State.updCtx_counters (s : State) (x : Nat) (f : Ctx → Ctx) : (s.updCtx x f).counters = s.counters := rfl
@[simp] theorem State.updCtx_nand (s : State) (x : Nat) (f : Ctx → Ctx) : (s.updCtx x f).nand = s.nand := rfl
@[simp] theorem State.updCtx_journal (s : State) (x : Nat) (f : Ctx → Ctx) : (s.updCtx x f).journal = s.journal := rfl
@[simp] theorem State.updCtx_power (s : State) (x : Nat) (f : Ctx → Ctx) : (s.updCtx x f).power = s.power := rfl
@[simp] theorem State.updCtx_life (s : State) (x : Nat) (f : Ctx → Ctx) : (s.updCtx x f).life = s.life := rfl
@[simp] theorem State.updCtx_start (s : State) (x : Nat) (f : Ctx → Ctx) : (s.updCtx x f).start = s.start := rfl
@[simp] theorem State.updCtx_pcie (s : State) (x : Nat) (f : Ctx → Ctx) : (s.updCtx x f).pcie = s.pcie := rfl
@[simp] theorem State.updCtx_pins (s : State) (x : Nat) (f : Ctx → Ctx) : (s.updCtx x f).pins = s.pins := rfl

@[simp] theorem State.setFlow_pending (s : State) (x : Nat) (v : Flow) : (s.setFlow x v).pending = s.pending := rfl
@[simp] theorem State.setFlow_out (s : State) (x : Nat) (v : Flow) : (s.setFlow x v).out = s.out := rfl
@[simp] theorem State.setFlow_fresh (s : State) (x : Nat) (v : Flow) : (s.setFlow x v).fresh = s.fresh := rfl
@[simp] theorem State.setFlow_clk (s : State) (x : Nat) (v : Flow) : (s.setFlow x v).clk = s.clk := rfl
@[simp] theorem State.setFlow_mem (s : State) (x : Nat) (v : Flow) : (s.setFlow x v).mem = s.mem := rfl
@[simp] theorem State.setFlow_deviceId (s : State) (x : Nat) (v : Flow) : (s.setFlow x v).deviceId = s.deviceId := rfl
@[simp] theorem State.setFlow_cores (s : State) (x : Nat) (v : Flow) : (s.setFlow x v).cores = s.cores := rfl
@[simp] theorem State.setFlow_ctxs (s : State) (x : Nat) (v : Flow) : (s.setFlow x v).ctxs = s.ctxs := rfl
@[simp] theorem State.setFlow_migs (s : State) (x : Nat) (v : Flow) : (s.setFlow x v).migs = s.migs := rfl
@[simp] theorem State.setFlow_asks (s : State) (x : Nat) (v : Flow) : (s.setFlow x v).asks = s.asks := rfl
@[simp] theorem State.setFlow_stalled (s : State) (x : Nat) (v : Flow) : (s.setFlow x v).stalled = s.stalled := rfl
@[simp] theorem State.setFlow_migRr (s : State) (x : Nat) (v : Flow) : (s.setFlow x v).migRr = s.migRr := rfl
@[simp] theorem State.setFlow_verifyLast (s : State) (x : Nat) (v : Flow) : (s.setFlow x v).verifyLast = s.verifyLast := rfl
@[simp] theorem State.setFlow_lend (s : State) (x : Nat) (v : Flow) : (s.setFlow x v).lend = s.lend := rfl
@[simp] theorem State.setFlow_banks (s : State) (x : Nat) (v : Flow) : (s.setFlow x v).banks = s.banks := rfl
@[simp] theorem State.setFlow_rowCopies (s : State) (x : Nat) (v : Flow) : (s.setFlow x v).rowCopies = s.rowCopies := rfl
@[simp] theorem State.setFlow_rowMap (s : State) (x : Nat) (v : Flow) : (s.setFlow x v).rowMap = s.rowMap := rfl
@[simp] theorem State.setFlow_withdrawn (s : State) (x : Nat) (v : Flow) : (s.setFlow x v).withdrawn = s.withdrawn := rfl
@[simp] theorem State.setFlow_retiredFrames (s : State) (x : Nat) (v : Flow) : (s.setFlow x v).retiredFrames = s.retiredFrames := rfl
@[simp] theorem State.setFlow_freed (s : State) (x : Nat) (v : Flow) : (s.setFlow x v).freed = s.freed := rfl
@[simp] theorem State.setFlow_tcache (s : State) (x : Nat) (v : Flow) : (s.setFlow x v).tcache = s.tcache := rfl
@[simp] theorem State.setFlow_laneSpares (s : State) (x : Nat) (v : Flow) : (s.setFlow x v).laneSpares = s.laneSpares := rfl
@[simp] theorem State.setFlow_bankSpares (s : State) (x : Nat) (v : Flow) : (s.setFlow x v).bankSpares = s.bankSpares := rfl
@[simp] theorem State.setFlow_culls (s : State) (x : Nat) (v : Flow) : (s.setFlow x v).culls = s.culls := rfl
@[simp] theorem State.setFlow_arrayErrs (s : State) (x : Nat) (v : Flow) : (s.setFlow x v).arrayErrs = s.arrayErrs := rfl
@[simp] theorem State.setFlow_trk (s : State) (x : Nat) (v : Flow) : (s.setFlow x v).trk = s.trk := rfl
@[simp] theorem State.setFlow_trkNext (s : State) (x : Nat) (v : Flow) : (s.setFlow x v).trkNext = s.trkNext := rfl
@[simp] theorem State.setFlow_ctrl (s : State) (x : Nat) (v : Flow) : (s.setFlow x v).ctrl = s.ctrl := rfl
@[simp] theorem State.setFlow_ctrlSeen (s : State) (x : Nat) (v : Flow) : (s.setFlow x v).ctrlSeen = s.ctrlSeen := rfl
@[simp] theorem State.setFlow_ctrlNext (s : State) (x : Nat) (v : Flow) : (s.setFlow x v).ctrlNext = s.ctrlNext := rfl
@[simp] theorem State.setFlow_fcache (s : State) (x : Nat) (v : Flow) : (s.setFlow x v).fcache = s.fcache := rfl
@[simp] theorem State.setFlow_atoms (s : State) (x : Nat) (v : Flow) : (s.setFlow x v).atoms = s.atoms := rfl
@[simp] theorem State.setFlow_probes (s : State) (x : Nat) (v : Flow) : (s.setFlow x v).probes = s.probes := rfl
@[simp] theorem State.setFlow_probeLast (s : State) (x : Nat) (v : Flow) : (s.setFlow x v).probeLast = s.probeLast := rfl
@[simp] theorem State.setFlow_links (s : State) (x : Nat) (v : Flow) : (s.setFlow x v).links = s.links := rfl
@[simp] theorem State.setFlow_macs (s : State) (x : Nat) (v : Flow) : (s.setFlow x v).macs = s.macs := rfl
@[simp] theorem State.setFlow_ports (s : State) (x : Nat) (v : Flow) : (s.setFlow x v).ports = s.ports := rfl
@[simp] theorem State.setFlow_lanes (s : State) (x : Nat) (v : Flow) : (s.setFlow x v).lanes = s.lanes := rfl
@[simp] theorem State.setFlow_recal (s : State) (x : Nat) (v : Flow) : (s.setFlow x v).recal = s.recal := rfl
@[simp] theorem State.setFlow_recalPeriodS (s : State) (x : Nat) (v : Flow) : (s.setFlow x v).recalPeriodS = s.recalPeriodS := rfl
@[simp] theorem State.setFlow_fwd (s : State) (x : Nat) (v : Flow) : (s.setFlow x v).fwd = s.fwd := rfl
@[simp] theorem State.setFlow_peersIp (s : State) (x : Nat) (v : Flow) : (s.setFlow x v).peersIp = s.peersIp := rfl
@[simp] theorem State.setFlow_fwdDropNs (s : State) (x : Nat) (v : Flow) : (s.setFlow x v).fwdDropNs = s.fwdDropNs := rfl
@[simp] theorem State.setFlow_hopLimit (s : State) (x : Nat) (v : Flow) : (s.setFlow x v).hopLimit = s.hopLimit := rfl
@[simp] theorem State.setFlow_ecnDraws (s : State) (x : Nat) (v : Flow) : (s.setFlow x v).ecnDraws = s.ecnDraws := rfl
@[simp] theorem State.setFlow_mailboxes (s : State) (x : Nat) (v : Flow) : (s.setFlow x v).mailboxes = s.mailboxes := rfl
@[simp] theorem State.setFlow_pwFails (s : State) (x : Nat) (v : Flow) : (s.setFlow x v).pwFails = s.pwFails := rfl
@[simp] theorem State.setFlow_lockedUntil (s : State) (x : Nat) (v : Flow) : (s.setFlow x v).lockedUntil = s.lockedUntil := rfl
@[simp] theorem State.setFlow_handles (s : State) (x : Nat) (v : Flow) : (s.setFlow x v).handles = s.handles := rfl
@[simp] theorem State.setFlow_log (s : State) (x : Nat) (v : Flow) : (s.setFlow x v).log = s.log := rfl
@[simp] theorem State.setFlow_logNext (s : State) (x : Nat) (v : Flow) : (s.setFlow x v).logNext = s.logNext := rfl
@[simp] theorem State.setFlow_logOverflow (s : State) (x : Nat) (v : Flow) : (s.setFlow x v).logOverflow = s.logOverflow := rfl
@[simp] theorem State.setFlow_counters (s : State) (x : Nat) (v : Flow) : (s.setFlow x v).counters = s.counters := rfl
@[simp] theorem State.setFlow_nand (s : State) (x : Nat) (v : Flow) : (s.setFlow x v).nand = s.nand := rfl
@[simp] theorem State.setFlow_journal (s : State) (x : Nat) (v : Flow) : (s.setFlow x v).journal = s.journal := rfl
@[simp] theorem State.setFlow_power (s : State) (x : Nat) (v : Flow) : (s.setFlow x v).power = s.power := rfl
@[simp] theorem State.setFlow_life (s : State) (x : Nat) (v : Flow) : (s.setFlow x v).life = s.life := rfl
@[simp] theorem State.setFlow_start (s : State) (x : Nat) (v : Flow) : (s.setFlow x v).start = s.start := rfl
@[simp] theorem State.setFlow_pcie (s : State) (x : Nat) (v : Flow) : (s.setFlow x v).pcie = s.pcie := rfl
@[simp] theorem State.setFlow_pins (s : State) (x : Nat) (v : Flow) : (s.setFlow x v).pins = s.pins := rfl

@[simp] theorem State.updFlow_pending (s : State) (x : Nat) (f : Flow → Flow) : (s.updFlow x f).pending = s.pending := rfl
@[simp] theorem State.updFlow_out (s : State) (x : Nat) (f : Flow → Flow) : (s.updFlow x f).out = s.out := rfl
@[simp] theorem State.updFlow_fresh (s : State) (x : Nat) (f : Flow → Flow) : (s.updFlow x f).fresh = s.fresh := rfl
@[simp] theorem State.updFlow_clk (s : State) (x : Nat) (f : Flow → Flow) : (s.updFlow x f).clk = s.clk := rfl
@[simp] theorem State.updFlow_mem (s : State) (x : Nat) (f : Flow → Flow) : (s.updFlow x f).mem = s.mem := rfl
@[simp] theorem State.updFlow_deviceId (s : State) (x : Nat) (f : Flow → Flow) : (s.updFlow x f).deviceId = s.deviceId := rfl
@[simp] theorem State.updFlow_cores (s : State) (x : Nat) (f : Flow → Flow) : (s.updFlow x f).cores = s.cores := rfl
@[simp] theorem State.updFlow_ctxs (s : State) (x : Nat) (f : Flow → Flow) : (s.updFlow x f).ctxs = s.ctxs := rfl
@[simp] theorem State.updFlow_migs (s : State) (x : Nat) (f : Flow → Flow) : (s.updFlow x f).migs = s.migs := rfl
@[simp] theorem State.updFlow_asks (s : State) (x : Nat) (f : Flow → Flow) : (s.updFlow x f).asks = s.asks := rfl
@[simp] theorem State.updFlow_stalled (s : State) (x : Nat) (f : Flow → Flow) : (s.updFlow x f).stalled = s.stalled := rfl
@[simp] theorem State.updFlow_migRr (s : State) (x : Nat) (f : Flow → Flow) : (s.updFlow x f).migRr = s.migRr := rfl
@[simp] theorem State.updFlow_verifyLast (s : State) (x : Nat) (f : Flow → Flow) : (s.updFlow x f).verifyLast = s.verifyLast := rfl
@[simp] theorem State.updFlow_lend (s : State) (x : Nat) (f : Flow → Flow) : (s.updFlow x f).lend = s.lend := rfl
@[simp] theorem State.updFlow_banks (s : State) (x : Nat) (f : Flow → Flow) : (s.updFlow x f).banks = s.banks := rfl
@[simp] theorem State.updFlow_rowCopies (s : State) (x : Nat) (f : Flow → Flow) : (s.updFlow x f).rowCopies = s.rowCopies := rfl
@[simp] theorem State.updFlow_rowMap (s : State) (x : Nat) (f : Flow → Flow) : (s.updFlow x f).rowMap = s.rowMap := rfl
@[simp] theorem State.updFlow_withdrawn (s : State) (x : Nat) (f : Flow → Flow) : (s.updFlow x f).withdrawn = s.withdrawn := rfl
@[simp] theorem State.updFlow_retiredFrames (s : State) (x : Nat) (f : Flow → Flow) : (s.updFlow x f).retiredFrames = s.retiredFrames := rfl
@[simp] theorem State.updFlow_freed (s : State) (x : Nat) (f : Flow → Flow) : (s.updFlow x f).freed = s.freed := rfl
@[simp] theorem State.updFlow_tcache (s : State) (x : Nat) (f : Flow → Flow) : (s.updFlow x f).tcache = s.tcache := rfl
@[simp] theorem State.updFlow_laneSpares (s : State) (x : Nat) (f : Flow → Flow) : (s.updFlow x f).laneSpares = s.laneSpares := rfl
@[simp] theorem State.updFlow_bankSpares (s : State) (x : Nat) (f : Flow → Flow) : (s.updFlow x f).bankSpares = s.bankSpares := rfl
@[simp] theorem State.updFlow_culls (s : State) (x : Nat) (f : Flow → Flow) : (s.updFlow x f).culls = s.culls := rfl
@[simp] theorem State.updFlow_arrayErrs (s : State) (x : Nat) (f : Flow → Flow) : (s.updFlow x f).arrayErrs = s.arrayErrs := rfl
@[simp] theorem State.updFlow_trk (s : State) (x : Nat) (f : Flow → Flow) : (s.updFlow x f).trk = s.trk := rfl
@[simp] theorem State.updFlow_trkNext (s : State) (x : Nat) (f : Flow → Flow) : (s.updFlow x f).trkNext = s.trkNext := rfl
@[simp] theorem State.updFlow_ctrl (s : State) (x : Nat) (f : Flow → Flow) : (s.updFlow x f).ctrl = s.ctrl := rfl
@[simp] theorem State.updFlow_ctrlSeen (s : State) (x : Nat) (f : Flow → Flow) : (s.updFlow x f).ctrlSeen = s.ctrlSeen := rfl
@[simp] theorem State.updFlow_ctrlNext (s : State) (x : Nat) (f : Flow → Flow) : (s.updFlow x f).ctrlNext = s.ctrlNext := rfl
@[simp] theorem State.updFlow_fcache (s : State) (x : Nat) (f : Flow → Flow) : (s.updFlow x f).fcache = s.fcache := rfl
@[simp] theorem State.updFlow_atoms (s : State) (x : Nat) (f : Flow → Flow) : (s.updFlow x f).atoms = s.atoms := rfl
@[simp] theorem State.updFlow_probes (s : State) (x : Nat) (f : Flow → Flow) : (s.updFlow x f).probes = s.probes := rfl
@[simp] theorem State.updFlow_probeLast (s : State) (x : Nat) (f : Flow → Flow) : (s.updFlow x f).probeLast = s.probeLast := rfl
@[simp] theorem State.updFlow_links (s : State) (x : Nat) (f : Flow → Flow) : (s.updFlow x f).links = s.links := rfl
@[simp] theorem State.updFlow_macs (s : State) (x : Nat) (f : Flow → Flow) : (s.updFlow x f).macs = s.macs := rfl
@[simp] theorem State.updFlow_ports (s : State) (x : Nat) (f : Flow → Flow) : (s.updFlow x f).ports = s.ports := rfl
@[simp] theorem State.updFlow_lanes (s : State) (x : Nat) (f : Flow → Flow) : (s.updFlow x f).lanes = s.lanes := rfl
@[simp] theorem State.updFlow_recal (s : State) (x : Nat) (f : Flow → Flow) : (s.updFlow x f).recal = s.recal := rfl
@[simp] theorem State.updFlow_recalPeriodS (s : State) (x : Nat) (f : Flow → Flow) : (s.updFlow x f).recalPeriodS = s.recalPeriodS := rfl
@[simp] theorem State.updFlow_fwd (s : State) (x : Nat) (f : Flow → Flow) : (s.updFlow x f).fwd = s.fwd := rfl
@[simp] theorem State.updFlow_peersIp (s : State) (x : Nat) (f : Flow → Flow) : (s.updFlow x f).peersIp = s.peersIp := rfl
@[simp] theorem State.updFlow_fwdDropNs (s : State) (x : Nat) (f : Flow → Flow) : (s.updFlow x f).fwdDropNs = s.fwdDropNs := rfl
@[simp] theorem State.updFlow_hopLimit (s : State) (x : Nat) (f : Flow → Flow) : (s.updFlow x f).hopLimit = s.hopLimit := rfl
@[simp] theorem State.updFlow_ecnDraws (s : State) (x : Nat) (f : Flow → Flow) : (s.updFlow x f).ecnDraws = s.ecnDraws := rfl
@[simp] theorem State.updFlow_mailboxes (s : State) (x : Nat) (f : Flow → Flow) : (s.updFlow x f).mailboxes = s.mailboxes := rfl
@[simp] theorem State.updFlow_pwFails (s : State) (x : Nat) (f : Flow → Flow) : (s.updFlow x f).pwFails = s.pwFails := rfl
@[simp] theorem State.updFlow_lockedUntil (s : State) (x : Nat) (f : Flow → Flow) : (s.updFlow x f).lockedUntil = s.lockedUntil := rfl
@[simp] theorem State.updFlow_handles (s : State) (x : Nat) (f : Flow → Flow) : (s.updFlow x f).handles = s.handles := rfl
@[simp] theorem State.updFlow_log (s : State) (x : Nat) (f : Flow → Flow) : (s.updFlow x f).log = s.log := rfl
@[simp] theorem State.updFlow_logNext (s : State) (x : Nat) (f : Flow → Flow) : (s.updFlow x f).logNext = s.logNext := rfl
@[simp] theorem State.updFlow_logOverflow (s : State) (x : Nat) (f : Flow → Flow) : (s.updFlow x f).logOverflow = s.logOverflow := rfl
@[simp] theorem State.updFlow_counters (s : State) (x : Nat) (f : Flow → Flow) : (s.updFlow x f).counters = s.counters := rfl
@[simp] theorem State.updFlow_nand (s : State) (x : Nat) (f : Flow → Flow) : (s.updFlow x f).nand = s.nand := rfl
@[simp] theorem State.updFlow_journal (s : State) (x : Nat) (f : Flow → Flow) : (s.updFlow x f).journal = s.journal := rfl
@[simp] theorem State.updFlow_power (s : State) (x : Nat) (f : Flow → Flow) : (s.updFlow x f).power = s.power := rfl
@[simp] theorem State.updFlow_life (s : State) (x : Nat) (f : Flow → Flow) : (s.updFlow x f).life = s.life := rfl
@[simp] theorem State.updFlow_start (s : State) (x : Nat) (f : Flow → Flow) : (s.updFlow x f).start = s.start := rfl
@[simp] theorem State.updFlow_pcie (s : State) (x : Nat) (f : Flow → Flow) : (s.updFlow x f).pcie = s.pcie := rfl
@[simp] theorem State.updFlow_pins (s : State) (x : Nat) (f : Flow → Flow) : (s.updFlow x f).pins = s.pins := rfl

@[simp] theorem State.setMac_pending (s : State) (m : Nat) (v : Mac) : (s.setMac m v).pending = s.pending := rfl
@[simp] theorem State.setMac_out (s : State) (m : Nat) (v : Mac) : (s.setMac m v).out = s.out := rfl
@[simp] theorem State.setMac_fresh (s : State) (m : Nat) (v : Mac) : (s.setMac m v).fresh = s.fresh := rfl
@[simp] theorem State.setMac_clk (s : State) (m : Nat) (v : Mac) : (s.setMac m v).clk = s.clk := rfl
@[simp] theorem State.setMac_mem (s : State) (m : Nat) (v : Mac) : (s.setMac m v).mem = s.mem := rfl
@[simp] theorem State.setMac_deviceId (s : State) (m : Nat) (v : Mac) : (s.setMac m v).deviceId = s.deviceId := rfl
@[simp] theorem State.setMac_cores (s : State) (m : Nat) (v : Mac) : (s.setMac m v).cores = s.cores := rfl
@[simp] theorem State.setMac_ctxs (s : State) (m : Nat) (v : Mac) : (s.setMac m v).ctxs = s.ctxs := rfl
@[simp] theorem State.setMac_migs (s : State) (m : Nat) (v : Mac) : (s.setMac m v).migs = s.migs := rfl
@[simp] theorem State.setMac_asks (s : State) (m : Nat) (v : Mac) : (s.setMac m v).asks = s.asks := rfl
@[simp] theorem State.setMac_stalled (s : State) (m : Nat) (v : Mac) : (s.setMac m v).stalled = s.stalled := rfl
@[simp] theorem State.setMac_migRr (s : State) (m : Nat) (v : Mac) : (s.setMac m v).migRr = s.migRr := rfl
@[simp] theorem State.setMac_verifyLast (s : State) (m : Nat) (v : Mac) : (s.setMac m v).verifyLast = s.verifyLast := rfl
@[simp] theorem State.setMac_lend (s : State) (m : Nat) (v : Mac) : (s.setMac m v).lend = s.lend := rfl
@[simp] theorem State.setMac_banks (s : State) (m : Nat) (v : Mac) : (s.setMac m v).banks = s.banks := rfl
@[simp] theorem State.setMac_rowCopies (s : State) (m : Nat) (v : Mac) : (s.setMac m v).rowCopies = s.rowCopies := rfl
@[simp] theorem State.setMac_rowMap (s : State) (m : Nat) (v : Mac) : (s.setMac m v).rowMap = s.rowMap := rfl
@[simp] theorem State.setMac_withdrawn (s : State) (m : Nat) (v : Mac) : (s.setMac m v).withdrawn = s.withdrawn := rfl
@[simp] theorem State.setMac_retiredFrames (s : State) (m : Nat) (v : Mac) : (s.setMac m v).retiredFrames = s.retiredFrames := rfl
@[simp] theorem State.setMac_freed (s : State) (m : Nat) (v : Mac) : (s.setMac m v).freed = s.freed := rfl
@[simp] theorem State.setMac_tcache (s : State) (m : Nat) (v : Mac) : (s.setMac m v).tcache = s.tcache := rfl
@[simp] theorem State.setMac_laneSpares (s : State) (m : Nat) (v : Mac) : (s.setMac m v).laneSpares = s.laneSpares := rfl
@[simp] theorem State.setMac_bankSpares (s : State) (m : Nat) (v : Mac) : (s.setMac m v).bankSpares = s.bankSpares := rfl
@[simp] theorem State.setMac_culls (s : State) (m : Nat) (v : Mac) : (s.setMac m v).culls = s.culls := rfl
@[simp] theorem State.setMac_arrayErrs (s : State) (m : Nat) (v : Mac) : (s.setMac m v).arrayErrs = s.arrayErrs := rfl
@[simp] theorem State.setMac_flows (s : State) (m : Nat) (v : Mac) : (s.setMac m v).flows = s.flows := rfl
@[simp] theorem State.setMac_trk (s : State) (m : Nat) (v : Mac) : (s.setMac m v).trk = s.trk := rfl
@[simp] theorem State.setMac_trkNext (s : State) (m : Nat) (v : Mac) : (s.setMac m v).trkNext = s.trkNext := rfl
@[simp] theorem State.setMac_ctrl (s : State) (m : Nat) (v : Mac) : (s.setMac m v).ctrl = s.ctrl := rfl
@[simp] theorem State.setMac_ctrlSeen (s : State) (m : Nat) (v : Mac) : (s.setMac m v).ctrlSeen = s.ctrlSeen := rfl
@[simp] theorem State.setMac_ctrlNext (s : State) (m : Nat) (v : Mac) : (s.setMac m v).ctrlNext = s.ctrlNext := rfl
@[simp] theorem State.setMac_fcache (s : State) (m : Nat) (v : Mac) : (s.setMac m v).fcache = s.fcache := rfl
@[simp] theorem State.setMac_atoms (s : State) (m : Nat) (v : Mac) : (s.setMac m v).atoms = s.atoms := rfl
@[simp] theorem State.setMac_probes (s : State) (m : Nat) (v : Mac) : (s.setMac m v).probes = s.probes := rfl
@[simp] theorem State.setMac_probeLast (s : State) (m : Nat) (v : Mac) : (s.setMac m v).probeLast = s.probeLast := rfl
@[simp] theorem State.setMac_links (s : State) (m : Nat) (v : Mac) : (s.setMac m v).links = s.links := rfl
@[simp] theorem State.setMac_ports (s : State) (m : Nat) (v : Mac) : (s.setMac m v).ports = s.ports := rfl
@[simp] theorem State.setMac_lanes (s : State) (m : Nat) (v : Mac) : (s.setMac m v).lanes = s.lanes := rfl
@[simp] theorem State.setMac_recal (s : State) (m : Nat) (v : Mac) : (s.setMac m v).recal = s.recal := rfl
@[simp] theorem State.setMac_recalPeriodS (s : State) (m : Nat) (v : Mac) : (s.setMac m v).recalPeriodS = s.recalPeriodS := rfl
@[simp] theorem State.setMac_fwd (s : State) (m : Nat) (v : Mac) : (s.setMac m v).fwd = s.fwd := rfl
@[simp] theorem State.setMac_peersIp (s : State) (m : Nat) (v : Mac) : (s.setMac m v).peersIp = s.peersIp := rfl
@[simp] theorem State.setMac_fwdDropNs (s : State) (m : Nat) (v : Mac) : (s.setMac m v).fwdDropNs = s.fwdDropNs := rfl
@[simp] theorem State.setMac_hopLimit (s : State) (m : Nat) (v : Mac) : (s.setMac m v).hopLimit = s.hopLimit := rfl
@[simp] theorem State.setMac_ecnDraws (s : State) (m : Nat) (v : Mac) : (s.setMac m v).ecnDraws = s.ecnDraws := rfl
@[simp] theorem State.setMac_mailboxes (s : State) (m : Nat) (v : Mac) : (s.setMac m v).mailboxes = s.mailboxes := rfl
@[simp] theorem State.setMac_pwFails (s : State) (m : Nat) (v : Mac) : (s.setMac m v).pwFails = s.pwFails := rfl
@[simp] theorem State.setMac_lockedUntil (s : State) (m : Nat) (v : Mac) : (s.setMac m v).lockedUntil = s.lockedUntil := rfl
@[simp] theorem State.setMac_handles (s : State) (m : Nat) (v : Mac) : (s.setMac m v).handles = s.handles := rfl
@[simp] theorem State.setMac_log (s : State) (m : Nat) (v : Mac) : (s.setMac m v).log = s.log := rfl
@[simp] theorem State.setMac_logNext (s : State) (m : Nat) (v : Mac) : (s.setMac m v).logNext = s.logNext := rfl
@[simp] theorem State.setMac_logOverflow (s : State) (m : Nat) (v : Mac) : (s.setMac m v).logOverflow = s.logOverflow := rfl
@[simp] theorem State.setMac_counters (s : State) (m : Nat) (v : Mac) : (s.setMac m v).counters = s.counters := rfl
@[simp] theorem State.setMac_nand (s : State) (m : Nat) (v : Mac) : (s.setMac m v).nand = s.nand := rfl
@[simp] theorem State.setMac_journal (s : State) (m : Nat) (v : Mac) : (s.setMac m v).journal = s.journal := rfl
@[simp] theorem State.setMac_power (s : State) (m : Nat) (v : Mac) : (s.setMac m v).power = s.power := rfl
@[simp] theorem State.setMac_life (s : State) (m : Nat) (v : Mac) : (s.setMac m v).life = s.life := rfl
@[simp] theorem State.setMac_start (s : State) (m : Nat) (v : Mac) : (s.setMac m v).start = s.start := rfl
@[simp] theorem State.setMac_pcie (s : State) (m : Nat) (v : Mac) : (s.setMac m v).pcie = s.pcie := rfl
@[simp] theorem State.setMac_pins (s : State) (m : Nat) (v : Mac) : (s.setMac m v).pins = s.pins := rfl

@[simp] theorem State.updMac_pending (s : State) (m : Nat) (f : Mac → Mac) : (s.updMac m f).pending = s.pending := rfl
@[simp] theorem State.updMac_out (s : State) (m : Nat) (f : Mac → Mac) : (s.updMac m f).out = s.out := rfl
@[simp] theorem State.updMac_fresh (s : State) (m : Nat) (f : Mac → Mac) : (s.updMac m f).fresh = s.fresh := rfl
@[simp] theorem State.updMac_clk (s : State) (m : Nat) (f : Mac → Mac) : (s.updMac m f).clk = s.clk := rfl
@[simp] theorem State.updMac_mem (s : State) (m : Nat) (f : Mac → Mac) : (s.updMac m f).mem = s.mem := rfl
@[simp] theorem State.updMac_deviceId (s : State) (m : Nat) (f : Mac → Mac) : (s.updMac m f).deviceId = s.deviceId := rfl
@[simp] theorem State.updMac_cores (s : State) (m : Nat) (f : Mac → Mac) : (s.updMac m f).cores = s.cores := rfl
@[simp] theorem State.updMac_ctxs (s : State) (m : Nat) (f : Mac → Mac) : (s.updMac m f).ctxs = s.ctxs := rfl
@[simp] theorem State.updMac_migs (s : State) (m : Nat) (f : Mac → Mac) : (s.updMac m f).migs = s.migs := rfl
@[simp] theorem State.updMac_asks (s : State) (m : Nat) (f : Mac → Mac) : (s.updMac m f).asks = s.asks := rfl
@[simp] theorem State.updMac_stalled (s : State) (m : Nat) (f : Mac → Mac) : (s.updMac m f).stalled = s.stalled := rfl
@[simp] theorem State.updMac_migRr (s : State) (m : Nat) (f : Mac → Mac) : (s.updMac m f).migRr = s.migRr := rfl
@[simp] theorem State.updMac_verifyLast (s : State) (m : Nat) (f : Mac → Mac) : (s.updMac m f).verifyLast = s.verifyLast := rfl
@[simp] theorem State.updMac_lend (s : State) (m : Nat) (f : Mac → Mac) : (s.updMac m f).lend = s.lend := rfl
@[simp] theorem State.updMac_banks (s : State) (m : Nat) (f : Mac → Mac) : (s.updMac m f).banks = s.banks := rfl
@[simp] theorem State.updMac_rowCopies (s : State) (m : Nat) (f : Mac → Mac) : (s.updMac m f).rowCopies = s.rowCopies := rfl
@[simp] theorem State.updMac_rowMap (s : State) (m : Nat) (f : Mac → Mac) : (s.updMac m f).rowMap = s.rowMap := rfl
@[simp] theorem State.updMac_withdrawn (s : State) (m : Nat) (f : Mac → Mac) : (s.updMac m f).withdrawn = s.withdrawn := rfl
@[simp] theorem State.updMac_retiredFrames (s : State) (m : Nat) (f : Mac → Mac) : (s.updMac m f).retiredFrames = s.retiredFrames := rfl
@[simp] theorem State.updMac_freed (s : State) (m : Nat) (f : Mac → Mac) : (s.updMac m f).freed = s.freed := rfl
@[simp] theorem State.updMac_tcache (s : State) (m : Nat) (f : Mac → Mac) : (s.updMac m f).tcache = s.tcache := rfl
@[simp] theorem State.updMac_laneSpares (s : State) (m : Nat) (f : Mac → Mac) : (s.updMac m f).laneSpares = s.laneSpares := rfl
@[simp] theorem State.updMac_bankSpares (s : State) (m : Nat) (f : Mac → Mac) : (s.updMac m f).bankSpares = s.bankSpares := rfl
@[simp] theorem State.updMac_culls (s : State) (m : Nat) (f : Mac → Mac) : (s.updMac m f).culls = s.culls := rfl
@[simp] theorem State.updMac_arrayErrs (s : State) (m : Nat) (f : Mac → Mac) : (s.updMac m f).arrayErrs = s.arrayErrs := rfl
@[simp] theorem State.updMac_flows (s : State) (m : Nat) (f : Mac → Mac) : (s.updMac m f).flows = s.flows := rfl
@[simp] theorem State.updMac_trk (s : State) (m : Nat) (f : Mac → Mac) : (s.updMac m f).trk = s.trk := rfl
@[simp] theorem State.updMac_trkNext (s : State) (m : Nat) (f : Mac → Mac) : (s.updMac m f).trkNext = s.trkNext := rfl
@[simp] theorem State.updMac_ctrl (s : State) (m : Nat) (f : Mac → Mac) : (s.updMac m f).ctrl = s.ctrl := rfl
@[simp] theorem State.updMac_ctrlSeen (s : State) (m : Nat) (f : Mac → Mac) : (s.updMac m f).ctrlSeen = s.ctrlSeen := rfl
@[simp] theorem State.updMac_ctrlNext (s : State) (m : Nat) (f : Mac → Mac) : (s.updMac m f).ctrlNext = s.ctrlNext := rfl
@[simp] theorem State.updMac_fcache (s : State) (m : Nat) (f : Mac → Mac) : (s.updMac m f).fcache = s.fcache := rfl
@[simp] theorem State.updMac_atoms (s : State) (m : Nat) (f : Mac → Mac) : (s.updMac m f).atoms = s.atoms := rfl
@[simp] theorem State.updMac_probes (s : State) (m : Nat) (f : Mac → Mac) : (s.updMac m f).probes = s.probes := rfl
@[simp] theorem State.updMac_probeLast (s : State) (m : Nat) (f : Mac → Mac) : (s.updMac m f).probeLast = s.probeLast := rfl
@[simp] theorem State.updMac_links (s : State) (m : Nat) (f : Mac → Mac) : (s.updMac m f).links = s.links := rfl
@[simp] theorem State.updMac_ports (s : State) (m : Nat) (f : Mac → Mac) : (s.updMac m f).ports = s.ports := rfl
@[simp] theorem State.updMac_lanes (s : State) (m : Nat) (f : Mac → Mac) : (s.updMac m f).lanes = s.lanes := rfl
@[simp] theorem State.updMac_recal (s : State) (m : Nat) (f : Mac → Mac) : (s.updMac m f).recal = s.recal := rfl
@[simp] theorem State.updMac_recalPeriodS (s : State) (m : Nat) (f : Mac → Mac) : (s.updMac m f).recalPeriodS = s.recalPeriodS := rfl
@[simp] theorem State.updMac_fwd (s : State) (m : Nat) (f : Mac → Mac) : (s.updMac m f).fwd = s.fwd := rfl
@[simp] theorem State.updMac_peersIp (s : State) (m : Nat) (f : Mac → Mac) : (s.updMac m f).peersIp = s.peersIp := rfl
@[simp] theorem State.updMac_fwdDropNs (s : State) (m : Nat) (f : Mac → Mac) : (s.updMac m f).fwdDropNs = s.fwdDropNs := rfl
@[simp] theorem State.updMac_hopLimit (s : State) (m : Nat) (f : Mac → Mac) : (s.updMac m f).hopLimit = s.hopLimit := rfl
@[simp] theorem State.updMac_ecnDraws (s : State) (m : Nat) (f : Mac → Mac) : (s.updMac m f).ecnDraws = s.ecnDraws := rfl
@[simp] theorem State.updMac_mailboxes (s : State) (m : Nat) (f : Mac → Mac) : (s.updMac m f).mailboxes = s.mailboxes := rfl
@[simp] theorem State.updMac_pwFails (s : State) (m : Nat) (f : Mac → Mac) : (s.updMac m f).pwFails = s.pwFails := rfl
@[simp] theorem State.updMac_lockedUntil (s : State) (m : Nat) (f : Mac → Mac) : (s.updMac m f).lockedUntil = s.lockedUntil := rfl
@[simp] theorem State.updMac_handles (s : State) (m : Nat) (f : Mac → Mac) : (s.updMac m f).handles = s.handles := rfl
@[simp] theorem State.updMac_log (s : State) (m : Nat) (f : Mac → Mac) : (s.updMac m f).log = s.log := rfl
@[simp] theorem State.updMac_logNext (s : State) (m : Nat) (f : Mac → Mac) : (s.updMac m f).logNext = s.logNext := rfl
@[simp] theorem State.updMac_logOverflow (s : State) (m : Nat) (f : Mac → Mac) : (s.updMac m f).logOverflow = s.logOverflow := rfl
@[simp] theorem State.updMac_counters (s : State) (m : Nat) (f : Mac → Mac) : (s.updMac m f).counters = s.counters := rfl
@[simp] theorem State.updMac_nand (s : State) (m : Nat) (f : Mac → Mac) : (s.updMac m f).nand = s.nand := rfl
@[simp] theorem State.updMac_journal (s : State) (m : Nat) (f : Mac → Mac) : (s.updMac m f).journal = s.journal := rfl
@[simp] theorem State.updMac_power (s : State) (m : Nat) (f : Mac → Mac) : (s.updMac m f).power = s.power := rfl
@[simp] theorem State.updMac_life (s : State) (m : Nat) (f : Mac → Mac) : (s.updMac m f).life = s.life := rfl
@[simp] theorem State.updMac_start (s : State) (m : Nat) (f : Mac → Mac) : (s.updMac m f).start = s.start := rfl
@[simp] theorem State.updMac_pcie (s : State) (m : Nat) (f : Mac → Mac) : (s.updMac m f).pcie = s.pcie := rfl
@[simp] theorem State.updMac_pins (s : State) (m : Nat) (f : Mac → Mac) : (s.updMac m f).pins = s.pins := rfl

@[simp] theorem State.setPort_pending (s : State) (p : Nat) (v : Port) : (s.setPort p v).pending = s.pending := rfl
@[simp] theorem State.setPort_out (s : State) (p : Nat) (v : Port) : (s.setPort p v).out = s.out := rfl
@[simp] theorem State.setPort_fresh (s : State) (p : Nat) (v : Port) : (s.setPort p v).fresh = s.fresh := rfl
@[simp] theorem State.setPort_clk (s : State) (p : Nat) (v : Port) : (s.setPort p v).clk = s.clk := rfl
@[simp] theorem State.setPort_mem (s : State) (p : Nat) (v : Port) : (s.setPort p v).mem = s.mem := rfl
@[simp] theorem State.setPort_deviceId (s : State) (p : Nat) (v : Port) : (s.setPort p v).deviceId = s.deviceId := rfl
@[simp] theorem State.setPort_cores (s : State) (p : Nat) (v : Port) : (s.setPort p v).cores = s.cores := rfl
@[simp] theorem State.setPort_ctxs (s : State) (p : Nat) (v : Port) : (s.setPort p v).ctxs = s.ctxs := rfl
@[simp] theorem State.setPort_migs (s : State) (p : Nat) (v : Port) : (s.setPort p v).migs = s.migs := rfl
@[simp] theorem State.setPort_asks (s : State) (p : Nat) (v : Port) : (s.setPort p v).asks = s.asks := rfl
@[simp] theorem State.setPort_stalled (s : State) (p : Nat) (v : Port) : (s.setPort p v).stalled = s.stalled := rfl
@[simp] theorem State.setPort_migRr (s : State) (p : Nat) (v : Port) : (s.setPort p v).migRr = s.migRr := rfl
@[simp] theorem State.setPort_verifyLast (s : State) (p : Nat) (v : Port) : (s.setPort p v).verifyLast = s.verifyLast := rfl
@[simp] theorem State.setPort_lend (s : State) (p : Nat) (v : Port) : (s.setPort p v).lend = s.lend := rfl
@[simp] theorem State.setPort_banks (s : State) (p : Nat) (v : Port) : (s.setPort p v).banks = s.banks := rfl
@[simp] theorem State.setPort_rowCopies (s : State) (p : Nat) (v : Port) : (s.setPort p v).rowCopies = s.rowCopies := rfl
@[simp] theorem State.setPort_rowMap (s : State) (p : Nat) (v : Port) : (s.setPort p v).rowMap = s.rowMap := rfl
@[simp] theorem State.setPort_withdrawn (s : State) (p : Nat) (v : Port) : (s.setPort p v).withdrawn = s.withdrawn := rfl
@[simp] theorem State.setPort_retiredFrames (s : State) (p : Nat) (v : Port) : (s.setPort p v).retiredFrames = s.retiredFrames := rfl
@[simp] theorem State.setPort_freed (s : State) (p : Nat) (v : Port) : (s.setPort p v).freed = s.freed := rfl
@[simp] theorem State.setPort_tcache (s : State) (p : Nat) (v : Port) : (s.setPort p v).tcache = s.tcache := rfl
@[simp] theorem State.setPort_laneSpares (s : State) (p : Nat) (v : Port) : (s.setPort p v).laneSpares = s.laneSpares := rfl
@[simp] theorem State.setPort_bankSpares (s : State) (p : Nat) (v : Port) : (s.setPort p v).bankSpares = s.bankSpares := rfl
@[simp] theorem State.setPort_culls (s : State) (p : Nat) (v : Port) : (s.setPort p v).culls = s.culls := rfl
@[simp] theorem State.setPort_arrayErrs (s : State) (p : Nat) (v : Port) : (s.setPort p v).arrayErrs = s.arrayErrs := rfl
@[simp] theorem State.setPort_flows (s : State) (p : Nat) (v : Port) : (s.setPort p v).flows = s.flows := rfl
@[simp] theorem State.setPort_trk (s : State) (p : Nat) (v : Port) : (s.setPort p v).trk = s.trk := rfl
@[simp] theorem State.setPort_trkNext (s : State) (p : Nat) (v : Port) : (s.setPort p v).trkNext = s.trkNext := rfl
@[simp] theorem State.setPort_ctrl (s : State) (p : Nat) (v : Port) : (s.setPort p v).ctrl = s.ctrl := rfl
@[simp] theorem State.setPort_ctrlSeen (s : State) (p : Nat) (v : Port) : (s.setPort p v).ctrlSeen = s.ctrlSeen := rfl
@[simp] theorem State.setPort_ctrlNext (s : State) (p : Nat) (v : Port) : (s.setPort p v).ctrlNext = s.ctrlNext := rfl
@[simp] theorem State.setPort_fcache (s : State) (p : Nat) (v : Port) : (s.setPort p v).fcache = s.fcache := rfl
@[simp] theorem State.setPort_atoms (s : State) (p : Nat) (v : Port) : (s.setPort p v).atoms = s.atoms := rfl
@[simp] theorem State.setPort_probes (s : State) (p : Nat) (v : Port) : (s.setPort p v).probes = s.probes := rfl
@[simp] theorem State.setPort_probeLast (s : State) (p : Nat) (v : Port) : (s.setPort p v).probeLast = s.probeLast := rfl
@[simp] theorem State.setPort_links (s : State) (p : Nat) (v : Port) : (s.setPort p v).links = s.links := rfl
@[simp] theorem State.setPort_macs (s : State) (p : Nat) (v : Port) : (s.setPort p v).macs = s.macs := rfl
@[simp] theorem State.setPort_lanes (s : State) (p : Nat) (v : Port) : (s.setPort p v).lanes = s.lanes := rfl
@[simp] theorem State.setPort_recal (s : State) (p : Nat) (v : Port) : (s.setPort p v).recal = s.recal := rfl
@[simp] theorem State.setPort_recalPeriodS (s : State) (p : Nat) (v : Port) : (s.setPort p v).recalPeriodS = s.recalPeriodS := rfl
@[simp] theorem State.setPort_fwd (s : State) (p : Nat) (v : Port) : (s.setPort p v).fwd = s.fwd := rfl
@[simp] theorem State.setPort_peersIp (s : State) (p : Nat) (v : Port) : (s.setPort p v).peersIp = s.peersIp := rfl
@[simp] theorem State.setPort_fwdDropNs (s : State) (p : Nat) (v : Port) : (s.setPort p v).fwdDropNs = s.fwdDropNs := rfl
@[simp] theorem State.setPort_hopLimit (s : State) (p : Nat) (v : Port) : (s.setPort p v).hopLimit = s.hopLimit := rfl
@[simp] theorem State.setPort_ecnDraws (s : State) (p : Nat) (v : Port) : (s.setPort p v).ecnDraws = s.ecnDraws := rfl
@[simp] theorem State.setPort_mailboxes (s : State) (p : Nat) (v : Port) : (s.setPort p v).mailboxes = s.mailboxes := rfl
@[simp] theorem State.setPort_pwFails (s : State) (p : Nat) (v : Port) : (s.setPort p v).pwFails = s.pwFails := rfl
@[simp] theorem State.setPort_lockedUntil (s : State) (p : Nat) (v : Port) : (s.setPort p v).lockedUntil = s.lockedUntil := rfl
@[simp] theorem State.setPort_handles (s : State) (p : Nat) (v : Port) : (s.setPort p v).handles = s.handles := rfl
@[simp] theorem State.setPort_log (s : State) (p : Nat) (v : Port) : (s.setPort p v).log = s.log := rfl
@[simp] theorem State.setPort_logNext (s : State) (p : Nat) (v : Port) : (s.setPort p v).logNext = s.logNext := rfl
@[simp] theorem State.setPort_logOverflow (s : State) (p : Nat) (v : Port) : (s.setPort p v).logOverflow = s.logOverflow := rfl
@[simp] theorem State.setPort_counters (s : State) (p : Nat) (v : Port) : (s.setPort p v).counters = s.counters := rfl
@[simp] theorem State.setPort_nand (s : State) (p : Nat) (v : Port) : (s.setPort p v).nand = s.nand := rfl
@[simp] theorem State.setPort_journal (s : State) (p : Nat) (v : Port) : (s.setPort p v).journal = s.journal := rfl
@[simp] theorem State.setPort_power (s : State) (p : Nat) (v : Port) : (s.setPort p v).power = s.power := rfl
@[simp] theorem State.setPort_life (s : State) (p : Nat) (v : Port) : (s.setPort p v).life = s.life := rfl
@[simp] theorem State.setPort_start (s : State) (p : Nat) (v : Port) : (s.setPort p v).start = s.start := rfl
@[simp] theorem State.setPort_pcie (s : State) (p : Nat) (v : Port) : (s.setPort p v).pcie = s.pcie := rfl
@[simp] theorem State.setPort_pins (s : State) (p : Nat) (v : Port) : (s.setPort p v).pins = s.pins := rfl

@[simp] theorem State.updPort_pending (s : State) (p : Nat) (f : Port → Port) : (s.updPort p f).pending = s.pending := rfl
@[simp] theorem State.updPort_out (s : State) (p : Nat) (f : Port → Port) : (s.updPort p f).out = s.out := rfl
@[simp] theorem State.updPort_fresh (s : State) (p : Nat) (f : Port → Port) : (s.updPort p f).fresh = s.fresh := rfl
@[simp] theorem State.updPort_clk (s : State) (p : Nat) (f : Port → Port) : (s.updPort p f).clk = s.clk := rfl
@[simp] theorem State.updPort_mem (s : State) (p : Nat) (f : Port → Port) : (s.updPort p f).mem = s.mem := rfl
@[simp] theorem State.updPort_deviceId (s : State) (p : Nat) (f : Port → Port) : (s.updPort p f).deviceId = s.deviceId := rfl
@[simp] theorem State.updPort_cores (s : State) (p : Nat) (f : Port → Port) : (s.updPort p f).cores = s.cores := rfl
@[simp] theorem State.updPort_ctxs (s : State) (p : Nat) (f : Port → Port) : (s.updPort p f).ctxs = s.ctxs := rfl
@[simp] theorem State.updPort_migs (s : State) (p : Nat) (f : Port → Port) : (s.updPort p f).migs = s.migs := rfl
@[simp] theorem State.updPort_asks (s : State) (p : Nat) (f : Port → Port) : (s.updPort p f).asks = s.asks := rfl
@[simp] theorem State.updPort_stalled (s : State) (p : Nat) (f : Port → Port) : (s.updPort p f).stalled = s.stalled := rfl
@[simp] theorem State.updPort_migRr (s : State) (p : Nat) (f : Port → Port) : (s.updPort p f).migRr = s.migRr := rfl
@[simp] theorem State.updPort_verifyLast (s : State) (p : Nat) (f : Port → Port) : (s.updPort p f).verifyLast = s.verifyLast := rfl
@[simp] theorem State.updPort_lend (s : State) (p : Nat) (f : Port → Port) : (s.updPort p f).lend = s.lend := rfl
@[simp] theorem State.updPort_banks (s : State) (p : Nat) (f : Port → Port) : (s.updPort p f).banks = s.banks := rfl
@[simp] theorem State.updPort_rowCopies (s : State) (p : Nat) (f : Port → Port) : (s.updPort p f).rowCopies = s.rowCopies := rfl
@[simp] theorem State.updPort_rowMap (s : State) (p : Nat) (f : Port → Port) : (s.updPort p f).rowMap = s.rowMap := rfl
@[simp] theorem State.updPort_withdrawn (s : State) (p : Nat) (f : Port → Port) : (s.updPort p f).withdrawn = s.withdrawn := rfl
@[simp] theorem State.updPort_retiredFrames (s : State) (p : Nat) (f : Port → Port) : (s.updPort p f).retiredFrames = s.retiredFrames := rfl
@[simp] theorem State.updPort_freed (s : State) (p : Nat) (f : Port → Port) : (s.updPort p f).freed = s.freed := rfl
@[simp] theorem State.updPort_tcache (s : State) (p : Nat) (f : Port → Port) : (s.updPort p f).tcache = s.tcache := rfl
@[simp] theorem State.updPort_laneSpares (s : State) (p : Nat) (f : Port → Port) : (s.updPort p f).laneSpares = s.laneSpares := rfl
@[simp] theorem State.updPort_bankSpares (s : State) (p : Nat) (f : Port → Port) : (s.updPort p f).bankSpares = s.bankSpares := rfl
@[simp] theorem State.updPort_culls (s : State) (p : Nat) (f : Port → Port) : (s.updPort p f).culls = s.culls := rfl
@[simp] theorem State.updPort_arrayErrs (s : State) (p : Nat) (f : Port → Port) : (s.updPort p f).arrayErrs = s.arrayErrs := rfl
@[simp] theorem State.updPort_flows (s : State) (p : Nat) (f : Port → Port) : (s.updPort p f).flows = s.flows := rfl
@[simp] theorem State.updPort_trk (s : State) (p : Nat) (f : Port → Port) : (s.updPort p f).trk = s.trk := rfl
@[simp] theorem State.updPort_trkNext (s : State) (p : Nat) (f : Port → Port) : (s.updPort p f).trkNext = s.trkNext := rfl
@[simp] theorem State.updPort_ctrl (s : State) (p : Nat) (f : Port → Port) : (s.updPort p f).ctrl = s.ctrl := rfl
@[simp] theorem State.updPort_ctrlSeen (s : State) (p : Nat) (f : Port → Port) : (s.updPort p f).ctrlSeen = s.ctrlSeen := rfl
@[simp] theorem State.updPort_ctrlNext (s : State) (p : Nat) (f : Port → Port) : (s.updPort p f).ctrlNext = s.ctrlNext := rfl
@[simp] theorem State.updPort_fcache (s : State) (p : Nat) (f : Port → Port) : (s.updPort p f).fcache = s.fcache := rfl
@[simp] theorem State.updPort_atoms (s : State) (p : Nat) (f : Port → Port) : (s.updPort p f).atoms = s.atoms := rfl
@[simp] theorem State.updPort_probes (s : State) (p : Nat) (f : Port → Port) : (s.updPort p f).probes = s.probes := rfl
@[simp] theorem State.updPort_probeLast (s : State) (p : Nat) (f : Port → Port) : (s.updPort p f).probeLast = s.probeLast := rfl
@[simp] theorem State.updPort_links (s : State) (p : Nat) (f : Port → Port) : (s.updPort p f).links = s.links := rfl
@[simp] theorem State.updPort_macs (s : State) (p : Nat) (f : Port → Port) : (s.updPort p f).macs = s.macs := rfl
@[simp] theorem State.updPort_lanes (s : State) (p : Nat) (f : Port → Port) : (s.updPort p f).lanes = s.lanes := rfl
@[simp] theorem State.updPort_recal (s : State) (p : Nat) (f : Port → Port) : (s.updPort p f).recal = s.recal := rfl
@[simp] theorem State.updPort_recalPeriodS (s : State) (p : Nat) (f : Port → Port) : (s.updPort p f).recalPeriodS = s.recalPeriodS := rfl
@[simp] theorem State.updPort_fwd (s : State) (p : Nat) (f : Port → Port) : (s.updPort p f).fwd = s.fwd := rfl
@[simp] theorem State.updPort_peersIp (s : State) (p : Nat) (f : Port → Port) : (s.updPort p f).peersIp = s.peersIp := rfl
@[simp] theorem State.updPort_fwdDropNs (s : State) (p : Nat) (f : Port → Port) : (s.updPort p f).fwdDropNs = s.fwdDropNs := rfl
@[simp] theorem State.updPort_hopLimit (s : State) (p : Nat) (f : Port → Port) : (s.updPort p f).hopLimit = s.hopLimit := rfl
@[simp] theorem State.updPort_ecnDraws (s : State) (p : Nat) (f : Port → Port) : (s.updPort p f).ecnDraws = s.ecnDraws := rfl
@[simp] theorem State.updPort_mailboxes (s : State) (p : Nat) (f : Port → Port) : (s.updPort p f).mailboxes = s.mailboxes := rfl
@[simp] theorem State.updPort_pwFails (s : State) (p : Nat) (f : Port → Port) : (s.updPort p f).pwFails = s.pwFails := rfl
@[simp] theorem State.updPort_lockedUntil (s : State) (p : Nat) (f : Port → Port) : (s.updPort p f).lockedUntil = s.lockedUntil := rfl
@[simp] theorem State.updPort_handles (s : State) (p : Nat) (f : Port → Port) : (s.updPort p f).handles = s.handles := rfl
@[simp] theorem State.updPort_log (s : State) (p : Nat) (f : Port → Port) : (s.updPort p f).log = s.log := rfl
@[simp] theorem State.updPort_logNext (s : State) (p : Nat) (f : Port → Port) : (s.updPort p f).logNext = s.logNext := rfl
@[simp] theorem State.updPort_logOverflow (s : State) (p : Nat) (f : Port → Port) : (s.updPort p f).logOverflow = s.logOverflow := rfl
@[simp] theorem State.updPort_counters (s : State) (p : Nat) (f : Port → Port) : (s.updPort p f).counters = s.counters := rfl
@[simp] theorem State.updPort_nand (s : State) (p : Nat) (f : Port → Port) : (s.updPort p f).nand = s.nand := rfl
@[simp] theorem State.updPort_journal (s : State) (p : Nat) (f : Port → Port) : (s.updPort p f).journal = s.journal := rfl
@[simp] theorem State.updPort_power (s : State) (p : Nat) (f : Port → Port) : (s.updPort p f).power = s.power := rfl
@[simp] theorem State.updPort_life (s : State) (p : Nat) (f : Port → Port) : (s.updPort p f).life = s.life := rfl
@[simp] theorem State.updPort_start (s : State) (p : Nat) (f : Port → Port) : (s.updPort p f).start = s.start := rfl
@[simp] theorem State.updPort_pcie (s : State) (p : Nat) (f : Port → Port) : (s.updPort p f).pcie = s.pcie := rfl
@[simp] theorem State.updPort_pins (s : State) (p : Nat) (f : Port → Port) : (s.updPort p f).pins = s.pins := rfl

@[simp] theorem State.updLane_pending (s : State) (l : Nat) (f : Lane → Lane) : (s.updLane l f).pending = s.pending := rfl
@[simp] theorem State.updLane_out (s : State) (l : Nat) (f : Lane → Lane) : (s.updLane l f).out = s.out := rfl
@[simp] theorem State.updLane_fresh (s : State) (l : Nat) (f : Lane → Lane) : (s.updLane l f).fresh = s.fresh := rfl
@[simp] theorem State.updLane_clk (s : State) (l : Nat) (f : Lane → Lane) : (s.updLane l f).clk = s.clk := rfl
@[simp] theorem State.updLane_mem (s : State) (l : Nat) (f : Lane → Lane) : (s.updLane l f).mem = s.mem := rfl
@[simp] theorem State.updLane_deviceId (s : State) (l : Nat) (f : Lane → Lane) : (s.updLane l f).deviceId = s.deviceId := rfl
@[simp] theorem State.updLane_cores (s : State) (l : Nat) (f : Lane → Lane) : (s.updLane l f).cores = s.cores := rfl
@[simp] theorem State.updLane_ctxs (s : State) (l : Nat) (f : Lane → Lane) : (s.updLane l f).ctxs = s.ctxs := rfl
@[simp] theorem State.updLane_migs (s : State) (l : Nat) (f : Lane → Lane) : (s.updLane l f).migs = s.migs := rfl
@[simp] theorem State.updLane_asks (s : State) (l : Nat) (f : Lane → Lane) : (s.updLane l f).asks = s.asks := rfl
@[simp] theorem State.updLane_stalled (s : State) (l : Nat) (f : Lane → Lane) : (s.updLane l f).stalled = s.stalled := rfl
@[simp] theorem State.updLane_migRr (s : State) (l : Nat) (f : Lane → Lane) : (s.updLane l f).migRr = s.migRr := rfl
@[simp] theorem State.updLane_verifyLast (s : State) (l : Nat) (f : Lane → Lane) : (s.updLane l f).verifyLast = s.verifyLast := rfl
@[simp] theorem State.updLane_lend (s : State) (l : Nat) (f : Lane → Lane) : (s.updLane l f).lend = s.lend := rfl
@[simp] theorem State.updLane_banks (s : State) (l : Nat) (f : Lane → Lane) : (s.updLane l f).banks = s.banks := rfl
@[simp] theorem State.updLane_rowCopies (s : State) (l : Nat) (f : Lane → Lane) : (s.updLane l f).rowCopies = s.rowCopies := rfl
@[simp] theorem State.updLane_rowMap (s : State) (l : Nat) (f : Lane → Lane) : (s.updLane l f).rowMap = s.rowMap := rfl
@[simp] theorem State.updLane_withdrawn (s : State) (l : Nat) (f : Lane → Lane) : (s.updLane l f).withdrawn = s.withdrawn := rfl
@[simp] theorem State.updLane_retiredFrames (s : State) (l : Nat) (f : Lane → Lane) : (s.updLane l f).retiredFrames = s.retiredFrames := rfl
@[simp] theorem State.updLane_freed (s : State) (l : Nat) (f : Lane → Lane) : (s.updLane l f).freed = s.freed := rfl
@[simp] theorem State.updLane_tcache (s : State) (l : Nat) (f : Lane → Lane) : (s.updLane l f).tcache = s.tcache := rfl
@[simp] theorem State.updLane_laneSpares (s : State) (l : Nat) (f : Lane → Lane) : (s.updLane l f).laneSpares = s.laneSpares := rfl
@[simp] theorem State.updLane_bankSpares (s : State) (l : Nat) (f : Lane → Lane) : (s.updLane l f).bankSpares = s.bankSpares := rfl
@[simp] theorem State.updLane_culls (s : State) (l : Nat) (f : Lane → Lane) : (s.updLane l f).culls = s.culls := rfl
@[simp] theorem State.updLane_arrayErrs (s : State) (l : Nat) (f : Lane → Lane) : (s.updLane l f).arrayErrs = s.arrayErrs := rfl
@[simp] theorem State.updLane_flows (s : State) (l : Nat) (f : Lane → Lane) : (s.updLane l f).flows = s.flows := rfl
@[simp] theorem State.updLane_trk (s : State) (l : Nat) (f : Lane → Lane) : (s.updLane l f).trk = s.trk := rfl
@[simp] theorem State.updLane_trkNext (s : State) (l : Nat) (f : Lane → Lane) : (s.updLane l f).trkNext = s.trkNext := rfl
@[simp] theorem State.updLane_ctrl (s : State) (l : Nat) (f : Lane → Lane) : (s.updLane l f).ctrl = s.ctrl := rfl
@[simp] theorem State.updLane_ctrlSeen (s : State) (l : Nat) (f : Lane → Lane) : (s.updLane l f).ctrlSeen = s.ctrlSeen := rfl
@[simp] theorem State.updLane_ctrlNext (s : State) (l : Nat) (f : Lane → Lane) : (s.updLane l f).ctrlNext = s.ctrlNext := rfl
@[simp] theorem State.updLane_fcache (s : State) (l : Nat) (f : Lane → Lane) : (s.updLane l f).fcache = s.fcache := rfl
@[simp] theorem State.updLane_atoms (s : State) (l : Nat) (f : Lane → Lane) : (s.updLane l f).atoms = s.atoms := rfl
@[simp] theorem State.updLane_probes (s : State) (l : Nat) (f : Lane → Lane) : (s.updLane l f).probes = s.probes := rfl
@[simp] theorem State.updLane_probeLast (s : State) (l : Nat) (f : Lane → Lane) : (s.updLane l f).probeLast = s.probeLast := rfl
@[simp] theorem State.updLane_links (s : State) (l : Nat) (f : Lane → Lane) : (s.updLane l f).links = s.links := rfl
@[simp] theorem State.updLane_macs (s : State) (l : Nat) (f : Lane → Lane) : (s.updLane l f).macs = s.macs := rfl
@[simp] theorem State.updLane_ports (s : State) (l : Nat) (f : Lane → Lane) : (s.updLane l f).ports = s.ports := rfl
@[simp] theorem State.updLane_recal (s : State) (l : Nat) (f : Lane → Lane) : (s.updLane l f).recal = s.recal := rfl
@[simp] theorem State.updLane_recalPeriodS (s : State) (l : Nat) (f : Lane → Lane) : (s.updLane l f).recalPeriodS = s.recalPeriodS := rfl
@[simp] theorem State.updLane_fwd (s : State) (l : Nat) (f : Lane → Lane) : (s.updLane l f).fwd = s.fwd := rfl
@[simp] theorem State.updLane_peersIp (s : State) (l : Nat) (f : Lane → Lane) : (s.updLane l f).peersIp = s.peersIp := rfl
@[simp] theorem State.updLane_fwdDropNs (s : State) (l : Nat) (f : Lane → Lane) : (s.updLane l f).fwdDropNs = s.fwdDropNs := rfl
@[simp] theorem State.updLane_hopLimit (s : State) (l : Nat) (f : Lane → Lane) : (s.updLane l f).hopLimit = s.hopLimit := rfl
@[simp] theorem State.updLane_ecnDraws (s : State) (l : Nat) (f : Lane → Lane) : (s.updLane l f).ecnDraws = s.ecnDraws := rfl
@[simp] theorem State.updLane_mailboxes (s : State) (l : Nat) (f : Lane → Lane) : (s.updLane l f).mailboxes = s.mailboxes := rfl
@[simp] theorem State.updLane_pwFails (s : State) (l : Nat) (f : Lane → Lane) : (s.updLane l f).pwFails = s.pwFails := rfl
@[simp] theorem State.updLane_lockedUntil (s : State) (l : Nat) (f : Lane → Lane) : (s.updLane l f).lockedUntil = s.lockedUntil := rfl
@[simp] theorem State.updLane_handles (s : State) (l : Nat) (f : Lane → Lane) : (s.updLane l f).handles = s.handles := rfl
@[simp] theorem State.updLane_log (s : State) (l : Nat) (f : Lane → Lane) : (s.updLane l f).log = s.log := rfl
@[simp] theorem State.updLane_logNext (s : State) (l : Nat) (f : Lane → Lane) : (s.updLane l f).logNext = s.logNext := rfl
@[simp] theorem State.updLane_logOverflow (s : State) (l : Nat) (f : Lane → Lane) : (s.updLane l f).logOverflow = s.logOverflow := rfl
@[simp] theorem State.updLane_counters (s : State) (l : Nat) (f : Lane → Lane) : (s.updLane l f).counters = s.counters := rfl
@[simp] theorem State.updLane_nand (s : State) (l : Nat) (f : Lane → Lane) : (s.updLane l f).nand = s.nand := rfl
@[simp] theorem State.updLane_journal (s : State) (l : Nat) (f : Lane → Lane) : (s.updLane l f).journal = s.journal := rfl
@[simp] theorem State.updLane_power (s : State) (l : Nat) (f : Lane → Lane) : (s.updLane l f).power = s.power := rfl
@[simp] theorem State.updLane_life (s : State) (l : Nat) (f : Lane → Lane) : (s.updLane l f).life = s.life := rfl
@[simp] theorem State.updLane_start (s : State) (l : Nat) (f : Lane → Lane) : (s.updLane l f).start = s.start := rfl
@[simp] theorem State.updLane_pcie (s : State) (l : Nat) (f : Lane → Lane) : (s.updLane l f).pcie = s.pcie := rfl
@[simp] theorem State.updLane_pins (s : State) (l : Nat) (f : Lane → Lane) : (s.updLane l f).pins = s.pins := rfl

@[simp] theorem State.setMbox_pending (s : State) (m : Nat) (v : Mailbox) : (s.setMbox m v).pending = s.pending := rfl
@[simp] theorem State.setMbox_out (s : State) (m : Nat) (v : Mailbox) : (s.setMbox m v).out = s.out := rfl
@[simp] theorem State.setMbox_fresh (s : State) (m : Nat) (v : Mailbox) : (s.setMbox m v).fresh = s.fresh := rfl
@[simp] theorem State.setMbox_clk (s : State) (m : Nat) (v : Mailbox) : (s.setMbox m v).clk = s.clk := rfl
@[simp] theorem State.setMbox_mem (s : State) (m : Nat) (v : Mailbox) : (s.setMbox m v).mem = s.mem := rfl
@[simp] theorem State.setMbox_deviceId (s : State) (m : Nat) (v : Mailbox) : (s.setMbox m v).deviceId = s.deviceId := rfl
@[simp] theorem State.setMbox_cores (s : State) (m : Nat) (v : Mailbox) : (s.setMbox m v).cores = s.cores := rfl
@[simp] theorem State.setMbox_ctxs (s : State) (m : Nat) (v : Mailbox) : (s.setMbox m v).ctxs = s.ctxs := rfl
@[simp] theorem State.setMbox_migs (s : State) (m : Nat) (v : Mailbox) : (s.setMbox m v).migs = s.migs := rfl
@[simp] theorem State.setMbox_asks (s : State) (m : Nat) (v : Mailbox) : (s.setMbox m v).asks = s.asks := rfl
@[simp] theorem State.setMbox_stalled (s : State) (m : Nat) (v : Mailbox) : (s.setMbox m v).stalled = s.stalled := rfl
@[simp] theorem State.setMbox_migRr (s : State) (m : Nat) (v : Mailbox) : (s.setMbox m v).migRr = s.migRr := rfl
@[simp] theorem State.setMbox_verifyLast (s : State) (m : Nat) (v : Mailbox) : (s.setMbox m v).verifyLast = s.verifyLast := rfl
@[simp] theorem State.setMbox_lend (s : State) (m : Nat) (v : Mailbox) : (s.setMbox m v).lend = s.lend := rfl
@[simp] theorem State.setMbox_banks (s : State) (m : Nat) (v : Mailbox) : (s.setMbox m v).banks = s.banks := rfl
@[simp] theorem State.setMbox_rowCopies (s : State) (m : Nat) (v : Mailbox) : (s.setMbox m v).rowCopies = s.rowCopies := rfl
@[simp] theorem State.setMbox_rowMap (s : State) (m : Nat) (v : Mailbox) : (s.setMbox m v).rowMap = s.rowMap := rfl
@[simp] theorem State.setMbox_withdrawn (s : State) (m : Nat) (v : Mailbox) : (s.setMbox m v).withdrawn = s.withdrawn := rfl
@[simp] theorem State.setMbox_retiredFrames (s : State) (m : Nat) (v : Mailbox) : (s.setMbox m v).retiredFrames = s.retiredFrames := rfl
@[simp] theorem State.setMbox_freed (s : State) (m : Nat) (v : Mailbox) : (s.setMbox m v).freed = s.freed := rfl
@[simp] theorem State.setMbox_tcache (s : State) (m : Nat) (v : Mailbox) : (s.setMbox m v).tcache = s.tcache := rfl
@[simp] theorem State.setMbox_laneSpares (s : State) (m : Nat) (v : Mailbox) : (s.setMbox m v).laneSpares = s.laneSpares := rfl
@[simp] theorem State.setMbox_bankSpares (s : State) (m : Nat) (v : Mailbox) : (s.setMbox m v).bankSpares = s.bankSpares := rfl
@[simp] theorem State.setMbox_culls (s : State) (m : Nat) (v : Mailbox) : (s.setMbox m v).culls = s.culls := rfl
@[simp] theorem State.setMbox_arrayErrs (s : State) (m : Nat) (v : Mailbox) : (s.setMbox m v).arrayErrs = s.arrayErrs := rfl
@[simp] theorem State.setMbox_flows (s : State) (m : Nat) (v : Mailbox) : (s.setMbox m v).flows = s.flows := rfl
@[simp] theorem State.setMbox_trk (s : State) (m : Nat) (v : Mailbox) : (s.setMbox m v).trk = s.trk := rfl
@[simp] theorem State.setMbox_trkNext (s : State) (m : Nat) (v : Mailbox) : (s.setMbox m v).trkNext = s.trkNext := rfl
@[simp] theorem State.setMbox_ctrl (s : State) (m : Nat) (v : Mailbox) : (s.setMbox m v).ctrl = s.ctrl := rfl
@[simp] theorem State.setMbox_ctrlSeen (s : State) (m : Nat) (v : Mailbox) : (s.setMbox m v).ctrlSeen = s.ctrlSeen := rfl
@[simp] theorem State.setMbox_ctrlNext (s : State) (m : Nat) (v : Mailbox) : (s.setMbox m v).ctrlNext = s.ctrlNext := rfl
@[simp] theorem State.setMbox_fcache (s : State) (m : Nat) (v : Mailbox) : (s.setMbox m v).fcache = s.fcache := rfl
@[simp] theorem State.setMbox_atoms (s : State) (m : Nat) (v : Mailbox) : (s.setMbox m v).atoms = s.atoms := rfl
@[simp] theorem State.setMbox_probes (s : State) (m : Nat) (v : Mailbox) : (s.setMbox m v).probes = s.probes := rfl
@[simp] theorem State.setMbox_probeLast (s : State) (m : Nat) (v : Mailbox) : (s.setMbox m v).probeLast = s.probeLast := rfl
@[simp] theorem State.setMbox_links (s : State) (m : Nat) (v : Mailbox) : (s.setMbox m v).links = s.links := rfl
@[simp] theorem State.setMbox_macs (s : State) (m : Nat) (v : Mailbox) : (s.setMbox m v).macs = s.macs := rfl
@[simp] theorem State.setMbox_ports (s : State) (m : Nat) (v : Mailbox) : (s.setMbox m v).ports = s.ports := rfl
@[simp] theorem State.setMbox_lanes (s : State) (m : Nat) (v : Mailbox) : (s.setMbox m v).lanes = s.lanes := rfl
@[simp] theorem State.setMbox_recal (s : State) (m : Nat) (v : Mailbox) : (s.setMbox m v).recal = s.recal := rfl
@[simp] theorem State.setMbox_recalPeriodS (s : State) (m : Nat) (v : Mailbox) : (s.setMbox m v).recalPeriodS = s.recalPeriodS := rfl
@[simp] theorem State.setMbox_fwd (s : State) (m : Nat) (v : Mailbox) : (s.setMbox m v).fwd = s.fwd := rfl
@[simp] theorem State.setMbox_peersIp (s : State) (m : Nat) (v : Mailbox) : (s.setMbox m v).peersIp = s.peersIp := rfl
@[simp] theorem State.setMbox_fwdDropNs (s : State) (m : Nat) (v : Mailbox) : (s.setMbox m v).fwdDropNs = s.fwdDropNs := rfl
@[simp] theorem State.setMbox_hopLimit (s : State) (m : Nat) (v : Mailbox) : (s.setMbox m v).hopLimit = s.hopLimit := rfl
@[simp] theorem State.setMbox_ecnDraws (s : State) (m : Nat) (v : Mailbox) : (s.setMbox m v).ecnDraws = s.ecnDraws := rfl
@[simp] theorem State.setMbox_pwFails (s : State) (m : Nat) (v : Mailbox) : (s.setMbox m v).pwFails = s.pwFails := rfl
@[simp] theorem State.setMbox_lockedUntil (s : State) (m : Nat) (v : Mailbox) : (s.setMbox m v).lockedUntil = s.lockedUntil := rfl
@[simp] theorem State.setMbox_handles (s : State) (m : Nat) (v : Mailbox) : (s.setMbox m v).handles = s.handles := rfl
@[simp] theorem State.setMbox_log (s : State) (m : Nat) (v : Mailbox) : (s.setMbox m v).log = s.log := rfl
@[simp] theorem State.setMbox_logNext (s : State) (m : Nat) (v : Mailbox) : (s.setMbox m v).logNext = s.logNext := rfl
@[simp] theorem State.setMbox_logOverflow (s : State) (m : Nat) (v : Mailbox) : (s.setMbox m v).logOverflow = s.logOverflow := rfl
@[simp] theorem State.setMbox_counters (s : State) (m : Nat) (v : Mailbox) : (s.setMbox m v).counters = s.counters := rfl
@[simp] theorem State.setMbox_nand (s : State) (m : Nat) (v : Mailbox) : (s.setMbox m v).nand = s.nand := rfl
@[simp] theorem State.setMbox_journal (s : State) (m : Nat) (v : Mailbox) : (s.setMbox m v).journal = s.journal := rfl
@[simp] theorem State.setMbox_power (s : State) (m : Nat) (v : Mailbox) : (s.setMbox m v).power = s.power := rfl
@[simp] theorem State.setMbox_life (s : State) (m : Nat) (v : Mailbox) : (s.setMbox m v).life = s.life := rfl
@[simp] theorem State.setMbox_start (s : State) (m : Nat) (v : Mailbox) : (s.setMbox m v).start = s.start := rfl
@[simp] theorem State.setMbox_pcie (s : State) (m : Nat) (v : Mailbox) : (s.setMbox m v).pcie = s.pcie := rfl
@[simp] theorem State.setMbox_pins (s : State) (m : Nat) (v : Mailbox) : (s.setMbox m v).pins = s.pins := rfl

@[simp] theorem State.updMbox_pending (s : State) (m : Nat) (f : Mailbox → Mailbox) : (s.updMbox m f).pending = s.pending := rfl
@[simp] theorem State.updMbox_out (s : State) (m : Nat) (f : Mailbox → Mailbox) : (s.updMbox m f).out = s.out := rfl
@[simp] theorem State.updMbox_fresh (s : State) (m : Nat) (f : Mailbox → Mailbox) : (s.updMbox m f).fresh = s.fresh := rfl
@[simp] theorem State.updMbox_clk (s : State) (m : Nat) (f : Mailbox → Mailbox) : (s.updMbox m f).clk = s.clk := rfl
@[simp] theorem State.updMbox_mem (s : State) (m : Nat) (f : Mailbox → Mailbox) : (s.updMbox m f).mem = s.mem := rfl
@[simp] theorem State.updMbox_deviceId (s : State) (m : Nat) (f : Mailbox → Mailbox) : (s.updMbox m f).deviceId = s.deviceId := rfl
@[simp] theorem State.updMbox_cores (s : State) (m : Nat) (f : Mailbox → Mailbox) : (s.updMbox m f).cores = s.cores := rfl
@[simp] theorem State.updMbox_ctxs (s : State) (m : Nat) (f : Mailbox → Mailbox) : (s.updMbox m f).ctxs = s.ctxs := rfl
@[simp] theorem State.updMbox_migs (s : State) (m : Nat) (f : Mailbox → Mailbox) : (s.updMbox m f).migs = s.migs := rfl
@[simp] theorem State.updMbox_asks (s : State) (m : Nat) (f : Mailbox → Mailbox) : (s.updMbox m f).asks = s.asks := rfl
@[simp] theorem State.updMbox_stalled (s : State) (m : Nat) (f : Mailbox → Mailbox) : (s.updMbox m f).stalled = s.stalled := rfl
@[simp] theorem State.updMbox_migRr (s : State) (m : Nat) (f : Mailbox → Mailbox) : (s.updMbox m f).migRr = s.migRr := rfl
@[simp] theorem State.updMbox_verifyLast (s : State) (m : Nat) (f : Mailbox → Mailbox) : (s.updMbox m f).verifyLast = s.verifyLast := rfl
@[simp] theorem State.updMbox_lend (s : State) (m : Nat) (f : Mailbox → Mailbox) : (s.updMbox m f).lend = s.lend := rfl
@[simp] theorem State.updMbox_banks (s : State) (m : Nat) (f : Mailbox → Mailbox) : (s.updMbox m f).banks = s.banks := rfl
@[simp] theorem State.updMbox_rowCopies (s : State) (m : Nat) (f : Mailbox → Mailbox) : (s.updMbox m f).rowCopies = s.rowCopies := rfl
@[simp] theorem State.updMbox_rowMap (s : State) (m : Nat) (f : Mailbox → Mailbox) : (s.updMbox m f).rowMap = s.rowMap := rfl
@[simp] theorem State.updMbox_withdrawn (s : State) (m : Nat) (f : Mailbox → Mailbox) : (s.updMbox m f).withdrawn = s.withdrawn := rfl
@[simp] theorem State.updMbox_retiredFrames (s : State) (m : Nat) (f : Mailbox → Mailbox) : (s.updMbox m f).retiredFrames = s.retiredFrames := rfl
@[simp] theorem State.updMbox_freed (s : State) (m : Nat) (f : Mailbox → Mailbox) : (s.updMbox m f).freed = s.freed := rfl
@[simp] theorem State.updMbox_tcache (s : State) (m : Nat) (f : Mailbox → Mailbox) : (s.updMbox m f).tcache = s.tcache := rfl
@[simp] theorem State.updMbox_laneSpares (s : State) (m : Nat) (f : Mailbox → Mailbox) : (s.updMbox m f).laneSpares = s.laneSpares := rfl
@[simp] theorem State.updMbox_bankSpares (s : State) (m : Nat) (f : Mailbox → Mailbox) : (s.updMbox m f).bankSpares = s.bankSpares := rfl
@[simp] theorem State.updMbox_culls (s : State) (m : Nat) (f : Mailbox → Mailbox) : (s.updMbox m f).culls = s.culls := rfl
@[simp] theorem State.updMbox_arrayErrs (s : State) (m : Nat) (f : Mailbox → Mailbox) : (s.updMbox m f).arrayErrs = s.arrayErrs := rfl
@[simp] theorem State.updMbox_flows (s : State) (m : Nat) (f : Mailbox → Mailbox) : (s.updMbox m f).flows = s.flows := rfl
@[simp] theorem State.updMbox_trk (s : State) (m : Nat) (f : Mailbox → Mailbox) : (s.updMbox m f).trk = s.trk := rfl
@[simp] theorem State.updMbox_trkNext (s : State) (m : Nat) (f : Mailbox → Mailbox) : (s.updMbox m f).trkNext = s.trkNext := rfl
@[simp] theorem State.updMbox_ctrl (s : State) (m : Nat) (f : Mailbox → Mailbox) : (s.updMbox m f).ctrl = s.ctrl := rfl
@[simp] theorem State.updMbox_ctrlSeen (s : State) (m : Nat) (f : Mailbox → Mailbox) : (s.updMbox m f).ctrlSeen = s.ctrlSeen := rfl
@[simp] theorem State.updMbox_ctrlNext (s : State) (m : Nat) (f : Mailbox → Mailbox) : (s.updMbox m f).ctrlNext = s.ctrlNext := rfl
@[simp] theorem State.updMbox_fcache (s : State) (m : Nat) (f : Mailbox → Mailbox) : (s.updMbox m f).fcache = s.fcache := rfl
@[simp] theorem State.updMbox_atoms (s : State) (m : Nat) (f : Mailbox → Mailbox) : (s.updMbox m f).atoms = s.atoms := rfl
@[simp] theorem State.updMbox_probes (s : State) (m : Nat) (f : Mailbox → Mailbox) : (s.updMbox m f).probes = s.probes := rfl
@[simp] theorem State.updMbox_probeLast (s : State) (m : Nat) (f : Mailbox → Mailbox) : (s.updMbox m f).probeLast = s.probeLast := rfl
@[simp] theorem State.updMbox_links (s : State) (m : Nat) (f : Mailbox → Mailbox) : (s.updMbox m f).links = s.links := rfl
@[simp] theorem State.updMbox_macs (s : State) (m : Nat) (f : Mailbox → Mailbox) : (s.updMbox m f).macs = s.macs := rfl
@[simp] theorem State.updMbox_ports (s : State) (m : Nat) (f : Mailbox → Mailbox) : (s.updMbox m f).ports = s.ports := rfl
@[simp] theorem State.updMbox_lanes (s : State) (m : Nat) (f : Mailbox → Mailbox) : (s.updMbox m f).lanes = s.lanes := rfl
@[simp] theorem State.updMbox_recal (s : State) (m : Nat) (f : Mailbox → Mailbox) : (s.updMbox m f).recal = s.recal := rfl
@[simp] theorem State.updMbox_recalPeriodS (s : State) (m : Nat) (f : Mailbox → Mailbox) : (s.updMbox m f).recalPeriodS = s.recalPeriodS := rfl
@[simp] theorem State.updMbox_fwd (s : State) (m : Nat) (f : Mailbox → Mailbox) : (s.updMbox m f).fwd = s.fwd := rfl
@[simp] theorem State.updMbox_peersIp (s : State) (m : Nat) (f : Mailbox → Mailbox) : (s.updMbox m f).peersIp = s.peersIp := rfl
@[simp] theorem State.updMbox_fwdDropNs (s : State) (m : Nat) (f : Mailbox → Mailbox) : (s.updMbox m f).fwdDropNs = s.fwdDropNs := rfl
@[simp] theorem State.updMbox_hopLimit (s : State) (m : Nat) (f : Mailbox → Mailbox) : (s.updMbox m f).hopLimit = s.hopLimit := rfl
@[simp] theorem State.updMbox_ecnDraws (s : State) (m : Nat) (f : Mailbox → Mailbox) : (s.updMbox m f).ecnDraws = s.ecnDraws := rfl
@[simp] theorem State.updMbox_pwFails (s : State) (m : Nat) (f : Mailbox → Mailbox) : (s.updMbox m f).pwFails = s.pwFails := rfl
@[simp] theorem State.updMbox_lockedUntil (s : State) (m : Nat) (f : Mailbox → Mailbox) : (s.updMbox m f).lockedUntil = s.lockedUntil := rfl
@[simp] theorem State.updMbox_handles (s : State) (m : Nat) (f : Mailbox → Mailbox) : (s.updMbox m f).handles = s.handles := rfl
@[simp] theorem State.updMbox_log (s : State) (m : Nat) (f : Mailbox → Mailbox) : (s.updMbox m f).log = s.log := rfl
@[simp] theorem State.updMbox_logNext (s : State) (m : Nat) (f : Mailbox → Mailbox) : (s.updMbox m f).logNext = s.logNext := rfl
@[simp] theorem State.updMbox_logOverflow (s : State) (m : Nat) (f : Mailbox → Mailbox) : (s.updMbox m f).logOverflow = s.logOverflow := rfl
@[simp] theorem State.updMbox_counters (s : State) (m : Nat) (f : Mailbox → Mailbox) : (s.updMbox m f).counters = s.counters := rfl
@[simp] theorem State.updMbox_nand (s : State) (m : Nat) (f : Mailbox → Mailbox) : (s.updMbox m f).nand = s.nand := rfl
@[simp] theorem State.updMbox_journal (s : State) (m : Nat) (f : Mailbox → Mailbox) : (s.updMbox m f).journal = s.journal := rfl
@[simp] theorem State.updMbox_power (s : State) (m : Nat) (f : Mailbox → Mailbox) : (s.updMbox m f).power = s.power := rfl
@[simp] theorem State.updMbox_life (s : State) (m : Nat) (f : Mailbox → Mailbox) : (s.updMbox m f).life = s.life := rfl
@[simp] theorem State.updMbox_start (s : State) (m : Nat) (f : Mailbox → Mailbox) : (s.updMbox m f).start = s.start := rfl
@[simp] theorem State.updMbox_pcie (s : State) (m : Nat) (f : Mailbox → Mailbox) : (s.updMbox m f).pcie = s.pcie := rfl
@[simp] theorem State.updMbox_pins (s : State) (m : Nat) (f : Mailbox → Mailbox) : (s.updMbox m f).pins = s.pins := rfl

@[simp] theorem State.setHandle_pending (s : State) (k : Nat) (v : Handle) : (s.setHandle k v).pending = s.pending := rfl
@[simp] theorem State.setHandle_out (s : State) (k : Nat) (v : Handle) : (s.setHandle k v).out = s.out := rfl
@[simp] theorem State.setHandle_fresh (s : State) (k : Nat) (v : Handle) : (s.setHandle k v).fresh = s.fresh := rfl
@[simp] theorem State.setHandle_clk (s : State) (k : Nat) (v : Handle) : (s.setHandle k v).clk = s.clk := rfl
@[simp] theorem State.setHandle_mem (s : State) (k : Nat) (v : Handle) : (s.setHandle k v).mem = s.mem := rfl
@[simp] theorem State.setHandle_deviceId (s : State) (k : Nat) (v : Handle) : (s.setHandle k v).deviceId = s.deviceId := rfl
@[simp] theorem State.setHandle_cores (s : State) (k : Nat) (v : Handle) : (s.setHandle k v).cores = s.cores := rfl
@[simp] theorem State.setHandle_ctxs (s : State) (k : Nat) (v : Handle) : (s.setHandle k v).ctxs = s.ctxs := rfl
@[simp] theorem State.setHandle_migs (s : State) (k : Nat) (v : Handle) : (s.setHandle k v).migs = s.migs := rfl
@[simp] theorem State.setHandle_asks (s : State) (k : Nat) (v : Handle) : (s.setHandle k v).asks = s.asks := rfl
@[simp] theorem State.setHandle_stalled (s : State) (k : Nat) (v : Handle) : (s.setHandle k v).stalled = s.stalled := rfl
@[simp] theorem State.setHandle_migRr (s : State) (k : Nat) (v : Handle) : (s.setHandle k v).migRr = s.migRr := rfl
@[simp] theorem State.setHandle_verifyLast (s : State) (k : Nat) (v : Handle) : (s.setHandle k v).verifyLast = s.verifyLast := rfl
@[simp] theorem State.setHandle_lend (s : State) (k : Nat) (v : Handle) : (s.setHandle k v).lend = s.lend := rfl
@[simp] theorem State.setHandle_banks (s : State) (k : Nat) (v : Handle) : (s.setHandle k v).banks = s.banks := rfl
@[simp] theorem State.setHandle_rowCopies (s : State) (k : Nat) (v : Handle) : (s.setHandle k v).rowCopies = s.rowCopies := rfl
@[simp] theorem State.setHandle_rowMap (s : State) (k : Nat) (v : Handle) : (s.setHandle k v).rowMap = s.rowMap := rfl
@[simp] theorem State.setHandle_withdrawn (s : State) (k : Nat) (v : Handle) : (s.setHandle k v).withdrawn = s.withdrawn := rfl
@[simp] theorem State.setHandle_retiredFrames (s : State) (k : Nat) (v : Handle) : (s.setHandle k v).retiredFrames = s.retiredFrames := rfl
@[simp] theorem State.setHandle_freed (s : State) (k : Nat) (v : Handle) : (s.setHandle k v).freed = s.freed := rfl
@[simp] theorem State.setHandle_tcache (s : State) (k : Nat) (v : Handle) : (s.setHandle k v).tcache = s.tcache := rfl
@[simp] theorem State.setHandle_laneSpares (s : State) (k : Nat) (v : Handle) : (s.setHandle k v).laneSpares = s.laneSpares := rfl
@[simp] theorem State.setHandle_bankSpares (s : State) (k : Nat) (v : Handle) : (s.setHandle k v).bankSpares = s.bankSpares := rfl
@[simp] theorem State.setHandle_culls (s : State) (k : Nat) (v : Handle) : (s.setHandle k v).culls = s.culls := rfl
@[simp] theorem State.setHandle_arrayErrs (s : State) (k : Nat) (v : Handle) : (s.setHandle k v).arrayErrs = s.arrayErrs := rfl
@[simp] theorem State.setHandle_flows (s : State) (k : Nat) (v : Handle) : (s.setHandle k v).flows = s.flows := rfl
@[simp] theorem State.setHandle_trk (s : State) (k : Nat) (v : Handle) : (s.setHandle k v).trk = s.trk := rfl
@[simp] theorem State.setHandle_trkNext (s : State) (k : Nat) (v : Handle) : (s.setHandle k v).trkNext = s.trkNext := rfl
@[simp] theorem State.setHandle_ctrl (s : State) (k : Nat) (v : Handle) : (s.setHandle k v).ctrl = s.ctrl := rfl
@[simp] theorem State.setHandle_ctrlSeen (s : State) (k : Nat) (v : Handle) : (s.setHandle k v).ctrlSeen = s.ctrlSeen := rfl
@[simp] theorem State.setHandle_ctrlNext (s : State) (k : Nat) (v : Handle) : (s.setHandle k v).ctrlNext = s.ctrlNext := rfl
@[simp] theorem State.setHandle_fcache (s : State) (k : Nat) (v : Handle) : (s.setHandle k v).fcache = s.fcache := rfl
@[simp] theorem State.setHandle_atoms (s : State) (k : Nat) (v : Handle) : (s.setHandle k v).atoms = s.atoms := rfl
@[simp] theorem State.setHandle_probes (s : State) (k : Nat) (v : Handle) : (s.setHandle k v).probes = s.probes := rfl
@[simp] theorem State.setHandle_probeLast (s : State) (k : Nat) (v : Handle) : (s.setHandle k v).probeLast = s.probeLast := rfl
@[simp] theorem State.setHandle_links (s : State) (k : Nat) (v : Handle) : (s.setHandle k v).links = s.links := rfl
@[simp] theorem State.setHandle_macs (s : State) (k : Nat) (v : Handle) : (s.setHandle k v).macs = s.macs := rfl
@[simp] theorem State.setHandle_ports (s : State) (k : Nat) (v : Handle) : (s.setHandle k v).ports = s.ports := rfl
@[simp] theorem State.setHandle_lanes (s : State) (k : Nat) (v : Handle) : (s.setHandle k v).lanes = s.lanes := rfl
@[simp] theorem State.setHandle_recal (s : State) (k : Nat) (v : Handle) : (s.setHandle k v).recal = s.recal := rfl
@[simp] theorem State.setHandle_recalPeriodS (s : State) (k : Nat) (v : Handle) : (s.setHandle k v).recalPeriodS = s.recalPeriodS := rfl
@[simp] theorem State.setHandle_fwd (s : State) (k : Nat) (v : Handle) : (s.setHandle k v).fwd = s.fwd := rfl
@[simp] theorem State.setHandle_peersIp (s : State) (k : Nat) (v : Handle) : (s.setHandle k v).peersIp = s.peersIp := rfl
@[simp] theorem State.setHandle_fwdDropNs (s : State) (k : Nat) (v : Handle) : (s.setHandle k v).fwdDropNs = s.fwdDropNs := rfl
@[simp] theorem State.setHandle_hopLimit (s : State) (k : Nat) (v : Handle) : (s.setHandle k v).hopLimit = s.hopLimit := rfl
@[simp] theorem State.setHandle_ecnDraws (s : State) (k : Nat) (v : Handle) : (s.setHandle k v).ecnDraws = s.ecnDraws := rfl
@[simp] theorem State.setHandle_mailboxes (s : State) (k : Nat) (v : Handle) : (s.setHandle k v).mailboxes = s.mailboxes := rfl
@[simp] theorem State.setHandle_pwFails (s : State) (k : Nat) (v : Handle) : (s.setHandle k v).pwFails = s.pwFails := rfl
@[simp] theorem State.setHandle_lockedUntil (s : State) (k : Nat) (v : Handle) : (s.setHandle k v).lockedUntil = s.lockedUntil := rfl
@[simp] theorem State.setHandle_log (s : State) (k : Nat) (v : Handle) : (s.setHandle k v).log = s.log := rfl
@[simp] theorem State.setHandle_logNext (s : State) (k : Nat) (v : Handle) : (s.setHandle k v).logNext = s.logNext := rfl
@[simp] theorem State.setHandle_logOverflow (s : State) (k : Nat) (v : Handle) : (s.setHandle k v).logOverflow = s.logOverflow := rfl
@[simp] theorem State.setHandle_counters (s : State) (k : Nat) (v : Handle) : (s.setHandle k v).counters = s.counters := rfl
@[simp] theorem State.setHandle_nand (s : State) (k : Nat) (v : Handle) : (s.setHandle k v).nand = s.nand := rfl
@[simp] theorem State.setHandle_journal (s : State) (k : Nat) (v : Handle) : (s.setHandle k v).journal = s.journal := rfl
@[simp] theorem State.setHandle_power (s : State) (k : Nat) (v : Handle) : (s.setHandle k v).power = s.power := rfl
@[simp] theorem State.setHandle_life (s : State) (k : Nat) (v : Handle) : (s.setHandle k v).life = s.life := rfl
@[simp] theorem State.setHandle_start (s : State) (k : Nat) (v : Handle) : (s.setHandle k v).start = s.start := rfl
@[simp] theorem State.setHandle_pcie (s : State) (k : Nat) (v : Handle) : (s.setHandle k v).pcie = s.pcie := rfl
@[simp] theorem State.setHandle_pins (s : State) (k : Nat) (v : Handle) : (s.setHandle k v).pins = s.pins := rfl

@[simp] theorem State.emit_pending (s : State) (o : Output) : (s.emit o).pending = s.pending := rfl
@[simp] theorem State.emit_fresh (s : State) (o : Output) : (s.emit o).fresh = s.fresh := rfl
@[simp] theorem State.emit_clk (s : State) (o : Output) : (s.emit o).clk = s.clk := rfl
@[simp] theorem State.emit_mem (s : State) (o : Output) : (s.emit o).mem = s.mem := rfl
@[simp] theorem State.emit_deviceId (s : State) (o : Output) : (s.emit o).deviceId = s.deviceId := rfl
@[simp] theorem State.emit_cores (s : State) (o : Output) : (s.emit o).cores = s.cores := rfl
@[simp] theorem State.emit_ctxs (s : State) (o : Output) : (s.emit o).ctxs = s.ctxs := rfl
@[simp] theorem State.emit_migs (s : State) (o : Output) : (s.emit o).migs = s.migs := rfl
@[simp] theorem State.emit_asks (s : State) (o : Output) : (s.emit o).asks = s.asks := rfl
@[simp] theorem State.emit_stalled (s : State) (o : Output) : (s.emit o).stalled = s.stalled := rfl
@[simp] theorem State.emit_migRr (s : State) (o : Output) : (s.emit o).migRr = s.migRr := rfl
@[simp] theorem State.emit_verifyLast (s : State) (o : Output) : (s.emit o).verifyLast = s.verifyLast := rfl
@[simp] theorem State.emit_lend (s : State) (o : Output) : (s.emit o).lend = s.lend := rfl
@[simp] theorem State.emit_banks (s : State) (o : Output) : (s.emit o).banks = s.banks := rfl
@[simp] theorem State.emit_rowCopies (s : State) (o : Output) : (s.emit o).rowCopies = s.rowCopies := rfl
@[simp] theorem State.emit_rowMap (s : State) (o : Output) : (s.emit o).rowMap = s.rowMap := rfl
@[simp] theorem State.emit_withdrawn (s : State) (o : Output) : (s.emit o).withdrawn = s.withdrawn := rfl
@[simp] theorem State.emit_retiredFrames (s : State) (o : Output) : (s.emit o).retiredFrames = s.retiredFrames := rfl
@[simp] theorem State.emit_freed (s : State) (o : Output) : (s.emit o).freed = s.freed := rfl
@[simp] theorem State.emit_tcache (s : State) (o : Output) : (s.emit o).tcache = s.tcache := rfl
@[simp] theorem State.emit_laneSpares (s : State) (o : Output) : (s.emit o).laneSpares = s.laneSpares := rfl
@[simp] theorem State.emit_bankSpares (s : State) (o : Output) : (s.emit o).bankSpares = s.bankSpares := rfl
@[simp] theorem State.emit_culls (s : State) (o : Output) : (s.emit o).culls = s.culls := rfl
@[simp] theorem State.emit_arrayErrs (s : State) (o : Output) : (s.emit o).arrayErrs = s.arrayErrs := rfl
@[simp] theorem State.emit_flows (s : State) (o : Output) : (s.emit o).flows = s.flows := rfl
@[simp] theorem State.emit_trk (s : State) (o : Output) : (s.emit o).trk = s.trk := rfl
@[simp] theorem State.emit_trkNext (s : State) (o : Output) : (s.emit o).trkNext = s.trkNext := rfl
@[simp] theorem State.emit_ctrl (s : State) (o : Output) : (s.emit o).ctrl = s.ctrl := rfl
@[simp] theorem State.emit_ctrlSeen (s : State) (o : Output) : (s.emit o).ctrlSeen = s.ctrlSeen := rfl
@[simp] theorem State.emit_ctrlNext (s : State) (o : Output) : (s.emit o).ctrlNext = s.ctrlNext := rfl
@[simp] theorem State.emit_fcache (s : State) (o : Output) : (s.emit o).fcache = s.fcache := rfl
@[simp] theorem State.emit_atoms (s : State) (o : Output) : (s.emit o).atoms = s.atoms := rfl
@[simp] theorem State.emit_probes (s : State) (o : Output) : (s.emit o).probes = s.probes := rfl
@[simp] theorem State.emit_probeLast (s : State) (o : Output) : (s.emit o).probeLast = s.probeLast := rfl
@[simp] theorem State.emit_links (s : State) (o : Output) : (s.emit o).links = s.links := rfl
@[simp] theorem State.emit_macs (s : State) (o : Output) : (s.emit o).macs = s.macs := rfl
@[simp] theorem State.emit_ports (s : State) (o : Output) : (s.emit o).ports = s.ports := rfl
@[simp] theorem State.emit_lanes (s : State) (o : Output) : (s.emit o).lanes = s.lanes := rfl
@[simp] theorem State.emit_recal (s : State) (o : Output) : (s.emit o).recal = s.recal := rfl
@[simp] theorem State.emit_recalPeriodS (s : State) (o : Output) : (s.emit o).recalPeriodS = s.recalPeriodS := rfl
@[simp] theorem State.emit_fwd (s : State) (o : Output) : (s.emit o).fwd = s.fwd := rfl
@[simp] theorem State.emit_peersIp (s : State) (o : Output) : (s.emit o).peersIp = s.peersIp := rfl
@[simp] theorem State.emit_fwdDropNs (s : State) (o : Output) : (s.emit o).fwdDropNs = s.fwdDropNs := rfl
@[simp] theorem State.emit_hopLimit (s : State) (o : Output) : (s.emit o).hopLimit = s.hopLimit := rfl
@[simp] theorem State.emit_ecnDraws (s : State) (o : Output) : (s.emit o).ecnDraws = s.ecnDraws := rfl
@[simp] theorem State.emit_mailboxes (s : State) (o : Output) : (s.emit o).mailboxes = s.mailboxes := rfl
@[simp] theorem State.emit_pwFails (s : State) (o : Output) : (s.emit o).pwFails = s.pwFails := rfl
@[simp] theorem State.emit_lockedUntil (s : State) (o : Output) : (s.emit o).lockedUntil = s.lockedUntil := rfl
@[simp] theorem State.emit_handles (s : State) (o : Output) : (s.emit o).handles = s.handles := rfl
@[simp] theorem State.emit_log (s : State) (o : Output) : (s.emit o).log = s.log := rfl
@[simp] theorem State.emit_logNext (s : State) (o : Output) : (s.emit o).logNext = s.logNext := rfl
@[simp] theorem State.emit_logOverflow (s : State) (o : Output) : (s.emit o).logOverflow = s.logOverflow := rfl
@[simp] theorem State.emit_counters (s : State) (o : Output) : (s.emit o).counters = s.counters := rfl
@[simp] theorem State.emit_nand (s : State) (o : Output) : (s.emit o).nand = s.nand := rfl
@[simp] theorem State.emit_journal (s : State) (o : Output) : (s.emit o).journal = s.journal := rfl
@[simp] theorem State.emit_power (s : State) (o : Output) : (s.emit o).power = s.power := rfl
@[simp] theorem State.emit_life (s : State) (o : Output) : (s.emit o).life = s.life := rfl
@[simp] theorem State.emit_start (s : State) (o : Output) : (s.emit o).start = s.start := rfl
@[simp] theorem State.emit_pcie (s : State) (o : Output) : (s.emit o).pcie = s.pcie := rfl
@[simp] theorem State.emit_pins (s : State) (o : Output) : (s.emit o).pins = s.pins := rfl

@[simp] theorem State.draw_pending (s : State) : (s.draw).pending = s.pending := rfl
@[simp] theorem State.draw_out (s : State) : (s.draw).out = s.out := rfl
@[simp] theorem State.draw_clk (s : State) : (s.draw).clk = s.clk := rfl
@[simp] theorem State.draw_mem (s : State) : (s.draw).mem = s.mem := rfl
@[simp] theorem State.draw_deviceId (s : State) : (s.draw).deviceId = s.deviceId := rfl
@[simp] theorem State.draw_cores (s : State) : (s.draw).cores = s.cores := rfl
@[simp] theorem State.draw_ctxs (s : State) : (s.draw).ctxs = s.ctxs := rfl
@[simp] theorem State.draw_migs (s : State) : (s.draw).migs = s.migs := rfl
@[simp] theorem State.draw_asks (s : State) : (s.draw).asks = s.asks := rfl
@[simp] theorem State.draw_stalled (s : State) : (s.draw).stalled = s.stalled := rfl
@[simp] theorem State.draw_migRr (s : State) : (s.draw).migRr = s.migRr := rfl
@[simp] theorem State.draw_verifyLast (s : State) : (s.draw).verifyLast = s.verifyLast := rfl
@[simp] theorem State.draw_lend (s : State) : (s.draw).lend = s.lend := rfl
@[simp] theorem State.draw_banks (s : State) : (s.draw).banks = s.banks := rfl
@[simp] theorem State.draw_rowCopies (s : State) : (s.draw).rowCopies = s.rowCopies := rfl
@[simp] theorem State.draw_rowMap (s : State) : (s.draw).rowMap = s.rowMap := rfl
@[simp] theorem State.draw_withdrawn (s : State) : (s.draw).withdrawn = s.withdrawn := rfl
@[simp] theorem State.draw_retiredFrames (s : State) : (s.draw).retiredFrames = s.retiredFrames := rfl
@[simp] theorem State.draw_freed (s : State) : (s.draw).freed = s.freed := rfl
@[simp] theorem State.draw_tcache (s : State) : (s.draw).tcache = s.tcache := rfl
@[simp] theorem State.draw_laneSpares (s : State) : (s.draw).laneSpares = s.laneSpares := rfl
@[simp] theorem State.draw_bankSpares (s : State) : (s.draw).bankSpares = s.bankSpares := rfl
@[simp] theorem State.draw_culls (s : State) : (s.draw).culls = s.culls := rfl
@[simp] theorem State.draw_arrayErrs (s : State) : (s.draw).arrayErrs = s.arrayErrs := rfl
@[simp] theorem State.draw_flows (s : State) : (s.draw).flows = s.flows := rfl
@[simp] theorem State.draw_trk (s : State) : (s.draw).trk = s.trk := rfl
@[simp] theorem State.draw_trkNext (s : State) : (s.draw).trkNext = s.trkNext := rfl
@[simp] theorem State.draw_ctrl (s : State) : (s.draw).ctrl = s.ctrl := rfl
@[simp] theorem State.draw_ctrlSeen (s : State) : (s.draw).ctrlSeen = s.ctrlSeen := rfl
@[simp] theorem State.draw_ctrlNext (s : State) : (s.draw).ctrlNext = s.ctrlNext := rfl
@[simp] theorem State.draw_fcache (s : State) : (s.draw).fcache = s.fcache := rfl
@[simp] theorem State.draw_atoms (s : State) : (s.draw).atoms = s.atoms := rfl
@[simp] theorem State.draw_probes (s : State) : (s.draw).probes = s.probes := rfl
@[simp] theorem State.draw_probeLast (s : State) : (s.draw).probeLast = s.probeLast := rfl
@[simp] theorem State.draw_links (s : State) : (s.draw).links = s.links := rfl
@[simp] theorem State.draw_macs (s : State) : (s.draw).macs = s.macs := rfl
@[simp] theorem State.draw_ports (s : State) : (s.draw).ports = s.ports := rfl
@[simp] theorem State.draw_lanes (s : State) : (s.draw).lanes = s.lanes := rfl
@[simp] theorem State.draw_recal (s : State) : (s.draw).recal = s.recal := rfl
@[simp] theorem State.draw_recalPeriodS (s : State) : (s.draw).recalPeriodS = s.recalPeriodS := rfl
@[simp] theorem State.draw_fwd (s : State) : (s.draw).fwd = s.fwd := rfl
@[simp] theorem State.draw_peersIp (s : State) : (s.draw).peersIp = s.peersIp := rfl
@[simp] theorem State.draw_fwdDropNs (s : State) : (s.draw).fwdDropNs = s.fwdDropNs := rfl
@[simp] theorem State.draw_hopLimit (s : State) : (s.draw).hopLimit = s.hopLimit := rfl
@[simp] theorem State.draw_ecnDraws (s : State) : (s.draw).ecnDraws = s.ecnDraws := rfl
@[simp] theorem State.draw_mailboxes (s : State) : (s.draw).mailboxes = s.mailboxes := rfl
@[simp] theorem State.draw_pwFails (s : State) : (s.draw).pwFails = s.pwFails := rfl
@[simp] theorem State.draw_lockedUntil (s : State) : (s.draw).lockedUntil = s.lockedUntil := rfl
@[simp] theorem State.draw_handles (s : State) : (s.draw).handles = s.handles := rfl
@[simp] theorem State.draw_log (s : State) : (s.draw).log = s.log := rfl
@[simp] theorem State.draw_logNext (s : State) : (s.draw).logNext = s.logNext := rfl
@[simp] theorem State.draw_logOverflow (s : State) : (s.draw).logOverflow = s.logOverflow := rfl
@[simp] theorem State.draw_counters (s : State) : (s.draw).counters = s.counters := rfl
@[simp] theorem State.draw_nand (s : State) : (s.draw).nand = s.nand := rfl
@[simp] theorem State.draw_journal (s : State) : (s.draw).journal = s.journal := rfl
@[simp] theorem State.draw_power (s : State) : (s.draw).power = s.power := rfl
@[simp] theorem State.draw_life (s : State) : (s.draw).life = s.life := rfl
@[simp] theorem State.draw_start (s : State) : (s.draw).start = s.start := rfl
@[simp] theorem State.draw_pcie (s : State) : (s.draw).pcie = s.pcie := rfl
@[simp] theorem State.draw_pins (s : State) : (s.draw).pins = s.pins := rfl

@[simp] theorem State.advance_pending (s : State) (n : Nat) : (s.advance n).pending = s.pending := rfl
@[simp] theorem State.advance_out (s : State) (n : Nat) : (s.advance n).out = s.out := rfl
@[simp] theorem State.advance_fresh (s : State) (n : Nat) : (s.advance n).fresh = s.fresh := rfl
@[simp] theorem State.advance_mem (s : State) (n : Nat) : (s.advance n).mem = s.mem := rfl
@[simp] theorem State.advance_deviceId (s : State) (n : Nat) : (s.advance n).deviceId = s.deviceId := rfl
@[simp] theorem State.advance_cores (s : State) (n : Nat) : (s.advance n).cores = s.cores := rfl
@[simp] theorem State.advance_ctxs (s : State) (n : Nat) : (s.advance n).ctxs = s.ctxs := rfl
@[simp] theorem State.advance_migs (s : State) (n : Nat) : (s.advance n).migs = s.migs := rfl
@[simp] theorem State.advance_asks (s : State) (n : Nat) : (s.advance n).asks = s.asks := rfl
@[simp] theorem State.advance_stalled (s : State) (n : Nat) : (s.advance n).stalled = s.stalled := rfl
@[simp] theorem State.advance_migRr (s : State) (n : Nat) : (s.advance n).migRr = s.migRr := rfl
@[simp] theorem State.advance_verifyLast (s : State) (n : Nat) : (s.advance n).verifyLast = s.verifyLast := rfl
@[simp] theorem State.advance_lend (s : State) (n : Nat) : (s.advance n).lend = s.lend := rfl
@[simp] theorem State.advance_banks (s : State) (n : Nat) : (s.advance n).banks = s.banks := rfl
@[simp] theorem State.advance_rowCopies (s : State) (n : Nat) : (s.advance n).rowCopies = s.rowCopies := rfl
@[simp] theorem State.advance_rowMap (s : State) (n : Nat) : (s.advance n).rowMap = s.rowMap := rfl
@[simp] theorem State.advance_withdrawn (s : State) (n : Nat) : (s.advance n).withdrawn = s.withdrawn := rfl
@[simp] theorem State.advance_retiredFrames (s : State) (n : Nat) : (s.advance n).retiredFrames = s.retiredFrames := rfl
@[simp] theorem State.advance_freed (s : State) (n : Nat) : (s.advance n).freed = s.freed := rfl
@[simp] theorem State.advance_tcache (s : State) (n : Nat) : (s.advance n).tcache = s.tcache := rfl
@[simp] theorem State.advance_laneSpares (s : State) (n : Nat) : (s.advance n).laneSpares = s.laneSpares := rfl
@[simp] theorem State.advance_bankSpares (s : State) (n : Nat) : (s.advance n).bankSpares = s.bankSpares := rfl
@[simp] theorem State.advance_culls (s : State) (n : Nat) : (s.advance n).culls = s.culls := rfl
@[simp] theorem State.advance_arrayErrs (s : State) (n : Nat) : (s.advance n).arrayErrs = s.arrayErrs := rfl
@[simp] theorem State.advance_flows (s : State) (n : Nat) : (s.advance n).flows = s.flows := rfl
@[simp] theorem State.advance_trk (s : State) (n : Nat) : (s.advance n).trk = s.trk := rfl
@[simp] theorem State.advance_trkNext (s : State) (n : Nat) : (s.advance n).trkNext = s.trkNext := rfl
@[simp] theorem State.advance_ctrl (s : State) (n : Nat) : (s.advance n).ctrl = s.ctrl := rfl
@[simp] theorem State.advance_ctrlSeen (s : State) (n : Nat) : (s.advance n).ctrlSeen = s.ctrlSeen := rfl
@[simp] theorem State.advance_ctrlNext (s : State) (n : Nat) : (s.advance n).ctrlNext = s.ctrlNext := rfl
@[simp] theorem State.advance_fcache (s : State) (n : Nat) : (s.advance n).fcache = s.fcache := rfl
@[simp] theorem State.advance_atoms (s : State) (n : Nat) : (s.advance n).atoms = s.atoms := rfl
@[simp] theorem State.advance_probes (s : State) (n : Nat) : (s.advance n).probes = s.probes := rfl
@[simp] theorem State.advance_probeLast (s : State) (n : Nat) : (s.advance n).probeLast = s.probeLast := rfl
@[simp] theorem State.advance_links (s : State) (n : Nat) : (s.advance n).links = s.links := rfl
@[simp] theorem State.advance_macs (s : State) (n : Nat) : (s.advance n).macs = s.macs := rfl
@[simp] theorem State.advance_ports (s : State) (n : Nat) : (s.advance n).ports = s.ports := rfl
@[simp] theorem State.advance_lanes (s : State) (n : Nat) : (s.advance n).lanes = s.lanes := rfl
@[simp] theorem State.advance_recal (s : State) (n : Nat) : (s.advance n).recal = s.recal := rfl
@[simp] theorem State.advance_recalPeriodS (s : State) (n : Nat) : (s.advance n).recalPeriodS = s.recalPeriodS := rfl
@[simp] theorem State.advance_fwd (s : State) (n : Nat) : (s.advance n).fwd = s.fwd := rfl
@[simp] theorem State.advance_peersIp (s : State) (n : Nat) : (s.advance n).peersIp = s.peersIp := rfl
@[simp] theorem State.advance_fwdDropNs (s : State) (n : Nat) : (s.advance n).fwdDropNs = s.fwdDropNs := rfl
@[simp] theorem State.advance_hopLimit (s : State) (n : Nat) : (s.advance n).hopLimit = s.hopLimit := rfl
@[simp] theorem State.advance_ecnDraws (s : State) (n : Nat) : (s.advance n).ecnDraws = s.ecnDraws := rfl
@[simp] theorem State.advance_mailboxes (s : State) (n : Nat) : (s.advance n).mailboxes = s.mailboxes := rfl
@[simp] theorem State.advance_pwFails (s : State) (n : Nat) : (s.advance n).pwFails = s.pwFails := rfl
@[simp] theorem State.advance_lockedUntil (s : State) (n : Nat) : (s.advance n).lockedUntil = s.lockedUntil := rfl
@[simp] theorem State.advance_handles (s : State) (n : Nat) : (s.advance n).handles = s.handles := rfl
@[simp] theorem State.advance_log (s : State) (n : Nat) : (s.advance n).log = s.log := rfl
@[simp] theorem State.advance_logNext (s : State) (n : Nat) : (s.advance n).logNext = s.logNext := rfl
@[simp] theorem State.advance_logOverflow (s : State) (n : Nat) : (s.advance n).logOverflow = s.logOverflow := rfl
@[simp] theorem State.advance_counters (s : State) (n : Nat) : (s.advance n).counters = s.counters := rfl
@[simp] theorem State.advance_nand (s : State) (n : Nat) : (s.advance n).nand = s.nand := rfl
@[simp] theorem State.advance_journal (s : State) (n : Nat) : (s.advance n).journal = s.journal := rfl
@[simp] theorem State.advance_power (s : State) (n : Nat) : (s.advance n).power = s.power := rfl
@[simp] theorem State.advance_life (s : State) (n : Nat) : (s.advance n).life = s.life := rfl
@[simp] theorem State.advance_start (s : State) (n : Nat) : (s.advance n).start = s.start := rfl
@[simp] theorem State.advance_pcie (s : State) (n : Nat) : (s.advance n).pcie = s.pcie := rfl
@[simp] theorem State.advance_pins (s : State) (n : Nat) : (s.advance n).pins = s.pins := rfl

@[simp] theorem State.clearMem_pending (s : State) (a n : Nat) : (s.clearMem a n).pending = s.pending := rfl
@[simp] theorem State.clearMem_out (s : State) (a n : Nat) : (s.clearMem a n).out = s.out := rfl
@[simp] theorem State.clearMem_fresh (s : State) (a n : Nat) : (s.clearMem a n).fresh = s.fresh := rfl
@[simp] theorem State.clearMem_clk (s : State) (a n : Nat) : (s.clearMem a n).clk = s.clk := rfl
@[simp] theorem State.clearMem_deviceId (s : State) (a n : Nat) : (s.clearMem a n).deviceId = s.deviceId := rfl
@[simp] theorem State.clearMem_cores (s : State) (a n : Nat) : (s.clearMem a n).cores = s.cores := rfl
@[simp] theorem State.clearMem_ctxs (s : State) (a n : Nat) : (s.clearMem a n).ctxs = s.ctxs := rfl
@[simp] theorem State.clearMem_migs (s : State) (a n : Nat) : (s.clearMem a n).migs = s.migs := rfl
@[simp] theorem State.clearMem_asks (s : State) (a n : Nat) : (s.clearMem a n).asks = s.asks := rfl
@[simp] theorem State.clearMem_stalled (s : State) (a n : Nat) : (s.clearMem a n).stalled = s.stalled := rfl
@[simp] theorem State.clearMem_migRr (s : State) (a n : Nat) : (s.clearMem a n).migRr = s.migRr := rfl
@[simp] theorem State.clearMem_verifyLast (s : State) (a n : Nat) : (s.clearMem a n).verifyLast = s.verifyLast := rfl
@[simp] theorem State.clearMem_lend (s : State) (a n : Nat) : (s.clearMem a n).lend = s.lend := rfl
@[simp] theorem State.clearMem_banks (s : State) (a n : Nat) : (s.clearMem a n).banks = s.banks := rfl
@[simp] theorem State.clearMem_rowCopies (s : State) (a n : Nat) : (s.clearMem a n).rowCopies = s.rowCopies := rfl
@[simp] theorem State.clearMem_rowMap (s : State) (a n : Nat) : (s.clearMem a n).rowMap = s.rowMap := rfl
@[simp] theorem State.clearMem_withdrawn (s : State) (a n : Nat) : (s.clearMem a n).withdrawn = s.withdrawn := rfl
@[simp] theorem State.clearMem_retiredFrames (s : State) (a n : Nat) : (s.clearMem a n).retiredFrames = s.retiredFrames := rfl
@[simp] theorem State.clearMem_freed (s : State) (a n : Nat) : (s.clearMem a n).freed = s.freed := rfl
@[simp] theorem State.clearMem_tcache (s : State) (a n : Nat) : (s.clearMem a n).tcache = s.tcache := rfl
@[simp] theorem State.clearMem_laneSpares (s : State) (a n : Nat) : (s.clearMem a n).laneSpares = s.laneSpares := rfl
@[simp] theorem State.clearMem_bankSpares (s : State) (a n : Nat) : (s.clearMem a n).bankSpares = s.bankSpares := rfl
@[simp] theorem State.clearMem_culls (s : State) (a n : Nat) : (s.clearMem a n).culls = s.culls := rfl
@[simp] theorem State.clearMem_arrayErrs (s : State) (a n : Nat) : (s.clearMem a n).arrayErrs = s.arrayErrs := rfl
@[simp] theorem State.clearMem_flows (s : State) (a n : Nat) : (s.clearMem a n).flows = s.flows := rfl
@[simp] theorem State.clearMem_trk (s : State) (a n : Nat) : (s.clearMem a n).trk = s.trk := rfl
@[simp] theorem State.clearMem_trkNext (s : State) (a n : Nat) : (s.clearMem a n).trkNext = s.trkNext := rfl
@[simp] theorem State.clearMem_ctrl (s : State) (a n : Nat) : (s.clearMem a n).ctrl = s.ctrl := rfl
@[simp] theorem State.clearMem_ctrlSeen (s : State) (a n : Nat) : (s.clearMem a n).ctrlSeen = s.ctrlSeen := rfl
@[simp] theorem State.clearMem_ctrlNext (s : State) (a n : Nat) : (s.clearMem a n).ctrlNext = s.ctrlNext := rfl
@[simp] theorem State.clearMem_fcache (s : State) (a n : Nat) : (s.clearMem a n).fcache = s.fcache := rfl
@[simp] theorem State.clearMem_atoms (s : State) (a n : Nat) : (s.clearMem a n).atoms = s.atoms := rfl
@[simp] theorem State.clearMem_probes (s : State) (a n : Nat) : (s.clearMem a n).probes = s.probes := rfl
@[simp] theorem State.clearMem_probeLast (s : State) (a n : Nat) : (s.clearMem a n).probeLast = s.probeLast := rfl
@[simp] theorem State.clearMem_links (s : State) (a n : Nat) : (s.clearMem a n).links = s.links := rfl
@[simp] theorem State.clearMem_macs (s : State) (a n : Nat) : (s.clearMem a n).macs = s.macs := rfl
@[simp] theorem State.clearMem_ports (s : State) (a n : Nat) : (s.clearMem a n).ports = s.ports := rfl
@[simp] theorem State.clearMem_lanes (s : State) (a n : Nat) : (s.clearMem a n).lanes = s.lanes := rfl
@[simp] theorem State.clearMem_recal (s : State) (a n : Nat) : (s.clearMem a n).recal = s.recal := rfl
@[simp] theorem State.clearMem_recalPeriodS (s : State) (a n : Nat) : (s.clearMem a n).recalPeriodS = s.recalPeriodS := rfl
@[simp] theorem State.clearMem_fwd (s : State) (a n : Nat) : (s.clearMem a n).fwd = s.fwd := rfl
@[simp] theorem State.clearMem_peersIp (s : State) (a n : Nat) : (s.clearMem a n).peersIp = s.peersIp := rfl
@[simp] theorem State.clearMem_fwdDropNs (s : State) (a n : Nat) : (s.clearMem a n).fwdDropNs = s.fwdDropNs := rfl
@[simp] theorem State.clearMem_hopLimit (s : State) (a n : Nat) : (s.clearMem a n).hopLimit = s.hopLimit := rfl
@[simp] theorem State.clearMem_ecnDraws (s : State) (a n : Nat) : (s.clearMem a n).ecnDraws = s.ecnDraws := rfl
@[simp] theorem State.clearMem_mailboxes (s : State) (a n : Nat) : (s.clearMem a n).mailboxes = s.mailboxes := rfl
@[simp] theorem State.clearMem_pwFails (s : State) (a n : Nat) : (s.clearMem a n).pwFails = s.pwFails := rfl
@[simp] theorem State.clearMem_lockedUntil (s : State) (a n : Nat) : (s.clearMem a n).lockedUntil = s.lockedUntil := rfl
@[simp] theorem State.clearMem_handles (s : State) (a n : Nat) : (s.clearMem a n).handles = s.handles := rfl
@[simp] theorem State.clearMem_log (s : State) (a n : Nat) : (s.clearMem a n).log = s.log := rfl
@[simp] theorem State.clearMem_logNext (s : State) (a n : Nat) : (s.clearMem a n).logNext = s.logNext := rfl
@[simp] theorem State.clearMem_logOverflow (s : State) (a n : Nat) : (s.clearMem a n).logOverflow = s.logOverflow := rfl
@[simp] theorem State.clearMem_counters (s : State) (a n : Nat) : (s.clearMem a n).counters = s.counters := rfl
@[simp] theorem State.clearMem_nand (s : State) (a n : Nat) : (s.clearMem a n).nand = s.nand := rfl
@[simp] theorem State.clearMem_journal (s : State) (a n : Nat) : (s.clearMem a n).journal = s.journal := rfl
@[simp] theorem State.clearMem_power (s : State) (a n : Nat) : (s.clearMem a n).power = s.power := rfl
@[simp] theorem State.clearMem_life (s : State) (a n : Nat) : (s.clearMem a n).life = s.life := rfl
@[simp] theorem State.clearMem_start (s : State) (a n : Nat) : (s.clearMem a n).start = s.start := rfl
@[simp] theorem State.clearMem_pcie (s : State) (a n : Nat) : (s.clearMem a n).pcie = s.pcie := rfl
@[simp] theorem State.clearMem_pins (s : State) (a n : Nat) : (s.clearMem a n).pins = s.pins := rfl

@[simp] theorem State.updRing_pending (s : State) (c r : Nat) (f : Ring → Ring) : (s.updRing c r f).pending = s.pending := rfl
@[simp] theorem State.updRing_out (s : State) (c r : Nat) (f : Ring → Ring) : (s.updRing c r f).out = s.out := rfl
@[simp] theorem State.updRing_fresh (s : State) (c r : Nat) (f : Ring → Ring) : (s.updRing c r f).fresh = s.fresh := rfl
@[simp] theorem State.updRing_clk (s : State) (c r : Nat) (f : Ring → Ring) : (s.updRing c r f).clk = s.clk := rfl
@[simp] theorem State.updRing_mem (s : State) (c r : Nat) (f : Ring → Ring) : (s.updRing c r f).mem = s.mem := rfl
@[simp] theorem State.updRing_deviceId (s : State) (c r : Nat) (f : Ring → Ring) : (s.updRing c r f).deviceId = s.deviceId := rfl
@[simp] theorem State.updRing_ctxs (s : State) (c r : Nat) (f : Ring → Ring) : (s.updRing c r f).ctxs = s.ctxs := rfl
@[simp] theorem State.updRing_migs (s : State) (c r : Nat) (f : Ring → Ring) : (s.updRing c r f).migs = s.migs := rfl
@[simp] theorem State.updRing_asks (s : State) (c r : Nat) (f : Ring → Ring) : (s.updRing c r f).asks = s.asks := rfl
@[simp] theorem State.updRing_stalled (s : State) (c r : Nat) (f : Ring → Ring) : (s.updRing c r f).stalled = s.stalled := rfl
@[simp] theorem State.updRing_migRr (s : State) (c r : Nat) (f : Ring → Ring) : (s.updRing c r f).migRr = s.migRr := rfl
@[simp] theorem State.updRing_verifyLast (s : State) (c r : Nat) (f : Ring → Ring) : (s.updRing c r f).verifyLast = s.verifyLast := rfl
@[simp] theorem State.updRing_lend (s : State) (c r : Nat) (f : Ring → Ring) : (s.updRing c r f).lend = s.lend := rfl
@[simp] theorem State.updRing_banks (s : State) (c r : Nat) (f : Ring → Ring) : (s.updRing c r f).banks = s.banks := rfl
@[simp] theorem State.updRing_rowCopies (s : State) (c r : Nat) (f : Ring → Ring) : (s.updRing c r f).rowCopies = s.rowCopies := rfl
@[simp] theorem State.updRing_rowMap (s : State) (c r : Nat) (f : Ring → Ring) : (s.updRing c r f).rowMap = s.rowMap := rfl
@[simp] theorem State.updRing_withdrawn (s : State) (c r : Nat) (f : Ring → Ring) : (s.updRing c r f).withdrawn = s.withdrawn := rfl
@[simp] theorem State.updRing_retiredFrames (s : State) (c r : Nat) (f : Ring → Ring) : (s.updRing c r f).retiredFrames = s.retiredFrames := rfl
@[simp] theorem State.updRing_freed (s : State) (c r : Nat) (f : Ring → Ring) : (s.updRing c r f).freed = s.freed := rfl
@[simp] theorem State.updRing_tcache (s : State) (c r : Nat) (f : Ring → Ring) : (s.updRing c r f).tcache = s.tcache := rfl
@[simp] theorem State.updRing_laneSpares (s : State) (c r : Nat) (f : Ring → Ring) : (s.updRing c r f).laneSpares = s.laneSpares := rfl
@[simp] theorem State.updRing_bankSpares (s : State) (c r : Nat) (f : Ring → Ring) : (s.updRing c r f).bankSpares = s.bankSpares := rfl
@[simp] theorem State.updRing_culls (s : State) (c r : Nat) (f : Ring → Ring) : (s.updRing c r f).culls = s.culls := rfl
@[simp] theorem State.updRing_arrayErrs (s : State) (c r : Nat) (f : Ring → Ring) : (s.updRing c r f).arrayErrs = s.arrayErrs := rfl
@[simp] theorem State.updRing_flows (s : State) (c r : Nat) (f : Ring → Ring) : (s.updRing c r f).flows = s.flows := rfl
@[simp] theorem State.updRing_trk (s : State) (c r : Nat) (f : Ring → Ring) : (s.updRing c r f).trk = s.trk := rfl
@[simp] theorem State.updRing_trkNext (s : State) (c r : Nat) (f : Ring → Ring) : (s.updRing c r f).trkNext = s.trkNext := rfl
@[simp] theorem State.updRing_ctrl (s : State) (c r : Nat) (f : Ring → Ring) : (s.updRing c r f).ctrl = s.ctrl := rfl
@[simp] theorem State.updRing_ctrlSeen (s : State) (c r : Nat) (f : Ring → Ring) : (s.updRing c r f).ctrlSeen = s.ctrlSeen := rfl
@[simp] theorem State.updRing_ctrlNext (s : State) (c r : Nat) (f : Ring → Ring) : (s.updRing c r f).ctrlNext = s.ctrlNext := rfl
@[simp] theorem State.updRing_fcache (s : State) (c r : Nat) (f : Ring → Ring) : (s.updRing c r f).fcache = s.fcache := rfl
@[simp] theorem State.updRing_atoms (s : State) (c r : Nat) (f : Ring → Ring) : (s.updRing c r f).atoms = s.atoms := rfl
@[simp] theorem State.updRing_probes (s : State) (c r : Nat) (f : Ring → Ring) : (s.updRing c r f).probes = s.probes := rfl
@[simp] theorem State.updRing_probeLast (s : State) (c r : Nat) (f : Ring → Ring) : (s.updRing c r f).probeLast = s.probeLast := rfl
@[simp] theorem State.updRing_links (s : State) (c r : Nat) (f : Ring → Ring) : (s.updRing c r f).links = s.links := rfl
@[simp] theorem State.updRing_macs (s : State) (c r : Nat) (f : Ring → Ring) : (s.updRing c r f).macs = s.macs := rfl
@[simp] theorem State.updRing_ports (s : State) (c r : Nat) (f : Ring → Ring) : (s.updRing c r f).ports = s.ports := rfl
@[simp] theorem State.updRing_lanes (s : State) (c r : Nat) (f : Ring → Ring) : (s.updRing c r f).lanes = s.lanes := rfl
@[simp] theorem State.updRing_recal (s : State) (c r : Nat) (f : Ring → Ring) : (s.updRing c r f).recal = s.recal := rfl
@[simp] theorem State.updRing_recalPeriodS (s : State) (c r : Nat) (f : Ring → Ring) : (s.updRing c r f).recalPeriodS = s.recalPeriodS := rfl
@[simp] theorem State.updRing_fwd (s : State) (c r : Nat) (f : Ring → Ring) : (s.updRing c r f).fwd = s.fwd := rfl
@[simp] theorem State.updRing_peersIp (s : State) (c r : Nat) (f : Ring → Ring) : (s.updRing c r f).peersIp = s.peersIp := rfl
@[simp] theorem State.updRing_fwdDropNs (s : State) (c r : Nat) (f : Ring → Ring) : (s.updRing c r f).fwdDropNs = s.fwdDropNs := rfl
@[simp] theorem State.updRing_hopLimit (s : State) (c r : Nat) (f : Ring → Ring) : (s.updRing c r f).hopLimit = s.hopLimit := rfl
@[simp] theorem State.updRing_ecnDraws (s : State) (c r : Nat) (f : Ring → Ring) : (s.updRing c r f).ecnDraws = s.ecnDraws := rfl
@[simp] theorem State.updRing_mailboxes (s : State) (c r : Nat) (f : Ring → Ring) : (s.updRing c r f).mailboxes = s.mailboxes := rfl
@[simp] theorem State.updRing_pwFails (s : State) (c r : Nat) (f : Ring → Ring) : (s.updRing c r f).pwFails = s.pwFails := rfl
@[simp] theorem State.updRing_lockedUntil (s : State) (c r : Nat) (f : Ring → Ring) : (s.updRing c r f).lockedUntil = s.lockedUntil := rfl
@[simp] theorem State.updRing_handles (s : State) (c r : Nat) (f : Ring → Ring) : (s.updRing c r f).handles = s.handles := rfl
@[simp] theorem State.updRing_log (s : State) (c r : Nat) (f : Ring → Ring) : (s.updRing c r f).log = s.log := rfl
@[simp] theorem State.updRing_logNext (s : State) (c r : Nat) (f : Ring → Ring) : (s.updRing c r f).logNext = s.logNext := rfl
@[simp] theorem State.updRing_logOverflow (s : State) (c r : Nat) (f : Ring → Ring) : (s.updRing c r f).logOverflow = s.logOverflow := rfl
@[simp] theorem State.updRing_counters (s : State) (c r : Nat) (f : Ring → Ring) : (s.updRing c r f).counters = s.counters := rfl
@[simp] theorem State.updRing_nand (s : State) (c r : Nat) (f : Ring → Ring) : (s.updRing c r f).nand = s.nand := rfl
@[simp] theorem State.updRing_journal (s : State) (c r : Nat) (f : Ring → Ring) : (s.updRing c r f).journal = s.journal := rfl
@[simp] theorem State.updRing_power (s : State) (c r : Nat) (f : Ring → Ring) : (s.updRing c r f).power = s.power := rfl
@[simp] theorem State.updRing_life (s : State) (c r : Nat) (f : Ring → Ring) : (s.updRing c r f).life = s.life := rfl
@[simp] theorem State.updRing_start (s : State) (c r : Nat) (f : Ring → Ring) : (s.updRing c r f).start = s.start := rfl
@[simp] theorem State.updRing_pcie (s : State) (c r : Nat) (f : Ring → Ring) : (s.updRing c r f).pcie = s.pcie := rfl
@[simp] theorem State.updRing_pins (s : State) (c r : Nat) (f : Ring → Ring) : (s.updRing c r f).pins = s.pins := rfl

@[simp] theorem State.alert_pending (s : State) (i : Nat) : (s.alert i).pending = s.pending := rfl
@[simp] theorem State.alert_out (s : State) (i : Nat) : (s.alert i).out = s.out := rfl
@[simp] theorem State.alert_fresh (s : State) (i : Nat) : (s.alert i).fresh = s.fresh := rfl
@[simp] theorem State.alert_clk (s : State) (i : Nat) : (s.alert i).clk = s.clk := rfl
@[simp] theorem State.alert_mem (s : State) (i : Nat) : (s.alert i).mem = s.mem := rfl
@[simp] theorem State.alert_deviceId (s : State) (i : Nat) : (s.alert i).deviceId = s.deviceId := rfl
@[simp] theorem State.alert_cores (s : State) (i : Nat) : (s.alert i).cores = s.cores := rfl
@[simp] theorem State.alert_ctxs (s : State) (i : Nat) : (s.alert i).ctxs = s.ctxs := rfl
@[simp] theorem State.alert_migs (s : State) (i : Nat) : (s.alert i).migs = s.migs := rfl
@[simp] theorem State.alert_asks (s : State) (i : Nat) : (s.alert i).asks = s.asks := rfl
@[simp] theorem State.alert_stalled (s : State) (i : Nat) : (s.alert i).stalled = s.stalled := rfl
@[simp] theorem State.alert_migRr (s : State) (i : Nat) : (s.alert i).migRr = s.migRr := rfl
@[simp] theorem State.alert_verifyLast (s : State) (i : Nat) : (s.alert i).verifyLast = s.verifyLast := rfl
@[simp] theorem State.alert_lend (s : State) (i : Nat) : (s.alert i).lend = s.lend := rfl
@[simp] theorem State.alert_banks (s : State) (i : Nat) : (s.alert i).banks = s.banks := rfl
@[simp] theorem State.alert_rowCopies (s : State) (i : Nat) : (s.alert i).rowCopies = s.rowCopies := rfl
@[simp] theorem State.alert_rowMap (s : State) (i : Nat) : (s.alert i).rowMap = s.rowMap := rfl
@[simp] theorem State.alert_withdrawn (s : State) (i : Nat) : (s.alert i).withdrawn = s.withdrawn := rfl
@[simp] theorem State.alert_retiredFrames (s : State) (i : Nat) : (s.alert i).retiredFrames = s.retiredFrames := rfl
@[simp] theorem State.alert_freed (s : State) (i : Nat) : (s.alert i).freed = s.freed := rfl
@[simp] theorem State.alert_tcache (s : State) (i : Nat) : (s.alert i).tcache = s.tcache := rfl
@[simp] theorem State.alert_laneSpares (s : State) (i : Nat) : (s.alert i).laneSpares = s.laneSpares := rfl
@[simp] theorem State.alert_bankSpares (s : State) (i : Nat) : (s.alert i).bankSpares = s.bankSpares := rfl
@[simp] theorem State.alert_culls (s : State) (i : Nat) : (s.alert i).culls = s.culls := rfl
@[simp] theorem State.alert_arrayErrs (s : State) (i : Nat) : (s.alert i).arrayErrs = s.arrayErrs := rfl
@[simp] theorem State.alert_flows (s : State) (i : Nat) : (s.alert i).flows = s.flows := rfl
@[simp] theorem State.alert_trk (s : State) (i : Nat) : (s.alert i).trk = s.trk := rfl
@[simp] theorem State.alert_trkNext (s : State) (i : Nat) : (s.alert i).trkNext = s.trkNext := rfl
@[simp] theorem State.alert_ctrl (s : State) (i : Nat) : (s.alert i).ctrl = s.ctrl := rfl
@[simp] theorem State.alert_ctrlSeen (s : State) (i : Nat) : (s.alert i).ctrlSeen = s.ctrlSeen := rfl
@[simp] theorem State.alert_ctrlNext (s : State) (i : Nat) : (s.alert i).ctrlNext = s.ctrlNext := rfl
@[simp] theorem State.alert_fcache (s : State) (i : Nat) : (s.alert i).fcache = s.fcache := rfl
@[simp] theorem State.alert_atoms (s : State) (i : Nat) : (s.alert i).atoms = s.atoms := rfl
@[simp] theorem State.alert_probes (s : State) (i : Nat) : (s.alert i).probes = s.probes := rfl
@[simp] theorem State.alert_probeLast (s : State) (i : Nat) : (s.alert i).probeLast = s.probeLast := rfl
@[simp] theorem State.alert_links (s : State) (i : Nat) : (s.alert i).links = s.links := rfl
@[simp] theorem State.alert_macs (s : State) (i : Nat) : (s.alert i).macs = s.macs := rfl
@[simp] theorem State.alert_ports (s : State) (i : Nat) : (s.alert i).ports = s.ports := rfl
@[simp] theorem State.alert_lanes (s : State) (i : Nat) : (s.alert i).lanes = s.lanes := rfl
@[simp] theorem State.alert_recal (s : State) (i : Nat) : (s.alert i).recal = s.recal := rfl
@[simp] theorem State.alert_recalPeriodS (s : State) (i : Nat) : (s.alert i).recalPeriodS = s.recalPeriodS := rfl
@[simp] theorem State.alert_fwd (s : State) (i : Nat) : (s.alert i).fwd = s.fwd := rfl
@[simp] theorem State.alert_peersIp (s : State) (i : Nat) : (s.alert i).peersIp = s.peersIp := rfl
@[simp] theorem State.alert_fwdDropNs (s : State) (i : Nat) : (s.alert i).fwdDropNs = s.fwdDropNs := rfl
@[simp] theorem State.alert_hopLimit (s : State) (i : Nat) : (s.alert i).hopLimit = s.hopLimit := rfl
@[simp] theorem State.alert_ecnDraws (s : State) (i : Nat) : (s.alert i).ecnDraws = s.ecnDraws := rfl
@[simp] theorem State.alert_mailboxes (s : State) (i : Nat) : (s.alert i).mailboxes = s.mailboxes := rfl
@[simp] theorem State.alert_pwFails (s : State) (i : Nat) : (s.alert i).pwFails = s.pwFails := rfl
@[simp] theorem State.alert_lockedUntil (s : State) (i : Nat) : (s.alert i).lockedUntil = s.lockedUntil := rfl
@[simp] theorem State.alert_handles (s : State) (i : Nat) : (s.alert i).handles = s.handles := rfl
@[simp] theorem State.alert_log (s : State) (i : Nat) : (s.alert i).log = s.log := rfl
@[simp] theorem State.alert_logNext (s : State) (i : Nat) : (s.alert i).logNext = s.logNext := rfl
@[simp] theorem State.alert_logOverflow (s : State) (i : Nat) : (s.alert i).logOverflow = s.logOverflow := rfl
@[simp] theorem State.alert_counters (s : State) (i : Nat) : (s.alert i).counters = s.counters := rfl
@[simp] theorem State.alert_nand (s : State) (i : Nat) : (s.alert i).nand = s.nand := rfl
@[simp] theorem State.alert_journal (s : State) (i : Nat) : (s.alert i).journal = s.journal := rfl
@[simp] theorem State.alert_power (s : State) (i : Nat) : (s.alert i).power = s.power := rfl
@[simp] theorem State.alert_life (s : State) (i : Nat) : (s.alert i).life = s.life := rfl
@[simp] theorem State.alert_start (s : State) (i : Nat) : (s.alert i).start = s.start := rfl
@[simp] theorem State.alert_pcie (s : State) (i : Nat) : (s.alert i).pcie = s.pcie := rfl

@[simp] theorem State.updJob_pending (s : State) (x : Nat) (f : Job → Job) : (s.updJob x f).pending = s.pending := rfl
@[simp] theorem State.updJob_out (s : State) (x : Nat) (f : Job → Job) : (s.updJob x f).out = s.out := rfl
@[simp] theorem State.updJob_fresh (s : State) (x : Nat) (f : Job → Job) : (s.updJob x f).fresh = s.fresh := rfl
@[simp] theorem State.updJob_clk (s : State) (x : Nat) (f : Job → Job) : (s.updJob x f).clk = s.clk := rfl
@[simp] theorem State.updJob_mem (s : State) (x : Nat) (f : Job → Job) : (s.updJob x f).mem = s.mem := rfl
@[simp] theorem State.updJob_deviceId (s : State) (x : Nat) (f : Job → Job) : (s.updJob x f).deviceId = s.deviceId := rfl
@[simp] theorem State.updJob_cores (s : State) (x : Nat) (f : Job → Job) : (s.updJob x f).cores = s.cores := rfl
@[simp] theorem State.updJob_migs (s : State) (x : Nat) (f : Job → Job) : (s.updJob x f).migs = s.migs := rfl
@[simp] theorem State.updJob_asks (s : State) (x : Nat) (f : Job → Job) : (s.updJob x f).asks = s.asks := rfl
@[simp] theorem State.updJob_stalled (s : State) (x : Nat) (f : Job → Job) : (s.updJob x f).stalled = s.stalled := rfl
@[simp] theorem State.updJob_migRr (s : State) (x : Nat) (f : Job → Job) : (s.updJob x f).migRr = s.migRr := rfl
@[simp] theorem State.updJob_verifyLast (s : State) (x : Nat) (f : Job → Job) : (s.updJob x f).verifyLast = s.verifyLast := rfl
@[simp] theorem State.updJob_lend (s : State) (x : Nat) (f : Job → Job) : (s.updJob x f).lend = s.lend := rfl
@[simp] theorem State.updJob_banks (s : State) (x : Nat) (f : Job → Job) : (s.updJob x f).banks = s.banks := rfl
@[simp] theorem State.updJob_rowCopies (s : State) (x : Nat) (f : Job → Job) : (s.updJob x f).rowCopies = s.rowCopies := rfl
@[simp] theorem State.updJob_rowMap (s : State) (x : Nat) (f : Job → Job) : (s.updJob x f).rowMap = s.rowMap := rfl
@[simp] theorem State.updJob_withdrawn (s : State) (x : Nat) (f : Job → Job) : (s.updJob x f).withdrawn = s.withdrawn := rfl
@[simp] theorem State.updJob_retiredFrames (s : State) (x : Nat) (f : Job → Job) : (s.updJob x f).retiredFrames = s.retiredFrames := rfl
@[simp] theorem State.updJob_freed (s : State) (x : Nat) (f : Job → Job) : (s.updJob x f).freed = s.freed := rfl
@[simp] theorem State.updJob_tcache (s : State) (x : Nat) (f : Job → Job) : (s.updJob x f).tcache = s.tcache := rfl
@[simp] theorem State.updJob_laneSpares (s : State) (x : Nat) (f : Job → Job) : (s.updJob x f).laneSpares = s.laneSpares := rfl
@[simp] theorem State.updJob_bankSpares (s : State) (x : Nat) (f : Job → Job) : (s.updJob x f).bankSpares = s.bankSpares := rfl
@[simp] theorem State.updJob_culls (s : State) (x : Nat) (f : Job → Job) : (s.updJob x f).culls = s.culls := rfl
@[simp] theorem State.updJob_arrayErrs (s : State) (x : Nat) (f : Job → Job) : (s.updJob x f).arrayErrs = s.arrayErrs := rfl
@[simp] theorem State.updJob_flows (s : State) (x : Nat) (f : Job → Job) : (s.updJob x f).flows = s.flows := rfl
@[simp] theorem State.updJob_trk (s : State) (x : Nat) (f : Job → Job) : (s.updJob x f).trk = s.trk := rfl
@[simp] theorem State.updJob_trkNext (s : State) (x : Nat) (f : Job → Job) : (s.updJob x f).trkNext = s.trkNext := rfl
@[simp] theorem State.updJob_ctrl (s : State) (x : Nat) (f : Job → Job) : (s.updJob x f).ctrl = s.ctrl := rfl
@[simp] theorem State.updJob_ctrlSeen (s : State) (x : Nat) (f : Job → Job) : (s.updJob x f).ctrlSeen = s.ctrlSeen := rfl
@[simp] theorem State.updJob_ctrlNext (s : State) (x : Nat) (f : Job → Job) : (s.updJob x f).ctrlNext = s.ctrlNext := rfl
@[simp] theorem State.updJob_fcache (s : State) (x : Nat) (f : Job → Job) : (s.updJob x f).fcache = s.fcache := rfl
@[simp] theorem State.updJob_atoms (s : State) (x : Nat) (f : Job → Job) : (s.updJob x f).atoms = s.atoms := rfl
@[simp] theorem State.updJob_probes (s : State) (x : Nat) (f : Job → Job) : (s.updJob x f).probes = s.probes := rfl
@[simp] theorem State.updJob_probeLast (s : State) (x : Nat) (f : Job → Job) : (s.updJob x f).probeLast = s.probeLast := rfl
@[simp] theorem State.updJob_links (s : State) (x : Nat) (f : Job → Job) : (s.updJob x f).links = s.links := rfl
@[simp] theorem State.updJob_macs (s : State) (x : Nat) (f : Job → Job) : (s.updJob x f).macs = s.macs := rfl
@[simp] theorem State.updJob_ports (s : State) (x : Nat) (f : Job → Job) : (s.updJob x f).ports = s.ports := rfl
@[simp] theorem State.updJob_lanes (s : State) (x : Nat) (f : Job → Job) : (s.updJob x f).lanes = s.lanes := rfl
@[simp] theorem State.updJob_recal (s : State) (x : Nat) (f : Job → Job) : (s.updJob x f).recal = s.recal := rfl
@[simp] theorem State.updJob_recalPeriodS (s : State) (x : Nat) (f : Job → Job) : (s.updJob x f).recalPeriodS = s.recalPeriodS := rfl
@[simp] theorem State.updJob_fwd (s : State) (x : Nat) (f : Job → Job) : (s.updJob x f).fwd = s.fwd := rfl
@[simp] theorem State.updJob_peersIp (s : State) (x : Nat) (f : Job → Job) : (s.updJob x f).peersIp = s.peersIp := rfl
@[simp] theorem State.updJob_fwdDropNs (s : State) (x : Nat) (f : Job → Job) : (s.updJob x f).fwdDropNs = s.fwdDropNs := rfl
@[simp] theorem State.updJob_hopLimit (s : State) (x : Nat) (f : Job → Job) : (s.updJob x f).hopLimit = s.hopLimit := rfl
@[simp] theorem State.updJob_ecnDraws (s : State) (x : Nat) (f : Job → Job) : (s.updJob x f).ecnDraws = s.ecnDraws := rfl
@[simp] theorem State.updJob_mailboxes (s : State) (x : Nat) (f : Job → Job) : (s.updJob x f).mailboxes = s.mailboxes := rfl
@[simp] theorem State.updJob_pwFails (s : State) (x : Nat) (f : Job → Job) : (s.updJob x f).pwFails = s.pwFails := rfl
@[simp] theorem State.updJob_lockedUntil (s : State) (x : Nat) (f : Job → Job) : (s.updJob x f).lockedUntil = s.lockedUntil := rfl
@[simp] theorem State.updJob_handles (s : State) (x : Nat) (f : Job → Job) : (s.updJob x f).handles = s.handles := rfl
@[simp] theorem State.updJob_log (s : State) (x : Nat) (f : Job → Job) : (s.updJob x f).log = s.log := rfl
@[simp] theorem State.updJob_logNext (s : State) (x : Nat) (f : Job → Job) : (s.updJob x f).logNext = s.logNext := rfl
@[simp] theorem State.updJob_logOverflow (s : State) (x : Nat) (f : Job → Job) : (s.updJob x f).logOverflow = s.logOverflow := rfl
@[simp] theorem State.updJob_counters (s : State) (x : Nat) (f : Job → Job) : (s.updJob x f).counters = s.counters := rfl
@[simp] theorem State.updJob_nand (s : State) (x : Nat) (f : Job → Job) : (s.updJob x f).nand = s.nand := rfl
@[simp] theorem State.updJob_journal (s : State) (x : Nat) (f : Job → Job) : (s.updJob x f).journal = s.journal := rfl
@[simp] theorem State.updJob_power (s : State) (x : Nat) (f : Job → Job) : (s.updJob x f).power = s.power := rfl
@[simp] theorem State.updJob_life (s : State) (x : Nat) (f : Job → Job) : (s.updJob x f).life = s.life := rfl
@[simp] theorem State.updJob_start (s : State) (x : Nat) (f : Job → Job) : (s.updJob x f).start = s.start := rfl
@[simp] theorem State.updJob_pcie (s : State) (x : Nat) (f : Job → Job) : (s.updJob x f).pcie = s.pcie := rfl
@[simp] theorem State.updJob_pins (s : State) (x : Nat) (f : Job → Job) : (s.updJob x f).pins = s.pins := rfl

@[simp] theorem State.updSec_pending (s : State) (x : Nat) (f : Sec → Sec) : (s.updSec x f).pending = s.pending := rfl
@[simp] theorem State.updSec_out (s : State) (x : Nat) (f : Sec → Sec) : (s.updSec x f).out = s.out := rfl
@[simp] theorem State.updSec_fresh (s : State) (x : Nat) (f : Sec → Sec) : (s.updSec x f).fresh = s.fresh := rfl
@[simp] theorem State.updSec_clk (s : State) (x : Nat) (f : Sec → Sec) : (s.updSec x f).clk = s.clk := rfl
@[simp] theorem State.updSec_mem (s : State) (x : Nat) (f : Sec → Sec) : (s.updSec x f).mem = s.mem := rfl
@[simp] theorem State.updSec_deviceId (s : State) (x : Nat) (f : Sec → Sec) : (s.updSec x f).deviceId = s.deviceId := rfl
@[simp] theorem State.updSec_cores (s : State) (x : Nat) (f : Sec → Sec) : (s.updSec x f).cores = s.cores := rfl
@[simp] theorem State.updSec_migs (s : State) (x : Nat) (f : Sec → Sec) : (s.updSec x f).migs = s.migs := rfl
@[simp] theorem State.updSec_asks (s : State) (x : Nat) (f : Sec → Sec) : (s.updSec x f).asks = s.asks := rfl
@[simp] theorem State.updSec_stalled (s : State) (x : Nat) (f : Sec → Sec) : (s.updSec x f).stalled = s.stalled := rfl
@[simp] theorem State.updSec_migRr (s : State) (x : Nat) (f : Sec → Sec) : (s.updSec x f).migRr = s.migRr := rfl
@[simp] theorem State.updSec_verifyLast (s : State) (x : Nat) (f : Sec → Sec) : (s.updSec x f).verifyLast = s.verifyLast := rfl
@[simp] theorem State.updSec_lend (s : State) (x : Nat) (f : Sec → Sec) : (s.updSec x f).lend = s.lend := rfl
@[simp] theorem State.updSec_banks (s : State) (x : Nat) (f : Sec → Sec) : (s.updSec x f).banks = s.banks := rfl
@[simp] theorem State.updSec_rowCopies (s : State) (x : Nat) (f : Sec → Sec) : (s.updSec x f).rowCopies = s.rowCopies := rfl
@[simp] theorem State.updSec_rowMap (s : State) (x : Nat) (f : Sec → Sec) : (s.updSec x f).rowMap = s.rowMap := rfl
@[simp] theorem State.updSec_withdrawn (s : State) (x : Nat) (f : Sec → Sec) : (s.updSec x f).withdrawn = s.withdrawn := rfl
@[simp] theorem State.updSec_retiredFrames (s : State) (x : Nat) (f : Sec → Sec) : (s.updSec x f).retiredFrames = s.retiredFrames := rfl
@[simp] theorem State.updSec_freed (s : State) (x : Nat) (f : Sec → Sec) : (s.updSec x f).freed = s.freed := rfl
@[simp] theorem State.updSec_tcache (s : State) (x : Nat) (f : Sec → Sec) : (s.updSec x f).tcache = s.tcache := rfl
@[simp] theorem State.updSec_laneSpares (s : State) (x : Nat) (f : Sec → Sec) : (s.updSec x f).laneSpares = s.laneSpares := rfl
@[simp] theorem State.updSec_bankSpares (s : State) (x : Nat) (f : Sec → Sec) : (s.updSec x f).bankSpares = s.bankSpares := rfl
@[simp] theorem State.updSec_culls (s : State) (x : Nat) (f : Sec → Sec) : (s.updSec x f).culls = s.culls := rfl
@[simp] theorem State.updSec_arrayErrs (s : State) (x : Nat) (f : Sec → Sec) : (s.updSec x f).arrayErrs = s.arrayErrs := rfl
@[simp] theorem State.updSec_flows (s : State) (x : Nat) (f : Sec → Sec) : (s.updSec x f).flows = s.flows := rfl
@[simp] theorem State.updSec_trk (s : State) (x : Nat) (f : Sec → Sec) : (s.updSec x f).trk = s.trk := rfl
@[simp] theorem State.updSec_trkNext (s : State) (x : Nat) (f : Sec → Sec) : (s.updSec x f).trkNext = s.trkNext := rfl
@[simp] theorem State.updSec_ctrl (s : State) (x : Nat) (f : Sec → Sec) : (s.updSec x f).ctrl = s.ctrl := rfl
@[simp] theorem State.updSec_ctrlSeen (s : State) (x : Nat) (f : Sec → Sec) : (s.updSec x f).ctrlSeen = s.ctrlSeen := rfl
@[simp] theorem State.updSec_ctrlNext (s : State) (x : Nat) (f : Sec → Sec) : (s.updSec x f).ctrlNext = s.ctrlNext := rfl
@[simp] theorem State.updSec_fcache (s : State) (x : Nat) (f : Sec → Sec) : (s.updSec x f).fcache = s.fcache := rfl
@[simp] theorem State.updSec_atoms (s : State) (x : Nat) (f : Sec → Sec) : (s.updSec x f).atoms = s.atoms := rfl
@[simp] theorem State.updSec_probes (s : State) (x : Nat) (f : Sec → Sec) : (s.updSec x f).probes = s.probes := rfl
@[simp] theorem State.updSec_probeLast (s : State) (x : Nat) (f : Sec → Sec) : (s.updSec x f).probeLast = s.probeLast := rfl
@[simp] theorem State.updSec_links (s : State) (x : Nat) (f : Sec → Sec) : (s.updSec x f).links = s.links := rfl
@[simp] theorem State.updSec_macs (s : State) (x : Nat) (f : Sec → Sec) : (s.updSec x f).macs = s.macs := rfl
@[simp] theorem State.updSec_ports (s : State) (x : Nat) (f : Sec → Sec) : (s.updSec x f).ports = s.ports := rfl
@[simp] theorem State.updSec_lanes (s : State) (x : Nat) (f : Sec → Sec) : (s.updSec x f).lanes = s.lanes := rfl
@[simp] theorem State.updSec_recal (s : State) (x : Nat) (f : Sec → Sec) : (s.updSec x f).recal = s.recal := rfl
@[simp] theorem State.updSec_recalPeriodS (s : State) (x : Nat) (f : Sec → Sec) : (s.updSec x f).recalPeriodS = s.recalPeriodS := rfl
@[simp] theorem State.updSec_fwd (s : State) (x : Nat) (f : Sec → Sec) : (s.updSec x f).fwd = s.fwd := rfl
@[simp] theorem State.updSec_peersIp (s : State) (x : Nat) (f : Sec → Sec) : (s.updSec x f).peersIp = s.peersIp := rfl
@[simp] theorem State.updSec_fwdDropNs (s : State) (x : Nat) (f : Sec → Sec) : (s.updSec x f).fwdDropNs = s.fwdDropNs := rfl
@[simp] theorem State.updSec_hopLimit (s : State) (x : Nat) (f : Sec → Sec) : (s.updSec x f).hopLimit = s.hopLimit := rfl
@[simp] theorem State.updSec_ecnDraws (s : State) (x : Nat) (f : Sec → Sec) : (s.updSec x f).ecnDraws = s.ecnDraws := rfl
@[simp] theorem State.updSec_mailboxes (s : State) (x : Nat) (f : Sec → Sec) : (s.updSec x f).mailboxes = s.mailboxes := rfl
@[simp] theorem State.updSec_pwFails (s : State) (x : Nat) (f : Sec → Sec) : (s.updSec x f).pwFails = s.pwFails := rfl
@[simp] theorem State.updSec_lockedUntil (s : State) (x : Nat) (f : Sec → Sec) : (s.updSec x f).lockedUntil = s.lockedUntil := rfl
@[simp] theorem State.updSec_handles (s : State) (x : Nat) (f : Sec → Sec) : (s.updSec x f).handles = s.handles := rfl
@[simp] theorem State.updSec_log (s : State) (x : Nat) (f : Sec → Sec) : (s.updSec x f).log = s.log := rfl
@[simp] theorem State.updSec_logNext (s : State) (x : Nat) (f : Sec → Sec) : (s.updSec x f).logNext = s.logNext := rfl
@[simp] theorem State.updSec_logOverflow (s : State) (x : Nat) (f : Sec → Sec) : (s.updSec x f).logOverflow = s.logOverflow := rfl
@[simp] theorem State.updSec_counters (s : State) (x : Nat) (f : Sec → Sec) : (s.updSec x f).counters = s.counters := rfl
@[simp] theorem State.updSec_nand (s : State) (x : Nat) (f : Sec → Sec) : (s.updSec x f).nand = s.nand := rfl
@[simp] theorem State.updSec_journal (s : State) (x : Nat) (f : Sec → Sec) : (s.updSec x f).journal = s.journal := rfl
@[simp] theorem State.updSec_power (s : State) (x : Nat) (f : Sec → Sec) : (s.updSec x f).power = s.power := rfl
@[simp] theorem State.updSec_life (s : State) (x : Nat) (f : Sec → Sec) : (s.updSec x f).life = s.life := rfl
@[simp] theorem State.updSec_start (s : State) (x : Nat) (f : Sec → Sec) : (s.updSec x f).start = s.start := rfl
@[simp] theorem State.updSec_pcie (s : State) (x : Nat) (f : Sec → Sec) : (s.updSec x f).pcie = s.pcie := rfl
@[simp] theorem State.updSec_pins (s : State) (x : Nat) (f : Sec → Sec) : (s.updSec x f).pins = s.pins := rfl

@[simp] theorem State.updRecov_pending (s : State) (x : Nat) (f : Recovery → Recovery) : (s.updRecov x f).pending = s.pending := rfl
@[simp] theorem State.updRecov_out (s : State) (x : Nat) (f : Recovery → Recovery) : (s.updRecov x f).out = s.out := rfl
@[simp] theorem State.updRecov_fresh (s : State) (x : Nat) (f : Recovery → Recovery) : (s.updRecov x f).fresh = s.fresh := rfl
@[simp] theorem State.updRecov_clk (s : State) (x : Nat) (f : Recovery → Recovery) : (s.updRecov x f).clk = s.clk := rfl
@[simp] theorem State.updRecov_mem (s : State) (x : Nat) (f : Recovery → Recovery) : (s.updRecov x f).mem = s.mem := rfl
@[simp] theorem State.updRecov_deviceId (s : State) (x : Nat) (f : Recovery → Recovery) : (s.updRecov x f).deviceId = s.deviceId := rfl
@[simp] theorem State.updRecov_cores (s : State) (x : Nat) (f : Recovery → Recovery) : (s.updRecov x f).cores = s.cores := rfl
@[simp] theorem State.updRecov_migs (s : State) (x : Nat) (f : Recovery → Recovery) : (s.updRecov x f).migs = s.migs := rfl
@[simp] theorem State.updRecov_asks (s : State) (x : Nat) (f : Recovery → Recovery) : (s.updRecov x f).asks = s.asks := rfl
@[simp] theorem State.updRecov_stalled (s : State) (x : Nat) (f : Recovery → Recovery) : (s.updRecov x f).stalled = s.stalled := rfl
@[simp] theorem State.updRecov_migRr (s : State) (x : Nat) (f : Recovery → Recovery) : (s.updRecov x f).migRr = s.migRr := rfl
@[simp] theorem State.updRecov_verifyLast (s : State) (x : Nat) (f : Recovery → Recovery) : (s.updRecov x f).verifyLast = s.verifyLast := rfl
@[simp] theorem State.updRecov_lend (s : State) (x : Nat) (f : Recovery → Recovery) : (s.updRecov x f).lend = s.lend := rfl
@[simp] theorem State.updRecov_banks (s : State) (x : Nat) (f : Recovery → Recovery) : (s.updRecov x f).banks = s.banks := rfl
@[simp] theorem State.updRecov_rowCopies (s : State) (x : Nat) (f : Recovery → Recovery) : (s.updRecov x f).rowCopies = s.rowCopies := rfl
@[simp] theorem State.updRecov_rowMap (s : State) (x : Nat) (f : Recovery → Recovery) : (s.updRecov x f).rowMap = s.rowMap := rfl
@[simp] theorem State.updRecov_withdrawn (s : State) (x : Nat) (f : Recovery → Recovery) : (s.updRecov x f).withdrawn = s.withdrawn := rfl
@[simp] theorem State.updRecov_retiredFrames (s : State) (x : Nat) (f : Recovery → Recovery) : (s.updRecov x f).retiredFrames = s.retiredFrames := rfl
@[simp] theorem State.updRecov_freed (s : State) (x : Nat) (f : Recovery → Recovery) : (s.updRecov x f).freed = s.freed := rfl
@[simp] theorem State.updRecov_tcache (s : State) (x : Nat) (f : Recovery → Recovery) : (s.updRecov x f).tcache = s.tcache := rfl
@[simp] theorem State.updRecov_laneSpares (s : State) (x : Nat) (f : Recovery → Recovery) : (s.updRecov x f).laneSpares = s.laneSpares := rfl
@[simp] theorem State.updRecov_bankSpares (s : State) (x : Nat) (f : Recovery → Recovery) : (s.updRecov x f).bankSpares = s.bankSpares := rfl
@[simp] theorem State.updRecov_culls (s : State) (x : Nat) (f : Recovery → Recovery) : (s.updRecov x f).culls = s.culls := rfl
@[simp] theorem State.updRecov_arrayErrs (s : State) (x : Nat) (f : Recovery → Recovery) : (s.updRecov x f).arrayErrs = s.arrayErrs := rfl
@[simp] theorem State.updRecov_flows (s : State) (x : Nat) (f : Recovery → Recovery) : (s.updRecov x f).flows = s.flows := rfl
@[simp] theorem State.updRecov_trk (s : State) (x : Nat) (f : Recovery → Recovery) : (s.updRecov x f).trk = s.trk := rfl
@[simp] theorem State.updRecov_trkNext (s : State) (x : Nat) (f : Recovery → Recovery) : (s.updRecov x f).trkNext = s.trkNext := rfl
@[simp] theorem State.updRecov_ctrl (s : State) (x : Nat) (f : Recovery → Recovery) : (s.updRecov x f).ctrl = s.ctrl := rfl
@[simp] theorem State.updRecov_ctrlSeen (s : State) (x : Nat) (f : Recovery → Recovery) : (s.updRecov x f).ctrlSeen = s.ctrlSeen := rfl
@[simp] theorem State.updRecov_ctrlNext (s : State) (x : Nat) (f : Recovery → Recovery) : (s.updRecov x f).ctrlNext = s.ctrlNext := rfl
@[simp] theorem State.updRecov_fcache (s : State) (x : Nat) (f : Recovery → Recovery) : (s.updRecov x f).fcache = s.fcache := rfl
@[simp] theorem State.updRecov_atoms (s : State) (x : Nat) (f : Recovery → Recovery) : (s.updRecov x f).atoms = s.atoms := rfl
@[simp] theorem State.updRecov_probes (s : State) (x : Nat) (f : Recovery → Recovery) : (s.updRecov x f).probes = s.probes := rfl
@[simp] theorem State.updRecov_probeLast (s : State) (x : Nat) (f : Recovery → Recovery) : (s.updRecov x f).probeLast = s.probeLast := rfl
@[simp] theorem State.updRecov_links (s : State) (x : Nat) (f : Recovery → Recovery) : (s.updRecov x f).links = s.links := rfl
@[simp] theorem State.updRecov_macs (s : State) (x : Nat) (f : Recovery → Recovery) : (s.updRecov x f).macs = s.macs := rfl
@[simp] theorem State.updRecov_ports (s : State) (x : Nat) (f : Recovery → Recovery) : (s.updRecov x f).ports = s.ports := rfl
@[simp] theorem State.updRecov_lanes (s : State) (x : Nat) (f : Recovery → Recovery) : (s.updRecov x f).lanes = s.lanes := rfl
@[simp] theorem State.updRecov_recal (s : State) (x : Nat) (f : Recovery → Recovery) : (s.updRecov x f).recal = s.recal := rfl
@[simp] theorem State.updRecov_recalPeriodS (s : State) (x : Nat) (f : Recovery → Recovery) : (s.updRecov x f).recalPeriodS = s.recalPeriodS := rfl
@[simp] theorem State.updRecov_fwd (s : State) (x : Nat) (f : Recovery → Recovery) : (s.updRecov x f).fwd = s.fwd := rfl
@[simp] theorem State.updRecov_peersIp (s : State) (x : Nat) (f : Recovery → Recovery) : (s.updRecov x f).peersIp = s.peersIp := rfl
@[simp] theorem State.updRecov_fwdDropNs (s : State) (x : Nat) (f : Recovery → Recovery) : (s.updRecov x f).fwdDropNs = s.fwdDropNs := rfl
@[simp] theorem State.updRecov_hopLimit (s : State) (x : Nat) (f : Recovery → Recovery) : (s.updRecov x f).hopLimit = s.hopLimit := rfl
@[simp] theorem State.updRecov_ecnDraws (s : State) (x : Nat) (f : Recovery → Recovery) : (s.updRecov x f).ecnDraws = s.ecnDraws := rfl
@[simp] theorem State.updRecov_mailboxes (s : State) (x : Nat) (f : Recovery → Recovery) : (s.updRecov x f).mailboxes = s.mailboxes := rfl
@[simp] theorem State.updRecov_pwFails (s : State) (x : Nat) (f : Recovery → Recovery) : (s.updRecov x f).pwFails = s.pwFails := rfl
@[simp] theorem State.updRecov_lockedUntil (s : State) (x : Nat) (f : Recovery → Recovery) : (s.updRecov x f).lockedUntil = s.lockedUntil := rfl
@[simp] theorem State.updRecov_handles (s : State) (x : Nat) (f : Recovery → Recovery) : (s.updRecov x f).handles = s.handles := rfl
@[simp] theorem State.updRecov_log (s : State) (x : Nat) (f : Recovery → Recovery) : (s.updRecov x f).log = s.log := rfl
@[simp] theorem State.updRecov_logNext (s : State) (x : Nat) (f : Recovery → Recovery) : (s.updRecov x f).logNext = s.logNext := rfl
@[simp] theorem State.updRecov_logOverflow (s : State) (x : Nat) (f : Recovery → Recovery) : (s.updRecov x f).logOverflow = s.logOverflow := rfl
@[simp] theorem State.updRecov_counters (s : State) (x : Nat) (f : Recovery → Recovery) : (s.updRecov x f).counters = s.counters := rfl
@[simp] theorem State.updRecov_nand (s : State) (x : Nat) (f : Recovery → Recovery) : (s.updRecov x f).nand = s.nand := rfl
@[simp] theorem State.updRecov_journal (s : State) (x : Nat) (f : Recovery → Recovery) : (s.updRecov x f).journal = s.journal := rfl
@[simp] theorem State.updRecov_power (s : State) (x : Nat) (f : Recovery → Recovery) : (s.updRecov x f).power = s.power := rfl
@[simp] theorem State.updRecov_life (s : State) (x : Nat) (f : Recovery → Recovery) : (s.updRecov x f).life = s.life := rfl
@[simp] theorem State.updRecov_start (s : State) (x : Nat) (f : Recovery → Recovery) : (s.updRecov x f).start = s.start := rfl
@[simp] theorem State.updRecov_pcie (s : State) (x : Nat) (f : Recovery → Recovery) : (s.updRecov x f).pcie = s.pcie := rfl
@[simp] theorem State.updRecov_pins (s : State) (x : Nat) (f : Recovery → Recovery) : (s.updRecov x f).pins = s.pins := rfl

@[simp] theorem State.updWeights_pending (s : State) (x : Nat) (f : Weights → Weights) : (s.updWeights x f).pending = s.pending := rfl
@[simp] theorem State.updWeights_out (s : State) (x : Nat) (f : Weights → Weights) : (s.updWeights x f).out = s.out := rfl
@[simp] theorem State.updWeights_fresh (s : State) (x : Nat) (f : Weights → Weights) : (s.updWeights x f).fresh = s.fresh := rfl
@[simp] theorem State.updWeights_clk (s : State) (x : Nat) (f : Weights → Weights) : (s.updWeights x f).clk = s.clk := rfl
@[simp] theorem State.updWeights_mem (s : State) (x : Nat) (f : Weights → Weights) : (s.updWeights x f).mem = s.mem := rfl
@[simp] theorem State.updWeights_deviceId (s : State) (x : Nat) (f : Weights → Weights) : (s.updWeights x f).deviceId = s.deviceId := rfl
@[simp] theorem State.updWeights_cores (s : State) (x : Nat) (f : Weights → Weights) : (s.updWeights x f).cores = s.cores := rfl
@[simp] theorem State.updWeights_migs (s : State) (x : Nat) (f : Weights → Weights) : (s.updWeights x f).migs = s.migs := rfl
@[simp] theorem State.updWeights_asks (s : State) (x : Nat) (f : Weights → Weights) : (s.updWeights x f).asks = s.asks := rfl
@[simp] theorem State.updWeights_stalled (s : State) (x : Nat) (f : Weights → Weights) : (s.updWeights x f).stalled = s.stalled := rfl
@[simp] theorem State.updWeights_migRr (s : State) (x : Nat) (f : Weights → Weights) : (s.updWeights x f).migRr = s.migRr := rfl
@[simp] theorem State.updWeights_verifyLast (s : State) (x : Nat) (f : Weights → Weights) : (s.updWeights x f).verifyLast = s.verifyLast := rfl
@[simp] theorem State.updWeights_lend (s : State) (x : Nat) (f : Weights → Weights) : (s.updWeights x f).lend = s.lend := rfl
@[simp] theorem State.updWeights_banks (s : State) (x : Nat) (f : Weights → Weights) : (s.updWeights x f).banks = s.banks := rfl
@[simp] theorem State.updWeights_rowCopies (s : State) (x : Nat) (f : Weights → Weights) : (s.updWeights x f).rowCopies = s.rowCopies := rfl
@[simp] theorem State.updWeights_rowMap (s : State) (x : Nat) (f : Weights → Weights) : (s.updWeights x f).rowMap = s.rowMap := rfl
@[simp] theorem State.updWeights_withdrawn (s : State) (x : Nat) (f : Weights → Weights) : (s.updWeights x f).withdrawn = s.withdrawn := rfl
@[simp] theorem State.updWeights_retiredFrames (s : State) (x : Nat) (f : Weights → Weights) : (s.updWeights x f).retiredFrames = s.retiredFrames := rfl
@[simp] theorem State.updWeights_freed (s : State) (x : Nat) (f : Weights → Weights) : (s.updWeights x f).freed = s.freed := rfl
@[simp] theorem State.updWeights_tcache (s : State) (x : Nat) (f : Weights → Weights) : (s.updWeights x f).tcache = s.tcache := rfl
@[simp] theorem State.updWeights_laneSpares (s : State) (x : Nat) (f : Weights → Weights) : (s.updWeights x f).laneSpares = s.laneSpares := rfl
@[simp] theorem State.updWeights_bankSpares (s : State) (x : Nat) (f : Weights → Weights) : (s.updWeights x f).bankSpares = s.bankSpares := rfl
@[simp] theorem State.updWeights_culls (s : State) (x : Nat) (f : Weights → Weights) : (s.updWeights x f).culls = s.culls := rfl
@[simp] theorem State.updWeights_arrayErrs (s : State) (x : Nat) (f : Weights → Weights) : (s.updWeights x f).arrayErrs = s.arrayErrs := rfl
@[simp] theorem State.updWeights_flows (s : State) (x : Nat) (f : Weights → Weights) : (s.updWeights x f).flows = s.flows := rfl
@[simp] theorem State.updWeights_trk (s : State) (x : Nat) (f : Weights → Weights) : (s.updWeights x f).trk = s.trk := rfl
@[simp] theorem State.updWeights_trkNext (s : State) (x : Nat) (f : Weights → Weights) : (s.updWeights x f).trkNext = s.trkNext := rfl
@[simp] theorem State.updWeights_ctrl (s : State) (x : Nat) (f : Weights → Weights) : (s.updWeights x f).ctrl = s.ctrl := rfl
@[simp] theorem State.updWeights_ctrlSeen (s : State) (x : Nat) (f : Weights → Weights) : (s.updWeights x f).ctrlSeen = s.ctrlSeen := rfl
@[simp] theorem State.updWeights_ctrlNext (s : State) (x : Nat) (f : Weights → Weights) : (s.updWeights x f).ctrlNext = s.ctrlNext := rfl
@[simp] theorem State.updWeights_fcache (s : State) (x : Nat) (f : Weights → Weights) : (s.updWeights x f).fcache = s.fcache := rfl
@[simp] theorem State.updWeights_atoms (s : State) (x : Nat) (f : Weights → Weights) : (s.updWeights x f).atoms = s.atoms := rfl
@[simp] theorem State.updWeights_probes (s : State) (x : Nat) (f : Weights → Weights) : (s.updWeights x f).probes = s.probes := rfl
@[simp] theorem State.updWeights_probeLast (s : State) (x : Nat) (f : Weights → Weights) : (s.updWeights x f).probeLast = s.probeLast := rfl
@[simp] theorem State.updWeights_links (s : State) (x : Nat) (f : Weights → Weights) : (s.updWeights x f).links = s.links := rfl
@[simp] theorem State.updWeights_macs (s : State) (x : Nat) (f : Weights → Weights) : (s.updWeights x f).macs = s.macs := rfl
@[simp] theorem State.updWeights_ports (s : State) (x : Nat) (f : Weights → Weights) : (s.updWeights x f).ports = s.ports := rfl
@[simp] theorem State.updWeights_lanes (s : State) (x : Nat) (f : Weights → Weights) : (s.updWeights x f).lanes = s.lanes := rfl
@[simp] theorem State.updWeights_recal (s : State) (x : Nat) (f : Weights → Weights) : (s.updWeights x f).recal = s.recal := rfl
@[simp] theorem State.updWeights_recalPeriodS (s : State) (x : Nat) (f : Weights → Weights) : (s.updWeights x f).recalPeriodS = s.recalPeriodS := rfl
@[simp] theorem State.updWeights_fwd (s : State) (x : Nat) (f : Weights → Weights) : (s.updWeights x f).fwd = s.fwd := rfl
@[simp] theorem State.updWeights_peersIp (s : State) (x : Nat) (f : Weights → Weights) : (s.updWeights x f).peersIp = s.peersIp := rfl
@[simp] theorem State.updWeights_fwdDropNs (s : State) (x : Nat) (f : Weights → Weights) : (s.updWeights x f).fwdDropNs = s.fwdDropNs := rfl
@[simp] theorem State.updWeights_hopLimit (s : State) (x : Nat) (f : Weights → Weights) : (s.updWeights x f).hopLimit = s.hopLimit := rfl
@[simp] theorem State.updWeights_ecnDraws (s : State) (x : Nat) (f : Weights → Weights) : (s.updWeights x f).ecnDraws = s.ecnDraws := rfl
@[simp] theorem State.updWeights_mailboxes (s : State) (x : Nat) (f : Weights → Weights) : (s.updWeights x f).mailboxes = s.mailboxes := rfl
@[simp] theorem State.updWeights_pwFails (s : State) (x : Nat) (f : Weights → Weights) : (s.updWeights x f).pwFails = s.pwFails := rfl
@[simp] theorem State.updWeights_lockedUntil (s : State) (x : Nat) (f : Weights → Weights) : (s.updWeights x f).lockedUntil = s.lockedUntil := rfl
@[simp] theorem State.updWeights_handles (s : State) (x : Nat) (f : Weights → Weights) : (s.updWeights x f).handles = s.handles := rfl
@[simp] theorem State.updWeights_log (s : State) (x : Nat) (f : Weights → Weights) : (s.updWeights x f).log = s.log := rfl
@[simp] theorem State.updWeights_logNext (s : State) (x : Nat) (f : Weights → Weights) : (s.updWeights x f).logNext = s.logNext := rfl
@[simp] theorem State.updWeights_logOverflow (s : State) (x : Nat) (f : Weights → Weights) : (s.updWeights x f).logOverflow = s.logOverflow := rfl
@[simp] theorem State.updWeights_counters (s : State) (x : Nat) (f : Weights → Weights) : (s.updWeights x f).counters = s.counters := rfl
@[simp] theorem State.updWeights_nand (s : State) (x : Nat) (f : Weights → Weights) : (s.updWeights x f).nand = s.nand := rfl
@[simp] theorem State.updWeights_journal (s : State) (x : Nat) (f : Weights → Weights) : (s.updWeights x f).journal = s.journal := rfl
@[simp] theorem State.updWeights_power (s : State) (x : Nat) (f : Weights → Weights) : (s.updWeights x f).power = s.power := rfl
@[simp] theorem State.updWeights_life (s : State) (x : Nat) (f : Weights → Weights) : (s.updWeights x f).life = s.life := rfl
@[simp] theorem State.updWeights_start (s : State) (x : Nat) (f : Weights → Weights) : (s.updWeights x f).start = s.start := rfl
@[simp] theorem State.updWeights_pcie (s : State) (x : Nat) (f : Weights → Weights) : (s.updWeights x f).pcie = s.pcie := rfl
@[simp] theorem State.updWeights_pins (s : State) (x : Nat) (f : Weights → Weights) : (s.updWeights x f).pins = s.pins := rfl

@[simp] theorem State.countM_pending (s : State) (i k : Nat) : (s.countM i k).pending = s.pending := rfl
@[simp] theorem State.countM_out (s : State) (i k : Nat) : (s.countM i k).out = s.out := rfl
@[simp] theorem State.countM_fresh (s : State) (i k : Nat) : (s.countM i k).fresh = s.fresh := rfl
@[simp] theorem State.countM_clk (s : State) (i k : Nat) : (s.countM i k).clk = s.clk := rfl
@[simp] theorem State.countM_mem (s : State) (i k : Nat) : (s.countM i k).mem = s.mem := rfl
@[simp] theorem State.countM_deviceId (s : State) (i k : Nat) : (s.countM i k).deviceId = s.deviceId := rfl
@[simp] theorem State.countM_cores (s : State) (i k : Nat) : (s.countM i k).cores = s.cores := rfl
@[simp] theorem State.countM_ctxs (s : State) (i k : Nat) : (s.countM i k).ctxs = s.ctxs := rfl
@[simp] theorem State.countM_migs (s : State) (i k : Nat) : (s.countM i k).migs = s.migs := rfl
@[simp] theorem State.countM_asks (s : State) (i k : Nat) : (s.countM i k).asks = s.asks := rfl
@[simp] theorem State.countM_stalled (s : State) (i k : Nat) : (s.countM i k).stalled = s.stalled := rfl
@[simp] theorem State.countM_migRr (s : State) (i k : Nat) : (s.countM i k).migRr = s.migRr := rfl
@[simp] theorem State.countM_verifyLast (s : State) (i k : Nat) : (s.countM i k).verifyLast = s.verifyLast := rfl
@[simp] theorem State.countM_lend (s : State) (i k : Nat) : (s.countM i k).lend = s.lend := rfl
@[simp] theorem State.countM_banks (s : State) (i k : Nat) : (s.countM i k).banks = s.banks := rfl
@[simp] theorem State.countM_rowCopies (s : State) (i k : Nat) : (s.countM i k).rowCopies = s.rowCopies := rfl
@[simp] theorem State.countM_rowMap (s : State) (i k : Nat) : (s.countM i k).rowMap = s.rowMap := rfl
@[simp] theorem State.countM_withdrawn (s : State) (i k : Nat) : (s.countM i k).withdrawn = s.withdrawn := rfl
@[simp] theorem State.countM_retiredFrames (s : State) (i k : Nat) : (s.countM i k).retiredFrames = s.retiredFrames := rfl
@[simp] theorem State.countM_freed (s : State) (i k : Nat) : (s.countM i k).freed = s.freed := rfl
@[simp] theorem State.countM_tcache (s : State) (i k : Nat) : (s.countM i k).tcache = s.tcache := rfl
@[simp] theorem State.countM_laneSpares (s : State) (i k : Nat) : (s.countM i k).laneSpares = s.laneSpares := rfl
@[simp] theorem State.countM_bankSpares (s : State) (i k : Nat) : (s.countM i k).bankSpares = s.bankSpares := rfl
@[simp] theorem State.countM_culls (s : State) (i k : Nat) : (s.countM i k).culls = s.culls := rfl
@[simp] theorem State.countM_arrayErrs (s : State) (i k : Nat) : (s.countM i k).arrayErrs = s.arrayErrs := rfl
@[simp] theorem State.countM_flows (s : State) (i k : Nat) : (s.countM i k).flows = s.flows := rfl
@[simp] theorem State.countM_trk (s : State) (i k : Nat) : (s.countM i k).trk = s.trk := rfl
@[simp] theorem State.countM_trkNext (s : State) (i k : Nat) : (s.countM i k).trkNext = s.trkNext := rfl
@[simp] theorem State.countM_ctrl (s : State) (i k : Nat) : (s.countM i k).ctrl = s.ctrl := rfl
@[simp] theorem State.countM_ctrlSeen (s : State) (i k : Nat) : (s.countM i k).ctrlSeen = s.ctrlSeen := rfl
@[simp] theorem State.countM_ctrlNext (s : State) (i k : Nat) : (s.countM i k).ctrlNext = s.ctrlNext := rfl
@[simp] theorem State.countM_fcache (s : State) (i k : Nat) : (s.countM i k).fcache = s.fcache := rfl
@[simp] theorem State.countM_atoms (s : State) (i k : Nat) : (s.countM i k).atoms = s.atoms := rfl
@[simp] theorem State.countM_probes (s : State) (i k : Nat) : (s.countM i k).probes = s.probes := rfl
@[simp] theorem State.countM_probeLast (s : State) (i k : Nat) : (s.countM i k).probeLast = s.probeLast := rfl
@[simp] theorem State.countM_links (s : State) (i k : Nat) : (s.countM i k).links = s.links := rfl
@[simp] theorem State.countM_macs (s : State) (i k : Nat) : (s.countM i k).macs = s.macs := rfl
@[simp] theorem State.countM_ports (s : State) (i k : Nat) : (s.countM i k).ports = s.ports := rfl
@[simp] theorem State.countM_lanes (s : State) (i k : Nat) : (s.countM i k).lanes = s.lanes := rfl
@[simp] theorem State.countM_recal (s : State) (i k : Nat) : (s.countM i k).recal = s.recal := rfl
@[simp] theorem State.countM_recalPeriodS (s : State) (i k : Nat) : (s.countM i k).recalPeriodS = s.recalPeriodS := rfl
@[simp] theorem State.countM_fwd (s : State) (i k : Nat) : (s.countM i k).fwd = s.fwd := rfl
@[simp] theorem State.countM_peersIp (s : State) (i k : Nat) : (s.countM i k).peersIp = s.peersIp := rfl
@[simp] theorem State.countM_fwdDropNs (s : State) (i k : Nat) : (s.countM i k).fwdDropNs = s.fwdDropNs := rfl
@[simp] theorem State.countM_hopLimit (s : State) (i k : Nat) : (s.countM i k).hopLimit = s.hopLimit := rfl
@[simp] theorem State.countM_ecnDraws (s : State) (i k : Nat) : (s.countM i k).ecnDraws = s.ecnDraws := rfl
@[simp] theorem State.countM_mailboxes (s : State) (i k : Nat) : (s.countM i k).mailboxes = s.mailboxes := rfl
@[simp] theorem State.countM_pwFails (s : State) (i k : Nat) : (s.countM i k).pwFails = s.pwFails := rfl
@[simp] theorem State.countM_lockedUntil (s : State) (i k : Nat) : (s.countM i k).lockedUntil = s.lockedUntil := rfl
@[simp] theorem State.countM_handles (s : State) (i k : Nat) : (s.countM i k).handles = s.handles := rfl
@[simp] theorem State.countM_log (s : State) (i k : Nat) : (s.countM i k).log = s.log := rfl
@[simp] theorem State.countM_logNext (s : State) (i k : Nat) : (s.countM i k).logNext = s.logNext := rfl
@[simp] theorem State.countM_logOverflow (s : State) (i k : Nat) : (s.countM i k).logOverflow = s.logOverflow := rfl
@[simp] theorem State.countM_nand (s : State) (i k : Nat) : (s.countM i k).nand = s.nand := rfl
@[simp] theorem State.countM_journal (s : State) (i k : Nat) : (s.countM i k).journal = s.journal := rfl
@[simp] theorem State.countM_power (s : State) (i k : Nat) : (s.countM i k).power = s.power := rfl
@[simp] theorem State.countM_life (s : State) (i k : Nat) : (s.countM i k).life = s.life := rfl
@[simp] theorem State.countM_start (s : State) (i k : Nat) : (s.countM i k).start = s.start := rfl
@[simp] theorem State.countM_pcie (s : State) (i k : Nat) : (s.countM i k).pcie = s.pcie := rfl
@[simp] theorem State.countM_pins (s : State) (i k : Nat) : (s.countM i k).pins = s.pins := rfl

@[simp] theorem State.emit_out (s : State) (o : Output) : (s.emit o).out = s.out ++ [o] := rfl
@[simp] theorem State.draw_fresh (s : State) : s.draw.fresh = s.fresh + 1 := rfl
@[simp] theorem State.clearMem_mem (s : State) (a n : Nat) : (s.clearMem a n).mem = Memory.clear s.mem a n := rfl
@[simp] theorem State.advance_clk (s : State) (n : Nat) : (s.advance n).clk = s.clk.advance n := rfl

end Sys2Proof.Machine
end

