-- ==== Sys2Proof/Laws/Mail.lean ====
section
/-! SUPPORT. What becomes of a command that is heard: everything around its own action is said once here. -/

namespace Sys2Proof.Machine

/-- A map of mailboxes that differs from a state's only in what the issue of a command on page m writes: the request, LAST_TAG, OVERRUN, and the
session's counters. -/
def IssuedOn (s : State) (m : Nat) (M : Map Mailbox) : Prop :=
  (∀ n, n ≠ m → M.getOr n {} = s.mbox n) ∧ (M.getOr m {}).serialNo = (s.mbox m).serialNo ∧ (M.getOr m {}).irqDone = (s.mbox m).irqDone
    ∧ (M.getOr m {}).done = false ∧ (M.getOr m {}).busy = false ∧ (M.getOr m {}).challenge = (s.mbox m).challenge
    ∧ (M.getOr m {}).session = { (s.mbox m).session with fails := (M.getOr m {}).session.fails }

/-- The answer sets DONE and the STATUS, and writes the response body (R441). -/
theorem State.answer_answered (s : State) (rq : Req) (f c : Nat) (key : List Byte) (r : Reply) :
    Answered (s.answer rq f c key r) rq.mb r.status r.body := by
  have hl : ∀ n x, (leBytes n x).length = n := by
    intro n
    induction n with
    | zero => intro x; rfl
    | succ n ih => intro x; simp [leBytes, ih]
  have hz : ∀ n, (zeros n).length = n := fun n => by simp [zeros]
  have hp : ∀ n b, (padTo n b).length = n := by
    intro n b
    simp [padTo, hz]
    omega
  unfold State.answer
  extract_lets h mac s'
  have hm : (h ++ mac).length = 64 := by
    have h1 : mac.length = 32 := by
      unfold mac
      split
      · exact hz 32
      · exact hp 32 _
    simp [h, hl, hz, h1]
  have key : Answered s' rq.mb r.status r.body := by
    refine ⟨by simp [s'], by simp [s'], by simp [s'], ?_⟩
    simp only [s', State.mbox_updMbox]
    rw [List.drop_append, hm]
    simp [← hm]
  split
  · exact key
  · exact key

/-- The issue of a command that is heard on an open session: its action runs on the state in which only the page has changed, and its answer is
written, or the page stays busy. -/
theorem State.mailRun_heard {s : State} {rq : Req} {f c : Nat} (h : s.Heard rq f c) :
    ∃ M key, IssuedOn s rq.mb M ∧ ∀ act : State → State × Option Reply,
      s.mailRun rq f c act =
        match (act { s with mailboxes := M }).2 with
        | some r => (act { s with mailboxes := M }).1.answer rq f c key r
        | none => (act { s with mailboxes := M }).1.updMbox rq.mb (fun b => { b with busy := true }) := by
  obtain ⟨h1, h2, h3, h4, h5, h6, h7, h8, h9, h10⟩ := h
  let b0 := s.mbox rq.mb
  let s1 := s.updMbox rq.mb (fun b => { b with req := Memory.write b.req 0x40 (headBytes rq f c ++ padTo 32 rq.mac ++ rq.body) })
  let b1 := s1.mbox rq.mb
  let s2 := s1.setMbox rq.mb { b1 with overrun := false, lastTag := rq.dbTag }
  let b2 := s2.mbox rq.mb
  let b3 : Mailbox := { b2 with
    nextTag := (b2.nextTag + 1) % 65536
    epoch := if b2.nextTag = 65535 then (b2.epoch + 1) % 4294967296 else b2.epoch
    session := { b2.session with fails := 0 } }
  let s3 := s2.setMbox rq.mb b3
  have hb1 : b1 = { b0 with req := Memory.write b0.req 0x40 (headBytes rq f c ++ padTo 32 rq.mac ++ rq.body) } := by
    simp [b1, s1, b0]
  have hb2 : b2 = { b1 with overrun := false, lastTag := rq.dbTag } := by simp [b2, s2]
  have e3 : s3 = { s with mailboxes := s3.mailboxes } := rfl
  refine ⟨s3.mailboxes, (if b1.session.isOpen && !keyCmd f c then b1.session.kRsp else []), ⟨?_, ?_⟩, fun act => ?_⟩
  · intro n hn
    show s3.mbox n = s.mbox n
    simp only [s3, s2, s1, State.mbox_setMbox_ne _ _ hn, State.updMbox]
  · have this : s3.mailboxes.getOr rq.mb {} = b3 := by
      show s3.mbox rq.mb = b3
      simp [s3]
    have hs : b2.session = (s.mbox rq.mb).session := by simp [hb2, hb1, b0]
    rw [this]
    refine ⟨by simp [b3, hb2, hb1, b0], by simp [b3, hb2, hb1, b0], by simp [b3, hb2, hb1, b0, h2], by simp [b3, hb2, hb1, b0, h3],
      by simp [b3, hb2, hb1, b0], ?_⟩
    show ({ b2.session with fails := 0 } : Session) = { (s.mbox rq.mb).session with fails := 0 }
    rw [hs]
  · rw [← e3]
    unfold State.mailRun
    have hd : (b1.done || b1.busy) = false := by simp [hb1, b0, h2, h3]
    have ho : b2.session.isOpen = true := by simp [hb2, hb1, b0, h4]
    have ha : s2.authenticate rq f c = (s3, none) := by
      unfold State.authenticate
      show (if b2.session.isOpen = true then _ else _) = _
      rw [if_pos ho]
      have c1 : ¬ (rq.dbTag ≠ rq.tag ∨ rq.epoch ≠ b2.epoch ∨ rq.tag ≠ b2.nextTag) := by
        have : rq.epoch = b2.epoch := by simp [hb2, hb1, b0, h6]
        have : rq.tag = b2.nextTag := by simp [hb2, hb1, b0, h7]
        tauto
      have c2 : (if keyCmd f c = true then macZero rq else macOk rq f c b2.session.kReq) = true := by
        have : b2.session.kReq = (s.mbox rq.mb).session.kReq := by simp [hb2, hb1, b0]
        rw [this]
        split at h8 <;> simp_all
      show (if (rq.dbTag ≠ rq.tag ∨ rq.epoch ≠ b2.epoch ∨ rq.tag ≠ b2.nextTag) then _ else _) = _
      rw [if_neg c1, c2]
      rfl
    have he : s3.early f c = false := h10
    rw [if_neg (by simp [h1])]
    show (if (b1.done || b1.busy) = true then _ else _) = _
    rw [if_neg (by simp [hd])]
    show (match s2.authenticate rq f c with
      | (s, some st) => _
      | (s, none) => _) = _
    rw [ha]
    dsimp only
    rw [if_neg (by simp [h9]), if_neg (by simp [he])]
    all_goals rfl

/-- The same for a command that is answered at once. -/
theorem State.mailCmd_heard {s : State} {rq : Req} {f c : Nat} (h : s.Heard rq f c) :
    ∃ M key, IssuedOn s rq.mb M ∧ ∀ act : State → State × Reply,
      s.mailCmd rq f c act = (act { s with mailboxes := M }).1.answer rq f c key (act { s with mailboxes := M }).2 := by
  obtain ⟨M, key, hM, h⟩ := State.mailRun_heard h
  exact ⟨M, key, hM, fun act => by rw [State.mailCmd, h]⟩

/-- The same for a command taken on a page without an open session. -/
theorem State.mailCmd_heardFree {s : State} {rq : Req} {f c : Nat} (h : s.HeardFree rq f c) :
    ∃ M key, IssuedOn s rq.mb M ∧ ∀ act : State → State × Reply,
      s.mailCmd rq f c act = (act { s with mailboxes := M }).1.answer rq f c key (act { s with mailboxes := M }).2 := by
  obtain ⟨h1, h2, h3, h4, h5, h6, h8, h9, h10⟩ := h
  let b0 := s.mbox rq.mb
  let s1 := s.updMbox rq.mb (fun b => { b with req := Memory.write b.req 0x40 (headBytes rq f c ++ padTo 32 rq.mac ++ rq.body) })
  let b1 := s1.mbox rq.mb
  let s2 := s1.setMbox rq.mb { b1 with overrun := false, lastTag := rq.dbTag }
  let b2 := s2.mbox rq.mb
  have hb1 : b1 = { b0 with req := Memory.write b0.req 0x40 (headBytes rq f c ++ padTo 32 rq.mac ++ rq.body) } := by
    simp [b1, s1, b0]
  have hb2 : b2 = { b1 with overrun := false, lastTag := rq.dbTag } := by simp [b2, s2]
  have e2 : s2 = { s with mailboxes := s2.mailboxes } := rfl
  refine ⟨s2.mailboxes, (if b1.session.isOpen && !keyCmd f c then b1.session.kRsp else []), ⟨?_, ?_⟩, fun act => ?_⟩
  · intro n hn
    show s2.mbox n = s.mbox n
    simp only [s2, s1, State.mbox_setMbox_ne _ _ hn, State.updMbox]
  · have this : s2.mailboxes.getOr rq.mb {} = b2 := rfl
    have hs : b2.session = (s.mbox rq.mb).session := by simp [hb2, hb1, b0]
    rw [this]
    refine ⟨by simp [hb2, hb1, b0], by simp [hb2, hb1, b0], by simp [hb2, hb1, b0, h2], by simp [hb2, hb1, b0, h3],
      by simp [hb2, hb1, b0], ?_⟩
    rw [hs]
  · rw [← e2]
    unfold State.mailCmd State.mailRun
    have hd : (b1.done || b1.busy) = false := by simp [hb1, b0, h2, h3]
    have ho : ¬ b2.session.isOpen = true := by simp [hb2, hb1, b0, h4]
    have ha : s2.authenticate rq f c = (s2, none) := by
      unfold State.authenticate
      show (if b2.session.isOpen = true then _ else _) = _
      rw [if_neg ho, if_neg (by simp [h5]), if_neg (by simp [h6]), if_neg (by simp [h8])]
    have he : s2.early f c = false := h10
    rw [if_neg (by simp [h1])]
    show (if (b1.done || b1.busy) = true then _ else _) = _
    rw [if_neg (by simp [hd])]
    show (match s2.authenticate rq f c with
      | (s, some st) => _
      | (s, none) => _) = _
    rw [ha]
    dsimp only
    rw [if_neg (by simp [h9]), if_neg (by simp [he])]

end Sys2Proof.Machine
end

