-- ==== Sys2Proof/Laws/PowerOps.lean ====
section
/-! SUPPORT. What the operations and the meanings of Machine/PowerOps.lean can change: for each operation the fields of the state it may change, and
for each meaning that it answers a next state and the fields that it may change; all of them keep the invariant. -/

namespace Sys2Proof.Machine

theorem State.answerWait_rel (s : State) (status : Nat) : Rel [.out, .mailboxes, .power] s (State.answerWait s status) := by
  unfold State.answerWait
  split
  · exact Rel.refl _ _
  · refine Rel.step (by decide) (State.answer_rel _ _ _ _ _ _) ?_
    refine Rel.step (by decide) (Rel.set_power (hp := ?_)) ?_
    · exact fun h => ⟨h.1, h.2.1, h.2.2.1, h.2.2.2⟩
    · exact Rel.refl _ _

theorem State.capTicked_rel (s : State) : Rel [.power] s (State.capTicked s) := by
  unfold State.capTicked
  refine Rel.step (by decide) (Rel.set_power (hp := ?_)) ?_
  · exact fun h => ⟨h.1, h.2.1, h.2.2.1, h.2.2.2⟩
  · exact Rel.refl _ _

theorem State.capUnmet_rel (s : State) : Rel [.out, .ctxs, .mailboxes, .log, .logNext, .logOverflow, .power] s (State.capUnmet s) := by
  unfold State.capUnmet
  extract_lets +onlyGivenNames x1
  extract_lets +onlyGivenNames x2; try clear_value x2
  split
  · refine Rel.step (by decide) (State.event_rel _ _ _ _ _) ?_
    refine Rel.step (by decide) (Rel.set_power (hp := ?_)) ?_
    · exact fun h => ⟨h.1, h.2.1, h.2.2.1, h.2.2.2⟩
    · exact Rel.refl _ _
  · exact Rel.refl _ _

theorem State.commitJournal_rel (s : State) : Rel [.nand, .journal, .pins] s (State.commitJournal s) := by
  unfold State.commitJournal
  extract_lets +onlyGivenNames x1; try clear_value x1
  refine Rel.step (by decide) Rel.set_nand_journal_pins ?_
  exact Rel.refl _ _

theorem State.holdover_rel (s : State) : Rel [.out, .clk, .ctxs, .mailboxes, .log, .logNext, .logOverflow] s (State.holdover s) := by
  unfold State.holdover
  extract_lets +onlyGivenNames x1; try clear_value x1
  split
  · refine Rel.step (by decide) (State.event_rel _ _ _ _ _) ?_
    refine Rel.step (by decide) Rel.set_clk ?_
    exact Rel.refl _ _
  · exact Rel.refl _ _

theorem State.rampAllDown_rel (s : State) : Rel [.cores] s (State.rampAllDown s) := by
  unfold State.rampAllDown
  refine Rel.step (by decide) Rel.set_cores ?_
  exact Rel.refl _ _

theorem State.enterStandby_rel (s : State) : Rel [.out, .clk, .cores, .ctxs, .flows, .macs, .ports, .fwd, .ecnDraws, .mailboxes, .log, .logNext, .logOverflow, .counters, .power] s (State.enterStandby s) := by
  unfold State.enterStandby
  extract_lets +onlyGivenNames x1; (refine Rel.via (t := x1) ?_ (fun _ => ?_); (on_goal 2 => try clear_value x1); (on_goal 1 => unfold x1); (on_goal 1 => clear x1))
  · refine Rel.foldl (fun _ _ => ?_) ?_
    · refine Rel.step (by decide) (State.dropPort_rel _ _) ?_
      exact Rel.refl _ _
    · exact Rel.refl _ _
  · extract_lets +onlyGivenNames x2
    refine Rel.step (by decide) (State.holdover_rel _) ?_
    refine Rel.step (by decide) (State.rampAllDown_rel _) ?_
    refine Rel.step (by decide) (Rel.set_power (hp := ?_)) ?_
    · exact fun h => ⟨h.1, h.2.1, h.2.2.1, h.2.2.2⟩
    · assumption

/-- The power fractions keep their ranges through a change that keeps them. -/
theorem State.setPower_rel (s : State) (f : Power → Power) (hf : ∀ (p : Power), PowerOk p → PowerOk (f p)) :
    Rel [.cores, .ctxs, .counters, .power] s (s.setPower f) := by
  unfold State.setPower
  refine Rel.step (by decide) (State.ceilingFell_rel _) ?_
  refine Rel.step (by decide) (Rel.set_power (hp := hf _)) ?_
  refine Rel.step (by decide) (State.settleAll_rel _) ?_
  exact Rel.refl _ _

theorem State.fallSh_rel (s : State) (k : Nat) : Rel [.cores, .ctxs, .counters, .power] s (State.fallSh s k) := by
  unfold State.fallSh
  split
  · exact Rel.refl _ _
  · refine Rel.step (by decide) (State.setPower_rel _ _ ?_) ?_
    · (intro p hp; unfold PowerOk at *; dsimp only; omega)
    · exact Rel.refl _ _

theorem State.fenceAll_rel (s : State) : Rel [.out, .fresh, .mem, .cores, .ctxs, .migs, .asks, .stalled, .rowCopies, .freed, .flows, .mailboxes, .handles, .log, .logNext, .logOverflow, .nand] s (State.fenceAll s) := by
  unfold State.fenceAll
  refine Rel.foldl (fun _ _ => ?_) ?_
  · refine Rel.step (by decide) (State.fence_rel _ _) ?_
    exact Rel.refl _ _
  · exact Rel.refl _ _

theorem State.gafferEvent_rel (s : State) (code : Nat) (sev : Nat) (args : List Nat) : Rel [.out, .ctxs, .mailboxes, .log, .logNext, .logOverflow] s (State.gafferEvent s code sev args) := by
  unfold State.gafferEvent
  split
  · refine Rel.step (by decide) (State.event_rel _ _ _ _ _) ?_
    exact Rel.refl _ _
  · exact Rel.refl _ _

theorem State.heatEvent_rel (s : State) (code : Nat) (sev : Nat) (k : Nat) : Rel [.out, .ctxs, .mailboxes, .log, .logNext, .logOverflow] s (State.heatEvent s code sev k) := by
  unfold State.heatEvent
  refine Rel.step (by decide) (State.gafferEvent_rel _ _ _ _) ?_
  exact Rel.refl _ _

theorem State.inputRange_rel (s : State) (mv : Nat) (ma : Nat) : Rel [.out, .ctxs, .mailboxes, .log, .logNext, .logOverflow, .power, .pins] s (State.inputRange s mv ma) := by
  unfold State.inputRange
  split
  · refine Rel.step (by decide) (Rel.set_power (hp := ?_)) ?_
    · exact fun h => ⟨h.1, h.2.1, h.2.2.1, h.2.2.2⟩
    · exact Rel.refl _ _
  · extract_lets +onlyGivenNames x1
    extract_lets +onlyGivenNames x2; try clear_value x2
    extract_lets +onlyGivenNames x3; (refine Rel.via (t := x3) ?_ (fun _ => ?_); (on_goal 2 => try clear_value x3); (on_goal 1 => unfold x3); (on_goal 1 => clear x3))
    · split
      · exact Rel.refl _ _
      · refine Rel.step (by decide) (State.alert_rel _ _) ?_
        exact Rel.refl _ _
    · extract_lets +onlyGivenNames x4
      extract_lets +onlyGivenNames x5; (refine Rel.via (t := x5) ?_ (fun _ => ?_); (on_goal 2 => try clear_value x5); (on_goal 1 => unfold x5); (on_goal 1 => clear x5))
      · refine Rel.step (by decide) (Rel.set_power (hp := ?_)) ?_
        · exact fun h => ⟨h.1, h.2.1, h.2.2.1, h.2.2.2⟩
        · assumption
      · split
        · refine Rel.step (by decide) (State.event_rel _ _ _ _ _) ?_
          refine Rel.step (by decide) (Rel.set_power (hp := ?_)) ?_
          · exact fun h => ⟨h.1, h.2.1, h.2.2.1, h.2.2.2⟩
          · assumption
        · assumption

theorem State.reading_rel (s : State) (r : SensorReading) : Rel [.power] s (State.reading s r) := by
  unfold State.reading
  extract_lets +onlyGivenNames x1; try clear_value x1
  extract_lets +onlyGivenNames x2
  refine Rel.step (by decide) (Rel.set_power (hp := ?_)) ?_
  · exact fun h => ⟨h.1, h.2.1, h.2.2.1, h.2.2.2⟩
  · exact Rel.refl _ _

theorem State.ready_rel (s : State) : Rel [.out, .ctxs, .mailboxes, .log, .logNext, .logOverflow, .power, .start, .pins] s (State.ready s) := by
  unfold State.ready
  extract_lets +onlyGivenNames x1
  extract_lets +onlyGivenNames x2; try clear_value x2
  extract_lets +onlyGivenNames x3; (refine Rel.via (t := x3) ?_ (fun _ => ?_); (on_goal 2 => try clear_value x3); (on_goal 1 => unfold x3); (on_goal 1 => clear x3))
  · refine Rel.step (by decide) (Rel.set_power_start (hp := ?_)) ?_
    · exact fun h => ⟨h.1, h.2.1, h.2.2.1, h.2.2.2⟩
    · exact Rel.refl _ _
  · refine Rel.step (by decide) (State.alert_rel _ _) ?_
    refine Rel.step (by decide) (State.event_rel _ _ _ _ _) ?_
    assumption

theorem State.reclaimAll_rel (s : State) : Rel [.lend, .ctrl, .ctrlNext, .macs, .ecnDraws, .counters] s (State.reclaimAll s) := by
  unfold State.reclaimAll
  refine Rel.foldl (fun _ _ => ?_) ?_
  · split
    · refine Rel.step (by decide) (State.reclaimWindow_rel _ _ _) ?_
      exact Rel.refl _ _
    · exact Rel.refl _ _
  · exact Rel.refl _ _

theorem State.resumeStart_rel (s : State) : Rel [.out, .clk, .ctxs, .mailboxes, .log, .logNext, .logOverflow, .power, .start, .pins] s (State.resumeStart s) := by
  unfold State.resumeStart
  split
  · extract_lets +onlyGivenNames x1; try clear_value x1
    extract_lets +onlyGivenNames x2; (refine Rel.via (t := x2) ?_ (fun _ => ?_); (on_goal 2 => try clear_value x2); (on_goal 1 => unfold x2); (on_goal 1 => clear x2))
    · split
      · refine Rel.step (by decide) (State.toTai_rel _ _) ?_
        exact Rel.refl _ _
      · exact Rel.refl _ _
    · extract_lets +onlyGivenNames x3; try clear_value x3
      extract_lets +onlyGivenNames x4; try clear_value x4
      extract_lets +onlyGivenNames x5; (refine Rel.via (t := x5) ?_ (fun _ => ?_); (on_goal 2 => try clear_value x5); (on_goal 1 => unfold x5); (on_goal 1 => clear x5))
      · refine Rel.step (by decide) Rel.set_start_pins ?_
        assumption
      · split
        · refine Rel.step (by decide) (State.ready_rel _) ?_
          assumption
        · assumption
  · exact Rel.refl _ _

theorem State.standbyNow_rel (s : State) : Rel [.out, .clk, .cores, .ctxs, .flows, .macs, .ports, .fwd, .ecnDraws, .mailboxes, .log, .logNext, .logOverflow, .counters, .power] s (State.standbyNow s) := by
  unfold State.standbyNow
  split
  · refine Rel.step (by decide) (State.endSessions_rel _) ?_
    refine Rel.step (by decide) (State.answerWait_rel _ _) ?_
    refine Rel.step (by decide) (State.enterStandby_rel _) ?_
    exact Rel.refl _ _
  · exact Rel.refl _ _

theorem State.stateCmd_rel {l : List Fld} {s0 : State} {s : State} {rq : Req} {f : State × Option Reply}
    (hsub : subF [] l = true) (hact0 : Rel l s0 f.1) (hrel : Rel l s0 s) : Rel l s0 (State.stateCmd s rq f).1 := by
  unfold State.stateCmd
  split
  · refine Rel.pair ?_
    assumption
  · split
    · refine Rel.pair ?_
      assumption
    · assumption

theorem State.thermTicked_rel (s : State) : Rel [.power] s (State.thermTicked s) := by
  unfold State.thermTicked
  refine Rel.step (by decide) (Rel.set_power (hp := ?_)) ?_
  · exact fun h => ⟨h.1, h.2.1, h.2.2.1, h.2.2.2⟩
  · exact Rel.refl _ _

theorem State.tripEnds_rel (s : State) : Rel [.power, .pins] s (State.tripEnds s) := by
  unfold State.tripEnds
  split
  · refine Rel.step (by decide) (Rel.set_power_pins (hp := ?_)) ?_
    · exact fun h => ⟨h.1, h.2.1, h.2.2.1, h.2.2.2⟩
    · exact Rel.refl _ _
  · exact Rel.refl _ _

theorem execCapControlTick_next (s : State) : Next [.out, .clk, .cores, .ctxs, .mailboxes, .log, .logNext, .logOverflow, .counters, .power] s (execCapControlTick s) := by
  unfold execCapControlTick
  split
  · refine Next.intro ?_
    exact Rel.refl _ _
  · extract_lets +onlyGivenNames x1; (refine Next.via (t := x1) ?_ (fun _ => ?_); (on_goal 2 => try clear_value x1); (on_goal 1 => unfold x1); (on_goal 1 => clear x1))
    · refine Rel.step (by decide) (State.toTai_rel _ _) ?_
      exact Rel.refl _ _
    · extract_lets +onlyGivenNames x2; (refine Next.via (t := x2) ?_ (fun _ => ?_); (on_goal 2 => try clear_value x2); (on_goal 1 => unfold x2); (on_goal 1 => clear x2))
      · refine Rel.step (by decide) (State.capTicked_rel _) ?_
        assumption
      · extract_lets +onlyGivenNames x3
        extract_lets +onlyGivenNames x4; try clear_value x4
        extract_lets +onlyGivenNames x5; try clear_value x5
        split
        · refine Next.intro ?_
          split
          · refine Rel.step (by decide) (State.capUnmet_rel _) ?_
            assumption
          · refine Rel.step (by decide) (State.fallSh_rel _ _) ?_
            assumption
        · split
          · refine Next.intro ?_
            refine Rel.step (by decide) (State.setPower_rel _ _ ?_) ?_
            · (intro p hp; unfold PowerOk at *; dsimp only; omega)
            · assumption
          · refine Next.intro ?_
            assumption

theorem execPfwAssert_next (s : State) : Next [.out, .fresh, .clk, .mem, .cores, .ctxs, .migs, .asks, .stalled, .rowCopies, .freed, .flows, .mailboxes, .handles, .log, .logNext, .logOverflow, .nand, .power, .pins] s (execPfwAssert s) := by
  unfold execPfwAssert
  split
  · refine Next.intro ?_
    exact Rel.refl _ _
  · extract_lets +onlyGivenNames x1; (refine Next.via (t := x1) ?_ (fun _ => ?_); (on_goal 2 => try clear_value x1); (on_goal 1 => unfold x1); (on_goal 1 => clear x1))
    · refine Rel.step (by decide) (State.advance_rel _ _) ?_
      exact Rel.refl _ _
    · extract_lets +onlyGivenNames x2; try clear_value x2
      extract_lets +onlyGivenNames x3; (refine Next.via (t := x3) ?_ (fun _ => ?_); (on_goal 2 => try clear_value x3); (on_goal 1 => unfold x3); (on_goal 1 => clear x3))
      · refine Rel.step (by decide) Rel.set_pins ?_
        assumption
      · extract_lets +onlyGivenNames x4; (refine Next.via (t := x4) ?_ (fun _ => ?_); (on_goal 2 => try clear_value x4); (on_goal 1 => unfold x4); (on_goal 1 => clear x4))
        · split
          · refine Rel.step (by decide) (State.answerWait_rel _ _) ?_
            refine Rel.step (by decide) (State.rampAllDown_rel _) ?_
            refine Rel.step (by decide) (State.fenceAll_rel _) ?_
            assumption
          · assumption
        · refine Next.intro ?_
          refine Rel.step (by decide) (State.alert_rel _ _) ?_
          refine Rel.step (by decide) (State.gafferEvent_rel _ _ _ _) ?_
          assumption

theorem execPfwJournalCommit_next (s : State) : Next [.clk, .nand, .journal, .pins] s (execPfwJournalCommit s) := by
  unfold execPfwJournalCommit
  split
  · refine Next.intro ?_
    exact Rel.refl _ _
  · extract_lets +onlyGivenNames x1; (refine Next.via (t := x1) ?_ (fun _ => ?_); (on_goal 2 => try clear_value x1); (on_goal 1 => unfold x1); (on_goal 1 => clear x1))
    · refine Rel.step (by decide) (State.commitJournal_rel _) ?_
      refine Rel.step (by decide) (State.toTai_rel _ _) ?_
      exact Rel.refl _ _
    · refine Next.intro ?_
      refine Rel.step (by decide) Rel.set_pins ?_
      assumption

theorem execPfwRejoin_next (s : State) : Next [.out, .clk, .ctxs, .mailboxes, .log, .logNext, .logOverflow, .power, .start, .pins] s (execPfwRejoin s) := by
  unfold execPfwRejoin
  split
  · refine Next.intro ?_
    exact Rel.refl _ _
  · split
    · refine Next.intro ?_
      refine Rel.step (by decide) (State.resumeStart_rel _) ?_
      exact Rel.refl _ _
    · extract_lets +onlyGivenNames x1; (refine Next.via (t := x1) ?_ (fun _ => ?_); (on_goal 2 => try clear_value x1); (on_goal 1 => unfold x1); (on_goal 1 => clear x1))
      · refine Rel.step (by decide) (State.toTai_rel _ _) ?_
        exact Rel.refl _ _
      · extract_lets +onlyGivenNames x2; try clear_value x2
        extract_lets +onlyGivenNames x3; (refine Next.via (t := x3) ?_ (fun _ => ?_); (on_goal 2 => try clear_value x3); (on_goal 1 => unfold x3); (on_goal 1 => clear x3))
        · refine Rel.step (by decide) Rel.set_pins ?_
          assumption
        · refine Next.intro ?_
          refine Rel.foldl (fun _ _ => ?_) ?_
          · refine Rel.step (by decide) (State.beginRecovery_rel _ _ _ _ _) ?_
            exact Rel.refl _ _
          · assumption

theorem execPfwRelease_next (s : State) : Next [.out, .clk, .ctxs, .mailboxes, .log, .logNext, .logOverflow, .pins] s (execPfwRelease s) := by
  unfold execPfwRelease
  split
  · refine Next.intro ?_
    exact Rel.refl _ _
  · extract_lets +onlyGivenNames x1; (refine Next.via (t := x1) ?_ (fun _ => ?_); (on_goal 2 => try clear_value x1); (on_goal 1 => unfold x1); (on_goal 1 => clear x1))
    · refine Rel.step (by decide) (State.advance_rel _ _) ?_
      exact Rel.refl _ _
    · extract_lets +onlyGivenNames x2; try clear_value x2
      extract_lets +onlyGivenNames x3; (refine Next.via (t := x3) ?_ (fun _ => ?_); (on_goal 2 => try clear_value x3); (on_goal 1 => unfold x3); (on_goal 1 => clear x3))
      · refine Rel.step (by decide) Rel.set_pins ?_
        assumption
      · refine Next.intro ?_
        refine Rel.step (by decide) (State.alert_rel _ _) ?_
        refine Rel.step (by decide) (State.gafferEvent_rel _ _ _ _) ?_
        assumption

theorem execPowerCap_next (rq : Req) (s : State) : Next [.out, .ctxs, .mailboxes, .log, .logNext, .logOverflow, .power] s (execPowerCap rq s) := by
  unfold execPowerCap
  refine Next.intro ?_
  refine State.mailCmd_rel (by decide) (fun _ => ?_) ?_
  · refine State.adm_rel (by decide) ?_ ?_
    · extract_lets +onlyGivenNames x1; try clear_value x1
      extract_lets +onlyGivenNames x2; try clear_value x2
      refine State.bodyOf_rel (by decide) ?_ ?_
      · split
        · refine Rel.step (by decide) (State.fail_rel _ _) ?_
          exact Rel.refl _ _
        · refine Rel.step (by decide) (State.done_rel _ _) ?_
          refine Rel.step (by decide) (Rel.set_power (hp := ?_)) ?_
          · exact fun h => ⟨h.1, h.2.1, h.2.2.1, h.2.2.2⟩
          · exact Rel.refl _ _
      · exact Rel.refl _ _
    · exact Rel.refl _ _
  · exact Rel.refl _ _

theorem execPowerRead_next (rq : Req) (s : State) : Next [.out, .ctxs, .mailboxes, .log, .logNext, .logOverflow] s (execPowerRead rq s) := by
  unfold execPowerRead
  refine Next.intro ?_
  refine State.mailCmd_rel (by decide) (fun _ => ?_) ?_
  · refine State.anyMb_rel (by decide) ?_ ?_
    · refine State.bodyOf_rel (by decide) ?_ ?_
      · extract_lets +onlyGivenNames x1; try clear_value x1
        refine Rel.step (by decide) (State.done_rel _ _) ?_
        exact Rel.refl _ _
      · exact Rel.refl _ _
    · exact Rel.refl _ _
  · exact Rel.refl _ _

theorem execPowerSample_next (mv : Nat) (ma : Nat) (mw : Nat) (s : State) : Next [.out, .clk, .cores, .ctxs, .mailboxes, .log, .logNext, .logOverflow, .counters, .power, .pins] s (execPowerSample mv ma mw s) := by
  unfold execPowerSample
  split
  · refine Next.intro ?_
    exact Rel.refl _ _
  · extract_lets +onlyGivenNames x1; (refine Next.via (t := x1) ?_ (fun _ => ?_); (on_goal 2 => try clear_value x1); (on_goal 1 => unfold x1); (on_goal 1 => clear x1))
    · refine Rel.step (by decide) (State.toTai_rel _ _) ?_
      exact Rel.refl _ _
    · extract_lets +onlyGivenNames x2; (refine Next.via (t := x2) ?_ (fun _ => ?_); (on_goal 2 => try clear_value x2); (on_goal 1 => unfold x2); (on_goal 1 => clear x2))
      · refine Rel.step (by decide) (State.setPower_rel _ _ ?_) ?_
        · (intro p hp; unfold PowerOk at *; dsimp only; omega)
        · assumption
      · extract_lets +onlyGivenNames x3
        extract_lets +onlyGivenNames x4; try clear_value x4
        extract_lets +onlyGivenNames x5; (refine Next.via (t := x5) ?_ (fun _ => ?_); (on_goal 2 => try clear_value x5); (on_goal 1 => unfold x5); (on_goal 1 => clear x5))
        · split
          · refine Rel.step (by decide) (State.fallSh_rel _ _) ?_
            assumption
          · split
            · split
              · refine Rel.step (by decide) (State.capUnmet_rel _) ?_
                assumption
              · refine Rel.step (by decide) (State.fallSh_rel _ _) ?_
                assumption
            · assumption
        · refine Next.intro ?_
          refine Rel.step (by decide) (State.inputRange_rel _ _ _) ?_
          assumption

theorem execPowerStateActive_next (rq : Req) (s : State) : Next [.out, .ctxs, .mailboxes, .log, .logNext, .logOverflow, .power, .pins] s (execPowerStateActive rq s) := by
  unfold execPowerStateActive
  refine Next.intro ?_
  refine State.actionCmd_rel (by decide) (fun _ => ?_) ?_
  · refine State.adm_rel (by decide) ?_ ?_
    · refine State.bodyOf_rel (by decide) ?_ ?_
      · split
        · refine Rel.step (by decide) (State.fail_rel _ _) ?_
          exact Rel.refl _ _
        · extract_lets +onlyGivenNames x1; (refine Rel.via (t := x1) ?_ (fun _ => ?_); (on_goal 2 => try clear_value x1); (on_goal 1 => unfold x1); (on_goal 1 => clear x1))
          · refine Rel.step (by decide) (State.tripEnds_rel _) ?_
            exact Rel.refl _ _
          · refine Rel.step (by decide) (State.done_rel _ _) ?_
            refine Rel.step (by decide) (Rel.set_power (hp := ?_)) ?_
            · exact fun h => ⟨h.1, h.2.1, h.2.2.1, h.2.2.2⟩
            · assumption
      · exact Rel.refl _ _
    · exact Rel.refl _ _
  · exact Rel.refl _ _

theorem execPowerStateIdle_next (rq : Req) (s : State) : Next [.out, .cores, .ctxs, .mailboxes, .log, .logNext, .logOverflow, .power] s (execPowerStateIdle rq s) := by
  unfold execPowerStateIdle
  refine Next.intro ?_
  refine State.actionCmd_rel (by decide) (fun _ => ?_) ?_
  · refine State.adm_rel (by decide) ?_ ?_
    · refine State.bodyOf_rel (by decide) ?_ ?_
      · split
        · refine Rel.step (by decide) (State.fail_rel _ _) ?_
          exact Rel.refl _ _
        · refine Rel.step (by decide) (State.done_rel _ _) ?_
          refine Rel.step (by decide) (State.rampAllDown_rel _) ?_
          refine Rel.step (by decide) (Rel.set_power (hp := ?_)) ?_
          · exact fun h => ⟨h.1, h.2.1, h.2.2.1, h.2.2.2⟩
          · exact Rel.refl _ _
      · exact Rel.refl _ _
    · exact Rel.refl _ _
  · exact Rel.refl _ _

theorem execPowerStateStandby_next (rq : Req) (s : State) : Next [.out, .clk, .cores, .ctxs, .lend, .flows, .ctrl, .ctrlNext, .macs, .ports, .fwd, .ecnDraws, .mailboxes, .log, .logNext, .logOverflow, .counters, .power] s (execPowerStateStandby rq s) := by
  unfold execPowerStateStandby
  split
  · refine Next.intro ?_
    exact Rel.refl _ _
  · refine Next.intro ?_
    refine Rel.step (by decide) (State.standbyNow_rel _) ?_
    refine State.mailRun_rel (by decide) (fun _ => ?_) ?_
    · refine State.stateCmd_rel (by decide) ?_ ?_
      · split
        · refine Rel.pair ?_
          exact Rel.refl _ _
        · split
          · refine Rel.pair ?_
            exact Rel.refl _ _
          · refine Rel.pair ?_
            refine Rel.step (by decide) (State.reclaimAll_rel _) ?_
            refine Rel.step (by decide) (Rel.set_power (hp := ?_)) ?_
            · exact fun h => ⟨h.1, h.2.1, h.2.2.1, h.2.2.2⟩
            · exact Rel.refl _ _
      · exact Rel.refl _ _
    · exact Rel.refl _ _

theorem execThermalTick_next (changes : List SensorReading) (s : State) : Next [.out, .clk, .cores, .ctxs, .mailboxes, .log, .logNext, .logOverflow, .counters, .power, .pins] s (execThermalTick changes s) := by
  unfold execThermalTick
  split
  · refine Next.intro ?_
    exact Rel.refl _ _
  · extract_lets +onlyGivenNames x1; (refine Next.via (t := x1) ?_ (fun _ => ?_); (on_goal 2 => try clear_value x1); (on_goal 1 => unfold x1); (on_goal 1 => clear x1))
    · refine Rel.step (by decide) (State.toTai_rel _ _) ?_
      exact Rel.refl _ _
    · extract_lets +onlyGivenNames x2; (refine Next.via (t := x2) ?_ (fun _ => ?_); (on_goal 2 => try clear_value x2); (on_goal 1 => unfold x2); (on_goal 1 => clear x2))
      · refine Rel.step (by decide) (State.thermTicked_rel _) ?_
        assumption
      · extract_lets +onlyGivenNames x3; (refine Next.via (t := x3) ?_ (fun _ => ?_); (on_goal 2 => try clear_value x3); (on_goal 1 => unfold x3); (on_goal 1 => clear x3))
        · refine Rel.step (by decide) (State.tripEnds_rel _) ?_
          refine Rel.foldl (fun _ _ => ?_) ?_
          · refine Rel.step (by decide) (State.reading_rel _ _) ?_
            exact Rel.refl _ _
          · assumption
        · split
          · extract_lets +onlyGivenNames x4; try clear_value x4
            extract_lets +onlyGivenNames x5; (refine Next.via (t := x5) ?_ (fun _ => ?_); (on_goal 2 => try clear_value x5); (on_goal 1 => unfold x5); (on_goal 1 => clear x5))
            · refine Rel.step (by decide) (State.setPower_rel _ _ ?_) ?_
              · (intro p hp; unfold PowerOk at *; dsimp only; omega)
              · assumption
            · refine Next.intro ?_
              split
              · refine Rel.step (by decide) (State.alert_rel _ _) ?_
                refine Rel.step (by decide) (State.heatEvent_rel _ _ _ _) ?_
                assumption
              · assumption
          · split
            · extract_lets +onlyGivenNames x6; (refine Next.via (t := x6) ?_ (fun _ => ?_); (on_goal 2 => try clear_value x6); (on_goal 1 => unfold x6); (on_goal 1 => clear x6))
              · refine Rel.step (by decide) (State.setPower_rel _ _ ?_) ?_
                · (intro p hp; unfold PowerOk at *; dsimp only; omega)
                · assumption
              · refine Next.intro ?_
                split
                · refine Rel.step (by decide) (State.heatEvent_rel _ _ _ _) ?_
                  assumption
                · assumption
            · refine Next.intro ?_
              assumption

theorem execThermalTrip_next (r : SensorReading) (s : State) : Next [.out, .fresh, .mem, .cores, .ctxs, .migs, .asks, .stalled, .rowCopies, .freed, .flows, .mailboxes, .handles, .log, .logNext, .logOverflow, .nand, .power, .pins] s (execThermalTrip r s) := by
  unfold execThermalTrip
  split
  · refine Next.intro ?_
    exact Rel.refl _ _
  · extract_lets +onlyGivenNames x1; (refine Next.via (t := x1) ?_ (fun _ => ?_); (on_goal 2 => try clear_value x1); (on_goal 1 => unfold x1); (on_goal 1 => clear x1))
    · refine Rel.step (by decide) (State.reading_rel _ _) ?_
      exact Rel.refl _ _
    · split
      · refine Next.intro ?_
        assumption
      · extract_lets +onlyGivenNames x2; (refine Next.via (t := x2) ?_ (fun _ => ?_); (on_goal 2 => try clear_value x2); (on_goal 1 => unfold x2); (on_goal 1 => clear x2))
        · refine Rel.step (by decide) (State.rampAllDown_rel _) ?_
          refine Rel.step (by decide) (State.fenceAll_rel _) ?_
          assumption
        · extract_lets +onlyGivenNames x3
          extract_lets +onlyGivenNames x4; try clear_value x4
          extract_lets +onlyGivenNames x5; (refine Next.via (t := x5) ?_ (fun _ => ?_); (on_goal 2 => try clear_value x5); (on_goal 1 => unfold x5); (on_goal 1 => clear x5))
          · refine Rel.step (by decide) (Rel.set_power_pins (hp := ?_)) ?_
            · exact fun h => ⟨h.1, h.2.1, h.2.2.1, h.2.2.2⟩
            · assumption
          · refine Next.intro ?_
            refine Rel.step (by decide) (State.alert_rel _ _) ?_
            refine Rel.step (by decide) (State.heatEvent_rel _ _ _ _) ?_
            assumption

theorem execWindowZeroFillComplete_next (window : Nat) (s : State) : Next [.out, .clk, .mem, .cores, .ctxs, .lend, .flows, .ctrl, .ctrlNext, .macs, .ports, .fwd, .ecnDraws, .mailboxes, .handles, .log, .logNext, .logOverflow, .counters, .power] s (execWindowZeroFillComplete window s) := by
  unfold execWindowZeroFillComplete
  extract_lets +onlyGivenNames x1; (refine Next.via (t := x1) ?_ (fun _ => ?_); (on_goal 2 => try clear_value x1); (on_goal 1 => unfold x1); (on_goal 1 => clear x1))
  · refine Rel.step (by decide) (State.windowFilled_rel _ _) ?_
    exact Rel.refl _ _
  · refine Next.intro ?_
    split
    · refine Rel.step (by decide) (State.standbyNow_rel _) ?_
      refine Rel.step (by decide) (State.reclaimAll_rel _) ?_
      assumption
    · assumption

end Sys2Proof.Machine
end

