-- ==== Sys2Proof/Laws/Startup.lean ====
section
/-! SUPPORT. What the operations and the meanings of Machine/Startup.lean can change: for each operation the fields of the state it may change, and
for each meaning that it answers a next state and the fields that it may change; all of them keep the invariant. -/

namespace Sys2Proof.Machine

theorem State.badBank_rel (s : State) (b : Nat × Nat × Nat) : Rel [.out, .ctxs, .withdrawn, .bankSpares, .culls, .mailboxes, .log, .logNext, .logOverflow] s (State.badBank s b) := by
  unfold State.badBank
  extract_lets +onlyGivenNames x1; try clear_value x1
  extract_lets +onlyGivenNames x2; try clear_value x2
  split
  · exact Rel.refl _ _
  · extract_lets +onlyGivenNames x3; try clear_value x3
    extract_lets +onlyGivenNames x4; (refine Rel.via (t := x4) ?_ (fun _ => ?_); (on_goal 2 => try clear_value x4); (on_goal 1 => unfold x4); (on_goal 1 => clear x4))
    · refine Rel.step (by decide) Rel.set_withdrawn_bankSpares ?_
      exact Rel.refl _ _
    · extract_lets +onlyGivenNames x5; try clear_value x5
      extract_lets +onlyGivenNames x6; try clear_value x6
      refine Rel.step (by decide) (State.addCullet_rel _ _) ?_
      assumption

theorem State.bindCore_rel (s : State) (c : Nat) (p : Nat) : Rel [.out, .cores, .ctxs, .culls, .mailboxes, .log, .logNext, .logOverflow] s (State.bindCore s c p) := by
  unfold State.bindCore
  extract_lets +onlyGivenNames x1; (refine Rel.via (t := x1) ?_ (fun _ => ?_); (on_goal 2 => try clear_value x1); (on_goal 1 => unfold x1); (on_goal 1 => clear x1))
  · refine Rel.step (by decide) (State.setCore_rel _ _ _) ?_
    exact Rel.refl _ _
  · split
    · assumption
    · refine Rel.step (by decide) (State.addCullet_rel _ _) ?_
      assumption

theorem State.bindCores_rel (s : State) : Rel [.out, .cores, .ctxs, .culls, .mailboxes, .log, .logNext, .logOverflow] s (State.bindCores s) := by
  unfold State.bindCores
  extract_lets +onlyGivenNames x1; try clear_value x1
  extract_lets +onlyGivenNames x2; try clear_value x2
  extract_lets +onlyGivenNames x3; try clear_value x3
  refine Rel.foldl (fun _ _ => ?_) ?_
  · refine Rel.step (by decide) (State.bindCore_rel _ _ _) ?_
    exact Rel.refl _ _
  · exact Rel.refl _ _

theorem State.clearAlert_rel (s : State) (value : Nat) : Rel [.pins] s (State.clearAlert s value) := by
  unfold State.clearAlert
  refine Rel.step (by decide) Rel.set_pins ?_
  exact Rel.refl _ _

theorem State.endSome_rel (s : State) (sel : Nat → Bool) : Rel [.mailboxes] s (State.endSome s sel) := by
  unfold State.endSome
  refine Rel.step (by decide) Rel.set_mailboxes ?_
  exact Rel.refl _ _

theorem State.faultDma_rel (s : State) (sel : Nat → Bool) : Rel [.out, .ctxs, .mailboxes, .handles, .log, .logNext, .logOverflow] s (State.faultDma s sel) := by
  unfold State.faultDma
  refine Rel.foldl (fun _ _ => ?_) ?_
  · split
    · split
      · refine Rel.step (by decide) (State.failShard_rel _ _ _ _ _) ?_
        exact Rel.refl _ _
      · exact Rel.refl _ _
    · split
      · extract_lets +onlyGivenNames x1; try clear_value x1
        split
        · exact Rel.refl _ _
        · refine Rel.step (by decide) (State.dmaFault_rel _ _ _) ?_
          exact Rel.refl _ _
      · exact Rel.refl _ _
  · exact Rel.refl _ _

/-- The fields that a module reset may change: all but the queue and the model's own fields, and what NAND, the cullet list and its sparings keep. -/
theorem State.kept_rel (s : State) : Rel [.clk, .mem, .cores, .ctxs, .migs, .asks, .stalled, .migRr, .verifyLast, .lend, .banks, .rowCopies, .retiredFrames, .freed, .tcache, .arrayErrs, .flows, .trk, .trkNext, .ctrl, .ctrlSeen, .fcache, .atoms, .probes, .probeLast, .links, .macs, .ports,
    .lanes, .recal, .recalPeriodS, .fwd, .peersIp, .fwdDropNs, .hopLimit, .ecnDraws, .mailboxes, .pwFails, .lockedUntil, .handles, .log, .logNext, .logOverflow, .counters, .power, .life, .start, .pcie, .pins] s (State.kept s) := by
  refine ⟨fun f hf => ?_, fun _ => ⟨rfl, (by decide : (4 : Nat) ≤ 64 ∧ (64 : Nat) ≤ 64 ∧ (8 : Nat) ≤ 64 ∧ (64 : Nat) ≤ 64)⟩⟩
  cases f <;> first | rfl | exact absurd (by decide) hf

theorem State.smbRead_rel (s : State) (b : List Byte) : Rel [.out] s (State.smbRead s b) := by
  unfold State.smbRead
  split
  · refine Rel.step (by decide) (State.emit_rel _ _) ?_
    exact Rel.refl _ _
  · refine Rel.step (by decide) (State.emit_rel _ _) ?_
    exact Rel.refl _ _

theorem State.smbLate_rel (s : State) (n : Nat) (b : List Byte) : Rel [.out] s (State.smbLate s n b) := by
  unfold State.smbLate
  refine Rel.step (by decide) (State.smbRead_rel _ _) ?_
  exact Rel.refl _ _

theorem State.stageEnd_rel {l : List Fld} {s0 : State} {s : State} {n : Nat} {f : State → State}
    (hsub : subF [.out, .clk, .ctxs, .mailboxes, .log, .logNext, .logOverflow, .power, .start, .pins] l = true) (hact0 : ∀ u, Rel l u (f u)) (hrel : Rel l s0 s) : Rel l s0 (State.stageEnd s n f) := by
  unfold State.stageEnd
  extract_lets +onlyGivenNames x1; (refine Rel.via (t := x1) ?_ (fun _ => ?_); (on_goal 2 => try clear_value x1); (on_goal 1 => unfold x1); (on_goal 1 => clear x1))
  · refine Rel.step (subF_trans (by decide) hsub) (State.resumeStart_rel _) ?_
    assumption
  · split
    · extract_lets +onlyGivenNames x2; (refine Rel.via (t := x2) ?_ (fun _ => ?_); (on_goal 2 => try clear_value x2); (on_goal 1 => unfold x2); (on_goal 1 => clear x2))
      · refine Rel.trans ?_ (hact0 _)
        assumption
      · split
        · refine Rel.step (subF_trans (by decide) hsub) Rel.set_start ?_
          assumption
        · assumption
    · assumption

theorem State.startFails_rel (s : State) (code : Nat) : Rel [.start, .pins] s (State.startFails s code) := by
  unfold State.startFails
  refine Rel.step (by decide) (State.alert_rel _ _) ?_
  refine Rel.step (by decide) Rel.set_start ?_
  exact Rel.refl _ _

theorem State.startPort_rel (s : State) (p : Nat) : Rel [.ports] s (State.startPort s p) := by
  unfold State.startPort
  split
  · exact Rel.refl _ _
  · refine Rel.step (by decide) (State.applyPorts_rel _ _) ?_
    refine Rel.step (by decide) (State.updPort_rel _ _ _) ?_
    exact Rel.refl _ _

theorem State.testFails_rel (s : State) (f : Nat × Nat) : Rel [.out, .ctxs, .culls, .mailboxes, .log, .logNext, .logOverflow] s (State.testFails s f) := by
  unfold State.testFails
  extract_lets +onlyGivenNames x1; try clear_value x1
  extract_lets +onlyGivenNames x2; (refine Rel.via (t := x2) ?_ (fun _ => ?_); (on_goal 2 => try clear_value x2); (on_goal 1 => unfold x2); (on_goal 1 => clear x2))
  · split
    · exact Rel.refl _ _
    · refine Rel.step (by decide) (State.addCullet_rel _ _) ?_
      exact Rel.refl _ _
  · refine Rel.step (by decide) (State.event_rel _ _ _ _ _) ?_
    assumption

theorem execCoresStageEnd_next (failures : List (Nat × Nat)) (s : State) : Next [.out, .clk, .cores, .ctxs, .culls, .mailboxes, .log, .logNext, .logOverflow, .power, .start, .pins] s (execCoresStageEnd failures s) := by
  unfold execCoresStageEnd
  refine Next.intro ?_
  refine State.stageEnd_rel (by decide) (fun _ => ?_) ?_
  · extract_lets +onlyGivenNames x1; try clear_value x1
    extract_lets +onlyGivenNames x2; try clear_value x2
    extract_lets +onlyGivenNames x3; (refine Rel.via (t := x3) ?_ (fun _ => ?_); (on_goal 2 => try clear_value x3); (on_goal 1 => unfold x3); (on_goal 1 => clear x3))
    · refine Rel.foldl (fun _ _ => ?_) ?_
      · refine Rel.step (by decide) (State.testFails_rel _ _) ?_
        exact Rel.refl _ _
      · exact Rel.refl _ _
    · extract_lets +onlyGivenNames x4; try clear_value x4
      extract_lets +onlyGivenNames x5; (refine Rel.via (t := x5) ?_ (fun _ => ?_); (on_goal 2 => try clear_value x5); (on_goal 1 => unfold x5); (on_goal 1 => clear x5))
      · refine Rel.step (by decide) Rel.set_start ?_
        assumption
      · extract_lets +onlyGivenNames x6; try clear_value x6
        extract_lets +onlyGivenNames x7; (refine Rel.via (t := x7) ?_ (fun _ => ?_); (on_goal 2 => try clear_value x7); (on_goal 1 => unfold x7); (on_goal 1 => clear x7))
        · refine Rel.step (by decide) Rel.set_start ?_
          assumption
        · split
          · refine Rel.step (by decide) (State.startFails_rel _ _) ?_
            assumption
          · extract_lets +onlyGivenNames x8; (refine Rel.via (t := x8) ?_ (fun _ => ?_); (on_goal 2 => try clear_value x8); (on_goal 1 => unfold x8); (on_goal 1 => clear x8))
            · refine Rel.step (by decide) (State.bindCores_rel _) ?_
              assumption
            · refine Rel.step (by decide) Rel.set_start ?_
              assumption
  · exact Rel.refl _ _

theorem execFirmwareStageEnd_next (lockstepOk : Bool) (s : State) : Next [.out, .clk, .ctxs, .mailboxes, .log, .logNext, .logOverflow, .power, .life, .start, .pins] s (execFirmwareStageEnd lockstepOk s) := by
  unfold execFirmwareStageEnd
  refine Next.intro ?_
  refine State.stageEnd_rel (by decide) (fun _ => ?_) ?_
  · split
    · refine Rel.step (by decide) (State.startFails_rel _ _) ?_
      exact Rel.refl _ _
    · refine Rel.step (by decide) Rel.set_life_start ?_
      exact Rel.refl _ _
  · exact Rel.refl _ _

theorem execFlrPhysicalFunction_next (s : State) : Next [.out, .ctxs, .mailboxes, .handles, .log, .logNext, .logOverflow, .pcie] s (execFlrPhysicalFunction s) := by
  unfold execFlrPhysicalFunction
  extract_lets +onlyGivenNames x1; (refine Next.via (t := x1) ?_ (fun _ => ?_); (on_goal 2 => try clear_value x1); (on_goal 1 => unfold x1); (on_goal 1 => clear x1))
  · refine Rel.step (by decide) (State.faultDma_rel _ _) ?_
    refine Rel.step (by decide) (State.endSome_rel _ _) ?_
    exact Rel.refl _ _
  · refine Next.intro ?_
    refine Rel.step (by decide) Rel.set_pcie ?_
    assumption

theorem execFlrVirtualFunction_next (vf : Nat) (s : State) : Next [.out, .ctxs, .mailboxes, .handles, .log, .logNext, .logOverflow] s (execFlrVirtualFunction vf s) := by
  unfold execFlrVirtualFunction
  split
  · refine Next.intro ?_
    exact Rel.refl _ _
  · refine Next.intro ?_
    refine Rel.step (by decide) (State.faultDma_rel _ _) ?_
    refine Rel.step (by decide) (State.endSome_rel _ _) ?_
    exact Rel.refl _ _

theorem execGafferResetComplete_next (s : State) : Next [.out, .ctxs, .lend, .ctrl, .ctrlNext, .macs, .ecnDraws, .mailboxes, .handles, .log, .logNext, .logOverflow, .counters, .power, .life, .start, .pins] s (execGafferResetComplete s) := by
  unfold execGafferResetComplete
  split
  · refine Next.intro ?_
    exact Rel.refl _ _
  · extract_lets +onlyGivenNames x1; (refine Next.via (t := x1) ?_ (fun _ => ?_); (on_goal 2 => try clear_value x1); (on_goal 1 => unfold x1); (on_goal 1 => clear x1))
    · refine Rel.foldl (fun _ _ => ?_) ?_
      · refine Rel.foldl (fun _ _ => ?_) ?_
        · refine Rel.step (by decide) (State.sendCtrl_rel _ _ _ _) ?_
          exact Rel.refl _ _
        · exact Rel.refl _ _
      · exact Rel.refl _ _
    · extract_lets +onlyGivenNames x2; (refine Next.via (t := x2) ?_ (fun _ => ?_); (on_goal 2 => try clear_value x2); (on_goal 1 => unfold x2); (on_goal 1 => clear x2))
      · refine Rel.step (by decide) (State.ready_rel _) ?_
        refine Rel.step (by decide) Rel.set_lend ?_
        assumption
      · split
        · refine Next.intro ?_
          refine Rel.step (by decide) (State.applyTransition_rel _ _) ?_
          assumption
        · refine Next.intro ?_
          assumption

theorem execInputRemoved_next (s : State) : Next Fld.all s (execInputRemoved s) := by
  unfold execInputRemoved
  extract_lets +onlyGivenNames x1; (refine Next.via (t := x1) ?_ (fun _ => ?_); (on_goal 2 => try clear_value x1); (on_goal 1 => unfold x1); (on_goal 1 => clear x1))
  · refine Rel.step (by decide) (State.kept_rel _) ?_
    exact Rel.refl _ _
  · refine Next.intro ?_
    refine Rel.step (by decide) (Rel.set_power (hp := ?_)) ?_
    · exact fun h => ⟨h.1, h.2.1, h.2.2.1, h.2.2.2⟩
    · assumption

theorem execMemoryStageEnd_next (v : MemView) (s : State) : Next [.out, .fresh, .clk, .mem, .ctxs, .withdrawn, .bankSpares, .culls, .mailboxes, .log, .logNext, .logOverflow, .nand, .power, .start, .pins] s (execMemoryStageEnd v s) := by
  unfold execMemoryStageEnd
  refine Next.intro ?_
  refine State.stageEnd_rel (by decide) (fun _ => ?_) ?_
  · extract_lets +onlyGivenNames x1; try clear_value x1
    extract_lets +onlyGivenNames x2; (refine Rel.via (t := x2) ?_ (fun _ => ?_); (on_goal 2 => try clear_value x2); (on_goal 1 => unfold x2); (on_goal 1 => clear x2))
    · refine Rel.step (by decide) (Rel.set_mem_nand_start (hm := ?_)) ?_
      · exact fun _ => rfl
      · exact Rel.refl _ _
    · extract_lets +onlyGivenNames x3; (refine Rel.via (t := x3) ?_ (fun _ => ?_); (on_goal 2 => try clear_value x3); (on_goal 1 => unfold x3); (on_goal 1 => clear x3))
      · refine Rel.foldl (fun _ _ => ?_) ?_
        · refine Rel.step (by decide) (State.badBank_rel _ _) ?_
          exact Rel.refl _ _
        · assumption
      · extract_lets +onlyGivenNames x4; (refine Rel.via (t := x4) ?_ (fun _ => ?_); (on_goal 2 => try clear_value x4); (on_goal 1 => unfold x4); (on_goal 1 => clear x4))
        · refine Rel.foldl (fun _ _ => ?_) ?_
          · refine Rel.step (by decide) (State.draw_rel _) ?_
            refine Rel.step (by decide) (State.event_rel _ _ _ _ _) ?_
            exact Rel.refl _ _
          · assumption
        · split
          · refine Rel.step (by decide) (State.event_rel _ _ _ _ _) ?_
            assumption
          · assumption
  · exact Rel.refl _ _

theorem execModuleReset_next (s : State) : Next Fld.all s (execModuleReset s) := by
  unfold execModuleReset
  split
  · refine Next.intro ?_
    exact Rel.refl _ _
  · extract_lets +onlyGivenNames x1; (refine Next.via (t := x1) ?_ (fun _ => ?_); (on_goal 2 => try clear_value x1); (on_goal 1 => unfold x1); (on_goal 1 => clear x1))
    · split
      · refine Rel.step (by decide) (State.commitJournal_rel _) ?_
        exact Rel.refl _ _
      · exact Rel.refl _ _
    · refine Next.intro ?_
      extract_lets +onlyGivenNames x2; (refine Rel.via (t := x2) ?_ (fun _ => ?_); (on_goal 2 => try clear_value x2); (on_goal 1 => unfold x2); (on_goal 1 => clear x2))
      · refine Rel.step (by decide) (State.kept_rel _) ?_
        assumption
      · refine Rel.step (by decide) Rel.set_start ?_
        assumption

theorem execModuleResetRelease_next (s : State) : Next [.start] s (execModuleResetRelease s) := by
  unfold execModuleResetRelease
  split
  · refine Next.intro ?_
    exact Rel.refl _ _
  · refine Next.intro ?_
    refine Rel.step (by decide) Rel.set_start ?_
    exact Rel.refl _ _

theorem execPerstAssert_next (linkLost : Bool) (s : State) : Next [.out, .ctxs, .mailboxes, .handles, .log, .logNext, .logOverflow, .pcie, .pins] s (execPerstAssert linkLost s) := by
  unfold execPerstAssert
  extract_lets +onlyGivenNames x1; (refine Next.via (t := x1) ?_ (fun _ => ?_); (on_goal 2 => try clear_value x1); (on_goal 1 => unfold x1); (on_goal 1 => clear x1))
  · refine Rel.step (by decide) (State.faultDma_rel _ _) ?_
    exact Rel.refl _ _
  · refine Next.intro ?_
    refine Rel.step (by decide) Rel.set_pcie_pins ?_
    assumption

theorem execPerstDeassert_next (s : State) : Next [.pcie, .pins] s (execPerstDeassert s) := by
  unfold execPerstDeassert
  refine Next.intro ?_
  refine Rel.step (by decide) Rel.set_pcie_pins ?_
  exact Rel.refl _ _

theorem execPortsStageEnd_next (s : State) : Next [.out, .clk, .ctxs, .ports, .mailboxes, .log, .logNext, .logOverflow, .power, .start, .pins] s (execPortsStageEnd s) := by
  unfold execPortsStageEnd
  refine Next.intro ?_
  refine State.stageEnd_rel (by decide) (fun _ => ?_) ?_
  · extract_lets +onlyGivenNames x1; (refine Rel.via (t := x1) ?_ (fun _ => ?_); (on_goal 2 => try clear_value x1); (on_goal 1 => unfold x1); (on_goal 1 => clear x1))
    · refine Rel.foldl (fun _ _ => ?_) ?_
      · refine Rel.step (by decide) (State.startPort_rel _ _) ?_
        exact Rel.refl _ _
      · exact Rel.refl _ _
    · split
      · refine Rel.step (by decide) Rel.set_start ?_
        assumption
      · refine Rel.step (by decide) (State.ready_rel _) ?_
        assumption
  · exact Rel.refl _ _

theorem execPowerOn_next (straps : Nat) (s : State) : Next Fld.all s (execPowerOn straps s) := by
  unfold execPowerOn
  split
  · refine Next.intro ?_
    exact Rel.refl _ _
  · extract_lets +onlyGivenNames x1; (refine Next.via (t := x1) ?_ (fun _ => ?_); (on_goal 2 => try clear_value x1); (on_goal 1 => unfold x1); (on_goal 1 => clear x1))
    · refine Rel.step (by decide) (State.kept_rel _) ?_
      exact Rel.refl _ _
    · refine Next.intro ?_
      refine Rel.step (by decide) Rel.set_start_pins ?_
      assumption

theorem execRailsStageEnd_next (invalid : List Nat) (s : State) : Next [.out, .clk, .ctxs, .mailboxes, .log, .logNext, .logOverflow, .power, .life, .start, .pcie, .pins] s (execRailsStageEnd invalid s) := by
  unfold execRailsStageEnd
  refine Next.intro ?_
  refine State.stageEnd_rel (by decide) (fun _ => ?_) ?_
  · split
    · exact Rel.refl _ _
    · extract_lets +onlyGivenNames x1; try clear_value x1
      extract_lets +onlyGivenNames x2; (refine Rel.via (t := x2) ?_ (fun _ => ?_); (on_goal 2 => try clear_value x2); (on_goal 1 => unfold x2); (on_goal 1 => clear x2))
      · refine Rel.step (by decide) Rel.set_life ?_
        exact Rel.refl _ _
      · extract_lets +onlyGivenNames x3; try clear_value x3
        extract_lets +onlyGivenNames x4; try clear_value x4
        refine Rel.step (by decide) (Rel.set_power_start_pcie (hp := ?_)) ?_
        · exact fun h => ⟨h.1, h.2.1, h.2.2.1, h.2.2.2⟩
        · assumption
  · exact Rel.refl _ _

theorem execRomStageEnd_next (v : RomView) (s : State) : Next [.out, .clk, .ctxs, .mailboxes, .log, .logNext, .logOverflow, .power, .start, .pins] s (execRomStageEnd v s) := by
  unfold execRomStageEnd
  refine Next.intro ?_
  refine State.stageEnd_rel (by decide) (fun _ => ?_) ?_
  · extract_lets +onlyGivenNames x1; try clear_value x1
    extract_lets +onlyGivenNames x2; try clear_value x2
    split
    · refine Rel.step (by decide) (State.startFails_rel _ _) ?_
      exact Rel.refl _ _
    · split
      · refine Rel.step (by decide) Rel.set_start ?_
        exact Rel.refl _ _
      · split
        · refine Rel.step (by decide) Rel.set_start ?_
          exact Rel.refl _ _
        · refine Rel.step (by decide) (State.startFails_rel _ _) ?_
          exact Rel.refl _ _
  · exact Rel.refl _ _

theorem execSmbAlertResponse_next (s : State) : Next [.out] s (execSmbAlertResponse s) := by
  unfold execSmbAlertResponse
  split
  · refine Next.intro ?_
    refine Rel.step (by decide) (State.emit_rel _ _) ?_
    exact Rel.refl _ _
  · refine Next.intro ?_
    refine Rel.step (by decide) (State.emit_rel _ _) ?_
    exact Rel.refl _ _

theorem execSmbAlertStatusWrite_next (value : Nat) (s : State) : Next [.out, .pins] s (execSmbAlertStatusWrite value s) := by
  unfold execSmbAlertStatusWrite
  split
  · refine Next.intro ?_
    refine Rel.step (by decide) (State.clearAlert_rel _ _) ?_
    exact Rel.refl _ _
  · refine Next.intro ?_
    refine Rel.step (by decide) (State.emit_rel _ _) ?_
    exact Rel.refl _ _

theorem execSmbBootStatus_next (s : State) : Next [.out] s (execSmbBootStatus s) := by
  unfold execSmbBootStatus
  refine Next.intro ?_
  refine Rel.step (by decide) (State.smbRead_rel _ _) ?_
  exact Rel.refl _ _

theorem execSmbInput_next (s : State) : Next [.out] s (execSmbInput s) := by
  unfold execSmbInput
  extract_lets +onlyGivenNames x1; try clear_value x1
  refine Next.intro ?_
  refine Rel.step (by decide) (State.smbLate_rel _ _ _) ?_
  exact Rel.refl _ _

theorem execSmbLogSeq_next (s : State) : Next [.out] s (execSmbLogSeq s) := by
  unfold execSmbLogSeq
  refine Next.intro ?_
  refine Rel.step (by decide) (State.smbLate_rel _ _ _) ?_
  exact Rel.refl _ _

theorem execSmbPart_next (s : State) : Next [.out] s (execSmbPart s) := by
  unfold execSmbPart
  refine Next.intro ?_
  refine Rel.step (by decide) (State.smbRead_rel _ _) ?_
  exact Rel.refl _ _

theorem execSmbSerial_next (s : State) : Next [.out] s (execSmbSerial s) := by
  unfold execSmbSerial
  refine Next.intro ?_
  refine Rel.step (by decide) (State.smbRead_rel _ _) ?_
  exact Rel.refl _ _

theorem execSmbTemp_next (s : State) : Next [.out] s (execSmbTemp s) := by
  unfold execSmbTemp
  refine Next.intro ?_
  refine Rel.step (by decide) (State.smbLate_rel _ _ _) ?_
  exact Rel.refl _ _

end Sys2Proof.Machine
end

