-- ==== Sys2Proof/Laws/Registers.lean ====
section
/-! SUPPORT. What the operations and the meanings of Machine/Registers.lean can change: for each operation the fields of the state it may change, and
for each meaning that it answers a next state and the fields that it may change; all of them keep the invariant. -/

namespace Sys2Proof.Machine

theorem State.bar0Write_rel (s : State) (fn : Nat) (off : Nat) (v : Nat) : Rel [.mailboxes] s (State.bar0Write s fn off v) := by
  unfold State.bar0Write
  split
  · refine Rel.step (by decide) (State.updMbox_rel _ _ _) ?_
    exact Rel.refl _ _
  · split
    · refine Rel.step (by decide) (State.updMbox_rel _ _ _) ?_
      exact Rel.refl _ _
    · exact Rel.refl _ _
  · exact Rel.refl _ _

theorem State.bar0WriteAll_rel (s : State) (fn : Nat) (off : Nat) (size : Nat) (value : Nat) : Rel [.mailboxes] s (State.bar0WriteAll s fn off size value) := by
  unfold State.bar0WriteAll
  refine Rel.foldl (fun _ _ => ?_) ?_
  · refine Rel.step (by decide) (State.bar0Write_rel _ _ _ _) ?_
    exact Rel.refl _ _
  · exact Rel.refl _ _

theorem State.dbgClock_rel (s : State) (tms : Bool) (trstN : Bool) : Rel [.fresh, .pins] s (State.dbgClock s tms trstN) := by
  unfold State.dbgClock
  split
  · exact Rel.refl _ _
  · extract_lets +onlyGivenNames x1; try clear_value x1
    extract_lets +onlyGivenNames x2; (refine Rel.via (t := x2) ?_ (fun _ => ?_); (on_goal 2 => try clear_value x2); (on_goal 1 => unfold x2); (on_goal 1 => clear x2))
    · split
      · refine Rel.step (by decide) (State.draw_rel _) ?_
        exact Rel.refl _ _
      · exact Rel.refl _ _
    · refine Rel.step (by decide) Rel.set_pins ?_
      assumption

theorem State.scrubRecord_rel (s : State) (tierCode : Nat) (tier : Nat) (cls : Nat) (x : Nat) (core : Nat) (frame : Nat) (line : Nat) : Rel [.out, .fresh, .ctxs, .mailboxes, .log, .logNext, .logOverflow] s (State.scrubRecord s tierCode tier cls x core frame line) := by
  unfold State.scrubRecord
  split
  · extract_lets +onlyGivenNames x1; try clear_value x1
    refine Rel.step (by decide) (State.tileError_rel _ _ _ _ _ _ _ _ _ _) ?_
    refine Rel.step (by decide) (State.draw_rel _) ?_
    exact Rel.refl _ _
  · refine Rel.step (by decide) (State.tileError_rel _ _ _ _ _ _ _ _ _ _) ?_
    exact Rel.refl _ _

theorem State.moduleFault_rel (s : State) (tier : Nat) (cls : Nat) (frame : Nat) (line : Nat) : Rel [.out, .fresh, .mem, .cores, .ctxs, .migs, .asks, .stalled, .rowCopies, .freed, .flows, .ctrl, .ctrlNext, .macs, .ecnDraws, .mailboxes, .handles, .log, .logNext, .logOverflow, .counters, .nand] s (State.moduleFault s tier cls frame line) := by
  unfold State.moduleFault
  extract_lets +onlyGivenNames x1; (refine Rel.via (t := x1) ?_ (fun _ => ?_); (on_goal 2 => try clear_value x1); (on_goal 1 => unfold x1); (on_goal 1 => clear x1))
  · refine Rel.step (by decide) (State.fenceAll_rel _) ?_
    refine Rel.step (by decide) (State.scrubRecord_rel _ _ _ _ _ _ _ _) ?_
    exact Rel.refl _ _
  · extract_lets +onlyGivenNames x2; try clear_value x2
    split
    · refine Rel.step (by decide) (State.loseFlow_rel _ _) ?_
      refine Rel.step (by decide) (State.draw_rel _) ?_
      assumption
    · refine Rel.step (by decide) (State.draw_rel _) ?_
      assumption

theorem State.scrubAcc_rel (s : State) (c : Nat) (addr : Nat) (e : LineErr) : Rel [.out, .cores, .ctxs, .culls, .arrayErrs, .mailboxes, .log, .logNext, .logOverflow, .counters] s (State.scrubAcc s c addr e) := by
  unfold State.scrubAcc
  extract_lets +onlyGivenNames x1; try clear_value x1
  extract_lets +onlyGivenNames x2; try clear_value x2
  extract_lets +onlyGivenNames x3; try clear_value x3
  split
  · extract_lets +onlyGivenNames x4; (refine Rel.via (t := x4) ?_ (fun _ => ?_); (on_goal 2 => try clear_value x4); (on_goal 1 => unfold x4); (on_goal 1 => clear x4))
    · refine Rel.step (by decide) (State.countM_rel _ _ _) ?_
      exact Rel.refl _ _
    · split
      · refine Rel.step (by decide) (State.accFails_rel _ _ _ _ _) ?_
        assumption
      · refine Rel.step (by decide) (State.arrayFault_rel _ _ _) ?_
        refine Rel.step (by decide) (State.arrayError_rel _ _ _ _ _ _ _ _) ?_
        assumption
  · split
    · refine Rel.step (by decide) (State.countM_rel _ _ _) ?_
      refine Rel.step (by decide) (State.countM_rel _ _ _) ?_
      exact Rel.refl _ _
    · exact Rel.refl _ _

theorem State.scrubUnc_rel (s : State) (tier : Nat) (cls : Nat) (frame : Nat) (line : Nat) : Rel [.out, .fresh, .mem, .cores, .ctxs, .migs, .asks, .stalled, .banks, .rowCopies, .freed, .flows, .ctrl, .ctrlNext, .macs, .ecnDraws, .mailboxes, .handles, .log, .logNext, .logOverflow, .counters, .nand] s (State.scrubUnc s tier cls frame line) := by
  unfold State.scrubUnc
  extract_lets +onlyGivenNames x1; try clear_value x1
  extract_lets +onlyGivenNames x2; try clear_value x2
  split
  · refine Rel.step (by decide) (State.uncRow_rel _ _ _ _) ?_
    refine Rel.step (by decide) (State.moduleFault_rel _ _ _ _ _) ?_
    exact Rel.refl _ _
  · split
    · refine Rel.step (by decide) (State.loseLine_rel _ _ _ _ _ _ _ _ _ _ _ _) ?_
      exact Rel.refl _ _
    · split
      · refine Rel.step (by decide) (State.uncRow_rel _ _ _ _) ?_
        refine Rel.step (by decide) (State.fenceLater_rel _ _) ?_
        refine Rel.step (by decide) (State.scrubRecord_rel _ _ _ _ _ _ _ _) ?_
        exact Rel.refl _ _
      · extract_lets +onlyGivenNames x3; (refine Rel.via (t := x3) ?_ (fun _ => ?_); (on_goal 2 => try clear_value x3); (on_goal 1 => unfold x3); (on_goal 1 => clear x3))
        · refine Rel.step (by decide) (State.scrubRecord_rel _ _ _ _ _ _ _ _) ?_
          exact Rel.refl _ _
        · extract_lets +onlyGivenNames x4; (refine Rel.via (t := x4) ?_ (fun _ => ?_); (on_goal 2 => try clear_value x4); (on_goal 1 => unfold x4); (on_goal 1 => clear x4))
          · split
            · assumption
            · refine Rel.step (by decide) (State.clearMem_rel _ _ _) ?_
              assumption
          · refine Rel.step (by decide) (State.uncRow_rel _ _ _ _) ?_
            assumption

theorem State.scrubDram_rel (s : State) (tier : Nat) (addr : Nat) (e : LineErr) (written : Bool) : Rel [.out, .fresh, .mem, .cores, .ctxs, .migs, .asks, .stalled, .banks, .rowCopies, .freed, .flows, .ctrl, .ctrlNext, .macs, .ecnDraws, .mailboxes, .handles, .log, .logNext, .logOverflow, .counters, .nand] s (State.scrubDram s tier addr e written) := by
  unfold State.scrubDram
  extract_lets +onlyGivenNames x1; try clear_value x1
  extract_lets +onlyGivenNames x2; try clear_value x2
  extract_lets +onlyGivenNames x3; (refine Rel.via (t := x3) ?_ (fun _ => ?_); (on_goal 2 => try clear_value x3); (on_goal 1 => unfold x3); (on_goal 1 => clear x3))
  · refine Rel.step (by decide) (State.spoil_rel _ _ _) ?_
    refine Rel.step (by decide) (State.countM_rel _ _ _) ?_
    exact Rel.refl _ _
  · split
    · assumption
    · extract_lets +onlyGivenNames x4; try clear_value x4
      refine Rel.step (by decide) (State.correctedErr_rel _ _ _ _ _) ?_
      refine Rel.step (by decide) (State.countM_rel _ _ _) ?_
      assumption
    · refine Rel.step (by decide) (State.scrubUnc_rel _ _ _ _ _) ?_
      refine Rel.step (by decide) (State.countM_rel _ _ _) ?_
      assumption

theorem State.scrubTileStore_rel (s : State) (c : Nat) (addr : Nat) (e : LineErr) (written : Bool) : Rel [.out, .fresh, .mem, .ctxs, .banks, .rowCopies, .mailboxes, .log, .logNext, .logOverflow, .counters] s (State.scrubTileStore s c addr e written) := by
  unfold State.scrubTileStore
  extract_lets +onlyGivenNames x1; try clear_value x1
  extract_lets +onlyGivenNames x2; try clear_value x2
  extract_lets +onlyGivenNames x3; try clear_value x3
  extract_lets +onlyGivenNames x4; try clear_value x4
  extract_lets +onlyGivenNames x5; (refine Rel.via (t := x5) ?_ (fun _ => ?_); (on_goal 2 => try clear_value x5); (on_goal 1 => unfold x5); (on_goal 1 => clear x5))
  · refine Rel.step (by decide) (State.spoil_rel _ _ _) ?_
    exact Rel.refl _ _
  · split
    · assumption
    · refine Rel.step (by decide) (State.correctedErr_rel _ _ _ _ _) ?_
      refine Rel.step (by decide) (State.countM_rel _ _ _) ?_
      assumption
    · extract_lets +onlyGivenNames x6; (refine Rel.via (t := x6) ?_ (fun _ => ?_); (on_goal 2 => try clear_value x6); (on_goal 1 => unfold x6); (on_goal 1 => clear x6))
      · refine Rel.step (by decide) (State.countM_rel _ _ _) ?_
        assumption
      · split
        · refine Rel.step (by decide) (State.loseLine_rel _ _ _ _ _ _ _ _ _ _ _ _) ?_
          assumption
        · refine Rel.step (by decide) (State.clearMem_rel _ _ _) ?_
          refine Rel.step (by decide) (State.scrubRecord_rel _ _ _ _ _ _ _ _) ?_
          assumption

theorem State.smbWrite_rel (s : State) (code : Nat) (value : Nat) : Rel [.out, .pins] s (State.smbWrite s code value) := by
  unfold State.smbWrite
  split
  · refine Rel.step (by decide) (State.emit_rel _ _) ?_
    exact Rel.refl _ _
  · split
    · refine Rel.step (by decide) (State.clearAlert_rel _ _) ?_
      exact Rel.refl _ _
    · split
      · refine Rel.step (by decide) Rel.set_pins ?_
        exact Rel.refl _ _
      · split
        · exact Rel.refl _ _
        · refine Rel.step (by decide) (State.emit_rel _ _) ?_
          exact Rel.refl _ _

theorem execBar2Read_next (fn : Nat) (off : Nat) (size : Nat) (s : State) : Next [.out] s (execBar2Read fn off size s) := by
  unfold execBar2Read
  split
  · refine Next.intro ?_
    refine Rel.step (by decide) (State.emit_rel _ _) ?_
    exact Rel.refl _ _
  · refine Next.intro ?_
    refine Rel.step (by decide) (State.emit_rel _ _) ?_
    exact Rel.refl _ _

theorem execBar2Write_next (fn : Nat) (off : Nat) (data : List Byte) (s : State) : Next [.out, .mem, .ctxs, .migs, .stalled, .rowCopies] s (execBar2Write fn off data s) := by
  unfold execBar2Write
  split
  · refine Next.intro ?_
    refine Rel.step (by decide) (State.emit_rel _ _) ?_
    exact Rel.refl _ _
  · refine Next.intro ?_
    refine Rel.step (by decide) (State.localWrite_rel _ _ _ _) ?_
    exact Rel.refl _ _

theorem execRegisterWrite_next (t : RegTarget) (value : Nat) (s : State) : Next [.out, .fresh, .mailboxes, .pcie, .pins] s (execRegisterWrite t value s) := by
  unfold execRegisterWrite
  split
  · refine Next.intro ?_
    refine Rel.step (by decide) (State.smbWrite_rel _ _ _) ?_
    exact Rel.refl _ _
  · split
    · refine Next.intro ?_
      exact Rel.refl _ _
    · refine Next.intro ?_
      refine Rel.step (by decide) Rel.set_pcie ?_
      exact Rel.refl _ _
  · split
    · refine Next.intro ?_
      exact Rel.refl _ _
    · refine Next.intro ?_
      refine Rel.step (by decide) Rel.set_pcie ?_
      exact Rel.refl _ _
  · refine Next.intro ?_
    refine Rel.step (by decide) (State.dbgClock_rel _ _ _) ?_
    exact Rel.refl _ _
  · split
    · refine Next.intro ?_
      exact Rel.refl _ _
    · split
      · refine Next.intro ?_
        refine Rel.step (by decide) (State.emit_rel _ _) ?_
        exact Rel.refl _ _
      · refine Next.intro ?_
        refine Rel.step (by decide) (State.bar0WriteAll_rel _ _ _ _ _) ?_
        exact Rel.refl _ _

theorem execScrubLine_next (store : Store) (addr : Nat) (err : LineErr) (writtenMeanwhile : Bool) (s : State) : Next ([.out, .fresh, .mem, .cores, .ctxs, .migs, .asks, .stalled, .banks, .rowCopies, .freed, .tcache, .culls, .arrayErrs, .flows, .trk, .ctrl, .ctrlNext, .fcache, .atoms, .probes, .macs, .ecnDraws, .mailboxes] ++ [.handles, .log, .logNext, .logOverflow, .counters, .nand, .life, .start, .pcie, .pins]) s (execScrubLine store addr err writtenMeanwhile s) := by
  unfold execScrubLine
  split
  · refine Next.intro ?_
    exact Rel.refl _ _
  · split
    · refine Next.intro ?_
      refine Rel.step (by decide) (State.scrubDram_rel _ _ _ _ _) ?_
      exact Rel.refl _ _
    · refine Next.intro ?_
      refine Rel.step (by decide) (State.scrubDram_rel _ _ _ _ _) ?_
      exact Rel.refl _ _
    · refine Next.intro ?_
      refine Rel.step (by decide) (State.scrubTileStore_rel _ _ _ _ _) ?_
      exact Rel.refl _ _
    · refine Next.intro ?_
      refine Rel.step (by decide) (State.scrubAcc_rel _ _ _ _) ?_
      exact Rel.refl _ _
    · split
      · refine Next.intro ?_
        exact Rel.refl _ _
      · refine Next.intro ?_
        refine Rel.step (by decide) (State.countM_rel _ _ _) ?_
        refine Rel.step (by decide) (State.countM_rel _ _ _) ?_
        exact Rel.refl _ _
      · extract_lets +onlyGivenNames x1; (refine Next.via (t := x1) ?_ (fun _ => ?_); (on_goal 2 => try clear_value x1); (on_goal 1 => unfold x1); (on_goal 1 => clear x1))
        · refine Rel.step (by decide) (State.tileError_rel _ _ _ _ _ _ _ _ _ _) ?_
          refine Rel.step (by decide) (State.countM_rel _ _ _) ?_
          exact Rel.refl _ _
        · refine Next.intro ?_
          split
          · assumption
          · refine Rel.step (by decide) (State.gafferReset_rel _) ?_
            assumption

end Sys2Proof.Machine
end

