-- ==== Sys2Proof/Laws/Took.lean ====
section
/-! SUPPORT. Issue, completion and counting, said once: what the ring, the core and the contexts hold after each. -/

namespace Sys2Proof.Machine

@[simp] theorem State.core_count (s : State) (x i k c : Nat) : (s.count x i k).core c = s.core c := rfl
@[simp] theorem State.ring_count (s : State) (x i k c r : Nat) : (s.count x i k).ring c r = s.ring c r := rfl

/-- Counting changes a context in its counters alone. -/
theorem State.ctx_count (s : State) (x i k y : Nat) : ∃ m, (s.count x i k).ctx y = { s.ctx y with counters := m } := by
  by_cases h : y = x
  · subst h
    exact ⟨_, State.ctx_updCtx _ _ _⟩
  · exact ⟨(s.ctx y).counters, State.ctx_updCtx_ne _ _ h⟩

@[simp] theorem State.ctx_updCore (s : State) (c x : Nat) (f : Core → Core) : (s.updCore c f).ctx x = s.ctx x := rfl
@[simp] theorem State.ctx_updRing (s : State) (c r x : Nat) (f : Ring → Ring) : (s.updRing c r f).ctx x = s.ctx x := rfl
@[simp] theorem State.core_updCtx (s : State) (c x : Nat) (f : Ctx → Ctx) : (s.updCtx x f).core c = s.core c := rfl
@[simp] theorem State.ring_updCtx (s : State) (c r x : Nat) (f : Ctx → Ctx) : (s.updCtx x f).ring c r = s.ring c r := rfl

/-- Sample records change their core in its queue alone, and contexts in their counters. -/
theorem State.queueSamples_spec (s : State) (c : Nat) (g : Ring) (ds : List OutDesc) :
    (∃ q, (s.queueSamples c g ds).core c = { s.core c with sampleQ := q })
      ∧ ∀ y, ∃ m, (s.queueSamples c g ds).ctx y = { s.ctx y with counters := m } := by
  induction ds generalizing s with
  | nil => exact ⟨⟨(s.core c).sampleQ, rfl⟩, fun y => ⟨(s.ctx y).counters, rfl⟩⟩
  | cons d ds ih =>
    have key : ∀ t : State, (∃ q, t.core c = { s.core c with sampleQ := q }) → (∀ y, ∃ m, t.ctx y = { s.ctx y with counters := m }) →
        (∃ q, (t.queueSamples c g ds).core c = { s.core c with sampleQ := q })
          ∧ ∀ y, ∃ m, (t.queueSamples c g ds).ctx y = { s.ctx y with counters := m } := by
      intro t ⟨q, h1⟩ h2
      obtain ⟨⟨q', i1⟩, i2⟩ := ih t
      refine ⟨⟨q', by rw [i1, h1]⟩, fun y => ?_⟩
      obtain ⟨m, h⟩ := h2 y
      obtain ⟨m', h'⟩ := i2 y
      exact ⟨m', by rw [h', h]⟩
    show (∃ q, (State.queueSamples _ c g ds).core c = _) ∧ ∀ y, ∃ m, (State.queueSamples _ c g ds).ctx y = _
    apply key
    · beta_reduce
      split
      · exact ⟨(s.core c).sampleQ, rfl⟩
      · split
        · exact ⟨_, State.core_updCore _ _ _⟩
        · exact ⟨(s.core c).sampleQ, rfl⟩
    · intro y
      beta_reduce
      split
      · exact ⟨(s.ctx y).counters, rfl⟩
      · split
        · exact ⟨(s.ctx y).counters, rfl⟩
        · exact State.ctx_count _ _ _ _ _

/-- The descriptor of a number is in flight in a ring. -/
def State.inFlight (s : State) (c r id : Nat) : Prop := ∃ e ∈ (s.ring c r).out, e.done = false ∧ e.id = id

/-- Completion by number: the ring holds the same descriptors with that one completed, and runs on unless the status stops it (R169, R172); the
core is otherwise unchanged but for its sample records, contexts but for their counters. -/
theorem State.complete_spec (s : State) (c r id st fl : Nat) (h : s.inFlight c r id) :
    (∃ q, (s.complete c r id st fl).core c = { (s.core c).updRing r (fun g => { g with
        out := g.out.map (fun d => if !d.done && decide (d.id = id) then d.complete st fl (s.fabricNs g.ctx) else d)
        running := g.running && !statusStops st }) with sampleQ := q })
      ∧ ∀ y, ∃ m, (s.complete c r id st fl).ctx y = { s.ctx y with counters := m } := by
  obtain ⟨e, he, h1, h2⟩ := h
  unfold State.complete State.completeIf
  extract_lets g now hit s1 s2
  have hne : ¬ hit.isEmpty = true := by
    have hm : e ∈ g.out.filter (fun d => !d.done && decide (d.id = id)) := by
      rw [List.mem_filter]
      exact ⟨he, by simp [h1, h2]⟩
    have : hit ≠ [] := List.ne_nil_of_mem (List.mem_map_of_mem hm)
    simpa using this
  rw [if_neg hne]
  obtain ⟨⟨q, h3⟩, h4⟩ := State.queueSamples_spec s2 c g hit
  have h5 : s2.core c = s1.core c := by
    unfold s2
    split <;> rfl
  have h6 : s1.core c = (s.core c).updRing r (fun g => { g with
        out := g.out.map (fun d => if !d.done && decide (d.id = id) then d.complete st fl (s.fabricNs g.ctx) else d)
        running := g.running && !statusStops st }) := State.core_updCore _ _ _
  refine ⟨⟨q, by rw [h3, h5, h6]⟩, fun y => ?_⟩
  obtain ⟨m, h⟩ := h4 y
  have : ∃ m, s2.ctx y = { s.ctx y with counters := m } := by
    unfold s2
    split
    · exact State.ctx_count _ _ _ _ _
    · exact ⟨_, rfl⟩
  obtain ⟨m', h'⟩ := this
  exact ⟨m, by rw [h, h']⟩

theorem Core.ring_updRing_samples (k : Core) (r : Nat) (f : Ring → Ring) (q : List (List Byte)) :
    Core.ring { k.updRing r f with sampleQ := q } r = f (k.ring r) := Core.ring_updRing k r f

theorem State.complete_ring (s : State) (c r id st fl : Nat) (h : s.inFlight c r id) : (s.complete c r id st fl).ring c r = { s.ring c r with
    out := (s.ring c r).out.map (fun d => if !d.done && decide (d.id = id) then d.complete st fl (s.fabricNs (s.ring c r).ctx) else d)
    running := (s.ring c r).running && !statusStops st } := by
  obtain ⟨⟨q, hc⟩, _⟩ := State.complete_spec s c r id st fl h
  show (State.core _ c).ring r = _
  rw [hc]
  exact Core.ring_updRing_samples (s.core c) r (fun g => { g with
    out := g.out.map (fun d => if !d.done && decide (d.id = id) then d.complete st fl (s.fabricNs g.ctx) else d)
    running := g.running && !statusStops st }) q

/-- Taking a descriptor changes one core only: its ring has it in flight and goes on with the next slot, the turn passes to the next ring
(R149, R166). -/
theorem State.takeDesc_spec (s : State) (c r d : Nat) (dl : Option Nat) :
    ∃ e n, s.takeDesc c r d dl = s.setCore c { (s.core c).setRing r { s.ring c r with
        next := ((s.ring c r).next + 1) % (s.ring c r).size
        issued := (s.ring c r).issued + 1
        out := (s.ring c r).out ++ [e] } with rrNext := (r + 1) % 8, tagDraws := n }
      ∧ e.slot = (s.ring c r).next ∧ e.id = (s.ring c r).issued ∧ e.desc = d ∧ e.done = false ∧ e.status = 0 ∧ e.deadline = dl := by
  unfold State.takeDesc
  extract_lets g t tg
  have h : ∃ n, tg.1 = s.setCore c { s.core c with tagDraws := n } ∨ tg.1 = s := by
    unfold tg State.tagDesc
    extract_lets g cx mk
    split
    · exact ⟨0, Or.inr rfl⟩
    · exact ⟨(s.core c).tagDraws + 1, Or.inl rfl⟩
  let e : OutDesc :=
    { slot := g.next, id := g.issued, desc := d, reads := t.reads, writes := t.writes, tileReads := t.tileReads,
      tileWrites := t.tileWrites, deadline := dl, tag := tg.2 }
  obtain ⟨n, h | h⟩ := h
  · refine ⟨e, n, ?_, rfl, rfl, rfl, rfl, rfl, rfl⟩
    rw [h]
    simp only [State.updCore, State.core_setCore]
    simp only [State.setCore, Map.set_set]
    rfl
  · refine ⟨e, (s.core c).tagDraws, ?_, rfl, rfl, rfl, rfl, rfl, rfl⟩
    rw [h]
    rfl

/-- A row of the descriptor family whose descriptor issues runs on the state in which the descriptor has left the queue. -/
theorem State.issue_issues {s : State} {c r op sb d : Nat} (h : s.Issues c r op sb d) (dl : State → Nat → Option Nat)
    (run : State → Nat → Nat → State) : s.issue c r op sb dl run = run (s.takeDesc c r d (dl s d)) (s.ring c r).issued d := by
  obtain ⟨h1, h2, h3, h4, h5, h6⟩ := h
  unfold State.issue
  simp only [h1, h6]
  rw [if_pos ⟨h2, h3, h4, h5⟩]
  rfl

/-- What completion leaves alone in every ring and every context. -/
def Steady (s t : State) : Prop :=
  (∀ c r, ((t.ring c r).out.map (fun d => d.id) = (s.ring c r).out.map (fun d => d.id)) ∧ (t.ring c r).compl = (s.ring c r).compl
      ∧ (t.ring c r).ctx = (s.ring c r).ctx)
    ∧ ∀ y, ∃ m, t.ctx y = { s.ctx y with counters := m }

theorem Steady.refl (s : State) : Steady s s := ⟨fun _ _ => ⟨rfl, rfl, rfl⟩, fun y => ⟨(s.ctx y).counters, rfl⟩⟩

theorem Steady.trans {s t u : State} (h : Steady s t) (g : Steady t u) : Steady s u := by
  refine ⟨fun c r => ?_, fun y => ?_⟩
  · obtain ⟨a, b, e⟩ := h.1 c r
    obtain ⟨a', b', e'⟩ := g.1 c r
    exact ⟨a'.trans a, b'.trans b, e'.trans e⟩
  · obtain ⟨m, h1⟩ := h.2 y
    obtain ⟨n, h2⟩ := g.2 y
    exact ⟨n, by rw [h2, h1]⟩

theorem Steady.foldl {α : Type} {f : State → α → State} (hf : ∀ s a, Steady s (f s a)) (l : List α) (s : State) : Steady s (l.foldl f s) := by
  induction l generalizing s with
  | nil => exact Steady.refl s
  | cons a l ih => exact (hf s a).trans (ih _)

/-- A change of one ring that keeps its numbers, its records and its context. -/
theorem State.updRing_steady (s : State) (c r : Nat) (f : Ring → Ring)
    (h : ((f (s.ring c r)).out.map (fun d => d.id) = (s.ring c r).out.map (fun d => d.id)) ∧ (f (s.ring c r)).compl = (s.ring c r).compl
      ∧ (f (s.ring c r)).ctx = (s.ring c r).ctx) : Steady s (s.updRing c r f) := by
  refine ⟨fun c' r' => ?_, fun y => ⟨(s.ctx y).counters, rfl⟩⟩
  by_cases hc : c' = c
  · subst hc
    have hk : ∀ q, (s.updRing c' r f).ring c' q = ((s.core c').updRing r f).ring q := by
      intro q
      simp [State.ring, State.updRing]
    by_cases hr : r' = r
    · subst hr
      rw [State.ring_updRing]
      exact h
    · rw [hk, Core.updRing, Core.ring_setRing_ne _ _ hr]
      exact ⟨rfl, rfl, rfl⟩
  · have : (s.updRing c r f).ring c' r' = s.ring c' r' := by
      simp only [State.ring, State.updRing, State.core_updCore_ne _ _ hc]
    rw [this]
    exact ⟨rfl, rfl, rfl⟩

theorem State.count_steady (s : State) (x i k : Nat) : Steady s (s.count x i k) :=
  ⟨fun _ _ => ⟨rfl, rfl, rfl⟩, fun y => State.ctx_count s x i k y⟩

theorem State.queueSamples_steady (s : State) (c : Nat) (g : Ring) (ds : List OutDesc) : Steady s (s.queueSamples c g ds) := by
  refine Steady.foldl (fun s d => ?_) ds s
  split
  · exact Steady.refl s
  · split
    · refine ⟨fun c' r' => ?_, fun y => ⟨(s.ctx y).counters, rfl⟩⟩
      by_cases hc : c' = c
      · subst hc
        simp only [State.ring, State.core_updCore]
        exact ⟨rfl, rfl, rfl⟩
      · simp only [State.ring, State.core_updCore_ne _ _ hc]
        exact ⟨trivial, trivial, trivial⟩
    · exact State.count_steady _ _ _ _

theorem State.completeIf_steady (s : State) (c r : Nat) (p : OutDesc → Bool) (st fl : Nat) : Steady s (s.completeIf c r p st fl) := by
  unfold State.completeIf
  extract_lets g now hit s1 s2
  split
  · exact Steady.refl s
  · have h1 : Steady s s1 := by
      refine State.updRing_steady _ _ _ _ ⟨?_, rfl, rfl⟩
      show ((s.ring c r).out.map _).map _ = _
      rw [List.map_map]
      refine List.map_congr_left (fun d _ => ?_)
      show (if _ then _ else d : OutDesc).id = d.id
      split <;> rfl
    have h2 : Steady s1 s2 := by
      unfold s2
      split
      · exact State.count_steady _ _ _ _
      · exact Steady.refl _
    exact (h1.trans h2).trans (State.queueSamples_steady _ _ _ _)

theorem State.wake_steady (s : State) (x ev : Nat) : Steady s (s.wake x ev) := by
  unfold State.wake
  refine Steady.foldl (fun s e => ?_) _ s
  refine Steady.foldl (fun s q => ?_) _ s
  split
  · exact State.completeIf_steady _ _ _ _ _ _
  · exact Steady.refl s

/-- A signal raises its event counter by one, modulo 2³² (R173). -/
theorem State.signal_spec (s : State) (x ev : Nat) :
    (∀ c r, ((s.signal x ev).ring c r).out.map (fun d => d.id) = (s.ring c r).out.map (fun d => d.id)
        ∧ ((s.signal x ev).ring c r).compl = (s.ring c r).compl)
      ∧ (((s.signal x ev).ctx x).events).getOr ev 0 = (((s.ctx x).events).getOr ev 0 + 1) % 4294967296 := by
  have h := State.wake_steady (s.updCtx x (fun c => { c with events := c.events.upd ev 0 (fun v => (v + 1) % 4294967296) })) x ev
  refine ⟨fun c r => ⟨(h.1 c r).1, (h.1 c r).2.1⟩, ?_⟩
  obtain ⟨m, hm⟩ := h.2 x
  show ((State.wake _ x ev).ctx x).events.getOr ev 0 = _
  rw [hm]
  simp

/-- A taken descriptor that completes at once (R169). -/
theorem State.takeDesc_complete (s : State) (c r d : Nat) (dl : Option Nat) (st fl : Nat) :
    Took s ((s.takeDesc c r d dl).complete c r (s.ring c r).issued st fl) c r d (fun e => e.done = true ∧ e.status = st ∧ e.flags = fl)
      ∧ (((s.takeDesc c r d dl).complete c r (s.ring c r).issued st fl).ring c r).next = ((s.ring c r).next + 1) % (s.ring c r).size
      ∧ (((s.takeDesc c r d dl).complete c r (s.ring c r).issued st fl).ring c r).running = ((s.ring c r).running && !statusStops st)
      ∧ (((s.takeDesc c r d dl).complete c r (s.ring c r).issued st fl).ring c r).size = (s.ring c r).size
      ∧ ∀ y, ∃ m, ((s.takeDesc c r d dl).complete c r (s.ring c r).issued st fl).ctx y = { s.ctx y with counters := m } := by
  obtain ⟨e, n, h, h1, h2, h3, h4, h5, h6⟩ := State.takeDesc_spec s c r d dl
  have hr : (s.takeDesc c r d dl).ring c r = { s.ring c r with
        next := ((s.ring c r).next + 1) % (s.ring c r).size
        issued := (s.ring c r).issued + 1
        out := (s.ring c r).out ++ [e] } := by
    rw [h]
    simp only [State.ring, State.core_setCore]
    exact Core.ring_setRing _ _ _
  have hf : (s.takeDesc c r d dl).inFlight c r (s.ring c r).issued := ⟨e, by rw [hr]; simp, h4, h2⟩
  obtain ⟨_, hx⟩ := State.complete_spec _ c r _ st fl hf
  have hg := State.complete_ring _ c r _ st fl hf
  refine ⟨⟨?_, ?_⟩, ?_, ?_, ?_, fun y => ?_⟩
  · rw [hg, hr]
    simp
  · refine ⟨e.complete st fl ((s.takeDesc c r d dl).fabricNs ((s.takeDesc c r d dl).ring c r).ctx), ?_, h1, h3, rfl, rfl, rfl⟩
    rw [hg, hr]
    simp [h4, h2]
  · rw [hg, hr]
  · rw [hg, hr]
  · rw [hg, hr]
  · obtain ⟨m, hm⟩ := hx y
    refine ⟨m, ?_⟩
    rw [hm, h]
    rfl

theorem Took.mono {s t : State} {c r d : Nat} {p q : OutDesc → Prop} (h : Took s t c r d p) (k : ∀ e, p e → q e) : Took s t c r d q := by
  obtain ⟨h1, e, h2, h3, h4, h5⟩ := h
  exact ⟨h1, e, h2, h3, h4, k e h5⟩

theorem State.Issues.running {s : State} {c r op sb d : Nat} (h : s.Issues c r op sb d) : (s.ring c r).running = true := by
  have h := h.2.2.2.1
  simp only [State.canIssueDesc, State.descReady, Ring.live, Bool.and_eq_true] at h
  exact h.1.1.1.2.2

/-- Only the ring's descriptors in flight matter. -/
theorem Took.of_ring {s t u : State} {c r d : Nat} {p : OutDesc → Prop} (h : Took s t c r d p) (hu : (u.ring c r).out = (t.ring c r).out) :
    Took s u c r d p := by
  obtain ⟨h1, e, h2, h3⟩ := h
  exact ⟨by rw [hu, h1], e, by rw [hu, h2], h3⟩

theorem State.takeDesc_ring (s : State) (c r d : Nat) (dl : Option Nat) : ∃ e, (s.takeDesc c r d dl).ring c r = { s.ring c r with
        next := ((s.ring c r).next + 1) % (s.ring c r).size
        issued := (s.ring c r).issued + 1
        out := (s.ring c r).out ++ [e] }
      ∧ e.slot = (s.ring c r).next ∧ e.id = (s.ring c r).issued ∧ e.desc = d ∧ e.done = false ∧ e.status = 0 ∧ e.deadline = dl := by
  obtain ⟨e, n, h, hs⟩ := State.takeDesc_spec s c r d dl
  refine ⟨e, ?_, hs⟩
  rw [h]
  simp only [State.ring, State.core_setCore]
  exact Core.ring_setRing _ _ _

/-- A taken descriptor that stays in flight. -/
theorem State.takeDesc_took (s : State) (c r d : Nat) (dl : Option Nat) :
    Took s (s.takeDesc c r d dl) c r d (fun e => e.done = false ∧ e.deadline = dl) := by
  obtain ⟨e, h, h1, h2, h3, h4, h5, h6⟩ := State.takeDesc_ring s c r d dl
  exact ⟨by rw [h]; simp, e, by rw [h]; simp, h1, h3, h4, h6⟩

/-- What the taking of a descriptor leaves alone. -/
theorem State.takeDesc_keeps (s : State) (c r d : Nat) (dl : Option Nat) :
    (s.takeDesc c r d dl).ctxs = s.ctxs ∧ (s.takeDesc c r d dl).clk = s.clk ∧ (s.takeDesc c r d dl).mem = s.mem
      ∧ (s.takeDesc c r d dl).deviceId = s.deviceId ∧ ((s.takeDesc c r d dl).ring c r).ctx = (s.ring c r).ctx
      ∧ ((s.takeDesc c r d dl).ring c r).size = (s.ring c r).size ∧ ((s.takeDesc c r d dl).ring c r).base = (s.ring c r).base := by
  obtain ⟨e, h, _⟩ := State.takeDesc_ring s c r d dl
  obtain ⟨e', n, h', _⟩ := State.takeDesc_spec s c r d dl
  refine ⟨?_, ?_, ?_, ?_, ?_, ?_, ?_⟩
  · rw [h']
    rfl
  · rw [h']
    rfl
  · rw [h']
    rfl
  · rw [h']
    rfl
  · rw [h]
  · rw [h]
  · rw [h]

theorem State.core_congr {s t : State} (h : t.cores = s.cores) (c : Nat) : t.core c = s.core c := by rw [State.core, State.core, h]
theorem State.ring_congr {s t : State} (h : t.cores = s.cores) (c r : Nat) : t.ring c r = s.ring c r := by
  rw [State.ring, State.ring, State.core_congr h]
theorem State.ctx_congr {s t : State} (h : t.ctxs = s.ctxs) (x : Nat) : t.ctx x = s.ctx x := by rw [State.ctx, State.ctx, h]

/-- A descriptor in flight is found completed after its completion. -/
theorem State.complete_mem {s : State} {c r : Nat} {e : OutDesc} (he : e ∈ (s.ring c r).out) (hd : e.done = false) (st fl : Nat) :
    ∃ e' ∈ ((s.complete c r e.id st fl).ring c r).out, e'.id = e.id ∧ e'.desc = e.desc ∧ e'.done = true ∧ e'.status = st ∧ e'.flags = fl := by
  rw [State.complete_ring _ _ _ _ _ _ ⟨e, he, hd, rfl⟩]
  exact ⟨e.complete st fl (s.fabricNs (s.ring c r).ctx), List.mem_map.mpr ⟨e, he, by simp [hd]⟩, rfl, rfl, rfl, rfl, rfl⟩

/-- Completion stops the ring exactly at a status of 0x10 or above (R172). -/
theorem State.complete_running {s : State} {c r : Nat} {e : OutDesc} (he : e ∈ (s.ring c r).out) (hd : e.done = false) (st fl : Nat) :
    ((s.complete c r e.id st fl).ring c r).running = ((s.ring c r).running && !statusStops st) := by
  rw [State.complete_ring _ _ _ _ _ _ ⟨e, he, hd, rfl⟩]

/-- A change of a core that leaves its rings. -/
theorem State.ring_updCore_same (s : State) (c r : Nat) (f : Core → Core) (h : ∀ k, (f k).rings = k.rings) :
    (s.updCore c f).ring c r = s.ring c r := by
  rw [State.ring, State.core_updCore, Core.ring, h]
  rfl

/-- From s to t every ring is the same. -/
def SameRings (s t : State) : Prop := ∀ c r, t.ring c r = s.ring c r

theorem SameRings.of_rel {l : List Fld} {s t : State} (h : Rel l s t) (hl : Fld.cores ∉ l) : SameRings s t :=
  fun c r => State.ring_congr (h.cores hl) c r

theorem SameRings.trans {s t u : State} (h : SameRings s t) (g : SameRings t u) : SameRings s u := fun c r => (g c r).trans (h c r)

theorem SameRings.foldl {α : Type} {f : State → α → State} (hf : ∀ s a, SameRings s (f s a)) (l : List α) (s : State) :
    SameRings s (l.foldl f s) := by
  induction l generalizing s with
  | nil => exact fun _ _ => rfl
  | cons a l ih => exact (hf s a).trans (ih _)

theorem SameRings.updCore (s : State) (c : Nat) (f : Core → Core) (h : ∀ k, (f k).rings = k.rings) : SameRings s (s.updCore c f) := by
  intro c' r
  by_cases hc : c' = c
  · subst hc
    exact State.ring_updCore_same s c' r f h
  · rw [State.ring, State.ring, State.core_updCore_ne _ _ hc]

theorem State.writeTile_rings (s : State) (x t off : Nat) (d : List Byte) : SameRings s (s.writeTile x t off d) :=
  SameRings.of_rel (State.writeTile_rel s x t off d) (by decide)

/-- The writes of an operation leave the rings. -/
theorem State.applyEffs_rings (s : State) (c x : Nat) (es : List Eff) : SameRings s (s.applyEffs c x es) := by
  refine SameRings.foldl (fun s e => ?_) es s
  cases e with
  | ts a d =>
    show SameRings s (s.tsWrite c a d)
    unfold State.tsWrite
    refine SameRings.foldl (fun s w => ?_) _ s
    extract_lets lo hi part
    split
    · exact State.writeTile_rings _ _ _ _ _
    · exact (SameRings.of_rel (State.memWrite_rel s (tsPhys c lo) part) (by decide)).trans (SameRings.updCore _ _ _ (fun _ => rfl))
  | tile t off d => exact State.writeTile_rings _ _ _ _ _
  | loadTile t a =>
    show SameRings s (s.loadTile c x t a)
    unfold State.loadTile
    extract_lets s1 s2
    have h1 : SameRings s s1 := by
      unfold s1 State.tsTouch
      refine SameRings.foldl (fun s w => ?_) _ s
      split
      · exact (SameRings.of_rel (State.secureCopy_rel s _ _) (by decide)).trans (SameRings.of_rel (State.markWritten_rel _ _ _) (by decide))
      · exact SameRings.updCore _ _ _ (fun _ => rfl)
    have h2 : SameRings s s2 := h1.trans (SameRings.of_rel (State.memCopy_rel s1 _ _ _) (by decide))
    split
    · exact h2
    · refine h2.trans ?_
      unfold State.loadHdr
      extract_lets w
      refine SameRings.updCore _ _ _ (fun k => ?_)
      extract_lets k'
      split <;> rfl
  | storeTile a t => exact SameRings.of_rel (State.fillTile_rel s x t (tsPhys c a)) (by decide)
  | copyTile a b => exact SameRings.of_rel (State.fillTile_rel s x b _) (by decide)

/-- The wake of waits leaves every descriptor in flight that is no EVENT_WAIT. -/
theorem State.signal_keeps (s : State) (x ev : Nat) {c r : Nat} {e : OutDesc} (he : e ∈ (s.ring c r).out) (ho : dOp e.desc ≠ 0x09) :
    e ∈ ((s.signal x ev).ring c r).out := by
  have key : ∀ (t : State) (c' r' : Nat) (v : Nat), e ∈ (t.ring c r).out →
      e ∈ ((t.completeIf c' r' (fun d => dOp d.desc = 0x09 && fld d.desc 8 1 = ev && waitHolds d.desc v) 0 0).ring c r).out := by
    intro t c' r' v ht
    unfold State.completeIf
    extract_lets g now hit s1 s2
    split
    · exact ht
    · have h1 : e ∈ (s1.ring c r).out := by
        by_cases hc : c = c'
        · subst hc
          by_cases hr : r = r'
          · subst hr
            unfold s1
            rw [State.ring_updRing]
            refine List.mem_map.mpr ⟨e, ht, ?_⟩
            simp [ho]
          · have : s1.ring c r = t.ring c r := by
              unfold s1
              rw [State.ring, State.updRing, State.core_updCore, Core.updRing, Core.ring_setRing_ne _ _ hr]
              rfl
            rw [this]
            exact ht
        · have : s1.ring c r = t.ring c r := by
            unfold s1
            rw [State.ring, State.updRing, State.core_updCore_ne _ _ hc]
            rfl
          rw [this]
          exact ht
      have h2 : e ∈ (s2.ring c r).out := by
        unfold s2
        split
        · exact h1
        · exact h1
      obtain h3 | h3 := eq_or_ne c c'
      · subst h3
        obtain ⟨⟨q, hq⟩, -⟩ := State.queueSamples_spec s2 c g hit
        rw [State.ring, hq]
        exact h2
      · have : SameRings s2 (s2.queueSamples c' g hit) := by
          refine SameRings.foldl (fun u d => ?_) _ _
          split
          · exact fun _ _ => rfl
          · split
            · exact SameRings.updCore _ _ _ (fun _ => rfl)
            · exact fun _ _ => rfl
        rw [this c r]
        exact h2
  have fold : ∀ {α : Type} (f : State → α → State), (∀ t a, e ∈ (t.ring c r).out → e ∈ ((f t a).ring c r).out) → ∀ (l : List α) (t : State),
      e ∈ (t.ring c r).out → e ∈ ((l.foldl f t).ring c r).out := by
    intro α f hf l
    induction l with
    | nil => intro t h; exact h
    | cons a l ih => intro t h; exact ih _ (hf _ _ h)
  unfold State.signal State.wake
  refine fold _ (fun t a h => ?_) _ _ he
  refine fold _ (fun t b h => ?_) _ _ h
  split
  · exact key _ _ _ _ h
  · exact h

/-- Taking a descriptor moves no ring: the ranges that the rings hold stay, and with them what may be written (R148). -/
theorem State.takeDesc_rangesOk (s : State) (c r d : Nat) (dl : Option Nat) (t : Touch) :
    (s.takeDesc c r d dl).rangesOk c t = s.rangesOk c t := by
  obtain ⟨e, n, h, _⟩ := State.takeDesc_spec s c r d dl
  have key : ∀ q : Nat × Nat → Bool, ((s.takeDesc c r d dl).ringRanges c).any q = (s.ringRanges c).any q := by
    intro q
    simp only [State.ringRanges, List.any_map, List.any_filter]
    rw [h, State.core_setCore]
    show List.any (Map.set (s.core c).rings r _) _ = _
    refine Map.any_set _ _ _ _ (fun w hw => ?_) (fun hn => ?_)
    · have : s.ring c r = w := by simp [State.ring, Core.ring, Map.getOr, hw]
      simp [this]
    · have : s.ring c r = {} := by simp [State.ring, Core.ring, Map.getOr, hn]
      simp [this]
  unfold State.rangesOk
  simp only [key]

theorem State.takeDesc_touchOk (s : State) (c r d : Nat) (dl : Option Nat) (x : Nat) (t : Touch) :
    (s.takeDesc c r d dl).touchOk c x t = s.touchOk c x t := by
  unfold State.touchOk
  rw [State.takeDesc_rangesOk, State.ctx_congr (State.takeDesc_keeps s c r d dl).1]

end Sys2Proof.Machine
end

