-- ==== Sys2Proof/Laws/Rx.lean ====
section
/-! SUPPORT. What sending changes in a flow, and how a packet that arrives in order reaches its effect, said once. -/

namespace Sys2Proof.Machine

/-- Two flows differ in their send direction alone: what they receive is the same. -/
structure SameRx (a b : Flow) : Prop where
  state : b.state = a.state
  ctx : b.ctx = a.ctx
  peer : b.peer = a.peer
  planning : b.planning = a.planning
  una : b.una = a.una
  expected : b.expected = a.expected
  exec : b.exec = a.exec
  got : b.got = a.got
  held : b.held = a.held
  msgs : b.msgs = a.msgs

theorem SameRx.refl (a : Flow) : SameRx a a := ⟨rfl, rfl, rfl, rfl, rfl, rfl, rfl, rfl, rfl, rfl⟩

theorem SameRx.trans {a b c : Flow} (h : SameRx a b) (g : SameRx b c) : SameRx a c :=
  ⟨g.state.trans h.state, g.ctx.trans h.ctx, g.peer.trans h.peer, g.planning.trans h.planning, g.una.trans h.una, g.expected.trans h.expected,
    g.exec.trans h.exec, g.got.trans h.got, g.held.trans h.held, g.msgs.trans h.msgs⟩

theorem State.flow_congr {s t : State} (h : t.flows = s.flows) (f : Nat) : t.flow f = s.flow f := by rw [State.flow, State.flow, h]

/-- Pumping a flow moves packets to transmit queues: its PSNs, its windows and what it receives stay. -/
theorem State.pumpN_flow (s : State) (f n : Nat) : SameRx (s.flow f) ((s.pumpN f n).flow f)
    ∧ ((s.pumpN f n).flow f).nextPsn = (s.flow f).nextPsn ∧ ((s.pumpN f n).flow f).sends = (s.flow f).sends := by
  induction n generalizing s with
  | zero => exact ⟨SameRx.refl _, rfl, rfl⟩
  | succ n ih =>
    have step : ∀ (fl : Flow) (m q : Nat) (fr : Frame), SameRx (s.flow f) fl → fl.nextPsn = (s.flow f).nextPsn →
        fl.sends = (s.flow f).sends →
        SameRx (s.flow f) ((State.pumpN ((s.setFlow f fl).enqueue m q fr) f n).flow f)
          ∧ ((State.pumpN ((s.setFlow f fl).enqueue m q fr) f n).flow f).nextPsn = (s.flow f).nextPsn
          ∧ ((State.pumpN ((s.setFlow f fl).enqueue m q fr) f n).flow f).sends = (s.flow f).sends := by
      intro fl m q fr h1 h2 h3
      obtain ⟨i1, i2, i3⟩ := ih ((s.setFlow f fl).enqueue m q fr)
      have e : ((s.setFlow f fl).enqueue m q fr).flow f = fl := by
        rw [State.flow_congr ((State.enqueue_rel _ m q fr).flows (by decide)) f, State.flow_setFlow]
      rw [e] at i1 i2 i3
      exact ⟨h1.trans i1, i2.trans h2, i3.trans h3⟩
    unfold State.pumpN
    extract_lets fl
    split
    · exact ⟨SameRx.refl _, rfl, rfl⟩
    · split
      · exact ⟨SameRx.refl _, rfl, rfl⟩
      · split
        · exact ⟨SameRx.refl _, rfl, rfl⟩
        · split
          · exact ⟨SameRx.refl _, rfl, rfl⟩
          · refine step _ _ _ _ ⟨rfl, rfl, rfl, rfl, rfl, rfl, rfl, rfl, rfl, rfl⟩ rfl ?_
            simp only [Flow.sends, List.map_map]
            refine List.map_congr_left (fun u _ => ?_)
            simp only [Function.comp]
            split <;> rfl

/-- A message appended to a flow's send direction takes its PSNs (R252, R259). -/
theorem State.sendMsg_flow (s : State) (f op : Nat) (parts : List (List Byte × List Byte)) :
    SameRx (s.flow f) ((s.sendMsg f op parts).flow f)
      ∧ ((s.sendMsg f op parts).flow f).nextPsn = ((s.flow f).nextPsn + parts.length) % 4294967296
      ∧ ((s.sendMsg f op parts).flow f).sends = (s.flow f).sends ++ parts.map (fun q => (op, q.1, q.2)) := by
  unfold State.sendMsg State.pump
  extract_lets fl n pk idle
  obtain ⟨i1, i2, i3⟩ := State.pumpN_flow (s.setFlow f { fl with
    tx := fl.tx ++ pk, nextPsn := (fl.nextPsn + n) % 4294967296, progressNs := if idle then s.clk.tai.ns else fl.progressNs }) f 257
  rw [State.flow_setFlow] at i1 i2 i3
  refine ⟨SameRx.trans ?_ i1, i2, i3.trans ?_⟩
  · exact ⟨rfl, rfl, rfl, rfl, rfl, rfl, rfl, rfl, rfl, rfl⟩
  · simp only [Flow.sends, List.map_append, pk, List.map_map]
    congr 1
    have e : ∀ l : List Nat, l.length = parts.length → (parts.zip l).map (fun q => (op, q.1.1, q.1.2)) = parts.map (fun q => (op, q.1, q.2)) := by
      intro l hl
      have := congrArg (List.map (fun q : List Byte × List Byte => (op, q.1, q.2))) (List.map_fst_zip (l₁ := parts) (l₂ := l) (by omega))
      rw [← this, List.map_map]
      rfl
    rw [← e (List.range n) (by simp [n])]
    rfl

theorem State.respond_flow (s : State) (f op psn st : Nat) (data : List Byte) : SameRx (s.flow f) ((s.respond f op psn st data).flow f)
    ∧ ((s.respond f op psn st data).flow f).nextPsn = ((s.flow f).nextPsn + (piecesOf (s.payloadMax f) data).length) % 4294967296
    ∧ ((s.respond f op psn st data).flow f).sends
      = (s.flow f).sends ++ (piecesOf (s.payloadMax f) data).map (fun q => (op, respExt psn st q.1, q.2)) := by
  obtain ⟨h1, h2, h3⟩ := State.sendMsg_flow s f op ((piecesOf (s.payloadMax f) data).map (fun p => (respExt psn st p.1, p.2)))
  rw [List.length_map] at h2
  rw [List.map_map] at h3
  exact ⟨h1, h2, h3⟩

theorem State.sendAck_flow (s : State) (f : Nat) : SameRx (s.flow f) ((s.sendAck f).flow f) ∧ ((s.sendAck f).flow f).nextPsn = (s.flow f).nextPsn
    ∧ ((s.sendAck f).flow f).firstUnackedNs = none ∧ ((s.sendAck f).flow f).pktsSinceAck = 0
    ∧ ((s.sendAck f).flow f).sends = (s.flow f).sends := by
  have step : ∀ (fl : Flow) (m q : Nat) (fr : Frame), ((s.setFlow f fl).enqueue m q fr).flow f = fl := by
    intro fl m q fr
    rw [State.flow_congr ((State.enqueue_rel _ m q fr).flows (by decide)) f, State.flow_setFlow]
  unfold State.sendAck
  dsimp only
  split
  · rw [State.flow_setFlow]
    exact ⟨⟨rfl, rfl, rfl, rfl, rfl, rfl, rfl, rfl, rfl, rfl⟩, rfl, rfl, rfl, rfl⟩
  · rw [step]
    exact ⟨⟨rfl, rfl, rfl, rfl, rfl, rfl, rfl, rfl, rfl, rfl⟩, rfl, rfl, rfl, rfl⟩

/-- A packet in order, with nothing held before it, moves the expected PSN on and is the one held (R245, R260). -/
theorem Flow.accept_spec (f : Flow) (op : Nat) (p : Pkt) (now : Nat) (h1 : f.got = []) (h2 : f.held = []) (h3 : p.psn = f.expected) :
    (f.accept op p now).expected = psnNext p.psn ∧ (f.accept op p now).got = [] ∧ (f.accept op p now).held = [{ psn := p.psn, op := op, p := p }]
      ∧ (f.accept op p now).msgs = f.msgs ∧ (f.accept op p now).exec = f.exec ∧ (f.accept op p now).ctx = f.ctx
      ∧ (f.accept op p now).peer = f.peer ∧ (f.accept op p now).state = f.state ∧ (f.accept op p now).drainFence = f.drainFence
      ∧ (f.accept op p now).nextPsn = f.nextPsn ∧ (f.accept op p now).una = f.una ∧ (f.accept op p now).sends = f.sends
      ∧ (f.accept op p now).paths = f.paths := by
  unfold Flow.accept Flow.advance
  have hr : List.range 2 = [0, 1] := rfl
  simp [h1, h2, h3, hr, Flow.sends]

/-- The state in which the packet of `Arrives` is about to take effect: it differs from the one before in its flow, which now holds the packet,
and in what receiving a frame counts. -/
structure Ready (s u : State) (op : Nat) (p : Pkt) : Prop where
  keeps : Rel [.out, .fresh, .macs, .counters, .flows] s u
  flow : ∃ now, u.flow p.dstFlow = (s.flow p.dstFlow).accept op p now
  others : ∀ g, g ≠ p.dstFlow → u.flow g = s.flow g

/-- What follows the effect of a packet leaves it alone: the packet's counters and its ACK. -/
structure After (v t : State) (f : Nat) : Prop where
  mem : t.mem = v.mem
  cores : t.cores = v.cores
  trk : t.trk = v.trk
  ctxs : ∀ y, ∃ m, t.ctx y = { v.ctx y with counters := m }
  rx : SameRx (v.flow f) (t.flow f)
  next : (t.flow f).nextPsn = (v.flow f).nextPsn
  sends : (t.flow f).sends = (v.flow f).sends

theorem After.trans {v t u : State} {f : Nat} (h : After v t f) (g : After t u f) : After v u f := by
  refine ⟨g.mem.trans h.mem, g.cores.trans h.cores, g.trk.trans h.trk, fun y => ?_, h.rx.trans g.rx, g.next.trans h.next, g.sends.trans h.sends⟩
  obtain ⟨m, e⟩ := h.ctxs y
  obtain ⟨n, e'⟩ := g.ctxs y
  exact ⟨n, by rw [e', e]⟩

/-- The entry of a flow in the cache of flow contexts, and its miss counted, are nothing of the effect (R247). -/
theorem State.flowUse_after (s : State) (f : Nat) : After s (s.flowUse f) f := by
  have r : ∀ y, ∃ m, (s.flowUse f).ctx y = { s.ctx y with counters := m } := by
    intro y
    unfold State.flowUse
    split
    · exact ⟨_, rfl⟩
    · split
      · exact ⟨_, rfl⟩
      · exact State.ctx_count _ _ _ _ _
  have h := State.flowUse_rel s f
  have hf := State.flow_congr (h.flows (by decide)) f
  exact ⟨h.mem (by decide), h.cores (by decide), h.trk (by decide), r, by rw [hf]; exact SameRx.refl _, by rw [hf], by rw [hf]⟩

theorem State.rxDone_after (s : State) (f x : Nat) (p : Pkt) (ack : Bool) : After s (s.rxDone f x p ack) f := by
  unfold State.rxDone
  extract_lets s1 s2
  have c1 : ∀ u : State, ∀ i k, After u (u.count x i k) f := fun u i k =>
    ⟨rfl, rfl, rfl, fun y => State.ctx_count u x i k y, SameRx.refl _, rfl, rfl⟩
  have tr : ∀ {a b c : State}, After a b f → After b c f → After a c f := After.trans
  have h1 : After s s1 f := tr (c1 s 181 1) (c1 _ 183 p.payload.length)
  have h2 : After s s2 f := by
    unfold s2
    split
    · exact tr h1 (c1 _ 186 1)
    · exact h1
  split
  · have r := State.sendAck_rel s2 f
    obtain ⟨a1, a2, -, -, a5⟩ := State.sendAck_flow s2 f
    refine tr h2 ⟨r.mem (by decide), r.cores (by decide), r.trk (by decide), fun y => ⟨(s2.ctx y).counters, ?_⟩, a1, a2, a5⟩
    rw [State.ctx_congr (r.ctxs (by decide))]
  · exact h2

theorem State.rxRun_first {s u : State} {op : Nat} {p : Pkt} (ha : s.Arrives op p) (hu : Ready s u op p)
    (h1 : ((u.takeFirst p.dstFlow { psn := p.psn, op := op, p := p }).flow p.dstFlow).held = [])
    (h2 : ((u.takeFirst p.dstFlow { psn := p.psn, op := op, p := p }).flow p.dstFlow).msgs = []) :
    u.rxRun p.dstFlow = (u.takeFirst p.dstFlow { psn := p.psn, op := op, p := p }).rush
      ((u.takeFirst p.dstFlow { psn := p.psn, op := op, p := p }).flow p.dstFlow).ctx [] := by
  obtain ⟨now, hf⟩ := hu.flow
  obtain ⟨a1, a2, a3, a4, a5, a6, -⟩ := Flow.accept_spec (s.flow p.dstFlow) op p now ha.got ha.held ha.psn
  have hst : u.stallTiles p.dstFlow { psn := p.psn, op := op, p := p } = [] := by
    have hx : (u.flow p.dstFlow).ctx = (s.flow p.dstFlow).ctx := by rw [hf, a6]
    have e : u.stallTiles p.dstFlow { psn := p.psn, op := op, p := p } = s.stallTiles p.dstFlow { psn := p.psn, op := op, p := p } := by
      simp only [State.stallTiles, hx, State.ctx, hu.keeps.ctxs (show Fld.ctxs ∉ _ by decide), State.findTrk, hu.keeps.trk (show Fld.trk ∉ _ by decide), State.effT0, State.t0Tile]
    rw [e, ha.stall]
  have hs : u.rxStep p.dstFlow = some (u.takeFirst p.dstFlow { psn := p.psn, op := op, p := p }) := by
    unfold State.rxStep
    have hm : (u.flow p.dstFlow).msgs = [] := by rw [hf, a4, ha.msgs]
    have hh : (u.flow p.dstFlow).held = [{ psn := p.psn, op := op, p := p }] := by rw [hf, a3]
    have he : (u.flow p.dstFlow).exec = p.psn := by rw [hf, a5, ha.turn]
    simp only [hm, hh, he]
    simp [hst]
  have hn : (u.takeFirst p.dstFlow { psn := p.psn, op := op, p := p }).rxStep p.dstFlow = none := by
    unfold State.rxStep
    simp only [h1, h2]
    rfl
  have hl : (u.flow p.dstFlow).held.length + 1 = 2 := by rw [hf, a3]; rfl
  unfold State.rxRun
  rw [hl]
  show (match u.rxStep p.dstFlow with | some t => t.rxRunN p.dstFlow 1 | none => _) = _
  rw [hs]
  show (match (u.takeFirst p.dstFlow { psn := p.psn, op := op, p := p }).rxStep p.dstFlow with | some t => _ | none => _) = _
  rw [hn]
  simp only [h1, List.flatMap_nil]

/-- A packet that arrives in order takes effect on a state that is ready for it, and what follows leaves the effect alone (R242, R256, R262). -/
theorem State.rxData_arrives {s : State} {op : Nat} {p : Pkt} (mac : Nat) (ha : s.Arrives op p) :
    ∃ u, Ready s u op p ∧
      (((u.takeFirst p.dstFlow { psn := p.psn, op := op, p := p }).flow p.dstFlow).held = [] →
        ((u.takeFirst p.dstFlow { psn := p.psn, op := op, p := p }).flow p.dstFlow).msgs = [] →
        After (u.takeFirst p.dstFlow { psn := p.psn, op := op, p := p }) (s.rxData mac op p noEcc) p.dstFlow) := by
  let h := hdrOf op p
  let s1 := (s.countRx mac (s.flow p.dstFlow).queue (frameLen ((s.port (mac / 4)).encap = 1) false true h)).occupy mac (s.flow p.dstFlow).queue
    (frameLen ((s.port (mac / 4)).encap = 1) false true h)
  have r1 : Rel [.out, .fresh, .macs, .counters] s s1 := Rel.trans ((State.countRx_rel s _ _ _).mono (by decide)) (State.occupy_rel _ _ _ _)
  have hfl : s1.flows = s.flows := r1.flows (by decide)
  let u := s1.setFlow p.dstFlow ((s1.flow p.dstFlow).accept op p s1.clk.tai.ns)
  have hu : Ready s u op p := by
    refine ⟨Rel.trans (r1.mono (by decide)) ((State.setFlow_rel _ _ _).mono (by decide)), ?_, ?_⟩
    · exact ⟨s1.clk.tai.ns, by rw [State.flow_setFlow, State.flow_congr hfl]⟩
    · intro g hg
      rw [State.flow_setFlow_ne _ _ hg, State.flow_congr hfl]
  refine ⟨u, hu, fun h1 h2 => ?_⟩
  have hrun := State.rxRun_first ha hu h1 h2
  have hx : s.rxData mac op p noEcc = (s1.rxSeq p.dstFlow op p).flowUse p.dstFlow := by
    unfold State.rxData
    show (if p.hcrc ≠ hcrcOf (hdrOf op p) then _ else _) = _
    have n1 : ¬ (p.hcrc ≠ hcrcOf (hdrOf op p)) := by simp [← ha.hcrc]
    have n2 : ¬ (¬ hdrOk (hdrOf op p) = true ∨ ¬ extOk op p.ext = true) := by simp [ha.hdr, ha.ext]
    rw [if_neg n1, if_neg n2]
    have n3 : ¬ (p.dstDev ≠ s1.deviceId ∨ ¬ (s.flow p.dstFlow).accepts p.srcDev = true ∨ (s1.life.debug = 2 ∧ opClass op = some 0)) := by
      rw [r1.deviceId (by decide), r1.life (by decide)]
      simp only [ha.dst, ha.src]
      have := ha.debug
      tauto
    show (if p.dstDev ≠ s1.deviceId ∨ ¬ (s.flow p.dstFlow).accepts p.srcDev = true ∨ (s1.life.debug = 2 ∧ opClass op = some 0) then _ else _) = _
    rw [if_neg n3]
    rfl
  have hd : psnSub p.psn (s1.flow p.dstFlow).expected = 0 := by
    rw [State.flow_congr hfl, ← ha.psn, psnSub]
    omega
  have hg : (s1.flow p.dstFlow).got = [] := by rw [State.flow_congr hfl, ha.got]
  have he : s1.tooEarly (s1.flow p.dstFlow).ctx op p = false := by
    rw [State.flow_congr hfl]
    have := ha.early
    simp only [State.tooEarly, State.ctx, r1.ctxs (show Fld.ctxs ∉ _ by decide)] at this ⊢
    exact this
  rw [hx]
  refine After.trans ?_ (State.flowUse_after _ _)
  unfold State.rxSeq
  simp only [hd, hg, he]
  rw [if_neg (by simp), if_neg (by simp), if_neg (by simp)]
  have hh : ((u.rxRun p.dstFlow).flow p.dstFlow).held.any (fun h => h.psn = p.psn) = false := by
    rw [hrun]
    show ((u.takeFirst p.dstFlow { psn := p.psn, op := op, p := p }).flow p.dstFlow).held.any _ = false
    rw [h1]
    rfl
  show After _ (if (((u.rxRun p.dstFlow).flow p.dstFlow).held.any (fun h => h.psn = p.psn) && _) = true then _ else
    (u.rxRun p.dstFlow).rxDone p.dstFlow _ p _) p.dstFlow
  rw [hh, Bool.false_and, if_neg (by simp)]
  have g := State.rxDone_after (u.rxRun p.dstFlow) p.dstFlow (s1.flow p.dstFlow).ctx p
    (pktAckReq p || pktLast p || decide (16 ≤ (s1.flow p.dstFlow).pktsSinceAck + 1) || (s1.flow p.dstFlow).gap p.psn)
  have e : After (u.takeFirst p.dstFlow { psn := p.psn, op := op, p := p }) (u.rxRun p.dstFlow) p.dstFlow := by
    rw [hrun]
    exact ⟨rfl, rfl, rfl, fun y => ⟨_, rfl⟩, SameRx.refl _, rfl, rfl⟩
  exact e.trans g

end Sys2Proof.Machine
end

