-- ==== Sys2Proof/WellFormed.lean ====
section
/-! DEFINITION. Which commands are well formed: every selector names an object that the manual gives the module, and every
field carried from outside fits its width. -/

namespace Sys2Proof

/-- A register access is of 1 to 8 bytes through a function of the module. -/
def RegTarget.wf : RegTarget → Bool
  | .bar0 fn _ size => decide (fn ≤ 512) && decide (1 ≤ size ∧ size ≤ 8)
  | .smb code => decide (code < 256)
  | .sriov => true
  | .maxRead => true
  | .debugPort => true

/-- A mailbox request's fields fit the header of R440 and the body of R437. -/
def Req.wf (r : Req) : Bool :=
  decide (r.mb ≤ 512) && decide (r.dbTag < 65536) && decide (r.tag < 65536) && decide (r.epoch < 2 ^ 32) && decide (r.target < 65536)
    && decide (r.hdrResv < 2 ^ 160) && (r.mac.length == 0 || r.mac.length == 32) && decide (r.body.length ≤ 1920)

/-- A packet's fields fit the base header of R241. -/
def Pkt.wf (p : Pkt) : Bool :=
  decide (p.flags < 256) && decide (p.hop < 256) && decide (p.dstDev < 65536) && decide (p.srcDev < 65536) && decide (p.path < 16)
    && decide (p.dstFlow < 2 ^ 20) && decide (p.res11 < 256) && decide (p.psn < 2 ^ 32) && decide (p.ts < 2 ^ 32) && decide (p.hcrc < 65536)

/-- A whole header's fields fit their widths. -/
def Hdr.wf (h : Hdr) : Bool := decide (h.ver < 16) && decide (h.cls < 16) && decide (h.op < 256) && decide (h.pcp < 8) && h.p.wf

/-- A bank of R572. -/
def BankLoc.wf : BankLoc → Bool
  | .t1 layer slice bank => decide (layer < 4) && decide (slice < 12) && decide (bank < 16)
  | .t2 channel rank bank => decide (channel < 32) && decide (rank < 2) && decide (bank < 16)
  | .sram pc => decide (pc < 14)

/-- A bank whose rows may be spared: one of R572, or the spare bank of a slice, its bank 16 (R229). -/
def BankLoc.rowWf : BankLoc → Bool
  | .t1 layer slice 16 => decide (layer < 4) && decide (slice < 12)
  | l => l.wf

/-- A store that a scrubber reads (R221). -/
def Store.wf : Store → Bool
  | .tileStore core => decide (core < 12)
  | .accumulator core => decide (core < 12)
  | _ => true

/-- A well-formed command. -/
def Instr.wf : Instr → Bool
  | .registerWrite t _ => t.wf
  | .bar2Read fn _ _ => decide (fn ≤ 512)
  | .bar2Write fn _ _ => decide (fn ≤ 512)
  | .nop core ring => decide (core < 12) && decide (ring < 8)
  | .endDesc core ring => decide (core < 12) && decide (ring < 8)
  | .jump core ring => decide (core < 12) && decide (ring < 8)
  | .cursor core ring => decide (core < 12) && decide (ring < 8)
  | .barrier core ring => decide (core < 12) && decide (ring < 8)
  | .barrierRelease core ring => decide (core < 12) && decide (ring < 8)
  | .eventWaitAtLeast core ring => decide (core < 12) && decide (ring < 8)
  | .eventWaitEqual core ring => decide (core < 12) && decide (ring < 8)
  | .eventWaitTimeout core ring => decide (core < 12) && decide (ring < 8)
  | .arrayMul core ring => decide (core < 12) && decide (ring < 8)
  | .parisonLoadStart core => decide (core < 12)
  | .parisonLoadDone core _ _ => decide (core < 12)
  | .weightSetSwitch core => decide (core < 12)
  | .arrayRowEntry core => decide (core < 12)
  | .emptyIssueSlot core _ => decide (core < 12)
  | .lehrRampDownStart core => decide (core < 12)
  | .lehrStep core => decide (core < 12)
  | .rampUpStep core => decide (core < 12)
  | .preRampStart core => decide (core < 12)
  | .ceilingStepDown core => decide (core < 12)
  | .paritySweep core _ => decide (core < 12)
  | .ladderPush core _ => decide (core < 12)
  | .drainStart a => decide (a.core < 12)
  | .drainComplete core => decide (core < 12)
  | .convertComputedScales core ring => decide (core < 12) && decide (ring < 8)
  | .convertSuppliedScales core ring => decide (core < 12) && decide (ring < 8)
  | .convertSplitTwo core ring => decide (core < 12) && decide (ring < 8)
  | .convertSplitThree core ring => decide (core < 12) && decide (ring < 8)
  | .vectorAdd core ring => decide (core < 12) && decide (ring < 8)
  | .vectorSubtract core ring => decide (core < 12) && decide (ring < 8)
  | .vectorMultiply core ring => decide (core < 12) && decide (ring < 8)
  | .vectorFma core ring => decide (core < 12) && decide (ring < 8)
  | .vectorFmaP0 core ring => decide (core < 12) && decide (ring < 8)
  | .vectorMaximum core ring => decide (core < 12) && decide (ring < 8)
  | .vectorMinimum core ring => decide (core < 12) && decide (ring < 8)
  | .vectorExp core ring => decide (core < 12) && decide (ring < 8)
  | .vectorLog core ring => decide (core < 12) && decide (ring < 8)
  | .vectorRcp core ring => decide (core < 12) && decide (ring < 8)
  | .vectorRsqrt core ring => decide (core < 12) && decide (ring < 8)
  | .vectorSqrt core ring => decide (core < 12) && decide (ring < 8)
  | .vectorSigmoid core ring => decide (core < 12) && decide (ring < 8)
  | .vectorGelu core ring => decide (core < 12) && decide (ring < 8)
  | .vectorSilu core ring => decide (core < 12) && decide (ring < 8)
  | .vectorSoftmax core ring => decide (core < 12) && decide (ring < 8)
  | .vectorLayerNorm core ring => decide (core < 12) && decide (ring < 8)
  | .vectorRmsNorm core ring => decide (core < 12) && decide (ring < 8)
  | .vectorRowSum core ring => decide (core < 12) && decide (ring < 8)
  | .vectorRowMaximum core ring => decide (core < 12) && decide (ring < 8)
  | .vectorUniformRandom core ring => decide (core < 12) && decide (ring < 8)
  | .vectorDropout core ring => decide (core < 12) && decide (ring < 8)
  | .optUpdateAdam core ring => decide (core < 12) && decide (ring < 8)
  | .optUpdateMomentum core ring => decide (core < 12) && decide (ring < 8)
  | .tileMoveLoad core ring => decide (core < 12) && decide (ring < 8)
  | .tileMoveStore core ring => decide (core < 12) && decide (ring < 8)
  | .tileMoveCopy core ring => decide (core < 12) && decide (ring < 8)
  | .opComplete core unit => decide (core < 12) && decide (unit < 3)
  | .fabricPut core ring => decide (core < 12) && decide (ring < 8)
  | .fabricGet core ring => decide (core < 12) && decide (ring < 8)
  | .fabricTilePut core ring => decide (core < 12) && decide (ring < 8)
  | .fabricTileGet core ring => decide (core < 12) && decide (ring < 8)
  | .fabricAtomicAdd core ring => decide (core < 12) && decide (ring < 8)
  | .fabricAtomicMin core ring => decide (core < 12) && decide (ring < 8)
  | .fabricAtomicMax core ring => decide (core < 12) && decide (ring < 8)
  | .fabricCompareSwap core ring => decide (core < 12) && decide (ring < 8)
  | .fabricA48Add core ring => decide (core < 12) && decide (ring < 8)
  | .collStep core ring => decide (core < 12) && decide (ring < 8)
  | .descriptorRetire core ring => decide (core < 12) && decide (ring < 8)
  | .completionRingService core ring => decide (core < 12) && decide (ring < 8)
  | .updateChannelIssue core => decide (core < 12)
  | .contextFence ctx _ => decide (ctx < 512)
  | .residencyPass ctx _ => decide (ctx < 512)
  | .migrationSlotGrant ctx => decide (ctx < 512)
  | .migrationCopyDone ctx tile => decide (ctx < 512) && decide (tile < 2 ^ 32)
  | .migrationCommit ctx tile => decide (ctx < 512) && decide (tile < 2 ^ 32)
  | .migrationAbort ctx tile _ => decide (ctx < 512) && decide (tile < 2 ^ 32)
  | .migrationAbortDone ctx tile => decide (ctx < 512) && decide (tile < 2 ^ 32)
  | .scrubLine store _ _ _ => store.wf
  | .rowSpareSwitch loc _ => loc.rowWf
  | .laneSpare layer slice lane => decide (layer < 4) && decide (slice < 12) && decide (lane < 32)
  | .bankSpare layer slice bank => decide (layer < 4) && decide (slice < 12) && decide (bank < 16)
  | .sliceTemperatureChange layer slice _ => decide (layer < 4) && decide (slice < 12)
  | .reclaimDeadline _ => true
  | .writeReq mac p => decide (mac < 32) && p.wf
  | .readReq mac p _ => decide (mac < 32) && p.wf
  | .tileWrite mac p => decide (mac < 32) && p.wf
  | .tileRead mac p => decide (mac < 32) && p.wf
  | .atomicAdd mac p => decide (mac < 32) && p.wf
  | .atomicMin mac p => decide (mac < 32) && p.wf
  | .atomicMax mac p => decide (mac < 32) && p.wf
  | .compareSwap mac p => decide (mac < 32) && p.wf
  | .a48Add mac p => decide (mac < 32) && p.wf
  | .collective mac p => decide (mac < 32) && p.wf
  | .collShardReady ctx coll inst => decide (ctx < 512) && decide (coll < 2 ^ 32) && decide (inst < 2 ^ 32)
  | .writeDone mac p => decide (mac < 32) && p.wf
  | .readData mac p => decide (mac < 32) && p.wf
  | .atomicDone mac p => decide (mac < 32) && p.wf
  | .collectiveDone mac p => decide (mac < 32) && p.wf
  | .ackPkt mac p => decide (mac < 32) && p.wf
  | .ackTimer flow => decide (flow < 2 ^ 20)
  | .retransmitTimeout flow psn => decide (flow < 2 ^ 20) && decide (psn < 2 ^ 32)
  | .ccInterval flow => decide (flow < 2 ^ 20)
  | .flowProgressTimeout flow => decide (flow < 2 ^ 20)
  | .openFlow mac p => decide (mac < 32) && p.wf
  | .openAccept mac p => decide (mac < 32) && p.wf
  | .openRefuse mac p => decide (mac < 32) && p.wf
  | .closeFlow mac p => decide (mac < 32) && p.wf
  | .closeDone mac p => decide (mac < 32) && p.wf
  | .resyncQuery mac p => decide (mac < 32) && p.wf
  | .resyncState mac p => decide (mac < 32) && p.wf
  | .reclaimNotice mac p => decide (mac < 32) && p.wf
  | .windowRelease mac p => decide (mac < 32) && p.wf
  | .windowLost mac p => decide (mac < 32) && p.wf
  | .probe mac p => decide (mac < 32) && p.wf
  | .probeReply mac p => decide (mac < 32) && p.wf
  | .ctrlAck mac p => decide (mac < 32) && p.wf
  | .ctrlRetransmitTimeout peer _ => decide (peer < 65535)
  | .frameForward mac h _ => decide (mac < 32) && h.wf
  | .arpRequest mac _ _ _ => decide (mac < 32)
  | .neighbourSolicitation mac _ _ _ => decide (mac < 32)
  | .unhandledFrame mac _ => decide (mac < 32)
  | .pauseFrame mac _ => decide (mac < 32)
  | .pfcFrame mac _ _ => decide (mac < 32)
  | .pauseExpiry mac prio => decide (mac < 32) && decide (prio < 8)
  | .pfcRepeat mac prio => decide (mac < 32) && decide (prio < 8)
  | .pfcXonSend mac prio => decide (mac < 32) && decide (prio < 8)
  | .macFrameStart mac => decide (mac < 32)
  | .windowOpen ctx _ => decide (ctx < 512)
  | .windowClose ctx _ => decide (ctx < 512)
  | .lldpTransmit mac => decide (mac < 32)
  | .lldpdu mac _ => decide (mac < 32)
  | .lpiEntry mac => decide (mac < 32)
  | .lpiWakeForWindow mac ctx _ => decide (mac < 32) && decide (ctx < 512)
  | .ptpMessage mac _ => decide (mac < 32)
  | .ptpSyncTimer port => decide (port < 8)
  | .ptpHoldoverEntry _ => true
  | .ppsInEdge _ => true
  | .ppsInLost => true
  | .ppsOutSecond => true
  | .laneRecalStart lane _ => decide (lane < 32)
  | .laneRecalApply lane => decide (lane < 32)
  | .fecMonitorWindow mac _ => decide (mac < 32)
  | .laneLockLoss lane => decide (lane < 32)
  | .linkUpAfterRetirement mac => decide (mac < 32)
  | .retrainingTimeout mac => decide (mac < 32)
  | .parityInstance ctx _ => decide (ctx < 512)
  | .permuteInstance ctx => decide (ctx < 512)
  | .reshardRequest ctx _ => decide (ctx < 512)
  | .reshardBoundary ctx => decide (ctx < 512)
  | .reshardDrainDone ctx => decide (ctx < 512)
  | .reshardPermuteDone ctx => decide (ctx < 512)
  | .reshardCommitBroadcast ctx _ => decide (ctx < 512)
  | .reshardCommit ctx _ => decide (ctx < 512)
  | .planPlacement ctx _ => decide (ctx < 512)
  | .planAccept ctx _ => decide (ctx < 512)
  | .jobStartDecision ctx _ => decide (ctx < 512)
  | .startWaitTimeout ctx => decide (ctx < 512)
  | .jobStepStart ctx => decide (ctx < 512)
  | .prefetch ctx _ => decide (ctx < 512)
  | .boundary ctx => decide (ctx < 512)
  | .validationLossCompare ctx _ _ => decide (ctx < 512)
  | .securingPartDone ctx _ => decide (ctx < 512)
  | .securingCommit ctx => decide (ctx < 512)
  | .generationCommit ctx _ _ _ => decide (ctx < 512)
  | .lossCapture ctx _ => decide (ctx < 512)
  | .recoveryTrigger ctx _ => decide (ctx < 512)
  | .recoveryHalt ctx => decide (ctx < 512)
  | .haltingEnd ctx _ => decide (ctx < 512)
  | .refillComplete ctx _ => decide (ctx < 512)
  | .checkingComplete ctx _ => decide (ctx < 512)
  | .replayCompare ctx _ => decide (ctx < 512)
  | .pfwAssert => true
  | .pfwJournalCommit => true
  | .pfwRelease => true
  | .pfwRejoin => true
  | .shardArrival ctx slot _ => decide (ctx < 512) && decide (slot < 65536)
  | .shardReadback ctx slot _ => decide (ctx < 512) && decide (slot < 65536)
  | .verifyPass ctx => decide (ctx < 512)
  | .shardVerify ctx slot _ => decide (ctx < 512) && decide (slot < 65536)
  | .switchAgree ctx _ => decide (ctx < 512)
  | .puntySwitch ctx => decide (ctx < 512)
  | .switchDeferral d => decide (d.ctx < 512)
  | .openSm2 rq => rq.wf
  | .confirm rq => rq.wf
  | .openPassword rq => rq.wf
  | .passwordLockoutEnd => true
  | .sessionClose rq => rq.wf
  | .contextCreate rq => rq.wf
  | .contextTeardown rq => rq.wf
  | .teardownFlowRelease ctx => decide (ctx < 512)
  | .teardownScrubComplete ctx _ => decide (ctx < 512)
  | .contextQuery rq => rq.wf
  | .setGrants rq => rq.wf
  | .jobLoad rq => rq.wf
  | .jobStart rq _ => rq.wf
  | .jobFeed rq => rq.wf
  | .jobStatus rq => rq.wf
  | .jobCursor rq => rq.wf
  | .jobRecover rq => rq.wf
  | .jobDecideStop rq => rq.wf
  | .jobDecideResume rq => rq.wf
  | .jobValidate rq => rq.wf
  | .jobAddModule rq => rq.wf
  | .jobReport rq => rq.wf
  | .jobStop rq => rq.wf
  | .weightLoad rq _ => rq.wf
  | .weightSwitch rq => rq.wf
  | .weightQuery rq => rq.wf
  | .weightVerifyPeriod rq => rq.wf
  | .tierCapacity rq => rq.wf
  | .tierReadEntries rq => rq.wf
  | .tierMigrate rq => rq.wf
  | .tierWeightRegions rq => rq.wf
  | .lendOffer rq => rq.wf
  | .lendReclaim rq => rq.wf
  | .grantT3 rq => rq.wf
  | .portSet rq => rq.wf
  | .portUpdown rq => rq.wf
  | .portStatus rq => rq.wf
  | .peerTable rq => rq.wf
  | .fwdTable rq => rq.wf
  | .ccParams rq => rq.wf
  | .neighbours rq => rq.wf
  | .recalPeriod rq => rq.wf
  | .snapshotsList rq => rq.wf
  | .secureNow rq => rq.wf
  | .readRecord rq => rq.wf
  | .snapshotsErase rq => rq.wf
  | .timeStatus rq => rq.wf
  | .ptpConfig rq => rq.wf
  | .pps rq => rq.wf
  | .asymmetry rq => rq.wf
  | .setEpoch rq => rq.wf
  | .countersRead rq => rq.wf
  | .countersPermission rq => rq.wf
  | .samplingOff rq => rq.wf
  | .samplingOn rq => rq.wf
  | .samplingArmReplay rq => rq.wf
  | .samplingDisarm rq => rq.wf
  | .sampleRecordWrite core _ => decide (core < 12)
  | .logStatus rq => rq.wf
  | .logRead rq => rq.wf
  | .fwIdentity rq => rq.wf
  | .fwStage rq => rq.wf
  | .fwActivate rq => rq.wf
  | .fwSwitchStart => true
  | .activateTimeout => true
  | .fwSwitchResume => true
  | .fwSwitchWatchdog => true
  | .coreTables rq => rq.wf
  | .coreTablesTake core => decide (core < 12)
  | .attest rq => rq.wf
  | .lifecycleInstallRecord rq _ => rq.wf
  | .lifecycleReadRecord rq => rq.wf
  | .lifecycleChallenge rq => rq.wf
  | .lifecycleToFieldDebug rq => rq.wf
  | .lifecycleToField rq => rq.wf
  | .lifecycleToReturned rq => rq.wf
  | .lifecycleManufactureToField rq => rq.wf
  | .lifecycleToManufacture rq => rq.wf
  | .lifecycleTransitionDone => true
  | .debugNone rq => rq.wf
  | .debugObserve rq => rq.wf
  | .debugInvasive rq => rq.wf
  | .debugChallenge rq => rq.wf
  | .culletRead rq => rq.wf
  | .coreReplace rq => rq.wf
  | .coreMigration core => decide (core < 12)
  | .laneRetire rq => rq.wf
  | .laneAdmit rq => rq.wf
  | .dramRecal rq => rq.wf
  | .dramBankRetrain loc => loc.wf
  | .powerStateActive rq => rq.wf
  | .powerStateIdle rq => rq.wf
  | .powerStateStandby rq => rq.wf
  | .powerCap rq => rq.wf
  | .powerRead rq => rq.wf
  | .powerSample _ _ _ => true
  | .capControlTick => true
  | .thermalTick _ => true
  | .thermalTrip _ => true
  | .handleQuery rq => rq.wf
  | .handleCancel rq => rq.wf
  | .handleExpiry handle => decide (handle < 2 ^ 64)
  | .smbPart => true
  | .smbSerial => true
  | .smbBootStatus => true
  | .smbInput => true
  | .smbTemp => true
  | .smbLogSeq => true
  | .smbAlertStatusWrite _ => true
  | .smbAlertResponse => true
  | .perstAssert _ => true
  | .perstDeassert => true
  | .flrPhysicalFunction => true
  | .flrVirtualFunction vf => decide (1 ≤ vf ∧ vf ≤ 512)
  | .powerOn straps => decide (straps < 4)
  | .romStageEnd _ => true
  | .firmwareStageEnd _ => true
  | .railsStageEnd _ => true
  | .memoryStageEnd _ => true
  | .coresStageEnd _ => true
  | .portsStageEnd => true
  | .moduleReset => true
  | .moduleResetRelease => true
  | .gafferReset _ => true
  | .gafferResetComplete => true
  | .inputRemoved => true
  | .linkUp port _ _ => decide (port < 8)
  | .reservedOpcode core ring => decide (core < 12) && decide (ring < 8)
  | .reservedPacket mac h => decide (mac < 32) && h.wf
  | .reservedCommand rq family code => rq.wf && decide (family < 256) && decide (code < 256)
  | .prefetchRetry ctx _ => decide (ctx < 512)
  | .moduleDmaComplete handle _ => decide (handle < 2 ^ 64)
  | .windowZeroFillComplete window => decide (window < 8)

end Sys2Proof
end

