-- ==== Sys2Proof/Tests/Slice0.lean ====
section
/-! SUPPORT. Small tests: commands that are ill formed, values that the manual prints, and, for every clause of every statement, a state and
operands that meet its hypotheses. -/

namespace Sys2Proof.Tests

set_option Elab.async false

open Sys2Proof Sys2Proof.Machine

/-! ## Builders -/

/-- A descriptor of an opcode and a subop, with fields at byte offsets. -/
def desc (op sb : Nat) (l : List (Nat × Nat)) : Nat := l.foldl (fun a e => a + e.2 * 2 ^ (8 * e.1)) (op + 256 * sb)

/-- Ring 0 of core 0, of 256 slots at 0, running for context 0, holds a descriptor in its next slot. -/
def ringOn (d : Nat) (k : Core := {}) (g : Ring := {}) : State :=
  { mem := Memory.write [] 0 (leBytes 64 d)
    cores := [(0, { k with rings := [(0, { g with valid := true, running := true, size := 256 })] })]
    ctxs := [(0, { state := .running })] }

/-! ## The hypotheses of each statement can be met: one state or more for each clause -/

theorem wit_nop : (ringOn (desc 1 0 [])).Issues 0 0 0x01 0 (desc 1 0 []) := by unfold State.Issues; decide +kernel
theorem wit_end : (ringOn (desc 2 0 [])).Issues 0 0 0x02 0 (desc 2 0 []) := by unfold State.Issues; decide +kernel
theorem wit_jump_inside : (ringOn (desc 3 0 [(8, 255)])).Issues 0 0 0x03 0 (desc 3 0 [(8, 255)]) ∧ fld (desc 3 0 [(8, 255)]) 8 2 < 256 := by unfold State.Issues; decide +kernel
theorem wit_jump_outside : (ringOn (desc 3 0 [(8, 256)])).Issues 0 0 0x03 0 (desc 3 0 [(8, 256)]) ∧ ¬ fld (desc 3 0 [(8, 256)]) 8 2 < 256 := by unfold State.Issues; decide +kernel
theorem wit_cursor : (ringOn (desc 4 0 [(8, 65535), (10, 255)])).Issues 0 0 0x04 0 (desc 4 0 [(8, 65535), (10, 255)]) := by unfold State.Issues; decide +kernel

/-- A barrier one nanosecond ahead of the clock, and one at it. -/
theorem wit_barrier : (ringOn (desc 8 0 [(8, 1)])).Issues 0 0 0x08 0 (desc 8 0 [(8, 1)]) ∧
    (ringOn (desc 8 0 [(8, 1)])).fabricUnits 0 < (ringOn (desc 8 0 [(8, 1)])).barrierTarget 0 (desc 8 0 [(8, 1)]) ∧
    (ringOn (desc 8 0 [])).Issues 0 0 0x08 0 (desc 8 0 []) ∧
    ¬ (ringOn (desc 8 0 [])).fabricUnits 0 < (ringOn (desc 8 0 [])).barrierTarget 0 (desc 8 0 []) := by unfold State.Issues; decide +kernel

theorem wit_barrier_release : ((ringOn 0 {} { out := [{ slot := 0, desc := desc 8 0 [(8, 5)], deadline := some 327680 }] }).ring 0 0).out.find?
    (fun d => !d.done && dOp d.desc = 0x08) = some { slot := 0, desc := desc 8 0 [(8, 5)], deadline := some 327680 } ∧
    (ringOn 0 {} { out := [{ slot := 0, desc := desc 8 0 [(8, 5)], deadline := some 327680 }] }).evTurn 0 3 0 (0 + ceilDiv 327680 65536) = true := by decide +kernel

theorem wit_wait_at_least : (ringOn (desc 9 0 [])).Issues 0 0 0x09 0 (desc 9 0 []) ∧
    (ringOn (desc 9 0 [(12, 1)])).Issues 0 0 0x09 0 (desc 9 0 [(12, 1)]) ∧ serialGe 0 0 = true ∧ serialGe 0 1 = false := by unfold State.Issues; decide +kernel
theorem wit_wait_equal : (ringOn (desc 9 1 [])).Issues 0 0 0x09 1 (desc 9 1 []) ∧
    (ringOn (desc 9 1 [(12, 1)])).Issues 0 0 0x09 1 (desc 9 1 [(12, 1)]) := by unfold State.Issues; decide +kernel
theorem wit_wait_timeout : ((ringOn 0 {} { out := [{ slot := 0, desc := desc 9 0 [(12, 1)], deadline := some 65536 }] }).ring 0 0).out.find?
    (fun d => !d.done && dOp d.desc = 0x09) = some { slot := 0, desc := desc 9 0 [(12, 1)], deadline := some 65536 } := by decide +kernel

/-- The oldest descriptor is done: with no record needed, and with one on a completion ring that has a place. -/
theorem wit_retire : ((ringOn 0 {} { out := [{ slot := 0, desc := 1, done := true }] }).ring 0 0).out = [{ slot := 0, desc := 1, done := true }] ∧
    OutDesc.needsRecord { slot := 0, desc := 1, done := true } = false ∧
    OutDesc.needsRecord { slot := 0, desc := desc 1 0 [(4, 8)], done := true } = true ∧ (([] : List ComplRec)).length < 1024 := by decide +kernel
theorem wit_compl_service : (ringOn 0).life.fwSwitch = false := by decide +kernel
theorem wit_reserved_opcode : subopOk (dOp 0) (dSub 0) = false ∧ (ringOn 0).fetchDesc 0 0 = 0 ∧ (ringOn 0).canIssueDesc 0 0 0 = true ∧
    (ringOn 0).turn 0 0 = true := by decide +kernel

/-! The vector, update and move units -/

/-- A CONVERT of 4 rows of 64 columns from binary32 at 4,096 to KB8 at 65,536 with scales at 131,072; for the split subops to KB16. -/
def conv (sb : Nat) : Nat :=
  desc 0x20 sb ([(8, 4096), (12, 65536), (16, tsNone), (20, if sb < 2 then 131072 else tsNone), (24, 64), (28, 4), (30, 6),
    (31, if sb < 2 then 0 else 1), (36, tsNone)])

/-- A VECTOR operation of 1 row of 64 columns with the operands that its subop uses. -/
def vec (sb : Nat) : Nat :=
  let u := vectorUses sb
  desc 0x30 sb [(8, if u.1 then 4096 else tsNone), (12, if u.2.1 then 8192 else tsNone), (16, if u.2.2 then 12288 else tsNone), (20, 65536), (24, 64),
    (28, 1), (30, 6), (31, 6), (48, tsNone)]

/-- An OPT_UPDATE in binary32 state with its hyperparameters at 0x8000. -/
def opt (sb : Nat) : Nat :=
  desc 0x38 sb [(8, 20480), (12, 8192), (16, 24576), (20, 28672), (24, tsNone), (28, 64), (32, 32768), (36, tsNone), (40, 4)]

theorem wit_convert : ∀ sb ∈ [0, 1, 2, 3], (ringOn (conv sb)).Issues 0 0 0x20 sb (conv sb) ∧
    (ringOn (conv sb)).touchOk 0 0 ((ringOn (conv sb)).touch 0 0 (conv sb)) = true := by unfold State.Issues; decide +kernel
/-- A destination that runs over the end of the tile store is an address that only the check at issue refuses. -/
theorem wit_convert_address : (ringOn (desc 0x20 1 [(8, 4096), (12, 8388544), (16, tsNone), (20, tsUnit), (24, 128), (28, 4), (30, 6), (36, tsNone)])).touchOk 0 0
    ((ringOn 0).touch 0 0 (desc 0x20 1 [(8, 4096), (12, 8388544), (16, tsNone), (20, tsUnit), (24, 128), (28, 4), (30, 6), (36, tsNone)])) = false := by
  decide +kernel
theorem wit_vector : ∀ sb ∈ vectorSubops, (ringOn (vec sb)).Issues 0 0 0x30 sb (vec sb) ∧
    (ringOn (vec sb)).touchOk 0 0 ((ringOn (vec sb)).touch 0 0 (vec sb)) = true := by unfold State.Issues; decide +kernel
theorem wit_opt : ∀ sb ∈ [0, 1], (ringOn (opt sb)).Issues 0 0 0x38 sb (opt sb) ∧ ((ringOn (opt sb)).ctx 0).findUpdate 0 (opt sb) = none ∧
    (ringOn (opt sb)).touchOk 0 0 ((ringOn (opt sb)).touch 0 0 (opt sb)) = true := by unfold State.Issues; decide +kernel

/-- Core 0 with an operation on each unit, whose descriptor is in flight. -/
def unitsOn (e : Eff) (x : Nat := 0) : State :=
  let u : UnitOp := { ring := 0, slot := 0, ctx := x, due := 10, effs := [e], status := 0, flags := 1 }
  { ringOn 0 { vec := some u, mov := some u, chan := some { ctx := x, layer := 1, param := 64, effs := [e], status := 0, flags := 0, due := 9 } }
      { out := [{ slot := 0, id := 0, desc := 0x30 }], issued := 1 } with
    ctxs := [(0, { state := .running, tiles := [(5, { valid := true, state := 2, tier := 1, frame := 640 })] })] }

theorem wit_op_complete : ((unitsOn (.ts 64 [1#8])).core 0).vec.isSome = true ∧ ((unitsOn (.ts 64 [1#8])).core 0).mov.isSome = true ∧
    ((unitsOn (.ts 64 [1#8])).core 0).chan.isSome = true ∧ ((unitsOn (.ts 64 [1#8])).toCycle 10).opStalls 0 0 [.ts 64 [1#8]] = false ∧
    ((unitsOn (.ts 64 [1#8])).toCycle 9).opStalls 0 0 [.ts 64 [1#8]] = false ∧
    ((unitsOn (.ts 64 [1#8])).ring 0 0).out = [{ slot := 0, id := 0, desc := 0x30 }] := by decide +kernel
theorem wit_op_stalls : ((unitsOn (.tile 5 0 [1#8])).core 0).vec.isSome = true ∧
    ((unitsOn (.tile 5 0 [1#8])).toCycle 10).opStalls 0 0 [.tile 5 0 [1#8]] = true := by decide +kernel

/-- A pending update of context 0 waits on an idle core, its tensors in the tile store; and one whose state leaves it. -/
def updOn (d : Nat) : State :=
  { ringOn 0 with ctxs := [(0, { state := .running, updates := [{ layer := 1, param := 20480, step := 0, desc := d, core := 0, ring := 0 }] })] }
def optOut : Nat := desc 0x38 0 [(8, 20480), (12, 8388544), (16, 24576), (20, 28672), (24, tsNone), (28, 64), (32, 32768), (36, tsNone), (40, 4)]
theorem wit_update_channel : ∀ d ∈ [opt 0, optOut], (updOn d).nextUpdate 0 = some (0, { layer := 1, param := 20480, step := 0, desc := d, core := 0, ring := 0 }) ∧
    (updOn d).vecIdle 0 = true ∧ (updOn d).noHazard 0 0 (optTouch d) = true ∧ ((updOn d).ctx 0).job.boundaryDue = false ∧
    ((updOn d).touchOk 0 0 (optTouch d) = decide (d = opt 0)) := by decide +kernel

/-- TILE_MOVE of tiles 3 and 4, mapped, between the context and the tile store, and onto tiles 7 and 8. -/
def move (sb : Nat) : Nat :=
  desc 0x40 sb [(8, 0xFFFF * 2 ^ 48 + 3 * 65536), (16, if sb = 2 then tsNone else 131072), (20, 2), (24, 65536), (32, if sb = 2 then 0xFFFF * 2 ^ 48 + 7 * 65536 else 0)]
def moveOn (sb : Nat) (last : Nat) : State :=
  let t (f : Nat) : TileEntry := { valid := true, tier := 1, frame := 640 + f }
  { ringOn (move sb) with ctxs := [(0, { state := .running, tiles := [(3, t 3), (4, t 4), (7, t 7), (last, t 8)] })] }
theorem wit_tile_move : ∀ sb ∈ [0, 1, 2], (moveOn sb 8).Issues 0 0 0x40 sb (move sb) ∧
    (moveOn sb 8).touchOk 0 0 ((moveOn sb 8).touch 0 0 (move sb)) = true ∧
    (((moveOn sb 8).touch 0 0 (move sb)).tileReads ++ ((moveOn sb 8).touch 0 0 (move sb)).tileWrites).any ((moveOn sb 8).revoked 0) = false := by
  unfold State.Issues; decide +kernel
/-- The second destination tile lies in a window that its lender has taken back. -/
def moveLost : State :=
  { moveOn 2 9 with ctxs := [(0, { state := .running, tiles := [(3, { valid := true, tier := 1, frame := 643 }), (4, { valid := true, tier := 1, frame := 644 }),
      (7, { valid := true, tier := 1, frame := 647 }), (8, { valid := true, tier := 3, frame := 8, lender := 7 })] })] }
theorem wit_tile_move_revoked : moveLost.Issues 0 0 0x40 2 (move 2) ∧ moveLost.touchOk 0 0 (moveLost.touch 0 0 (move 2)) = true ∧
    ((moveLost.touch 0 0 (move 2)).tileReads ++ (moveLost.touch 0 0 (move 2)).tileWrites).any (moveLost.revoked 0) = true := by
  unfold State.Issues; decide +kernel
theorem wit_tile_move_address : (moveOn 2 9).Issues 0 0 0x40 2 (move 2) ∧ (moveOn 2 9).touchOk 0 0 ((moveOn 2 9).touch 0 0 (move 2)) = false := by
  unfold State.Issues; decide +kernel

/-! The array unit -/

/-- An ARRAY_MUL of 8 rows, 2 columns and K 256 in KB16, with its epilogue record at 0x800. -/
def mul (m : Nat := 8) : Nat :=
  desc 0x10 0 [(8, 4096), (12, 131072), (16, tsNone), (20, tsNone), (24, tsNone), (28, 2048), (32, tsNone), (36, tsNone), (40, m), (42, 2), (44, 256), (52, 1), (53, 1)]
def epi : Nat := desc 0 0 [(0, 65536), (6, 6), (8, tsNone), (12, tsNone), (16, tsNone), (20, tsNone)]
def mulOn (m : Nat := 8) (k : Core := {}) : State :=
  let s := ringOn (mul m) k { out := [{ slot := 255, desc := 0x10 }] }
  { s with mem := Memory.write s.mem 2048 (leBytes 64 epi) }
def theOp : ArrOp := { ring := 0, slot := 0, ctx := 0, desc := mul, epi := epi }

/-- The op enters an idle unit, waits behind another as the look-ahead op, or ends at issue because its M is 0. -/
theorem wit_array_mul : (mulOn).Issues 0 0 0x10 0 mul ∧ (mulOn).arrStatus 0 0 mul = none ∧ ((mulOn).core 0).arr = none ∧ 0 < ((mulOn).arrOp 0 0 0 0 mul).total := by
  unfold State.Issues; decide +kernel
theorem wit_array_mul_behind : (mulOn 8 { arr := some theOp }).Issues 0 0 0x10 0 mul ∧ (mulOn 8 { arr := some theOp }).arrStatus 0 0 mul = none := by
  unfold State.Issues; decide +kernel
theorem wit_array_mul_ends : (mulOn 0).Issues 0 0 0x10 0 (mul 0) ∧ (mulOn 0).arrStatus 0 0 (mul 0) = some 0 := by unfold State.Issues; decide +kernel
theorem wit_parison_start : ((mulOn 8 { arr := some theOp }).core 0).load = none ∧ (mulOn 8 { arr := some theOp }).nextLoad 0 = some (theOp, 0) := by
  decide +kernel
def loadOn : Core := { arr := some theOp, load := some { ring := 0, slot := 0, ctx := 0, block := 0, readyAt := 512, sets := [{ ctx := some 0 }] } }
theorem wit_parison_done : ((mulOn 8 loadOn).core 0).load.isSome = true ∧ ((mulOn 8 loadOn).core 0).findOp 0 0 = some theOp := by decide +kernel
/-- An op whose first block is loaded, and one of two blocks whose only group of rows is fully masked. -/
def loadedOp : ArrOp := { theOp with loaded := 1 }
def maskedOp : ArrOp := { theOp with loaded := 1, desc := mul 8 + 256 * 2 ^ (8 * 44), mask := [0#8] }
theorem wit_switch : ∀ a ∈ [loadedOp, maskedOp], ((mulOn 8 { arr := some a, parison := [(0, { ctx := some 0 })] }).core 0).arr = some a ∧ a.streaming = false ∧
    (mulOn 8 { arr := some a, parison := [(0, { ctx := some 0 })] }).direct 0 a = false ∧
    (mulOn 8 { arr := some a, parison := [(0, { ctx := some 0 })] }).provided 0 a a.block = true ∧
    (∀ j < arraysOf a.desc, (((mulOn 8 { arr := some a, parison := [(0, { ctx := some 0 })] }).core 0).parison.getOr j {}).ctx = some a.ctx) := by decide +kernel
theorem wit_switch_masked : rowSeq loadedOp.mask (fld loadedOp.desc 40 2) ≠ [] ∧ rowSeq maskedOp.mask (fld maskedOp.desc 40 2) = [] ∧
    maskedOp.block + 1 < maskedOp.total := by decide +kernel
/-- Rows 0 to 7 of the first group: the first row enters, and the last with the chain of an earlier entry ended. -/
def streamOp (row : Nat) : ArrOp := { theOp with loaded := 1, streaming := true, row := row, chain := [(7, 3)] }
def streamOn (row : Nat) : State := mulOn 8 { arr := some (streamOp row), n := 64 }
theorem wit_row_entry : ∀ row ∈ [0, 7], ((streamOn row).core 0).arr = some (streamOp row) ∧ (streamOp row).nextRow = some (row, 0, 1) ∧
    (((streamOn row).startUp 0).core 0).rowHeld (streamOp row) row (((streamOn row).startUp 0).slotAt 0) = false := by decide +kernel
def pushOn : Core := { arr := some theOp, inflight := [{ set := 0, row := 0, entry := 0, sums := [1#48, 2#48], due := 40 }] }
theorem wit_push : ((mulOn 8 pushOn).core 0).inflight.length = 1 ∧ ((mulOn 8 pushOn).core 0).ownerOf 0 = some theOp := by decide +kernel
theorem wit_drain_start : ((mulOn 8 { waiting := [theOp] }).core 0).waiting = [theOp] ∧ ((mulOn 8 { waiting := [theOp] }).core 0).drains = [] ∧
    (∀ q ∈ ((mulOn 8 { waiting := [theOp] }).core 0).inflight, q.set ≠ 0) := by decide +kernel
def drainOn : State := mulOn 8 { drains := [{ op := theOp, due := 90, writes := [(65536, [1#8, 2#8])], flags := 0 }] }
theorem wit_drain_done : (drainOn.core 0).drains.length = 1 ∧ (drainOn.toCycle 90).opStalls 0 0 [.ts 65536 [1#8, 2#8]] = false ∧
    (drainOn.ring 0 0).out = [{ slot := 255, desc := 0x10 }] := by decide +kernel

/-! Current control -/

def coreOn (k : Core) : State := { cores := [(3, k)] }
theorem wit_empty_slot : ((coreOn { n := 64 }).core 3).n ≠ 0 := by decide +kernel
theorem wit_ramp_down : 97 ≤ ((coreOn { n := 64, empties := 97 }).core 3).empties ∧ ((coreOn { n := 64, empties := 97 }).core 3).rampDown = false ∧
    ((coreOn { n := 64, empties := 97 }).core 3).n ≠ 0 := by decide +kernel
theorem wit_lehr_step : ((coreOn { n := 1, rampDown := true }).core 3).rampDown = true ∧ ((coreOn { n := 1, rampDown := true }).core 3).n ≠ 0 := by decide +kernel
theorem wit_ramp_up : ((coreOn { n := 63, rampUp := true }).core 3).rampUp = true ∧ (coreOn { n := 63, rampUp := true }).ceiling 3 = 64 ∧
    ((coreOn { n := 63, rampUp := true }).core 3).n < 64 := by decide +kernel
theorem wit_ceiling : ({ coreOn { n := 64 } with power := { nT := 60 } } : State).ceiling 3 < (({ coreOn { n := 64 } with power := { nT := 60 } } : State).core 3).n := by
  decide +kernel
/-- A barrier at 100,000 ns heads ring 0 and an array multiply stands in the slot behind it. -/
def rampOn : State :=
  { mem := Memory.write [] 64 (leBytes 64 mul)
    cores := [(0, { rings := [(0, { valid := true, running := true, size := 256, next := 1,
                                    out := [{ slot := 0, desc := desc 8 0 [(8, 100000)], deadline := some 6553600000 }] })] })]
    ctxs := [(0, { state := .running })] }
theorem wit_pre_ramp : rampOn.firstTarget 0 = some (0, 6553600000) ∧ (rampOn.core 0).preRamp ≠ some (6553600000, 0) ∧
    rampOn.evTurn 0 5 0 ((rampOn.ctx 0).job.epoch + rampOn.rampStart 0 6553600000) = true := by decide +kernel
/-- The slot is empty because no row is ready, or because its gather fetch has lost; and neither core pre-ramps. -/
theorem wit_slot_free : (coreOn { n := 64 }).rowReady 3 = false ∧ (coreOn { n := 64, empties := 97 }).preRamping 3 = none ∧
    ((coreOn { n := 64 }).toCycle ((coreOn { n := 64 }).slotAt 3)).preRamping 3 = none := by decide +kernel
/-- A row of one weight set whose parity bits match it. -/
def sweptOn : State := coreOn { active := [(0, { ctx := some 0 })] }
theorem wit_sweep : (∀ e ∈ (sweptOn.core 3).active, e.2.rowBad (sweptOn.core 3).sweepRow = false) ∧ (sweptOn.core 3).active.find 0 = some { ctx := some 0 } := by decide +kernel

/-! FABRIC descriptors -/

/-- A FABRIC descriptor toward tile 3 of a device: 64 bytes for put and get, one tile, or a word; flow 300. -/
def fabric (dev sb : Nat) : Nat :=
  desc 0x50 sb [(8, dev * 2 ^ 48 + 3 * 65536), (16, if 8 ≤ sb then tsNone else 131072), (20, if sb < 2 then 64 else if sb < 4 then 1 else 0),
    (24, 300), (32, if 8 ≤ sb then 5 else 0), (40, if sb = 11 then 9 else 0)]
def fabOn (dev sb : Nat) (st : FlowState := .open_) (fence : Bool := false) : State :=
  { ringOn (fabric dev sb) with
    ctxs := [(0, { state := .running, tiles := [(3, { valid := true, tier := 1, frame := 640 })] })]
    flows := [(300, { state := st, ctx := 0, peer := 7, peerFlow := 400, drainFence := fence, paths := [{ port := 0 }] })] }
def fabSubs : List Nat := [0, 1, 2, 3, 8, 9, 10, 11, 12]

theorem wit_fabric_here : ∀ sb ∈ fabSubs, ∀ dev ∈ [if sb < 3 then 0xFFFF else 0], (fabOn dev sb).Issues 0 0 0x50 sb (fabric dev sb) ∧
    (fabOn dev sb).rangesOk 0 ((fabOn dev sb).touch 0 0 (fabric dev sb)) = true ∧
    (fabOn dev sb).fabStatus 0 (fabric dev sb) = 0 ∧ (fabOn dev sb).fabStalls 0 0 (fabric dev sb) = false := by unfold State.Issues; decide +kernel
theorem wit_fabric_peer : ∀ sb ∈ fabSubs, (fabOn 7 sb).Issues 0 0 0x50 sb (fabric 7 sb) ∧
    (fabOn 7 sb).rangesOk 0 ((fabOn 7 sb).touch 0 0 (fabric 7 sb)) = true ∧ ((fabOn 7 sb).flow 300).peer = 7 ∧
    ((fabOn 7 sb).flow 300).planning = false := by
  unfold State.Issues; decide +kernel
/-- A put and a get whose local range runs over the end of the tile store. -/
def fabricFar (sb : Nat) : Nat := desc 0x50 sb [(8, 7 * 2 ^ 48), (16, 8388544), (20, 128), (24, 300)]
theorem wit_fabric_address : ∀ sb ∈ [0, 1], (ringOn (fabricFar sb)).Issues 0 0 0x50 sb (fabricFar sb) ∧
    (ringOn (fabricFar sb)).rangesOk 0 ((ringOn (fabricFar sb)).touch 0 0 (fabricFar sb)) = false := by unfold State.Issues; decide +kernel
theorem wit_fabric_flow : ∀ st ∈ [FlowState.open_, .draining, .failed, .closed], (fabOn 7 0 st).Issues 0 0 0x50 0 (fabric 7 0) ∧
    ((fabOn 7 0 st).flows.find 300).isSome = true ∧ ((fabOn 7 0 st).flow 300).state = st := by unfold State.Issues; decide +kernel

/-! The collective engine -/

/-- Record 2 of a context: an operation of two members, the module at position 0, the peer's flow 300. -/
def rec2 (type : Nat) (pos : Nat := 0) : CollRec :=
  { type := type, op := 0, inFmt := 1, outFmt := 1, queue := 3, saturate := false, p := 2, myPos := pos, window := 0, core := 0, event := 0, epoch := 0, stage := 0
    maxLen := 4096, flagAddr := tsNone, members := [(0, 0), (7, 300)] }
def step (len : Nat := 128) (inst : Nat := 0) (dst : Nat := 131072) : Nat := desc 0x60 0 [(8, 2), (12, inst), (16, 65536), (20, dst), (24, len)]
def collOn (d : Nat) (k : CollRec) (i : List (Nat × CollInst) := []) (g : Ring := {}) : State :=
  { ringOn d {} g with
    ctxs := [(0, { state := .running, colls := [(2, k)], insts := i })]
    flows := [(300, { state := .open_, ctx := 0, peer := 7, peerFlow := 400, paths := [{ port := 0 }] })] }

theorem wit_coll_step_refused : (ringOn step).Issues 0 0 0x60 0 step ∧ ((ringOn step).ctx 0).colls.find 2 = none ∧
    (collOn (step 128 1) (rec2 1)).Issues 0 0 0x60 0 (step 128 1) ∧ (rec2 1).stepStatus 0 (step 128 1) = 0x10 ∧
    (collOn (step 128 0 8388544) (rec2 1)).Issues 0 0 0x60 0 (step 128 0 8388544) ∧ (rec2 1).stepStatus 0 (step 128 0 8388544) = 0x11 ∧
    (collOn (step 128 0 4096) (rec2 1)).Issues 0 0 0x60 0 (step 128 0 4096) ∧ (rec2 1).stepStatus 0 (step 128 0 4096) = 0 ∧
    (collOn (step 128 0 4096) (rec2 1)).rangesOk 0 ((collOn (step 128 0 4096) (rec2 1)).touch 0 0 (step 128 0 4096)) = false := by
  unfold State.Issues; decide +kernel
theorem wit_coll_step_empty : (collOn (step 0) (rec2 1)).Issues 0 0 0x60 0 (step 0) ∧ (rec2 1).stepStatus 0 (step 0) = 0 ∧ fld (step 0) 24 4 = 0 ∧
    (collOn (step 0) (rec2 1)).rangesOk 0 ((collOn (step 0) (rec2 1)).touch 0 0 (step 0)) = true := by
  unfold State.Issues; decide +kernel
theorem wit_coll_step : ∀ type ∈ [1, 2, 3, 4, 5], (collOn step (rec2 type)).Issues 0 0 0x60 0 step ∧ (rec2 type).stepStatus 0 step = 0 ∧ fld step 24 4 ≠ 0 ∧
    (collOn step (rec2 type)).rangesOk 0 ((collOn step (rec2 type)).touch 0 0 step) = true ∧
    ((collOn step (rec2 type)).ctx 0).inst 2 0 = none ∧ (collOn step (rec2 type)).memberLost 0 (rec2 type) = false ∧ 2 ≤ (rec2 type).p := by
  unfold State.Issues; decide +kernel
def shardInst (unanswered : Nat) : CollInst :=
  let b (p : Nat) : CollBlock := { pos := p, kind := 0, len := 64, got := 64, data := List.replicate 64 0#8 }
  { issued := true, src := 65536, dst := 131072, len := 128, blocks := [b 0, b 1], unanswered := unanswered }
theorem wit_shard_ready : ∀ n ∈ [0, 1], ((collOn step (rec2 2) [(2 * 2 ^ 32, shardInst n)] { out := [{ slot := 0, desc := step }] }).ctx 0).inst 2 0 = some (shardInst n) ∧
    (rec2 2).reduces = true ∧ (List.range 2).all (fun q => (shardInst n).has q 0) = true ∧ ((rec2 2).expects.all (fun q => (shardInst n).has q.1 q.2)) = true := by
  decide +kernel
def parityOn : State :=
  { ctxs := [(0, { state := .running, sec := { current := some { mode := 1, parity := true, generation := 1 } } })]
    flows := [(300, { state := .open_, ctx := 0, peer := 7, peerFlow := 400, paths := [{ port := 0 }] })] }
def share : StripeSend := { coll := 4, slot := 0, tile := 3, role := .encode false 0, flow := 300, delta := false }
/-- A fenced member that is being refilled, whose target was taken with parity. -/
theorem wit_parity_rebuild : (({ fenced := true, recov := { state := .refilling, target := some { mode := 1, parity := true, generation := 1 } } } : Ctx).parityOf).isSome = true ∧
    (parityOn.ctx 0).parityOf = some { mode := 1, parity := true, generation := 1 } := by decide +kernel
theorem wit_parity : (parityOn.ctx 0).sec.current.isSome = true ∧ SecRec.erasure { mode := 1, parity := true, generation := 1 } = true ∧ (parityOn.ctx 0).fenced = false ∧
    (∀ p ∈ [share], (parityOn.flow p.flow).ctx = 0 ∧ (parityOn.flow p.flow).state = .open_) ∧ parityOn.trkRoom 0 1 true = true ∧
    ({ parityOn with ctxs := [(0, { parityOn.ctx 0 with grants := { slots := 0 } })] } : State).trkRoom 0 1 true = false := by decide +kernel

/-! Packets -/

/-- A packet from device 7 to flow 300 of this module with its HCRC. -/
def pk (op : Nat) (ext payload : List Byte := []) (flags : Nat := 192) (flow : Nat := 300) (psn : Nat := 100) : Pkt :=
  (sealHdr (hdrOf op { flags := flags, dstDev := 0, srcDev := 7, dstFlow := flow, psn := psn, ext := ext, payload := payload })).p

/-- The extension header of a memory request: address, event, enable, length. -/
def reqExt (addr len : Nat) : List Byte := beBytes 6 addr ++ zeros 2 ++ beBytes 4 len ++ zeros 4
/-- That of an atomic: address, event, enable, operand, compare. -/
def atExt (addr operand compare : Nat) : List Byte := beBytes 6 addr ++ zeros 2 ++ beBytes 8 operand ++ beBytes 8 compare ++ zeros 8
/-- That of a response: PSN of its request, STATUS, offset. -/
def rspExt (psn st : Nat) : List Byte := beBytes 4 psn ++ beBytes 1 st ++ zeros 11
def cExt (inst kind : Nat) (fmt : Nat := 0xFF) : List Byte :=
  beBytes 4 2 ++ beBytes 4 inst ++ beBytes 2 1 ++ beBytes 1 kind ++ beBytes 1 fmt ++ zeros 4 ++ zeros 4 ++ beBytes 4 64

/-- Flow 300 of context 0 toward flow 400 of device 7, expecting PSN 100, with tile 3 mapped, a record and an entry of the tracker. -/
def flowOn (kind : TrkKind) (k : CollRec := rec2 3) (i : List (Nat × CollInst) := []) (job : Job := {}) : State :=
  { ctxs := [(0, { state := .running, tiles := [(3, { valid := true, tier := 1, frame := 640 })], colls := [(2, k)], insts := i, job := job })]
    cores := [(0, { rings := [(0, { out := [{ slot := 0, id := 5, desc := 0x50 }] })] })]
    trk := [(9, { ctx := 0, core := 0, ring := 0, slot := 5, flow := 300, psn := 50, kind := kind, local_ := 131072, length := 64 })]
    flows := [(300, { state := .open_, ctx := 0, peer := 7, peerFlow := 400, paths := [{ port := 0 }], expected := 100, exec := 100, una := 50, nextPsn := 60
                      tx := [{ psn := 50, op := 1, cls := 0, p := { dstDev := 7, srcDev := 0, dstFlow := 400, psn := 50 }, sentAt := some 1000 }]
                      firstUnackedNs := some 5000 })] }

theorem wit_write : ∀ op ∈ [1, 3], pktFirst (pk op (reqExt 196608 65536) [1#8]) = true ∧ (flowOn .put).openStatus 300 op (pk op (reqExt 196608 65536) [1#8]) = 0 ∧
    (flowOn .put).openStatus 300 1 (pk 1 (reqExt 196672 64) [1#8]) = 0 := by decide +kernel
/-- Each of the packets of these tests arrives in order on the flow of a state, with nothing to wait for. -/
theorem arrives {s : State} {op : Nat} {p : Pkt} (h : (p.hcrc = hcrcOf (hdrOf op p) ∧ hdrOk (hdrOf op p) = true ∧ extOk op p.ext = true ∧ p.dstDev = s.deviceId ∧
    (s.flow p.dstFlow).accepts p.srcDev = true ∧ s.life.debug ≠ 2 ∧ p.psn = (s.flow p.dstFlow).expected ∧ p.psn = (s.flow p.dstFlow).exec) ∧
    (s.flow p.dstFlow).got = [] ∧ (s.flow p.dstFlow).held = [] ∧ (s.flow p.dstFlow).msgs = [] ∧ s.tooEarly (s.flow p.dstFlow).ctx op p = false ∧
    s.stallTiles p.dstFlow { psn := p.psn, op := op, p := p } = []) : s.Arrives op p :=
  ⟨h.1.1, h.1.2.1, h.1.2.2.1, h.1.2.2.2.1, h.1.2.2.2.2.1, fun _ => h.1.2.2.2.2.2.1, h.1.2.2.2.2.2.2.1, h.1.2.2.2.2.2.2.2, h.2.1, h.2.2.1, h.2.2.2.1,
    h.2.2.2.2.1, h.2.2.2.2.2⟩
theorem wit_write_arrives : (flowOn .put).Arrives 1 (pk 1 (reqExt 196608 65536) [1#8]) := arrives (by decide +kernel)
theorem wit_tile_write_arrives : (flowOn .put).Arrives 3 (pk 3 (reqExt 196608 65536) [1#8]) := arrives (by decide +kernel)
theorem wit_read_arrives : (flowOn .put).Arrives 2 (pk 2 (reqExt 196608 64)) := arrives (by decide +kernel)
theorem wit_tile_read_arrives : (flowOn .put).Arrives 4 (pk 4 (reqExt 196608 65536)) := arrives (by decide +kernel)
theorem wit_read : (flowOn .put).openStatus 300 2 (pk 2 (reqExt 196608 64)) = 0 ∧ (flowOn .put).openStatus 300 4 (pk 4 (reqExt 196608 65536)) = 0 := by decide +kernel
theorem wit_atomic : ∀ op ∈ [8, 9, 10, 11, 12], (flowOn .put).atomStatus 0 op 262136 5 = 0 ∧ be (atExt 262136 5 0) 7 1 < 2 ∧ be (atExt 262136 5 0) 24 8 = 0 ∧
    be (atExt 262136 5 0) 16 8 = 0 ∧ ((flowOn .put).flow 300).state = .open_ := by decide +kernel
theorem wit_atomic_arrives : (flowOn .put).Arrives 8 (pk 8 (atExt 262136 5 0)) := arrives (by decide +kernel)
theorem wit_a48_add_arrives : (flowOn .put).Arrives 12 (pk 12 (atExt 262136 5 0)) := arrives (by decide +kernel)
theorem wit_compare_swap_arrives : (flowOn .put).Arrives 11 (pk 11 (atExt 262136 5 9)) := arrives (by decide +kernel)

/-- A block that is staged, one that is placed in an issued run, one for parity and one for a permute. -/
theorem wit_collective_arrives : (flowOn .put).Arrives 0x20 (pk 0x20 (cExt 0 2) [1#8]) := arrives (by decide +kernel)
theorem wit_parity_arrives : (flowOn .put).Arrives 0x20 (pk 0x20 (cExt 0 3) [1#8]) := arrives (by decide +kernel)
theorem wit_permute_arrives : (flowOn .put).Arrives 0x20 (pk 0x20 (cExt 0 4) [1#8]) := arrives (by decide +kernel)
theorem wit_collective : ∀ k ∈ [2, 3, 4], pktFirst (pk 0x20 (cExt 0 k) [1#8]) = true ∧ (flowOn .put).collStatus 300 (pk 0x20 (cExt 0 k) [1#8]) = 0 ∧
    ((flowOn .put).ctx 0).inst 2 0 = none := by decide +kernel
def runInst (n : Nat) : CollInst := { issued := true, core := 0, ring := 0, slot := 5, src := 65536, dst := 131072, len := 64, unanswered := n }
theorem wit_collective_placed : (flowOn .put (rec2 3) [(2 * 2 ^ 32, runInst 1)]).collStatus 300 (pk 0x20 (cExt 0 2) [1#8]) = 0 ∧
    ((flowOn .put (rec2 3) [(2 * 2 ^ 32, runInst 1)]).ctx 0).inst 2 0 = some (runInst 1) ∧ 0 < (runInst 1).unanswered := by decide +kernel
theorem wit_placed_arrives : (flowOn .put (rec2 3) [(2 * 2 ^ 32, runInst 1)]).Arrives 0x20 (pk 0x20 (cExt 0 2) [1#8]) := arrives (by decide +kernel)

theorem wit_tracker : ∀ k ∈ [TrkKind.put, .get, .atomic], ((flowOn k).findTrk 300 50).map (fun e => e.2.kind) = some k ∧
    ((flowOn k).ring 0 0).out = [{ slot := 0, id := 5, desc := 0x50 }] := by decide +kernel
theorem wit_write_done : ∀ st ∈ [0, 7], be (rspExt 50 st) 4 1 = st ∧ be (rspExt 50 st) 0 4 = 50 := by decide +kernel
theorem wit_write_done_arrives : (flowOn .put).Arrives 0x81 (pk 0x81 (rspExt 50 0)) := arrives (by decide +kernel)
theorem wit_write_refused_arrives : (flowOn .put).Arrives 0x81 (pk 0x81 (rspExt 50 7)) := arrives (by decide +kernel)
theorem wit_atomic_done_arrives : (flowOn .atomic).Arrives 0x88 (pk 0x88 (rspExt 50 0) (zeros 8)) := arrives (by decide +kernel)
theorem wit_atomic_refused_arrives : (flowOn .atomic).Arrives 0x88 (pk 0x88 (rspExt 50 1)) := arrives (by decide +kernel)
theorem wit_read_data_arrives : (flowOn .get).Arrives 0x82 (pk 0x82 (rspExt 50 0) (List.replicate 64 1#8)) := arrives (by decide +kernel)
theorem wit_read_refused_arrives : (flowOn .get).Arrives 0x82 (pk 0x82 (rspExt 50 1)) := arrives (by decide +kernel)
theorem wit_coll_done_arrives : (flowOn (.coll 2 0) (rec2 3) [(2 * 2 ^ 32, runInst 2)]).Arrives 0xA0 (pk 0xA0 (rspExt 50 0)) := arrives (by decide +kernel)
theorem wit_coll_refused_arrives : (flowOn (.coll 2 0) (rec2 3) [(2 * 2 ^ 32, runInst 2)]).Arrives 0xA0 (pk 0xA0 (rspExt 50 5)) := arrives (by decide +kernel)
theorem wit_coll_done : ((flowOn (.coll 2 0) (rec2 3) [(2 * 2 ^ 32, runInst 2)]).findTrk 300 50).map (fun e => e.2.kind) = some (.coll 2 0) ∧
    ((flowOn (.coll 2 0) (rec2 3) [(2 * 2 ^ 32, runInst 2)]).ctx 0).inst 2 0 = some (runInst 2) ∧ (runInst 2).unanswered ≠ 1 := by decide +kernel

/-- A header whose HCRC is wrong, and one whose version is reserved. -/
theorem wit_reserved_packet : (pk 1).hcrc + 1 ≠ hcrcOf (hdrOf 1 (pk 1)) ∧
    (let h := sealHdr { ver := 2, cls := 0, op := 1, p := pk 1 }; h.p.hcrc = hcrcOf h ∧ hdrOk h = false) := by decide +kernel
def sack (cum : Nat) : List Byte := beBytes 4 cum ++ zeros 44
theorem wit_ack : ∀ cum ∈ [51, 60, 61], (pk 0xC0 (sack cum)).hcrc = hcrcOf (hdrOf 0xC0 (pk 0xC0 (sack cum))) ∧ hdrOk (hdrOf 0xC0 (pk 0xC0 (sack cum))) = true ∧
    extOk 0xC0 (sack cum) = true ∧ ((flowOn .put).flow 300).accepts 7 = true ∧ ((flowOn .put).flow 300).closing = false ∧
    ((flowOn .put).flow 300).ackInside cum = decide (cum ≤ 60) := by decide +kernel
theorem wit_flow_timers : ((flowOn .put).flow 300).firstUnackedNs = some 5000 ∧
    (((flowOn .put).flow 300).tx.find? (fun t => t.psn = 50 && !t.acked && !t.queued)).isSome = true ∧ ((flowOn .put).flow 300).tx ≠ [] ∧
    ((flowOn .put).flow 300).state = .open_ := by decide +kernel
/-- No block and no parity share waits for an entry; and no entry of the tests' collective is the last that is unanswered. -/
theorem wit_none_due : (flowOn .put).NoneDue 0 ∧ (flowOn (.coll 2 0) (rec2 3) [(2 * 2 ^ 32, runInst 2)]).NoneDue 0 := by unfold State.NoneDue; decide +kernel
/-- A packet's timer runs, and stops while its egress MAC is paused; then sixteen expiries alone fail the flow. -/
def pausedFlow (ex : Nat) : State :=
  { flowOn .put with
    macs := [(0, { up := true, rateMbps := 400000, lanes := 15, paused := [(5, 900)] })], ports := [(0, { mode := 0, adminUp := true, encap := 1 })]
    flows := [(300, { (flowOn .put).flow 300 with tx := [{ psn := 50, op := 1, cls := 0, p := { dstDev := 7, srcDev := 0, dstFlow := 400, psn := 50 }, sentAt := some 1000, expiries := ex }] })] }
theorem wit_timer_stops : (flowOn .put).timerStops ((flowOn .put).flow 300) { psn := 50, op := 1, cls := 0, p := { dstDev := 7, srcDev := 0, dstFlow := 400 } } = false ∧
    ((pausedFlow 0).flow 300).tx.any ((pausedFlow 0).timerStops ((pausedFlow 0).flow 300)) = true ∧
    ((flowOn .put).flow 300).tx.any ((flowOn .put).timerStops ((flowOn .put).flow 300)) = false ∧
    ((pausedFlow 16).flow 300).tx.any (fun e => decide (16 ≤ e.expiries)) = true := by decide +kernel

/-! The transmit side of a MAC and the forwarder -/

def ownFrame : Frame := { body := .zalnis (hdrOf 1 { dstDev := 7, srcDev := 0, dstFlow := 400, psn := 50 }), len := 128, flow := 300, ctx := some 0 }
/-- MAC 4, of port 1, is up at 400 Gb/s with this frame in queue 3. -/
def macOn (f : Frame) : State :=
  { macs := [(4, { up := true, rateMbps := 400000, lanes := 15, queues := [(3, [f])] })], ports := [(1, { mode := 0, adminUp := true })]
    flows := [(300, { state := .open_, ctx := 0, peer := 7, tx := [{ psn := 50, op := 1, cls := 0, p := { dstDev := 7, srcDev := 0, dstFlow := 400 }, queued := true }] })] }
/-- The state as MAC m starts a frame that a queue holds. -/
def accrued (s : State) (m : Nat) : State :=
  let v := (s.toCycle (max (s.mac m).busyUntil (s.mac m).wakeAt)).pumpPaced
  v.updMac m (fun c => c.accrue v.clk.cycle)

theorem wit_mac_start : ∀ f ∈ [ownFrame, { ownFrame with forwarded := true }, { ownFrame with body := .ctrl (hdrOf 0xEC { dstDev := 7, srcDev := 0, dstFlow := 0 }) }],
    ((macOn f).mac 4).queues.all (fun e => e.2.isEmpty) = false ∧ (accrued (macOn f) 4).pickQueue 4 = some 3 ∧ ((accrued (macOn f) 4).mac 4).headOf 3 = some f := by
  decide +kernel
/-- A flow with an idle MAC whose rate admits its next packet 300 ns from now. -/
def pacedOn : State :=
  { macs := [(4, { up := true, rateMbps := 400000, lanes := 15 })], ports := [(1, { mode := 0, adminUp := true })], fwd := [(7, { ports := [1] })]
    flows := [(300, { state := .open_, ctx := 0, peer := 7, peerFlow := 400, queue := 3, paths := [{ port := 1 }], sendAt := 300
                      tx := [{ psn := 50, op := 1, cls := 0, p := { dstDev := 7, srcDev := 0, dstFlow := 400 } }] })] }
def admitted (m : Nat) : State :=
  let v := ((pacedOn.toCycle 0).toTai ((pacedOn.nextAdmit m).getD 0)).pumpPaced
  v.updMac m (fun c => c.accrue v.clk.cycle)
theorem wit_mac_start_paced : (pacedOn.mac 4).queues.all (fun e => e.2.isEmpty) = true ∧ (pacedOn.nextAdmit 4).isSome = true ∧ (admitted 4).pickQueue 4 = some 3 ∧
    (((admitted 4).mac 4).headOf 3).isSome = true := by decide +kernel
/-- A packet from device 7 to device 9, which port 1 reaches. -/
def passing : Hdr := (sealHdr { ver := 1, cls := 0, op := 1, pcp := 3, p := { flags := 192, hop := 5, dstDev := 9, srcDev := 7, dstFlow := 400 } })
def fwdOn (full : Bool) : State :=
  { macs := [(4, { up := true, rateMbps := 400000, lanes := 15, busyUntil := 100, queues := [(3, if full then [{ ownFrame with len := 524288, forwarded := true }] else [])] })]
    ports := [(1, { mode := 0, adminUp := true })], fwd := [(9, { ports := [1] })], clk := { cycle := 50 } }
theorem wit_forward : passing.p.dstDev ≠ (fwdOn false).deviceId ∧ ((fwdOn false).port (0 / 4)).encap = 0 ∧ passing.p.hcrc = hcrcOf passing ∧
    (fwdOn false).egress 0 passing = some (1, 4) ∧ ((fwdOn false).countRx 0 3 (fwdFrame 0 passing).len).cutThrough 0 4 passing = false ∧
    ((fwdOn false).countRx 0 3 (fwdFrame 0 passing).len).fwdBytes 1 + (fwdFrame 4 passing).len ≤ 524288 ∧
    524288 < ((fwdOn true).countRx 0 3 (fwdFrame 0 passing).len).fwdBytes 1 + (fwdFrame 4 passing).len ∧ (macOn ownFrame).egress 0 passing = none ∧
    ({ fwdOn false with life := { debug := 2 } } : State).life.debug = 2 ∧ (fwdOn false).life.debug ≠ 2 ∧
    ({ passing with p := { passing.p with hcrc := passing.p.hcrc + 1 } } : Hdr).p.hcrc ≠ hcrcOf { passing with p := { passing.p with hcrc := passing.p.hcrc + 1 } } := by
  decide +kernel
theorem wit_cut_through : { fwdOn false with clk := { cycle := 100 } }.egress 4 passing = some (1, 4) ∧
    ({ fwdOn false with clk := { cycle := 100 } }.countRx 4 3 (fwdFrame 4 passing).len).cutThrough 4 4 passing = true := by decide +kernel

/-! Migration, sparing, windows -/

/-- A migration of tile 3 from T1 frame 640 to T2 frame 5 in a state of R203. -/
def migTile (st : Nat) (dest : Nat := 2) : TileEntry := { valid := true, tier := 1, frame := 640, state := st, destTier := dest, destFrame := 5, policy := 1 }
def migOn (st : Nat) (dest : Nat := 2) (cause : Option AbortCause := none) (fence : Bool := false) (sl : Bool := false) : State :=
  { ctxs := [(0, { state := .running, fenced := fence, sealed_ := sl, tiles := [(3, migTile st dest)] })]
    migs := [{ ctx := 0, tile := 3, policy := 1, core := 0, cause := cause, retried := true }] }

theorem wit_slot_grant : (migOn 1).power.state ≠ .standby ∧ ({ power := { state := .standby } } : State).power.state = .standby ∧ (migOn 1).slotFor 0 = true ∧ (migOn 1).turnOf = some 0 ∧ ((migOn 1).nextMig 0).isSome = true ∧ (migOn 1 2 none false true).slotFor 0 = true ∧
    ((migOn 1 2 none false true).nextMig 0).isSome = true := by decide +kernel
theorem wit_copy_done : ((migOn 2).migOf 0 3).isSome = true ∧ (((migOn 2).ctx 0).migEntry 3).state = 2 ∧
    (((migOn 2).migOf 0 3).map (fun m => (migOn 2).aheadOf m)) = some false := by decide +kernel
theorem wit_commit : ((migOn 3).migOf 0 3).isSome = true ∧ (((migOn 3).ctx 0).migEntry 3).state = 3 ∧
    (migOn 3).stalled = [] ∧ (migOn 3).asks = [] ∧ (migOn 3).flows = [] ∧ (migOn 3).trk = [] := by decide +kernel
/-- Every cause: a fence of a fenced context and of one that is not, a reclaim and a lost lender of a T3 destination and of another, and the errors. -/
theorem wit_abort : ∀ fence ∈ [true, false], ∀ dest ∈ [1, 2, 3], ∀ st ∈ [1, 2, 3], ((migOn st dest none fence).migOf 0 3).isSome = true ∧
    (((migOn st dest none fence).ctx 0).migEntry 3).state = st ∧ (((migOn st dest none fence).ctx 0).migEntry 3).destTier = dest ∧
    ((migOn st dest none fence).ctx 0).fenced = fence ∧ ((migOn st dest none fence).ctx 0).state ≠ .tearing := by decide +kernel
theorem wit_abort_done : ∀ a ∈ [AbortCause.sourceError, .verifyError, .fence, .lenderLost, .reclaim], ((migOn 4 2 (some a)).migOf 0 3).isSome = true ∧
    (((migOn 4 2 (some a)).ctx 0).migEntry 3).state = 4 ∧ ((migOn 4 2 (some a)).migOf 0 3).map (fun m => m.retried) = some true := by decide +kernel
/-- Tile 3, prefer-near, used, in T1 away from its core's near region, and a move to it; and a move that R200 does not admit. -/
def passOn : State :=
  { ctxs := [(0, { state := .running, coreMask := 1, resNs := some 5, grants := { t1 := [4, 4, 4, 4, 4, 4, 4, 4, 4, 4, 4, 4], t2 := 4 }
                   tiles := [(3, { valid := true, tier := 2, frame := 640, policy := 1, core := 0 })] })]
    tcache := [{ key := cacheKey 0 3, uses := 4, lastAt := 9 }] }
def passMove : MoveReq := { tile := 3, tier := 1, region := 0 }
theorem wit_pass : (passOn.ctx 0).created = true ∧ (passOn.ctx 0).fenced = false ∧ passOn.residencyOk 0 passMove = true ∧
    passOn.residencyOk 0 { passMove with tier := 2 } = false ∧ ((passOn.ctx 0).migEntry 3).state = 0 ∧
    ((passOn.ctx 0).entry 3).placed 1 1 0 0 = false ∧ passOn.queuedMigs 0 < 4096 ∧
    (passOn.askDest { ctx := 0, tile := 3, bank := (passOn.ctx 0).weights.active, tier := 1, policy := 1, core := 0, region := 0 } ((passOn.ctx 0).entry 3)).isSome = true := by
  decide +kernel
theorem wit_fence : ({ ctxs := [(0, { fenceDue := true })] : State }.ctx 0).fenceDue = true := by decide +kernel
theorem wit_row_spare : ∀ l ∈ [BankLoc.t1 0 0 0, .t1 3 11 15, .t2 0 0 0], [({ loc := l, row := 7, causeSeq := 1, held := [(64, [1#8])] } : RowCopy)].find? (fun c => c.loc = l && c.row = 7) =
    some { loc := l, row := 7, causeSeq := 1, held := [(64, [1#8])] } := by decide +kernel
def laneOn : State := { clk := { tai := { ns := 100 } }, banks := [((BankLoc.t1 1 2 3).key, { laneHits := List.replicate 8 (5, 90), sparesUsed := 32 })] }
theorem wit_lane_spare : 8 ≤ ((List.range 16).map (fun b => (BankLoc.t1 1 2 b).key)).foldl
    (fun a k => a + ((recent laneOn.clk.tai.ns (laneOn.banks.getOr k {}).laneHits).filter (fun p => p.1 = 5)).length) 0 ∧
    (laneOn.laneSpares.filter (fun p => p.1 = 1 * 12 + 2)).length < 2 ∧ laneOn.laneSpares.contains (1 * 12 + 2, 5) = false := by decide +kernel
/-- A bank that has used its spare rows, and one with uncorrectable errors in three rows. -/
theorem wit_bank_spare : laneOn.withdrawn.contains (1, 2 * 64 + 1 * 16 + 3) = false ∧ 32 ≤ (laneOn.banks.getOr (BankLoc.t1 1 2 3).key {}).sparesUsed ∧
    3 ≤ ((recent 100 ({ rowUnc := [(1, 10), (2, 20), (1, 30), (7, 40)] } : BankErr).rowUnc).map (fun p => p.1)).eraseDups.length := by decide +kernel
def winLent (st : Nat := 2) : LendWin := { tier := 1, gib := 1, ranges := [(0, 1)], peers := [7], noticeMs := 10, state := st, deadline := 500 }
theorem wit_reclaim : ({ lend := [(4, winLent)] : State }.lend.find 4) = some winLent ∧ winLent.state = 2 := by decide +kernel
def borrowed : State := { ctxs := [(0, { t3 := [{ lender := 7, window := 4, firstTile := 9, deadline := some 500 }] })] }
theorem wit_borrowed : borrowed.ctxs.findSome? (fun e => e.2.t3.findSome? (fun v => if v.lender = 7 ∧ v.window = 4 then v.deadline else none)) = some 500 := by
  decide +kernel

/-! Control messages -/

/-- A control message from device 7 with its MSG_ID. -/
def ctl (op : Nat) (body : List Byte) : Pkt := (sealHdr (hdrOf op { flags := 192, dstDev := 0, srcDev := 7, dstFlow := 0, ext := beBytes 4 21 ++ zeros 4, payload := body })).p
theorem ctlArrives {s : State} {op : Nat} {p : Pkt} (h : (p.hcrc = hcrcOf (hdrOf op p) ∧ hdrOk (hdrOf op p) = true ∧ extOk op p.ext = true ∧ p.dstDev = s.deviceId ∧
    p.dstFlow = 0 ∧ s.start.gafferDown = false) ∧ s.ctrlSeen = []) : s.CtrlArrives op p :=
  ⟨h.1.1, h.1.2.1, h.1.2.2.1, h.1.2.2.2.1, h.1.2.2.2.2.1, h.1.2.2.2.2.2, by simp [h.2]⟩

def imageOf (man : Manifest) : JobImage :=
  { magic := 0, version := 0, digest := [], raw := [], sectionsInside := true, reservedNonzero := false, blocks := 1, man := man, programs := [], tensors := []
    colls := [], layerMap := [], stagger := 0, events := [], securing := {}, validSteps := 0, validLoss := [] }
def openBody : List Byte := beBytes 8 77 ++ zeros 8 ++ beBytes 4 400 ++ beBytes 4 9 ++ beBytes 1 3 ++ beBytes 1 1 ++ zeros 2
def startingOn : State :=
  { ctxs := [(0, { state := .loaded, grants := { flows := 4 }, job := { phase := 3, image := some (imageOf { jobId := 77, seed := 1 }), plan := { coordinator := true, set := [(7, 0)] } } })] }
/-- A flow 300 of context 0 toward flow 400 of device 7 in a state, with nothing or one packet sent. -/
def flowIn (st : FlowState) (peerFlow : Nat := 400) (tx : Bool := false) (lost : Bool := false) : State :=
  { ctxs := [(0, { state := .running })]
    flows := [(300, { state := st, ctx := 0, peer := 7, peerFlow := peerFlow, lost := lost, tx := if tx then [{ psn := 50, op := 1, cls := 0, p := { dstDev := 7, srcDev := 0, dstFlow := 400 } }] else [] })] }
def two : List Byte := beBytes 4 400 ++ beBytes 4 300

theorem wit_open : startingOn.CtrlArrives 0xE0 (ctl 0xE0 openBody) ∧ State.reset.CtrlArrives 0xE0 (ctl 0xE0 openBody) :=
  ⟨ctlArrives (by decide +kernel), ctlArrives (by decide +kernel)⟩
theorem wit_open_accepted : openBody.length = 28 ∧ be openBody 26 2 = 0 ∧ (startingOn.ctx 0).job.rankNow = some [be openBody 8 2, be openBody 10 2, be openBody 12 2, be openBody 14 2] ∧
    (startingOn.ctx 0).admitsFlows = true ∧ startingOn.debugMatch 7 = true ∧ (startingOn.ctx 0).job.joins 7 = true ∧ startingOn.flows = [] ∧ 0 < (startingOn.ctx 0).grants.flows ∧
    (startingOn.ctx 0).fenced = false := by
  decide +kernel
theorem wit_open_accept : (flowIn .opening 0).CtrlArrives 0xE1 (ctl 0xE1 (beBytes 4 300 ++ beBytes 4 400 ++ zeros 8)) ∧ ((flowIn .opening 0).flow 300).state = .opening ∧
    (flowIn .opening 0).CtrlArrives 0xE2 (ctl 0xE2 (beBytes 4 300 ++ zeros 4)) := ⟨ctlArrives (by decide +kernel), by decide +kernel, ctlArrives (by decide +kernel)⟩
theorem wit_close : ∀ st ∈ [FlowState.open_, .draining], ∀ b ∈ [true, false], (flowIn st 400 b).closing 7 two = true ∧ ((flowIn st 400 b).flow 300).closeSeen = false := by
  decide +kernel
theorem wit_close_arrives (b : Bool) : (flowIn .open_ 400 b).CtrlArrives 0xE3 (ctl 0xE3 two) ∧ (flowIn .open_ 400 b).CtrlArrives 0xE4 (ctl 0xE4 two) ∧
    (flowIn .open_ 400 b).CtrlArrives 0xE5 (ctl 0xE5 two) := by
  cases b <;> exact ⟨ctlArrives (by decide +kernel), ctlArrives (by decide +kernel), ctlArrives (by decide +kernel)⟩
def resync (st : Nat) : List Byte := beBytes 4 300 ++ beBytes 4 60 ++ beBytes 4 50 ++ beBytes 4 55 ++ beBytes 1 st ++ zeros 3
theorem wit_resync : (flowIn .open_ 400 false true).CtrlArrives 0xE6 (ctl 0xE6 (resync 2)) ∧ (flowIn .open_ 400 false true).CtrlArrives 0xE6 (ctl 0xE6 (resync 4)) ∧
    ((flowIn .open_ 400 false true).flow 300).lost = true := ⟨ctlArrives (by decide +kernel), ctlArrives (by decide +kernel), by decide +kernel⟩
/-- The peer expects nothing past what was recorded complete here, and something before it. -/
theorem wit_resync_done : be (resync 2) 16 1 = 2 ∧ be (resync 4) 16 1 ≠ 2 ∧ ((flowIn .open_ 400 false true).flow 300).tx = [] ∧
    ((flowIn .open_ 400 false true).flow 300).lastDone = none ∧ serialGe 51 (psnNext (be (resync 2) 8 4)) = true ∧ serialGe 50 (psnNext (be (resync 2) 8 4)) = false := by
  decide +kernel
theorem wit_reclaim_notice : borrowed.CtrlArrives 0xE8 (ctl 0xE8 (beBytes 1 4 ++ zeros 3 ++ beBytes 8 500)) ∧ borrowed.CtrlArrives 0xEA (ctl 0xEA (beBytes 1 4 ++ beBytes 1 1 ++ zeros 2)) ∧
    borrowed.CtrlArrives 0xEA (ctl 0xEA (beBytes 1 4 ++ beBytes 1 2 ++ zeros 2)) :=
  ⟨ctlArrives (by decide +kernel), ctlArrives (by decide +kernel), ctlArrives (by decide +kernel)⟩
theorem wit_window_release : ({ lend := [(4, winLent)] } : State).CtrlArrives 0xE9 (ctl 0xE9 (beBytes 1 4 ++ zeros 3)) ∧ winLent.peers.contains 7 = true ∧ winLent.released.contains 7 = false :=
  ⟨ctlArrives (by decide +kernel), by decide, by decide⟩
theorem wit_probe : State.reset.CtrlArrives 0xEC (ctl 0xEC (probeBody 1 2 0)) ∧ probeOk (probeBody 1 2 0) = true ∧ probeOk (probeBody 1 2 2) = true :=
  ⟨ctlArrives (by decide +kernel), by decide +kernel⟩
/-- The probe of two peers of one port that carries this number: the peer's own is answered; one of class 2 sets its port's and peer's last time. -/
def probesOn : State := { probes := [(2, 9, 0, 1, 0), (2, 7, 0, 1, 0), (2, 7, 2, 1, 0)] }
theorem wit_probe_reply : ∀ cls ∈ [0, 2], (probesOn.probes.find? (fun q => q.1 = 2 && q.2.1 = 7 && q.2.2.1 = cls && q.2.2.2.1 = 1)) = some (2, 7, cls, 1, 0) ∧
    be (probeBody 1 2 cls) 4 1 = 2 ∧ be (probeBody 1 2 cls) 5 1 = cls ∧ be (probeBody 1 2 cls) 0 4 = 1 := by decide +kernel
theorem wit_probe_reply_arrives : probesOn.CtrlArrives 0xED (ctl 0xED (probeBody 1 2 0)) ∧ probesOn.CtrlArrives 0xED (ctl 0xED (probeBody 1 2 2)) :=
  ⟨ctlArrives (by decide +kernel), ctlArrives (by decide +kernel)⟩
def waitingCtrl (n : Nat) : State := { flowIn .opening with ctrl := [{ peer := 7, msgId := 21, op := 0xE1, body := beBytes 4 400 ++ beBytes 4 300 ++ zeros 8, attempts := n, dueNs := 500 }] }
def ackPk : Pkt := (sealHdr (hdrOf 0xEF { flags := 192, dstDev := 0, srcDev := 7, dstFlow := 0, ext := beBytes 4 21 ++ zeros 4 })).p
theorem wit_ctrl_ack : ackPk.hcrc = hcrcOf (hdrOf 0xEF ackPk) ∧ hdrOk (hdrOf 0xEF ackPk) = true ∧ extOk 0xEF ackPk.ext = true ∧ ((waitingCtrl 1).flow 300).state = .opening := by decide +kernel
theorem wit_ctrl_timeout : ∀ n ∈ [1, 9, 10], (waitingCtrl n).ctrl.find? (fun k => k.peer = 7 && k.msgId = 21 && k.attempts != 0) = (waitingCtrl n).ctrl.head? := by decide +kernel

/-! Ports -/

/-- MAC 0 of port 0 is up, with a state of its own and a port of its own. -/
def portOn (p : Port := {}) (m : Mac := {}) : State :=
  { macs := [(0, { m with up := true, rateMbps := 400000, lanes := 15 })], ports := [(0, { p with mode := 0, adminUp := true })] }
/-- A WINDOW entry of a running job on MAC 0. -/
def winEntry : EvtEntry := { type := 2, rankSel := 0xFFFF, collId := 2, startOff := 5000, endOff := 9000, rate := 100000, mac := 0, next := 0 }
def winOn (m : Mac := {}) : State :=
  { portOn { eee := true } m with ctxs := [(0, { state := .running, job := { phase := 4, stepStart := 1000, events := [winEntry] } })] }

theorem wit_arp : ((portOn { encap := 1, ownIp := 4 * 2 ^ 128 + 9 }).port (0 / 4)).encap = 1 ∧ ((portOn { encap := 1, ownIp := 4 * 2 ^ 128 + 9 }).port (0 / 4)).ownIp = 4 * 2 ^ 128 + 9 ∧
    ((portOn { encap := 1, ownIp := 6 * 2 ^ 128 + 9 }).port (0 / 4)).ownIp = 6 * 2 ^ 128 + 9 := by decide +kernel
theorem wit_pause : ((portOn { flowctl := 1 }).port (0 / 4)).flowctl = 1 ∧ (portOn.port (0 / 4)).flowctl = 2 := by decide +kernel
theorem wit_pause_expiry : ((portOn {} { paused := [(3, 100)] }).mac 0).paused.find 3 = some 100 := by decide +kernel
theorem wit_pfc_repeat : ((portOn {} { xoffSent := [(3, 100)], rxOcc := [(3, 9000)] }).mac 0).xoffSent.find 3 = some 100 ∧
    ((portOn {} { xoffSent := [(3, 100)], rxOcc := [(3, 9000)] }).port (0 / 4)).xon.getD 3 0 < ((portOn {} { xoffSent := [(3, 100)], rxOcc := [(3, 9000)] }).mac 0).rxOcc.getOr 3 0 ∧
    ((portOn {} { xoffSent := [(3, 100)] }).mac 0).xoffSent.has 3 = true := by decide +kernel
theorem wit_window : winOn.windowOf 0 0 = some winEntry ∧ ((winOn { window := some { ctx := 0, entry := 0, coll := 2, endNs := 10000, rate := 100000 } }).mac winEntry.mac).window =
    some { ctx := 0, entry := 0, coll := 2, endNs := 10000, rate := 100000 } ∧ (winOn { lpiTx := true }).windowOf 0 0 = some winEntry ∧ ((winOn { lpiTx := true }).mac 0).lpiTx = true := by
  decide +kernel
def quietOn : State := portOn { eee := true } { partnerWakeUs := some 10 }
theorem wit_lpi_entry : (quietOn.port (0 / 4)).eee = true ∧ (quietOn.mac 0).partnerWakeUs.isSome = true ∧ (quietOn.mac 0).up = true ∧ (quietOn.mac 0).lpiTx = false ∧
    (quietOn.mac 0).retrainFrom = none ∧ (quietOn.mac 0).queues.all (fun q => q.2.isEmpty) = true ∧ quietOn.fwdBytes (0 / 4) = 0 ∧
    (quietOn.toCycle ((quietOn.mac 0).idleSince + cyclesOfNs ((quietOn.port (0 / 4)).idleHoldUs * 1000))).windowNear 0 ((quietOn.mac 0).wakeNs + 2000) = false := by decide +kernel

/-! Time and lanes -/

/-- A master of a lower priority1 than the clock's, as port 0 has heard it, and a clock that follows it. -/
def masterData : PtpForeign := { clock := 4, port := 1, heardNs := 0, data := { priority1 := 100, cls := 6, accuracy := 0x21, variance := 0x4E5D, priority2 := 128, grandmaster := ownClock + 1, steps := 0 } }
def follower (r : Option Int := none) : Clock := { ptp := [(0, { foreign := [masterData], syncRx := r, offNs := some 30, reqNs := some 100 })] }
/-- A message of that master on MAC 0: its Sync or Follow_Up gives an offset of 1,000, 1,001 or 1,000,001 ns, while a job runs and while none does. -/
def ptpOf (b : PtpBody) : PtpMsg := { domain := 0, clock := 4, port := 1, body := b, freqPpb := 300000 }
theorem follows_master (r : Option Int) (b : PtpBody) : (follower r).follows (0 / 4) (ptpOf b) = true := by
  have h : (ownClock + 1 == ownClock) = false := by simp
  have e : (follower r).portBest 0 = some (0, masterData) := rfl
  have f : (follower r).best = some (0, masterData) := by
    have k1 : (follower r).portBest 1 = none := rfl
    have k2 : (follower r).portBest 2 = none := rfl
    have k3 : (follower r).portBest 3 = none := rfl
    have k4 : (follower r).portBest 4 = none := rfl
    have k5 : (follower r).portBest 5 = none := rfl
    have k6 : (follower r).portBest 6 = none := rfl
    have k7 : (follower r).portBest 7 = none := rfl
    have hr : List.range 8 = [0, 1, 2, 3, 4, 5, 6, 7] := rfl
    unfold Clock.best
    rw [hr]
    simp [e, k1, k2, k3, k4, k5, k6, k7, bestMaster]
  have g : (follower r).ptpRole 0 = .slave := by
    unfold Clock.ptpRole
    rw [f, e]
    simp [Clock.ownBeats, masterData, ptpRank, Clock.ownRank, lexLt, follower]
  simp [Clock.follows, g, e, masterData, ptpOf]
theorem wit_ptp_jobs : ({ winOn with clk := follower } : State).jobRuns = true ∧ ({ clk := follower } : State).jobRuns = false := by decide +kernel
theorem wit_ptp_offset (o : Int) : ({ clk := follower } : State).ptpStamp (0 / 4) - (-o) - (follower.ptp.getOr (0 / 4) {}).delayNs = o ∧
    ((follower (some 5)).ptp.getOr (0 / 4) {}).syncRx = some 5 ∧ (5 : Int) - (5 - o) - ((follower (some 5)).ptp.getOr (0 / 4) {}).delayNs = o := by
  have a : ({ clk := follower } : State).ptpStamp (0 / 4) = 0 := rfl
  have b : ∀ r, ((follower r).ptp.getOr (0 / 4) {}).delayNs = 0 := fun _ => rfl
  refine ⟨by rw [a, b]; omega, rfl, by rw [b]; omega⟩
theorem wit_ptp_request : ({} : Clock).ptpRole (0 / 4) = .master ∧ (follower.ptp.getOr (0 / 4) {}).offNs = some 30 ∧ (follower.ptp.getOr (0 / 4) {}).reqNs = some 100 := by decide +kernel
theorem wit_ptp_announce : (ownClock + 1 ≠ ownClock) ∧ masterData.data.steps < 255 := ⟨Nat.succ_ne_self _, by decide +kernel⟩
theorem wit_ptp_timer : portOn.upMacs 0 = [0] ∧ portOn.clk.timerMsg 0 = some .sync := by decide +kernel
theorem wit_pps : ∀ a ∈ [some 1000, none], (match a with | some a => oneSecond a 1000001000 | none => false) = a.isSome := by decide
theorem wit_pps_lost : ({ clk := { ppsInLast := some 1000, ppsInPresent := true } } : State).clk.ppsInPresent = true := rfl
theorem wit_recal : portOn.recal = none ∧ portOn.laneMac 1 = some 0 ∧ (portOn {} { ratioPpb := [0, 1001, 0, 0] }).laneMac 1 = some 0 ∧
    ((laneList ((portOn {} { ratioPpb := [0, 1001, 0, 0] }).mac 0).lanes).zip ((portOn {} { ratioPpb := [0, 1001, 0, 0] }).mac 0).ratioPpb).find? (fun p => p.1 = 1 % 4) = some (1, 1001) := by
  decide +kernel
theorem wit_recal_apply : { portOn with recal := some (1, 40) }.recal = some (1, 40) := rfl
theorem wit_retrain : ((portOn {} { retrainFrom := some 100, retrainLane := 2 }).mac 0).retrainFrom = some 100 := by decide +kernel
def fec (k : Nat) : FecStats := { corrected := 5, uncorrectable := 11, symErrors := [0, k, 0, 0], ratioPpb := [] }
theorem wit_fec : portOn.fecBad 0 (fec 0) = none ∧ portOn.fecBad 0 (fec 3) = some 1 := by decide +kernel
def lockOn (lanes : Nat) : State := { macs := [(0, { up := true, lanes := lanes })], ports := [(0, { mode := 0, adminUp := true })], lanes := [(1, { lockLoss := [5, 6] })], clk := { tai := { ns := 10 } } }
theorem wit_lock_loss : ∀ l ∈ [15, 2], (lockOn l).laneMac 1 = some 0 ∧ 3 ≤ (((lockOn l).lane 1).lockLoss.filter (fun t => decide (10 < t + hourNs)) ++ [10]).length ∧
    ((lockOn l).mac 0).retrainFrom = none := by decide +kernel
theorem wit_lock_lanes : lowerLanes false 15 (1 % 4) = 0 ∧ lowerLanes false 15 (2 % 4) = 3 ∧ lowerLanes true 15 (1 % 4) = 12 := by decide
theorem wit_link_up : portOn.portDown 0 = false ∧ portOn.start.inReset = false ∧ 0 ∈ portMacs (portOn.port 0).mode 0 ∧ bit 1 (0 % 4) = true ∧
    (portOn.port 0).linkLanes (portOn.mac 0).bx1 15 0 ≠ 0 := by decide +kernel
/-- The window's start and end are the next events of their context. -/
theorem wit_window_turn : winOn.evTurn 0 4 0 ((winOn.ctx 0).job.atOff winEntry.startOff) = true ∧
    (winOn { window := some { ctx := 0, entry := 0, coll := 2, endNs := 10000, rate := 100000 } }).evTurn 0 1 0 10000 = true := by decide +kernel

/-! The life of a job -/

def img : JobImage := imageOf { jobId := 77, seed := 1 }
/-- A context with this job, in a phase, and a plan. -/
def jobOn (ph : Nat) (p : Plan := {}) (j : Job := {}) (c : Ctx := {}) : State :=
  { ctxs := [(0, { c with state := if ph = 4 then .running else .loaded, job := { j with phase := ph, image := some img, plan := p } })] }
def coord : Plan := { coordinator := true, set := [(0, 0)], devices := [0] }

theorem wit_plan : ((jobOn 3 coord).ctx 0).job.image = some img ∧ ((jobOn 3 coord).ctx 0).job.phase = 3 ∧ coord.planned = false ∧
    coord.set.all (fun d => d.1 = (jobOn 3 coord).deviceId || (jobOn 3 coord).planFlow 0 d.1) = true := by decide +kernel
theorem wit_accept : ∀ p ∈ [coord, { coord with coordinator := false }], ∀ k ∈ [0, 1], ((jobOn 3 { p with planned := true }).ctx 0).job.plan.accepted = false ∧
    ({ position := k, devices := List.replicate (k + 1) 0, axisOrder := [0, 1, 2, 3] } : PlanMsg).devices.getD k 0xFFFF = (jobOn 3 p).deviceId := by decide +kernel
theorem wit_start : ∀ b ∈ [true, false], ((jobOn 3 { coord with accepted := true, coordinator := b }).ctx 0).job.plan.accepted = true ∧ ({ coord with coordinator := b } : Plan).refusals = [] ∧
    coord.devices.all (fun v => v = (jobOn 3 coord).deviceId || ([] : List MemberReply).any (fun r => r.device = v)) = true := by decide +kernel
theorem wit_start_wait : (9, 0).1 ≠ (jobOn 3 { coord with set := [(9, 0)] }).deviceId ∧ (jobOn 3 { coord with set := [(9, 0)] }).planFlow 0 9 = false := by decide +kernel
theorem wit_step : ∀ n ∈ [0, 14, 15], ∀ b ∈ [true, false], (jobOn 4 {} { selfTest := b, firstDone := b, step := n }).stepRetired 0 = true ∧
    (jobOn 4 {} { selfTest := b, firstDone := b, step := n }).stepHeld 0 = false ∧
    (jobOn 4 {} { selfTest := b, firstDone := b, step := n }).evTurn 0 3 0 (0 + ((jobOn 4 {} { selfTest := b, firstDone := b, step := n }).stepGrid 0 img.man).1) = true := by
  decide +kernel
/-- Two tensor-parallel ranks in one collective, of which one alone has a WINDOW entry. -/
def oddImg : JobImage :=
  { imageOf { jobId := 77, seed := 1, t := 2 } with
    colls := [({ lo := [0, 0, 0, 0], hi := [1, 0, 0, 0] }, [{ raw := 5, members := [[0, 0, 0, 0], [1, 0, 0, 0]] }])]
    events := [{ type := 2, rankSel := 1, collId := 5, startOff := 10, endOff := 20, rate := 1000, mac := 0, next := 0 }] }
theorem wit_start_windows : windowsAgree img [0, 1, 2, 3] = true ∧ windowsAgree oddImg [0, 1, 2, 3] = false ∧
    (∃ r ∈ [({ device := 9, digest := [], memory := [], refusals := [[8]] } : MemberReply)], r.refusals ≠ []) := by decide +kernel
def prefetchEntry : EvtEntry := { type := 3, rankSel := 0, collId := 0, startOff := 100, endOff := 0, rate := 0, mac := 0, next := 0 }
def feedOn (w : Bool) : State := jobOn 4 {} { events := [prefetchEntry] } { feed := { entries := 4, waiting := w } }
theorem wit_prefetch : ((List.range ((feedOn false).ctx 0).job.events.length).filterMap (fun i => ((feedOn false).ctx 0).job.entry i)).find? (fun e => e.type = 3) = some prefetchEntry ∧
    ((feedOn false).ctx 0).fenced = false ∧ ((feedOn false).ctx 0).feed.entries ≠ 0 ∧ ((feedOn true).ctx 0).feed.waiting = true ∧
    (feedOn false).evTurn 0 6 0 (((feedOn false).ctx 0).job.atOff prefetchEntry.startOff) = true ∧ (feedOn false).life.fwSwitch = false ∧
    (feedOn false).pcie.linkUp = false ∧ ({ feedOn false with pcie := { linkUp := true } } : State).pcie.linkUp = true ∧
    ({ feedOn false with life := { fwSwitch := true } } : State).life.fwSwitch = true := by decide +kernel
theorem wit_loss_compare : ((jobOn 4 coord { validating := 3 }).ctx 0).job.plan.coordinator = true ∧ ((jobOn 4 coord { validating := 3 }).ctx 0).job.validating ≠ 0 ∧
    ((jobOn 4 coord {} { recov := { state := .selecting, retried := true } }).ctx 0).recov.retried = true := by decide +kernel
theorem wit_reshard_request : ∀ st ∈ [ReshardState.idle, .requested, .atBoundary, .drainingOld, .permuting, .committing],
    ((jobOn 4 {} { reshard := { state := st } }).ctx 0).job.nextStepNo ≤ 8 ∧ (jobOn 4 {} { reshard := { state := st } }).nandUsed 0 + 0 + nandJournal ≤ nandSize ∧
    ((jobOn 4 {} { reshard := { state := st } }).ctx 0).forced = false ∧
    ((jobOn 4 {} { layoutEpoch := 1, reshard := { state := st } } { recov := { state := .refilling, target := some {} } }).ctx 0).forced = true := by decide +kernel
theorem wit_reshard_boundary : ((jobOn 4 {} { reshard := { state := .requested, boundary := 8 }, step := 8 }).ctx 0).job.nextStepNo = 8 ∧
    (jobOn 4 {} { reshard := { state := .requested, boundary := 8 }, step := 8 }).stepRetired 0 = true ∧
    ((jobOn 4 {} { reshard := { state := .drainingOld } }).ctx 0).updates = [] ∧ ((jobOn 4 {} { reshard := { state := .drainingOld } }).ctx 0).insts = [] := by decide +kernel
def shardMove : PermuteMove := { srcTile := 3, dstPos := 1, tiles := 2, dstTile := 9, flow := 300 }
theorem wit_permute : (unitMoves [shardMove]).length ≤ 2 ∧ (jobOn 4 {} { reshard := { state := .permuting, moves := [shardMove], sent := 2, acked := 2 } }).trk = [] ∧
    ((jobOn 4 {} { reshard := { state := .permuting, moves := [shardMove], sent := 2, acked := 2 } }).ctx 0).job.reshard.state = .permuting := by decide +kernel
theorem wit_reshard_commit : ((jobOn 4 {} { reshard := { state := .committing, commitNs := 9 } }).ctx 0).job.reshard.commitNs ≠ 0 ∧
    ((jobOn 4 {} { reshard := { state := .committing, commitNs := 9 } }).ctx 0).job.image = some img := by decide +kernel

/-! Securing and recovery -/

def bndEntry : EvtEntry := { prefetchEntry with type := 4 }
def dueOn (d : Bool) (cur : Option SecRec) : State := jobOn 4 { rank := some [0, 0, 0, 0] } { boundaryDue := true, firstDone := d } { sec := { current := cur } }
theorem wit_boundary : ∀ d ∈ [true, false], ∀ cur ∈ [none, some ({} : SecRec)],
    ((dueOn d cur).ctx 0).job.boundaryDue = true ∧ ((dueOn d cur).ctx 0).job.plan.rank ≠ none ∧ (dueOn d cur).secDue 0 = d ∧
    (dueOn d cur).chanBusy 0 = false ∧ (dueOn d cur).stepRetired 0 = true := by decide +kernel
theorem wit_boundary_busy : { jobOn 4 {} { boundaryDue := true, firstDone := true } with cores := [(0, { chan := some { ctx := 0, layer := 0, param := 0, effs := [], status := 0, flags := 0, due := 9 } })] }.chanBusy 0 =
    true := by decide +kernel
def bndOn (fw : Bool) : State := { jobOn 4 {} { events := [prefetchEntry, bndEntry] } with life := { fwSwitch := fw } }
/-- The BOUNDARY entry is the second of the table: its turn comes before that of the PREFETCH entry of the same time. -/
theorem wit_boundary_entry : ∀ fw ∈ [true, false],
    (List.range 2).find? (fun i => match ((bndOn fw).ctx 0).job.entry i with | some e => e.type = 4 | none => false) = some 1 ∧
    ((bndOn fw).ctx 0).job.events.length = 2 ∧ ((bndOn fw).ctx 0).job.entry 1 = some bndEntry ∧
    (bndOn fw).evTurn 0 2 1 (((bndOn fw).ctx 0).job.atOff bndEntry.startOff) = true ∧ ((bndOn fw).ctx 0).job.boundaryDue = false := by decide +kernel
/-- A mirror's copy of a generation with a snapshot, of a job of two ranks. -/
def pairOn : State := { ctxs := [(0, { state := .running, job := { phase := 4, image := some (imageOf { jobId := 77, seed := 1, d := 2 }) } })] }
theorem wit_mirror : 1 < rankCount (imageOf { jobId := 77, seed := 1, d := 2 }).man ∧ pairOn.pins.nandClosed = false ∧
    ({ record := { jobId := 77, snapshot := true } } : MirrorCopy).record.snapshot = true ∧
    (imageOf { jobId := 77, seed := 1, d := 2 }).man.jobId = ({ record := { jobId := 77, snapshot := true } } : MirrorCopy).record.jobId := by decide +kernel
def openGen (par snap : Bool) (st : Nat := 0) (p : Plan := {}) : State :=
  jobOn 4 p { step := 8 } { sec := { current := some { state := st, parity := par, snapshot := snap, generation := 1, lastStep := 7 } } }
theorem wit_parts : ∀ a ∈ [true, false], ∀ b ∈ [true, false], ((openGen a b).ctx 0).sec.current = some { state := 0, parity := a, snapshot := b, generation := 1, lastStep := 7 } ∧
    (openGen a b).trk = [] ∧ (openGen a b).pins.nandClosed = false := by decide +kernel
theorem wit_generation : ((openGen true true 1 coord).ctx 0).sec.current = some { state := 1, parity := true, snapshot := true, generation := 1, lastStep := 7 } ∧
    ((openGen true true 1 coord).ctx 0).job.plan.coordinator = true := by decide +kernel
theorem wit_loss : (openGen true true).stepRetired 0 = true ∧ (7 + 1) % 2 ^ 40 = ((openGen true true).ctx 0).job.step ∧
    ((jobOn 4 { rank := some [0, 0, 0, 0] } { step := 8 } { sec := { records := [{ state := 2, lastStep := 7 }] } }).ctx 0).job.plan.rank = some [0, img.man.p - 1, 0, 0] := by decide +kernel
theorem wit_trigger : ∀ r ∈ [RecState.none_, .halting, .refilling], ∀ l ∈ [[], [9]], (jobOn 4 coord {} { recov := { state := r } }).coordinates 0 l = true ∧
    ((jobOn 4 coord {} { recov := { state := r } }).ctx 0).recov.state = r := by decide +kernel
/-- Two lost members of four over two data-parallel replicas, a generation with a snapshot, and 0 to 2 standby modules. -/
def view (n : Nat) : HaltView := { lost := [1, 2], committed := [(3, true, 40), (4, false, 50)], standbys := List.replicate n 9 }
theorem wit_halting_end : ∀ st ∈ [RecState.halting, .selecting, .waitingForModule],
    ((jobOn 4 {} {} { recov := { state := st, trigger := 1 }, sec := { records := [{}] } }).ctx 0).recov.state ∈ [RecState.halting, .selecting, .waitingForModule] ∧
    ((jobOn 4 {} {} { recov := { state := st, trigger := 1 }, sec := { records := [{}] } }).ctx 0).sec.records ≠ [] ∧
    ({ view 1 with given := some { record := { jobId := 77, generation := 3 } } } : HaltView).given ≠ none := by decide +kernel
theorem wit_target : chooseTarget img 1 { lost := [], committed := [(3, true, 40), (4, false, 50)], standbys := [] } ≠ none ∧
    chooseTarget img 1 { lost := [], committed := [], standbys := [] } = none ∧ chooseTarget (imageOf { jobId := 77, seed := 1, d := 5 }) 1 (view 0) ≠ none ∧
    ((view 0).lost.filter (fun j => decide (j < rankCount { jobId := 77, seed := 1, d := 5 }))).length = 2 ∧
    chooseTarget (imageOf { jobId := 77, seed := 1, d := 4 }) 1 (view 0) ≠ none ∧
    ((view 0).lost.filter (fun j => decide (j < rankCount { jobId := 77, seed := 1, d := 4 }))).length = 2 ∧
    (view 2).standbys.length = 2 := by decide +kernel
def recOn (st : RecState) (b : Bool := false) : State := jobOn 4 {} { step := 8 } { recov := { state := st, target := some { lastStep := 7 }, retried := b } }
theorem wit_refill : ((recOn .refilling).ctx 0).recov.target = some { lastStep := 7 } ∧ ((recOn .checking).ctx 0).recov.state = .checking := by decide +kernel
theorem wit_compare : ∀ b ∈ [true, false], ((recOn .replaying b).ctx 0).recov.retried = b ∧ ((recOn .replaying b).ctx 0).job.step = (7 + 1) % 2 ^ 40 ∧ (recOn .replaying b).stepRetired 0 = true := by
  decide +kernel
/-- A replayed loss that matches, one that does not, one that was never captured, and one that the host overrides. -/
theorem wit_verify : verifyCode img { lossValid := true, loss := 5#32 } [1, 1, 1, 1] 0 false 5#32 = 0 ∧
    verifyCode img { lossValid := true, loss := 5#32 } [1, 1, 1, 1] 0 false 6#32 = 4 ∧ verifyCode img {} [1, 1, 1, 1] 0 false 6#32 = 2 ∧
    verifyCode img {} [1, 1, 1, 1] 0 true 6#32 = 3 := by decide +kernel
theorem wit_refill_slots : ((recOn .refilling).ctx 0).weights.slots = [] := by decide +kernel

/-! Weights -/

/-- A context with a job and one digest slot of 2 tiles in a bank. -/
def slotOn (k : DSlot) (w : Weights := {}) (p : Plan := { rank := some [0, 0, 0, 0] }) : State :=
  jobOn 4 p {} { weights := { w with slots := [(5, { k with tiles := 2, firstTile := 4096, digest := zeros 32 })] } }
/-- The shard's transfer is the first of the function of its context. -/
def slotFed (k : DSlot) : State := { slotOn k with pcie := { linkUp := true, dma := [{ fn := 1, shard := some (0, 5), bytes := 131088 }] } }
theorem wit_shard : ∀ b ∈ [true, false], ((slotFed { reloaded := b }).ctx 0).weights.slots.find 5 =
    some { reloaded := b, tiles := 2, firstTile := 4096, digest := zeros 32 } ∧ (slotFed { reloaded := b }).shardServed 0 5 = true ∧
    ((slotFed { reloaded := b }).ctx 0).shardStalls { tiles := 2, firstTile := 4096 } = false := by decide +kernel
theorem wit_readback : ∀ b ∈ [true, false], ((slotOn { reread := b, arrived := true }).ctx 0).weights.slots.find 5 =
    some { reread := b, arrived := true, tiles := 2, firstTile := 4096, digest := zeros 32 } := by decide +kernel
theorem wit_verify_pass : ∀ l ∈ [[], [5]], ((slotOn { state := 1 } { passLeft := l }).ctx 0).created = true ∧
    ((slotOn { state := 1 } { passLeft := l }).ctx 0).weights.passTodo = l := by decide +kernel
theorem wit_shard_verify : ∀ l ∈ [[5], [5, 6]], (slotOn { state := 1 } { passLeft := l }).verifyTurn = some (0, 5) ∧
    ((slotOn { state := 1 } { passLeft := l }).ctx 0).weights.passLate = false ∧
    ((slotOn { state := 1 } { passLeft := l }).ctx 0).loaded = true ∧ (0 : Nat) = ((slotOn { state := 1 } { passLeft := l }).ctx 0).weights.active := by decide +kernel
/-- A shard of no tiles whose digest is that of the empty string, and one whose digest is not: the two verdicts of a reader (R417, R422). -/
theorem wit_shard_matches : (slotOn {}).shardMatches 0 { digest := sm3 [] } [] = true ∧ (slotOn {}).shardMatches 0 { digest := [] } [] = false := by decide +kernel
/-- Bank 1 is ready: its shard is SEALED; a switch to it is asked for or agreed. -/
def readyOn (p : Plan) (h : Nat) (pend : Bool := false) : State :=
  slotOn { state := 1, bank := 1, generation := 2 } { bankGen := (1, 2), switchHandle := h, pending := pend, switchStep := 8, reports := rankCount img.man } p
theorem wit_agree : ∀ b ∈ [true, false], ((readyOn { coord with coordinator := b, rank := some [0, 0, 0, 0] } 9).ctx 0).weights.ready = true ∧
    ((readyOn { coord with coordinator := b, rank := some [0, 0, 0, 0] } 9).ctx 0).weights.switchRepl =
      ((readyOn { coord with coordinator := b, rank := some [0, 0, 0, 0] } 9).ctx 0).weights.replOf (1 - 0) ∧
    ((readyOn { coord with coordinator := b, rank := some [0, 0, 0, 0] } 9).ctx 0).weights.switchHandle ≠ 0 := by decide +kernel
def agreedOn : State := { readyOn {} 9 true with cores := [] }
theorem wit_punty_switch : agreedOn.weightsQuiet 0 = true ∧ (agreedOn.ctx 0).weights.pending = true ∧ agreedOn.stepRetired 0 = true ∧ (agreedOn.ctx 0).updates = [] ∧
    ({ ctxs := [(0, { state := .ready, weights := (agreedOn.ctx 0).weights })] } : State).weightsQuiet 0 = true ∧
    (agreedOn.ctx 0).weights.switchRepl = (agreedOn.ctx 0).weights.replOf (1 - (agreedOn.ctx 0).weights.active) ∧ (agreedOn.ctx 0).weights.switchHandle ≠ 0 ∧ (agreedOn.ctx 0).weights.ready = true := by decide +kernel
theorem wit_switch_step : ((jobOn 4 {} { step := 7, firstDone := true } { weights := { (agreedOn.ctx 0).weights with switchStep := 8 } }).ctx 0).job.nextStepNo = 8 := by decide +kernel
theorem wit_deferral : ((slotOn { state := 0, bank := 1, generation := 2 } { bankGen := (1, 2), pending := true, switchStep := 8 }).ctx 0).weights.ready = false ∧
    ((slotOn {} { pending := true, switchStep := 8 }).ctx 0).job.gridOf img.man 8 = 8000000 ∧ (slotOn {}).fabricNs 0 = 0 ∧
    ((slotOn {} { pending := true, switchStep := 1 }).ctx 0).job.gridOf img.man 1 ≤ 1000000 ∧
    ((slotOn {} {}).ctx 0).weights.pending = false ∧ ((slotOn {} {}).ctx 0).weights.ready = false := by decide +kernel
/-- The report of another member counts at the coordinator; a report comes once (R431). -/
theorem test_report : (match exec (.switchAgree 0 .report) (readyOn { coord with rank := some [0, 0, 0, 0] } 9) with
    | .next t => (t.ctx 0).weights.reports | _ => 0) = rankCount img.man + 1 := by decide +kernel

/-! Mailbox commands -/

/-- A request of a command on a mailbox whose session is open, with its MAC under an empty K_REQ. -/
def ask (family code : Nat) (body : List Byte) (mb : Nat := 0) (target : Nat := 0xFFFF) : Req :=
  let rq : Req := { mb := mb, dbTag := 1, tag := 1, epoch := 1, target := target, body := body }
  { rq with mac := if keyCmd family code then [] else padTo 32 (hmacSm3 [] (headBytes rq family code ++ body)) }
/-- A module that is ready, with the host's link up and a session open on the admin mailbox and on that of context 0. -/
def mailOn (s : State) : State :=
  { s with mailboxes := [(0, { epoch := 1, nextTag := 1, session := { isOpen := true } }), (1, { epoch := 1, nextTag := 1, session := { isOpen := true } })]
           start := { stage := 7, pwrok := true }, pcie := { linkUp := true } }
theorem heard (s : State) (family code : Nat) (body : List Byte) (mb : Nat) (target : Nat) (h : mb = 0 ∨ mb = 1) :
    (mailOn s).Heard (ask family code body mb target) family code := by
  refine ⟨rfl, ?_, ?_, ?_, rfl, ?_, ?_, ?_, rfl, ?_⟩
  all_goals first | (rcases h with h | h <;> subst h <;> rfl) | skip
  · by_cases k : keyCmd family code = true
    · rw [if_pos k]; simp [macZero, ask, k]
    · rw [if_neg k]
      have e : ((mailOn s).mbox (ask family code body mb target).mb).session.kReq = [] := by rcases h with h | h <;> subst h <;> rfl
      rw [e]; simp [macOk, ask, k, headBytes]
theorem heard_admin (s : State) (family code : Nat) (body : List Byte) : (mailOn s).Heard (ask family code body) family code := heard s family code body 0 0xFFFF (.inl rfl)
theorem heard_ctx (s : State) (family code : Nat) (body : List Byte) : (mailOn s).Heard (ask family code body 1) family code := heard s family code body 1 0xFFFF (.inr rfl)
/-- On the admin mailbox a command that acts on context 0 names it; on that of context 0 it names none. -/
theorem acts_admin (s : State) (c : Ctx) (family code : Nat) (body : List Byte) (h : c.created = true) (e : s.ctxs = [(0, c)]) :
    (mailOn s).Acts (ask family code body 0 0) 0 := .inr ⟨rfl, rfl, by decide, by simp [State.ctx, mailOn, e, Map.getOr, Map.find, h]⟩
theorem acts_ctx (s : State) (family code : Nat) (body : List Byte) : (mailOn s).Acts (ask family code body 1) 0 := .inl ⟨by simp [ask], rfl, rfl⟩
theorem on_none (family code : Nat) (body : List Byte) (mb : Nat) : OnNone (ask family code body mb) := .inr rfl

/-! Sessions -/

def shutOn (e : Session := {}) : State := { mailOn {} with mailboxes := [(0, { session := e })], life := { records := [(3, { bytes := zeros 64 ++ [1#8], valid := true })] } }
theorem wit_free : ∀ c ∈ [1, 2, 3], shutOn.HeardFree (ask 1 c (zeros 98)) 1 c := by unfold State.HeardFree; decide +kernel
def openBytes : List Byte := [16#8, 0#8] ++ zeros 96
theorem wit_open_sm2 : (mailOn {}).opensOn 0 = none ∧ openBytes.length = 98 ∧ 1 ≤ (ask 1 1 openBytes).fld 0 1 ∧ (ask 1 1 openBytes).fld 0 1 ≤ 32 ∧ (ask 1 1 openBytes).fld 1 1 = 0 := by
  decide +kernel
theorem wit_open_password : shutOn.start.noOwner = false ∧ shutOn.lockedUntil ≤ shutOn.clk.tai.ns ∧ (ask 1 3 (zeros 32)).body.length = 32 := by decide +kernel
theorem wit_password_on : ({ records := [(3, { bytes := zeros 64 ++ [1#8], valid := true })] } : Life).passwordOn = true := by decide +kernel
theorem wit_confirm : ((shutOn { opening := true, expectA := zeros 32 }).mbox 0).session.opening = true ∧ (ask 1 2 (zeros 32)).body = ((shutOn { opening := true, expectA := zeros 32 }).mbox 0).session.expectA := by
  decide +kernel
theorem wit_confirm_gone : (ask 1 2 (zeros 32) 1).mb ≠ 0 ∧ (mailOn {}).opensOn (ask 1 2 (zeros 32) 1).mb ≠ none ∧ (ask 1 2 (zeros 32) 1).body.length = 32 := by decide +kernel
theorem wit_lockout : ({ lockedUntil := 60 } : State).lockedUntil ≠ 0 := by decide
def handleOn (h : Handle) : State := { mailOn {} with handles := [(9, h)] }
theorem wit_handle : (handleOn { mb := 1, op := 3 }).seeHandle 0 ((ask 14 1 (leBytes 8 9)).fld 0 8) = some { mb := 1, op := 3 } ∧ (ask 14 1 (leBytes 8 9)).body.length = 8 ∧
    (handleOn { mb := 1, op := 3, fin := true }).handle 9 = some { mb := 1, op := 3, fin := true } := by decide +kernel
theorem wit_reserved_command : listedCmd 0 1 = false ∧ listedCmd 2 5 = false ∧ listedCmd 15 1 = false ∧ actionsOf 0x0D 1 ≠ [] ∧ (actionsOf 0x0D 1).contains ((ask 0x0D 1 [3#8]).fld 0 1) = false := by
  decide +kernel

/-! Contexts -/

/-- The body of a CREATE of context x on core 0 with a grant of 2 MiB windows, T1, T2 and flows. -/
def createBody (x t2 : Nat) : List Byte := leBytes 2 x ++ leBytes 2 0 ++ leBytes 2 1 ++ zeros 66 ++ zeros 48 ++ leBytes 4 t2 ++ zeros 164
theorem wit_create : ∀ x ∈ [0, 511], (createBody x 0).length = 288 ∧ (ask 2 1 (createBody x 0)).fld 0 2 = x ∧ (ask 2 1 (createBody x 0)).fld 2 2 < 4 ∧
    (ask 2 1 (createBody x 0)).fld 4 2 < 4096 ∧ (ask 2 1 (createBody x 0)).fld 6 2 = 0 ∧ (ask 2 1 (createBody x 0)).fld 159 1 = 0 ∧
    regionsOk (createBody x 0) 160 = true ∧ (mailOn {}).createLife = none ∧ (mailOn {}).handleRoom 0 = true ∧ ((mailOn {}).ctx x).state = .free := by decide +kernel
def stayOn : State := { ctxs := [(1, { state := .tearing, tearHandle := 9, grants := { flows := 1048576 } })] }
theorem wit_create_fits : (mailOn {}).fits 0 0 1 { flows := 1 } [] = true ∧ (mailOn stayOn).fits 0 0 1 { flows := 1 } [] = false ∧
    (mailOn stayOn).fits 0 0 1 { flows := 1 } (mailOn stayOn).tearing = true ∧ ((mailOn stayOn).ctx 0).tearHandle = 0 := by decide +kernel
def ctxOn (st : CtxState) (c : Ctx := {}) : State := { ctxs := [(0, { c with state := st })] }
theorem wit_set_grants : (ask 2 4 (zeros 88) 0 0).body.length = 88 ∧ (ask 2 4 (zeros 88) 0 0).fld 87 1 = 0 ∧ ((mailOn (ctxOn .ready)).ctx 0).state = .ready ∧
    (mailOn (ctxOn .ready)).fits 0 ((mailOn (ctxOn .ready)).ctx 0).flags 0 (grantsAt (zeros 88) 0) [] = true ∧
    (grantsAt (zeros 88) 0).covers ((mailOn (ctxOn .ready)).inUse 0) = true := by decide +kernel
theorem wit_teardown : ∀ st ∈ [CtxState.ready, .loaded, .running, .tearing, .queued], ((mailOn (ctxOn st)).ctx 0).state = st ∧ (ask 2 2 (zeros 4) 0 0).target = 0 ∧ (ask 2 2 (zeros 4) 0 0).fld 0 1 < 2 ∧
    (ask 2 2 (zeros 4) 0 0).fld 1 3 = 0 ∧ (mailOn (ctxOn st)).handleRoom 0 = true := by decide +kernel
theorem wit_released : ((ctxOn .tearing { tearHandle := 9 }).ctx 0).tearHandle ≠ 0 ∧ (∀ e ∈ (ctxOn .tearing { tearHandle := 9 }).ctxs, e.2.pend = none) ∧
    (ctxOn .tearing { tearHandle := 9 }).life.trans = none := by decide +kernel

/-! Jobs -/

theorem wit_load : (ask 3 1 (zeros 32) 0 0).body.length = 32 ∧ (ask 3 1 (zeros 32) 0 0).fld 28 4 = 0 ∧ (ask 3 1 (zeros 8 ++ leBytes 8 65536 ++ zeros 16) 1).fld 8 8 ≠ 0 ∧
    ((mailOn (ctxOn .ready)).ctx 0).job.phase = 0 ∧ (mailOn (ctxOn .ready)).handleRoom 1 = true := by decide +kernel
def startBody : List Byte := zeros 8 ++ leBytes 4 1 ++ zeros 16
theorem wit_job_start : startBody.length = 28 ∧ (ask 3 2 startBody 1).fld 8 4 = 1 ∧ (ask 3 2 startBody 1).fld 12 1 ≤ 1 ∧ (ask 3 2 startBody 1).fld 13 3 = 0 ∧
    ((mailOn (jobOn 2)).ctx 0).job.image = some img ∧ ((mailOn (jobOn 2)).ctx 0).state = .loaded ∧ (mailOn (jobOn 2)).jobElsewhere 0 img.man.jobId = false ∧
    (setEntries (zeros 4) 1).any (fun d => d.1 = (mailOn (jobOn 2)).deviceId) = true ∧ (setEntries (zeros 4) 1).any (fun d => d.1 = 0xFFFF) = false ∧
    ((setEntries (zeros 4) 1).map (fun d => d.1)).eraseDups.length = 1 ∧ rankCount img.man = 1 := by decide +kernel
theorem wit_feed : ∀ n ∈ [2, 65536], (ask 3 3 (zeros 8 ++ leBytes 4 n ++ leBytes 4 4096 ++ zeros 16) 1).body.length = 32 ∧ isPow2 ((ask 3 3 (zeros 8 ++ leBytes 4 n ++ leBytes 4 4096 ++ zeros 16) 1).fld 8 4) = true ∧
    (ask 3 3 (zeros 8 ++ leBytes 4 n ++ leBytes 4 4096 ++ zeros 16) 1).fld 12 4 = 4096 := by decide +kernel
theorem wit_job_cursor : ∀ b ∈ [0, 1], (ask 3 5 (leBytes 8 5 ++ leBytes 8 b) 1).fld 8 1 = b ∧ (ask 3 5 (leBytes 8 5 ++ leBytes 8 b) 1).fld 9 7 = 0 ∧ (ask 3 5 (leBytes 8 5 ++ leBytes 8 b) 1).fld 0 8 = 5 ∧
    ((recOn .cursorCheck).ctx 0).recov.target = some { lastStep := 7 } ∧ ((recOn .cursorCheck).ctx 0).recov.state = .cursorCheck := by decide +kernel
theorem wit_recover : ((mailOn (jobOn 4 coord)).ctx 0).job.plan.coordinator = true ∧ ((mailOn (jobOn 4 coord)).ctx 0).recov.state = .none_ ∧ (mailOn (jobOn 4 coord)).handleRoom 1 = true ∧
    ((mailOn (jobOn 4 coord)).ctx 0).sampling.armed = none ∧ ((mailOn (jobOn 4 coord)).ctx 0).job.validating = 0 := by decide +kernel
theorem wit_decide : ∀ b ∈ [0, 1], (ask 3 7 (leBytes 8 b) 1).fld 0 1 = b ∧ (ask 3 7 (leBytes 8 b) 1).fld 1 7 = 0 ∧
    ((mailOn (jobOn 4 coord {} { recov := { state := .verifyFailed } })).ctx 0).recov.state = .verifyFailed := by decide +kernel
theorem wit_add_module : ∀ st ∈ [RecState.none_, .waitingForModule], (ask 3 9 (leBytes 4 9) 1).fld 0 2 ≠ 0xFFFF ∧
    ((mailOn (jobOn 4 coord {} { recov := { state := st } })).ctx 0).job.plan.devices.contains ((ask 3 9 (leBytes 4 9) 1).fld 0 2) = false ∧
    ((mailOn (jobOn 4 coord {} { recov := { state := st } })).ctx 0).job.plan.set.length < 65535 := by decide +kernel
theorem wit_report : ((mailOn (jobOn 4 coord)).ctx 0).job.plan.set ≠ [] ∧ (ask 3 10 (zeros 8 ++ leBytes 4 64) 1).body.length = 12 := by decide +kernel
theorem wit_stop : ((mailOn (jobOn 2)).ctx 0).state = .loaded ∧ ((mailOn (jobOn 4)).ctx 0).state = .running ∧ ((mailOn (jobOn 2)).ctx 0).job.phase < 3 ∧ img.man.epochTai = 0 := by decide +kernel

/-! Securing, weights and tiers -/

theorem wit_secure_commands : ∀ g ∈ [1, 2], ((jobOn 4 coord {} { sec := { current := some { generation := 1 }, records := [{ generation := 2, state := 2 }] } }).ctx 0).sec.current.toList.length = 1 ∧
    ((((jobOn 4 coord {} { sec := { current := some { generation := 1 }, records := [{ generation := 2, state := 2 }] } }).ctx 0).sec.current.toList ++
      [({ generation := 2, state := 2 } : SecRec)]).find? (fun r => r.generation = (ask 7 3 (leBytes 4 g) 1).fld 0 4)).isSome = true := by decide +kernel
theorem wit_erase : (mailOn {}).runsJob ((ask 7 4 (leBytes 8 77)).fld 0 8) = false ∧ (mailOn {}).handleRoom 0 = true := by decide +kernel
/-- A list of one shard of one tile of T1 at tile 4096 for the inactive bank, opening replacement 3. -/
def shardList : List Byte := leBytes 4 1 ++ [1#8, 1#8] ++ zeros 2 ++ leBytes 4 3 ++ zeros 52 ++
  (leBytes 8 0 ++ leBytes 6 (4096 * tileBytes) ++ [1#8, 0#8] ++ zeros 8 ++ leBytes 4 1 ++ leBytes 4 9 ++ zeros 32)
theorem wit_weight_load : (({ ctxs := [(0, { state := .ready, coreMask := 1, grants := { t1 := [4] }, weights := { regions := [(4096, 2)] } })] } : State).takeList 0 0 0 shardList).2 = 0 := by decide +kernel
theorem wit_weight_switch : ((mailOn (jobOn 4 coord)).ctx 0).weights.switchHandle = 0 ∧ ((mailOn (jobOn 4 coord)).ctx 0).weights.pending = false ∧
    (ask 4 2 (leBytes 8 3 ++ zeros 16) 1).fld 4 4 = 0 := by decide +kernel
theorem wit_weight_query : ∀ n ∈ [0, 64], (ask 4 3 (leBytes 2 0 ++ leBytes 2 n) 1).fld 2 2 = n := by decide +kernel
theorem wit_verify_period : ∀ n ∈ [60, 86400], (ask 4 4 (leBytes 4 n) 1).fld 0 4 = n := by decide +kernel
theorem wit_read_entries : ∀ n ∈ [0, 120], (ask 5 2 (leBytes 4 (2 ^ 32 - 120) ++ leBytes 2 n) 1).fld 4 2 = n ∧ (ask 5 2 (leBytes 4 (2 ^ 32 - 120) ++ leBytes 2 n) 1).fld 0 4 + n ≤ 2 ^ 32 := by decide +kernel
def migBody (tier pol : Nat) : List Byte := leBytes 4 3 ++ leBytes 4 1 ++ leBytes 1 tier ++ leBytes 1 pol ++ zeros 2
def askOf3 : MigAsk := { ctx := 0, tile := 3, bank := 0, tier := 1, policy := 0, core := 0, region := 0, handle := (mailOn passOn).nextHandle 1 7 }
theorem wit_tier_migrate : (migBody 1 0).length = 12 ∧ (ask 5 3 (migBody 1 0) 1).fld 0 4 = 3 ∧ (ask 5 3 (migBody 1 0) 1).fld 4 4 = 1 ∧ (ask 5 3 (migBody 1 0) 1).fld 8 1 = 1 ∧
    (ask 5 3 (migBody 1 0) 1).fld 11 1 = 0 ∧ policyFits 1 0 = true ∧ (mailOn passOn).asks = [] ∧ (((mailOn passOn).ctx 0).bankEntry ((mailOn passOn).ctx 0).weights.active 3).valid = true ∧
    (((mailOn passOn).ctx 0).migEntry 3).state = 0 ∧ (mailOn passOn).queuedMigs 0 < 4096 ∧ (mailOn passOn).handleRoom 1 = true ∧
    (mailOn passOn).askMet askOf3 (((mailOn passOn).ctx 0).bankEntry 0 3) = false ∧ ((mailOn passOn).askDest askOf3 (((mailOn passOn).ctx 0).bankEntry 0 3)).isSome = true := by
  decide +kernel
theorem wit_regions : (zeros 128).length = 128 ∧ regionsOk (zeros 128) 0 = true := by decide +kernel
def offerBody (n : Nat) : List Byte := [2#8, 0#8] ++ leBytes 2 1 ++ leBytes 4 n ++ zeros 32
theorem wit_offer : ∀ n ∈ [0, 100, 30000], (offerBody n).length = 40 ∧ (ask 5 5 (offerBody n)).fld 0 1 = 2 ∧ (ask 5 5 (offerBody n)).fld 2 2 = 1 ∧ (ask 5 5 (offerBody n)).fld 4 4 = n ∧
    (List.range 8).find? (fun w => !(mailOn {}).lend.has w) = some 0 ∧ runFrames ((mailOn {}).windowRuns 2 16384) = 16384 := by decide +kernel
theorem wit_lend_reclaim : ∀ l ∈ [winLent 1, { winLent 1 with peers := [] }], ({ mailOn {} with lend := [(4, l)] } : State).lend.find ((ask 5 6 (leBytes 8 4)).fld 0 1) = some l ∧ l.state = 1 := by
  decide +kernel
theorem wit_grant_t3 : ((mailOn (ctxOn .ready)).ctx 0).sealed_ = false ∧ (ask 5 7 (leBytes 2 7 ++ leBytes 2 4 ++ leBytes 4 9) 0 0).fld 0 2 ≠ (mailOn (ctxOn .ready)).deviceId ∧
    (ask 5 7 (leBytes 2 7 ++ leBytes 2 4 ++ leBytes 4 9) 0 0).fld 4 4 + gibFrames ≤ 2 ^ 32 ∧ (mailOn (ctxOn .ready)).t3Tiles < 16777216 ∧ (ask 5 7 (leBytes 2 7 ++ leBytes 2 4 ++ leBytes 4 9) 0 0).fld 2 1 < 8 ∧
    ((mailOn (ctxOn .ready)).ctx 0).t3.any (fun v => v.firstTile = (ask 5 7 (leBytes 2 7 ++ leBytes 2 4 ++ leBytes 4 9) 0 0).fld 4 4) = false := by decide +kernel

/-! Ports and time -/

def portBody (p mode : Nat) : List Byte := leBytes 1 p ++ leBytes 1 mode ++ zeros 8 ++ leBytes 2 42117 ++ leBytes 4 10 ++ zeros 104
theorem wit_port_set : ∀ p ∈ [0, 7], ∀ mode ∈ [0, 3], (portBody p mode).length = 120 ∧ (ask 6 1 (portBody p mode)).fld 0 1 = p ∧ (ask 6 1 (portBody p mode)).fld 1 1 = mode ∧
    1 ≤ (ask 6 1 (portBody p mode)).fld 12 4 ∧ ((List.range 8).map (fun i => (ask 6 1 (portBody p mode)).fld (80 + i) 1)).all (fun d => decide (d < 64)) = true ∧
    pfcOk mode 0 ((List.range 8).map (fun i => (ask 6 1 (portBody p mode)).fld (16 + 4 * i) 4)) ((List.range 8).map (fun i => (ask 6 1 (portBody p mode)).fld (48 + 4 * i) 4)) = true ∧
    (mailOn {}).portDown p = true ∧ ((mailOn {}).port p).recordDue = false := by decide +kernel
theorem wit_table_command : ∀ n ∈ [0, 65536], (ask 6 4 (zeros 8 ++ leBytes 4 0 ++ leBytes 4 n)).body.length = 16 ∧ (ask 6 5 (zeros 8 ++ leBytes 4 0 ++ leBytes 4 n)).fld 12 4 = n := by decide +kernel
/-- 1/16, 10, 1/8, 1, 10 and 100 in binary32, and 500 ms (R269). -/
def ccBody : List Byte := leBytes 4 0x3D800000 ++ leBytes 4 0x41200000 ++ leBytes 4 0x3E000000 ++ leBytes 4 0x3F800000 ++ leBytes 4 0x41200000 ++ leBytes 4 0x42C80000 ++ leBytes 4 500
theorem wit_cc : ccBody.length = 28 ∧ f32Rat ((ask 6 6 ccBody 1).fld 0 4) = some (1 / 16) ∧ ratIn (f32Rat ((ask 6 6 ccBody 1).fld 0 4)) (1 / 256) (1 / 2) = true ∧ ratIn (f32Rat ((ask 6 6 ccBody 1).fld 4 4)) 1 1000 = true ∧
    ratIn (f32Rat ((ask 6 6 ccBody 1).fld 8 4)) (1 / 64) (1 / 2) = true ∧ ratIn (f32Rat ((ask 6 6 ccBody 1).fld 12 4)) (1 / 10) 10 = true ∧
    ratIn (f32Rat ((ask 6 6 ccBody 1).fld 16 4)) 1 100 = true ∧ ratIn (f32Rat ((ask 6 6 ccBody 1).fld 20 4)) 10 10000 = true ∧ (ask 6 6 ccBody 1).fld 24 4 = 500 := by decide +kernel
theorem wit_ptp_config : ∀ b ∈ [0, 0xF9], -7 ≤ toSigned 8 ((ask 8 2 (zeros 13 ++ leBytes 1 b ++ zeros 2)).fld 13 1) ∧ toSigned 8 ((ask 8 2 (zeros 13 ++ leBytes 1 b ++ zeros 2)).fld 13 1) ≤ 0 := by decide +kernel
theorem wit_pps_command : ∀ b ∈ [0, 1], (ask 8 3 (leBytes 1 1 ++ leBytes 1 b ++ zeros 14)).fld 1 1 = b ∧ (ask 8 3 (leBytes 1 1 ++ leBytes 1 b ++ zeros 14)).body.length = 16 ∧ (ask 8 4 (zeros 32)).body.length = 32 := by
  decide +kernel

/-! What host software observes -/

theorem wit_counters : (ask 9 1 (leBytes 2 0x200 ++ leBytes 2 240)).fld 0 2 = 0x200 ∧ (ask 9 1 (leBytes 2 0x1FF ++ leBytes 2 1) 1).fld 0 2 + (ask 9 1 (leBytes 2 0x1FF ++ leBytes 2 1) 1).fld 2 2 ≤ 0x200 ∧
    (mailOn (ctxOn .running { permit := true })).mayCount 1 0 = true ∧ ({ mailOn (ctxOn .running) with life := { debug := 1 } } : State).mayCount 0 0 = true := by decide +kernel
def sampBody (a : Nat) : List Byte := leBytes 8 a ++ zeros 8 ++ leBytes 4 4096 ++ zeros 28
theorem wit_sampling : ∀ a ∈ [0, 1, 2, 3], (ask 9 3 (sampBody a) 1).fld 0 1 = a ∧ sampOk (ask 9 3 (sampBody a) 1) = true ∧ ((mailOn (ctxOn .running { permit := true })).ctx 0).permit = true := by decide +kernel
def queueOn : State := { ctxs := [(0, { state := .running, sampling := { samp := { bufLen := 4096, written := 5 } } })], cores := [(0, { sampleQ := [zeros 52] })] }
theorem wit_sample : ∀ k ∈ [some 0, some 1, none], (queueOn.core 0).sampleQ = [zeros 52] ∧ (∀ n, k = some n → 5 < n + 4096 / 64) := by decide +kernel
theorem wit_sample_full : leNat (leBytes 8 0) + 4096 / 64 ≤ 64 := by decide
theorem wit_cullets : ∀ n ∈ [0, 60], (ask 12 1 (zeros 2 ++ leBytes 2 n)).fld 2 2 = n := by decide +kernel
theorem wit_cancel : ∀ op ∈ [0x0A, 0x0F, 7, 8, 2, 9, 0x0B, 0x0D], (handleOn { mb := 0, op := op }).seeHandle 0 ((ask 14 2 (leBytes 8 9)).fld 0 8) = some { mb := 0, op := op } := by decide +kernel

/-! Firmware, repair and module-initiated transfers -/

theorem wit_activate : ({ mailOn {} with life := { staged := true } } : State).life.staged = true ∧ ({ mailOn {} with life := { staged := true } } : State).handleRoom 0 = true := by decide +kernel
def liveOn (op : Nat) (h : Handle := { mb := 0, op := op }) (sw : Bool := false) : State := { mailOn {} with handles := [(9, { h with op := op })], life := { fwSwitch := sw, slot := 0 } }
theorem wit_live : ∀ op ∈ [0x0B, 0x0C, 0x0D], ∀ b ∈ [true, false], (liveOn op { mb := 0, op := op } b).liveOp op = some (9, { mb := 0, op := op }) ∧ (liveOn op { mb := 0, op := op } b).handle 9 = some { mb := 0, op := op } ∧
    (liveOn op { mb := 0, op := op } b).quiet = true ∧ (liveOn op { mb := 0, op := op } b).life.fwSwitch = b := by decide +kernel
def takeOn : State := { liveOn 0x0C with life := { newTables := some {} }, cores := [(0, { tablesDue := true, migrating := true })], start := { passed := [12] } }
theorem wit_tables : takeOn.liveOp 0x0C = some (9, { mb := 0, op := 0x0C }) ∧ (takeOn.core 0).tablesDue = true ∧ (takeOn.core 0).atBoundary = true ∧ takeOn.spares = [12] ∧
    (takeOn.core 0).migrating = true ∧ takeOn.liveOp 0x0D = none ∧ takeOn.tearing = [] := by decide +kernel
theorem wit_tables_command : (ask 11 4 (zeros 12 ++ leBytes 2 4095 ++ zeros 2)).fld 12 2 < 4096 ∧ (ask 12 2 (leBytes 8 11)).fld 0 1 = 11 ∧ takeOn.handleRoom 0 = true := by decide +kernel
theorem wit_lane_retire : portOn.laneMac ((ask 12 3 (leBytes 8 1)).fld 0 1) = some 0 ∧ (portOn.mac 0).retrainFrom = none ∧ bit (portOn.port 0).retired 1 = false ∧ bit ((portOn { retired := 2 }).port 0).retired 1 = true ∧
    lowerLanes (portOn.mac 0).bx1 (portOn.mac 0).lanes (2 % 4) ≠ 0 ∧ lowerLanes (portOn.mac 0).bx1 (portOn.mac 0).lanes (1 % 4) = 0 := by decide +kernel
theorem wit_dram_recal : popCount 12 ((ask 12 5 (leBytes 2 4095 ++ leBytes 1 15 ++ zeros 5)).fld 0 2) * popCount 4 ((ask 12 5 (leBytes 2 4095 ++ leBytes 1 15 ++ zeros 5)).fld 2 1) * 16 = 768 := by decide +kernel
theorem wit_retrain_bank : (handleOn { mb := 0, op := 0x0E, arg2 := 2, arg := 4 + 2 * 4096 }).handles.find? (fun e => e.2.op = 0x0E && e.2.arg2 = 2 && !e.2.fin && bit e.2.arg 2 && bit e.2.arg (12 + 1) &&
    !e.2.units.contains (BankLoc.t1 1 2 3).key) = some (9, { mb := 0, op := 0x0E, arg2 := 2, arg := 4 + 2 * 4096 }) := by decide +kernel
theorem wit_dma : (handleOn { mb := 0, op := 0x0A }).start.pwrok = true ∧ (handleOn { mb := 0, op := 0x0A }).start.gafferDown = false ∧ imageStatus {} 0 = 0 ∧ imageStatus { sigOk := false } 0 ≠ 0 ∧
    imageStatus { svn := 1 } 2 ≠ 0 ∧ popCount 12 1 ≠ 0 ∧ 12 ≤ (handleOn { mb := 0, op := 3 }).healthyCores ∧
    (((List.range 1).map (fun i => sub (zeros 20) (20 * i) 20)).all ((mailOn {}).tableEntryOk 2)) = true := by decide +kernel
/-- The transfer of handle 9 is the first of its function; and the core that takes its tables is the only one that waits. -/
theorem wit_dma_served : ({ handleOn { mb := 0, op := 0x0A } with pcie := { linkUp := true, dma := [{ fn := 0, handle := 9, bytes := 4096 }] } } : State).handleServed 9 = true ∧
    ({ mb := 0, op := 0x0A } : Handle).transfers = true := by decide +kernel
theorem wit_last_core : (∀ e ∈ takeOn.cores, e.2.tablesDue = true → e.1 = 0) ∧ takeOn.cores.Pairwise (fun a b => a.1 < b.1) := by decide +kernel
theorem wit_image_room : ({ ctxs := [(0, { state := .ready, grants := { t2 := 4 } })] } : State).t2Room 0 = 4 ∧ (handleOn { mb := 0, op := 3 }).culls.length < 4096 := by decide +kernel
def goodImg : JobImage :=
  { img with magic := 0x3142584A, version := 1, digest := sm3 [], programs := [({ lo := [0, 0, 0, 0], hi := [0, 0, 0, 0] }, [])], stagger := 1
             events := [{ type := 1, rankSel := 0xFFFF, collId := 0, startOff := 0, endOff := 0, rate := 0, mac := 0xFFFF, next := 0 }] }
theorem wit_image : structureOk goodImg = true ∧ stage2 0 false goodImg = [] := ⟨by simp [structureOk, goodImg, img, imageOf], by decide +kernel⟩

/-! The life cycle -/

/-- A signature that verifies under a key for a challenge makes the request authorised. -/
theorem wit_authorised (k : List Byte) (rq : Req) (s : State) (c : List Byte) (n : Nat) (hc : (s.mbox rq.mb).challenge = some (c, n)) (hn : s.clk.tai.ns ≤ n + 60000000000)
    (hs : sm2Verify k (padTo 16 Config.serial) (sm3 (padTo 16 Config.serial ++ c ++ rq.body.take 1)) (sub rq.body 8 64) = true) : s.authorised rq k = true := by
  simp only [State.authorised, hc, hs, hn, decide_true, Bool.and_self]
def recordOf (k : Nat) : List Byte := leBytes 2 k ++ leBytes 2 1 ++ zeros 124
theorem wit_install : ∀ k ∈ [1, 7], recordForm k (recordOf k) = true ∧ (recordOf k).length = 128 ∧ (ask 11 6 (leBytes 1 1 ++ leBytes 1 k ++ zeros 14 ++ leBytes 4 128 ++ zeros 4)).fld 16 4 = 128 ∧
    (ask 11 6 (leBytes 1 1 ++ leBytes 1 k ++ zeros 14 ++ leBytes 4 128 ++ zeros 4)).fld 1 1 = k := by decide +kernel
def lifeOn (l : Life) : State := { mailOn {} with life := l }
theorem wit_read_record : (lifeOn { records := [(3, { bytes := recordOf 3, valid := true })] }).readRecord 3 ≠ none := by decide +kernel
theorem wit_challenge : (ask 11 6 (leBytes 8 3)).fld 0 1 = 3 ∧ (ask 11 7 (leBytes 8 0xFF)).fld 0 1 = 0xFF ∧ (ask 11 7 (leBytes 8 0xFF)).fld 1 7 = 0 := by decide +kernel
theorem wit_transition : ∀ p ∈ [(0x10, 2), (0x11, 3), (0x12, 2), (0x12, 3), (0x13, 1), (0x14, 4)], (ask 11 6 (leBytes 8 p.1 ++ zeros 64)).fld 0 1 = p.1 ∧ (ask 11 6 (leBytes 8 p.1 ++ zeros 64)).body.length = 72 ∧
    (lifeOn { state := p.2 }).life.trans = none ∧ (lifeOn { state := p.2 }).handleRoom 0 = true := by decide +kernel
def transOf (w n z o g : Bool) : Transition := { toLife := 4, toDebug := 0, handle := 0, begun := true, windows := w, eraseNand := n, zeroDram := z, eraseOwner := o, gafferReset := g }
theorem wit_transition_done : ∀ g ∈ [true, false], (lifeOn { trans := some (transOf true true true true g) }).life.trans = some (transOf true true true true g) ∧
    (lifeOn { trans := some (transOf true true true true g) }).tearing = [] ∧ (lifeOn { trans := some (transOf true true true true g) }).lend = [] := by decide +kernel
theorem wit_debug : ∀ l ∈ [0, 1, 2], ∀ d ∈ [0, 1, 2], (ask 11 7 (leBytes 8 l)).fld 0 1 = l ∧ ((lifeOn { state := 1, debug := d }).life.state ≠ 2) ∧ (lifeOn { state := 1, debug := d }).life.debug = d := by decide +kernel
theorem wit_gaffer_reset : (mailOn {}).start.pwrok = true ∧ (mailOn {}).start.inReset = false ∧ (mailOn {}).start.gafferDown = false := by decide
theorem wit_attest : ∀ b ∈ [0, 1], (ask 11 5 (zeros 32 ++ leBytes 8 b)).fld 32 1 = b ∧ (ask 11 5 (zeros 32 ++ leBytes 8 b)).fld 33 7 = 0 := by decide +kernel

/-! Power -/

/-- A module that is ready, with a power of its own. -/
def powerOn' (p : Power) : State := { mailOn {} with power := p }
theorem wit_sample_power : (powerOn' {}).gafferOn = true ∧ (∀ mw ∈ [745000, 745001], decide (745000 < mw) = decide (mw = 745001)) ∧
    (decide (501 ≤ ((700000 :: List.replicate 500 700000).take 100000).length) && ((700000 :: List.replicate 500 700000).take 501).all (fun w => decide (650 * 1000 < w))) = true := by decide +kernel
theorem wit_cap_tick : ∀ m ∈ [645001, 645000, 635000, 634999], meanOf ([m] : List Nat) = m := by decide
theorem wit_thermal : (∃ k ∈ sensors, throttleAt (k / 64) ≤ (powerOn' { temps := [(0, 10000)] }).temp k) ∧ (∀ k ∈ sensors, (powerOn' { nT := 60 }).temp k < releaseAt (k / 64)) ∧
    (∀ k ∈ sensors, (powerOn' { temps := [(0, 9999)] }).temp k < throttleAt (k / 64)) ∧ (∃ k ∈ sensors, releaseAt (k / 64) ≤ (powerOn' { temps := [(0, 9999)] }).temp k) :=
  ⟨⟨0, by decide, by decide +kernel⟩, by decide +kernel, by decide +kernel, ⟨0, by decide, by decide +kernel⟩⟩
theorem wit_trip : ∀ p ∈ [(0, 11000), (1, 10500), (2, 10500), (3, 12500)], tripAt p.1 ≤ p.2 ∧ (powerOn' {}).gafferOn = true := by decide +kernel
theorem wit_power_state : ∀ a ∈ [0, 1, 2], (ask 13 1 (leBytes 8 a)).fld 0 1 = a ∧ (ask 13 1 (leBytes 8 a)).fld 1 7 = 0 ∧ (powerOn' { tripped := true }).cooled = true ∧ (powerOn' {}).anyRunning = false := by decide +kernel
theorem wit_standby_waits : ∀ e ∈ [(4, winLent 0), (4, winLent 2)], e.2.state ≠ 1 ∧ ({ powerOn' {} with lend := [e] } : State).lend ≠ [] := by decide
theorem wit_window_fill : ∀ st ∈ [0, 3], ({ lend := [(4, winLent st)] } : State).lend.find 4 = some (winLent st) ∧ ({ lend := [(4, winLent st)] } : State).power.wait = none := by decide
theorem wit_cap : ∀ n ∈ [250, 650], (ask 13 2 (leBytes 2 n ++ leBytes 2 250)).fld 0 2 = n ∧ (ask 13 2 (leBytes 2 n ++ leBytes 2 250)).fld 2 2 ≤ n ∧ (powerOn' {}).anySealed = false := by decide +kernel
theorem wit_pfw : (powerOn' {}).pins.pfwAsserted = false ∧ (powerOn' {}).start.stage = 7 ∧ ({ powerOn' {} with pins := { pfwAsserted := true } } : State).commitDue = true := by decide +kernel
theorem wit_rejoin : ({ jobOn 4 coord with pins := { releaseNs := some 5 }, start := { stage := 7 } } : State).pins.releaseNs = some 5 ∧
    (jobOn 4 coord).ctxs = [(0, (jobOn 4 coord).ctx 0)] ∧ ((jobOn 4 coord).ctx 0).recov.state = .none_ := by decide +kernel
theorem wit_rejoin_start : ({ start := { stage := 6, pfwHeld := true, portsDone := true }, pins := { releaseNs := some 5 } } : State).start.stage ≠ 7 := by decide

/-! Start-up and resets -/

def stageOn (n : Nat) : State := { start := { stage := n } }
theorem wit_stage : ∀ n ∈ [1, 2, 3, 4, 5, 6], (stageOn n).atStage n = true ∧ (stageOn n).start.pfwHeld = false ∧ (stageOn n).pins.releaseNs = none ∧ (stageOn n).start.pwrok = false := by decide +kernel
theorem wit_rom : (stageOn 1).boots { regionOk := true, slotOk := [true, false] } 0 = true ∧ (stageOn 1).boots { regionOk := true, slotOk := [false, true] } 0 = false ∧
    (stageOn 1).boots { regionOk := true, slotOk := [false, true] } 1 = true ∧ ((stageOn 1).life.slotImages.getD 1 {}).bootable = true := by decide +kernel
theorem wit_cores_fail : ∀ p, p < 14 → ∃ f, ((List.range 14).map (fun p => (p, 2))).find? (fun f => f.1 = p) = some f ∧ f.2 ≤ 2 := by
  intro p hp; have : ∀ p ∈ List.range 14, ((List.range 14).map (fun p => (p, 2))).find? (fun f => f.1 = p) = some (p, 2) := by decide
  exact ⟨(p, 2), this p (List.mem_range.2 hp), Nat.le_refl 2⟩
theorem wit_resets : State.reset.power.state ≠ .off ∧ State.reset.start.inReset = false ∧ ({ start := { inReset := true } } : State).start.inReset = true ∧
    ({ power := { state := .off } } : State).power.state = .off ∧ ({ start := { gafferDown := true } } : State).start.gafferDown = true := by decide
theorem wit_flr : ∀ n ∈ [1, 512], ({ pcie := { linkUp := true, vfEnabled := [(0, true), (511, true)] } } : State).pcie.vfEnabled.getOr (n - 1) false = true := by decide
theorem wit_alert : ({ pins := { alertStatus := 9, alertMask := 8 } } : State).alertLow = true ∧ State.reset.alertLow = false := by decide +kernel

/-! Registers and scrubbers -/

def linkOn : State := { pcie := { linkUp := true, vfEnabled := [(0, true)] } }
theorem wit_locations : linkOn.bar0Loc 0 0 = .page 0 0 ∧ linkOn.bar0Loc 0 0xFFF = .page 0 0xFFF ∧ linkOn.bar0Loc 0 0x1000 = .doorbell 0 0 ∧ linkOn.bar0Loc 0 0x1004 = .none_ ∧
    linkOn.bar0Loc 1 0x1000 = .doorbell 1 0 ∧ linkOn.bar0Loc 0 0x301000 = .counters 1 0 ∧ linkOn.bar0Loc 0 0x3000 = .reserved ∧ linkOn.bar0Loc 1 0x4000 = .none_ := by decide +kernel
def barOn (st : Nat) : State := { linkOn with ctxs := [(0, { state := .running, tiles := [(3, { valid := true, tier := 1, frame := 640, state := st })] })] }
theorem wit_bar2 : (barOn 0).bar2Ok 1 196608 64 = true ∧ (barOn 0).bar2Ok 1 262144 1 = false ∧ 196608 / tileBytes = (196608 + 64 - 1) / tileBytes := by decide +kernel
theorem wit_bar2_stalls : ∀ st ∈ [0, 2], (((barOn st).ctx 0).entry 3).stalls = decide (st = 2) := by decide +kernel
/-- No error, one symbol, and two of a line. -/
theorem wit_scrub : (mailOn {}).power.state ≠ .standby ∧ (mailOn {}).hasLog = true ∧ (mailOn {}).start.gafferDown = false ∧ reservedFrame 1 640 = false ∧ (mailOn (barOn 0)).frameTile 1 640 = some (0, 0, 3) ∧
    ({} : LineErr).hits = [] ∧ ({ flips := [(3, 0#8)] } : LineErr).hits = [] ∧ (∀ tier ∈ [1, 2], ({ flips := [(3, 9#8)], lane := 7 } : LineErr).verdict tier = .corrected 7) ∧
    ({ flips := [(3, 9#8)], lane := 7 } : LineErr).weight 1 ≤ 1 ∧ (∀ tier ∈ [0, 1, 2], ∃ c ∈ [1, 3, 5], ({ flips := [(3, 9#8), (66, 1#8)] } : LineErr).verdict tier = .uncorrectable c ∨
      ({ flips := [(3, 3#8)] } : LineErr).verdict tier = .uncorrectable c) ∧ ({ flips := [(3, 3#8)] } : LineErr).verdict 0 = .uncorrectable 5 := by decide +kernel
theorem wit_config_registers : linkOn.pcie.linkUp = true ∧ (5 : Nat) ≤ 5 ∧ ({ linkOn with life := { debug := 2 } } : State).debugOpen = true ∧ State.reset.debugOpen = false := by
  decide +kernel
/-- A transfer of a firmware image waits as the reset of the link comes. -/
def fetchOn : State := { handleOn { mb := 0, op := 0x0A } with pcie := { linkUp := true, dma := [{ fn := 0, handle := 9, bytes := 4096 }] } }
theorem wit_perst : fetchOn.dmaOrder = [{ fn := 0, handle := 9, bytes := 4096 }] ∧ fetchOn.handle 9 = some { mb := 0, op := 0x0A } ∧
    fetchOn.xferLive { fn := 0, handle := 9, bytes := 4096 } = true ∧ 0 < fetchOn.pcie.maxRead ∧ fetchOn.dmaOut { fn := 0, handle := 9, bytes := 4096 } < 96 := by decide +kernel
/-- Scores that rank expert 2 first, then 0 and 1 by index; expert 2 is full, so its choice moves on. -/
theorem wit_dispatch : (F32.val 0x7FC00000#32) = .nan ∧ (F32.val 0x3F800000#32) ≠ .nan ∧ [2, 0, 1].Nodup ∧
    dispatchToken 1 1 2 [(2, 1)] [2, 0, 1] = ([(0, 1), (2, 1)], [some 0]) ∧ dispatchToken 1 2 0 [(2, 1)] [2, 0, 1] = ([(0, 1), (2, 1)], [none, some 0]) := by decide +kernel
/-- Sealed context 1 is bound to core 3; turns 3 and 15 are its own, and turn 4 is the shared contexts'. -/
def slotted : State := { ctxs := [(0, { state := .running }), (1, { state := .running, sealed_ := true, coreMask := 8 })] }
theorem wit_turns : slotted.turnOwner 3 = some 1 ∧ slotted.turnOwner 15 = some 1 ∧ slotted.turnOwner 4 = none ∧ slotted.turnGrant 4 [0, 1] List.head? = some 0 ∧
    slotted.turnGrant 3 [0] List.head? = none ∧ slotted.turnGrant 3 [0, 1] List.head? = some 1 ∧ State.reset.life.debug ≠ 2 := by decide +kernel

/-! The whole machine -/

theorem wit_inv : Machine.Inv State.reset := ⟨by decide, by unfold PowerOk; decide⟩
theorem wit_memory : (∀ y, ((State.reset).ctx y).sec.newest = none) ∧ (({ cores := [(0, { vec := some { ring := 0, slot := 0, ctx := 0, due := 0, effs := [], status := 0, flags := 0 } })] } : State).core 0).vec.isSome = true :=
  ⟨fun _ => rfl, by decide⟩
theorem wit_mail_row : MailRow (ask 9 3 (sampBody 1) 1) none (.samplingOn (ask 9 3 (sampBody 1) 1)) 9 3 (some 1) false ∧ MailRow (ask 12 2 (zeros 8) 1) none (.coreReplace (ask 12 2 (zeros 8) 1)) 12 2 none true := by
  constructor <;> simp [MailRow]
theorem wit_busy : ({ mailOn {} with mailboxes := [(0, { busy := true })] } : State).mailUp = true ∧ State.reset.mailUp = false ∧ State.reset.power.wait = none := by decide
theorem wit_unauthenticated : ((mailOn {}).mbox 0).done = false ∧ ((mailOn {}).mbox 0).session.fails < 15 ∧ (shutOn.mbox 0).session.isOpen = false ∧ freeCmd 3 4 = false ∧ freeCmd 1 1 = true ∧
    macZero { ask 1 1 [] with mac := [1#8] } = false := by decide
theorem wit_log : State.reset.log.length ≤ 65536 := by decide
theorem wit_codes : Kb16.isZero 0x0080#16 = false ∧ Kb16.isNan 0x0080#16 = false ∧ Kb16.isInf 0x0080#16 = false ∧ Kb8.isZero 0x33#8 = false ∧ Kb8.isNan 0x33#8 = false := by decide
/-- Codes and quotients that meet each clause of Kb16NarrowsAsItsValueDoes: zero, NaN and Inf codes, and for finite codes a tie that goes up to the even quotient, a
quotient beyond each end of the range, and both ends. -/
theorem wit_narrow : Kb16.isZero 0x4000#16 = true ∧ Kb16.isNan 0xC000#16 = true ∧ Kb16.isInf 0xBFFF#16 = true ∧
    Kb16.log 0x0030#16 - 256 * 0 = 32 * 2 - 16 ∧ Kb16.log 0x0810#16 - 256 * 0 = 32 * 64 + 16 ∧ Kb16.log 0x7800#16 - 256 * 0 = 32 * (-64) ∧
    Kb16.log 0x0C00#16 - 256 * 5 = 32 * 63 - 32 * 7 ∧ Kb16.log 0x07E0#16 - 256 * 0 = 32 * 63 ∧ Kb16.log 0x7820#16 - 256 * 0 = 32 * (-63) := by decide
theorem wit_rebuild : gfMul 122 (gfAlpha 1 ^^^ gfAlpha (gfAlpha 1)) = 1 ∧ 122 < 256 := by decide

/-! ## Values that the manual prints -/

/-- R241: the CRC of the nine characters 1 to 9 is 0x29B1. -/
theorem test_crc : crc16 ((List.range 9).map (fun i => BitVec.ofNat 8 (0x31 + i))) = 0x29B1 := by decide +kernel
/-- R113: the four products of its table. -/
theorem test_products : (kb16Product 0x0080#16 0x0080#16).1 = .fin false (2 ^ 31) (-30) ∧ (kb16Product 0xFF00#16 0x0080#16).1 = .fin true 0xB504F334 (-32) ∧
    (kb8Product 0x33#8 0x2D#8 (-4) (-4)).1 = .fin false (2 ^ 31) (-27) ∧ (kb8Product 0x9D#8 0x33#8 (-4) (-4)).1 = .fin true (2 ^ 31) (-29) := by decide +kernel
/-- R113: reserved codes. -/
theorem test_products_reserved : (kb16Product 0x4000#16 0x0080#16).1 = .fin false 0 0 ∧ (kb16Product 0x3FFF#16 0x4000#16).1.isNan = true ∧ (kb16Product 0xC000#16 0x4000#16).1.isNan = true ∧
    (kb16Product 0x3FFF#16 0xFF00#16).1 = .inf true := by decide +kernel
/-- R257: three A48_ADD operations at a word that holds 2 to the 37th. -/
theorem test_a48_add : (A48.add 0x424000000000#48 0x3FF000000000#48).1 = 0x424000000000#48 ∧ (A48.add 0x424000000000#48 0xC24000000000#48).1 = 0x000000000000#48 := by decide +kernel
/-- R329: the worked rebuild. -/
theorem test_rebuild : 0x12 ^^^ gfMul 2 0x34 ^^^ gfMul 4 0x56 ^^^ gfMul 8 0x78 = 0xD8 ∧ gfMul 2 0x08 ^^^ 0xD8 ^^^ gfMul 3 0x12 ^^^ gfMul 0x0A 0x78 = 0xE9 ∧ gfMul 6 0x56 = 0xE9 ∧
    gfMul 4 0x08 ^^^ 0xD8 ^^^ gfMul 5 0x12 ^^^ gfMul 0x0C 0x78 = 0xB8 ∧ gfMul 6 0x34 = 0xB8 := by decide +kernel
/-- R434 and R463: progress words. -/
theorem test_progress : Handle.word { mb := 0, op := 5, phase := 0, total := 34332 } = 0x000000000000861C ∧ Handle.word { mb := 0, op := 5, phase := 1, done := 20480, total := 34332 } = 0x195000A00000861C ∧
    Handle.word { mb := 0, op := 5, phase := 3, done := 34332, total := 34332 } = 0x3FA0010C3800861C ∧
    Handle.word { mb := 0, op := 2, phase := 1, done := 983040, total := 1966080 } = 0x17D01E00001E0000 := by decide +kernel
/-- R360: 158 and 86 per-mille. -/
theorem test_bubble : bubblePm { jobId := 1, seed := 0, p := 4, v := 2, nMb := 8 } 0 true = 158 ∧ bubblePm { jobId := 1, seed := 0, p := 4, v := 2, nMb := 16 } 0 true = 86 := by decide +kernel
/-- R359: rank 0 of p = 4, V = 2, n = 8 opens with F(0-3,0) F(0-3,1) F(4,0) F(5,0) F(6,0) B(0,1); rank 3 with F(0-3,0) F(0,1) B(0,1) (chunk = stage times 4 plus rank). -/
theorem test_slots : (slotOrder { jobId := 1, seed := 0, p := 4, v := 2, nMb := 8 } 0 10).take 12 =
      [(true, 0, 0), (true, 1, 0), (true, 2, 0), (true, 3, 0), (true, 0, 4), (true, 1, 4), (true, 2, 4), (true, 3, 4), (true, 4, 0), (true, 5, 0), (true, 6, 0), (false, 0, 4)] ∧
    (slotOrder { jobId := 1, seed := 0, p := 4, v := 2, nMb := 8 } 3 4).take 6 = [(true, 0, 3), (true, 1, 3), (true, 2, 3), (true, 3, 3), (true, 0, 7), (false, 0, 7)] := by decide +kernel
/-- R45, R50: 1.0 is L = 0 in KB16, and the largest magnitude of a block of 1.0 gives the scale -6 (R50). -/
theorem test_codes : (kb16From (Fmt.single.decode 0x3F800000) .strict) = (0x0000#16, false) ∧ (kb16From (Fmt.single.decode 0xBF000000) .strict) = (0xFF00#16, false) ∧
    (kb16From (Fmt.single.decode 0x7F800000) .saturate) = (0x3FFF#16, false) ∧ (kb16From (Fmt.single.decode 0x7FC00000) .strict) = (0xC000#16, false) ∧
    blockScale [Fmt.single.decode 0x3F800000] = -6 ∧ blockScale [] = 0 := by decide +kernel

/-! ## Commands that are ill formed -/

theorem test_wf_core : (Instr.nop 11 7).wf = true ∧ (Instr.nop 12 0).wf = false ∧ (Instr.nop 0 8).wf = false := by decide
theorem test_wf_unit : (Instr.opComplete 0 2).wf = true ∧ (Instr.opComplete 0 3).wf = false := by decide
theorem test_wf_ctx : (Instr.boundary 511).wf = true ∧ (Instr.boundary 512).wf = false := by decide
theorem test_wf_tile : (Instr.migrationCommit 0 (2 ^ 32 - 1)).wf = true ∧ (Instr.migrationCommit 0 (2 ^ 32)).wf = false := by decide
theorem test_wf_mac : (Instr.macFrameStart 31).wf = true ∧ (Instr.macFrameStart 32).wf = false := by decide
theorem test_wf_flow : (Instr.ackTimer (2 ^ 20)).wf = false ∧ (Instr.retransmitTimeout 0 (2 ^ 32)).wf = false := by decide
theorem test_wf_priority : (Instr.pauseExpiry 0 7).wf = true ∧ (Instr.pauseExpiry 0 8).wf = false := by decide
theorem test_wf_port : (Instr.ptpSyncTimer 8).wf = false ∧ (Instr.linkUp 8 0 0).wf = false ∧ (Instr.laneLockLoss 32).wf = false := by decide
theorem test_wf_instance : (Instr.collShardReady 0 (2 ^ 32) 0).wf = false ∧ (Instr.collShardReady 0 0 (2 ^ 32)).wf = false := by decide
theorem test_wf_peer : (Instr.ctrlRetransmitTimeout 65535 0).wf = false := by decide
theorem test_wf_slot : (Instr.shardReadback 0 65536 []).wf = false := by decide
theorem test_wf_handle : (Instr.handleExpiry (2 ^ 64)).wf = false := by decide
theorem test_wf_window : (Instr.windowZeroFillComplete 8).wf = false := by decide
theorem test_wf_function : (Instr.flrVirtualFunction 0).wf = false ∧ (Instr.flrVirtualFunction 513).wf = false ∧ (Instr.bar2Read 513 0 1).wf = false := by decide
theorem test_wf_straps : (Instr.powerOn 4).wf = false := by decide
theorem test_wf_register : (Instr.registerWrite (.bar0 513 0 1) 0).wf = false ∧ (Instr.registerWrite (.bar0 0 0 0) 0).wf = false ∧ (Instr.registerWrite (.bar0 0 0 9) 0).wf = false ∧
    (Instr.registerWrite (.smb 256) 0).wf = false := by decide
theorem test_wf_bank : (BankLoc.t1 4 0 0).wf = false ∧ (BankLoc.t1 0 12 0).wf = false ∧ (BankLoc.t1 0 0 16).wf = false ∧ (BankLoc.t2 32 0 0).wf = false ∧ (BankLoc.t2 0 2 0).wf = false ∧
    (BankLoc.t2 0 0 16).wf = false ∧ (BankLoc.sram 14).wf = false := by decide
theorem test_wf_spare_row : (Instr.rowSpareSwitch (.t1 3 11 16) 0).wf = true ∧ (Instr.rowSpareSwitch (.t1 3 11 17) 0).wf = false ∧ (Instr.rowSpareSwitch (.t1 4 0 16) 0).wf = false := by decide
theorem test_wf_spares : (Instr.laneSpare 0 0 32).wf = false ∧ (Instr.bankSpare 0 12 0).wf = false ∧ (Instr.sliceTemperatureChange 4 0 0).wf = false := by decide
theorem test_wf_store : (Instr.scrubLine (.tileStore 12) 0 {} false).wf = false ∧ (Instr.scrubLine (.accumulator 12) 0 {} false).wf = false := by decide
def goodReq : Req := { mb := 512, dbTag := 65535, tag := 65535, epoch := 2 ^ 32 - 1, target := 65535 }
theorem test_wf_request : goodReq.wf = true ∧ { goodReq with mb := 513 }.wf = false ∧ { goodReq with dbTag := 65536 }.wf = false ∧ { goodReq with tag := 65536 }.wf = false ∧
    { goodReq with epoch := 2 ^ 32 }.wf = false ∧ { goodReq with target := 65536 }.wf = false ∧ { goodReq with hdrResv := 2 ^ 160 }.wf = false ∧ { goodReq with mac := [0#8] }.wf = false ∧
    { goodReq with body := List.replicate 1921 0#8 }.wf = false := by decide +kernel
theorem test_wf_family : (Instr.reservedCommand goodReq 256 0).wf = false ∧ (Instr.reservedCommand goodReq 0 256).wf = false := by decide
def goodPkt : Pkt := { dstDev := 65535, srcDev := 65535, dstFlow := 2 ^ 20 - 1 }
theorem test_wf_packet : goodPkt.wf = true ∧ { goodPkt with flags := 256 }.wf = false ∧ { goodPkt with hop := 256 }.wf = false ∧ { goodPkt with dstDev := 65536 }.wf = false ∧
    { goodPkt with srcDev := 65536 }.wf = false ∧ { goodPkt with path := 16 }.wf = false ∧ { goodPkt with dstFlow := 2 ^ 20 }.wf = false ∧ { goodPkt with res11 := 256 }.wf = false ∧
    { goodPkt with psn := 2 ^ 32 }.wf = false ∧ { goodPkt with ts := 2 ^ 32 }.wf = false ∧ { goodPkt with hcrc := 65536 }.wf = false := by decide
theorem test_wf_header : ({ ver := 16, cls := 0, op := 0, p := goodPkt } : Hdr).wf = false ∧ ({ ver := 1, cls := 16, op := 0, p := goodPkt } : Hdr).wf = false ∧
    ({ ver := 1, cls := 0, op := 256, p := goodPkt } : Hdr).wf = false ∧ ({ ver := 1, cls := 0, op := 0, pcp := 8, p := goodPkt } : Hdr).wf = false := by decide
theorem test_table_word : decodeTableWord 8 0 = none := by decide

/-! ### Standards named by the manual: the printed digest of GB/T 32905-2016, A.1, and the base point of the SM2 curve -/

theorem test_sm3_abc : (sm3 [0x61#8, 0x62#8, 0x63#8]).take 8 = [0x66#8, 0xC7#8, 0xF0#8, 0xF4#8, 0x62#8, 0xEE#8, 0xED#8, 0xD9#8] := by unfold sm3; decide +kernel
theorem test_sm2_base : onCurve sm2G = true := by decide +kernel
end Sys2Proof.Tests
end

/-! SUPPORT. An empty queue lets one clock cycle pass (O33): what Clock.advance does to the cycle counter, the PTP time and its remainder. -/

namespace Sys2Proof.Machine

/-- A time of so many units of 2⁻¹⁶ ns has that many of them. -/
@[simp] theorem FTime.units_ofUnits (u : Nat) : (FTime.ofUnits u).units = u := Nat.div_add_mod' u 65536

/-- The correction is no part of what time changes, so the gain stays. -/
@[simp] theorem Clock.gain_advance (c : Clock) (n : Nat) : (c.advance n).gain = c.gain := rfl

theorem Clock.advance_units (c : Clock) (n : Nat) : (c.advance n).tai.units = c.tai.units + (c.rem + n * c.gain) / 21000000000 :=
  FTime.units_ofUnits _

/-- The remainder carries over what the first advance left, so two advances are one. -/
theorem Clock.advance_advance (c : Clock) (m n : Nat) : (c.advance m).advance n = c.advance (m + n) := by
  have hcycle : ((c.cycle + m) % 2 ^ 64 + n) % 2 ^ 64 = (c.cycle + (m + n)) % 2 ^ 64 := by omega
  have hsum : c.rem + (m + n) * c.gain = c.rem + m * c.gain + n * c.gain := by rw [Nat.add_mul, Nat.add_assoc]
  generalize hg : n * c.gain = g at hsum
  generalize hr : c.rem + m * c.gain = r at hsum
  have htai : c.tai.units + r / 21000000000 + (r % 21000000000 + g) / 21000000000 = c.tai.units + (r + g) / 21000000000 := by omega
  have hrem : (r % 21000000000 + g) % 21000000000 = (r + g) % 21000000000 := by omega
  simp only [Clock.advance, Clock.gain, FTime.units_ofUnits] at hg hr hsum ⊢
  rw [hsum, hr, hg, hcycle, htai, hrem]

/-- Time does not run backwards. -/
theorem Clock.le_advance_ns (c : Clock) (n : Nat) : c.tai.ns ≤ (c.advance n).tai.ns := by
  simp only [Clock.advance, FTime.ofUnits, FTime.units]
  omega

/-- At no correction a cycle is 20/21 ns, so 21 cycles are 20 ns. -/
theorem Clock.advance_units_uncorrected (c : Clock) (k : Nat) (hf : c.freqPpb = 0) (hr : c.rem = 0) :
    (c.advance (21 * k)).tai.units = c.tai.units + 20 * k * 65536 := by
  have hg : c.gain = 1310720000000000 := by simp [Clock.gain, hf]
  rw [Clock.advance_units, hr, hg]
  omega

/-- The step on an empty queue. -/
theorem step_of_pending_nil {s : State} (h : s.pending = []) : step s = .next (s.advance 1) := by
  simp [step, h]

theorem State.advance_advance (s : State) (m n : Nat) : (s.advance m).advance n = s.advance (m + n) := by
  simp [State.advance, Clock.advance_advance]

/-- Settles O33, from the arithmetic of Clock.advance and the frame of State.advance. -/
theorem emptyQueueLetsACyclePass : Obligations.EmptyQueueLetsACyclePass := by
  unfold Obligations.EmptyQueueLetsACyclePass
  refine ⟨fun s h => ⟨s.advance 1, step_of_pending_nil h, rfl, (State.advance_rel s 1).only, Clock.le_advance_ns s.clk 1⟩,
    State.advance_advance, fun s hf hr => ?_⟩
  exact Clock.advance_units_uncorrected s.clk 1000 hf hr

end Sys2Proof.Machine

/-! SUPPORT. Register writes, the diagnostic BAR and the scrubbers (O31): what each meaning of Machine/Registers.lean does, an equation for each case. The row
statement turns on one number that the manual leaves open: registerRowsComplete_iff. -/

namespace Sys2Proof.Machine

/-! ### Register writes -/

/-- A table whose entries all hold one value. -/
theorem Map.getOr_map_const {α : Type} (l : List Nat) (v d : α) (k : Nat) :
    Map.getOr (l.map (fun n => (n, v))) k d = if k ∈ l then v else d := by
  induction l with
  | nil => rfl
  | cons a l ih =>
    simp only [Map.getOr] at ih
    by_cases h : a = k
    · simp [Map.getOr, Map.find, h]
    · simp [Map.getOr, Map.find, h, Ne.symm h, ih]

/-- A write of one byte at a location that the function decodes (R6). -/
theorem exec_registerWrite_byte {s : State} {fn off : Nat} (v : Nat) (hl : s.pcie.linkUp = true) (hd : s.bar0Loc fn off ≠ .none_) :
    exec (.registerWrite (.bar0 fn off 1) v) s = .next (s.bar0Write fn off (v % 256)) := by
  simp [exec, execRegisterWrite, State.bar0WriteAll, hl, hd]

/-- R436: a location that the function does not decode. -/
theorem exec_registerWrite_undecoded {s : State} {fn off : Nat} (n v : Nat) (hl : s.pcie.linkUp = true) (hd : s.bar0Loc fn off = .none_) :
    exec (.registerWrite (.bar0 fn off n) v) s = .next (s.emit .unsupported) := by
  simp [exec, execRegisterWrite, hl, hd]

theorem State.bar0Write_page {s : State} {fn off m o : Nat} (v : Nat) (h : s.bar0Loc fn off = .page m o) :
    s.bar0Write fn off v = s.updMbox m (fun b => b.writeByte o v) := by
  simp [State.bar0Write, h]

/-- R443: OVERRUN comes of a doorbell while DONE or BUSY. -/
theorem State.mbox_bar0Write_doorbell {s : State} {fn off m : Nat} (v : Nat) (h : s.bar0Loc fn off = .doorbell m 0) :
    (s.bar0Write fn off v).mbox m = { s.mbox m with overrun := (s.mbox m).overrun || (s.mbox m).done || (s.mbox m).busy } := by
  have hw : s.bar0Write fn off v =
      if (s.mbox m).done || (s.mbox m).busy then s.updMbox m (fun b => { b with overrun := true }) else s := by
    simp [State.bar0Write, h]
  rw [hw]
  split
  case isTrue hb => simp only [State.mbox_updMbox, Bool.or_assoc, hb, Bool.or_true]
  case isFalse hb => simp only [Bool.or_assoc, Bool.not_eq_true _ ▸ hb, Bool.or_false]

theorem State.bar0Write_readOnly {s : State} {fn off : Nat} (v : Nat) (h : (∃ x o, s.bar0Loc fn off = .counters x o) ∨ s.bar0Loc fn off = .reserved) :
    s.bar0Write fn off v = s := by
  rcases h with ⟨x, o, h⟩ | h <;> simp [State.bar0Write, h]

/-- The SMBus alert mask (R555). -/
theorem exec_registerWrite_alertMask {s : State} (v : Nat) (hp : s.power.state ≠ .off) (hr : s.start.inReset = false) :
    exec (.registerWrite (.smb 7) v) s = .next { s with pins := { s.pins with alertMask := v % 32 } } := by
  simp [exec, execRegisterWrite, State.smbWrite, State.smbUp, hp, hr]

theorem exec_registerWrite_sriov {s : State} (n : Nat) (hl : s.pcie.linkUp = true) :
    exec (.registerWrite .sriov n) s = .next { s with pcie := { s.pcie with vfEnabled := (List.range (min 512 n)).map (fun n => (n, true)) } } := by
  simp [exec, execRegisterWrite, hl]

theorem exec_registerWrite_maxRead {s : State} {n : Nat} (hl : s.pcie.linkUp = true) (hn : n ≤ 5) :
    exec (.registerWrite .maxRead n) s = .next { s with pcie := { s.pcie with maxRead := 128 * 2 ^ n } } := by
  simp [exec, execRegisterWrite, hl, hn]

/-- A clock edge of an open debug port moves its access port (R553) and may draw a free value for DBG_TDO. -/
theorem State.dbgClock_open {s : State} (tms trstN : Bool) (h : s.debugOpen = true) :
    (s.dbgClock tms trstN).pins.tap = (if trstN = true then s.pins.tap.step tms else .reset) := by
  simp [State.dbgClock, h]

/-! ### BAR2 -/

theorem exec_bar2Read_ok {s : State} {fn off n : Nat} (h : s.bar2Ok fn off n = true) :
    exec (.bar2Read fn off n) s = .next (s.emit (.completion (s.localRead (fn - 1) off n))) := by
  simp [exec, execBar2Read, h]

theorem exec_bar2Read_refused {s : State} {fn off n : Nat} (h : s.bar2Ok fn off n = false) :
    exec (.bar2Read fn off n) s = .next (s.emit .unsupported) := by
  simp [exec, execBar2Read, h]

theorem exec_bar2Write_ok {s : State} {fn off : Nat} {data : List Byte} (h : s.bar2Ok fn off data.length = true) :
    exec (.bar2Write fn off data) s = .next (s.localWrite (fn - 1) off data) := by
  simp [exec, execBar2Write, h]

theorem exec_bar2Write_refused {s : State} {fn off : Nat} {data : List Byte} (h : s.bar2Ok fn off data.length = false) :
    exec (.bar2Write fn off data) s = .next (s.emit .unsupported) := by
  simp [exec, execBar2Write, h]

/-- A range that ends in the tile in which it begins. -/
theorem tilesOf_of_same_tile {off n : Nat} (hn : n ≠ 0) (h : off / tileBytes = (off + n - 1) / tileBytes) : tilesOf off n = [off / tileBytes] := by
  simp [tilesOf, hn, ← h]

/-- Bytes that lie in one tile are written there as they are. -/
theorem State.localWrite_of_same_tile (s : State) (x : Nat) {off : Nat} {data : List Byte} (hd : data ≠ [])
    (h : off / tileBytes = (off + data.length - 1) / tileBytes) :
    s.localWrite x off data = s.writeTile x (off / tileBytes) (off % tileBytes) data := by
  have hn : data.length ≠ 0 := by simpa using hd
  have hlo : max off (off / tileBytes * tileBytes) = off := by simp only [tileBytes]; omega
  have hhi : min (off + data.length) ((off / tileBytes + 1) * tileBytes) = off + data.length := by simp only [tileBytes] at h ⊢; omega
  have hoff : off - off / tileBytes * tileBytes = off % tileBytes := by simp only [tileBytes]; omega
  simp [State.localWrite, tilesOf_of_same_tile hn h, hlo, hhi, hoff]

theorem State.writeTile_of_not_stalls {s : State} {x t : Nat} (off : Nat) (data : List Byte) (h : ((s.ctx x).entry t).stalls = false) :
    s.writeTile x t off data = s.tileWrite1 x t off data := by
  simp [State.writeTile, h]

/-- R205: the write waits, and the tile's migration moves ahead. -/
theorem State.writeTile_of_stalls {s : State} {x t : Nat} (off : Nat) (data : List Byte) (h : ((s.ctx x).entry t).stalls = true) :
    s.writeTile x t off data = State.rush { s with stalled := s.stalled ++ [{ ctx := x, tile := t, off := off, data := data }] } x [t] := by
  simp [State.writeTile, h]

/-! ### What the codes find -/

theorem LineErr.weight_of_no_hits {e : LineErr} (tier : Nat) (h : e.hits = []) : e.weight tier = 0 := by
  have hw : ∀ i, e.wordBits i = 0 := fun i => by simp [LineErr.wordBits, h]
  by_cases ht : tier = 0
  · simp [LineErr.weight, ht, hw]
  · simp [LineErr.weight, ht, h]

theorem LineErr.verdict_of_no_hits {e : LineErr} (tier : Nat) (h : e.hits = []) (hr : e.wrongRow = false) : e.verdict tier = .clean := by
  simp [LineErr.verdict, hr, LineErr.weight_of_no_hits tier h]

theorem LineErr.leaves_of_no_hits {e : LineErr} (tier : Nat) (h : e.hits = []) (hr : e.wrongRow = false) : e.leaves tier = [] := by
  simp [LineErr.leaves, LineErr.verdict_of_no_hits tier h hr, h]

/-- R220: what one symbol was in error is delivered corrected. -/
theorem LineErr.leaves_of_corrected {e : LineErr} {tier lane : Nat} (h : e.verdict tier = .corrected lane) (hw : e.weight tier ≤ 1) : e.leaves tier = [] := by
  simp [LineErr.leaves, h, hw]

@[simp] theorem State.spoil_nil (s : State) (a : Nat) : s.spoil a [] = s := rfl

/-! ### A corrected error -/

theorem State.counters_event (s : State) (code sev x : Nat) (args : List Nat) : (s.event code sev x args).counters = s.counters :=
  (State.event_rel s code sev x args).only .counters (by decide)

theorem State.banks_event (s : State) (code sev x : Nat) (args : List Nat) : (s.event code sev x args).banks = s.banks :=
  (State.event_rel s code sev x args).only .banks (by decide)

theorem State.counters_spareRow (s : State) (loc : BankLoc) (row cause : Nat) : (s.spareRow loc row cause).counters = s.counters :=
  (State.spareRow_rel s loc row cause).only .counters (by decide)

/-- A row spare begun leaves the bank's count of corrected errors. -/
theorem State.corrected_spareRow (s : State) (loc : BankLoc) (row cause : Nat) :
    ((s.spareRow loc row cause).banks.getOr loc.key {}).corrected = (s.banks.getOr loc.key {}).corrected := by
  unfold State.spareRow
  extract_lets b
  split <;> simp [b]

/-- Of the module counters a corrected error raises its bank's alone (R220, R527). -/
theorem State.counters_correctedErr (s : State) (x : Option Nat) (loc : BankLoc) (row lane : Nat) :
    (s.correctedErr x loc row lane).counters = (s.countM loc.counter 1).counters := by
  unfold State.correctedErr
  extract_lets now s1 s2 b first rows s3 s4
  have h2 : s2.counters = s1.counters := by cases x <;> rfl
  have h4 : s4.counters = s3.counters := by
    unfold s4
    split
    · exact State.counters_event _ _ _ _ _
    · rfl
  have h : s4.counters = s1.counters := h4.trans h2
  split
  · exact (State.counters_spareRow _ _ _ _).trans h
  · exact h

/-- A corrected error counts once in its bank's history. -/
theorem State.corrected_correctedErr (s : State) (x : Option Nat) (loc : BankLoc) (row lane : Nat) :
    ((s.correctedErr x loc row lane).banks.getOr loc.key {}).corrected = (s.banks.getOr loc.key {}).corrected + 1 := by
  unfold State.correctedErr
  extract_lets now s1 s2 b first rows s3 s4
  have h2 : s2.banks = s.banks := by cases x <;> rfl
  have h3 : (s3.banks.getOr loc.key {}).corrected = (s.banks.getOr loc.key {}).corrected + 1 := by simp [s3, b, h2]
  have h4 : s4.banks = s3.banks := by
    unfold s4
    split
    · exact State.banks_event _ _ _ _ _
    · rfl
  have h : (s4.banks.getOr loc.key {}).corrected = (s.banks.getOr loc.key {}).corrected + 1 := by rw [h4, h3]
  split
  · exact (State.corrected_spareRow _ _ _ _).trans h
  · exact h

theorem State.mem_correctedErr (s : State) (x : Option Nat) (loc : BankLoc) (row lane : Nat) : (s.correctedErr x loc row lane).mem = s.mem :=
  (State.correctedErr_rel s x loc row lane).only .mem (by decide)

/-- The counter of a bank of T1 or T2 is module counter 0x1832, that of the scrubbers' corrections, only in the spare bank of layer 10, slice 11, when the
free number of that bank is 2. -/
theorem State.counter_bankOf_ne {s : State} {tier : Nat} (frame line : Nat) (ht : tier = 1 ∨ tier = 2) (hfree : spareBankNo 10 11 16 ≠ 2) :
    (s.bankOf tier 0 frame line).1.counter ≠ 0x1832 := by
  have hspare : ∀ layer slice, slice < 12 → 0x1000 + 192 * layer + 16 * slice + spareBankNo layer slice 16 ≠ 0x1832 := by
    intro layer slice hs h
    have hlt : spareBankNo layer slice 16 < 16 := Nat.mod_lt _ (by decide)
    have hl : layer = 10 := by omega
    have hk : slice = 11 := by omega
    subst hl hk
    omega
  have hown : ∀ layer slice bank, bank < 16 → spareBankNo layer slice bank = bank := fun layer slice bank hb => by
    simp [spareBankNo, Nat.ne_of_lt hb]
  unfold State.bankOf
  rcases ht with rfl | rfl
  · by_cases hf : 1572864 ≤ frame
    · simpa [hf, BankLoc.counter] using hspare _ _ (Nat.mod_lt _ (by decide))
    · have hb : frame % 131072 % 32768 / 2048 < 16 := by omega
      simp only [hf, and_false, if_false, if_true, BankLoc.counter]
      rw [hown _ _ _ hb]
      omega
  · simp [BankLoc.counter]
    omega

/-! ### An uncorrectable error -/

@[simp] theorem Ctx.bankEntry_setBankEntry (c : Ctx) (b t : Nat) (e : TileEntry) : (c.setBankEntry b t e).bankEntry b t = e := by
  have hr : (c.setBankEntry b t e).inRegion t = c.inRegion t := by
    unfold Ctx.setBankEntry
    split <;> rfl
  by_cases h : b = 1 ∧ c.inRegion t = true
  · rw [Ctx.bankEntry, hr, if_pos h, Ctx.setBankEntry, if_pos h, Map.getOr_set]
  · rw [Ctx.bankEntry, hr, if_neg h, Ctx.setBankEntry, if_neg h, Map.getOr_set]

theorem State.ctx_fenceLater (s : State) (x : Nat) : (s.fenceLater x).ctx x = { s.ctx x with fenceDue := true } := State.ctx_updCtx _ _ _

theorem State.ctx_uncRow (s : State) (loc : BankLoc) (row cause x : Nat) : (s.uncRow loc row cause).ctx x = s.ctx x :=
  congrArg (fun m : Map Ctx => m.getOr x {}) ((State.uncRow_rel s loc row cause).only .ctxs (by decide))

/-- R225: the tile is LOST and its context's fence is due. -/
theorem State.ctx_loseLine (s : State) (x bank t tier core frame lender line cls source acc : Nat) :
    (((s.loseLine x bank t tier core frame lender line cls source acc).ctx x).bankEntry bank t).lost = true ∧
      ((s.loseLine x bank t tier core frame lender line cls source acc).ctx x).fenceDue = true := by
  unfold State.loseLine
  extract_lets seq at_ s1 c e s2 b
  have hctx : s2.ctx x = { c.setBankEntry bank t { e with lost := true } with fenceDue := true } := by
    simp only [s2, State.ctx_fenceLater, State.ctx_setCtx]
  have hlost : (({ c.setBankEntry bank t { e with lost := true } with fenceDue := true } : Ctx).bankEntry bank t).lost = true :=
    congrArg TileEntry.lost (Ctx.bankEntry_setBankEntry c bank t { e with lost := true })
  split
  · rw [hctx]
    exact ⟨hlost, rfl⟩
  · rw [State.ctx_uncRow, hctx]
    exact ⟨hlost, rfl⟩

/-! ### The scrubbers -/

/-- The scrubber of T1 or T2 runs while the log exists and the module is not in standby. -/
theorem exec_scrubLine_dram {s : State} {st : Store} {tier : Nat} (a : Nat) (e : LineErr) (w : Bool) (hlog : s.hasLog = true) (hp : s.power.state ≠ .standby)
    (hm : (st, tier) ∈ [(Store.t1, 1), (.t2, 2)]) : exec (.scrubLine st a e w) s = .next (s.scrubDram tier a e w) := by
  have hgo : (!(s.hasLog || s.start.gafferDown) || (s.power.state == PowerState.standby && st != .gaffer)) = false := by simp [hlog, hp]
  simp only [List.mem_cons, Prod.mk.injEq, List.not_mem_nil, or_false] at hm
  rcases hm with ⟨rfl, rfl⟩ | ⟨rfl, rfl⟩
  · simp only [exec, execScrubLine, hgo, Bool.false_eq_true, if_false]
  · simp only [exec, execScrubLine, hgo, Bool.false_eq_true, if_false]

/-- R221: a scrub that finds no error leaves memory and the log. -/
theorem exec_scrubLine_clean {s : State} {e : LineErr} (st : Store) (a : Nat) (w : Bool) (hh : e.hits = []) (hr : e.wrongRow = false) :
    ∃ t : State, exec (.scrubLine st a e w) s = .next t ∧ t.log = s.log ∧ t.mem = s.mem := by
  simp only [exec, execScrubLine]
  split
  · exact ⟨s, rfl, rfl, rfl⟩
  · have hdram : ∀ tier, s.scrubDram tier a e w = s.countM (0x1830 + (tier - 1)) 1 := fun tier => by
      simp [State.scrubDram, LineErr.verdict_of_no_hits tier hh hr, LineErr.leaves_of_no_hits tier hh hr]
    cases st with
    | t1 => exact ⟨_, rfl, by rw [hdram, State.countM_log], by rw [hdram, State.countM_mem]⟩
    | t2 => exact ⟨_, rfl, by rw [hdram, State.countM_log], by rw [hdram, State.countM_mem]⟩
    | tileStore c =>
      have hts : s.scrubTileStore c a e w = s := by
        simp [State.scrubTileStore, LineErr.verdict_of_no_hits 0 hh hr, LineErr.leaves_of_no_hits 0 hh hr]
      exact ⟨_, rfl, by rw [hts], by rw [hts]⟩
    | accumulator c =>
      have hacc : s.scrubAcc c a e = s := by simp [State.scrubAcc, hh, AccEcc.bad, AccEcc.corrected]
      exact ⟨_, rfl, by rw [hacc], by rw [hacc]⟩
    | gaffer => exact ⟨s, by simp only [LineErr.verdict_of_no_hits 0 hh hr], rfl, rfl⟩

theorem State.counters_spoil (s : State) (a : Nat) (fs : List (Nat × Byte)) : (s.spoil a fs).counters = s.counters :=
  (State.spoil_rel s a fs).only .counters (by decide)

theorem State.banks_spoil (s : State) (a : Nat) (fs : List (Nat × Byte)) : (s.spoil a fs).banks = s.banks :=
  (State.spoil_rel s a fs).only .banks (by decide)

theorem State.ctxs_spoil (s : State) (a : Nat) (fs : List (Nat × Byte)) : (s.spoil a fs).ctxs = s.ctxs :=
  (State.spoil_rel s a fs).only .ctxs (by decide)

theorem State.cores_spoil (s : State) (a : Nat) (fs : List (Nat × Byte)) : (s.spoil a fs).cores = s.cores :=
  (State.spoil_rel s a fs).only .cores (by decide)

/-- The place of a line depends on the binding of the cores alone. -/
theorem State.bankOf_congr {s t : State} (h : t.cores = s.cores) (tier core frame line : Nat) :
    t.bankOf tier core frame line = s.bankOf tier core frame line := by
  simp only [State.bankOf, State.core, h]

theorem State.frameTile_congr {s t : State} (h : t.ctxs = s.ctxs) (tier frame : Nat) : t.frameTile tier frame = s.frameTile tier frame := by
  simp only [State.frameTile, h]

/-- R220 to R222: a line with a corrected error. -/
theorem State.scrubDram_corrected (s : State) {tier lane : Nat} {e : LineErr} (a : Nat) (w : Bool) (hv : e.verdict tier = .corrected lane) :
    ∃ x, s.scrubDram tier a e w =
      (((s.countM (0x1830 + (tier - 1)) 1).spoil (framePhys 0 0 tier 0 (a / 1024) + a % 1024 * 64) (if w then [] else e.leaves tier)).countM 0x1832 1).correctedErr
        x (s.bankOf tier 0 (a / 1024) (a % 1024)).1 (s.bankOf tier 0 (a / 1024) (a % 1024)).2 lane := by
  unfold State.scrubDram
  extract_lets frame line s1 b
  have hb : b = s.bankOf tier 0 frame line := State.bankOf_congr (State.cores_spoil _ _ _) _ _ _ _
  exact ⟨s1.frameOwner tier frame, by simp only [hv, hb, frame, line, s1]⟩

/-- The module counters that a corrected error of a line raises: those of the scrubbed lines, of the scrubbers' corrections and of the bank (R527). -/
theorem State.counters_scrubDram_corrected (s : State) {tier lane : Nat} {e : LineErr} (a : Nat) (w : Bool) (hv : e.verdict tier = .corrected lane) :
    (s.scrubDram tier a e w).counters =
      (((s.countM (0x1830 + (tier - 1)) 1).countM 0x1832 1).countM (s.bankOf tier 0 (a / 1024) (a % 1024)).1.counter 1).counters := by
  obtain ⟨x, h⟩ := s.scrubDram_corrected a w hv
  simp only [h, State.counters_correctedErr, State.countM, State.counters_spoil]

theorem State.corrected_scrubDram (s : State) {tier lane : Nat} {e : LineErr} (a : Nat) (w : Bool) (hv : e.verdict tier = .corrected lane) :
    ((s.scrubDram tier a e w).banks.getOr (s.bankOf tier 0 (a / 1024) (a % 1024)).1.key {}).corrected =
      (s.banks.getOr (s.bankOf tier 0 (a / 1024) (a % 1024)).1.key {}).corrected + 1 := by
  obtain ⟨x, h⟩ := s.scrubDram_corrected a w hv
  rw [h, State.corrected_correctedErr, State.countM_banks, State.banks_spoil, State.countM_banks]

/-- R222: the correction is written back, or what an access wrote meanwhile stands; either way memory reads as before. -/
theorem State.mem_scrubDram_corrected (s : State) {tier lane : Nat} {e : LineErr} (a : Nat) {w : Bool} (hv : e.verdict tier = .corrected lane)
    (hw : w = true ∨ e.weight tier ≤ 1) : (s.scrubDram tier a e w).mem = s.mem := by
  obtain ⟨x, h⟩ := s.scrubDram_corrected a w hv
  have hleaves : (if w then [] else e.leaves tier) = [] := by
    rcases hw with rfl | hw
    · rfl
    · rw [LineErr.leaves_of_corrected hv hw, ite_self]
  rw [h, State.mem_correctedErr, hleaves]
  rfl

/-- R223, R225: an uncorrectable line of a frame that holds a tile. -/
theorem State.ctx_scrubDram_uncorrectable {s : State} {tier cls x bank k : Nat} {e : LineErr} {a : Nat} (w : Bool) (hv : e.verdict tier = .uncorrectable cls)
    (hf : reservedFrame tier (a / 1024) = false) (ht : s.frameTile tier (a / 1024) = some (x, bank, k)) :
    (((s.scrubDram tier a e w).ctx x).bankEntry bank k).lost = true ∧ ((s.scrubDram tier a e w).ctx x).fenceDue = true := by
  unfold State.scrubDram
  extract_lets frame line s1 b
  have hs1 : (s1.countM 0x1833 1).frameTile tier frame = some (x, bank, k) := (State.frameTile_congr (State.ctxs_spoil _ _ _) _ _).trans ht
  simp only [hv, State.scrubUnc, show reservedFrame tier frame = false from hf, hs1, Bool.false_eq_true, if_false]
  exact State.ctx_loseLine _ x bank k tier 0 frame 0 line cls 3 0xFFFF

/-- R227: an uncorrectable error of gaffer memory resets the gaffer. -/
theorem exec_scrubLine_gaffer {s : State} {e : LineErr} {cls : Nat} (a : Nat) (w : Bool) (hlog : s.hasLog = true) (hv : e.verdict 0 = .uncorrectable cls)
    (hd : s.start.gafferDown = false) :
    exec (.scrubLine .gaffer a e w) s = .next ((s.countM 0x1833 1).tileError 5 5 3 noCtx 0xFFFF 0 0 0 (a % 32768)).gafferReset := by
  have hstart : ((s.countM 0x1833 1).tileError 5 5 3 noCtx 0xFFFF 0 0 0 (a % 32768)).start = s.start :=
    (State.tileError_rel (s.countM 0x1833 1) 5 5 3 noCtx 0xFFFF 0 0 0 (a % 32768)).only .start (by decide)
  simp [exec, execScrubLine, hlog, hv, hstart, hd]

/-! ### The statement of the rows, up to a free value -/

/-- The scrubbers' count of corrections rises by one, where the bank's own counter is another. -/
theorem State.corrections_scrubDram (s : State) {tier lane : Nat} {e : LineErr} (a : Nat) (w : Bool) (ht : tier = 1 ∨ tier = 2)
    (hv : e.verdict tier = .corrected lane) (hfree : spareBankNo 10 11 16 ≠ 2) :
    ((s.scrubDram tier a e w).counters.getOr 0x1832 {}).value = ((s.counters.getOr 0x1832 {}).add 1).value := by
  have hbank : 0x1832 ≠ (s.bankOf tier 0 (a / 1024) (a % 1024)).1.counter := (State.counter_bankOf_ne _ _ ht hfree).symm
  have hlines : 0x1832 ≠ 0x1830 + (tier - 1) := by omega
  simp only [s.counters_scrubDram_corrected a w hv, State.countM]
  rw [Map.upd, Map.getOr_set_ne _ _ _ hbank, Map.getOr_upd, Map.upd, Map.getOr_set_ne _ _ _ hlines]

/-- A module whose log exists. -/
def loggingState : State := { start := { stage := 7 } }

/-- One wrong symbol of a line. -/
def oneSymbol : LineErr := { flips := [(3, 9#8)], lane := 7 }

/-- A line of the spare bank that layer 10, slice 11 would have: a module has layers 0 to 3, but SCRUB_LINE takes any number of a line. -/
def spareBank131Line : Nat := (1572864 + 131 * 2048) * 1024

/-- Where the free number of that bank is 2, its counter is the scrubbers' own, and one correction counts there twice. -/
theorem corrections_scrubDram_twice (hfree : spareBankNo 10 11 16 = 2) :
    ((loggingState.scrubDram 1 spareBank131Line oneSymbol false).counters.getOr 0x1832 {}).value = 2 := by
  have hv : oneSymbol.verdict 1 = .corrected 7 := by decide +kernel
  have hloc : (loggingState.bankOf 1 0 (spareBank131Line / 1024) (spareBank131Line % 1024)).1 = .t1 10 11 16 := by decide +kernel
  have hc : (BankLoc.t1 10 11 16).counter = 0x1832 := by simp [BankLoc.counter, hfree]
  rw [loggingState.counters_scrubDram_corrected _ _ hv, hloc, hc]
  rfl

theorem registerRowsComplete_of_spareBankNo_ne (hfree : spareBankNo 10 11 16 ≠ 2) : Obligations.RegisterRowsComplete := by
  unfold Obligations.RegisterRowsComplete
  refine ⟨?_, ?_, ?_, ?_, ?_, ?_, ?_, ?_, ?_, ?_, ?_⟩
  · intro fn off v m o s hl h
    refine ⟨_, exec_registerWrite_byte v hl (by simp [h]), ?_, fun n hn => ?_⟩
    · rw [State.bar0Write_page _ h, State.mbox_updMbox]
    · rw [State.bar0Write_page _ h, State.updMbox, State.mbox_setMbox_ne _ _ hn]
  · intro fn off v m s hl h
    exact ⟨_, exec_registerWrite_byte v hl (by simp [h]), State.mbox_bar0Write_doorbell _ h⟩
  · intro fn off n v s hl h
    exact ⟨_, exec_registerWrite_undecoded n v hl h, rfl, rfl⟩
  · intro fn off v s hl h
    have hd : s.bar0Loc fn off ≠ .none_ := by rcases h with ⟨x, o, h⟩ | h <;> simp [h]
    rw [exec_registerWrite_byte v hl hd, State.bar0Write_readOnly _ h]
  · intro v s hp hr
    exact ⟨_, exec_registerWrite_alertMask v hp hr, rfl⟩
  · intro n s hl
    refine ⟨_, exec_registerWrite_sriov n hl, fun i => ?_⟩
    simp [Map.getOr_map_const]
  · intro n s hl hn
    exact ⟨_, exec_registerWrite_maxRead hl hn, rfl⟩
  · intro v s hd
    have hkeep := (State.dbgClock_rel s (bit v 1) (bit v 2)).only
    exact ⟨_, rfl, State.dbgClock_open _ _ hd, hkeep .mem (by decide), hkeep .life (by decide)⟩
  · intro fn off n s
    cases h : s.bar2Ok fn off n with
    | true => exact ⟨_, exec_bar2Read_ok h, rfl, fun _ => rfl, fun hc => (nomatch hc)⟩
    | false => exact ⟨_, exec_bar2Read_refused h, rfl, fun hc => (nomatch hc), fun _ => rfl⟩
  · intro fn off data s
    refine ⟨fun h => ⟨_, exec_bar2Write_refused h, rfl, rfl⟩, fun h hd hone => ⟨fun hs => ?_, fun hs => ?_⟩⟩
    · refine ⟨_, exec_bar2Write_ok h, ?_⟩
      rw [State.localWrite_of_same_tile _ _ hd hone, State.writeTile_of_not_stalls _ _ hs]
    · refine ⟨_, exec_bar2Write_ok h, ?_⟩
      rw [State.localWrite_of_same_tile _ _ hd hone, State.writeTile_of_stalls _ _ hs]
      exact ⟨rfl, rfl⟩
  · intro st a e w s hlog
    refine ⟨exec_scrubLine_clean st a w, ?_, ?_, ?_⟩
    · rintro tier lane b hp hm hv rfl
      have ht : tier = 1 ∨ tier = 2 := by simp at hm; omega
      exact ⟨_, exec_scrubLine_dram a e w hlog hp hm, s.mem_scrubDram_corrected a hv, s.corrections_scrubDram a w ht hv hfree,
        s.corrected_scrubDram a w hv⟩
    · intro tier cls x bank k hp hm hv hf ht
      obtain ⟨hlost, hfence⟩ := State.ctx_scrubDram_uncorrectable w hv hf ht
      exact ⟨_, exec_scrubLine_dram a e w hlog hp hm, hlost, .inl hfence⟩
    · rintro cls rfl hv hd
      exact ⟨_, exec_scrubLine_gaffer a w hlog hv hd, rfl, rfl, rfl⟩

theorem spareBankNo_ne_of_registerRowsComplete (h : Obligations.RegisterRowsComplete) : spareBankNo 10 11 16 ≠ 2 := by
  unfold Obligations.RegisterRowsComplete at h
  intro hfree
  obtain ⟨-, -, -, -, -, -, -, -, -, -, hscrub⟩ := h
  obtain ⟨-, hcorr, -, -⟩ := hscrub .t1 spareBank131Line oneSymbol false loggingState (by decide)
  obtain ⟨t, ht, -, hcount, -⟩ := hcorr 1 7 _ (by decide) (by decide) (by decide +kernel) rfl
  rw [exec_scrubLine_dram (tier := 1) _ _ _ (by decide) (by decide) (by decide)] at ht
  cases ht
  rw [corrections_scrubDram_twice hfree] at hcount
  exact absurd hcount (by decide)

/-- What O31 says comes down to a value that the manual leaves open (R572 gives spare banks no number; log 5). Every clause holds, but for the count of the
scrubbers' corrections at a line of T1 that lies past the module's frames, in a spare bank of layer 10: there the bank's own counter is the same one when the
free number of that bank is 2. Config.freeValue is opaque, so neither O31 nor its negation follows. -/
theorem registerRowsComplete_iff : Obligations.RegisterRowsComplete ↔ spareBankNo 10 11 16 ≠ 2 :=
  ⟨spareBankNo_ne_of_registerRowsComplete, registerRowsComplete_of_spareBankNo_ne⟩

end Sys2Proof.Machine

/-! SUPPORT. The Kebuic formats (O41, O42): what a code made of a sign and a log reads back as, T16 as a rising table, and the rounding of R53, which is that of R48 at
the entries of T16. -/

namespace Sys2Proof

/-! ### A code and its sign and log -/

theorem truncate_ofNat_signedCode (w r : Nat) (s : Bool) : (BitVec.ofNat (w + 1) ((if s then 2 ^ w else 0) + r)).truncate w = BitVec.ofNat w r := by
  apply BitVec.eq_of_toNat_eq
  rw [BitVec.truncate, BitVec.setWidth_ofNat_of_le (Nat.le_succ w), BitVec.toNat_ofNat, BitVec.toNat_ofNat]
  cases s <;> simp

/-- The bits of a code below its sign, read as a signed number. -/
theorem toInt_truncate_signedCode (w : Nat) (s : Bool) (l : Int) :
    ((BitVec.ofNat (w + 1) ((if s then 2 ^ w else 0) + (l % (2 ^ w : Nat)).toNat)).truncate w).toInt = l.bmod (2 ^ w) := by
  have hpos : ((2 ^ w : Nat) : Int) ≠ 0 := by positivity
  rw [truncate_ofNat_signedCode, BitVec.toInt_ofNat', Int.toNat_of_nonneg (Int.emod_nonneg l hpos), Int.emod_bmod]

theorem Kb16.log_mk {l : Int} (s : Bool) (hlo : -16384 ≤ l) (hhi : l ≤ 16383) : (Kb16.mk s l).log = l :=
  (toInt_truncate_signedCode 15 s l).trans (Int.bmod_eq_of_le (by omega) (by omega))

theorem Kb8.log_mk {l : Int} (s : Bool) (hlo : -64 ≤ l) (hhi : l ≤ 63) : (Kb8.mk s l).log = l :=
  (toInt_truncate_signedCode 7 s l).trans (Int.bmod_eq_of_le (by omega) (by omega))

theorem getLsbD_ofNat_signedCode {w r : Nat} (s : Bool) (h : r < 2 ^ w) : (BitVec.ofNat (w + 1) ((if s then 2 ^ w else 0) + r)).getLsbD w = s := by
  rw [BitVec.getLsbD_ofNat]
  cases s
  · simp [Nat.testBit_lt_two_pow h]
  · simp [Nat.testBit_two_pow_add_eq, Nat.testBit_lt_two_pow h]

@[simp] theorem Kb16.sign_mk (s : Bool) (l : Int) : (Kb16.mk s l).sign = s :=
  getLsbD_ofNat_signedCode (w := 15) s (by omega)

@[simp] theorem Kb8.sign_mk (s : Bool) (l : Int) : (Kb8.mk s l).sign = s :=
  getLsbD_ofNat_signedCode (w := 7) s (by omega)

/-! ### The reserved codes -/

theorem Kb16.isZero_iff {c : Kb16} : c.isZero = true ↔ c = 0x4000#16 := beq_iff_eq

theorem Kb16.isNan_iff {c : Kb16} : c.isNan = true ↔ c = 0xC000#16 := beq_iff_eq

theorem Kb16.isInf_iff {c : Kb16} : c.isInf = true ↔ c = 0x3FFF#16 ∨ c = 0xBFFF#16 := by
  simp [Kb16.isInf]

theorem Kb8.isZero_iff {c : Kb8} : c.isZero = true ↔ c = 0x40#8 := beq_iff_eq

theorem Kb8.isNan_iff {c : Kb8} : c.isNan = true ↔ c = 0xC0#8 := beq_iff_eq

theorem Kb16.not_nan_not_zero_of_isInf {c : Kb16} (h : c.isInf = true) : c.isNan = false ∧ c.isZero = false := by
  rcases Kb16.isInf_iff.mp h with rfl | rfl
  · exact ⟨rfl, rfl⟩
  · exact ⟨rfl, rfl⟩

/-- R31: the reserved codes have the logs that bound the finite range. -/
theorem Kb16.not_special_of_log {c : Kb16} (hlo : -16383 ≤ c.log) (hhi : c.log ≤ 16382) : c.isNan = false ∧ c.isZero = false ∧ c.isInf = false := by
  simp only [← Bool.not_eq_true, Kb16.isNan_iff, Kb16.isZero_iff, Kb16.isInf_iff]
  refine ⟨?_, ?_, ?_⟩
  · rintro rfl
    exact absurd hlo (by decide)
  · rintro rfl
    exact absurd hlo (by decide)
  · rintro (rfl | rfl) <;> exact absurd hhi (by decide)

/-! ### The conversions, a case each -/

theorem Kb16.lin_of_finite {c : Kb16} (hn : c.isNan = false) (hz : c.isZero = false) (hi : c.isInf = false) :
    c.lin = .fin c.sign (t16 (c.log % 256).toNat) (c.log / 256 - 31) := by
  simp [Kb16.lin, hn, hz, hi]

theorem Kb16.lin_of_isInf {c : Kb16} (h : c.isInf = true) : c.lin = .inf c.sign := by
  obtain ⟨hn, hz⟩ := Kb16.not_nan_not_zero_of_isInf h
  simp [Kb16.lin, hn, hz, h]

theorem kb16ToKb8_of_isInf {c : Kb16} (b : Int) (h : c.isInf = true) : kb16ToKb8 c b = (Kb8.mk c.sign 63, false) := by
  obtain ⟨hn, hz⟩ := Kb16.not_nan_not_zero_of_isInf h
  simp [kb16ToKb8, hn, hz, h]

theorem Kb8.lin_of_finite {c : Kb8} (b : Int) (hn : c.isNan = false) (hz : c.isZero = false) :
    c.lin b = .fin c.sign (t16 (32 * (c.log % 8).toNat)) (c.log / 8 + b - 31) := by
  simp [Kb8.lin, hn, hz]

theorem kb16Finish_of_finite {l : Int} (s : Bool) (m : Mode) (hlo : -16383 ≤ l) (hhi : l ≤ 16382) : kb16Finish s l m = (Kb16.mk s l, false) := by
  unfold kb16Finish
  rw [if_neg (by omega), if_neg (by omega)]

theorem kb16Finish_of_over {l : Int} (s : Bool) (m : Mode) (h : 16383 ≤ l) :
    kb16Finish s l m = (Kb16.mk s (match m with | .strict => 16383 | .saturate => 16382), true) := if_pos h

theorem kb16Finish_of_under {l : Int} (s : Bool) (m : Mode) (h : l ≤ -16384) : kb16Finish s l m = (0x4000#16, false) := by
  unfold kb16Finish
  rw [if_neg (by omega), if_pos h]

theorem kb8Finish_of_finite {l : Int} (s : Bool) (hlo : -63 ≤ l) (hhi : l ≤ 63) : kb8Finish s l = (Kb8.mk s l, false) := by
  rw [kb8Finish, if_neg (by omega), if_neg (by omega)]

theorem kb8Finish_of_over {l : Int} (s : Bool) (h : 64 ≤ l) : kb8Finish s l = (Kb8.mk s 63, true) := if_pos h

theorem kb8Finish_of_under {l : Int} (s : Bool) (h : l ≤ -64) : kb8Finish s l = (0x40#8, false) := by
  rw [kb8Finish, if_neg (by omega), if_pos h]

theorem kb8ToKb16_of_finite {c : Kb8} (b : Int) (m : Mode) (hn : c.isNan = false) (hz : c.isZero = false) :
    kb8ToKb16 c b m = kb16Finish c.sign (32 * c.log + 256 * b) m := by
  simp [kb8ToKb16, hn, hz]

/-- R52: an eighth of an octave is 32 of KB16's steps, so the widened code has the fraction, and with it the value, of the KB8 code. -/
theorem Kb16.lin_mk_widened {c : Kb8} {b : Int} (hn : c.isNan = false) (hz : c.isZero = false) (hlo : -16383 ≤ 32 * c.log + 256 * b)
    (hhi : 32 * c.log + 256 * b ≤ 16382) : (Kb16.mk c.sign (32 * c.log + 256 * b)).lin = c.lin b := by
  have hlog := Kb16.log_mk c.sign (l := 32 * c.log + 256 * b) (by omega) (by omega)
  obtain ⟨hn', hz', hi'⟩ := Kb16.not_special_of_log (c := Kb16.mk c.sign (32 * c.log + 256 * b)) (by omega) (by omega)
  have hfrac : ((32 * c.log + 256 * b) % 256).toNat = 32 * (c.log % 8).toNat := by omega
  have hexp : (32 * c.log + 256 * b) / 256 = c.log / 8 + b := by omega
  rw [Kb16.lin_of_finite hn' hz' hi', Kb8.lin_of_finite b hn hz, hlog, Kb16.sign_mk, hfrac, hexp]

/-! ### T16 rises -/

theorem t16Table_pairwise_lt : t16Table.Pairwise (· < ·) :=
  List.isChain_iff_pairwise.mp (by decide +kernel)

theorem t16Table_length : t16Table.length = 256 := by decide +kernel

theorem t16_eq_getElem {f : Nat} (h : f < 256) : t16 f = t16Table[f]'(t16Table_length ▸ h) :=
  List.getD_eq_getElem t16Table 0 (t16Table_length ▸ h)

/-- R53: T16 is strictly increasing. -/
theorem strictMonoOn_t16 : StrictMonoOn t16 (Set.Iio 256) := by
  intro i hi j hj hij
  rw [t16_eq_getElem hi, t16_eq_getElem hj]
  exact List.pairwise_iff_getElem.mp t16Table_pairwise_lt i j _ _ hij

theorem le_t16 {f : Nat} (h : f < 256) : 2 ^ 31 ≤ t16 f :=
  strictMonoOn_t16.monotoneOn (show 0 ∈ Set.Iio 256 by decide) h (Nat.zero_le f)

theorem t16_lt {f : Nat} (h : f < 256) : t16 f < 2 ^ 32 := by
  have hlast : t16 f ≤ t16 255 := strictMonoOn_t16.monotoneOn h (show 255 ∈ Set.Iio 256 by decide) (by omega)
  exact hlast.trans_lt (by decide +kernel)

theorem t16_ne_zero {f : Nat} (h : f < 256) : t16 f ≠ 0 := by
  have := le_t16 h
  omega

theorem log2_t16 {f : Nat} (h : f < 256) : (t16 f).log2 = 31 :=
  (Nat.log2_eq_iff (t16_ne_zero h)).mpr ⟨le_t16 h, t16_lt h⟩

/-- The binary exponent of lin is the whole part of the log. -/
theorem expOf_t16 {f : Nat} (h : f < 256) (k : Int) : expOf (t16 f) (k - 31) = k := by
  rw [expOf, log2_t16 h]
  omega

/-- R53: an entry of T16 lies below, on or above another as its index does. -/
theorem cmpSig_t16 {i f : Nat} (hi : i < 256) (hf : f < 256) : cmpSig (t16 i) (t16 f) = compare f i := by
  rw [cmpSig, log2_t16 hf, if_pos le_rfl, Nat.sub_self, Nat.pow_zero, Nat.mul_one]
  simpa only [cmp_eq_compare] using strictMonoOn_t16.cmp_map_eq hf hi

/-! ### The rounding of R53 -/

/-- R53: d / 32 rounded to the nearest integer, a tie to the even one. -/
def narrowLog (d : Int) : Int := if 16 < d % 32 ∨ (d % 32 = 16 ∧ d / 32 % 2 = 1) then d / 32 + 1 else d / 32

theorem kb16ToKb8_of_finite {c : Kb16} (b : Int) (hn : c.isNan = false) (hz : c.isZero = false) (hi : c.isInf = false) :
    kb16ToKb8 c b = kb8Finish c.sign (narrowLog (c.log - 256 * b)) := by
  simp [kb16ToKb8, hn, hz, hi, narrowLog]

/-- The nearest integer, even on a tie, is what narrowLog answers. -/
theorem narrowLog_eq {d q : Int} (hlo : 32 * q - 16 ≤ d) (hhi : d ≤ 32 * q + 16) (htie : d = 32 * q - 16 ∨ d = 32 * q + 16 → q % 2 = 0) :
    narrowLog d = q := by
  unfold narrowLog
  split <;> omega

/-- Whole octaves pass through the rounding. -/
theorem narrowLog_add_octaves (d k : Int) : narrowLog (d + 256 * k) = narrowLog d + 8 * k := by
  unfold narrowLog
  split <;> split <;> omega

theorem length_filter_lt_range_eight : ∀ k ≤ 8, ((List.range 8).filter (· < k)).length = k := by decide

/-- The midpoints of R48 that lie below entry f of T16. -/
theorem length_filter_kb8Mids {f : Nat} (hf : f < 256) : (kb8Mids.filter (fun t => cmpSig t (t16 f) == .gt)).length = (f + 15) / 32 := by
  have hbelow : ∀ g ∈ List.range 8, (cmpSig (t16 (32 * g + 16)) (t16 f) == .gt) = decide (g < (f + 15) / 32) := by
    intro g hg
    have hg8 := List.mem_range.mp hg
    rw [cmpSig_t16 (by omega) hf, Bool.eq_iff_iff, beq_iff_eq, decide_eq_true_iff, Nat.compare_eq_gt]
    omega
  rw [kb8Mids, List.filter_map, List.length_map]
  exact (congrArg List.length (List.filter_congr hbelow)).trans (length_filter_lt_range_eight _ (by omega))

theorem getElem?_kb8Mids {g : Nat} (h : g < 8) : kb8Mids[g]? = some (t16 (32 * g + 16)) := by
  simp [kb8Mids, h]

theorem getElem?_kb8Mids_eq_none {g : Nat} (h : 8 ≤ g) : kb8Mids[g]? = none := by
  simp [kb8Mids, h]

/-- R48 at an entry of T16 is the integer rule of R53. -/
theorem roundIndex_kb8Mids_t16 {f : Nat} (hf : f < 256) : (roundIndex kb8Mids (t16 f) : Int) = narrowLog f := by
  unfold roundIndex
  simp only [length_filter_kb8Mids hf]
  by_cases hg : (f + 15) / 32 < 8
  · rw [getElem?_kb8Mids hg]
    simp only [cmpSig_t16 (show 32 * ((f + 15) / 32) + 16 < 256 by omega) hf, Bool.and_eq_true, beq_iff_eq, Nat.compare_eq_eq]
    unfold narrowLog
    split <;> split <;> omega
  · rw [getElem?_kb8Mids_eq_none (Nat.not_lt.mp hg)]
    show (((f + 15) / 32 : Nat) : Int) = narrowLog f
    unfold narrowLog
    split <;> omega

theorem kb8From_t16 {d : Int} (s : Bool) (b : Int) :
    kb8From (.fin s (t16 (d % 256).toNat) (d / 256 - 31)) b = kb8Finish s (narrowLog (d - 256 * b)) := by
  have hf : (d % 256).toNat < 256 := by omega
  have hd : d - 256 * b = ((d % 256).toNat : Int) + 256 * (d / 256 - b) := by omega
  rw [kb8From, if_neg (t16_ne_zero hf), expOf_t16 hf, roundIndex_kb8Mids_t16 hf, hd, narrowLog_add_octaves, add_comm]

theorem kb16ToKb8_eq_kb8From_lin (c : Kb16) (b : Int) : kb16ToKb8 c b = kb8From c.lin b := by
  cases hn : c.isNan with
  | true => simp [kb16ToKb8, Kb16.lin, kb8From, hn]
  | false =>
  cases hz : c.isZero with
  | true => simp [kb16ToKb8, Kb16.lin, kb8From, hn, hz]
  | false =>
  cases hi : c.isInf with
  | true => rw [kb16ToKb8_of_isInf b hi, Kb16.lin_of_isInf hi, kb8From]
  | false => rw [kb16ToKb8_of_finite b hn hz hi, Kb16.lin_of_finite hn hz hi, kb8From_t16]

/-- R53: e_max of a block of one KB16 element. -/
theorem blockExp_lin {c : Kb16} (hn : c.isNan = false) (hz : c.isZero = false) (hi : c.isInf = false) : blockExp [c.lin] = some (c.log / 256) := by
  have hf : (c.log % 256).toNat < 256 := by omega
  simp [blockExp, Kb16.lin_of_finite hn hz hi, t16_ne_zero hf, expOf_t16 hf]

end Sys2Proof

namespace Sys2Proof.Machine

theorem occIn_inf (s : Bool) : occIn (.inf s) = occInput ||| occInf := rfl

@[simp] theorem occOvf_false : occOvf false = 0 := rfl

theorem toKb8_kb16 (c : Kb16) (v : Val) (b : Int) : toKb8 1 c.toNat v b = ((kb16ToKb8 c b).1.toNat, occIn v ||| occOvf (kb16ToKb8 c b).2) := by
  simp [toKb8]

/-- R53, R57: the flags of an Inf are those of the input, and no overflow. -/
theorem toKb8_of_isInf {c : Kb16} (b : Int) (h : c.isInf = true) : toKb8 1 c.toNat c.lin b = ((Kb8.mk c.sign 63).toNat, occInput ||| occInf) := by
  rw [toKb8_kb16, kb16ToKb8_of_isInf b h, Kb16.lin_of_isInf h, occIn_inf, occOvf_false, Nat.or_zero]

/-- Settles O41: each clause is kb16Finish at 32 L8 + 256 b. -/
theorem kb8WidensToKb16 : Obligations.Kb8WidensToKb16 := by
  unfold Obligations.Kb8WidensToKb16
  intro c b m _ _
  refine ⟨fun hz => ?_, fun hn => ?_, fun hz hn => ?_⟩
  · rw [Kb8.isZero_iff.mp hz]
    rfl
  · rw [Kb8.isNan_iff.mp hn]
    rfl
  rw [kb8ToKb16_of_finite b m hn hz]
  refine ⟨fun hlo hhi => ?_, fun hover => ?_, fun hunder => ?_⟩
  · rw [kb16Finish_of_finite c.sign m hlo hhi]
    exact ⟨Kb16.log_mk c.sign (by omega) (by omega), Kb16.sign_mk _ _, rfl, Kb16.lin_mk_widened hn hz hlo hhi⟩
  · rw [kb16Finish_of_over c.sign m hover]
    exact ⟨rfl, Kb16.sign_mk _ _, by cases m <;> exact Kb16.log_mk c.sign (by decide) (by decide)⟩
  · exact kb16Finish_of_under c.sign m hunder

/-- Settles O42: narrowLog is the nearest integer (narrowLog_eq), and R48 rounds lin of a KB16 code as narrowLog does its log (kb16ToKb8_eq_kb8From_lin). -/
theorem kb16NarrowsAsItsValueDoes : Obligations.Kb16NarrowsAsItsValueDoes := by
  unfold Obligations.Kb16NarrowsAsItsValueDoes
  intro c b q
  refine ⟨fun hz => ?_, fun hn => ?_, toKb8_of_isInf b, fun hz hn hi => ⟨blockExp_lin hn hz hi, fun hlo hhi htie => ?_⟩, kb16ToKb8_eq_kb8From_lin c b⟩
  · rw [Kb16.isZero_iff.mp hz]
    rfl
  · rw [Kb16.isNan_iff.mp hn]
    rfl
  rw [kb16ToKb8_of_finite b hn hz hi, narrowLog_eq hlo hhi htie]
  refine ⟨fun hover => ?_, fun hunder => ?_, fun hlo63 hhi63 => ?_⟩
  · exact kb8Finish_of_over c.sign hover
  · exact kb8Finish_of_under c.sign hunder
  · rw [kb8Finish_of_finite c.sign hlo63 hhi63]
    exact ⟨Kb8.log_mk c.sign (by omega) (by omega), Kb8.sign_mk _ _, rfl⟩

end Sys2Proof.Machine

/-! SUPPORT. Current control and the parity sweep (O5): the ceiling of a core stands while time passes and events are counted; what a change of n, a ramp's start and the
sweep of a row make of the core. -/

namespace Sys2Proof.Machine

/-! ### What time and counting leave alone -/

@[simp] theorem State.core_toCycle (s : State) (t c : Nat) : (s.toCycle t).core c = s.core c := rfl

@[simp] theorem State.ceiling_toCycle (s : State) (t c : Nat) : (s.toCycle t).ceiling c = s.ceiling c := rfl

@[simp] theorem State.core_countCore (s : State) (c k n : Nat) (x : Option Nat) (c' : Nat) : (s.countCore c k n x).core c' = s.core c' :=
  State.core_congr ((State.countCore_rel s c k n x).cores (by decide)) c'

@[simp] theorem State.clk_countCore (s : State) (c k n : Nat) (x : Option Nat) : (s.countCore c k n x).clk = s.clk :=
  (State.countCore_rel s c k n x).clk (by decide)

@[simp] theorem State.sealed_count (s : State) (x i k y : Nat) : ((s.count x i k).ctx y).sealed_ = (s.ctx y).sealed_ := by
  obtain ⟨m, h⟩ := State.ctx_count s x i k y
  rw [h]

/-- The ceiling of a core hangs on the power controls, on the core's rings and on which contexts are sealed. -/
theorem State.ceiling_congr {s t : State} {c : Nat} (hp : t.power = s.power) (hr : (t.core c).rings = (s.core c).rings)
    (hx : ∀ y, (t.ctx y).sealed_ = (s.ctx y).sealed_) : t.ceiling c = s.ceiling c := by
  have hsealed : t.coreSealed c = s.coreSealed c := by simp only [State.coreSealed, hr, hx]
  rw [State.ceiling, State.ceiling, hsealed, hp]

@[simp] theorem State.ceiling_countCore (s : State) (c k n : Nat) (x : Option Nat) (c' : Nat) : (s.countCore c k n x).ceiling c' = s.ceiling c' := by
  refine State.ceiling_congr ((State.countCore_rel s c k n x).only .power (by decide)) (by rw [State.core_countCore]) (fun y => ?_)
  cases x with
  | none => rfl
  | some x => exact State.sealed_count _ _ _ _ _

/-! ### A change of n -/

theorem State.core_settle (s : State) (c : Nat) : (s.settle c).core c = { s.core c with belowAt := s.clk.cycle } := by
  unfold State.settle
  extract_lets k s1
  have hcore : s1.core c = s.core c := by
    unfold s1
    split
    · exact State.core_countCore _ _ _ _ _ _
    · rfl
  have hclk : s1.clk = s.clk := by
    unfold s1
    split
    · exact State.clk_countCore _ _ _ _ _
    · rfl
  rw [State.core_updCore, hcore, hclk]

@[simp] theorem State.clk_settle (s : State) (c : Nat) : (s.settle c).clk = s.clk := (State.settle_rel s c).clk (by decide)

@[simp] theorem State.ceiling_settle (s : State) (c : Nat) : (s.settle c).ceiling c = s.ceiling c := by
  refine State.ceiling_congr ((State.settle_rel s c).only .power (by decide)) (by rw [State.core_settle]) (fun y => ?_)
  unfold State.settle
  extract_lets k s1
  show (s1.ctx y).sealed_ = _
  unfold s1
  split
  · cases k.lastCtx with
    | none => rfl
    | some x => exact State.sealed_count _ _ _ _ _
  · rfl

theorem Core.settleSlots_eq (k : Core) (t : Nat) : ∃ free owed, k.settleSlots t = { k with slotFree := free, owed := owed } := by
  unfold Core.settleSlots
  extract_lets u
  split
  · exact ⟨_, _, rfl⟩
  · split <;> exact ⟨_, _, rfl⟩

@[simp] theorem State.clk_setN (s : State) (c n : Nat) (f : Core → Core) : (s.setN c n f).clk = s.clk := (State.setN_rel s c n f).clk (by decide)

/-- What a change of n makes of the core before what its cause adds (R99, R102). -/
theorem State.core_setN (s : State) (c n : Nat) (f : Core → Core) : ∃ free owed, (s.setN c n f).core c = f { s.core c with
    slotFree := free, owed := owed, belowAt := s.clk.cycle, n := n, nPrev := (s.core c).n, nAt := s.clk.cycle
    descend := (s.core c).descend && decide (s.ceiling c < n) } := by
  obtain ⟨free, owed, h⟩ := Core.settleSlots_eq { s.core c with belowAt := s.clk.cycle } s.clk.cycle
  refine ⟨free, owed, ?_⟩
  unfold State.setN
  simp only [State.core_updCore, State.core_settle, State.clk_settle, State.ceiling_settle, h]

@[simp] theorem State.clk_startUp (s : State) (c : Nat) : (s.startUp c).clk = s.clk := (State.startUp_rel s c).clk (by decide)

@[simp] theorem State.clk_fillKeepers (s : State) (c : Nat) : (s.fillKeepers c).clk = s.clk := (State.fillKeepers_rel s c).clk (by decide)

/-- The keeper ops of the slots that passed change what the core fed last, and the slots it owes, alone (R98). -/
theorem State.core_fillKeepers (s : State) (c : Nat) : ∃ free owed keeper, (s.fillKeepers c).core c = { s.core c with
    slotFree := free, owed := owed, keeper := keeper } := by
  unfold State.fillKeepers
  extract_lets k n s1
  have hcore : s1.core c = s.core c := by
    unfold s1
    split
    · rfl
    · exact State.core_countCore _ _ _ _ _ _
  rw [State.core_updCore, hcore]
  exact ⟨_, _, _, rfl⟩

/-! ### The rows of the lehr -/

/-- A change of the tag of a descriptor in flight changes its core in its rings alone. -/
theorem State.core_tagEmpty (s : State) (c : Nat) : ∃ rings, (s.tagEmpty c).core c = { s.core c with rings := rings } := by
  unfold State.tagEmpty
  split
  · split
    · exact ⟨_, rfl⟩
    · exact ⟨_, State.core_updCore _ _ _⟩
  · exact ⟨_, rfl⟩

@[simp] theorem State.clk_tagEmpty (s : State) (c : Nat) : (s.tagEmpty c).clk = s.clk := by
  unfold State.tagEmpty
  split
  · split <;> rfl
  · rfl

theorem exec_emptyIssueSlot {s : State} {c : Nat} {lost : Bool} (hn : (s.core c).n ≠ 0) (hr : s.rowReady c = false ∨ lost = true) :
    ∃ t : State, exec (.emptyIssueSlot c lost) s = .next t ∧ t.clk = (s.toCycle (s.slotAt c)).clk ∧ ∃ rings, t.core c = { s.core c with
      rings := rings, slotFree := s.slotAt c + 1, owed := 0, keeper := (s.core c).phantom
      empties := if ((s.toCycle (s.slotAt c)).preRamping c).isSome = true then (s.core c).empties else (s.core c).empties + 1 } := by
  have hgo : ¬ ((s.core c).n = 0 ∨ (s.rowReady c = true ∧ ¬ lost = true)) := by
    rcases hr with h | h <;> simp [hn, h]
  simp only [exec, execEmptyIssueSlot, if_neg hgo]
  refine ⟨_, rfl, ?_, ?_⟩
  · cases lost <;> simp
  · generalize hu : (if lost = true then _ else _ : State) = u
    have hcore : u.core c = s.core c := by
      subst hu
      split <;> simp
    obtain ⟨rings, h⟩ := State.core_tagEmpty u c
    exact ⟨rings, by rw [State.core_updCore, h, hcore]; rfl⟩

theorem exec_lehrRampDownStart {s : State} {c : Nat} (he : 97 ≤ (s.core c).empties) (hd : (s.core c).rampDown = false) (hn : (s.core c).n ≠ 0)
    (hp : s.preRamping c = none) : exec (.lehrRampDownStart c) s = .next (s.setN c ((s.core c).n - 1) (fun k => { k with
      rampDown := true, rampUp := false, lastRow := if k.n = 0 then [] else k.lastRow })) := by
  simp [exec, execLehrRampDownStart, hd, hn, hp, he]

theorem exec_lehrStep {s : State} {c : Nat} (hd : (s.core c).rampDown = true) (hn : (s.core c).n ≠ 0) :
    exec (.lehrStep c) s = .next (((s.toCycle ((s.core c).nAt + 840)).fillKeepers c).setN c ((s.core c).n - 1) (fun k => { k with
      lastRow := if k.n = 0 then [] else k.lastRow })) := by
  simp [exec, execLehrStep, hd, hn]

theorem exec_rampUpStep {s : State} {c : Nat} (hu : (s.core c).rampUp = true) (hn : (s.core c).n < s.ceiling c) :
    exec (.rampUpStep c) s = .next ((s.toCycle ((s.core c).nAt + 840)).setN c ((s.core c).n + 1) (fun k => { k with
      rampUp := decide (k.n < s.ceiling c) })) := by
  have hgo : ¬ (!(s.core c).rampUp) = true := by simp [hu]
  show execRampUpStep c s = _
  dsimp only [execRampUpStep]
  rw [if_neg hgo, if_neg (Nat.not_le.mpr hn)]
  rfl

theorem exec_ceilingStepDown {s : State} {c : Nat} (hn : s.ceiling c < (s.core c).n) :
    exec (.ceilingStepDown c) s = .next ((s.toCycle ((s.core c).ceilAt + 840)).setN c ((s.core c).n - 1) (fun k => { k with
      ceilAt := (s.toCycle ((s.core c).ceilAt + 840)).clk.cycle, rampUp := false })) := by
  simp [exec, execCeilingStepDown, hn]

theorem exec_preRampStart {s : State} {c x u : Nat} (ht : s.firstTarget c = some (x, u)) (hp : (s.core c).preRamp ≠ some (u, x))
    (hv : s.evTurn x 5 0 ((s.ctx x).job.epoch + s.rampStart x u) = true) : exec (.preRampStart c) s =
      .next (((s.toFabric x (s.rampStart x u)).startUp c).updCore c (fun k => { k with preRamp := some (u, x), empties := 0 })) := by
  simp [exec, execPreRampStart, ht, hp, hv]

/-! ### The sweep -/

@[simp] theorem Map.vals_self {α : Type} (m : Map α) : m.vals (fun _ v => v) = m := List.map_id m

@[simp] theorem State.core_strike_nil (s : State) (c row : Nat) : (s.strike c row []).core c = s.core c := by
  simp [State.strike]

/-- A row that is clean is noted in its set (R104). -/
theorem State.sweepArray_of_clean {s : State} {c row a : Nat} {w : WSet} (hw : (s.core c).active.find a = some w) (hc : w.rowBad row = false) :
    s.sweepArray c row a = s.updCore c (fun k => { k with active := k.active.set a { w with clean := w.clean.set row s.clk.tai.ns } }) := by
  simp [State.sweepArray, hw, hc]

theorem State.sweepArray_of_no_set {s : State} {c row a : Nat} (hw : (s.core c).active.find a = none) : s.sweepArray c row a = s := by
  simp [State.sweepArray, hw]

@[simp] theorem State.clk_sweepArray (s : State) (c row a : Nat) : (s.sweepArray c row a).clk = s.clk := (State.sweepArray_rel s c row a).clk (by decide)

theorem State.clk_foldl_sweepArray (l : List Nat) (s : State) (c row : Nat) : (l.foldl (fun s a => s.sweepArray c row a) s).clk = s.clk := by
  induction l generalizing s with
  | nil => rfl
  | cons a l ih => rw [List.foldl_cons, ih, State.clk_sweepArray]

@[simp] theorem State.clk_sweepFails (s : State) (c row : Nat) : (s.sweepFails c row).clk = s.clk := (State.sweepFails_rel s c row).clk (by decide)

/-- A set noted as clean at a time. -/
def WSet.noted (w : WSet) (row ns : Nat) : WSet := { w with clean := w.clean.set row ns }

@[simp] theorem WSet.rowBad_noted (w : WSet) (row ns k : Nat) : (w.noted row ns).rowBad k = w.rowBad k := rfl

/-- What the sweep of an array with a clean row makes of the active sets (R104). -/
theorem State.find_sweepArray {s : State} {c row a : Nat} (hc : ∀ w, (s.core c).active.find a = some w → w.rowBad row = false) (j : Nat) :
    ((s.sweepArray c row a).core c).active.find j =
      ((s.core c).active.find j).map (fun w => if j = a then w.noted row s.clk.tai.ns else w) := by
  cases ha : (s.core c).active.find a with
  | none =>
    rw [State.sweepArray_of_no_set ha]
    by_cases hj : j = a
    · simp [hj, ha]
    · simp [hj]
  | some w =>
    rw [State.sweepArray_of_clean ha (hc w ha), State.core_updCore]
    by_cases hj : j = a
    · simp [hj, ha, WSet.noted]
    · simp [hj, Map.find_set_ne]

/-- The sweep of distinct arrays, their rows all clean, notes the time in each set that it meets. -/
theorem State.find_foldl_sweepArray {l : List Nat} {s : State} {c row : Nat} (hl : l.Nodup)
    (hc : ∀ j w, (s.core c).active.find j = some w → w.rowBad row = false) (j : Nat) :
    ((l.foldl (fun s a => s.sweepArray c row a) s).core c).active.find j =
      ((s.core c).active.find j).map (fun w => if j ∈ l then w.noted row s.clk.tai.ns else w) := by
  induction l generalizing s with
  | nil => simp
  | cons a l ih =>
    obtain ⟨hal, hl⟩ := List.nodup_cons.mp hl
    have hstep := State.find_sweepArray (row := row) (hc a)
    have hc' : ∀ i w, ((s.sweepArray c row a).core c).active.find i = some w → w.rowBad row = false := by
      intro i w hw
      rw [hstep, Option.map_eq_some_iff] at hw
      obtain ⟨v, hv, rfl⟩ := hw
      split <;> simp [hc i v hv]
    rw [List.foldl_cons, ih hl hc', hstep, Option.map_map, State.clk_sweepArray]
    congr 1
    funext w
    by_cases hj : j = a
    · simp [hj, hal]
    · simp [hj]

/-- Completion changes its core in its rings and its sample records alone (R169). -/
theorem State.core_completeIf (s : State) (c r : Nat) (p : OutDesc → Bool) (st fl : Nat) :
    ∃ rings q, (s.completeIf c r p st fl).core c = { s.core c with rings := rings, sampleQ := q } := by
  unfold State.completeIf
  extract_lets g now hit s1 s2
  split
  · exact ⟨_, _, rfl⟩
  · obtain ⟨⟨q, hq⟩, -⟩ := State.queueSamples_spec s2 c g hit
    have hcore : s2.core c = s1.core c := by
      unfold s2
      split <;> rfl
    exact ⟨((s.core c).updRing r _).rings, q, by rw [hq, hcore]; exact congrArg (fun k : Core => { k with sampleQ := q }) (State.core_updCore _ _ _)⟩

/-- An op that takes its place in the array unit changes which ops the unit holds, and the next shadow set, alone (R84, R138). -/
theorem Core.start_eq (k : Core) (a : ArrOp) : ∃ arr waiting, k.start a = { k with arr := arr, waiting := waiting, nextSet := 1 - k.nextSet } := by
  unfold Core.start
  extract_lets a' k'
  split <;> exact ⟨_, _, rfl⟩

/-- The end of a failed op leaves the active sets (R105, R106, R139). -/
theorem State.active_failArr (s : State) (c : Nat) (a : ArrOp) (st : Nat) : ((s.failArr c a st).core c).active = (s.core c).active := by
  unfold State.failArr
  extract_lets same s1
  obtain ⟨rings, q, h⟩ := State.core_completeIf s1 c a.ring (fun d => d.id = a.slot) st 0
  rw [State.complete, h]
  show (s1.core c).active = _
  unfold s1
  rw [State.core_updCore]
  extract_lets running held k1 k2
  split
  · split
    · rfl
    · rename_i l _
      obtain ⟨arr, waiting, hstart⟩ := Core.start_eq { k2 with look := none } l
      rw [hstart]
  · rfl

theorem State.active_sweepFails (s : State) (c row : Nat) : ((s.sweepFails c row).core c).active = (s.core c).active := by
  unfold State.sweepFails
  extract_lets k
  split
  · split
    · exact State.active_failArr _ _ _ _
    · rfl
  · rfl

/-- The sweep of the row that is next in each array, an upset that strikes it first (R104, R106). -/
def State.sweepArrays (s : State) (c : Nat) (bad : List Nat) : State :=
  (List.range 4).foldl (fun u a => u.sweepArray c (s.core c).sweepRow a)
    ((s.toCycle ((s.core c).sweepAt + 256)).strike c (s.core c).sweepRow bad)

theorem exec_paritySweep (s : State) (c : Nat) (bad : List Nat) : exec (.paritySweep c bad) s =
    .next (((s.sweepArrays c bad).sweepFails c (s.core c).sweepRow).updCore c (fun k => { k with
      sweepRow := ((s.core c).sweepRow + 1) % 256, sweepAt := ((s.sweepArrays c bad).sweepFails c (s.core c).sweepRow).clk.cycle })) := by
  show execParitySweep c bad s = _
  rw [execParitySweep, State.sweepArrays]

@[simp] theorem State.clk_sweepArrays (s : State) (c : Nat) (bad : List Nat) : (s.sweepArrays c bad).clk = (s.toCycle ((s.core c).sweepAt + 256)).clk :=
  State.clk_foldl_sweepArray _ _ _ _

/-- A sweep that meets only clean rows notes the time in the set of each of the four arrays (R104). -/
theorem State.find_active_sweepArrays {s : State} {c : Nat} (hc : ∀ j w, (s.core c).active.find j = some w → w.rowBad (s.core c).sweepRow = false)
    {j : Nat} {w : WSet} (hj : j < 4) (hw : (s.core c).active.find j = some w) :
    ((s.sweepArrays c []).core c).active.find j = some (w.noted (s.core c).sweepRow (s.sweepArrays c []).clk.tai.ns) := by
  have hcore : ((s.toCycle ((s.core c).sweepAt + 256)).strike c (s.core c).sweepRow []).core c = s.core c := State.core_strike_nil _ _ _
  rw [State.clk_sweepArrays, State.sweepArrays, State.find_foldl_sweepArray List.nodup_range (by rwa [hcore]), hcore, hw]
  simp [hj]
  rfl

/-- Settles O5: each row is its equation (exec_lehrStep and the like) with what a change of n makes of the core (State.core_setN); the sweep is a fold over the four
arrays (State.find_foldl_sweepArray). -/
theorem lehrRowsComplete : Obligations.LehrRowsComplete := by
  unfold Obligations.LehrRowsComplete
  refine ⟨?_, ?_, ?_, ?_, ?_, ?_, ?_⟩
  · intro c lost s hn hr
    obtain ⟨t, ht, hclk, rings, hcore⟩ := exec_emptyIssueSlot hn hr
    exact ⟨t, ht, hclk, by simp [hcore]⟩
  · intro c s he hd hn hp
    obtain ⟨free, owed, h⟩ := State.core_setN s c ((s.core c).n - 1) (fun k => { k with
      rampDown := true, rampUp := false, lastRow := if k.n = 0 then [] else k.lastRow })
    exact ⟨_, exec_lehrRampDownStart he hd hn hp, by simp [h]⟩
  · intro c s hd hn
    obtain ⟨free, owed, h⟩ := State.core_setN ((s.toCycle ((s.core c).nAt + 840)).fillKeepers c) c ((s.core c).n - 1) (fun k => { k with
      lastRow := if k.n = 0 then [] else k.lastRow })
    exact ⟨_, exec_lehrStep hd hn, by simp, by simp [h], by simp [h], fun h1 => by rw [h]; simp [h1]⟩
  · intro c s hu hn
    obtain ⟨free, owed, h⟩ := State.core_setN (s.toCycle ((s.core c).nAt + 840)) c ((s.core c).n + 1) (fun k => { k with
      rampUp := decide (k.n < s.ceiling c) })
    exact ⟨_, exec_rampUpStep hu hn, by simp, by simp [h]⟩
  · intro c s hn
    obtain ⟨free, owed, h⟩ := State.core_setN (s.toCycle ((s.core c).ceilAt + 840)) c ((s.core c).n - 1) (fun k => { k with
      ceilAt := (s.toCycle ((s.core c).ceilAt + 840)).clk.cycle, rampUp := false })
    exact ⟨_, exec_ceilingStepDown hn, by simp, by simp [h], by simp [h], by rw [h]; rfl⟩
  · intro c x u s ht hp hv
    exact ⟨_, exec_preRampStart ht hp hv, by simp, by simp, by simp⟩
  · intro c bad s
    refine ⟨_, exec_paritySweep s c bad, by simp, by simp, by simp, ?_⟩
    rintro rfl hc j w hj hw
    simp only [State.core_updCore, State.updCore_clk, State.clk_sweepFails, State.active_sweepFails]
    exact State.find_active_sweepArrays hc hj hw

end Sys2Proof.Machine

/-! SUPPORT. The stages of an ARRAY_MUL (O4): what an op reads of the records in the tile store hangs on memory, contexts and header slots alone; what each row of the array
unit makes of its core. -/

namespace Sys2Proof.Machine

/-! ### What the records of an op hang on -/

/-- In two states the tile store of core c, its header slots and the contexts' tiles read the same. -/
structure SameRecords (c : Nat) (s t : State) : Prop where
  mem : t.mem = s.mem
  ctxs : t.ctxs = s.ctxs
  dev : t.deviceId = s.deviceId
  hdrs : (t.core c).hdrSlots = (s.core c).hdrSlots

namespace SameRecords

variable {c : Nat} {s t : State}

theorem tsRead (h : SameRecords c s t) (a n : Nat) : t.tsRead c a n = s.tsRead c a n := by rw [State.tsRead, h.mem, ← State.tsRead]

theorem tsNat (h : SameRecords c s t) (a n : Nat) : t.tsNat c a n = s.tsNat c a n := by rw [State.tsNat, h.tsRead, ← State.tsNat]

theorem tsCodes (h : SameRecords c s t) (a w n : Nat) : t.tsCodes c a w n = s.tsCodes c a w n := by rw [State.tsCodes, h.tsRead, ← State.tsCodes]

theorem ctx (h : SameRecords c s t) (x : Nat) : t.ctx x = s.ctx x := State.ctx_congr h.ctxs x

theorem hdrAt (h : SameRecords c s t) (a : Nat) : t.hdrAt c a = s.hdrAt c a := by simp only [State.hdrAt, State.t0Tile, h.ctxs, h.hdrs, h.ctx]

theorem wgtHdr (h : SameRecords c s t) (d u a i : Nat) : t.wgtHdr c d u a i = s.wgtHdr c d u a i := h.hdrAt _

theorem wgtExtents (h : SameRecords c s t) (d u a i : Nat) : t.wgtExtents c d u a i = s.wgtExtents c d u a i := by
  simp only [State.wgtExtents, h.wgtHdr]

theorem wgtSet (h : SameRecords c s t) (d u a x : Nat) : t.wgtSet c d u a x = s.wgtSet c d u a x := by
  simp only [State.wgtSet, h.wgtHdr, h.wgtExtents, h.tsCodes, h.tsNat]

theorem stepSets (h : SameRecords c s t) (a : ArrOp) (i : Nat) : t.stepSets c a i = s.stepSets c a i := by simp only [State.stepSets, h.wgtSet]

theorem touch (h : SameRecords c s t) (x d : Nat) : t.touch c x d = s.touch c x d := by
  simp only [State.touch, State.named, State.windowsOf, h.tsNat, h.ctx, h.dev]

theorem maskOf (h : SameRecords c s t) (d : Nat) : t.maskOf c d = s.maskOf c d := by simp only [State.maskOf, h.tsRead]

theorem epiOf (h : SameRecords c s t) (d : Nat) : t.epiOf c d = s.epiOf c d := by simp only [State.epiOf, h.tsNat]

theorem baseOf (h : SameRecords c s t) (d : Nat) : t.baseOf c d = s.baseOf c d := by simp only [State.baseOf, h.tsNat]

theorem ladderOk (h : SameRecords c s t) (d : Nat) : t.ladderOk c d = s.ladderOk c d := by simp only [State.ladderOk, h.tsNat]

theorem wgtFormatBad (h : SameRecords c s t) (d : Nat) : t.wgtFormatBad c d = s.wgtFormatBad c d := by simp only [State.wgtFormatBad, h.wgtHdr]

theorem colsOut (h : SameRecords c s t) (d : Nat) : t.colsOut c d = s.colsOut c d := by simp only [State.colsOut, h.wgtExtents]

theorem arrStatus (h : SameRecords c s t) {x d : Nat} (hr : t.touchOk c x (s.touch c x d) = s.touchOk c x (s.touch c x d)) :
    t.arrStatus c x d = s.arrStatus c x d := by
  simp only [State.arrStatus, h.touch, h.maskOf, h.epiOf, h.baseOf, h.ladderOk, h.wgtFormatBad, hr]

theorem arrOp (h : SameRecords c s t) (hclk : t.clk = s.clk) (r slot x d : Nat) : t.arrOp c r slot x d = s.arrOp c r slot x d := by
  simp only [State.arrOp, h.maskOf, h.epiOf, h.baseOf, h.colsOut, h.tsNat, hclk]

theorem levels (h : SameRecords c s t) (hacc : (t.core c).acc = (s.core c).acc) (a : ArrOp) (row col : Nat) :
    t.levels c a row col = s.levels c a row col := by
  simp only [State.levels, State.initLevels, h.tsNat, hacc]

theorem results (h : SameRecords c s t) (hacc : (t.core c).acc = (s.core c).acc) (a : ArrOp) : t.results c a = s.results c a := by
  simp only [State.results, State.initialValue, State.scaleBias, h.levels hacc, h.tsNat]

theorem epilogue (h : SameRecords c s t) (hacc : (t.core c).acc = (s.core c).acc) (a : ArrOp) : t.epilogue c a = s.epilogue c a := by
  simp only [State.epilogue, h.results hacc, h.tsNat]

theorem drainOut (h : SameRecords c s t) (hacc : (t.core c).acc = (s.core c).acc) (hf : t.fresh = s.fresh) (a : ArrOp) :
    t.drainOut c a = s.drainOut c a := by
  simp only [State.drainOut, State.ladderRecord, h.levels hacc, h.epilogue hacc, hf]

end SameRecords

theorem State.sameRecords_toCycle (s : State) (n c : Nat) : SameRecords c s (s.toCycle n) := ⟨rfl, rfl, rfl, rfl⟩

theorem State.sameRecords_takeDesc (s : State) (c r d : Nat) (dl : Option Nat) : SameRecords c s (s.takeDesc c r d dl) := by
  obtain ⟨e, n, h, -⟩ := State.takeDesc_spec s c r d dl
  exact ⟨by rw [h]; rfl, by rw [h]; rfl, by rw [h]; rfl, by rw [h, State.core_setCore]; rfl⟩

/-! ### The ops that the array unit holds -/

theorem Core.next_eq (k : Core) (a : ArrOp) : ∃ arr look waiting set, k.next a = { k with arr := arr, look := look, waiting := waiting, nextSet := set } := by
  unfold Core.next
  extract_lets k'
  split
  · exact ⟨_, _, _, _, rfl⟩
  · rename_i l _
    obtain ⟨arr, waiting, h⟩ := Core.start_eq { k' with look := none } l
    exact ⟨arr, none, waiting, _, h⟩

theorem Core.passBlock_eq (k : Core) (a : ArrOp) :
    ∃ arr look waiting set, k.passBlock a = { k with arr := arr, look := look, waiting := waiting, nextSet := set } := by
  unfold Core.passBlock
  extract_lets a'
  split
  · exact Core.next_eq k a'
  · exact ⟨_, _, _, _, rfl⟩

/-- An op with rows to feed that takes its place becomes the running one, with the next shadow set (R138). -/
theorem Core.arr_start {k : Core} {a : ArrOp} (h : 0 < a.total) :
    (k.start a).arr = some { a with accSet := k.nextSet, dueAt := max a.dueAt k.freeFrom } := by
  have htotal : ¬ ({ a with accSet := k.nextSet, dueAt := max a.dueAt k.freeFrom } : ArrOp).total = 0 := h.ne'
  simp only [Core.start, if_neg htotal]

/-- An op enters the array unit as the running or the look-ahead op (R84, R155). -/
def Core.enter (k : Core) (a : ArrOp) : Core := if k.arr.isNone then k.start a else { k with look := some a }

theorem Core.rings_enter (k : Core) (a : ArrOp) : (k.enter a).rings = k.rings := by
  unfold Core.enter
  split
  · obtain ⟨_, _, h⟩ := Core.start_eq k a
    rw [h]
  · rfl

theorem Core.look_enter {k : Core} (a : ArrOp) (h : k.arr.isSome = true) : (k.enter a).look = some a := by
  rw [Core.enter, if_neg (by simp [Option.isSome_iff_ne_none.mp h])]

theorem Core.arr_enter {k : Core} {a : ArrOp} (h : k.arr = none) (ht : 0 < a.total) :
    (k.enter a).arr = some { a with accSet := k.nextSet, dueAt := max a.dueAt k.freeFrom } := by
  rw [Core.enter, if_pos (by simp [h]), Core.arr_start ht]

/-! ### ARRAY_MUL -/

/-- Which slots are free for a row hangs on the fraction and on the slots taken and owed. -/
theorem Core.slotsPast_congr {k k' : Core} (hn : k'.n = k.n) (hp : k'.nPrev = k.nPrev) (ha : k'.nAt = k.nAt) (m t : Nat) :
    k'.slotsPast m t = k.slotsPast m t := by
  induction m generalizing t with
  | zero => rfl
  | succ m ih => rw [Core.slotsPast, Core.slotsPast, ih, Core.slotFrom, Core.slotFrom, hn, hp, ha]

theorem Core.freeFrom_congr {k k' : Core} (hn : k'.n = k.n) (hp : k'.nPrev = k.nPrev) (ha : k'.nAt = k.nAt) (ho : k'.owed = k.owed)
    (hf : k'.slotFree = k.slotFree) : k'.freeFrom = k.freeFrom := by
  rw [Core.freeFrom, Core.freeFrom, ho, hf, Core.slotsPast_congr hn hp ha]

theorem State.core_takeDesc (s : State) (c r d : Nat) (dl : Option Nat) :
    ∃ rings rr n, (s.takeDesc c r d dl).core c = { s.core c with rings := rings, rrNext := rr, tagDraws := n } := by
  obtain ⟨e, n, h, -⟩ := State.takeDesc_spec s c r d dl
  exact ⟨_, _, n, by rw [h, State.core_setCore]; rfl⟩

theorem exec_arrayMul_ends {s : State} {c r d st : Nat} (h : s.Issues c r 0x10 0 d) (hst : s.arrStatus c (s.ring c r).ctx d = some st) :
    exec (.arrayMul c r) s = .next ((s.takeDesc c r d none).complete c r (s.ring c r).issued st 0) := by
  obtain ⟨-, -, -, -, hctx, -, -⟩ := State.takeDesc_keeps s c r d none
  have hsame := State.sameRecords_takeDesc s c r d none
  show execArrayMul c r s = _
  rw [execArrayMul, State.issue_issues h]
  simp only [noDeadline, hctx, hsame.arrStatus (State.takeDesc_touchOk ..), hst]

theorem exec_arrayMul_runs {s : State} {c r d : Nat} (h : s.Issues c r 0x10 0 d) (hst : s.arrStatus c (s.ring c r).ctx d = none) :
    exec (.arrayMul c r) s = .next ((s.takeDesc c r d none).updCore c
      (fun k => k.enter (s.arrOp c r (s.ring c r).issued (s.ring c r).ctx d))) := by
  obtain ⟨-, hclk, -, -, hctx, -, -⟩ := State.takeDesc_keeps s c r d none
  have hsame := State.sameRecords_takeDesc s c r d none
  show execArrayMul c r s = _
  rw [execArrayMul, State.issue_issues h]
  simp only [noDeadline, hctx, hsame.arrStatus (State.takeDesc_touchOk ..), hst, hsame.arrOp hclk]
  rfl

theorem arrayMul_row {s : State} {c r d : Nat} (h : s.Issues c r 0x10 0 d) : ∃ t : State, exec (.arrayMul c r) s = .next t ∧
    (∀ st, s.arrStatus c (s.ring c r).ctx d = some st → Took s t c r d (fun e => e.done = true ∧ e.status = st)) ∧
    (s.arrStatus c (s.ring c r).ctx d = none → Took s t c r d (fun e => e.done = false) ∧
      ((s.core c).arr.isSome = true → (t.core c).look = some (s.arrOp c r (s.ring c r).issued (s.ring c r).ctx d)) ∧
      ((s.core c).arr = none → 0 < (s.arrOp c r (s.ring c r).issued (s.ring c r).ctx d).total →
        (t.core c).arr = some { s.arrOp c r (s.ring c r).issued (s.ring c r).ctx d with
          accSet := (s.core c).nextSet, dueAt := max s.clk.cycle (s.core c).freeFrom })) := by
  cases hst : s.arrStatus c (s.ring c r).ctx d with
  | some st =>
    refine ⟨_, exec_arrayMul_ends h hst, ?_, fun hnone => by cases hnone⟩
    rintro _ ⟨⟩
    exact (State.takeDesc_complete s c r d none st 0).1.mono (fun e he => ⟨he.1, he.2.1⟩)
  | none =>
    obtain ⟨rings, rr, n, hcore⟩ := State.core_takeDesc s c r d none
    refine ⟨_, exec_arrayMul_runs h hst, (fun st hsome => by cases hsome), fun _ => ⟨?_, ?_, ?_⟩⟩
    · refine ((State.takeDesc_took s c r d none).mono (fun e he => he.1)).of_ring ?_
      rw [State.ring_updCore_same _ _ _ _ (fun k => Core.rings_enter k _)]
    · intro ha
      rw [State.core_updCore, Core.look_enter _ (by rw [hcore]; exact ha)]
    · intro ha ht
      have hfree : ((s.takeDesc c r d none).core c).freeFrom = (s.core c).freeFrom := by
        rw [hcore]
        exact Core.freeFrom_congr rfl rfl rfl rfl rfl
      rw [State.core_updCore, Core.arr_enter (by rw [hcore]; exact ha) ht, hfree, hcore]
      rfl

/-! ### Parison loads -/

theorem exec_parisonLoadStart {s : State} {c i : Nat} {a : ArrOp} (hl : (s.core c).load = none) (hn : s.nextLoad c = some (a, i)) :
    ∃ t : State, exec (.parisonLoadStart c) s = .next t ∧ t.clk = (s.toCycle (s.core c).parFree).clk ∧
      (t.core c).load = some (.mk a.ring a.slot a.ctx i (t.clk.cycle + if arrKb16 a.desc then 512 else 256) (s.stepSets c a i)) := by
  show ∃ t : State, execParisonLoadStart c s = .next t ∧ _
  simp only [execParisonLoadStart, hl, hn]
  refine ⟨_, rfl, State.clk_countCore .., ?_⟩
  simp [(s.sameRecords_toCycle _ c).stepSets]

/-- A change of the descriptors in flight changes its core in its rings alone. -/
theorem State.core_outUpd (s : State) (c r slot : Nat) (f : OutDesc → OutDesc) : ∃ rings, (s.outUpd c r slot f).core c = { s.core c with rings := rings } :=
  ⟨_, State.core_updCore _ _ _⟩

theorem State.core_tagUpd (s : State) (c r slot : Nat) (f : Tagged → Tagged) : ∃ rings, (s.tagUpd c r slot f).core c = { s.core c with rings := rings } :=
  ⟨_, State.core_updCore _ _ _⟩

@[simp] theorem State.drains_tagUpd (s : State) (c r slot : Nat) (f : Tagged → Tagged) : ((s.tagUpd c r slot f).core c).drains = (s.core c).drains := by
  obtain ⟨rings, h⟩ := State.core_tagUpd s c r slot f
  rw [h]

@[simp] theorem State.parison_outUpd (s : State) (c r slot : Nat) (f : OutDesc → OutDesc) : ((s.outUpd c r slot f).core c).parison = (s.core c).parison := by
  obtain ⟨rings, h⟩ := State.core_outUpd s c r slot f
  rw [h]

/-- The parisons once the sets of a load are in them, array by array (R69). -/
def fillParison (sets : List WSet) (m : Map WSet) : Map WSet := (List.zip sets (List.range 4)).foldl (fun m p => m.set p.2 p.1) m

theorem find_fillParison {sets : List WSet} (m : Map WSet) {j : Nat} {w : WSet} (hj : j < 4) (hw : sets[j]? = some w) :
    (fillParison sets m).find j = some w := by
  have hmem : (w, j) ∈ List.zip sets (List.range 4) := by
    rw [List.mem_iff_getElem?]
    exact ⟨j, List.getElem?_zip_eq_some.mpr ⟨hw, List.getElem?_range hj⟩⟩
  have hnodup : ((List.zip sets (List.range 4)).map Prod.snd).Nodup := by
    rw [List.zip_eq_zip_take_min, List.map_snd_zip (by simp)]
    exact List.nodup_range.sublist (List.take_sublist _ _)
  exact Map.find_foldl_set Prod.snd Prod.fst _ m hnodup hmem

theorem exec_parisonLoadDone {s : State} {c : Nat} {l : ParLoad} {a : ArrOp} {first second : List (Nat × Nat)} (hl : (s.core c).load = some l)
    (ha : (s.core c).findOp l.ring l.slot = some a) (hp : first = [] ∨ second = []) :
    ∃ t : State, exec (.parisonLoadDone c first second) s = .next t ∧ (t.core c).load = none ∧
      (t.core c).parison = fillParison (if first = [] then l.sets else s.stepSets c a l.block) (s.core c).parison := by
  have hpass : first.isEmpty = true ∨ second.isEmpty = true := by simpa using hp
  show ∃ t : State, execParisonLoadDone c first second s = .next t ∧ _
  simp only [execParisonLoadDone, hl, ha, if_pos hpass, (s.sameRecords_toCycle _ c).stepSets]
  refine ⟨_, rfl, ?_, ?_⟩
  · rw [State.core_updCore]
    rfl
  · rw [State.core_updCore]
    show fillParison _ (State.core (State.outUpd _ c l.ring l.slot _) c).parison = _
    rw [State.parison_outUpd]
    simp only [List.isEmpty_iff, State.core_toCycle]

/-! ### The switch -/

/-- The start of a ramp touches what controls the fraction and the slots alone (R98, R100). -/
theorem State.core_startUp (s : State) (c : Nat) : ∃ free owed below n prev at_ desc up down, (s.startUp c).core c = { s.core c with
    slotFree := free, owed := owed, belowAt := below, n := n, nPrev := prev, nAt := at_, descend := desc, rampUp := up, rampDown := down } := by
  unfold State.startUp
  extract_lets k top
  split
  · obtain ⟨free, owed, h⟩ := State.core_setN s c (k.n + 1) (fun k => { k with rampUp := decide (k.n < top), rampDown := false })
    exact ⟨free, owed, _, _, _, _, _, _, _, h⟩
  · exact ⟨_, _, _, _, _, _, _, _, _, State.core_updCore _ _ _⟩

/-- An op that streams leaves the weight sets. -/
theorem State.sets_stream (s : State) (c : Nat) (a : ArrOp) :
    ((s.stream c a).core c).active = (s.core c).active ∧ ((s.stream c a).core c).parison = (s.core c).parison := by
  unfold State.stream
  extract_lets s1 s2
  have hcore : s1.core c = s.core c := State.core_countCore ..
  have hpass : (s2.core c).active = (s.core c).active ∧ (s2.core c).parison = (s.core c).parison := by
    obtain ⟨arr, look, waiting, set, h⟩ := Core.passBlock_eq (s.core c) a
    simp only [s2, State.core_updCore, hcore, h, and_self]
  split
  · split
    · obtain ⟨rings, h⟩ := State.core_outUpd s2 c a.ring a.slot _
      rw [h]
      exact hpass
    · exact hpass
  · rw [State.core_updCore, hcore]
    exact ⟨rfl, rfl⟩

/-- A block with rows to feed opens its stream. -/
theorem State.arr_stream_rows {s : State} {c : Nat} {a : ArrOp} (h : rowSeq a.mask (fld a.desc 40 2) ≠ []) :
    ((s.stream c a).core c).arr = some { a with streaming := true, row := 0 } := by
  simp [State.stream, h]

/-- A block with no row to feed is passed over (R86). -/
theorem State.arr_stream_masked {s : State} {c : Nat} {a : ArrOp} (h : rowSeq a.mask (fld a.desc 40 2) = []) (hb : a.block + 1 < a.total) :
    ((s.stream c a).core c).arr = some { a with streaming := false, row := 0, block := a.block + 1 } := by
  have hlast : ¬ a.block + 1 = a.total := hb.ne
  have hpass : ¬ ({ a with streaming := false, row := 0, block := a.block + 1 } : ArrOp).block =
      ({ a with streaming := false, row := 0, block := a.block + 1 } : ArrOp).total := hlast
  simp only [State.stream, h, List.isEmpty_nil, if_true, if_neg hlast, State.core_updCore, Core.passBlock, if_neg hpass]

theorem exec_weightSetSwitch {s : State} {c : Nat} {a : ArrOp} (ha : (s.core c).arr = some a) (hs : a.streaming = false) (hd : s.direct c a = false)
    (hp : s.provided c a a.block = true) (ho : ∀ j < arraysOf a.desc, ((s.core c).parison.getOr j {}).ctx = some a.ctx) :
    ∃ u n, exec (.weightSetSwitch c) s = .next (State.stream u c { a with dueAt := n }) ∧
      (u.core c).active = (s.core c).parison ∧ (u.core c).parison = (s.core c).active := by
  have hgo : ¬ (a.streaming = true ∨ s.direct c a = true ∨ ¬ s.provided c a a.block = true) := by simp [hs, hd, hp]
  show ∃ u n, execWeightSetSwitch c s = _ ∧ _
  simp only [execWeightSetSwitch, ha, if_neg hgo]
  generalize hu : State.countCore (State.updCore _ c _) c 8 1 (some a.ctx) = u
  have hsets : (u.core c).active = (s.core c).parison ∧ (u.core c).parison = (s.core c).active := by
    obtain ⟨_, _, _, _, _, _, _, _, _, h⟩ := State.core_startUp (s.countCore c 7 ((s.core c).waited a) (some a.ctx)) c
    rw [← hu]
    simp only [State.core_countCore, State.core_updCore, State.core_toCycle, h, and_self]
  have howner : (u.wrongOwner c a).isEmpty = true := by
    simp only [State.wrongOwner, hsets.1, List.isEmpty_iff, List.filter_eq_nil_iff, List.mem_range]
    intro j hj
    simp [ho j hj]
  exact ⟨u, _, if_pos howner, hsets⟩

theorem weightSetSwitch_row {s : State} {c : Nat} {a : ArrOp} (ha : (s.core c).arr = some a) (hs : a.streaming = false) (hd : s.direct c a = false)
    (hp : s.provided c a a.block = true) (ho : ∀ j < arraysOf a.desc, ((s.core c).parison.getOr j {}).ctx = some a.ctx) :
    ∃ t : State, exec (.weightSetSwitch c) s = .next t ∧ (t.core c).active = (s.core c).parison ∧ (t.core c).parison = (s.core c).active ∧
      (rowSeq a.mask (fld a.desc 40 2) ≠ [] → ∃ n, (t.core c).arr = some { a with streaming := true, row := 0, dueAt := n }) ∧
      (rowSeq a.mask (fld a.desc 40 2) = [] → a.block + 1 < a.total → ∃ n, (t.core c).arr = some { a with
        streaming := false, row := 0, block := a.block + 1, dueAt := n }) := by
  obtain ⟨u, n, ht, hactive, hparison⟩ := exec_weightSetSwitch ha hs hd hp ho
  obtain ⟨hsame, hsame'⟩ := State.sets_stream u c { a with dueAt := n }
  exact ⟨_, ht, hsame.trans hactive, hsame'.trans hparison, fun h => ⟨n, State.arr_stream_rows (a := { a with dueAt := n }) h⟩,
    fun h hb => ⟨n, State.arr_stream_masked (a := { a with dueAt := n }) h hb⟩⟩

/-! ### Row entry -/

theorem ArrOp.streaming_of_nextRow {a : ArrOp} {p : Nat × Nat × Nat} (h : a.nextRow = some p) : a.streaming = true := by
  unfold ArrOp.nextRow at h
  split at h
  · by_contra hs
    simp [hs] at h
  · cases h

theorem State.direct_of_streaming {s : State} {c : Nat} {a : ArrOp} (h : a.streaming = true) : s.direct c a = false := by
  simp [State.direct, h]

/-- A row that is not held joins the rows in flight with its column sums (R77, R120, R127, R138). -/
theorem State.inflight_enterRow {s : State} {c row ch i : Nat} {a : ArrOp} (ha : (s.core c).arr = some a) (hn : a.nextRow = some (row, ch, i))
    (hh : ((s.startUp c).core c).rowHeld a row ((s.startUp c).slotAt c) = false) : ((s.enterRow c).core c).inflight = (s.core c).inflight ++
      [({ set := a.accSet, row := row, entry := a.entryBase + a.block, sums := (s.rowSums c a ch i row).map (fun p => p.1)
          due := (s.startUp c).slotAt c + latency a.desc - 1 } : InRow)] := by
  unfold State.enterRow
  split
  case h_1 hnone => simp [ha] at hnone
  case h_2 a' ha' =>
  obtain rfl : a = a' := Option.some.inj (ha.symm.trans ha')
  split
  case h_1 hnone => simp [hn] at hnone
  case h_2 row' ch' i' hn' =>
  obtain ⟨rfl, rfl, rfl⟩ : row = row' ∧ ch = ch' ∧ i = i' := by simpa using hn.symm.trans hn'
  extract_lets d s0 s1 t s2 s3 lam fed g cols due last double owed a' fin s4 s5 s6 s7 feed s8
  have h3 : (s3.core c).inflight = (s.core c).inflight := by
    obtain ⟨_, _, _, _, _, _, _, _, _, h⟩ := State.core_startUp s c
    have h1 : (s1.core c).inflight = (s.core c).inflight := by rw [h]
    unfold s3
    split
    · exact h1
    · rw [State.core_settle]
      exact h1
  have h6 : s6.core c = s3.core c := by
    unfold s6 s5
    split <;> split <;> simp [s4]
  have h7 : (s7.core c).inflight = (s.core c).inflight := by
    obtain ⟨rings, h⟩ := State.core_tagUpd s6 c a.ring a.slot _
    rw [h, h6]
    exact h3
  have h8 : (s8.core c).inflight = (s.core c).inflight ++
      [({ set := a.accSet, row := row, entry := a.entryBase + a.block, sums := cols.map Prod.fst, due := due } : InRow)] := by
    unfold s8
    rw [State.core_updCore, ← h7]
    extract_lets k
    split
    · obtain ⟨_, _, _, _, h⟩ := Core.next_eq k a'
      rw [h]
    · rfl
  rw [if_neg (show ¬ (s1.core c).rowHeld a row t = true by simpa [s1, t] using hh)]
  split
  · obtain ⟨rings, h⟩ := State.core_outUpd s8 c a.ring a.slot _
    rw [h]
    exact h8
  · exact h8

theorem exec_arrayRowEntry {s : State} {c : Nat} {a : ArrOp} {p : Nat × Nat × Nat} (ha : (s.core c).arr = some a) (hn : a.nextRow = some p) :
    exec (.arrayRowEntry c) s = .next (s.enterRow c) := by
  show execArrayRowEntry c s = _
  simp [execArrayRowEntry, ha, State.direct_of_streaming (ArrOp.streaming_of_nextRow hn)]

/-! ### The ladder -/

theorem accKey_injective (set row : Nat) : Function.Injective (accKey set row) := fun _ _ h => Nat.add_left_cancel h

/-- An op that owns a shadow set holds it. -/
theorem Core.accSet_of_ownerOf {k : Core} {set : Nat} {a : ArrOp} (h : k.ownerOf set = some a) : a.accSet = set := by
  simpa using List.find?_some h

/-- Accumulator memory after a row of column sums has been pushed: each position holds what the push made of its ladder (R123). -/
theorem find_foldl_pushed {β : Type} (push : Nat → A48 → List (Option Pair) × β) (m : Map (List (Option Pair))) (set row : Nat) {sums : List A48} {j : Nat} {v : A48}
    (hv : sums[j]? = some v) :
    Map.find ((((sums.zip (List.range sums.length)).map (fun p => (p.2, push p.2 p.1))).foldl (fun m p => m.set (accKey set row p.1) p.2.1) m)) (accKey set row j)
      = some (push j v).1 := by
  have hj : j < sums.length := (List.getElem?_eq_some_iff.mp hv).1
  have hmem : (j, push j v) ∈ (sums.zip (List.range sums.length)).map (fun p => (p.2, push p.2 p.1)) := by
    refine List.mem_map.mpr ⟨(v, j), List.mem_iff_getElem?.mpr ⟨j, ?_⟩, rfl⟩
    exact List.getElem?_zip_eq_some.mpr ⟨hv, List.getElem?_range hj⟩
  have hkeys : ((sums.zip (List.range sums.length)).map (fun p => (p.2, push p.2 p.1))).map (fun p => accKey set row p.1) =
      (List.range sums.length).map (accKey set row) := by
    have hsnd := List.map_snd_zip (l₁ := sums) (l₂ := List.range sums.length) (by simp)
    conv_rhs => rw [← hsnd]
    simp [Function.comp_def]
  exact Map.find_foldl_set (fun p => accKey set row p.1) (fun p => p.2.1) _ m (by rw [hkeys]; exact List.nodup_range.map (accKey_injective set row)) hmem

/-- A corrected error of the accumulator memory is counted, and nothing else (R106). -/
def State.accCorrected (s : State) (c : Nat) (ecc : AccEcc) : State := if ecc.corrected then s.countM (0x1810 + (s.core c).pc) 1 else s

@[simp] theorem State.core_accCorrected (s : State) (c : Nat) (ecc : AccEcc) (c' : Nat) : (s.accCorrected c ecc).core c' = s.core c' := by
  unfold State.accCorrected
  split <;> rfl

@[simp] theorem State.fresh_accCorrected (s : State) (c : Nat) (ecc : AccEcc) : (s.accCorrected c ecc).fresh = s.fresh := by
  unfold State.accCorrected
  split <;> rfl

theorem State.sameRecords_accCorrected (s : State) (n c : Nat) (ecc : AccEcc) : SameRecords c s ((s.toCycle n).accCorrected c ecc) := by
  unfold State.accCorrected
  split <;> exact ⟨rfl, rfl, rfl, rfl⟩

theorem ladderPush_row {s : State} {c : Nat} {ecc : AccEcc} {q : InRow} {rest : List InRow} {a : ArrOp} (hq : (s.core c).inflight = q :: rest)
    (ha : (s.core c).ownerOf q.set = some a) (he : ecc.bad = false) :
    ∃ t : State, exec (.ladderPush c ecc) s = .next t ∧ (t.core c).inflight = rest ∧
      ∀ j v, q.sums[j]? = some v → (t.core c).acc.find (accKey q.set q.row j) =
        some (ladderPush (dComp a.desc) (s.levels c a q.row j) (v, A48.zero)).1 := by
  have hbad : ¬ ecc.bad = true := by simp [he]
  show ∃ t : State, execLadderPush c ecc s = .next t ∧ _
  simp only [execLadderPush, hq, State.core_toCycle, ha, if_neg hbad]
  refine ⟨_, rfl, by rw [State.core_updCore], fun j v hv => ?_⟩
  rw [State.core_updCore]
  have hlevels := (s.sameRecords_accCorrected q.due c ecc).levels (by simp) a q.row
  exact (find_foldl_pushed (fun j v => ladderPush (dComp a.desc) (((s.toCycle q.due).accCorrected c ecc).levels c a q.row j) (v, A48.zero)) _ q.set q.row hv).trans
    (by rw [hlevels])

/-! ### The drain -/

theorem drainStart_row {s : State} {c : Nat} {ecc : AccEcc} {a : ArrOp} {rest : List ArrOp} (hw : (s.core c).waiting = a :: rest)
    (hd : (s.core c).drains = []) (hi : ∀ q ∈ (s.core c).inflight, q.set ≠ a.accSet) (he : ecc.bad = false) :
    ∃ t : State, exec (.drainStart { core := c, ecc := ecc }) s = .next t ∧ (t.core c).waiting = rest ∧ (t.core c).drains =
      [{ op := a, due := t.clk.cycle + drainCycles a - 1, writes := (s.drainOut c a).1, flags := (s.drainOut c a).2 }] := by
  have hbad : ¬ ecc.bad = true := by simp [he]
  have hidle : ¬ ((!(s.core c).drains.isEmpty) = true ∨ ((s.core c).inflight.any (fun r => r.set = a.accSet)) = true) := by
    simpa [hd] using hi
  show ∃ t : State, execDrainStart { core := c, ecc := ecc } s = .next t ∧ _
  simp only [execDrainStart, hw, if_neg hidle, if_neg hbad]
  generalize hn : a.chain.foldl _ _ = n
  have hout : ((s.toCycle n).accCorrected c ecc).drainOut c a = s.drainOut c a :=
    (s.sameRecords_accCorrected n c ecc).drainOut (by simp) (State.fresh_accCorrected ..) a
  refine ⟨_, rfl, by rw [State.core_updCore], ?_⟩
  rw [State.core_updCore, State.drains_tagUpd]
  show (((s.toCycle n).accCorrected c ecc).core c).drains ++ [.mk a _ (((s.toCycle n).accCorrected c ecc).drainOut c a).1
    (((s.toCycle n).accCorrected c ecc).drainOut c a).2] = _
  rw [hout, State.core_accCorrected, State.core_toCycle, hd]
  rfl

theorem drainComplete_row {s : State} {c : Nat} {d : Drain} {rest : List Drain} {e : OutDesc} (hd : (s.core c).drains = d :: rest)
    (hs : (s.toCycle d.due).opStalls c d.op.ctx (d.writes.map (fun w => Eff.ts w.1 w.2)) = false) (he : e ∈ (s.ring c d.op.ring).out)
    (hdone : e.done = false) (hid : e.id = d.op.slot) : ∃ t : State, exec (.drainComplete c) s = .next t ∧
      (t.core c).drains = rest ∧ t.mem = ((s.toCycle d.due).applyEffs c d.op.ctx (d.writes.map (fun w => Eff.ts w.1 w.2))).mem ∧
      ∃ e' ∈ (t.ring c d.op.ring).out, e'.id = e.id ∧ e'.desc = e.desc ∧ e'.done = true ∧ e'.status = 0 ∧ e'.flags = d.flags % 64 := by
  have hgo : ¬ (s.toCycle d.due).opStalls c d.op.ctx (d.writes.map (fun w => Eff.ts w.1 w.2)) = true := by simp [hs]
  show ∃ t : State, execDrainComplete c s = .next t ∧ _
  simp only [execDrainComplete, hd, State.endOp, if_neg hgo]
  generalize hu : (s.toCycle d.due).applyEffs c d.op.ctx (d.writes.map (fun w => Eff.ts w.1 w.2)) = u
  have hrings : u.ring c d.op.ring = s.ring c d.op.ring := hu ▸ State.applyEffs_rings _ _ _ _ _ _
  generalize hv : u.updCore c _ = v
  have hring : v.ring c d.op.ring = u.ring c d.op.ring := hv ▸ State.ring_updCore_same _ _ _ _ (fun _ => rfl)
  have hout : e ∈ (v.ring c d.op.ring).out := by rwa [hring, hrings]
  refine ⟨_, rfl, ?_, ?_, ?_⟩
  · obtain ⟨rings, q, h⟩ := State.core_completeIf v c d.op.ring (fun e => e.id = d.op.slot) 0 (d.flags % 64)
    rw [State.complete, h, ← hv, State.core_updCore]
  · rw [(State.complete_rel v ..).mem (by decide), ← hv]
    rfl
  · rw [← hid]
    exact State.complete_mem hout hdone 0 _

/-- Settles O4, a row at a time: each row's equation, and what its operations leave of the core. -/
theorem arrayOpRowsComplete : Obligations.ArrayOpRowsComplete := by
  unfold Obligations.ArrayOpRowsComplete
  refine ⟨fun c r d s h => arrayMul_row h, ?_, ?_, fun c a s ha hs hd hp ho => weightSetSwitch_row ha hs hd hp ho, ?_,
    fun c ecc q rest a s hq ha he => ladderPush_row hq ha he, fun c ecc a rest s hw hd hi he => drainStart_row hw hd hi he,
    fun c d rest e s hd hs he hdone hid => drainComplete_row hd hs he hdone hid⟩
  · intro c a i s hl hn
    obtain ⟨t, ht, hclk, hload⟩ := exec_parisonLoadStart hl hn
    exact ⟨t, ht, hclk, _, hload, rfl, rfl, rfl, rfl, rfl⟩
  · intro c l a first second s hl ha hp
    obtain ⟨t, ht, hload, hpar⟩ := exec_parisonLoadDone hl ha hp
    refine ⟨t, ht, hload, fun j w hj hw => ?_⟩
    rw [hpar]
    exact find_fillParison _ hj hw
  · intro c a row ch i s ha hn hh
    exact ⟨_, exec_arrayRowEntry ha hn, State.inflight_enterRow ha hn hh⟩

end Sys2Proof.Machine

/-! SUPPORT. Firmware, core tables, core replacement and repair (O27): what a completion makes of a handle, how a command of the admin mailbox is answered with a handle,
what the log holds after an event; and what each row makes of the state. -/

namespace Sys2Proof.Machine

/-! ### A handle and its completion -/

/-- A handle as it completes with a status at a time: phase 5 complete, 6 failed, 7 cancelled (R458). -/
def Handle.ended (h : Handle) (status ns : Nat) : Handle :=
  { h with fin := true, status := status, phase := if status = 0 then 5 else if status = 0x21 ∨ status = 0x22 then 7 else 6, doneNs := ns }

theorem State.handle_congr {s t : State} (h : t.handles = s.handles) (k : Nat) : t.handle k = s.handle k := by rw [State.handle, State.handle, h]

/-- What the completion of a handle that has not completed makes of the state: a failure is an event besides (R453, R458). -/
theorem State.finish_eq {s : State} {k : Nat} {h : Handle} (hk : s.handle k = some h) (hf : h.fin = false) (status : Nat) :
    s.finish k status = if (h.ended status s.clk.tai.ns).phase = 6 then (s.setHandle k (h.ended status s.clk.tai.ns)).handleEvent k status h.ctx
      else s.setHandle k (h.ended status s.clk.tai.ns) := by
  rw [State.finish, hk]
  dsimp only
  rw [if_neg (by simp [hf])]
  rfl

theorem State.handle_finish {s : State} {k : Nat} {h : Handle} (hk : s.handle k = some h) (hf : h.fin = false) (status : Nat) :
    (s.finish k status).handle k = some (h.ended status s.clk.tai.ns) := by
  rw [State.finish_eq hk hf]
  split
  · rw [State.handle_congr ((State.handleEvent_rel _ _ _ _).handles (by decide)), State.handle_setHandle]
  · rw [State.handle_setHandle]

/-- A handle that completes OK is all that changes. -/
theorem State.finish_ok {s : State} {k : Nat} {h : Handle} (hk : s.handle k = some h) (hf : h.fin = false) :
    s.finish k 0 = s.setHandle k (h.ended 0 s.clk.tai.ns) := by
  have hphase : (h.ended 0 s.clk.tai.ns).phase = 5 := rfl
  rw [State.finish_eq hk hf, hphase, if_neg (by decide)]

theorem State.handle_progress {s : State} {k : Nat} {h : Handle} (hk : s.handle k = some h) (hf : h.fin = false) (phase done total : Nat) :
    (s.progress k phase done total).handle k = some { h with phase := phase, done := done, total := total } := by
  rw [State.progress, hk]
  dsimp only
  rw [if_neg (by simp [hf]), State.handle_setHandle]

theorem State.handle_progress1 {s : State} {k : Nat} {h : Handle} (hk : s.handle k = some h) (hf : h.fin = false) :
    (s.progress1 k).handle k = some { h with done := h.done + 1 } := by
  rw [State.progress1, hk]
  dsimp only
  rw [if_neg (by simp [hf]), State.handle_setHandle]

theorem State.handle_phase {s : State} {k : Nat} {h : Handle} (hk : s.handle k = some h) (hf : h.fin = false) (ph : Nat) :
    (s.phase k ph).handle k = some { h with phase := ph } := by
  rw [State.phase, hk]
  dsimp only
  rw [if_neg (by simp [hf]), State.handle_setHandle]

@[simp] theorem State.clk_progress (s : State) (k p d n : Nat) : (s.progress k p d n).clk = s.clk := (State.progress_rel s k p d n).clk (by decide)

@[simp] theorem State.clk_progress1 (s : State) (k : Nat) : (s.progress1 k).clk = s.clk := (State.progress1_rel s k).clk (by decide)

/-- A handle whose progress is set to its end and that then completes OK. -/
theorem State.handle_progress_finish {s : State} {k : Nat} {h : Handle} (hk : s.handle k = some h) (hf : h.fin = false) (done total : Nat) :
    ((s.progress k 1 done total).finish k 0).handle k =
      some { h with phase := 5, done := done, total := total, fin := true, status := 0, doneNs := s.clk.tai.ns } := by
  rw [State.handle_finish (State.handle_progress hk hf 1 done total) hf, State.clk_progress, Handle.ended, if_pos rfl]

/-- A handle whose DONE rises by one and that then completes OK. -/
theorem State.handle_progress1_finish {s : State} {k : Nat} {h : Handle} (hk : s.handle k = some h) (hf : h.fin = false) :
    ((s.progress1 k).finish k 0).handle k =
      some { h with phase := 5, done := h.done + 1, fin := true, status := 0, doneNs := s.clk.tai.ns } := by
  rw [State.handle_finish (State.handle_progress1 hk hf) hf, State.clk_progress1, Handle.ended, if_pos rfl]

/-- A handle that fails: neither OK nor cancelled. -/
theorem Handle.ended_failed (h : Handle) {status : Nat} (h0 : status ≠ 0) (h1 : ¬ (status = 0x21 ∨ status = 0x22)) (ns : Nat) :
    h.ended status ns = { h with fin := true, status := status, phase := 6, doneNs := ns } := by
  rw [Handle.ended, if_neg h0, if_neg h1]

/-- A fold that keeps or replaces its choice chooses an element of its list. -/
theorem mem_of_foldl_choose {α : Type} {f : Option α → α → Option α} (hf : ∀ b x e, f b x = some e → e = x ∨ b = some e) {l : List α} {b : Option α} {e : α}
    (h : l.foldl f b = some e) : e ∈ l ∨ b = some e := by
  induction l generalizing b with
  | nil => exact .inr h
  | cons x l ih =>
    rcases ih h with hm | hx
    · exact .inl (List.mem_cons_of_mem _ hm)
    · rcases hf b x e hx with rfl | hb
      · exact .inl List.mem_cons_self
      · exact .inr hb

theorem State.liveHead_mem {s : State} {e : Nat × Handle} (h : s.liveHead = some e) :
    e ∈ s.handles.filter (fun e => !e.2.fin && (e.2.op = 0x0B || e.2.op = 0x0C || e.2.op = 0x0D)) := by
  refine (mem_of_foldl_choose (fun b x e hx => ?_) h).resolve_right (by simp)
  cases b with
  | none => cases hx; exact .inl rfl
  | some a =>
    dsimp only at hx
    split at hx
    · cases hx; exact .inl rfl
    · exact .inr hx

/-- The operation of live change that runs has not completed, and is of the code asked for. -/
theorem State.live_of_liveOp {s : State} {op k : Nat} {h : Handle} (hl : s.liveOp op = some (k, h)) : h.fin = false ∧ h.op = op := by
  rw [State.liveOp] at hl
  cases hh : s.liveHead with
  | none => rw [hh] at hl; cases hl
  | some e =>
    rw [hh] at hl
    dsimp only at hl
    split at hl
    · next hop =>
      cases hl
      have hm := (List.mem_filter.mp (State.liveHead_mem hh)).2
      simp only [Bool.and_eq_true, Bool.not_eq_true'] at hm
      exact ⟨hm.1, hop⟩
    · cases hl

/-! ### The answer with a handle -/

theorem length_leBytes (n x : Nat) : (leBytes n x).length = n := by
  induction n generalizing x with
  | zero => rfl
  | succ n ih => simp [leBytes, ih]

theorem sub_append_append {a b : List Byte} (c : List Byte) {off n : Nat} (ha : a.length = off) (hb : b.length = n) : sub (a ++ (b ++ c)) off n = b := by
  rw [sub, List.drop_left' ha, List.take_left' hb]

/-- The HANDLE field of a response header (R441). -/
theorem State.answer_handle (s : State) (rq : Req) (f c : Nat) (key : List Byte) (r : Reply) :
    sub ((s.answer rq f c key r).mbox rq.mb).rsp 16 8 = leBytes 8 r.handle := by
  unfold State.answer
  extract_lets h mac s'
  have hrsp : sub (s'.mbox rq.mb).rsp 16 8 = leBytes 8 r.handle := by
    let pre := leBytes 1 f ++ leBytes 1 c ++ leBytes 2 rq.tag ++ leBytes 4 rq.epoch ++ leBytes 2 r.body.length ++ leBytes 2 r.status ++ zeros 4
    have hpre : pre.length = 16 := by simp [pre, length_leBytes, zeros]
    have hbytes : h ++ mac ++ r.body = pre ++ (leBytes 8 r.handle ++ (zeros 8 ++ mac ++ r.body)) := by simp only [h, pre, List.append_assoc]
    simp only [s', State.mbox_updMbox, hbytes]
    exact sub_append_append _ hpre (length_leBytes _ _)
  split
  · exact hrsp
  · exact hrsp

@[simp] theorem State.handle_answer (s : State) (rq : Req) (f c : Nat) (key : List Byte) (r : Reply) (k : Nat) : (s.answer rq f c key r).handle k = s.handle k :=
  State.handle_congr ((State.answer_rel s rq f c key r).handles (by decide)) k

/-- A command answered with the next handle of its mailbox, which stands as it does when the answer is given. -/
theorem handed_answer {s v : State} {rq : Req} {op : Nat} {h : Handle} (f c : Nat) (key : List Byte) (hk : v.handle (s.nextHandle rq.mb op) = some h) :
    Handed s (v.answer rq f c key { handle := s.nextHandle rq.mb op }) rq op [] h :=
  ⟨State.answer_answered _ _ _ _ _ _, State.answer_handle _ _ _ _ _ _, by rw [State.handle_answer, hk]⟩

theorem State.withHandle_room {s : State} {h : Handle} (hroom : s.handleRoom h.mb = true) (g : State → Nat → State × Reply) :
    ∃ u : State, s.withHandle h g = g u (s.nextHandle h.mb h.op) ∧ u.handle (s.nextHandle h.mb h.op) = some h ∧
      Rel [.mailboxes, .handles, .pcie] s u := by
  have hnew : Rel [.mailboxes, .handles, .pcie] s (s.newHandle h).1 := (State.newHandle_rel s h).mono (by decide)
  have hk : (s.newHandle h).1.handle (s.nextHandle h.mb h.op) = some h := State.handle_setHandle _ _ _
  rw [State.withHandle, if_neg (by simp [hroom])]
  cases h.transfers with
  | true => exact ⟨_, rfl, hk, hnew.trans ((State.dmaAsk_rel _ _).mono (by decide))⟩
  | false => exact ⟨_, rfl, hk, hnew⟩

/-- The checks of channel and body of a command of the admin mailbox that has the form its row gives (R452). -/
theorem State.adm_bodyOf {s : State} {rq : Req} {n : Nat} {ok : Bool} (hmb : rq.mb = 0) (hlen : rq.body.length = n) (hok : ok = true) (f : State × Reply) :
    s.adm rq (s.bodyOf rq n ok f) = f := by
  rw [State.adm, if_pos hmb, State.bodyOf, if_pos ⟨hlen, hok⟩]

/-- A command of the admin mailbox that is heard, asks for a handle and is answered with it: what it makes (v) of the state that holds the handle is answered. -/
theorem State.mailCmd_gives {s : State} {rq : Req} {f c op : Nat} (hs : s.Heard rq f c) (hmb : rq.mb = 0) {h : Handle} (hh : h.mb = 0 ∧ h.op = op)
    (hroom : s.handleRoom 0 = true) {v : State → Nat → State} {act : State → State × Reply}
    (hact : ∀ M, act { s with mailboxes := M } = State.withHandle { s with mailboxes := M } h (fun u k => (v u k).given k)) :
    ∃ (u : State) (key : List Byte), Rel [.mailboxes, .handles, .pcie] s u ∧ u.handle (s.nextHandle rq.mb op) = some h ∧
      s.mailCmd rq f c act = (v u (s.nextHandle rq.mb op)).answer rq f c key { handle := s.nextHandle rq.mb op } := by
  obtain ⟨hm, rfl⟩ := hh
  obtain ⟨M, key, hM, heq⟩ := State.mailCmd_heard hs
  have hnext : State.nextHandle { s with mailboxes := M } h.mb h.op = s.nextHandle rq.mb h.op := by
    obtain ⟨-, hser, -⟩ := hM
    rw [hmb] at hser ⊢
    rw [hm]
    show handleOf 0 h.op (nextSerial (M.getOr 0 {}).serialNo) = _
    rw [hser, State.nextHandle]
  obtain ⟨u, hu, hk, hrel⟩ := State.withHandle_room (s := { s with mailboxes := M }) (h := h) (by rw [hm]; exact hroom) (fun u k => (v u k).given k)
  rw [hnext] at hu hk
  exact ⟨u, key, (Rel.set_mailboxes.mono (by decide)).trans hrel, hk, by rw [heq act, hact M, hu]; rfl⟩

/-- The same for a command that does no more. -/
theorem State.mailCmd_given {s : State} {rq : Req} {f c op : Nat} (hs : s.Heard rq f c) (hmb : rq.mb = 0) {h : Handle} (hh : h.mb = 0 ∧ h.op = op)
    (hroom : s.handleRoom 0 = true) {act : State → State × Reply}
    (hact : ∀ M, act { s with mailboxes := M } = State.withHandle { s with mailboxes := M } h (fun u k => u.given k)) :
    Handed s (s.mailCmd rq f c act) rq op [] h := by
  obtain ⟨u, key, -, hk, heq⟩ := State.mailCmd_gives (v := fun u _ => u) hs hmb hh hroom hact
  rw [heq]
  exact handed_answer f c key hk

/-! ### The event log -/

/-- An event is the last entry of the log, with the next SEQ (R464, R465). -/
theorem State.log_event (s : State) (code sev x : Nat) (args : List Nat) : ∃ e, (s.event code sev x args).log = s.logRoom.log ++ [e] ∧
    e.seq = s.logNext ∧ e.type = 1 ∧ e.sev = sev ∧ e.ctx = x ∧ e.taiNs = s.clk.tai.ns ∧
      e.body = padTo 64 (leBytes 2 code ++ zeros 6 ++ (args.map (leBytes 8)).flatten) := by
  have hnotify : ∀ (t : State) (m sev : Nat), (t.notify m sev).log = t.log := fun t m sev => (State.notify_rel t m sev).only .log (by decide)
  have hnext : s.logRoom.logNext = s.logNext := (State.logRoom_rel s).only .logNext (by decide)
  have hclk : s.logRoom.clk = s.clk := (State.logRoom_rel s).clk (by decide)
  refine ⟨{ seq := s.logNext, type := 1, sev := sev, ctx := x, taiNs := s.clk.tai.ns, cycle := s.clk.cycle,
            body := padTo 64 (leBytes 2 code ++ zeros 6 ++ (args.map (leBytes 8)).flatten) }, ?_, rfl, rfl, rfl, rfl, rfl, rfl⟩
  rw [State.event, State.logRecord]
  split
  · rw [hnotify, hnext, hclk]
  · rw [hnotify, hnotify, hnext, hclk]

theorem State.logged_event (s : State) (code sev x : Nat) (args : List Nat) : Logged s (s.event code sev x args) code sev x args := by
  obtain ⟨e, hlog, he⟩ := State.log_event s code sev x args
  exact ⟨e, by rw [hlog]; simp, he⟩

/-- The room made in a full log is not that of the newest entry (R466). -/
theorem State.mem_log_logRoom {s : State} {l : List LogEntry} {e : LogEntry} (h : s.log = l ++ [e]) : e ∈ s.logRoom.log := by
  unfold State.logRoom
  split
  · simp [h]
  · next hfull =>
    cases l with
    | nil => simp [h] at hfull
    | cons a l =>
      rw [h]
      dsimp only [List.cons_append]
      split
      · simp
      · show e ∈ (l ++ [e])
        simp

/-- The completion of a handle keeps the newest entry. -/
theorem State.mem_log_finish {s : State} {l : List LogEntry} {e : LogEntry} (h : s.log = l ++ [e]) (k status : Nat) : e ∈ (s.finish k status).log := by
  have hmem : e ∈ s.log := by simp [h]
  unfold State.finish
  split
  · exact hmem
  · split
    · exact hmem
    · extract_lets ph t
      split
      · obtain ⟨e', hlog, -⟩ := State.log_event t 0x0011 2 ((‹Handle›.ctx).getD noCtx) [k, status]
        rw [State.handleEvent, hlog]
        exact List.mem_append_left _ (State.mem_log_logRoom (s := t) h)
      · exact hmem

/-- A handle that completes right after an event leaves the event in the log. -/
theorem Logged.finish {s v : State} {code sev x : Nat} {args : List Nat} (hv : v.log = (s.event code sev x args).log) (k status : Nat) :
    Logged s (v.finish k status) code sev x args := by
  obtain ⟨e, hlog, he⟩ := State.log_event s code sev x args
  exact ⟨e, State.mem_log_finish (hv.trans hlog) k status, he⟩

/-! ### Identity and firmware (R456, R468, R469) -/

theorem exec_fwIdentity {s : State} {rq : Req} (hs : s.Heard rq 0x0B 1 ∨ s.HeardFree rq 0x0B 1) (hn : OnNone rq) (hb : rq.body = []) :
    ∃ t : State, exec (.fwIdentity rq) s = .next t ∧ Answered t rq.mb 0 s.identity := by
  have hissue : ∃ M key, IssuedOn s rq.mb M ∧ ∀ act : State → State × Reply,
      s.mailCmd rq 0x0B 1 act = (act { s with mailboxes := M }).1.answer rq 0x0B 1 key (act { s with mailboxes := M }).2 :=
    hs.elim State.mailCmd_heard State.mailCmd_heardFree
  obtain ⟨M, key, -, heq⟩ := hissue
  have hone : ¬ (rq.mb ≠ 0 ∧ rq.target ≠ 0xFFFF) := fun h => hn.elim h.1 h.2
  have hrow : exec (.fwIdentity rq) s = execFwIdentity rq s := rfl
  rw [hrow]
  refine ⟨_, congrArg Host.Outcome.next (heq _), ?_⟩
  rw [State.anyMb, if_neg hone, State.bodyOf, if_pos ⟨by rw [hb]; rfl, rfl⟩]
  exact State.answer_answered _ _ _ _ _ _

theorem exec_fwStage {s : State} {rq : Req} (hs : s.Heard rq 0x0B 2) (hmb : rq.mb = 0) (hlen : rq.body.length = 16) (hroom : s.handleRoom 0 = true) :
    ∃ t : State, exec (.fwStage rq) s = .next t ∧
      Handed s t rq 0x0A [] { mb := 0, op := 0x0A, phase := 1, total := blocksOf (rq.fld 8 8), addr := rq.fld 0 8, len := rq.fld 8 8 } := by
  have hrow : exec (.fwStage rq) s = execFwStage rq s := rfl
  rw [hrow]
  refine ⟨_, rfl, ?_⟩
  exact State.mailCmd_given hs hmb (by exact ⟨rfl, rfl⟩) hroom (fun _ => State.adm_bodyOf hmb hlen rfl _)

theorem exec_fwActivate {s : State} {rq : Req} (hs : s.Heard rq 0x0B 3) (hmb : rq.mb = 0) (hb : rq.body = []) (hst : s.life.staged = true)
    (hroom : s.handleRoom 0 = true) : ∃ t : State, exec (.fwActivate rq) s = .next t ∧
      Handed s t rq 0x0B [] { mb := 0, op := 0x0B, phase := if s.liveHead.isSome then 0 else 2, total := 1, addr := s.clk.tai.ns } := by
  have hphase : (if s.livePhase = 0 then 0 else 2) = if s.liveHead.isSome then 0 else 2 := by
    rw [State.livePhase]
    cases s.liveHead.isSome <;> rfl
  have hrow : exec (.fwActivate rq) s = execFwActivate rq s := rfl
  rw [hrow]
  refine ⟨_, rfl, ?_⟩
  refine State.mailCmd_given hs hmb (by exact ⟨rfl, rfl⟩) hroom (fun M => ?_)
  rw [State.adm_bodyOf hmb (by rw [hb]; rfl) rfl, if_neg (by simp [hst]), ← hphase]
  rfl

theorem exec_coreTables {s : State} {rq : Req} (hs : s.Heard rq 0x0B 4) (hmb : rq.mb = 0) (hlen : rq.body.length = 16) (hcores : rq.fld 12 2 < 4096)
    (hresv : rq.fld 14 2 = 0) (hroom : s.handleRoom 0 = true) : ∃ t : State, exec (.coreTables rq) s = .next t ∧
      Handed s t rq 0x0C [] { mb := 0, op := 0x0C, phase := s.livePhase, total := popCount 12 (rq.fld 12 2), arg := rq.fld 12 2, addr := rq.fld 0 8,
                              len := rq.fld 8 4 } := by
  have hrow : exec (.coreTables rq) s = execCoreTables rq s := rfl
  rw [hrow]
  refine ⟨_, rfl, ?_⟩
  exact State.mailCmd_given hs hmb (by exact ⟨rfl, rfl⟩) hroom (fun _ => State.adm_bodyOf hmb hlen (by simp [hcores, hresv]) _)

theorem exec_coreReplace {s : State} {rq : Req} (hs : s.Heard rq 0x0C 2) (hmb : rq.mb = 0) (hlen : rq.body.length = 8) (hcore : rq.fld 0 1 ≤ 11)
    (hresv : rq.fld 1 7 = 0) (hsp : s.spares ≠ []) (hroom : s.handleRoom 0 = true) : ∃ t : State, exec (.coreReplace rq) s = .next t ∧
      Handed s t rq 0x0D [] { mb := 0, op := 0x0D, phase := s.livePhase, total := 128, arg := rq.fld 0 1 } := by
  have hrow : exec (.coreReplace rq) s = execCoreReplace rq s := rfl
  rw [hrow]
  refine ⟨_, rfl, ?_⟩
  refine State.mailCmd_given hs hmb (by exact ⟨rfl, rfl⟩) hroom (fun M => ?_)
  have hspM : State.spares { s with mailboxes := M } = s.spares := rfl
  rw [State.adm_bodyOf hmb hlen (by simp [hcore, hresv]), hspM, if_neg (by simpa using hsp)]
  rfl

theorem exec_dramRecal {s : State} {rq : Req} (hs : s.Heard rq 0x0C 5) (hmb : rq.mb = 0) (hlen : rq.body.length = 8) (hslices : rq.fld 0 2 < 4096)
    (hlayers : rq.fld 2 1 < 16) (hresv : rq.fld 3 5 = 0) (hroom : s.handleRoom 0 = true) (hn : popCount 12 (rq.fld 0 2) * popCount 4 (rq.fld 2 1) * 16 ≠ 0) :
    ∃ t : State, exec (.dramRecal rq) s = .next t ∧
      Handed s t rq 0x0E [] { mb := 0, op := 0x0E, phase := 1, total := popCount 12 (rq.fld 0 2) * popCount 4 (rq.fld 2 1) * 16,
                              arg := rq.fld 0 2 + rq.fld 2 1 * 4096, arg2 := 2 } := by
  have hrow : exec (.dramRecal rq) s = execDramRecal rq s := rfl
  rw [hrow]
  refine ⟨_, rfl, ?_⟩
  refine State.mailCmd_given hs hmb (by exact ⟨rfl, rfl⟩) hroom (fun M => ?_)
  rw [State.adm_bodyOf hmb hlen (by simp [hslices, hlayers, hresv])]
  simp only [if_neg hn]

theorem exec_fwSwitchStart {s : State} {k : Nat} {h : Handle} (hl : s.liveOp 0x0B = some (k, h)) (hk : s.handle k = some h) (hsw : s.life.fwSwitch = false)
    (hq : s.quiet = true) : ∃ t : State, exec .fwSwitchStart s = .next t ∧ t.life = { s.life with fwSwitch := true } ∧
      t.handle k = some { h with phase := 1 } := by
  obtain ⟨hf, -⟩ := State.live_of_liveOp hl
  let t : State := { s with life := { s.life with fwSwitch := true } }
  have hkt : t.handle k = some h := hk
  refine ⟨t.phase k 1, ?_, (State.phase_rel t k 1).life (by decide), State.handle_phase hkt hf 1⟩
  show execFwSwitchStart s = _
  rw [execFwSwitchStart, hl]
  simp only [hsw, hq, Bool.not_true, Bool.or_self, Bool.false_eq_true, if_false, t]

theorem exec_activateTimeout {s : State} {k : Nat} {h : Handle} (hl : s.liveOp 0x0B = some (k, h)) (hk : s.handle k = some h)
    (hsw : s.life.fwSwitch = false) : ∃ u : State, exec .activateTimeout s = .next u.beginTransition ∧
      u.clk = (s.toTai (h.addr + 10000000000)).clk ∧ u.life = s.life ∧
      u.handle k = some { h with fin := true, status := 0x16, phase := 6, doneNs := u.clk.tai.ns } := by
  obtain ⟨hf, -⟩ := State.live_of_liveOp hl
  have hclk := (State.finish_rel (s.toTai (h.addr + 10000000000)) k 0x16).clk (by decide)
  have hkt : (s.toTai (h.addr + 10000000000)).handle k = some h := by rw [State.handle_congr ((State.toTai_rel _ _).handles (by decide)), hk]
  refine ⟨(s.toTai (h.addr + 10000000000)).finish k 0x16, ?_, hclk,
    ((State.finish_rel _ _ _).life (by decide)).trans ((State.toTai_rel _ _).life (by decide)), ?_⟩
  · show execActivateTimeout s = _
    rw [execActivateTimeout, hl]
    simp only [hsw, Bool.false_eq_true, if_false]
  · rw [State.handle_finish hkt hf, Handle.ended_failed _ (by decide) (by decide), hclk]

/-- What an operation on a state right after an event reads of the handles, of the time and of the firmware's record. -/
theorem State.handle_event (s : State) (code sev x : Nat) (args : List Nat) (k : Nat) : (s.event code sev x args).handle k = s.handle k :=
  State.handle_congr ((State.event_rel s code sev x args).handles (by decide)) k

@[simp] theorem State.clk_event (s : State) (code sev x : Nat) (args : List Nat) : (s.event code sev x args).clk = s.clk :=
  (State.event_rel s code sev x args).clk (by decide)

@[simp] theorem State.life_event (s : State) (code sev x : Nat) (args : List Nat) : (s.event code sev x args).life = s.life :=
  (State.event_rel s code sev x args).life (by decide)

@[simp] theorem State.life_finish (s : State) (k status : Nat) : (s.finish k status).life = s.life := (State.finish_rel s k status).life (by decide)

@[simp] theorem State.life_progress (s : State) (k p d n : Nat) : (s.progress k p d n).life = s.life := (State.progress_rel s k p d n).life (by decide)

theorem exec_fwSwitchResume {s : State} {k : Nat} {h : Handle} {o : FwImage} (hsw : s.life.fwSwitch = true) (hl : s.liveOp 0x0B = some (k, h))
    (hk : s.handle k = some h) (ho : o = s.life.slotImages.getD (1 - s.life.slot) {}) : ∃ u : State, exec .fwSwitchResume s = .next u.beginTransition ∧
      u.life.fwSwitch = false ∧ u.life.slot = 1 - s.life.slot ∧ u.life.lastSlot = 1 - s.life.slot ∧ u.life.staged = false ∧
      u.life.fwCounter = max s.life.fwCounter o.svn ∧ Logged s u 0x0012 1 noCtx [s.life.fwRev, o.revision, 0] ∧
      u.handle k = some { h with phase := 5, done := 1, total := 1, fin := true, status := 0, doneNs := s.clk.tai.ns } := by
  subst ho
  obtain ⟨hf, -⟩ := State.live_of_liveOp hl
  have hrow : exec .fwSwitchResume s = .next (s.switchEnds 0 0) := if_pos hsw
  rw [hrow]
  unfold State.switchEnds
  rw [hl]
  extract_lets l other ok l' k' t
  have hlife : ((t.progress k 1 1 1).finish k 0).life = { l' with countersNo := l.countersNo + 1 } := by
    rw [State.life_finish, State.life_progress]
    exact State.life_event _ _ _ _ _
  have hkt : t.handle k = some h := (State.handle_event _ _ _ _ _ _).trans hk
  have hclk : t.clk = s.clk := State.clk_event _ _ _ _ _
  have hlog : (t.progress k 1 1 1).log = t.log := (State.progress_rel t k 1 1 1).only .log (by decide)
  refine ⟨(t.progress k 1 1 1).finish k 0, rfl, ?_⟩
  rw [hlife, State.handle_progress_finish hkt hf, hclk]
  exact ⟨rfl, rfl, rfl, rfl, rfl, Logged.finish hlog k 0, rfl⟩

theorem exec_fwSwitchWatchdog {s : State} {k : Nat} {h : Handle} {o : FwImage} (hsw : s.life.fwSwitch = true) (hl : s.liveOp 0x0B = some (k, h))
    (hk : s.handle k = some h) (ho : o = s.life.slotImages.getD (1 - s.life.slot) {}) : ∃ u : State, exec .fwSwitchWatchdog s = .next u.beginTransition ∧
      u.life = { s.life with fwSwitch := false } ∧ Logged s u 0x0012 1 noCtx [s.life.fwRev, o.revision, 1] ∧
      u.handle k = some { h with phase := 6, fin := true, status := 0x25, doneNs := s.clk.tai.ns } := by
  subst ho
  obtain ⟨hf, -⟩ := State.live_of_liveOp hl
  have hrow : exec .fwSwitchWatchdog s = .next (s.switchEnds 1 0x25) := if_pos hsw
  rw [hrow]
  unfold State.switchEnds
  rw [hl]
  extract_lets l other ok l' k' t
  have hkt : t.handle k = some h := (State.handle_event _ _ _ _ _ _).trans hk
  have hclk : t.clk = s.clk := State.clk_event _ _ _ _ _
  refine ⟨t.finish k 0x25, rfl, ?_, Logged.finish rfl k 0x25, ?_⟩
  · rw [State.life_finish]
    exact State.life_event _ _ _ _ _
  · rw [State.handle_finish hkt hf, Handle.ended_failed _ (by decide) (by decide), hclk]

/-! ### Core tables and core replacement (R108, R470, R471) -/

theorem Map.mem_of_find {α : Type} {m : Map α} {k : Nat} {v : α} (h : m.find k = some v) : (k, v) ∈ m := by
  induction m with
  | nil => cases h
  | cons e m ih =>
    rw [Map.find] at h
    split at h
    · next hk => cases h; subst hk; exact List.mem_cons_self
    · exact List.mem_cons_of_mem _ (ih h)

/-- In a table with rising keys an entry set at a key is the only one of that key. -/
theorem Map.mem_set {α : Type} {m : Map α} {k : Nat} {v : α} {e : Nat × α} (hm : List.Pairwise (fun a b => a.1 < b.1) m) (he : e ∈ m.set k v) :
    e = (k, v) ∨ (e ∈ m ∧ e.1 ≠ k) := by
  induction m with
  | nil => exact .inl (List.mem_singleton.mp he)
  | cons a m ih =>
    obtain ⟨ha, hm⟩ := List.pairwise_cons.mp hm
    rw [Map.set] at he
    split at he
    · next hlt =>
      rcases List.mem_cons.mp he with rfl | he
      · exact .inl rfl
      · refine .inr ⟨he, ?_⟩
        rcases List.mem_cons.mp he with rfl | he
        · exact Nat.ne_of_gt hlt
        · exact Nat.ne_of_gt (Nat.lt_trans hlt (ha e he))
    · split at he
      · next hk =>
        rcases List.mem_cons.mp he with rfl | he
        · exact .inl rfl
        · exact .inr ⟨List.mem_cons_of_mem _ he, hk ▸ Nat.ne_of_gt (ha e he)⟩
      · next hk =>
        rcases List.mem_cons.mp he with rfl | he
        · exact .inr ⟨List.mem_cons_self, hk⟩
        · exact (ih hm he).imp_right fun ⟨hmem, hne⟩ => ⟨List.mem_cons_of_mem _ hmem, hne⟩

@[simp] theorem State.core_tablesDone (s : State) (k : Nat) (f : FwImage) (c : Nat) : (s.tablesDone k f).core c = s.core c :=
  State.core_congr ((State.tablesDone_rel s k f).cores (by decide)) c

/-- The last of the named cores has taken the tables (R494). -/
theorem State.tablesDone_last {s : State} {k : Nat} {h : Handle} (f : FwImage) (hnone : s.cores.any (fun e => e.2.tablesDue) = false)
    (hk : s.handle k = some h) (hf : h.fin = false) : (s.tablesDone k f).life.tables = f ∧
      (s.tablesDone k f).life.tablesCounter = max s.life.tablesCounter f.svn ∧
      (s.tablesDone k f).handle k = some { h with phase := 5, fin := true, status := 0, doneNs := s.clk.tai.ns } := by
  rw [State.tablesDone, if_neg (by simp [hnone]), State.life_finish]
  exact ⟨rfl, rfl, State.handle_finish (by exact hk) hf 0⟩

theorem exec_coreTablesTake {s : State} {c k : Nat} {f : FwImage} {h : Handle} (hn : s.life.newTables = some f) (hl : s.liveOp 0x0C = some (k, h))
    (hdue : (s.core c).tablesDue = true) (hb : (s.core c).atBoundary = true) : ∃ t : State, exec (.coreTablesTake c) s = .next t ∧
      (t.core c).tablesDue = false ∧ (t.core c).tablesRev = f.revision ∧
      ((∀ e ∈ s.cores, e.2.tablesDue = true → e.1 = c) → s.cores.Pairwise (fun a b => a.1 < b.1) → s.handle k = some h →
        t.life.tables = f ∧ t.life.tablesCounter = max s.life.tablesCounter f.svn ∧
        t.handle k = some { h with phase := 5, done := h.done + 1, fin := true, status := 0, doneNs := s.clk.tai.ns }) := by
  obtain ⟨hf, -⟩ := State.live_of_liveOp hl
  let v : Core := { s.core c with tablesDue := false, tablesRev := f.revision }
  let u : State := s.setCore c v
  have hrow : exec (.coreTablesTake c) s = .next ((u.progress1 k).tablesDone k f) := by
    show execCoreTablesTake c s = _
    rw [execCoreTablesTake, hn, hl]
    simp only [hdue, hb, Bool.not_true, Bool.or_self, Bool.false_eq_true, if_false]
    rfl
  have hcores : (u.progress1 k).cores = s.cores.set c v := (State.progress1_rel u k).cores (by decide)
  have hcore : (u.progress1 k).core c = v := (State.core_congr (s := u) hcores c).trans (State.core_setCore _ _ _)
  refine ⟨_, hrow, by rw [State.core_tablesDone, hcore], by rw [State.core_tablesDone, hcore], fun hlast hkeys hk => ?_⟩
  have hnone : (u.progress1 k).cores.any (fun e => e.2.tablesDue) = false := by
    rw [hcores, List.any_eq_false]
    intro e he
    rcases Map.mem_set hkeys he with rfl | ⟨hmem, hne⟩
    · exact Bool.false_ne_true
    · exact fun hd => hne (hlast e hmem hd)
  have hkt : (u.progress1 k).handle k = some { h with done := h.done + 1 } := State.handle_progress1 (s := u) hk hf
  have hlife : (u.progress1 k).life = s.life := (State.progress1_rel u k).life (by decide)
  obtain ⟨htables, hcounter, hend⟩ := State.tablesDone_last f hnone hkt hf
  rw [State.clk_progress1] at hend
  exact ⟨htables, by rw [hcounter, hlife], hend⟩

@[simp] theorem State.core_event (s : State) (code sev x : Nat) (args : List Nat) (c : Nat) : (s.event code sev x args).core c = s.core c :=
  State.core_congr ((State.event_rel s code sev x args).cores (by decide)) c

@[simp] theorem State.core_addCullet (s : State) (e : Cullet) (c : Nat) : (s.addCullet e).core c = s.core c :=
  State.core_congr ((State.addCullet_rel s e).cores (by decide)) c

/-- A logical core that has moved stands on its new physical core with no weight set and no accumulator (R108, R471). -/
theorem State.core_moveCore (s : State) (c p : Nat) : (s.moveCore c p).core c = { s.core c with
    pc := p, active := [], parison := [], load := none, acc := [], sweepRow := 0, migrating := false, tablesRev := s.life.tables.revision } := by
  have hrel := State.endSramCopies_rel s (s.core c).pc
  have hcore : (s.endSramCopies (s.core c).pc).core c = s.core c := State.core_congr (hrel.cores (by decide)) c
  have hlife : (s.endSramCopies (s.core c).pc).life = s.life := hrel.life (by decide)
  rw [State.moveCore]
  simp only [State.core_event, State.core_addCullet]
  split
  · rw [State.core_updCore, hcore, hlife]
  · rw [State.core_addCullet, State.core_updCore, hcore, hlife]

theorem exec_coreMigration_retired {s : State} {c p : Nat} {l : List Nat} (hb : (s.core c).atBoundary = true) (hsp : s.spares = p :: l)
    (hm : (s.core c).migrating = true) (hno : ∀ e, s.liveOp 0x0D = some e → e.2.arg ≠ c) :
    exec (.coreMigration c) s = .next (s.moveCore c p) := by
  show execCoreMigration c s = _
  rw [execCoreMigration]
  cases hl : s.liveOp 0x0D with
  | none => simp only [hm, hb, hsp, Bool.true_or, Bool.not_true, Bool.or_self, Bool.false_eq_true, if_false]
  | some e =>
    have hother : ¬ (e.2.arg = c ∧ s.tearing.isEmpty = true) := fun h => hno e hl h.1
    simp only [if_neg hother, hm, hb, hsp, Bool.true_or, Bool.not_true, Bool.or_self, Bool.false_eq_true, if_false]

theorem exec_coreMigration_replace {s : State} {c p k : Nat} {l : List Nat} {h : Handle} (hb : (s.core c).atBoundary = true) (hsp : s.spares = p :: l)
    (hl : s.liveOp 0x0D = some (k, h)) (harg : h.arg = c) (ht : s.tearing = []) :
    exec (.coreMigration c) s = .next (((s.moveCore c p).progress k 1 128 128).finish k 0).beginTransition := by
  have hcond : (h.arg = c ∧ s.tearing.isEmpty = true) := ⟨harg, by rw [ht]; rfl⟩
  show execCoreMigration c s = _
  rw [execCoreMigration, hl]
  simp only [if_pos hcond, hb, hsp, Option.isSome_some, Bool.or_true, Bool.not_true, Bool.or_self, Bool.false_eq_true, if_false]

theorem coreMigration_row {s : State} {c p : Nat} {l : List Nat} (hb : (s.core c).atBoundary = true) (hsp : s.spares = p :: l) :
    ((s.core c).migrating = true → (∀ e, s.liveOp 0x0D = some e → e.2.arg ≠ c) → ∃ t : State, exec (.coreMigration c) s = .next t ∧ (t.core c).pc = p ∧
      (t.core c).migrating = false ∧ (t.core c).acc = [] ∧ (t.core c).active = [] ∧ (t.core c).parison = []) ∧
    (∀ k h, s.liveOp 0x0D = some (k, h) → h.arg = c → s.handle k = some h → s.tearing = [] → ∃ u : State, exec (.coreMigration c) s = .next u.beginTransition ∧
      (u.core c).pc = p ∧ (u.core c).active = [] ∧ (u.core c).parison = [] ∧
      u.handle k = some { h with phase := 5, done := 128, total := 128, fin := true, status := 0, doneNs := s.clk.tai.ns }) := by
  constructor
  · intro hm hno
    refine ⟨_, exec_coreMigration_retired hb hsp hm hno, ?_⟩
    rw [State.core_moveCore]
    exact ⟨rfl, rfl, rfl, rfl, rfl⟩
  · intro k h hl harg hk ht
    obtain ⟨hf, -⟩ := State.live_of_liveOp hl
    have hmove := State.moveCore_rel s c p
    have hkm : (s.moveCore c p).handle k = some h := (State.handle_congr (hmove.handles (by decide)) k).trans hk
    have hcore : (((s.moveCore c p).progress k 1 128 128).finish k 0).core c = (s.moveCore c p).core c :=
      State.core_congr (((State.finish_rel _ _ _).cores (by decide)).trans ((State.progress_rel _ _ _ _ _).cores (by decide))) c
    refine ⟨_, exec_coreMigration_replace hb hsp hl harg ht, ?_⟩
    rw [hcore, State.core_moveCore, State.handle_progress_finish hkm hf, hmove.clk (by decide)]
    exact ⟨rfl, rfl, rfl, rfl⟩

/-! ### The repair of DRAM (R472) -/

theorem dramBankRetrain_row {s : State} {layer slice bank k : Nat} {h : Handle} (hfind : s.handles.find? (fun e => e.2.op = 0x0E && e.2.arg2 = 2 && !e.2.fin &&
      bit e.2.arg slice && bit e.2.arg (12 + layer) && !e.2.units.contains (BankLoc.t1 layer slice bank).key) = some (k, h)) :
    ∃ t : State, ∃ r, exec (.dramBankRetrain (.t1 layer slice bank)) s = .next t ∧ t.handle k = some r ∧ r.done = h.done + 1 ∧
      r.units = h.units ++ [(BankLoc.t1 layer slice bank).key] ∧ r.fin = decide (h.total ≤ h.done + 1) := by
  have hf : h.fin = false := by
    have hp := List.find?_some hfind
    simp only [Bool.and_eq_true, Bool.not_eq_true'] at hp
    exact hp.1.1.1.2
  let h' : Handle := { h with units := h.units ++ [(BankLoc.t1 layer slice bank).key], done := h.done + 1 }
  have hk : (s.setHandle k h').handle k = some h' := State.handle_setHandle _ _ _
  have hrow : exec (.dramBankRetrain (.t1 layer slice bank)) s =
      .next (if h.total ≤ h.done + 1 then (s.setHandle k h').finish k 0 else s.setHandle k h') := by
    show execDramBankRetrain (.t1 layer slice bank) s = _
    rw [execDramBankRetrain, hfind]
  by_cases hlast : h.total ≤ h.done + 1
  · rw [if_pos hlast] at hrow
    exact ⟨_, _, hrow, State.handle_finish hk hf 0, rfl, rfl, by simp [Handle.ended, hlast]⟩
  · rw [if_neg hlast] at hrow
    exact ⟨_, _, hrow, hk, rfl, rfl, by simp [h', hf, hlast]⟩

/-! ### The ends of module-initiated transfers (R458, R460, R466, R468, R470) -/

/-- The transfer of a handle can end: the handle has not completed, the gaffer runs, and a handle that moves data by DMA holds a channel (R547). -/
structure State.Transfers (s : State) (k : Nat) (h : Handle) : Prop where
  handle : s.handle k = some h
  fin : h.fin = false
  pwrok : s.start.pwrok = true
  up : s.start.gafferDown = false
  served : h.transfers = true → s.handleServed k = true

section
variable {s : State} {k : Nat} {h : Handle} (ht : s.Transfers k h)
include ht

theorem State.Transfers.ready : ¬ (h.fin || !s.start.pwrok || s.start.gafferDown || (h.transfers && !s.handleServed k)) = true := by
  have hserved := ht.served
  simp only [ht.fin, ht.pwrok, ht.up, Bool.not_true, Bool.or_self, Bool.false_or, Bool.and_eq_true, Bool.not_eq_true', not_and, Bool.not_eq_false]
  exact hserved

theorem exec_moduleDmaComplete_fault (hop : h.op = 0x0A ∨ h.op = 0x0F) : exec (.moduleDmaComplete k .fault) s = .next (s.finish k 0x1A) := by
  have hne : h.op ≠ 3 := by rcases hop with h | h <;> simp [h]
  show execModuleDmaComplete k .fault s = _
  rw [execModuleDmaComplete, ht.handle]
  dsimp only
  rw [if_neg ht.ready, if_pos (.inr (hop.imp_right .inl)), State.dmaFault, if_neg hne]

theorem exec_moduleDmaComplete_firmware (f : FwImage) (hop : h.op = 0x0A) :
    exec (.moduleDmaComplete k (.firmware f)) s = .next (s.staged k h f) := by
  show execModuleDmaComplete k (.firmware f) s = _
  rw [execModuleDmaComplete, ht.handle]
  dsimp only
  rw [if_neg ht.ready, if_pos hop]

theorem exec_moduleDmaComplete_tables (f : FwImage) (hl : s.liveOp 0x0C = some (k, h)) (hn : s.life.newTables = none) :
    exec (.moduleDmaComplete k (.firmware f)) s = .next (s.tablesFetched k h f) := by
  have hop : ¬ h.op = 0x0A := by rw [(State.live_of_liveOp hl).2]; decide
  show execModuleDmaComplete k (.firmware f) s = _
  rw [execModuleDmaComplete, ht.handle, hl]
  dsimp only
  rw [if_neg ht.ready, if_neg hop, if_pos (by simp [hn])]

theorem exec_moduleDmaComplete_image (im : JobImage) {x : Nat} (hop : h.op = 3) (hx : h.ctx = some x) :
    exec (.moduleDmaComplete k (.image im)) s = .next (s.imageFetched x k im) := by
  show execModuleDmaComplete k (.image im) s = _
  rw [execModuleDmaComplete, ht.handle]
  dsimp only
  rw [if_neg ht.ready, if_pos hop, hx, Option.getD_some]

theorem exec_moduleDmaComplete_table (b : List Byte) (hop : h.op = 0x0F) (harg : h.arg = 2) :
    exec (.moduleDmaComplete k (.table b)) s = .next (s.loadTable k h b) := by
  show execModuleDmaComplete k (.table b) s = _
  rw [execModuleDmaComplete, ht.handle]
  dsimp only
  rw [if_neg ht.ready, if_pos ⟨hop, .inl harg⟩]

theorem exec_moduleDmaComplete_log (hop : h.op = 0x0F) (harg : h.arg = 1) :
    exec (.moduleDmaComplete k .done) s = .next (s.logWritten k h) := by
  show execModuleDmaComplete k .done s = _
  rw [execModuleDmaComplete, ht.handle]
  dsimp only
  rw [if_neg ht.ready, if_pos ⟨hop, harg⟩]

end

/-- The statuses of an image: accepted, its signature bad, its version too old (R494). -/
theorem imageStatus_cases (f : FwImage) (n : Nat) : imageStatus f n = 0 ∨ imageStatus f n = 0x1E ∨ imageStatus f n = 0x1F := by
  unfold imageStatus
  split
  · exact .inr (.inl rfl)
  · split
    · exact .inr (.inr rfl)
    · exact .inl rfl

/-- A firmware image that is accepted stands bootable in the inactive slot, and its handle completes (R468, R494). -/
theorem State.staged_accepted {s : State} {k : Nat} {h : Handle} {f : FwImage} (hk : s.handle k = some h) (hf : h.fin = false)
    (hst : imageStatus f s.life.fwCounter = 0) : (s.staged k h f).life.staged = true ∧
      (s.staged k h f).life.slotImages[if s.life.slot = 0 then 1 else 0]? = some { f with bootable := true } ∧
      (s.staged k h f).handle k = some { h with phase := 5, done := h.total, fin := true, status := 0, doneNs := s.clk.tai.ns } := by
  rw [State.staged]
  extract_lets l img slots
  rw [if_neg (by simp [hst]), State.life_finish, State.life_progress]
  refine ⟨rfl, ?_, State.handle_progress_finish (by exact hk) hf _ _⟩
  by_cases h0 : s.life.slot = 0
  · simp [slots, l, h0, img]
  · simp [slots, l, h0, img]

theorem State.staged_refused {s : State} {k : Nat} {h : Handle} {f : FwImage} (hk : s.handle k = some h) (hf : h.fin = false)
    (hst : imageStatus f s.life.fwCounter ≠ 0) : (s.staged k h f).life = s.life ∧
      (s.staged k h f).handle k = some { h with phase := 6, fin := true, status := imageStatus f s.life.fwCounter, doneNs := s.clk.tai.ns } := by
  have hfail : ¬ (imageStatus f s.life.fwCounter = 0x21 ∨ imageStatus f s.life.fwCounter = 0x22) := by
    rcases imageStatus_cases f s.life.fwCounter with h | h | h <;> simp [h]
  have heq : s.staged k h f = s.finish k (imageStatus f s.life.fwCounter) := if_pos hst
  rw [heq, State.life_finish, State.handle_finish hk hf, Handle.ended_failed _ hst hfail]
  exact ⟨rfl, rfl⟩

/-- Cores told one after another that new tables wait for them: each of them is told, and nothing but cores is changed. -/
theorem State.tablesDue_foldl (l : List Nat) (s : State) (i : Nat) (hi : i ∈ l ∨ (s.core i).tablesDue = true) :
    ((l.foldl (fun s i => s.updCore i (fun k => { k with tablesDue := true })) s).core i).tablesDue = true := by
  induction l generalizing s with
  | nil => simpa using hi
  | cons j l ih =>
    refine ih _ ?_
    by_cases hij : i = j
    · subst hij
      exact .inr (by rw [State.core_updCore])
    · rw [State.core_updCore_ne _ _ hij]
      exact hi.imp_left fun hm => (List.mem_cons.mp hm).resolve_left hij

theorem State.life_foldl_updCore (l : List Nat) (g : Core → Core) (s : State) : (l.foldl (fun s i => s.updCore i g) s).life = s.life := by
  induction l generalizing s with
  | nil => rfl
  | cons j l ih => exact ih _

/-- A core that tables wait for is among the cores that the table holds. -/
theorem State.any_tablesDue {s : State} {i : Nat} (h : (s.core i).tablesDue = true) : s.cores.any (fun e => e.2.tablesDue) = true := by
  rw [State.core, Map.getOr] at h
  cases hfind : s.cores.find i with
  | none => rw [hfind] at h; exact absurd h Bool.false_ne_true
  | some v =>
    rw [hfind] at h
    exact List.any_eq_true.mpr ⟨(i, v), Map.mem_of_find hfind, h⟩

/-- Core tables that are accepted wait for each named core (R470). -/
theorem State.tablesFetched_accepted {s : State} {k : Nat} {h : Handle} {f : FwImage} (hst : imageStatus f s.life.tablesCounter = 0)
    (hn : popCount 12 h.arg ≠ 0) : (s.tablesFetched k h f).life.newTables = some f ∧
      ∀ i, i < 12 → bit h.arg i = true → ((s.tablesFetched k h f).core i).tablesDue = true := by
  let l := (List.range 12).filter (fun i => bit h.arg i)
  let t : State := State.phase { s with life := { s.life with newTables := some f } } k 1
  let u : State := l.foldl (fun s i => s.updCore i (fun k => { k with tablesDue := true })) t
  have hdue : ∀ i ∈ l, (u.core i).tablesDue = true := fun i hi => State.tablesDue_foldl l t i (.inl hi)
  have hsome : u.cores.any (fun e => e.2.tablesDue) = true := by
    obtain ⟨i, hi⟩ := List.exists_mem_of_ne_nil l (fun h0 => hn (congrArg List.length h0))
    exact State.any_tablesDue (hdue i hi)
  have heq : s.tablesFetched k h f = u := by
    rw [State.tablesFetched]
    exact (if_neg (by simp [hst])).trans (if_pos hsome)
  rw [heq]
  refine ⟨?_, fun i hi hb => hdue i (List.mem_filter.mpr ⟨List.mem_range.mpr hi, hb⟩)⟩
  rw [State.life_foldl_updCore]
  exact congrArg Life.newTables ((State.phase_rel _ k 1).life (by decide))

/-- A job image that meets every check is loaded, and its handle completes (R341, R460). -/
theorem State.imageFetched_loaded {s : State} {x k : Nat} {h : Handle} {im : JobImage} (hk : s.handle k = some h) (hf : h.fin = false)
    (hphase : (s.ctx x).job.phase = 1) (hhandle : (s.ctx x).job.handle = k) (hstruct : structureOk im = true) (hcores : 12 ≤ s.healthyCores)
    (hculls : s.culls.length < 4096) (hstage : stage2 s.deviceId (s.ctx x).sealed_ im = []) (hroom : im.blocks ≤ s.t2Room x) :
    ((s.imageFetched x k im).ctx x).state = .loaded ∧ ((s.imageFetched x k im).ctx x).job.phase = 2 ∧
      ((s.imageFetched x k im).ctx x).job.image = some im ∧ ((s.imageFetched x k im).ctx x).job.imageFrames = im.blocks ∧
      (s.imageFetched x k im).handle k =
        some { h with phase := 5, done := im.blocks, total := im.blocks, fin := true, status := 0, doneNs := s.clk.tai.ns } := by
  let t : State := s.updCtx x (fun c => { c with
    state := .loaded
    job := { c.job with phase := 2, image := some im, imageFrames := im.blocks, epoch := if im.man.epochTai = 0 then c.job.epoch else im.man.epochTai } })
  have hkt : (t.progress k 1 im.blocks im.blocks).handle k = some { h with phase := 1, done := im.blocks, total := im.blocks } :=
    State.handle_progress (s := t) hk hf 1 _ _
  have heq : s.imageFetched x k im = (t.progress k 1 im.blocks im.blocks).finish k 0 := by
    rw [State.imageFetched]
    simp only [hphase, hhandle, hstruct, Nat.not_lt.mpr hcores, Nat.not_le.mpr hculls, hstage, Nat.not_lt.mpr hroom, ne_eq, not_true_eq_false, or_self,
      if_false, Bool.not_true, Bool.false_eq_true, List.append_nil, List.isEmpty_nil, t]
  have hctx : ((t.progress k 1 im.blocks im.blocks).finish k 0).ctx x = t.ctx x := by
    rw [State.finish_ok hkt hf]
    exact State.ctx_congr (s := t) ((State.progress_rel t k 1 _ _).ctxs (by decide)) x
  rw [heq, hctx, State.ctx_updCtx]
  exact ⟨rfl, rfl, rfl, rfl, State.handle_progress_finish (s := t) hk hf _ _⟩

/-- The entries of the peer table that are all right are loaded, and the handle completes (R237). -/
theorem State.loadTable_peers {s : State} {k : Nat} {h : Handle} {b : List Byte} (hk : s.handle k = some h) (hf : h.fin = false) (harg : h.arg = 2)
    (hlen : b.length = h.len) (hok : ((List.range h.total).map (fun i => sub b (20 * i) 20)).all (s.tableEntryOk 2) = true) :
    (s.loadTable k h b).peersIp = ((List.range h.total).map (fun i => sub b (20 * i) 20)).foldl peerEntry s.peersIp ∧
      (s.loadTable k h b).handle k = some { h with phase := 5, done := h.total, fin := true, status := 0, doneNs := s.clk.tai.ns } := by
  let t : State := { s with peersIp := ((List.range h.total).map (fun i => sub b (20 * i) 20)).foldl peerEntry s.peersIp }
  have heq : s.loadTable k h b = (t.progress k 1 h.total h.total).finish k 0 := by
    rw [State.loadTable]
    simp only [harg, if_true, hlen, hok, ne_eq, not_true_eq_false, Bool.not_true, Bool.false_eq_true, or_self, if_false, t]
  have hpeers : ((t.progress k 1 h.total h.total).finish k 0).peersIp = t.peersIp :=
    ((State.finish_rel _ _ _).only .peersIp (by decide)).trans ((State.progress_rel _ _ _ _ _).only .peersIp (by decide))
  rw [heq, hpeers]
  exact ⟨rfl, State.handle_progress_finish (by exact hk) hf _ _⟩

/-- The entries of a LOG READ leave in one write, and the handle completes with what was skipped beyond its DONE (R466). -/
theorem State.logWritten_ends {s : State} {k : Nat} {h : Handle} {r : List LogEntry × Nat} (hk : s.handle k = some h) (hf : h.fin = false)
    (hr : r = s.logFrom h.mb h.arg2 h.len) :
    (r.1 ≠ [] → (s.logWritten k h).out = s.out ++ [Output.dmaWrite h.fn h.addr (r.1.flatMap (fun e => e.bytes))]) ∧
      (s.logWritten k h).handle k = some { h with phase := 5, done := r.1.length, total := r.1.length + r.2, fin := true, status := 0,
                                                  doneNs := s.clk.tai.ns } := by
  let t : State := if r.1.isEmpty then s else s.dma h.fn h.addr (r.1.flatMap (fun e => e.bytes))
  have hrel : Rel [.out] s t := by
    unfold t
    split
    · exact Rel.refl _ _
    · exact State.dma_rel _ _ _ _
  have hkt : t.handle k = some h := (State.handle_congr (hrel.handles (by decide)) k).trans hk
  have heq : s.logWritten k h = (t.progress k 1 r.1.length (r.1.length + r.2)).finish k 0 := by subst hr; rfl
  have hout : ((t.progress k 1 r.1.length (r.1.length + r.2)).finish k 0).out = t.out := by
    rw [State.finish_ok (State.handle_progress hkt hf 1 _ _) hf]
    exact (State.progress_rel t k 1 _ _).only .out (by decide)
  rw [heq, hout, State.handle_progress_finish hkt hf, hrel.clk (by decide)]
  refine ⟨fun hne => ?_, rfl⟩
  have ht : t = s.dma h.fn h.addr (r.1.flatMap (fun e => e.bytes)) := if_neg (by simpa using hne)
  rw [ht]
  rfl

/-- The clauses of MODULE_DMA_COMPLETE, for a handle whose transfer can end. -/
theorem moduleDmaComplete_row {s : State} {k : Nat} {h : Handle} (ht : s.Transfers k h) :
    (h.op = 0x0A ∨ h.op = 0x0F → ∃ t : State, exec (.moduleDmaComplete k .fault) s = .next t ∧
      t.handle k = some { h with fin := true, status := 0x1A, phase := 6, doneNs := s.clk.tai.ns }) ∧
    (∀ f, h.op = 0x0A → imageStatus f s.life.fwCounter = 0 → ∃ t : State, exec (.moduleDmaComplete k (.firmware f)) s = .next t ∧ t.life.staged = true ∧
      t.life.slotImages[if s.life.slot = 0 then 1 else 0]? = some { f with bootable := true } ∧
      t.handle k = some { h with phase := 5, done := h.total, fin := true, status := 0, doneNs := s.clk.tai.ns }) ∧
    (∀ f, h.op = 0x0A → imageStatus f s.life.fwCounter ≠ 0 → ∃ t : State, exec (.moduleDmaComplete k (.firmware f)) s = .next t ∧ t.life = s.life ∧
      t.handle k = some { h with phase := 6, fin := true, status := imageStatus f s.life.fwCounter, doneNs := s.clk.tai.ns }) ∧
    (∀ f, s.liveOp 0x0C = some (k, h) → s.life.newTables = none → imageStatus f s.life.tablesCounter = 0 → popCount 12 h.arg ≠ 0 → ∃ t : State,
      exec (.moduleDmaComplete k (.firmware f)) s = .next t ∧ t.life.newTables = some f ∧
        ∀ i, i < 12 → bit h.arg i = true → (t.core i).tablesDue = true) ∧
    (∀ im x, h.op = 3 → h.ctx = some x → (s.ctx x).job.phase = 1 → (s.ctx x).job.handle = k → structureOk im = true → 12 ≤ s.healthyCores →
      s.culls.length < 4096 → stage2 s.deviceId (s.ctx x).sealed_ im = [] → im.blocks ≤ s.t2Room x → ∃ t : State,
        exec (.moduleDmaComplete k (.image im)) s = .next t ∧ (t.ctx x).state = .loaded ∧
        (t.ctx x).job.phase = 2 ∧ (t.ctx x).job.image = some im ∧ (t.ctx x).job.imageFrames = im.blocks ∧
        t.handle k = some { h with phase := 5, done := im.blocks, total := im.blocks, fin := true, status := 0, doneNs := s.clk.tai.ns }) ∧
    (∀ b, h.op = 0x0F → h.arg = 2 → b.length = h.len → ((List.range h.total).map (fun i => sub b (20 * i) 20)).all (s.tableEntryOk 2) = true → ∃ t : State,
      exec (.moduleDmaComplete k (.table b)) s = .next t ∧ t.peersIp = ((List.range h.total).map (fun i => sub b (20 * i) 20)).foldl peerEntry s.peersIp ∧
        t.handle k = some { h with phase := 5, done := h.total, fin := true, status := 0, doneNs := s.clk.tai.ns }) ∧
    (∀ r, h.op = 0x0F → h.arg = 1 → r = s.logFrom h.mb h.arg2 h.len → ∃ t : State, exec (.moduleDmaComplete k .done) s = .next t ∧
      (r.1 ≠ [] → t.out = s.out ++ [Output.dmaWrite h.fn h.addr (r.1.flatMap (fun e => e.bytes))]) ∧
      t.handle k = some { h with phase := 5, done := r.1.length, total := r.1.length + r.2, fin := true, status := 0, doneNs := s.clk.tai.ns }) := by
  have hfault : (s.finish k 0x1A).handle k = some { h with fin := true, status := 0x1A, phase := 6, doneNs := s.clk.tai.ns } := by
    rw [State.handle_finish ht.handle ht.fin, Handle.ended_failed _ (by decide) (by decide)]
  refine ⟨fun hop => ⟨_, exec_moduleDmaComplete_fault ht hop, hfault⟩,
    fun f hop hst => ⟨_, exec_moduleDmaComplete_firmware ht f hop, State.staged_accepted ht.handle ht.fin hst⟩,
    fun f hop hst => ⟨_, exec_moduleDmaComplete_firmware ht f hop, State.staged_refused ht.handle ht.fin hst⟩,
    fun f hl hn hst hc => ⟨_, exec_moduleDmaComplete_tables ht f hl hn, State.tablesFetched_accepted hst hc⟩,
    fun im x hop hx hph hha hst hco hcu hsg hro => ⟨_, exec_moduleDmaComplete_image ht im hop hx,
      State.imageFetched_loaded ht.handle ht.fin hph hha hst hco hcu hsg hro⟩,
    fun b hop harg hlen hok => ⟨_, exec_moduleDmaComplete_table ht b hop harg, State.loadTable_peers ht.handle ht.fin harg hlen hok⟩,
    fun r hop harg hr => ⟨_, exec_moduleDmaComplete_log ht hop harg, State.logWritten_ends ht.handle ht.fin hr⟩⟩

/-! ### Lane repair (R303 to R305) -/

theorem bit_eq_testBit (x i : Nat) : bit x i = x.testBit i := by rw [bit, Nat.testBit_eq_decide_div_mod_eq]; rfl

theorem bit_add_two_pow {x i : Nat} (h : bit x i = false) : bit (x + 2 ^ i) i = true := by
  rw [bit_eq_testBit] at *
  rw [Nat.add_comm, Nat.testBit_two_pow_add_eq, h]
  rfl

theorem bit_sub_two_pow {x i : Nat} (h : bit x i = true) : bit (x - 2 ^ i) i = false := by
  rw [bit_eq_testBit] at *
  have hle : 2 ^ i ≤ x := Nat.ge_two_pow_of_testBit h
  rw [← Nat.add_sub_cancel' hle, Nat.testBit_two_pow_add_eq] at h
  simpa using h

theorem bit_or_two_pow (x i : Nat) : bit (x ||| 2 ^ i) i = true := by
  rw [bit_eq_testBit, Nat.testBit_or, Nat.testBit_two_pow_self, Bool.or_true]

theorem State.port_congr {s t : State} (h : t.ports = s.ports) (p : Nat) : t.port p = s.port p := by rw [State.port, State.port, h]

theorem State.mac_congr {s t : State} (h : t.macs = s.macs) (m : Nat) : t.mac m = s.mac m := by rw [State.mac, State.mac, h]

/-- The MAC that a lane carries is one of the lane's port (R281). -/
theorem State.port_of_laneMac {s : State} {g m : Nat} (h : s.laneMac g = some m) : m / 4 = g / 4 := by
  have hmem : m ∈ portMacs (s.port (g / 4)).mode (g / 4) := List.mem_of_find?_eq_some h
  unfold portMacs at hmem
  split at hmem
  · simp at hmem; omega
  · split at hmem
    · simp at hmem; omega
    · split at hmem
      · simp at hmem; omega
      · cases hmem

/-! #### What sending keeps of the MACs -/

theorem State.up_setMac {s : State} {m : Nat} {v : Mac} (h : v.up = (s.mac m).up) (n : Nat) : ((s.setMac m v).mac n).up = (s.mac n).up := by
  by_cases hn : n = m
  · rw [hn, State.mac_setMac, h]
  · rw [State.mac, State.setMac, Map.getOr_set_ne _ _ _ hn, State.mac]

theorem State.up_leaveLpi (s : State) (m n : Nat) : ((s.leaveLpi m).mac n).up = (s.mac n).up := by
  unfold State.leaveLpi
  extract_lets c
  split
  · rfl
  · rw [State.mac_congr ((State.countMac_rel _ _ _ _).only .macs (by decide))]
    exact State.up_setMac (by rfl) n

theorem State.up_enqueue (s : State) (m q : Nat) (f : Frame) (n : Nat) : ((s.enqueue m q f).mac n).up = (s.mac n).up := by
  unfold State.enqueue
  extract_lets r t f' c c'
  have hecn : t.macs = s.macs := (State.ecn_rel s m q f).only .macs (by decide)
  rw [State.up_leaveLpi, State.up_setMac (by rfl), State.mac_congr hecn]

theorem State.up_pumpN (s : State) (f k n : Nat) : ((s.pumpN f k).mac n).up = (s.mac n).up := by
  induction k generalizing s with
  | zero => rfl
  | succ k ih =>
    unfold State.pumpN
    extract_lets fl
    split
    · rfl
    · split
      · rfl
      · split
        · rfl
        · split
          · rfl
          · extract_lets h fr t
            rw [ih, State.up_enqueue]
            rfl

theorem State.up_pumpAll (s : State) (n : Nat) : (s.pumpAll.mac n).up = (s.mac n).up := by
  unfold State.pumpAll
  generalize s.flows.map (fun e => e.1) = l
  induction l generalizing s with
  | nil => rfl
  | cons f l ih => exact (ih _).trans (State.up_pumpN s f 257 n)

/-! #### A MAC that goes down -/

theorem macDown_row (s : State) (m lane : Nat) : ((s.macDown m lane).mac m).up = false ∧
    ((s.macDown m lane).port (m / 4)).retired = (s.port (m / 4)).retired := by
  unfold State.macDown
  extract_lets p flushed down used shut fwd flows
  have hrated := State.reRate_rel flows
  have hevent := State.event_rel flows.reRate 0x0009 2 noCtx [p, lane]
  have hpump := State.pumpAll_rel (flows.reRate.event 0x0009 2 noCtx [p, lane])
  have hmacs : (flows.reRate.event 0x0009 2 noCtx [p, lane]).macs = down.macs := (hevent.only .macs (by decide)).trans (hrated.only .macs (by decide))
  have hports : (flows.reRate.event 0x0009 2 noCtx [p, lane]).pumpAll.ports = shut.ports :=
    (hpump.only .ports (by decide)).trans ((hevent.only .ports (by decide)).trans (hrated.only .ports (by decide)))
  have hflushed : flushed.port p = s.port p := State.port_congr ((State.flushMac_rel s m).only .ports (by decide)) p
  constructor
  · rw [State.up_pumpAll, State.mac_congr hmacs, State.mac_updMac]
  · rw [State.port_congr hports, State.port_updPort]
    exact congrArg Port.retired (a₁ := flushed.port p) hflushed

/-! #### The two commands -/

@[simp] theorem State.port_laneCullet (s : State) (p lane action q : Nat) : (s.laneCullet p lane action).port q = s.port q :=
  State.port_congr ((State.laneCullet_rel s p lane action).only .ports (by decide)) q

@[simp] theorem State.port_progress1_finish (s : State) (k status q : Nat) : ((s.progress1 k).finish k status).port q = s.port q :=
  State.port_congr (((State.finish_rel _ _ _).only .ports (by decide)).trans ((State.progress1_rel s k).only .ports (by decide))) q

@[simp] theorem State.port_answer (s : State) (rq : Req) (f c : Nat) (key : List Byte) (r : Reply) (q : Nat) : (s.answer rq f c key r).port q = s.port q :=
  State.port_congr ((State.answer_rel s rq f c key r).only .ports (by decide)) q

@[simp] theorem State.mac_answer (s : State) (rq : Req) (f c : Nat) (key : List Byte) (r : Reply) (m : Nat) : (s.answer rq f c key r).mac m = s.mac m :=
  State.mac_congr ((State.answer_rel s rq f c key r).only .macs (by decide)) m

/-- The handle of a lane repair that is done within its command (R458). -/
theorem State.handle_laneCullet_ends {s : State} {p lane action k : Nat} {h : Handle} (hk : s.handle k = some h) (hf : h.fin = false) :
    (((s.laneCullet p lane action).progress1 k).finish k 0).handle k =
      some { h with phase := 5, done := h.done + 1, fin := true, status := 0, doneNs := s.clk.tai.ns } := by
  have hrel := State.laneCullet_rel s p lane action
  rw [State.handle_progress1_finish ((State.handle_congr (hrel.handles (by decide)) k).trans hk) hf, hrel.clk (by decide)]

/-- What LANE_RETIRE makes of the state that holds its handle: nothing but the handle's end for a lane that is retired already, the lane's retirement on its MAC, or
the lane noted as retired where no MAC carries it (R303). -/
def State.laneRepair (s : State) (g k : Nat) : State :=
  if bit (s.port (g / 4)).retired (g % 4) then (s.progress1 k).finish k 0
  else
    match s.laneMac g with
    | some _ => s.retireLane g
    | none => (((s.updPort (g / 4) (fun pt => { pt with retired := pt.retired + 2 ^ (g % 4) })).laneCullet (g / 4) (g % 4) 0).progress1 k).finish k 0

theorem State.laneMac_congr {s t : State} (hp : t.ports = s.ports) (hm : t.macs = s.macs) (g : Nat) : t.laneMac g = s.laneMac g := by
  simp only [State.laneMac, State.port, State.mac, hp, hm]

/-- A retirement that ends within its command: the lane is retired already, or no MAC carries it. -/
theorem State.laneRepair_ends {s : State} {g k : Nat} {h : Handle} (hk : s.handle k = some h) (hf : h.fin = false)
    (hend : ∀ m, s.laneMac g = some m → bit (s.port (g / 4)).retired (g % 4) = true) :
    bit ((s.laneRepair g k).port (g / 4)).retired (g % 4) = true ∧
      (s.laneRepair g k).handle k = some { h with phase := 5, done := h.done + 1, fin := true, status := 0, doneNs := s.clk.tai.ns } := by
  unfold State.laneRepair
  split
  · next hret => exact ⟨by rw [State.port_progress1_finish, hret], State.handle_progress1_finish hk hf⟩
  · next hret =>
    have hret : bit (s.port (g / 4)).retired (g % 4) = false := by simpa using hret
    cases hm : s.laneMac g with
    | some m => exact absurd (hend m hm) (by simp [hret])
    | none =>
      refine ⟨?_, State.handle_laneCullet_ends (by exact hk) hf⟩
      rw [State.port_progress1_finish, State.port_laneCullet, State.port_updPort]
      exact bit_add_two_pow hret

theorem State.laneRepair_of_mac {s : State} {g k m : Nat} (hm : s.laneMac g = some m) (hret : bit (s.port (g / 4)).retired (g % 4) = false) :
    s.laneRepair g k = s.retireLane g := by
  rw [State.laneRepair, if_neg (by simp [hret]), hm]

/-- The MAC of a lane that is retired retrains at its lower width (R303, R304). -/
theorem State.retireLane_lower {s : State} {g m : Nat} (hm : s.laneMac g = some m) (hidle : (s.mac m).retrainFrom = none)
    (hlow : lowerLanes (s.mac m).bx1 (s.mac m).lanes (g % 4) ≠ 0) :
    s.retireLane g = s.setMac m { s.mac m with retrainFrom := some s.clk.cycle, retrainLane := g % 4 } := by
  rw [State.retireLane, hm]
  dsimp only
  rw [hidle, if_neg (by simp), if_neg hlow]

/-- The MAC of a lane that is retired goes down without a lower width (R304, R305). -/
theorem State.retireLane_down {s : State} {g m : Nat} (hm : s.laneMac g = some m) (hidle : (s.mac m).retrainFrom = none)
    (hlow : lowerLanes (s.mac m).bx1 (s.mac m).lanes (g % 4) = 0) :
    ((s.retireLane g).mac m).up = false ∧ bit ((s.retireLane g).port (g / 4)).retired (g % 4) = true := by
  have hport := State.port_of_laneMac hm
  let noted : State := (s.updPort (m / 4) (fun pt => { pt with retired := pt.retired ||| 2 ^ (g % 4) })).laneCullet (m / 4) (g % 4) 0
  have hrow : s.retireLane g = (noted.macDown m (g % 4)).laneHandle g 0 := by
    rw [State.retireLane, hm]
    dsimp only
    rw [hidle, if_neg (by simp), if_pos hlow]
  have hhandle := State.laneHandle_rel (noted.macDown m (g % 4)) g 0
  obtain ⟨hup, hret⟩ := macDown_row noted m (g % 4)
  have hnoted : (noted.port (m / 4)).retired = (s.port (m / 4)).retired ||| 2 ^ (g % 4) := by
    rw [State.port_laneCullet, State.port_updPort]
  rw [hrow, State.mac_congr (hhandle.only .macs (by decide)), State.port_congr (hhandle.only .ports (by decide)), ← hport, hret, hnoted]
  exact ⟨hup, bit_or_two_pow _ _⟩

/-- What LANE_ADMIT makes of the state that holds its handle: the lane is no longer retired and counts as new (R303). -/
def State.laneReturns (s : State) (lane k : Nat) : State :=
  (((((s.updPort (lane / 4) (fun pt => { pt with retired := pt.retired - 2 ^ (lane % 4) })).updLane lane (fun _ => {})).laneCullet (lane / 4) (lane % 4)
    1).progress1 k).finish k 0)

theorem State.retired_laneReturns (s : State) (lane k : Nat) :
    ((s.laneReturns lane k).port (lane / 4)).retired = (s.port (lane / 4)).retired - 2 ^ (lane % 4) := by
  rw [State.laneReturns, State.port_progress1_finish, State.port_laneCullet]
  exact congrArg Port.retired (State.port_updPort s (lane / 4) (fun pt => { pt with retired := pt.retired - 2 ^ (lane % 4) }))

theorem State.handle_laneReturns {s : State} {lane k : Nat} {h : Handle} (hk : s.handle k = some h) (hf : h.fin = false) :
    (s.laneReturns lane k).handle k = some { h with phase := 5, done := h.done + 1, fin := true, status := 0, doneNs := s.clk.tai.ns } :=
  State.handle_laneCullet_ends (by exact hk) hf

/-- The handle of a lane repair as it is accepted. -/
def laneRepairHandle (g arg2 : Nat) : Handle := { mb := 0, op := 0x0E, phase := 1, total := 1, arg := g, arg2 := arg2 }

section
variable {s : State} {rq : Req} {g : Nat} (hg : g = rq.fld 0 1) (hmb : rq.mb = 0) (hlen : rq.body.length = 8) (hlane : g < 32) (hresv : rq.fld 1 7 = 0)
  (hroom : s.handleRoom 0 = true)
include hg hmb hlen hlane hresv hroom

theorem exec_laneRetire (hs : s.Heard rq 0x0C 3) (hidle : ∀ m, s.laneMac g = some m → (s.mac m).retrainFrom = none) :
    ∃ (u : State) (key : List Byte), Rel [.mailboxes, .handles, .pcie] s u ∧ u.handle (s.nextHandle rq.mb 0x0E) = some (laneRepairHandle g 0) ∧
      exec (.laneRetire rq) s = .next ((u.laneRepair g (s.nextHandle rq.mb 0x0E)).answer rq 0x0C 3 key { handle := s.nextHandle rq.mb 0x0E }) := by
  subst hg
  have hact : ∃ act, exec (.laneRetire rq) s = .next (s.mailCmd rq 0x0C 3 act) ∧ ∀ M, act { s with mailboxes := M } =
      State.withHandle { s with mailboxes := M } (laneRepairHandle (rq.fld 0 1) 0) (fun u k => (u.laneRepair (rq.fld 0 1) k).given k) := by
    have hrow : exec (.laneRetire rq) s = execLaneRetire rq s := rfl
    rw [hrow]
    refine ⟨_, rfl, fun M => ?_⟩
    rw [State.adm_bodyOf hmb hlen (by simp [hlane, hresv])]
    extract_lets lane busy
    have hbusy : ¬ busy = true := by
      unfold busy
      split
      · next m hm =>
        have hret : (State.mac { s with mailboxes := M } m).retrainFrom = none := hidle m hm
        simp [hret]
      · exact Bool.false_ne_true
    rw [if_neg hbusy]
    refine congrArg (State.withHandle _ _) (funext₂ fun u k => ?_)
    unfold State.laneRepair
    split
    · rfl
    · cases u.laneMac lane <;> rfl
  obtain ⟨act, hrow, hact⟩ := hact
  obtain ⟨u, key, hrel, hk, heq⟩ := State.mailCmd_gives (v := fun u k => u.laneRepair (rq.fld 0 1) k) hs hmb (by exact ⟨rfl, rfl⟩) hroom hact
  exact ⟨u, key, hrel, hk, hrow.trans (congrArg Host.Outcome.next heq)⟩

/-- The clauses of LANE_RETIRE. -/
theorem laneRetire_row (hs : s.Heard rq 0x0C 3) :
    ((∀ m, s.laneMac g = some m → (s.mac m).retrainFrom = none ∧ bit (s.port (g / 4)).retired (g % 4) = true) → ∃ t : State,
      exec (.laneRetire rq) s = .next t ∧ bit (t.port (g / 4)).retired (g % 4) = true ∧
      Handed s t rq 0x0E [] { laneRepairHandle g 0 with phase := 5, done := 1, fin := true, doneNs := s.clk.tai.ns }) ∧
    (∀ m, s.laneMac g = some m → (s.mac m).retrainFrom = none → bit (s.port (g / 4)).retired (g % 4) = false →
      lowerLanes (s.mac m).bx1 (s.mac m).lanes (g % 4) ≠ 0 → ∃ t : State, exec (.laneRetire rq) s = .next t ∧
        Handed s t rq 0x0E [] (laneRepairHandle g 0) ∧ t.mac m = { s.mac m with retrainFrom := some s.clk.cycle, retrainLane := g % 4 }) ∧
    (∀ m, s.laneMac g = some m → (s.mac m).retrainFrom = none → bit (s.port (g / 4)).retired (g % 4) = false →
      lowerLanes (s.mac m).bx1 (s.mac m).lanes (g % 4) = 0 → ∃ t : State, exec (.laneRetire rq) s = .next t ∧ (t.mac m).up = false ∧
        bit (t.port (g / 4)).retired (g % 4) = true) := by
  have hrow := exec_laneRetire hg hmb hlen hlane hresv hroom hs
  have hsame : ∀ u : State, Rel [.mailboxes, .handles, .pcie] s u → (∀ m, u.mac m = s.mac m) ∧ (∀ p, u.port p = s.port p) ∧ u.laneMac g = s.laneMac g := by
    intro u hrel
    have hmacs : u.macs = s.macs := hrel.only .macs (by decide)
    have hports : u.ports = s.ports := hrel.only .ports (by decide)
    exact ⟨State.mac_congr hmacs, State.port_congr hports, State.laneMac_congr hports hmacs g⟩
  refine ⟨fun hend => ?_, fun m hm hidle hret hlow => ?_, fun m hm hidle hret hlow => ?_⟩
  · obtain ⟨u, key, hrel, hk, hexec⟩ := hrow fun m hm => (hend m hm).1
    obtain ⟨-, hport, hlmac⟩ := hsame u hrel
    obtain ⟨hbit, hdone⟩ := State.laneRepair_ends (g := g) hk rfl fun m hm => by
      rw [hport]
      exact (hend m (hlmac ▸ hm)).2
    rw [hrel.clk (by decide)] at hdone
    exact ⟨_, hexec, by rw [State.port_answer, hbit], handed_answer 0x0C 3 key hdone⟩
  · obtain ⟨u, key, hrel, hk, hexec⟩ := hrow fun m' hm' => by cases hm.symm.trans hm'; exact hidle
    obtain ⟨hmac, hport, hlmac⟩ := hsame u hrel
    have hlower : u.laneRepair g (s.nextHandle rq.mb 0x0E) = u.setMac m { s.mac m with retrainFrom := some s.clk.cycle, retrainLane := g % 4 } := by
      rw [State.laneRepair_of_mac (hlmac.trans hm) (by rw [hport, hret]),
        State.retireLane_lower (hlmac.trans hm) (by rw [hmac, hidle]) (by rw [hmac]; exact hlow), hmac, hrel.clk (by decide)]
    rw [hlower] at hexec
    exact ⟨_, hexec, handed_answer 0x0C 3 key hk, by rw [State.mac_answer, State.mac_setMac]⟩
  · obtain ⟨u, key, hrel, hk, hexec⟩ := hrow fun m' hm' => by cases hm.symm.trans hm'; exact hidle
    obtain ⟨hmac, hport, hlmac⟩ := hsame u hrel
    obtain ⟨hup, hbit⟩ := State.retireLane_down (hlmac.trans hm) (by rw [hmac, hidle]) (by rw [hmac, hlow])
    rw [State.laneRepair_of_mac (hlmac.trans hm) (by rw [hport, hret])] at hexec
    exact ⟨_, hexec, by rw [State.mac_answer, hup], by rw [State.port_answer, hbit]⟩

theorem exec_laneAdmit (hs : s.Heard rq 0x0C 4) (hret : bit (s.port (g / 4)).retired (g % 4) = true) : ∃ t : State, exec (.laneAdmit rq) s = .next t ∧
    bit (t.port (g / 4)).retired (g % 4) = false ∧
    Handed s t rq 0x0E [] { mb := 0, op := 0x0E, phase := 5, done := 1, total := 1, arg := g, arg2 := 1, fin := true, doneNs := s.clk.tai.ns } := by
  subst hg
  have hact : ∃ act, exec (.laneAdmit rq) s = .next (s.mailCmd rq 0x0C 4 act) ∧ ∀ M, act { s with mailboxes := M } =
      State.withHandle { s with mailboxes := M } (laneRepairHandle (rq.fld 0 1) 1) (fun u k => (u.laneReturns (rq.fld 0 1) k).given k) := by
    have hrow : exec (.laneAdmit rq) s = execLaneAdmit rq s := rfl
    rw [hrow]
    refine ⟨_, rfl, fun M => ?_⟩
    rw [State.adm_bodyOf hmb hlen (by simp [hlane, hresv])]
    extract_lets lane
    have hretM : bit (State.port { s with mailboxes := M } (lane / 4)).retired (lane % 4) = true := hret
    rw [if_neg (by simp [hretM])]
    rfl
  obtain ⟨act, hrow, hact⟩ := hact
  obtain ⟨u, key, hrel, hk, heq⟩ := State.mailCmd_gives (v := fun u k => u.laneReturns (rq.fld 0 1) k) hs hmb (by exact ⟨rfl, rfl⟩) hroom hact
  refine ⟨_, hrow.trans (congrArg Host.Outcome.next heq), ?_, ?_⟩
  · have hport : u.port (rq.fld 0 1 / 4) = s.port (rq.fld 0 1 / 4) := State.port_congr (hrel.only .ports (by decide)) _
    rw [State.port_answer, State.retired_laneReturns, hport]
    exact bit_sub_two_pow hret
  · have hend := State.handle_laneReturns (lane := rq.fld 0 1) hk rfl
    rw [hrel.clk (by decide)] at hend
    exact handed_answer 0x0C 4 key hend

end

/-- Settles O27, row by row: what the command or event makes of the state that holds its handle, and how that handle then stands. -/
theorem firmwareRowsComplete : Obligations.FirmwareRowsComplete := by
  unfold Obligations.FirmwareRowsComplete
  refine ⟨fun rq s hs hn hb => exec_fwIdentity hs hn hb, fun rq s hs hmb hlen hroom => exec_fwStage hs hmb hlen hroom,
    fun rq s hs hmb hb hst hroom => exec_fwActivate hs hmb hb hst hroom,
    fun k h s hl hk hsw => ⟨fun hq => exec_fwSwitchStart hl hk hsw hq, exec_activateTimeout hl hk hsw⟩,
    fun k h o s hsw hl hk ho => ⟨exec_fwSwitchResume hsw hl hk ho, exec_fwSwitchWatchdog hsw hl hk ho⟩,
    fun rq s hs hmb hlen hcores hresv hroom => exec_coreTables hs hmb hlen hcores hresv hroom,
    fun c f k h s hn hl hdue hb => exec_coreTablesTake hn hl hdue hb,
    fun rq s hs hmb hlen hcore hresv hsp hroom => exec_coreReplace hs hmb hlen hcore hresv hsp hroom,
    fun c p l s hb hsp => coreMigration_row hb hsp,
    fun rq g h s hg hs hmb hlen hlane hresv hroom hh => ?laneRetire,
    fun rq g s hg hs hmb hlen hlane hresv hroom hret => exec_laneAdmit hg hmb hlen hlane hresv hroom hs hret,
    fun rq n s hn hs hmb hlen hslices hlayers hresv hroom h0 => ?dramRecal,
    fun layer slice bank k h s hfind => dramBankRetrain_row hfind,
    fun k h s hk hf hp hg hserved => moduleDmaComplete_row ⟨hk, hf, hp, hg, hserved⟩⟩
  case laneRetire =>
    subst hh
    exact laneRetire_row hg hmb hlen hlane hresv hroom hs
  case dramRecal =>
    subst hn
    exact exec_dramRecal hs hmb hlen hslices hlayers hresv hroom h0

end Sys2Proof.Machine

/-! SUPPORT. A48 (O40, O43): what an A48 code reads back as, rounding to the nearest integer over the rationals, the value that RNE48 rounds to, and the products of
finite codes, which it leaves as they are. -/

namespace Sys2Proof

/-! ### A48 codes and their values (R114, R115) -/

theorem A48.toNat_mk {ex fr : Nat} (s : Bool) (hex : ex < 2048) (hfr : fr < 2 ^ 36) :
    (A48.mk s ex fr).toNat = (if s then 2 ^ 47 else 0) + ex * 2 ^ 36 + fr := by
  rw [A48.mk, BitVec.toNat_ofNat, Nat.mod_eq_of_lt]
  split <;> omega

/-- The fields that R115 reads from a code are those it was made of. -/
theorem A48.fields_mk {ex fr : Nat} (s : Bool) (hex : ex < 2048) (hfr : fr < 2 ^ 36) :
    ((A48.mk s ex fr).toNat / 2 ^ 47 % 2 == 1) = s ∧ (A48.mk s ex fr).toNat / 2 ^ 36 % 2048 = ex ∧ (A48.mk s ex fr).toNat % 2 ^ 36 = fr := by
  rw [A48.toNat_mk s hex hfr, Bool.eq_iff_iff, beq_iff_eq]
  cases s <;> simp <;> omega

theorem A48.val_mk {ex fr : Nat} (s : Bool) (hlo : 0 < ex) (hhi : ex < 2047) (hfr : fr < 2 ^ 36) :
    (A48.mk s ex fr).val = .fin s (2 ^ 36 + fr) ((ex : Int) - 1059) := by
  obtain ⟨hs, he, hf⟩ := A48.fields_mk s (show ex < 2048 by omega) hfr
  simp only [A48.val, hs, he, hf]
  rw [if_neg (by omega), if_neg (by omega)]

theorem A48.val_mk_zero (s : Bool) : (A48.mk s 0 0).val = .fin s 0 0 := by cases s <;> rfl

theorem A48.val_mk_inf (s : Bool) : (A48.mk s 2047 0).val = .inf s := by cases s <;> rfl

/-- The last step of RNE48 (R116): the code of n × 2^k for a significand n of 37 bits, an Inf with the indication above the range of exponents, a zero below it. -/
def A48.pack (s : Bool) (n : Nat) (k : Int) : A48 × Bool :=
  if 987 < k then (A48.mk s 2047 0, true)
  else if k < -1058 then (A48.mk s 0 0, false)
  else (A48.mk s (k + 1059).toNat (n - 2 ^ 36), false)

theorem A48.pack_of_over {k : Int} (s : Bool) (n : Nat) (h : 987 < k) : A48.pack s n k = (A48.mk s 2047 0, true) := if_pos h

theorem A48.pack_of_under {k : Int} (s : Bool) (n : Nat) (h : k < -1058) : A48.pack s n k = (A48.mk s 0 0, false) := by
  rw [A48.pack, if_neg (by omega), if_pos h]

theorem A48.pack_snd {k : Int} (s : Bool) (n : Nat) (hhi : k ≤ 987) : (A48.pack s n k).2 = false := by
  rw [A48.pack, if_neg (by omega)]
  split <;> rfl

theorem A48.val_pack {n : Nat} {k : Int} (s : Bool) (hlo : -1058 ≤ k) (hhi : k ≤ 987) (hn : 2 ^ 36 ≤ n) (hn' : n < 2 ^ 37) :
    (A48.pack s n k).1.val = .fin s n k := by
  rw [A48.pack, if_neg (by omega), if_neg (by omega)]
  dsimp only
  rw [A48.val_mk s (by omega) (by omega) (by omega), Nat.add_sub_cancel' hn, Int.toNat_of_nonneg (by omega), add_sub_cancel_right]

/-- A code with a nonzero finite significand was packed within the range of exponents. -/
theorem A48.eq_of_val_pack {s t : Bool} {n p : Nat} {k i : Int} (hn : 2 ^ 36 ≤ n) (hn' : n < 2 ^ 37) (hp : p ≠ 0)
    (h : (A48.pack s n k).1.val = .fin t p i) : t = s ∧ p = n ∧ i = k := by
  by_cases hover : 987 < k
  · rw [A48.pack_of_over s n hover, A48.val_mk_inf] at h
    cases h
  by_cases hunder : k < -1058
  · rw [A48.pack_of_under s n hunder, A48.val_mk_zero] at h
    cases h
    exact absurd rfl hp
  rw [A48.val_pack s (by omega) (by omega) hn hn'] at h
  cases h
  exact ⟨rfl, rfl, rfl⟩

/-- RNE48 by the rounded significand, without a carry out of its 37 bits. -/
theorem rne48_eq_pack {m : Nat} (s : Bool) (e : Int) (hm : m ≠ 0) (h : rneShift m (36 - m.log2) ≠ 2 ^ 37) :
    rne48 (.fin s m e) = A48.pack s (rneShift m (36 - m.log2)) (expOf m e - 36) := by
  have hsh : e - (expOf m e - 36) = 36 - m.log2 := by rw [expOf]; omega
  simp only [rne48, if_neg hm, hsh, if_neg h]
  rw [A48.pack, show expOf m e - 36 + 1059 = expOf m e + 1023 by omega]
  exact if_congr (by omega) rfl (if_congr (by omega) rfl rfl)

/-- A significand that rounds up to 2^37 carries into the exponent. -/
theorem rne48_eq_pack_carry {m : Nat} (s : Bool) (e : Int) (hm : m ≠ 0) (h : rneShift m (36 - m.log2) = 2 ^ 37) :
    rne48 (.fin s m e) = A48.pack s (2 ^ 36) (expOf m e - 36 + 1) := by
  have hsh : e - (expOf m e - 36) = 36 - m.log2 := by rw [expOf]; omega
  simp only [rne48, if_neg hm, hsh, if_pos h]
  rw [A48.pack, show expOf m e - 36 + 1 + 1059 = expOf m e + 1 + 1023 by omega]
  exact if_congr (by omega) rfl (if_congr (by omega) rfl rfl)

/-! ### Rounding to the nearest, ties to even -/

/-- n is an integer nearest to x, the even one on a tie. -/
structure IsNearestEven (x : Rat) (n : Nat) : Prop where
  le_half : 2 * (x - n) ≤ 1
  neg_half_le : -1 ≤ 2 * (x - n)
  even_of_tie : 2 * (x - n) = 1 ∨ 2 * (x - n) = -1 → n % 2 = 0

theorem IsNearestEven.natCast (n : Nat) : IsNearestEven n n :=
  ⟨by norm_num, by norm_num, by norm_num⟩

/-- Rounding by quotient and remainder. -/
theorem IsNearestEven.div (m : Nat) {d : Nat} (hd : 0 < d) :
    IsNearestEven ((m : Rat) / d) (if d < 2 * (m % d) ∨ (2 * (m % d) = d ∧ m / d % 2 = 1) then m / d + 1 else m / d) := by
  have hd' : (0 : Rat) < d := Nat.cast_pos.mpr hd
  have hx : (m : Rat) / d = (m / d : Nat) + ((m % d : Nat) : Rat) / d := by
    rw [eq_comm, ← eq_sub_iff_add_eq', div_eq_iff hd'.ne', sub_mul, div_mul_cancel₀ _ hd'.ne', eq_sub_iff_add_eq']
    exact_mod_cast Nat.div_add_mod' m d
  have hpos : (0 : Rat) ≤ ((m % d : Nat) : Rat) / d := by positivity
  have hlt : ((m % d : Nat) : Rat) / d < 1 := (div_lt_one hd').mpr (Nat.cast_lt.mpr (Nat.mod_lt m hd))
  have habove : d < 2 * (m % d) ↔ 1 < 2 * (((m % d : Nat) : Rat) / d) := by
    rw [← mul_div_assoc, one_lt_div hd']
    exact_mod_cast Iff.rfl
  have htie : 2 * (m % d) = d ↔ 2 * (((m % d : Nat) : Rat) / d) = 1 := by
    rw [← mul_div_assoc, div_eq_one_iff_eq hd'.ne']
    exact_mod_cast Iff.rfl
  simp only [hx, habove, htie]
  generalize ((m % d : Nat) : Rat) / d = t at *
  split
  next hup =>
    have hhalf : 1 ≤ 2 * t := hup.elim le_of_lt fun h => h.1.ge
    refine ⟨by push_cast; linarith, by push_cast; linarith, fun h => ?_⟩
    have ht : 2 * t = 1 := by push_cast at h; rcases h with h | h <;> linarith
    have hodd := (hup.resolve_left ht.not_gt).2
    omega
  next hdown =>
    obtain ⟨hle, heven⟩ := not_or.mp hdown
    refine ⟨by linarith [not_lt.mp hle], by linarith, fun h => ?_⟩
    have ht : 2 * t = 1 := by rcases h with h | h <;> linarith
    have hodd := not_and.mp heven ht
    omega

theorem isNearestEven_rneShift (m : Nat) (sh : Int) : IsNearestEven ((m : Rat) * (2 : Rat) ^ sh) (rneShift m sh) := by
  unfold rneShift
  split
  next h =>
    have hx : (m : Rat) * (2 : Rat) ^ sh = (m * 2 ^ sh.toNat : Nat) := by
      rw [Nat.cast_mul, Nat.cast_pow, ← zpow_natCast, Int.toNat_of_nonneg h, Nat.cast_ofNat]
    rw [hx]
    exact .natCast _
  next h =>
    have hx : (m : Rat) * (2 : Rat) ^ sh = (m : Rat) / (2 ^ (-sh).toNat : Nat) := by
      rw [Nat.cast_pow, ← zpow_natCast, Int.toNat_of_nonneg (by omega), Nat.cast_ofNat, zpow_neg, div_inv_eq_mul]
    rw [hx]
    exact .div m (Nat.two_pow_pos _)

theorem IsNearestEven.le_of_le {x : Rat} {a n : Nat} (h : IsNearestEven x n) (hx : (a : Rat) ≤ x) : a ≤ n := by
  by_contra hlt
  have hn : (n : Rat) + 1 ≤ a := by exact_mod_cast Nat.lt_of_not_le hlt
  linarith [h.le_half]

theorem IsNearestEven.le_of_ge {x : Rat} {a n : Nat} (h : IsNearestEven x n) (hx : x ≤ a) : n ≤ a := by
  by_contra hlt
  have hn : (a : Rat) + 1 ≤ n := by exact_mod_cast Nat.lt_of_not_le hlt
  linarith [h.neg_half_le]

/-! ### The value that RNE48 rounds to -/

/-- n × 2^k is the value that RNE48 rounds v to when no exponent is out of range: n has 37 bits, n × 2^k is within half a unit of v and even on a tie; v lies at most a
quarter of a unit below 2^36 units, since the units of the next binade down are half as large. -/
structure IsRounded48 (v : Rat) (n : Nat) (k : Int) : Prop where
  le_sig : 2 ^ 36 ≤ n
  sig_lt : n < 2 ^ 37
  le_half : 2 * (v - n * (2 : Rat) ^ k) ≤ (2 : Rat) ^ k
  neg_half_le : -(2 : Rat) ^ k ≤ 2 * (v - n * (2 : Rat) ^ k)
  even_of_tie : 2 * (v - n * (2 : Rat) ^ k) = (2 : Rat) ^ k ∨ 2 * (v - n * (2 : Rat) ^ k) = -(2 : Rat) ^ k → n % 2 = 0
  ge_floor : (2 ^ 36 - 1 / 4) * (2 : Rat) ^ k ≤ v

/-- R116: q = |x| / 2^(E − 36) lies from 2^36 to below 2^37. -/
theorem scaled_mem_binade {m : Nat} (hm : m ≠ 0) : (2 : Rat) ^ 36 ≤ m * (2 : Rat) ^ (36 - (m.log2 : Int)) ∧ m * (2 : Rat) ^ (36 - (m.log2 : Int)) < (2 : Rat) ^ 37 := by
  obtain ⟨hlo, hhi⟩ := (Nat.log2_eq_iff hm).mp rfl
  have hpos : (0 : Rat) < (2 : Rat) ^ (m.log2) := by positivity
  rw [zpow_sub₀ two_ne_zero, zpow_natCast, ← mul_div_assoc, le_div_iff₀ hpos, div_lt_iff₀ hpos]
  have hlo' : (2 : Rat) ^ m.log2 ≤ m := by exact_mod_cast hlo
  have hhi' : (m : Rat) < 2 ^ m.log2 * 2 := by exact_mod_cast hhi
  norm_num
  constructor <;> linarith

theorem IsNearestEven.isRounded48 {q : Rat} {n : Nat} (h : IsNearestEven q n) (k : Int) (hlo : (2 : Rat) ^ 36 ≤ q) (hhi : q < (2 : Rat) ^ 37) (hn : n ≠ 2 ^ 37) :
    IsRounded48 (q * (2 : Rat) ^ k) n k := by
  have hpos : (0 : Rat) < (2 : Rat) ^ k := by positivity
  have hd : 2 * (q * (2 : Rat) ^ k - n * (2 : Rat) ^ k) = 2 * (q - n) * (2 : Rat) ^ k := by ring
  have hle : n ≤ 2 ^ 37 := h.le_of_ge (by exact_mod_cast hhi.le)
  refine ⟨h.le_of_le (by exact_mod_cast hlo), by omega, ?_, ?_, ?_, ?_⟩
  · rw [hd]
    exact mul_le_of_le_one_left hpos.le h.le_half
  · rw [hd, ← neg_one_mul]
    exact mul_le_mul_of_nonneg_right h.neg_half_le hpos.le
  · rw [hd, mul_eq_right₀ hpos.ne', ← neg_one_mul, mul_left_inj' hpos.ne']
    exact h.even_of_tie
  · exact mul_le_mul_of_nonneg_right (by linarith) hpos.le

/-- A significand that rounds up to 2^37 is 2^36 of units twice as large, and no tie there. -/
theorem IsNearestEven.isRounded48_carry {q : Rat} (h : IsNearestEven q (2 ^ 37)) (k : Int) (hhi : q < (2 : Rat) ^ 37) :
    IsRounded48 (q * (2 : Rat) ^ k) (2 ^ 36) (k + 1) := by
  have hpos : (0 : Rat) < (2 : Rat) ^ k := by positivity
  have hq : 2 ^ 37 - 1 / 2 ≤ q := by
    have := h.neg_half_le
    push_cast at this
    linarith
  have hlow := mul_le_mul_of_nonneg_right hq hpos.le
  have hhigh := mul_lt_mul_of_pos_right hhi hpos
  have hunit : (2 : Rat) ^ (k + 1) = 2 * (2 : Rat) ^ k := by rw [zpow_add_one₀ two_ne_zero, mul_comm]
  refine ⟨le_rfl, by decide, ?_, ?_, fun _ => by decide, ?_⟩ <;> rw [hunit] <;> push_cast <;> linarith

/-- RNE48 packs the value it rounds to. -/
theorem exists_rne48_eq_pack {m : Nat} (s : Bool) (e : Int) (hm : m ≠ 0) :
    ∃ n k, IsRounded48 ((m : Rat) * (2 : Rat) ^ e) n k ∧ rne48 (.fin s m e) = A48.pack s n k := by
  obtain ⟨hlo, hhi⟩ := scaled_mem_binade hm
  have hnear := isNearestEven_rneShift m (36 - m.log2)
  have hv : (m : Rat) * (2 : Rat) ^ e = m * (2 : Rat) ^ (36 - (m.log2 : Int)) * (2 : Rat) ^ (expOf m e - 36) := by
    rw [mul_assoc, ← zpow_add₀ two_ne_zero, expOf]
    congr 2
    omega
  rw [hv]
  by_cases hcarry : rneShift m (36 - m.log2) = 2 ^ 37
  · rw [hcarry] at hnear
    exact ⟨_, _, hnear.isRounded48_carry _ hhi, rne48_eq_pack_carry s e hm hcarry⟩
  · exact ⟨_, _, hnear.isRounded48 _ hlo hhi hcarry, rne48_eq_pack s e hm hcarry⟩

theorem IsRounded48.lt_two_zpow {v : Rat} {n : Nat} {k : Int} (h : IsRounded48 v n k) : v < (2 : Rat) ^ (k + 37) := by
  have hpos : (0 : Rat) < (2 : Rat) ^ k := by positivity
  have hn : (n : Rat) + 1 ≤ 2 ^ 37 := by exact_mod_cast h.sig_lt
  have hmul := mul_le_mul_of_nonneg_right hn hpos.le
  rw [zpow_add₀ two_ne_zero, mul_comm]
  norm_num at hmul ⊢
  linarith [h.le_half]

/-- The unit of a value of 2^36 × 2^j or more is 2^j or more. -/
theorem IsRounded48.le_unit {v : Rat} {n : Nat} {j k : Int} (h : IsRounded48 v n k) (hv : (2 : Rat) ^ (j + 36) ≤ v) : j ≤ k := by
  have hexp : j + 36 < k + 37 := (zpow_lt_zpow_iff_right₀ one_lt_two).mp (hv.trans_lt h.lt_two_zpow)
  omega

/-- The unit of a value that lies further below 2^36 × 2^j than half the unit there is less than 2^j. -/
theorem IsRounded48.unit_lt {v : Rat} {n : Nat} {j k : Int} (h : IsRounded48 v n k) (hv : v < (2 : Rat) ^ (j + 36) - (2 : Rat) ^ (j - 2)) : k < j := by
  by_contra hle
  have hunit : (2 : Rat) ^ j ≤ (2 : Rat) ^ k := zpow_le_zpow_right₀ one_le_two (not_lt.mp hle)
  have hfloor : (2 ^ 36 - 1 / 4) * (2 : Rat) ^ j ≤ v := (mul_le_mul_of_nonneg_left hunit (by norm_num)).trans h.ge_floor
  rw [zpow_add₀ two_ne_zero, zpow_sub₀ two_ne_zero] at hv
  norm_num at hv hfloor
  linarith

/-! ### Products (R112) -/

theorem rneShift_of_nonneg {sh : Int} (m : Nat) (h : 0 ≤ sh) : rneShift m sh = m * 2 ^ sh.toNat := if_pos h

/-- A significand of 32 bits is an A48 value exactly. -/
theorem rne48_exact {n : Nat} {i : Int} (s : Bool) (hn : 2 ^ 31 ≤ n) (hn' : n < 2 ^ 32) (hlo : -1022 ≤ i) (hhi : i ≤ 1023) :
    (rne48 (.fin s n (i - 31))).1.val = .fin s (n * 2 ^ 5) (i - 36) ∧ (rne48 (.fin s n (i - 31))).2 = false := by
  have hne : n ≠ 0 := by omega
  have hlog : n.log2 = 31 := (Nat.log2_eq_iff hne).mpr ⟨hn, hn'⟩
  have hshift : rneShift n (36 - n.log2) = n * 2 ^ 5 := by
    rw [hlog]
    exact rneShift_of_nonneg n (by decide)
  have hexp : expOf n (i - 31) - 36 = i - 36 := by rw [expOf, hlog]; omega
  rw [rne48_eq_pack s _ hne (by omega), hshift, hexp]
  exact ⟨A48.val_pack s (by omega) (by omega) (by omega) (by omega), A48.pack_snd s _ (by omega)⟩

/-- The log of a code, modulo 2^w, is its bits below the sign. -/
theorem toInt_truncate_emod (w : Nat) (c : BitVec (w + 1)) : (c.truncate w).toInt % (2 ^ w : Nat) = (c.toNat % 2 ^ w : Nat) := by
  rw [BitVec.toInt_eq_toNat_bmod, BitVec.truncate, BitVec.toNat_setWidth, Int.bmod_emod, Int.emod_eq_of_lt (by positivity)]
  exact_mod_cast Nat.mod_lt _ (Nat.two_pow_pos w)

/-- R31: the log of a finite nonzero code. -/
theorem Kb16.log_bounds {c : Kb16} (hz : c.isZero = false) (hn : c.isNan = false) (hi : c.isInf = false) : -16383 ≤ c.log ∧ c.log ≤ 16382 := by
  have hmod : c.log % 32768 = (c.toNat % 32768 : Nat) := toInt_truncate_emod 15 c
  have hlo : -16384 ≤ c.log := BitVec.le_toInt (c.truncate 15)
  have hhi : c.log < 16384 := BitVec.toInt_lt (x := c.truncate 15)
  simp only [← Bool.not_eq_true, Kb16.isZero_iff, Kb16.isNan_iff, Kb16.isInf_iff, ← BitVec.toNat_inj, BitVec.toNat_ofNat] at hz hn hi
  have hc := c.isLt
  omega

/-- R32: the log of a finite nonzero KB8 code. -/
theorem Kb8.log_bounds {c : Kb8} (hz : c.isZero = false) (hn : c.isNan = false) : -63 ≤ c.log ∧ c.log ≤ 63 := by
  have hmod : c.log % 128 = (c.toNat % 128 : Nat) := toInt_truncate_emod 7 c
  have hlo : -64 ≤ c.log := BitVec.le_toInt (c.truncate 7)
  have hhi : c.log < 64 := BitVec.toInt_lt (x := c.truncate 7)
  simp only [← Bool.not_eq_true, Kb8.isZero_iff, Kb8.isNan_iff, ← BitVec.toNat_inj, BitVec.toNat_ofNat] at hz hn
  have hc := c.isLt
  omega

theorem kb16Product_of_finite {a b : Kb16} (haz : a.isZero = false) (han : a.isNan = false) (hai : a.isInf = false) (hbz : b.isZero = false) (hbn : b.isNan = false)
    (hbi : b.isInf = false) : (kb16Product a b).1 = .fin (a.sign != b.sign) (t16 ((a.log + b.log) % 256).toNat) ((a.log + b.log) / 256 - 31) := by
  simp [kb16Product, haz, han, hai, hbz, hbn, hbi]

theorem kb8Product_of_finite {a b : Kb8} (p q : Int) (haz : a.isZero = false) (han : a.isNan = false) (hbz : b.isZero = false) (hbn : b.isNan = false) :
    (kb8Product a b p q).1 = .fin (a.sign != b.sign) (t16 (32 * ((a.log + b.log) % 8).toNat)) ((a.log + b.log) / 8 + p + q - 31) := by
  simp [kb8Product, haz, han, hbz, hbn]

end Sys2Proof

namespace Sys2Proof.Machine

/-- Settles O43: the packed value is the rounded one (exists_rne48_eq_pack), and its unit tells which range of exponents the value lies in. -/
theorem rne48IsNearest : Obligations.Rne48IsNearest := by
  unfold Obligations.Rne48IsNearest
  intro sg m e v d hm hv
  obtain ⟨n, k, hround, hrne⟩ := exists_rne48_eq_pack sg e hm
  rw [← hv] at hround
  rw [hrne]
  refine ⟨fun s p i hval hp hd => ?_, fun hover => ?_, fun hunder => ?_, fun hlo hhi => ?_⟩
  · obtain ⟨rfl, rfl, rfl⟩ := A48.eq_of_val_pack hround.le_sig hround.sig_lt hp hval
    subst hd
    exact ⟨rfl, hround.le_sig, hround.sig_lt, hround.le_half, hround.neg_half_le, hround.even_of_tie⟩
  · have hk : 988 ≤ k := hround.le_unit hover
    exact A48.pack_of_over sg n (by omega)
  · have hk : k < -1058 := hround.unit_lt hunder
    exact A48.pack_of_under sg n hk
  · have hk : -1058 ≤ k := hround.le_unit hlo
    have hk' : k < 988 := hround.unit_lt hhi
    refine ⟨A48.pack_snd sg n (by omega), ?_⟩
    rw [A48.val_pack sg hk (by omega) hround.le_sig hround.sig_lt]
    have hn := hround.le_sig
    exact bne_iff_ne.mpr (by omega)

/-- Settles O40: an entry of T16 has 32 bits, and the bounds of the logs are those of the exponent. -/
theorem productsAreExact : Obligations.ProductsAreExact := by
  unfold Obligations.ProductsAreExact
  refine ⟨fun a b haz han hai hbz hbn hbi => ?_, fun a b p q haz han hbz hbn hp hp' hq hq' => ?_⟩
  · have ha := Kb16.log_bounds haz han hai
    have hb := Kb16.log_bounds hbz hbn hbi
    have hf : ((a.log + b.log) % 256).toNat < 256 := by omega
    rw [kb16Product_of_finite haz han hai hbz hbn hbi]
    exact ⟨_, _, rfl, le_t16 hf, t16_lt hf, rfl, rfl, by omega, by omega, rne48_exact _ (le_t16 hf) (t16_lt hf) (by omega) (by omega)⟩
  · have ha := Kb8.log_bounds haz han
    have hb := Kb8.log_bounds hbz hbn
    have hf : 32 * ((a.log + b.log) % 8).toNat < 256 := by omega
    rw [kb8Product_of_finite p q haz han hbz hbn]
    exact ⟨_, _, rfl, le_t16 hf, t16_lt hf, rfl, rfl, by omega, by omega, rne48_exact _ (le_t16 hf) (t16_lt hf) (by omega) (by omega)⟩

end Sys2Proof.Machine

/-! SUPPORT. The ladder (O44, O45): it is a binary counter of its entries, and in normal mode its carries are the nodes of the tree of R120. -/

namespace Sys2Proof

/-! ### A ladder counts its entries (R123) -/

/-- Whether level j of a ladder holds a partial sum. -/
def levelOccupied (l : List (Option Pair)) (j : Nat) : Bool :=
  match l[j]? with
  | some (some _) => true
  | _ => false

@[simp] theorem levelOccupied_nil (j : Nat) : levelOccupied [] j = false := rfl

@[simp] theorem levelOccupied_cons_zero (x : Option Pair) (r : List (Option Pair)) : levelOccupied (x :: r) 0 = x.isSome := by
  cases x <;> rfl

@[simp] theorem levelOccupied_cons_succ (x : Option Pair) (r : List (Option Pair)) (j : Nat) : levelOccupied (x :: r) (j + 1) = levelOccupied r j := rfl

/-- A ladder after the pushes of a sequence of entries. -/
def ladderPushAll (comp : Bool) (l : List (Option Pair)) (xs : List A48) : List (Option Pair) :=
  xs.foldl (fun l x => (ladderPush comp l (x, A48.zero)).1) l

@[simp] theorem ladderPushAll_cons (comp : Bool) (l : List (Option Pair)) (x : A48) (xs : List A48) :
    ladderPushAll comp l (x :: xs) = ladderPushAll comp (ladderPush comp l (x, A48.zero)).1 xs := rfl

/-- The number whose bits are the occupied levels. -/
def ladderCount : List (Option Pair) → Nat
  | [] => 0
  | x :: r => Nat.bit x.isSome (ladderCount r)

theorem levelOccupied_eq_testBit (l : List (Option Pair)) (j : Nat) : levelOccupied l j = (ladderCount l).testBit j := by
  induction l generalizing j with
  | nil => simp [ladderCount]
  | cons x r ih =>
    cases j with
    | zero => rw [levelOccupied_cons_zero, ladderCount, Nat.testBit_bit_zero]
    | succ j => rw [levelOccupied_cons_succ, ladderCount, Nat.testBit_bit_succ, ih]

/-- A push is an increment: it clears the occupied levels below the first empty one and fills that one. -/
theorem ladderCount_push (comp : Bool) (l : List (Option Pair)) (v : Pair) : ladderCount (ladderPush comp l v).1 = ladderCount l + 1 := by
  induction l generalizing v with
  | nil => rfl
  | cons x r ih =>
    cases x with
    | none => rfl
    | some x =>
      have hcarry := ih (combine comp x v).1
      simp only [ladderPush, ladderCount, Nat.bit_val, Option.isSome, hcarry, Bool.toNat_true, Bool.toNat_false]
      omega

theorem ladderCount_pushAll (comp : Bool) (l : List (Option Pair)) (xs : List A48) : ladderCount (ladderPushAll comp l xs) = ladderCount l + xs.length := by
  induction xs generalizing l with
  | nil => rfl
  | cons x xs ih => rw [ladderPushAll_cons, ih, ladderCount_push, List.length_cons, Nat.add_right_comm, Nat.add_assoc]

theorem levelOccupied_pushAll (comp : Bool) (xs : List A48) (j : Nat) : levelOccupied (ladderPushAll comp [] xs) j = xs.length.testBit j := by
  rw [levelOccupied_eq_testBit, ladderCount_pushAll, ladderCount, Nat.zero_add]

/-! ### The tree, level by level (R120) -/

theorem exists_pair_of_length {α : Type} {xs : List α} {n : Nat} (h : xs.length = 2 * (n + 1)) : ∃ a b r, xs = a :: b :: r ∧ r.length = 2 * n := by
  match xs, h with
  | a :: b :: r, h => exact ⟨a, b, r, rfl, by simp only [List.length_cons] at h; omega⟩

theorem length_treeLevel {xs : List A48} {n : Nat} (h : xs.length = 2 * n) : (treeLevel xs).length = n := by
  induction n generalizing xs with
  | zero => rw [List.length_eq_zero_iff.mp h]; rfl
  | succ n ih =>
    obtain ⟨a, b, r, rfl, hr⟩ := exists_pair_of_length h
    exact congrArg (· + 1) (ih hr)

/-- A level of the tree joins no pair across an even position. -/
theorem treeLevel_append {xs : List A48} {n : Nat} (ys : List A48) (h : xs.length = 2 * n) : treeLevel (xs ++ ys) = treeLevel xs ++ treeLevel ys := by
  induction n generalizing xs with
  | zero => rw [List.length_eq_zero_iff.mp h]; rfl
  | succ n ih =>
    obtain ⟨a, b, r, rfl, hr⟩ := exists_pair_of_length h
    exact congrArg ((a.add b).1 :: ·) (ih hr)

theorem treeLevels_append {m n : Nat} {xs : List A48} (ys : List A48) (h : xs.length = 2 ^ m * n) :
    treeLevels m (xs ++ ys) = treeLevels m xs ++ treeLevels m ys := by
  induction m generalizing xs ys n with
  | zero => rfl
  | succ m ih =>
    have heven : xs.length = 2 * (2 ^ m * n) := by rw [h]; ring
    rw [treeLevels, treeLevel_append ys heven, ih _ (length_treeLevel heven), treeLevels, treeLevels]

theorem treeLevels_add (m n : Nat) (xs : List A48) : treeLevels (m + n) xs = treeLevels n (treeLevels m xs) := by
  induction m generalizing xs with
  | zero => rw [Nat.zero_add, treeLevels]
  | succ m ih => rw [Nat.succ_add, treeLevels, treeLevels, ih]

theorem treeLevels_nil (m : Nat) : treeLevels m [] = [] := by
  induction m with
  | zero => rfl
  | succ m ih => exact ih

/-- A tree over 2^m leaves has one root. -/
theorem treeLevels_two_pow {m : Nat} {xs : List A48} (h : xs.length = 2 ^ m) : treeLevels m xs = [(treeLevels m xs).headD A48.zero] := by
  induction m generalizing xs with
  | zero =>
    obtain ⟨x, rfl⟩ := List.length_eq_one_iff.mp h
    rfl
  | succ m ih => exact ih (length_treeLevel (h.trans (Nat.pow_succ' ..)))

/-- R120: eight levels of the tree over the products of n chunks are the chunk sums. -/
theorem treeLevels_eight_products {n : Nat} {ps : List Val} (h : ps.length = n * 256) : treeLevels 8 (ps.map (fun v => (rne48 v).1)) =
    (List.range n).map (fun k => chunkSum ((ps.drop (256 * k)).take 256)) := by
  induction n generalizing ps with
  | zero => rw [List.length_eq_zero_iff.mp (h.trans (Nat.zero_mul _)), List.map_nil, treeLevels_nil, List.range_zero, List.map_nil]
  | succ n ih =>
    have hchunk : ((ps.take 256).map (fun v => (rne48 v).1)).length = 2 ^ 8 := by rw [List.length_map, List.length_take]; omega
    have hrest : (ps.drop 256).length = n * 256 := by rw [List.length_drop]; omega
    have hshift : ∀ k, ps.drop (256 * (k + 1)) = (ps.drop 256).drop (256 * k) := fun k => by rw [List.drop_drop, Nat.mul_succ, Nat.add_comm]
    conv_lhs => rw [← List.take_append_drop 256 ps, List.map_append, treeLevels_append _ (hchunk.trans (Nat.mul_one _).symm), treeLevels_two_pow hchunk, ih hrest]
    rw [List.range_succ_eq_map, List.map_cons, List.map_map]
    simp only [Function.comp_def, Nat.succ_eq_add_one, hshift]
    rfl

/-! ### The carries of a ladder are the nodes of a tree (R124) -/

/-- Two entries onto an empty level leave it empty and carry their sum upward, in normal mode. -/
theorem ladderPushAll_pair (r : List (Option Pair)) (a b : A48) (xs : List A48) :
    ladderPushAll false (none :: r) (a :: b :: xs) = ladderPushAll false (none :: (ladderPush false r ((a.add b).1, A48.zero)).1) xs := rfl

/-- Above an empty level a ladder receives the sums of the pairs of its entries. -/
theorem ladderPushAll_none_cons {n : Nat} {xs : List A48} (r : List (Option Pair)) (h : xs.length = 2 * n) :
    ladderPushAll false (none :: r) xs = none :: ladderPushAll false r (treeLevel xs) := by
  induction n generalizing xs r with
  | zero => rw [List.length_eq_zero_iff.mp h]; rfl
  | succ n ih =>
    obtain ⟨a, b, xs, rfl, hxs⟩ := exists_pair_of_length h
    rw [ladderPushAll_pair, ih _ hxs]
    rfl

/-- The first pair makes level 0, and level 0 stays empty after each pair. -/
theorem ladderPushAll_nil_even {n : Nat} {xs : List A48} (h : xs.length = 2 * (n + 1)) :
    ladderPushAll false [] xs = none :: ladderPushAll false [] (treeLevel xs) := by
  obtain ⟨a, b, xs, rfl, hxs⟩ := exists_pair_of_length h
  exact ladderPushAll_none_cons _ hxs

/-- R124: after 2^m entries the ladder is the root of their tree on level m. -/
theorem ladderPushAll_two_pow {m : Nat} {xs : List A48} (h : xs.length = 2 ^ m) :
    ladderPushAll false [] xs = List.replicate m none ++ [some ((treeLevels m xs).headD A48.zero, A48.zero)] := by
  induction m generalizing xs with
  | zero =>
    obtain ⟨x, rfl⟩ := List.length_eq_one_iff.mp h
    rfl
  | succ m ih =>
    have heven : xs.length = 2 * (2 ^ m - 1 + 1) := by rw [h, Nat.sub_add_cancel Nat.one_le_two_pow, Nat.pow_succ']
    rw [ladderPushAll_nil_even heven, ih ((length_treeLevel heven).trans (Nat.sub_add_cancel Nat.one_le_two_pow))]
    rfl

theorem ladderFold_replicate_none (comp : Bool) (m : Nat) (l : List (Option Pair)) (acc : Option Pair) :
    ladderFold comp (List.replicate m none ++ l) acc = ladderFold comp l acc := by
  induction m with
  | zero => rfl
  | succ m ih => exact ih

/-- In normal mode a drain of one occupied level returns what it holds. -/
theorem ladderDrain_single (m : Nat) (p : Pair) : (ladderDrain false (List.replicate m none ++ [some p])).1 = p.1 := by
  rw [ladderDrain, ladderFold_replicate_none]
  rfl

end Sys2Proof

namespace Sys2Proof.Machine

/-- Settles O44: a push increments the count whose bits are the occupied levels. -/
theorem ladderLevelsCountTheEntries : Obligations.LadderLevelsCountTheEntries := by
  unfold Obligations.LadderLevelsCountTheEntries
  exact ⟨fun comp xs j => (levelOccupied_pushAll comp xs j).trans (bit_eq_testBit _ j).symm, fun _ => rfl⟩

/-- Settles O45: level m holds the root of the tree of the entries (ladderPushAll_two_pow), and the entries are the nodes of level 8 of the tree of the products. -/
theorem ladderOfAPowerOfTwoIsATree : Obligations.LadderOfAPowerOfTwoIsATree := by
  unfold Obligations.LadderOfAPowerOfTwoIsATree
  intro m xs hxs
  refine ⟨fun j => (levelOccupied_pushAll false xs j).trans ?_, ?_, fun ps hps hsums => ?_⟩
  · rw [hxs, Nat.testBit_two_pow]
    exact decide_eq_decide.mpr eq_comm
  · exact (congrArg (fun l => (ladderDrain false l).1) (ladderPushAll_two_pow hxs)).trans (ladderDrain_single m _)
  · rw [treeLevels_add, treeLevels_eight_products hps, hsums]

end Sys2Proof.Machine

/-! SUPPORT. The frame of every command (O37): the table of the commands' frames, one line per row of the opcode table, and the resets, which keep what flash holds. -/

namespace Sys2Proof.Machine

/-- The fields that a reset does not keep (R564). -/
def Fld.clearedByReset : List Fld := Fld.all.filter (fun f => !Fld.keptByReset.contains f)

theorem Fld.mem_all (f : Fld) : f ∈ Fld.all := by cases f <;> decide

theorem Only.of_keptByReset {s t : State} (h : ∀ f ∈ Fld.keptByReset, f.same s t) : Only Fld.clearedByReset s t := by
  intro f hf
  have hk : f ∈ Fld.keptByReset := by simpa [Fld.clearedByReset, Fld.mem_all f] using hf
  exact h f hk

/-- Every field that a reset keeps stands in State.kept as it was. -/
theorem State.kept_clears (s : State) : Rel Fld.clearedByReset s s.kept := by
  refine ⟨Only.of_keptByReset fun f hf => ?_, (State.kept_rel s).inv⟩
  fin_cases hf <;> rfl

theorem execPowerOn_clears (straps : Nat) (s : State) : Next Fld.clearedByReset s (execPowerOn straps s) := by
  unfold execPowerOn
  split
  · exact Next.intro (Rel.refl _ _)
  · exact Next.intro (Rel.step (by decide) Rel.set_start_pins (State.kept_clears s))

/-- The journal is committed before the reset (R563). -/
theorem execModuleReset_clears (s : State) : Next Fld.clearedByReset s (execModuleReset s) := by
  unfold execModuleReset
  split
  · exact Next.intro (Rel.refl _ _)
  · have hj : Rel Fld.clearedByReset s (if s.commitDue then s.commitJournal else s) := by
      split
      · exact (State.commitJournal_rel s).mono (by decide)
      · exact Rel.refl _ _
    exact Next.intro (Rel.step (by decide) Rel.set_start (hj.trans (State.kept_clears _)))

theorem execInputRemoved_clears (s : State) : Next Fld.clearedByReset s (execInputRemoved s) :=
  Next.intro (Rel.step (by decide) (Rel.set_power (hp := id)) (State.kept_clears s))

/-- Every command answers a next state, changes only the fields that `touches` lists for it, and keeps the invariant: the frames of the commands' meanings, row by
row. -/
theorem exec_next (s : State) : (i : Instr) → Next (touches i) s (exec i s)
  | .registerWrite t value => execRegisterWrite_next t value s
  | .bar2Read fn off size => execBar2Read_next fn off size s
  | .bar2Write fn off data => execBar2Write_next fn off data s
  | .nop core ring => execNop_next core ring s
  | .endDesc core ring => execEndDesc_next core ring s
  | .jump core ring => execJump_next core ring s
  | .cursor core ring => execCursor_next core ring s
  | .barrier core ring => execBarrier_next core ring s
  | .barrierRelease core ring => execBarrierRelease_next core ring s
  | .eventWaitAtLeast core ring => execEventWaitAtLeast_next core ring s
  | .eventWaitEqual core ring => execEventWaitEqual_next core ring s
  | .eventWaitTimeout core ring => execEventWaitTimeout_next core ring s
  | .arrayMul core ring => execArrayMul_next core ring s
  | .parisonLoadStart core => execParisonLoadStart_next core s
  | .parisonLoadDone core first second => execParisonLoadDone_next core first second s
  | .weightSetSwitch core => execWeightSetSwitch_next core s
  | .arrayRowEntry core => execArrayRowEntry_next core s
  | .emptyIssueSlot core lostArbitration => execEmptyIssueSlot_next core lostArbitration s
  | .lehrRampDownStart core => execLehrRampDownStart_next core s
  | .lehrStep core => execLehrStep_next core s
  | .rampUpStep core => execRampUpStep_next core s
  | .preRampStart core => execPreRampStart_next core s
  | .ceilingStepDown core => execCeilingStepDown_next core s
  | .paritySweep core bad => execParitySweep_next core bad s
  | .ladderPush core ecc => execLadderPush_next core ecc s
  | .drainStart a => execDrainStart_next a s
  | .drainComplete core => execDrainComplete_next core s
  | .convertComputedScales core ring => execConvertComputedScales_next core ring s
  | .convertSuppliedScales core ring => execConvertSuppliedScales_next core ring s
  | .convertSplitTwo core ring => execConvertSplitTwo_next core ring s
  | .convertSplitThree core ring => execConvertSplitThree_next core ring s
  | .vectorAdd core ring => execVectorAdd_next core ring s
  | .vectorSubtract core ring => execVectorSubtract_next core ring s
  | .vectorMultiply core ring => execVectorMultiply_next core ring s
  | .vectorFma core ring => execVectorFma_next core ring s
  | .vectorFmaP0 core ring => execVectorFmaP0_next core ring s
  | .vectorMaximum core ring => execVectorMaximum_next core ring s
  | .vectorMinimum core ring => execVectorMinimum_next core ring s
  | .vectorExp core ring => execVectorExp_next core ring s
  | .vectorLog core ring => execVectorLog_next core ring s
  | .vectorRcp core ring => execVectorRcp_next core ring s
  | .vectorRsqrt core ring => execVectorRsqrt_next core ring s
  | .vectorSqrt core ring => execVectorSqrt_next core ring s
  | .vectorSigmoid core ring => execVectorSigmoid_next core ring s
  | .vectorGelu core ring => execVectorGelu_next core ring s
  | .vectorSilu core ring => execVectorSilu_next core ring s
  | .vectorSoftmax core ring => execVectorSoftmax_next core ring s
  | .vectorLayerNorm core ring => execVectorLayerNorm_next core ring s
  | .vectorRmsNorm core ring => execVectorRmsNorm_next core ring s
  | .vectorRowSum core ring => execVectorRowSum_next core ring s
  | .vectorRowMaximum core ring => execVectorRowMaximum_next core ring s
  | .vectorUniformRandom core ring => execVectorUniformRandom_next core ring s
  | .vectorDropout core ring => execVectorDropout_next core ring s
  | .optUpdateAdam core ring => execOptUpdateAdam_next core ring s
  | .optUpdateMomentum core ring => execOptUpdateMomentum_next core ring s
  | .tileMoveLoad core ring => execTileMoveLoad_next core ring s
  | .tileMoveStore core ring => execTileMoveStore_next core ring s
  | .tileMoveCopy core ring => execTileMoveCopy_next core ring s
  | .opComplete core unit => execOpComplete_next core unit s
  | .fabricPut core ring => execFabricPut_next core ring s
  | .fabricGet core ring => execFabricGet_next core ring s
  | .fabricTilePut core ring => execFabricTilePut_next core ring s
  | .fabricTileGet core ring => execFabricTileGet_next core ring s
  | .fabricAtomicAdd core ring => execFabricAtomicAdd_next core ring s
  | .fabricAtomicMin core ring => execFabricAtomicMin_next core ring s
  | .fabricAtomicMax core ring => execFabricAtomicMax_next core ring s
  | .fabricCompareSwap core ring => execFabricCompareSwap_next core ring s
  | .fabricA48Add core ring => execFabricA48Add_next core ring s
  | .collStep core ring => execCollStep_next core ring s
  | .descriptorRetire core ring => execDescriptorRetire_next core ring s
  | .completionRingService core ring => execCompletionRingService_next core ring s
  | .updateChannelIssue core => execUpdateChannelIssue_next core s
  | .contextFence ctx ecc => execContextFence_next ctx ecc s
  | .residencyPass ctx moves => execResidencyPass_next ctx moves s
  | .migrationSlotGrant ctx => execMigrationSlotGrant_next ctx s
  | .migrationCopyDone ctx tile => execMigrationCopyDone_next ctx tile s
  | .migrationCommit ctx tile => execMigrationCommit_next ctx tile s
  | .migrationAbort ctx tile cause => execMigrationAbort_next ctx tile cause s
  | .migrationAbortDone ctx tile => execMigrationAbortDone_next ctx tile s
  | .scrubLine store addr verdict writtenMeanwhile => execScrubLine_next store addr verdict writtenMeanwhile s
  | .rowSpareSwitch loc row => execRowSpareSwitch_next loc row s
  | .laneSpare layer slice lane => execLaneSpare_next layer slice lane s
  | .bankSpare layer slice bank => execBankSpare_next layer slice bank s
  | .sliceTemperatureChange layer slice centi => execSliceTemperatureChange_next layer slice centi s
  | .reclaimDeadline side => execReclaimDeadline_next side s
  | .writeReq mac p => execWriteReq_next mac p s
  | .readReq mac p ecc => execReadReq_next mac p ecc s
  | .tileWrite mac p => execTileWrite_next mac p s
  | .tileRead mac p => execTileRead_next mac p s
  | .atomicAdd mac p => execAtomicAdd_next mac p s
  | .atomicMin mac p => execAtomicMin_next mac p s
  | .atomicMax mac p => execAtomicMax_next mac p s
  | .compareSwap mac p => execCompareSwap_next mac p s
  | .a48Add mac p => execA48Add_next mac p s
  | .collective mac p => execCollective_next mac p s
  | .collShardReady ctx coll inst => execCollShardReady_next ctx coll inst s
  | .writeDone mac p => execWriteDone_next mac p s
  | .readData mac p => execReadData_next mac p s
  | .atomicDone mac p => execAtomicDone_next mac p s
  | .collectiveDone mac p => execCollectiveDone_next mac p s
  | .ackPkt mac p => execAckPkt_next mac p s
  | .ackTimer flow => execAckTimer_next flow s
  | .retransmitTimeout flow psn => execRetransmitTimeout_next flow psn s
  | .ccInterval flow => execCcInterval_next flow s
  | .flowProgressTimeout flow => execFlowProgressTimeout_next flow s
  | .openFlow mac p => execOpenFlow_next mac p s
  | .openAccept mac p => execOpenAccept_next mac p s
  | .openRefuse mac p => execOpenRefuse_next mac p s
  | .closeFlow mac p => execCloseFlow_next mac p s
  | .closeDone mac p => execCloseDone_next mac p s
  | .resyncQuery mac p => execResyncQuery_next mac p s
  | .resyncState mac p => execResyncState_next mac p s
  | .reclaimNotice mac p => execReclaimNotice_next mac p s
  | .windowRelease mac p => execWindowRelease_next mac p s
  | .windowLost mac p => execWindowLost_next mac p s
  | .probe mac p => execProbe_next mac p s
  | .probeReply mac p => execProbeReply_next mac p s
  | .ctrlAck mac p => execCtrlAck_next mac p s
  | .ctrlRetransmitTimeout peer msgId => execCtrlRetransmitTimeout_next peer msgId s
  | .frameForward mac h fcsBad => execFrameForward_next mac h fcsBad s
  | .arpRequest mac targetIp senderIp senderMac => execArpRequest_next mac targetIp senderIp senderMac s
  | .neighbourSolicitation mac targetIp senderIp senderMac => execNeighbourSolicitation_next mac targetIp senderIp senderMac s
  | .unhandledFrame mac why => execUnhandledFrame_next mac why s
  | .pauseFrame mac quanta => execPauseFrame_next mac quanta s
  | .pfcFrame mac enable quanta => execPfcFrame_next mac enable quanta s
  | .pauseExpiry mac prio => execPauseExpiry_next mac prio s
  | .pfcRepeat mac prio => execPfcRepeat_next mac prio s
  | .pfcXonSend mac prio => execPfcXonSend_next mac prio s
  | .macFrameStart mac => execMacFrameStart_next mac s
  | .windowOpen ctx entry => execWindowOpen_next ctx entry s
  | .windowClose ctx entry => execWindowClose_next ctx entry s
  | .lldpTransmit mac => execLldpTransmit_next mac s
  | .lldpdu mac n => execLldpdu_next mac n s
  | .lpiEntry mac => execLpiEntry_next mac s
  | .lpiWakeForWindow mac ctx entry => execLpiWakeForWindow_next mac ctx entry s
  | .ptpMessage mac m => execPtpMessage_next mac m s
  | .ptpSyncTimer port => execPtpSyncTimer_next port s
  | .ptpHoldoverEntry errNs => execPtpHoldoverEntry_next errNs s
  | .ppsInEdge taiNs => execPpsInEdge_next taiNs s
  | .ppsInLost => execPpsInLost_next s
  | .ppsOutSecond => execPpsOutSecond_next s
  | .laneRecalStart lane why => execLaneRecalStart_next lane why s
  | .laneRecalApply lane => execLaneRecalApply_next lane s
  | .fecMonitorWindow mac st => execFecMonitorWindow_next mac st s
  | .laneLockLoss lane => execLaneLockLoss_next lane s
  | .linkUpAfterRetirement mac => execLinkUpAfterRetirement_next mac s
  | .retrainingTimeout mac => execRetrainingTimeout_next mac s
  | .parityInstance ctx plan => execParityInstance_next ctx plan s
  | .permuteInstance ctx => execPermuteInstance_next ctx s
  | .reshardRequest ctx rq => execReshardRequest_next ctx rq s
  | .reshardBoundary ctx => execReshardBoundary_next ctx s
  | .reshardDrainDone ctx => execReshardDrainDone_next ctx s
  | .reshardPermuteDone ctx => execReshardPermuteDone_next ctx s
  | .reshardCommitBroadcast ctx commitNs => execReshardCommitBroadcast_next ctx commitNs s
  | .reshardCommit ctx lay => execReshardCommit_next ctx lay s
  | .planPlacement ctx meas => execPlanPlacement_next ctx meas s
  | .planAccept ctx plan => execPlanAccept_next ctx plan s
  | .jobStartDecision ctx d => execJobStartDecision_next ctx d s
  | .startWaitTimeout ctx => execStartWaitTimeout_next ctx s
  | .jobStepStart ctx => execJobStepStart_next ctx s
  | .prefetch ctx d => execPrefetch_next ctx d s
  | .boundary ctx => execBoundary_next ctx s
  | .validationLossCompare ctx step losses => execValidationLossCompare_next ctx step losses s
  | .securingPartDone ctx part => execSecuringPartDone_next ctx part s
  | .securingCommit ctx => execSecuringCommit_next ctx s
  | .generationCommit ctx generation commitNs nextStep => execGenerationCommit_next ctx generation commitNs nextStep s
  | .lossCapture ctx loss => execLossCapture_next ctx loss s
  | .recoveryTrigger ctx t => execRecoveryTrigger_next ctx t s
  | .recoveryHalt ctx => execRecoveryHalt_next ctx s
  | .haltingEnd ctx v => execHaltingEnd_next ctx v s
  | .refillComplete ctx rebuilt => execRefillComplete_next ctx rebuilt s
  | .checkingComplete ctx failed => execCheckingComplete_next ctx failed s
  | .replayCompare ctx loss => execReplayCompare_next ctx loss s
  | .pfwAssert => execPfwAssert_next s
  | .pfwJournalCommit => execPfwJournalCommit_next s
  | .pfwRelease => execPfwRelease_next s
  | .pfwRejoin => execPfwRejoin_next s
  | .shardArrival ctx slot d => execShardArrival_next ctx slot d s
  | .shardReadback ctx slot errs => execShardReadback_next ctx slot errs s
  | .verifyPass ctx => execVerifyPass_next ctx s
  | .shardVerify ctx slot v => execShardVerify_next ctx slot v s
  | .switchAgree ctx news => execSwitchAgree_next ctx news s
  | .puntySwitch ctx => execPuntySwitch_next ctx s
  | .switchDeferral d => execSwitchDeferral_next d s
  | .openSm2 rq => execOpenSm2_next rq s
  | .confirm rq => execConfirm_next rq s
  | .openPassword rq => execOpenPassword_next rq s
  | .passwordLockoutEnd => execPasswordLockoutEnd_next s
  | .sessionClose rq => execSessionClose_next rq s
  | .contextCreate rq => execContextCreate_next rq s
  | .contextTeardown rq => execContextTeardown_next rq s
  | .teardownFlowRelease ctx => execTeardownFlowRelease_next ctx s
  | .teardownScrubComplete ctx badFrames => execTeardownScrubComplete_next ctx badFrames s
  | .contextQuery rq => execContextQuery_next rq s
  | .setGrants rq => execSetGrants_next rq s
  | .jobLoad rq => execJobLoad_next rq s
  | .jobStart rq setList => execJobStart_next rq setList s
  | .jobFeed rq => execJobFeed_next rq s
  | .jobStatus rq => execJobStatus_next rq s
  | .jobCursor rq => execJobCursor_next rq s
  | .jobRecover rq => execJobRecover_next rq s
  | .jobDecideStop rq => execJobDecideStop_next rq s
  | .jobDecideResume rq => execJobDecideResume_next rq s
  | .jobValidate rq => execJobValidate_next rq s
  | .jobAddModule rq => execJobAddModule_next rq s
  | .jobReport rq => execJobReport_next rq s
  | .jobStop rq => execJobStop_next rq s
  | .weightLoad rq shardList => execWeightLoad_next rq shardList s
  | .weightSwitch rq => execWeightSwitch_next rq s
  | .weightQuery rq => execWeightQuery_next rq s
  | .weightVerifyPeriod rq => execWeightVerifyPeriod_next rq s
  | .tierCapacity rq => execTierCapacity_next rq s
  | .tierReadEntries rq => execTierReadEntries_next rq s
  | .tierMigrate rq => execTierMigrate_next rq s
  | .tierWeightRegions rq => execTierWeightRegions_next rq s
  | .lendOffer rq => execLendOffer_next rq s
  | .lendReclaim rq => execLendReclaim_next rq s
  | .grantT3 rq => execGrantT3_next rq s
  | .portSet rq => execPortSet_next rq s
  | .portUpdown rq => execPortUpdown_next rq s
  | .portStatus rq => execPortStatus_next rq s
  | .peerTable rq => execPeerTable_next rq s
  | .fwdTable rq => execFwdTable_next rq s
  | .ccParams rq => execCcParams_next rq s
  | .neighbours rq => execNeighbours_next rq s
  | .recalPeriod rq => execRecalPeriod_next rq s
  | .snapshotsList rq => execSnapshotsList_next rq s
  | .secureNow rq => execSecureNow_next rq s
  | .readRecord rq => execReadRecord_next rq s
  | .snapshotsErase rq => execSnapshotsErase_next rq s
  | .timeStatus rq => execTimeStatus_next rq s
  | .ptpConfig rq => execPtpConfig_next rq s
  | .pps rq => execPps_next rq s
  | .asymmetry rq => execAsymmetry_next rq s
  | .setEpoch rq => execSetEpoch_next rq s
  | .countersRead rq => execCountersRead_next rq s
  | .countersPermission rq => execCountersPermission_next rq s
  | .samplingOff rq => execSamplingOff_next rq s
  | .samplingOn rq => execSamplingOn_next rq s
  | .samplingArmReplay rq => execSamplingArmReplay_next rq s
  | .samplingDisarm rq => execSamplingDisarm_next rq s
  | .sampleRecordWrite core consumed => execSampleRecordWrite_next core consumed s
  | .logStatus rq => execLogStatus_next rq s
  | .logRead rq => execLogRead_next rq s
  | .fwIdentity rq => execFwIdentity_next rq s
  | .fwStage rq => execFwStage_next rq s
  | .fwActivate rq => execFwActivate_next rq s
  | .fwSwitchStart => execFwSwitchStart_next s
  | .activateTimeout => execActivateTimeout_next s
  | .fwSwitchResume => execFwSwitchResume_next s
  | .fwSwitchWatchdog => execFwSwitchWatchdog_next s
  | .coreTables rq => execCoreTables_next rq s
  | .coreTablesTake core => execCoreTablesTake_next core s
  | .attest rq => execAttest_next rq s
  | .lifecycleInstallRecord rq record => execLifecycleInstallRecord_next rq record s
  | .lifecycleReadRecord rq => execLifecycleReadRecord_next rq s
  | .lifecycleChallenge rq => execLifecycleChallenge_next rq s
  | .lifecycleToFieldDebug rq => execLifecycleToFieldDebug_next rq s
  | .lifecycleToField rq => execLifecycleToField_next rq s
  | .lifecycleToReturned rq => execLifecycleToReturned_next rq s
  | .lifecycleManufactureToField rq => execLifecycleManufactureToField_next rq s
  | .lifecycleToManufacture rq => execLifecycleToManufacture_next rq s
  | .lifecycleTransitionDone => execLifecycleTransitionDone_next s
  | .debugNone rq => execDebugNone_next rq s
  | .debugObserve rq => execDebugObserve_next rq s
  | .debugInvasive rq => execDebugInvasive_next rq s
  | .debugChallenge rq => execDebugChallenge_next rq s
  | .culletRead rq => execCulletRead_next rq s
  | .coreReplace rq => execCoreReplace_next rq s
  | .coreMigration core => execCoreMigration_next core s
  | .laneRetire rq => execLaneRetire_next rq s
  | .laneAdmit rq => execLaneAdmit_next rq s
  | .dramRecal rq => execDramRecal_next rq s
  | .dramBankRetrain loc => execDramBankRetrain_next loc s
  | .powerStateActive rq => execPowerStateActive_next rq s
  | .powerStateIdle rq => execPowerStateIdle_next rq s
  | .powerStateStandby rq => execPowerStateStandby_next rq s
  | .powerCap rq => execPowerCap_next rq s
  | .powerRead rq => execPowerRead_next rq s
  | .powerSample mv ma mw => execPowerSample_next mv ma mw s
  | .capControlTick => execCapControlTick_next s
  | .thermalTick changes => execThermalTick_next changes s
  | .thermalTrip r => execThermalTrip_next r s
  | .handleQuery rq => execHandleQuery_next rq s
  | .handleCancel rq => execHandleCancel_next rq s
  | .handleExpiry handle => execHandleExpiry_next handle s
  | .smbPart => execSmbPart_next s
  | .smbSerial => execSmbSerial_next s
  | .smbBootStatus => execSmbBootStatus_next s
  | .smbInput => execSmbInput_next s
  | .smbTemp => execSmbTemp_next s
  | .smbLogSeq => execSmbLogSeq_next s
  | .smbAlertStatusWrite value => execSmbAlertStatusWrite_next value s
  | .smbAlertResponse => execSmbAlertResponse_next s
  | .perstAssert linkLost => execPerstAssert_next linkLost s
  | .perstDeassert => execPerstDeassert_next s
  | .flrPhysicalFunction => execFlrPhysicalFunction_next s
  | .flrVirtualFunction vf => execFlrVirtualFunction_next vf s
  | .powerOn straps => execPowerOn_clears straps s
  | .romStageEnd v => execRomStageEnd_next v s
  | .firmwareStageEnd lockstepOk => execFirmwareStageEnd_next lockstepOk s
  | .railsStageEnd invalid => execRailsStageEnd_next invalid s
  | .memoryStageEnd v => execMemoryStageEnd_next v s
  | .coresStageEnd failures => execCoresStageEnd_next failures s
  | .portsStageEnd => execPortsStageEnd_next s
  | .moduleReset => execModuleReset_clears s
  | .moduleResetRelease => execModuleResetRelease_next s
  | .gafferReset cause => execGafferReset_next cause s
  | .gafferResetComplete => execGafferResetComplete_next s
  | .inputRemoved => execInputRemoved_clears s
  | .linkUp port macs lanes => execLinkUp_next port macs lanes s
  | .reservedOpcode core ring => execReservedOpcode_next core ring s
  | .reservedPacket mac h => execReservedPacket_next mac h s
  | .reservedCommand rq family code => execReservedCommand_next rq family code s
  | .prefetchRetry ctx d => execPrefetchRetry_next ctx d s
  | .moduleDmaComplete handle d => execModuleDmaComplete_next handle d s
  | .windowZeroFillComplete window => execWindowZeroFillComplete_next window s

/-- No command touches the queue. -/
theorem pending_notMem_touches (i : Instr) : Fld.pending ∉ touches i := by
  cases i <;> exact of_decide_eq_true rfl

/-- Settles O37, from the table of frames `exec_next`. -/
theorem everyCommandChangesOnlyItsFields : Obligations.EveryCommandChangesOnlyItsFields := by
  unfold Obligations.EveryCommandChangesOnlyItsFields
  refine ⟨fun i s => ?_, fun i s t ht => ?_⟩
  · obtain ⟨t, ht, hrel⟩ := exec_next s i
    exact ⟨t, ht, hrel.only⟩
  · obtain ⟨u, hu, hrel⟩ := exec_next s i
    cases hu.symm.trans ht
    exact hrel.pending (pending_notMem_touches i)

end Sys2Proof.Machine

/-! SUPPORT. The control descriptors and what ends them (O1): the equation of each row, from the taking of its descriptor and its completion. -/

namespace Sys2Proof.Machine

/-! ### Descriptors that complete at issue -/

theorem exec_nop {s : State} {c r d : Nat} (h : s.Issues c r 0x01 0 d) :
    exec (.nop c r) s = .next ((s.takeDesc c r d none).complete c r (s.ring c r).issued 0 0) :=
  congrArg _ (State.issue_issues h noDeadline _)

theorem exec_endDesc {s : State} {c r d : Nat} (h : s.Issues c r 0x02 0 d) : exec (.endDesc c r) s =
    .next (((s.takeDesc c r d none).complete c r (s.ring c r).issued 0 0).updRing c r (fun g => { g with running := false })) :=
  congrArg _ (State.issue_issues h noDeadline _)

theorem State.size_takeDesc (s : State) (c r d : Nat) (dl : Option Nat) : ((s.takeDesc c r d dl).ring c r).size = (s.ring c r).size := by
  obtain ⟨-, -, -, -, -, hsize, -⟩ := State.takeDesc_keeps s c r d dl
  exact hsize

theorem exec_jump_inside {s : State} {c r d : Nat} (h : s.Issues c r 0x03 0 d) (ht : fld d 8 2 < (s.ring c r).size) : exec (.jump c r) s =
    .next (((s.takeDesc c r d none).complete c r (s.ring c r).issued 0 0).updRing c r (fun g => { g with next := fld d 8 2 })) :=
  congrArg _ ((State.issue_issues h noDeadline _).trans (if_pos (by rwa [State.size_takeDesc])))

theorem exec_jump_outside {s : State} {c r d : Nat} (h : s.Issues c r 0x03 0 d) (ht : ¬ fld d 8 2 < (s.ring c r).size) :
    exec (.jump c r) s = .next ((s.takeDesc c r d none).complete c r (s.ring c r).issued 0x11 0) :=
  congrArg _ ((State.issue_issues h noDeadline _).trans (if_neg (by rwa [State.size_takeDesc])))

theorem exec_cursor {s : State} {c r d : Nat} (h : s.Issues c r 0x04 0 d) : exec (.cursor c r) s =
    .next (((s.takeDesc c r d none).complete c r (s.ring c r).issued 0 0).updRing c r (fun g => { g with micro := fld d 8 2, stage := fld d 10 1 })) :=
  congrArg _ (State.issue_issues h noDeadline _)

/-- A change of the ring that leaves its descriptors in flight. -/
theorem Took.updRing {s t : State} {c r d : Nat} {p : OutDesc → Prop} {f : Ring → Ring} (h : Took s t c r d p) (hf : ∀ g, (f g).out = g.out) :
    Took s (t.updRing c r f) c r d p :=
  h.of_ring (by rw [State.ring_updRing, hf])

/-- What a descriptor that is taken and completed with a status leaves in its ring (R149, R169, R172). -/
theorem State.takeDesc_completes (s : State) (c r d : Nat) (dl : Option Nat) (st : Nat) :
    Took s ((s.takeDesc c r d dl).complete c r (s.ring c r).issued st 0) c r d (fun e => e.done = true ∧ e.status = st)
      ∧ (((s.takeDesc c r d dl).complete c r (s.ring c r).issued st 0).ring c r).next = ((s.ring c r).next + 1) % (s.ring c r).size
      ∧ (((s.takeDesc c r d dl).complete c r (s.ring c r).issued st 0).ring c r).running = ((s.ring c r).running && !statusStops st) := by
  obtain ⟨htook, hnext, hrun, -, -⟩ := State.takeDesc_complete s c r d dl st 0
  exact ⟨htook.mono fun e he => ⟨he.1, he.2.1⟩, hnext, hrun⟩

theorem nop_row {s : State} {c r d : Nat} (h : s.Issues c r 0x01 0 d) : ∃ t : State, exec (.nop c r) s = .next t ∧
    Took s t c r d (fun e => e.done = true ∧ e.status = 0) ∧ (t.ring c r).running = true ∧
    (t.ring c r).next = ((s.ring c r).next + 1) % (s.ring c r).size := by
  obtain ⟨htook, hnext, hrun⟩ := State.takeDesc_completes s c r d none 0
  exact ⟨_, exec_nop h, htook, by rw [hrun, h.running]; rfl, hnext⟩

theorem endDesc_row {s : State} {c r d : Nat} (h : s.Issues c r 0x02 0 d) : ∃ t : State, exec (.endDesc c r) s = .next t ∧
    Took s t c r d (fun e => e.done = true ∧ e.status = 0) ∧ (t.ring c r).running = false := by
  obtain ⟨htook, -, -⟩ := State.takeDesc_completes s c r d none 0
  exact ⟨_, exec_endDesc h, htook.updRing fun _ => rfl, by rw [State.ring_updRing]⟩

theorem jump_row {s : State} {c r d : Nat} (h : s.Issues c r 0x03 0 d) : ∃ t : State, exec (.jump c r) s = .next t ∧
    (if fld d 8 2 < (s.ring c r).size then
      Took s t c r d (fun e => e.done = true ∧ e.status = 0) ∧ (t.ring c r).next = fld d 8 2 ∧ (t.ring c r).running = true
    else Took s t c r d (fun e => e.done = true ∧ e.status = 0x11) ∧ (t.ring c r).running = false) := by
  split
  · rename_i ht
    obtain ⟨htook, -, hrun⟩ := State.takeDesc_completes s c r d none 0
    refine ⟨_, exec_jump_inside h ht, htook.updRing fun _ => rfl, by rw [State.ring_updRing], ?_⟩
    rw [State.ring_updRing, hrun, h.running]
    rfl
  · rename_i ht
    obtain ⟨htook, -, hrun⟩ := State.takeDesc_completes s c r d none 0x11
    exact ⟨_, exec_jump_outside h ht, htook, by rw [hrun, h.running]; rfl⟩

theorem cursor_row {s : State} {c r d : Nat} (h : s.Issues c r 0x04 0 d) : ∃ t : State, exec (.cursor c r) s = .next t ∧
    Took s t c r d (fun e => e.done = true ∧ e.status = 0) ∧ (t.ring c r).micro = fld d 8 2 ∧ (t.ring c r).stage = fld d 10 1 ∧
    (t.ring c r).running = true := by
  obtain ⟨htook, -, hrun⟩ := State.takeDesc_completes s c r d none 0
  refine ⟨_, exec_cursor h, htook.updRing fun _ => rfl, by rw [State.ring_updRing], by rw [State.ring_updRing], ?_⟩
  rw [State.ring_updRing, hrun, h.running]
  rfl

/-! ### Barriers and event waits -/

/-- Taking a descriptor leaves the time of every context where it is. -/
theorem State.fabricUnits_takeDesc (s : State) (c r d : Nat) (dl : Option Nat) (x : Nat) :
    (s.takeDesc c r d dl).fabricUnits x = s.fabricUnits x := by
  obtain ⟨hctxs, hclk, -⟩ := State.takeDesc_keeps s c r d dl
  rw [State.fabricUnits, State.fabricUnits, hclk, State.ctx_congr hctxs]

theorem State.barrierTarget_takeDesc (s : State) (c r d : Nat) (dl : Option Nat) (x e : Nat) :
    (s.takeDesc c r d dl).barrierTarget x e = s.barrierTarget x e := by
  obtain ⟨hctxs, -⟩ := State.takeDesc_keeps s c r d dl
  rw [State.barrierTarget, State.barrierTarget, State.ctx_congr hctxs]

theorem exec_barrier_waits {s : State} {c r d : Nat} (h : s.Issues c r 0x08 0 d)
    (ht : s.fabricUnits (s.ring c r).ctx < s.barrierTarget (s.ring c r).ctx d) :
    exec (.barrier c r) s = .next (s.takeDesc c r d (some (s.barrierTarget (s.ring c r).ctx d))) := by
  show execBarrier c r s = _
  rw [execBarrier, State.issue_issues h]
  exact congrArg _ (if_pos (by rwa [State.fabricUnits_takeDesc, State.barrierTarget_takeDesc]))

/-- A barrier whose target has passed completes at issue; the count of late ones touches no ring (R174). -/
theorem exec_barrier_passed {s : State} {c r d : Nat} (h : s.Issues c r 0x08 0 d)
    (ht : ¬ s.fabricUnits (s.ring c r).ctx < s.barrierTarget (s.ring c r).ctx d) : ∃ t : State, exec (.barrier c r) s = .next t ∧
      t.ring c r = ((s.takeDesc c r d (some (s.barrierTarget (s.ring c r).ctx d))).complete c r (s.ring c r).issued 0 0).ring c r := by
  have hpassed : ¬ (s.takeDesc c r d (some (s.barrierTarget (s.ring c r).ctx d))).fabricUnits (s.ring c r).ctx <
      (s.takeDesc c r d (some (s.barrierTarget (s.ring c r).ctx d))).barrierTarget (s.ring c r).ctx d := by
    rwa [State.fabricUnits_takeDesc, State.barrierTarget_takeDesc]
  refine ⟨_, rfl, ?_⟩
  simp only [State.issue_issues h, if_neg hpassed]
  split <;> rfl

theorem barrier_row {s : State} {c r d : Nat} (h : s.Issues c r 0x08 0 d) : ∃ t : State, exec (.barrier c r) s = .next t ∧
    (if s.fabricUnits (s.ring c r).ctx < s.barrierTarget (s.ring c r).ctx d then
      Took s t c r d (fun e => e.done = false ∧ e.deadline = some (s.barrierTarget (s.ring c r).ctx d))
    else Took s t c r d (fun e => e.done = true ∧ e.status = 0)) := by
  split
  · rename_i ht
    exact ⟨_, exec_barrier_waits h ht, State.takeDesc_took ..⟩
  · rename_i ht
    obtain ⟨t, hexec, hring⟩ := exec_barrier_passed h ht
    obtain ⟨htook, -, -⟩ := State.takeDesc_completes s c r d (some (s.barrierTarget (s.ring c r).ctx d)) 0
    exact ⟨t, hexec, htook.of_ring (by rw [hring])⟩

/-- The two EVENT_WAITs complete at issue when their condition holds on the counter's value, and stay in flight otherwise (R173). -/
theorem State.eventWait_took {s : State} {c r sb d : Nat} (h : s.Issues c r 0x09 sb d) :
    if waitHolds d (((s.ctx (s.ring c r).ctx).events).getOr (fld d 8 1) 0) = true then
      Took s (s.eventWait c r sb) c r d (fun e => e.done = true ∧ e.status = 0)
    else Took s (s.eventWait c r sb) c r d (fun e => e.done = false ∧ e.deadline = s.waitDeadline (s.ring c r).ctx d) := by
  obtain ⟨hctxs, -⟩ := State.takeDesc_keeps s c r d (s.waitDeadline (s.ring c r).ctx d)
  unfold State.eventWait
  rw [State.issue_issues h, State.ctx_congr hctxs]
  split
  · obtain ⟨htook, -, -⟩ := State.takeDesc_completes s c r d (s.waitDeadline (s.ring c r).ctx d) 0
    exact htook
  · exact State.takeDesc_took ..

theorem waitHolds_atLeast {d : Nat} (h : dSub d = 0) (v : Nat) : waitHolds d v = serialGe v (fld d 12 4) := if_pos h

theorem waitHolds_equal {d : Nat} (h : dSub d = 1) (v : Nat) : waitHolds d v = true ↔ v = fld d 12 4 := by
  rw [waitHolds, if_neg (by omega), beq_iff_eq]

theorem eventWaitAtLeast_row {s : State} {c r d : Nat} (h : s.Issues c r 0x09 0 d) : ∃ t : State, exec (.eventWaitAtLeast c r) s = .next t ∧
    (if serialGe (((s.ctx (s.ring c r).ctx).events).getOr (fld d 8 1) 0) (fld d 12 4) = true then
      Took s t c r d (fun e => e.done = true ∧ e.status = 0)
    else Took s t c r d (fun e => e.done = false ∧ e.deadline = s.waitDeadline (s.ring c r).ctx d)) := by
  have htook := State.eventWait_took h
  rw [waitHolds_atLeast h.2.2.1] at htook
  exact ⟨_, rfl, htook⟩

theorem eventWaitEqual_row {s : State} {c r d : Nat} (h : s.Issues c r 0x09 1 d) : ∃ t : State, exec (.eventWaitEqual c r) s = .next t ∧
    (if ((s.ctx (s.ring c r).ctx).events).getOr (fld d 8 1) 0 = fld d 12 4 then
      Took s t c r d (fun e => e.done = true ∧ e.status = 0)
    else Took s t c r d (fun e => e.done = false ∧ e.deadline = s.waitDeadline (s.ring c r).ctx d)) := by
  have htook := State.eventWait_took h
  simp only [waitHolds_equal h.2.2.1] at htook
  exact ⟨_, rfl, htook⟩

/-! ### What ends a wait -/

/-- The first descriptor in flight that a test finds is in flight. -/
theorem State.inFlight_of_find {s : State} {c r : Nat} {e : OutDesc} {p : OutDesc → Bool}
    (h : (s.ring c r).out.find? (fun d => !d.done && p d) = some e) : e ∈ (s.ring c r).out ∧ e.done = false := by
  have hp := List.find?_some h
  simp only [Bool.and_eq_true, Bool.not_eq_true'] at hp
  exact ⟨List.mem_of_find?_eq_some h, hp.1⟩

/-- A descriptor that waits for a deadline completes with a status at that deadline (R165, R169). -/
theorem State.complete_toDeadline {s : State} {c r : Nat} {e : OutDesc} (he : e ∈ (s.ring c r).out) (hd : e.done = false) (x u st : Nat) :
    ((s.toDeadline x u).complete c r e.id st 0).clk = (s.toDeadline x u).clk ∧
    (∃ e' ∈ (((s.toDeadline x u).complete c r e.id st 0).ring c r).out, e'.id = e.id ∧ e'.desc = e.desc ∧ e'.done = true ∧ e'.status = st) ∧
    (((s.toDeadline x u).complete c r e.id st 0).ring c r).running = ((s.ring c r).running && !statusStops st) := by
  have hring : (s.toDeadline x u).ring c r = s.ring c r := State.ring_congr ((State.toDeadline_rel s x u).cores (by decide)) c r
  have he' : e ∈ ((s.toDeadline x u).ring c r).out := by rwa [hring]
  obtain ⟨e', hmem, hid, hdesc, hdone, hst, -⟩ := State.complete_mem he' hd st 0
  refine ⟨(State.complete_rel _ c r e.id st 0).clk (by decide), ⟨e', hmem, hid, hdesc, hdone, hst⟩, ?_⟩
  rw [State.complete_running he' hd, hring]

theorem barrierRelease_row {s : State} {c r u : Nat} {e : OutDesc} (he : (s.ring c r).out.find? (fun d => !d.done && dOp d.desc = 0x08) = some e)
    (hu : e.deadline = some u) (hturn : s.evTurn (s.ring c r).ctx 3 0 ((s.ctx (s.ring c r).ctx).job.epoch + ceilDiv u 65536) = true) :
    ∃ t : State, exec (.barrierRelease c r) s = .next t ∧ t.clk = (s.toDeadline (s.ring c r).ctx u).clk ∧
      (∃ e' ∈ (t.ring c r).out, e'.id = e.id ∧ e'.desc = e.desc ∧ e'.done = true ∧ e'.status = 0) ∧
      (t.ring c r).running = (s.ring c r).running := by
  obtain ⟨hmem, hdone⟩ := State.inFlight_of_find (p := fun d => dOp d.desc = 0x08) he
  obtain ⟨hclk, hout, hrun⟩ := State.complete_toDeadline hmem hdone (s.ring c r).ctx u 0
  have hexec : exec (.barrierRelease c r) s =
      .next (((s.toDeadline (s.ring c r).ctx u).complete c r e.id 0 0).updCore c (fun k => k.endPreRamp u)) := by
    show execBarrierRelease c r s = _
    simp only [execBarrierRelease, he, hu, hturn]
    rfl
  have hring := State.ring_updCore_same ((s.toDeadline (s.ring c r).ctx u).complete c r e.id 0 0) c r (fun k => k.endPreRamp u) (fun _ => rfl)
  refine ⟨_, hexec, hclk, by rwa [hring], ?_⟩
  rw [hring, hrun]
  exact Bool.and_true _

theorem eventWaitTimeout_row {s : State} {c r u : Nat} {e : OutDesc} (he : (s.ring c r).out.find? (fun d => !d.done && dOp d.desc = 0x09) = some e)
    (hu : e.deadline = some u) : ∃ t : State, exec (.eventWaitTimeout c r) s = .next t ∧ t.clk = (s.toDeadline (s.ring c r).ctx u).clk ∧
      (∃ e' ∈ (t.ring c r).out, e'.id = e.id ∧ e'.desc = e.desc ∧ e'.done = true ∧ e'.status = 0x19) ∧ (t.ring c r).running = false := by
  obtain ⟨hmem, hdone⟩ := State.inFlight_of_find (p := fun d => dOp d.desc = 0x09) he
  obtain ⟨hclk, hout, hrun⟩ := State.complete_toDeadline hmem hdone (s.ring c r).ctx u 0x19
  have hexec : exec (.eventWaitTimeout c r) s = .next ((s.toDeadline (s.ring c r).ctx u).complete c r e.id 0x19 0) := by
    show execEventWaitTimeout c r s = _
    simp only [execEventWaitTimeout, he, hu]
  exact ⟨_, hexec, hclk, hout, hrun.trans (Bool.and_false _)⟩

/-! ### Retirement -/

theorem State.gradFinal_steady (s : State) (x coll : Nat) (sel : Nat → Nat → Bool) :
    (s.gradFinal x coll sel).cores = s.cores ∧ ∀ y, ((s.gradFinal x coll sel).ctx y).events = (s.ctx y).events := by
  refine ⟨(State.gradFinal_rel s x coll sel).cores (by decide), fun y => ?_⟩
  unfold State.gradFinal
  generalize (s.ctx x).job.gradLayers coll = ls
  induction ls generalizing s with
  | nil => rfl
  | cons l ls ih =>
    rw [List.foldl_cons, ih]
    by_cases hy : y = x
    · rw [hy, State.ctx_updCtx]
    · rw [State.ctx_updCtx_ne _ _ hy]

/-- The event that a descriptor signals at its retirement (R170). -/
theorem State.events_signalled (s : State) (x ev : Nat) (b : Bool) :
    (∀ c r, ((if b then s.signal x ev else s).ring c r).out.map (fun d => d.id) = (s.ring c r).out.map (fun d => d.id) ∧
      ((if b then s.signal x ev else s).ring c r).compl = (s.ring c r).compl) ∧
    (((if b then s.signal x ev else s).ctx x).events).getOr ev 0 =
      (if b = true then (((s.ctx x).events).getOr ev 0 + 1) % 4294967296 else ((s.ctx x).events).getOr ev 0) := by
  cases b with
  | true => exact State.signal_spec s x ev
  | false => exact ⟨fun _ _ => ⟨rfl, rfl⟩, rfl⟩

theorem descriptorRetire_row {s : State} {c r : Nat} {e : OutDesc} {rest : List OutDesc} (ho : (s.ring c r).out = e :: rest) (hd : e.done = true)
    (hroom : e.needsRecord = true → (s.ring c r).compl.length < 1024) :
    ∃ t : State, exec (.descriptorRetire c r) s = .next t ∧ (t.ring c r).out.map (fun d => d.id) = rest.map (fun d => d.id) ∧
      (t.ring c r).compl = (if e.needsRecord = true then (s.ring c r).compl ++ [e.record] else (s.ring c r).compl) ∧
      ((t.ctx (s.ring c r).ctx).events).getOr (dSigEvent e.desc) 0 =
        (if dSigEn e.desc = true then (((s.ctx (s.ring c r).ctx).events).getOr (dSigEvent e.desc) 0 + 1) % 4294967296
        else ((s.ctx (s.ring c r).ctx).events).getOr (dSigEvent e.desc) 0) := by
  have hgo : ¬ (!e.done || (e.needsRecord && decide (1024 ≤ (s.ring c r).compl.length))) = true := by
    simpa [hd] using hroom
  refine ⟨_, rfl, ?_⟩
  unfold State.retire
  extract_lets g
  split
  · rename_i hnil
    cases ho.symm.trans hnil
  rename_i e' rest' hcons
  obtain ⟨rfl, rfl⟩ : e = e' ∧ rest = rest' := by simpa using ho.symm.trans hcons
  rw [if_neg hgo]
  extract_lets s1 s2 s3
  have hring1 : s1.ring c r = { s.ring c r with out := rest, compl := if e.needsRecord then (s.ring c r).compl ++ [e.record] else (s.ring c r).compl } :=
    State.ring_updRing ..
  have hgrad : s3.ring c r = s1.ring c r ∧ (s3.ctx (s.ring c r).ctx).events = (s.ctx (s.ring c r).ctx).events := by
    obtain ⟨m, hcount⟩ := State.ctx_count s1 (s.ring c r).ctx (120 + c) 1 (s.ring c r).ctx
    have hevents2 : (s2.ctx (s.ring c r).ctx).events = (s.ctx (s.ring c r).ctx).events := by
      show ((s1.count _ _ _).ctx _).events = _
      rw [hcount]
      rfl
    unfold s3
    split
    · obtain ⟨hcores, hev⟩ := State.gradFinal_steady s2 (s.ring c r).ctx 0xFFFFFFFF (fun c' r' => c' = c && r' = r)
      exact ⟨State.ring_congr hcores c r, (hev _).trans hevents2⟩
    · exact ⟨rfl, hevents2⟩
  obtain ⟨hring3, hev3⟩ := hgrad
  obtain ⟨hsig, hev⟩ := State.events_signalled s3 (s.ring c r).ctx (dSigEvent e.desc) (dSigEn e.desc)
  obtain ⟨hids, hcompl⟩ := hsig c r
  refine ⟨?_, ?_, ?_⟩
  · rw [hids, hring3, hring1]
  · rw [hcompl, hring3, hring1]
  · rw [hev, hev3]

/-! ### The completion ring and reserved opcodes -/

theorem completionRingService_row {s : State} (c r : Nat) (h : s.life.fwSwitch = false) :
    ∃ t : State, exec (.completionRingService c r) s = .next t ∧ (t.ring c r).compl = [] := by
  refine ⟨_, rfl, ?_⟩
  unfold State.serveCompl
  rw [if_neg (by simp [h])]
  extract_lets g s1
  rw [State.ring_updRing]

theorem descReserved_of_not_subopOk {own d : Nat} (h : subopOk (dOp d) (dSub d) = false) : descReserved own d = true := by
  simp [descReserved, descInvalid, descInvalidBut, h]

theorem exec_reservedOpcode {s : State} {c r d : Nat} (hf : s.fetchDesc c r = d) (hsub : subopOk (dOp d) (dSub d) = false)
    (hcan : s.canIssueDesc c r d = true) (hturn : s.turn c r = true) :
    exec (.reservedOpcode c r) s = .next ((s.takeDesc c r d none).complete c r (s.ring c r).issued 0x10 0) := by
  subst hf
  show execReservedOpcode c r s = _
  simp only [execReservedOpcode, hsub, State.issue, hcan, hturn, descReserved_of_not_subopOk hsub]
  rfl

theorem Ring.live_of_canIssueDesc {s : State} {c r d : Nat} (h : s.canIssueDesc c r d = true) : (s.ring c r).running = true := by
  simp only [State.canIssueDesc, State.descReady, Ring.live, Bool.and_eq_true] at h
  obtain ⟨⟨⟨⟨-, -, hrun⟩, -⟩, -⟩, -⟩ := h
  exact hrun

theorem reservedOpcode_row {s : State} {c r d : Nat} (hf : s.fetchDesc c r = d) (hsub : subopOk (dOp d) (dSub d) = false)
    (hcan : s.canIssueDesc c r d = true) (hturn : s.turn c r = true) : ∃ t : State, exec (.reservedOpcode c r) s = .next t ∧
      Took s t c r d (fun e => e.done = true ∧ e.status = 0x10) ∧ (t.ring c r).running = false := by
  obtain ⟨htook, -, hrun⟩ := State.takeDesc_completes s c r d none 0x10
  exact ⟨_, exec_reservedOpcode hf hsub hcan hturn, htook, hrun.trans (Bool.and_false _)⟩

/-- Settles O1, a row at a time. -/
theorem controlRowsComplete : Obligations.ControlRowsComplete := by
  unfold Obligations.ControlRowsComplete
  exact ⟨fun c r d s h => nop_row h, fun c r d s h => endDesc_row h, fun c r d s h => jump_row h, fun c r d s h => cursor_row h,
    fun c r d s h => barrier_row h, fun c r e u s he hu ht => barrierRelease_row he hu ht, fun c r d s h => eventWaitAtLeast_row h,
    fun c r d s h => eventWaitEqual_row h, fun c r e u s he hu => eventWaitTimeout_row he hu,
    fun c r e rest s ho hd hroom => descriptorRetire_row ho hd hroom, fun c r s h => completionRingService_row c r h,
    fun c r d s hf hsub hcan hturn => reservedOpcode_row hf hsub hcan hturn⟩

end Sys2Proof.Machine

/-! SUPPORT. The vector unit's descriptors (O2): what their writes hang on, the start of the unit, and each family of rows. -/

namespace Sys2Proof.Machine

/-! ### What the writes of a vector descriptor hang on -/

namespace SameRecords

variable {c : Nat} {s t : State}

theorem scaleByte (h : SameRecords c s t) (a r b : Nat) : t.scaleByte c a r b = s.scaleByte c a r b := by simp only [State.scaleByte, h.tsNat]

theorem srcVal (h : SameRecords c s t) (d r k code : Nat) : t.srcVal c d r k code = s.srcVal c d r k code := by
  simp only [State.srcVal, h.scaleByte]

theorem convRow (h : SameRecords c s t) (d r : Nat) : t.convRow c d r = s.convRow c d r := by
  simp only [State.convRow, h.tsCodes, h.srcVal, h.scaleByte]

theorem convert (h : SameRecords c s t) (d : Nat) : t.convert c d = s.convert c d := by simp only [State.convert, h.convRow]

theorem splitConv (h : SameRecords c s t) (d : Nat) : t.splitConv c d = s.splitConv c d := by simp only [State.splitConv, h.tsCodes]

theorem optUpdate (h : SameRecords c s t) (d : Nat) : t.optUpdate c d = s.optUpdate c d := by
  simp only [State.optUpdate, State.hyper, h.tsCodes, h.tsNat]

/-- A draw of random numbers hangs on the ring's cursor besides (R188). -/
theorem vector (h : SameRecords c s t) {r : Nat} (hctx : (t.ring c r).ctx = (s.ring c r).ctx) (hmicro : (t.ring c r).micro = (s.ring c r).micro)
    (hstage : (t.ring c r).stage = (s.ring c r).stage) (d : Nat) : t.vector c r d = s.vector c r d := by
  simp only [State.vector, State.vectorRow, h.tsCodes, h.ctx, hctx, hmicro, hstage]

end SameRecords

theorem State.vector_takeDesc (s : State) (c r d : Nat) (dl : Option Nat) (e : Nat) : (s.takeDesc c r d dl).vector c r e = s.vector c r e := by
  obtain ⟨q, hring, -⟩ := State.takeDesc_ring s c r d dl
  exact (State.sameRecords_takeDesc s c r d dl).vector (by rw [hring]) (by rw [hring]) (by rw [hring]) e

/-- Taking a descriptor changes neither its ranges and tiles nor whether they hold. -/
theorem State.touchOk_taken (s : State) (c r d : Nat) (dl : Option Nat) :
    (s.takeDesc c r d dl).touchOk c ((s.takeDesc c r d dl).ring c r).ctx ((s.takeDesc c r d dl).touch c ((s.takeDesc c r d dl).ring c r).ctx d) =
      s.touchOk c (s.ring c r).ctx (s.touch c (s.ring c r).ctx d) := by
  obtain ⟨-, -, -, -, hctx, -⟩ := State.takeDesc_keeps s c r d dl
  rw [hctx, State.takeDesc_touchOk, (State.sameRecords_takeDesc s c r d dl).touch]

/-! ### The start of the vector unit -/

theorem State.ring_startVec (s : State) (c r slot : Nat) (res : List Eff × Nat × Nat) (n r' : Nat) :
    (s.startVec c r slot res n).ring c r' = s.ring c r' := by
  unfold State.startVec
  extract_lets x s1
  exact State.ring_updCore_same s1 c r' _ fun _ => rfl

theorem State.vec_startVec (s : State) (c r slot : Nat) (res : List Eff × Nat × Nat) (n : Nat) : ((s.startVec c r slot res n).core c).vec =
    some { ring := r, slot := slot, ctx := (s.ring c r).ctx, due := s.clk.cycle + n, effs := res.1, status := res.2.1, flags := res.2.2 } := by
  unfold State.startVec
  extract_lets x s1
  rw [State.core_updCore]
  rfl

/-- The operation that a unit holds is that of the descriptor of ring r that the state s issues next, with these writes, status and flags. -/
def UnitOp.Runs (s : State) (c r : Nat) (res : List Eff × Nat × Nat) (u : UnitOp) : Prop :=
  u.ring = r ∧ u.slot = (s.ring c r).issued ∧ u.ctx = (s.ring c r).ctx ∧ (u.effs, u.status, u.flags) = res

/-- A descriptor whose ranges or tiles do not hold ends with ADDRESS (R172). -/
theorem State.runVec_refused {s : State} {c r slot d : Nat} {res : List Eff × Nat × Nat} {cycles : Option Nat}
    (h : s.touchOk c (s.ring c r).ctx (s.touch c (s.ring c r).ctx d) = false) : s.runVec c r slot d res cycles = s.complete c r slot 0x11 0 := by
  simp only [State.runVec, h]
  rfl

/-- A descriptor whose record holds a reserved value ends with RESERVED (R186). -/
theorem State.runVec_reserved {s : State} {c r slot d : Nat} {res : List Eff × Nat × Nat} {cycles : Option Nat}
    (h : s.touchOk c (s.ring c r).ctx (s.touch c (s.ring c r).ctx d) = true) (hst : res.2.1 = 0x10) :
    s.runVec c r slot d res cycles = s.complete c r slot 0x10 0 := by
  simp only [State.runVec, h, hst]
  rfl

/-- Any other starts the unit, for the cycles given. -/
theorem State.runVec_starts {s : State} {c r slot d : Nat} {res : List Eff × Nat × Nat} {cycles : Option Nat}
    (h : s.touchOk c (s.ring c r).ctx (s.touch c (s.ring c r).ctx d) = true) (hst : res.2.1 ≠ 0x10) :
    s.runVec c r slot d res cycles =
      match cycles with | some n => s.startVec c r slot res n | none => (s.startVec c r slot res s.freeCycles).draw := by
  simp only [State.runVec, h, if_neg hst]
  rfl

/-- The descriptor that is taken and starts the vector unit: it is in flight, and the unit holds its writes, status and flags until its cycles have passed. -/
theorem State.runVec_taken {s : State} {c r d : Nat} {res : List Eff × Nat × Nat} {cycles : Option Nat}
    (h : s.touchOk c (s.ring c r).ctx (s.touch c (s.ring c r).ctx d) = true) (hst : res.2.1 ≠ 0x10) :
    Took s ((s.takeDesc c r d none).runVec c r (s.ring c r).issued d res cycles) c r d (fun e => e.done = false) ∧
      ∃ u, (((s.takeDesc c r d none).runVec c r (s.ring c r).issued d res cycles).core c).vec = some u ∧ u.Runs s c r res ∧
        ∀ n, cycles = some n → u.due = s.clk.cycle + n := by
  obtain ⟨-, hclk, -, -, hctx, -⟩ := State.takeDesc_keeps s c r d none
  have htook : Took s (s.takeDesc c r d none) c r d (fun e => e.done = false) := (State.takeDesc_took s c r d none).mono fun e he => he.1
  rw [State.runVec_starts (by rwa [State.touchOk_taken]) hst]
  cases cycles with
  | some n =>
    refine ⟨htook.of_ring (by rw [State.ring_startVec]), _, State.vec_startVec .., ⟨rfl, rfl, hctx, rfl⟩, ?_⟩
    rintro _ ⟨⟩
    rw [hclk]
  | none =>
    have hring : ∀ t : State, t.draw.ring c r = t.ring c r := fun _ => rfl
    refine ⟨htook.of_ring (by rw [hring, State.ring_startVec]), _, State.vec_startVec .., ⟨rfl, rfl, hctx, rfl⟩, ?_⟩
    rintro _ ⟨⟩

/-! ### CONVERT and VECTOR -/

/-- The rows of CONVERT, each with its subop (R159). -/
def convertRows (c r : Nat) : List (Instr × Nat) :=
  [(.convertComputedScales c r, 0), (.convertSuppliedScales c r, 1), (.convertSplitTwo c r, 2), (.convertSplitThree c r, 3)]

/-- The rows of VECTOR, each with its subop (R160). -/
def vectorRows (c r : Nat) : List (Instr × Nat) :=
  [(.vectorAdd c r, 0x00), (.vectorSubtract c r, 0x01), (.vectorMultiply c r, 0x02), (.vectorFma c r, 0x03), (.vectorFmaP0 c r, 0x04),
    (.vectorMaximum c r, 0x05), (.vectorMinimum c r, 0x06), (.vectorExp c r, 0x08), (.vectorLog c r, 0x09), (.vectorRcp c r, 0x0A),
    (.vectorRsqrt c r, 0x0B), (.vectorSqrt c r, 0x0C), (.vectorSigmoid c r, 0x0D), (.vectorGelu c r, 0x0E), (.vectorSilu c r, 0x0F),
    (.vectorSoftmax c r, 0x10), (.vectorLayerNorm c r, 0x11), (.vectorRmsNorm c r, 0x12), (.vectorRowSum c r, 0x13),
    (.vectorRowMaximum c r, 0x14), (.vectorUniformRandom c r, 0x18), (.vectorDropout c r, 0x19)]

/-- Every row of a family runs the family's one meaning with its subop. -/
theorem exec_of_convert_row {i : Instr} {c r sb : Nat} (h : (i, sb) ∈ convertRows c r) (s : State) : exec i s = .next (s.execConv c r sb) := by
  unfold convertRows at h
  fin_cases h <;> rfl

theorem exec_of_vector_row {i : Instr} {c r sb : Nat} (h : (i, sb) ∈ vectorRows c r) (s : State) : exec i s = .next (s.execVec c r sb) := by
  unfold vectorRows at h
  fin_cases h <;> rfl

theorem exec_of_opt_row {i : Instr} {c r sb : Nat} (h : (i, sb) ∈ [(Instr.optUpdateAdam c r, 0), (.optUpdateMomentum c r, 1)]) (s : State) :
    exec i s = .next (s.execOpt c r sb) := by
  fin_cases h <;> rfl

/-- The writes and flags of a CONVERT of a subop. -/
def State.convertOf (s : State) (c d sb : Nat) : List Eff × Nat := if sb < 2 then s.convert c d else s.splitConv c d

theorem State.execConv_issues {s : State} {c r sb d : Nat} (h : s.Issues c r 0x20 sb d) : s.execConv c r sb =
    (s.takeDesc c r d none).runVec c r (s.ring c r).issued d ((s.convertOf c d sb).1, 0, (s.convertOf c d sb).2) none := by
  have hsame := State.sameRecords_takeDesc s c r d none
  rw [State.execConv, State.issue_issues h]
  simp only [noDeadline, hsame.convert, hsame.splitConv]
  rfl

theorem State.execVec_issues {s : State} {c r sb d : Nat} (h : s.Issues c r 0x30 sb d) : s.execVec c r sb =
    (s.takeDesc c r d none).runVec c r (s.ring c r).issued d ((s.vector c r d).1, 0, (s.vector c r d).2)
      (some (ceilDiv (fld d 28 2 * fld d 24 4) 512 * vectorCost sb)) := by
  rw [State.execVec, State.issue_issues h]
  simp only [noDeadline, State.vector_takeDesc]

/-- A taken descriptor whose ranges or tiles do not hold ends with ADDRESS, and its ring stops. -/
theorem State.runVec_taken_refused {s : State} {c r d : Nat} {res : List Eff × Nat × Nat} {cycles : Option Nat}
    (h : ¬ s.touchOk c (s.ring c r).ctx (s.touch c (s.ring c r).ctx d) = true) :
    Took s ((s.takeDesc c r d none).runVec c r (s.ring c r).issued d res cycles) c r d (fun e => e.done = true ∧ e.status = 0x11) ∧
      (((s.takeDesc c r d none).runVec c r (s.ring c r).issued d res cycles).ring c r).running = false := by
  obtain ⟨htook, -, hrun⟩ := State.takeDesc_completes s c r d none 0x11
  rw [State.runVec_refused (by rw [State.touchOk_taken]; simpa using h)]
  exact ⟨htook, hrun.trans (Bool.and_false _)⟩

theorem convert_row {s : State} {c r sb d : Nat} {i : Instr} (hi : exec i s = .next (s.execConv c r sb)) (h : s.Issues c r 0x20 sb d) :
    ∃ t : State, exec i s = .next t ∧
      (if s.touchOk c (s.ring c r).ctx (s.touch c (s.ring c r).ctx d) = true then
        Took s t c r d (fun e => e.done = false) ∧ ∃ u, (t.core c).vec = some u ∧ u.ring = r ∧ u.slot = (s.ring c r).issued
          ∧ u.ctx = (s.ring c r).ctx ∧ u.status = 0
          ∧ u.effs = (if sb < 2 then s.convert c d else s.splitConv c d).1 ∧ u.flags = (if sb < 2 then s.convert c d else s.splitConv c d).2
      else Took s t c r d (fun e => e.done = true ∧ e.status = 0x11) ∧ (t.ring c r).running = false) := by
  refine ⟨_, hi.trans (congrArg _ (State.execConv_issues h)), ?_⟩
  split
  · rename_i hok
    obtain ⟨htook, ⟨_, _, _, _, effs, status, flags⟩, hvec, ⟨hr, hslot, hctx, hres⟩, -⟩ :=
      State.runVec_taken (res := ((s.convertOf c d sb).1, 0, (s.convertOf c d sb).2)) (cycles := none) hok (by decide : (0 : Nat) ≠ 0x10)
    obtain ⟨heffs, hstatus, hflags⟩ : effs = (s.convertOf c d sb).1 ∧ status = 0 ∧ flags = (s.convertOf c d sb).2 := by simpa using hres
    exact ⟨htook, _, hvec, hr, hslot, hctx, hstatus, heffs, hflags⟩
  · rename_i hok
    exact State.runVec_taken_refused hok

theorem vector_row {s : State} {c r sb d : Nat} {i : Instr} (hi : exec i s = .next (s.execVec c r sb)) (h : s.Issues c r 0x30 sb d) :
    ∃ t : State, exec i s = .next t ∧
      (if s.touchOk c (s.ring c r).ctx (s.touch c (s.ring c r).ctx d) = true then
        Took s t c r d (fun e => e.done = false) ∧ ∃ u, (t.core c).vec = some u ∧ u.ring = r ∧ u.slot = (s.ring c r).issued
          ∧ u.ctx = (s.ring c r).ctx ∧ u.status = 0 ∧ u.effs = (s.vector c r d).1 ∧ u.flags = (s.vector c r d).2
          ∧ u.due = s.clk.cycle + ceilDiv (fld d 28 2 * fld d 24 4) 512 * vectorCost sb
      else Took s t c r d (fun e => e.done = true ∧ e.status = 0x11) ∧ (t.ring c r).running = false) := by
  refine ⟨_, hi.trans (congrArg _ (State.execVec_issues h)), ?_⟩
  split
  · rename_i hok
    obtain ⟨htook, ⟨_, _, _, _, effs, status, flags⟩, hvec, ⟨hr, hslot, hctx, hres⟩, hdue⟩ :=
      State.runVec_taken (res := ((s.vector c r d).1, 0, (s.vector c r d).2))
        (cycles := some (ceilDiv (fld d 28 2 * fld d 24 4) 512 * vectorCost sb)) hok (by decide : (0 : Nat) ≠ 0x10)
    obtain ⟨heffs, hstatus, hflags⟩ : effs = (s.vector c r d).1 ∧ status = 0 ∧ flags = (s.vector c r d).2 := by simpa using hres
    exact ⟨htook, _, hvec, hr, hslot, hctx, hstatus, heffs, hflags, hdue _ rfl⟩
  · rename_i hok
    exact State.runVec_taken_refused hok

/-! ### OPT_UPDATE -/

/-- With no pending update of its layer and parameters an OPT_UPDATE runs on the vector unit (R364). -/
theorem State.execOpt_issues {s : State} {c r sb d : Nat} (h : s.Issues c r 0x38 sb d) (hu : (s.ctx (s.ring c r).ctx).findUpdate c d = none) :
    s.execOpt c r sb = (s.takeDesc c r d none).runVec c r (s.ring c r).issued d (s.optUpdate c d) none := by
  obtain ⟨-, -, -, -, hctx, -⟩ := State.takeDesc_keeps s c r d none
  have hsame := State.sameRecords_takeDesc s c r d none
  rw [State.execOpt, State.issue_issues h]
  simp only [noDeadline, hctx, hsame.ctx, hu, hsame.optUpdate]

theorem optUpdate_row {s : State} {c r sb d : Nat} {i : Instr} (hi : exec i s = .next (s.execOpt c r sb)) (h : s.Issues c r 0x38 sb d)
    (hu : (s.ctx (s.ring c r).ctx).findUpdate c d = none) (hok : s.touchOk c (s.ring c r).ctx (s.touch c (s.ring c r).ctx d) = true) :
    ∃ t : State, exec i s = .next t ∧
      ((s.optUpdate c d).2.1 = 0x10 → Took s t c r d (fun e => e.done = true ∧ e.status = 0x10)) ∧
      ((s.optUpdate c d).2.1 ≠ 0x10 → Took s t c r d (fun e => e.done = false) ∧ ∃ u, (t.core c).vec = some u ∧ u.ring = r
          ∧ u.slot = (s.ring c r).issued ∧ u.ctx = (s.ring c r).ctx ∧ (u.effs, u.status, u.flags) = s.optUpdate c d) := by
  have hexec := hi.trans (congrArg _ (State.execOpt_issues h hu))
  generalize s.optUpdate c d = res at hexec ⊢
  refine ⟨_, hexec, fun hst => ?_, fun hst => ?_⟩
  · rw [State.runVec_reserved (by rwa [State.touchOk_taken]) hst]
    exact (State.takeDesc_completes s c r d none 0x10).1
  · obtain ⟨htook, u, hvec, ⟨hr, hslot, hctx, hres⟩, -⟩ := State.runVec_taken (cycles := none) hok hst
    exact ⟨htook, u, hvec, hr, hslot, hctx, hres⟩

/-- Settles O2: each family of rows runs its one meaning, which starts the unit or ends with the status of its rule. -/
theorem vectorRowsStart : Obligations.VectorRowsStart := by
  unfold Obligations.VectorRowsStart
  exact ⟨fun c r sb d s i hi h => convert_row (exec_of_convert_row hi s) h, fun c r sb d s i hi h => vector_row (exec_of_vector_row hi s) h,
    fun c r sb d s i hi h hu hok => optUpdate_row (exec_of_opt_row hi s) h hu hok⟩

end Sys2Proof.Machine

/-! SUPPORT. The ends of the units' operations, the update channel and the move unit (O3): an operation that ends or waits, the pending-update entries, and the
tiles of a TILE_MOVE. -/

namespace Sys2Proof.Machine

/-! ### An operation that ends, or waits for a migration -/

theorem State.endOp_of_not_stalls {s : State} {c x due : Nat} {es : List Eff} (fin : State → State) (h : (s.toCycle due).opStalls c x es = false) :
    s.endOp c x due es fin = fin ((s.toCycle due).applyEffs c x es) := if_neg (by simp [h])

theorem State.endOp_of_stalls {s : State} {c x due : Nat} {es : List Eff} (fin : State → State) (h : (s.toCycle due).opStalls c x es = true) :
    s.endOp c x due es fin = (s.toCycle due).rush x (effTiles es ++ (s.toCycle due).effT0 c es) := if_pos h

/-- The migration of a tile that a write waits for moves ahead (R204). -/
theorem State.front_rush {s : State} {x : Nat} {ts : List Nat} {m : Mig} (hm : m ∈ (s.rush x ts).migs) (hx : m.ctx = x) (ht : m.tile ∈ ts) :
    m.front = true := by
  obtain ⟨m0, -, rfl⟩ := List.mem_map.mp hm
  by_cases hmoved : m0.ctx = x ∧ ts.contains m0.tile = true
  · rw [if_pos hmoved]
  · rw [if_neg hmoved] at hx ht
    exact absurd ⟨hx, by simpa using ht⟩ hmoved

/-- A unit whose writes have taken effect: the change of the core frees the unit, and the descriptor completes with the status and flags it held (R169). -/
theorem State.unit_completes {s v : State} {c r slot : Nat} {e : OutDesc} {f : Core → Core} (hv : v.ring c r = s.ring c r) (hf : ∀ k, (f k).rings = k.rings)
    (he : e ∈ (s.ring c r).out) (hd : e.done = false) (hid : e.id = slot) (st fl : Nat) :
    ((v.updCore c f).complete c r slot st fl).mem = v.mem ∧
    (∃ rings q, ((v.updCore c f).complete c r slot st fl).core c = { f (v.core c) with rings := rings, sampleQ := q }) ∧
    ∃ e' ∈ (((v.updCore c f).complete c r slot st fl).ring c r).out, e'.id = e.id ∧ e'.desc = e.desc ∧ e'.done = true ∧ e'.status = st ∧ e'.flags = fl := by
  subst hid
  have hring : (v.updCore c f).ring c r = s.ring c r := (State.ring_updCore_same v c r f hf).trans hv
  have hcore : (v.updCore c f).core c = f (v.core c) := State.core_updCore ..
  generalize hw : v.updCore c f = w at hring hcore ⊢
  obtain ⟨rings, q, hcompl⟩ := State.core_completeIf w c r (fun d => d.id = e.id) st fl
  refine ⟨?_, ⟨rings, q, by rw [State.complete, hcompl, hcore]⟩, State.complete_mem (by rwa [hring]) hd st fl⟩
  rw [(State.complete_rel w ..).mem (by decide), ← hw]
  rfl

theorem opComplete_vec_row {s : State} {c : Nat} {u : UnitOp} {e : OutDesc} (hu : (s.core c).vec = some u)
    (hs : (s.toCycle u.due).opStalls c u.ctx u.effs = false) (he : e ∈ (s.ring c u.ring).out) (hd : e.done = false) (hid : e.id = u.slot) :
    ∃ t : State, exec (.opComplete c 0) s = .next t ∧ t.mem = ((s.toCycle u.due).applyEffs c u.ctx u.effs).mem ∧ (t.core c).vec = none ∧
      ∃ e' ∈ (t.ring c u.ring).out, e'.id = e.id ∧ e'.desc = e.desc ∧ e'.done = true ∧ e'.status = u.status ∧ e'.flags = u.flags := by
  have hrings : ((s.toCycle u.due).applyEffs c u.ctx u.effs).ring c u.ring = s.ring c u.ring := State.applyEffs_rings _ _ _ _ _ _
  obtain ⟨hmem, ⟨_, _, hcore⟩, hout⟩ := State.unit_completes (f := fun k => { k with vec := none }) hrings (fun _ => rfl) he hd hid u.status u.flags
  have hexec : exec (.opComplete c 0) s = .next ((((s.toCycle u.due).applyEffs c u.ctx u.effs).updCore c (fun k => { k with vec := none })).complete
      c u.ring u.slot u.status u.flags) := by
    show execOpComplete c 0 s = _
    simp only [execOpComplete, if_pos, hu, State.endOp_of_not_stalls _ hs]
  exact ⟨_, hexec, hmem, by rw [hcore], hout⟩

theorem opComplete_mov_row {s : State} {c : Nat} {u : UnitOp} {e : OutDesc} (hu : (s.core c).mov = some u)
    (hs : (s.toCycle u.due).opStalls c u.ctx u.effs = false) (he : e ∈ (s.ring c u.ring).out) (hd : e.done = false) (hid : e.id = u.slot) :
    ∃ t : State, exec (.opComplete c 1) s = .next t ∧ t.mem = ((s.toCycle u.due).applyEffs c u.ctx u.effs).mem ∧ (t.core c).mov = none ∧
      ∃ e' ∈ (t.ring c u.ring).out, e'.id = e.id ∧ e'.desc = e.desc ∧ e'.done = true ∧ e'.status = u.status ∧ e'.flags = u.flags := by
  have hrings : ((s.toCycle u.due).applyEffs c u.ctx u.effs).ring c u.ring = s.ring c u.ring := State.applyEffs_rings _ _ _ _ _ _
  obtain ⟨hmem, ⟨_, _, hcore⟩, hout⟩ := State.unit_completes (f := fun k => { k with mov := none }) hrings (fun _ => rfl) he hd hid u.status u.flags
  have hexec : exec (.opComplete c 1) s = .next ((((s.toCycle u.due).applyEffs c u.ctx u.effs).updCore c (fun k => { k with mov := none })).complete
      c u.ring u.slot u.status u.flags) := by
    show execOpComplete c 1 s = _
    simp only [execOpComplete, if_neg Nat.one_ne_zero, if_pos, hu, State.endOp_of_not_stalls _ hs]
  exact ⟨_, hexec, hmem, by rw [hcore], hout⟩

theorem opComplete_stalls_row {s : State} {c : Nat} {u : UnitOp} (hu : (s.core c).vec = some u) (hs : (s.toCycle u.due).opStalls c u.ctx u.effs = true) :
    ∃ t : State, exec (.opComplete c 0) s = .next t ∧ t.mem = s.mem ∧ t.cores = s.cores ∧
      ∀ m ∈ t.migs, m.ctx = u.ctx → m.tile ∈ effTiles u.effs → m.front = true := by
  have hexec : exec (.opComplete c 0) s =
      .next ((s.toCycle u.due).rush u.ctx (effTiles u.effs ++ (s.toCycle u.due).effT0 c u.effs)) := by
    show execOpComplete c 0 s = _
    simp only [execOpComplete, if_pos, hu, State.endOp_of_stalls _ hs]
  exact ⟨_, hexec, rfl, rfl, fun m hm hx ht => State.front_rush hm hx (List.mem_append_left _ ht)⟩

/-! ### The update channel -/

/-- A pending update of the core, layer and parameters named has had the change. -/
theorem Ctx.mem_updUpdates {k : Ctx} {c layer param : Nat} {f : Update → Update} {v : Update} (hv : v ∈ (k.updUpdates c layer param f).updates)
    (hc : v.core = c) (hl : v.layer = layer) (hp : v.param = param) : ∃ w, v = f w := by
  obtain ⟨w, -, rfl⟩ := List.mem_map.mp hv
  by_cases hnamed : w.core = c ∧ w.layer = layer ∧ w.param = param
  · exact ⟨w, if_pos hnamed⟩
  · rw [if_neg hnamed] at hc hl hp
    exact absurd ⟨hc, hl, hp⟩ hnamed

theorem opComplete_chan_row {s : State} {c n : Nat} {u : ChanOp} (hn : 2 ≤ n) (hu : (s.core c).chan = some u)
    (hs : (s.toCycle u.due).opStalls c u.ctx u.effs = false) :
    ∃ t : State, exec (.opComplete c n) s = .next t ∧ t.mem = ((s.toCycle u.due).applyEffs c u.ctx u.effs).mem ∧ (t.core c).chan = none ∧
      ∀ v ∈ (t.ctx u.ctx).updates, v.core = c → v.layer = u.layer → v.param = u.param → v.state = 2 ∧ v.status = u.status ∧ v.flags = u.flags := by
  have hexec : exec (.opComplete c n) s = .next ((((s.toCycle u.due).applyEffs c u.ctx u.effs).updCore c (fun k => { k with chan := none })).updCtx u.ctx
      (fun k => k.updUpdates c u.layer u.param (fun v => { v with state := 2, status := u.status, flags := u.flags }))) := by
    show execOpComplete c n s = _
    simp only [execOpComplete, if_neg (by omega : ¬ n = 0), if_neg (by omega : ¬ n = 1), hu, State.endOp_of_not_stalls _ hs]
  refine ⟨_, hexec, rfl, ?_, fun v hv hc hl hp => ?_⟩
  · rw [State.core_updCtx, State.core_updCore]
  · rw [State.ctx_updCtx] at hv
    obtain ⟨w, rfl⟩ := Ctx.mem_updUpdates hv hc hl hp
    exact ⟨rfl, rfl, rfl⟩

/-- What the gaffer puts on the update channel (R363): the writes, status and flags of the update, from the state in which its record is written. -/
def State.channelResult (s : State) (c x : Nat) (u : Update) : List Eff × Nat × Nat :=
  if s.touchOk c x (optTouch u.desc) then (s.prepHyper c x u.desc u.step).optUpdate c u.desc else ([], 0x11, 0)

/-- The channel of core c takes the first pending update with the writes, status and flags given, for a time that the manual leaves open (log 5). -/
def State.startChannel (s : State) (c x : Nat) (u : Update) (res : List Eff × Nat × Nat) : State :=
  let t := ((s.draw.updCtx x (fun k => k.updUpdates c u.layer u.param (fun v => { v with state := 1 }))).count x 201 1).count x (144 + c) s.freeCycles
  t.updCore c (fun k => { k with chan := some (.mk x u.layer u.param res.1 res.2.1 res.2.2 (t.clk.cycle + s.freeCycles)) })

theorem State.chan_startChannel (s : State) (c x : Nat) (u : Update) (res : List Eff × Nat × Nat) :
    ∃ due, ((s.startChannel c x u res).core c).chan = some (.mk x u.layer u.param res.1 res.2.1 res.2.2 due) :=
  ⟨_, congrArg Core.chan (State.core_updCore ..)⟩

theorem State.updates_startChannel (s : State) (c x : Nat) (u : Update) (res : List Eff × Nat × Nat) :
    ((s.startChannel c x u res).ctx x).updates = ((s.ctx x).updUpdates c u.layer u.param (fun v => { v with state := 1 })).updates := by
  let t := s.draw.updCtx x (fun k => k.updUpdates c u.layer u.param (fun v => { v with state := 1 }))
  obtain ⟨m, h⟩ := State.ctx_count t x 201 1 x
  obtain ⟨m', h'⟩ := State.ctx_count (t.count x 201 1) x (144 + c) s.freeCycles x
  show (((t.count x 201 1).count x (144 + c) s.freeCycles).ctx x).updates = _
  rw [h', h, State.ctx_updCtx]
  rfl

theorem exec_updateChannelIssue {s : State} {c x : Nat} {u : Update} (hn : s.nextUpdate c = some (x, u)) (hi : s.vecIdle c = true)
    (hz : s.noHazard c x (optTouch u.desc) = true) (hb : (s.ctx x).job.boundaryDue = false) : exec (.updateChannelIssue c) s =
      .next ((if s.touchOk c x (optTouch u.desc) then s.prepHyper c x u.desc u.step else s).startChannel c x u (s.channelResult c x u)) := by
  have hgo : ¬ (!s.vecIdle c || !s.noHazard c x (optTouch u.desc) || (s.ctx x).job.boundaryDue) = true := by simp [hi, hz, hb]
  show execUpdateChannelIssue c s = _
  simp only [State.channelResult, execUpdateChannelIssue, hn, if_neg hgo]
  cases hok : s.touchOk c x (optTouch u.desc) with
  | true =>
    simp only [if_true]
    generalize (s.prepHyper c x u.desc u.step).optUpdate c u.desc = res
    rfl
  | false =>
    simp only [Bool.false_eq_true, if_false]
    rfl

theorem updateChannelIssue_row {s : State} {c x : Nat} {u : Update} (hn : s.nextUpdate c = some (x, u)) (hi : s.vecIdle c = true)
    (hz : s.noHazard c x (optTouch u.desc) = true) (hb : (s.ctx x).job.boundaryDue = false) :
    ∃ t : State, exec (.updateChannelIssue c) s = .next t ∧
      (∃ h, (t.core c).chan = some h ∧ h.ctx = x ∧ h.layer = u.layer ∧ h.param = u.param
        ∧ (s.touchOk c x (optTouch u.desc) = true → (h.effs, h.status, h.flags) = (s.prepHyper c x u.desc u.step).optUpdate c u.desc)
        ∧ (s.touchOk c x (optTouch u.desc) = false → h.effs = [] ∧ h.status = 0x11))
      ∧ ∀ v ∈ (t.ctx x).updates, v.core = c → v.layer = u.layer → v.param = u.param → v.state = 1 := by
  have hexec := exec_updateChannelIssue hn hi hz hb
  generalize (if s.touchOk c x (optTouch u.desc) then s.prepHyper c x u.desc u.step else s) = s' at hexec
  obtain ⟨due, hchan⟩ := State.chan_startChannel s' c x u (s.channelResult c x u)
  refine ⟨_, hexec, ⟨_, hchan, rfl, rfl, rfl, fun hok => ?_, fun hok => ?_⟩, fun v hv hc hl hp => ?_⟩
  · show s.channelResult c x u = _
    exact if_pos hok
  · have hres : s.channelResult c x u = ([], 0x11, 0) := if_neg (by simp [hok])
    simp only [hres, and_self]
  · rw [State.updates_startChannel] at hv
    obtain ⟨w, rfl⟩ := Ctx.mem_updUpdates hv hc hl hp
    rfl

/-! ### TILE_MOVE -/

/-- The k-th write of a TILE_MOVE of a subop (R162). -/
def moveEff (sb d k : Nat) : Eff :=
  if sb = 0 then .loadTile (fld d 8 8 % 2 ^ 48 / tileBytes + k) (fld d 16 4 + k * fld d 24 4)
  else if sb = 1 then .storeTile (fld d 16 4 + k * fld d 24 4) (fld d 8 8 % 2 ^ 48 / tileBytes + k)
  else .copyTile (fld d 8 8 % 2 ^ 48 / tileBytes + k) (fld d 32 8 % 2 ^ 48 / tileBytes + k)

/-- The writes of a TILE_MOVE, one for each of its tiles. -/
def moveEffs (sb d : Nat) : List Eff := (List.range (fld d 20 2)).map (moveEff sb d)

theorem length_moveEffs (sb d : Nat) : (moveEffs sb d).length = fld d 20 2 := by rw [moveEffs, List.length_map, List.length_range]

theorem getElem?_moveEffs {sb d k : Nat} (h : k < fld d 20 2) : (moveEffs sb d)[k]? = some (moveEff sb d k) := by
  rw [moveEffs, List.getElem?_map, List.getElem?_range h, Option.map_some]

/-- The rows of TILE_MOVE, each with its subop (R162). -/
def moveRows (c r : Nat) : List (Instr × Nat) := [(.tileMoveLoad c r, 0), (.tileMoveStore c r, 1), (.tileMoveCopy c r, 2)]

theorem exec_of_move_row {i : Instr} {c r sb : Nat} (h : (i, sb) ∈ moveRows c r) (s : State) :
    exec i s = .next (s.execMove c r sb (moveEffs sb)) := by
  unfold moveRows at h
  fin_cases h <;> rfl

theorem State.moveTranslate_rings (s : State) (c x i : Nat) : SameRings s (s.moveTranslate c x i) := by
  unfold State.moveTranslate
  extract_lets r s1
  have h1 : SameRings s s1 := SameRings.updCore s c _ fun _ => rfl
  split
  · exact h1
  · exact h1

/-- A translation counts its misses, and changes no context besides (R195). -/
theorem State.ctx_moveTranslate (s : State) (c x i y : Nat) : ∃ m, (s.moveTranslate c x i).ctx y = { s.ctx y with counters := m } := by
  unfold State.moveTranslate
  extract_lets r s1
  split
  · exact State.ctx_count s1 x 195 1 y
  · exact ⟨(s.ctx y).counters, rfl⟩

/-- The state in which the move unit has translated the tiles of a descriptor. -/
def State.translated (s : State) (c x : Nat) (ts : List Nat) : State := ts.foldl (fun s i => s.moveTranslate c x i) s

theorem State.translated_rings (s : State) (c x : Nat) (ts : List Nat) : SameRings s (s.translated c x ts) :=
  SameRings.foldl (fun u i => State.moveTranslate_rings u c x i) ts s

theorem State.ctx_translated (s : State) (c x : Nat) (ts : List Nat) (y : Nat) : ∃ m, (s.translated c x ts).ctx y = { s.ctx y with counters := m } := by
  unfold State.translated
  induction ts generalizing s with
  | nil => exact ⟨(s.ctx y).counters, rfl⟩
  | cons t ts ih =>
    obtain ⟨m, h⟩ := ih (s.moveTranslate c x t)
    obtain ⟨m', h'⟩ := State.ctx_moveTranslate s c x t y
    exact ⟨m, by rw [List.foldl_cons, h, h']⟩

theorem State.revoked_congr {s t : State} {x : Nat} (h : ∃ m, t.ctx x = { s.ctx x with counters := m }) : t.revoked x = s.revoked x := by
  obtain ⟨m, h⟩ := h
  funext i
  unfold State.revoked
  rw [h]
  rfl

/-- A tile of the descriptor that ring r issues next lies in a window that is revoked (R215). -/
def State.moveRevoked (s : State) (c r d : Nat) : Bool :=
  ((s.touch c (s.ring c r).ctx d).tileReads ++ (s.touch c (s.ring c r).ctx d).tileWrites).any (s.revoked (s.ring c r).ctx)

/-- The state in which ring r's descriptor is taken and its tiles are translated. -/
def State.takenMove (s : State) (c r d : Nat) : State :=
  (s.takeDesc c r d none).translated c (s.ring c r).ctx
    ((s.touch c (s.ring c r).ctx d).tileReads ++ (s.touch c (s.ring c r).ctx d).tileWrites)

theorem State.revoked_takenMove (s : State) (c r d : Nat) : (s.takenMove c r d).revoked (s.ring c r).ctx = s.revoked (s.ring c r).ctx := by
  obtain ⟨m, h⟩ := State.ctx_translated (s.takeDesc c r d none) c (s.ring c r).ctx
    ((s.touch c (s.ring c r).ctx d).tileReads ++ (s.touch c (s.ring c r).ctx d).tileWrites) (s.ring c r).ctx
  refine State.revoked_congr ⟨m, h.trans ?_⟩
  rw [(State.sameRecords_takeDesc s c r d none).ctx]

/-- The move unit takes the writes of a descriptor, for a time that the manual leaves open (log 5). -/
def State.startMove (s : State) (c r d : Nat) (es : List Eff) : State :=
  (s.takenMove c r d).draw.updCore c (fun k => { k with
    mov := some (.mk r (s.ring c r).issued (s.ring c r).ctx ((s.takenMove c r d).clk.cycle + (s.takenMove c r d).freeCycles) es 0 0) })

theorem State.execMove_refused {s : State} {c r sb d : Nat} (effs : Nat → List Eff) (h : s.Issues c r 0x40 sb d)
    (hok : s.touchOk c (s.ring c r).ctx (s.touch c (s.ring c r).ctx d) = false) :
    s.execMove c r sb effs = (s.takeDesc c r d none).complete c r (s.ring c r).issued 0x11 0 := by
  have hno := (State.touchOk_taken s c r d none).trans hok
  rw [State.execMove, State.issue_issues h]
  simp only [noDeadline, hno, Bool.not_false, if_true]

theorem State.execMove_goes {s : State} {c r sb d : Nat} (effs : Nat → List Eff) (h : s.Issues c r 0x40 sb d)
    (hok : s.touchOk c (s.ring c r).ctx (s.touch c (s.ring c r).ctx d) = true) :
    s.execMove c r sb effs = if s.moveRevoked c r d then (s.takenMove c r d).complete c r (s.ring c r).issued 0x1A 0
      else s.startMove c r d (effs d) := by
  obtain ⟨-, -, -, -, hctx, -⟩ := State.takeDesc_keeps s c r d none
  rw [State.execMove, State.issue_issues h, State.moveRevoked, ← State.revoked_takenMove s c r d]
  simp only [noDeadline, hctx, (State.sameRecords_takeDesc s c r d none).touch, State.takeDesc_touchOk, hok, Bool.not_true, Bool.false_eq_true, if_false]
  rfl

/-- The ring is as it is when the descriptor is taken: the translation touches none. -/
theorem State.ring_takenMove (s : State) (c r d : Nat) : (s.takenMove c r d).ring c r = (s.takeDesc c r d none).ring c r :=
  State.translated_rings _ _ _ _ c r

theorem State.ring_startMove (s : State) (c r d : Nat) (es : List Eff) : (s.startMove c r d es).ring c r = (s.takeDesc c r d none).ring c r := by
  rw [← State.ring_takenMove]
  exact State.ring_updCore_same (s.takenMove c r d).draw c r _ fun _ => rfl

theorem State.mov_startMove (s : State) (c r d : Nat) (es : List Eff) :
    ∃ due, ((s.startMove c r d es).core c).mov = some (.mk r (s.ring c r).issued (s.ring c r).ctx due es 0 0) :=
  ⟨_, congrArg Core.mov (State.core_updCore ..)⟩

/-- A descriptor whose tiles were translated ends with a status. -/
theorem State.takenMove_complete (s : State) (c r d st : Nat) :
    Took s ((s.takenMove c r d).complete c r (s.ring c r).issued st 0) c r d (fun e => e.done = true ∧ e.status = st) := by
  obtain ⟨e, htaken, hslot, hid, hdesc, hdone, -⟩ := State.takeDesc_ring s c r d none
  have hring := (State.ring_takenMove s c r d).trans htaken
  have hcompl := State.complete_ring _ c r _ st 0 (⟨e, by rw [hring]; simp, hdone, hid⟩ : (s.takenMove c r d).inFlight c r (s.ring c r).issued)
  rw [hring] at hcompl
  refine ⟨by rw [hcompl]; simp, e.complete st 0 ((s.takenMove c r d).fabricNs (s.ring c r).ctx), ?_, hslot, hdesc, rfl, rfl⟩
  rw [hcompl]
  simp [hdone, hid]

theorem tileMove_row {s : State} {c r sb d : Nat} {i : Instr} (hi : exec i s = .next (s.execMove c r sb (moveEffs sb))) (h : s.Issues c r 0x40 sb d) :
    ∃ t : State, exec i s = .next t ∧
      (s.touchOk c (s.ring c r).ctx (s.touch c (s.ring c r).ctx d) = true → s.moveRevoked c r d = false →
        Took s t c r d (fun e => e.done = false) ∧ ∃ u, (t.core c).mov = some u ∧ u.ring = r ∧ u.slot = (s.ring c r).issued ∧ u.ctx = (s.ring c r).ctx
          ∧ u.status = 0 ∧ u.effs.length = fld d 20 2 ∧ ∀ k < fld d 20 2, u.effs[k]? = some (moveEff sb d k))
      ∧ (s.touchOk c (s.ring c r).ctx (s.touch c (s.ring c r).ctx d) = true → s.moveRevoked c r d = true →
        Took s t c r d (fun e => e.done = true ∧ e.status = 0x1A))
      ∧ (s.touchOk c (s.ring c r).ctx (s.touch c (s.ring c r).ctx d) = false → Took s t c r d (fun e => e.done = true ∧ e.status = 0x11)) := by
  refine ⟨_, hi, fun hok hrev => ?_, fun hok hrev => ?_, fun hok => ?_⟩
  · rw [State.execMove_goes _ h hok, if_neg (by simp [hrev])]
    obtain ⟨due, hmov⟩ := State.mov_startMove s c r d (moveEffs sb d)
    refine ⟨((State.takeDesc_took s c r d none).mono fun e he => he.1).of_ring (by rw [State.ring_startMove]), _, hmov, rfl, rfl, rfl, rfl, ?_, fun k hk => ?_⟩
    · exact length_moveEffs sb d
    · exact getElem?_moveEffs hk
  · rw [State.execMove_goes _ h hok, if_pos hrev]
    exact State.takenMove_complete s c r d 0x1A
  · rw [State.execMove_refused _ h hok]
    exact (State.takeDesc_completes s c r d none 0x11).1

/-- Settles O3: what each unit's end does, the update channel, and the move unit. -/
theorem unitRowsComplete : Obligations.UnitRowsComplete := by
  unfold Obligations.UnitRowsComplete
  exact ⟨fun c u e s hu hs he hd hid => opComplete_vec_row hu hs he hd hid, fun c u e s hu hs he hd hid => opComplete_mov_row hu hs he hd hid,
    fun c n u s hn hu hs => opComplete_chan_row hn hu hs, fun c u s hu hs => opComplete_stalls_row hu hs,
    fun c x u s hn hi hz hb => updateChannelIssue_row hn hi hz hb, fun c r sb d s i hi h => tileMove_row (exec_of_move_row hi s) h⟩

end Sys2Proof.Machine

/-! SUPPORT. The frame of the descriptors that start a unit (O39): what each operation of the tile-op queue leaves of the other cores, rings and contexts. -/

namespace Sys2Proof.Machine

/-- From s to t every core but c, every ring of c but r, and every context outside xs keep all they hold, and ring r keeps its base, size and context. -/
structure CoreAlone (c r : Nat) (xs : Nat → Prop) (s t : State) : Prop where
  core : ∀ k, k ≠ c → t.core k = s.core k
  ring : ∀ q, q ≠ r → t.ring c q = s.ring c q
  base : (t.ring c r).base = (s.ring c r).base
  size : (t.ring c r).size = (s.ring c r).size
  ringCtx : (t.ring c r).ctx = (s.ring c r).ctx
  ctx : ∀ y, ¬ xs y → t.ctx y = s.ctx y

namespace CoreAlone

variable {c r : Nat} {xs : Nat → Prop} {s t u : State}

theorem refl (s : State) : CoreAlone c r xs s s := ⟨fun _ _ => rfl, fun _ _ => rfl, rfl, rfl, rfl, fun _ _ => rfl⟩

theorem trans (h : CoreAlone c r xs s t) (g : CoreAlone c r xs t u) : CoreAlone c r xs s u where
  core k hk := (g.core k hk).trans (h.core k hk)
  ring q hq := (g.ring q hq).trans (h.ring q hq)
  base := g.base.trans h.base
  size := g.size.trans h.size
  ringCtx := g.ringCtx.trans h.ringCtx
  ctx y hy := (g.ctx y hy).trans (h.ctx y hy)

theorem foldl {α : Type} {f : State → α → State} (hf : ∀ s a, CoreAlone c r xs s (f s a)) (l : List α) (s : State) : CoreAlone c r xs s (l.foldl f s) := by
  induction l generalizing s with
  | nil => exact refl s
  | cons a l ih => exact (hf s a).trans (ih _)

theorem of_sameCores (hcores : t.cores = s.cores) (hctx : ∀ y, ¬ xs y → t.ctx y = s.ctx y) : CoreAlone c r xs s t where
  core k _ := State.core_congr hcores k
  ring q _ := State.ring_congr hcores c q
  base := by rw [State.ring_congr hcores]
  size := by rw [State.ring_congr hcores]
  ringCtx := by rw [State.ring_congr hcores]
  ctx := hctx

/-- An operation whose frame holds neither cores nor contexts. -/
theorem of_rel {l : List Fld} (h : Rel l s t) (hl : Fld.cores ∉ l ∧ Fld.ctxs ∉ l) : CoreAlone c r xs s t :=
  of_sameCores (h.cores hl.1) fun y _ => State.ctx_congr (h.ctxs hl.2) y

/-- A change of core c that leaves its rings. -/
theorem updCore (s : State) (f : Core → Core) (hf : ∀ k, (f k).rings = k.rings) : CoreAlone c r xs s (s.updCore c f) where
  core _ hk := State.core_updCore_ne _ _ hk
  ring q _ := State.ring_updCore_same s c q f hf
  base := by rw [State.ring_updCore_same s c r f hf]
  size := by rw [State.ring_updCore_same s c r f hf]
  ringCtx := by rw [State.ring_updCore_same s c r f hf]
  ctx _ _ := rfl

theorem updCtx {x : Nat} (s : State) (f : Ctx → Ctx) (hx : xs x) : CoreAlone c r xs s (s.updCtx x f) :=
  of_sameCores rfl fun _ hy => State.ctx_updCtx_ne _ _ fun h => hy (h ▸ hx)

theorem count {x : Nat} (s : State) (i k : Nat) (hx : xs x) : CoreAlone c r xs s (s.count x i k) := updCtx s _ hx

/-- A change of ring r that leaves its place and its context. -/
theorem updRing (s : State) (f : Ring → Ring) (hf : ∀ g, (f g).base = g.base ∧ (f g).size = g.size ∧ (f g).ctx = g.ctx) :
    CoreAlone c r xs s (s.updRing c r f) where
  core _ hk := State.core_updCore_ne _ _ hk
  ring q hq := by
    rw [State.ring, State.updRing, State.core_updCore, Core.updRing, Core.ring_setRing_ne _ _ hq]
    rfl
  base := by rw [State.ring_updRing]; exact (hf _).1
  size := by rw [State.ring_updRing]; exact (hf _).2.1
  ringCtx := by rw [State.ring_updRing]; exact (hf _).2.2
  ctx _ _ := rfl

end CoreAlone

/-! ### The operations of the queue -/

section

variable {c r : Nat} {xs : Nat → Prop}

theorem State.queueSamples_alone (s : State) (g : Ring) (ds : List OutDesc) (hx : xs g.ctx) : CoreAlone c r xs s (s.queueSamples c g ds) := by
  refine CoreAlone.foldl (fun u d => ?_) ds s
  split
  · exact CoreAlone.refl u
  · split
    · exact CoreAlone.updCore u _ fun _ => rfl
    · exact CoreAlone.count u _ _ hx

theorem State.complete_alone (s : State) (id st fl : Nat) (hx : xs (s.ring c r).ctx) : CoreAlone c r xs s (s.complete c r id st fl) := by
  unfold State.complete State.completeIf
  extract_lets g now hit s1 s2
  split
  · exact CoreAlone.refl s
  · have h1 : CoreAlone c r xs s s1 := CoreAlone.updRing s _ fun _ => ⟨rfl, rfl, rfl⟩
    have h2 : CoreAlone c r xs s1 s2 := by
      unfold s2
      split
      · exact CoreAlone.count s1 _ _ hx
      · exact CoreAlone.refl s1
    exact (h1.trans h2).trans (State.queueSamples_alone s2 g hit hx)

theorem State.takeDesc_alone (s : State) (d : Nat) (dl : Option Nat) : CoreAlone c r xs s (s.takeDesc c r d dl) := by
  obtain ⟨e, n, h, -⟩ := State.takeDesc_spec s c r d dl
  obtain ⟨hctxs, -, -, -, hctx, hsize, hbase⟩ := State.takeDesc_keeps s c r d dl
  refine ⟨fun k hk => ?_, fun q hq => ?_, hbase, hsize, hctx, fun y _ => State.ctx_congr hctxs y⟩
  · rw [h, State.core_setCore_ne _ _ hk]
  · rw [h, State.ring, State.core_setCore]
    exact Core.ring_setRing_ne _ _ hq

theorem State.noteWait_alone (s : State) (d : Nat) : CoreAlone c r xs s (s.noteWait c r d) := by
  unfold State.noteWait
  split
  · exact CoreAlone.updRing s _ fun _ => ⟨rfl, rfl, rfl⟩
  · exact CoreAlone.refl s

/-- The issue of a descriptor touches the core and the ring's context alone, when what the row runs does. -/
theorem State.issue_alone {s : State} {op sb : Nat} {dl : State → Nat → Option Nat} {run : State → Nat → Nat → State} (hx : xs (s.ring c r).ctx)
    (hrun : ∀ u id d, xs (u.ring c r).ctx → CoreAlone c r xs u (run u id d)) : CoreAlone c r xs s (s.issue c r op sb dl run) := by
  have htaken : ∀ d dl, xs ((s.takeDesc c r d dl).ring c r).ctx := by
    intro d dl
    rw [(State.takeDesc_alone (xs := xs) s d dl).ringCtx]
    exact hx
  unfold State.issue
  extract_lets d id
  split
  · split
    · exact (State.takeDesc_alone s d none).trans (State.complete_alone _ id 0x10 0 (htaken d none))
    · exact (State.takeDesc_alone s d _).trans (hrun _ id d (htaken d _))
  · split
    · exact State.noteWait_alone s d
    · exact CoreAlone.refl s

/-! ### The rows -/

theorem State.startVec_alone (s : State) (slot : Nat) (res : List Eff × Nat × Nat) (n : Nat) (hx : xs (s.ring c r).ctx) :
    CoreAlone c r xs s (s.startVec c r slot res n) := by
  unfold State.startVec
  extract_lets x s1
  exact (CoreAlone.count s _ _ hx).trans (CoreAlone.updCore s1 _ fun _ => rfl)

theorem State.runVec_alone (s : State) (slot d : Nat) (res : List Eff × Nat × Nat) (cycles : Option Nat) (hx : xs (s.ring c r).ctx) :
    CoreAlone c r xs s (s.runVec c r slot d res cycles) := by
  unfold State.runVec
  extract_lets x
  split
  · exact State.complete_alone s slot 0x11 0 hx
  split
  · exact State.complete_alone s slot 0x10 0 hx
  split
  · exact State.startVec_alone s slot res _ hx
  · exact (State.startVec_alone s slot res _ hx).trans (CoreAlone.of_rel (State.draw_rel _) (by decide))

theorem State.execConv_alone (s : State) (sb : Nat) (hx : xs (s.ring c r).ctx) : CoreAlone c r xs s (s.execConv c r sb) :=
  State.issue_alone hx fun u id d hu => State.runVec_alone u id d _ none hu

theorem State.execVec_alone (s : State) (sb : Nat) (hx : xs (s.ring c r).ctx) : CoreAlone c r xs s (s.execVec c r sb) :=
  State.issue_alone hx fun u id d hu => State.runVec_alone u id d _ _ hu

theorem State.moveTranslate_alone (s : State) {x : Nat} (i : Nat) (hx : xs x) : CoreAlone c r xs s (s.moveTranslate c x i) := by
  unfold State.moveTranslate
  extract_lets p s1
  have h1 : CoreAlone c r xs s s1 := CoreAlone.updCore s _ fun _ => rfl
  split
  · exact h1.trans (CoreAlone.count s1 _ _ hx)
  · exact h1

theorem State.execMove_alone (s : State) (sb : Nat) (effs : Nat → List Eff) (hx : xs (s.ring c r).ctx) : CoreAlone c r xs s (s.execMove c r sb effs) := by
  refine State.issue_alone hx fun u id d hu => ?_
  extract_lets x t u1 n u2
  split
  · exact State.complete_alone u id 0x11 0 hu
  · have h1 : CoreAlone c r xs u u1 := CoreAlone.foldl (fun v i => State.moveTranslate_alone v i hu) _ u
    split
    · exact h1.trans (State.complete_alone u1 id 0x1A 0 (by rwa [h1.ringCtx]))
    · have h2 : CoreAlone c r xs u1 u2 := CoreAlone.of_rel (State.draw_rel u1) (by decide)
      exact (h1.trans h2).trans (CoreAlone.updCore u2 _ fun _ => rfl)

theorem execNop_alone (s : State) (hx : xs (s.ring c r).ctx) : ∃ t : State, exec (.nop c r) s = .next t ∧ CoreAlone c r xs s t :=
  ⟨_, rfl, State.issue_alone hx fun u id _ hu => State.complete_alone u id 0 0 hu⟩

theorem execEndDesc_alone (s : State) (hx : xs (s.ring c r).ctx) : ∃ t : State, exec (.endDesc c r) s = .next t ∧ CoreAlone c r xs s t :=
  ⟨_, rfl, State.issue_alone hx fun u id _ hu =>
    (State.complete_alone u id 0 0 hu).trans (CoreAlone.updRing _ _ fun _ => ⟨rfl, rfl, rfl⟩)⟩

theorem execCursor_alone (s : State) (hx : xs (s.ring c r).ctx) : ∃ t : State, exec (.cursor c r) s = .next t ∧ CoreAlone c r xs s t :=
  ⟨_, rfl, State.issue_alone hx fun u id _ hu =>
    (State.complete_alone u id 0 0 hu).trans (CoreAlone.updRing _ _ fun _ => ⟨rfl, rfl, rfl⟩)⟩

theorem execJump_alone (s : State) (hx : xs (s.ring c r).ctx) : ∃ t : State, exec (.jump c r) s = .next t ∧ CoreAlone c r xs s t := by
  refine ⟨_, rfl, State.issue_alone hx fun u id d hu => ?_⟩
  split
  · exact (State.complete_alone u id 0 0 hu).trans (CoreAlone.updRing _ _ fun _ => ⟨rfl, rfl, rfl⟩)
  · exact State.complete_alone u id 0x11 0 hu

end

/-- The descriptors that start a unit, an OPT_UPDATE aside, and the control descriptors that complete at issue. -/
def startRows (c r : Nat) : List Instr :=
  [Instr.convertComputedScales c r, .convertSuppliedScales c r, .convertSplitTwo c r, .convertSplitThree c r, .vectorAdd c r, .vectorSubtract c r,
        .vectorMultiply c r, .vectorFma c r, .vectorFmaP0 c r, .vectorMaximum c r, .vectorMinimum c r, .vectorExp c r, .vectorLog c r, .vectorRcp c r,
        .vectorRsqrt c r, .vectorSqrt c r, .vectorSigmoid c r, .vectorGelu c r, .vectorSilu c r] ++
      [Instr.vectorSoftmax c r, .vectorLayerNorm c r, .vectorRmsNorm c r, .vectorRowSum c r, .vectorRowMaximum c r, .vectorUniformRandom c r, .vectorDropout c r,
        .tileMoveLoad c r, .tileMoveStore c r, .tileMoveCopy c r, .nop c r, .endDesc c r, .jump c r, .cursor c r]

theorem startsUnit_cases {c r : Nat} {i : Instr} (h : i ∈ startRows c r) :
    (∃ sb, (i, sb) ∈ convertRows c r) ∨ (∃ sb, (i, sb) ∈ vectorRows c r) ∨ (∃ sb, (i, sb) ∈ moveRows c r) ∨
      i = .nop c r ∨ i = .endDesc c r ∨ i = .jump c r ∨ i = .cursor c r := by
  unfold convertRows vectorRows moveRows
  unfold startRows at h
  rcases List.mem_append.mp h with h | h
  · fin_cases h <;> simp
  · fin_cases h <;> simp

/-- What the first clause says of the state after a descriptor of ring r that starts a unit. -/
theorem CoreAlone.started {c r : Nat} {s t : State} (h : CoreAlone c r (· = (s.ring c r).ctx) s t) (hl : Only [.fresh, .cores, .ctxs] s t) :
    Only [.fresh, .cores, .ctxs] s t ∧ (∀ k, k ≠ c → t.core k = s.core k) ∧ (∀ y, y ≠ (s.ring c r).ctx → t.ctx y = s.ctx y) ∧
      (∀ q, q ≠ r → t.ring c q = s.ring c q) ∧ (t.ring c r).base = (s.ring c r).base ∧ (t.ring c r).size = (s.ring c r).size :=
  ⟨hl, h.core, h.ctx, h.ring, h.base, h.size⟩

/-- A command's frame, for the state it answers. -/
theorem only_of_exec {i : Instr} {s t : State} {l : List Fld} (h : exec i s = .next t) (hl : subF (touches i) l = true) : Only l s t := by
  obtain ⟨u, hu, hrel⟩ := exec_next s i
  cases hu.symm.trans h
  exact hrel.only.mono hl

theorem startsUnit_row {c r : Nat} {i : Instr} (s : State) (h : i ∈ startRows c r) :
    ∃ t : State, exec i s = .next t ∧ CoreAlone c r (· = (s.ring c r).ctx) s t ∧ Only [.fresh, .cores, .ctxs] s t := by
  rcases startsUnit_cases h with ⟨sb, hi⟩ | ⟨sb, hi⟩ | ⟨sb, hi⟩ | rfl | rfl | rfl | rfl
  · exact ⟨_, exec_of_convert_row hi s, State.execConv_alone s sb rfl, (State.execConv_rel s c r sb).only⟩
  · exact ⟨_, exec_of_vector_row hi s, State.execVec_alone s sb rfl, (State.execVec_rel s c r sb).only⟩
  · exact ⟨_, exec_of_move_row hi s, State.execMove_alone s sb _ rfl, (State.execMove_rel s c r sb _).only⟩
  · obtain ⟨t, ht, halone⟩ := execNop_alone (c := c) (r := r) (xs := (· = (s.ring c r).ctx)) s rfl
    exact ⟨t, ht, halone, only_of_exec ht rfl⟩
  · obtain ⟨t, ht, halone⟩ := execEndDesc_alone (c := c) (r := r) (xs := (· = (s.ring c r).ctx)) s rfl
    exact ⟨t, ht, halone, only_of_exec ht rfl⟩
  · obtain ⟨t, ht, halone⟩ := execJump_alone (c := c) (r := r) (xs := (· = (s.ring c r).ctx)) s rfl
    exact ⟨t, ht, halone, only_of_exec ht rfl⟩
  · obtain ⟨t, ht, halone⟩ := execCursor_alone (c := c) (r := r) (xs := (· = (s.ring c r).ctx)) s rfl
    exact ⟨t, ht, halone, only_of_exec ht rfl⟩

/-! ### OPT_UPDATE, whose record the gaffer may write first -/

/-- The frame with no claim on the contexts: a write into the tile store marks the T0 tiles of any context. -/
abbrev CoreAlone.anyCtx (c r : Nat) : State → State → Prop := CoreAlone c r (fun _ => True)

theorem CoreAlone.of_cores {c r : Nat} {s t : State} {l : List Fld} (h : Rel l s t) (hl : Fld.cores ∉ l) : CoreAlone.anyCtx c r s t :=
  CoreAlone.of_sameCores (h.cores hl) fun _ hy => absurd trivial hy

theorem State.tsWrite_alone (s : State) (c r a : Nat) (data : List Byte) : CoreAlone.anyCtx c r s (s.tsWrite c a data) := by
  unfold State.tsWrite
  refine CoreAlone.foldl (fun u w => ?_) _ s
  extract_lets lo hi part
  split
  · exact CoreAlone.of_cores (State.writeTile_rel ..) (by decide)
  · exact (CoreAlone.of_cores (State.memWrite_rel u (tsPhys c lo) part) (by decide)).trans (CoreAlone.updCore _ _ fun _ => rfl)

theorem State.writeHyper_alone (s : State) (c r x a step : Nat) : CoreAlone.anyCtx c r s (s.writeHyper c x a step) := by
  unfold State.writeHyper
  extract_lets job lr ratioOf s1
  have h1 : CoreAlone.anyCtx c r s s1 := State.tsWrite_alone ..
  have hdraw : ∀ u : State, CoreAlone.anyCtx c r u u.draw := fun u => CoreAlone.of_cores (State.draw_rel u) (by decide)
  exact ((h1.trans (State.tsWrite_alone ..)).trans (hdraw _)).trans (hdraw _)

theorem State.prepHyper_alone (s : State) (c r x d step : Nat) : CoreAlone.anyCtx c r s (s.prepHyper c x d step) := by
  unfold State.prepHyper
  extract_lets a
  split
  · exact CoreAlone.refl s
  · exact (State.writeHyper_alone s c r x a step).trans (CoreAlone.updCtx _ _ trivial)

theorem State.execOpt_alone (s : State) (c r sb : Nat) : CoreAlone.anyCtx c r s (s.execOpt c r sb) := by
  refine State.issue_alone trivial fun u id d _ => ?_
  extract_lets x
  split
  · split
    · exact (CoreAlone.updCtx u _ trivial).trans (State.complete_alone _ id _ _ trivial)
    · extract_lets u1
      have h1 : CoreAlone.anyCtx c r u u1 := (CoreAlone.updCtx u _ trivial).trans (State.prepHyper_alone ..)
      exact h1.trans (State.runVec_alone u1 id d _ none trivial)
  · exact State.runVec_alone u id d _ none trivial

/-- Settles O39, from the frame `CoreAlone` of each operation that an issue chains. -/
theorem startingAUnitChangesItsCoreAlone : Obligations.StartingAUnitChangesItsCoreAlone := by
  unfold Obligations.StartingAUnitChangesItsCoreAlone
  refine ⟨fun c r i s hi => ?_, fun c r i s hi => ?_⟩
  · obtain ⟨t, ht, halone, honly⟩ := startsUnit_row s hi
    exact ⟨t, ht, halone.started honly⟩
  · obtain ⟨sb, hrow⟩ : ∃ sb, (i, sb) ∈ [(Instr.optUpdateAdam c r, 0), (.optUpdateMomentum c r, 1)] := by
      fin_cases hi <;> simp
    have halone := State.execOpt_alone s c r sb
    exact ⟨_, exec_of_opt_row hrow s, (State.execOpt_rel s c r sb).only, halone.core, halone.ring, halone.base, halone.size⟩

end Sys2Proof.Machine

/-! SUPPORT. Where a write into the tile store lands (O38): the window of a T0 tile is found in bank 0 of the tile table, and its bytes go through the bank that ACTIVE
selects. -/

namespace Sys2Proof.Machine

/-- A context whose ACTIVE bank is 1 (R410): bank 0 has its weight tile 0 in window 0 of core 0's tile store, bank 1 has it in frame 0 of T1. -/
def twoBankCtx : Ctx :=
  { tiles := [(0, { valid := true, tier := 0, core := 0, frame := 0 })]
    bank1 := [(0, { valid := true, tier := 1, frame := 0 })]
    weights := { regions := [(0, 1)], active := 1 } }

/-- The vector unit of core 0 ends an operation of that context that writes one byte at tile-store address 0. -/
def twoBankState : State :=
  { ctxs := [(0, twoBankCtx)]
    cores := [(0, { vec := some { ring := 0, slot := 0, ctx := 0, due := 0, effs := [.ts 0 [1#8]], status := 0, flags := 0 } })] }

theorem twoBankState_newest (y : Nat) : (twoBankState.ctx y).sec.newest = none := by
  simp only [State.ctx, Map.getOr, twoBankState, Map.find]
  split <;> rfl

/-- The byte lands in the T1 frame of bank 1, at 2⁴⁰, and not in the tile store. -/
theorem twoBankState_opComplete : ∃ t : State, exec (.opComplete 0 0) twoBankState = .next t ∧ Memory.get t.mem (2 ^ 40) = 1#8 :=
  ⟨_, rfl, by decide +kernel⟩

/-- Refutes O38: a write at tile-store address 0 stores to the T1 frame at 2⁴⁰ when bank 0 has a weight tile in that window and ACTIVE is 1. -/
theorem not_memoryChangesOnlyWhereWritten : ¬ Obligations.MemoryChangesOnlyWhereWritten := by
  unfold Obligations.MemoryChangesOnlyWhereWritten
  rintro ⟨hends, -⟩
  obtain ⟨t, hexec, honly, -⟩ := hends 0 0 twoBankState twoBankState_newest
  obtain ⟨u, hu, hstored⟩ := twoBankState_opComplete
  cases hu.symm.trans hexec
  have hkept : Memory.get t.mem (2 ^ 40) = 0#8 := honly _ rfl rfl (2 ^ 40) (by decide)
  exact absurd (hstored.symm.trans hkept) (by decide)

end Sys2Proof.Machine

/-! SUPPORT. A FABRIC get served on this module while the table of contexts is out of key order (O6): no hypothesis of the statement asks for the order, and the count of the
wait (counter 187, R526) puts the ring's context ahead of another that holds a T0 tile in the same window, so that the write stalls (R204). -/

namespace Sys2Proof.Machine

/-- A get of 64 bytes at address 0 of the ring's own context into window 1 of the tile store (R252). -/
def getOwn : Nat := 0x50 + 256 * 1 + 0xFFFF * 2 ^ (8 * 8 + 48) + 65536 * 2 ^ (8 * 16) + 64 * 2 ^ (8 * 20)

/-- Context 5 stands before context 3, and each has a T0 tile in window 1 of core 0: tile 7, resident, and tile 9, in COPYING. Ring 0 of core 0 runs for context 3 and has
waited for the request tracker. -/
def swappedState : State :=
  { mem := Memory.write [] 0 (leBytes 64 getOwn)
    cores := [(0, { rings := [(0, { valid := true, ctx := 3, running := true, size := 256, waitAt := some 0 })] })]
    ctxs := [(5, { tiles := [(7, { valid := true, tier := 0, core := 0, frame := 1 })] }),
             (3, { state := .running
                   tiles := [(0, { valid := true, tier := 1, frame := 640 }), (9, { valid := true, state := 2, tier := 0, core := 0, frame := 1 })] })] }

theorem swappedState_issues : swappedState.Issues 0 0 0x50 (dSub getOwn) getOwn := by
  unfold State.Issues
  decide +kernel

/-- The target's checks pass, and the tile that the table names first for the window does not stall the get. -/
theorem swappedState_served : fld getOwn 8 8 / 2 ^ 48 = 0xFFFF ∧ swappedState.rangesOk 0 (swappedState.touch 0 3 getOwn) = true ∧
    swappedState.fabStatus 3 getOwn = 0 ∧ swappedState.fabStalls 0 3 getOwn = false := by
  decide +kernel

/-- The get waits for tile 9: nothing in the ring has completed. -/
theorem swappedState_get : ∃ t : State, exec (.fabricGet 0 0) swappedState = .next t ∧ ∀ e ∈ (t.ring 0 0).out, e.done = false :=
  ⟨_, rfl, by decide +kernel⟩

/-- Refutes O6: with the contexts out of key order a get that passes every check of the statement stalls on a tile in migration, and does not end. The statement is about
every state and names no order of the table, whose order decides which T0 tile a window holds. -/
theorem not_fabricRowsComplete : ¬ Obligations.FabricRowsComplete := by
  unfold Obligations.FabricRowsComplete
  rintro ⟨hserved, -⟩
  obtain ⟨hdev, hranges, hstatus, hstalls⟩ := swappedState_served
  obtain ⟨-, hget, -⟩ := hserved 0 0 getOwn swappedState (.fabricGet 0 0) 3 swappedState_issues rfl (.inl hdev) hranges hstatus hstalls
  obtain ⟨t, hexec, ⟨e, he, -, -, hdone, -⟩, -⟩ := hget (by decide)
  obtain ⟨u, hu, hwaits⟩ := swappedState_get
  cases hu.symm.trans hexec
  exact absurd hdone (by simp [hwaits e he])

end Sys2Proof.Machine

/-! SUPPORT. An all-gather issued while the table of contexts is out of key order (O7): the write of the own share into a sealed context's T0 tile leaves two entries of that
context in the table, what it reserves of the request tracker counts twice (R258), and the block to the peer waits for an entry that was free at issue. -/

namespace Sys2Proof.Machine

/-- COLL_STEP of record 2, instance 0: 128 bytes from 65,536, gathered at 131,072 (R312). -/
def gatherStep : Nat := 0x60 + 2 * 2 ^ (8 * 8) + 65536 * 2 ^ (8 * 16) + 131072 * 2 ^ (8 * 20) + 128 * 2 ^ (8 * 24)

/-- An all-gather of two members: this module at position 0, device 7 on flow 300. -/
def gatherRec : CollRec :=
  { type := 3, op := 0, inFmt := 1, outFmt := 1, queue := 3, saturate := false, p := 2, myPos := 0, window := 0, core := 0, event := 0, epoch := 0, stage := 0
    maxLen := 4096, flagAddr := tsNone, members := [(0, 0), (7, 300)] }

/-- Ring 0 of core 0 runs for context 5, which stands before the sealed context 3: that one has a T0 tile in window 2 of the core and reserves 40,000 entries of the tracker. -/
def gatherState : State :=
  { mem := Memory.write [] 0 (leBytes 64 gatherStep)
    cores := [(0, { rings := [(0, { valid := true, ctx := 5, running := true, size := 256 })] })]
    ctxs := [(5, { state := .running, colls := [(2, gatherRec)] }),
             (3, { sealed_ := true, grants := { entries := 40000 }, tiles := [(9, { valid := true, tier := 0, core := 0, frame := 2 })] })]
    flows := [(300, { state := .open_, ctx := 5, peer := 7, peerFlow := 400, paths := [{ port := 0 }] })] }

theorem gatherState_issues : gatherState.Issues 0 0 0x60 0 gatherStep := by
  unfold State.Issues
  decide +kernel

/-- The record and its fields pass every check, no instance is staged, and the flow to the peer is open. -/
theorem gatherState_checks : (gatherState.ctx 5).colls.find (fld gatherStep 8 4) = some gatherRec ∧ gatherRec.stepStatus 0 gatherStep = 0 ∧
    fld gatherStep 24 4 ≠ 0 ∧ gatherState.rangesOk 0 (gatherState.touch 0 5 gatherStep) = true ∧
    (gatherState.ctx 5).inst (fld gatherStep 8 4) (fld gatherStep 12 4) = none ∧ gatherState.memberLost 5 gatherRec = false := by
  decide +kernel

/-- The one block to the peer is not sent: the request tracker has taken no entry. -/
theorem gatherState_collStep : ∃ t : State, exec (.collStep 0 0) gatherState = .next t ∧ t.trkNext = gatherState.trkNext :=
  ⟨_, rfl, by decide +kernel⟩

/-- Refutes O7: with the contexts out of key order a COLL_STEP that issues finds no tracker entry for its block, which waits. The statement is about every state and names
no order of the table, from which what sealed contexts reserve is summed. -/
theorem not_collectRowsComplete : ¬ Obligations.CollectRowsComplete := by
  unfold Obligations.CollectRowsComplete
  rintro ⟨-, -, hissued, -⟩
  obtain ⟨hrec, hstatus, hlen, hranges, hnone, hflows⟩ := gatherState_checks
  obtain ⟨t, hexec, -, -, hsent, -⟩ := hissued 0 0 gatherStep gatherState gatherRec 5 _ rfl gatherState_issues hrec hstatus hlen hranges hnone hflows
    (by decide) (by decide) rfl
  obtain ⟨u, hu, hwaits⟩ := gatherState_collStep
  cases hu.symm.trans hexec
  exact absurd (hwaits.symm.trans hsent) (by decide +kernel)

end Sys2Proof.Machine

/-! SUPPORT. The tier commands (O24): a mailbox command that passes its channel and body, answered at once or with a handle. -/

namespace Sys2Proof.Machine

/-! ### Channel and body of a command -/

theorem State.anyMb_of_onNone {s : State} {rq : Req} (h : OnNone rq) (f : State × Reply) : s.anyMb rq f = f :=
  if_neg fun hn => h.elim hn.1 hn.2

theorem State.bodyOf_of {s : State} {rq : Req} {n : Nat} {ok : Bool} (hlen : rq.body.length = n) (hok : ok = true) (f : State × Reply) :
    s.bodyOf rq n ok f = f := if_pos ⟨hlen, hok⟩

theorem State.adm_of {s : State} {rq : Req} (hmb : rq.mb = 0) (f : State × Reply) : s.adm rq f = f := if_pos hmb

/-- A command that acts on a context runs on the context that its request names (R440, R452). -/
theorem State.onCtx_of_acts {s : State} {rq : Req} {x : Nat} (h : s.Acts rq x) (f : Nat → State × Reply) : s.onCtx rq f = f x := by
  rcases h with ⟨hmb, ht, rfl⟩ | ⟨hmb, rfl, hne, hc⟩
  · rw [State.onCtx, if_pos hmb, if_pos ht]
  · rw [State.onCtx, if_neg (not_not.mpr hmb), if_neg hne, if_neg (by simp [hc])]

/-- A command that is heard is answered as its action says on the state in which only the page has changed. -/
theorem State.mailCmd_replies {s : State} {rq : Req} {f c : Nat} {act : State → State × Reply} {v : Map Mailbox → State} {r : Reply} (hs : s.Heard rq f c)
    (hact : ∀ M, IssuedOn s rq.mb M → act { s with mailboxes := M } = (v M, r)) :
    ∃ M key, IssuedOn s rq.mb M ∧ s.mailCmd rq f c act = (v M).answer rq f c key r := by
  obtain ⟨M, key, hM, heq⟩ := State.mailCmd_heard hs
  exact ⟨M, key, hM, by rw [heq, hact M hM]⟩

/-- A row whose command is heard and answered at once, with what its action makes of the state in which only the page has changed. -/
theorem exec_of_replies {s : State} {i : Instr} {rq : Req} {f c : Nat} {act : State → State × Reply} (v : Map Mailbox → State) (r : Reply)
    (hs : s.Heard rq f c) (hrow : exec i s = .next (s.mailCmd rq f c act)) (hact : ∀ M, IssuedOn s rq.mb M → act { s with mailboxes := M } = (v M, r)) :
    ∃ M key, exec i s = .next ((v M).answer rq f c key r) ∧ IssuedOn s rq.mb M ∧ Answered ((v M).answer rq f c key r) rq.mb r.status r.body := by
  obtain ⟨M, key, hM, heq⟩ := State.mailCmd_replies hs hact
  exact ⟨M, key, hrow.trans (congrArg Host.Outcome.next heq), hM, State.answer_answered _ _ _ _ _ _⟩

/-- A row whose command is heard and shows a body, changing nothing. -/
theorem exec_of_shows {s : State} {i : Instr} {rq : Req} {f c : Nat} {act : State → State × Reply} (body : List Byte) (hs : s.Heard rq f c)
    (hrow : exec i s = .next (s.mailCmd rq f c act)) (hact : ∀ M, act { s with mailboxes := M } = State.done { s with mailboxes := M } body) :
    ∃ t : State, exec i s = .next t ∧ Answered t rq.mb 0 body := by
  obtain ⟨M, key, hexec, -, ha⟩ := exec_of_replies (fun M => { s with mailboxes := M }) { body := body } hs hrow fun M _ => hact M
  exact ⟨_, hexec, ha⟩

@[simp] theorem State.ctx_answer (s : State) (rq : Req) (f c : Nat) (key : List Byte) (r : Reply) (x : Nat) : (s.answer rq f c key r).ctx x = s.ctx x :=
  State.ctx_congr ((State.answer_rel s rq f c key r).ctxs (by decide)) x

/-- The creation of a handle writes the mailboxes, the handles and the transfers, and nothing else (R457, R547). -/
theorem State.withHandle_new {s : State} {h : Handle} (hroom : s.handleRoom h.mb = true) (g : State → Nat → State × Reply) :
    ∃ B H P, s.withHandle h g = g { s with mailboxes := B, handles := H, pcie := P } (s.nextHandle h.mb h.op) ∧
      H.find (s.nextHandle h.mb h.op) = some h := by
  rw [State.withHandle, if_neg (by simp [hroom])]
  cases h.transfers with
  | true => exact ⟨_, _, _, rfl, Map.find_set _ _ _⟩
  | false => exact ⟨_, _, _, rfl, Map.find_set _ _ _⟩

/-- A row whose command is heard and asks for a handle is answered as its action says on the state that holds the handle. -/
theorem exec_of_hands {s : State} {i : Instr} {rq : Req} {f c : Nat} {act : State → State × Reply} (h : Handle) (g : State → Nat → State × Reply)
    (hs : s.Heard rq f c) (hmb : h.mb = rq.mb) (hroom : s.handleRoom rq.mb = true) (hrow : exec i s = .next (s.mailCmd rq f c act))
    (hact : ∀ M, act { s with mailboxes := M } = State.withHandle { s with mailboxes := M } h g) :
    ∃ B H P key, H.find (s.nextHandle rq.mb h.op) = some h ∧ ∀ a, g { s with mailboxes := B, handles := H, pcie := P } (s.nextHandle rq.mb h.op) = a →
      exec i s = .next (a.1.answer rq f c key a.2) := by
  obtain ⟨M, key, ⟨-, hserial, -⟩, heq⟩ := State.mailCmd_heard hs
  have hnext : State.nextHandle { s with mailboxes := M } rq.mb h.op = s.nextHandle rq.mb h.op := by
    show handleOf rq.mb h.op (nextSerial (M.getOr rq.mb {}).serialNo) = _
    rw [hserial, State.nextHandle]
  obtain ⟨B, H, P, hnew, hk⟩ := State.withHandle_new (s := { s with mailboxes := M }) (h := h) (by rw [hmb]; exact hroom) g
  rw [hmb, hnext] at hnew hk
  exact ⟨B, H, P, key, hk, fun a ha => by rw [hrow, heq act, hact M, hnew, ← ha]⟩

/-! ### Capacities and entries (R193, R452) -/

theorem exec_tierCapacity {s : State} {rq : Req} (hs : s.Heard rq 5 1) (hn : OnNone rq) (hb : rq.body = []) :
    ∃ t : State, exec (.tierCapacity rq) s = .next t ∧ Answered t rq.mb 0
      (((List.range 12).flatMap (fun k => leBytes 4 (s.capacity 0 k) ++ leBytes 4 (s.grantedAll 0 k) ++ leBytes 4 (s.lentOf 0 k))) ++
        ((List.range 12).flatMap (fun k => leBytes 4 (s.capacity 1 k) ++ leBytes 4 (s.grantedAll 1 k) ++ leBytes 4 (s.lentOf 1 k))) ++
        (leBytes 4 (s.capacity 2 0) ++ leBytes 4 (s.grantedAll 2 0) ++ leBytes 4 (s.lentOf 2 0))) := by
  refine exec_of_shows _ hs rfl fun M => ?_
  rw [State.anyMb_of_onNone hn, State.bodyOf_of (by rw [hb]; rfl) rfl]
  rfl

theorem exec_tierReadEntries {s : State} {rq : Req} {x : Nat} (hs : s.Heard rq 5 2) (hx : s.Acts rq x) (hlen : rq.body.length = 6)
    (hcount : rq.fld 4 2 ≤ 120) (hlast : rq.fld 0 4 + rq.fld 4 2 ≤ 2 ^ 32) : ∃ t : State, exec (.tierReadEntries rq) s = .next t ∧
      Answered t rq.mb 0 ((List.range (rq.fld 4 2)).flatMap (fun i => leBytes 16 ((s.ctx x).entry (rq.fld 0 4 + i)).pack)) := by
  refine exec_of_shows _ hs rfl fun M => ?_
  rw [State.onCtx_of_acts (s := { s with mailboxes := M }) hx, State.bodyOf_of hlen (by simp only [hcount, hlast, decide_true, Bool.and_self])]
  rfl

/-! ### What the choice of a frame reads (R198, R571) -/

/-- Two states agree in all that the choice of a frame reads. -/
structure SamePlaces (s t : State) : Prop where
  cores : t.cores = s.cores
  ctxs : t.ctxs = s.ctxs
  migs : t.migs = s.migs
  lend : t.lend = s.lend
  freed : t.freed = s.freed
  withdrawn : t.withdrawn = s.withdrawn
  retired : t.retiredFrames = s.retiredFrames

section
variable {s t : State} (h : SamePlaces s t)
include h

theorem SamePlaces.lentEnd (tier f : Nat) : t.lentEnd tier f = s.lentEnd tier f := by
  simp only [State.lentEnd, State.lentRuns, h.lend]

theorem SamePlaces.bankClash (tier x f : Nat) (used : List (Nat × Nat)) : t.bankClash tier x f used = s.bankClash tier x f used := by
  simp only [State.bankClash, State.lentIn, State.lentRuns, State.ctx, h.lend, h.ctxs]

theorem SamePlaces.findFrame (tier x : Nat) (used : List (Nat × Nat)) (hi fuel f : Nat) :
    t.findFrame tier x used hi fuel f = s.findFrame tier x used hi fuel f := by
  induction fuel generalizing f with
  | zero => rfl
  | succ fuel ih =>
    rw [State.findFrame, State.findFrame, h.lentEnd, h.bankClash, h.withdrawn, h.retired]
    simp only [ih]

theorem SamePlaces.usedFrames (tier : Nat) : t.usedFrames tier = s.usedFrames tier := by
  rw [State.usedFrames, State.usedFrames, h.ctxs]

theorem SamePlaces.rangeFrame (tier x lo hi : Nat) : t.rangeFrame tier x lo hi = s.rangeFrame tier x lo hi := by
  simp only [State.rangeFrame, State.ownFreed, State.takenFrames, h.findFrame, h.usedFrames, h.freed, h.withdrawn, h.retired]

theorem SamePlaces.ctx : t.ctx = s.ctx := funext (State.ctx_congr h.ctxs)

theorem SamePlaces.held (x tier region : Nat) : t.held x tier region = s.held x tier region := by
  rw [State.held, State.held, h.ctx, h.migs]

theorem SamePlaces.newFrame (x tier region : Nat) : t.newFrame x tier region = s.newFrame x tier region := by
  have hwindow : t.freeWindow x region = s.freeWindow x region := by
    rw [State.freeWindow, State.freeWindow, State.core_congr h.cores, h.ctx, h.ctxs, h.migs, h.freed, h.retired]
  rw [State.newFrame, State.newFrame, hwindow, h.held, h.rangeFrame, h.ctx]

theorem SamePlaces.askDest (a : MigAsk) (e : TileEntry) : t.askDest a e = s.askDest a e := by
  have hframe : t.newFrame = s.newFrame := funext₃ h.newFrame
  have hspare : t.spareFrame = s.spareFrame := funext fun sl => by rw [State.spareFrame, State.spareFrame, h.usedFrames]
  have ht3 : t.newT3 = s.newT3 := funext₂ fun x n => by rw [State.newT3, State.newT3, State.t3Tiles, State.t3Tiles, h.ctxs, h.ctx]
  rw [State.askDest, State.askDest, hframe, hspare, ht3]

theorem SamePlaces.askMet (a : MigAsk) (e : TileEntry) : t.askMet a e = s.askMet a e := by
  rw [State.askMet, State.askMet, h.ctx, h.withdrawn]

end

/-! ### Migrations asked for (R570) -/

/-- The requests of a context for the n tiles from the first, placed as the context has room (R570). -/
def State.askTiles (s : State) (x first n : Nat) (ask : Nat → MigAsk) : State :=
  ((List.range n).foldl (fun s i =>
    if ((s.ctx x).migEntry (first + i)).state = 0 then { s with asks := s.asks ++ [ask i] } else s.askOrWait (ask i)) s).placeAsks x

/-- A request for one tile that is RESIDENT, the only one of its context, is taken up at once. -/
theorem State.askTiles_one {s : State} {x first : Nat} {ask : Nat → MigAsk} (hasks : s.asks = []) (hx : (ask 0).ctx = x) (ht : (ask 0).tile = first)
    (hst : ((s.ctx x).migEntry first).state = 0) : s.askTiles x first 1 ask = State.placeAsk { s with asks := [ask 0] } (ask 0) := by
  have hone : s.askTiles x first 1 ask = State.placeAsks { s with asks := [ask 0] } x := by
    rw [State.askTiles, List.range_one, List.foldl_cons, List.foldl_nil, Nat.add_zero, if_pos hst, hasks, List.nil_append]
  rw [hone, State.placeAsks]
  simp only [hx, decide_true, List.filter_cons_of_pos, List.filter_nil, List.foldl_cons, List.foldl_nil, List.contains_cons, BEq.rfl, Bool.true_or, and_true]
  rw [if_pos]
  rw [ht]
  exact hst

/-- A request of a tier command that finds a frame: its tile is QUEUED (R569, R571). -/
theorem State.askMig_asked {s : State} {a : MigAsk} {e : TileEntry} {d : Nat × Nat × Nat × Nat} (he : e = (s.ctx a.ctx).bankEntry a.bank a.tile)
    (hvalid : e.valid = true) (hf : (s.ctx a.ctx).fenced = false) (hst : ((s.ctx a.ctx).migEntry a.tile).state = 0) (hmet : s.askMet a e = false)
    (hroom : s.queuedMigs a.ctx < 4096) (hd : s.askDest a e = some d) (hwhy : a.why = .asked) :
    s.askMig a = (s.acceptMig { ctx := a.ctx, tile := a.tile, bank := a.bank, policy := a.policy, core := a.core, region := d.2.1, handle := a.handle } d.1 d.2.2,
      .accepted) := by
  subst he
  have hnew : ¬ ((!((s.ctx a.ctx).bankEntry a.bank a.tile).valid || (s.ctx a.ctx).fenced) = true) := by simp [hvalid, hf]
  rw [State.askMig, if_neg hnew, if_neg (not_not.mpr hst), if_neg (by simp [hmet]), if_neg (by omega), hd, hwhy]
  rfl

@[simp] theorem State.migs_phase (s : State) (k ph : Nat) : (s.phase k ph).migs = s.migs := (State.phase_rel s k ph).migs (by decide)

@[simp] theorem State.ctx_phase (s : State) (k ph x : Nat) : (s.phase k ph).ctx x = s.ctx x := State.ctx_congr ((State.phase_rel s k ph).ctxs (by decide)) x

/-- What the acceptance of a migration makes of the queue and of the entry of the tile (R571). -/
theorem State.acceptMig_spec (s : State) (m : Mig) (tier : Nat) (d : Nat × Nat) : (s.acceptMig m tier d).migs = s.migs ++ [m] ∧
    ((s.acceptMig m tier d).ctx m.ctx).bankEntry m.bank m.tile =
      { (s.ctx m.ctx).bankEntry m.bank m.tile with state := 1, destTier := tier, destLender := d.1, destFrame := d.2 } := by
  refine ⟨rfl, ?_⟩
  have hctx : (s.acceptMig m tier d).ctx m.ctx = (s.ctx m.ctx).setBankEntry m.bank m.tile
      { (s.ctx m.ctx).bankEntry m.bank m.tile with state := 1, destTier := tier, destLender := d.1, destFrame := d.2 } := State.ctx_setCtx _ _ _
  rw [hctx, Ctx.bankEntry_setBankEntry]

/-- What a request that is placed and accepted makes of the queue and of its tile. -/
theorem State.placeAsk_asked {s : State} {a : MigAsk} {e : TileEntry} {d : Nat × Nat × Nat × Nat} (hasks : s.asks = [a])
    (he : e = (s.ctx a.ctx).bankEntry a.bank a.tile) (hvalid : e.valid = true) (hf : (s.ctx a.ctx).fenced = false)
    (hst : ((s.ctx a.ctx).migEntry a.tile).state = 0) (hmet : s.askMet a e = false) (hroom : State.queuedMigs { s with asks := [] } a.ctx < 4096)
    (hd : s.askDest a e = some d) (hwhy : a.why = .asked) :
    (s.placeAsk a).migs = s.migs ++
        [({ ctx := a.ctx, tile := a.tile, bank := a.bank, policy := a.policy, core := a.core, region := d.2.1, handle := a.handle } : Mig)] ∧
      ((s.placeAsk a).ctx a.ctx).bankEntry a.bank a.tile = { e with state := 1, destTier := d.1, destLender := d.2.2.1, destFrame := d.2.2.2 } := by
  have hleft : s.asks.filter (fun b => b != a) = [] := by simp [hasks]
  have hsame : SamePlaces s { s with asks := [] } := ⟨rfl, rfl, rfl, rfl, rfl, rfl, rfl⟩
  have hmig := State.askMig_asked (s := { s with asks := [] }) he hvalid hf hst ((hsame.askMet a e).trans hmet) hroom ((hsame.askDest a e).trans hd) hwhy
  rw [State.placeAsk, hleft, hmig]
  dsimp only
  rw [State.migs_phase, State.ctx_phase]
  subst he
  exact State.acceptMig_spec _ _ _ _

theorem tierMigrate_row {s : State} {rq : Req} {x : Nat} (hs : s.Heard rq 5 3) (hx : s.Acts rq x) (hlen : rq.body.length = 12)
    (hlast : rq.fld 0 4 + rq.fld 4 4 ≤ 2 ^ 32) (htier : rq.fld 8 1 ≤ 3) (hpol : rq.fld 9 1 ≤ 2) (hregion : rq.fld 10 1 ≤ 11) (hresv : rq.fld 11 1 = 0)
    (hfits : policyFits (rq.fld 8 1) (rq.fld 9 1) = true) (hf : (s.ctx x).fenced = false) (htear : (s.ctx x).state ≠ .tearing)
    (hsealed : (s.ctx x).sealed_ = true → rq.fld 8 1 ≠ 3 ∧ rq.fld 9 1 ≠ 1) (hroom : s.handleRoom rq.mb = true) :
    ∃ t : State, exec (.tierMigrate rq) s = .next t ∧ Answered t rq.mb 0 [] ∧ sub (t.mbox rq.mb).rsp 16 8 = leBytes 8 (s.nextHandle rq.mb 7) ∧
      (∀ a e d, rq.fld 4 4 = 1 → s.asks = [] → e = (s.ctx x).bankEntry (s.ctx x).weights.active (rq.fld 0 4) →
        a = ({ ctx := x, tile := rq.fld 0 4, bank := (s.ctx x).weights.active, tier := rq.fld 8 1, policy := rq.fld 9 1, core := rq.fld 10 1
               region := rq.fld 10 1, handle := s.nextHandle rq.mb 7 } : MigAsk) → e.valid = true → ((s.ctx x).migEntry (rq.fld 0 4)).state = 0 →
        s.askMet a e = false → s.queuedMigs x < 4096 → s.askDest a e = some d →
        t.migs = s.migs ++ [({ ctx := x, tile := rq.fld 0 4, bank := a.bank, policy := rq.fld 9 1, core := rq.fld 10 1, region := d.2.1
                               handle := s.nextHandle rq.mb 7 } : Mig)] ∧
        ((t.ctx x).bankEntry a.bank (rq.fld 0 4)) = { e with state := 1, destTier := d.1, destLender := d.2.2.1, destFrame := d.2.2.2 }) := by
  let ask (k i : Nat) : MigAsk :=
    { ctx := x, tile := rq.fld 0 4 + i, bank := (s.ctx x).weights.active, tier := rq.fld 8 1, policy := rq.fld 9 1, core := rq.fld 10 1
      region := rq.fld 10 1, handle := k }
  let g (u : State) (k : Nat) : State × Reply :=
    if rq.fld 4 4 = 0 then (u.finish k 0).given k else (u.askTiles x (rq.fld 0 4) (rq.fld 4 4) (ask k)).given k
  have hgiven : ∀ u k, (g u k).2 = { handle := k } := fun u k => by
    unfold g
    split <;> rfl
  have hgo : ¬ ((s.ctx x).fenced || (s.ctx x).state == .tearing || ((s.ctx x).sealed_ && (rq.fld 8 1 == 3 || rq.fld 9 1 == 1))) = true := by
    simpa [hf, htear] using hsealed
  obtain ⟨B, H, P, key, -, hexec⟩ := exec_of_hands (i := .tierMigrate rq)
    { mb := rq.mb, op := 7, ctx := some x, phase := 2, total := rq.fld 4 4 } g hs rfl hroom rfl (fun M => by
      rw [State.onCtx_of_acts (s := { s with mailboxes := M }) hx,
        State.bodyOf_of hlen (by simp only [hlast, htier, hpol, hregion, hresv, hfits, decide_true, BEq.rfl, Bool.and_self])]
      exact if_neg hgo)
  have hanswer := hexec _ rfl
  rw [hgiven] at hanswer
  refine ⟨_, hanswer, State.answer_answered _ _ _ _ _ _, State.answer_handle _ _ _ _ _ _, ?_⟩
  intro a e d hone hasks he ha hvalid hst hmet hq hd
  let u : State := { s with mailboxes := B, handles := H, pcie := P }
  have hplaced : (g u (s.nextHandle rq.mb 7)).1 = State.placeAsk { u with asks := [a] } a := by
    subst ha
    have h0 : rq.fld 4 4 ≠ 0 := by omega
    unfold g
    rw [if_neg h0, hone]
    exact State.askTiles_one (s := u) hasks rfl rfl hst
  have hctx : a.ctx = x := by rw [ha]
  have htile : a.tile = rq.fld 0 4 := by rw [ha]
  have hsame : SamePlaces s { u with asks := [a] } := ⟨rfl, rfl, rfl, rfl, rfl, rfl, rfl⟩
  have hroomy : State.queuedMigs { u with asks := [] } a.ctx < 4096 := by
    rw [hctx, ← hasks]
    exact hq
  obtain ⟨hmigs, hentry⟩ := State.placeAsk_asked (s := { u with asks := [a] }) (a := a) (e := e) (d := d) rfl (by rw [he, ha]; rfl) hvalid
    (by rw [hctx]; exact hf) (by rw [hctx, htile]; exact hst) ((hsame.askMet a e).trans hmet) hroomy ((hsame.askDest a e).trans hd) (by rw [ha])
  rw [State.ctx_answer, (State.answer_rel _ _ _ _ _ _).migs (by decide), hplaced, hmigs]
  subst ha
  exact ⟨rfl, hentry⟩

theorem exec_tierWeightRegions {s : State} {rq : Req} {x : Nat} (hs : s.Heard rq 5 4) (hmb : rq.mb = 0) (hx : s.Acts rq x) (hlen : rq.body.length = 128)
    (hok : regionsOk rq.body 0 = true) (hst : (s.ctx x).state = .ready) (hjob : (s.ctx x).job.phase = 0) :
    ∃ t : State, exec (.tierWeightRegions rq) s = .next t ∧ Answered t 0 0 [] ∧ (t.ctx x).weights.regions = regionsAt rq.body 0 := by
  let inNew (t : Nat) : Bool := (regionsAt rq.body 0).any (fun r => decide (r.1 ≤ t ∧ t < r.1 + r.2))
  obtain ⟨M, key, hexec, -, ha⟩ := exec_of_replies (i := .tierWeightRegions rq)
    (fun M => (State.dropTiles { s with mailboxes := M } x (fun t => (s.ctx x).inRegion t && !inNew t)).updWeights x
      (fun w => { w with regions := regionsAt rq.body 0 })) {} hs rfl fun M _ => by
    rw [State.adm_of hmb, State.onCtx_of_acts (s := { s with mailboxes := M }) hx, State.bodyOf_of hlen hok]
    exact if_neg (by simp [show State.ctx { s with mailboxes := M } x = s.ctx x from rfl, hst, hjob])
  rw [hmb] at ha
  refine ⟨_, hexec, ha, ?_⟩
  rw [State.ctx_answer, State.updWeights, State.ctx_updCtx]

/-! ### Windows lent and granted (R211 to R214, R198) -/

theorem exec_lendOffer {s : State} {rq : Req} {w n : Nat} (hs : s.Heard rq 5 5) (hmb : rq.mb = 0) (hlen : rq.body.length = 40)
    (htier : rq.fld 0 1 = 1 ∨ rq.fld 0 1 = 2) (hresv : rq.fld 1 1 = 0) (hgib : rq.fld 2 2 ≠ 0) (hn : n = (if rq.fld 4 4 = 0 then 2000 else rq.fld 4 4))
    (hlo : 100 ≤ n) (hhi : n ≤ 30000) (hfree : (List.range 8).find? (fun w => !s.lend.has w) = some w)
    (hruns : runFrames (s.windowRuns (rq.fld 0 1) (rq.fld 2 2 * 16384)) = rq.fld 2 2 * 16384) (hroom : s.handleRoom 0 = true) :
    ∃ t : State, exec (.lendOffer rq) s = .next t ∧
      Handed s t rq 8 (leBytes 1 w ++ zeros 7) { mb := 0, op := 8, phase := 1, total := rq.fld 2 2 * 16384, arg := w } ∧ ∃ l, t.lend.find w = some l ∧
      l.tier = rq.fld 0 1 ∧ l.gib = rq.fld 2 2 ∧ l.noticeMs = n ∧ l.state = 0 ∧ l.ranges = s.windowRuns (rq.fld 0 1) (rq.fld 2 2 * 16384) := by
  let win (k : Nat) : LendWin :=
    { tier := rq.fld 0 1, gib := rq.fld 2 2, ranges := s.windowRuns (rq.fld 0 1) (rq.fld 2 2 * 16384), noticeMs := n, handle := k
      peers := (((List.range 16).map (fun i => rq.fld (8 + 2 * i) 2)).filter (fun d => d != 0xFFFF)).eraseDups }
  let g (u : State) (k : Nat) : State × Reply := ({ u with lend := u.lend.set w (win k) }, { handle := k, body := leBytes 1 w ++ zeros 7 })
  obtain ⟨B, H, P, key, hk, hexec⟩ := exec_of_hands (i := .lendOffer rq)
    { mb := 0, op := 8, phase := 1, total := rq.fld 2 2 * 16384, arg := w } g hs hmb.symm (by rw [hmb, hroom]) rfl (fun M => by
      rw [State.adm_of hmb]
      dsimp only
      rw [← hn, State.bodyOf_of hlen (by simp [htier, hresv, hgib, hlo, hhi]), hfree]
      exact if_neg (not_not.mpr hruns))
  have hanswer := hexec _ rfl
  refine ⟨_, hanswer, ⟨State.answer_answered _ _ _ _ _ _, State.answer_handle _ _ _ _ _ _, ?_⟩, win (s.nextHandle rq.mb 8), ?_, rfl, rfl, rfl, rfl, rfl⟩
  · rw [State.handle_answer]
    exact hk
  · rw [(State.answer_rel _ _ _ _ _ _).lend (by decide)]
    exact Map.find_set _ _ _

/-- The lender's window as it is revoked (R214 step 4). -/
theorem State.find_revoke {s : State} {w : Nat} {l : LendWin} (hl : s.lend.find w = some l) : (s.revoke w).lend.find w = some { l with state := 3 } := by
  rw [State.revoke, hl]
  exact Map.find_set _ _ _

/-- What a reclaim makes of the window: under reclaim with its deadline, or revoked at once without peers (R214 step 1). -/
theorem State.find_reclaimWindow {s : State} {w : Nat} {l : LendWin} (hl : s.lend.find w = some l) (k : Nat) : ∃ m,
    (s.reclaimWindow w k).lend.find w = some m ∧ m.state = (if l.peers = [] then 3 else 2) ∧ m.deadline = s.clk.tai.ns + l.noticeMs * 1000000 ∧
      m.handle = k := by
  let due := s.clk.tai.ns + l.noticeMs * 1000000
  let l' : LendWin := { l with state := 2, deadline := due, released := [], handle := k }
  let marked : State := { s with lend := s.lend.set w l' }
  let told : State := l.peers.foldl (fun s d => s.sendCtrl d 0xE8 (beBytes 1 w ++ zeros 3 ++ beBytes 8 due)) marked
  have hrow : s.reclaimWindow w k = if l.peers.isEmpty then told.revoke w else told := by
    rw [State.reclaimWindow, hl]
  have htold : Rel [.ctrl, .ctrlNext, .macs, .ecnDraws, .counters] marked told := Rel.foldl (fun u d => State.sendCtrl_rel u d _ _) (Rel.refl _ _)
  have hfind : told.lend.find w = some l' := by rw [htold.lend (by decide)]; exact Map.find_set _ _ _
  by_cases hp : l.peers = []
  · rw [hrow, if_pos (List.isEmpty_iff.mpr hp), if_pos hp]
    exact ⟨_, State.find_revoke hfind, rfl, rfl, rfl⟩
  · rw [hrow, if_neg (fun h => hp (List.isEmpty_iff.mp h)), if_neg hp]
    exact ⟨l', hfind, rfl, rfl, rfl⟩

theorem exec_lendReclaim {s : State} {rq : Req} {l : LendWin} (hs : s.Heard rq 5 6) (hmb : rq.mb = 0) (hlen : rq.body.length = 8) (hresv : rq.fld 1 7 = 0)
    (hl : s.lend.find (rq.fld 0 1) = some l) (hst : l.state = 1) (hroom : s.handleRoom 0 = true) : ∃ t : State, ∃ m,
      exec (.lendReclaim rq) s = .next t ∧ Answered t 0 0 [] ∧ t.lend.find (rq.fld 0 1) = some m ∧ m.state = (if l.peers = [] then 3 else 2) ∧
        m.deadline = s.clk.tai.ns + l.noticeMs * 1000000 ∧ m.handle = s.nextHandle 0 9 := by
  obtain ⟨B, H, P, key, -, hexec⟩ := exec_of_hands (i := .lendReclaim rq)
    { mb := 0, op := 9, phase := 1, total := l.peers.length, arg := rq.fld 0 1 } (fun u k => (u.reclaimWindow (rq.fld 0 1) k).given k) hs hmb.symm
    (by rw [hmb, hroom]) rfl (fun M => by
      rw [State.adm_of hmb, State.bodyOf_of hlen (by simp [hresv])]
      dsimp only
      rw [hl]
      exact if_neg (not_not.mpr hst))
  have hanswer := hexec _ rfl
  obtain ⟨m, hm, hstate, hdue, hk⟩ := State.find_reclaimWindow (s := { s with mailboxes := B, handles := H, pcie := P }) hl (s.nextHandle rq.mb 9)
  have hans := State.answer_answered (State.reclaimWindow { s with mailboxes := B, handles := H, pcie := P } (rq.fld 0 1) (s.nextHandle rq.mb 9)) rq 5 6 key
    { handle := s.nextHandle rq.mb 9 }
  rw [hmb] at hans hk
  refine ⟨_, m, hanswer, ?_, ?_, hstate, hdue, hk⟩
  · rw [hmb]
    exact hans
  · rw [(State.answer_rel _ _ _ _ _ _).lend (by decide)]
    exact hm

/-- Of the first n + 1 numbers one is not in a list of n. -/
theorem exists_find_not_contains (l : List Nat) : ∃ k, (List.range (l.length + 1)).find? (fun k => !l.contains k) = some k := by
  rw [← Option.isSome_iff_exists, List.find?_isSome]
  by_contra hall
  have hsub : List.range (l.length + 1) ⊆ l := fun k hk => by
    by_contra hne
    exact hall ⟨k, hk, by simpa using hne⟩
  have := (List.nodup_range.subperm hsub).length_le
  simp at this

/-- The number found among the GiB of a window is that of none of them. -/
theorem exists_free_gib (l : List Nat) : ((List.range (l.length + 1)).find? (fun k => !l.contains k)).getD 0 ∉ l := by
  obtain ⟨k, hk⟩ := exists_find_not_contains l
  rw [hk, Option.getD_some]
  simpa using List.find?_some hk

theorem exec_grantT3 {s : State} {rq : Req} {x : Nat} (hs : s.Heard rq 5 7) (hmb : rq.mb = 0) (hx : s.Acts rq x) (hlen : rq.body.length = 8)
    (hresv : rq.fld 3 1 = 0) (hwin : rq.fld 2 1 < 8) (hdev : rq.fld 0 2 ≠ 0xFFFF) (hlast : rq.fld 4 4 + gibFrames ≤ 2 ^ 32) (hsealed : (s.ctx x).sealed_ = false)
    (htear : (s.ctx x).state ≠ .tearing) (hown : rq.fld 0 2 ≠ s.deviceId) (hfirst : (s.ctx x).t3.any (fun v => v.firstTile = rq.fld 4 4) = false)
    (hcap : s.t3Tiles < 16777216) : ∃ t : State, ∃ b, exec (.grantT3 rq) s = .next t ∧ Answered t 0 0 [] ∧
      (t.ctx x).t3 = (s.ctx x).t3 ++ [({ lender := rq.fld 0 2, window := rq.fld 2 1, firstTile := rq.fld 4 4, base := b } : T3Win)] ∧
      ∀ e ∈ s.ctxs, ∀ v ∈ e.2.t3, v.lender = rq.fld 0 2 → v.window = rq.fld 2 1 → v.base ≠ b := by
  let taken : List Nat :=
    s.ctxs.flatMap (fun e => (e.2.t3.filter (fun v => v.lender = rq.fld 0 2 && v.window = rq.fld 2 1)).map (fun v => v.base / gibFrames))
  let gib := ((List.range (taken.length + 1)).find? (fun k => !taken.contains k)).getD 0
  let win : T3Win := { lender := rq.fld 0 2, window := rq.fld 2 1, firstTile := rq.fld 4 4, base := gib * gibFrames }
  have hgo : ¬ ((s.ctx x).sealed_ || (s.ctx x).state == .tearing || rq.fld 0 2 == s.deviceId || (s.ctx x).t3.any (fun v => v.firstTile = rq.fld 4 4)) = true := by
    simp only [hsealed, hfirst, Bool.false_or, Bool.or_false, Bool.or_eq_true, beq_iff_eq]
    exact fun h => h.elim htear hown
  obtain ⟨M, key, hexec, -, ha⟩ := exec_of_replies (i := .grantT3 rq)
    (fun M => State.setCtx { s with mailboxes := M } x { s.ctx x with t3 := (s.ctx x).t3 ++ [win] }) {} hs rfl fun M _ => by
    rw [State.adm_of hmb, State.onCtx_of_acts (s := { s with mailboxes := M }) hx,
      State.bodyOf_of hlen (by simp only [hresv, hwin, hlast, bne_iff_ne.mpr hdev, decide_true, BEq.rfl, Bool.and_self])]
    exact (if_neg hgo).trans (if_neg (Nat.not_le.mpr hcap))
  rw [hmb] at ha
  refine ⟨_, gib * gibFrames, hexec, ha, ?_, fun e he v hv hl hw hbase => ?_⟩
  · rw [State.ctx_answer, State.ctx_setCtx]
  · have hmem : v.base / gibFrames ∈ taken :=
      List.mem_flatMap.mpr ⟨e, he, List.mem_map.mpr ⟨v, List.mem_filter.mpr ⟨hv, by simp [hl, hw]⟩, rfl⟩⟩
    rw [hbase, Nat.mul_div_cancel gib (by decide : 0 < gibFrames)] at hmem
    exact exists_free_gib taken hmem

/-- Settles O24, row by row of family 0x05. -/
theorem tierCommandRowsComplete : Obligations.TierCommandRowsComplete := by
  unfold Obligations.TierCommandRowsComplete
  refine ⟨fun rq s hs hn hb => exec_tierCapacity hs hn hb, fun rq x s hs hx hlen hcount hlast => exec_tierReadEntries hs hx hlen hcount hlast,
    fun rq x s hs hx hlen hlast htier hpol hregion hresv hfits hf htear hsealed hroom =>
      tierMigrate_row hs hx hlen hlast htier hpol hregion hresv hfits hf htear hsealed hroom,
    fun rq x s hs hmb hx hlen hok hst hjob => exec_tierWeightRegions hs hmb hx hlen hok hst hjob,
    fun rq w n s hs hmb hlen htier hresv hgib hn hlo hhi hfree hruns hroom => exec_lendOffer hs hmb hlen htier hresv hgib hn hlo hhi hfree hruns hroom,
    fun rq l s hs hmb hlen hresv hl hst hroom => exec_lendReclaim hs hmb hlen hresv hl hst hroom,
    fun rq x s hs hmb hx hlen hresv hwin hdev hlast hsealed htear hown hfirst hcap =>
      exec_grantT3 hs hmb hx hlen hresv hwin hdev hlast hsealed htear hown hfirst hcap⟩

end Sys2Proof.Machine

/-! SUPPORT. What host software observes (O26): counters and samples, the log and the cullets, and the cancelling of handles. -/

namespace Sys2Proof.Machine

/-! ### Counters (R523, R526 to R528) -/

/-- The cycles of a core are counted up to now: those below its ceiling first (R103). -/
theorem State.settle_eq (s : State) (c : Nat) : s.settle c =
    (if (s.core c).n < s.ceiling c then s.countCore c 5 (s.clk.cycle - (s.core c).belowAt) (s.core c).lastCtx else s).updCore c
      (fun k => { k with belowAt := s.clk.cycle }) := by
  unfold State.settle
  extract_lets k u
  have hclk : u.clk = s.clk := by
    unfold u
    split
    · exact State.clk_countCore _ _ _ _ _
    · rfl
  rw [hclk]

theorem State.countCore_mailboxes (s : State) (M : Map Mailbox) (c k n : Nat) (x : Option Nat) :
    State.countCore { s with mailboxes := M } c k n x = { s.countCore c k n x with mailboxes := M } := by
  cases x with
  | none => rfl
  | some x => rfl

/-- The cycles counted below a ceiling do not depend on the mailboxes. -/
theorem State.settle_mailboxes (s : State) (M : Map Mailbox) (c : Nat) : State.settle { s with mailboxes := M } c = { s.settle c with mailboxes := M } := by
  let u : State := { s with mailboxes := M }
  have hcount : u.countCore c 5 (u.clk.cycle - (u.core c).belowAt) (u.core c).lastCtx =
    { s.countCore c 5 (s.clk.cycle - (s.core c).belowAt) (s.core c).lastCtx with mailboxes := M } := State.countCore_mailboxes _ _ _ _ _ _
  have hcond : ((u.core c).n < u.ceiling c) = ((s.core c).n < s.ceiling c) := rfl
  have hu := State.settle_eq u c
  rw [hcount] at hu
  refine hu.trans ?_
  rw [State.settle_eq s c]
  by_cases h : (s.core c).n < s.ceiling c
  · rw [if_pos h, if_pos (hcond ▸ h)]
    rfl
  · rw [if_neg h, if_neg (hcond ▸ h)]
    rfl

theorem State.settleAll_mailboxes (s : State) (M : Map Mailbox) : State.settleAll { s with mailboxes := M } = { s.settleAll with mailboxes := M } := by
  have hfold : ∀ (l : List Nat) (s : State), l.foldl (fun s c => s.settle c) { s with mailboxes := M } =
      { l.foldl (fun s c => s.settle c) s with mailboxes := M } := by
    intro l
    induction l with
    | nil => exact fun _ => rfl
    | cons c l ih =>
      intro s
      rw [List.foldl_cons, List.foldl_cons, State.settle_mailboxes, ih]
  exact hfold _ s

/-- The settling of a core changes contexts in their counters alone. -/
theorem State.ctx_settle (s : State) (c x : Nat) : ∃ m, (s.settle c).ctx x = { s.ctx x with counters := m } := by
  rw [State.settle_eq, State.ctx_updCore]
  split
  · unfold State.countCore
    cases (s.core c).lastCtx with
    | none => exact ⟨_, rfl⟩
    | some y => exact State.ctx_count _ _ _ _ _
  · exact ⟨_, rfl⟩

theorem State.ctx_settleAll (s : State) (x : Nat) : ∃ m, s.settleAll.ctx x = { s.ctx x with counters := m } := by
  have hfold : ∀ (l : List Nat) (s : State), ∃ m, (l.foldl (fun s c => s.settle c) s).ctx x = { s.ctx x with counters := m } := by
    intro l
    induction l with
    | nil => exact fun _ => ⟨_, rfl⟩
    | cons c l ih =>
      intro s
      obtain ⟨m, hm⟩ := ih (s.settle c)
      obtain ⟨m', hm'⟩ := s.ctx_settle c x
      exact ⟨m, by rw [List.foldl_cons, hm, hm']⟩
  exact hfold _ s

/-- Which context a request names does not depend on counters. -/
theorem State.Acts.settleAll {s : State} {rq : Req} {x : Nat} (h : s.Acts rq x) : s.settleAll.Acts rq x := by
  obtain ⟨m, hm⟩ := s.ctx_settleAll x
  rw [State.Acts, hm]
  exact h

theorem State.mayCount_settleAll (s : State) (m x : Nat) : s.settleAll.mayCount m x = s.mayCount m x := by
  obtain ⟨c, hc⟩ := s.ctx_settleAll x
  rw [State.mayCount, State.mayCount, hc, (State.settleAll_rel s).life (by decide)]

theorem countersRead_row {s : State} {rq : Req} {x : Nat} (hs : s.Heard rq 9 1) (hlen : rq.body.length = 4) (hn : rq.fld 2 2 ≤ 240) :
    (rq.mb = 0 → rq.target = 0xFFFF → 0x200 ≤ rq.fld 0 2 → ∃ t : State, exec (.countersRead rq) s = .next t ∧
      Answered t 0 0 (ctrSlots s.settleAll.counters (rq.fld 0 2) (rq.fld 2 2))) ∧
    (s.Acts rq x → rq.fld 0 2 + rq.fld 2 2 ≤ 0x200 → rq.fld 0 2 < 0x200 → s.mayCount rq.mb x = true → ∃ t : State, exec (.countersRead rq) s = .next t ∧
      Answered t rq.mb 0 (ctrSlots (s.settleAll.ctx x).counters (rq.fld 0 2) (rq.fld 2 2))) := by
  constructor
  · intro hmb ht hfirst
    obtain ⟨M, key, hexec, -, ha⟩ := exec_of_replies (i := .countersRead rq) (fun M => { s.settleAll with mailboxes := M })
      { body := ctrSlots s.settleAll.counters (rq.fld 0 2) (rq.fld 2 2) } hs rfl fun M _ => by
      dsimp only
      rw [State.settleAll_mailboxes, if_pos ⟨hmb, ht⟩, State.bodyOf_of hlen (by simp [hn, Nat.not_lt.mpr hfirst]), if_neg (Nat.not_lt.mpr hfirst)]
      rfl
    exact ⟨_, hexec, hmb ▸ ha⟩
  · intro hx hsum hfirst hmay
    obtain ⟨M, key, hexec, -, ha⟩ := exec_of_replies (i := .countersRead rq) (fun M => { s.settleAll with mailboxes := M })
      { body := ctrSlots (s.settleAll.ctx x).counters (rq.fld 0 2) (rq.fld 2 2) } hs rfl fun M _ => by
      have hnone : ¬ (rq.mb = 0 ∧ rq.target = 0xFFFF) := by
        rintro ⟨hmb, ht⟩
        rcases hx with ⟨hne, -⟩ | ⟨-, rfl, hne, -⟩
        · exact hne hmb
        · exact hne ht
      have hsee : State.mayCount { s.settleAll with mailboxes := M } rq.mb x = true := (s.mayCount_settleAll rq.mb x).trans hmay
      dsimp only
      rw [State.settleAll_mailboxes, if_neg hnone, State.onCtx_of_acts (s := { s.settleAll with mailboxes := M }) hx.settleAll,
        State.bodyOf_of hlen (by simp [hn, Nat.not_lt.mpr hsum]), if_neg (by simp [hsee, hfirst])]
      rfl
    exact ⟨_, hexec, ha⟩

theorem exec_countersPermission {s : State} {rq : Req} {x : Nat} (hs : s.Heard rq 9 2) (hmb : rq.mb = 0) (hx : s.Acts rq x) (hlen : rq.body.length = 8)
    (hval : rq.fld 0 1 ≤ 1) (hresv : rq.fld 1 7 = 0) : ∃ t : State, exec (.countersPermission rq) s = .next t ∧ Answered t 0 0 [] ∧
      (t.ctx x).permit = decide (rq.fld 0 1 = 1) := by
  obtain ⟨M, key, hexec, -, ha⟩ := exec_of_replies (i := .countersPermission rq)
    (fun M => State.updCtx { s with mailboxes := M } x (fun c => { c with permit := rq.fld 0 1 == 1 })) {} hs rfl fun M _ => by
    rw [State.adm_of hmb, State.onCtx_of_acts (s := { s with mailboxes := M }) hx, State.bodyOf_of hlen (by simp [hval, hresv])]
    rfl
  refine ⟨_, hexec, hmb ▸ ha, ?_⟩
  rw [State.ctx_answer, State.ctx_updCtx]
  rfl

/-! ### Sampling (R529, R530, R535) -/

/-- A SAMPLING command that the channel may give changes what samples its context, and is answered OK. -/
theorem exec_sampling {s : State} {i : Instr} {rq : Req} {x : Nat} (action : Nat) (reads : Bool) (f : Sampling → Sampling) (hs : s.Heard rq 9 3)
    (hact : rq.fld 0 1 = action) (hrow : exec i s = .next (s.actionCmd rq 9 3 action (fun s => s.sampling rq reads f))) (hx : s.Acts rq x)
    (hlen : rq.body.length = 48) (hadm : rq.mb = 0 → s.life.debug ≠ 0) (hctx : rq.mb ≠ 0 → (s.ctx x).permit = true) (hok : (!reads || sampOk rq) = true) :
    ∃ t : State, exec i s = .next t ∧ (t.mbox rq.mb).lastStatus = 0 ∧ (t.ctx x).sampling = f (s.ctx x).sampling := by
  have hmay : ¬ (if rq.mb = 0 then s.life.debug == 0 else !(s.ctx x).permit) = true := by
    split
    · next hmb => simp [hadm hmb]
    · next hmb => simp [hctx hmb]
  rw [State.actionCmd, if_pos hact] at hrow
  let v (M : Map Mailbox) : State := State.updCtx { s with mailboxes := M } x (fun c => { c with sampling := f c.sampling })
  let r (M : Map Mailbox) : Reply :=
    { body := leBytes 8 (((v M).ctx x).counters.getOr 199 {}).value ++ leBytes 8 (((v M).ctx x).counters.getOr 200 {}).value }
  obtain ⟨M, key, -, heq⟩ := State.mailCmd_heard hs
  have hgo : State.sampling { s with mailboxes := M } rq reads f = (v M, r M) := by
    rw [State.sampling, State.onCtx_of_acts (s := { s with mailboxes := M }) hx, State.bodyOf_of hlen hok]
    exact if_neg hmay
  obtain ⟨-, -, hstatus, -⟩ := State.answer_answered (v M) rq 9 3 key (r M)
  refine ⟨_, hrow.trans (congrArg Host.Outcome.next (by rw [heq, hgo])), hstatus, ?_⟩
  rw [State.ctx_answer]
  exact congrArg Ctx.sampling (State.ctx_updCtx _ _ _)

theorem sampling_row {s : State} {rq : Req} {x : Nat} (hs : s.Heard rq 9 3) (hx : s.Acts rq x) (hlen : rq.body.length = 48)
    (hadm : rq.mb = 0 → s.life.debug ≠ 0) (hctx : rq.mb ≠ 0 → (s.ctx x).permit = true) :
    (rq.fld 0 1 = 0 → ∃ t : State, exec (.samplingOff rq) s = .next t ∧ (t.mbox rq.mb).lastStatus = 0 ∧
      (t.ctx x).sampling = { (s.ctx x).sampling with on := false }) ∧
    (rq.fld 0 1 = 1 → sampOk rq = true → ∃ t : State, exec (.samplingOn rq) s = .next t ∧ (t.mbox rq.mb).lastStatus = 0 ∧
      (t.ctx x).sampling = { (s.ctx x).sampling with on := true, samp := sampRing rq }) ∧
    (rq.fld 0 1 = 2 → sampOk rq = true → ∃ t : State, exec (.samplingArmReplay rq) s = .next t ∧ (t.mbox rq.mb).lastStatus = 0 ∧
      (t.ctx x).sampling = { (s.ctx x).sampling with armed := some (rq.fld 40 4), tracing := false, trace := sampRing rq }) ∧
    (rq.fld 0 1 = 3 → ∃ t : State, exec (.samplingDisarm rq) s = .next t ∧ (t.mbox rq.mb).lastStatus = 0 ∧
      (t.ctx x).sampling = { (s.ctx x).sampling with armed := none, tracing := false }) :=
  ⟨fun h => exec_sampling 0 false (fun k => { k with on := false }) hs h rfl hx hlen hadm hctx rfl,
    fun h hok => exec_sampling 1 true (fun k => { k with on := true, samp := sampRing rq }) hs h rfl hx hlen hadm hctx hok,
    fun h hok => exec_sampling 2 true (fun k => { k with armed := some (rq.fld 40 4), tracing := false, trace := sampRing rq }) hs h rfl hx hlen hadm hctx hok,
    fun h => exec_sampling 3 false (fun k => { k with armed := none, tracing := false }) hs h rfl hx hlen hadm hctx rfl⟩

theorem exec_sampleRecordWrite {s : State} {c : Nat} {q : List Byte} {l : List (List Byte)} {r : SampRing} (hq : (s.core c).sampleQ = q :: l)
    (hr : r = (if le q 3 1 = 1 then (s.ctx (le q 0 2)).sampling.trace else (s.ctx (le q 0 2)).sampling.samp)) (b : List Byte) : ∃ t : State,
      exec (.sampleRecordWrite c (some b)) s = .next t ∧ (t.core c).sampleQ = l ∧
      (r.written < leNat b + r.bufLen / 64 → t.out = s.out ++
        [Output.dmaWrite r.fn (r.bufAddr + 64 * (r.written % (r.bufLen / 64))) (q ++ leBytes 4 r.written ++ zeros 4),
         .dmaWrite r.fn r.producer (leBytes 8 (r.written + 1))]) ∧
      (leNat b + r.bufLen / 64 ≤ r.written → t.out = s.out) := by
  have hr' : (if (le q 3 1 == 1) = true then (s.ctx (le q 0 2)).sampling.trace else (s.ctx (le q 0 2)).sampling.samp) = r := by rw [hr]; simp
  have hcore : ∀ u : State, u.cores = (s.updCore c (fun k => { k with sampleQ := l })).cores → (u.core c).sampleQ = l := fun u hu => by
    rw [State.core_congr hu, State.core_updCore]
  have hrow : exec (.sampleRecordWrite c (some b)) s = execSampleRecordWrite c (some b) s := rfl
  rw [hrow, execSampleRecordWrite, hq]
  dsimp only
  rw [State.ctx_updCore, hr']
  by_cases hroom : r.written < leNat b + r.bufLen / 64
  · rw [if_pos hroom]
    refine ⟨_, rfl, hcore _ rfl, fun _ => ?_, fun hfull => absurd hfull (by omega)⟩
    exact List.append_assoc _ _ _
  · rw [if_neg hroom]
    exact ⟨_, rfl, hcore _ rfl, fun h => absurd h hroom, fun _ => rfl⟩

theorem exec_sampleRecordWrite_unreadable {s : State} {c : Nat} {q : List Byte} {l : List (List Byte)} (hq : (s.core c).sampleQ = q :: l) : ∃ t : State,
    exec (.sampleRecordWrite c none) s = .next t ∧ (t.core c).sampleQ = l ∧ t.out = s.out := by
  have hrow : exec (.sampleRecordWrite c none) s =
      .next ((s.updCore c (fun k => { k with sampleQ := l })).count (le q 0 2) 200 1) := by
    show execSampleRecordWrite c none s = _
    rw [execSampleRecordWrite, hq]
  exact ⟨_, hrow, by rw [State.core_count, State.core_updCore], rfl⟩

/-! ### The log and the cullets (R232, R464, R466) -/

theorem exec_logStatus {s : State} {rq : Req} {n : Nat} (hs : s.Heard rq 0x0A 1) (hon : OnNone rq) (hb : rq.body = [])
    (hn : n = (match s.visible rq.mb with | e :: _ => e.seq | [] => s.logNext)) : ∃ t : State, exec (.logStatus rq) s = .next t ∧
      Answered t rq.mb 0 (leBytes 4 n ++ leBytes 4 s.logNext ++ leBytes 4 (s.overflowOf rq.mb)) := by
  subst hn
  refine exec_of_shows _ hs rfl fun M => ?_
  rw [State.anyMb_of_onNone hon, State.bodyOf_of (by rw [hb]; rfl) rfl]
  rfl

theorem exec_logRead {s : State} {rq : Req} (hs : s.Heard rq 0x0A 2) (hon : OnNone rq) (hlen : rq.body.length = 16) (hroom : s.handleRoom rq.mb = true) :
    ∃ t : State, exec (.logRead rq) s = .next t ∧ Handed s t rq 0x0F []
      { mb := rq.mb, op := 0x0F, phase := 1, total := rq.fld 4 4, arg := 1, arg2 := rq.fld 0 4, len := rq.fld 4 4, addr := rq.fld 8 8, fn := rq.mb } := by
  obtain ⟨B, H, P, key, hk, hexec⟩ := exec_of_hands (i := .logRead rq)
    { mb := rq.mb, op := 0x0F, phase := 1, total := rq.fld 4 4, arg := 1, arg2 := rq.fld 0 4, len := rq.fld 4 4, addr := rq.fld 8 8, fn := rq.mb }
    (fun s k => s.given k) hs rfl hroom rfl (fun M => by rw [State.anyMb_of_onNone hon, State.bodyOf_of hlen rfl])
  exact ⟨_, hexec _ rfl, handed_answer 0x0A 2 key hk⟩

theorem exec_culletRead {s : State} {rq : Req} (hs : s.Heard rq 0x0C 1) (hon : OnNone rq) (hlen : rq.body.length = 4) (hn : rq.fld 2 2 ≤ 60) :
    ∃ t : State, exec (.culletRead rq) s = .next t ∧ Answered t rq.mb 0 (leBytes 4 s.culls.length ++ zeros 4 ++
      (List.range (rq.fld 2 2)).flatMap (fun i => match s.culls[rq.fld 0 2 + i]? with | some e => e.bytes | none => zeros 32)) := by
  refine exec_of_shows _ hs rfl fun M => ?_
  rw [State.anyMb_of_onNone hon, State.bodyOf_of hlen (by simp [hn])] <;> rfl

/-! ### Cancelling (R458, R459) -/

/-- A handle that a mailbox sees is one of the module. -/
theorem State.handle_of_seeHandle {s : State} {m k : Nat} {h : Handle} (hsee : s.seeHandle m k = some h) : s.handle k = some h := by
  rw [State.seeHandle] at hsee
  split at hsee
  · next h' hk =>
    split at hsee
    · rw [hk, hsee]
    · cases hsee
  · cases hsee

/-- The operations that end cancelled at once: staging, a read of the log, a migration, an offer. -/
theorem State.cancelled_ends {s : State} {k : Nat} {h : Handle} (hop : h.op = 0x0A ∨ h.op = 0x0F ∨ h.op = 7 ∨ h.op = 8) :
    ∃ u : State, s.cancelled k h = some (u.finish k 0x21) ∧ u.handles = s.handles := by
  rcases hop with hop | hop | hop | hop
  · exact ⟨s, by simp only [State.cancelled, hop], rfl⟩
  · exact ⟨s, by simp only [State.cancelled, hop], rfl⟩
  · exact ⟨{ s with asks := s.asks.filter (fun (a : MigAsk) => a.handle != k) }, by simp only [State.cancelled, hop], rfl⟩
  · exact ⟨{ s with lend := s.lend.del h.arg }, by simp only [State.cancelled, hop], rfl⟩

/-- The operations that R458 marks as not cancellable. -/
theorem State.cancelled_none {s : State} {k : Nat} {h : Handle} (hop : h.op = 2 ∨ h.op = 9 ∨ h.op = 0x0B ∨ h.op = 0x0D) : s.cancelled k h = none := by
  rcases hop with hop | hop | hop | hop <;> simp only [State.cancelled, hop]

theorem handleCancel_row {s : State} {rq : Req} {h : Handle} (hs : s.Heard rq 0x0E 2) (hon : OnNone rq) (hlen : rq.body.length = 8)
    (hsee : s.seeHandle rq.mb (rq.fld 0 8) = some h) (hf : h.fin = false) :
    ((h.op = 0x0A ∨ h.op = 0x0F ∨ h.op = 7 ∨ h.op = 8) → ∃ t h', exec (.handleCancel rq) s = .next t ∧ Answered t rq.mb 0 [] ∧
      t.handle (rq.fld 0 8) = some h' ∧ h'.fin = true ∧ h'.status = 0x21 ∧ h'.phase = 7) ∧
    ((h.op = 2 ∨ h.op = 9 ∨ h.op = 0x0B ∨ h.op = 0x0D) → ∃ t : State, exec (.handleCancel rq) s = .next t ∧ Answered t rq.mb 0x16 [] ∧ t.handles = s.handles) := by
  have hnew : ¬ h.fin = true := by simp [hf]
  have hbody : ∀ (M : Map Mailbox) (g : State × Reply), State.anyMb { s with mailboxes := M } rq (State.bodyOf { s with mailboxes := M } rq 8 true g) = g :=
    fun M g => by rw [State.anyMb_of_onNone hon, State.bodyOf_of hlen rfl]
  have hseeM : ∀ M, State.seeHandle { s with mailboxes := M } rq.mb (rq.fld 0 8) = some h := fun _ => hsee
  constructor
  · intro hop
    choose u hu hhandles using fun M => State.cancelled_ends (s := { s with mailboxes := M }) (k := rq.fld 0 8) hop
    obtain ⟨M, key, hexec, -, ha⟩ := exec_of_replies (i := .handleCancel rq) (fun M => (u M).finish (rq.fld 0 8) 0x21) {} hs rfl fun M _ => by
      rw [hbody, hseeM]
      dsimp only
      rw [if_neg hnew, hu]
      rfl
    have hk : (u M).handle (rq.fld 0 8) = some h := (State.handle_congr (hhandles M) _).trans (State.handle_of_seeHandle hsee)
    exact ⟨_, _, hexec, ha, by rw [State.handle_answer, State.handle_finish hk hf], rfl, rfl, rfl⟩
  · intro hop
    obtain ⟨M, key, hexec, -, ha⟩ := exec_of_replies (i := .handleCancel rq) (fun M => { s with mailboxes := M }) { status := 0x16 } hs rfl fun M _ => by
      rw [hbody, hseeM]
      dsimp only
      rw [if_neg hnew, State.cancelled_none hop]
      rfl
    exact ⟨_, hexec, ha, (State.answer_rel _ _ _ _ _ _).handles (by decide)⟩

/-- Settles O26, row by row. -/
theorem observeRowsComplete : Obligations.ObserveRowsComplete := by
  unfold Obligations.ObserveRowsComplete
  exact ⟨fun rq x s hs hlen hn => countersRead_row hs hlen hn,
    fun rq x s hs hmb hx hlen hval hresv => exec_countersPermission hs hmb hx hlen hval hresv,
    fun rq x s hs hx hlen hadm hctx => sampling_row hs hx hlen hadm hctx,
    fun c q l r b s hq hr => exec_sampleRecordWrite hq hr b,
    fun c q l s hq => exec_sampleRecordWrite_unreadable hq,
    fun rq n s hs hon hb hn => exec_logStatus hs hon hb hn,
    fun rq s hs hon hlen hroom => exec_logRead hs hon hlen hroom,
    fun rq s hs hon hlen hn => exec_culletRead hs hon hlen hn,
    fun rq h s hs hon hlen hsee hf => handleCancel_row hs hon hlen hsee hf⟩

end Sys2Proof.Machine

/-! SUPPORT. A transition asked for while the handle table holds, under the number that the request is given next, the handle of an ACTIVATE (O28): the new handle takes
that entry's place, so that the transition begins at once, though it is blocked as the request arrives (R457, R488). -/

namespace Sys2Proof.Machine

/-- LIFECYCLE with ACTION 0x11 on the admin mailbox, with its MAC under an empty K_REQ (R446, R486). -/
def toFieldAsk : Req :=
  let rq : Req := { mb := 0, dbTag := 1, tag := 1, epoch := 1, target := 0xFFFF, body := leBytes 8 0x11 }
  { rq with mac := padTo 32 (hmacSm3 [] (headBytes rq 0x0B 6 ++ rq.body)) }

/-- A module in FIELD_DEBUG with a session open on the admin mailbox. The one entry of its handle table is an ACTIVATE that runs, under the number of the first handle of a
transition. -/
def staleHandleState : State :=
  { mailboxes := [(0, { epoch := 1, nextTag := 1, session := { isOpen := true } })]
    start := { stage := 7, pwrok := true }, pcie := { linkUp := true }, life := { state := 3 }
    handles := [(handleOf 0 2 1, { mb := 0, op := 0x0B })] }

theorem staleHandleState_heard : staleHandleState.Heard toFieldAsk 0x0B 6 := by
  unfold State.Heard
  decide +kernel

/-- The request has its form and passes every check of the row; the ACTIVATE blocks the transition. -/
theorem staleHandleState_checks : toFieldAsk.fld 0 1 = 0x11 ∧ toFieldAsk.body.length = 8 ∧ toFieldAsk.fld 1 7 = 0 ∧ staleHandleState.handleRoom 0 = true ∧
    staleHandleState.transitionBlocked = true := by
  decide +kernel

/-- The transition begins at once: nothing blocks it once its handle has replaced that of the ACTIVATE. -/
theorem staleHandleState_toField : ∃ t : State, exec (.lifecycleToField toFieldAsk) staleHandleState = .next t ∧
    t.life.trans.map (fun r => r.begun) = some true :=
  ⟨_, rfl, by decide +kernel⟩

/-- Refutes O28: a transition that is blocked as its request arrives begins all the same when the number of its handle is that of the ACTIVATE that blocks it. The
statement is about every state and does not ask that a handle's number name its operation. -/
theorem not_lifecycleRowsComplete : ¬ Obligations.LifecycleRowsComplete := by
  unfold Obligations.LifecycleRowsComplete
  rintro ⟨-, -, -, hmoves, -⟩
  obtain ⟨hact, hlen, hresv, hroom, hblocked⟩ := staleHandleState_checks
  obtain ⟨t, hexec, -, -, -, htrans⟩ := hmoves toFieldAsk (.lifecycleToField toFieldAsk) 0x11 [3] none
    { toLife := 2, toDebug := 0, handle := 0, eraseNand := true, gafferReset := true } staleHandleState (by simp) staleHandleState_heard hact rfl hlen hresv rfl rfl
    (by simp) hroom
  obtain ⟨u, hu, hbegun⟩ := staleHandleState_toField
  cases hu.symm.trans hexec
  rw [htrans, hblocked] at hbegun
  exact absurd hbegun (by simp)

end Sys2Proof.Machine

/-! SUPPORT. Migration and residency (O12): which bank holds a tile's migration, what log and counters leave of a context, and what each row makes of a migration. -/

namespace Sys2Proof.Machine

/-! ### The entry of a tile in migration (R193, R410) -/

theorem Ctx.inRegion_setBankEntry (c : Ctx) (b t : Nat) (e : TileEntry) (n : Nat) : (c.setBankEntry b t e).inRegion n = c.inRegion n := by
  unfold Ctx.setBankEntry
  split <;> rfl

@[simp] theorem Ctx.weights_setBankEntry (c : Ctx) (b t : Nat) (e : TileEntry) : (c.setBankEntry b t e).weights = c.weights := by
  unfold Ctx.setBankEntry
  split <;> rfl

/-- Two banks hold one entry of a tile or two: an entry set in one is that of the other, or leaves the other. -/
theorem Ctx.bankEntry_setBankEntry_cases (c : Ctx) (a b t : Nat) (e : TileEntry) :
    (c.bankEntry a t = c.bankEntry b t ∧ (c.setBankEntry b t e).bankEntry a t = e) ∨ (c.setBankEntry b t e).bankEntry a t = c.bankEntry a t := by
  have hin := c.inRegion_setBankEntry b t e t
  by_cases ha : a = 1 ∧ c.inRegion t = true <;> by_cases hb : b = 1 ∧ c.inRegion t = true
  · exact .inl ⟨by rw [ha.1, hb.1], by rw [ha.1, ← hb.1, Ctx.bankEntry_setBankEntry]⟩
  · exact .inr (by rw [Ctx.bankEntry, hin, if_pos ha, Ctx.bankEntry, if_pos ha, Ctx.setBankEntry, if_neg hb])
  · exact .inr (by rw [Ctx.bankEntry, hin, if_neg ha, Ctx.bankEntry, if_neg ha, Ctx.setBankEntry, if_pos hb])
  · refine .inl ⟨by rw [Ctx.bankEntry, if_neg ha, Ctx.bankEntry, if_neg hb], ?_⟩
    rw [Ctx.bankEntry, hin, if_neg ha, Ctx.setBankEntry, if_neg hb, Map.getOr_set]

/-- An entry that holds a migration stays in the bank that the migration is read from. -/
theorem Ctx.migBank_setBankEntry (c : Ctx) {t : Nat} {e : TileEntry} (he : e.state ≠ 0) : (c.setBankEntry (c.migBank t) t e).migBank t = c.migBank t := by
  have hset := c.bankEntry_setBankEntry (c.migBank t) t e
  by_cases hact : (c.bankEntry c.weights.active t).state = 0
  · by_cases hother : (c.bankEntry (1 - c.weights.active) t).state = 0
    · have hb : c.migBank t = c.weights.active := by simp [Ctx.migBank, hact, hother]
      rw [hb] at hset ⊢
      simp [Ctx.migBank, hset, he]
    · have hb : c.migBank t = 1 - c.weights.active := by simp [Ctx.migBank, hact, hother]
      rw [hb] at hset ⊢
      rcases c.bankEntry_setBankEntry_cases c.weights.active (1 - c.weights.active) t e with ⟨hone, -⟩ | hkeep
      · exact absurd (hone ▸ hact) hother
      · simp [Ctx.migBank, hkeep, hact, hset, he]
  · have hb : c.migBank t = c.weights.active := by simp [Ctx.migBank, hact]
    rw [hb] at hset ⊢
    simp [Ctx.migBank, hset, he]

@[simp] theorem Ctx.migEntry_setMigEntry (c : Ctx) {t : Nat} {e : TileEntry} (he : e.state ≠ 0) : (c.setMigEntry t e).migEntry t = e := by
  rw [Ctx.migEntry, Ctx.setMigEntry, c.migBank_setBankEntry he, Ctx.bankEntry_setBankEntry]

/-! ### What log and counters leave of the contexts -/

/-- The contexts of two states differ at most in their counters and in how many log entries they have lost. -/
def SameTables (s t : State) : Prop := ∀ x, ∃ m n, t.ctx x = { s.ctx x with counters := m, logOverflow := n }

theorem SameTables.of_ctxs {s t : State} (h : t.ctxs = s.ctxs) : SameTables s t := fun x => ⟨(s.ctx x).counters, (s.ctx x).logOverflow, by rw [State.ctx_congr h]⟩

theorem SameTables.trans {s t u : State} (h : SameTables s t) (g : SameTables t u) : SameTables s u := fun x => by
  obtain ⟨m, n, ht⟩ := h x
  obtain ⟨m', n', hu⟩ := g x
  exact ⟨m', n', by rw [hu, ht]⟩

section
variable {s t : State} (h : SameTables s t)
include h

theorem SameTables.bankEntry (x b n : Nat) : (t.ctx x).bankEntry b n = (s.ctx x).bankEntry b n := by
  obtain ⟨m, k, ht⟩ := h x
  rw [ht]
  rfl

theorem SameTables.migBank (x n : Nat) : (t.ctx x).migBank n = (s.ctx x).migBank n := by
  obtain ⟨m, k, ht⟩ := h x
  rw [ht]
  rfl

theorem SameTables.migEntry (x n : Nat) : (t.ctx x).migEntry n = (s.ctx x).migEntry n := by
  rw [Ctx.migEntry, Ctx.migEntry, h.migBank, h.bankEntry]

end

theorem State.sameTables_count (s : State) (x i k : Nat) : SameTables s (s.count x i k) := fun y => by
  obtain ⟨m, hm⟩ := s.ctx_count x i k y
  exact ⟨m, (s.ctx y).logOverflow, by rw [hm]⟩

theorem State.sameTables_logRoom (s : State) : SameTables s s.logRoom := by
  unfold State.logRoom
  split
  · exact .of_ctxs rfl
  · split
    · exact .of_ctxs rfl
    · next e r hlog =>
      dsimp only
      split
      · exact .of_ctxs rfl
      · intro x
        by_cases hx : x = e.ctx
        · subst hx
          exact ⟨_, _, State.ctx_updCtx _ _ _⟩
        · exact ⟨(s.ctx x).counters, (s.ctx x).logOverflow, State.ctx_updCtx_ne _ _ hx⟩

/-- A log record leaves the contexts as they are, but for the oldest entry that it may overwrite (R466). -/
theorem State.sameTables_logRecord (s : State) (type sev x : Nat) (body : Nat → List Byte) : SameTables s (s.logRecord type sev x body) := by
  have hnotify : ∀ (u : State) (m sev : Nat), (u.notify m sev).ctxs = u.ctxs := fun u m sev => (State.notify_rel u m sev).ctxs (by decide)
  have hctxs : (s.logRecord type sev x body).ctxs = s.logRoom.ctxs := by
    rw [State.logRecord]
    split
    · rw [hnotify]
    · rw [hnotify, hnotify]
  exact s.sameTables_logRoom.trans (.of_ctxs hctxs)

theorem State.sameTables_tileError (s : State) (tier cls source x core addr line lender location : Nat) :
    SameTables s (s.tileError tier cls source x core addr line lender location) := by
  unfold State.tileError
  exact State.sameTables_logRecord _ _ _ _ _

theorem State.sameTables_uncRow (s : State) (loc : BankLoc) (row cause : Nat) : SameTables s (s.uncRow loc row cause) :=
  .of_ctxs ((State.uncRow_rel s loc row cause).ctxs (by decide))

@[simp] theorem State.ctx_finish_ok (s : State) (k x : Nat) : (s.finish k 0).ctx x = s.ctx x := by
  cases hk : s.handle k with
  | none => simp [State.finish, hk]
  | some h =>
    cases hf : h.fin with
    | true => simp [State.finish, hk, hf]
    | false => rw [State.finish_ok hk hf]; rfl

/-- The handle of a tier command may complete with the last of its tiles; no context changes. -/
theorem State.ctxs_migDone (s : State) (k x : Nat) : (s.migDone k).ctx x = s.ctx x := by
  have hprog : (s.progress1 k).ctx x = s.ctx x := State.ctx_congr ((State.progress1_rel s k).ctxs (by decide)) x
  unfold State.migDone
  extract_lets u
  split
  · split
    · rw [State.ctx_finish_ok, hprog]
    · exact hprog
  · exact hprog

theorem State.sameTables_migDone (s : State) (k : Nat) : SameTables s (s.migDone k) := fun x =>
  ⟨(s.ctx x).counters, (s.ctx x).logOverflow, by rw [State.ctxs_migDone]⟩

theorem State.sameTables_stallEnds (s : State) (m : Mig) : SameTables s (s.stallEnds m) := by
  unfold State.stallEnds
  split
  · exact State.sameTables_count _ _ _ _
  · exact .of_ctxs rfl

/-! ### The rows of a migration (R203 to R210) -/

theorem exec_migrationSlotGrant {s : State} {x : Nat} {m : Mig} (hp : s.power.state ≠ .standby) (hslot : s.slotFor x = true)
    (hturn : (s.ctx x).sealed_ = true ∨ s.turnOf = some x) (hm : s.nextMig x = some m) : ∃ t u : State, exec (.migrationSlotGrant x) s = .next t ∧
      t = u.placeAsks x ∧ (u.ctx x).migEntry m.tile = { (s.ctx x).migEntry m.tile with state := 2 } ∧ u.migs = s.migs ∧ u.mem = s.mem := by
  have hgo : ¬ (s.power.state == PowerState.standby || !s.slotFor x || (!(s.ctx x).sealed_ && s.turnOf != some x)) = true := by
    rcases hturn with h | h <;> simp [hp, hslot, h]
  let v : State := s.setCtx x ((s.ctx x).setMigEntry m.tile { (s.ctx x).migEntry m.tile with state := 2 })
  have hv : (v.ctx x).migEntry m.tile = { (s.ctx x).migEntry m.tile with state := 2 } := by
    rw [State.ctx_setCtx]
    exact Ctx.migEntry_setMigEntry _ (Nat.succ_ne_zero _)
  have hrow : exec (.migrationSlotGrant x) s = .next ((if (v.ctx x).sealed_ then v else { v with migRr := (x + 1) % 512 }).placeAsks x) := by
    show execMigrationSlotGrant x s = _
    rw [execMigrationSlotGrant, if_neg hgo, hm]
  refine ⟨_, _, hrow, rfl, ?_⟩
  split
  · exact ⟨hv, rfl, rfl⟩
  · exact ⟨hv, rfl, rfl⟩

theorem exec_migrationCopyDone {s : State} {x n : Nat} {m : Mig} (hm : s.migOf x n = some m) (hst : ((s.ctx x).migEntry n).state = 2)
    (hahead : s.aheadOf m = false) : ∃ t : State, exec (.migrationCopyDone x n) s = .next t ∧
      (t.ctx x).migEntry n = { (s.ctx x).migEntry n with state := 3 } ∧ ((s.migAddr m).1 = (s.migAddr m).2 → t.mem = s.mem) ∧
      ((s.migAddr m).1 ≠ (s.migAddr m).2 → t.mem = (s.memCopy (s.migAddr m).1 (s.migAddr m).2 tileBytes).mem) := by
  let e := (s.ctx x).migEntry n
  let copied : State := (s.memCopy (s.migAddr m).1 (s.migAddr m).2 tileBytes).ownWindow e.destTier m.region e.destFrame
  have hgo : ¬ (((s.ctx x).migEntry n).state ≠ 2 ∨ s.aheadOf m = true) := by simp [hst, hahead]
  have hrow : exec (.migrationCopyDone x n) s = .next ((if (s.migAddr m).1 = (s.migAddr m).2 then s else copied).setCtx x
      (((if (s.migAddr m).1 = (s.migAddr m).2 then s else copied).ctx x).setMigEntry n { e with state := 3 })) := by
    show execMigrationCopyDone x n s = _
    rw [execMigrationCopyDone, hm]
    exact if_neg hgo
  have hown := State.ownWindow_rel (s.memCopy (s.migAddr m).1 (s.migAddr m).2 tileBytes) e.destTier m.region e.destFrame
  refine ⟨_, hrow, ?_, fun haddr => by rw [if_pos haddr, State.setCtx_mem], fun haddr => by rw [if_neg haddr, State.setCtx_mem, hown.mem (by decide)]⟩
  rw [State.ctx_setCtx]
  exact Ctx.migEntry_setMigEntry _ (Nat.succ_ne_zero _)

/-- The migration that the engine holds of a tile is one of its list. -/
theorem State.mem_of_migOf {s : State} {x n : Nat} {m : Mig} (hm : s.migOf x n = some m) : m ∈ s.migs ∧ m.ctx = x ∧ m.tile = n := by
  have hp := List.find?_some hm
  simp only [Bool.and_eq_true, decide_eq_true_eq] at hp
  exact ⟨List.mem_of_find?_eq_some hm, hp⟩

/-- A frame given up is zero-filled, but for a T0 window (R208). -/
theorem State.mem_releaseFrame (s : State) (x n tier core frame : Nat) : (s.releaseFrame x n tier core frame).mem =
    if tier = 0 then s.mem else (s.clearMem (framePhys x n tier core frame) tileBytes).mem := by
  unfold State.releaseFrame
  extract_lets v p
  have hv : v.mem = if tier = 0 then s.mem else (s.clearMem (framePhys x n tier core frame) tileBytes).mem := by
    unfold v
    split <;> rfl
  rw [← hv]
  split <;> rfl

theorem exec_migrationCommit {s : State} {x n : Nat} {m : Mig} {e : TileEntry} (hm : s.migOf x n = some m) (he : e = (s.ctx x).migEntry n) (hst : e.state = 3) :
    ∃ t u : State, exec (.migrationCommit x n) s = .next t ∧ t = ((u.unstall x n).placeAsks x).releaseWindows ∧
      (u.ctx x).bankEntry ((s.ctx x).migBank n) n =
        { e with state := 0, tier := e.destTier, frame := e.destFrame, lender := e.destLender, policy := m.policy
                 core := if e.destTier = 0 then m.region else m.core, destTier := 0, destFrame := 0, destLender := 0 } ∧
      u.migs = s.migs.filter (fun k => !(k.ctx = x && k.tile = n)) ∧
      (e.tier = 0 ∨ (s.migAddr m).1 = (s.migAddr m).2 → u.mem = s.mem) ∧
      (e.tier ≠ 0 → (s.migAddr m).1 ≠ (s.migAddr m).2 → u.mem = (s.clearMem (s.migAddr m).1 tileBytes).mem) := by
  obtain ⟨-, hx, hn⟩ := State.mem_of_migOf hm
  let moved : TileEntry := { e with
    state := 0, tier := e.destTier, frame := e.destFrame, lender := e.destLender, policy := m.policy
    core := if e.destTier = 0 then m.region else m.core, destTier := 0, destFrame := 0, destLender := 0 }
  let freed : State := if (s.migAddr m).1 = (s.migAddr m).2 then s else s.releaseEntry x n e
  let entered : State := (freed.setCtx x ((freed.ctx x).setMigEntry n moved)).invalidate x (fun t => t = n)
  let left : State := { entered with migs := entered.migs.filter (fun k => !(k.ctx = x && k.tile = n)) }
  let u : State := ((left.count x 192 1).stallEnds m).migDone m.handle
  have hrow : exec (.migrationCommit x n) s = .next (((u.unstall x n).placeAsks x).releaseWindows) := by
    show execMigrationCommit x n s = _
    subst he
    rw [execMigrationCommit, hm]
    exact if_neg (not_not.mpr hst)
  have hfreed : Rel [.mem, .freed] s freed := by
    unfold freed
    split
    · exact Rel.refl _ _
    · exact State.releaseEntry_rel s x n e
  have hinv := State.invalidate_rel (freed.setCtx x ((freed.ctx x).setMigEntry n moved)) x (fun t => t = n)
  have htables : SameTables left u :=
    ((State.sameTables_count left x 192 1).trans (State.sameTables_stallEnds _ m)).trans (State.sameTables_migDone _ m.handle)
  have hrel : Rel [.out, .ctxs, .mailboxes, .handles, .log, .logNext, .logOverflow] left u :=
    ((((State.count_rel left x 192 1).mono (by decide)).trans ((State.stallEnds_rel _ m).mono (by decide))).trans (State.migDone_rel _ m.handle))
  have hctx : freed.ctx x = s.ctx x := State.ctx_congr (hfreed.ctxs (by decide)) x
  have hentered : entered.mem = freed.mem := by rw [hinv.mem (by decide), State.setCtx_mem]
  have hmem : u.mem = freed.mem := by
    rw [hrel.mem (by decide)]
    dsimp only [left]
    rw [hentered]
  refine ⟨_, u, hrow, rfl, ?_, ?_, ?_, ?_⟩
  · have hleft : left.ctx x = (s.ctx x).setMigEntry n moved := by
      have h := State.ctx_congr (s := freed.setCtx x ((freed.ctx x).setMigEntry n moved)) (t := left) (hinv.ctxs (by decide)) x
      rw [h, State.ctx_setCtx, hctx]
    rw [htables.bankEntry, hleft, Ctx.setMigEntry, Ctx.bankEntry_setBankEntry]
  · rw [hrel.migs (by decide)]
    show entered.migs.filter _ = _
    rw [hinv.migs (by decide), State.setCtx_migs, hfreed.migs (by decide)]
  · intro hkeep
    rw [hmem]
    unfold freed
    split
    · rfl
    · next hne =>
      rw [State.releaseEntry, State.mem_releaseFrame, if_pos (hkeep.resolve_right hne)]
  · intro htier hne
    have haddr : (s.migAddr m).1 = framePhys x n e.tier e.core e.frame := by
      rw [he, ← hx, ← hn]
      rfl
    rw [hmem, haddr]
    unfold freed
    rw [if_neg hne, State.releaseEntry, State.mem_releaseFrame, if_neg htier]

/-! ### Aborts (R210) -/

/-- A migration that is aborted: its tile is ABORTING, the engine notes the cause, and nothing else of the tables changes. -/
theorem State.abortMig_spec {s : State} {x n : Nat} {m : Mig} (hm : s.migOf x n = some m) (a : AbortCause) :
    ((s.abortMig x n a).ctx x).migEntry n = { (s.ctx x).migEntry n with state := 4 } ∧
      ((s.abortMig x n a).ctx x).migBank n = (s.ctx x).migBank n ∧ ∃ k ∈ (s.abortMig x n a).migs, k.ctx = x ∧ k.tile = n ∧ k.cause = some a := by
  obtain ⟨hmem, hx, hn⟩ := State.mem_of_migOf hm
  let v : State := s.setCtx x ((s.ctx x).setMigEntry n { (s.ctx x).migEntry n with state := 4 })
  let w : State := { v with migs := v.migs.map (fun (k : Mig) => if k.ctx = x ∧ k.tile = n then { k with cause := some a } else k) }
  have hw : w.ctx x = (s.ctx x).setMigEntry n { (s.ctx x).migEntry n with state := 4 } := State.ctx_setCtx _ _ _
  have htables : SameTables w (s.abortMig x n a) := State.sameTables_count w x 193 1
  refine ⟨?_, ?_, { m with cause := some a }, ?_, hx, hn, rfl⟩
  · rw [htables.migEntry, hw, Ctx.migEntry_setMigEntry _ (Nat.succ_ne_zero _)]
  · rw [htables.migBank, hw]
    exact Ctx.migBank_setBankEntry _ (Nat.succ_ne_zero _)
  · exact List.mem_map.mpr ⟨m, hmem, if_pos ⟨hx, hn⟩⟩

/-- The error of a verify leaves the tables: the tile's data stand at its source (R210). -/
theorem State.sameTables_verifyFails (s : State) (x n l : Nat) (e : TileEntry) (region : Nat) : SameTables s (s.verifyFails x n l e region) := by
  unfold State.verifyFails
  extract_lets seq v b full w
  have hv : SameTables s v := State.sameTables_tileError _ _ _ _ _ _ _ _ _ _
  have hw : SameTables s w := hv.trans (State.sameTables_uncRow _ _ _ _)
  split
  · exact hv
  · split
    · exact hv
    · split
      · exact hw
      · exact hw

/-- A lost line leaves the migration of the tile as it stands (R225). -/
theorem State.state_loseLine {s : State} {x n tier core frame lender line cls source acc : Nat} (hst : ((s.ctx x).migEntry n).state ≠ 0) :
    (((s.loseLine x ((s.ctx x).migBank n) n tier core frame lender line cls source acc).ctx x).migEntry n).state = ((s.ctx x).migEntry n).state := by
  unfold State.loseLine
  extract_lets seq at_ v c e w b
  have hv : SameTables s v := State.sameTables_tileError _ _ _ _ _ _ _ _ _ _
  have hc : c.migBank n = (s.ctx x).migBank n := hv.migBank x n
  let lost : TileEntry := { c.bankEntry ((s.ctx x).migBank n) n with lost := true }
  have hlost : lost.state = ((s.ctx x).migEntry n).state := by
    show (c.bankEntry ((s.ctx x).migBank n) n).state = _
    rw [hv.bankEntry, Ctx.migEntry]
  have hw : (w.ctx x).migEntry n = lost := by
    have hctx : w.ctx x = { c.setBankEntry ((s.ctx x).migBank n) n lost with fenceDue := true } := by
      rw [State.ctx_fenceLater, State.ctx_setCtx]
    have hset : (c.setBankEntry (c.migBank n) n lost).migEntry n = lost := Ctx.migEntry_setMigEntry c (by rw [hlost]; exact hst)
    rw [hc] at hset
    rw [hctx]
    exact hset
  split
  · rw [hw, hlost]
  · rw [State.ctx_uncRow, hw, hlost]

/-- What a cause makes of a tile in migration, with the line in error and the region of the destination (R210). -/
def State.abortedBy (s : State) (x n l region : Nat) (a : AbortCause) : State :=
  match a with
  | .sourceError => (s.draw.abortMig x n a).uncorrectable x ((s.ctx x).migBank n) n l (eccClass ((s.ctx x).migEntry n).tier) 4 0xFFFF
  | .verifyError => (s.draw.abortMig x n a).verifyFails x n l ((s.ctx x).migEntry n) region
  | .fence => if (s.ctx x).fenced || (s.ctx x).state == CtxState.tearing then s.abortMig x n a else s
  | .reclaim | .lenderLost => if ((s.ctx x).migEntry n).destTier = 3 then s.abortMig x n a else s

theorem migrationAbort_row {s : State} {x n : Nat} {m : Mig} {e : TileEntry} (a : AbortCause) (hm : s.migOf x n = some m) (he : e = (s.ctx x).migEntry n)
    (h0 : e.state ≠ 0) (h4 : e.state ≠ 4) : ∃ t : State, exec (.migrationAbort x n a) s = .next t ∧
      ((a = .fence ∧ ((s.ctx x).fenced = true ∨ (s.ctx x).state = .tearing)) ∨ ((a = .reclaim ∨ a = .lenderLost) ∧ e.destTier = 3) ∨ a = .verifyError ∨
          a = .sourceError → ((t.ctx x).migEntry n).state = 4 ∧ ∃ k ∈ t.migs, k.ctx = x ∧ k.tile = n ∧ k.cause = some a) ∧
      ((a = .fence ∧ (s.ctx x).fenced = false ∧ (s.ctx x).state ≠ .tearing) ∨ ((a = .reclaim ∨ a = .lenderLost) ∧ e.destTier ≠ 3) → t = s) ∧
      (a = .verifyError → ∃ l, l < 1024 ∧ t = (s.draw.abortMig x n a).verifyFails x n l e m.region) ∧
      (a = .sourceError → ∃ l, l < 1024 ∧ t = (s.draw.abortMig x n a).uncorrectable x ((s.ctx x).migBank n) n l (eccClass e.tier) 4 0xFFFF) := by
  subst he
  have hgo : ¬ (((s.ctx x).migEntry n).state = 0 ∨ ((s.ctx x).migEntry n).state = 4) := fun h => h.elim h0 h4
  have haborted : ((((s.abortMig x n a).ctx x).migEntry n).state = 4 ∧ ∃ k ∈ (s.abortMig x n a).migs, k.ctx = x ∧ k.tile = n ∧ k.cause = some a) := by
    obtain ⟨hentry, -, hk⟩ := State.abortMig_spec hm a
    exact ⟨by rw [hentry], hk⟩
  obtain ⟨hentry, hbank, hk⟩ := State.abortMig_spec (s := s.draw) hm a
  let l := Config.freeValue s.fresh % 1024
  have hl : l < 1024 := Nat.mod_lt _ (by decide)
  have hrow : exec (.migrationAbort x n a) s = .next (s.abortedBy x n l m.region a) := by
    show execMigrationAbort x n a s = _
    rw [execMigrationAbort, hm]
    dsimp only
    rw [if_neg hgo]
    cases a <;> rfl
  refine ⟨_, hrow, ?_⟩
  cases a with
  | sourceError =>
    refine ⟨fun _ => ⟨?_, ?_⟩, by simp, by simp, fun _ => ⟨l, hl, rfl⟩⟩
    · have hst : (((s.draw.abortMig x n .sourceError).ctx x).migEntry n).state = 4 := by rw [hentry]
      have hbank' : ((s.draw.abortMig x n .sourceError).ctx x).migBank n = (s.ctx x).migBank n := hbank
      rw [State.abortedBy, State.uncorrectable, ← hbank', State.state_loseLine (by rw [hst]; decide), hst]
    · rw [State.abortedBy, (State.uncorrectable_rel _ _ _ _ _ _ _ _).migs (by decide)]
      exact hk
  | verifyError =>
    refine ⟨fun _ => ⟨?_, ?_⟩, by simp, fun _ => ⟨l, hl, rfl⟩, by simp⟩
    · rw [State.abortedBy, (State.sameTables_verifyFails _ _ _ _ _ _).migEntry, hentry]
    · rw [State.abortedBy, (State.verifyFails_rel _ _ _ _ _ _).migs (by decide)]
      exact hk
  | fence =>
    refine ⟨fun h => ?_, fun h => ?_, by simp, by simp⟩
    · have hf : ((s.ctx x).fenced || (s.ctx x).state == CtxState.tearing) = true := by simpa using h
      rw [State.abortedBy, if_pos hf]
      exact haborted
    · have hf : ¬ ((s.ctx x).fenced || (s.ctx x).state == CtxState.tearing) = true := by simpa using h
      exact if_neg hf
  | reclaim =>
    refine ⟨fun h => ?_, fun h => if_neg (by simpa using h), by simp, by simp⟩
    rw [State.abortedBy, if_pos (by simpa using h)]
    exact haborted
  | lenderLost =>
    refine ⟨fun h => ?_, fun h => if_neg (by simpa using h), by simp, by simp⟩
    rw [State.abortedBy, if_pos (by simpa using h)]
    exact haborted

theorem migrationAbortDone_row {s : State} {x n : Nat} {m : Mig} {e : TileEntry} (hm : s.migOf x n = some m) (he : e = (s.ctx x).migEntry n)
    (hst : e.state = 4) : ∃ t u : State, exec (.migrationAbortDone x n) s = .next t ∧
      (u.ctx x).bankEntry ((s.ctx x).migBank n) n = { e with state := 0, destTier := 0, destFrame := 0, destLender := 0 } ∧
      u.migs = s.migs.filter (fun k => !(k.ctx = x && k.tile = n)) ∧ u.mem = (s.releaseFrame x n e.destTier m.region e.destFrame).mem ∧
      (m.cause ≠ some .reclaim → (m.cause = some .verifyError → m.retried = true) → t = ((u.unstall x n).finish m.handle 0x25).placeAsks x) ∧
      (m.cause = some .reclaim → t = ((u.unstall x n).askElsewhere x n m).placeAsks x) := by
  let back : TileEntry := { e with state := 0, destTier := 0, destFrame := 0, destLender := 0 }
  let rested : State := s.setCtx x ((s.ctx x).setMigEntry n back)
  let freed : State := rested.releaseFrame x n e.destTier m.region e.destFrame
  let left : State := { freed with migs := freed.migs.filter (fun k => !(k.ctx = x && k.tile = n)) }
  let u : State := left.stallEnds m
  let again : MigAsk := {
    ctx := x, tile := n, bank := m.bank, tier := e.destTier, policy := m.policy, core := m.core, region := m.region, handle := m.handle
    why := if m.reclaim then .reclaim else if m.spare then .toSpare else .asked }
  have hrow : exec (.migrationAbortDone x n) s = .next ((if m.cause = some .verifyError ∧ ¬ m.retried then
      (match (u.unstall x n).askMig again true with
        | (s, .accepted) => s
        | (s, .noFrame) => s.finish m.handle 0x1D
        | (s, _) => s.finish m.handle 0x25)
      else if m.cause = some .reclaim then (u.unstall x n).askElsewhere x n m else (u.unstall x n).finish m.handle 0x25).placeAsks x) := by
    show execMigrationAbortDone x n s = _
    subst he
    rw [execMigrationAbortDone, hm]
    exact if_neg (not_not.mpr hst)
  have hfreed := State.releaseFrame_rel rested x n e.destTier m.region e.destFrame
  have hstall := State.stallEnds_rel left m
  refine ⟨_, u, hrow, ?_, ?_, ?_, fun hreclaim hverify => ?_, fun hreclaim => ?_⟩
  · have hleft : left.ctx x = rested.ctx x := State.ctx_congr (hfreed.ctxs (by decide)) x
    rw [(State.sameTables_stallEnds left m).bankEntry, hleft, State.ctx_setCtx, Ctx.setMigEntry, Ctx.bankEntry_setBankEntry]
  · rw [hstall.migs (by decide)]
    show freed.migs.filter _ = _
    rw [hfreed.migs (by decide), State.setCtx_migs]
  · rw [hstall.mem (by decide)]
    show freed.mem = _
    rw [State.mem_releaseFrame, State.mem_releaseFrame]
    rfl
  · rw [if_neg (fun h => h.2 (hverify h.1)), if_neg hreclaim]
  · rw [if_neg (by simp [hreclaim]), if_pos hreclaim]

/-! ### A pass of the residency manager (R200, R201) -/

/-- To set an entry is to put it in, or to replace the one found. -/
theorem Map.set_cases {α : Type} (m : Map α) (k : Nat) (v : α) : ∃ l r, (m = l ++ r ∧ m.set k v = l ++ (k, v) :: r) ∨
    ∃ w, m.find k = some w ∧ m = l ++ (k, w) :: r ∧ m.set k v = l ++ (k, v) :: r := by
  induction m with
  | nil => exact ⟨[], [], .inl ⟨rfl, rfl⟩⟩
  | cons e m ih =>
    obtain ⟨j, a⟩ := e
    by_cases hlt : k < j
    · exact ⟨[], (j, a) :: m, .inl ⟨rfl, if_pos hlt⟩⟩
    · by_cases hj : j = k
      · subst hj
        exact ⟨[], m, .inr ⟨a, if_pos rfl, rfl, by rw [Map.set, if_neg hlt, if_pos rfl]; rfl⟩⟩
      · have hset : Map.set ((j, a) :: m) k v = (j, a) :: Map.set m k v := by rw [Map.set, if_neg hlt, if_neg hj]
        have hfind : Map.find ((j, a) :: m) k = Map.find m k := if_neg hj
        obtain ⟨l, r, ⟨hm, hs⟩ | ⟨w, hw, hm, hs⟩⟩ := ih
        · exact ⟨(j, a) :: l, r, .inl ⟨by rw [hm]; rfl, by rw [hset, hs]; rfl⟩⟩
        · exact ⟨(j, a) :: l, r, .inr ⟨w, by rw [hfind, hw], by rw [hm]; rfl, by rw [hset, hs]; rfl⟩⟩

/-- A list shows what another does, some of it more than once. -/
def Repeats {α : Type} (l m : List α) : Prop := l.length ≤ m.length ∧ ∀ a, a ∈ m ↔ a ∈ l

theorem Repeats.any {α : Type} {l m : List α} (h : Repeats l m) (p : α → Bool) : m.any p = l.any p := by
  rw [Bool.eq_iff_iff, List.any_eq_true, List.any_eq_true]
  simp only [h.2]

theorem Repeats.append {α : Type} {l m : List α} (h : Repeats l m) (r : List α) : Repeats (l ++ r) (m ++ r) := by
  refine ⟨?_, fun a => ?_⟩
  · rw [List.length_append, List.length_append]
    exact Nat.add_le_add_right h.1 _
  · rw [List.mem_append, List.mem_append, h.2]

/-- What a table shows by an entry found, set anew with nothing of it changed, is shown again. -/
theorem Map.repeats_set {α β : Type} {m : Map α} {k : Nat} {w v : α} (g : Nat × α → List β) (hw : m.find k = some w) (hv : g (k, v) = g (k, w)) :
    Repeats (m.map g).flatten ((m.set k v).map g).flatten := by
  have hmem : ∀ a ∈ g (k, v), a ∈ (m.map g).flatten := fun a ha =>
    List.mem_flatten.mpr ⟨_, List.mem_map.mpr ⟨(k, w), Map.mem_of_find hw, rfl⟩, hv ▸ ha⟩
  obtain ⟨l, r, ⟨hm, hset⟩ | ⟨w', hw', hm, hset⟩⟩ := Map.set_cases m k v
  · rw [hset]
    rw [hm] at hmem ⊢
    simp only [List.map_append, List.map_cons, List.flatten_append, List.flatten_cons, List.mem_append] at hmem ⊢
    refine ⟨by simp only [List.length_append]; omega, fun a => ?_⟩
    simp only [List.mem_append]
    exact ⟨fun h => h.elim .inl fun h => h.elim (hmem a) .inr, fun h => h.imp_right .inr⟩
  · have hsame : (m.set k v).map g = m.map g := by
      rw [hset, hm, List.map_append, List.map_append, List.map_cons, List.map_cons, hv, Option.some.inj (hw.symm.trans hw')]
    rw [hsame]
    exact ⟨le_rfl, fun _ => Iff.rfl⟩

/-- A state that differs in when the residency manager last looked at a context, and in the time. -/
structure Stamped (x : Nat) (s t : State) : Prop where
  rel : Rel [.clk, .ctxs] s t
  ctxs : ∃ w r, s.ctxs.find x = some w ∧ t.ctxs = s.ctxs.set x { w with resNs := r }

section
variable {s t : State} {x : Nat} (h : Stamped x s t)
include h

theorem Stamped.ctx (y : Nat) : ∃ r, t.ctx y = { s.ctx y with resNs := r } := by
  obtain ⟨w, r, hw, ht⟩ := h.ctxs
  by_cases hy : y = x
  · subst hy
    exact ⟨r, by rw [State.ctx, State.ctx, ht, Map.getOr_set, Map.getOr, hw]; rfl⟩
  · exact ⟨(s.ctx y).resNs, by rw [State.ctx, State.ctx, ht, Map.getOr_set_ne _ _ _ hy]⟩

theorem Stamped.sealed_ (y : Nat) : (t.ctx y).sealed_ = (s.ctx y).sealed_ := by
  obtain ⟨r, hr⟩ := h.ctx y
  rw [hr]

theorem Stamped.migEntry (y n : Nat) : (t.ctx y).migEntry n = (s.ctx y).migEntry n := by
  obtain ⟨r, hr⟩ := h.ctx y
  rw [hr]
  rfl

theorem Stamped.granted (y tier region : Nat) : (t.ctx y).granted tier region = (s.ctx y).granted tier region := by
  obtain ⟨r, hr⟩ := h.ctx y
  rw [hr]
  rfl

theorem Stamped.held (y tier region : Nat) : t.held y tier region = s.held y tier region := by
  obtain ⟨r, hr⟩ := h.ctx y
  rw [State.held, State.held, hr, h.rel.migs (by decide)]
  rfl

theorem Stamped.usedFrames (tier : Nat) : Repeats (s.usedFrames tier) (t.usedFrames tier) := by
  obtain ⟨w, r, hw, ht⟩ := h.ctxs
  rw [State.usedFrames, State.usedFrames, ht]
  exact Map.repeats_set _ hw rfl

theorem Stamped.takenFrames (tier : Nat) : Repeats (s.takenFrames tier) (t.takenFrames tier) := by
  rw [State.takenFrames, State.takenFrames, h.rel.freed (by decide)]
  exact (h.usedFrames tier).append _

theorem Stamped.lentRuns (tier : Nat) : t.lentRuns tier = s.lentRuns tier := by
  rw [State.lentRuns, State.lentRuns, h.rel.lend (by decide)]

theorem Stamped.bankClash (tier y f : Nat) {used used' : List (Nat × Nat)} (hu : Repeats used used') :
    t.bankClash tier y f used' = s.bankClash tier y f used := by
  simp only [State.bankClash, State.lentIn, h.lentRuns, h.sealed_, hu.any]

/-- The frame found in so many trials is found in as many and more. -/
theorem Stamped.findFrame {tier y hi d : Nat} {used used' : List (Nat × Nat)} (hu : Repeats used used') {fuel fuel' f : Nat} (hfuel : fuel ≤ fuel')
    (hd : s.findFrame tier y used hi fuel f = some d) : t.findFrame tier y used' hi fuel' f = some d := by
  induction fuel generalizing fuel' f with
  | zero => simp [State.findFrame] at hd
  | succ fuel ih =>
    obtain ⟨k, rfl⟩ : ∃ k, fuel' = k + 1 := ⟨fuel' - 1, by omega⟩
    have ih' : ∀ {f}, s.findFrame tier y used hi fuel f = some d → t.findFrame tier y used' hi k f = some d := fun hg => ih (by omega) hg
    rw [State.findFrame] at hd ⊢
    rw [State.lentEnd, h.lentRuns, ← State.lentEnd, h.rel.withdrawn (by decide), h.bankClash tier y f hu, hu.any, h.rel.retiredFrames (by decide)]
    split at hd
    · cases hd
    · next hlt =>
      rw [if_neg hlt]
      split at hd
      · next e he =>
        exact ih' hd
      · next he =>
        split at hd
        · next hc => rw [if_pos hc]; exact ih' hd
        · next hc =>
          rw [if_neg hc]
          split at hd
          · next hf => rw [if_pos hf]; exact ih' hd
          · next hf => rw [if_neg hf]; exact hd

theorem Stamped.rangeFrame {tier y lo hi d : Nat} (hd : s.rangeFrame tier y lo hi = some d) : t.rangeFrame tier y lo hi = some d := by
  have hown : t.ownFreed tier y lo hi (t.usedFrames tier) = s.ownFreed tier y lo hi (s.usedFrames tier) := by
    simp only [State.ownFreed, (h.usedFrames tier).any, h.rel.freed (by decide), h.rel.withdrawn (by decide), h.rel.retiredFrames (by decide)]
  rw [State.rangeFrame] at hd ⊢
  rw [hown]
  cases hf : s.ownFreed tier y lo hi (s.usedFrames tier) with
  | some f =>
    rw [hf, Option.some_or] at hd
    rw [Option.some_or, hd]
  | none =>
    rw [hf, Option.none_or] at hd
    rw [Option.none_or]
    exact h.findFrame (h.takenFrames tier) (Nat.add_le_add_right (h.takenFrames tier).1 _) hd

theorem Stamped.newFrame {y tier region d : Nat} (h0 : tier ≠ 0) (hd : s.newFrame y tier region = some d) : t.newFrame y tier region = some d := by
  rw [State.newFrame] at hd ⊢
  rw [h.granted, h.held]
  split at hd
  · cases hd
  · next h3 =>
    rw [if_neg h3]
    split at hd
    · cases hd
    · next hg =>
      rw [if_neg hg, if_neg h0]
      exact h.rangeFrame hd

theorem Stamped.queuedMigs (y : Nat) : t.queuedMigs y = s.queuedMigs y := by
  simp only [State.queuedMigs, h.rel.migs (by decide), h.rel.asks (by decide), h.migEntry]

theorem Stamped.tileUse (y n : Nat) : t.tileUse y n = s.tileUse y n := by
  rw [State.tileUse, State.tileUse, h.rel.tcache (by decide), h.rel.cores (by decide)]

theorem Stamped.residencyOk (y : Nat) (m : MoveReq) : t.residencyOk y m = s.residencyOk y m := by
  have hfull : t.t1Full y = s.t1Full y := by simp only [State.t1Full, h.granted, h.held]
  obtain ⟨r, hr⟩ := h.ctx y
  have hcold : t.coldest y m.tile = s.coldest y m.tile := by
    simp only [State.coldest, h.tileUse, hr]
    rfl
  rw [State.residencyOk, State.residencyOk, hfull, hcold, h.tileUse, h.held, hr]
  rfl

/-- A request for T1 or T2 finds in it the frame that it found before. -/
theorem Stamped.askDest {a : MigAsk} {e : TileEntry} {d : Nat × Nat × Nat × Nat} (hwhy : a.why = .asked) (htier : a.tier = 1 ∨ a.tier = 2)
    (hd : s.askDest a e = some d) : t.askDest a e = some d := by
  have h3 : a.tier ≠ 3 := by omega
  have h0 : a.tier ≠ 0 := by omega
  rw [State.askDest, hwhy] at hd ⊢
  dsimp only at hd ⊢
  rw [if_neg h3] at hd ⊢
  rw [Option.map_eq_some_iff] at hd ⊢
  obtain ⟨f, hf, rfl⟩ := hd
  exact ⟨f, h.newFrame h0 hf, rfl⟩

end

/-- The time of the pass is noted in the context (R201). -/
theorem Stamped.of_updCtx {s v : State} {x : Nat} (hc : (s.ctx x).created = true) (hv : Rel [.clk] s v) (r : Option Nat) :
    Stamped x s (v.updCtx x (fun c => { c with resNs := r })) := by
  have hctxs : v.ctxs = s.ctxs := hv.ctxs (by decide)
  obtain ⟨w, hw⟩ : ∃ w, s.ctxs.find x = some w := by
    cases hf : s.ctxs.find x with
    | some w => exact ⟨w, rfl⟩
    | none =>
      rw [State.ctx, Map.getOr, hf] at hc
      exact absurd hc (by decide)
  refine ⟨(hv.mono (by decide)).trans ((State.updCtx_rel v x _).mono (by decide)), w, r, hw, ?_⟩
  show v.ctxs.set x { v.ctx x with resNs := r } = _
  rw [State.ctx, hctxs, Map.getOr, hw]
  rfl

theorem State.ctx_acceptMig (s : State) (m : Mig) (tier : Nat) (d : Nat × Nat) : (s.acceptMig m tier d).ctx m.ctx =
    (s.ctx m.ctx).setBankEntry m.bank m.tile
      { (s.ctx m.ctx).bankEntry m.bank m.tile with state := 1, destTier := tier, destLender := d.1, destFrame := d.2 } := State.ctx_setCtx _ _ _

theorem State.resNs_acceptMig (s : State) (m : Mig) (tier : Nat) (d : Nat × Nat) (x : Nat) : ((s.acceptMig m tier d).ctx x).resNs = (s.ctx x).resNs := by
  by_cases hx : x = m.ctx
  · rw [hx, State.ctx_acceptMig, Ctx.setBankEntry]
    split <;> rfl
  · exact congrArg Ctx.resNs (State.ctx_setCtx_ne _ _ hx)

theorem State.ctx_migDones (l : List MigAsk) (u : State) (x : Nat) : (l.foldl (fun s b => s.migDone b.handle) u).ctx x = u.ctx x := by
  induction l generalizing u with
  | nil => rfl
  | cons k l ih => exact (ih _).trans (State.ctxs_migDone u k.handle x)

/-- A request to migrate leaves the time of the last pass. -/
theorem State.resNs_askMig (s : State) (a : MigAsk) (b : Bool) (x : Nat) : (((s.askMig a b).1).ctx x).resNs = (s.ctx x).resNs := by
  unfold State.askMig
  extract_lets c e old kept
  split
  · rfl
  · split
    · split
      · rfl
      · dsimp only
        rw [State.ctx_migDones]
        rfl
    · split
      · rfl
      · split
        · rfl
        · split
          · rfl
          · exact s.resNs_acceptMig _ _ _ x

/-- What the residency manager asks for one tile (R200). -/
def State.passMove (x : Nat) (s : State) (m : MoveReq) : State :=
  if !s.residencyOk x m then s
  else (s.askMig { ctx := x, tile := m.tile, bank := (s.ctx x).weights.active, tier := m.tier, policy := 1, core := ((s.ctx x).entry m.tile).core
                   region := m.region }).1

theorem State.passMove_keeps (x : Nat) (s : State) (m : MoveReq) :
    (s.passMove x m).clk = s.clk ∧ ((s.passMove x m).ctx x).resNs = (s.ctx x).resNs := by
  unfold State.passMove
  split
  · exact ⟨rfl, rfl⟩
  · exact ⟨(State.askMig_rel s _ _).clk (by decide), s.resNs_askMig _ _ x⟩

theorem State.passMoves_keep (x : Nat) (ms : List MoveReq) (s : State) :
    (ms.foldl (State.passMove x) s).clk = s.clk ∧ ((ms.foldl (State.passMove x) s).ctx x).resNs = (s.ctx x).resNs := by
  induction ms generalizing s with
  | nil => exact ⟨rfl, rfl⟩
  | cons m ms ih =>
    obtain ⟨hclk, hres⟩ := s.passMove_keeps x m
    obtain ⟨hclk', hres'⟩ := ih (s.passMove x m)
    exact ⟨hclk'.trans hclk, hres'.trans hres⟩

/-- A move that R200 admits and that finds its frame is QUEUED (R571). -/
theorem State.passMove_accepted {s : State} {x : Nat} {m : MoveReq} {e : TileEntry} {d : Nat × Nat × Nat × Nat} (hok : s.residencyOk x m = true)
    (he : e = (s.ctx x).entry m.tile) (hf : (s.ctx x).fenced = false) (hst : ((s.ctx x).migEntry m.tile).state = 0)
    (hplaced : e.placed m.tier 1 e.core m.region = false) (hroom : s.queuedMigs x < 4096)
    (hd : s.askDest { ctx := x, tile := m.tile, bank := (s.ctx x).weights.active, tier := m.tier, policy := 1, core := e.core, region := m.region } e = some d) :
    (s.passMove x m).migs = s.migs ++ [({ ctx := x, tile := m.tile, bank := (s.ctx x).weights.active, policy := 1, core := e.core, region := d.2.1 } : Mig)] ∧
      ((s.passMove x m).ctx x).entry m.tile = { e with state := 1, destTier := d.1, destLender := d.2.2.1, destFrame := d.2.2.2 } := by
  subst he
  have hvalid : ((s.ctx x).entry m.tile).valid = true := by
    simp only [State.residencyOk, Bool.and_eq_true] at hok
    exact hok.1.1.1
  have hmig := State.askMig_asked (a := { ctx := x, tile := m.tile, bank := (s.ctx x).weights.active, tier := m.tier, policy := 1
                                          core := ((s.ctx x).entry m.tile).core, region := m.region }) rfl hvalid hf hst hplaced hroom hd rfl
  rw [State.passMove, if_neg (by simp [hok]), hmig]
  obtain ⟨hmigs, hentry⟩ := s.acceptMig_spec { ctx := x, tile := m.tile, bank := (s.ctx x).weights.active, policy := 1, core := ((s.ctx x).entry m.tile).core
                                               region := d.2.1 } d.1 d.2.2
  refine ⟨hmigs, ?_⟩
  have hactive : ((s.acceptMig { ctx := x, tile := m.tile, bank := (s.ctx x).weights.active, policy := 1, core := ((s.ctx x).entry m.tile).core
                                 region := d.2.1 } d.1 d.2.2).ctx x).weights.active = (s.ctx x).weights.active := by
    rw [s.ctx_acceptMig { ctx := x, tile := m.tile, bank := (s.ctx x).weights.active, policy := 1, core := ((s.ctx x).entry m.tile).core, region := d.2.1 },
      Ctx.weights_setBankEntry]
  rw [Ctx.entry, hactive]
  exact hentry

theorem residencyPass_row {x : Nat} {ms : List MoveReq} {v s : State} (hp : s.power.state ≠ .standby) (hc : (s.ctx x).created = true)
    (hf : (s.ctx x).fenced = false) (hv : v = (match (s.ctx x).resNs with | some a => s.toTai (a + 100000) | none => s)) :
    ∃ t : State, exec (.residencyPass x ms) s = .next t ∧ t.clk = v.clk ∧ (t.ctx x).resNs = some v.clk.tai.ns ∧
      (∀ m, ms = [m] → s.residencyOk x m = false → t.migs = s.migs ∧ t.asks = s.asks) ∧
      (∀ m e d, ms = [m] → s.residencyOk x m = true → e = (s.ctx x).entry m.tile → ((s.ctx x).migEntry m.tile).state = 0 →
        e.placed m.tier 1 e.core m.region = false → s.queuedMigs x < 4096 →
        s.askDest { ctx := x, tile := m.tile, bank := (s.ctx x).weights.active, tier := m.tier, policy := 1, core := e.core, region := m.region } e = some d →
        t.migs = s.migs ++ [({ ctx := x, tile := m.tile, bank := (s.ctx x).weights.active, policy := 1, core := e.core, region := d.2.1 } : Mig)] ∧
        (t.ctx x).entry m.tile = { e with state := 1, destTier := d.1, destLender := d.2.2.1, destFrame := d.2.2.2 }) := by
  let w : State := v.updCtx x (fun c => { c with resNs := some v.clk.tai.ns })
  have hrel : Rel [.clk] s v := by
    rw [hv]
    split
    · exact State.toTai_rel _ _
    · exact Rel.refl _ _
  have hstamp : Stamped x s w := .of_updCtx hc hrel _
  have hw : w.ctx x = { s.ctx x with resNs := some v.clk.tai.ns } := by
    rw [State.ctx_updCtx, State.ctx_congr (hrel.ctxs (by decide))]
  have hgo : ¬ (s.power.state == PowerState.standby || !(s.ctx x).created || (s.ctx x).fenced) = true := by simp [hp, hc, hf]
  have hrow : exec (.residencyPass x ms) s = .next ((ms.take 1024).foldl (State.passMove x) w) := by
    subst hv
    show execResidencyPass x ms s = _
    rw [execResidencyPass]
    exact if_neg hgo
  obtain ⟨hclk, hres⟩ := State.passMoves_keep x (ms.take 1024) w
  refine ⟨_, hrow, hclk, by rw [hres, hw], fun m hm hno => ?_, fun m e d hm hok he hst hplaced hroom hd => ?_⟩
  · subst hm
    have hsame : ([m].take 1024).foldl (State.passMove x) w = w := if_pos (by simp [hstamp.residencyOk, hno])
    rw [hsame]
    exact ⟨hstamp.rel.migs (by decide), hstamp.rel.asks (by decide)⟩
  · subst hm
    have htier : m.tier = 1 ∨ m.tier = 2 := by
      by_contra hne
      obtain ⟨h1, h2⟩ := not_or.mp hne
      simp [State.residencyOk, h1, h2] at hok
    have hentry : (w.ctx x).entry m.tile = e := by rw [hw, he]; rfl
    have hactive : (w.ctx x).weights.active = (s.ctx x).weights.active := by rw [hw]
    obtain ⟨hmigs, hnew⟩ := State.passMove_accepted (s := w) (m := m) (e := e) (d := d) (by rw [hstamp.residencyOk, hok]) hentry.symm (by rw [hw]; exact hf)
      (by rw [hstamp.migEntry, hst]) hplaced (by rw [hstamp.queuedMigs]; exact hroom) (hstamp.askDest rfl htier (by rw [hactive]; exact hd))
    rw [hactive, hstamp.rel.migs (by decide)] at hmigs
    exact ⟨hmigs, hnew⟩

/-- In standby neither a migration nor a pass begins (log 98). -/
theorem exec_standby_rests {s : State} (x : Nat) (ms : List MoveReq) (hp : s.power.state = .standby) :
    exec (.migrationSlotGrant x) s = .next s ∧ exec (.residencyPass x ms) s = .next s := by
  constructor
  · show execMigrationSlotGrant x s = _
    rw [execMigrationSlotGrant]
    exact if_pos (by simp [hp])
  · show execResidencyPass x ms s = _
    rw [execResidencyPass]
    exact if_pos (by simp [hp])

/-- Settles O12, row by row of a migration and of the residency manager. -/
theorem migrateRowsComplete : Obligations.MigrateRowsComplete := by
  unfold Obligations.MigrateRowsComplete
  refine ⟨fun x m s hp hslot hturn hm => exec_migrationSlotGrant hp hslot hturn hm, fun x n m s hm hst hahead => exec_migrationCopyDone hm hst hahead,
    fun x n m e s hm he hst => exec_migrationCommit hm he hst, fun x n a m e s hm he h0 h4 => migrationAbort_row a hm he h0 h4,
    fun x n m e s hm he hst => migrationAbortDone_row hm he hst, fun x ms v s hp hc hf hv => residencyPass_row hp hc hf hv,
    fun x ms s hp => exec_standby_rests x ms hp⟩

end Sys2Proof.Machine

/-! SUPPORT. Fences, sparing, slice temperatures and deadlines (O13): what a fence makes of its context, and what each row of the sparing writes. -/

namespace Sys2Proof.Machine

/-! ### A fence (R226) -/

/-- A fenced context: no fence waits, and none of its collective instances is left (R324). -/
theorem State.ctx_fence (s : State) (x : Nat) :
    ((s.fence x).ctx x).fenced = true ∧ ((s.fence x).ctx x).fenceDue = false ∧ ((s.fence x).ctx x).insts = [] := by
  rw [State.fence, State.ctx_updCtx]
  exact ⟨rfl, rfl, rfl⟩

theorem exec_contextFence {s : State} {x : Nat} (hdue : (s.ctx x).fenceDue = true) : ∃ t : State, exec (.contextFence x none) s = .next t ∧
    (t.ctx x).fenced = true ∧ (t.ctx x).fenceDue = false ∧ (t.ctx x).insts = [] := by
  refine ⟨s.fence x, ?_, s.ctx_fence x⟩
  show execContextFence x none s = _
  rw [execContextFence]
  exact congrArg Host.Outcome.next (if_pos hdue)

/-! ### Rows, lanes and banks (R229 to R232) -/

/-- A cullet added to a list with room is its last. -/
theorem State.culls_addCullet {s : State} (e : Cullet) (h : s.culls.length < 4096) : (s.addCullet e).culls = s.culls ++ [e] := by
  let v : State := { s with culls := s.culls ++ [e] }
  have hlog : (v.logRecord 0x22 (recSev 0x22) noCtx (fun _ => e.bytes)).culls = s.culls ++ [e] := (State.logRecord_rel v _ _ _ _).culls (by decide)
  rw [State.addCullet, if_neg (Nat.not_le.mpr h)]
  dsimp only
  split
  · rw [(State.event_rel _ _ _ _ _).culls (by decide), hlog]
  · exact hlog

/-- The rows under copy of a state are those of another, whatever writes they hold. -/
def SameCopies (s t : State) : Prop := t.rowCopies.map (fun c => (c.loc, c.row)) = s.rowCopies.map (fun c => (c.loc, c.row))

theorem State.sameCopies_holdBytes (s : State) (a : Nat) (d : List Byte) : SameCopies s (s.holdBytes a d) := by
  induction d generalizing s a with
  | nil => rfl
  | cons b r ih =>
    refine (ih _ _).trans ?_
    split
    · show (s.rowCopies.map _).map _ = _
      rw [List.map_map]
      refine List.map_congr_left fun c _ => ?_
      rw [Function.comp_apply]
      split <;> rfl
    · rfl

theorem State.sameCopies_memWrite (s : State) (a : Nat) (d : List Byte) : SameCopies s (s.memWrite a d) := by
  unfold State.memWrite
  split
  · rfl
  · exact s.sameCopies_holdBytes a d

/-- The writes held are made one after the other. -/
def State.writeHeld (s : State) (ws : List (Nat × List Byte)) : State := ws.foldl (fun s w => s.memWrite w.1 w.2) s

theorem State.writeHeld_rel (s : State) (ws : List (Nat × List Byte)) : Rel [.mem, .rowCopies] s (s.writeHeld ws) :=
  Rel.foldl (fun u w => State.memWrite_rel u w.1 w.2) (Rel.refl _ _)

theorem State.sameCopies_writeHeld (s : State) (ws : List (Nat × List Byte)) : SameCopies s (s.writeHeld ws) := by
  unfold State.writeHeld
  induction ws generalizing s with
  | nil => rfl
  | cons w ws ih => exact (ih _).trans (s.sameCopies_memWrite w.1 w.2)

/-- With no row under copy they all reach memory. -/
theorem State.writeHeld_of_none {s : State} (h : s.rowCopies = []) (ws : List (Nat × List Byte)) :
    (s.writeHeld ws).rowCopies = [] ∧ (s.writeHeld ws).mem = ws.foldl (fun a w => Memory.write a w.1 w.2) s.mem := by
  unfold State.writeHeld
  induction ws generalizing s with
  | nil => exact ⟨h, rfl⟩
  | cons w ws ih =>
    have hw : s.memWrite w.1 w.2 = { s with mem := Memory.write s.mem w.1 w.2 } := if_pos (List.isEmpty_iff.mpr h)
    rw [List.foldl_cons, List.foldl_cons, hw]
    exact ih h

theorem exec_rowSpareSwitch {s : State} {loc : BankLoc} {row : Nat} {k : RowCopy} (hk : s.rowCopies.find? (fun c => c.loc = loc && c.row = row) = some k) :
    ∃ t : State, ∃ n, exec (.rowSpareSwitch loc row) s = .next t ∧
      n < 131072 ∧ t.rowMap = s.rowMap.filter (fun e => !(e.1 = loc && e.2.1 = row)) ++ [(loc, row, n)] ∧ (∀ c ∈ t.rowCopies, ¬ (c.loc = loc ∧ c.row = row)) ∧
      (s.rowCopies = [k] → t.rowCopies = [] ∧ t.mem = k.held.foldl (fun a w => Memory.write a w.1 w.2) s.mem) ∧
      (s.culls.length < 4096 → ∃ e, t.culls = s.culls ++ [e] ∧ e.type = loc.rowType ∧ e.action = 1 ∧ e.location = loc.code (s.rowNow loc row) ∧
        e.spare = loc.code n) := by
  let new := Config.freeValue s.fresh % 131072
  let v : State := { s.draw with
    rowCopies := s.rowCopies.filter (fun c => !(c.loc = loc && c.row = row))
    rowMap := s.rowMap.filter (fun (e : BankLoc × Nat × Nat) => !(e.1 = loc && e.2.1 = row)) ++ [(loc, row, new)]
    banks := s.banks.upd loc.key {} (fun (b : BankErr) => { b with rowHits := b.rowHits.filter (fun p => p.1 != row) }) }
  let w : State := v.writeHeld k.held
  let e : Cullet := { type := loc.rowType, action := 1, index := 0, location := loc.code (s.rowNow loc row), spare := loc.code new, causeSeq := k.causeSeq
                      timeNs := w.clk.tai.ns }
  have hrow : exec (.rowSpareSwitch loc row) s = .next (w.addCullet e) := by
    show execRowSpareSwitch loc row s = _
    rw [execRowSpareSwitch, hk]
    rfl
  have hheld := State.writeHeld_rel v k.held
  have hadd := State.addCullet_rel w e
  have hcopies : (w.addCullet e).rowCopies = w.rowCopies := hadd.rowCopies (by decide)
  refine ⟨_, new, hrow, Nat.mod_lt _ (by decide), ?_, fun c hc => ?_, fun hone => ?_, fun hroom => ⟨e, ?_, rfl, rfl, rfl, rfl⟩⟩
  · rw [hadd.rowMap (by decide), hheld.rowMap (by decide)]
  · have hsame : SameCopies v w := State.sameCopies_writeHeld v k.held
    have hmem : (c.loc, c.row) ∈ v.rowCopies.map (fun c => (c.loc, c.row)) := by
      rw [← hsame]
      exact List.mem_map_of_mem (hcopies ▸ hc)
    obtain ⟨c', hc', heq⟩ := List.mem_map.mp hmem
    obtain ⟨hloc, hrow⟩ := Prod.mk.inj heq
    have hkeep := (List.mem_filter.mp hc').2
    rw [← hloc, ← hrow]
    simpa [imp_iff_not_or] using hkeep
  · have hempty : v.rowCopies = [] := by
      have hp := List.find?_some hk
      show s.rowCopies.filter _ = []
      rw [hone, List.filter_cons_of_neg (by simpa using hp), List.filter_nil]
    obtain ⟨hnone, hmem⟩ := State.writeHeld_of_none hempty k.held
    exact ⟨hcopies.trans hnone, (hadd.mem (by decide)).trans hmem⟩
  · have hculls : w.culls = s.culls := hheld.culls (by decide)
    rw [State.culls_addCullet e (by rw [hculls]; exact hroom), hculls]

theorem exec_laneSpare {s : State} {layer slice lane : Nat} (hhits : 8 ≤ ((List.range 16).map (fun b => (BankLoc.t1 layer slice b).key)).foldl
      (fun a k => a + ((recent s.clk.tai.ns (s.banks.getOr k {}).laneHits).filter (fun p => p.1 = lane)).length) 0)
    (hroom : (s.laneSpares.filter (fun p => p.1 = layer * 12 + slice)).length < 2) (hnew : s.laneSpares.contains (layer * 12 + slice, lane) = false) :
    ∃ t : State, exec (.laneSpare layer slice lane) s = .next t ∧ t.laneSpares = s.laneSpares ++ [(layer * 12 + slice, lane)] ∧ t.mem = s.mem := by
  let keys := (List.range 16).map (fun b => (BankLoc.t1 layer slice b).key)
  let v : State := { s with
    laneSpares := s.laneSpares ++ [(layer * 12 + slice, lane)]
    banks := keys.foldl (fun bs k => bs.upd k {} (fun (b : BankErr) => { b with laneHits := b.laneHits.filter (fun p => p.1 != lane) })) s.banks }
  let at_ := layer * 2 ^ 30 + slice * 2 ^ 26
  let e : Cullet := { type := 4, action := 1, index := 0, location := at_ + lane, spare := at_ + Config.freeValue s.fresh % 256, causeSeq := 4294967295
                      timeNs := s.clk.tai.ns }
  have hrow : exec (.laneSpare layer slice lane) s = .next (v.draw.addCullet e) := by
    show execLaneSpare layer slice lane s = _
    rw [execLaneSpare]
    refine if_neg ?_
    rintro (h | h | h)
    · omega
    · omega
    · rw [hnew] at h
      cases h
  have hadd := State.addCullet_rel v.draw e
  exact ⟨_, hrow, by rw [hadd.laneSpares (by decide), State.draw_laneSpares], by rw [hadd.mem (by decide), State.draw_mem]⟩

theorem exec_bankSpare {s : State} {layer slice bank : Nat} (hnew : s.withdrawn.contains (1, slice * 64 + layer * 16 + bank) = false) (hbank : bank < 16)
    (hfails : 32 ≤ (s.banks.getOr (BankLoc.t1 layer slice bank).key {}).sparesUsed ∨
      3 ≤ ((recent s.clk.tai.ns (s.banks.getOr (BankLoc.t1 layer slice bank).key {}).rowUnc).map (fun p => p.1)).eraseDups.length) :
    ∃ t : State, exec (.bankSpare layer slice bank) s = .next t ∧ t.withdrawn = s.withdrawn ++ [(1, slice * 64 + layer * 16 + bank)] ∧ t.mem = s.mem ∧
      t.bankSpares = (if s.bankSpares.contains (layer * 12 + slice) = true then s.bankSpares else s.bankSpares ++ [layer * 12 + slice]) := by
  let no := slice * 64 + layer * 16 + bank
  let sl := layer * 12 + slice
  let free := !s.bankSpares.contains sl
  let at_ := layer * 2 ^ 30 + slice * 2 ^ 26
  let v : State := { s with withdrawn := s.withdrawn ++ [(1, no)], bankSpares := if free then s.bankSpares ++ [sl] else s.bankSpares }
  let moved : State := (s.bankTiles (no * 2048)).foldl (fun s (p : Nat × Nat × Nat) =>
    s.askOrWait { ctx := p.1, tile := p.2.2, bank := p.2.1, why := if free then .toSpare else .fromBank }) v
  let told : State := moved.tellLost (no * 2048)
  let e : Cullet := {
    type := 5, action := if free then 1 else 2, index := 0, location := at_ + bank * 2 ^ 22
    spare := if free then at_ + spareBankNo layer slice 16 * 2 ^ 22 else 4294967295
    causeSeq := (s.banks.getOr (BankLoc.t1 layer slice bank).key {}).causeSeq, timeNs := s.clk.tai.ns }
  have hrow : exec (.bankSpare layer slice bank) s = .next (told.addCullet e) := by
    show execBankSpare layer slice bank s = _
    rw [execBankSpare]
    refine if_neg ?_
    rintro (h | h | h)
    · rw [hnew] at h
      cases h
    · omega
    · exact h hfails
  have hmoved : Rel [.out, .ctxs, .migs, .asks, .mailboxes, .handles, .log, .logNext, .logOverflow] v moved :=
    Rel.foldl (fun u p => State.askOrWait_rel u _) (Rel.refl _ _)
  have htold := State.tellLost_rel moved (no * 2048)
  have hadd := State.addCullet_rel told e
  refine ⟨_, hrow, ?_, ?_, ?_⟩
  · rw [hadd.withdrawn (by decide), htold.withdrawn (by decide), hmoved.withdrawn (by decide)]
  · rw [hadd.mem (by decide), htold.mem (by decide), hmoved.mem (by decide)]
  · rw [hadd.bankSpares (by decide), htold.bankSpares (by decide), hmoved.bankSpares (by decide)]
    cases hc : s.bankSpares.contains (layer * 12 + slice) with
    | true => simp only [v, free, sl, hc, Bool.not_true, Bool.false_eq_true, if_false, if_true]
    | false => simp only [v, free, sl, hc, Bool.not_false, Bool.false_eq_true, if_false, if_true]

theorem exec_sliceTemperatureChange (layer slice : Nat) (centi : Int) (s : State) : ∃ t : State,
    exec (.sliceTemperatureChange layer slice centi) s = .next t ∧
      t.power.slices.getOr (layer * 12 + slice) 0 = sliceState (s.power.slices.getOr (layer * 12 + slice) 0) centi :=
  ⟨_, rfl, Map.getOr_set _ _ _ _⟩

/-! ### Deadlines (R214) -/

theorem exec_reclaimDeadline_lender {s : State} {w : Nat} {l : LendWin} (hl : s.lend.find w = some l) (hst : l.state = 2) : ∃ t : State,
    exec (.reclaimDeadline (.lender w)) s = .next t ∧ t.clk = (s.toTai l.deadline).clk ∧ t.lend.find w = some { l with state := 3 } := by
  have hrow : exec (.reclaimDeadline (.lender w)) s = .next ((s.toTai l.deadline).revoke w) := by
    show execReclaimDeadline (.lender w) s = _
    rw [execReclaimDeadline, hl]
    exact if_pos hst
  refine ⟨_, hrow, (State.revoke_rel _ _).clk (by decide), State.find_revoke ?_⟩
  rw [(State.toTai_rel s l.deadline).lend (by decide)]
  exact hl

/-- No context holds a window that is lost. -/
theorem State.t3_loseWindow (s : State) (cls a w x : Nat) : ∀ v ∈ ((s.loseWindow cls a w).ctx x).t3, ¬ (v.lender = a ∧ v.window = w) := by
  let drop (c : Ctx) : Ctx := { c with t3 := c.t3.filter (fun v => !(v.lender = a && v.window = w)) }
  have hdrop : ∃ m : Map Ctx, (s.loseWindow cls a w).ctx x = (m.vals (fun _ c => drop c)).getOr x {} := ⟨_, rfl⟩
  obtain ⟨m, hm⟩ := hdrop
  intro v hv
  rw [hm, Map.getOr, Map.find_vals] at hv
  cases hf : m.find x with
  | none =>
    rw [hf] at hv
    cases hv
  | some c =>
    rw [hf] at hv
    simpa [imp_iff_not_or] using (List.mem_filter.mp hv).2

theorem exec_reclaimDeadline_borrower {s : State} {a w d : Nat}
    (hd : s.ctxs.findSome? (fun e => e.2.t3.findSome? (fun v => if v.lender = a ∧ v.window = w then v.deadline else none)) = some d) : ∃ t : State,
    exec (.reclaimDeadline (.borrower a w)) s = .next t ∧ t.clk = (s.toTai d).clk ∧ ∀ x, ∀ v ∈ (t.ctx x).t3, ¬ (v.lender = a ∧ v.window = w) := by
  have hrow : exec (.reclaimDeadline (.borrower a w)) s = .next ((s.toTai d).loseWindow 0x07 a w) := by
    show execReclaimDeadline (.borrower a w) s = _
    rw [execReclaimDeadline, hd]
  exact ⟨_, hrow, (State.loseWindow_rel _ _ _ _).clk (by decide), fun x => State.t3_loseWindow _ _ _ _ x⟩

/-- Settles O13, row by row of the fences, the spares and the deadlines. -/
theorem sparingRowsComplete : Obligations.SparingRowsComplete := by
  unfold Obligations.SparingRowsComplete
  refine ⟨fun x s hdue => exec_contextFence hdue, fun loc row k s hk => exec_rowSpareSwitch hk,
    fun layer slice lane s hhits hroom hnew => exec_laneSpare hhits hroom hnew, fun layer slice bank s hnew hbank hfails => exec_bankSpare hnew hbank hfails,
    fun layer slice centi s => exec_sliceTemperatureChange layer slice centi s, fun w l s hl hst => exec_reclaimDeadline_lender hl hst,
    fun a w d s hd => exec_reclaimDeadline_borrower hd⟩

end Sys2Proof.Machine

/-! SUPPORT. Power, cooling and the power-fail warning (O29). A fence leaves the fences of other contexts (R226); ceilings, sensors and alerts as each row
writes them; standby; the warning. -/

namespace Sys2Proof.Machine

/-! ### What a fence leaves of the other contexts (R226) -/

/-- The contexts of two states are fenced alike. -/
def SameFences (s t : State) : Prop := ∀ x, (t.ctx x).fenced = (s.ctx x).fenced

theorem SameFences.refl (s : State) : SameFences s s := fun _ => rfl

theorem SameFences.of_rel {l : List Fld} {s t : State} (h : Rel l s t) (hl : Fld.ctxs ∉ l) : SameFences s t :=
  fun x => congrArg Ctx.fenced (State.ctx_congr (h.ctxs hl) x)

theorem SameFences.of_tables {s t : State} (h : SameTables s t) : SameFences s t := fun x => by
  obtain ⟨m, n, ht⟩ := h x
  rw [ht]

theorem SameFences.trans {s t u : State} (h : SameFences s t) (g : SameFences t u) : SameFences s u := fun x => (g x).trans (h x)

theorem SameFences.foldl {α : Type} {f : State → α → State} (hf : ∀ s a, SameFences s (f s a)) (l : List α) (s : State) : SameFences s (l.foldl f s) := by
  induction l generalizing s with
  | nil => exact .refl s
  | cons a l ih => exact (hf s a).trans (ih _)

theorem SameFences.setCtx {s : State} {x : Nat} {v : Ctx} (h : v.fenced = (s.ctx x).fenced) : SameFences s (s.setCtx x v) := fun y => by
  by_cases hy : y = x
  · rw [hy, State.ctx_setCtx, h]
  · rw [State.ctx_setCtx_ne _ _ hy]

@[simp] theorem Ctx.fenced_setBankEntry (c : Ctx) (b t : Nat) (e : TileEntry) : (c.setBankEntry b t e).fenced = c.fenced := by
  unfold Ctx.setBankEntry
  split <;> rfl

@[simp] theorem Ctx.fenced_setEntry (c : Ctx) (t : Nat) (e : TileEntry) : (c.setEntry t e).fenced = c.fenced := c.fenced_setBankEntry _ _ _

@[simp] theorem Ctx.fenced_setMigEntry (c : Ctx) (t : Nat) (e : TileEntry) : (c.setMigEntry t e).fenced = c.fenced := c.fenced_setBankEntry _ _ _

@[simp] theorem Ctx.fenced_setHdr (c : Ctx) (t : Nat) (h : TileHdr) : (c.setHdr t h).fenced = c.fenced := by
  unfold Ctx.setHdr Ctx.setBankHdr
  split <;> rfl

theorem State.sameFences_count (s : State) (x i k : Nat) : SameFences s (s.count x i k) := .of_tables (s.sameTables_count x i k)

theorem State.sameFences_markWritten (s : State) (x t : Nat) : SameFences s (s.markWritten x t) := by
  unfold State.markWritten
  exact .setCtx (by rw [Ctx.fenced_setHdr]; exact Ctx.fenced_setEntry _ _ _)

theorem State.sameFences_secureCopy (s : State) (x t : Nat) : SameFences s (s.secureCopy x t) := by
  unfold State.secureCopy
  extract_lets c e
  split
  · exact .refl s
  · extract_lets capture preimage
    split
    · exact .refl s
    · split
      · exact .refl s
      · split
        · exact .refl s
        · extract_lets copied counted c' k
          have hcounted : SameFences s counted := (SameFences.of_rel (State.memCopy_rel s _ _ _) (by decide)).trans (State.sameFences_count _ _ _ _)
          split
          · exact hcounted.trans (.setCtx (Ctx.fenced_setEntry _ _ _))
          · exact hcounted.trans (.setCtx rfl)

theorem State.sameFences_writeTile (s : State) (x t off : Nat) (d : List Byte) : SameFences s (s.writeTile x t off d) := by
  unfold State.writeTile
  split
  · exact (SameFences.of_rel Rel.set_stalled (by decide)).trans (.of_rel (State.rush_rel _ x [t]) (by decide))
  · exact ((s.sameFences_secureCopy x t).trans (.of_rel (State.memWrite_rel _ _ _) (by decide))).trans (State.sameFences_markWritten _ _ _)

theorem State.sameFences_fillTile (s : State) (x t src : Nat) : SameFences s (s.fillTile x t src) :=
  ((s.sameFences_secureCopy x t).trans (.of_rel (State.memCopy_rel _ _ _ _) (by decide))).trans (State.sameFences_markWritten _ _ _)

theorem State.sameFences_tsTouch (s : State) (c a n : Nat) : SameFences s (s.tsTouch c a n) := by
  refine SameFences.foldl (fun s w => ?_) _ s
  split
  · exact (s.sameFences_secureCopy _ _).trans (State.sameFences_markWritten _ _ _)
  · exact .of_rel (State.updCore_rel _ _ _) (by decide)

theorem State.sameFences_loadTile (s : State) (c x t a : Nat) : SameFences s (s.loadTile c x t a) := by
  have hcopied : SameFences s ((s.tsTouch c a tileBytes).memCopy (((((s.tsTouch c a tileBytes).ctx x).entry t).phys x t)) (tsPhys c a) tileBytes) :=
    (s.sameFences_tsTouch c a tileBytes).trans (.of_rel (State.memCopy_rel _ _ _ _) (by decide))
  unfold State.loadTile
  extract_lets touched copied
  split
  · exact hcopied
  · exact hcopied.trans (.of_rel (State.loadHdr_rel _ _ _ _) (by decide))

theorem State.sameFences_tsWrite (s : State) (c a : Nat) (d : List Byte) : SameFences s (s.tsWrite c a d) := by
  refine SameFences.foldl (fun s w => ?_) _ s
  extract_lets lo hi part
  split
  · exact s.sameFences_writeTile _ _ _ _
  · exact (SameFences.of_rel (State.memWrite_rel s _ _) (by decide)).trans (.of_rel (State.updCore_rel _ _ _) (by decide))

theorem State.sameFences_applyEffs (s : State) (c x : Nat) (es : List Eff) : SameFences s (s.applyEffs c x es) := by
  refine SameFences.foldl (fun s e => ?_) es s
  cases e with
  | ts a d => exact s.sameFences_tsWrite c a d
  | tile t off d => exact s.sameFences_writeTile x t off d
  | loadTile t a => exact s.sameFences_loadTile c x t a
  | storeTile a t => exact s.sameFences_fillTile x t _
  | copyTile src dst => exact s.sameFences_fillTile x dst _

theorem State.sameFences_partWrites (s : State) (c x : Nat) : SameFences s (s.partWrites c x) := by
  have hpart : ∀ (u : State) es, SameFences u (u.partWrite c x es) := fun u es => u.sameFences_applyEffs c x _
  unfold State.partWrites
  extract_lets es k vec mov
  have hvec : SameFences s vec := by
    unfold vec
    split
    · exact .refl s
    · exact hpart _ _
  have hmov : SameFences s mov := by
    unfold mov
    split
    · exact hvec
    · exact hvec.trans (hpart _ _)
  split
  · split
    · exact hmov.trans (hpart _ _)
    · exact hmov
  · exact hmov

theorem State.sameFences_completeIf (s : State) (c r : Nat) (p : OutDesc → Bool) (st fl : Nat) : SameFences s (s.completeIf c r p st fl) := fun x => by
  obtain ⟨m, hm⟩ := (s.completeIf_steady c r p st fl).2 x
  rw [hm]

theorem State.sameTables_event (s : State) (code sev x : Nat) (args : List Nat) : SameTables s (s.event code sev x args) := by
  rw [State.event]
  exact s.sameTables_logRecord _ _ _ _

theorem State.sameTables_finish (s : State) (k st : Nat) : SameTables s (s.finish k st) := by
  unfold State.finish
  split
  · exact .of_ctxs rfl
  · split
    · exact .of_ctxs rfl
    · extract_lets ph u
      have hu : SameTables s u := .of_ctxs (State.setHandle_ctxs _ _ _)
      split
      · rw [State.handleEvent]
        exact hu.trans (u.sameTables_event _ _ _ _)
      · exact hu

theorem State.sameFences_dropQueued (s : State) (x : Nat) : SameFences s (s.dropQueued x) := by
  unfold State.dropQueued
  extract_lets gone hs v freed ended
  have hfreed : SameFences s freed := by
    refine (SameFences.of_rel Rel.set_migs_asks (by decide) : SameFences s v).trans (.foldl (fun u m => ?_) gone v)
    exact (SameFences.setCtx (Ctx.fenced_setMigEntry _ _ _)).trans (.of_rel (State.releaseFrame_rel _ _ _ _ _ _) (by decide))
  have hended : SameFences s ended := hfreed.trans (.foldl (fun u h => .of_tables (u.sameTables_finish h 0x25)) hs freed)
  split
  · exact hended
  · exact hended.trans (State.sameFences_count _ _ _ _)

theorem State.sameFences_abortGen (s : State) (x : Nat) : SameFences s (s.abortGen x) := by
  have hclean : ∀ (ts : List Nat) (c : Ctx),
      (ts.foldl (fun c t => c.setEntry t { c.entry t with dirty := true, cow := false }) c).fenced = c.fenced := by
    intro ts
    induction ts with
    | nil => exact fun c => rfl
    | cons t ts ih => exact fun c => (ih _).trans (c.fenced_setEntry t _)
  unfold State.abortGen
  extract_lets c freed c' cleaned sec
  split
  · exact .refl s
  · extract_lets ended
    have hfreed : SameFences s freed := .foldl (fun u p => .of_rel (State.releaseCap_rel u x p.2) (by decide)) c.sec.captures s
    have hended : SameFences freed ended := .setCtx (hclean _ _)
    exact (hfreed.trans hended).trans (.of_rel Rel.set_nand (by decide))

/-- A fence fences its context, and takes the fence from none. -/
theorem State.fenced_fence (s : State) (x y : Nat) : ((s.fence x).ctx y).fenced = if y = x then true else (s.ctx y).fenced := by
  split
  · next h => rw [h, (s.ctx_fence x).1]
  · next h =>
    unfold State.fence
    extract_lets parts ended stopped dropped unqueued aborted drained
    have hparts : SameFences s parts := .foldl (fun u c => u.sameFences_partWrites c x) _ s
    have hended : SameFences parts ended := by
      refine .foldl (fun u e => .foldl (fun u q => ?_) _ u) _ parts
      split
      · exact u.sameFences_completeIf _ _ _ _ _
      · exact .refl u
    have hstopped : SameFences ended stopped := .of_rel (State.mapRings_rel _ _ _) (by decide)
    have hdropped : SameFences stopped dropped := .of_rel Rel.set_cores (by decide)
    have haborted : SameFences dropped aborted := (dropped.sameFences_dropQueued x).trans (unqueued.sameFences_abortGen x)
    have hdrained : SameFences aborted drained := .of_rel Rel.set_flows (by decide)
    rw [State.ctx_updCtx_ne _ _ h]
    exact (((((hparts.trans hended).trans hstopped).trans hdropped).trans haborted).trans hdrained) y

/-- Every context that exists is fenced (R407, R518). -/
theorem State.fenced_fenceAll {s : State} {x : Nat} (hc : (s.ctx x).created = true) : (s.fenceAll.ctx x).fenced = true := by
  have hkeep : ∀ (l : List (Nat × Ctx)) (u : State), (u.ctx x).fenced = true → ((l.foldl (fun s e => s.fence e.1) u).ctx x).fenced = true := by
    intro l
    induction l with
    | nil => exact fun u h => h
    | cons e l ih => exact fun u h => ih _ (by rw [State.fenced_fence, h, ite_self])
  have hall : ∀ (l : List (Nat × Ctx)) (u : State), (∃ e ∈ l, e.1 = x) → ((l.foldl (fun s e => s.fence e.1) u).ctx x).fenced = true := by
    intro l
    induction l with
    | nil => exact fun u ⟨e, he, _⟩ => absurd he List.not_mem_nil
    | cons a l ih =>
      rintro u ⟨e, he, rfl⟩
      rcases List.mem_cons.mp he with rfl | he
      · exact hkeep l _ (by rw [State.fenced_fence, if_pos rfl])
      · exact ih _ ⟨e, he, rfl⟩
  have hfound : s.ctxs.find x = some (s.ctx x) := by
    rw [State.ctx, Map.getOr] at hc ⊢
    cases hf : s.ctxs.find x with
    | some c => rfl
    | none =>
      rw [hf] at hc
      cases hc
  exact hall _ s ⟨(x, s.ctx x), List.mem_filter.mpr ⟨Map.mem_of_find hfound, hc⟩, rfl⟩

/-- Every core that runs is in its ramp-down (R98, R407). -/
theorem State.rampDown_rampAllDown {s : State} {c : Nat} (hn : (s.rampAllDown.core c).n ≠ 0) : (s.rampAllDown.core c).rampDown = true := by
  have hcore : s.rampAllDown.core c = ((s.cores.find c).map (fun k : Core =>
      if k.n = 0 then k else { k with rampDown := true, rampUp := false, nAt := s.clk.cycle })).getD {} := by
    rw [State.core, State.rampAllDown, Map.getOr, Map.find_vals]
  rw [hcore] at hn ⊢
  cases hf : s.cores.find c with
  | none =>
    rw [hf] at hn
    exact absurd rfl hn
  | some k =>
    rw [hf] at hn
    simp only [Option.map_some, Option.getD_some] at hn ⊢
    split at hn
    · next h => exact absurd h hn
    · next h => rw [if_neg h]

/-! ### The ceilings (R102, R506, R517) -/

/-- A change of the power fields is made between the count of the cycles below the old ceilings and the new ones. -/
@[simp] theorem State.power_setPower (s : State) (f : Power → Power) : (s.setPower f).power = f s.power := by
  rw [State.setPower, (State.ceilingFell_rel _).power (by decide)]
  exact congrArg f ((State.settleAll_rel s).power (by decide))

@[simp] theorem State.clk_setPower (s : State) (f : Power → Power) : (s.setPower f).clk = s.clk := by
  rw [State.setPower, (State.ceilingFell_rel _).clk (by decide)]
  exact (State.settleAll_rel s).clk (by decide)

theorem State.fallSh_least {s : State} (h : s.power.nSh ≤ 4) (k : Nat) : s.fallSh k = s := if_pos h

theorem State.power_fallSh {s : State} (h : 4 < s.power.nSh) (k : Nat) :
    (s.fallSh k).power = { s.power with nSh := max 4 (s.power.nSh - k), fellAt := some s.clk.cycle } := by
  rw [State.fallSh, if_neg (Nat.not_le.mpr h), State.power_setPower]

@[simp] theorem State.clk_fallSh (s : State) (k : Nat) : (s.fallSh k).clk = s.clk := (State.fallSh_rel s k).clk (by decide)

/-- The record of a cap that issue alone cannot meet notes its time, and no more of the power fields. -/
theorem State.power_capUnmet (s : State) : ∃ r, s.capUnmet.power = { s.power with capLogNs := r } := by
  unfold State.capUnmet
  extract_lets p due
  split
  · exact ⟨_, (State.event_rel _ _ _ _ _).power (by decide)⟩
  · exact ⟨s.power.capLogNs, rfl⟩

@[simp] theorem State.clk_capUnmet (s : State) : s.capUnmet.clk = s.clk := (State.capUnmet_rel s).clk (by decide)

/-- What the check of the input's range notes (R501). -/
theorem State.power_inputRange (s : State) (mv ma : Nat) : ∃ r,
    (s.inputRange mv ma).power = { s.power with outside := decide (mv < 44000 ∨ 60000 < mv), rangeLogNs := r } := by
  unfold State.inputRange
  split
  · next h =>
    have hin : ¬ (mv < 44000 ∨ 60000 < mv) := by omega
    exact ⟨s.power.rangeLogNs, by rw [decide_eq_false hin]⟩
  · next h =>
    have hout : mv < 44000 ∨ 60000 < mv := by omega
    rw [decide_eq_true hout]
    extract_lets p due alerted src marked src'
    have halerted : alerted.power = s.power := by
      unfold alerted
      split
      · rfl
      · exact State.alert_power s 4
    have hmarked : marked.power = { s.power with outside := true } := by
      show ({ alerted.power with outside := true } : Power) = _
      rw [halerted]
    split
    · refine ⟨some marked.clk.tai.ns, ?_⟩
      rw [(State.event_rel _ _ _ _ _).power (by decide)]
      show ({ marked.power with rangeLogNs := some marked.clk.tai.ns } : Power) = _
      rw [hmarked]
    · exact ⟨s.power.rangeLogNs, hmarked⟩

/-! ### Samples and the cap's loop (R500, R506) -/

/-- What rules 1 and 2 of R506 make of the state that holds the sample. -/
def State.sampleRules (s : State) (mw : Nat) (run : Bool) : State :=
  if 745000 < mw then s.fallSh 4 else if run then (if s.power.nSh ≤ 4 then s.capUnmet else s.fallSh 4) else s

theorem State.clk_sampleRules (s : State) (mw : Nat) (run : Bool) : (s.sampleRules mw run).clk = s.clk := by
  unfold State.sampleRules
  split
  · exact s.clk_fallSh 4
  · split
    · split
      · exact s.clk_capUnmet
      · exact s.clk_fallSh 4
    · rfl

/-- n_sh falls by 4, to 4 at least, on a sample of rule 1 or rule 2, and the rules write no other field that a sample shows. -/
theorem State.power_sampleRules (s : State) (mw : Nat) (run : Bool) : ∃ n f r,
    (s.sampleRules mw run).power = { s.power with nSh := n, fellAt := f, capLogNs := r } ∧
      (745000 < mw ∨ run = true → s.power.nSh ≤ 4 → n = s.power.nSh) ∧ (745000 < mw ∨ run = true → 4 < s.power.nSh → n = max 4 (s.power.nSh - 4)) ∧
      (mw ≤ 745000 → run = false → n = s.power.nSh) := by
  by_cases hacts : 745000 < mw ∨ run = true
  · by_cases hleast : s.power.nSh ≤ 4
    · have hrules : s.sampleRules mw run = s ∨ s.sampleRules mw run = s.capUnmet := by
        unfold State.sampleRules
        split
        · exact .inl (State.fallSh_least hleast 4)
        · next h => exact .inr (by rw [if_pos (hacts.resolve_left h)])
      obtain ⟨r, hr⟩ : ∃ r, (s.sampleRules mw run).power = { s.power with capLogNs := r } := by
        rcases hrules with h | h <;> rw [h]
        · exact ⟨s.power.capLogNs, rfl⟩
        · exact s.power_capUnmet
      exact ⟨s.power.nSh, s.power.fellAt, r, hr, fun _ _ => rfl, fun _ h => absurd hleast (by omega), fun _ _ => rfl⟩
    · have hrules : s.sampleRules mw run = s.fallSh 4 := by
        unfold State.sampleRules
        split
        · rfl
        · next h => rw [if_pos (hacts.resolve_left h)]
      refine ⟨_, some s.clk.cycle, s.power.capLogNs, ?_, fun _ h => absurd h hleast, fun _ _ => rfl, fun h h' => ?_⟩
      · rw [hrules, State.power_fallSh (by omega)]
      · exact absurd hacts (by simp [h', Nat.not_lt.mpr h])
  · obtain ⟨hover, hrun⟩ := not_or.mp hacts
    have hrules : s.sampleRules mw run = s := by rw [State.sampleRules, if_neg hover, if_neg hrun]
    exact ⟨s.power.nSh, s.power.fellAt, s.power.capLogNs, by rw [hrules], fun _ _ => rfl, fun h => absurd h hacts, fun _ _ => rfl⟩

theorem exec_powerSample {mv ma mw cap sl : Nat} {run : Bool} {s : State} (hon : s.gafferOn = true)
    (hcap : (cap, sl) = s.power.nextCap.getD (s.power.capW, s.power.sealedW))
    (hrun : run = (decide (501 ≤ ((mw :: s.power.sumMw).take 100000).length) && ((mw :: s.power.sumMw).take 501).all (fun w => decide (cap * 1000 < w)))) :
    ∃ t : State, exec (.powerSample mv ma mw) s = .next t ∧ t.clk = (s.toTai (s.power.sampleNs + 10000)).clk ∧ t.power.mv = mv ∧ t.power.ma = ma ∧
      t.power.mw = mw ∧ t.power.capW = cap ∧ t.power.sealedW = sl ∧ t.power.nextCap = none ∧ t.power.sumMw = (mw :: s.power.sumMw).take 100000 ∧
      t.power.samples = (s.power.samples ++ [(mv, ma, mw)]).drop (s.power.samples.length + 1 - 100) ∧
      (745000 < mw ∨ run = true → s.power.nSh ≤ 4 → t.power.nSh = s.power.nSh) ∧ (745000 < mw ∨ run = true → 4 < s.power.nSh →
        t.power.nSh = max 4 (s.power.nSh - 4)) ∧
      (mw ≤ 745000 → run = false → t.power.nSh = s.power.nSh) ∧ t.power.outside = decide (mv < 44000 ∨ 60000 < mv) := by
  let u : State := s.toTai (s.power.sampleNs + 10000)
  let sample (p : Power) : Power :=
    let c := p.nextCap.getD (p.capW, p.sealedW)
    { p with
      capW := c.1, sealedW := c.2, nextCap := none, sampleNs := u.clk.tai.ns, mv := mv, ma := ma, mw := mw
      samples := (p.samples ++ [(mv, ma, mw)]).drop (p.samples.length + 1 - 100), sumMw := (mw :: p.sumMw).take 100000 }
  let v : State := u.setPower sample
  have hu : u.power = s.power := (State.toTai_rel s _).power (by decide)
  have hv : v.power = { s.power with
      capW := cap, sealedW := sl, nextCap := none, sampleNs := u.clk.tai.ns, mv := mv, ma := ma, mw := mw
      samples := (s.power.samples ++ [(mv, ma, mw)]).drop (s.power.samples.length + 1 - 100), sumMw := (mw :: s.power.sumMw).take 100000 } := by
    rw [State.power_setPower, hu]
    dsimp only [sample]
    rw [← hcap]
  have hrow : exec (.powerSample mv ma mw) s = .next ((v.sampleRules mw run).inputRange mv ma) := by
    have hruns : (decide (501 ≤ v.power.sumMw.length) && (v.power.sumMw.take 501).all (fun w => decide (v.power.capW * 1000 < w))) = run := by
      rw [hv, hrun, List.take_take]
      rfl
    rw [State.sampleRules, ← hruns]
    show execPowerSample mv ma mw s = _
    rw [execPowerSample]
    exact if_neg (by simp [hon])
  obtain ⟨n, f, r, hrules, hleast, hfall, hkeep⟩ := v.power_sampleRules mw run
  obtain ⟨r', hrange⟩ := (v.sampleRules mw run).power_inputRange mv ma
  have hsh : v.power.nSh = s.power.nSh := by rw [hv]
  rw [hsh] at hleast hfall hkeep
  refine ⟨_, hrow, ?_, ?_⟩
  · rw [(State.inputRange_rel _ mv ma).clk (by decide), State.clk_sampleRules, State.clk_setPower]
  · rw [hrange, hrules, hv]
    exact ⟨rfl, rfl, rfl, rfl, rfl, rfl, rfl, rfl, hleast, hfall, hkeep, rfl⟩

theorem exec_capControlTick {m : Nat} {u s : State} (hon : s.gafferOn = true) (hm : m = meanOf s.power.sumMw) (hu : u = s.toTai (s.power.capTickNs + 1000000)) :
    ∃ t : State, exec .capControlTick s = .next t ∧ t.clk = u.clk ∧
      t.power.capTickNs = u.clk.tai.ns ∧ (s.power.capW * 1000 - 5000 < m → 4 < s.power.nSh → t.power.nSh = max 4 (s.power.nSh - 1)) ∧
      (m ≤ s.power.capW * 1000 - 5000 → m < s.power.capW * 1000 - 15000 → s.power.nSh < 64 → (∀ c, s.power.fellAt = some c → c + 1050000 ≤ u.clk.cycle) →
        t.power.nSh = s.power.nSh + 1) ∧
      (m ≤ s.power.capW * 1000 - 5000 → s.power.capW * 1000 - 15000 ≤ m → t.power.nSh = s.power.nSh) := by
  have hpu : u.power = s.power := by rw [hu]; exact (State.toTai_rel s _).power (by decide)
  have hv : u.capTicked.power = { s.power with capTickNs := u.clk.tai.ns } := by rw [← hpu]; rfl
  let quiet : Bool := match u.capTicked.power.fellAt with | some c => decide (c + raiseHold ≤ u.capTicked.clk.cycle) | none => true
  have hrow : exec .capControlTick s =
      if u.capTicked.power.capW * 1000 - 5000 < meanOf u.capTicked.power.sumMw then .next (if u.capTicked.power.nSh ≤ 4 then u.capTicked.capUnmet else u.capTicked.fallSh 1)
      else if decide (meanOf u.capTicked.power.sumMw < u.capTicked.power.capW * 1000 - 15000) && quiet && decide (u.capTicked.power.nSh < 64) then
        .next (u.capTicked.setPower (fun p => { p with nSh := min 64 (p.nSh + 1) }))
      else .next u.capTicked := by
    subst hu
    show execCapControlTick s = _
    rw [execCapControlTick, tickPeriod]
    exact if_neg (by simp [hon])
  have hsh : u.capTicked.power.nSh = s.power.nSh := by rw [hv]
  have hcapW : u.capTicked.power.capW = s.power.capW := by rw [hv]
  have hmean : meanOf u.capTicked.power.sumMw = m := by rw [hv, hm]
  have hns : u.capTicked.power.capTickNs = u.clk.tai.ns := rfl
  rw [hcapW, hmean, hsh] at hrow
  by_cases hover : s.power.capW * 1000 - 5000 < m
  · rw [if_pos hover] at hrow
    refine ⟨_, hrow, ?_, ?_, fun _ h4 => ?_, fun h => absurd hover (by omega), fun h => absurd hover (by omega)⟩
    · split
      · exact State.clk_capUnmet _
      · exact State.clk_fallSh _ _
    · split
      · obtain ⟨r, hr⟩ := u.capTicked.power_capUnmet
        exact (congrArg Power.capTickNs hr).trans hns
      · exact (congrArg Power.capTickNs (State.power_fallSh (by omega) 1)).trans hns
    · rw [if_neg (by omega), State.power_fallSh (by omega), hsh]
  · rw [if_neg hover] at hrow
    split at hrow
    · next hraise =>
      simp only [Bool.and_eq_true, decide_eq_true_eq] at hraise
      obtain ⟨⟨hlow, -⟩, h64⟩ := hraise
      refine ⟨_, hrow, State.clk_setPower _ _, ?_, fun h => absurd h hover, fun _ _ _ _ => ?_, fun _ h => absurd hlow (by omega)⟩
      · rw [State.power_setPower]
        exact hns
      · rw [State.power_setPower]
        exact (congrArg (fun n => min 64 (n + 1)) hsh).trans (Nat.min_eq_right (by omega))
    · next hraise =>
      refine ⟨_, hrow, rfl, rfl, fun h => absurd h hover, fun _ hlow h64 hquiet => ?_, fun _ _ => hsh⟩
      have hq : quiet = true := by
        have hfell : u.capTicked.power.fellAt = s.power.fellAt := by rw [hv]
        unfold quiet
        rw [hfell]
        cases hf : s.power.fellAt with
        | none => rfl
        | some c =>
          have hheld := hquiet c hf
          rw [← raiseHold] at hheld
          exact decide_eq_true hheld
      exact absurd (by simp only [hlow, hq, h64, decide_true, Bool.and_self]) hraise

/-! ### Alerts and temperatures (R516 to R518, R557) -/

/-- An alert sets its bit of SMB_ALERT_STATUS. -/
theorem State.bit_alert (s : State) (i : Nat) : bit (s.alert i).pins.alertStatus i = true := by
  show bit (if bit s.pins.alertStatus i then s.pins.alertStatus else s.pins.alertStatus + 2 ^ i) i = true
  split
  · next h => exact h
  · next h => exact bit_add_two_pow (by simpa using h)

theorem State.sameTables_gafferEvent (s : State) (code sev : Nat) (args : List Nat) : SameTables s (s.gafferEvent code sev args) := by
  unfold State.gafferEvent
  split
  · exact s.sameTables_event _ _ _ _
  · exact .of_ctxs rfl

/-- Two states agree in the temperatures, in what they make of the slices, and in n_t. -/
def SameHeat (s t : State) : Prop := t.power.temps = s.power.temps ∧ t.power.slices = s.power.slices ∧ t.power.nT = s.power.nT

theorem SameHeat.trans {s t u : State} (h : SameHeat s t) (g : SameHeat t u) : SameHeat s u := ⟨g.1.trans h.1, g.2.1.trans h.2.1, g.2.2.trans h.2.2⟩

theorem SameHeat.temp {s t : State} (h : SameHeat s t) (k : Nat) : t.temp k = s.temp k := by rw [State.temp, State.temp, h.1]

theorem SameHeat.reading {s t : State} (h : SameHeat s t) (r : SensorReading) : SameHeat (s.reading r) (t.reading r) := by
  obtain ⟨htemps, hslices, hnT⟩ := h
  refine ⟨?_, ?_, hnT⟩
  · show t.power.temps.set _ _ = s.power.temps.set _ _
    rw [htemps]
  · show (if r.part = 1 ∨ r.part = 2 then t.power.slices.set r.sensor (sliceState (t.power.slices.getOr r.sensor 0) r.centi) else t.power.slices) =
      (if r.part = 1 ∨ r.part = 2 then s.power.slices.set r.sensor (sliceState (s.power.slices.getOr r.sensor 0) r.centi) else s.power.slices)
    rw [hslices]

theorem SameHeat.readings {s t : State} (h : SameHeat s t) (cs : List SensorReading) :
    SameHeat (cs.foldl (fun s r => s.reading r) s) (cs.foldl (fun s r => s.reading r) t) := by
  induction cs generalizing s t with
  | nil => exact h
  | cons r cs ih => exact ih (h.reading r)

theorem State.readings_rel (s : State) (cs : List SensorReading) : Rel [.power] s (cs.foldl (fun s r => s.reading r) s) :=
  Rel.foldl (fun u r => State.reading_rel u r) (Rel.refl _ _)

/-- Readings leave n_t to the tick that weighs them. -/
theorem State.nT_readings (s : State) (cs : List SensorReading) : (cs.foldl (fun s r => s.reading r) s).power.nT = s.power.nT := by
  induction cs generalizing s with
  | nil => rfl
  | cons r cs ih => exact ih (s.reading r)

theorem State.sameHeat_tripEnds (s : State) : SameHeat s s.tripEnds := by
  unfold State.tripEnds
  split
  · exact ⟨rfl, rfl, rfl⟩
  · exact ⟨rfl, rfl, rfl⟩

theorem State.sameHeat_thermTicked (s : State) : SameHeat s s.thermTicked := ⟨rfl, rfl, rfl⟩

@[simp] theorem State.clk_thermTicked (s : State) : s.thermTicked.clk = s.clk := rfl

theorem releaseAt_lt_throttleAt (part : Nat) : releaseAt part < throttleAt part := by
  unfold releaseAt throttleAt
  split
  · decide
  · split <;> decide

theorem exec_thermalTick {cs : List SensorReading} {u s : State} (hon : s.gafferOn = true)
    (hu : u = cs.foldl (fun s r => State.reading s r) (s.toTai (s.power.thermTickNs + 1000000))) : ∃ t : State,
    exec (.thermalTick cs) s = .next t ∧ t.clk = u.clk ∧ t.power.temps = u.power.temps ∧ t.power.slices = u.power.slices ∧
      ((∃ k ∈ sensors, throttleAt (k / 64) ≤ u.temp k) → t.power.nT = max 8 (s.power.nT - 4) ∧ (s.power.nT = 64 → bit t.pins.alertStatus 1 = true)) ∧
      ((∀ k ∈ sensors, u.temp k < releaseAt (k / 64)) → s.power.nT < 64 → t.power.nT = s.power.nT + 1) ∧
      ((∀ k ∈ sensors, u.temp k < throttleAt (k / 64)) → (∃ k ∈ sensors, releaseAt (k / 64) ≤ u.temp k) → t.power.nT = s.power.nT) := by
  have hexec : exec (.thermalTick cs) s = execThermalTick cs s := rfl
  rw [hexec, execThermalTick, if_neg (by simp [hon]), tickPeriod]
  extract_lets begun ticked v first raised
  have hread : SameHeat u v := by
    rw [hu]
    exact (begun.sameHeat_thermTicked.readings cs).trans (State.sameHeat_tripEnds _)
  have hclk : v.clk = u.clk := by
    rw [(State.tripEnds_rel _).clk (by decide), (State.readings_rel ticked cs).clk (by decide), hu, (State.readings_rel begun cs).clk (by decide), State.clk_thermTicked]
  have hnT : v.power.nT = s.power.nT := by
    rw [hread.2.2, hu, State.nT_readings, (State.toTai_rel s _).power (by decide)]
  split
  · next k hk =>
    extract_lets w
    have hthrottles : throttleAt (k / 64) ≤ u.temp k := by
      rw [← hread.temp]
      simpa using List.find?_some hk
    have hks := List.mem_of_find?_eq_some hk
    have hw : w.power.nT = max 8 (s.power.nT - 4) := by
      rw [State.power_setPower, ← hnT]
    have hheat := State.heatEvent_rel w 0x0017 1 k
    have hpower : (if first = true then (w.heatEvent 0x0017 1 k).alert 1 else w).power = w.power := by
      split
      · rw [State.alert_power, hheat.power (by decide)]
      · rfl
    refine ⟨_, rfl, ?_, ?_, ?_, fun _ => ⟨by rw [hpower, hw], fun h64 => ?_⟩, fun hall => ?_, fun hall => ?_⟩
    · rw [← hclk, ← State.clk_setPower v]
      split
      · rw [State.alert_clk, hheat.clk (by decide)]
      · rfl
    · rw [hpower, State.power_setPower]
      exact hread.1
    · rw [hpower, State.power_setPower]
      exact hread.2.1
    · have hfirst : first = true := by simp [first, hnT, h64]
      rw [if_pos hfirst]
      exact State.bit_alert _ _
    · exact absurd (hall k hks) (not_lt.mpr ((releaseAt_lt_throttleAt _).le.trans hthrottles))
    · exact absurd (hall k hks) (not_lt.mpr hthrottles)
  · next hnone =>
    have hbelow : ¬ ∃ k ∈ sensors, throttleAt (k / 64) ≤ u.temp k := by
      rintro ⟨k, hks, hk⟩
      rw [← hread.temp] at hk
      exact List.find?_eq_none.mp hnone k hks (by simpa using hk)
    have hcool : sensors.all (fun k => decide (v.temp k < releaseAt (k / 64))) = true ↔ ∀ k ∈ sensors, u.temp k < releaseAt (k / 64) := by
      simp only [List.all_eq_true, decide_eq_true_eq, hread.temp]
    split
    · next hrise =>
      rw [Bool.and_eq_true, decide_eq_true_eq, hnT, hcool] at hrise
      obtain ⟨h64, hall⟩ := hrise
      have hraised : raised.power = { v.power with nT := min 64 (v.power.nT + 1) } := State.power_setPower _ _
      have hheat := State.heatEvent_rel raised 0x0017 0 raised.power.throttleBy
      have hpower : (if raised.power.nT = 64 then raised.heatEvent 0x0017 0 raised.power.throttleBy else raised).power = raised.power := by
        split
        · exact hheat.power (by decide)
        · rfl
      refine ⟨_, rfl, ?_, ?_, ?_, fun h => absurd h hbelow, fun _ _ => ?_, fun _ ⟨k, hks, hk⟩ => absurd (hall k hks) (not_lt.mpr hk)⟩
      · rw [← hclk, ← State.clk_setPower v]
        split
        · exact hheat.clk (by decide)
        · rfl
      · rw [hpower, hraised]
        exact hread.1
      · rw [hpower, hraised]
        exact hread.2.1
      · rw [hpower, hraised]
        exact (congrArg (fun n => min 64 (n + 1)) hnT).trans (Nat.min_eq_right (by omega))
    · next hrise =>
      rw [Bool.and_eq_true, decide_eq_true_eq, hnT, hcool] at hrise
      exact ⟨_, rfl, hclk, hread.1, hread.2.1, fun h => absurd h hbelow, fun hall h64 => absurd ⟨h64, hall⟩ hrise, fun _ _ => hnT⟩

theorem exec_thermalTrip {r : SensorReading} {s : State} (hon : s.gafferOn = true) (htrip : tripAt r.part ≤ r.centi) : ∃ t : State,
    exec (.thermalTrip r) s = .next t ∧ t.power.state = .idle ∧ t.power.tripped = true ∧
      t.pins.thermN = false ∧ bit t.pins.alertStatus 2 = true ∧ (∀ x, (s.ctx x).created = true → (t.ctx x).fenced = true) ∧
      ∀ c, (t.core c).n ≠ 0 → (t.core c).rampDown = true := by
  let v : State := (s.reading r).fenceAll
  let w : State := { v.rampAllDown with
    power := { v.rampAllDown.power with state := .idle, tripped := true }, pins := { v.rampAllDown.pins with thermN := false } }
  have hrow : exec (.thermalTrip r) s = .next ((w.heatEvent 0x0018 3 (sensorKey r.part r.sensor)).alert 2) := by
    show execThermalTrip r s = _
    rw [execThermalTrip, if_neg (by simp [hon])]
    exact if_neg (not_lt.mpr htrip)
  have hheat := State.heatEvent_rel w 0x0018 3 (sensorKey r.part r.sensor)
  have hpower := hheat.power (by decide)
  have hcore : ∀ c, ((w.heatEvent 0x0018 3 (sensorKey r.part r.sensor)).alert 2).core c = v.rampAllDown.core c :=
    State.core_congr (hheat.cores (by decide))
  refine ⟨_, hrow, ?_, ?_, ?_, State.bit_alert _ _, fun x hx => ?_, fun c hn => ?_⟩
  · rw [State.alert_power, hpower]
  · rw [State.alert_power, hpower]
  · exact congrArg Pins.thermN (hheat.pins (by decide))
  · have hfenced : (v.ctx x).fenced = true := State.fenced_fenceAll (by rw [State.ctx_congr ((State.reading_rel s r).ctxs (by decide))]; exact hx)
    have hramp : w.ctx x = v.ctx x := State.ctx_congr ((State.rampAllDown_rel v).ctxs (by decide)) x
    have hevent : SameFences w (w.heatEvent 0x0018 3 (sensorKey r.part r.sensor)) := .of_tables (w.sameTables_gafferEvent _ _ _)
    exact (hevent x).trans ((congrArg Ctx.fenced hramp).trans hfenced)
  · rw [hcore] at hn ⊢
    exact State.rampDown_rampAllDown hn

/-! ### MACs that go down with their ports (R284, R513) -/

/-- The same MACs are up in two states. -/
def SameUps (s t : State) : Prop := ∀ n, (t.mac n).up = (s.mac n).up

theorem SameUps.of_rel {l : List Fld} {s t : State} (h : Rel l s t) (hl : Fld.macs ∉ l) : SameUps s t :=
  fun n => congrArg Mac.up (State.mac_congr (h.macs hl) n)

theorem SameUps.trans {s t u : State} (h : SameUps s t) (g : SameUps t u) : SameUps s u := fun n => (g n).trans (h n)

theorem SameUps.foldl {α : Type} {f : State → α → State} (hf : ∀ s a, SameUps s (f s a)) (l : List α) (s : State) : SameUps s (l.foldl f s) := by
  induction l generalizing s with
  | nil => exact fun _ => rfl
  | cons a l ih => exact (hf s a).trans (ih _)

theorem State.sameUps_flushMac (s : State) (m : Nat) : SameUps s (s.flushMac m) := by
  unfold State.flushMac
  extract_lets fr emptied
  have hemptied : SameUps s emptied := fun n => State.up_setMac (by rfl) n
  refine hemptied.trans (.foldl (fun u f => ?_) fr emptied)
  split
  · split
    · exact fun _ => rfl
    · exact .of_rel (State.updFlow_rel _ _ _) (by decide)
  · exact fun _ => rfl

/-- Beside its own MAC, a MAC's fall leaves what is up, and every port its mode. -/
theorem macDown_leaves (s : State) (m lane : Nat) : (∀ n, n ≠ m → ((s.macDown m lane).mac n).up = (s.mac n).up) ∧
    ∀ q, ((s.macDown m lane).port q).mode = (s.port q).mode := by
  unfold State.macDown
  extract_lets p flushed down used shut fwd flows
  let told : State := flows.reRate.event 0x0009 2 noCtx [p, lane]
  have hrated := State.reRate_rel flows
  have hevent : Rel [.out, .ctxs, .mailboxes, .log, .logNext, .logOverflow] flows.reRate told := State.event_rel _ _ _ _ _
  have hmacs : told.macs = down.macs := (hevent.macs (by decide)).trans (hrated.macs (by decide))
  have hports : told.pumpAll.ports = shut.ports := ((State.pumpAll_rel told).ports (by decide)).trans ((hevent.ports (by decide)).trans (hrated.ports (by decide)))
  have hflushed : ∀ q, flushed.port q = s.port q := State.port_congr ((State.flushMac_rel s m).ports (by decide))
  refine ⟨fun n hn => ?_, fun q => ?_⟩
  · rw [State.up_pumpAll, State.mac_congr hmacs]
    have hother : down.mac n = flushed.mac n := Map.getOr_set_ne _ _ _ hn
    rw [hother, s.sameUps_flushMac m n]
  · rw [State.port_congr hports, ← hflushed]
    by_cases hq : q = p
    · rw [hq, State.port_updPort]
      rfl
    · exact congrArg Port.mode (Map.getOr_set_ne down.ports _ _ hq)

/-- The MACs of the list are down; none has come up, and no port has changed its mode. -/
structure Lowered (ms : List Nat) (s t : State) : Prop where
  low : ∀ m ∈ ms, (t.mac m).up = false
  keep : ∀ n, (s.mac n).up = false → (t.mac n).up = false
  mode : ∀ q, (t.port q).mode = (s.port q).mode

theorem Lowered.nil (s : State) : Lowered [] s s := ⟨fun _ h => absurd h List.not_mem_nil, fun _ h => h, fun _ => rfl⟩

theorem Lowered.append {ms ns : List Nat} {s t u : State} (h : Lowered ms s t) (g : Lowered ns t u) : Lowered (ms ++ ns) s u := by
  refine ⟨fun m hm => ?_, fun n hn => g.keep n (h.keep n hn), fun q => (g.mode q).trans (h.mode q)⟩
  rcases List.mem_append.mp hm with hm | hm
  · exact g.keep m (h.low m hm)
  · exact g.low m hm

theorem State.lowered_macs (ms : List Nat) (s : State) : Lowered ms s (ms.foldl (fun s m => if (s.mac m).up then s.macDown m 0 else s) s) := by
  induction ms generalizing s with
  | nil => exact .nil s
  | cons m ms ih =>
    have hone : Lowered [m] s (if (s.mac m).up then s.macDown m 0 else s) := by
      split
      · obtain ⟨hothers, hmode⟩ := macDown_leaves s m 0
        have hdown := (macDown_row s m 0).1
        refine ⟨fun n hn => ?_, fun n hn => ?_, hmode⟩
        · rw [List.mem_singleton.mp hn, hdown]
        · by_cases hm : n = m
          · rw [hm, hdown]
          · rw [hothers n hm, hn]
      · next hup =>
        refine ⟨fun n hn => ?_, fun _ h => h, fun _ => rfl⟩
        rw [List.mem_singleton.mp hn]
        simpa using hup
    exact hone.append (ih _)

theorem State.lowered_ports (ps : List Nat) (s : State) :
    Lowered (ps.flatMap (fun p => portMacs (s.port p).mode p)) s (ps.foldl (fun s p => s.dropPort p) s) := by
  induction ps generalizing s with
  | nil => exact .nil s
  | cons p ps ih =>
    have hone : Lowered (portMacs (s.port p).mode p) s (s.dropPort p) := State.lowered_macs _ s
    have hrest := ih (s.dropPort p)
    simp only [hone.mode] at hrest
    exact hone.append hrest

/-! ### Standby (R513, R514) -/

/-- The state of standby with the clock in holdover, once the ports are down (R513). -/
theorem State.standby_of_down (s : State) : (State.holdover (State.rampAllDown { s with power := { s.power with state := .standby } })).power =
      { s.power with state := .standby } ∧
    ∀ m, (State.holdover (State.rampAllDown { s with power := { s.power with state := .standby } })).mac m = s.mac m := by
  have hlast : ∀ v : State, Rel [.out, .clk, .cores, .ctxs, .mailboxes, .log, .logNext, .logOverflow] v v.rampAllDown.holdover := fun v =>
    ((State.rampAllDown_rel v).mono (by decide)).trans ((State.holdover_rel _).mono (by decide))
  exact ⟨(hlast _).power (by decide), State.mac_congr ((hlast _).macs (by decide))⟩

/-- Standby is entered with every MAC of the module's ports down. -/
theorem State.enterStandby_spec (s : State) : s.enterStandby.power = { s.power with state := .standby } ∧
    ∀ p m, p < 8 → m ∈ portMacs (s.port p).mode p → (s.enterStandby.mac m).up = false := by
  have hlow := (State.lowered_ports (List.range 8) s).low
  have hdown : Rel [.out, .ctxs, .flows, .macs, .ports, .fwd, .ecnDraws, .mailboxes, .log, .logNext, .logOverflow, .counters] s
      ((List.range 8).foldl (fun s p => s.dropPort p) s) := Rel.foldl (fun u p => State.dropPort_rel u p) (Rel.refl _ _)
  rw [State.enterStandby]
  generalize (List.range 8).foldl (fun s p => s.dropPort p) s = down at hlow hdown ⊢
  obtain ⟨hpower, hmac⟩ := down.standby_of_down
  refine ⟨by rw [hpower, hdown.power (by decide)], fun p m hp hm => ?_⟩
  rw [hmac]
  exact hlow m (List.mem_flatMap.mpr ⟨p, List.mem_range.mpr hp, hm⟩)

/-- The sessions end, and nothing else of a mailbox that its answer shows (R451). -/
theorem State.mbox_endSessions (s : State) (m : Nat) : s.endSessions.mbox m = { s.mbox m with session := {}, epoch := 0, nextTag := 0 } := by
  have hfind : s.endSessions.mbox m = ((s.mailboxes.find m).map (fun b : Mailbox => { b with session := {}, epoch := 0, nextTag := 0 })).getD {} := by
    rw [State.mbox, State.endSessions, Map.getOr, Map.find_vals]
  rw [hfind, State.mbox, Map.getOr]
  cases s.mailboxes.find m with
  | none => rfl
  | some b => rfl

theorem Answered.endSessions {s : State} {m st : Nat} {body : List Byte} (h : Answered s m st body) : Answered s.endSessions m st body := by
  obtain ⟨hdone, hbusy, hst, hrsp⟩ := h
  rw [Answered, State.mbox_endSessions]
  exact ⟨hdone, hbusy, hst, hrsp⟩

/-- A POWER STATE command that waits is answered, and waits no more. -/
theorem State.answerWait_spec {s : State} {rq : Req} (h : s.power.wait = some rq) (st : Nat) :
    Answered (s.answerWait st) rq.mb st [] ∧ (s.answerWait st).power = { s.power with wait := none } := by
  rw [State.answerWait, h]
  exact ⟨State.answer_answered _ _ _ _ _ _, (State.answer_rel _ _ _ _ _ _).power (by decide)⟩

/-- With no window left a standby that waits is entered and answered. -/
theorem State.standbyNow_spec {s : State} {rq : Req} (hw : s.power.wait = some rq) (hl : s.lend = []) :
    Answered s.standbyNow rq.mb 0 [] ∧ s.standbyNow.power.state = .standby ∧ s.standbyNow.power.wait = none ∧ (∀ m, (s.standbyNow.mbox m).session = {}) ∧
      ∀ p m, p < 8 → m ∈ portMacs (s.port p).mode p → (s.standbyNow.mac m).up = false := by
  obtain ⟨hpower, hmacs⟩ := s.enterStandby_spec
  obtain ⟨hans, hwait⟩ := State.answerWait_spec (s := s.enterStandby) (rq := rq) (by rw [hpower, hw]) 0
  have hnow : s.standbyNow = (s.enterStandby.answerWait 0).endSessions := if_pos (by simp [hw, hl])
  rw [hnow, (State.endSessions_rel _).power (by decide), hwait, hpower]
  refine ⟨hans.endSessions, rfl, rfl, fun m => ?_, fun p m hp hm => ?_⟩
  · rw [State.mbox_endSessions]
  · rw [State.mac_congr ((State.endSessions_rel _).macs (by decide)), State.mac_congr ((State.answerWait_rel _ 0).macs (by decide))]
    exact hmacs p m hp hm

/-- With windows left nothing is entered. -/
theorem State.standbyNow_waits {s : State} (hl : s.lend ≠ []) : s.standbyNow = s := if_neg (by simp [hl])

/-- Without a window on offer no reclaim begins. -/
theorem State.reclaimAll_of_none {s : State} (h : ∀ e ∈ s.lend, e.2.state ≠ 1) : s.reclaimAll = s := by
  have hnone : ∀ (l : List (Nat × LendWin)) (u : State), (∀ e ∈ l, e.2.state ≠ 1) →
      l.foldl (fun s e => if e.2.state = 1 then s.reclaimWindow e.1 0 else s) u = u := by
    intro l
    induction l with
    | nil => exact fun u _ => rfl
    | cons e l ih =>
      intro u hl
      rw [List.foldl_cons, if_neg (hl e (List.mem_cons_self ..))]
      exact ih u fun e' he' => hl e' (List.mem_cons_of_mem _ he')
  exact hnone s.lend s h

/-! ### The commands of family 0x0D (R505, R507, R514) -/

/-- A row that a command with its ACTION names runs as the command. -/
theorem exec_of_action {s : State} {i : Instr} {rq : Req} {f c a : Nat} {act : State → State × Reply} (hact : rq.fld 0 1 = a)
    (hrow : exec i s = .next (s.actionCmd rq f c a act)) : exec i s = .next (s.mailCmd rq f c act) := by
  rw [hrow, State.actionCmd, if_pos hact]

theorem exec_powerStateActive {rq : Req} {s : State} (hs : s.Heard rq 0x0D 1) (hmb : rq.mb = 0) (hlen : rq.body.length = 8) (hresv : rq.fld 1 7 = 0)
    (hact : rq.fld 0 1 = 0) (hcool : s.power.tripped = true → s.cooled = true) : ∃ t : State, exec (.powerStateActive rq) s = .next t ∧ Answered t 0 0 [] ∧
      t.power = { s.power with state := .active, tripped := false } ∧ (s.power.tripped = true → t.pins.thermN = true) := by
  let v (M : Map Mailbox) : State :=
    let u := State.tripEnds { s with mailboxes := M }
    { u with power := { u.power with state := .active } }
  have hgo : ¬ (s.power.tripped && !s.cooled) = true := by simpa using hcool
  obtain ⟨M, key, hexec, -, hans⟩ := exec_of_replies (i := .powerStateActive rq) v {} hs (exec_of_action hact rfl) (fun M _ => by
    rw [State.adm_of hmb, State.bodyOf_of hlen (by simp [hresv])]
    exact if_neg hgo)
  have hrel := State.answer_rel (v M) rq 0x0D 0x01 key {}
  rw [hmb] at hans
  have hends : State.tripEnds { s with mailboxes := M } = if s.power.tripped && s.cooled then
      { s with mailboxes := M, power := { s.power with tripped := false }, pins := { s.pins with thermN := true } } else { s with mailboxes := M } := rfl
  refine ⟨_, hexec, hans, ?_, fun ht => ?_⟩
  · rw [hrel.power (by decide)]
    show ({ (State.tripEnds { s with mailboxes := M }).power with state := .active } : Power) = _
    rw [hends]
    split
    · rfl
    · next hno =>
      have hoff : s.power.tripped = false := by
        by_contra hon
        have ht : s.power.tripped = true := by simpa using hon
        exact hno (by rw [ht, hcool ht]; rfl)
      rw [← hoff]
  · rw [hrel.pins (by decide)]
    show (State.tripEnds { s with mailboxes := M }).pins.thermN = true
    rw [hends, if_pos (by rw [ht, hcool ht]; rfl)]

theorem exec_powerStateIdle {rq : Req} {s : State} (hs : s.Heard rq 0x0D 1) (hmb : rq.mb = 0) (hlen : rq.body.length = 8) (hresv : rq.fld 1 7 = 0)
    (hact : rq.fld 0 1 = 1) (hrun : s.anyRunning = false) : ∃ t : State, exec (.powerStateIdle rq) s = .next t ∧ Answered t 0 0 [] ∧
      t.power = { s.power with state := .idle } ∧ ∀ c, (t.core c).n ≠ 0 → (t.core c).rampDown = true := by
  let v (M : Map Mailbox) : State := { s with mailboxes := M, power := { s.power with state := .idle } }
  obtain ⟨M, key, hexec, -, hans⟩ := exec_of_replies (i := .powerStateIdle rq) (fun M => (v M).rampAllDown) {} hs (exec_of_action hact rfl) (fun M _ => by
    rw [State.adm_of hmb, State.bodyOf_of hlen (by simp [hresv])]
    exact if_neg (by rw [show State.anyRunning { s with mailboxes := M } = s.anyRunning from rfl, hrun]; decide))
  have hrel := State.answer_rel (v M).rampAllDown rq 0x0D 0x01 key {}
  rw [hmb] at hans
  refine ⟨_, hexec, hans, ?_, fun c hn => ?_⟩
  · rw [hrel.power (by decide), (State.rampAllDown_rel _).power (by decide)]
  · rw [State.core_congr (hrel.cores (by decide))] at hn ⊢
    exact State.rampDown_rampAllDown hn

theorem exec_powerStateStandby {rq : Req} {s : State} (hs : s.Heard rq 0x0D 1) (hmb : rq.mb = 0) (hlen : rq.body.length = 8) (hresv : rq.fld 1 7 = 0)
    (hact : rq.fld 0 1 = 2) (hrun : s.anyRunning = false) (hstate : s.power.state ≠ .standby) : ∃ t : State, exec (.powerStateStandby rq) s = .next t ∧
      (s.lend = [] → Answered t 0 0 [] ∧ t.power.state = .standby ∧ t.power.wait = none ∧ (∀ m, (t.mbox m).session = {}) ∧
        ∀ p m, p < 8 → m ∈ portMacs (s.port p).mode p → (t.mac m).up = false) ∧
      ((∀ e ∈ s.lend, e.2.state ≠ 1) → s.lend ≠ [] → t.power = { s.power with wait := some rq } ∧ (t.mbox 0).busy = true ∧ t.lend = s.lend) := by
  obtain ⟨M, key, -, hrun'⟩ := State.mailRun_heard hs
  let v : State := { s with mailboxes := M, power := { s.power with wait := some rq } }
  let w : State := v.reclaimAll.updMbox rq.mb (fun b => { b with busy := true })
  have hrow : exec (.powerStateStandby rq) s = .next w.standbyNow := by
    have hbody : ¬ (rq.body.length ≠ 8 ∨ rq.fld 1 7 ≠ 0) := by simp [hlen, hresv]
    have hrun'' : ¬ State.anyRunning { s with mailboxes := M } = true := by
      rw [show State.anyRunning { s with mailboxes := M } = s.anyRunning from rfl, hrun]
      decide
    have hstate' : ¬ (s.power.state == PowerState.standby) = true := by simpa using hstate
    show execPowerStateStandby rq s = _
    rw [execPowerStateStandby, if_neg (not_not.mpr hact), hrun']
    dsimp only
    rw [State.stateCmd, if_neg (not_not.mpr hmb), if_neg hbody, if_neg hrun'', if_neg hstate']
  refine ⟨_, hrow, fun hnone => ?_, fun hoff hlend => ?_⟩
  · have hreclaim : v.reclaimAll = v := State.reclaimAll_of_none (by
      show ∀ e ∈ s.lend, _
      rw [hnone]
      exact fun e he => absurd he List.not_mem_nil)
    obtain ⟨hans, hst, hwait, hses, hmacs⟩ := State.standbyNow_spec (s := w) (rq := rq) (by show v.reclaimAll.power.wait = _; rw [hreclaim])
      (by show v.reclaimAll.lend = _; rw [hreclaim]; exact hnone)
    rw [hmb] at hans
    refine ⟨hans, hst, hwait, hses, fun p m hp hm => hmacs p m hp ?_⟩
    show m ∈ portMacs (v.reclaimAll.port p).mode p
    rw [hreclaim]
    exact hm
  · have hreclaim : v.reclaimAll = v := State.reclaimAll_of_none hoff
    have hw : w.standbyNow = w := State.standbyNow_waits (by show v.reclaimAll.lend ≠ _; rw [hreclaim]; exact hlend)
    rw [hw]
    refine ⟨?_, ?_, ?_⟩
    · show v.reclaimAll.power = _
      rw [hreclaim]
    · show ((v.reclaimAll.updMbox rq.mb (fun b => { b with busy := true })).mbox 0).busy = true
      rw [hmb, State.mbox_updMbox]
    · show v.reclaimAll.lend = _
      rw [hreclaim]

theorem exec_powerCap {rq : Req} {s : State} (hs : s.Heard rq 0x0D 2) (hmb : rq.mb = 0) (hlen : rq.body.length = 4) (hlo : 250 ≤ rq.fld 0 2)
    (hhi : rq.fld 0 2 ≤ 650) (hsl : rq.fld 2 2 ≤ rq.fld 0 2) (hsealed : s.anySealed = true → rq.fld 2 2 = s.power.sealedW) : ∃ t : State,
    exec (.powerCap rq) s = .next t ∧ Answered t 0 0 [] ∧ t.power = { s.power with nextCap := some (rq.fld 0 2, rq.fld 2 2) } := by
  have hgo : ¬ (s.anySealed && rq.fld 2 2 != s.power.sealedW) = true := by simpa using hsealed
  obtain ⟨M, key, hexec, -, hans⟩ := exec_of_replies (i := .powerCap rq)
    (fun M => { s with mailboxes := M, power := { s.power with nextCap := some (rq.fld 0 2, rq.fld 2 2) } }) {} hs rfl (fun M _ => by
      rw [State.adm_of hmb, State.bodyOf_of hlen (by simp only [hlo, hhi, hsl, and_self, decide_true, Bool.and_self])]
      exact if_neg hgo)
  rw [hmb] at hans
  exact ⟨_, hexec, hans, (State.answer_rel _ _ _ _ _ _).power (by decide)⟩

theorem exec_powerRead {rq : Req} {s : State} (hs : s.Heard rq 0x0D 3) (hn : OnNone rq) (hb : rq.body = []) : ∃ t : State,
    exec (.powerRead rq) s = .next t ∧ Answered t rq.mb 0
      (leBytes 4 (meanOf (s.power.samples.map (fun e => e.1))) ++ leBytes 4 (meanOf (s.power.samples.map (fun e => e.2.1))) ++
        leBytes 4 (meanOf (s.power.samples.map (fun e => e.2.2))) ++ zeros 4 ++
        (List.range 48).flatMap (fun i => leBytes 2 (ofSigned 16 (s.temp (dramKey i)))) ++
        leBytes 2 (ofSigned 16 (s.hottest ((List.range 20).map (sensorKey 0))))) := by
  refine exec_of_shows _ hs rfl fun M => ?_
  rw [State.anyMb_of_onNone hn, State.bodyOf_of (by rw [hb]; rfl) rfl]
  rfl

/-! ### Windows zero-filled (R211, R214) -/

theorem exec_windowZeroFillComplete {w : Nat} {l : LendWin} {s : State} (hl : s.lend.find w = some l) (hwait : s.power.wait = none) :
    (l.state = 0 → ∃ t : State, exec (.windowZeroFillComplete w) s = .next t ∧ t.lend.find w = some { l with state := 1, handle := 0 } ∧
        (∀ h, s.handle l.handle = some h → h.fin = false → t.handle l.handle = some { h with fin := true, status := 0, phase := 5, doneNs := s.clk.tai.ns })) ∧
      (l.state ≠ 0 → l.state ≠ 1 → l.state ≠ 2 → ∃ t : State, exec (.windowZeroFillComplete w) s = .next t ∧ t.lend = s.lend.del w) := by
  let cleared : State := l.ranges.foldl (fun s (r : Nat × Nat) => s.clearMem (framePhys 0 0 l.tier 0 r.1) ((r.2 - r.1) * tileBytes)) s
  let filled : State := if l.state = 0 then { cleared with lend := cleared.lend.set w { l with state := 1, handle := 0 } }
    else { cleared with lend := cleared.lend.del w }
  have hcleared : Rel [.mem] s cleared := Rel.foldl (fun u r => State.clearMem_rel u _ _) (Rel.refl _ _)
  have hrow : l.state ≠ 1 → l.state ≠ 2 → exec (.windowZeroFillComplete w) s = .next (filled.finish l.handle 0) := by
    intro h1 h2
    have hfilled : s.windowFilled w = filled.finish l.handle 0 := by
      rw [State.windowFilled, hl]
      exact if_neg (not_or.mpr ⟨h1, h2⟩)
    show execWindowZeroFillComplete w s = _
    rw [execWindowZeroFillComplete, (State.windowFilled_rel s w).power (by decide), hwait, hfilled]
    rfl
  have hend := State.finish_rel filled l.handle 0
  refine ⟨fun h0 => ⟨_, hrow (by omega) (by omega), ?_, fun h hh hf => ?_⟩, fun h0 h1 h2 => ⟨_, hrow h1 h2, ?_⟩⟩
  · rw [hend.lend (by decide)]
    unfold filled
    rw [if_pos h0]
    exact Map.find_set _ _ _
  · have hhandle : filled.handle l.handle = some h := by
      unfold filled
      rw [if_pos h0]
      exact (State.handle_congr (hcleared.handles (by decide)) _).trans hh
    have hclk : filled.clk = s.clk := by
      unfold filled
      rw [if_pos h0]
      exact hcleared.clk (by decide)
    rw [State.handle_finish hhandle hf, hclk]
    rfl
  · rw [hend.lend (by decide)]
    unfold filled
    rw [if_neg h0]
    exact congrArg (fun m => Map.del m w) (hcleared.lend (by decide))

/-! ### The power-fail warning (R407 to R409, R515, R550, R563) -/

/-- Every mailbox shows the answer that it showed. -/
def SameAnswers (s t : State) : Prop := ∀ m, (t.mbox m).lastStatus = (s.mbox m).lastStatus ∧ (t.mbox m).done = (s.mbox m).done

theorem SameAnswers.of_rel {l : List Fld} {s t : State} (h : Rel l s t) (hl : Fld.mailboxes ∉ l) : SameAnswers s t := fun m => by
  rw [State.mbox, h.mailboxes hl]
  exact ⟨rfl, rfl⟩

theorem SameAnswers.trans {s t u : State} (h : SameAnswers s t) (g : SameAnswers t u) : SameAnswers s u :=
  fun m => ⟨(g m).1.trans (h m).1, (g m).2.trans (h m).2⟩

theorem State.sameAnswers_notify (s : State) (m sev : Nat) : SameAnswers s (s.notify m sev) := by
  unfold State.notify
  extract_lets b marked
  have hmarked : SameAnswers s marked := fun n => by
    by_cases hn : n = m
    · rw [hn, State.mbox_setMbox]
      exact ⟨rfl, rfl⟩
    · rw [State.mbox_setMbox_ne _ _ hn]
      exact ⟨rfl, rfl⟩
  split
  · exact fun _ => ⟨rfl, rfl⟩
  · split
    · exact hmarked.trans (.of_rel (State.emit_rel _ _) (by decide))
    · exact hmarked

/-- A log record is told to the mailboxes, whose answers stand (R439). -/
theorem State.sameAnswers_event (s : State) (code sev x : Nat) (args : List Nat) : SameAnswers s (s.event code sev x args) := by
  unfold State.event State.logRecord
  extract_lets room e logged told
  have hlogged : SameAnswers s logged :=
    (SameAnswers.of_rel s.logRoom_rel (by decide) : SameAnswers s room).trans (.of_rel Rel.set_log_logNext (by decide))
  have htold : SameAnswers s told := hlogged.trans (State.sameAnswers_notify _ _ _)
  split
  · exact htold
  · exact htold.trans (State.sameAnswers_notify _ _ _)

theorem State.sameAnswers_gafferEvent (s : State) (code sev : Nat) (args : List Nat) : SameAnswers s (s.gafferEvent code sev args) := by
  unfold State.gafferEvent
  split
  · exact s.sameAnswers_event _ _ _ _
  · exact fun _ => ⟨rfl, rfl⟩

/-- What the warning does from READY: every context is fenced, the cores ramp down, and a POWER STATE command that waits fails (R407, R515). -/
def State.warned (s : State) : State := s.fenceAll.rampAllDown.answerWait 0x25

theorem State.warned_rel (s : State) : Rel [.out, .fresh, .mem, .cores, .ctxs, .migs, .asks, .stalled, .rowCopies, .freed, .flows, .mailboxes, .handles, .log,
    .logNext, .logOverflow, .nand, .power] s s.warned :=
  (((State.fenceAll_rel s).mono (by decide)).trans ((State.rampAllDown_rel _).mono (by decide))).trans ((State.answerWait_rel _ 0x25).mono (by decide))

theorem State.warned_spec (s : State) : (∀ x, (s.ctx x).created = true → (s.warned.ctx x).fenced = true) ∧
    (∀ c, (s.warned.core c).n ≠ 0 → (s.warned.core c).rampDown = true) ∧
    ∀ rq, s.power.wait = some rq → (s.warned.mbox rq.mb).lastStatus = 0x25 ∧ (s.warned.mbox rq.mb).done = true := by
  have hans := State.answerWait_rel s.fenceAll.rampAllDown 0x25
  refine ⟨fun x hx => ?_, fun c hn => ?_, fun rq hrq => ?_⟩
  · rw [State.warned, State.ctx_congr (hans.ctxs (by decide)), State.ctx_congr ((State.rampAllDown_rel _).ctxs (by decide))]
    exact State.fenced_fenceAll hx
  · rw [State.warned, State.core_congr (hans.cores (by decide))] at hn ⊢
    exact State.rampDown_rampAllDown hn
  · have hwait : s.fenceAll.rampAllDown.power.wait = some rq := by
      rw [(State.rampAllDown_rel _).power (by decide), (State.fenceAll_rel s).power (by decide), hrq]
    obtain ⟨⟨hdone, -, hst, -⟩, -⟩ := State.answerWait_spec hwait 0x25
    exact ⟨hst, hdone⟩

theorem exec_pfwAssert {s : State} (hoff : s.pins.pfwAsserted = false) : ∃ t : State, exec .pfwAssert s = .next t ∧ t.clk = (s.advance 2100).clk ∧
    t.pins.pfwAsserted = true ∧ t.pins.nandClosed = true ∧
      t.pins.journaled = false ∧ t.pins.pfwNs = t.clk.tai.ns ∧ bit t.pins.alertStatus 3 = true ∧
      (s.start.stage = 7 → (∀ x, (s.ctx x).created = true → (t.ctx x).fenced = true) ∧ (∀ c, (t.core c).n ≠ 0 → (t.core c).rampDown = true) ∧
        ∀ rq, s.power.wait = some rq → (t.mbox rq.mb).lastStatus = 0x25 ∧ (t.mbox rq.mb).done = true) := by
  let v : State := { s.advance 2100 with
    pins := { s.pins with pfwAsserted := true, pfwNs := (s.advance 2100).clk.tai.ns, releaseNs := none, nandClosed := true, journaled := false } }
  have hv : Rel [.clk, .pins] s v := ((State.advance_rel s 2100).mono (by decide)).trans (Rel.set_pins.mono (by decide))
  obtain ⟨w, hwarned, hw, hrow⟩ : ∃ w, (s.start.stage = 7 → w = v.warned) ∧
      Rel [.out, .fresh, .mem, .cores, .ctxs, .migs, .asks, .stalled, .rowCopies, .freed, .flows, .mailboxes, .handles, .log, .logNext, .logOverflow,
        .nand, .power] v w ∧ exec .pfwAssert s = .next ((w.gafferEvent 0x0014 3 [1]).alert 3) := by
    have hrow : exec .pfwAssert s = .next (((if s.start.stage = 7 then v.warned else v).gafferEvent 0x0014 3 [1]).alert 3) := by
      show execPfwAssert s = _
      rw [execPfwAssert]
      exact if_neg (by simp [hoff])
    refine ⟨_, fun h7 => if_pos h7, ?_, hrow⟩
    split
    · exact v.warned_rel
    · exact Rel.refl _ _
  have hevent := State.gafferEvent_rel w 0x0014 3 [1]
  have hclk : ((w.gafferEvent 0x0014 3 [1]).alert 3).clk = (s.advance 2100).clk := by
    rw [State.alert_clk, hevent.clk (by decide), hw.clk (by decide)]
  have hpins : (w.gafferEvent 0x0014 3 [1]).pins = v.pins := by rw [hevent.pins (by decide), hw.pins (by decide)]
  refine ⟨_, hrow, hclk, ?_, ?_, ?_, ?_, State.bit_alert _ _, fun h7 => ?_⟩
  · exact congrArg Pins.pfwAsserted hpins
  · exact congrArg Pins.nandClosed hpins
  · exact congrArg Pins.journaled hpins
  · rw [hclk]
    exact congrArg Pins.pfwNs hpins
  · obtain ⟨hfenced, hramp, hfails⟩ := v.warned_spec
    rw [← hwarned h7] at hfenced hramp hfails
    refine ⟨fun x hx => ?_, fun c hn => ?_, fun rq hrq => ?_⟩
    · exact (SameFences.of_tables (w.sameTables_gafferEvent _ _ _) x).trans
        (hfenced x (by rw [State.ctx_congr (hv.ctxs (by decide)), hx]))
    · have hcore : ((w.gafferEvent 0x0014 3 [1]).alert 3).core c = w.core c := State.core_congr (hevent.cores (by decide)) c
      rw [hcore] at hn ⊢
      exact hramp c hn
    · obtain ⟨hst, hdone⟩ := w.sameAnswers_gafferEvent 0x0014 3 [1] rq.mb
      obtain ⟨hst', hdone'⟩ := hfails rq (by rw [hv.power (by decide), hrq])
      exact ⟨hst.trans hst', hdone.trans hdone'⟩

/-- The newest whole generation of a job is no older than any that lies wholly on NAND. -/
theorem State.le_newestWhole {s : State} {n : NandGen} (hn : n ∈ s.nand) (hwhole : n.whole = true) :
    n.record.generation ≤ (s.newestWhole n.role).getOr n.jobId 0 := by
  let note (b : Map Nat) (n : NandGen) : Map Nat := b.upd n.jobId 0 (fun g => max g n.record.generation)
  have hgrows : ∀ (n : NandGen) (b : Map Nat) k, b.getOr k 0 ≤ (note b n).getOr k 0 := by
    intro n b k
    by_cases hk : k = n.jobId
    · rw [hk, Map.getOr_upd]
      exact Nat.le_max_left _ _
    · have hset : note b n = b.set n.jobId (max (b.getOr n.jobId 0) n.record.generation) := rfl
      rw [hset, Map.getOr_set_ne _ _ _ hk]
  have hkeeps : ∀ (l : List NandGen) (b : Map Nat) k, b.getOr k 0 ≤ (l.foldl note b).getOr k 0 := by
    intro l
    induction l with
    | nil => exact fun b k => le_rfl
    | cons m l ih => exact fun b k => (hgrows m b k).trans (ih _ k)
  have hall : ∀ (l : List NandGen) (b : Map Nat), n ∈ l → n.record.generation ≤ (l.foldl note b).getOr n.jobId 0 := by
    intro l
    induction l with
    | nil => exact fun b h => absurd h List.not_mem_nil
    | cons m l ih =>
      intro b h
      rcases List.mem_cons.mp h with rfl | h
      · refine le_trans ?_ (hkeeps l _ _)
        rw [Map.getOr_upd]
        exact Nat.le_max_right _ _
      · exact ih _ h
  exact hall _ [] (List.mem_filter.mpr ⟨hn, by simp [hwhole]⟩)

/-- The commit block leaves on NAND the generations that lie there wholly. -/
theorem State.nand_commitJournal (s : State) : s.commitJournal.nand.all (fun n => n.whole) = true ∧
    s.commitJournal.nand.length = (s.nand.filter (fun n => n.whole)).length := by
  unfold State.commitJournal
  constructor
  · rw [List.all_map, List.all_eq_true]
    intro n hn
    rw [Function.comp_apply]
    split
    · exact (List.mem_filter.mp hn).2
    · exact (List.mem_filter.mp hn).2
  · exact List.length_map ..

theorem exec_pfwJournalCommit {u s : State} (hdue : s.commitDue = true) (hu : u = s.toTai (s.pins.pfwNs + 2000000)) : ∃ t : State,
    exec .pfwJournalCommit s = .next t ∧ t.clk = u.clk ∧ t.pins.journaled = true ∧
      t.pins.quiesced = true ∧ t.nand.all (fun n => n.whole) = true ∧ t.nand.length = (s.nand.filter (fun n => n.whole)).length ∧
      t.journal = { valid := true, pfw := true, own := s.newestWhole 0, mirror := s.newestWhole 1 } ∧
      ∀ n ∈ s.nand, n.whole = true → (n.role = 0 → n.record.generation ≤ t.journal.own.getOr n.jobId 0) ∧
        (n.role = 1 → n.record.generation ≤ t.journal.mirror.getOr n.jobId 0) := by
  have hrow : exec .pfwJournalCommit s = .next { u.commitJournal with pins := { u.commitJournal.pins with quiesced := true } } := by
    subst hu
    show execPfwJournalCommit s = _
    rw [execPfwJournalCommit, if_neg (by simp [hdue])]
  have hnand : u.nand = s.nand := by rw [hu]; exact (State.toTai_rel s _).nand (by decide)
  have hnewest : ∀ r, u.newestWhole r = s.newestWhole r := fun r => by rw [State.newestWhole, State.newestWhole, hnand]
  have hjournal : u.commitJournal.journal = { valid := true, pfw := true, own := s.newestWhole 0, mirror := s.newestWhole 1 } := by
    rw [← hnewest, ← hnewest]
    rfl
  obtain ⟨hwhole, hlen⟩ := u.nand_commitJournal
  rw [hnand] at hlen
  refine ⟨_, hrow, rfl, rfl, rfl, hwhole, hlen, hjournal, fun n hn hw => ⟨fun h0 => ?_, fun h1 => ?_⟩⟩
  · show _ ≤ u.commitJournal.journal.own.getOr n.jobId 0
    have hle := State.le_newestWhole hn hw
    rw [h0] at hle
    rw [hjournal]
    exact hle
  · show _ ≤ u.commitJournal.journal.mirror.getOr n.jobId 0
    have hle := State.le_newestWhole hn hw
    rw [h1] at hle
    rw [hjournal]
    exact hle

theorem exec_pfwRelease {u s : State} (hon : s.pins.pfwAsserted = true) (hu : u = s.advance 1050000) : ∃ t : State, exec .pfwRelease s = .next t ∧
    t.clk = u.clk ∧ t.pins.pfwAsserted = false ∧ t.pins.releaseNs = some u.clk.tai.ns ∧ t.pins.nandClosed = false ∧ bit t.pins.alertStatus 3 = true := by
  let v : State := { u with pins := { u.pins with pfwAsserted := false, releaseNs := some u.clk.tai.ns, quiesced := false, nandClosed := false } }
  have hrow : exec .pfwRelease s = .next ((v.gafferEvent 0x0014 1 [0]).alert 3) := by
    subst hu
    show execPfwRelease s = _
    rw [execPfwRelease, if_neg (by simp [hon])]
  have hevent := State.gafferEvent_rel v 0x0014 1 [0]
  have hpins : (v.gafferEvent 0x0014 1 [0]).pins = v.pins := hevent.pins (by decide)
  refine ⟨_, hrow, ?_, congrArg Pins.pfwAsserted hpins, congrArg Pins.releaseNs hpins, congrArg Pins.nandClosed hpins, State.bit_alert _ _⟩
  rw [State.alert_clk, hevent.clk (by decide)]

/-! ### The rejoin (R409, R563) -/

/-- A recovery that begins where none is open is HALTING, for its trigger. -/
theorem State.recov_beginRecovery {s : State} {x : Nat} (h : (s.ctx x).recov.state = .none_) (code at_ : Nat) (lost : List Nat) :
    ((s.beginRecovery x code at_ lost).ctx x).recov.state = .halting ∧ ((s.beginRecovery x code at_ lost).ctx x).recov.trigger = code := by
  unfold State.beginRecovery
  extract_lets c again begun disarmed
  have hbegun : (begun.ctx x).recov.state = .halting ∧ (begun.ctx x).recov.trigger = code := by
    have hctx : begun.ctx x = _ := State.ctx_updCtx _ _ _
    rw [hctx]
    dsimp only
    rw [if_pos (by simp [h])]
    exact ⟨rfl, rfl⟩
  have hdisarmed : (disarmed.ctx x).recov = (begun.ctx x).recov := by
    unfold disarmed
    split
    · rfl
    · rw [State.disarm, State.ctx_updCtx]
  rw [← hdisarmed] at hbegun
  split
  · have hnoted := congrArg Ctx.recov (State.ctx_updCtx disarmed x (fun c => { c with sec := { c.sec with recoveries := c.sec.recoveries ++ [disarmed.clk.tai.ns] } }))
    rw [State.updSec, hnoted]
    exact hbegun
  · exact hbegun

/-- The recoveries that the coordinators among the contexts begin at the rejoin (R409). -/
def State.rejoined (s : State) : State :=
  (s.ctxs.filter (fun e => e.2.job.phase = 4 && e.2.job.plan.coordinator)).foldl (fun s e => s.beginRecovery e.1 3 (s.pins.pfwNs - e.2.job.epoch) []) s

theorem State.rejoined_rel (s : State) : Rel [.ctxs] s s.rejoined := Rel.foldl (fun u _ => State.beginRecovery_rel u _ _ _ _) (Rel.refl _ _)

theorem exec_pfwRejoin_ready {n : Nat} {s : State} (hn : s.pins.releaseNs = some n) (h7 : s.start.stage = 7) : ∃ t : State, exec .pfwRejoin s = .next t ∧
    t.clk = (s.toTai (n + 100000000)).clk ∧
      t.pins.releaseNs = none ∧ ∀ x, s.ctxs = [(x, s.ctx x)] → (s.ctx x).job.phase = 4 → (s.ctx x).job.plan.coordinator = true →
        (s.ctx x).recov.state = .none_ → (t.ctx x).recov.state ≠ .none_ ∧ (t.ctx x).recov.trigger = 3 := by
  obtain ⟨u, hu, hclk, hrow⟩ : ∃ u, Rel [.clk] s u ∧ u.clk = (s.toTai (n + 100000000)).clk ∧
      exec .pfwRejoin s = .next (State.rejoined { u with pins := { u.pins with releaseNs := none } }) := by
    refine ⟨s.toTai (n + 100000000), State.toTai_rel _ _, rfl, ?_⟩
    show execPfwRejoin s = _
    rw [execPfwRejoin, hn]
    exact if_neg (not_not.mpr h7)
  let v : State := { u with pins := { u.pins with releaseNs := none } }
  have hv : Rel [.clk, .pins] s v := (hu.mono (by decide)).trans (Rel.set_pins.mono (by decide))
  have hend := v.rejoined_rel
  refine ⟨_, hrow, (hend.clk (by decide)).trans hclk, ?_, fun x hone hphase hcoord hnone => ?_⟩
  · rw [hend.pins (by decide)]
  · have hmine : v.ctxs.filter (fun e => e.2.job.phase = 4 && e.2.job.plan.coordinator) = [(x, s.ctx x)] := by
      rw [hv.ctxs (by decide), hone]
      exact List.filter_cons_of_pos (by simp [hphase, hcoord])
    have hbegun : v.rejoined = v.beginRecovery x 3 (v.pins.pfwNs - (s.ctx x).job.epoch) [] := by
      rw [State.rejoined, hmine, List.foldl_cons, List.foldl_nil]
    have hx : v.ctx x = s.ctx x := State.ctx_congr (hv.ctxs (by decide)) x
    obtain ⟨hst, htr⟩ := State.recov_beginRecovery (s := v) (by rw [hx]; exact hnone) 3 (v.pins.pfwNs - (s.ctx x).job.epoch) []
    rw [hbegun]
    exact ⟨by rw [hst]; decide, htr⟩

theorem State.releaseNs_alert (s : State) (i : Nat) : (s.alert i).pins.releaseNs = s.pins.releaseNs := rfl

/-- A start-up that resumes and whose ports have trained is READY (R558, R563). -/
theorem State.start_ready (s : State) : s.ready.start = { s.start with stage := 7, portsDone := false, gafferDown := false } ∧
    s.ready.pins.releaseNs = s.pins.releaseNs := by
  unfold State.ready
  extract_lets power start v
  have hevent := State.event_rel v 0x001A 0 noCtx [v.start.cause, v.life.slot, (v.clk.cycle - v.start.atCycle) / 1050000]
  constructor
  · rw [State.alert_start, hevent.start (by decide)]
  · rw [State.releaseNs_alert, hevent.pins (by decide)]

theorem exec_pfwRejoin_starting {n : Nat} {s : State} (hn : s.pins.releaseNs = some n) (h7 : s.start.stage ≠ 7) (hoff : s.pins.pfwAsserted = false) :
    ∃ t : State, exec .pfwRejoin s = .next t ∧ t.start.pfwHeld = false ∧ t.pins.releaseNs = none ∧
      (s.start.pfwHeld = true → s.start.portsDone = true → t.start.stage = 7) := by
  let u : State := if s.start.pfwHeld then s.toTai (n + 100000000) else s
  let v : State := { u with start := { u.start with pfwHeld := false }, pins := { u.pins with releaseNs := none } }
  have hu : u.start = s.start := by
    unfold u
    split
    · exact (State.toTai_rel s _).start (by decide)
    · rfl
  have hrow : exec .pfwRejoin s = .next (if s.start.pfwHeld && v.start.portsDone then v.ready else v) := by
    have hresumes : s.resumeStart = if s.start.pfwHeld && v.start.portsDone then v.ready else v := by rw [State.resumeStart, hoff, hn]
    show execPfwRejoin s = _
    rw [execPfwRejoin, hn, ← hresumes]
    exact if_pos h7
  obtain ⟨hstart, hpins⟩ := v.start_ready
  refine ⟨_, hrow, ?_, ?_, fun hheld hports => ?_⟩
  · split
    · rw [hstart]
    · rfl
  · split
    · rw [hpins]
    · rfl
  · have hdone : v.start.portsDone = true := by
      show u.start.portsDone = true
      rw [hu, hports]
    rw [if_pos (by rw [hheld, hdone]; rfl), hstart]

/-- Settles O29, row by row of the power, the cooling and the warning. -/
theorem powerRowsComplete : Obligations.PowerRowsComplete := by
  unfold Obligations.PowerRowsComplete
  refine ⟨fun mv ma mw cap sl run s hon hcap hrun => exec_powerSample hon hcap hrun, fun m u s hon hm hu => exec_capControlTick hon hm hu,
    fun cs u s hon hu => exec_thermalTick hon hu, fun r s hon htrip => exec_thermalTrip hon htrip,
    fun rq s hs hmb hlen hresv => ⟨fun hact hcool => exec_powerStateActive hs hmb hlen hresv hact hcool,
      fun hact hrun => exec_powerStateIdle hs hmb hlen hresv hact hrun, fun hact hrun hstate => exec_powerStateStandby hs hmb hlen hresv hact hrun hstate⟩,
    fun w l s hl hwait => exec_windowZeroFillComplete hl hwait,
    fun rq s hs hmb hlen hlo hhi hsl hsealed => exec_powerCap hs hmb hlen hlo hhi hsl hsealed, fun rq s hs hn hb => exec_powerRead hs hn hb,
    fun s hoff => exec_pfwAssert hoff, fun u s hdue hu => exec_pfwJournalCommit hdue hu, fun u s hon hu => exec_pfwRelease hon hu,
    fun n s hn => ⟨fun h7 => exec_pfwRejoin_ready hn h7, fun h7 hoff => exec_pfwRejoin_starting hn h7 hoff⟩⟩

end Sys2Proof.Machine

/-! SUPPORT. The fabric and time commands (O25): a command that passes its channel and body writes its own fields and is answered. -/

namespace Sys2Proof.Machine

/-! ### A record of the ports that is not due, and the next hop (R238, R492) -/

theorem State.applyPorts_of_not_due {s : State} {p : Nat} (h : (s.port p).recordDue = false) : s.applyPorts p = s := by
  rw [State.applyPorts, h]
  rfl

theorem State.adminUp_applyPorts (s : State) (p : Nat) : ((s.applyPorts p).port p).adminUp = (s.port p).adminUp := by
  unfold State.applyPorts
  split
  · simp only [State.port_updPort]
  · rfl

theorem State.port_enqueue (s : State) (m q : Nat) (f : Frame) (p : Nat) : (s.enqueue m q f).port p = s.port p :=
  State.port_congr ((State.enqueue_rel s m q f).ports (by decide)) p

/-- The resolution of a next hop writes the address of that hop and no other field of the port (R238). -/
theorem State.port_resolveHop (s : State) (p : Nat) : ∃ a, (s.resolveHop p).port p = { s.port p with hopMac := a } := by
  have hself : s.port p = { s.port p with hopMac := (s.port p).hopMac } := rfl
  unfold State.resolveHop
  extract_lets pt v6 ip u
  split
  · exact ⟨_, hself⟩
  · split
    · exact ⟨_, hself⟩
    · exact ⟨_, by rw [State.port_enqueue, State.port_updPort]⟩

theorem State.ports_leaveLpis (ms : List Nat) (s : State) : (ms.foldl (fun s m => s.leaveLpi m) s).ports = s.ports :=
  (Rel.foldl (l := [.macs, .counters]) (fun u m => State.leaveLpi_rel u m) (Rel.refl _ _)).ports (by decide)

/-- What PORT_SET makes of its port once the new settings stand: with no record due, the MACs' wake-up and the next hop leave the settings (R289). -/
theorem State.port_set_leaves {s : State} {p : Nat} (ms : List Nat) (eee : Prop) [Decidable eee] (hdue : (s.port p).recordDue = false) :
    ∃ a, (((if eee then s else ms.foldl (fun s m => s.leaveLpi m) s).applyPorts p).resolveHop p).port p = { s.port p with hopMac := a } := by
  let u : State := if eee then s else ms.foldl (fun s m => s.leaveLpi m) s
  have hu : u.port p = s.port p := by
    refine State.port_congr ?_ p
    simp only [u]
    split
    · rfl
    · exact State.ports_leaveLpis ms s
  have hid : u.applyPorts p = u := State.applyPorts_of_not_due (by rw [hu, hdue])
  show ∃ a, ((u.applyPorts p).resolveHop p).port p = _
  rw [hid, ← hu]
  exact State.port_resolveHop u p

/-! ### Ports (R283, R289, R292, R452) -/

/-- The settings that PORT_SET writes to a port. -/
def Port.set (rq : Req) (t : Port) : Port :=
  { t with
    mode := rq.fld 1 1, encap := rq.fld 2 1, flowctl := rq.fld 3 1, pfcSend := rq.fld 4 1, small := rq.fld 5 1 == 1, eee := rq.fld 6 1 == 1
    vlan := rq.fld 8 2, udpPort := rq.fld 10 2, idleHoldUs := rq.fld 12 4, xoff := (List.range 8).map (fun i => rq.fld (16 + 4 * i) 4)
    xon := (List.range 8).map (fun i => rq.fld (48 + 4 * i) 4), dscp := (List.range 8).map (fun i => rq.fld (80 + i) 1)
    ownIp := ipField (sub rq.body 88 16), nextHop := ipField (sub rq.body 104 16) }

theorem exec_portSet {s : State} {rq : Req} {p : Nat} (hs : s.Heard rq 6 1) (hmb : rq.mb = 0) (hlen : rq.body.length = 120) (hp : p = rq.fld 0 1)
    (hok : (decide (p < 8) && decide (rq.fld 1 1 ≤ 3) && decide (rq.fld 2 1 ≤ 1) && decide (rq.fld 3 1 ≤ 2) && decide (rq.fld 5 1 ≤ 1)
      && decide (rq.fld 6 1 ≤ 1) && rq.fld 7 1 == 0 && decide (rq.fld 8 2 < 4096) && decide (1 ≤ rq.fld 12 4 ∧ rq.fld 12 4 ≤ 1000)
      && ((List.range 8).map (fun i => rq.fld (80 + i) 1)).all (fun d => decide (d < 64))
      && pfcOk (rq.fld 1 1) (rq.fld 4 1) ((List.range 8).map (fun i => rq.fld (16 + 4 * i) 4)) ((List.range 8).map (fun i => rq.fld (48 + 4 * i) 4))) = true)
    (hmode : rq.fld 1 1 = (s.port p).mode ∨ s.portDown p = true) (hdue : (s.port p).recordDue = false) :
    ∃ t : State, ∃ a, exec (.portSet rq) s = .next t ∧ Answered t 0 0 [] ∧ t.port p = { (s.port p).set rq with hopMac := a } := by
  subst hp
  let v (M : Map Mailbox) : State := { s with mailboxes := M }
  let w (M : Map Mailbox) : State := (v M).updPort (rq.fld 0 1) (Port.set rq)
  have hw (M) : (w M).port (rq.fld 0 1) = (s.port (rq.fld 0 1)).set rq := State.port_updPort _ _ _
  have hgo (M) : ¬ (rq.fld 1 1 ≠ ((v M).port (rq.fld 0 1)).mode ∧ ¬ (v M).portDown (rq.fld 0 1) = true) :=
    fun h => hmode.elim h.1 h.2
  obtain ⟨M, key, hexec, -, ha⟩ := exec_of_replies (i := .portSet rq)
    (fun M => (((if rq.fld 6 1 = 1 then w M else (portMacs (rq.fld 1 1) (rq.fld 0 1)).foldl (fun s m => s.leaveLpi m) (w M)).applyPorts
      (rq.fld 0 1)).resolveHop (rq.fld 0 1))) {} hs rfl fun M _ => by
    rw [State.adm_of hmb]
    dsimp only
    rw [State.bodyOf_of hlen hok]
    exact if_neg (hgo M)
  obtain ⟨a, hport⟩ := State.port_set_leaves (s := w M) (p := rq.fld 0 1) (portMacs (rq.fld 1 1) (rq.fld 0 1)) (rq.fld 6 1 = 1) (by rw [hw]; exact hdue)
  rw [hmb] at ha
  refine ⟨_, a, hexec, ha, ?_⟩
  rw [State.port_answer, hport, hw]

/-- A MAC's fall leaves every port's record and mode: of its own port it writes the lanes in use. -/
theorem State.recordDue_macDown (s : State) (m lane q : Nat) : ((s.macDown m lane).port q).recordDue = (s.port q).recordDue := by
  unfold State.macDown
  extract_lets p flushed down used shut fwd flows
  let told : State := flows.reRate.event 0x0009 2 noCtx [p, lane]
  have hports : told.pumpAll.ports = shut.ports := ((State.pumpAll_rel told).ports (by decide)).trans
    (((State.event_rel _ _ _ _ _).ports (by decide)).trans ((State.reRate_rel flows).ports (by decide)))
  have hflushed : ∀ q, flushed.port q = s.port q := State.port_congr ((State.flushMac_rel s m).ports (by decide))
  rw [State.port_congr hports, ← hflushed]
  by_cases hq : q = p
  · rw [hq, State.port_updPort]
    rfl
  · exact congrArg Port.recordDue (Map.getOr_set_ne down.ports _ _ hq)

theorem State.recordDue_dropPort (s : State) (p q : Nat) : ((s.dropPort p).port q).recordDue = (s.port q).recordDue := by
  have hmacs : ∀ (ms : List Nat) (u : State),
      ((ms.foldl (fun s m => if (s.mac m).up then s.macDown m 0 else s) u).port q).recordDue = (u.port q).recordDue := by
    intro ms
    induction ms with
    | nil => exact fun _ => rfl
    | cons m ms ih =>
      intro u
      rw [List.foldl_cons, ih]
      split
      · exact State.recordDue_macDown u m 0 q
      · rfl
  exact hmacs _ s

theorem exec_portUpdown {s : State} {rq : Req} {p : Nat} (hs : s.Heard rq 6 2) (hmb : rq.mb = 0) (hlen : rq.body.length = 8) (hp : p = rq.fld 0 1)
    (hlt : p < 8) (hresv : rq.fld 2 6 = 0) (hop : rq.fld 1 1 ≤ 1) : ∃ t : State, exec (.portUpdown rq) s = .next t ∧ Answered t 0 0 [] ∧
      (t.port p).adminUp = decide (rq.fld 1 1 = 1) ∧
      (rq.fld 1 1 = 0 → (s.port p).recordDue = false → ∀ m ∈ portMacs (s.port p).mode p, (t.mac m).up = false) := by
  subst hp
  have hok : (decide (rq.fld 0 1 < 8) && decide (rq.fld 1 1 ≤ 1) && rq.fld 2 6 == 0) = true := by simp [hlt, hop, hresv]
  by_cases hup : rq.fld 1 1 = 1
  · obtain ⟨M, key, hexec, -, ha⟩ := exec_of_replies (i := .portUpdown rq)
      (fun M => State.updPort { s with mailboxes := M } (rq.fld 0 1) (fun t => { t with adminUp := true })) {} hs rfl fun M _ => by
      rw [State.adm_bodyOf hmb hlen hok]
      exact if_pos hup
    refine ⟨_, hexec, hmb ▸ ha, ?_, fun h0 => absurd h0 (by omega)⟩
    rw [State.port_answer, State.port_updPort]
    simp [hup]
  · let dropped (M : Map Mailbox) : State := State.dropPort { s with mailboxes := M } (rq.fld 0 1)
    let shut (M : Map Mailbox) : State := (dropped M).updPort (rq.fld 0 1) (fun t => { t with adminUp := false })
    obtain ⟨M, key, hexec, -, ha⟩ := exec_of_replies (i := .portUpdown rq) (fun M => (shut M).applyPorts (rq.fld 0 1)) {} hs rfl fun M _ => by
      rw [State.adm_bodyOf hmb hlen hok]
      exact if_neg hup
    refine ⟨_, hexec, hmb ▸ ha, ?_, fun _ hdue m hm => ?_⟩
    · rw [State.port_answer, State.adminUp_applyPorts, State.port_updPort]
      simp [hup]
    · have hid : (shut M).applyPorts (rq.fld 0 1) = shut M := by
        refine State.applyPorts_of_not_due ?_
        rw [State.port_updPort]
        exact (State.recordDue_dropPort _ _ _).trans hdue
      rw [hid, State.mac_answer]
      exact (State.lowered_macs _ { s with mailboxes := M }).low m hm

theorem exec_portStatus {s : State} {rq : Req} (hs : s.Heard rq 6 3) (hn : OnNone rq) (hb : rq.body = []) : ∃ t : State,
    exec (.portStatus rq) s = .next t ∧ Answered t rq.mb 0 ((List.range 8).flatMap (fun p => leBytes 4 (s.portWord p))) := by
  refine exec_of_shows _ hs rfl fun M => ?_
  rw [State.anyMb_of_onNone hn, State.bodyOf_of (by rw [hb]; rfl) rfl]
  rfl

/-! ### Tables, congestion, neighbours, re-calibration (R238, R265, R269, R272, R295, R302) -/

/-- A load of a table hands out its handle (R458). -/
theorem exec_tableLoad {s : State} {i : Instr} {rq : Req} {c kind size : Nat}
    (hrow : exec i s = .next (s.mailCmd rq 6 c (fun s => s.tableLoad rq kind size))) (hs : s.Heard rq 6 c) (hmb : rq.mb = 0) (hlen : rq.body.length = 16)
    (hfit : rq.fld 8 4 + rq.fld 12 4 ≤ 65536) (hroom : s.handleRoom 0 = true) : ∃ t : State, exec i s = .next t ∧ Handed s t rq 0x0F []
      { mb := 0, op := 0x0F, phase := 1, total := rq.fld 12 4, arg := kind, arg2 := rq.fld 8 4, addr := rq.fld 0 8, len := size * rq.fld 12 4 } :=
  ⟨_, hrow, State.mailCmd_given hs hmb (by exact ⟨rfl, rfl⟩) hroom (fun _ => State.adm_bodyOf hmb hlen (by simpa using hfit) _)⟩

theorem exec_ccParams {s : State} {rq : Req} {x : Nat} (hs : s.Heard rq 6 6) (hx : s.Acts rq x) (hlen : rq.body.length = 28)
    (hok : (ratIn (f32Rat (rq.fld (4 * 0) 4)) (1 / 256) (1 / 2) && ratIn (f32Rat (rq.fld (4 * 1) 4)) 1 1000
      && ratIn (f32Rat (rq.fld (4 * 2) 4)) (1 / 64) (1 / 2) && ratIn (f32Rat (rq.fld (4 * 3) 4)) (1 / 10) 10
      && ratIn (f32Rat (rq.fld (4 * 4) 4)) 1 100 && ratIn (f32Rat (rq.fld (4 * 5) 4)) 10 10000) = true)
    (hlo : 10 ≤ rq.fld 24 4) (hhi : rq.fld 24 4 ≤ 10000) : ∃ t : State, exec (.ccParams rq) s = .next t ∧ Answered t rq.mb 0 [] ∧
      (t.ctx x).cc = {
        g := (f32Rat (rq.fld (4 * 0) 4)).getD 0, dHighNs := 1000 * (f32Rat (rq.fld (4 * 1) 4)).getD 0, aDelay := (f32Rat (rq.fld (4 * 2) 4)).getD 0
        incAi := 1000 * (f32Rat (rq.fld (4 * 3) 4)).getD 0, incHai := 1000 * (f32Rat (rq.fld (4 * 4) 4)).getD 0
        rateMin := (f32Rat (rq.fld (4 * 5) 4)).getD 0, tFailMs := rq.fld 24 4 } := by
  obtain ⟨M, key, hexec, -, ha⟩ := exec_of_replies (i := .ccParams rq)
    (fun M => State.updCtx { s with mailboxes := M } x (fun c => { c with cc := {
        g := (f32Rat (rq.fld (4 * 0) 4)).getD 0, dHighNs := 1000 * (f32Rat (rq.fld (4 * 1) 4)).getD 0, aDelay := (f32Rat (rq.fld (4 * 2) 4)).getD 0
        incAi := 1000 * (f32Rat (rq.fld (4 * 3) 4)).getD 0, incHai := 1000 * (f32Rat (rq.fld (4 * 4) 4)).getD 0
        rateMin := (f32Rat (rq.fld (4 * 5) 4)).getD 0, tFailMs := rq.fld 24 4 } })) {} hs rfl fun M _ => by
    rw [State.onCtx_of_acts (s := { s with mailboxes := M }) hx]
    exact State.bodyOf_of hlen (by rw [hok, Bool.true_and]; exact decide_eq_true ⟨hlo, hhi⟩) _
  refine ⟨_, hexec, ha, ?_⟩
  rw [State.ctx_answer, State.ctx_updCtx]

theorem exec_neighbours {s : State} {rq : Req} (hs : s.Heard rq 6 7) (hn : OnNone rq) (hb : rq.body = []) : ∃ t : State,
    exec (.neighbours rq) s = .next t ∧ Answered t rq.mb 0
      ((List.range 32).flatMap (fun m => match (s.mac m).neighbour with
        | some n => leBytes 2 n.device ++ leBytes 1 n.port ++ leBytes 1 n.mac ++ (leBytes 1 (if (s.mac m).several then 1 else 0) ++ zeros 3)
        | none => leBytes 2 0xFFFF ++ zeros 2 ++ (leBytes 1 (if (s.mac m).several then 1 else 0) ++ zeros 3))) := by
  refine exec_of_shows _ hs rfl fun M => ?_
  rw [State.anyMb_of_onNone hn, State.bodyOf_of (by rw [hb]; rfl) rfl]
  rfl

theorem exec_recalPeriod {s : State} {rq : Req} (hs : s.Heard rq 6 8) (hmb : rq.mb = 0) (hlen : rq.body.length = 4) (hlo : 60 ≤ rq.fld 0 4)
    (hhi : rq.fld 0 4 ≤ 86400) : ∃ t : State, exec (.recalPeriod rq) s = .next t ∧ Answered t 0 0 [] ∧ t.recalPeriodS = rq.fld 0 4 := by
  obtain ⟨M, key, hexec, -, ha⟩ := exec_of_replies (i := .recalPeriod rq) (fun M => { s with mailboxes := M, recalPeriodS := rq.fld 0 4 }) {} hs rfl
    fun M _ => State.adm_bodyOf hmb hlen (decide_eq_true ⟨hlo, hhi⟩) _
  exact ⟨_, hexec, hmb ▸ ha, (State.answer_rel _ _ _ _ _ _).only .recalPeriodS (by decide)⟩

/-! ### Time (R298 to R301, R552) -/

theorem exec_timeStatus {s : State} {rq : Req} (hs : s.Heard rq 8 1) (hn : OnNone rq) (hb : rq.body = []) : ∃ t : State, ∃ role,
    exec (.timeStatus rq) s = .next t ∧ Answered t rq.mb 0
      (leBytes 8 s.clk.tai.ns ++ leBytes 4 s.clk.tai.frac ++ leBytes 1 s.clk.ptpState ++ leBytes 1 role ++ zeros 2 ++
        leBytes 8 (ofSigned 64 s.clk.offsetNs) ++ leBytes 8 s.clk.holdErrNs ++ leBytes 8 s.clk.masterId) := by
  obtain ⟨M, key, hexec, -, ha⟩ := exec_of_replies (i := .timeStatus rq) (fun M => State.draw { s with mailboxes := M })
    { body := leBytes 8 s.clk.tai.ns ++ leBytes 4 s.clk.tai.frac ++ leBytes 1 s.clk.ptpState ++ leBytes 1 (Config.freeValue s.fresh % 256) ++ zeros 2 ++
        leBytes 8 (ofSigned 64 s.clk.offsetNs) ++ leBytes 8 s.clk.holdErrNs ++ leBytes 8 s.clk.masterId } hs rfl fun M _ => by
    rw [State.anyMb_of_onNone hn, State.bodyOf_of (by rw [hb]; rfl) rfl]
    rfl
  exact ⟨_, _, hexec, ha⟩

/-- A time command of the admin mailbox that passes its checks writes the clock and is answered OK. -/
theorem exec_setsClock {s : State} {i : Instr} {rq : Req} {c n : Nat} {ok : Bool} (f : Clock → Clock)
    (hrow : exec i s = .next (s.mailCmd rq 8 c (fun s => s.adm rq (s.bodyOf rq n ok ({ s with clk := f s.clk }, {})))))
    (hs : s.Heard rq 8 c) (hmb : rq.mb = 0) (hlen : rq.body.length = n) (hok : ok = true) :
    ∃ t : State, exec i s = .next t ∧ Answered t 0 0 [] ∧ t.clk = f s.clk := by
  obtain ⟨M, key, hexec, -, ha⟩ := exec_of_replies (fun M => { s with mailboxes := M, clk := f s.clk }) {} hs hrow
    fun M _ => State.adm_bodyOf hmb hlen hok _
  exact ⟨_, hexec, hmb ▸ ha, (State.answer_rel _ _ _ _ _ _).clk (by decide)⟩

/-- The clock after PTP_CONFIG (R299). -/
def Clock.ptpConfig (rq : Req) (c : Clock) : Clock :=
  { c with
    roles := (List.range 8).map (fun i => rq.fld i 1), domain := rq.fld 8 1, priority1 := rq.fld 9 1, priority2 := rq.fld 10 1
    delayMech := rq.fld 11 1, twoStep := rq.fld 12 1, logSync := toSigned 8 (rq.fld 13 1), logDelay := toSigned 8 (rq.fld 14 1) }

theorem exec_ptpConfig {s : State} {rq : Req} (hs : s.Heard rq 8 2) (hmb : rq.mb = 0) (hlen : rq.body.length = 16) (htwo : rq.fld 12 1 ≤ 1)
    (hsync : -7 ≤ toSigned 8 (rq.fld 13 1) ∧ toSigned 8 (rq.fld 13 1) ≤ 0) (hdelay : -7 ≤ toSigned 8 (rq.fld 14 1) ∧ toSigned 8 (rq.fld 14 1) ≤ 0)
    (hresv : rq.fld 15 1 = 0) : ∃ t : State, exec (.ptpConfig rq) s = .next t ∧ Answered t 0 0 [] ∧ t.clk = s.clk.ptpConfig rq :=
  exec_setsClock (Clock.ptpConfig rq) rfl hs hmb hlen (by simp [htwo, hsync, hdelay, hresv])

/-- The clock after PPS (R301, R552). -/
def Clock.pps (rq : Req) (c : Clock) : Clock :=
  { c with
    ppsInSource := rq.fld 0 1 == 1, ppsOutEnabled := rq.fld 1 1 == 1, ppsNextEdgeS := rq.fld 8 8
    clockClass := if rq.fld 0 1 == 1 && c.ppsInPresent then 6 else 248
    ppsOutHighUntil := if rq.fld 1 1 = 1 then c.ppsOutHighUntil else 0 }

theorem exec_pps {s : State} {rq : Req} (hs : s.Heard rq 8 3) (hmb : rq.mb = 0) (hlen : rq.body.length = 16) (hsrc : rq.fld 0 1 ≤ 1)
    (hout : rq.fld 1 1 ≤ 1) (hresv : rq.fld 2 6 = 0) : ∃ t : State, exec (.pps rq) s = .next t ∧ Answered t 0 0 [] ∧ t.clk = s.clk.pps rq :=
  exec_setsClock (Clock.pps rq) rfl hs hmb hlen (by simp [hsrc, hout, hresv])

theorem exec_asymmetry {s : State} {rq : Req} (hs : s.Heard rq 8 4) (hmb : rq.mb = 0) (hlen : rq.body.length = 32) : ∃ t : State,
    exec (.asymmetry rq) s = .next t ∧ Answered t 0 0 [] ∧ t.clk = { s.clk with asym := (List.range 8).map (fun i => toSigned 32 (rq.fld (4 * i) 4)) } :=
  exec_setsClock (fun c => { c with asym := (List.range 8).map (fun i => toSigned 32 (rq.fld (4 * i) 4)) }) rfl hs hmb hlen rfl

/-- Settles O25, row by row: each command passes its channel and its body and writes only what it names; of the ports, a record that is not due leaves the
settings, and the next hop's resolution writes its address alone. -/
theorem portCommandRowsComplete : Obligations.PortCommandRowsComplete := by
  unfold Obligations.PortCommandRowsComplete
  refine ⟨?portSet, ?portUpdown, ?portStatus, ?tables, ?cc, ?neighbours, ?recal, ?status, ?ptp, ?pps, ?asym⟩
  case portSet =>
    intro rq p s hs hmb hlen hp hlt hmode henc hfc hsm heee hresv hvlan hlo hhi hdscp hpfc hdown hdue
    obtain ⟨t, a, hexec, ha, hport⟩ := exec_portSet hs hmb hlen hp (by
      simp only [hlt, hmode, henc, hfc, hsm, heee, hresv, hvlan, hlo, hhi, hdscp, hpfc, decide_true, and_self, Bool.and_self, beq_self_eq_true]) hdown hdue
    refine ⟨t, hexec, ha, ?_⟩
    rw [hport]
    exact ⟨rfl, rfl, rfl, rfl, by rfl, by rfl, rfl, rfl, rfl, rfl, rfl, rfl⟩
  case portUpdown => exact fun rq p s hs hmb hlen hp hlt hresv hop => exec_portUpdown hs hmb hlen hp hlt hresv hop
  case portStatus => exact fun rq s hs hn hb => exec_portStatus hs hn hb
  case tables =>
    intro rq c k z i s hi hs hmb hlen hfit hroom
    simp only [List.mem_cons, Prod.mk.injEq, List.not_mem_nil, or_false] at hi
    rcases hi with ⟨rfl, rfl, rfl, rfl⟩ | ⟨rfl, rfl, rfl, rfl⟩
    · exact exec_tableLoad rfl hs hmb hlen hfit hroom
    · exact exec_tableLoad rfl hs hmb hlen hfit hroom
  case cc =>
    intro rq x s v hv hs hx hlen hok hlo hhi
    subst hv
    exact exec_ccParams hs hx hlen hok hlo hhi
  case neighbours => exact fun rq s hs hn hb => exec_neighbours hs hn hb
  case recal => exact fun rq s hs hmb hlen hlo hhi => exec_recalPeriod hs hmb hlen hlo hhi
  case status => exact fun rq s hs hn hb => exec_timeStatus hs hn hb
  case ptp => exact fun rq s hs hmb hlen htwo h1 h2 h3 h4 hresv => exec_ptpConfig hs hmb hlen htwo ⟨h1, h2⟩ ⟨h3, h4⟩ hresv
  case pps =>
    intro rq s hs hmb hlen hsrc hout hresv
    obtain ⟨t, hexec, ha, hclk⟩ := exec_pps hs hmb hlen hsrc hout hresv
    refine ⟨t, hexec, ha, ?_⟩
    rw [hclk]
    exact ⟨by rfl, by rfl, rfl, fun h0 => if_neg (by omega), rfl⟩
  case asym =>
    intro rq s hs hmb hlen
    obtain ⟨t, hexec, ha, hclk⟩ := exec_asymmetry hs hmb hlen
    exact ⟨t, hexec, ha, by rw [hclk]⟩

end Sys2Proof.Machine

/-! SUPPORT. A MAC of a two-step clock starts a Sync (O11): the frame's stamp puts a Follow_Up with the time in queue 7 of the same MAC (R298, R299), so the queues that the
frame leaves behind are not those of the MAC without it. -/

namespace Sys2Proof.Machine

/-- A Sync message as it waits in queue 7 of MAC 4 (R298, R299). -/
def syncFrame : Frame := { body := .ptp .sync 0, len := 64, wrap := { plainWrap 4 0x011B19000000 0x88F7 with tag := some (7, 0) } }

/-- MAC 4 is up and has a Sync to send; the clock is a two-step one. -/
def syncState : State := { macs := [(4, { up := true, rateMbps := 400000, lanes := 15, queues := [(7, [syncFrame])] })], clk := { twoStep := 1 } }

/-- The state in which the frame is chosen: the MAC is free, and no flow waits for its rate. -/
def syncReady : State := (syncState.toCycle 0).pumpPaced.updMac 4 (fun c => c.accrue (syncState.toCycle 0).pumpPaced.clk.cycle)

theorem syncReady_picks : syncReady.pickQueue 4 = some 7 ∧ (syncReady.mac 4).headOf 7 = some syncFrame ∧
    ((syncReady.mac 4).popHead 7).queues = [(7, [])] :=
  ⟨by decide +kernel, rfl, by decide +kernel⟩

/-- The Follow_Up waits in queue 7 when the Sync has left. -/
theorem syncState_macFrameStart : ∃ t : State, exec (.macFrameStart 4) syncState = .next t ∧ (t.mac 4).queues ≠ [(7, [])] :=
  ⟨_, rfl, by decide +kernel⟩

/-- Refutes O11: the first clause is about every frame that a MAC takes, and says that its queues are then those without the frame; a two-step clock's Sync adds its
Follow_Up to queue 7. -/
theorem not_macTxRowsComplete : ¬ Obligations.MacTxRowsComplete := by
  unfold Obligations.MacTxRowsComplete
  rintro ⟨hstarts, -⟩
  obtain ⟨hpick, hhead, hpop⟩ := syncReady_picks
  obtain ⟨t, g, hexec, -, -, -, -, -, -, hqueues, -⟩ := hstarts 4 7 syncFrame _ syncReady syncState (.inl (by decide +kernel)) rfl (by rfl) hpick hhead
  obtain ⟨u, hu, hleft⟩ := syncState_macFrameStart
  cases hu.symm.trans hexec
  exact hleft (hqueues.trans hpop)

end Sys2Proof.Machine

/-! SUPPORT. A block that is placed while the table of contexts is out of key order (O8): the running instance notes the block before its data is written (R314, R315), which
puts its context ahead of another that has a T0 tile in the same window, so that the data goes to a frame of T1. -/

namespace Sys2Proof.Machine

/-- The block of the peer for instance 0 of record 2, one byte of it, arrives as PSN 100 of flow 300. -/
def blockPkt : Pkt :=
  (sealHdr (hdrOf 0x20 { flags := 192, dstDev := 0, srcDev := 7, dstFlow := 300, psn := 100, payload := [1#8]
                         ext := collExt 2 0 1 2 0xFF 0 0 64 })).p

/-- An all-gather of two members: this module at position 0, device 7 on flow 300. -/
def placeRec : CollRec :=
  { type := 3, op := 0, inFmt := 1, outFmt := 1, queue := 3, saturate := false, p := 2, myPos := 0, window := 0, core := 0, event := 0, epoch := 0, stage := 0
    maxLen := 4096, flagAddr := tsNone, members := [(0, 0), (7, 300)] }

/-- Instance 0 runs, gathers 64-byte blocks at 131,072, in window 2, and waits for one answer. -/
def placeInst : CollInst := { issued := true, slot := 5, src := 65536, dst := 131072, len := 64, unanswered := 1 }

/-- Context 3 stands before context 0, and each has a T0 tile in window 2 of core 0; ACTIVE of context 0 selects bank 1, where that tile is in frame 0 of T1 (R410). -/
def placeState : State :=
  { ctxs := [(3, { tiles := [(7, { valid := true, tier := 0, core := 0, frame := 2 })] }),
             (0, { state := .running, colls := [(2, placeRec)], insts := [(2 * 2 ^ 32, placeInst)]
                   tiles := [(0, { valid := true, tier := 0, core := 0, frame := 2 })], bank1 := [(0, { valid := true, tier := 1, frame := 0 })]
                   weights := { regions := [(0, 1)], active := 1 } })]
    flows := [(300, { state := .open_, peer := 7, peerFlow := 400, paths := [{ port := 0 }], expected := 100, exec := 100 })] }

theorem placeState_arrives : placeState.Arrives 0x20 blockPkt := by
  constructor <;> decide +kernel

/-- The block opens its message, passes the checks of a COLLECTIVE, and is for the running instance. -/
theorem placeState_checks : pktFirst blockPkt = true ∧ placeState.collStatus blockPkt.dstFlow blockPkt = 0 ∧ (collHdr blockPkt.ext).kind = 2 ∧
    (placeState.ctx 0).inst (collHdr blockPkt.ext).coll (collHdr blockPkt.ext).inst = some placeInst ∧
    (placeState.ctx 0).colls.find (collHdr blockPkt.ext).coll = some placeRec := by
  decide +kernel

/-- The byte lands in frame 0 of T1, at offset 64: the block of position 1. -/
theorem placeState_collective : ∃ t : State, exec (.collective 0 blockPkt) placeState = .next t ∧ Memory.get t.mem (2 ^ 40 + 64) = 1#8 :=
  ⟨_, rfl, by decide +kernel⟩

/-- Refutes O8: with the contexts out of key order the byte of a placed block goes to T1 where the statement's write goes to the tile store. The statement is about every
state and names no order of the table, whose order decides which T0 tile a window holds. -/
theorem not_receiveRowsComplete : ¬ Obligations.ReceiveRowsComplete := by
  unfold Obligations.ReceiveRowsComplete
  rintro ⟨-, -, -, hblocks, -⟩
  obtain ⟨hfirst, hstatus, hkind, hinst, hrec⟩ := placeState_checks
  obtain ⟨t, hexec, -, -, hplaced, -⟩ := hblocks 0 blockPkt placeState 0 _ placeState_arrives hfirst hstatus (by decide +kernel) rfl
  have hmem := hplaced placeInst placeRec (.inr hkind) hinst hrec rfl (by decide)
  obtain ⟨u, hu, hstored⟩ := placeState_collective
  cases hu.symm.trans hexec
  rw [hmem] at hstored
  exact absurd hstored (by decide +kernel)

end Sys2Proof.Machine

/-! SUPPORT. Acknowledgements and the timers of a flow (O10). What the send direction of a flow keeps while packets enter transmit queues; what a failed flow's end leaves
to wait for the request tracker (R258). -/

namespace Sys2Proof.Machine

/-! ### The send direction of a flow (R259, R263, R293) -/

/-- A packet of the send direction without the mark that a copy of it waits in a transmit queue. -/
def TxPkt.unqueued (t : TxPkt) : TxPkt := { t with queued := false }

/-- b is a with packets moved to transmit queues: the marks of those packets, the paths' turns and the time of the next packet are all that differs. -/
def Pumped (a b : Flow) : Prop := ∃ ps at_ l, b = { a with paths := ps, sendAt := at_, tx := l } ∧ l.map TxPkt.unqueued = a.tx.map TxPkt.unqueued

theorem Pumped.refl (a : Flow) : Pumped a a := ⟨a.paths, a.sendAt, a.tx, rfl, rfl⟩

theorem Pumped.trans {a b c : Flow} (h : Pumped a b) (g : Pumped b c) : Pumped a c := by
  obtain ⟨ps, n, l, rfl, hl⟩ := h
  obtain ⟨qs, m, k, rfl, hk⟩ := g
  exact ⟨qs, m, k, rfl, hk.trans hl⟩

section
variable {a b : Flow} (h : Pumped a b)
include h

theorem Pumped.una : b.una = a.una := by obtain ⟨_, _, _, rfl, _⟩ := h; rfl
theorem Pumped.closing : b.closing = a.closing := by obtain ⟨_, _, _, rfl, _⟩ := h; rfl

theorem Pumped.psns : b.tx.map (fun e => e.psn) = a.tx.map (fun e => e.psn) := by
  obtain ⟨_, _, l, rfl, hl⟩ := h
  have hpsn := congrArg (List.map TxPkt.psn) hl
  rwa [List.map_map, List.map_map] at hpsn

/-- A packet of the one is a packet of the other but for its mark. -/
theorem Pumped.mem {e : TxPkt} (he : e ∈ a.tx) : ∃ e' ∈ b.tx, e'.unqueued = e.unqueued := by
  obtain ⟨_, _, l, rfl, hl⟩ := h
  have hmem : e.unqueued ∈ l.map TxPkt.unqueued := hl ▸ List.mem_map_of_mem he
  obtain ⟨e', he', heq⟩ := List.mem_map.mp hmem
  exact ⟨e', he', heq⟩

end

/-- The packets of one PSN get the mark. -/
theorem Flow.pumped_queue (a : Flow) (ps : List PathSt) (at_ : Rat) (n : Nat) :
    Pumped a { a with paths := ps, sendAt := at_, tx := a.tx.map (fun (u : TxPkt) => if u.psn = n then { u with queued := true } else u) } := by
  refine ⟨_, _, _, rfl, ?_⟩
  rw [List.map_map]
  refine List.map_congr_left fun u _ => ?_
  simp only [Function.comp]
  split <;> rfl

theorem State.flow_enqueue (s : State) (m q : Nat) (fr : Frame) (f : Nat) : (s.enqueue m q fr).flow f = s.flow f :=
  State.flow_congr ((State.enqueue_rel s m q fr).flows (by decide)) f

theorem State.flow_count (s : State) (x i k f : Nat) : (s.count x i k).flow f = s.flow f := State.flow_congr ((State.count_rel s x i k).flows (by decide)) f

theorem State.pumped_pumpN (s : State) (f n : Nat) : Pumped (s.flow f) ((s.pumpN f n).flow f) := by
  induction n generalizing s with
  | zero => exact .refl _
  | succ n ih =>
    unfold State.pumpN
    extract_lets fl
    split
    · exact .refl _
    · split
      · exact .refl _
      · split
        · exact .refl _
        · split
          · exact .refl _
          · refine Pumped.trans ?_ (ih _)
            rw [State.flow_enqueue, State.flow_setFlow]
            exact Flow.pumped_queue _ _ _ _

theorem State.pumped_pump (s : State) (f : Nat) : Pumped (s.flow f) ((s.pump f).flow f) := s.pumped_pumpN f 257

theorem State.pumped_resend (s : State) (f psn : Nat) : Pumped (s.flow f) ((s.resend f psn).flow f) := by
  unfold State.resend
  extract_lets fl
  split
  · exact .refl _
  · extract_lets ready
    split
    · exact .refl _
    · split
      · exact .refl _
      · rw [State.flow_count, State.flow_enqueue, State.flow_setFlow]
        exact Flow.pumped_queue _ _ _ _

theorem State.pumped_resends (l : List TxPkt) (f : Nat) (s : State) : Pumped (s.flow f) ((l.foldl (fun s t => s.resend f t.psn) s).flow f) := by
  induction l generalizing s with
  | nil => exact .refl _
  | cons t l ih => exact (s.pumped_resend f t.psn).trans (ih _)

theorem State.pumpN_flow_ne (s : State) {f g : Nat} (n : Nat) (h : g ≠ f) : (s.pumpN f n).flow g = s.flow g := by
  induction n generalizing s with
  | zero => rfl
  | succ n ih =>
    unfold State.pumpN
    extract_lets fl
    split
    · rfl
    · split
      · rfl
      · split
        · rfl
        · split
          · rfl
          · rw [ih, State.flow_enqueue, State.flow_setFlow_ne _ _ h]

/-- b is a but for its send direction: the packets, their next PSN, the paths and the times that go with them. -/
def SameButSent (a b : Flow) : Prop := ∃ ps at_ l n t, b = { a with paths := ps, sendAt := at_, tx := l, nextPsn := n, progressNs := t }

theorem SameButSent.refl (a : Flow) : SameButSent a a := ⟨a.paths, a.sendAt, a.tx, a.nextPsn, a.progressNs, rfl⟩

theorem SameButSent.trans {a b c : Flow} (h : SameButSent a b) (g : SameButSent b c) : SameButSent a c := by
  obtain ⟨ps, at_, l, n, t, rfl⟩ := h
  obtain ⟨qs, bt, k, m, u, rfl⟩ := g
  exact ⟨qs, bt, k, m, u, rfl⟩

theorem Pumped.sameButSent {a b : Flow} (h : Pumped a b) : SameButSent a b := by
  obtain ⟨ps, at_, l, rfl, -⟩ := h
  exact ⟨ps, at_, l, _, _, rfl⟩

theorem SameButSent.state {a b : Flow} (h : SameButSent a b) : b.state = a.state := by obtain ⟨_, _, _, _, _, rfl⟩ := h; rfl
theorem SameButSent.lost {a b : Flow} (h : SameButSent a b) : b.lost = a.lost := by obtain ⟨_, _, _, _, _, rfl⟩ := h; rfl
theorem SameButSent.sameRx {a b : Flow} (h : SameButSent a b) : SameRx a b := by
  obtain ⟨_, _, _, _, _, rfl⟩ := h
  exact ⟨rfl, rfl, rfl, rfl, rfl, rfl, rfl, rfl, rfl, rfl⟩

/-- From s to t flows have sent, and what they receive and what they are is the same. -/
def FlowsSent (s t : State) : Prop := ∀ g, SameButSent (s.flow g) (t.flow g)

theorem FlowsSent.of_rel {l : List Fld} {s t : State} (h : Rel l s t) (hl : Fld.flows ∉ l) : FlowsSent s t := fun g => by
  rw [State.flow_congr (h.flows hl)]
  exact .refl _

theorem FlowsSent.trans {s t u : State} (h : FlowsSent s t) (g : FlowsSent t u) : FlowsSent s u := fun f => (h f).trans (g f)

theorem FlowsSent.foldl {α : Type} {f : State → α → State} (hf : ∀ s a, FlowsSent s (f s a)) (l : List α) (s : State) : FlowsSent s (l.foldl f s) := by
  induction l generalizing s with
  | nil => exact fun _ => .refl _
  | cons a l ih => exact (hf s a).trans (ih _)

theorem State.flowsSent_sendMsg (s : State) (f op : Nat) (parts : List (List Byte × List Byte)) : FlowsSent s (s.sendMsg f op parts) := fun g => by
  unfold State.sendMsg
  extract_lets fl n pk idle
  by_cases hg : g = f
  · rw [hg]
    refine SameButSent.trans ?_ (State.pumped_pump _ f).sameButSent
    rw [State.flow_setFlow]
    exact ⟨_, _, _, _, _, rfl⟩
  · rw [State.pump, State.pumpN_flow_ne _ _ hg, State.flow_setFlow_ne _ _ hg]
    exact .refl _

theorem State.flowsSent_putBlock (s : State) (x coll inst : Nat) (r : CollRec) (i : CollInst) (dst kind : Nat) (data : List Byte) :
    FlowsSent s (s.putBlock x coll inst r i dst kind data) := by
  unfold State.putBlock
  split
  · exact fun _ => .refl _
  · extract_lets f used tracked fmt
    have hused : FlowsSent s used := .of_rel (State.flowUse_rel _ _) (by decide)
    have htracked : FlowsSent used tracked := .of_rel (State.track_rel _ _) (by decide)
    exact (hused.trans htracked).trans (State.flowsSent_sendMsg _ _ _ _)

theorem State.flowsSent_sendStripe (s : State) (x gen : Nat) (p : StripeSend) : FlowsSent s (s.sendStripe x gen p) := by
  unfold State.sendStripe
  extract_lets fl
  split
  · exact fun _ => .refl _
  · split
    · exact .of_rel (State.updSec_rel _ _ _) (by decide)
    · have hused : FlowsSent s (s.flowUse p.flow) := .of_rel (State.flowUse_rel _ _) (by decide)
      refine FlowsSent.trans ?_ (.of_rel (State.updCtx_rel _ _ _) (by decide))
      refine FlowsSent.trans ?_ (State.flowsSent_sendMsg _ _ _ _)
      exact hused.trans (.of_rel (State.track_rel _ _) (by decide))

/-- What waits for the tracker of a context is sent on its flows, and changes no more of them (R258). -/
theorem State.flowsSent_sendDue (s : State) (x : Nat) : FlowsSent s (s.sendDue x) := by
  unfold State.sendDue
  extract_lets blocks due
  have hblocks : FlowsSent s blocks := by
    refine FlowsSent.foldl (fun u e => ?_) _ s
    extract_lets coll inst
    split
    · split
      · exact (FlowsSent.of_rel (State.updInst_rel _ _ _ _ _) (by decide)).trans (State.flowsSent_putBlock _ _ _ _ _ _ _ _ _)
      · exact fun _ => .refl _
    · exact fun _ => .refl _
  have hcleared : FlowsSent blocks (blocks.updSec x (fun c => { c with stripes := [] })) := .of_rel (State.updSec_rel _ _ _) (by decide)
  exact (hblocks.trans hcleared).trans (.foldl (fun u e => u.flowsSent_sendStripe _ _ _) _ _)

/-! ### Nothing waits for the request tracker (R258) -/

/-- Where nothing of a context waited for the tracker in s, nothing does in t. -/
def StaysIdle (s t : State) : Prop := ∀ x, s.NoneDue x → t.NoneDue x

theorem StaysIdle.trans {s t u : State} (h : StaysIdle s t) (g : StaysIdle t u) : StaysIdle s u := fun x hx => g x (h x hx)

/-- No instance is new, and the parity shares that wait are the same. -/
theorem StaysIdle.of_ctx {s t : State} (h : ∀ x, (∀ e ∈ (t.ctx x).insts, e ∈ (s.ctx x).insts) ∧ (t.ctx x).sec = (s.ctx x).sec) : StaysIdle s t := fun x hx =>
  ⟨fun e he => hx.1 e ((h x).1 e he), by rw [(h x).2, hx.2]⟩

theorem StaysIdle.of_rel {l : List Fld} {s t : State} (h : Rel l s t) (hl : Fld.ctxs ∉ l) : StaysIdle s t :=
  .of_ctx fun x => by
    rw [State.ctx_congr (h.ctxs hl)]
    exact ⟨fun e he => he, rfl⟩

theorem StaysIdle.of_tables {s t : State} (h : SameTables s t) : StaysIdle s t := .of_ctx fun x => by
  obtain ⟨m, n, ht⟩ := h x
  rw [ht]
  exact ⟨fun e he => he, rfl⟩

theorem StaysIdle.foldl {α : Type} {f : State → α → State} (hf : ∀ s a, StaysIdle s (f s a)) (l : List α) (s : State) : StaysIdle s (l.foldl f s) := by
  induction l generalizing s with
  | nil => exact fun _ h => h
  | cons a l ih => exact (hf s a).trans (ih _)

theorem State.sameTables_complete (s : State) (c r id st fl : Nat) : SameTables s (s.complete c r id st fl) := fun x => by
  obtain ⟨m, hm⟩ := (s.completeIf_steady c r (fun d => d.id = id) st fl).2 x
  exact ⟨m, (s.ctx x).logOverflow, hm⟩

theorem State.staysIdle_closeInst (s : State) (x coll inst : Nat) : StaysIdle s (s.closeInst x coll inst) := .of_ctx fun y => by
  unfold State.closeInst
  by_cases hy : y = x
  · rw [hy, State.ctx_updCtx]
    exact ⟨fun e he => (List.mem_filter.mp he).1, rfl⟩
  · rw [State.ctx_updCtx_ne _ _ hy]
    exact ⟨fun e he => he, rfl⟩

theorem State.staysIdle_failInst (s : State) (x coll inst : Nat) : StaysIdle s (s.failInst x coll inst) := by
  unfold State.failInst
  split
  · exact fun _ h => h
  · split
    · exact (s.staysIdle_closeInst x coll inst).trans (.of_tables (State.sameTables_complete _ _ _ _ _ _))
    · exact fun _ h => h

/-- With nothing waiting for the tracker, nothing is sent (R258). -/
theorem State.sendDue_of_noneDue {s : State} {x : Nat} (h : s.NoneDue x) : s.sendDue x = s.updSec x (fun c => { c with stripes := [] }) := by
  obtain ⟨hdue, hstripes⟩ := h
  have hnone : (s.ctx x).insts.flatMap (fun e => e.2.due.map (fun d => (e.1, d))) = [] := by
    rw [List.flatMap_eq_nil_iff]
    exact fun e he => by rw [hdue e he, List.map_nil]
  unfold State.sendDue
  rw [hnone]
  show (s.ctx x).sec.stripes.foldl _ _ = _
  rw [hstripes]
  rfl

/-! ### ACK (R245, R263, R264) -/

theorem Flow.una_sample (fl : Flow) (now smp : Nat) : (fl.sample now smp).una = fl.una := by
  unfold Flow.sample
  extract_lets r g
  unfold g
  split <;> rfl

theorem Flow.closing_sample (fl : Flow) (now smp : Nat) : (fl.sample now smp).closing = fl.closing := by
  unfold Flow.sample
  extract_lets r g
  unfold g
  split <;> rfl

theorem Flow.tx_sample (fl : Flow) (now smp : Nat) : (fl.sample now smp).tx = fl.tx := by
  unfold Flow.sample
  extract_lets r g
  unfold g
  split <;> rfl

theorem map_psn_acked (shown : TxPkt → Bool) (l : List TxPkt) :
    (l.map (fun (t : TxPkt) => if shown t then { t with acked := true } else t)).map (fun e => e.psn) = l.map (fun e => e.psn) := by
  rw [List.map_map]
  refine List.map_congr_left fun t _ => ?_
  simp only [Function.comp]
  split <;> rfl

theorem State.closeIfDone_of_not_closing {s : State} {f : Nat} (h : (s.flow f).closing = false) : s.closeIfDone f = s := by
  unfold State.closeIfDone
  simp [h]

theorem exec_ackPkt {s : State} {p : Pkt} {fl : Flow} (mac : Nat) (hfl : fl = s.flow p.dstFlow) (hcrc : p.hcrc = hcrcOf (hdrOf 0xC0 p))
    (hhdr : hdrOk (hdrOf 0xC0 p) = true) (hext : extOk 0xC0 p.ext = true) (hdst : p.dstDev = s.deviceId) (hsrc : fl.accepts p.srcDev = true)
    (hclosing : fl.closing = false) : ∃ t : State, exec (.ackPkt mac p) s = .next t ∧
      (t.flow p.dstFlow).una = (if fl.ackInside (be p.ext 0 4) = true then be p.ext 0 4 else fl.una) ∧
      (t.flow p.dstFlow).tx.map (fun e => e.psn) = (fl.tx.filter (fun e => !fl.ackedBy (be p.ext 0 4) e)).map (fun e => e.psn) := by
  subst hfl
  show ∃ t : State, execAckPkt mac p s = .next t ∧ _
  unfold execAckPkt
  extract_lets h f fl len heard cum inside shown lost moved updated sampled stands
  have hdev : heard.deviceId = s.deviceId := ((State.occupy_rel _ _ _ _).deviceId (by decide)).trans ((State.countRx_rel _ _ _ _).deviceId (by decide))
  rw [if_neg (not_not.mpr hcrc), if_neg (by simp [h, hhdr, hext]), if_neg (by simp [hdev, hdst, fl, f, hsrc])]
  have hpumped : Pumped sampled (((lost.foldl (fun s t => s.resend f t.psn) stands).pump f).flow f) := by
    have hstands : stands.flow f = sampled := by rw [State.flow_count, State.flow_setFlow]
    rw [← hstands]
    exact (State.pumped_resends _ _ _).trans (State.pumped_pump _ _)
  have hopen : (((lost.foldl (fun s t => s.resend f t.psn) stands).pump f).flow f).closing = false := by
    rw [hpumped.closing, Flow.closing_sample]
    exact hclosing
  refine ⟨_, rfl, ?_, ?_⟩
  · rw [State.closeIfDone_of_not_closing hopen, hpumped.una, Flow.una_sample]
  · rw [State.closeIfDone_of_not_closing hopen, hpumped.psns, Flow.tx_sample]
    exact map_psn_acked shown _

/-! ### The timers (R262, R264, R265, R268) -/

theorem State.flow_toTai (s : State) (n f : Nat) : (s.toTai n).flow f = s.flow f := State.flow_congr ((State.toTai_rel s n).flows (by decide)) f

theorem exec_ackTimer {s : State} {f a : Nat} (h : (s.flow f).firstUnackedNs = some a) : ∃ t : State, exec (.ackTimer f) s = .next t ∧
    t.clk = (s.toTai (a + 2000)).clk ∧ (t.flow f).firstUnackedNs = none ∧ (t.flow f).pktsSinceAck = 0 := by
  have hexec : exec (.ackTimer f) s = .next ((s.toTai (a + 2000)).sendAck f) := by
    show execAckTimer f s = _
    rw [execAckTimer, h]
  obtain ⟨-, -, hfirst, hsince, -⟩ := State.sendAck_flow (s.toTai (a + 2000)) f
  exact ⟨_, hexec, (State.sendAck_rel _ _).clk (by decide), hfirst, hsince⟩

theorem exec_retransmitTimeout {s : State} {f n a : Nat} {e : TxPkt} (hfind : (s.flow f).tx.find? (fun t => t.psn = n && !t.acked && !t.queued) = some e)
    (hsent : e.sentAt = some a) : ∃ t : State, exec (.retransmitTimeout f n) s = .next t ∧ (s.timerStops (s.flow f) e = true → t = s) ∧
      (s.timerStops (s.flow f) e = false →
        t.clk = (s.toTai (a + (s.flow f).rto e.expiries)).clk ∧ ∃ e' ∈ (t.flow f).tx, e'.psn = n ∧ e'.expiries = e.expiries + 1) := by
  have hpsn : e.psn = n := by
    have hp := List.find?_some hfind
    simp only [Bool.and_eq_true, decide_eq_true_eq] at hp
    exact hp.1.1
  show ∃ t : State, execRetransmitTimeout f n s = .next t ∧ _
  unfold execRetransmitTimeout
  extract_lets fl
  rw [hfind]
  dsimp only
  rw [hsent]
  dsimp only
  cases hstops : s.timerStops fl e with
  | true => exact ⟨s, if_pos rfl, fun _ => rfl, fun h => absurd h (by simp)⟩
  | false =>
    refine ⟨_, if_neg (by simp), fun h => absurd h (by simp), fun _ => ⟨?_, ?_⟩⟩
    · exact ((State.resend_rel _ _ _).clk (by decide)).trans ((State.setFlow_rel _ _ _).clk (by decide))
    · have hin : { e with expiries := e.expiries + 1 } ∈ (State.flow (State.setFlow (s.toTai (a + fl.rto e.expiries)) f { fl with
          tx := fl.tx.map (fun u => if u.psn = n then { u with expiries := u.expiries + 1 } else u) }) f).tx := by
        rw [State.flow_setFlow]
        exact List.mem_map.mpr ⟨e, List.mem_of_find?_eq_some hfind, if_pos hpsn⟩
      obtain ⟨e', hmem, heq⟩ := (State.pumped_resend _ f n).mem hin
      exact ⟨e', hmem, (congrArg TxPkt.psn heq).trans hpsn, congrArg TxPkt.expiries heq⟩

theorem exec_ccInterval {s : State} {f : Nat} (h : (s.flow f).state = .open_ ∨ (s.flow f).state = .draining) : ∃ t : State,
    exec (.ccInterval f) s = .next t ∧ t.clk = (s.toTai ((s.flow f).intStartNs + (max 10000 ((s.flow f).srtt.getD 0)).ceil.toNat)).clk ∧
      t.flow f = (s.flow f).interval (s.ctx (s.flow f).ctx).cc t.clk.tai.ns := by
  have hgo : ¬ ¬ ((s.flow f).state == FlowState.open_ || (s.flow f).state == FlowState.draining) = true := by
    rcases h with h | h <;> simp [h]
  refine ⟨_, if_neg hgo, rfl, ?_⟩
  rw [State.flow_setFlow, State.ctx_congr ((State.toTai_rel _ _).ctxs (by decide))]
  rfl

/-! ### A flow fails (R250, R265, R324) -/

/-- The instances that a failed flow ends, and the operations, leave the flows and the tracker. -/
theorem State.failFlow_ends {s : State} {f : Nat} (h : (s.flow f).state ≠ .failed ∧ (s.flow f).state ≠ .closed) :
    ∃ u : State, s.failFlow f = (u.sendDue (s.flow f).ctx).loseT3 0x08 (fun _ _ e => e.lender = (s.flow f).peer && !e.lost) ∧
      u.flows = (s.setFlow f { s.flow f with state := .failed, tx := [], held := [], msgs := [] }).flows ∧ u.trk = s.trk.filter (fun e => e.2.flow != f) ∧ StaysIdle s u := by
  have hgo : ¬ ((s.flow f).state == FlowState.failed || (s.flow f).state == FlowState.closed) = true := by
    simpa using h
  unfold State.failFlow
  extract_lets fl marked told mine freed ended hit gone
  rw [if_neg hgo]
  have hmarked : StaysIdle s marked := .of_rel (State.setFlow_rel _ _ _) (by decide)
  have htold : Rel [.out, .ctxs, .mailboxes, .log, .logNext, .logOverflow] marked told := State.event_rel _ _ _ _ _
  have hended : Rel [.cores, .ctxs] freed ended := by
    refine Rel.foldl (fun u e => ?_) (Rel.refl _ _)
    split
    · exact State.complete_rel _ _ _ _ _ _
    · exact State.complete_rel _ _ _ _ _ _
    · exact State.complete_rel _ _ _ _ _ _
    · exact State.failInst_rel _ _ _ _
    · exact Rel.refl _ _
  have hendedIdle : StaysIdle freed ended := by
    refine StaysIdle.foldl (fun u e => ?_) _ _
    split
    · exact .of_tables (State.sameTables_complete _ _ _ _ _ _)
    · exact .of_tables (State.sameTables_complete _ _ _ _ _ _)
    · exact .of_tables (State.sameTables_complete _ _ _ _ _ _)
    · exact State.staysIdle_failInst _ _ _ _
    · exact fun _ h => h
  have hgone : Rel [.cores, .ctxs] ended gone := Rel.foldl (fun u i => State.failInst_rel _ _ _ _) (Rel.refl _ _)
  refine ⟨gone, rfl, ?_, ?_, ?_⟩
  · rw [hgone.flows (by decide), hended.flows (by decide)]
    exact htold.flows (by decide)
  · rw [hgone.trk (by decide), hended.trk (by decide)]
    show told.trk.filter _ = _
    rw [htold.trk (by decide)]
    rfl
  · have hfreed : StaysIdle s freed := (hmarked.trans (.of_tables (State.sameTables_event _ _ _ _ _))).trans (.of_rel Rel.set_trk (by decide))
    exact (hfreed.trans hendedIdle).trans (.foldl (fun u i => State.staysIdle_failInst _ _ _ _) _ _)

/-- Past the mark, a flow that fails leaves every flow but for what waits for the tracker and is sent on it (R258). -/
theorem State.flowsSent_failFlow {s : State} {f : Nat} (h : (s.flow f).state ≠ .failed ∧ (s.flow f).state ≠ .closed) :
    FlowsSent (s.setFlow f { s.flow f with state := .failed, tx := [], held := [], msgs := [] }) (s.failFlow f) := fun g => by
  obtain ⟨u, heq, hflows, -, -⟩ := State.failFlow_ends h
  rw [heq, State.flow_congr ((State.loseT3_rel _ _ _).flows (by decide)), ← State.flow_congr hflows g]
  exact State.flowsSent_sendDue u _ g

theorem State.failFlow_fails {s : State} {f : Nat} (h : (s.flow f).state ≠ .failed ∧ (s.flow f).state ≠ .closed) :
    ((s.failFlow f).flow f).state = .failed ∧
      (s.NoneDue (s.flow f).ctx → ((s.failFlow f).flow f).tx = [] ∧ ∀ e ∈ (s.failFlow f).trk, e.2.flow ≠ f) := by
  refine ⟨(State.flowsSent_failFlow h f).state.trans (by rw [State.flow_setFlow]), fun hnone => ?_⟩
  obtain ⟨u, heq, hflows, htrk, hidle⟩ := State.failFlow_ends h
  have hlost := State.loseT3_rel (u.sendDue (s.flow f).ctx) 0x08 (fun _ _ e => e.lender = (s.flow f).peer && !e.lost)
  have hdue := State.sendDue_of_noneDue (hidle _ hnone)
  rw [heq, State.flow_congr (hlost.flows (by decide)), hlost.trk (by decide), hdue]
  refine ⟨?_, fun e he => ?_⟩
  · show (u.flow f).tx = []
    rw [State.flow_congr hflows, State.flow_setFlow]
  · have hmem : e ∈ s.trk.filter (fun e => e.2.flow != f) := htrk ▸ he
    simpa using (List.mem_filter.mp hmem).2

theorem exec_flowProgressTimeout {s : State} {f : Nat} (htx : (s.flow f).tx ≠ []) (h : (s.flow f).state = .open_ ∨ (s.flow f).state = .draining)
    (hlimit : (s.flow f).tx.any (fun e => decide (16 ≤ e.expiries)) = true ∨ (s.flow f).tx.any (s.timerStops (s.flow f)) = false) :
    ∃ t : State, exec (.flowProgressTimeout f) s = .next t ∧ (t.flow f).state = .failed ∧
      (s.NoneDue (s.flow f).ctx → (t.flow f).tx = [] ∧ ∀ e ∈ t.trk, e.2.flow ≠ f) := by
  have hgo : ¬ ((s.flow f).tx.isEmpty = true ∨ ¬ ((s.flow f).state == FlowState.open_ || (s.flow f).state == FlowState.draining) = true) := by
    rcases h with h | h <;> simp [h, htx]
  have hlive : (s.flow f).state ≠ .failed ∧ (s.flow f).state ≠ .closed := by
    rcases h with h | h <;> simp [h]
  show ∃ t : State, execFlowProgressTimeout f s = .next t ∧ _
  unfold execFlowProgressTimeout
  extract_lets fl
  rw [if_neg hgo]
  cases hexp : fl.tx.any (fun e => decide (16 ≤ e.expiries)) with
  | true =>
    rw [if_pos rfl]
    exact ⟨_, rfl, State.failFlow_fails hlive⟩
  | false =>
    have hrun : fl.tx.any (s.timerStops fl) = false := hlimit.resolve_left (by simpa [fl] using hexp)
    rw [if_neg (by simp), hrun, if_neg (by simp)]
    have hflow := s.flow_toTai (fl.progressNs + (s.ctx fl.ctx).cc.tFailMs * 1000000) f
    have hfails := State.failFlow_fails (s := s.toTai (fl.progressNs + (s.ctx fl.ctx).cc.tFailMs * 1000000)) (f := f) (by rw [hflow]; exact hlive)
    rw [hflow] at hfails
    obtain ⟨hfailed, hempty⟩ := hfails
    exact ⟨_, rfl, hfailed, fun hnone => hempty ((StaysIdle.of_rel (State.toTai_rel _ _) (by decide)) _ hnone)⟩

/-- Settles O10, row by row: what an ACK leaves to be sent is pumped and sent again, which keeps the PSNs; a failed flow takes its entries out of the tracker, and with
nothing of its context waiting for the tracker none takes their place. -/
theorem flowTimerRowsComplete : Obligations.FlowTimerRowsComplete := by
  unfold Obligations.FlowTimerRowsComplete
  refine ⟨?ack, ?ackTimer, ?retransmit, ?progress, ?cc⟩
  case ack => exact fun mac p s fl hfl hcrc hhdr hext hdst hsrc hclosing => exec_ackPkt mac hfl hcrc hhdr hext hdst hsrc hclosing
  case ackTimer => exact fun f a s h => exec_ackTimer h
  case retransmit => exact fun f n e a s hfind hsent => exec_retransmitTimeout hfind hsent
  case progress => exact fun f s htx h hlimit => exec_flowProgressTimeout htx h hlimit
  case cc => exact fun f s h => exec_ccInterval h

end Sys2Proof.Machine
/-! SUPPORT. A response that arrives in order (O9): the end of its request, what a write into the tile store depends on, and what waits for the request tracker. -/

namespace Sys2Proof.Machine

/-! ### A packet that takes effect at once (R256, R261) -/

/-- The tiles that stall a packet's write are read from the contexts and the tracker. -/
theorem State.stallTiles_congr {s u : State} {f : Nat} (hx : (u.flow f).ctx = (s.flow f).ctx) (hctxs : u.ctxs = s.ctxs) (htrk : u.trk = s.trk) (h : HeldPkt) :
    u.stallTiles f h = s.stallTiles f h := by
  simp only [State.stallTiles, hx, State.ctx, hctxs, State.findTrk, htrk, State.effT0, State.t0Tile]

theorem State.rxStep_ready {s u : State} {op : Nat} {p : Pkt} (ha : s.Arrives op p) (hu : Ready s u op p) :
    u.rxStep p.dstFlow = some (u.takeFirst p.dstFlow { psn := p.psn, op := op, p := p }) := by
  obtain ⟨now, hf⟩ := hu.flow
  obtain ⟨-, -, hheld, hmsgs, hexec, hctx, -⟩ := Flow.accept_spec (s.flow p.dstFlow) op p now ha.got ha.held ha.psn
  have hstall : u.stallTiles p.dstFlow { psn := p.psn, op := op, p := p } = [] := by
    rw [State.stallTiles_congr (by rw [hf, hctx]) (hu.keeps.ctxs (by decide)) (hu.keeps.trk (by decide)), ha.stall]
  unfold State.rxStep
  simp only [hf, hmsgs, ha.msgs, hheld, hexec, ← ha.turn]
  simp [hstall]

/-- Nothing more takes effect on a flow that holds nothing. -/
theorem State.rxStep_of_held {s : State} {f : Nat} (h : (s.flow f).held = []) : s.rxStep f = none := by
  unfold State.rxStep
  simp only [h]
  split <;> rfl

/-- A packet that leaves nothing held runs alone, be its message complete or not. -/
theorem State.rxRun_alone {s u : State} {op : Nat} {p : Pkt} (ha : s.Arrives op p) (hu : Ready s u op p)
    (hheld : ((u.takeFirst p.dstFlow { psn := p.psn, op := op, p := p }).flow p.dstFlow).held = []) :
    u.rxRun p.dstFlow = (u.takeFirst p.dstFlow { psn := p.psn, op := op, p := p }).rush
      ((u.takeFirst p.dstFlow { psn := p.psn, op := op, p := p }).flow p.dstFlow).ctx [] := by
  obtain ⟨now, hf⟩ := hu.flow
  obtain ⟨-, -, hone, -⟩ := Flow.accept_spec (s.flow p.dstFlow) op p now ha.got ha.held ha.psn
  have hlen : (u.flow p.dstFlow).held.length + 1 = 2 := by rw [hf, hone]; rfl
  rw [State.rxRun, hlen, State.rxRunN, State.rxStep_ready ha hu]
  dsimp only
  rw [State.rxRunN, State.rxStep_of_held hheld]
  simp only [hheld, List.flatMap_nil]

/-- A packet that arrives passes the checks of R242 and R249 and comes to its flow. -/
theorem State.rxData_passes {s : State} {op : Nat} {p : Pkt} (mac : Nat) (ha : s.Arrives op p) :
    ∃ s1, Rel [.out, .fresh, .macs, .counters] s s1 ∧ s.rxData mac op p noEcc = (s1.rxSeq p.dstFlow op p).flowUse p.dstFlow := by
  unfold State.rxData
  extract_lets h fl q len heard
  have hheard : Rel [.out, .fresh, .macs, .counters] s heard := ((State.countRx_rel s _ _ _).mono (by decide)).trans (State.occupy_rel _ _ _ _)
  have hbound : ¬ (p.dstDev ≠ heard.deviceId ∨ ¬ fl.accepts p.srcDev = true ∨ heard.life.debug = 2 ∧ opClass op = some 0) := by
    rw [hheard.deviceId (by decide), hheard.life (by decide)]
    rintro (hd | hs | ⟨hd, ho⟩)
    · exact hd ha.dst
    · exact hs ha.src
    · exact ha.debug ho hd
  refine ⟨heard, hheard, ?_⟩
  rw [if_neg (not_not.mpr ha.hcrc), if_neg (by simp [h, ha.hdr, ha.ext]), if_neg hbound]
  rfl

/-- A packet that arrives in order takes effect on a state that is ready for it; when it leaves nothing held, what follows leaves its effect alone (R242, R256, R262). -/
theorem State.rxData_takes {s : State} {op : Nat} {p : Pkt} (mac : Nat) (ha : s.Arrives op p) :
    ∃ u, Ready s u op p ∧ (((u.takeFirst p.dstFlow { psn := p.psn, op := op, p := p }).flow p.dstFlow).held = [] →
      After (u.takeFirst p.dstFlow { psn := p.psn, op := op, p := p }) (s.rxData mac op p noEcc) p.dstFlow) := by
  obtain ⟨heard, hheard, hrx⟩ := State.rxData_passes mac ha
  have hflow : ∀ g, heard.flow g = s.flow g := State.flow_congr (hheard.flows (by decide))
  let u : State := heard.setFlow p.dstFlow ((s.flow p.dstFlow).accept op p heard.clk.tai.ns)
  have hu : Ready s u op p :=
    ⟨(hheard.mono (by decide)).trans ((State.setFlow_rel _ _ _).mono (by decide)), ⟨heard.clk.tai.ns, State.flow_setFlow _ _ _⟩,
      fun g hg => (State.flow_setFlow_ne _ _ hg).trans (hflow g)⟩
  refine ⟨u, hu, fun hheld => ?_⟩
  have hrun := State.rxRun_alone ha hu hheld
  have hgap : psnSub p.psn (s.flow p.dstFlow).expected = 0 := by
    rw [← ha.psn, psnSub]
    omega
  have hearly : heard.tooEarly (s.flow p.dstFlow).ctx op p = false := by
    have he := ha.early
    simp only [State.tooEarly, State.ctx, hheard.ctxs (show Fld.ctxs ∉ _ by decide)] at he ⊢
    exact he
  have hnone : ((u.rxRun p.dstFlow).flow p.dstFlow).held = [] := by
    rw [hrun]
    exact hheld
  have hrush : After (u.takeFirst p.dstFlow { psn := p.psn, op := op, p := p }) (u.rxRun p.dstFlow) p.dstFlow := by
    rw [hrun]
    exact ⟨rfl, rfl, rfl, fun y => ⟨_, rfl⟩, SameRx.refl _, rfl, rfl⟩
  rw [hrx]
  refine (hrush.trans ?_).trans (State.flowUse_after _ _)
  unfold State.rxSeq
  simp only [hflow, hgap, ha.got, hearly]
  rw [if_neg (by simp), if_neg (by simp), if_neg (by simp)]
  show After _ (if (((u.rxRun p.dstFlow).flow p.dstFlow).held.any _ && _) = true then _ else (u.rxRun p.dstFlow).rxDone p.dstFlow _ p _) p.dstFlow
  rw [hnone, List.any_nil, Bool.false_and, if_neg (by simp)]
  exact State.rxDone_after _ _ _ _ _

/-! ### What a write into the tile store depends on (R573) -/

/-- The fields of flows, tracker and wire, on which no write into the tile store depends. -/
def Fld.ofWire : List Fld := [.out, .fresh, .macs, .counters, .flows, .trk]

/-- The state with those fields of another. -/
def State.rewired (s v : State) : State :=
  { s with out := v.out, fresh := v.fresh, macs := v.macs, counters := v.counters, flows := v.flows, trk := v.trk }

theorem Only.eq_rewired {s t : State} (h : Only Fld.ofWire s t) : t = s.rewired t := by
  have hf : ∀ f ∈ Fld.all.filter (fun f => !Fld.ofWire.contains f), f.same s t := fun f hf => h f (by simpa using (List.mem_filter.mp hf).2)
  simp only [Fld.all, Fld.ofWire] at hf
  obtain ⟨⟩ := s
  obtain ⟨⟩ := t
  simp [Fld.same] at hf
  simp [State.rewired, hf]

theorem State.holdBytes_rewired (v : State) (d : List Byte) (s : State) (a : Nat) : (s.rewired v).holdBytes a d = (s.holdBytes a d).rewired v := by
  induction d generalizing s a with
  | nil => rfl
  | cons b r ih =>
    rw [State.holdBytes, State.holdBytes, ← ih]
    congr 1
    show (if (s.rowCopies.any fun c => s.inRow c.loc c.row a) = true then _ else _) =
      State.rewired (if (s.rowCopies.any fun c => s.inRow c.loc c.row a) = true then _ else _) v
    split
    · rfl
    · rfl

theorem State.memWrite_rewired (s v : State) (a : Nat) (d : List Byte) : (s.rewired v).memWrite a d = (s.memWrite a d).rewired v := by
  unfold State.memWrite
  show (if s.rowCopies.isEmpty = true then _ else _) = State.rewired (if s.rowCopies.isEmpty = true then _ else _) v
  split
  · rfl
  · exact State.holdBytes_rewired v d s a

theorem State.memCopy_rewired (s v : State) (a b n : Nat) : (s.rewired v).memCopy a b n = (s.memCopy a b n).rewired v := by
  unfold State.memCopy
  show (if s.rowCopies.isEmpty = true then _ else _) = State.rewired (if s.rowCopies.isEmpty = true then _ else _) v
  split
  · rfl
  · exact State.holdBytes_rewired v _ s b

theorem State.findFrame_rewired (s v : State) (tier x : Nat) (used : List (Nat × Nat)) (hi n f : Nat) :
    (s.rewired v).findFrame tier x used hi n f = s.findFrame tier x used hi n f := by
  induction n generalizing f with
  | zero => rfl
  | succ n ih =>
    unfold State.findFrame
    simp only [ih]
    rfl

theorem State.rangeFrame_rewired (s v : State) (tier x lo hi : Nat) : (s.rewired v).rangeFrame tier x lo hi = s.rangeFrame tier x lo hi := by
  have hused : (s.rewired v).usedFrames tier = s.usedFrames tier := rfl
  have htaken : (s.rewired v).takenFrames tier = s.takenFrames tier := rfl
  have hown : ∀ used, (s.rewired v).ownFreed tier x lo hi used = s.ownFreed tier x lo hi used := fun _ => rfl
  rw [State.rangeFrame, State.findFrame_rewired, hused, htaken, hown, State.rangeFrame]

theorem State.secureCopy_rewired (s v : State) (x t : Nat) : (s.rewired v).secureCopy x t = (s.secureCopy x t).rewired v := by
  have hctx : (s.rewired v).ctx x = s.ctx x := rfl
  have hframe : (s.rewired v).reserveFrame x = s.reserveFrame x := State.rangeFrame_rewired s v 2 x _ _
  unfold State.secureCopy
  rw [hctx, hframe]
  extract_lets c e
  split
  · rfl
  · extract_lets capture preimage
    split
    · rfl
    · split
      · rfl
      · split
        · rfl
        · rw [State.memCopy_rewired]
          extract_lets copied counted c' k copied' counted' c'' k'
          split
          · rfl
          · rfl

theorem State.writeTile_rewired (s v : State) (x t off : Nat) (d : List Byte) : (s.rewired v).writeTile x t off d = (s.writeTile x t off d).rewired v := by
  unfold State.writeTile
  show (if ((s.ctx x).entry t).stalls = true then _ else _) = State.rewired (if ((s.ctx x).entry t).stalls = true then _ else _) v
  split
  · rfl
  · rw [State.tileWrite1, State.tileWrite1, State.secureCopy_rewired, State.memWrite_rewired]
    rfl

theorem State.tsWrite_rewired (s v : State) (c a : Nat) (d : List Byte) : (s.rewired v).tsWrite c a d = (s.tsWrite c a d).rewired v := by
  have hfold : ∀ (f : State → Nat → State), (∀ u w, f (u.rewired v) w = (f u w).rewired v) → ∀ (l : List Nat) (u : State),
      l.foldl f (u.rewired v) = (l.foldl f u).rewired v := by
    intro f hf l
    induction l with
    | nil => exact fun u => rfl
    | cons w l ih => exact fun u => by rw [List.foldl_cons, hf, ih, List.foldl_cons]
  unfold State.tsWrite
  refine hfold _ (fun u w => ?_) _ s
  have ht0 : (u.rewired v).t0Tile c w = u.t0Tile c w := rfl
  dsimp only
  rw [ht0]
  split
  · exact State.writeTile_rewired _ _ _ _ _ _
  · rw [State.memWrite_rewired]
    rfl

/-- A write into the tile store leaves the same memory in two states that differ only in flows, tracker and wire. -/
theorem State.tsWrite_mem_congr {s t : State} (h : Rel Fld.ofWire s t) (c a : Nat) (d : List Byte) : (t.tsWrite c a d).mem = (s.tsWrite c a d).mem := by
  rw [h.only.eq_rewired, State.tsWrite_rewired]
  rfl

theorem State.tsWrite_rings (s : State) (c a : Nat) (d : List Byte) : SameRings s (s.tsWrite c a d) := s.applyEffs_rings c 0 [.ts a d]

end Sys2Proof.Machine

/-! SUPPORT. The rows of the responses (O9): what each leaves of the instances and of what waits for the request tracker, and the end of its request. -/

namespace Sys2Proof.Machine

/-! ### What is the same of every context -/

/-- Of every context, g shows the same in two states. -/
def SameCtx {α : Type} (g : Ctx → α) (s t : State) : Prop := ∀ x, g (t.ctx x) = g (s.ctx x)

section
variable {α : Type} {g : Ctx → α}

theorem SameCtx.refl (s : State) : SameCtx g s s := fun _ => rfl

theorem SameCtx.trans {s t u : State} (h : SameCtx g s t) (k : SameCtx g t u) : SameCtx g s u := fun x => (k x).trans (h x)

theorem SameCtx.foldl {β : Type} {f : State → β → State} (hf : ∀ s b, SameCtx g s (f s b)) (l : List β) (s : State) : SameCtx g s (l.foldl f s) := by
  induction l generalizing s with
  | nil => exact .refl s
  | cons b l ih => exact (hf s b).trans (ih _)

theorem SameCtx.of_rel {l : List Fld} {s t : State} (h : Rel l s t) (hl : Fld.ctxs ∉ l) : SameCtx g s t := fun x =>
  congrArg g (State.ctx_congr (h.ctxs hl) x)

theorem SameCtx.setCtx {s : State} {x : Nat} {v : Ctx} (h : g v = g (s.ctx x)) : SameCtx g s (s.setCtx x v) := fun y => by
  by_cases hy : y = x
  · rw [hy, State.ctx_setCtx, h]
  · rw [State.ctx_setCtx_ne _ _ hy]

theorem SameCtx.updCtx {s : State} {x : Nat} {f : Ctx → Ctx} (h : g (f (s.ctx x)) = g (s.ctx x)) : SameCtx g s (s.updCtx x f) := .setCtx h

/-- Counters and the overwritten log records of a context are nothing that g shows. -/
theorem SameCtx.of_tables (hg : ∀ c m n, g { c with counters := m, logOverflow := n } = g c) {s t : State} (h : SameTables s t) : SameCtx g s t := fun x => by
  obtain ⟨m, n, ht⟩ := h x
  rw [ht, hg]

end

/-! ### What waits, through the writes of an effect (R197, R258, R386) -/

/-- The instances of a context and its parity shares that wait. -/
def Ctx.waiting (c : Ctx) : Map CollInst × List (Nat × StripeSend) := (c.insts, c.sec.stripes)

theorem StaysIdle.of_waiting {s t : State} (h : SameCtx Ctx.waiting s t) : StaysIdle s t := fun x hx => by
  obtain ⟨hi, hs⟩ := Prod.mk.inj (h x)
  exact ⟨fun e he => hx.1 e (hi ▸ he), hs.trans hx.2⟩

@[simp] theorem Ctx.waiting_setBankEntry (c : Ctx) (b t : Nat) (e : TileEntry) : (c.setBankEntry b t e).waiting = c.waiting := by
  unfold Ctx.setBankEntry
  split <;> rfl

@[simp] theorem Ctx.waiting_setEntry (c : Ctx) (t : Nat) (e : TileEntry) : (c.setEntry t e).waiting = c.waiting := c.waiting_setBankEntry _ _ _

@[simp] theorem Ctx.waiting_setHdr (c : Ctx) (t : Nat) (h : TileHdr) : (c.setHdr t h).waiting = c.waiting := by
  unfold Ctx.setHdr Ctx.setBankHdr
  split <;> rfl

theorem State.waiting_count (s : State) (x i k : Nat) : SameCtx Ctx.waiting s (s.count x i k) := .of_tables (fun _ _ _ => rfl) (s.sameTables_count x i k)

theorem State.waiting_secureCopy (s : State) (x t : Nat) : SameCtx Ctx.waiting s (s.secureCopy x t) := by
  unfold State.secureCopy
  extract_lets c e
  split
  · exact .refl s
  · extract_lets capture preimage
    split
    · exact .refl s
    · split
      · exact .refl s
      · split
        · exact .refl s
        · extract_lets copied counted c' k
          have hcounted : SameCtx Ctx.waiting s counted := (SameCtx.of_rel (State.memCopy_rel s _ _ _) (by decide)).trans (State.waiting_count _ _ _ _)
          split
          · exact hcounted.trans (.setCtx (Ctx.waiting_setEntry _ _ _))
          · exact hcounted.trans (.setCtx rfl)

theorem State.waiting_writeTile (s : State) (x t off : Nat) (d : List Byte) : SameCtx Ctx.waiting s (s.writeTile x t off d) := by
  unfold State.writeTile
  split
  · exact (SameCtx.of_rel Rel.set_stalled (by decide)).trans (.of_rel (State.rush_rel _ x [t]) (by decide))
  · unfold State.tileWrite1
    extract_lets copied written
    have hwritten : SameCtx Ctx.waiting s written := (s.waiting_secureCopy x t).trans (.of_rel (State.memWrite_rel _ _ _) (by decide))
    refine hwritten.trans ?_
    unfold State.markWritten
    exact .setCtx (by rw [Ctx.waiting_setHdr]; exact Ctx.waiting_setEntry _ _ _)

theorem State.waiting_tsWrite (s : State) (c a : Nat) (d : List Byte) : SameCtx Ctx.waiting s (s.tsWrite c a d) := by
  refine SameCtx.foldl (fun s w => ?_) _ s
  extract_lets lo hi part
  split
  · exact s.waiting_writeTile _ _ _ _
  · exact (SameCtx.of_rel (State.memWrite_rel s _ _) (by decide)).trans (.of_rel (State.updCore_rel _ _ _) (by decide))

theorem State.sameTables_logRemote (s : State) (x st f psn peer : Nat) : SameTables s (s.logRemote x st f psn peer) := s.sameTables_logRecord _ _ _ _

theorem State.staysIdle_endRemote (s : State) (c r slot x st f psn peer : Nat) : StaysIdle s (s.endRemote c r slot x st f psn peer) := by
  unfold State.endRemote
  split
  · exact .of_tables (s.sameTables_complete _ _ _ _ _)
  · exact .of_tables ((s.sameTables_logRemote _ _ _ _ _).trans (State.sameTables_complete _ _ _ _ _ _))

theorem State.waiting_signal (s : State) (x ev : Nat) : SameCtx Ctx.waiting s (s.signal x ev) := by
  let raised : State := s.updCtx x (fun c => { c with events := c.events.upd ev 0 (fun v => (v + 1) % 4294967296) })
  have hraised : SameCtx Ctx.waiting s raised := .updCtx rfl
  refine hraised.trans fun y => ?_
  obtain ⟨m, hm⟩ := (State.wake_steady raised x ev).2 y
  show Ctx.waiting ((raised.wake x ev).ctx y) = _
  rw [hm]
  rfl

theorem State.waiting_gradFinal (s : State) (x coll : Nat) (sel : Nat → Nat → Bool) : SameCtx Ctx.waiting s (s.gradFinal x coll sel) := by
  unfold State.gradFinal
  exact .foldl (fun u l => .updCtx rfl) _ s

/-- An instance that completes leaves nothing more to wait (R321, R574). -/
theorem State.staysIdle_checkInst (s : State) (x coll inst : Nat) : StaysIdle s (s.checkInst x coll inst) := by
  unfold State.checkInst
  split
  · split
    · exact fun _ h => h
    · extract_lets words flagged closed
      have hflagged : StaysIdle s flagged := by
        unfold flagged
        split
        · exact fun _ h => h
        · exact .of_waiting (s.waiting_tsWrite _ _ _)
      have hclosed : StaysIdle flagged closed :=
        (flagged.staysIdle_closeInst _ _ _).trans (.of_tables (State.sameTables_complete _ _ _ _ _ _))
      refine (hflagged.trans hclosed).trans (.of_waiting ?_)
      exact ((closed.waiting_signal _ _).trans (State.waiting_count _ _ _ _)).trans (State.waiting_gradFinal _ _ _ _)
  · exact fun _ h => h

theorem Map.mem_set_or {α : Type} {m : Map α} {k : Nat} {v : α} {e : Nat × α} (he : e ∈ m.set k v) : e ∈ m ∨ e = (k, v) := by
  obtain ⟨l, r, ⟨hm, hs⟩ | ⟨w, -, hm, hs⟩⟩ := Map.set_cases m k v
  · rw [hs] at he
    rw [hm]
    simp only [List.mem_append, List.mem_cons] at he ⊢
    tauto
  · rw [hs] at he
    rw [hm]
    simp only [List.mem_append, List.mem_cons] at he ⊢
    tauto

/-- A change of an instance that leaves its blocks due. -/
theorem State.staysIdle_updInst (s : State) (x coll inst : Nat) {f : CollInst → CollInst} (hf : ∀ i, (f i).due = i.due) :
    StaysIdle s (s.updInst x coll inst f) := fun y hy => by
  unfold State.updInst
  by_cases hx : y = x
  · subst hx
    rw [State.NoneDue, State.ctx_updCtx]
    refine ⟨fun e he => ?_, hy.2⟩
    have hdue : (((s.ctx y).insts.getOr (instKey coll inst) {}) : CollInst).due = [] := by
      rw [Map.getOr]
      cases hfind : (s.ctx y).insts.find (instKey coll inst) with
      | none => rfl
      | some i => exact hy.1 _ (Map.mem_of_find hfind)
    rcases Map.mem_set_or he with hmem | heq
    · exact hy.1 e hmem
    · rw [heq]
      exact (hf _).trans hdue
  · rw [State.NoneDue, State.ctx_updCtx_ne _ _ hx]
    exact hy

/-! ### The instances while something is sent (R258, R315) -/

/-- What the instances of a context wait for and hold. -/
def Ctx.answers (c : Ctx) (coll inst : Nat) : Option (Nat × List CollBlock) := (c.inst coll inst).map (fun i => (i.unanswered, i.blocks))

theorem Ctx.answers_upd (c : Ctx) (coll inst : Nat) {f : CollInst → CollInst} (hf : ∀ i, (f i).unanswered = i.unanswered ∧ (f i).blocks = i.blocks)
    (hi : (c.inst coll inst).isSome = true) : Ctx.answers { c with insts := c.insts.upd (instKey coll inst) {} f } = c.answers := by
  funext coll' inst'
  unfold Ctx.answers Ctx.inst
  by_cases hk : instKey coll' inst' = instKey coll inst
  · obtain ⟨i, hi⟩ := Option.isSome_iff_exists.mp hi
    have hfind : c.insts.find (instKey coll inst) = some i := hi
    rw [hk, Map.upd, Map.find_set, Map.getOr, hfind]
    simp [hf]
  · rw [Map.upd, Map.find_set_ne _ _ hk]

theorem Ctx.answers_setEntry (c : Ctx) (t : Nat) (e : TileEntry) : (c.setEntry t e).answers = c.answers :=
  congrArg (fun i => Ctx.answers { c with insts := i }) (Prod.mk.inj (c.waiting_setEntry t e)).1

theorem State.answers_flowUse (s : State) (f : Nat) : SameCtx Ctx.answers s (s.flowUse f) := by
  unfold State.flowUse
  split
  · exact .refl s
  · split
    · exact .of_rel Rel.set_fcache (by decide)
    · exact (SameCtx.of_rel Rel.set_fcache (by decide)).trans (.of_tables (fun _ _ _ => rfl) (State.sameTables_count _ _ _ _))

theorem State.answers_putBlock (s : State) (x coll inst : Nat) (r : CollRec) (i : CollInst) (dst kind : Nat) (data : List Byte) :
    SameCtx Ctx.answers s (s.putBlock x coll inst r i dst kind data) := by
  unfold State.putBlock
  split
  · exact .refl s
  · extract_lets f used tracked fmt
    have htracked : SameCtx Ctx.answers used tracked := .of_rel (State.track_rel _ _) (by decide)
    exact ((s.answers_flowUse f).trans htracked).trans (.of_rel (State.sendMsg_rel _ _ _ _) (by decide))

theorem State.answers_sendStripe (s : State) (x gen : Nat) (p : StripeSend) : SameCtx Ctx.answers s (s.sendStripe x gen p) := by
  unfold State.sendStripe
  extract_lets fl
  split
  · exact .refl s
  · split
    · unfold State.updSec
      exact .updCtx rfl
    · refine SameCtx.trans ?_ (.updCtx (Ctx.answers_setEntry _ _ _))
      refine SameCtx.trans ?_ (.of_rel (State.sendMsg_rel _ _ _ _) (by decide))
      exact (s.answers_flowUse p.flow).trans (.of_rel (State.track_rel _ _) (by decide))

/-- Sending what waits for the tracker leaves what the instances wait for and hold (R258). -/
theorem State.answers_sendDue (s : State) (x : Nat) : SameCtx Ctx.answers s (s.sendDue x) := by
  unfold State.sendDue
  extract_lets blocks due
  have hblocks : SameCtx Ctx.answers s blocks := by
    refine .foldl (fun u e => ?_) _ s
    extract_lets coll inst
    split
    · next i r hi hr =>
      split
      · refine SameCtx.trans ?_ (State.answers_putBlock _ _ _ _ _ _ _ _ _)
        unfold State.updInst
        exact .updCtx (Ctx.answers_upd _ _ _ (fun _ => ⟨rfl, rfl⟩) (by rw [hi]; rfl))
      · exact .refl u
    · exact .refl u
  refine hblocks.trans (.trans ?_ (.foldl (fun u e => u.answers_sendStripe _ _ _) _ _))
  unfold State.updSec
  exact .updCtx rfl

/-- An instance stands as before but for what waits to be sent. -/
theorem State.inst_of_answers {s t : State} {x c n : Nat} {i : CollInst} (h : (t.ctx x).answers c n = (s.ctx x).answers c n) (hi : (s.ctx x).inst c n = some i) :
    ∃ j, (t.ctx x).inst c n = some j ∧ j.unanswered = i.unanswered ∧ j.blocks = i.blocks := by
  rw [Ctx.answers, Ctx.answers, hi, Option.map_some] at h
  obtain ⟨j, hj, heq⟩ := Option.map_eq_some_iff.mp h
  obtain ⟨hu, hb⟩ := Prod.mk.inj heq
  exact ⟨j, hj, hu, hb⟩

end Sys2Proof.Machine

/-! SUPPORT. The rows of the responses (O9), each from what its response does to the request that it answers. -/

namespace Sys2Proof.Machine

/-! ### A response and its request (R254) -/

/-- What a response makes of the state that has received it (R254, R258). -/
structure AnswersOn (s v w t : State) (f psn : Nat) : Prop where
  received : Rel Fld.ofWire s v
  trk : v.trk = s.trk
  flow : (v.flow f).ctx = (s.flow f).ctx
  expected : (t.flow f).expected = psnNext psn
  mem : t.mem = w.mem
  cores : t.cores = w.cores
  answers : SameCtx Ctx.answers w t
  freed : StaysIdle v w → s.NoneDue (s.flow f).ctx → t.trk = w.trk

theorem After.answers {v t : State} {f : Nat} (h : After v t f) : SameCtx Ctx.answers v t := fun x => by
  obtain ⟨m, hm⟩ := h.ctxs x
  rw [hm]
  rfl

/-- A response other than READ_DATA takes effect as the end of its request (R254). -/
theorem State.takeFirst_response {u : State} {f op : Nat} {p : Pkt} (hop : op ∈ [0x81, 0x88, 0xA0]) :
    u.takeFirst f { psn := p.psn, op := op, p := p } = (u.stepExec f p.psn).endRequest f op p := by
  simp only [List.mem_cons, List.not_mem_nil, or_false] at hop
  rcases hop with rfl | rfl | rfl <;> rfl

theorem State.stepExec_clears {u : State} {f psn op : Nat} {p : Pkt} (hheld : (u.flow f).held = [{ psn := psn, op := op, p := p }]) :
    ((u.stepExec f psn).flow f).held = [] := by
  rw [State.stepExec, State.flow_updFlow]
  simp [hheld]

theorem State.rxData_answers {s : State} {op : Nat} {p : Pkt} (mac : Nat) (hop : op ∈ [0x81, 0x88, 0xA0]) (ha : s.Arrives op p) :
    ∃ v : State, AnswersOn s v (v.takeResponse p.dstFlow op p) (s.rxData mac op p noEcc) p.dstFlow p.psn := by
  obtain ⟨u, hu, hafter⟩ := State.rxData_takes mac ha
  obtain ⟨now, hf⟩ := hu.flow
  obtain ⟨hexp, -, hheld, -, -, hctx, -⟩ := Flow.accept_spec (s.flow p.dstFlow) op p now ha.got ha.held ha.psn
  let v : State := u.stepExec p.dstFlow p.psn
  let w : State := v.takeResponse p.dstFlow op p
  let noted : State := w.noteDone p.dstFlow p.psn
  let y : Nat := (v.flow p.dstFlow).ctx
  have htake : u.takeFirst p.dstFlow { psn := p.psn, op := op, p := p } = noted.sendDue y := State.takeFirst_response hop
  have hvflow : v.flow p.dstFlow = { u.flow p.dstFlow with held := (u.flow p.dstFlow).held.filter (fun h => h.psn != p.psn), exec := psnNext (u.flow p.dstFlow).exec } :=
    State.flow_updFlow _ _ _
  have hvctx : y = (s.flow p.dstFlow).ctx := by
    show (v.flow p.dstFlow).ctx = _
    rw [hvflow, hf]
    exact hctx
  have hwflow : w.flow p.dstFlow = v.flow p.dstFlow := State.flow_congr ((State.takeResponse_rel v _ op p).flows (by decide)) _
  have hnoted : Rel [.flows] w noted := State.noteDone_rel _ _ _
  have hnflow : noted.flow p.dstFlow = { w.flow p.dstFlow with lastDone := some p.psn } := State.flow_updFlow _ _ _
  have hsent : SameRx (noted.flow p.dstFlow) ((noted.sendDue y).flow p.dstFlow) := (noted.flowsSent_sendDue y p.dstFlow).sameRx
  have hclear : ((noted.sendDue y).flow p.dstFlow).held = [] := by
    rw [hsent.held, hnflow, hwflow]
    exact State.stepExec_clears (by rw [hf, hheld])
  have hdue := State.sendDue_rel noted y
  rw [htake] at hafter
  have hend := hafter hclear
  refine ⟨v, ?_, ?_, hvctx, ?_, ?_, ?_, ?_, fun hidle hnone => ?_⟩
  · exact (hu.keeps.mono (by decide)).trans ((State.stepExec_rel _ _ _).mono (by decide))
  · exact ((State.stepExec_rel _ _ _).trk (by decide)).trans (hu.keeps.trk (by decide))
  · rw [hend.rx.expected, hsent.expected, hnflow, hwflow, hvflow, hf]
    exact hexp
  · rw [hend.mem, hdue.mem (by decide), hnoted.mem (by decide)]
  · rw [hend.cores, hdue.cores (by decide), hnoted.cores (by decide)]
  · exact ((SameCtx.of_rel hnoted (by decide)).trans (State.answers_sendDue _ _)).trans hend.answers
  · have hrecv : StaysIdle s v := (StaysIdle.of_rel hu.keeps (by decide)).trans (.of_rel (State.stepExec_rel _ _ _) (by decide))
    have hidle' : noted.NoneDue y := by
      rw [hvctx]
      exact ((hrecv.trans hidle).trans (.of_rel hnoted (by decide))) _ hnone
    rw [hend.trk, State.sendDue_of_noneDue hidle']
    exact hnoted.trk (by decide)

/-- The end of a request completes its descriptor (R254). -/
theorem State.endRemote_ends {s : State} {c r st : Nat} {d : OutDesc} (hd : d ∈ (s.ring c r).out) (hopen : d.done = false) (x f psn peer : Nat) :
    Ended (s.endRemote c r d.id x st f psn peer) c r d.id d.desc (if st = 0 then 0 else 0x1A) := by
  unfold State.endRemote
  split
  · obtain ⟨e, he, hid, hdesc, hdone, hst, -⟩ := State.complete_mem hd hopen 0 0
    exact ⟨e, he, hid, hdesc, hdone, hst⟩
  · have hlogged : (s.logRemote x st f psn peer).ring c r = s.ring c r := State.ring_congr ((State.logRemote_rel s x st f psn peer).cores (by decide)) c r
    obtain ⟨e, he, hid, hdesc, hdone, hst, -⟩ := State.complete_mem (s := s.logRemote x st f psn peer) (by rw [hlogged]; exact hd) hopen 0x1A 0
    exact ⟨e, he, hid, hdesc, hdone, hst⟩

theorem Ended.of_cores {s t : State} {c r id d st : Nat} (h : Ended s c r id d st) (ht : t.cores = s.cores) : Ended t c r id d st := by
  rw [Ended, State.ring_congr ht]
  exact h

/-- The tracker without an entry. -/
def State.untrack (s : State) (k : Nat) : State := { s with trk := s.trk.del k }

theorem State.untrack_rel (s : State) (k : Nat) : Rel [.trk] s (s.untrack k) := Rel.set_trk

theorem State.findTrk_congr {s v : State} (h : v.trk = s.trk) (f n : Nat) : v.findTrk f n = s.findTrk f n := by
  rw [State.findTrk, State.findTrk, h]

/-! ### WRITE_DONE and ATOMIC_DONE (R252, R254) -/

section
variable {s : State} {p : Pkt} {k : Nat} {e : Trk} {d : OutDesc}

theorem exec_writeDone (mac : Nat) (htrk : s.findTrk p.dstFlow (be p.ext 0 4) = some (k, e)) (hd : d ∈ (s.ring e.core e.ring).out) (hopen : d.done = false)
    (hid : d.id = e.slot) (ha : s.Arrives 0x81 p) (hkind : e.kind = .put) : ∃ t : State, exec (.writeDone mac p) s = .next t ∧
      (t.flow p.dstFlow).expected = psnNext p.psn ∧ Ended t e.core e.ring e.slot d.desc (if be p.ext 4 1 = 0 then 0 else 0x1A) ∧
      (s.NoneDue (s.flow p.dstFlow).ctx → t.trk = s.trk.del k) := by
  obtain ⟨v, hv⟩ := State.rxData_answers mac (by decide) ha
  let freed : State := v.untrack k
  have hfreed : Rel [.trk] v freed := v.untrack_rel k
  have htake : v.takeResponse p.dstFlow 0x81 p =
      freed.endRemote e.core e.ring d.id e.ctx (be p.ext 4 1) p.dstFlow e.psn (v.flow p.dstFlow).peer := by
    rw [State.takeResponse, State.findTrk_congr hv.trk, htrk, hid]
    dsimp only
    rw [hkind]
    rfl
  have hdone := State.endRemote_ends (s := freed) (st := be p.ext 4 1) (c := e.core) (r := e.ring) (d := d)
    (by rw [State.ring_congr (hfreed.cores (by decide)), State.ring_congr (hv.received.cores (by decide))]; exact hd) hopen e.ctx p.dstFlow e.psn (v.flow p.dstFlow).peer
  have hidle : StaysIdle v (v.takeResponse p.dstFlow 0x81 p) := by
    rw [htake]
    exact (StaysIdle.of_rel hfreed (by decide)).trans (State.staysIdle_endRemote _ _ _ _ _ _ _ _ _)
  refine ⟨_, rfl, hv.expected, ?_, fun hnone => ?_⟩
  · rw [← htake, hid] at hdone
    exact hdone.of_cores hv.cores
  · show (s.rxData mac 0x81 p noEcc).trk = _
    rw [hv.freed hidle hnone, htake, (State.endRemote_rel _ _ _ _ _ _ _ _ _).trk (by decide), ← hv.trk]
    rfl

theorem exec_atomicDone (mac : Nat) (htrk : s.findTrk p.dstFlow (be p.ext 0 4) = some (k, e)) (hd : d ∈ (s.ring e.core e.ring).out) (hopen : d.done = false)
    (hid : d.id = e.slot) (ha : s.Arrives 0x88 p) (hkind : e.kind = .atomic) : ∃ t : State, exec (.atomicDone mac p) s = .next t ∧
      (t.flow p.dstFlow).expected = psnNext p.psn ∧ Ended t e.core e.ring e.slot d.desc (if be p.ext 4 1 = 0 then 0 else 0x1A) ∧
      (s.NoneDue (s.flow p.dstFlow).ctx → t.trk = s.trk.del k) ∧
      (be p.ext 4 1 = 0 → e.local_ ≠ tsNone → t.mem = (s.tsWrite e.core e.local_ (padTo 8 p.payload).reverse).mem) := by
  obtain ⟨v, hv⟩ := State.rxData_answers mac (by decide) ha
  let freed : State := v.untrack k
  have hfreed : Rel [.trk] v freed := v.untrack_rel k
  let old : State := if be p.ext 4 1 = 0 ∧ e.local_ ≠ tsNone then freed.tsWrite e.core e.local_ (padTo 8 p.payload).reverse else freed
  have htake : v.takeResponse p.dstFlow 0x88 p =
      old.endRemote e.core e.ring d.id e.ctx (be p.ext 4 1) p.dstFlow e.psn (v.flow p.dstFlow).peer := by
    rw [State.takeResponse, State.findTrk_congr hv.trk, htrk, hid]
    dsimp only
    rw [hkind]
    rfl
  have hrings : SameRings freed old := by
    simp only [old]
    split
    · exact State.tsWrite_rings _ _ _ _
    · exact fun _ _ => rfl
  have hwaits : SameCtx Ctx.waiting freed old := by
    simp only [old]
    split
    · exact State.waiting_tsWrite _ _ _ _
    · exact .refl _
  have hold : Rel [.mem, .cores, .ctxs, .migs, .stalled, .rowCopies] freed old := by
    simp only [old]
    split
    · exact State.tsWrite_rel _ _ _ _
    · exact Rel.refl _ _
  have hdone := State.endRemote_ends (s := old) (st := be p.ext 4 1) (c := e.core) (r := e.ring) (d := d)
    (by rw [hrings, State.ring_congr (hfreed.cores (by decide)), State.ring_congr (hv.received.cores (by decide))]; exact hd)
    hopen e.ctx p.dstFlow e.psn (v.flow p.dstFlow).peer
  have hidle : StaysIdle v (v.takeResponse p.dstFlow 0x88 p) := by
    rw [htake]
    exact ((StaysIdle.of_rel hfreed (by decide)).trans (.of_waiting hwaits)).trans (State.staysIdle_endRemote _ _ _ _ _ _ _ _ _)
  refine ⟨_, rfl, hv.expected, ?_, fun hnone => ?_, fun hok hlocal => ?_⟩
  · rw [← htake, hid] at hdone
    exact hdone.of_cores hv.cores
  · show (s.rxData mac 0x88 p noEcc).trk = _
    rw [hv.freed hidle hnone, htake, (State.endRemote_rel _ _ _ _ _ _ _ _ _).trk (by decide), hold.trk (by decide), ← hv.trk]
    rfl
  · have hwrite : old = freed.tsWrite e.core e.local_ (padTo 8 p.payload).reverse := if_pos ⟨hok, hlocal⟩
    show (s.rxData mac 0x88 p noEcc).mem = _
    rw [hv.mem, htake, (State.endRemote_rel _ _ _ _ _ _ _ _ _).mem (by decide), hwrite]
    exact State.tsWrite_mem_congr (hv.received.trans (hfreed.mono (by decide))) _ _ _

end

/-! ### READ_DATA (R252, R261) -/

/-- A packet of READ_DATA takes effect as `takeData` says; what its message then notes is of the flow, which holds nothing more for it. -/
theorem State.takePacket_data (s : State) (f : Nat) {m : RxMsg} (h : HeldPkt) (hop : m.op = 0x82) : ∃ m', Rel [.flows] ((s.stepMsg f h.psn m').takeData f h.p) (s.takePacket f m h) ∧
    ((s.takePacket f m h).flow f).held = (((s.stepMsg f h.psn m').takeData f h.p).flow f).held := by
  unfold State.takePacket
  extract_lets fl x st1 st2 c st3 m1 stepped r m2 taken ended
  have hr : r = (stepped.takeData f h.p, 0) := if_pos hop
  have htaken : Rel [.flows] r.1 taken := State.updFlow_rel _ _ _
  have hheld : (taken.flow f).held = (r.1.flow f).held := by rw [State.flow_updFlow]
  refine ⟨m1, ?_⟩
  rw [hr] at htaken hheld
  split
  · have hended : ended = taken.updFlow f (fun fl => { fl with msgs := [], exec := psnNext (m2.last.getD fl.exec) }) := if_pos hop
    have hno : ¬ (m2.op = 0x20 ∧ m2.status = 0 ∧ c.kind ≤ 2) := fun hc => by
      have h20 : m.op = 0x20 := hc.1
      omega
    rw [if_neg hno, hended]
    exact ⟨htaken.trans (State.updFlow_rel _ _ _), by rw [State.flow_updFlow]; exact hheld⟩
  · exact ⟨htaken, hheld⟩

theorem State.takeFirst_data {u : State} {f : Nat} {p : Pkt} (hfirst : pktFirst p = true) : ∃ m' : RxMsg,
    Rel [.flows] ((u.stepMsg f p.psn m').takeData f p) (u.takeFirst f { psn := p.psn, op := 0x82, p := p }) ∧
    ((u.takeFirst f { psn := p.psn, op := 0x82, p := p }).flow f).held = (((u.stepMsg f p.psn m').takeData f p).flow f).held := by
  unfold State.takeFirst
  extract_lets fl x q m
  rw [if_pos (.inr (.inr (.inr rfl))), if_neg (by simp [q, hfirst])]
  exact State.takePacket_data u f { psn := p.psn, op := 0x82, p := p } rfl

/-- The data of a get changes nothing that its flow holds. -/
theorem State.held_takeData (s : State) (f : Nat) (p : Pkt) : ((s.takeData f p).flow f).held = (s.flow f).held := by
  unfold State.takeData
  split
  · rfl
  · next k t hfind =>
    extract_lets st written got
    split
    · rfl
    · split
      · rw [State.flow_congr ((State.endRemote_rel _ _ _ _ _ _ _ _ _).flows (by decide))]
        rfl
      · have hwritten : written.flow f = s.flow f := State.flow_congr ((State.tsWrite_rel s _ _ _).flows (by decide)) f
        split
        · exact congrArg Flow.held hwritten
        · rw [(State.flowsSent_sendDue _ _ f).sameRx.held, State.noteDone, State.flow_updFlow, State.flow_congr ((State.complete_rel _ _ _ _ _ _).flows (by decide))]
          show (written.flow f).held = (s.flow f).held
          rw [hwritten]

/-- What READ_DATA that arrives in order makes of the state that has received it. -/
theorem State.rxData_takesData {s : State} {p : Pkt} (mac : Nat) (ha : s.Arrives 0x82 p) (hfirst : pktFirst p = true) : ∃ v : State,
    Rel [.out, .fresh, .macs, .counters, .flows] s v ∧ (s.rxData mac 0x82 p noEcc).mem = (v.takeData p.dstFlow p).mem ∧
      (s.rxData mac 0x82 p noEcc).cores = (v.takeData p.dstFlow p).cores ∧ (s.rxData mac 0x82 p noEcc).trk = (v.takeData p.dstFlow p).trk := by
  obtain ⟨u, hu, hafter⟩ := State.rxData_takes mac ha
  obtain ⟨now, hf⟩ := hu.flow
  obtain ⟨-, -, hheld, -⟩ := Flow.accept_spec (s.flow p.dstFlow) 0x82 p now ha.got ha.held ha.psn
  obtain ⟨m', hrel, hsame⟩ := State.takeFirst_data (u := u) (f := p.dstFlow) hfirst
  have hclear : ((u.takeFirst p.dstFlow { psn := p.psn, op := 0x82, p := p }).flow p.dstFlow).held = [] := by
    rw [hsame, State.held_takeData, State.stepMsg, State.flow_updFlow, hf, hheld]
    simp
  have hend := hafter hclear
  exact ⟨u.stepMsg p.dstFlow p.psn m', hu.keeps.trans ((State.stepMsg_rel _ _ _ _).mono (by decide)), hend.mem.trans (hrel.mem (by decide)),
    hend.cores.trans (hrel.cores (by decide)), hend.trk.trans (hrel.trk (by decide))⟩

section
variable {s : State} {p : Pkt} {k : Nat} {e : Trk} {d : OutDesc}

theorem exec_readData (mac : Nat) (htrk : s.findTrk p.dstFlow (be p.ext 0 4) = some (k, e)) (hd : d ∈ (s.ring e.core e.ring).out) (hopen : d.done = false)
    (hid : d.id = e.slot) (ha : s.Arrives 0x82 p) (hkind : e.kind = .get) (hfirst : pktFirst p = true) : ∃ t : State, exec (.readData mac p) s = .next t ∧
      (be p.ext 4 1 ≠ 0 → t.trk = s.trk.del k ∧ Ended t e.core e.ring e.slot d.desc 0x1A) ∧
      (be p.ext 4 1 = 0 → t.mem = (s.tsWrite e.core (e.local_ + be p.ext 8 4) p.payload).mem ∧
        (e.length ≤ e.got + p.payload.length → Ended t e.core e.ring e.slot d.desc 0 ∧ (s.NoneDue e.ctx → t.trk = s.trk.del k))) := by
  obtain ⟨v, hv, hmem, hcores, htrks⟩ := State.rxData_takesData mac ha hfirst
  have hvtrk : v.trk = s.trk := hv.trk (by decide)
  have hvd : d ∈ (v.ring e.core e.ring).out := by rw [State.ring_congr (hv.cores (by decide))]; exact hd
  have htake : v.takeData p.dstFlow p = if be p.ext 4 1 ≠ 0 then
      (v.untrack k).endRemote e.core e.ring d.id e.ctx (be p.ext 4 1) p.dstFlow e.psn (v.flow p.dstFlow).peer
    else if e.got + p.payload.length < e.length then
      { v.tsWrite e.core (e.local_ + be p.ext 8 4) p.payload with
        trk := (v.tsWrite e.core (e.local_ + be p.ext 8 4) p.payload).trk.set k { e with got := e.got + p.payload.length } }
    else ((((v.tsWrite e.core (e.local_ + be p.ext 8 4) p.payload).untrack k).complete e.core e.ring d.id 0 0).noteDone p.dstFlow p.psn).sendDue e.ctx := by
    rw [State.takeData, State.findTrk_congr hvtrk, htrk, hid]
    dsimp only
    rw [if_neg (by simp [hkind])]
    rfl
  refine ⟨_, rfl, fun hbad => ?_, fun hok => ?_⟩
  · rw [if_pos hbad] at htake
    have hdone := State.endRemote_ends (s := v.untrack k) (st := be p.ext 4 1) hvd hopen e.ctx p.dstFlow e.psn (v.flow p.dstFlow).peer
    rw [if_neg hbad, ← htake, hid] at hdone
    refine ⟨?_, hdone.of_cores hcores⟩
    show (s.rxData mac 0x82 p noEcc).trk = _
    rw [htrks, htake, (State.endRemote_rel _ _ _ _ _ _ _ _ _).trk (by decide), ← hvtrk]
    rfl
  · rw [if_neg (not_not.mpr hok)] at htake
    let written : State := v.tsWrite e.core (e.local_ + be p.ext 8 4) p.payload
    have hwrote : written.mem = (s.tsWrite e.core (e.local_ + be p.ext 8 4) p.payload).mem := State.tsWrite_mem_congr (hv.mono (by decide)) _ _ _
    have hsent : Rel [.cores, .ctxs, .flows, .trk, .trkNext, .fcache, .macs, .ecnDraws, .counters] written
        ((((written.untrack k).complete e.core e.ring d.id 0 0).noteDone p.dstFlow p.psn).sendDue e.ctx) :=
      ((((written.untrack_rel k).mono (by decide)).trans ((State.complete_rel _ _ _ _ _ _).mono (by decide))).trans ((State.noteDone_rel _ _ _).mono (by decide))).trans
        ((State.sendDue_rel _ _).mono (by decide))
    refine ⟨?_, fun hall => ?_⟩
    · show (s.rxData mac 0x82 p noEcc).mem = _
      rw [hmem, htake]
      split
      · exact hwrote
      · exact (hsent.mem (by decide)).trans hwrote
    · rw [if_neg (by omega)] at htake
      have hin : d ∈ ((written.untrack k).ring e.core e.ring).out := by
        rw [State.ring_congr ((written.untrack_rel k).cores (by decide)), State.tsWrite_rings v e.core _ _ e.core e.ring]
        exact hvd
      obtain ⟨e', he', hid', hdesc, hdone, hst, -⟩ := State.complete_mem hin hopen 0 0
      let completed : State := ((written.untrack k).complete e.core e.ring d.id 0 0).noteDone p.dstFlow p.psn
      have hnoted : Rel [.flows] ((written.untrack k).complete e.core e.ring d.id 0 0) completed := State.noteDone_rel _ _ _
      have hends : Ended (completed.sendDue e.ctx) e.core e.ring d.id d.desc 0 := by
        refine Ended.of_cores ⟨e', he', hid', hdesc, hdone, hst⟩ ?_
        exact ((State.sendDue_rel _ _).cores (by decide)).trans (hnoted.cores (by decide))
      refine ⟨?_, fun hnone => ?_⟩
      · rw [← hid]
        exact hends.of_cores (by rw [← htake]; exact hcores)
      · have hidle : StaysIdle s completed :=
          (((((StaysIdle.of_rel hv (by decide)).trans (.of_waiting (v.waiting_tsWrite _ _ _))).trans (.of_rel (written.untrack_rel k) (by decide))).trans
            (.of_tables (State.sameTables_complete _ _ _ _ _ _))).trans (.of_rel hnoted (by decide)))
        have hsend : (completed.sendDue e.ctx).trk = completed.trk := by rw [State.sendDue_of_noneDue (hidle _ hnone)]; rfl
        show (s.rxData mac 0x82 p noEcc).trk = _
        rw [htrks, htake, hsend, hnoted.trk (by decide), (State.complete_rel _ _ _ _ _ _).trk (by decide), ← hvtrk]
        show written.trk.del k = _
        rw [(State.tsWrite_rel v _ _ _).trk (by decide)]

/-! ### COLLECTIVE_DONE (R315, R324, R574) -/

theorem State.answers_closeInst (s : State) (x c n : Nat) : ((s.closeInst x c n).ctx x).inst c n = none := by
  rw [State.closeInst, State.ctx_updCtx]
  exact Map.find_del _ _

/-- An instance ends abnormally: its slot is released and its COLL_STEP has completed with REMOTE (R324). -/
theorem State.failInst_ends {s : State} {x c n : Nat} {i : CollInst} {d : OutDesc} (hi : (s.ctx x).inst c n = some i) (hissued : i.issued = true)
    (hd : d ∈ (s.ring i.core i.ring).out) (hopen : d.done = false) (hid : d.id = i.slot) :
    ((s.failInst x c n).ctx x).inst c n = none ∧ Ended (s.failInst x c n) i.core i.ring i.slot d.desc 0x1A := by
  have hfail : s.failInst x c n = (s.closeInst x c n).complete i.core i.ring d.id 0x1A 0 := by
    rw [State.failInst, hi, hid]
    exact if_pos hissued
  have hin : d ∈ ((s.closeInst x c n).ring i.core i.ring).out := by
    rw [State.ring_congr ((State.closeInst_rel s x c n).cores (by decide))]
    exact hd
  obtain ⟨e, he, hid', hdesc, hdone, hst, -⟩ := State.complete_mem hin hopen 0x1A 0
  obtain ⟨m, l, hctx⟩ := (s.closeInst x c n).sameTables_complete i.core i.ring d.id 0x1A 0 x
  rw [hfail]
  refine ⟨?_, e, he, hid'.trans hid, hdesc, hdone, hst⟩
  rw [hctx]
  exact s.answers_closeInst x c n

theorem State.inst_updInst {s : State} {x c n : Nat} {i : CollInst} {f : CollInst → CollInst} (hi : (s.ctx x).inst c n = some i) :
    ((s.updInst x c n f).ctx x).inst c n = some (f i) := by
  have hfind : (s.ctx x).insts.find (instKey c n) = some i := hi
  unfold State.updInst Ctx.inst
  simp [Map.upd, Map.getOr, hfind]

theorem exec_collectiveDone {c n : Nat} (mac : Nat) (htrk : s.findTrk p.dstFlow (be p.ext 0 4) = some (k, e)) (ha : s.Arrives 0xA0 p) (hkind : e.kind = .coll c n) :
    ∃ t : State, exec (.collectiveDone mac p) s = .next t ∧ (t.flow p.dstFlow).expected = psnNext p.psn ∧
      (s.NoneDue (s.flow p.dstFlow).ctx → t.trk = s.trk.del k) ∧
      (∀ i, be p.ext 4 1 = 0 → (s.ctx e.ctx).inst c n = some i → 2 ≤ i.unanswered → ∃ j, (t.ctx e.ctx).inst c n = some j ∧
        j.unanswered = i.unanswered - 1 ∧ j.blocks = i.blocks) ∧
      (∀ i d, be p.ext 4 1 ≠ 0 → (s.ctx e.ctx).inst c n = some i → i.issued = true → d ∈ (s.ring i.core i.ring).out → d.done = false → d.id = i.slot →
        (t.ctx e.ctx).inst c n = none ∧ Ended t i.core i.ring i.slot d.desc 0x1A) := by
  obtain ⟨v, hv⟩ := State.rxData_answers mac (by decide) ha
  let freed : State := v.untrack k
  have hfreed : Rel [.trk] v freed := v.untrack_rel k
  have hctx : freed.ctx e.ctx = s.ctx e.ctx := State.ctx_congr ((hfreed.ctxs (by decide)).trans (hv.received.ctxs (by decide))) _
  let less : State := freed.updInst e.ctx c n (fun i => { i with unanswered := i.unanswered - 1 })
  let logged : State := freed.logRemote e.ctx (be p.ext 4 1) p.dstFlow e.psn (v.flow p.dstFlow).peer
  have htake : v.takeResponse p.dstFlow 0xA0 p =
      if be p.ext 4 1 ≠ 0 then logged.failInst e.ctx c n
      else if ((freed.ctx e.ctx).inst c n).isNone = true then freed else less.checkInst e.ctx c n := by
    rw [State.takeResponse, State.findTrk_congr hv.trk, htrk]
    dsimp only
    rw [hkind]
    rfl
  have hlogged : SameTables freed logged := State.sameTables_logRemote _ _ _ _ _ _
  have hidle : StaysIdle v (v.takeResponse p.dstFlow 0xA0 p) := by
    refine (StaysIdle.of_rel hfreed (by decide)).trans ?_
    rw [htake]
    split
    · exact (StaysIdle.of_tables hlogged).trans (State.staysIdle_failInst _ _ _ _)
    · split
      · exact fun _ h => h
      · exact (State.staysIdle_updInst _ _ _ _ (fun _ => by rfl)).trans (State.staysIdle_checkInst _ _ _ _)
  have htrks : (v.takeResponse p.dstFlow 0xA0 p).trk = s.trk.del k := by
    have hdel : freed.trk = s.trk.del k := by rw [← hv.trk]; rfl
    rw [htake, ← hdel]
    split
    · rw [(State.failInst_rel _ _ _ _).trk (by decide), (State.logRemote_rel _ _ _ _ _ _).trk (by decide)]
    · split
      · rfl
      · rw [(State.checkInst_rel _ _ _ _).trk (by decide), (State.updInst_rel _ _ _ _ _).trk (by decide)]
  refine ⟨_, rfl, hv.expected, fun hnone => (hv.freed hidle hnone).trans htrks, fun i hok hi h2 => ?_, fun i d hbad hi hissued hd hopen hid => ?_⟩
  · have hfound : (freed.ctx e.ctx).inst c n = some i := by rw [hctx, hi]
    have hless : (less.ctx e.ctx).inst c n = some { i with unanswered := i.unanswered - 1 } := State.inst_updInst hfound
    have hwaits : less.checkInst e.ctx c n = less := by
      unfold State.checkInst
      rw [hless]
      split
      · next j r hj hr =>
        cases hj
        exact if_pos (by simp; omega)
      · rfl
    rw [if_neg (not_not.mpr hok), if_neg (by simp [hfound]), hwaits] at htake
    have hsame := congrFun (congrFun (hv.answers e.ctx) c) n
    rw [htake] at hsame
    exact State.inst_of_answers hsame hless
  · rw [if_pos hbad] at htake
    obtain ⟨m, l, hlctx⟩ := hlogged e.ctx
    have hli : (logged.ctx e.ctx).inst c n = some i := by
      rw [hlctx]
      show (freed.ctx e.ctx).inst c n = some i
      rw [hctx, hi]
    have hld : d ∈ (logged.ring i.core i.ring).out := by
      rw [State.ring_congr ((State.logRemote_rel _ _ _ _ _ _).cores (by decide)), State.ring_congr (hfreed.cores (by decide)),
        State.ring_congr (hv.received.cores (by decide))]
      exact hd
    obtain ⟨hgone, hends⟩ := State.failInst_ends hli hissued hld hopen hid
    rw [← htake] at hgone hends
    refine ⟨?_, hends.of_cores hv.cores⟩
    have hsame := congrFun (congrFun (hv.answers e.ctx) c) n
    rw [Ctx.answers, Ctx.answers, hgone, Option.map_none] at hsame
    exact Option.map_eq_none_iff.mp hsame

end

/-- Settles O9, row by row: a response ends the request that the tracker holds for it; what waits for the tracker is then sent, and changes neither the memory nor the rings
nor what the instances wait for. -/
theorem responseRowsComplete : Obligations.ResponseRowsComplete := by
  unfold Obligations.ResponseRowsComplete
  refine ⟨fun mac p s k e d htrk hd hopen hid => ⟨?put, ?atomic, ?get⟩, ?coll⟩
  case put => exact fun ha hkind => exec_writeDone mac htrk hd hopen hid ha hkind
  case atomic => exact fun ha hkind => exec_atomicDone mac htrk hd hopen hid ha hkind
  case get => exact fun ha hkind hfirst => exec_readData mac htrk hd hopen hid ha hkind hfirst
  case coll => exact fun mac p s k e c n htrk ha hkind => exec_collectiveDone mac htrk ha hkind

end Sys2Proof.Machine

/-! SUPPORT. Control messages (O14): how one that arrives reaches its effect (R275), what one that is sent leaves, and what the end of flows keeps. -/

namespace Sys2Proof.Machine

/-! ### A control message arrives (R242, R275) -/

/-- The state on which a control message that arrives takes effect: counted, acknowledged, and noted as handled; the neighbours of the MACs still show the same level. -/
structure CtrlReady (s u : State) : Prop where
  keeps : Rel [.out, .fresh, .macs, .counters, .ecnDraws, .ctrlSeen] s u
  match_ : ∀ d, s.debugMatch d = true → u.debugMatch d = true

/-- A MAC of a state is one of its list, or as a MAC is at first. -/
theorem State.mac_cases (s : State) (m : Nat) : (∃ e ∈ s.macs, e.2 = s.mac m) ∨ s.mac m = {} := by
  rw [State.mac, Map.getOr]
  cases h : s.macs.find m with
  | none => exact .inr rfl
  | some v => exact .inl ⟨_, Map.mem_of_find h, rfl⟩

/-- A MAC that keeps its neighbour leaves what the neighbours show (R487). -/
theorem State.debugMatch_setMac {s : State} {m d : Nat} {c : Mac} (hc : c.neighbour = (s.mac m).neighbour) (h : s.debugMatch d = true) :
    (s.setMac m c).debugMatch d = true := by
  rw [State.debugMatch, List.all_eq_true] at h ⊢
  intro e he
  rcases Map.mem_set_or he with hmem | rfl
  · exact h e hmem
  · dsimp only
    rw [hc]
    rcases s.mac_cases m with ⟨e, hmem, heq⟩ | hnew
    · rw [← heq]
      exact h e hmem
    · rw [hnew]

theorem State.debugMatch_of_rel {l : List Fld} {s t : State} (h : Rel l s t) (hm : Fld.macs ∉ l) (hlife : Fld.life ∉ l) (d : Nat) : t.debugMatch d = s.debugMatch d := by
  rw [State.debugMatch, State.debugMatch, h.macs hm, h.life hlife]

theorem State.debugMatch_updMac {s : State} {m d : Nat} {f : Mac → Mac} (hf : (f (s.mac m)).neighbour = (s.mac m).neighbour) (h : s.debugMatch d = true) :
    (s.updMac m f).debugMatch d = true := State.debugMatch_setMac hf h

theorem State.debugMatch_leaveLpi {s : State} {m d : Nat} (h : s.debugMatch d = true) : (s.leaveLpi m).debugMatch d = true := by
  unfold State.leaveLpi
  extract_lets c
  split
  · exact h
  · rw [State.debugMatch_of_rel (State.countMac_rel _ _ _ _) (by decide) (by decide)]
    exact State.debugMatch_setMac (by rfl) h

theorem State.debugMatch_enqueue {s : State} {m q d : Nat} {f : Frame} (h : s.debugMatch d = true) : (s.enqueue m q f).debugMatch d = true := by
  unfold State.enqueue
  extract_lets r u f c queued
  have hu : u.debugMatch d = true := by rw [State.debugMatch_of_rel (State.ecn_rel s m q _) (by decide) (by decide)]; exact h
  exact State.debugMatch_leaveLpi (State.debugMatch_setMac (by rfl) hu)

theorem State.debugMatch_emitCtrl {s : State} {peer id op d : Nat} {body : List Byte} (h : s.debugMatch d = true) : (s.emitCtrl peer id op body).debugMatch d = true := by
  unfold State.emitCtrl
  extract_lets p
  split
  · exact h
  · exact State.debugMatch_enqueue h

theorem State.debugMatch_occupy {s : State} {m q len d : Nat} (h : s.debugMatch d = true) : (s.occupy m q len).debugMatch d = true := by
  unfold State.occupy
  extract_lets pt c was occ drawn kept sent
  split
  · exact h
  · have hkept : kept.debugMatch d = true := State.debugMatch_updMac (by rfl) h
    split
    · rw [State.debugMatch_of_rel (State.countMac_rel _ _ _ _) (by decide) (by decide)]
      exact State.debugMatch_updMac (by rfl) hkept
    · exact hkept

/-- A control message that arrives and has not been handled takes effect (R275). -/
theorem State.rxCtrl_acts {s : State} {op : Nat} {p : Pkt} (mac : Nat) (ha : s.CtrlArrives op p) {ok : List Byte → Bool} (hok : ok p.payload = true)
    (act : State → List Byte → State) : ∃ u, CtrlReady s u ∧ s.rxCtrl mac op p ok act = act u p.payload := by
  unfold State.rxCtrl
  extract_lets h len heard id now acked seen
  have hheard : Rel [.out, .fresh, .macs, .counters] s heard := ((State.countRx_rel s _ _ _).mono (by decide)).trans (State.occupy_rel _ _ _ _)
  have hacked : Rel [.macs, .ecnDraws, .counters] heard acked := State.emitCtrl_rel _ _ _ _ _
  have hnow : now = s.clk.tai.ns := by
    show heard.clk.tai.ns = _
    rw [hheard.clk (by decide)]
  have hseen : seen = s.ctrlSeen.filter (fun e => decide (now < e.2.2 + 10000000000)) := by
    show acked.ctrlSeen.filter _ = _
    rw [hacked.only .ctrlSeen (by decide), hheard.only .ctrlSeen (by decide)]
  have hnew : ¬ seen.any (fun e => decide (e.1 = p.srcDev) && decide (e.2.1 = id)) = true := by
    rw [hseen, List.any_eq_true]
    rintro ⟨e, he, hsame⟩
    obtain ⟨hmem, hyoung⟩ := List.mem_filter.mp he
    simp only [Bool.and_eq_true, decide_eq_true_eq] at hsame hyoung
    have hold := ha.unseen e hmem hsame.1 hsame.2
    omega
  have hdown : heard.start.gafferDown = false := by rw [hheard.start (by decide), ha.up]
  rw [if_neg (not_not.mpr ha.hcrc), if_neg (by simp [h, ha.hdr, ha.ext, hok]), if_neg (by simp [hheard.deviceId (by decide), ha.dst, ha.flow]),
    if_neg (by simp [hdown]), if_neg hnew]
  refine ⟨_, ⟨?_, fun d hd => ?_⟩, rfl⟩
  · exact (hheard.mono (by decide)).trans ((hacked.mono (by decide)).trans (Rel.set_ctrlSeen.mono (by decide)))
  · refine State.debugMatch_emitCtrl (State.debugMatch_occupy ?_)
    rw [State.debugMatch_of_rel (State.countRx_rel s _ _ _) (by decide) (by decide)]
    exact hd

section
variable {s u : State} (hu : CtrlReady s u)
include hu

theorem CtrlReady.flow (f : Nat) : u.flow f = s.flow f := State.flow_congr (hu.keeps.flows (by decide)) f
theorem CtrlReady.flows : u.flows = s.flows := hu.keeps.flows (by decide)
theorem CtrlReady.ctx (x : Nat) : u.ctx x = s.ctx x := State.ctx_congr (hu.keeps.ctxs (by decide)) x
theorem CtrlReady.ctxs : u.ctxs = s.ctxs := hu.keeps.ctxs (by decide)
theorem CtrlReady.ctrl : u.ctrl = s.ctrl := hu.keeps.only .ctrl (by decide)
theorem CtrlReady.ctrlNext : u.ctrlNext = s.ctrlNext := hu.keeps.only .ctrlNext (by decide)
theorem CtrlReady.clk : u.clk = s.clk := hu.keeps.clk (by decide)

theorem CtrlReady.closing (src : Nat) (b : List Byte) : u.closing src b = s.closing src b := by
  rw [State.closing, State.closing, hu.flow]

end

/-! ### A control message is sent (R258, R275) -/

/-- A message that is sent waits for CTRL_ACK under the next MSG_ID. -/
theorem State.sends_sendCtrl {s u : State} (h : u.ctrlNext = s.ctrlNext) (peer op : Nat) (body : List Byte) : Sends s (u.sendCtrl peer op body) peer op body := by
  have hctrl : ∃ m, (u.sendCtrl peer op body).ctrl = u.ctrl ++ [m] ∧ m.peer = peer ∧ m.msgId = u.ctrlNext ∧ m.op = op ∧ m.body = body := by
    unfold State.sendCtrl
    extract_lets id room m queued
    refine ⟨m, ?_, rfl, rfl, rfl, rfl⟩
    split
    · rw [(State.emitCtrl_rel _ _ _ _ _).only .ctrl (by decide)]
    · rfl
  obtain ⟨m, hm, hpeer, hid, hop, hbody⟩ := hctrl
  exact ⟨m, by rw [hm]; simp, hpeer, hid.trans h, hop, hbody⟩

theorem State.flow_sendCtrl (s : State) (peer op : Nat) (body : List Byte) (f : Nat) : (s.sendCtrl peer op body).flow f = s.flow f :=
  State.flow_congr ((State.sendCtrl_rel s peer op body).flows (by decide)) f

/-! ### OPEN (R250, R276, R277, R475) -/

/-- No running job is there: an OPEN is refused with reason 1. -/
theorem State.takeOpen_none {s : State} (h : ∀ e ∈ s.ctxs, e.2.job.phase < 3) (src : Nat) (b : List Byte) :
    s.takeOpen src b = s.sendCtrl src 0xE2 (beBytes 4 (be b 16 4) ++ beBytes 1 1 ++ zeros 3) := by
  unfold State.takeOpen
  extract_lets job rank theirs queue refuse runs
  have hnone : s.ctxs.filter (fun e => runs e.2) = [] := by
    rw [List.filter_eq_nil_iff]
    intro e he
    have hphase := h e he
    simp [runs]
    omega
  rw [hnone]

/-- The one context that runs the job, its rank free of flows, takes an OPEN: flow 256 is opening (R277, R475). -/
theorem State.takeOpen_opens {s : State} {x : Nat} {c : Ctx} {im : JobImage} {src : Nat} {b : List Byte} (hctxs : s.ctxs = [(x, c)]) (hphase : 3 ≤ c.job.phase)
    (him : c.job.image = some im) (hjob : im.man.jobId = be b 0 8) (hrank : c.job.rankNow = some [be b 8 2, be b 10 2, be b 12 2, be b 14 2])
    (hfence : c.fenced = false) (hadmits : c.admitsFlows = true) (hmatch : s.debugMatch src = true) (hjoins : c.job.joins src = true) (hflows : s.flows = [])
    (hgrant : 0 < c.grants.flows) : ∃ v : State, v.ctrlNext = s.ctrlNext ∧
      (v.flow 256).state = .opening ∧ (v.flow 256).ctx = x ∧ (v.flow 256).peer = src ∧ (v.flow 256).peerFlow = be b 16 4 ∧ (v.flow 256).queue = be b 24 1 ∧
      (v.flow 256).expected = be b 20 4 ∧
      s.takeOpen src b = v.sendCtrl src 0xE1 (beBytes 4 (be b 16 4) ++ beBytes 4 256 ++ beBytes 4 (v.flow 256).nextPsn ++ zeros 4) := by
  have hctx : s.ctx x = c := by simp [State.ctx, Map.getOr, Map.find, hctxs]
  have hfree : s.freeFlow = some 256 := by
    simp [State.freeFlow, hflows, Map.has, Map.find]
  have hroom : s.flowRoom x = true := by
    simp [State.flowRoom, State.flowCount, hflows, hctx, hgrant, hfree]
  let opened : State := s.draw.setFlow 256 (s.newFlow x src (be b 16 4) (be b 24 1) (be b 25 1) (s.firstPsn x src) (be b 20 4) (!c.job.plan.planned))
  let v : State := if c.job.plan.planned then opened.bindFlow x src (be b 24 1) 256 else opened
  have hv : Rel [.ctxs] opened v := by
    simp only [v]
    split
    · exact State.bindFlow_rel _ _ _ _ _
    · exact Rel.refl _ _
  have hflow : v.flow 256 = s.newFlow x src (be b 16 4) (be b 24 1) (be b 25 1) (s.firstPsn x src) (be b 20 4) (!c.job.plan.planned) := by
    rw [State.flow_congr (hv.flows (by decide)), State.flow_setFlow]
  refine ⟨v, ?_, ?_⟩
  · rw [hv.only .ctrlNext (by decide)]
    rfl
  · rw [hflow]
    refine ⟨rfl, rfl, rfl, rfl, rfl, rfl, ?_⟩
    unfold State.takeOpen
    extract_lets job rank theirs queue refuse runs
    have hruns : s.ctxs.filter (fun e => runs e.2) = [(x, c)] := by
      simp [hctxs, runs, hphase, him, hjob, job]
    rw [hruns]
    have hfind : [(x, c)].find? (fun e => decide (e.2.job.rankNow = some rank)) = some (x, c) := by
      simp [hrank, rank]
    dsimp only
    rw [hfind]
    dsimp only
    have hcross : s.crossing src x queue = none := by simp [State.crossing, hflows]
    rw [if_neg (by simp [hfence, hadmits, hmatch]), if_neg (by simp [hjoins]), hflows, hcross]
    dsimp only [List.find?_nil]
    rw [if_neg (by simp), hroom, if_neg (by simp), hfree]
    rfl

end Sys2Proof.Machine

/-! SUPPORT. The rows of the control messages (O14) that open, drain, close and rebuild flows. -/

namespace Sys2Proof.Machine

theorem exec_openFlow {s : State} {p : Pkt} (mac : Nat) (ha : s.CtrlArrives 0xE0 p) (hlen : p.payload.length = 28) (hresv : be p.payload 26 2 = 0) :
    ∃ t : State, exec (.openFlow mac p) s = .next t ∧
      ((∀ e ∈ s.ctxs, e.2.job.phase < 3) → Sends s t p.srcDev 0xE2 (beBytes 4 (be p.payload 16 4) ++ beBytes 1 1 ++ zeros 3)) ∧
      (∀ x c im, s.ctxs = [(x, c)] → 3 ≤ c.job.phase → c.job.image = some im → im.man.jobId = be p.payload 0 8 →
        c.job.rankNow = some [be p.payload 8 2, be p.payload 10 2, be p.payload 12 2, be p.payload 14 2] → c.fenced = false → c.admitsFlows = true →
        s.debugMatch p.srcDev = true → c.job.joins p.srcDev = true → s.flows = [] → 0 < c.grants.flows →
        (t.flow 256).state = .opening ∧ (t.flow 256).ctx = x ∧ (t.flow 256).peer = p.srcDev ∧ (t.flow 256).peerFlow = be p.payload 16 4 ∧
        (t.flow 256).queue = be p.payload 24 1 ∧ (t.flow 256).expected = be p.payload 20 4 ∧ Sends s t p.srcDev 0xE1
          (beBytes 4 (be p.payload 16 4) ++ beBytes 4 256 ++ beBytes 4 (t.flow 256).nextPsn ++ zeros 4)) := by
  obtain ⟨u, hu, hrx⟩ := State.rxCtrl_acts mac ha (ok := fun b => b.length == 28 && be b 26 2 == 0) (by simp [hlen, hresv])
    (fun s b => s.takeOpen p.srcDev b)
  refine ⟨u.takeOpen p.srcDev p.payload, congrArg Host.Outcome.next hrx, fun hnone => ?_, ?_⟩
  · rw [State.takeOpen_none (by rw [hu.ctxs]; exact hnone)]
    exact State.sends_sendCtrl hu.ctrlNext _ _ _
  · intro x c im hctxs hphase him hjob hrank hfence hadmits hmatch hjoins hflows hgrant
    obtain ⟨v, hnext, hst, hx, hpeer, hpf, hq, hexp, hopen⟩ := State.takeOpen_opens (hu.ctxs.trans hctxs) hphase him hjob hrank hfence hadmits
      (hu.match_ _ hmatch) hjoins (hu.flows.trans hflows) hgrant
    rw [hopen, State.flow_sendCtrl]
    exact ⟨hst, hx, hpeer, hpf, hq, hexp, State.sends_sendCtrl (hnext.trans hu.ctrlNext) _ _ _⟩

theorem exec_openAccept {s : State} {p : Pkt} {f : Nat} (mac : Nat) (ha : s.CtrlArrives 0xE1 p) (hlen : p.payload.length = 16) (hresv : be p.payload 12 4 = 0)
    (hf : f = be p.payload 0 4) (hst : (s.flow f).state = .opening) (hpeer : (s.flow f).peer = p.srcDev) (hpf : (s.flow f).peerFlow = 0) :
    ∃ t : State, exec (.openAccept mac p) s = .next t ∧ (t.flow f).state = .open_ ∧ (t.flow f).peerFlow = be p.payload 4 4 ∧
      (t.flow f).expected = be p.payload 8 4 ∧ (t.flow f).exec = be p.payload 8 4 ∧ (t.flow f).nextPsn = (s.flow f).nextPsn := by
  subst hf
  obtain ⟨u, hu, hrx⟩ := State.rxCtrl_acts mac ha (ok := fun b => b.length == 16 && be b 12 4 == 0) (by simp [hlen, hresv]) _
  have hgo : ¬ ((u.flow (be p.payload 0 4)).state != FlowState.opening || (u.flow (be p.payload 0 4)).peer != p.srcDev ||
      (u.flow (be p.payload 0 4)).peerFlow != 0) = true := by
    simp [hu.flow, hst, hpeer, hpf]
  refine ⟨_, congrArg Host.Outcome.next (hrx.trans (if_neg hgo)), ?_⟩
  rw [State.flow_setFlow]
  exact ⟨rfl, rfl, rfl, rfl, by rw [hu.flow]⟩

theorem exec_openRefuse {s : State} {p : Pkt} {f : Nat} (mac : Nat) (ha : s.CtrlArrives 0xE2 p) (hlen : p.payload.length = 8) (hresv : be p.payload 5 3 = 0)
    (hf : f = be p.payload 0 4) (hst : (s.flow f).state = .opening) (hpeer : (s.flow f).peer = p.srcDev) (hpf : (s.flow f).peerFlow = 0) :
    ∃ t u : State, exec (.openRefuse mac p) s = .next t ∧ u.flows = s.flows.del f ∧ t = u.retryOpens (s.flow f).ctx := by
  subst hf
  obtain ⟨u, hu, hrx⟩ := State.rxCtrl_acts mac ha (ok := fun b => b.length == 8 && be b 5 3 == 0) (by simp [hlen, hresv]) _
  have hgo : ¬ ((u.flow (be p.payload 0 4)).state != FlowState.opening || (u.flow (be p.payload 0 4)).peer != p.srcDev ||
      (u.flow (be p.payload 0 4)).peerFlow != 0) = true := by
    simp [hu.flow, hst, hpeer, hpf]
  refine ⟨_, { u with flows := u.flows.del (be p.payload 0 4), fcache := u.fcache.filter (fun g => g != be p.payload 0 4) },
    congrArg Host.Outcome.next (hrx.trans (if_neg hgo)), congrArg (fun m => Map.del m _) hu.flows, ?_⟩
  rw [← hu.flow]
  rfl

/-! ### CLOSE and CLOSE_DONE (R250) -/

/-- A draining flow with packets unacknowledged stays (R250). -/
theorem State.closeIfDone_of_tx {s : State} {f : Nat} (h : (s.flow f).tx ≠ []) : s.closeIfDone f = s := by
  unfold State.closeIfDone
  simp [h]

/-- A draining flow whose close is under way and whose packets are acknowledged has sent CLOSE_DONE, and is released when the peer's has come (R250). -/
theorem State.closeIfDone_of_done {s : State} {f : Nat} (hst : (s.flow f).state = .draining) (hclosing : (s.flow f).closing = true) (htx : (s.flow f).tx = []) :
    s.closeIfDone f =
      let v : State := if (s.flow f).doneSent then s
        else (s.setFlow f { s.flow f with doneSent := true }).sendCtrl (s.flow f).peer 0xE4 (beBytes 4 f ++ beBytes 4 (s.flow f).peerFlow)
      if (s.flow f).closeSeen then v.dropFlow f else v := by
  unfold State.closeIfDone
  simp [hst, hclosing, htx]

theorem exec_closeFlow {s : State} {p : Pkt} {f : Nat} (mac : Nat) (ha : s.CtrlArrives 0xE3 p) (hlen : p.payload.length = 8)
    (hclosing : s.closing p.srcDev p.payload = true) (hf : f = be p.payload 4 4) : ∃ t : State, exec (.closeFlow mac p) s = .next t ∧
      ((s.flow f).tx ≠ [] → (t.flow f).state = .draining ∧ (t.flow f).closing = true ∧ t.ctrl = s.ctrl) ∧
      ((s.flow f).tx = [] → (s.flow f).doneSent = false → (s.flow f).closeSeen = false → (t.flow f).state = .draining ∧ (t.flow f).doneSent = true ∧
        Sends s t (s.flow f).peer 0xE4 (beBytes 4 f ++ beBytes 4 (s.flow f).peerFlow)) := by
  subst hf
  obtain ⟨u, hu, hrx⟩ := State.rxCtrl_acts mac ha (ok := fun b => b.length == 8) (by simp [hlen]) _
  let v : State := u.updFlow (be p.payload 4 4) (fun fl => { fl with state := .draining, closing := true })
  have hv : v.flow (be p.payload 4 4) = { s.flow (be p.payload 4 4) with state := .draining, closing := true } := by
    rw [State.flow_updFlow, hu.flow]
  have hrow : exec (.closeFlow mac p) s = .next (v.closeIfDone (be p.payload 4 4)) :=
    congrArg Host.Outcome.next (hrx.trans (if_pos (by rw [hu.closing, hclosing])))
  refine ⟨_, hrow, fun htx => ?_, fun htx hsent hseen => ?_⟩
  · rw [State.closeIfDone_of_tx (by rw [hv]; exact htx), hv]
    exact ⟨rfl, rfl, hu.ctrl⟩
  · rw [State.closeIfDone_of_done (by rw [hv]) (by rw [hv]) (by rw [hv]; exact htx)]
    dsimp only
    rw [hv, if_neg (by simp [hseen]), if_neg (by simp [hsent]), State.flow_sendCtrl, State.flow_setFlow]
    dsimp only
    have hnext : ∀ fl, (v.setFlow (be p.payload 4 4) fl).ctrlNext = s.ctrlNext := fun _ => hu.ctrlNext
    exact ⟨rfl, rfl, State.sends_sendCtrl (hnext _) _ _ _⟩

theorem exec_closeDone {s : State} {p : Pkt} {f : Nat} (mac : Nat) (ha : s.CtrlArrives 0xE4 p) (hlen : p.payload.length = 8)
    (hclosing : s.closing p.srcDev p.payload = true) (hf : f = be p.payload 4 4) : ∃ t : State, exec (.closeDone mac p) s = .next t ∧
      ((s.flow f).tx ≠ [] → (t.flow f).state = .draining ∧ (t.flow f).closeSeen = true) ∧
      ((s.flow f).tx = [] → ∃ u : State, u.flows.find f = none ∧ t = u.retryOpens (s.flow f).ctx) := by
  subst hf
  obtain ⟨u, hu, hrx⟩ := State.rxCtrl_acts mac ha (ok := fun b => b.length == 8) (by simp [hlen]) _
  let v : State := u.updFlow (be p.payload 4 4) (fun fl => { fl with state := .draining, closing := true, closeSeen := true })
  have hv : v.flow (be p.payload 4 4) = { s.flow (be p.payload 4 4) with state := .draining, closing := true, closeSeen := true } := by
    rw [State.flow_updFlow, hu.flow]
  have hrow : exec (.closeDone mac p) s = .next (v.closeIfDone (be p.payload 4 4)) :=
    congrArg Host.Outcome.next (hrx.trans (if_pos (by rw [hu.closing, hclosing])))
  refine ⟨_, hrow, fun htx => ?_, fun htx => ?_⟩
  · rw [State.closeIfDone_of_tx (by rw [hv]; exact htx), hv]
    exact ⟨rfl, rfl⟩
  · have hdone := State.closeIfDone_of_done (s := v) (f := be p.payload 4 4) (by rw [hv]) (by rw [hv]) (by rw [hv]; exact htx)
    dsimp only at hdone
    rw [hv, if_pos rfl] at hdone
    have hdrop : ∀ w : State, (w.flow (be p.payload 4 4)).ctx = (s.flow (be p.payload 4 4)).ctx →
        ∃ u : State, u.flows.find (be p.payload 4 4) = none ∧ w.dropFlow (be p.payload 4 4) = u.retryOpens (s.flow (be p.payload 4 4)).ctx := fun w hw =>
      ⟨{ w with flows := w.flows.del (be p.payload 4 4), fcache := w.fcache.filter (fun g => g != be p.payload 4 4) }, Map.find_del _ _, by rw [← hw]; rfl⟩
    rw [hdone]
    refine hdrop _ ?_
    split
    · rw [hv]
    · rw [State.flow_sendCtrl, State.flow_setFlow]

/-! ### RESYNC_QUERY and RESYNC_STATE (R278) -/

theorem exec_resyncQuery {s : State} {p : Pkt} {f : Nat} (mac : Nat) (ha : s.CtrlArrives 0xE5 p) (hlen : p.payload.length = 8) (hf : f = be p.payload 4 4)
    (hpeer : (s.flow f).peer = p.srcDev) (hpf : (s.flow f).peerFlow = be p.payload 0 4) : ∃ t : State, exec (.resyncQuery mac p) s = .next t ∧
      Sends s t p.srcDev 0xE6 (beBytes 4 (be p.payload 0 4) ++ beBytes 4 (s.flow f).nextPsn ++ beBytes 4 (s.flow f).una ++ beBytes 4 (s.flow f).expected ++
        beBytes 1 (s.flow f).state.code ++ zeros 3) := by
  subst hf
  obtain ⟨u, hu, hrx⟩ := State.rxCtrl_acts mac ha (ok := fun b => b.length == 8) (by simp [hlen]) _
  refine ⟨_, congrArg Host.Outcome.next hrx, ?_⟩
  have hsends := State.sends_sendCtrl (u := u) hu.ctrlNext p.srcDev 0xE6 (beBytes 4 (be p.payload 0 4) ++ beBytes 4 (s.flow (be p.payload 4 4)).nextPsn ++
    beBytes 4 (s.flow (be p.payload 4 4)).una ++ beBytes 4 (s.flow (be p.payload 4 4)).expected ++ beBytes 1 (s.flow (be p.payload 4 4)).state.code ++ zeros 3)
  simpa only [hu.flow, hpeer, hpf, beq_self_eq_true, Bool.and_self, if_true] using hsends

/-- A flow that fails keeps whether its context is lost (R227, R265). -/
theorem State.lost_failFlow (s : State) (f : Nat) : ((s.failFlow f).flow f).lost = (s.flow f).lost := by
  by_cases h : (s.flow f).state ≠ .failed ∧ (s.flow f).state ≠ .closed
  · exact (State.flowsSent_failFlow h f).lost.trans (by rw [State.flow_setFlow])
  · have hsame : s.failFlow f = s := by
      unfold State.failFlow
      refine if_pos ?_
      simp only [ne_eq, not_and_or, not_not] at h
      rcases h with h | h <;> simp [h]
    rw [hsame]

/-- The flow that a RESYNC_STATE rebuilds (R278): what the peer acknowledges in it is done, and it expects what the peer has left of its own. -/
def Flow.rebuilt (fl : Flow) (b : List Byte) (now : Nat) : Flow :=
  let keep := fl.tx.filter (fun t => serialGe t.psn (be b 12 4))
  let e := psnSub (be b 4 4) (psnSub (be b 4 4) (be b 8 4))
  { fl with
    lost := false, expected := e, exec := e, una := be b 12 4
    nextPsn := keep.foldl (fun a t => if serialGe t.psn a then psnNext t.psn else a) (be b 12 4)
    tx := keep, progressNs := now }

/-- Whether the peer's state shows a PSN as not yet sent that this module has seen done (R278). -/
def Flow.beyond (fl : Flow) (b : List Byte) : Bool :=
  match fl.lastDone with | some d => serialGe d (psnNext (be b 8 4)) | none => false

theorem Flow.beyond_of_some {fl : Flow} {d : Nat} (h : fl.lastDone = some d) (b : List Byte) : fl.beyond b = serialGe d (psnNext (be b 8 4)) := by
  rw [Flow.beyond, h]

theorem Flow.beyond_eq_false {fl : Flow} {b : List Byte} (h : ∀ d, fl.lastDone = some d → serialGe d (psnNext (be b 8 4)) = false) : fl.beyond b = false := by
  cases hd : fl.lastDone with
  | none => rw [Flow.beyond, hd]
  | some d => rw [Flow.beyond_of_some hd, h d hd]

theorem exec_resyncState {s : State} {p : Pkt} {f : Nat} (mac : Nat) (ha : s.CtrlArrives 0xE6 p) (hlen : p.payload.length = 20) (hresv : be p.payload 17 3 = 0)
    (hf : f = be p.payload 0 4) (hlost : (s.flow f).lost = true) (hpeer : (s.flow f).peer = p.srcDev) : ∃ t : State, exec (.resyncState mac p) s = .next t ∧
      (t.flow f).lost = false ∧
      (be p.payload 16 1 ≠ 2 → (s.flow f).state = .open_ → (t.flow f).state = .failed) ∧
      (∀ d, (s.flow f).lastDone = some d → serialGe d (psnNext (be p.payload 8 4)) = true → (s.flow f).state = .open_ → (t.flow f).state = .failed) ∧
      (be p.payload 16 1 = 2 → (s.flow f).tx = [] → (∀ d, (s.flow f).lastDone = some d → serialGe d (psnNext (be p.payload 8 4)) = false) →
        (t.flow f).state = (s.flow f).state ∧ (t.flow f).una = be p.payload 12 4 ∧ (t.flow f).nextPsn = be p.payload 12 4 ∧
        (t.flow f).expected = psnSub (be p.payload 4 4) (psnSub (be p.payload 4 4) (be p.payload 8 4)) ∧ (t.flow f).exec = (t.flow f).expected) := by
  subst hf
  obtain ⟨u, hu, hrx⟩ := State.rxCtrl_acts mac ha (ok := fun b => b.length == 20 && be b 17 3 == 0) (by simp [hlen, hresv]) _
  have huf := hu.flow (be p.payload 0 4)
  have hrow : exec (.resyncState mac p) s = .next (if be p.payload 16 1 ≠ 2 ∨ (u.flow (be p.payload 0 4)).beyond p.payload = true then
      (u.setFlow (be p.payload 0 4) { u.flow (be p.payload 0 4) with lost := false }).failFlow (be p.payload 0 4)
    else (u.setFlow (be p.payload 0 4) ((u.flow (be p.payload 0 4)).rebuilt p.payload u.clk.tai.ns)).pump (be p.payload 0 4)) :=
    congrArg Host.Outcome.next (hrx.trans (if_neg (by simp [huf, hlost, hpeer])))
  rw [huf] at hrow
  generalize s.flow (be p.payload 0 4) = fl at *
  refine ⟨_, hrow, ?_⟩
  let kept : State := u.setFlow (be p.payload 0 4) { fl with lost := false }
  have hkept : kept.flow (be p.payload 0 4) = { fl with lost := false } := State.flow_setFlow _ _ _
  have hfails : fl.state = .open_ → ((kept.failFlow (be p.payload 0 4)).flow (be p.payload 0 4)).state = .failed := fun hopen =>
    (State.failFlow_fails (s := kept) (f := be p.payload 0 4) (by rw [hkept]; simp [hopen])).1
  split
  next hbad =>
    refine ⟨by rw [State.lost_failFlow, State.flow_setFlow], fun _ hopen => hfails hopen, fun _ _ _ hopen => hfails hopen, fun hgood _ hdone => ?_⟩
    rw [Flow.beyond_eq_false hdone] at hbad
    simp [hgood] at hbad
  next hgood =>
    rw [not_or, not_not] at hgood
    obtain ⟨hstate, hbeyond⟩ := hgood
    have hpump := State.pumped_pump (u.setFlow (be p.payload 0 4) (fl.rebuilt p.payload u.clk.tai.ns)) (be p.payload 0 4)
    rw [State.flow_setFlow] at hpump
    obtain ⟨ps, at_, tx, heq, -⟩ := hpump
    rw [heq]
    refine ⟨rfl, fun hbad => absurd hstate hbad, fun d hd hge => ?_, fun _ htx _ => ⟨rfl, rfl, ?_, rfl, rfl⟩⟩
    · rw [Flow.beyond_of_some hd] at hbeyond
      exact absurd hge hbeyond
    · show (fl.rebuilt p.payload u.clk.tai.ns).nextPsn = _
      rw [Flow.rebuilt, htx]
      rfl

end Sys2Proof.Machine

/-! SUPPORT. The rows of the control messages (O14) that lend windows, measure links, and acknowledge. -/

namespace Sys2Proof.Machine

/-! ### The windows that contexts hold (R214) -/

/-- No context holds a window that it did not hold. -/
def WindowsWithin (s t : State) : Prop := ∀ x, ∀ v ∈ (t.ctx x).t3, v ∈ (s.ctx x).t3

theorem WindowsWithin.refl (s : State) : WindowsWithin s s := fun _ _ hv => hv

theorem WindowsWithin.trans {s t u : State} (h : WindowsWithin s t) (g : WindowsWithin t u) : WindowsWithin s u := fun x v hv => h x v (g x v hv)

theorem WindowsWithin.foldl {α : Type} {f : State → α → State} (hf : ∀ s a, WindowsWithin s (f s a)) (l : List α) (s : State) : WindowsWithin s (l.foldl f s) := by
  induction l generalizing s with
  | nil => exact .refl s
  | cons a l ih => exact (hf s a).trans (ih _)

theorem WindowsWithin.of_same {s t : State} (h : SameCtx Ctx.t3 s t) : WindowsWithin s t := fun x v hv => by rwa [← h x]

theorem WindowsWithin.of_rel {l : List Fld} {s t : State} (h : Rel l s t) (hl : Fld.ctxs ∉ l) : WindowsWithin s t := .of_same (.of_rel h hl)

@[simp] theorem Ctx.t3_setBankEntry (c : Ctx) (b t : Nat) (e : TileEntry) : (c.setBankEntry b t e).t3 = c.t3 := by
  unfold Ctx.setBankEntry
  split <;> rfl

@[simp] theorem Ctx.t3_setMigEntry (c : Ctx) (t : Nat) (e : TileEntry) : (c.setMigEntry t e).t3 = c.t3 := c.t3_setBankEntry _ _ _

theorem State.t3_migDone (s : State) (k : Nat) : SameCtx Ctx.t3 s (s.migDone k) := .of_tables (fun _ _ _ => rfl) (s.sameTables_migDone k)

theorem State.t3_acceptMig (s : State) (m : Mig) (tier : Nat) (d : Nat × Nat) : SameCtx Ctx.t3 s (s.acceptMig m tier d) :=
  SameCtx.setCtx (s := s) (x := m.ctx) (Ctx.t3_setBankEntry _ _ _ _)

theorem State.t3_askMig (s : State) (a : MigAsk) : SameCtx Ctx.t3 s (s.askMig a).1 := by
  unfold State.askMig
  extract_lets c e old kept
  split
  · exact .refl s
  · split
    · split
      · exact .refl s
      · exact SameCtx.foldl (fun u (b : MigAsk) => u.t3_migDone b.handle) _ _
    · split
      · exact .refl s
      · split
        · exact .refl s
        · split
          · exact .refl s
          · exact s.t3_acceptMig _ _ _

theorem State.t3_askOrWait (s : State) (a : MigAsk) : SameCtx Ctx.t3 s (s.askOrWait a) := by
  have h := s.t3_askMig a
  unfold State.askOrWait
  split
  next u heq => rw [heq] at h; exact h
  next u _ heq => rw [heq] at h; exact h

theorem State.t3_abortMig (s : State) (x t : Nat) (cause : AbortCause) : SameCtx Ctx.t3 s (s.abortMig x t cause) := by
  unfold State.abortMig
  extract_lets c e u
  have hu : SameCtx Ctx.t3 s u := .setCtx (Ctx.t3_setMigEntry _ _ _)
  exact hu.trans (.of_tables (fun _ _ _ => rfl) (State.sameTables_count _ _ _ _))

/-- What a change of every context makes of the windows that a context holds. -/
theorem State.t3_vals {s : State} {f : Ctx → Ctx} (hf : (f {}).t3 = []) (x : Nat) :
    (({ s with ctxs := s.ctxs.vals (fun _ c => f c) } : State).ctx x).t3 = (f (s.ctx x)).t3 := by
  rw [State.ctx, State.ctx, Map.getOr, Map.getOr, Map.find_vals]
  cases s.ctxs.find x with
  | none => exact hf.symm
  | some c => rfl

theorem State.windowsWithin_releaseWindows (s : State) : WindowsWithin s s.releaseWindows := by
  unfold State.releaseWindows
  extract_lets due
  refine .foldl (fun u w => ?_) _ _
  dsimp only
  split
  · exact .refl u
  · refine .trans (t := { u with ctxs := u.ctxs.vals (fun _ (c : Ctx) => { c with t3 := c.t3.filter (fun v => !(v.lender = w.1 && v.window = w.2)) }) })
      (fun x v hv => ?_) (.of_rel (State.sendCtrl_rel _ _ _ _) (by decide))
    rw [State.t3_vals (f := fun c => { c with t3 := c.t3.filter (fun v => !(v.lender = w.1 && v.window = w.2)) }) rfl] at hv
    exact (List.mem_filter.mp hv).1

/-! ### RECLAIM_NOTICE, WINDOW_RELEASE and WINDOW_LOST (R214 to R217, R279) -/

theorem exec_reclaimNotice {s : State} {p : Pkt} (mac : Nat) (ha : s.CtrlArrives 0xE8 p) (hlen : p.payload.length = 12) (hresv : be p.payload 1 3 = 0) :
    ∃ t : State, exec (.reclaimNotice mac p) s = .next t ∧
      ∀ x, ∀ v ∈ (t.ctx x).t3, v.lender = p.srcDev → v.window = be p.payload 0 1 → v.deadline = some (be p.payload 4 8) := by
  obtain ⟨u, -, hrx⟩ := State.rxCtrl_acts mac ha (ok := fun b => b.length == 12 && be b 1 3 == 0) (by simp [hlen, hresv]) _
  refine ⟨_, congrArg Host.Outcome.next hrx, ?_⟩
  dsimp only
  let mark (v : T3Win) : T3Win := if v.lender == p.srcDev && v.window == be p.payload 0 1 then { v with deadline := some (be p.payload 4 8) } else v
  let marked : State := { u with ctxs := u.ctxs.vals (fun _ (c : Ctx) => { c with t3 := c.t3.map mark }) }
  have hmarked : ∀ x, ∀ v ∈ (marked.ctx x).t3, v.lender = p.srcDev → v.window = be p.payload 0 1 → v.deadline = some (be p.payload 4 8) := by
    intro x v hv hlender hwindow
    rw [State.t3_vals (f := fun c => { c with t3 := c.t3.map mark }) rfl] at hv
    obtain ⟨w, -, rfl⟩ := List.mem_map.mp hv
    by_cases hw : (w.lender == p.srcDev && w.window == be p.payload 0 1) = true
    · simp only [mark, if_pos hw]
    · simp only [mark, if_neg hw] at hlender hwindow
      simp [hlender, hwindow] at hw
  have hkeep : ∀ t : State, WindowsWithin marked t →
      ∀ x, ∀ v ∈ (t.ctx x).t3, v.lender = p.srcDev → v.window = be p.payload 0 1 → v.deadline = some (be p.payload 4 8) :=
    fun t ht x v hv => hmarked x v (ht x v hv)
  refine hkeep _ (.trans (.trans (.foldl (fun t (m : Mig) => .of_same (t.t3_abortMig m.ctx m.tile .reclaim)) _ marked)
    (.foldl (fun t x => .foldl (fun t i => .of_same (t.t3_askOrWait _)) _ t) _ _)) (State.windowsWithin_releaseWindows _))

theorem exec_windowRelease {s : State} {p : Pkt} {l : LendWin} (mac : Nat) (ha : s.CtrlArrives 0xE9 p) (hlen : p.payload.length = 4)
    (hresv : be p.payload 1 3 = 0) (hl : s.lend.find (be p.payload 0 1) = some l) (hst : l.state = 2) (hpeer : l.peers.contains p.srcDev = true)
    (hnew : l.released.contains p.srcDev = false) : ∃ t : State, exec (.windowRelease mac p) s = .next t ∧
      t.lend.find (be p.payload 0 1) = some { l with
        released := l.released ++ [p.srcDev]
        state := if l.peers.all (fun d => (l.released ++ [p.srcDev]).contains d) then 3 else 2 } := by
  obtain ⟨u, hu, hrx⟩ := State.rxCtrl_acts mac ha (ok := fun b => b.length == 4 && be b 1 3 == 0) (by simp [hlen, hresv])
    (fun s b => s.releaseBy (be b 0 1) p.srcDev)
  have hul : u.lend.find (be p.payload 0 1) = some l := by rw [hu.keeps.lend (by decide), hl]
  let l' : LendWin := { l with released := l.released ++ [p.srcDev] }
  let v : State := ({ u with lend := u.lend.set (be p.payload 0 1) l' } : State).progress1 l.handle
  have hv : v.lend.find (be p.payload 0 1) = some l' := by
    rw [(State.progress1_rel _ _).lend (by decide)]
    exact Map.find_set _ _ _
  have hrelease : u.releaseBy (be p.payload 0 1) p.srcDev = if l'.peers.all (fun d => l'.released.contains d) then v.revoke (be p.payload 0 1) else v := by
    rw [State.releaseBy, hul]
    exact if_neg (by rw [hpeer, hnew]; simp [hst])
  refine ⟨_, congrArg Host.Outcome.next hrx, ?_⟩
  rw [hrelease]
  by_cases hall : (l.peers.all (fun d => (l.released ++ [p.srcDev]).contains d)) = true
  · rw [if_pos hall, if_pos hall]
    exact State.find_revoke hv
  · rw [if_neg hall, if_neg hall, hv, ← hst]

theorem exec_windowLost {s : State} {p : Pkt} (mac : Nat) (ha : s.CtrlArrives 0xEA p) (hlen : p.payload.length = 4) (hresv : be p.payload 2 2 = 0)
    (hcause : be p.payload 1 1 = 1 ∨ be p.payload 1 1 = 2) : ∃ t : State, exec (.windowLost mac p) s = .next t ∧
      ∀ x, ∀ v ∈ (t.ctx x).t3, ¬ (v.lender = p.srcDev ∧ v.window = be p.payload 0 1) := by
  obtain ⟨u, -, hrx⟩ := State.rxCtrl_acts mac ha (ok := fun b => b.length == 4 && (be b 1 1 == 1 || be b 1 1 == 2) && be b 2 2 == 0)
    (by simp [hlen, hresv, hcause]) (fun s b => s.loseWindow 0x08 p.srcDev (be b 0 1))
  exact ⟨_, congrArg Host.Outcome.next hrx, fun x => State.t3_loseWindow _ _ _ _ x⟩

/-! ### PROBE and PROBE_REPLY (R280) -/

theorem exec_probe {s : State} {p : Pkt} (mac : Nat) (ha : s.CtrlArrives 0xEC p) (hok : probeOk p.payload = true) : ∃ t : State,
    exec (.probe mac p) s = .next t ∧ Sends s t p.srcDev 0xED (probeBody (be p.payload 0 4) (be p.payload 4 1) (be p.payload 5 1)) := by
  obtain ⟨u, hu, hrx⟩ := State.rxCtrl_acts mac ha (ok := probeOk) hok
    (fun s b => s.sendCtrl p.srcDev 0xED (probeBody (be b 0 4) (be b 4 1) (be b 5 1)))
  exact ⟨_, congrArg Host.Outcome.next hrx, State.sends_sendCtrl hu.ctrlNext _ _ _⟩

/-- A change of the link to a device by a port leaves such a link as the change makes it. -/
theorem State.measure_links (s : State) (port dev : Nat) (f : LinkMeasure → LinkMeasure) : ∃ l : LinkMeasure, l.devB = dev ∧ f l ∈ (s.measure port dev f).links := by
  unfold State.measure
  extract_lets same cls
  split
  next l hl =>
    have hdev : l.devB = dev ∧ l.cls = cls := by simpa using List.find?_some hl
    refine ⟨l, hdev.1, List.mem_map.mpr ⟨l, List.mem_of_find?_eq_some hl, if_pos hdev⟩⟩
  next => exact ⟨_, rfl, List.mem_append_right _ (List.mem_singleton_self _)⟩

theorem State.probes_measure (s : State) (port dev : Nat) (f : LinkMeasure → LinkMeasure) : (s.measure port dev f).probes = s.probes := by
  unfold State.measure
  extract_lets same cls
  split <;> rfl

theorem State.probeLast_measure (s : State) (port dev : Nat) (f : LinkMeasure → LinkMeasure) : (s.measure port dev f).probeLast = s.probeLast := by
  unfold State.measure
  extract_lets same cls
  split <;> rfl

/-- The link after a round trip: timed, at the least latency seen (R280). -/
def roundTripLink (lat : Nat) (l : LinkMeasure) : LinkMeasure :=
  { l with latencyNs := if l.timed then min l.latencyNs lat else lat, timed := true }

theorem roundTripLink_le (lat : Nat) (l : LinkMeasure) : (roundTripLink lat l).latencyNs ≤ lat := by
  rw [roundTripLink]
  dsimp only
  split
  · exact Nat.min_le_right _ _
  · exact Nat.le_refl _

theorem exec_probeReply {s : State} {p : Pkt} {q : Nat × Nat × Nat × Nat × Nat} (mac : Nat) (ha : s.CtrlArrives 0xED p) (hok : probeOk p.payload = true)
    (hq : s.probes.find? (fun q => q.1 = be p.payload 4 1 && q.2.1 = p.srcDev && q.2.2.1 = be p.payload 5 1 && q.2.2.2.1 = be p.payload 0 4) = some q) :
    ∃ t : State, exec (.probeReply mac p) s = .next t ∧ t.probes = s.probes.filter (fun r => r != q) ∧
      (be p.payload 5 1 = 0 → ∃ l ∈ t.links, l.devB = p.srcDev ∧ l.timed = true ∧ l.latencyNs ≤ s.clk.tai.ns - q.2.2.2.2) ∧
      (be p.payload 5 1 = 2 → t.probeLast.find (be p.payload 4 1 * 65536 + p.srcDev) = some s.clk.tai.ns) := by
  obtain ⟨u, hu, hrx⟩ := State.rxCtrl_acts mac ha (ok := probeOk) hok _
  have hprobes : u.probes = s.probes := hu.keeps.only .probes (by decide)
  have huq := hq
  rw [← hprobes] at huq
  refine ⟨_, congrArg Host.Outcome.next hrx, ?_⟩
  dsimp only
  rw [huq, ← hprobes, ← hu.clk]
  dsimp only
  split
  next hcls =>
    refine ⟨State.probes_measure _ _ _ _, fun _ => ?_, fun h => by omega⟩
    obtain ⟨l, hdev, hmem⟩ := State.measure_links (State.draw { u with probes := u.probes.filter (fun r => r != q) }) (be p.payload 4 1) p.srcDev
      (roundTripLink (u.clk.tai.ns - q.2.2.2.2 - Config.freeValue u.fresh % (u.clk.tai.ns - q.2.2.2.2 + 1)))
    exact ⟨_, hmem, hdev, rfl, (roundTripLink_le _ l).trans (Nat.sub_le _ _)⟩
  next hne =>
    split
    next hcls =>
      have hshown : ∀ t : State, t.probes = u.probes.filter (fun r => r != q) →
          t.probeLast = u.probeLast.set (be p.payload 4 1 * 65536 + p.srcDev) u.clk.tai.ns → t.probes = u.probes.filter (fun r => r != q) ∧
          (be p.payload 5 1 = 0 → ∃ l ∈ t.links, l.devB = p.srcDev ∧ l.timed = true ∧ l.latencyNs ≤ u.clk.tai.ns - q.2.2.2.2) ∧
          (be p.payload 5 1 = 2 → t.probeLast.find (be p.payload 4 1 * 65536 + p.srcDev) = some u.clk.tai.ns) := fun t hprobes hlast =>
        ⟨hprobes, fun h => absurd h hne, fun _ => by rw [hlast, Map.find_set]⟩
      split
      · split
        · exact hshown _ (State.probes_measure _ _ _ _) (State.probeLast_measure _ _ _ _)
        · exact hshown _ rfl rfl
      · exact hshown _ rfl rfl
    next hcls => exact ⟨rfl, fun h => absurd h hne, fun h => absurd h hcls⟩

/-! ### CTRL_ACK (R275, R277) -/

/-- A message that ends is gone, and one that waited for a place takes its. -/
theorem State.ctrl_endCtrl (s : State) (peer id : Nat) : ∀ k ∈ (s.endCtrl peer id).ctrl, ¬ (k.peer = peer ∧ k.msgId = id) := by
  have hleft : ∀ k ∈ s.ctrl.filter (fun m => !(m.peer = peer && m.msgId = id)), ¬ (k.peer = peer ∧ k.msgId = id) := fun k hk => by
    simpa [imp_iff_not_or] using (List.mem_filter.mp hk).2
  unfold State.endCtrl
  extract_lets u due
  split
  · exact hleft
  next w _ =>
    split
    · exact hleft
    · intro k hk
      rw [(State.emitCtrl_rel _ _ _ _ _).only .ctrl (by decide)] at hk
      obtain ⟨m, hm, rfl⟩ := List.mem_map.mp hk
      have hm' := hleft m hm
      split <;> exact hm'

theorem exec_ctrlAck {s : State} {p : Pkt} {m : CtrlMsg} (mac : Nat) (hcrc : p.hcrc = hcrcOf (hdrOf 0xEF p)) (hdr : hdrOk (hdrOf 0xEF p) = true)
    (hext : extOk 0xEF p.ext = true) (hempty : p.payload = []) (hdst : p.dstDev = s.deviceId) (hflow : p.dstFlow = 0)
    (hm : s.ctrl.find? (fun k => k.peer = p.srcDev && k.msgId = be p.ext 0 4 && k.attempts != 0) = some m) : ∃ t : State,
      exec (.ctrlAck mac p) s = .next t ∧ (∀ k ∈ t.ctrl, ¬ (k.peer = p.srcDev ∧ k.msgId = be p.ext 0 4)) ∧
      (m.op = 0xE1 → (s.flow (be m.body 4 4)).state = .opening → (t.flow (be m.body 4 4)).state = .open_) := by
  show ∃ t : State, execCtrlAck mac p s = .next t ∧ _
  unfold execCtrlAck
  extract_lets h len heard id u
  have hheard : Rel [.out, .fresh, .macs, .counters] s heard := ((State.countRx_rel s _ _ _).mono (by decide)).trans (State.occupy_rel _ _ _ _)
  rw [if_neg (not_not.mpr hcrc), if_neg (by simp [h, hdr, hext, hempty]), if_neg (by simp [hheard.deviceId (by decide), hdst, hflow]),
    hheard.only .ctrl (by decide), hm]
  dsimp only
  have hctrl : ∀ k ∈ u.ctrl, ¬ (k.peer = p.srcDev ∧ k.msgId = id) := heard.ctrl_endCtrl p.srcDev id
  have hkeep : u.flow (be m.body 4 4) = s.flow (be m.body 4 4) :=
    (State.flow_congr ((State.endCtrl_rel _ _ _).flows (by decide)) _).trans (State.flow_congr (hheard.flows (by decide)) _)
  rw [hkeep]
  split
  next hop => exact ⟨u, rfl, hctrl, fun h => absurd h hop⟩
  next =>
    split
    next hst => exact ⟨u, rfl, hctrl, fun _ h => by simp [h] at hst⟩
    next =>
      split
      · exact ⟨_, rfl, hctrl, fun _ _ => congrArg Flow.state (State.flow_setFlow u _ _)⟩
      · exact ⟨_, rfl, hctrl, fun _ _ => congrArg Flow.state (State.flow_setFlow u _ _)⟩

end Sys2Proof.Machine

/-! SUPPORT. The retransmission timer of a control message (O14), and the flows to a peer that is unreachable (R275). -/

namespace Sys2Proof.Machine

/-! ### What a failed flow leaves of the OPENs that wait (R248, R265) -/

@[simp] theorem Ctx.opens_setEntry (c : Ctx) (t : Nat) (e : TileEntry) : (c.setEntry t e).opens = c.opens := by
  unfold Ctx.setEntry Ctx.setBankEntry
  split <;> rfl

/-- Counters and the log are no OPENs. -/
theorem SameCtx.opens_of_tables {s t : State} (h : SameTables s t) : SameCtx Ctx.opens s t := .of_tables (fun _ _ _ => rfl) h

theorem State.opens_failInst (s : State) (x coll inst : Nat) : SameCtx Ctx.opens s (s.failInst x coll inst) := by
  unfold State.failInst
  split
  · exact .refl s
  · split
    · refine .trans (t := s.closeInst x coll inst) (.updCtx rfl) (.opens_of_tables (State.sameTables_complete _ _ _ _ _ _))
    · exact .refl s

theorem State.opens_flowUse (s : State) (f : Nat) : SameCtx Ctx.opens s (s.flowUse f) := by
  unfold State.flowUse
  split
  · exact .refl s
  · extract_lets part mine l
    split
    · exact .of_rel Rel.set_fcache (by decide)
    · exact .trans (t := { s with fcache := f :: l }) (.of_rel Rel.set_fcache (by decide)) (.opens_of_tables (State.sameTables_count _ _ _ _))

theorem State.opens_putBlock (s : State) (x coll inst : Nat) (r : CollRec) (i : CollInst) (dst kind : Nat) (data : List Byte) :
    SameCtx Ctx.opens s (s.putBlock x coll inst r i dst kind data) := by
  unfold State.putBlock
  split
  · exact .refl s
  · extract_lets f used tracked fmt
    exact .trans (s.opens_flowUse f) (.trans (t := tracked) (.of_rel (State.track_rel used _) (by decide)) (.of_rel (State.sendMsg_rel _ _ _ _) (by decide)))

theorem State.opens_sendStripe (s : State) (x gen : Nat) (p : StripeSend) : SameCtx Ctx.opens s (s.sendStripe x gen p) := by
  unfold State.sendStripe
  extract_lets fl data used tracked sent
  split
  · exact .refl s
  · split
    · exact .updCtx rfl
    · exact .trans (s.opens_flowUse p.flow) (.trans (t := tracked) (.of_rel (State.track_rel used _) (by decide))
        (.trans (t := sent) (.of_rel (State.sendMsg_rel _ _ _ _) (by decide)) (.updCtx (Ctx.opens_setEntry _ _ _))))

theorem State.opens_sendDue (s : State) (x : Nat) : SameCtx Ctx.opens s (s.sendDue x) := by
  unfold State.sendDue
  extract_lets sent due
  have hsent : SameCtx Ctx.opens s sent := .foldl (fun u e => by
    dsimp only
    split
    · split
      · exact .trans (t := u.updInst x _ _ _) (.updCtx rfl) (State.opens_putBlock _ _ _ _ _ _ _ _ _)
      · exact .refl u
    · exact .refl u) _ _
  exact hsent.trans (.trans (t := sent.updSec x (fun c => { c with stripes := [] })) (.updCtx rfl) (.foldl (fun u (e : Nat × StripeSend) => u.opens_sendStripe x e.1 e.2) _ _))

theorem State.opens_loseT3 (s : State) (cls : Nat) (sel : Nat → Nat → TileEntry → Bool) : SameCtx Ctx.opens s (s.loseT3 cls sel) := by
  unfold State.loseT3
  refine .foldl (fun u c => .foldl (fun v t => ?_) _ u) _ s
  exact .trans (.opens_of_tables (State.sameTables_tileError v _ _ _ _ _ _ _ _ _)) (.trans (.updCtx rfl) (.updCtx rfl))

theorem State.opens_failFlow (s : State) (f : Nat) : SameCtx Ctx.opens s (s.failFlow f) := by
  unfold State.failFlow
  extract_lets fl marked told mine freed ended hit gone
  split
  · exact .refl s
  · have htold : SameCtx Ctx.opens s told := .trans (t := marked) (.of_rel (State.setFlow_rel _ _ _) (by decide))
      (.opens_of_tables (State.sameTables_event _ _ _ _ _))
    have hfreed : SameCtx Ctx.opens s freed := htold.trans (.of_rel Rel.set_trk (by decide))
    have hended : SameCtx Ctx.opens freed ended := .foldl (fun u e => by
      split
      · exact .opens_of_tables (State.sameTables_complete _ _ _ _ _ _)
      · exact .opens_of_tables (State.sameTables_complete _ _ _ _ _ _)
      · exact .opens_of_tables (State.sameTables_complete _ _ _ _ _ _)
      · exact State.opens_failInst _ _ _ _
      · exact .refl u) _ _
    have hgone : SameCtx Ctx.opens ended gone := .foldl (fun u i => u.opens_failInst _ _ _) _ _
    exact hfreed.trans (hended.trans (hgone.trans ((State.opens_sendDue _ _).trans (State.opens_loseT3 _ _ _))))

/-! ### A flow to an unreachable peer times out (R250, R275) -/

/-- A flow of an unreachable peer: one still opening is released, any other fails. -/
def State.timeOut (s : State) (f : Nat) : State := if (s.flow f).state == FlowState.opening then s.dropFlow f else s.failFlow f

/-- A flow that carries nothing more. -/
def State.FlowOver (s : State) (f : Nat) : Prop := (s.flow f).state = .failed ∨ (s.flow f).state = .closed

/-- No OPEN waits for a flow context. -/
def State.NoOpens (s : State) : Prop := ∀ x, (s.ctx x).opens = []

theorem State.noOpens_of_ctxs {s : State} (h : ∀ e ∈ s.ctxs, e.2.opens = []) : s.NoOpens := fun x => by
  rw [State.ctx, Map.getOr]
  cases hf : s.ctxs.find x with
  | none => rfl
  | some c => exact h _ (Map.mem_of_find hf)

theorem State.NoOpens.of_same {s t : State} (h : s.NoOpens) (hst : SameCtx Ctx.opens s t) : t.NoOpens := fun x => (hst x).trans (h x)

/-- With no OPEN that waits, a flow released is a flow number less. -/
theorem State.NoOpens.dropFlow {s : State} (h : s.NoOpens) (f : Nat) :
    s.dropFlow f = { s with flows := s.flows.del f, fcache := s.fcache.filter (fun g => g != f) } := by
  unfold State.dropFlow State.retryOpens
  extract_lets x
  have hx : ({ s with flows := s.flows.del f, fcache := s.fcache.filter (fun g => g != f) } : State).ctx x = s.ctx x := rfl
  rw [hx, h x]
  rfl

theorem State.NoOpens.timeOut {s : State} (h : s.NoOpens) (f : Nat) : (s.timeOut f).NoOpens := by
  unfold State.timeOut
  split
  · rw [h.dropFlow]
    exact h
  · exact h.of_same (s.opens_failFlow f)

/-- A flow over stays so when it is to fail. -/
theorem State.FlowOver.failFlow_eq {s : State} {f : Nat} (h : s.FlowOver f) : s.failFlow f = s := by
  unfold State.failFlow
  refine if_pos ?_
  rcases h with h | h <;> simp [h]

theorem State.flowOver_failFlow (s : State) (f : Nat) : (s.failFlow f).FlowOver f := by
  by_cases h : s.FlowOver f
  · rw [h.failFlow_eq]
    exact h
  · rw [State.FlowOver, not_or] at h
    exact .inl (State.failFlow_fails h).1

theorem State.FlowOver.failFlow {s : State} {g : Nat} (hg : s.FlowOver g) (f : Nat) : (s.failFlow f).FlowOver g := by
  by_cases h : s.FlowOver f
  · rw [h.failFlow_eq]
    exact hg
  · have hne : g ≠ f := fun heq => h (heq ▸ hg)
    rw [State.FlowOver, not_or] at h
    rw [State.FlowOver, (State.flowsSent_failFlow h g).state, State.flow_setFlow_ne _ _ hne]
    exact hg

/-- A key that stays holds what it held. -/
theorem Map.find_del_ne {α : Type} (m : Map α) {k j : Nat} (h : j ≠ k) : (m.del k).find j = m.find j := by
  induction m with
  | nil => rfl
  | cons e m ih =>
    rw [Map.del] at ih
    by_cases he : e.1 = k
    · have hj : ¬ k = j := fun hk => h hk.symm
      simp [Map.del, Map.find, he, ih, hj]
    · simp [Map.del, Map.find, he, ih]

theorem State.flow_delFlow (s : State) (f g : Nat) :
    ({ s with flows := s.flows.del f, fcache := s.fcache.filter (fun k => k != f) } : State).flow g = if g = f then {} else s.flow g := by
  by_cases h : g = f
  · rw [if_pos h, h, State.flow, Map.getOr, Map.find_del]
    rfl
  · rw [if_neg h, State.flow, Map.getOr, Map.find_del_ne _ h]
    rfl

theorem State.flowOver_timeOut {s : State} (h : s.NoOpens) (f : Nat) : (s.timeOut f).FlowOver f := by
  unfold State.timeOut
  split
  · rw [h.dropFlow, State.FlowOver, State.flow_delFlow, if_pos rfl]
    exact .inr rfl
  · exact s.flowOver_failFlow f

theorem State.FlowOver.timeOut {s : State} {g : Nat} (hg : s.FlowOver g) (h : s.NoOpens) (f : Nat) : (s.timeOut f).FlowOver g := by
  unfold State.timeOut
  split
  · rw [h.dropFlow, State.FlowOver, State.flow_delFlow]
    split
    · exact .inr rfl
    · exact hg
  · exact hg.failFlow f

/-- Every flow of a list that times out is over at its end. -/
theorem State.flowOver_timeOuts {s : State} (h : s.NoOpens) (l : List Nat) {g : Nat} (hg : g ∈ l ∨ s.FlowOver g) : (l.foldl State.timeOut s).FlowOver g := by
  induction l generalizing s with
  | nil => simpa using hg
  | cons f l ih =>
    refine ih (h.timeOut f) ?_
    rcases hg with hg | hg
    · rcases List.mem_cons.mp hg with rfl | hmem
      · exact .inr (State.flowOver_timeOut h _)
      · exact .inl hmem
    · exact .inr (hg.timeOut h f)

/-! ### An unreachable peer (R216, R275) -/

theorem State.ctrl_unreachable (s : State) (peer : Nat) : ∀ k ∈ (s.unreachable peer).ctrl, k.peer ≠ peer := fun k hk => by
  simpa using (List.mem_filter.mp hk).2

theorem State.flowOver_unreachable {s : State} (h : s.NoOpens) {peer : Nat} {f : Nat × Flow} (hf : f ∈ s.flows) (hpeer : f.2.peer = peer) :
    (s.unreachable peer).FlowOver f.1 := by
  unfold State.unreachable
  extract_lets fs ended ws lost
  have hover : ended.FlowOver f.1 := State.flowOver_timeOuts h fs (.inl (List.mem_map.mpr ⟨f, List.mem_filter.mpr ⟨hf, by simpa using hpeer⟩, rfl⟩))
  have hlost : Rel [.out, .ctxs, .mailboxes, .log, .logNext, .logOverflow] ended lost := Rel.foldl (fun u w => State.loseWindow_rel u _ _ _) (Rel.refl _ _)
  rw [State.FlowOver] at hover ⊢
  rwa [← State.flow_congr (hlost.flows (by decide))] at hover

theorem exec_ctrlRetransmitTimeout {s : State} {peer id : Nat} {m : CtrlMsg}
    (hm : s.ctrl.find? (fun k => k.peer = peer && k.msgId = id && k.attempts != 0) = some m) : ∃ t : State,
      exec (.ctrlRetransmitTimeout peer id) s = .next t ∧ t.clk = (s.toTai m.dueNs).clk ∧
        (m.attempts < 10 → t.ctrl = s.ctrl.map (fun k =>
          if k.peer = peer ∧ k.msgId = id then { k with attempts := k.attempts + 1, dueNs := m.dueNs + 1000000 } else k)) ∧
        (10 ≤ m.attempts → (∀ k ∈ t.ctrl, k.peer ≠ peer) ∧ ((∀ e ∈ s.ctxs, e.2.opens = []) → ∀ f ∈ s.flows, f.2.peer = peer →
          (t.flow f.1).state = .failed ∨ (t.flow f.1).state = .closed)) := by
  have hkeep := State.toTai_rel s m.dueNs
  show ∃ t : State, execCtrlRetransmitTimeout peer id s = .next t ∧ _
  unfold execCtrlRetransmitTimeout
  rw [hm]
  dsimp only
  generalize s.toTai m.dueNs = u at hkeep ⊢
  split
  next hmax =>
    refine ⟨_, rfl, (State.unreachable_rel _ _).clk (by decide), fun h => absurd h (by omega), fun _ => ⟨u.ctrl_unreachable peer, fun hopens f hf hpeer => ?_⟩⟩
    refine State.flowOver_unreachable (State.noOpens_of_ctxs ?_) ?_ hpeer
    · rwa [hkeep.ctxs (by decide)]
    · rwa [hkeep.flows (by decide)]
  next hmore =>
    refine ⟨_, rfl, ?_, fun _ => ?_, fun h => absurd h hmore⟩
    · rw [(State.countFab_rel _ _).clk (by decide), (State.emitCtrl_rel _ _ _ _ _).clk (by decide)]
    · rw [(State.countFab_rel _ _).only .ctrl (by decide), (State.emitCtrl_rel _ _ _ _ _).only .ctrl (by decide), ← hkeep.only .ctrl (by decide)]

/-- Settles O14, row by row: a control message that arrives takes effect on a state that keeps the flows, the contexts and the messages; a lost flow is rebuilt or
fails; the flows to an unreachable peer end one after another, and one that has ended stays so. -/
theorem flowControlRowsComplete : Obligations.FlowControlRowsComplete := by
  unfold Obligations.FlowControlRowsComplete
  exact ⟨fun mac p s ha hlen hresv => exec_openFlow mac ha hlen hresv,
    fun mac p f s ha hlen hresv hf hst hpeer hpf => exec_openAccept mac ha hlen hresv hf hst hpeer hpf,
    fun mac p f s ha hlen hresv hf hst hpeer hpf => exec_openRefuse mac ha hlen hresv hf hst hpeer hpf,
    fun mac p f s ha hlen hclosing hf => exec_closeFlow mac ha hlen hclosing hf,
    fun mac p f s ha hlen hclosing hf => exec_closeDone mac ha hlen hclosing hf,
    fun mac p f s ha hlen hf hpeer hpf => exec_resyncQuery mac ha hlen hf hpeer hpf,
    fun mac p f s ha hlen hresv hf hlost hpeer => exec_resyncState mac ha hlen hresv hf hlost hpeer,
    fun mac p s ha hlen hresv => exec_reclaimNotice mac ha hlen hresv,
    fun mac p l s ha hlen hresv hl hst hpeer hnew => exec_windowRelease mac ha hlen hresv hl hst hpeer hnew,
    fun mac p s ha hlen hresv hcause => exec_windowLost mac ha hlen hresv hcause,
    fun mac p s ha hok => exec_probe mac ha hok,
    fun mac p q s ha hok hq => exec_probeReply mac ha hok hq,
    fun mac p m s hcrc hdr hext hempty hdst hflow hm => exec_ctrlAck mac hcrc hdr hext hempty hdst hflow hm,
    fun peer id m s hm => exec_ctrlRetransmitTimeout hm⟩

end Sys2Proof.Machine

/-! SUPPORT. The rows of the ports (O15): what sending leaves of a MAC, how a frame enters a transmit queue, and how a pause is set and ends. -/

namespace Sys2Proof.Machine

/-! ### What sending leaves of a MAC (R286, R296) -/

/-- A MAC without what a frame that enters a transmit queue can change: its queues and its low-power idle. -/
def Mac.unsent (c : Mac) : Mac := { c with queues := [], lpiTx := false, wakeAt := 0, idleSince := 0 }

/-- From s to t every MAC is the same but for its queues and its low-power idle. -/
def OnlySent (s t : State) : Prop := ∀ m, (t.mac m).unsent = (s.mac m).unsent

theorem OnlySent.of_macs {s t : State} (h : t.macs = s.macs) : OnlySent s t := fun m => by rw [State.mac_congr h]

theorem OnlySent.trans {s t u : State} (h : OnlySent s t) (g : OnlySent t u) : OnlySent s u := fun m => (g m).trans (h m)

theorem State.mac_setMac_ne (s : State) {m n : Nat} (v : Mac) (h : n ≠ m) : (s.setMac m v).mac n = s.mac n := Map.getOr_set_ne _ _ _ h

theorem OnlySent.setMac {s : State} {m : Nat} {v : Mac} (h : v.unsent = (s.mac m).unsent) : OnlySent s (s.setMac m v) := fun n => by
  by_cases hn : n = m
  · rw [hn, State.mac_setMac, h]
  · rw [State.mac_setMac_ne _ _ hn]

/-- What does not depend on queues and low-power idle is the same. -/
theorem OnlySent.field {α : Type} {s t : State} (h : OnlySent s t) (g : Mac → α) (hg : ∀ c, g c.unsent = g c) (m : Nat) : g (t.mac m) = g (s.mac m) := by
  rw [← hg, h m, hg]

theorem State.onlySent_leaveLpi (s : State) (m : Nat) : OnlySent s (s.leaveLpi m) := by
  unfold State.leaveLpi
  extract_lets c
  split
  · exact .of_macs rfl
  · exact .trans (t := s.setMac m _) (.setMac (by rfl)) (.of_macs rfl)

theorem State.onlySent_enqueue (s : State) (m q : Nat) (f : Frame) : OnlySent s (s.enqueue m q f) := by
  unfold State.enqueue
  extract_lets r t f' c c'
  exact .trans (t := t) (.of_macs ((State.ecn_rel s m q f).macs (by decide))) (.trans (.setMac (by rfl)) (State.onlySent_leaveLpi _ _))

theorem State.onlySent_pumpN (s : State) (f n : Nat) : OnlySent s (s.pumpN f n) := by
  induction n generalizing s with
  | zero => exact .of_macs rfl
  | succ n ih =>
    unfold State.pumpN
    extract_lets fl
    split
    · exact .of_macs rfl
    · split
      · exact .of_macs rfl
      · split
        · exact .of_macs rfl
        · split
          · exact .of_macs rfl
          · extract_lets _ _ h fr t
            exact .trans (t := t) (.of_macs (by rfl)) (.trans (State.onlySent_enqueue t _ _ _) (ih _))

theorem State.onlySent_pumpAll (s : State) : OnlySent s s.pumpAll := by
  unfold State.pumpAll
  generalize s.flows.map (fun e => e.1) = l
  induction l generalizing s with
  | nil => exact .of_macs rfl
  | cons f l ih => exact (State.onlySent_pumpN s f 257).trans (ih _)

@[simp] theorem State.clk_pumpAll (s : State) : s.pumpAll.clk = s.clk := (State.pumpAll_rel s).clk (by decide)

/-! ### A frame that enters a transmit queue (R271, R286) -/

@[simp] theorem State.queues_leaveLpi (s : State) (m : Nat) : ((s.leaveLpi m).mac m).queues = (s.mac m).queues := by
  unfold State.leaveLpi
  extract_lets c
  split
  · rfl
  · show (((s.setMac m _).mac m).queues) = _
    rw [State.mac_setMac]

/-- A frame that cannot be marked is the last of its queue. -/
theorem State.queues_enqueue (s : State) (m q : Nat) {f : Frame} (hf : ∀ udp, markable udp f.body = false) :
    ((s.enqueue m q f).mac m).queues.getOr q [] = (s.mac m).queues.getOr q [] ++ [f] := by
  have hecn : s.ecn m q f = (s, f) := by simp [State.ecn, hf]
  unfold State.enqueue
  rw [hecn, State.queues_leaveLpi, State.mac_setMac, Map.getOr_upd]

/-- A MAC that leaves low-power idle wakes in the negotiated time (R296). -/
theorem State.leaveLpi_wakes {s : State} {m : Nat} (h : (s.mac m).lpiTx = true) : ((s.leaveLpi m).mac m).lpiTx = false ∧
    ((s.leaveLpi m).mac m).wakeAt = s.clk.cycle + cyclesOfNs (s.mac m).wakeNs := by
  rw [State.leaveLpi]
  simp only [h, Bool.not_true, Bool.false_eq_true, if_false]
  show ((s.setMac m _).mac m).lpiTx = false ∧ ((s.setMac m _).mac m).wakeAt = _
  rw [State.mac_setMac]
  exact ⟨rfl, rfl⟩

theorem State.mac_toTai (s : State) (n m : Nat) : (s.toTai n).mac m = s.mac m := State.mac_congr ((State.toTai_rel s n).macs (by decide)) m

/-! ### Frames for the gaffer, and frames that no unit takes (R238, R285) -/

theorem exec_arpRequest {s : State} {m a : Nat} (b c : Nat) (henc : (s.port (m / 4)).encap = 1) (hip : (s.port (m / 4)).ownIp = 4 * 2 ^ 128 + a) :
    ∃ t : State, exec (.arpRequest m a b c) s = .next t ∧ (t.mac m).queues.getOr 0 [] =
      (s.mac m).queues.getOr 0 [] ++ [({ body := .arp a b c, len := 64, wrap := s.ipWrap m c 0x0806 } : Frame)] :=
  ⟨_, if_pos ⟨henc, hip⟩, State.queues_enqueue (s.countGaffer m) m 0 fun _ => rfl⟩

theorem exec_neighbourSolicitation {s : State} {m a : Nat} (b c : Nat) (henc : (s.port (m / 4)).encap = 1)
    (hip : (s.port (m / 4)).ownIp = 6 * 2 ^ 128 + a) : ∃ t : State, exec (.neighbourSolicitation m a b c) s = .next t ∧ (t.mac m).queues.getOr 0 [] =
      (s.mac m).queues.getOr 0 [] ++ [({ body := .neighbour a b c, len := 90, wrap := s.ipWrap m c 0x86DD } : Frame)] :=
  ⟨_, if_pos ⟨henc, hip⟩, State.queues_enqueue (s.countGaffer m) m 0 fun _ => rfl⟩

theorem unhandledFrame_row {m k : Nat} {b : Bool} {w : DropCause} (s : State)
    (h : (w, k) ∈ [(DropCause.controlConfig b, 0x0200 + 80 * m + 32), (.badFcs, 0x0200 + 80 * m + 32), (.badLength, 0x0200 + 80 * m + 32),
      (.etherType, 0x0200 + 80 * m + 32), (.secondTag, 0x0200 + 80 * m + 32), (.bufferFull, 0x0200 + 80 * m + 33), (.encapsulation, 0x0C06),
      (.udpChecksum, 0x0C07), (.ip, 0x0C08)]) : exec (.unhandledFrame m w) s = .next (s.countM k 1) := by
  simp only [List.mem_cons, Prod.mk.injEq, List.not_mem_nil, or_false] at h
  rcases h with ⟨rfl, rfl⟩ | ⟨rfl, rfl⟩ | ⟨rfl, rfl⟩ | ⟨rfl, rfl⟩ | ⟨rfl, rfl⟩ | ⟨rfl, rfl⟩ | ⟨rfl, rfl⟩ | ⟨rfl, rfl⟩ | ⟨rfl, rfl⟩
  all_goals rfl

/-! ### Pause (R264, R290) -/

/-- The pause of a priority has ended: of the MAC, the time, the rate and the other pauses are as they were. -/
theorem State.endPause_ends (s : State) (m q : Nat) : ((s.endPause m q).mac m).paused.find q = none ∧
    (∀ j, j ≠ q → ((s.endPause m q).mac m).paused.find j = (s.mac m).paused.find j) ∧ ((s.endPause m q).mac m).rateMbps = (s.mac m).rateMbps := by
  unfold State.endPause
  extract_lets c
  split
  · next hq => exact ⟨hq, fun _ _ => rfl, rfl⟩
  · extract_lets upto from_ u now
    have hu : u.mac m = { c with paused := c.paused.del q, pausedFrom := c.pausedFrom.del q
                                 pauseAll := c.pauseAll && decide (1 < c.paused.length) } := State.mac_setMac _ _ _
    show (u.mac m).paused.find q = none ∧ (∀ j, j ≠ q → (u.mac m).paused.find j = _) ∧ (u.mac m).rateMbps = _
    rw [hu]
    exact ⟨Map.find_del _ _, fun j hj => Map.find_del_ne _ hj, rfl⟩

/-- What the pause of a priority is when a control frame gives it so many quanta, or does not name it (R290). -/
def State.pauseOf (s : State) (m q : Nat) : Option Nat → Option Nat
  | none => (s.mac m).paused.find q
  | some n => if n = 0 then none else some (s.clk.cycle + quantaCycles (s.mac m).rateMbps n)

/-- From s to t a control frame has set the pause of priority q of MAC m, and nothing else that a pause depends on. -/
structure SetsPause (m q : Nat) (v : Option Nat) (s t : State) : Prop where
  clk : t.clk = s.clk
  rate : (t.mac m).rateMbps = (s.mac m).rateMbps
  here : (t.mac m).paused.find q = s.pauseOf m q v
  others : ∀ j, j ≠ q → (t.mac m).paused.find j = (s.mac m).paused.find j

theorem State.setPause_sets (s : State) (m q n : Nat) : SetsPause m q (some n) s (s.setPause m q n) := by
  obtain ⟨hend, hothers, hrate⟩ := s.endPause_ends m q
  have hclk : (s.endPause m q).clk = s.clk := (State.endPause_rel s m q).clk (by decide)
  unfold State.setPause
  extract_lets u
  by_cases hn : n = 0
  · rw [if_pos hn]
    exact ⟨hclk, hrate, by rw [hend, State.pauseOf, if_pos hn], hothers⟩
  · rw [if_neg hn]
    refine ⟨hclk, ?_, ?_, fun j hj => ?_⟩
    · rw [State.mac_updMac, hrate]
    · rw [State.mac_updMac, Map.find_set, hclk, hrate, State.pauseOf, if_neg hn]
    · rw [State.mac_updMac, Map.find_set_ne _ _ hj, hothers j hj]

/-- Priorities paused one after another, each once: each has the pause that the frame gives it, and the rest keep theirs. -/
theorem State.paused_foldl {m : Nat} {f : State → Nat → State} {v : Nat → Option Nat} (hf : ∀ s q, SetsPause m q (v q) s (f s q)) {l : List Nat}
    (hl : l.Nodup) (s : State) (j : Nat) : ((l.foldl f s).mac m).paused.find j = if j ∈ l then s.pauseOf m j (v j) else (s.mac m).paused.find j := by
  induction l generalizing s with
  | nil => rfl
  | cons q l ih =>
    obtain ⟨hq, hl⟩ := List.nodup_cons.mp hl
    obtain ⟨hclk, hrate, hhere, hothers⟩ := hf s q
    rw [List.foldl_cons, ih hl]
    by_cases hj : j = q
    · subst hj
      rw [if_neg hq, hhere, if_pos List.mem_cons_self]
    · have hof : ∀ w, (f s q).pauseOf m j w = s.pauseOf m j w := fun w => by
        cases w with
        | none => exact hothers j hj
        | some n => rw [State.pauseOf, hclk, hrate, State.pauseOf]
      rw [hof, hothers j hj]
      simp [hj]

theorem exec_pauseFrame {s : State} {m q : Nat} (n : Nat) (hfc : (s.port (m / 4)).flowctl = 1) (hq : q < 8) : ∃ t : State,
    exec (.pauseFrame m n) s = .next t ∧ (t.mac m).pauseAll = decide (n % 65536 ≠ 0) ∧ (t.mac m).paused.find q =
      (if n % 65536 = 0 then none else some (s.clk.cycle + quantaCycles (s.mac m).rateMbps (n % 65536))) := by
  let paused : State := (List.range 8).foldl (fun s q => s.setPause m q (n % 65536)) (s.countMac m 42 1)
  let marked : State := paused.updMac m (fun c => { c with pauseAll := n % 65536 != 0 })
  have hrow : exec (.pauseFrame m n) s = .next (if n % 65536 = 0 then marked.pumpAll else marked) := if_neg (not_not.mpr hfc)
  have hsent : OnlySent marked (if n % 65536 = 0 then marked.pumpAll else marked) := by
    split
    · exact State.onlySent_pumpAll _
    · exact .of_macs rfl
  have hfold : (paused.mac m).paused.find q = (s.countMac m 42 1).pauseOf m q (some (n % 65536)) := by
    rw [State.paused_foldl (v := fun _ => some (n % 65536)) (fun s q => s.setPause_sets m q (n % 65536)) List.nodup_range, if_pos (List.mem_range.mpr hq)]
  refine ⟨_, hrow, ?_, ?_⟩
  · rw [hsent.field Mac.pauseAll (fun _ => rfl), State.mac_updMac, Bool.eq_iff_iff]
    simp
  · rw [hsent.field Mac.paused (fun _ => rfl), State.mac_updMac]
    exact hfold

/-- What a PFC frame makes of one priority: its pause when the enable bit is set (R290). -/
def State.setNamed (m en : Nat) (l : List Nat) (s : State) (q : Nat) : State :=
  if bit en q then (s.countMac m (34 + q) 1).setPause m q (l.getD q 0 % 65536) else s

theorem State.setNamed_sets (m en : Nat) (l : List Nat) (s : State) (q : Nat) :
    SetsPause m q (if bit en q then some (l.getD q 0 % 65536) else none) s (s.setNamed m en l q) := by
  unfold State.setNamed
  split
  · obtain ⟨hclk, hrate, hhere, hothers⟩ := (s.countMac m (34 + q) 1).setPause_sets m q (l.getD q 0 % 65536)
    exact ⟨hclk, hrate, hhere, hothers⟩
  · exact ⟨rfl, rfl, rfl, fun _ _ => rfl⟩

theorem exec_pfcFrame {s : State} {m q : Nat} (en : Nat) (l : List Nat) (hfc : (s.port (m / 4)).flowctl = 2) (hq : q < 8) : ∃ t : State,
    exec (.pfcFrame m en l) s = .next t ∧ (t.mac m).paused.find q =
      (if bit en q = false then (s.mac m).paused.find q
       else if l.getD q 0 % 65536 = 0 then none else some (s.clk.cycle + quantaCycles (s.mac m).rateMbps (l.getD q 0 % 65536))) := by
  have hrow : exec (.pfcFrame m en l) s = .next ((List.range 8).foldl (State.setNamed m en l) s).pumpAll := if_neg (not_not.mpr hfc)
  refine ⟨_, hrow, ?_⟩
  rw [(State.onlySent_pumpAll _).field Mac.paused (fun _ => rfl), State.paused_foldl (State.setNamed_sets m en l) List.nodup_range,
    if_pos (List.mem_range.mpr hq)]
  cases bit en q <;> rfl

theorem exec_pauseExpiry {s : State} {m q e : Nat} (hq : (s.mac m).paused.find q = some e) : ∃ t : State, exec (.pauseExpiry m q) s = .next t ∧
    t.clk = (s.toCycle e).clk ∧ (t.mac m).paused.find q = none := by
  have hrow : exec (.pauseExpiry m q) s = .next ((s.toCycle e).endPause m q).pumpAll := by
    show execPauseExpiry m q s = _
    rw [execPauseExpiry, hq]
  refine ⟨_, hrow, ?_, ?_⟩
  · rw [State.clk_pumpAll, (State.endPause_rel _ m q).clk (by decide)]
  · rw [(State.onlySent_pumpAll _).field Mac.paused (fun _ => rfl)]
    exact ((s.toCycle e).endPause_ends m q).1

/-! ### The receiver's pauses (R291) -/

theorem exec_pfcRepeat {s : State} {m q a : Nat} (ha : (s.mac m).xoffSent.find q = some a)
    (hocc : (s.port (m / 4)).xon.getD q 0 < (s.mac m).rxOcc.getOr q 0) : ∃ t : State, exec (.pfcRepeat m q) s = .next t ∧
      t.clk = (s.toCycle (a + quantaCycles (s.mac m).rateMbps 0xFFFF * 2 / 5)).clk ∧
      (∃ f, t.out = s.out ++ [Output.frame m f] ∧ f.body = .pfc (2 ^ q) 0xFFFF) ∧ (t.mac m).xoffSent.find q = some t.clk.cycle := by
  let u : State := (s.toCycle (a + quantaCycles (s.mac m).rateMbps 0xFFFF * 2 / 5)).emit (.frame m (pfcFrameFor m q 0xFFFF))
  have hrow : exec (.pfcRepeat m q) s =
      .next ((u.updMac m (fun c => { c with xoffSent := c.xoffSent.set q u.clk.cycle })).countMac m (43 + q) 1) := by
    show execPfcRepeat m q s = _
    rw [execPfcRepeat]
    simp only [ha]
    exact if_neg (Nat.not_le.mpr hocc)
  refine ⟨_, hrow, rfl, ⟨_, rfl, rfl⟩, ?_⟩
  show ((u.updMac m (fun c => { c with xoffSent := c.xoffSent.set q u.clk.cycle })).mac m).xoffSent.find q = _
  rw [State.mac_updMac, Map.find_set]
  rfl

theorem exec_pfcXonSend {s : State} {m q : Nat} (ha : (s.mac m).xoffSent.has q = true) : ∃ t : State, exec (.pfcXonSend m q) s = .next t ∧
    (∃ f, t.out = s.out ++ [Output.frame m f] ∧ f.body = .pfc (2 ^ q) 0) ∧ (t.mac m).xoffSent.find q = none := by
  show ∃ t : State, execPfcXonSend m q s = .next t ∧ _
  unfold execPfcXonSend
  extract_lets c xon occ u
  rw [if_neg (not_not.mpr ha)]
  have hu : u.mac m = { c with rxOcc := c.rxOcc.set q occ, xoffSent := c.xoffSent.del q } := State.mac_setMac _ _ _
  refine ⟨_, rfl, ⟨_, rfl, rfl⟩, ?_⟩
  show (u.mac m).xoffSent.find q = none
  rw [hu]
  exact Map.find_del _ _

/-! ### Scheduled windows (R294) -/

theorem exec_windowOpen {s : State} {x i : Nat} {e : EvtEntry} (hw : s.windowOf x i = some e)
    (hturn : s.evTurn x 4 i ((s.ctx x).job.atOff e.startOff) = true) : ∃ t : State, ∃ w, exec (.windowOpen x i) s = .next t ∧
      t.clk = (s.toTai ((s.ctx x).job.atOff e.startOff)).clk ∧ (t.mac e.mac).window = some w ∧ w.ctx = x ∧ w.entry = i ∧ w.coll = e.collId ∧
      w.endNs = (s.ctx x).job.atOff e.endOff ∧ w.rate = e.rate := by
  have hrow : exec (.windowOpen x i) s = execWindowOpen x i s := rfl
  rw [hrow]
  unfold execWindowOpen
  rw [hw]
  dsimp -zeta only
  extract_lets j marked m woken excused opened fs paced
  rw [if_neg (by simp [j, hturn])]
  have hopen : ∃ w, (opened.mac m).window = some w ∧ w.ctx = x ∧ w.entry = i ∧ w.coll = e.collId ∧ w.endNs = j.atOff e.endOff ∧ w.rate = e.rate :=
    ⟨_, congrArg Mac.window (State.mac_updMac excused m _), rfl, rfl, rfl, rfl, rfl⟩
  obtain ⟨w, hwin, hparts⟩ := hopen
  have hclk : opened.clk = (s.toTai (j.atOff e.startOff)).clk :=
    calc opened.clk = excused.clk := State.updMac_clk _ _ _
      _ = woken.clk := (State.excuse_rel _ _ _ _ _).clk (by decide)
      _ = marked.clk := (State.leaveLpi_rel _ _).clk (by decide)
      _ = (s.toTai (j.atOff e.startOff)).clk := (State.evMark_rel _ _ _ _).clk (by decide)
  refine ⟨paced.pumpAll, w, rfl, ?_, ?_, hparts⟩
  · rw [State.clk_pumpAll]
    exact hclk
  · rw [(State.onlySent_pumpAll paced).field Mac.window (fun _ => rfl)]
    exact hwin

theorem exec_windowClose {s : State} {x i : Nat} {e : EvtEntry} {w : OpenWin} (hw : s.windowOf x i = some e) (hwin : (s.mac e.mac).window = some w)
    (hx : w.ctx = x) (hi : w.entry = i) (hturn : s.evTurn x 1 i w.endNs = true) : ∃ t : State, exec (.windowClose x i) s = .next t ∧
      t.clk = (s.toTai w.endNs).clk ∧ (t.mac e.mac).window = none ∧ (t.mac e.mac).queues = (s.mac e.mac).queues := by
  let u : State := (s.toTai w.endNs).updMac e.mac (fun c => { c with window := none, winClosedNs := (s.toTai w.endNs).clk.tai.ns })
  have hrow : ∃ missed : Bool, exec (.windowClose x i) s =
      .next (if missed then ((u.count x 189 1).countMac e.mac 60 1).event 0x0002 1 x [e.mac, w.coll] else u) := by
    show ∃ missed : Bool, execWindowClose x i s = _
    rw [execWindowClose, hw]
    dsimp only
    rw [hwin]
    dsimp only
    rw [if_neg (by simp [hx, hi, hturn])]
    exact ⟨_, rfl⟩
  obtain ⟨missed, hexec⟩ := hrow
  have hu : u.mac e.mac = { s.mac e.mac with window := none, winClosedNs := (s.toTai w.endNs).clk.tai.ns } := by
    rw [State.mac_updMac, State.mac_toTai]
  have htold : Rel [.out, .ctxs, .mailboxes, .log, .logNext, .logOverflow, .counters] u
      (if missed then ((u.count x 189 1).countMac e.mac 60 1).event 0x0002 1 x [e.mac, w.coll] else u) := by
    split
    · exact ((State.count_rel u x 189 1).mono (by decide)).trans
        (((State.countMac_rel _ _ _ _).mono (by decide)).trans ((State.event_rel _ _ _ _ _).mono (by decide)))
    · exact .refl _ _
  refine ⟨_, hexec, htold.clk (by decide), ?_, ?_⟩
  · rw [State.mac_congr (htold.macs (by decide)), hu]
  · rw [State.mac_congr (htold.macs (by decide)), hu]

/-! ### LLDP and low-power idle (R295, R296) -/

/-- The LLDP frame that a MAC sends (R295). -/
def State.lldpFrame (s : State) (m : Nat) : Frame :=
  { body := .lldp { chassis := macAddr 0, portId := macAddr m, sysName := Config.systemName, oui := Config.oui, device := s.deviceId
                    port := m / 4, mac := m, lanesUp := (s.port (m / 4)).lanesUp
                    encap := (s.port (m / 4)).encap + (if s.life.debug = 2 then 128 else 0), fwRev := s.life.fwRev }
    len := 128, wrap := plainWrap m 0x0180C200000E 0x88CC }

theorem State.lldpFrame_of_rel {l : List Fld} {s t : State} (h : Rel l s t) (hdev : Fld.deviceId ∉ l) (hports : Fld.ports ∉ l) (hlife : Fld.life ∉ l)
    (m : Nat) : t.lldpFrame m = s.lldpFrame m := by
  rw [State.lldpFrame, State.lldpFrame, h.deviceId hdev, h.life hlife, State.port_congr (h.ports hports)]

theorem exec_lldpTransmit {s : State} {m : Nat} (hup : (s.mac m).up = true) : ∃ t : State, exec (.lldpTransmit m) s = .next t ∧
    (t.mac m).lldpNs = t.clk.tai.ns ∧ (t.mac m).queues.getOr 0 [] = (s.mac m).queues.getOr 0 [] ++ [s.lldpFrame m] := by
  let v : State := if (s.mac m).lldpNs = 0 then s else s.toTai ((s.mac m).lldpNs + 30000000000)
  have hv : Rel [.clk] s v := by
    simp only [v]
    split
    · exact .refl _ _
    · exact State.toTai_rel _ _
  let u : State := v.updMac m (fun c => { c with lldpNs := v.clk.tai.ns })
  have hrow : exec (.lldpTransmit m) s = .next (u.enqueue m 0 (v.lldpFrame m)) := if_neg (not_not.mpr hup)
  have hclk : (u.enqueue m 0 (v.lldpFrame m)).clk = v.clk := (State.enqueue_rel u m 0 _).clk (by decide)
  refine ⟨_, hrow, ?_, ?_⟩
  · rw [(State.onlySent_enqueue u m 0 _).field Mac.lldpNs (fun _ => rfl), State.mac_updMac, hclk]
  · rw [State.queues_enqueue u m 0 fun _ => rfl, State.mac_updMac, State.mac_congr (hv.macs (by decide)),
      State.lldpFrame_of_rel hv (by decide) (by decide) (by decide)]

theorem exec_lldpdu (s : State) (m : Nat) (n : LldpInfo) : ∃ t : State, exec (.lldpdu m n) s = .next t ∧ (t.mac m).neighbour = some n ∧
    (t.mac m).neighbourNs = s.clk.tai.ns ∧ (t.mac m).partnerWakeUs = n.eeeWakeUs := by
  have hrow : ∃ (u : State) (told several : Bool), exec (.lldpdu m n) s = .next (if told then u.event 0x0008 1 noCtx [m] else u) ∧
      u.mac m = { s.mac m with neighbour := some n, neighbourNs := s.clk.tai.ns, partnerWakeUs := n.eeeWakeUs, several := several } :=
    ⟨_, _, _, rfl, State.mac_setMac _ m _⟩
  obtain ⟨u, told, several, hexec, hu⟩ := hrow
  have hmac : (if told then u.event 0x0008 1 noCtx [m] else u).mac m = u.mac m := by
    split
    · exact State.mac_congr ((State.event_rel _ _ _ _ _).macs (by decide)) m
    · rfl
  refine ⟨_, hexec, ?_⟩
  rw [hmac, hu]
  exact ⟨rfl, rfl, rfl⟩

theorem exec_lpiEntry {s : State} {m : Nat} (heee : (s.port (m / 4)).eee = true) (hwake : (s.mac m).partnerWakeUs.isSome = true)
    (hup : (s.mac m).up = true) (hlpi : (s.mac m).lpiTx = false) (hretrain : (s.mac m).retrainFrom = none)
    (hqueues : (s.mac m).queues.all (fun q => q.2.isEmpty) = true) (hfwd : s.fwdBytes (m / 4) = 0)
    (hnear : (s.toCycle ((s.mac m).idleSince + cyclesOfNs ((s.port (m / 4)).idleHoldUs * 1000))).windowNear m ((s.mac m).wakeNs + 2000) = false) :
    ∃ t : State, exec (.lpiEntry m) s = .next t ∧ (t.mac m).lpiTx = true ∧ (t.mac m).lpiFrom = t.clk.cycle ∧
      t.clk = (s.toCycle ((s.mac m).idleSince + cyclesOfNs ((s.port (m / 4)).idleHoldUs * 1000))).clk := by
  let u : State := s.toCycle ((s.mac m).idleSince + cyclesOfNs ((s.port (m / 4)).idleHoldUs * 1000))
  let idle : State := u.updMac m (fun c => { c with lpiTx := true, lpiFrom := u.clk.cycle })
  have hrow : exec (.lpiEntry m) s = .next (idle.countMac m 61 1) := by
    show execLpiEntry m s = _
    unfold execLpiEntry
    dsimp only
    rw [if_neg (by simp [heee, Option.isSome_iff_ne_none.mp hwake, hup, hlpi, hretrain, hqueues, hfwd])]
    exact if_neg (by rw [hnear]; exact Bool.false_ne_true)
  have hidle : idle.mac m = { u.mac m with lpiTx := true, lpiFrom := u.clk.cycle } := State.mac_updMac _ _ _
  exact ⟨_, hrow, congrArg Mac.lpiTx hidle, congrArg Mac.lpiFrom hidle, rfl⟩

theorem exec_lpiWakeForWindow {s : State} {m x i : Nat} {e : EvtEntry} (hw : s.windowOf x i = some e) (hmac : e.mac = m) (hlpi : (s.mac m).lpiTx = true) :
    ∃ t : State, exec (.lpiWakeForWindow m x i) s = .next t ∧ t.clk = (s.toTai ((s.ctx x).job.atOff e.startOff - (s.mac m).wakeNs - 1000)).clk ∧
      (t.mac m).lpiTx = false ∧ (t.mac m).wakeAt = t.clk.cycle + cyclesOfNs (s.mac m).wakeNs := by
  let u : State := s.toTai ((s.ctx x).job.atOff e.startOff - (s.mac m).wakeNs - 1000)
  have hrow : exec (.lpiWakeForWindow m x i) s = .next (u.leaveLpi m) := by
    show execLpiWakeForWindow m x i s = _
    rw [execLpiWakeForWindow, hw]
    exact if_neg (by simp [hmac, hlpi])
  have hu : u.mac m = s.mac m := State.mac_toTai _ _ _
  have hclk : (u.leaveLpi m).clk = u.clk := (State.leaveLpi_rel u m).clk (by decide)
  obtain ⟨hout, hat⟩ := State.leaveLpi_wakes (s := u) (m := m) (by rw [hu, hlpi])
  exact ⟨_, hrow, hclk, hout, by rw [hat, hclk, hu]⟩

/-- Settles O15, row by row: a frame that enters a transmit queue is its last; a control frame sets the pause of each priority that it names; what is sent when a
pause ends or a window opens leaves the pauses and the window as they are. -/
theorem portRowsComplete : Obligations.PortRowsComplete := by
  unfold Obligations.PortRowsComplete
  exact ⟨fun m a b c s henc hip => exec_arpRequest b c henc hip,
    fun m a b c s henc hip => exec_neighbourSolicitation b c henc hip,
    fun m w k b s h => ⟨_, unhandledFrame_row s h, rfl⟩,
    fun m n q s hfc hq => exec_pauseFrame n hfc hq,
    fun m en l q s hfc hq => exec_pfcFrame en l hfc hq,
    fun m q e s hq => exec_pauseExpiry hq,
    fun m q a s ha hocc => exec_pfcRepeat ha hocc,
    fun m q s ha => exec_pfcXonSend ha,
    fun x i e s hw hturn => exec_windowOpen hw hturn,
    fun x i e w s hw hwin hx hi hturn => exec_windowClose hw hwin hx hi hturn,
    fun m pt s hup hpt => hpt ▸ exec_lldpTransmit hup,
    fun m n s => exec_lldpdu s m n,
    fun m s heee hwake hup hlpi hretrain hqueues hfwd hnear => exec_lpiEntry heee hwake hup hlpi hretrain hqueues hfwd hnear,
    fun m x i e s hw hmac hlpi => exec_lpiWakeForWindow hw hmac hlpi⟩

end Sys2Proof.Machine

/-! SUPPORT. The rows of time and lanes (O16): what an offset makes of the clock, the role of a PTP port, the retraining and the retirement of a lane, and how a MAC
gains link. -/

namespace Sys2Proof.Machine

/-! ### The servo (R299, R300) -/

/-- The clock after an offset from its master: it follows it, or steps to it, as a job runs and the offset is large. -/
def Clock.corrected (c : Clock) (runs : Bool) (off ppb : Int) : Clock :=
  if runs then { c with offsetNs := off, freqPpb := max (-200000) (min 200000 ppb), ptpState := if 1000000 < off.natAbs then 3 else 1 }
  else if 1000 < off.natAbs then { c with offsetNs := 0, ptpState := 1, tai := { c.tai with ns := ((c.tai.ns : Int) - off).toNat } }
  else { c with offsetNs := off, freqPpb := max (-200000) (min 200000 ppb), ptpState := 1 }

@[simp] theorem State.clk_servo (s : State) (off ppb : Int) : (s.servo off ppb).clk = s.clk.corrected s.jobRuns off ppb := by
  unfold State.servo Clock.corrected
  extract_lets f c bad u
  split
  · have hu : u.clk = { s.clk with offsetNs := off, freqPpb := f, ptpState := if 1000000 < off.natAbs then 3 else 1 } := by
      simp only [u, bad, c, decide_eq_true_eq]
    split
    · rw [State.clk_event, hu]
    · exact hu
  · split
    · rfl
    · rfl

/-- What the correction leaves of the clock: it writes the offset, the frequency, the state and the nanoseconds alone. -/
theorem Clock.corrected_leaves (c : Clock) (runs : Bool) (off ppb : Int) : ∃ o f st n, c.corrected runs off ppb =
    { c with offsetNs := o, freqPpb := f, ptpState := st, tai := { c.tai with ns := n } } := by
  unfold Clock.corrected
  split
  · exact ⟨_, _, _, c.tai.ns, rfl⟩
  · split
    · exact ⟨_, c.freqPpb, _, _, rfl⟩
    · exact ⟨_, _, _, c.tai.ns, rfl⟩

/-- The PTP state of a port after a change of it, and of another port. -/
theorem State.ptp_updPtp_same (s : State) (p : Nat) (f : PtpPort → PtpPort) : (s.updPtp p f).clk.ptp.getOr p {} = f (s.clk.ptp.getOr p {}) :=
  Map.getOr_upd _ _ _ _ _

theorem State.ptp_updPtp_ne (s : State) {p q : Nat} (hq : q ≠ p) (f : PtpPort → PtpPort) :
    (s.updPtp p f).clk.ptp.getOr q {} = s.clk.ptp.getOr q {} := Map.getOr_set_ne _ _ _ hq

/-- A Sync of the master drives the servo with its offset less the mean path delay. -/
theorem State.clk_followSync (s : State) (p : Nat) (k : PtpMsg) (off : Int) : ∃ c : Clock, (s.followSync p k off).clk =
    c.corrected s.jobRuns (off - (s.clk.ptp.getOr p {}).delayNs) k.freqPpb ∧ c.tai = s.clk.tai ∧ c.masterId = k.clock := by
  let u : State := s.updPtp p (fun q => { q with syncRx := none, offNs := some off })
  have hdelay : (u.clk.ptp.getOr p {}).delayNs = (s.clk.ptp.getOr p {}).delayNs := by
    rw [State.ptp_updPtp_same]
  refine ⟨{ u.clk with masterId := k.clock, holdErrNs := 0 }, ?_, rfl, rfl⟩
  rw [← hdelay]
  exact State.clk_servo _ _ _

/-! ### PTP messages (R299) -/

/-- A Sync with its time, or the Follow_Up of a Sync received at r, from the port's master. -/
theorem exec_ptpMessage_follows {s : State} {m : Nat} {p : PtpMsg} {r n : Int} (hd : p.domain = s.clk.domain) (hf : s.clk.follows (m / 4) p = true)
    (hb : p.body = .sync (some n) ∧ r = s.ptpStamp (m / 4) ∨ p.body = .followUp n ∧ (s.clk.ptp.getOr (m / 4) {}).syncRx = some r) :
    exec (.ptpMessage m p) s = .next ((s.countGaffer m).followSync (m / 4) p (r - n)) := by
  have hf' : (s.countGaffer m).clk.follows (m / 4) p = true := hf
  refine (if_neg (not_not.mpr hd)).trans ?_
  rcases hb with ⟨hb, rfl⟩ | ⟨hb, hr⟩
  · rw [hb]
    exact if_pos hf'
  · have hr' : ((s.countGaffer m).clk.ptp.getOr (m / 4) {}).syncRx = some r := hr
    rw [hb]
    dsimp only
    rw [hr']
    exact if_pos hf'

theorem exec_ptpMessage_announce {s : State} {m : Nat} {p : PtpMsg} {d : PtpData} (hd : p.domain = s.clk.domain) (hb : p.body = .announce d) :
    exec (.ptpMessage m p) s = .next ((s.countGaffer m).hearMaster (m / 4) p d) := by
  refine (if_neg (not_not.mpr hd)).trans ?_
  rw [hb]

theorem exec_ptpMessage_delayReq {s : State} {m : Nat} {p : PtpMsg} (hd : p.domain = s.clk.domain) (hb : p.body = .delayReq)
    (hrole : s.clk.ptpRole (m / 4) = .master) :
    exec (.ptpMessage m p) s = .next ((s.countGaffer m).sendPtp m (.delayResp p.clock p.port) (s.ptpStamp (m / 4))) := by
  have hrole' : (s.countGaffer m).clk.ptpRole (m / 4) = .master := hrole
  refine (if_neg (not_not.mpr hd)).trans ?_
  rw [hb]
  exact if_pos hrole'

theorem exec_ptpMessage_delayResp {s : State} {m : Nat} {p : PtpMsg} {a b k : Int} (hd : p.domain = s.clk.domain)
    (hb : p.body = .delayResp k ownClock (m / 4 + 1)) (hf : s.clk.follows (m / 4) p = true) (ha : (s.clk.ptp.getOr (m / 4) {}).offNs = some a)
    (hreq : (s.clk.ptp.getOr (m / 4) {}).reqNs = some b) :
    exec (.ptpMessage m p) s = .next ((s.countGaffer m).updPtp (m / 4) (fun q => { q with delayNs := (a + (k - b)) / 2 })) := by
  have hf' : (s.countGaffer m).clk.follows (m / 4) p = true := hf
  have ha' : ((s.countGaffer m).clk.ptp.getOr (m / 4) {}).offNs = some a := ha
  have hreq' : ((s.countGaffer m).clk.ptp.getOr (m / 4) {}).reqNs = some b := hreq
  refine (if_neg (not_not.mpr hd)).trans ?_
  rw [hb]
  dsimp only
  rw [ha', hreq']
  exact if_pos ⟨by simp [forPort], hf'⟩

/-- An Announce of another clock, of at most 254 steps, is among those that the port has heard. -/
theorem State.hearMaster_hears {s : State} {p : Nat} {k : PtpMsg} {d : PtpData} (hown : k.clock ≠ ownClock) (hsteps : d.steps < 255) :
    (s.hearMaster p k d).clk.tai = s.clk.tai ∧
      ({ clock := k.clock, port := k.port, data := d, heardNs := s.clk.tai.ns } : PtpForeign) ∈ ((s.hearMaster p k d).clk.ptp.getOr p {}).foreign := by
  have hheard : ¬ (k.clock = ownClock ∨ 255 ≤ d.steps) := fun h => h.elim hown (by omega)
  rw [State.hearMaster, if_neg hheard]
  refine ⟨rfl, ?_⟩
  rw [State.ptp_updPtp_same]
  exact List.mem_append_right _ (List.mem_singleton_self _)

/-- A PTP message is the last of queue 7. -/
theorem State.queues_sendPtp (s : State) (m : Nat) (k : PtpOut) (ns : Int) : ((s.sendPtp m k ns).mac m).queues.getOr 7 [] =
    (s.mac m).queues.getOr 7 [] ++
      [({ body := .ptp k ns, len := 64, wrap := { plainWrap m 0x011B19000000 0x88F7 with tag := some (7, 0) } } : Frame)] :=
  State.queues_enqueue s m 7 fun _ => rfl

theorem ptpSync_row {s : State} {m : Nat} {p : PtpMsg} {o r n : Int} (hd : p.domain = s.clk.domain) (hf : s.clk.follows (m / 4) p = true)
    (hb : p.body = .sync (some n) ∧ r = s.ptpStamp (m / 4) ∨ p.body = .followUp n ∧ (s.clk.ptp.getOr (m / 4) {}).syncRx = some r)
    (ho : o = r - n - (s.clk.ptp.getOr (m / 4) {}).delayNs) : ∃ t : State, exec (.ptpMessage m p) s = .next t ∧ t.clk.masterId = p.clock ∧
      (s.jobRuns = true → t.clk.freqPpb = max (-200000) (min 200000 p.freqPpb) ∧ t.clk.tai = s.clk.tai ∧ t.clk.offsetNs = o ∧
        t.clk.ptpState = (if 1000000 < o.natAbs then 3 else 1)) ∧
      (s.jobRuns = false → o.natAbs ≤ 1000 → t.clk.freqPpb = max (-200000) (min 200000 p.freqPpb) ∧ t.clk.tai = s.clk.tai ∧ t.clk.ptpState = 1) ∧
      (s.jobRuns = false → 1000 < o.natAbs → t.clk.tai.ns = ((s.clk.tai.ns : Int) - o).toNat ∧ t.clk.ptpState = 1) := by
  obtain ⟨c, hclk, htai, hmaster⟩ := (s.countGaffer m).clk_followSync (m / 4) p (r - n)
  have hruns : (s.countGaffer m).jobRuns = s.jobRuns := rfl
  have hoff : r - n - ((s.countGaffer m).clk.ptp.getOr (m / 4) {}).delayNs = o := ho.symm
  rw [hruns, hoff] at hclk
  refine ⟨_, exec_ptpMessage_follows hd hf hb, ?_, fun hjob => ?_, fun hjob hsmall => ?_, fun hjob hlarge => ?_⟩
  · obtain ⟨_, _, _, _, hc⟩ := c.corrected_leaves s.jobRuns o p.freqPpb
    rw [hclk, hc, ← hmaster]
  · rw [hclk, hjob, Clock.corrected, if_pos rfl]
    exact ⟨rfl, htai, rfl, rfl⟩
  · rw [hclk, hjob, Clock.corrected, if_neg Bool.false_ne_true, if_neg (Nat.not_lt.mpr hsmall)]
    exact ⟨rfl, htai, rfl⟩
  · rw [hclk, hjob, Clock.corrected, if_neg Bool.false_ne_true, if_pos hlarge]
    exact ⟨by rw [htai]; rfl, rfl⟩

/-- A PTP message leaves the fraction of the time: the servo steps whole nanoseconds, and nothing else writes the time. -/
theorem exec_ptpMessage_frac (m : Nat) (p : PtpMsg) (s : State) : ∃ t : State, exec (.ptpMessage m p) s = .next t ∧ t.clk.tai.frac = s.clk.tai.frac := by
  have hsync : ∀ off : Int, ((s.countGaffer m).followSync (m / 4) p off).clk.tai.frac = s.clk.tai.frac := by
    intro off
    obtain ⟨c, hclk, htai, -⟩ := (s.countGaffer m).clk_followSync (m / 4) p off
    obtain ⟨_, _, _, _, hc⟩ := c.corrected_leaves (s.countGaffer m).jobRuns (off - ((s.countGaffer m).clk.ptp.getOr (m / 4) {}).delayNs) p.freqPpb
    rw [hclk, hc]
    show c.tai.frac = _
    rw [htai]
    rfl
  have hsend : ∀ k ns, ((s.countGaffer m).sendPtp m k ns).clk.tai.frac = s.clk.tai.frac := fun k ns => by
    rw [(State.sendPtp_rel _ _ _ _).clk (by decide)]
    rfl
  have hhear : ∀ d, ((s.countGaffer m).hearMaster (m / 4) p d).clk.tai.frac = s.clk.tai.frac := fun d => by
    rw [State.hearMaster]
    split <;> rfl
  have hrow : exec (.ptpMessage m p) s = execPtpMessage m p s := rfl
  rw [hrow]
  unfold execPtpMessage
  extract_lets u q now port
  split
  · exact ⟨_, rfl, rfl⟩
  split
  · exact ⟨_, rfl, hhear _⟩
  · split
    · exact ⟨_, rfl, hsync _⟩
    · exact ⟨_, rfl, rfl⟩
  · split
    · exact ⟨_, rfl, rfl⟩
    · exact ⟨_, rfl, rfl⟩
  · split
    · split
      · exact ⟨_, rfl, hsync _⟩
      · exact ⟨_, rfl, rfl⟩
    · exact ⟨_, rfl, rfl⟩
  · split
    · exact ⟨_, rfl, hsend _ _⟩
    · exact ⟨_, rfl, rfl⟩
  · split
    · split
      · exact ⟨_, rfl, rfl⟩
      · exact ⟨_, rfl, rfl⟩
    · exact ⟨_, rfl, rfl⟩
  · exact ⟨_, rfl, hsend _ _⟩
  · split
    · split
      · exact ⟨_, rfl, rfl⟩
      · exact ⟨_, rfl, rfl⟩
    · exact ⟨_, rfl, rfl⟩

theorem ptpMessage_row {s : State} {m : Nat} {p : PtpMsg} (hd : p.domain = s.clk.domain) : ∃ t : State, exec (.ptpMessage m p) s = .next t ∧
    t.clk.tai.frac = s.clk.tai.frac ∧
    (∀ d, p.body = .announce d → p.clock ≠ ownClock → d.steps < 255 → t.clk.tai = s.clk.tai ∧
      ({ clock := p.clock, port := p.port, data := d, heardNs := s.clk.tai.ns } : PtpForeign) ∈ (t.clk.ptp.getOr (m / 4) {}).foreign) ∧
    (p.body = .delayReq → s.clk.ptpRole (m / 4) = .master → (t.mac m).queues.getOr 7 [] = (s.mac m).queues.getOr 7 [] ++
      [({ body := .ptp (.delayResp p.clock p.port) (s.ptpStamp (m / 4)), len := 64
          wrap := { plainWrap m 0x011B19000000 0x88F7 with tag := some (7, 0) } } : Frame)]) ∧
    (∀ a b k, p.body = .delayResp k ownClock (m / 4 + 1) → s.clk.follows (m / 4) p = true → (s.clk.ptp.getOr (m / 4) {}).offNs = some a →
      (s.clk.ptp.getOr (m / 4) {}).reqNs = some b → (t.clk.ptp.getOr (m / 4) {}).delayNs = (a + (k - b)) / 2 ∧ t.clk.tai = s.clk.tai) := by
  obtain ⟨t, hexec, hfrac⟩ := exec_ptpMessage_frac m p s
  refine ⟨t, hexec, hfrac, fun d hb hown hsteps => ?_, fun hb hrole => ?_, fun a b k hb hf ha hreq => ?_⟩
  · cases (exec_ptpMessage_announce hd hb).symm.trans hexec
    exact State.hearMaster_hears hown hsteps
  · cases (exec_ptpMessage_delayReq hd hb hrole).symm.trans hexec
    exact State.queues_sendPtp _ _ _ _
  · cases (exec_ptpMessage_delayResp hd hb hf ha hreq).symm.trans hexec
    exact ⟨by rw [State.ptp_updPtp_same], rfl⟩

/-! ### The timers of a port (R299) -/

/-- The best master that a port hears depends on no more of the ports' tables than on what they have heard. -/
theorem Clock.portBest_congr {c d : Clock} (hd : d = { c with ptp := d.ptp }) (hf : ∀ q, (d.ptp.getOr q {}).foreign = (c.ptp.getOr q {}).foreign) (p : Nat) :
    d.portBest p = c.portBest p := by
  rw [Clock.portBest, hf, hd]
  rfl

theorem Clock.timerMsg_congr {c d : Clock} (hd : d = { c with ptp := d.ptp }) (hf : ∀ q, (d.ptp.getOr q {}).foreign = (c.ptp.getOr q {}).foreign) (p : Nat) :
    d.timerMsg p = c.timerMsg p := by
  have hport : d.portBest = c.portBest := funext (Clock.portBest_congr hd hf)
  have hbest : d.best = c.best := by rw [Clock.best, hport, Clock.best]
  have hown : d.ownBeats = c.ownBeats := by rw [hd]; rfl
  have hrole : d.ptpRole p = c.ptpRole p := by
    rw [Clock.ptpRole, hbest, hport, hown, show d.roles = c.roles by rw [hd], show d.clockClass = c.clockClass by rw [hd], Clock.ptpRole]
  rw [Clock.timerMsg, hrole, show d.delayMech = c.delayMech by rw [hd], Clock.timerMsg]

theorem ptpSyncTimer_row {s v : State} {p m : Nat} {ms : List Nat} {k : PtpOut}
    (hv : v = (match (s.clk.ptp.getOr p {}).sentNs with | some a => s.toTai (a + s.clk.timerNs p) | none => s)) (hup : s.upMacs p = m :: ms)
    (hk : v.clk.timerMsg p = some k) : ∃ t : State, exec (.ptpSyncTimer p) s = .next t ∧ t.clk.tai = v.clk.tai ∧ (t.mac m).queues.getOr 7 [] =
      (s.mac m).queues.getOr 7 [] ++
        [({ body := .ptp k 0, len := 64, wrap := { plainWrap m 0x011B19000000 0x88F7 with tag := some (7, 0) } } : Frame)] := by
  have hkeep : Rel [.clk] s v := by
    rw [hv]
    split
    · exact State.toTai_rel _ _
    · exact .refl _ _
  let u : State := v.updPtp p (fun q => { q with sentNs := some v.clk.tai.ns })
  have hmacs : u.macs = s.macs := hkeep.macs (by decide)
  have hups : u.upMacs p = m :: ms := by
    have hport : u.port p = s.port p := State.port_congr (hkeep.ports (by decide)) p
    rw [← hup, State.upMacs, State.upMacs, hport]
    exact List.filter_congr fun n _ => by rw [State.mac_congr hmacs]
  have hmsg : u.clk.timerMsg p = some k := by
    rw [← hk]
    refine Clock.timerMsg_congr rfl (fun q => ?_) p
    by_cases hq : q = p
    · rw [hq, State.ptp_updPtp_same]
    · rw [State.ptp_updPtp_ne _ hq]
  have hrow : exec (.ptpSyncTimer p) s = .next (u.sendPtp m k 0) := by
    have hrow : exec (.ptpSyncTimer p) s = execPtpSyncTimer p s := rfl
    rw [hrow]
    unfold execPtpSyncTimer
    extract_lets v' u'
    obtain rfl : v' = v := hv.symm
    rw [show u'.upMacs p = m :: ms from hups, show u'.clk.timerMsg p = some k from hmsg]
  refine ⟨_, hrow, ?_, ?_⟩
  · rw [(State.sendPtp_rel _ _ _ _).clk (by decide)]
    rfl
  · rw [State.queues_sendPtp, State.mac_congr hmacs]

theorem exec_ptpHoldoverEntry (s : State) (n : Nat) : ∃ t : State, exec (.ptpHoldoverEntry n) s = .next t ∧ t.clk.ptpState = 2 ∧ t.clk.holdErrNs = n ∧
    t.clk.tai = s.clk.tai ∧ ∀ p, (t.clk.ptp.getOr p {}).foreign = [] := by
  have hrow : ∃ t : State, exec (.ptpHoldoverEntry n) s = .next t ∧ t.clk = { s.clk with
      ptpState := 2, holdErrNs := n, ptp := s.clk.ptp.vals (fun _ (q : PtpPort) => { q with foreign := [] }) } := by
    refine ⟨_, rfl, ?_⟩
    split
    · rfl
    · rw [State.clk_event]
  obtain ⟨t, hexec, hclk⟩ := hrow
  refine ⟨t, hexec, ?_⟩
  rw [hclk]
  refine ⟨rfl, rfl, rfl, fun p => ?_⟩
  dsimp only
  rw [Map.getOr, Map.find_vals]
  cases s.clk.ptp.find p <;> rfl

/-! ### The PPS signals (R301, R552) -/

/-- The clock at a later time has a later cycle, time and remainder, and nothing else of it has changed (R17, R19). -/
theorem Clock.advance_leaves (c : Clock) (n : Nat) : ∃ a t r, c.advance n = { c with cycle := a, tai := t, rem := r } := by
  unfold Clock.advance
  exact ⟨_, _, _, rfl⟩

theorem State.toTai_clk (s : State) (n : Nat) : ∃ a t r, (s.toTai n).clk = { s.clk with cycle := a, tai := t, rem := r } := by
  unfold State.toTai
  split
  · exact ⟨s.clk.cycle, s.clk.tai, s.clk.rem, rfl⟩
  · obtain ⟨a, t, r, h⟩ := s.clk.advance_leaves ((n * 65536 - s.clk.tai.units) * 21000000000 / s.clk.gain)
    rw [State.advance, h]
    exact ⟨a, _, r, rfl⟩

theorem exec_ppsInEdge {s : State} {n : Nat} {g : Bool} (hg : g = (match s.clk.ppsInLast with | some a => oneSecond a n | none => false)) :
    ∃ t : State, exec (.ppsInEdge n) s = .next t ∧
      ((s.clk.ppsInPresent = true ∧ g = false) → t.clk.ppsInStray = s.clk.ppsInStray + 1 ∧ t.clk.ppsInLast = s.clk.ppsInLast) ∧
      (¬ (s.clk.ppsInPresent = true ∧ g = false) → t.clk.ppsInLast = some n ∧ t.clk.ppsInPresent = g ∧ t.clk.ppsInStray = s.clk.ppsInStray) := by
  obtain ⟨a, tai, r, hclk⟩ := s.toTai_clk n
  have hlast : (s.toTai n).clk.ppsInLast = s.clk.ppsInLast := by rw [hclk]
  have hpresent : (s.toTai n).clk.ppsInPresent = s.clk.ppsInPresent := by rw [hclk]
  have hstrays : (s.toTai n).clk.ppsInStray = s.clk.ppsInStray := by rw [hclk]
  have hrow : exec (.ppsInEdge n) s = execPpsInEdge n s := rfl
  rw [hrow, ← hpresent, ← hstrays]
  rw [← hlast] at hg ⊢
  unfold execPpsInEdge
  generalize s.toTai n = u at hg
  extract_lets v c good defined
  have hgood : good = g := hg.symm
  by_cases hstray : u.clk.ppsInPresent = true ∧ g = false
  · rw [if_pos (by rw [hgood, hstray.2]; exact ⟨hstray.1, Bool.false_ne_true⟩)]
    exact ⟨_, rfl, fun _ => ⟨rfl, rfl⟩, fun h => absurd hstray h⟩
  · rw [if_neg (by rw [hgood]; simpa using hstray)]
    have hdef : defined.clk.ppsInLast = some n ∧ defined.clk.ppsInPresent = g ∧ defined.clk.ppsInStray = u.clk.ppsInStray := ⟨rfl, hgood, rfl⟩
    split
    · obtain ⟨_, _, _, _, hcor⟩ := defined.clk.corrected_leaves defined.jobRuns (n - (c.ppsNextEdgeS * 1000000000 : Nat)) c.freqPpb
      refine ⟨_, rfl, fun h => absurd h hstray, fun _ => ?_⟩
      rw [State.clk_servo, hcor]
      exact hdef
    · exact ⟨_, rfl, fun h => absurd h hstray, fun _ => hdef⟩

/-- The state whose pulse of PPS_IN is absent. -/
def State.ppsInGone (s : State) : State := { s with clk := { s.clk with ppsInPresent := false, ppsInLast := none, clockClass := 248 } }

theorem State.ppsInGone_clk (s : State) : s.ppsInGone.clk.tai = s.clk.tai ∧ s.ppsInGone.clk.ppsInPresent = false ∧ s.ppsInGone.clk.ppsInLast = none :=
  ⟨rfl, rfl, rfl⟩

theorem exec_ppsInLost {s : State} {a : Nat} (ha : s.clk.ppsInLast = some a) (hpresent : s.clk.ppsInPresent = true) :
    exec .ppsInLost s = .next (s.toTai (a + 2000000000)).ppsInGone := by
  have hrow : exec .ppsInLost s = execPpsInLost s := rfl
  rw [hrow, execPpsInLost]
  generalize hu : s.toTai (a + 2000000000) = u
  split
  next hnone => cases ha.symm.trans hnone
  next b hb =>
    cases ha.symm.trans hb
    rw [if_neg (not_not.mpr hpresent), hu]
    rfl

/-- The state at a whole second n, at which PPS_OUT rises unless it is disabled. -/
def State.ppsOutRises (s : State) (n : Nat) : State :=
  if s.clk.ppsOutEnabled then { s with clk := { s.clk with ppsOutHighUntil := n + 100000000 } } else s

theorem State.ppsOutRises_clk (s : State) (n : Nat) : (s.ppsOutRises n).clk.tai = s.clk.tai ∧
    (s.ppsOutRises n).clk.ppsOutHighUntil = (if s.clk.ppsOutEnabled = true then n + 100000000 else s.clk.ppsOutHighUntil) := by
  unfold State.ppsOutRises
  split
  · exact ⟨rfl, rfl⟩
  · exact ⟨rfl, rfl⟩

theorem exec_ppsOutSecond {s : State} {n : Nat} (hn : n = (s.clk.tai.ns / 1000000000 + 1) * 1000000000) :
    exec .ppsOutSecond s = .next ((s.toTai n).ppsOutRises n) := by
  have hrow : exec .ppsOutSecond s = execPpsOutSecond s := rfl
  rw [hrow, execPpsOutSecond, ← hn, State.ppsOutRises, apply_ite (Host.Outcome.next (φ := Fault) (ρ := Refusal))]

theorem ppsOutSecond_row {s : State} {n : Nat} (hn : n = (s.clk.tai.ns / 1000000000 + 1) * 1000000000) : ∃ t : State,
    exec .ppsOutSecond s = .next t ∧ t.clk.tai = (s.toTai n).clk.tai ∧
      t.clk.ppsOutHighUntil = (if s.clk.ppsOutEnabled = true then n + 100000000 else s.clk.ppsOutHighUntil) := by
  obtain ⟨a, tai, r, hclk⟩ := s.toTai_clk n
  have hout : (s.toTai n).clk.ppsOutEnabled = s.clk.ppsOutEnabled := by rw [hclk]
  have hhigh : (s.toTai n).clk.ppsOutHighUntil = s.clk.ppsOutHighUntil := by rw [hclk]
  obtain ⟨htai, huntil⟩ := (s.toTai n).ppsOutRises_clk n
  exact ⟨_, exec_ppsOutSecond hn, htai, by rw [huntil, hout, hhigh]⟩

/-! ### Re-calibration (R302) -/

/-- The state in which lane l re-calibrates from now on. -/
def State.recalibrating (s : State) (l : Nat) : State := { s with recal := some (l, s.clk.cycle) }

@[simp] theorem State.clk_recalibrating (s : State) (l : Nat) : (s.recalibrating l).clk = s.clk := rfl

theorem State.recal_recalibrating (s : State) (l : Nat) : (s.recalibrating l).recal = some (l, (s.recalibrating l).clk.cycle) := rfl

theorem exec_laneRecalStart {s : State} {l m : Nat} (why : RecalCause) (hrecal : s.recal = none) (hm : s.laneMac l = some m) :
    exec (.laneRecalStart l why) s = match why with
      | .period => .next ((s.toTai ((s.lane l).calNs + s.recalPeriodS * 1000000000)).recalibrating l)
      | .temperature a => if (a - (s.lane l).calCenti).natAbs < 1000 then .next s else .next ((s.recalibrating l).updLane l (fun v => { v with calCenti := a }))
      | .errorRatio =>
        if (match ((laneList (s.mac m).lanes).zip (s.mac m).ratioPpb).find? (fun p => p.1 = l % 4) with | some p => decide (1000 < p.2) | none => false)
        then .next (s.recalibrating l) else .next s := by
  have hrow : exec (.laneRecalStart l why) s = execLaneRecalStart l why s := rfl
  rw [hrow, execLaneRecalStart, hrecal, hm]
  cases why <;> rfl

theorem laneRecalStart_row {s : State} {l m : Nat} (hrecal : s.recal = none) (hm : s.laneMac l = some m) :
    (∃ t : State, exec (.laneRecalStart l .period) s = .next t ∧ t.clk = (s.toTai ((s.lane l).calNs + s.recalPeriodS * 1000000000)).clk ∧
      t.recal = some (l, t.clk.cycle)) ∧
    (∀ a, 1000 ≤ (a - (s.lane l).calCenti).natAbs → ∃ t : State, exec (.laneRecalStart l (.temperature a)) s = .next t ∧
      t.recal = some (l, s.clk.cycle) ∧ (t.lane l).calCenti = a) ∧
    (∀ e, ((laneList (s.mac m).lanes).zip (s.mac m).ratioPpb).find? (fun p => p.1 = l % 4) = some e → 1000 < e.2 → ∃ t : State,
      exec (.laneRecalStart l .errorRatio) s = .next t ∧ t.recal = some (l, s.clk.cycle)) := by
  refine ⟨?_, fun a ha => ?_, fun e he hratio => ?_⟩
  · rw [exec_laneRecalStart _ hrecal hm]
    exact ⟨_, rfl, State.clk_recalibrating _ _, State.recal_recalibrating _ _⟩
  · rw [exec_laneRecalStart _ hrecal hm]
    dsimp only
    rw [if_neg (Nat.not_lt.mpr ha)]
    exact ⟨_, rfl, rfl, by rw [State.lane_updLane]⟩
  · rw [exec_laneRecalStart _ hrecal hm]
    dsimp only
    rw [he, if_pos (decide_eq_true hratio)]
    exact ⟨_, rfl, rfl⟩

theorem exec_laneRecalApply {s : State} {l a : Nat} (hrecal : s.recal = some (l, a)) : ∃ t : State, exec (.laneRecalApply l) s = .next t ∧
    t.recal = none ∧ (t.lane l).recalibrated = true ∧ (t.lane l).calNs = s.clk.tai.ns := by
  have hrow : exec (.laneRecalApply l) s = execLaneRecalApply l s := rfl
  rw [hrow, execLaneRecalApply, hrecal]
  dsimp -zeta only
  rw [if_neg (not_not.mpr rfl)]
  extract_lets u
  have hlane : (u.lane l).recalibrated = true ∧ (u.lane l).calNs = s.clk.tai.ns := by
    unfold u
    rw [State.lane_updLane]
    exact ⟨rfl, rfl⟩
  split
  · exact ⟨_, rfl, rfl, hlane⟩
  · exact ⟨_, rfl, rfl, hlane⟩

/-! ### The retirement of a lane (R303 to R305) -/

/-- A MAC that has gone down carries no lane, and its retraining has ended. -/
theorem State.macDown_ends (s : State) (m lane : Nat) : ((s.macDown m lane).mac m).lanes = 0 ∧ ((s.macDown m lane).mac m).retrainFrom = none := by
  unfold State.macDown
  extract_lets p flushed down used shut fwd flows
  have hmacs : (flows.reRate.event 0x0009 2 noCtx [p, lane]).macs = down.macs :=
    ((State.event_rel flows.reRate _ _ _ _).macs (by decide)).trans ((State.reRate_rel flows).macs (by decide))
  have hsent : OnlySent down (flows.reRate.event 0x0009 2 noCtx [p, lane]).pumpAll := .trans (.of_macs hmacs) (State.onlySent_pumpAll _)
  have hdown : (down.mac m).lanes = 0 ∧ (down.mac m).retrainFrom = none := by
    unfold down
    rw [State.mac_updMac]
    exact ⟨rfl, rfl⟩
  exact ⟨(hsent.field Mac.lanes (fun _ => rfl) m).trans hdown.1, (hsent.field Mac.retrainFrom (fun _ => rfl) m).trans hdown.2⟩

/-- A lane that is retired makes its MAC retrain at the lower width, or go down where there is none. -/
theorem State.retireLane_row {s : State} {l m : Nat} (hm : s.laneMac l = some m) (hfrom : (s.mac m).retrainFrom = none) :
    (lowerLanes (s.mac m).bx1 (s.mac m).lanes (l % 4) ≠ 0 →
      ((s.retireLane l).mac m).retrainFrom = some s.clk.cycle ∧ ((s.retireLane l).mac m).retrainLane = l % 4) ∧
    (lowerLanes (s.mac m).bx1 (s.mac m).lanes (l % 4) = 0 → ((s.retireLane l).mac m).up = false) := by
  rw [State.retireLane, hm]
  dsimp -zeta only
  extract_lets c marked
  rw [if_neg (by rw [show c.retrainFrom = none from hfrom]; exact Bool.false_ne_true)]
  refine ⟨fun hlower => ?_, fun hnone => ?_⟩
  · rw [if_neg hlower, State.mac_setMac]
    exact ⟨rfl, rfl⟩
  · rw [if_pos hnone, State.mac_congr ((State.laneHandle_rel _ _ _).macs (by decide))]
    exact (macDown_row _ _ _).1

theorem laneLockLoss_row {s : State} {l : Nat} {k : List Nat}
    (hk : k = (s.lane l).lockLoss.filter (fun t => decide (s.clk.tai.ns < t + hourNs)) ++ [s.clk.tai.ns]) : ∃ t : State, exec (.laneLockLoss l) s = .next t ∧
    (t.lane l).lockLoss = k ∧
    (∀ m, 3 ≤ k.length → s.laneMac l = some m → (s.mac m).retrainFrom = none →
      (lowerLanes (s.mac m).bx1 (s.mac m).lanes (l % 4) ≠ 0 → (t.mac m).retrainFrom = some s.clk.cycle ∧ (t.mac m).retrainLane = l % 4) ∧
      (lowerLanes (s.mac m).bx1 (s.mac m).lanes (l % 4) = 0 → (t.mac m).up = false)) := by
  have hrow : exec (.laneLockLoss l) s = execLaneLockLoss l s := rfl
  rw [hrow]
  unfold execLaneLockLoss
  extract_lets now u
  have hloss : (u.lane l).lockLoss = k := by
    unfold u
    rw [State.lane_updLane, hk]
  rw [hloss]
  split
  next =>
    have hlanes : (u.retireLane l).lanes = u.lanes := (State.retireLane_rel u l).lanes (by decide)
    refine ⟨_, rfl, ?_, fun m _ hm hfrom => State.retireLane_row (s := u) hm hfrom⟩
    rw [State.lane, hlanes]
    exact hloss
  next hfew => exact ⟨_, rfl, hloss, fun m h => absurd h hfew⟩

theorem exec_fecMonitorWindow (m : Nat) (st : FecStats) (s : State) : ∃ t : State, exec (.fecMonitorWindow m st) s = .next t ∧
    (s.fecBad m st = none → t = s.fecCount m st ∧ (t.mac m).ratioPpb = st.ratioPpb) ∧
    (∀ i, s.fecBad m st = some i → t = (s.fecCount m st).retireLane (4 * (m / 4) + i)) := by
  have hratio : ((s.fecCount m st).mac m).ratioPpb = st.ratioPpb := by
    unfold State.fecCount
    extract_lets ls u v
    rw [State.mac_updMac]
  have hrow : exec (.fecMonitorWindow m st) s = execFecMonitorWindow m st s := rfl
  rw [hrow, execFecMonitorWindow]
  cases s.fecBad m st with
  | none => exact ⟨_, rfl, fun _ => ⟨rfl, hratio⟩, fun i hi => absurd hi (by simp)⟩
  | some i => exact ⟨_, rfl, fun h => absurd h (by simp), fun j hj => by cases hj; rfl⟩

/-! ### The end of a retraining (R305) -/

theorem State.endRetrain_ends (s : State) (m : Nat) : ((s.endRetrain m).mac m).retrainFrom = none := by
  unfold State.endRetrain
  split
  next h => exact h
  next a _ =>
    extract_lets now start u
    have hmacs : ((List.range 8).foldl (fun v q => v.excuse m q start (min now (start + 1000000000))) u).macs = u.macs :=
      (Rel.foldl (l := [.flows]) (fun v q => State.excuse_rel v m q _ _) (.refl _ _)).macs (by decide)
    rw [State.mac_congr hmacs]
    have hu : u.mac m = (s.updMac m (fun c => { c with retrainFrom := none })).mac m := State.mac_congr ((State.countMac_rel _ _ _ _).macs (by decide)) m
    rw [hu, State.mac_updMac]

theorem linkUpAfterRetirement_row {s : State} {m l : Nat} (hfrom : (s.mac m).retrainFrom.isSome = true)
    (hl : l = lowerLanes (s.mac m).bx1 (s.mac m).lanes (s.mac m).retrainLane) : ∃ t : State,
    exec (.linkUpAfterRetirement m) s = .next t ∧ (t.mac m).lanes = l ∧ (t.mac m).rateMbps = 100000 * (laneList l).length ∧
      (t.mac m).retrainFrom = none ∧ (t.port (m / 4)).retired = (s.port (m / 4)).retired ||| 2 ^ (s.mac m).retrainLane := by
  subst hl
  have hrow : exec (.linkUpAfterRetirement m) s = execLinkUpAfterRetirement m s := rfl
  rw [hrow]
  unfold execLinkUpAfterRetirement
  extract_lets c p l ended found locked narrow used shown logged
  rw [if_neg (by rw [show c.retrainFrom.isNone = !c.retrainFrom.isSome by simp, show c.retrainFrom.isSome = true from hfrom]; exact Bool.false_ne_true)]
  have hmac : (narrow.mac m).lanes = l ∧ (narrow.mac m).rateMbps = 100000 * (laneList l).length ∧ (narrow.mac m).retrainFrom = none := by
    have hlocked : locked.macs = found.macs := (Rel.foldl (l := [.lanes]) (fun v i => State.updLane_rel v _ _) (.refl _ _)).macs (by decide)
    have hfound : found.macs = ended.macs := (State.endLoss_rel ended m).macs (by decide)
    have hended : (locked.mac m).retrainFrom = none := by
      rw [State.mac_congr (hlocked.trans hfound)]
      exact State.endRetrain_ends s m
    unfold narrow
    rw [State.mac_updMac]
    exact ⟨rfl, rfl, hended⟩
  have hport : (shown.port p).retired = (s.port p).retired ||| 2 ^ c.retrainLane := by
    have hnarrow : Rel [.flows, .macs, .counters, .lanes] s narrow := by
      refine .step (by decide) (State.updMac_rel _ _ _) (.foldl (fun v i => (State.updLane_rel v _ _).mono (by decide)) ?_)
      exact .step (by decide) (State.endLoss_rel _ _) ((State.endRetrain_rel s m).mono (by decide))
    have hsame : narrow.port p = s.port p := State.port_congr (hnarrow.ports (by decide)) p
    unfold shown
    rw [State.port_updPort, hsame]
  have htold : Rel [.out, .ctxs, .culls, .mailboxes, .handles, .log, .logNext, .logOverflow, .flows] shown
      (logged.reRate.laneHandle (4 * p + c.retrainLane) 0) := by
    refine .step (by decide) (State.laneHandle_rel _ _ _) (.step (by decide) (State.reRate_rel _) ?_)
    exact .step (by decide) (State.event_rel _ _ _ _ _) ((State.laneCullet_rel _ _ _ _).mono (by decide))
  have hsent : OnlySent narrow (logged.reRate.laneHandle (4 * p + c.retrainLane) 0).pumpAll :=
    .trans (.of_macs ((htold.macs (by decide)).trans ((State.updPort_rel narrow p _).macs (by decide)))) (State.onlySent_pumpAll _)
  refine ⟨_, rfl, (hsent.field Mac.lanes (fun _ => rfl) m).trans hmac.1, (hsent.field Mac.rateMbps (fun _ => rfl) m).trans hmac.2.1,
    (hsent.field Mac.retrainFrom (fun _ => rfl) m).trans hmac.2.2, ?_⟩
  rw [State.port_congr (((State.pumpAll_rel _).ports (by decide)).trans (htold.ports (by decide)))]
  exact hport

theorem retrainingTimeout_row {s : State} {m a : Nat} (hfrom : (s.mac m).retrainFrom = some a) : ∃ t : State, exec (.retrainingTimeout m) s = .next t ∧
    t.clk = (s.toCycle (a + 1050000000)).clk ∧ (t.mac m).up = false ∧ (t.mac m).lanes = 0 ∧ (t.mac m).retrainFrom = none := by
  have hrow : exec (.retrainingTimeout m) s = .next (((((s.toCycle (a + 1050000000)).endRetrain m).macDown m (s.mac m).retrainLane).laneHandle
      (4 * (m / 4) + (s.mac m).retrainLane) 0x25)) := by
    have hrow : exec (.retrainingTimeout m) s = execRetrainingTimeout m s := rfl
    rw [hrow, execRetrainingTimeout, hfrom]
  generalize s.toCycle (a + 1050000000) = u at hrow ⊢
  have hmac : ∀ v : State, (v.laneHandle (4 * (m / 4) + (s.mac m).retrainLane) 0x25).mac m = v.mac m := fun v =>
    State.mac_congr ((State.laneHandle_rel _ _ _).macs (by decide)) m
  obtain ⟨hlanes, hended⟩ := (u.endRetrain m).macDown_ends m (s.mac m).retrainLane
  refine ⟨_, hrow, ?_, ?_, ?_, ?_⟩
  · rw [(State.laneHandle_rel _ _ _).clk (by decide), (State.macDown_rel _ _ _).clk (by decide), (State.endRetrain_rel _ _).clk (by decide)]
  · rw [hmac]
    exact (macDown_row _ _ _).1
  · rw [hmac, hlanes]
  · rw [hmac, hended]

/-! ### Link-up (R281, R283) -/

/-- A MAC has link on the lanes of use, at their rate. -/
def Mac.linked (c : Mac) (use : Nat) : Prop := c.up = true ∧ c.lanes = use ∧ c.rateMbps = 100000 * (laneList use).length

/-- A MAC that gains link has it on its lanes, with the neighbour that it had. -/
theorem State.linkMac_links (s : State) (m use : Nat) : ((s.linkMac m use).mac m).linked use ∧ ((s.linkMac m use).mac m).bx1 = (s.mac m).bx1 := by
  unfold State.linkMac
  extract_lets found locked
  have hmacs : locked.macs = s.macs := ((Rel.foldl (l := [.lanes]) (fun v i => State.updLane_rel v _ _) (.refl _ found)).macs (by decide)).trans
    ((State.endLoss_rel s m).macs (by decide))
  rw [State.mac_updMac, State.mac_congr hmacs]
  exact ⟨⟨rfl, rfl, rfl⟩, rfl⟩

theorem State.mac_linkMac_ne (s : State) {m n : Nat} (use : Nat) (hn : n ≠ m) : (s.linkMac m use).mac n = s.mac n := by
  unfold State.linkMac
  extract_lets found locked
  have hmacs : locked.macs = s.macs := ((Rel.foldl (l := [.lanes]) (fun v i => State.updLane_rel v _ _) (.refl _ found)).macs (by decide)).trans
    ((State.endLoss_rel s m).macs (by decide))
  rw [State.updMac, State.mac_setMac_ne _ _ hn, State.mac_congr hmacs]

/-- A MAC k of a port whose training has ended on the lanes l gains link when it is one of ms and its lanes have trained. -/
def State.linkTrained (pt : Port) (ms l : Nat) (s : State) (k : Nat) : State :=
  if bit ms (k % 4) ∧ pt.linkLanes (s.mac k).bx1 l k ≠ 0 then s.linkMac k (pt.linkLanes (s.mac k).bx1 l k) else s

/-- Every MAC among ks whose lanes have trained has link. -/
theorem State.linked_of_trained {pt : Port} {ms l m use : Nat} (hbit : bit ms (m % 4) = true) (huse : use ≠ 0) (ks : List Nat) (s : State)
    (hlanes : pt.linkLanes (s.mac m).bx1 l m = use) (hm : m ∈ ks ∨ (s.mac m).linked use) : ((ks.foldl (State.linkTrained pt ms l) s).mac m).linked use := by
  induction ks generalizing s with
  | nil => exact hm.resolve_left List.not_mem_nil
  | cons k ks ih =>
    rw [List.foldl_cons]
    by_cases hk : k = m
    · subst hk
      have hstep : s.linkTrained pt ms l k = s.linkMac k use := by
        rw [State.linkTrained, hlanes, if_pos ⟨hbit, huse⟩]
      obtain ⟨hlinked, hbx1⟩ := s.linkMac_links k use
      rw [hstep]
      exact ih _ (by rw [hbx1, hlanes]) (.inr hlinked)
    · have hsame : (s.linkTrained pt ms l k).mac m = s.mac m := by
        rw [State.linkTrained]
        split
        · exact State.mac_linkMac_ne _ _ (Ne.symm hk)
        · rfl
      exact ih _ (by rw [hsame, hlanes]) (by rw [hsame]; exact hm.imp_left fun h => (List.mem_cons.mp h).resolve_left (Ne.symm hk))

theorem State.onlySent_resolveHop (s : State) (p : Nat) : OnlySent s (s.resolveHop p) := by
  unfold State.resolveHop
  extract_lets pt v6 ip u
  split
  · exact .of_macs rfl
  · split
    · exact .of_macs rfl
    · exact .trans (t := u) (.of_macs ((State.updPort_rel _ _ _).macs (by decide))) (State.onlySent_enqueue _ _ _ _)

theorem linkUp_row {p ms l m : Nat} {s : State} (hport : s.portDown p = false) (hreset : s.start.inReset = false) (hm : m ∈ portMacs (s.port p).mode p)
    (hbit : bit ms (m % 4) = true) (huse : (s.port p).linkLanes (s.mac m).bx1 l m ≠ 0) : ∃ t : State, exec (.linkUp p ms l) s = .next t ∧
    (t.mac m).linked ((s.port p).linkLanes (s.mac m).bx1 l m) := by
  have hrow : exec (.linkUp p ms l) s = execLinkUp p ms l s := rfl
  rw [hrow]
  unfold execLinkUp
  extract_lets pt linked used shown
  rw [if_neg (by rw [hport, hreset]; simp)]
  have hlinked : (linked.mac m).linked (pt.linkLanes (s.mac m).bx1 l m) := State.linked_of_trained hbit huse _ s rfl (.inl hm)
  have hsent : OnlySent linked (shown.resolveHop p).reRate.pumpAll := by
    have hresolved : OnlySent linked (shown.resolveHop p) :=
      .trans (t := shown) (.of_macs ((State.updPort_rel _ _ _).macs (by decide))) (State.onlySent_resolveHop shown p)
    exact .trans hresolved (.trans (.of_macs ((State.reRate_rel _).macs (by decide))) (State.onlySent_pumpAll _))
  obtain ⟨hup, hlanes, hrate⟩ := hlinked
  exact ⟨_, rfl, (hsent.field Mac.up (fun _ => rfl) m).trans hup, (hsent.field Mac.lanes (fun _ => rfl) m).trans hlanes,
    (hsent.field Mac.rateMbps (fun _ => rfl) m).trans hrate⟩

/-- Settles O16, clause by clause: the servo sees the offset of a Sync less the path delay; each timer and pulse leaves the rest of the clock; a MAC that
retrains or goes down is changed by what follows in its queues and low-power idle alone. -/
theorem timeAndLaneRowsComplete : Obligations.TimeAndLaneRowsComplete := by
  unfold Obligations.TimeAndLaneRowsComplete
  exact ⟨fun m p o r n s hd hf hb ho => ptpSync_row hd hf hb ho,
    fun m p s hd => ptpMessage_row hd,
    fun p m ms k v s hv hup hk => ptpSyncTimer_row hv hup hk,
    fun n s => exec_ptpHoldoverEntry s n,
    fun n g s hg => exec_ppsInEdge hg,
    fun a s ha hpresent => ⟨_, exec_ppsInLost ha hpresent, State.ppsInGone_clk _⟩,
    fun n s hn => ppsOutSecond_row hn,
    fun l m s hrecal hm => laneRecalStart_row hrecal hm,
    fun l a s hrecal => exec_laneRecalApply hrecal,
    fun m l s hfrom hl => linkUpAfterRetirement_row hfrom hl,
    fun m a s hfrom => retrainingTimeout_row hfrom,
    fun m st s => exec_fecMonitorWindow m st s,
    fun l k s hk => laneLockLoss_row hk,
    fun p ms l m s hport hreset hm hbit huse => linkUp_row hport hreset hm hbit huse⟩

end Sys2Proof.Machine

/-! SUPPORT. The job commands (O22): each is answered as its action says, and what its action leaves of the context is followed through the operations it calls. -/

namespace Sys2Proof.Machine

@[simp] theorem State.ctx_updJob (s : State) (x : Nat) (f : Job → Job) : (s.updJob x f).ctx x = { s.ctx x with job := f (s.ctx x).job } := State.ctx_updCtx _ _ _

@[simp] theorem State.ctx_updRecov (s : State) (x : Nat) (f : Recovery → Recovery) : (s.updRecov x f).ctx x = { s.ctx x with recov := f (s.ctx x).recov } :=
  State.ctx_updCtx _ _ _

@[simp] theorem State.handle_updCtx (s : State) (x k : Nat) (f : Ctx → Ctx) : (s.updCtx x f).handle k = s.handle k := rfl

/-! ### Commands answered at once (R297, R400, R452, R454, R455) -/

/-- The job of a context that LOAD fetches under the handle k. -/
def jobLoading (rq : Req) (k : Nat) (j : Job) : Job :=
  { j with phase := 1, handle := k, selfTest := rq.fld 8 8 == 0, reportAddr := rq.fld 16 8, reportLen := rq.fld 24 4, fn := rq.mb }

theorem jobLoad_row {s : State} {rq : Req} {x : Nat} (hs : s.Heard rq 3 1) (hx : s.Acts rq x) (hlen : rq.body.length = 32) (hresv : rq.fld 28 4 = 0)
    (hown : rq.mb = 0 ∨ rq.fld 8 8 ≠ 0) (hready : (s.ctx x).state = .ready) (hphase : (s.ctx x).job.phase = 0) (hroom : s.handleRoom rq.mb = true) :
    ∃ t : State, exec (.jobLoad rq) s = .next t ∧
      Handed s t rq 3 [] { mb := rq.mb, op := 3, ctx := some x, phase := 1, total := blocksOf (rq.fld 8 8), addr := rq.fld 0 8, len := rq.fld 8 8, fn := rq.mb } ∧
      (t.ctx x).job.phase = 1 ∧ (t.ctx x).job.handle = s.nextHandle rq.mb 3 ∧ (t.ctx x).job.reportAddr = rq.fld 16 8 ∧
      (t.ctx x).job.reportLen = rq.fld 24 4 ∧ (t.ctx x).job.selfTest = decide (rq.fld 8 8 = 0) := by
  have hgo : ¬ ((s.ctx x).state != .ready || (s.ctx x).job.phase != 0) = true := by simp [hready, hphase]
  have hok : (rq.fld 28 4 == 0 && (rq.mb == 0 || rq.fld 8 8 != 0)) = true := by simpa [hresv] using hown
  obtain ⟨B, H, P, key, hk, hexec⟩ := exec_of_hands (i := .jobLoad rq)
    { mb := rq.mb, op := 3, ctx := some x, phase := 1, total := blocksOf (rq.fld 8 8), addr := rq.fld 0 8, len := rq.fld 8 8, fn := rq.mb }
    (fun u k => (u.updJob x (jobLoading rq k)).given k) hs rfl hroom rfl (fun M => by
      rw [State.onCtx_of_acts (s := { s with mailboxes := M }) hx, State.bodyOf_of hlen hok]
      exact if_neg hgo)
  refine ⟨_, hexec _ rfl, handed_answer 3 1 key hk, ?_⟩
  rw [State.given, State.ctx_answer, State.ctx_updJob]
  exact ⟨rfl, rfl, rfl, rfl, rfl⟩

/-- A context whose feed ring is the one that FEED names. -/
def ctxFedBy (rq : Req) (c : Ctx) : Ctx := { c with feed := { c.feed with
  ringAddr := rq.fld 0 8, entries := rq.fld 8 4, entryBytes := rq.fld 12 4, producer := rq.fld 16 8, consumer := rq.fld 24 8, fetched := 0, fn := rq.mb } }

theorem jobFeed_row {s : State} {rq : Req} {x : Nat} (hs : s.Heard rq 3 3) (hx : s.Acts rq x) (hlen : rq.body.length = 32) (hpow : isPow2 (rq.fld 8 4) = true)
    (hmin : 2 ≤ rq.fld 8 4) (hmax : rq.fld 8 4 ≤ 65536) (hsize : rq.fld 12 4 ≠ 0) (hpages : rq.fld 12 4 % 4096 = 0) (htear : (s.ctx x).state ≠ .tearing) :
    ∃ t : State, exec (.jobFeed rq) s = .next t ∧ Answered t rq.mb 0 [] ∧ (t.ctx x).feed =
      { (s.ctx x).feed with ringAddr := rq.fld 0 8, entries := rq.fld 8 4, entryBytes := rq.fld 12 4, producer := rq.fld 16 8, consumer := rq.fld 24 8
                            fetched := 0, fn := rq.mb } := by
  have hgo : ¬ ((s.ctx x).state == .tearing) = true := by simpa using htear
  obtain ⟨M, key, hexec, -, hans⟩ := exec_of_replies (i := .jobFeed rq) (fun M => State.updCtx { s with mailboxes := M } x (ctxFedBy rq)) {} hs rfl (fun M _ => by
    rw [State.onCtx_of_acts (s := { s with mailboxes := M }) hx, State.bodyOf_of hlen (by simp [hpow, hmin, hmax, hsize, hpages])]
    exact if_neg hgo)
  refine ⟨_, hexec, hans, ?_⟩
  rw [State.ctx_answer, State.ctx_updCtx]
  rfl

theorem jobStatus_row {s : State} {rq : Req} {x : Nat} (hs : s.Heard rq 3 4) (hx : s.Acts rq x) (hb : rq.body = []) : ∃ t : State,
    exec (.jobStatus rq) s = .next t ∧ Answered t rq.mb 0
      (leBytes 1 (s.ctx x).state.code ++ leBytes 1 (s.ctx x).recov.state.code ++ zeros 2 ++ leBytes 8 (s.ctx x).job.step ++
        leBytes 4 (s.ctx x).sec.committed ++ leBytes 2 (s.ctx x).job.layoutEpoch ++ zeros 2 ++ leBytes 4 (s.ctx x).recov.lastSeq) := by
  refine exec_of_shows _ hs rfl fun M => ?_
  rw [State.onCtx_of_acts (s := { s with mailboxes := M }) hx, State.bodyOf_of (by rw [hb]; rfl) rfl]
  rfl

theorem State.asCoord_of {s : State} {x : Nat} (h : (s.ctx x).job.plan.coordinator = true) (f : State × Reply) : s.asCoord x f = f := if_pos h

/-- The job of a context whose validation begins under the handle k. -/
def jobValidating (rq : Req) (k : Nat) (j : Job) : Job := { j with validating := k, stepsLeft := some (rq.fld 0 4), failedModules := [] }

theorem jobValidate_row {s : State} {rq : Req} {x : Nat} (hs : s.Heard rq 3 8) (hx : s.Acts rq x) (hlen : rq.body.length = 4)
    (hcoord : (s.ctx x).job.plan.coordinator = true) (hphase : (s.ctx x).job.phase = 4) (hidle : (s.ctx x).job.validating = 0)
    (hroom : s.handleRoom rq.mb = true) (hsteps : rq.fld 0 4 ≠ 0) : ∃ t : State, exec (.jobValidate rq) s = .next t ∧
      Handed s t rq 0x10 [] { mb := rq.mb, op := 0x10, ctx := some x, phase := 1, total := rq.fld 0 4 } ∧
      (t.ctx x).job.validating = s.nextHandle rq.mb 0x10 ∧ (t.ctx x).job.stepsLeft = some (rq.fld 0 4) ∧ (t.ctx x).job.failedModules = [] := by
  let g (u : State) (k : Nat) : State × Reply := if rq.fld 0 4 = 0 then (u.finish k 0).given k else (u.updJob x (jobValidating rq k)).given k
  have hg : ∀ u k, g u k = (u.updJob x (jobValidating rq k)).given k := fun u k => if_neg hsteps
  have hgo : ¬ ((s.ctx x).job.phase != 4 || (s.ctx x).job.validating != 0) = true := by simp [hphase, hidle]
  obtain ⟨B, H, P, key, hk, hexec⟩ := exec_of_hands (i := .jobValidate rq)
    { mb := rq.mb, op := 0x10, ctx := some x, phase := 1, total := rq.fld 0 4 } g hs rfl hroom rfl (fun M => by
      rw [State.onCtx_of_acts (s := { s with mailboxes := M }) hx, State.bodyOf_of hlen rfl, State.asCoord_of (s := { s with mailboxes := M }) hcoord]
      exact if_neg hgo)
  refine ⟨_, hexec _ (hg _ _), handed_answer 3 8 key hk, ?_⟩
  rw [State.given, State.ctx_answer, State.ctx_updJob]
  exact ⟨rfl, rfl, rfl⟩

/-- The job of a context whose set a module has joined as a standby. -/
def jobJoinedBy (rq : Req) (j : Job) : Job := { j with plan := { j.plan with
  set := j.plan.set.filter (fun d => d.1 != rq.fld 0 2) ++ [(rq.fld 0 2, rq.fld 2 2)], devices := j.plan.devices ++ [rq.fld 0 2] } }

theorem jobAddModule_row {s : State} {rq : Req} {x : Nat} (hs : s.Heard rq 3 9) (hx : s.Acts rq x) (hlen : rq.body.length = 4) (hdev : rq.fld 0 2 ≠ 0xFFFF)
    (hcoord : (s.ctx x).job.plan.coordinator = true) (hphase : (s.ctx x).job.phase = 4) (hnew : (s.ctx x).job.plan.devices.contains (rq.fld 0 2) = false)
    (hroom : (s.ctx x).job.plan.set.length < 65535) : ∃ t : State, exec (.jobAddModule rq) s = .next t ∧ Answered t rq.mb 0 [] ∧
      (t.ctx x).job.plan.devices = (s.ctx x).job.plan.devices ++ [rq.fld 0 2] ∧
      (t.ctx x).job.plan.set = (s.ctx x).job.plan.set.filter (fun d => d.1 != rq.fld 0 2) ++ [(rq.fld 0 2, rq.fld 2 2)] ∧
      (t.ctx x).recov.state = (if (s.ctx x).recov.state = .waitingForModule then .selecting else (s.ctx x).recov.state) := by
  let v (M : Map Mailbox) : State :=
    if (s.ctx x).recov.state == .waitingForModule then (State.updJob { s with mailboxes := M } x (jobJoinedBy rq)).updRecov x (fun r => { r with state := .selecting })
    else State.updJob { s with mailboxes := M } x (jobJoinedBy rq)
  have hgo : ¬ ((s.ctx x).job.phase != 4 || (s.ctx x).job.plan.devices.contains (rq.fld 0 2) || decide (65535 ≤ (s.ctx x).job.plan.set.length)) = true := by
    rw [hphase, hnew, decide_eq_false (by omega)]
    decide
  obtain ⟨M, key, hexec, -, hans⟩ := exec_of_replies (i := .jobAddModule rq) v {} hs rfl (fun M _ => by
    rw [State.onCtx_of_acts (s := { s with mailboxes := M }) hx, State.bodyOf_of hlen (by simp [hdev]), State.asCoord_of (s := { s with mailboxes := M }) hcoord]
    exact if_neg hgo)
  refine ⟨_, hexec, hans, ?_⟩
  rw [State.ctx_answer]
  unfold v
  split
  next hwait =>
    rw [State.ctx_updRecov, State.ctx_updJob, if_pos (by simpa using hwait)]
    exact ⟨rfl, rfl, rfl⟩
  next hwait =>
    rw [State.ctx_updJob, if_neg (by simpa using hwait)]
    exact ⟨rfl, rfl, rfl⟩

theorem setEpoch_row {s : State} {rq : Req} {x : Nat} (hs : s.Heard rq 8 5) (hx : s.Acts rq x) (hlen : rq.body.length = 8) (hphase : (s.ctx x).job.phase < 3)
    (himage : ∀ im, (s.ctx x).job.image = some im → im.man.epochTai = 0) (htear : (s.ctx x).state ≠ .tearing) : ∃ t : State,
    exec (.setEpoch rq) s = .next t ∧ Answered t rq.mb 0 [] ∧ (t.ctx x).job = { (s.ctx x).job with epoch := rq.fld 0 8 } := by
  have hfixed : (match (s.ctx x).job.image with | some im => im.man.epochTai != 0 | none => false) = false := by
    cases him : (s.ctx x).job.image with
    | none => rfl
    | some im => simp [himage im him]
  obtain ⟨M, key, hexec, -, hans⟩ := exec_of_replies (i := .setEpoch rq)
    (fun M => State.updJob { s with mailboxes := M } x (fun j => { j with epoch := rq.fld 0 8 })) {} hs rfl (fun M _ => by
    rw [State.onCtx_of_acts (s := { s with mailboxes := M }) hx, State.bodyOf_of hlen rfl]
    refine if_neg ?_
    show ¬ (3 ≤ (s.ctx x).job.phase ∨ (match (s.ctx x).job.image with | some im => im.man.epochTai != 0 | none => false) = true ∨ _)
    rw [hfixed]
    simpa using ⟨hphase, htear⟩)
  refine ⟨_, hexec, hans, ?_⟩
  rw [State.ctx_answer, State.ctx_updJob]
  rfl

/-- An answer keeps what has gone out. -/
theorem State.out_answer {s : State} {o : Output} (h : o ∈ s.out) (rq : Req) (f c : Nat) (key : List Byte) (r : Reply) : o ∈ (s.answer rq f c key r).out := by
  unfold State.answer
  extract_lets hd mac u
  have hu : o ∈ u.out := h
  split
  · exact List.mem_append_left _ hu
  · exact hu

theorem jobReport_row {s : State} {rq : Req} {x : Nat} {im : JobImage} {b : List Byte} (hs : s.Heard rq 3 0x0A) (hx : s.Acts rq x)
    (hlen : rq.body.length = 12) (himage : (s.ctx x).job.image = some im) (hset : (s.ctx x).job.plan.set ≠ [])
    (hb : b = (if (s.ctx x).job.plan.status = 0 ∨ (s.ctx x).job.plan.coordinator = true then planReport im (s.ctx x).job.plan (s.ctx x).job.plan.replies
      else refusalReport (s.ctx x).job.plan.refusals).take (rq.fld 8 4)) : ∃ t : State, exec (.jobReport rq) s = .next t ∧
      Answered t rq.mb 0 (leBytes 4 b.length) ∧ (b ≠ [] → .dmaWrite rq.mb (rq.fld 0 8) b ∈ t.out) := by
  subst hb
  generalize hb : List.take (rq.fld 8 4) _ = b
  have hgo : ¬ (s.ctx x).job.plan.set.isEmpty = true := by simpa using hset
  let v (M : Map Mailbox) : State := if b.isEmpty then { s with mailboxes := M } else State.dma { s with mailboxes := M } rq.mb (rq.fld 0 8) b
  obtain ⟨M, key, hexec, -, hans⟩ := exec_of_replies (i := .jobReport rq) v { body := leBytes 4 b.length } hs rfl (fun M _ => by
    have himage' : (State.ctx { s with mailboxes := M } x).job.image = some im := himage
    rw [State.onCtx_of_acts (s := { s with mailboxes := M }) hx, State.bodyOf_of hlen rfl]
    dsimp only
    rw [himage']
    refine (if_neg hgo).trans ?_
    unfold v
    rw [← hb]
    rfl)
  refine ⟨_, hexec, hans, fun hne => State.out_answer ?_ _ _ _ _ _⟩
  unfold v
  rw [if_neg (by simpa using hne)]
  exact List.mem_append_right _ (List.mem_singleton_self _)

/-! ### RECOVER (R395) -/

/-- A recovery that a host's request begins where none is under way. -/
theorem State.beginRecovery_begins {s : State} {x : Nat} (hnone : (s.ctx x).recov.state = .none_) (atNs : Nat) :
    ((s.beginRecovery x 5 atNs []).ctx x).recov.state = .halting ∧ ((s.beginRecovery x 5 atNs []).ctx x).recov.trigger = 5 := by
  rw [State.beginRecovery]
  rw [if_pos rfl, if_pos (by rw [hnone]; rfl), State.updSec, State.ctx_updCtx, State.ctx_updRecov]
  dsimp only
  rw [if_pos (by rw [hnone]; rfl)]
  exact ⟨rfl, rfl⟩

/-- A recovery that a host has asked for begins under the handle k. -/
def State.recoverFor (s : State) (x k : Nat) : State := (s.beginRecovery x 5 (s.fabricNs x) []).updRecov x (fun r => { r with handle := k })

theorem State.recoverFor_begins {s : State} {x : Nat} (hnone : (s.ctx x).recov.state = .none_) (k : Nat) : (s.recoverFor x k).handles = s.handles ∧
    ((s.recoverFor x k).ctx x).recov.state = .halting ∧ ((s.recoverFor x k).ctx x).recov.trigger = 5 ∧ ((s.recoverFor x k).ctx x).recov.handle = k := by
  obtain ⟨hstate, htrigger⟩ := State.beginRecovery_begins hnone (s.fabricNs x)
  refine ⟨(State.beginRecovery_rel _ _ _ _ _).handles (by decide), ?_⟩
  rw [State.recoverFor, State.ctx_updRecov]
  exact ⟨hstate, htrigger, rfl⟩

theorem jobRecover_row {s : State} {rq : Req} {x : Nat} (hs : s.Heard rq 3 6) (hx : s.Acts rq x) (hb : rq.body = [])
    (hcoord : (s.ctx x).job.plan.coordinator = true) (hphase : (s.ctx x).job.phase = 4) (hnone : (s.ctx x).recov.state = .none_)
    (hroom : s.handleRoom rq.mb = true) (harmed : ∀ g, (s.ctx x).sampling.armed = some g → s.holdsGen x g = true) : ∃ t : State,
      exec (.jobRecover rq) s = .next t ∧ Handed s t rq 0x10 [] { mb := rq.mb, op := 0x10, ctx := some x, phase := 1, total := 6 } ∧
      (t.ctx x).recov.state = .halting ∧ (t.ctx x).recov.trigger = 5 ∧ (t.ctx x).recov.handle = s.nextHandle rq.mb 0x10 := by
  let g (u : State) (k : Nat) : State × Reply := match (s.ctx x).sampling.armed with
    | some g => if u.holdsGen x g then (u.recoverFor x k).given k else (u.finish k 0x16).given k
    | none => (u.recoverFor x k).given k
  have hgo : ¬ ((s.ctx x).job.phase != 4 || (s.ctx x).recov.state != .none_) = true := by simp [hphase, hnone]
  obtain ⟨B, H, P, key, hk, hexec⟩ := exec_of_hands (i := .jobRecover rq)
    { mb := rq.mb, op := 0x10, ctx := some x, phase := 1, total := 6 } g hs rfl hroom rfl (fun M => by
      rw [State.onCtx_of_acts (s := { s with mailboxes := M }) hx, State.bodyOf_of (by rw [hb]; rfl) rfl,
        State.asCoord_of (s := { s with mailboxes := M }) hcoord]
      exact if_neg hgo)
  have hg : ∀ k, g { s with mailboxes := B, handles := H, pcie := P } k = (State.recoverFor { s with mailboxes := B, handles := H, pcie := P } x k).given k := by
    intro k
    unfold g
    split
    next a ha => exact if_pos (harmed a ha)
    next => rfl
  obtain ⟨hhandles, hrecov⟩ := State.recoverFor_begins (s := { s with mailboxes := B, handles := H, pcie := P }) hnone (s.nextHandle rq.mb 0x10)
  refine ⟨_, hexec _ (hg _), handed_answer 3 6 key ((State.handle_congr hhandles _).trans hk), ?_⟩
  rw [State.given, State.ctx_answer]
  exact hrecov

/-! ### What the opening and closing of flows leaves of a context (R248, R250, R346) -/

section
variable {α : Type} {g : Ctx → α} (hg : ∀ c a b, g { c with colls := a, opens := b } = g c)
include hg

theorem SameCtx.openNow (s : State) (x : Nat) (a : OpenAsk) : SameCtx g s (s.openNow x a) := by
  unfold State.openNow
  split
  · exact .refl s
  next f _ =>
    extract_lets psn opened bound job
    have hopened : SameCtx g s opened := (SameCtx.of_rel (State.draw_rel s) (by decide)).trans (.of_rel (State.setFlow_rel _ _ _) (by decide))
    have hbound : SameCtx g opened bound := by
      unfold bound
      split
      · exact .refl _
      · exact .updCtx (hg _ _ (opened.ctx x).opens)
    exact (hopened.trans hbound).trans (.of_rel (State.sendCtrl_rel _ _ _ _) (by decide))

theorem SameCtx.sendOpen (s : State) (x : Nat) (a : OpenAsk) : SameCtx g s (s.sendOpen x a) := by
  unfold State.sendOpen
  split
  · exact .openNow hg s x a
  · exact .updCtx (hg _ (s.ctx x).colls _)

theorem SameCtx.dropFlow (s : State) (f : Nat) : SameCtx g s (s.dropFlow f) := by
  unfold State.dropFlow State.retryOpens
  refine SameCtx.trans (t := { s with flows := s.flows.del f, fcache := s.fcache.filter (fun k => k != f) }) (fun _ => rfl) (.foldl (fun u a => ?_) _ _)
  split
  · exact SameCtx.trans (t := u.updCtx _ (fun c => { c with opens := c.opens.drop 1 })) (.updCtx (hg _ (u.ctx _).colls _)) (.openNow hg _ _ a)
  · exact .refl u

theorem SameCtx.closeFlow (s : State) (f : Nat) : SameCtx g s (s.closeFlow f) := by
  unfold State.closeFlow
  extract_lets fl draining
  split
  · refine SameCtx.trans (t := draining.sendCtrl fl.peer 0xE3 (beBytes 4 f ++ beBytes 4 fl.peerFlow)) ?_ ?_
    · exact (SameCtx.of_rel (State.setFlow_rel s f _) (by decide)).trans (.of_rel (State.sendCtrl_rel _ _ _ _) (by decide))
    · unfold State.closeIfDone
      extract_lets fl' sent
      split
      · exact .refl _
      · have hsent : SameCtx g (draining.sendCtrl fl.peer 0xE3 (beBytes 4 f ++ beBytes 4 fl.peerFlow)) sent := by
          unfold sent
          split
          · exact .refl _
          · exact (SameCtx.of_rel (State.setFlow_rel _ _ _) (by decide)).trans (.of_rel (State.sendCtrl_rel _ _ _ _) (by decide))
        split
        · exact hsent.trans (.dropFlow hg _ _)
        · exact hsent
  · exact .dropFlow hg s f

theorem SameCtx.closeFlows (s : State) (x : Nat) : SameCtx g s (s.closeFlows x) := by
  unfold State.closeFlows
  exact .foldl (fun u (e : Nat × Flow) => .closeFlow hg u e.1) _ s

end

/-! ### START (R342) -/

/-- A member opens its planning flow to the coordinator, which itself opens none (R348). -/
def State.openPlanning (s : State) (x coord : Nat) (me : Bool) : State :=
  if me then s else s.sendOpen x { peer := coord, rank := [0, 0, 0, 0], queue := 5, paths := 1, planning := true }

theorem State.openPlanning_leaves (s : State) (x coord : Nat) (me : Bool) :
    SameCtx Ctx.job s (s.openPlanning x coord me) ∧ (s.openPlanning x coord me).handles = s.handles := by
  unfold State.openPlanning
  split
  · exact ⟨.refl _, rfl⟩
  · exact ⟨.sendOpen (fun _ _ _ => rfl) _ _ _, (State.sendOpen_rel _ _ _).handles (by decide)⟩

/-- START accepted for the job of an image with a set list, with the handle k. -/
def State.acceptStart (s : State) (rq : Req) (x : Nat) (set : List (Nat × Nat)) (im : JobImage) (k : Nat) : State :=
  let coord := least (set.map (fun d => d.1)) 0xFFFF
  let me : Bool := coord == s.deviceId
  let repl := rq.fld 12 1 = 1
  let s := s.updJob x (fun j => { j with
    phase := 3, image := some im, replicated := repl, handle := k, reportAddr := rq.fld 16 8, reportLen := rq.fld 24 4, fn := rq.mb
    restore := decide (rq.mb = 0) && !repl && (s.keptGen im.man.jobId).isSome
    plan := { set := set, coordinator := me, startNs := s.clk.tai.ns } })
  let s := (s.probeList set coord).foldl (fun s p => s.sendProbes p.1 p.2) s
  s.openPlanning x coord me

theorem State.acceptStart_starts (s : State) (rq : Req) (x : Nat) (set : List (Nat × Nat)) (im : JobImage) (k : Nat) :
    (s.acceptStart rq x set im k).handles = s.handles ∧
    ((s.acceptStart rq x set im k).ctx x).job.phase = 3 ∧ ((s.acceptStart rq x set im k).ctx x).job.handle = k ∧
    ((s.acceptStart rq x set im k).ctx x).job.plan.set = set ∧ ((s.acceptStart rq x set im k).ctx x).job.plan.startNs = s.clk.tai.ns ∧
    ((s.acceptStart rq x set im k).ctx x).job.plan.coordinator = decide (least (set.map (fun d => d.1)) 0xFFFF = s.deviceId) ∧
    ((s.acceptStart rq x set im k).ctx x).job.replicated = decide (rq.fld 12 1 = 1) := by
  unfold State.acceptStart
  extract_lets coord me repl planned probed
  have hprobed : Rel [.ctrl, .ctrlNext, .probes, .macs, .ecnDraws, .counters] planned probed := .foldl (fun u p => State.sendProbes_rel u p.1 p.2) (.refl _ _)
  obtain ⟨hopened, hhandles⟩ := probed.openPlanning_leaves x coord me
  have hplanned : planned.ctx x = _ := State.ctx_updJob s x _
  rw [(SameCtx.of_rel hprobed (by decide)).trans hopened x, hplanned, hhandles]
  exact ⟨hprobed.handles (by decide), rfl, rfl, rfl, rfl, rfl, rfl⟩

/-- The image that START runs: replicated, every device is a rank of its own. -/
def imageToStart (rq : Req) (im : JobImage) (n : Nat) : JobImage :=
  if rq.fld 12 1 = 1 then { im with man := { im.man with t := 1, p := 1, e := 1, d := n } } else im

theorem jobStart_row {s : State} {rq : Req} {x n : Nat} {im : JobImage} {set : List (Nat × Nat)} {bytes : List Byte} (hs : s.Heard rq 3 2) (hx : s.Acts rq x)
    (hn : n = rq.fld 8 4) (hmin : 1 ≤ n) (hmax : n ≤ 65535) (hlen : rq.body.length = 28) (hmode : rq.fld 12 1 ≤ 1) (hresv : rq.fld 13 3 = 0)
    (himage : (s.ctx x).job.image = some im) (hset : set = setEntries bytes n) (hloaded : (s.ctx x).state = .loaded) (hphase : (s.ctx x).job.phase = 2)
    (helse : s.jobElsewhere x im.man.jobId = false) (hself : set.any (fun d => d.1 = s.deviceId) = true) (hvalid : set.any (fun d => d.1 = 0xFFFF) = false)
    (hdistinct : (set.map (fun d => d.1)).eraseDups.length = n)
    (hranks : rq.fld 12 1 = 0 → rankCount im.man + (set.filter (fun d => (s.ctx x).job.failedModules.contains d.1)).length ≤ n)
    (hroom : s.handleRoom rq.mb = true) : ∃ t : State, exec (.jobStart rq (some bytes)) s = .next t ∧
      Handed s t rq 4 [] { mb := rq.mb, op := 4, ctx := some x, phase := 1, total := n } ∧ (t.ctx x).job.phase = 3 ∧
      (t.ctx x).job.handle = s.nextHandle rq.mb 4 ∧ (t.ctx x).job.plan.set = set ∧ (t.ctx x).job.plan.startNs = s.clk.tai.ns ∧
      (t.ctx x).job.plan.coordinator = decide (least (set.map (fun d => d.1)) 0xFFFF = s.deviceId) ∧
      (t.ctx x).job.replicated = decide (rq.fld 12 1 = 1) := by
  subst hn hset
  have hjobId : (imageToStart rq im (rq.fld 8 4)).man.jobId = im.man.jobId := by
    unfold imageToStart
    split <;> rfl
  have hstate : ¬ ((s.ctx x).state != .loaded || (s.ctx x).job.phase != 2 || s.jobElsewhere x (imageToStart rq im (rq.fld 8 4)).man.jobId ||
      !(setEntries bytes (rq.fld 8 4)).any (fun d => d.1 = s.deviceId)) = true := by
    rw [hjobId, helse, hself, hloaded, hphase]
    decide
  have hargs : ¬ ((setEntries bytes (rq.fld 8 4)).any (fun d => d.1 = 0xFFFF) ||
      ((setEntries bytes (rq.fld 8 4)).map (fun d => d.1)).eraseDups.length != rq.fld 8 4) = true := by
    rw [hvalid, hdistinct]
    simp
  have hfits : ¬ rq.fld 8 4 < rankCount (imageToStart rq im (rq.fld 8 4)).man + (if rq.fld 12 1 = 1 then 0 else
      ((setEntries bytes (rq.fld 8 4)).filter (fun d => (s.ctx x).job.failedModules.contains d.1)).length) := by
    unfold imageToStart
    split
    next => simp [rankCount]
    next hsplit => exact Nat.not_lt.mpr (hranks (by omega))
  obtain ⟨B, H, P, key, hk, hexec⟩ := exec_of_hands (i := .jobStart rq (some bytes))
    { mb := rq.mb, op := 4, ctx := some x, phase := 1, total := rq.fld 8 4 }
    (fun u k => (u.acceptStart rq x (setEntries bytes (rq.fld 8 4)) (imageToStart rq im (rq.fld 8 4)) k).given k) hs rfl hroom rfl (fun M => by
      have himage' : (State.ctx { s with mailboxes := M } x).job.image = some im := himage
      rw [State.onCtx_of_acts (s := { s with mailboxes := M }) hx]
      refine (State.bodyOf_of hlen (by simp [hmin, hmax, hmode, hresv]) _).trans ?_
      dsimp only
      rw [himage']
      exact (if_neg hstate).trans ((if_neg hargs).trans (if_neg hfits)))
  obtain ⟨hhandles, hjob⟩ := State.acceptStart_starts { s with mailboxes := B, handles := H, pcie := P } rq x (setEntries bytes (rq.fld 8 4))
    (imageToStart rq im (rq.fld 8 4)) (s.nextHandle rq.mb 4)
  refine ⟨_, hexec _ rfl, handed_answer 3 2 key ((State.handle_congr hhandles _).trans hk), ?_⟩
  rw [State.given, State.ctx_answer]
  exact hjob

/-! ### STOP and DECIDE (R404, R405, R460) -/

/-- A job that stops leaves its context READY, with the step counter that STATUS shows. -/
theorem State.stopJob_stops (s : State) (x : Nat) :
    ((s.stopJob x).ctx x).state = .ready ∧ ((s.stopJob x).ctx x).job.phase = 0 ∧ ((s.stopJob x).ctx x).job.step = (s.ctx x).job.step := by
  unfold State.stopJob
  extract_lets c hs ended dropped closed
  rw [State.ctx_updCtx]
  exact ⟨rfl, rfl, rfl⟩

theorem jobStop_row {s : State} {rq : Req} {x : Nat} (hs : s.Heard rq 3 0x0B) (hx : s.Acts rq x) (hb : rq.body = [])
    (hruns : (s.ctx x).state = .loaded ∨ (s.ctx x).state = .running) (hroom : s.handleRoom rq.mb = true) : ∃ t : State,
    exec (.jobStop rq) s = .next t ∧ Answered t rq.mb 0 [] ∧ (t.ctx x).state = .ready ∧ (t.ctx x).job.phase = 0 ∧
      (t.ctx x).job.step = (s.ctx x).job.step := by
  have hgo : ¬ ((s.ctx x).state != .loaded && (s.ctx x).state != .running) = true := by rcases hruns with h | h <;> simp [h]
  obtain ⟨B, H, P, key, -, hexec⟩ := exec_of_hands (i := .jobStop rq) { mb := rq.mb, op := 0x10, ctx := some x, phase := 1, total := 1 }
    (fun u k => (((u.stopJob x).progress k 1 1 1).finish k 0).given k) hs rfl hroom rfl (fun M => by
      rw [State.onCtx_of_acts (s := { s with mailboxes := M }) hx, State.bodyOf_of (by rw [hb]; rfl) rfl]
      exact if_neg hgo)
  refine ⟨_, hexec _ rfl, State.answer_answered _ _ _ _ _ _, ?_⟩
  rw [State.given, State.ctx_answer, State.ctx_finish_ok, State.ctx_congr ((State.progress_rel _ _ _ _ _).ctxs (by decide))]
  exact State.stopJob_stops _ _

/-- A DECIDE that the coordinator of an unverified job takes is answered OK with the effect of its ACTION. -/
theorem exec_of_decides {s : State} {i : Instr} {rq : Req} {x a : Nat} {act : Nat → State → State} (hs : s.Heard rq 3 7) (hx : s.Acts rq x)
    (hlen : rq.body.length = 8) (hresv : rq.fld 1 7 = 0) (hcoord : (s.ctx x).job.plan.coordinator = true) (hfailed : (s.ctx x).recov.state = .verifyFailed)
    (ha : rq.fld 0 1 = a) (hrow : exec i s = .next (s.actionCmd rq 3 7 a (fun u => u.decide' rq act))) : ∃ M key,
    exec i s = .next ((act x { s with mailboxes := M }).answer rq 3 7 key {}) ∧ Answered ((act x { s with mailboxes := M }).answer rq 3 7 key {}) rq.mb 0 [] := by
  have hgo : ¬ ((s.ctx x).recov.state != .verifyFailed) = true := by simp [hfailed]
  obtain ⟨M, key, hexec, -, hans⟩ := exec_of_replies (i := i) (fun M => act x { s with mailboxes := M }) {} hs (exec_of_action ha hrow) (fun M _ => by
    rw [State.decide', State.onCtx_of_acts (s := { s with mailboxes := M }) hx, State.bodyOf_of hlen (by simp [hresv]),
      State.asCoord_of (s := { s with mailboxes := M }) hcoord]
    exact if_neg hgo)
  exact ⟨M, key, hexec, hans⟩

theorem jobDecideStop_row {s : State} {rq : Req} {x : Nat} (hs : s.Heard rq 3 7) (hx : s.Acts rq x) (hlen : rq.body.length = 8) (hresv : rq.fld 1 7 = 0)
    (hcoord : (s.ctx x).job.plan.coordinator = true) (hfailed : (s.ctx x).recov.state = .verifyFailed) (ha : rq.fld 0 1 = 0) : ∃ t : State,
    exec (.jobDecideStop rq) s = .next t ∧ Answered t rq.mb 0 [] ∧ (t.ctx x).state = .ready ∧ (t.ctx x).job.phase = 0 := by
  obtain ⟨M, key, hexec, hans⟩ := exec_of_decides (i := .jobDecideStop rq) hs hx hlen hresv hcoord hfailed ha rfl
  obtain ⟨hready, hphase, -⟩ := State.stopJob_stops { s with mailboxes := M } x
  exact ⟨_, hexec, hans, by rw [State.ctx_answer, hready], by rw [State.ctx_answer, hphase]⟩

theorem jobDecideResume_row {s : State} {rq : Req} {x : Nat} (hs : s.Heard rq 3 7) (hx : s.Acts rq x) (hlen : rq.body.length = 8) (hresv : rq.fld 1 7 = 0)
    (hcoord : (s.ctx x).job.plan.coordinator = true) (hfailed : (s.ctx x).recov.state = .verifyFailed) (ha : rq.fld 0 1 = 1) : ∃ t : State,
    exec (.jobDecideResume rq) s = .next t ∧ Answered t rq.mb 0 [] ∧ (t.ctx x).recov.state = .none_ ∧ (t.ctx x).recov.verify = 2 := by
  obtain ⟨M, key, hexec, hans⟩ := exec_of_decides (i := .jobDecideResume rq) hs hx hlen hresv hcoord hfailed ha rfl
  refine ⟨_, hexec, hans, ?_⟩
  rw [State.ctx_answer]
  dsimp only
  rw [State.ctx_finish_ok, State.ctx_updRecov]
  exact ⟨rfl, rfl⟩

/-! ### What a refill leaves of the recovery (R347, R386, R397) -/

@[simp] theorem Ctx.recov_setBankEntry (c : Ctx) (b t : Nat) (e : TileEntry) : (c.setBankEntry b t e).recov = c.recov := by
  unfold Ctx.setBankEntry
  split <;> rfl

@[simp] theorem Ctx.recov_setEntry (c : Ctx) (t : Nat) (e : TileEntry) : (c.setEntry t e).recov = c.recov := c.recov_setBankEntry _ _ _

@[simp] theorem Ctx.recov_setHdr (c : Ctx) (t : Nat) (h : TileHdr) : (c.setHdr t h).recov = c.recov := by
  unfold Ctx.setHdr Ctx.setBankHdr
  split <;> rfl

theorem SameCtx.recov_of_tables {s t : State} (h : SameTables s t) : SameCtx Ctx.recov s t := .of_tables (fun _ _ _ => rfl) h

theorem State.recov_secureCopy (s : State) (x t : Nat) : SameCtx Ctx.recov s (s.secureCopy x t) := by
  unfold State.secureCopy
  extract_lets c e
  split
  · exact .refl s
  extract_lets capture preimage
  split
  · exact .refl s
  split
  · exact .refl s
  split
  · exact .refl s
  extract_lets copied counted c' k
  have hcounted : SameCtx Ctx.recov s counted := (SameCtx.of_rel (State.memCopy_rel s _ _ _) (by decide)).trans (.recov_of_tables (copied.sameTables_count _ _ _))
  split
  · exact hcounted.trans (.setCtx (Ctx.recov_setEntry _ _ _))
  · exact hcounted.trans (.setCtx rfl)

theorem State.recov_writeTile (s : State) (x t off : Nat) (d : List Byte) : SameCtx Ctx.recov s (s.writeTile x t off d) := by
  unfold State.writeTile
  split
  · exact (SameCtx.of_rel Rel.set_stalled (by decide)).trans (.of_rel (State.rush_rel _ x [t]) (by decide))
  · unfold State.tileWrite1 State.markWritten
    extract_lets copied written c e c'
    have hwritten : SameCtx Ctx.recov s written := (s.recov_secureCopy x t).trans (.of_rel (State.memWrite_rel _ _ _) (by decide))
    exact hwritten.trans (.setCtx ((Ctx.recov_setHdr _ _ _).trans (Ctx.recov_setEntry _ _ _)))

theorem State.recov_tsWrite (s : State) (c a : Nat) (d : List Byte) : SameCtx Ctx.recov s (s.tsWrite c a d) := by
  refine SameCtx.foldl (fun u w => ?_) _ s
  extract_lets lo hi part
  split
  · exact u.recov_writeTile _ _ _ _
  · exact (SameCtx.of_rel (State.memWrite_rel u _ _) (by decide)).trans (.of_rel (State.updCore_rel _ _ _) (by decide))

theorem State.recov_loadRings (s : State) (x : Nat) (gs : List RingImage) : SameCtx Ctx.recov s (s.loadRings x gs) := by
  refine SameCtx.trans (SameCtx.foldl (fun u r => ?_) gs s) (.of_rel (State.ceilingFell_rel _) (by decide))
  dsimp only
  split
  · exact .refl u
  · exact (SameCtx.foldl (fun v (e : _ × Nat) => v.recov_tsWrite _ _ _) _ u).trans (.of_rel (State.updRing_rel _ _ _ _) (by decide))

theorem State.recov_createTile (s : State) (x t : Nat) (e : TensorEntry) (d : List Byte) : SameCtx Ctx.recov s (s.createTile x t e d) := by
  unfold State.createTile
  split
  · exact .refl s
  · extract_lets n h placed
    have hplaced : SameCtx Ctx.recov s placed := .setCtx ((Ctx.recov_setHdr _ _ _).trans (Ctx.recov_setEntry _ _ _))
    exact (hplaced.trans (.of_rel (State.memWrite_rel _ _ _) (by decide))).trans (.of_rel (State.ownWindow_rel _ _ _ _) (by decide))

theorem State.recov_askMig (s : State) (a : MigAsk) : SameCtx Ctx.recov s (s.askMig a).1 := by
  unfold State.askMig
  extract_lets c e old kept
  split
  · exact .refl s
  split
  · split
    · exact .refl s
    · exact SameCtx.foldl (fun u (b : MigAsk) => .recov_of_tables (u.sameTables_migDone b.handle)) _ _
  split
  · exact .refl s
  split
  · exact .refl s
  split
  · exact .refl s
  · exact SameCtx.setCtx (s := s) (x := a.ctx) (Ctx.recov_setBankEntry _ _ _ _)

theorem State.recov_createTiles (s : State) (x : Nat) (im : JobImage) (r : List Nat) : SameCtx Ctx.recov s (s.createTiles x im r) := by
  unfold State.createTiles
  refine SameCtx.trans (SameCtx.foldl (fun u e => SameCtx.foldl (fun v i => ?_) _ u) _ s) (.updCtx rfl)
  extract_lets t c e' kept
  split
  · have hkept : SameCtx Ctx.recov v kept := .setCtx (Ctx.recov_setEntry _ _ _)
    split
    · exact hkept
    · exact hkept.trans (kept.recov_askMig _)
  · exact v.recov_createTile _ _ _ _

theorem State.recov_enterRefill (s : State) (x : Nat) : SameCtx Ctx.recov s (s.enterRefill x) := by
  unfold State.enterRefill
  extract_lets j pos
  split
  · exact .refl s
  next im _ =>
    extract_lets m k recs ranked loaded closed
    have hloaded : SameCtx Ctx.recov s loaded := by
      unfold loaded
      split
      · have hranked : SameCtx Ctx.recov s ranked := .updCtx rfl
        exact (hranked.trans (ranked.recov_loadRings _ _)).trans (State.recov_createTiles _ _ _ _)
      · exact .refl s
    have hclosed : SameCtx Ctx.recov s closed := hloaded.trans (.closeFlows (fun _ _ _ => rfl) loaded x)
    split
    · exact hclosed
    · refine hclosed.trans (.foldl (fun u e => ?_) _ _)
      extract_lets dev
      split
      · exact .sendOpen (fun _ _ _ => rfl) u _ _
      · exact .refl u

/-! ### CURSOR (R401, R402) -/

/-- The host's cursor is taken, and the member refills. -/
def State.takeCursor (s : State) (x host k : Nat) (ov : Bool) : State :=
  ((s.updRecov x (fun q => { q with state := .refilling, hostCursor := some host, override := ov })).enterRefill x).progress1 k

theorem State.recov_takeCursor (s : State) (x host k : Nat) (ov : Bool) : ((s.takeCursor x host k ov).ctx x).recov =
    { (s.ctx x).recov with state := .refilling, hostCursor := some host, override := ov } := by
  rw [State.takeCursor, State.ctx_congr ((State.progress1_rel _ _).ctxs (by decide)), State.recov_enterRefill _ _ x, State.ctx_updRecov]

/-- A recovery record leaves the state of the recovery (R405). -/
theorem State.recovState_recoveryRecord (s : State) (x outcome verify : Nat) : ((s.recoveryRecord x outcome verify).ctx x).recov.state = (s.ctx x).recov.state := by
  unfold State.recoveryRecord
  extract_lets c r t resume u
  rw [SameCtx.recov_of_tables (u.sameTables_logRecord _ _ _ _) x, State.ctx_updRecov]

theorem jobCursor_row {s : State} {rq : Req} {x : Nat} {r : SecRec} (hs : s.Heard rq 3 5) (hx : s.Acts rq x) (hlen : rq.body.length = 16)
    (hact : rq.fld 8 1 ≤ 1) (hresv : rq.fld 9 7 = 0) (htarget : (s.ctx x).recov.target = some r) (hcheck : (s.ctx x).recov.state = .cursorCheck) :
    ∃ t : State, exec (.jobCursor rq) s = .next t ∧
      (rq.fld 0 8 = r.dataCursor ∨ rq.fld 8 1 = 1 → Answered t rq.mb 0 [] ∧ (t.ctx x).recov.state = .refilling ∧
        (t.ctx x).recov.hostCursor = some (rq.fld 0 8) ∧ (t.ctx x).recov.override = decide (rq.fld 0 8 ≠ r.dataCursor)) ∧
      (rq.fld 0 8 ≠ r.dataCursor → rq.fld 8 1 = 0 → (t.ctx x).recov.state = .cursorCheck ∧ Answered t rq.mb 0x1C
        (leBytes 8 ((r.lastStep + 1) % 2 ^ 40) ++ zeros 8 ++ leBytes 8 r.dataCursor ++ leBytes 8 (rq.fld 0 8) ++
          leBytes 8 (ofSigned 64 ((rq.fld 0 8 : Int) - (r.dataCursor : Int))))) := by
  have hgo : ¬ ((s.ctx x).recov.state != .cursorCheck) = true := by simp [hcheck]
  have hok : (decide (rq.fld 8 1 ≤ 1) && rq.fld 9 7 == 0) = true := by simp [hact, hresv]
  have htarget' : ∀ M, (State.ctx { s with mailboxes := M } x).recov.target = some r := fun _ => htarget
  let k := (s.ctx x).recov.handle
  by_cases hmatch : rq.fld 0 8 = r.dataCursor
  · obtain ⟨M, key, hexec, -, hans⟩ := exec_of_replies (i := .jobCursor rq) (fun M => State.takeCursor { s with mailboxes := M } x (rq.fld 0 8) k false) {}
      hs rfl (fun M _ => by
        rw [State.onCtx_of_acts (s := { s with mailboxes := M }) hx, State.bodyOf_of hlen hok]
        dsimp only
        rw [htarget']
        exact (if_neg hgo).trans (if_pos hmatch))
    refine ⟨_, hexec, fun _ => ⟨hans, ?_⟩, fun hne => absurd hmatch hne⟩
    rw [State.ctx_answer, State.recov_takeCursor]
    exact ⟨rfl, rfl, by simp [hmatch]⟩
  by_cases hover : rq.fld 8 1 = 1
  · obtain ⟨M, key, hexec, -, hans⟩ := exec_of_replies (i := .jobCursor rq)
      (fun M => (State.event { s with mailboxes := M } 0x000F 1 x [r.dataCursor, rq.fld 0 8]).takeCursor x (rq.fld 0 8) k true) {} hs rfl (fun M _ => by
        rw [State.onCtx_of_acts (s := { s with mailboxes := M }) hx, State.bodyOf_of hlen hok]
        dsimp only
        rw [htarget']
        exact (if_neg hgo).trans ((if_neg hmatch).trans (if_pos hover)))
    refine ⟨_, hexec, fun _ => ⟨hans, ?_⟩, fun _ hzero => absurd (hover.symm.trans hzero) (by decide)⟩
    rw [State.ctx_answer, State.recov_takeCursor]
    exact ⟨rfl, rfl, by simp [hmatch]⟩
  · obtain ⟨M, key, hexec, -, hans⟩ := exec_of_replies (i := .jobCursor rq) (fun M => State.recoveryRecord { s with mailboxes := M } x 4 2)
      { status := 0x1C
        body := leBytes 8 ((r.lastStep + 1) % 2 ^ 40) ++ zeros 8 ++ leBytes 8 r.dataCursor ++ leBytes 8 (rq.fld 0 8)
                  ++ leBytes 8 (ofSigned 64 ((rq.fld 0 8 : Int) - (r.dataCursor : Int))) } hs rfl (fun M _ => by
        rw [State.onCtx_of_acts (s := { s with mailboxes := M }) hx, State.bodyOf_of hlen hok]
        dsimp only
        rw [htarget']
        exact (if_neg hgo).trans ((if_neg hmatch).trans (if_neg hover)))
    refine ⟨_, hexec, fun h => absurd h (not_or_intro hmatch hover), fun _ _ => ⟨?_, hans⟩⟩
    rw [State.ctx_answer, State.recovState_recoveryRecord]
    exact hcheck

/-- Settles O22, clause by clause: a command that is heard and passes its checks is answered as its action says, and the operations that follow the write
of a job's or a recovery's fields leave those fields. -/
theorem jobCommandRowsComplete : Obligations.JobCommandRowsComplete := by
  unfold Obligations.JobCommandRowsComplete
  exact ⟨fun rq x s hs hx hlen hresv hown hready hphase hroom => jobLoad_row hs hx hlen hresv hown hready hphase hroom,
    fun rq x n im set bytes s hs hx hn hmin hmax hlen hmode hresv himage hset hloaded hphase helse hself hvalid hdistinct hranks hroom =>
      jobStart_row hs hx hn hmin hmax hlen hmode hresv himage hset hloaded hphase helse hself hvalid hdistinct hranks hroom,
    fun rq x s hs hx hlen hpow hmin hmax hsize hpages htear => jobFeed_row hs hx hlen hpow hmin hmax hsize hpages htear,
    fun rq x s hs hx hb => jobStatus_row hs hx hb,
    fun rq x r s hs hx hlen hact hresv htarget hcheck => jobCursor_row hs hx hlen hact hresv htarget hcheck,
    fun rq x s hs hx hb hcoord hphase hnone hroom harmed => jobRecover_row hs hx hb hcoord hphase hnone hroom harmed,
    fun rq x s hs hx hlen hresv hcoord hfailed => ⟨fun ha => jobDecideStop_row hs hx hlen hresv hcoord hfailed ha,
      fun ha => jobDecideResume_row hs hx hlen hresv hcoord hfailed ha⟩,
    fun rq x s hs hx hlen hcoord hphase hidle hroom hsteps => jobValidate_row hs hx hlen hcoord hphase hidle hroom hsteps,
    fun rq x s hs hx hlen hdev hcoord hphase hnew hroom => jobAddModule_row hs hx hlen hdev hcoord hphase hnew hroom,
    fun rq x im b s hs hx hlen himage hset hb => jobReport_row hs hx hlen himage hset hb,
    fun rq x s hs hx hb hruns hroom => jobStop_row hs hx hb hruns hroom,
    fun rq x s hs hx hlen hphase himage htear => setEpoch_row hs hx hlen hphase himage htear⟩

end Sys2Proof.Machine

/-! SUPPORT. The rebuild of lost members (O46): the field GF(2⁸) of R325 by its discrete logarithm, and parity sums as XORs over the members of a group. -/

namespace Sys2Proof.Machine

/-! ### XOR over a list of members (R325) -/

/-- The XOR of f over a list of members. -/
def xorSum (f : Nat → Nat) (l : List Nat) : Nat := l.foldl (fun a q => a ^^^ f q) 0

@[simp] theorem xorSum_nil (f : Nat → Nat) : xorSum f [] = 0 := rfl

theorem foldl_xor_eq (f : Nat → Nat) (l : List Nat) (a : Nat) : l.foldl (fun a q => a ^^^ f q) a = a ^^^ xorSum f l := by
  unfold xorSum
  induction l generalizing a with
  | nil => simp
  | cons q l ih => rw [List.foldl_cons, List.foldl_cons, ih, ih (0 ^^^ f q), Nat.zero_xor, Nat.xor_assoc]

@[simp] theorem xorSum_cons (f : Nat → Nat) (q : Nat) (l : List Nat) : xorSum f (q :: l) = f q ^^^ xorSum f l := by
  rw [xorSum, List.foldl_cons, foldl_xor_eq, Nat.zero_xor]

theorem xorSum_congr {f g : Nat → Nat} {l : List Nat} (h : ∀ q ∈ l, f q = g q) : xorSum f l = xorSum g l := by
  induction l with
  | nil => rfl
  | cons q l ih => rw [xorSum_cons, xorSum_cons, h q (List.mem_cons_self ..), ih fun r hr => h r (List.mem_cons_of_mem _ hr)]

theorem xorSum_xor (f g : Nat → Nat) (l : List Nat) : xorSum (fun q => f q ^^^ g q) l = xorSum f l ^^^ xorSum g l := by
  induction l with
  | nil => exact (Nat.xor_self 0).symm
  | cons q l ih => simp only [xorSum_cons, ih]; ac_rfl

theorem xorSum_lt {f : Nat → Nat} (h : ∀ q, f q < 256) (l : List Nat) : xorSum f l < 256 := by
  induction l with
  | nil => exact Nat.zero_lt_succ 255
  | cons q l ih => rw [xorSum_cons]; exact Nat.xor_lt_two_pow (n := 8) (h q) ih

theorem xorSum_filter (f : Nat → Nat) (keep : Nat → Bool) (l : List Nat) :
    xorSum f (l.filter keep) = xorSum (fun q => if keep q then f q else 0) l := by
  induction l with
  | nil => rfl
  | cons q l ih => cases hq : keep q <;> simp [hq, ih]

theorem xorSum_eq_zero {f : Nat → Nat} {l : List Nat} (h : ∀ q ∈ l, f q = 0) : xorSum f l = 0 := by
  induction l with
  | nil => rfl
  | cons q l ih => rw [xorSum_cons, h q (List.mem_cons_self ..), ih fun r hr => h r (List.mem_cons_of_mem _ hr)]; rfl

/-- An XOR in which one member alone contributes is that member's share. -/
theorem xorSum_single {f : Nat → Nat} {l : List Nat} {x : Nat} (hl : l.Nodup) (hx : x ∈ l) (h : ∀ q ∈ l, q ≠ x → f q = 0) : xorSum f l = f x := by
  induction l with
  | nil => cases hx
  | cons q l ih =>
    obtain ⟨hq, hl⟩ := List.nodup_cons.mp hl
    rw [xorSum_cons]
    by_cases hqx : q = x
    · subst hqx
      rw [xorSum_eq_zero fun r hr => h r (List.mem_cons_of_mem _ hr) (ne_of_mem_of_not_mem hr hq), Nat.xor_zero]
    · rw [h q (List.mem_cons_self ..) hqx, Nat.zero_xor]
      exact ih hl ((List.mem_cons.mp hx).resolve_left (Ne.symm hqx)) fun r hr => h r (List.mem_cons_of_mem _ hr)

/-- The XOR over all members and the XOR over the kept ones differ by the member x, where every other member left out contributes nothing. -/
theorem xorSum_xor_kept {f : Nat → Nat} {keep : Nat → Bool} {n x : Nat} (hx : x < n) (hkeep : keep x = false) (hout : ∀ q, q ≠ x → keep q = false → f q = 0) :
    xorSum f (List.range n) ^^^ xorSum f ((List.range n).filter keep) = f x := by
  rw [xorSum_filter, ← xorSum_xor, xorSum_single List.nodup_range (List.mem_range.mpr hx)]
  · rw [hkeep]; exact Nat.xor_zero _
  · intro q _ hq
    cases hk : keep q with
    | false => rw [hout q hq hk]; rfl
    | true => exact Nat.xor_self _

/-! ### Multiplication in GF(2⁸) (R325) -/

theorem gfAlpha_lt {b : Nat} (h : b < 256) : gfAlpha b < 256 := by
  unfold gfAlpha
  split
  · exact Nat.xor_lt_two_pow (n := 8) (Nat.mod_lt _ (by decide)) (by decide)
  · omega

theorem gfAlpha_eq {b : Nat} (h : b < 256) : gfAlpha b = b * 2 % 256 ^^^ if b.testBit 7 then 0x1D else 0 := by
  have hbit : b.testBit 7 = decide (128 ≤ b) := by
    rw [Nat.testBit_eq_decide_div_mod_eq, decide_eq_decide]; omega
  rw [gfAlpha, hbit]
  by_cases hb : 128 ≤ b
  · simp [hb]
  · simp [hb, Nat.mod_eq_of_lt (show b * 2 < 256 by omega)]

theorem gfAlpha_xor {a b : Nat} (ha : a < 256) (hb : b < 256) : gfAlpha (a ^^^ b) = gfAlpha a ^^^ gfAlpha b := by
  have hdouble : (a ^^^ b) * 2 % 256 = a * 2 % 256 ^^^ b * 2 % 256 := by
    have hshift : (a ^^^ b) * 2 = a * 2 ^^^ b * 2 := by
      simpa [Nat.shiftLeft_eq] using Nat.shiftLeft_xor_distrib (a := a) (b := b) (i := 1)
    rw [hshift]
    exact Nat.xor_mod_two_pow (n := 8)
  rw [gfAlpha_eq (Nat.xor_lt_two_pow (n := 8) ha hb), gfAlpha_eq ha, gfAlpha_eq hb, hdouble, Nat.testBit_xor]
  have hpoly (p q : Bool) : (if (p ^^ q) = true then 0x1D else 0) = (if p = true then 0x1D else 0) ^^^ if q = true then 0x1D else 0 := by
    cases p <;> cases q <;> rfl
  rw [hpoly]
  ac_rfl

theorem iterate_gfAlpha_lt {b : Nat} (h : b < 256) (k : Nat) : gfAlpha^[k] b < 256 := by
  induction k with
  | zero => exact h
  | succ k ih => rw [Function.iterate_succ_apply']; exact gfAlpha_lt ih

/-- A product is the XOR of the multiples of a by the powers of α that b selects. -/
theorem gfMul_eq_xorSum (a b : Nat) : gfMul a b = xorSum (fun i => if b.testBit i then gfAlpha^[i] a else 0) (List.range 8) := by
  have hif (p : Bool) (r v : Nat) : (if p = true then r ^^^ v else r) = r ^^^ if p = true then v else 0 := by cases p <;> simp
  simp only [gfMul, xorSum, List.range, List.range.loop, List.foldl, bit_eq_testBit, hif, Function.iterate_succ_apply', Function.iterate_zero, id_eq]

theorem gfMul_lt {a : Nat} (ha : a < 256) (b : Nat) : gfMul a b < 256 := by
  rw [gfMul_eq_xorSum]
  refine xorSum_lt (fun i => ?_) _
  split
  · exact iterate_gfAlpha_lt ha i
  · decide

@[simp] theorem gfMul_zero (a : Nat) : gfMul a 0 = 0 := by
  rw [gfMul_eq_xorSum]; exact xorSum_eq_zero fun i _ => by simp

@[simp] theorem zero_gfMul (b : Nat) : gfMul 0 b = 0 := by
  have hfix (i : Nat) : gfAlpha^[i] 0 = 0 := Function.iterate_fixed rfl i
  rw [gfMul_eq_xorSum]
  exact xorSum_eq_zero fun i _ => by rw [hfix, ite_self]

theorem gfMul_xor (a b c : Nat) : gfMul a (b ^^^ c) = gfMul a b ^^^ gfMul a c := by
  simp only [gfMul_eq_xorSum, ← xorSum_xor, Nat.testBit_xor]
  refine xorSum_congr fun i _ => ?_
  cases b.testBit i <;> cases c.testBit i <;> simp

theorem gfAlpha_xorSum {f : Nat → Nat} (h : ∀ q, f q < 256) (l : List Nat) : gfAlpha (xorSum f l) = xorSum (fun q => gfAlpha (f q)) l := by
  induction l with
  | nil => rfl
  | cons q l ih => rw [xorSum_cons, xorSum_cons, gfAlpha_xor (h q) (xorSum_lt h l), ih]

theorem gfMul_gfAlpha {a : Nat} (ha : a < 256) (b : Nat) : gfMul (gfAlpha a) b = gfAlpha (gfMul a b) := by
  rw [gfMul_eq_xorSum, gfMul_eq_xorSum, gfAlpha_xorSum]
  · refine xorSum_congr fun i _ => ?_
    cases b.testBit i
    · rfl
    · exact Function.Commute.iterate_self gfAlpha i a
  · intro i
    split
    · exact iterate_gfAlpha_lt ha i
    · decide

theorem one_gfMul {b : Nat} (hb : b < 256) : gfMul 1 b = b := by
  have hall : ∀ b < 256, gfMul 1 b = b := by decide +kernel
  exact hall b hb

/-! ### The discrete logarithm: α generates the nonzero elements (R325) -/

/-- α^k as the iterated multiplication by α. -/
def alphaIter (k : Nat) : Nat := gfAlpha^[k] 1

theorem alphaIter_lt (k : Nat) : alphaIter k < 256 := iterate_gfAlpha_lt (by decide) k

theorem alphaIter_mul {b : Nat} (hb : b < 256) (k : Nat) : gfMul (alphaIter k) b = gfAlpha^[k] b := by
  induction k with
  | zero => exact one_gfMul hb
  | succ k ih => rw [Function.iterate_succ_apply', ← ih, ← gfMul_gfAlpha (alphaIter_lt k), alphaIter, alphaIter, Function.iterate_succ_apply']

theorem alphaIter_mul_alphaIter (k m : Nat) : gfMul (alphaIter k) (alphaIter m) = alphaIter (k + m) := by
  rw [alphaIter_mul (alphaIter_lt m), alphaIter, alphaIter, Function.iterate_add_apply]

theorem alphaIter_255 : alphaIter 255 = 1 := by decide +kernel

/-- The order of α is 255: it divides 255 and none of 255 / 3, 255 / 5 and 255 / 17. -/
theorem minimalPeriod_gfAlpha : Function.minimalPeriod gfAlpha 1 = 255 := by
  have hdvd : Function.minimalPeriod gfAlpha 1 ∣ 255 := Function.IsPeriodicPt.minimalPeriod_dvd alphaIter_255
  have hnot (k : Nat) (hk : alphaIter k ≠ 1) : ¬ Function.minimalPeriod gfAlpha 1 ∣ k := fun h => hk (Function.isPeriodicPt_iff_minimalPeriod_dvd.mpr h)
  have h85 := hnot 85 (by decide +kernel)
  have h51 := hnot 51 (by decide +kernel)
  have h15 := hnot 15 (by decide +kernel)
  have hdivisors : ∀ p ∈ Nat.divisors 255, ¬ p ∣ 85 → ¬ p ∣ 51 → ¬ p ∣ 15 → p = 255 := by decide +kernel
  exact hdivisors _ (Nat.mem_divisors.mpr ⟨hdvd, by decide⟩) h85 h51 h15

theorem alphaIter_injOn : Set.InjOn alphaIter (Set.Iio 255) := minimalPeriod_gfAlpha ▸ Function.iterate_injOn_Iio_minimalPeriod

theorem alphaIter_ne_zero (k : Nat) : alphaIter k ≠ 0 := by
  intro h0
  have hk : k = 255 * (k / 255) + k % 255 := (Nat.div_add_mod k 255).symm
  have hback : gfAlpha^[255 * k - k] (alphaIter k) = 1 := by
    rw [alphaIter, ← Function.iterate_add_apply, Nat.sub_add_cancel (by omega), Function.iterate_mul]
    exact Function.iterate_fixed alphaIter_255 k
  rw [h0, Function.iterate_fixed (show gfAlpha 0 = 0 from rfl)] at hback
  exact absurd hback (by decide)

/-- Every nonzero element is a power of α: 255 powers are distinct, and 255 elements are not zero. -/
theorem exists_alphaIter {a : Nat} (ha : a < 256) (h0 : a ≠ 0) : ∃ k < 255, alphaIter k = a := by
  have hsub : (Finset.range 255).image alphaIter ⊆ (Finset.range 256).erase 0 := by
    intro b hb
    obtain ⟨k, -, rfl⟩ := Finset.mem_image.mp hb
    exact Finset.mem_erase.mpr ⟨alphaIter_ne_zero k, Finset.mem_range.mpr (alphaIter_lt k)⟩
  have hcard : ((Finset.range 255).image alphaIter).card = 255 := by
    rw [Finset.card_image_of_injOn (by simpa using alphaIter_injOn), Finset.card_range]
  have heq := Finset.eq_of_subset_of_card_le hsub (by rw [hcard, Finset.card_erase_of_mem (by simp), Finset.card_range])
  have hmem : a ∈ (Finset.range 255).image alphaIter := heq ▸ Finset.mem_erase.mpr ⟨h0, Finset.mem_range.mpr ha⟩
  obtain ⟨k, hk, rfl⟩ := Finset.mem_image.mp hmem
  exact ⟨k, Finset.mem_range.mp hk, rfl⟩

theorem gfMul_comm {a b : Nat} (ha : a < 256) (hb : b < 256) : gfMul a b = gfMul b a := by
  rcases eq_or_ne a 0 with rfl | ha0
  · simp
  rcases eq_or_ne b 0 with rfl | hb0
  · simp
  obtain ⟨k, -, rfl⟩ := exists_alphaIter ha ha0
  obtain ⟨m, -, rfl⟩ := exists_alphaIter hb hb0
  rw [alphaIter_mul_alphaIter, alphaIter_mul_alphaIter, Nat.add_comm]

theorem gfMul_assoc {a b c : Nat} (ha : a < 256) (hb : b < 256) (hc : c < 256) : gfMul (gfMul a b) c = gfMul a (gfMul b c) := by
  rcases eq_or_ne a 0 with rfl | ha0
  · simp
  rcases eq_or_ne b 0 with rfl | hb0
  · simp
  rcases eq_or_ne c 0 with rfl | hc0
  · simp
  obtain ⟨k, -, rfl⟩ := exists_alphaIter ha ha0
  obtain ⟨l, -, rfl⟩ := exists_alphaIter hb hb0
  obtain ⟨m, -, rfl⟩ := exists_alphaIter hc hc0
  simp only [alphaIter_mul_alphaIter, Nat.add_assoc]

/-- A product by c is undone by the inverse of c. -/
theorem gfMul_gfMul_inverse {d c i : Nat} (hd : d < 256) (hc : c < 256) (hi : i < 256) (hinv : gfMul i c = 1) : gfMul (gfMul d c) i = d := by
  rw [gfMul_assoc hd hc hi, gfMul_comm hc hi, hinv, gfMul_comm hd (by decide), one_gfMul hd]

theorem exists_gfMul_eq_one {c : Nat} (hc : c < 256) (h0 : c ≠ 0) : ∃ i < 256, gfMul i c = 1 := by
  obtain ⟨k, hk, rfl⟩ := exists_alphaIter hc h0
  refine ⟨alphaIter (255 - k), alphaIter_lt _, ?_⟩
  rw [alphaIter_mul_alphaIter, Nat.sub_add_cancel hk.le, alphaIter_255]

theorem xorSum_gfMul {f : Nat → Nat} (h : ∀ q, f q < 256) {c : Nat} (hc : c < 256) (l : List Nat) : gfMul (xorSum f l) c = xorSum (fun q => gfMul (f q) c) l := by
  induction l with
  | nil => simp
  | cons q l ih =>
    have hq : gfMul (f q ^^^ xorSum f l) c = gfMul (f q) c ^^^ gfMul (xorSum f l) c := by
      rw [gfMul_comm (Nat.xor_lt_two_pow (n := 8) (h q) (xorSum_lt h l)) hc, gfMul_xor, gfMul_comm hc (h q), gfMul_comm hc (xorSum_lt h l)]
    rw [xorSum_cons, xorSum_cons, hq, ih]

/-! ### The rebuild (R329) -/

/-- The accumulator of P₀ times α^y, P₁ and the members that are left holds the lost member x times α^x XOR α^y; y contributes nothing. -/
theorem rebuild_accumulator {d : Nat → Nat} {n x y : Nat} (hx : x < n) (hd : ∀ q, d q < 256) :
    gfMul (xorSum d (List.range n)) (alphaIter y) ^^^ xorSum (fun q => gfMul (d q) (alphaIter q)) (List.range n) ^^^
      xorSum (fun q => gfMul (d q) (alphaIter y ^^^ alphaIter q)) ((List.range n).filter (fun q => q != x && q != y)) =
        gfMul (d x) (alphaIter x ^^^ alphaIter y) := by
  rw [xorSum_gfMul hd (alphaIter_lt y), ← xorSum_xor]
  simp only [← gfMul_xor]
  rw [Nat.xor_comm (alphaIter x)]
  refine xorSum_xor_kept (f := fun q => gfMul (d q) (alphaIter y ^^^ alphaIter q)) hx (by simp) fun q hqx hkeep => ?_
  obtain rfl : q = y := by simpa [hqx] using hkeep
  rw [Nat.xor_self, gfMul_zero]

/-- Settles O46: GF(2⁸) is a field in which α has order 255, and what the accumulator leaves is the lost member's byte times a known nonzero factor. -/
theorem rebuildRestoresLostData : Obligations.RebuildRestoresLostData := by
  unfold Obligations.RebuildRestoresLostData
  intro n x y d al sum hn hx hy hxy hd hal hsum
  obtain rfl : al = alphaIter := by
    funext q
    rw [hal, alphaIter]
    dsimp only
    rw [List.foldl_const, List.length_range]
  obtain rfl : sum = fun f keep => xorSum f ((List.range n).filter keep) := hsum
  simp only [List.filter_true]
  have hfactor : alphaIter x ^^^ alphaIter y < 256 := Nat.xor_lt_two_pow (n := 8) (alphaIter_lt x) (alphaIter_lt y)
  have hne : alphaIter x ^^^ alphaIter y ≠ 0 := fun h =>
    hxy (alphaIter_injOn (Set.mem_Iio.mpr (by omega)) (Set.mem_Iio.mpr (by omega)) (Nat.xor_eq_zero_iff.mp h))
  have hother (q : Nat) (hq : q ≠ x) (hkeep : (q != x) = false) : False := hq (by simpa using hkeep)
  refine ⟨xorSum_xor_kept hx (by simp) fun q hq hk => (hother q hq hk).elim, fun i hi hinv => ?_, fun i hi hinv => ?_, exists_gfMul_eq_one hfactor hne⟩
  · rw [xorSum_xor_kept (f := fun q => gfMul (d q) (alphaIter q)) hx (by simp) fun q hq hk => (hother q hq hk).elim]
    exact gfMul_gfMul_inverse (hd x) (alphaIter_lt x) hi hinv
  · rw [rebuild_accumulator hx hd]
    exact gfMul_gfMul_inverse (hd x) hfactor hi hinv

end Sys2Proof.Machine

/-! SUPPORT. The life of a job (O17): what opening flows, sending moves and building a tile table leave of a context, and each row from its guard. -/

namespace Sys2Proof.Machine

/-! ### An outcome and what holds of it -/

/-- The outcome is a next state of which P holds. -/
def Reaches (o : Host.Outcome State Fault Refusal) (P : State → Prop) : Prop := ∃ t, o = .next t ∧ P t

theorem Reaches.intro {P : State → Prop} {t : State} (h : P t) : Reaches (.next t) P := ⟨t, rfl, h⟩

/-- What a frame says of a command's next state may be used of the state that it reaches. -/
theorem Reaches.of_frame {P Q : State → Prop} {l : List Fld} {s : State} {o : Host.Outcome State Fault Refusal} (g : Next l s o) (h : Reaches o P)
    (hq : ∀ t, Rel l s t → P t → Q t) : Reaches o Q := by
  obtain ⟨t, rfl, ht⟩ := h
  obtain ⟨u, hu, hrel⟩ := g
  cases hu
  exact .intro (hq t hrel ht)

/-! ### What flows, counters and the log leave of a context (R247, R248, R250, R466) -/

/-- A context apart from what flows, counters and the log write in it. -/
def Ctx.apart (c : Ctx) : Ctx := { c with colls := [], opens := [], counters := [], logOverflow := 0 }

theorem SameCtx.apart_of_tables {s t : State} (h : SameTables s t) : SameCtx Ctx.apart s t := .of_tables (fun _ _ _ => rfl) h

section
variable {s t : State} (h : SameCtx Ctx.apart s t) (x : Nat)
include h

theorem SameCtx.job_of_apart : (t.ctx x).job = (s.ctx x).job := (congrArg Ctx.job (h x) :)

theorem SameCtx.recov_of_apart : (t.ctx x).recov = (s.ctx x).recov := (congrArg Ctx.recov (h x) :)

theorem SameCtx.state_of_apart : (t.ctx x).state = (s.ctx x).state := (congrArg Ctx.state (h x) :)

theorem SameCtx.insts_of_apart : (t.ctx x).insts = (s.ctx x).insts := (congrArg Ctx.insts (h x) :)

theorem SameCtx.sec_of_apart : (t.ctx x).sec = (s.ctx x).sec := (congrArg Ctx.sec (h x) :)

end

theorem State.apart_sendOpen (s : State) (x : Nat) (a : OpenAsk) : SameCtx Ctx.apart s (s.sendOpen x a) := .sendOpen (fun _ _ _ => rfl) s x a

theorem State.apart_closeFlow (s : State) (f : Nat) : SameCtx Ctx.apart s (s.closeFlow f) := .closeFlow (fun _ _ _ => rfl) s f

theorem State.apart_foldl_closeFlow (s : State) (l : List (Nat × Flow)) : SameCtx Ctx.apart s (l.foldl (fun u e => u.closeFlow e.1) s) :=
  .foldl (fun u (e : Nat × Flow) => u.apart_closeFlow e.1) l s

theorem State.clk_foldl_closeFlow (s : State) (l : List (Nat × Flow)) : (l.foldl (fun u e => u.closeFlow e.1) s).clk = s.clk :=
  (Rel.foldl (fun u (e : Nat × Flow) => u.closeFlow_rel e.1) (.refl _ s)).clk (by decide)

theorem State.apart_closePlanning (s : State) (x : Nat) : SameCtx Ctx.apart s (s.closePlanning x) := s.apart_foldl_closeFlow _

theorem State.apart_openNew (s : State) (x : Nat) (needs : List (Nat × List Nat × Nat)) : SameCtx Ctx.apart s (s.openNew x needs) := by
  refine .foldl (fun u e => ?_) _ s
  extract_lets +onlyGivenNames open_
  split
  · exact .refl u
  · exact u.apart_sendOpen _ _

/-! ### The plan (R342, R345, R346) -/

theorem planPlacement_row {s : State} {x : Nat} {m : PlanMeasure} {im : JobImage} (himage : (s.ctx x).job.image = some im) (hphase : (s.ctx x).job.phase = 3)
    (hcoord : (s.ctx x).job.plan.coordinator = true) (hplanned : (s.ctx x).job.plan.planned = false)
    (hflows : (s.ctx x).job.plan.set.all (fun d => d.1 = s.deviceId || s.planFlow x d.1) = true) : ∃ t : State, exec (.planPlacement x m) s = .next t ∧
      (t.ctx x).job.plan.planned = true ∧ (t.ctx x).job.plan.devices = (s.ctx x).job.planOrder (s.links ++ m.links.filter (fun l => l.devA != s.deviceId)) ∧
      (t.ctx x).job.plan.links = s.links ++ m.links.filter (fun l => l.devA != s.deviceId) ∧ (t.ctx x).job.plan.warm = warmCounts im.man ∧
      (t.ctx x).job.plan.axisOrder = axisOrderOf im ∧ (t.ctx x).job.plan.rank = some [0, 0, 0, 0] := by
  refine (?_ : Reaches (execPlanPlacement x m s) _)
  unfold execPlanPlacement
  extract_lets +onlyGivenNames j
  rw [show j.image = some im from himage]
  dsimp -zeta only
  rw [if_neg (by unfold j; rw [hflows, hphase, hcoord, hplanned]; decide)]
  refine .intro ?_
  rw [State.ctx_updJob]
  exact ⟨rfl, rfl, rfl, rfl, rfl, rfl⟩

theorem planAccept_row {s : State} {x : Nat} {p : PlanMsg} {im : JobImage} (himage : (s.ctx x).job.image = some im) (hphase : (s.ctx x).job.phase = 3)
    (hnew : (s.ctx x).job.plan.accepted = false) (hplanned : (s.ctx x).job.plan.coordinator = true → (s.ctx x).job.plan.planned = true)
    (hself : p.devices.getD p.position 0xFFFF = s.deviceId) : ∃ t : State,
      exec (.planAccept x p) s = .next t ∧ (t.ctx x).job.plan.accepted = true ∧ (t.ctx x).job.plan.position = p.position ∧
      (t.ctx x).job.plan.devices = p.devices ∧ (t.ctx x).job.plan.rank =
        (if p.position < rankCount im.man then some (rankAt im.man p.axisOrder p.position) else none) ∧
      (t.ctx x).job.plan.refusals = (if p.position < rankCount im.man then s.stage4 x im p.axisOrder p.position else []) := by
  have hgo : ¬ ((s.ctx x).job.phase ≠ 3 ∨ (s.ctx x).job.plan.accepted = true ∨ ((s.ctx x).job.plan.coordinator = true ∧ ¬ (s.ctx x).job.plan.planned = true) ∨
      p.devices.getD p.position 0xFFFF ≠ s.deviceId) := by
    rw [hphase, hnew, hself]
    simpa using hplanned
  refine (?_ : Reaches (execPlanAccept x p s) _)
  unfold execPlanAccept
  extract_lets +onlyGivenNames c
  rw [show c.job.image = some im from himage]
  dsimp -zeta only
  extract_lets +onlyGivenNames m
  rw [if_neg hgo]
  extract_lets +onlyGivenNames r short colls ws bound opened
  have hopened : SameCtx Ctx.apart bound opened := by
    unfold opened
    clear_value bound short r
    split
    · exact .refl _
    · split
      · exact .refl _
      · refine .foldl (fun u e => ?_) _ _
        extract_lets +onlyGivenNames dev
        split
        · exact u.apart_sendOpen _ _
        · exact .refl u
  refine .intro ?_
  rw [SameCtx.job_of_apart (hopened.trans (.of_rel (State.progress_rel _ _ _ _ _) (by decide))) x]
  have hbound : bound.ctx x = _ := State.ctx_updCtx s x _
  rw [hbound]
  refine ⟨rfl, rfl, rfl, rfl, ?_⟩
  show short = _
  unfold short
  by_cases hrank : p.position < rankCount im.man
  · rw [show r = some _ from if_pos hrank, if_pos hrank]
  · rw [show r = none from if_neg hrank, if_neg hrank]

/-! ### The start decision (R341, R346, R454, R566) -/

theorem State.refuseJob_phase (s : State) (x status : Nat) (rs : List MemberReply) : ((s.refuseJob x status rs).ctx x).job.phase = 2 := by
  unfold State.refuseJob
  extract_lets +onlyGivenNames j plan rep closed refused
  have hrefused : refused.ctx x = _ := State.ctx_updCtx closed x _
  rw [SameCtx.job_of_apart (.apart_of_tables (State.sameTables_finish _ _ _)) x, hrefused]

/-- A job that starts runs from the first step of its manifest on the grid point given, or begins in recovery at SELECTING. -/
theorem State.startJob_starts {s : State} {x : Nat} {im : JobImage} (himage : (s.ctx x).job.image = some im) (grid : Nat) (restore : Bool) (rs : List MemberReply) :
    ((s.startJob x grid restore rs).ctx x).state = .running ∧ ((s.startJob x grid restore rs).ctx x).job.phase = 4 ∧
    ((s.startJob x grid restore rs).ctx x).job.plan.gridStart = grid ∧ ((s.startJob x grid restore rs).ctx x).job.step = im.man.firstStep ∧
    (restore = true → ((s.startJob x grid restore rs).ctx x).recov.state = .selecting) := by
  unfold State.startJob
  rw [himage]
  dsimp -zeta only
  extract_lets +onlyGivenNames loaded now h started closed j reported progressed
  have hreported : SameCtx Ctx.apart closed reported := by
    unfold reported
    split
    · exact .of_rel (State.sendReport_rel _ _ _) (by decide)
    · exact .refl _
  have hend : SameCtx Ctx.apart started (progressed.finish h 0) :=
    (((started.apart_closePlanning x).trans hreported).trans (.of_rel (State.progress_rel _ _ _ _ _) (by decide))).trans
      (.apart_of_tables (State.sameTables_finish _ _ _))
  have hstarted : started.ctx x = _ := State.ctx_updCtx loaded x _
  rw [hend.state_of_apart x, hend.job_of_apart x, hend.recov_of_apart x, hstarted]
  refine ⟨rfl, rfl, rfl, rfl, fun hr => ?_⟩
  rw [hr]
  rfl

section
variable {s : State} {x : Nat} {im : JobImage} (himage : (s.ctx x).job.image = some im) (hphase : (s.ctx x).job.phase = 3)
  (haccepted : (s.ctx x).job.plan.accepted = true)
include himage hphase haccepted

theorem exec_jobStartDecision_start {g : Nat} {b : Bool} (hcoord : (s.ctx x).job.plan.coordinator = false) (hnone : (s.ctx x).job.plan.refusals = []) :
    exec (.jobStartDecision x (.start g b)) s = .next (s.startJob x g b []) := by
  show execJobStartDecision x (.start g b) s = _
  simp [execJobStartDecision, himage, hphase, haccepted, hcoord, hnone]

theorem exec_jobStartDecision_refusal (hcoord : (s.ctx x).job.plan.coordinator = false) :
    exec (.jobStartDecision x .refusal) s = .next (s.refuseJob x 0x17 []) := by
  show execJobStartDecision x .refusal s = _
  simp [execJobStartDecision, himage, hphase, haccepted, hcoord]

theorem jobStartDecision_gathered_row {rs : List MemberReply} (hcoord : (s.ctx x).job.plan.coordinator = true)
    (hall : (s.ctx x).job.plan.devices.all (fun v => v = s.deviceId || rs.any (fun r => r.device = v)) = true) : ∃ t : State,
      exec (.jobStartDecision x (.gathered rs)) s = .next t ∧
      ((∃ r ∈ rs, r.refusals ≠ []) ∨ (s.ctx x).job.plan.refusals ≠ [] → (t.ctx x).job.phase = 2) ∧
      (rs = [] → (s.ctx x).job.plan.refusals = [] → windowsAgree im (s.ctx x).job.plan.axisOrder = true → (t.ctx x).state = .running ∧ (t.ctx x).job.phase = 4 ∧
        (t.ctx x).job.plan.gridStart = gridAt im.man (s.fabricNs x + 10000000)) ∧
      (windowsAgree im (s.ctx x).job.plan.axisOrder = false → (t.ctx x).job.phase = 2) := by
  refine (?_ : Reaches (execJobStartDecision x (.gathered rs) s) _)
  unfold execJobStartDecision
  extract_lets +onlyGivenNames j
  rw [show j.image = some im from himage]
  dsimp -zeta only
  rw [if_neg (by unfold j; rw [hphase, haccepted]; decide)]
  extract_lets +onlyGivenNames n digestBad
  rw [if_neg (by unfold j; rw [hcoord, hall]; decide)]
  extract_lets +onlyGivenNames judged
  by_cases hwide : rs.any digestBad = true ∨ ¬ windowsAgree im j.plan.axisOrder = true
  · have hjudged : judged = _ := if_pos hwide
    have hrefuses : (!(judged.ctx x).job.plan.refusals.isEmpty || rs.any fun r => !r.refusals.isEmpty) = true := by
      rw [hjudged, State.ctx_updJob]
      simp
    rw [if_pos hrefuses]
    refine .intro ⟨fun _ => State.refuseJob_phase _ _ _ _, fun hrs _ hagree => ?_, fun _ => State.refuseJob_phase _ _ _ _⟩
    subst hrs
    exact absurd hwide (by simpa using hagree)
  · have hjudged : judged = s := if_neg hwide
    obtain ⟨-, hagree⟩ := not_or.mp hwide
    rw [hjudged]
    split
    next hrefuses =>
      refine .intro ⟨fun _ => State.refuseJob_phase _ _ _ _, fun hrs hnone _ => ?_, fun _ => State.refuseJob_phase _ _ _ _⟩
      subst hrs
      simp [hnone] at hrefuses
    next hstarts =>
      obtain ⟨hrun, hphase', hgrid, -⟩ := State.startJob_starts himage (gridAt im.man (s.fabricNs x + 10000000))
        (j.restore && rs.all (fun r => r.device = s.deviceId || r.holds)) rs
      refine .intro ⟨fun hrefused => absurd ?_ hstarts, fun _ _ _ => ⟨hrun, hphase', hgrid⟩, fun hodd => absurd (by simp [j, hodd]) hagree⟩
      rcases hrefused with ⟨r, hr, hne⟩ | hne
      · rw [Bool.or_eq_true]
        exact .inr (List.any_eq_true.mpr ⟨r, hr, by simpa using hne⟩)
      · simp [hne]

end

theorem startWaitTimeout_row {s : State} {x : Nat} (hphase : (s.ctx x).job.phase = 3) (hcoord : (s.ctx x).job.plan.coordinator = true)
    (hplanned : (s.ctx x).job.plan.planned = false) (hmissing : ∃ d ∈ (s.ctx x).job.plan.set, d.1 ≠ s.deviceId ∧ s.planFlow x d.1 = false) : ∃ t : State,
      exec (.startWaitTimeout x) s = .next t ∧ t.clk = (s.toTai ((s.ctx x).job.plan.startNs + 30000000000)).clk ∧ (t.ctx x).job.phase = 2 := by
  refine (?_ : Reaches (execStartWaitTimeout x s) _)
  unfold execStartWaitTimeout
  extract_lets +onlyGivenNames j missing
  obtain ⟨d, hd, hother, hclosed⟩ := hmissing
  have hmem : d ∈ missing := List.mem_filter.mpr ⟨hd, by simp [hother, hclosed]⟩
  rw [if_neg (by unfold j; rw [hphase, hcoord, hplanned]; decide), if_neg (by simpa using List.ne_nil_of_mem hmem)]
  exact .intro ⟨(State.refuseJob_rel _ _ _ _).clk (by decide), State.refuseJob_phase _ _ _ _⟩

/-! ### Steps (R149, R367, R567) -/

/-- A listed ring of the context is changed as the map says. -/
theorem State.ring_mapRings {s : State} {x c r : Nat} (f : Ring → Ring) (hx : (s.ring c r).ctx = x) (hr : ((s.core c).rings.find r).isSome = true)
    (hc : (s.cores.find c).isSome = true) : (s.mapRings x f).ring c r = f (s.ring c r) := by
  obtain ⟨k, hk⟩ := Option.isSome_iff_exists.mp hc
  have hcore : s.core c = k := by simp [State.core, Map.getOr, hk]
  rw [hcore] at hr
  obtain ⟨g, hg⟩ := Option.isSome_iff_exists.mp hr
  have hring : s.ring c r = g := by simp [State.ring, hcore, Core.ring, Map.getOr, hg]
  rw [hring] at hx ⊢
  simp [State.ring, State.core, State.mapRings, Core.ring, Map.getOr, Map.find_vals, hk, hg, hx]

theorem State.job_startTrace (s : State) (x : Nat) : SameCtx Ctx.job s (s.startTrace x) := by
  unfold State.startTrace
  extract_lets +onlyGivenNames c
  split
  · split
    · exact .updCtx rfl
    · exact .refl s
  · exact .refl s

theorem jobStepStart_row {s : State} {x : Nat} {im : JobImage} (himage : (s.ctx x).job.image = some im) (hphase : (s.ctx x).job.phase = 4)
    (hretired : s.stepRetired x = true) (hheld : s.stepHeld x = false)
    (htest : (s.ctx x).job.selfTest = true → (s.ctx x).job.firstDone = true → (s.ctx x).job.step < im.man.firstStep + 15)
    (hturn : s.evTurn x 3 0 ((s.ctx x).job.epoch + (s.stepGrid x im.man).1) = true) : ∃ t : State, exec (.jobStepStart x) s = .next t ∧
      t.clk = (s.toFabric x (s.stepGrid x im.man).1).clk ∧ (t.ctx x).job.step = (s.ctx x).job.nextStepNo ∧
      (t.ctx x).job.stepStart = (s.stepGrid x im.man).1 ∧ (t.ctx x).job.firstDone = true ∧
      ∀ c r, ((s.ring c r).ctx = x → ((s.core c).rings.find r).isSome = true → (s.cores.find c).isSome = true →
        (t.ring c r).next = (s.ring c r).start ∧ (t.ring c r).running = (s.ring c r).valid) := by
  refine (?_ : Reaches (execJobStepStart x s) _)
  unfold execJobStepStart
  extract_lets +onlyGivenNames c
  rw [show c.job.image = some im from himage]
  dsimp -zeta only
  rw [if_neg (by unfold c; rw [hphase, hretired, hheld]; decide), if_neg (fun h => absurd (htest h.1 h.2.1) (Nat.not_lt.mpr h.2.2)),
    if_neg (by unfold c; rw [hturn]; decide)]
  extract_lets +onlyGivenNames g timed step late measured stepped traced
  have htraced : SameCtx Ctx.job stepped traced ∧ Rel [.ctxs] stepped traced := by
    unfold traced
    split
    · exact ⟨stepped.job_startTrace x, stepped.startTrace_rel x⟩
    · exact ⟨.refl _, .refl _ _⟩
  have hlate : Rel [.out, .ctxs, .mailboxes, .log, .logNext, .logOverflow] timed late := by
    unfold late
    split
    · exact .refl _ _
    · exact ((State.count_rel timed _ _ _).mono rfl).trans (State.event_rel _ _ _ _ _)
  have hmeasured : Rel [.ctxs] late measured := by
    unfold measured
    split
    · exact State.updSec_rel late _ _
    · exact .refl _ _
  have hclk : traced.clk = timed.clk := by
    rw [htraced.2.clk (by decide), (State.updJob_rel measured x _).clk (by decide), hmeasured.clk (by decide), hlate.clk (by decide)]
  have hcores : traced.cores = s.cores := by
    rw [htraced.2.cores (by decide), (State.updJob_rel measured x _).cores (by decide), hmeasured.cores (by decide), hlate.cores (by decide),
      (State.toFabric_rel s x g.1).cores (by decide)]
  have hstepped : stepped.ctx x = _ := State.ctx_updJob measured x _
  have hjob : ((traced.mapRings x (fun r => { r with next := r.start, running := r.valid })).ctx x).job = (stepped.ctx x).job :=
    (htraced.1.trans (.of_rel (State.mapRings_rel _ _ _) (by decide))) x
  refine .intro ⟨((State.mapRings_rel _ _ _).clk (by decide)).trans hclk, ?_⟩
  rw [hjob, hstepped]
  refine ⟨rfl, rfl, rfl, fun k r hx hr hk => ?_⟩
  have hring := State.ring_congr hcores k r
  rw [State.ring_mapRings _ (by rw [hring]; exact hx) (by rw [State.core, hcores]; exact hr) (by rw [hcores]; exact hk), hring]
  exact ⟨rfl, rfl⟩

theorem jobStepStart_selfTestEnds_row {s : State} {x : Nat} {im : JobImage} (himage : (s.ctx x).job.image = some im) (hphase : (s.ctx x).job.phase = 4)
    (hretired : s.stepRetired x = true) (hheld : s.stepHeld x = false) (htest : (s.ctx x).job.selfTest = true) (hfirst : (s.ctx x).job.firstDone = true)
    (hsteps : im.man.firstStep + 15 ≤ (s.ctx x).job.step) : ∃ t : State, exec (.jobStepStart x) s = .next t ∧ (t.ctx x).state = .ready ∧
      (t.ctx x).job.phase = 0 ∧ (t.ctx x).job.step = ((s.ctx x).job.step + 1) % 2 ^ 40 := by
  refine (?_ : Reaches (execJobStepStart x s) _)
  unfold execJobStepStart
  extract_lets +onlyGivenNames c
  rw [show c.job.image = some im from himage]
  dsimp -zeta only
  rw [if_neg (by unfold c; rw [hphase, hretired, hheld]; decide), if_pos ⟨htest, hfirst, hsteps⟩]
  obtain ⟨hready, hended, hstep⟩ := State.stopJob_stops (s.updJob x (fun j => { j with step := (j.step + 1) % 2 ^ 40 })) x
  exact .intro ⟨hready, hended, by rw [hstep, State.ctx_updJob]⟩

/-! ### PREFETCH (R369, R401, R455) -/

theorem State.prefetch_fetches {s : State} {d : FeedDma} (hlink : s.pcie.linkUp = true) (hreach : d.reachable = true) (hmade : d.fetched ≤ d.produced) (x : Nat) :
    (s.prefetch x d).mem = (s.localWrite x (d.dstTile * tileBytes) d.data).mem ∧ ((s.prefetch x d).ctx x).feed.cursor = d.cursor ∧
      ((s.prefetch x d).ctx x).feed.waiting = false := by
  unfold State.prefetch
  rw [if_neg (by simp [hlink, hreach, hmade])]
  extract_lets +onlyGivenNames written fed
  have hfed : fed.ctx x = _ := State.ctx_updCtx written x _
  rw [State.ctx_congr ((State.dma_rel _ _ _ _).ctxs (by decide)), hfed]
  exact ⟨rfl, rfl, rfl⟩

theorem State.prefetch_waits {s : State} {d : FeedDma} (h : s.pcie.linkUp = false ∨ d.reachable = false ∨ d.produced < d.fetched) (x : Nat) :
    (s.prefetch x d).mem = s.mem ∧ ((s.prefetch x d).ctx x).feed.waiting = true := by
  unfold State.prefetch
  rw [if_pos (by simpa [or_assoc] using h), State.ctx_updCtx]
  exact ⟨rfl, rfl⟩

theorem prefetch_row {s u : State} {x : Nat} {d : FeedDma} {e : EvtEntry}
    (he : ((List.range (s.ctx x).job.events.length).filterMap (fun i => (s.ctx x).job.entry i)).find? (fun e => e.type = 3) = some e)
    (hphase : (s.ctx x).job.phase = 4) (hfence : (s.ctx x).fenced = false) (hfeed : (s.ctx x).feed.entries ≠ 0)
    (hturn : s.evTurn x 6 0 ((s.ctx x).job.atOff e.startOff) = true) (hu : u = s.toTai ((s.ctx x).job.atOff e.startOff)) : ∃ t : State,
      exec (.prefetch x d) s = .next t ∧ t.clk = u.clk ∧
      (s.life.fwSwitch = true → (t.ctx x).job.prefetchDue = true) ∧
      (s.life.fwSwitch = false → s.pcie.linkUp = true → d.reachable = true → d.fetched ≤ d.produced →
        t.mem = (u.localWrite x (d.dstTile * tileBytes) d.data).mem ∧ (t.ctx x).feed.cursor = d.cursor ∧ (t.ctx x).feed.waiting = false) ∧
      (s.life.fwSwitch = false → (s.pcie.linkUp = false ∨ d.reachable = false ∨ d.produced < d.fetched) →
        t.mem = s.mem ∧ (t.ctx x).feed.waiting = true) := by
  have hgo : ¬ ((s.ctx x).job.phase ≠ 4 ∨ (s.ctx x).fenced = true ∨ (s.ctx x).feed.entries = 0 ∨
      (!s.evTurn x 6 0 ((s.ctx x).job.atOff e.startOff)) = true) := by simp [hphase, hfence, hfeed, hturn]
  have htimed : Rel [.clk] s u := hu ▸ State.toTai_rel _ _
  have hlife : u.life = s.life := htimed.life (by decide)
  have hpcie : u.pcie = s.pcie := htimed.pcie (by decide)
  refine (?_ : Reaches (execPrefetch x d s) _)
  unfold execPrefetch
  extract_lets +onlyGivenNames c mine
  rw [show mine.find? (fun e => e.type = 3) = some e from he]
  dsimp -zeta only
  rw [if_neg hgo, show s.toTai (c.job.atOff e.startOff) = u from hu.symm]
  extract_lets +onlyGivenNames v
  show Reaches (if u.life.fwSwitch = true then _ else _) _
  rw [hlife, ← hpcie, ← htimed.mem (by decide)]
  cases hsw : s.life.fwSwitch with
  | true =>
    refine .intro ⟨rfl, fun _ => ?_, nofun, nofun⟩
    rw [State.ctx_updJob]
  | false =>
    exact .intro ⟨(State.prefetch_rel u x d).clk (by decide), nofun, fun _ hlink hreach hmade => State.prefetch_fetches hlink hreach hmade x,
      fun _ h => State.prefetch_waits h x⟩

theorem prefetchRetry_row {s : State} {x : Nat} {d : FeedDma} (hwait : (s.ctx x).feed.waiting = true) : ∃ t : State,
    exec (.prefetchRetry x d) s = .next t ∧ t.clk = (s.advance 1050000).clk ∧
      (s.pcie.linkUp = true → d.reachable = true → d.fetched ≤ d.produced →
        t.mem = ((s.advance 1050000).localWrite x (d.dstTile * tileBytes) d.data).mem ∧ (t.ctx x).feed.cursor = d.cursor ∧ (t.ctx x).feed.waiting = false) ∧
      ((s.pcie.linkUp = false ∨ d.reachable = false ∨ d.produced < d.fetched) → t.mem = s.mem ∧ (t.ctx x).feed.waiting = true) := by
  have hadvanced : Rel [.clk] s (s.advance 1050000) := State.advance_rel _ _
  rw [← hadvanced.pcie (by decide), ← hadvanced.mem (by decide)]
  exact ⟨_, if_neg (by simp [hwait]), (State.prefetch_rel _ x d).clk (by decide), fun hlink hreach hmade => State.prefetch_fetches hlink hreach hmade x,
    fun h => State.prefetch_waits h x⟩

/-! ### Validation (R348, R349) -/

theorem validationLossCompare_row {s : State} {x n : Nat} {ls : List (Nat × F32)} (hcoord : (s.ctx x).job.plan.coordinator = true)
    (hcompares : (s.ctx x).job.replicated = true ∨ (s.ctx x).job.validating ≠ 0 ∨ (s.ctx x).recov.state = .checking ∨
      (s.ctx x).recov.state = .selecting ∧ (s.ctx x).recov.retried = true) : ∃ t : State, exec (.validationLossCompare x n ls) s = .next t ∧
      (t.ctx x).job.failedModules = ((s.ctx x).job.failedModules ++ failing (s.expectedLoss x n) ls).eraseDups ∧ t.mem = s.mem := by
  have hgo : ¬ (¬ (s.ctx x).job.plan.coordinator = true ∨ (¬ (s.ctx x).job.replicated = true ∧ (s.ctx x).job.validating = 0 ∧
      ((s.ctx x).recov.state != .checking) = true ∧ ¬ ((s.ctx x).recov.state == .selecting && (s.ctx x).recov.retried) = true)) := by
    rintro (h | ⟨hrepl, hval, hcheck, hsel⟩)
    · exact h hcoord
    · rcases hcompares with h | h | h | ⟨h, h'⟩
      · exact hrepl h
      · exact h hval
      · simp [h] at hcheck
      · simp [h, h'] at hsel
  refine Reaches.of_frame (o := execValidationLossCompare x n ls s) (P := fun t => (t.ctx x).job.failedModules = ((s.ctx x).job.failedModules ++ failing (s.expectedLoss x n) ls).eraseDups)
    (execValidationLossCompare_next x n ls s) ?_ fun t hrel ht => ⟨ht, hrel.mem (by decide)⟩
  unfold execValidationLossCompare
  extract_lets +onlyGivenNames j
  rw [if_neg (by simpa using hgo)]
  extract_lets +onlyGivenNames bad logged listed counted
  have hlogged : SameCtx Ctx.apart s logged := .foldl (fun u d => .apart_of_tables (u.sameTables_event _ _ _ _)) bad s
  have hlisted : listed.ctx x = _ := State.ctx_updJob logged x _
  have hcounted : (counted.ctx x).job.failedModules = ((s.ctx x).job.failedModules ++ bad).eraseDups := by
    rw [State.ctx_congr ((State.progress1_rel listed _).ctxs (by decide)), hlisted, hlogged.job_of_apart x]
  split
  · extract_lets +onlyGivenNames ok
    refine .intro ?_
    rw [SameCtx.job_of_apart (.apart_of_tables (State.sameTables_finish _ _ _)) x, State.ctx_updJob]
    exact hcounted
  · exact .intro hcounted

/-! ### Re-sharding (R331 to R335, R391, R400) -/

@[simp] theorem State.reshard_updReshard (s : State) (x : Nat) (f : Reshard → Reshard) : ((s.updReshard x f).ctx x).job.reshard = f (s.ctx x).job.reshard := by
  rw [State.updReshard, State.ctx_updJob]

theorem reshardRequest_row {s : State} {x : Nat} {q : ReshardReq} (hphase : (s.ctx x).job.phase = 4) (hstep : (s.ctx x).job.nextStepNo ≤ q.boundaryStep)
    (hnand : s.nandUsed x + q.secureBytes + nandJournal ≤ nandSize) : ∃ t : State, exec (.reshardRequest x q) s = .next t ∧
      ((s.ctx x).forced = true → (t.ctx x).job.reshard = { state := .permuting, boundary := q.boundaryStep, moves := q.moves, flows := q.flows
                                                           secureBytes := q.secureBytes, newFrames := (s.ctx x).job.reshard.newFrames }) ∧
      ((s.ctx x).forced = false → (s.ctx x).job.reshard.state ∈ [.idle, .requested, .atBoundary, .drainingOld] →
        (t.ctx x).job.reshard = { state := .requested, boundary := q.boundaryStep, moves := q.moves, flows := q.flows, secureBytes := q.secureBytes }) ∧
      ((s.ctx x).forced = false → (s.ctx x).job.reshard.state ∈ [.permuting, .committing] → (t.ctx x).job.reshard = { (s.ctx x).job.reshard with queued := some q }) := by
  refine (?_ : Reaches (execReshardRequest x q s) _)
  unfold execReshardRequest
  extract_lets +onlyGivenNames c r
  rw [if_neg (by unfold c; omega), if_neg (by omega)]
  extract_lets +onlyGivenNames fresh
  by_cases hforced : c.forced = true
  · rw [if_pos hforced]
    refine .intro ⟨fun _ => ?_, fun h => absurd (hforced.symm.trans h) (by decide), fun h => absurd (hforced.symm.trans h) (by decide)⟩
    rw [SameCtx.job_of_apart (State.apart_openNew _ _ _) x, State.reshard_updReshard]
  · rw [if_neg hforced]
    have hstate : r.state = (s.ctx x).job.reshard.state := rfl
    rw [← hstate]
    cases r.state with
    | idle | requested | atBoundary | drainingOld =>
      exact .intro ⟨fun h => absurd h hforced, fun _ _ => by rw [State.reshard_updReshard], fun _ h => absurd h (by decide)⟩
    | permuting | committing =>
      exact .intro ⟨fun h => absurd h hforced, fun _ h => absurd h (by decide), fun _ _ => by rw [State.reshard_updReshard]⟩

theorem reshardBoundary_row {s : State} {x : Nat} (hstate : (s.ctx x).job.reshard.state = .requested)
    (hstep : (s.ctx x).job.nextStepNo = (s.ctx x).job.reshard.boundary) (hretired : s.stepRetired x = true) : ∃ t : State,
      exec (.reshardBoundary x) s = .next t ∧ (t.ctx x).job.reshard = { (s.ctx x).job.reshard with state := .drainingOld } :=
  ⟨_, if_neg (by simp [hstate, hstep, hretired]), State.reshard_updReshard _ _ _⟩

/-- The state of the re-shard under way. -/
def Ctx.reshardState (c : Ctx) : ReshardState := c.job.reshard.state

theorem State.reshardState_takePermute (s : State) (x : Nat) (h : CollHdr) (d : List Byte) : SameCtx Ctx.reshardState s (s.takePermute x h d).1 := by
  unfold State.takePermute
  extract_lets +onlyGivenNames i all
  split
  · exact .updCtx rfl
  · extract_lets +onlyGivenNames cleared
    have hcleared : SameCtx Ctx.reshardState s cleared := .updCtx rfl
    split
    · exact hcleared
    · extract_lets +onlyGivenNames e written
      have hwritten : SameCtx Ctx.reshardState cleared written := .of_rel (State.memWrite_rel _ _ _) (by decide)
      exact (hcleared.trans hwritten).trans (.updCtx rfl)

theorem State.apart_flowUse (s : State) (f : Nat) : SameCtx Ctx.apart s (s.flowUse f) := by
  unfold State.flowUse
  split
  · exact .refl s
  · split
    · exact .of_rel Rel.set_fcache (by decide)
    · exact (SameCtx.of_rel Rel.set_fcache (by decide)).trans (.apart_of_tables (State.sameTables_count _ _ _ _))

theorem State.reshardState_sendPermute (s : State) (x : Nat) (moves : List PermuteMove) : SameCtx Ctx.reshardState s (s.sendPermute x moves) := by
  refine .foldl (fun u m => .foldl (fun v k => ?_) _ u) _ s
  extract_lets +onlyGivenNames c t moved data h
  split
  · exact (v.reshardState_takePermute x h data).trans (.updCtx rfl)
  · extract_lets +onlyGivenNames used tracked sent
    have hused : SameCtx Ctx.reshardState v used := fun y =>
      congrArg (fun j : Job => j.reshard.state) ((v.apart_flowUse m.flow).job_of_apart y)
    have hsent : SameCtx Ctx.reshardState used sent := (SameCtx.of_rel (State.track_rel used _) (by decide)).trans (.of_rel (State.sendMsg_rel _ _ _ _) (by decide))
    exact (hused.trans hsent).trans (.updCtx rfl)

theorem State.reshardState_sendMoves (s : State) (x : Nat) (ms : List PermuteMove) : SameCtx Ctx.reshardState s (s.sendMoves x ms) := by
  refine .foldl (fun u e => ?_) _ s
  split
  · exact u.reshardState_sendPermute x _
  · exact .refl u

theorem reshardDrainDone_row {s : State} {x : Nat} (hstate : (s.ctx x).job.reshard.state = .drainingOld) (hupdates : (s.ctx x).updates = [])
    (hinsts : ∀ e ∈ (s.ctx x).insts, e.2.issued = false) (hsec : (s.ctx x).sec.current = none) : ∃ t : State,
      exec (.reshardDrainDone x) s = .next t ∧ (t.ctx x).job.reshard.state = .permuting ∧
      ((s.ctx x).job.reshard.moves = [] → (t.ctx x).job.reshard.sent = 0 ∧ (t.ctx x).job.reshard.acked = 0) := by
  have hnone : (s.ctx x).insts.filter (fun e => e.2.issued) = [] := List.filter_eq_nil_iff.mpr fun e he => by simp [hinsts e he]
  refine (?_ : Reaches (execReshardDrainDone x s) _)
  unfold execReshardDrainDone
  extract_lets +onlyGivenNames c
  rw [if_neg (by unfold c; simp [hstate, hupdates, hnone, hsec])]
  extract_lets +onlyGivenNames moved
  have hpermuting : (moved.ctx x).job.reshard.state = .permuting :=
    (State.reshardState_sendMoves _ x _ x).trans (congrArg Reshard.state (State.reshard_updReshard s x _))
  refine .intro ?_
  rw [SameCtx.job_of_apart (State.apart_openNew _ _ _) x]
  refine ⟨hpermuting, fun hmoves => ?_⟩
  have hmoved : moved = s.updReshard x (fun r => { r with state := .permuting, sent := 0, acked := 0 }) := by
    unfold moved c
    rw [hmoves]
    rfl
  rw [hmoved, State.reshard_updReshard]
  exact ⟨rfl, rfl⟩

theorem permuteInstance_row {s : State} {x : Nat} (hstate : (s.ctx x).job.reshard.state = .permuting) : ∃ t : State, exec (.permuteInstance x) s = .next t ∧
    t = s.sendMoves x ((unitMoves (s.ctx x).job.reshard.moves).drop (s.ctx x).job.reshard.sent) :=
  ⟨_, if_neg (by simp [hstate]), rfl⟩

theorem reshardPermuteDone_row {s : State} {x : Nat} (hstate : (s.ctx x).job.reshard.state = .permuting)
    (htrk : ∀ e ∈ s.trk, e.2.ctx = x → e.2.kind ≠ .permute) (hacked : (unitMoves (s.ctx x).job.reshard.moves).length ≤ (s.ctx x).job.reshard.acked) :
    ∃ t : State, exec (.reshardPermuteDone x) s = .next t ∧
      (t.ctx x).job.reshard = { (s.ctx x).job.reshard with state := .committing, reports := (s.ctx x).job.reshard.reports + 1 } := by
  have hopen : s.trk.any (fun e => e.2.ctx = x && e.2.kind = .permute) = false := List.any_eq_false.mpr fun e he => by simpa using htrk e he
  refine ⟨_, if_neg ?_, State.reshard_updReshard _ _ _⟩
  rw [hstate, hopen, decide_eq_false (Nat.not_lt.mpr hacked)]
  decide

theorem reshardCommitBroadcast_row {s : State} {x n : Nat} (hstate : (s.ctx x).job.reshard.state = .committing)
    (hrefill : (s.ctx x).recov.state ≠ .refilling) : ∃ t : State, exec (.reshardCommitBroadcast x n) s = .next t ∧
      (t.ctx x).job.reshard = { (s.ctx x).job.reshard with commitNs := max n (s.fabricNs x + 2000000) } :=
  ⟨_, if_neg (by simp [hstate, Ctx.refills, hrefill]), State.reshard_updReshard _ _ _⟩

/-! ### The commit of a re-shard (R332, R333) -/

/-- The request that waits behind the re-shard under way (R334). -/
def Ctx.reshardQueued (c : Ctx) : Option ReshardReq := c.job.reshard.queued

@[simp] theorem Ctx.job_setBankEntry (c : Ctx) (b t : Nat) (e : TileEntry) : (c.setBankEntry b t e).job = c.job := by
  unfold Ctx.setBankEntry
  split <;> rfl

@[simp] theorem Ctx.job_setEntry (c : Ctx) (t : Nat) (e : TileEntry) : (c.setEntry t e).job = c.job := c.job_setBankEntry _ _ _

@[simp] theorem Ctx.job_setHdr (c : Ctx) (t : Nat) (h : TileHdr) : (c.setHdr t h).job = c.job := by
  unfold Ctx.setHdr Ctx.setBankHdr
  split <;> rfl

theorem State.job_createTile (s : State) (x t : Nat) (e : TensorEntry) (d : List Byte) : SameCtx Ctx.job s (s.createTile x t e d) := by
  unfold State.createTile
  split
  · exact .refl s
  · extract_lets +onlyGivenNames n h placed
    have hplaced : SameCtx Ctx.job s placed := .setCtx ((Ctx.job_setHdr _ _ _).trans (Ctx.job_setEntry _ _ _))
    exact (hplaced.trans (.of_rel (State.memWrite_rel _ _ _) (by decide))).trans (.of_rel (State.ownWindow_rel _ _ _ _) (by decide))

/-- The tables of a context written by a function keep its job, entry by entry. -/
theorem Ctx.job_foldl {α : Type} {f : Ctx → α → Ctx} (hf : ∀ c a, (f c a).job = c.job) (l : List α) (c : Ctx) : (l.foldl f c).job = c.job := by
  induction l generalizing c with
  | nil => rfl
  | cons a l ih => rw [List.foldl_cons, ih, hf]

theorem State.reshardQueued_newTable (s : State) (x : Nat) (im : JobImage) (r : List Nat) : SameCtx Ctx.reshardQueued s (s.newTable x im r) := by
  unfold State.newTable
  extract_lets +onlyGivenNames c moved kept gone freed tabled emptied
  have hfreed : SameCtx Ctx.reshardQueued s freed :=
    (SameCtx.foldl (fun u (e : Nat × TileEntry) => .of_rel (u.releaseEntry_rel x e.1 e.2) (by decide)) gone s).trans (.of_rel (State.invalidate_rel _ _ _) (by decide))
  have htabled : SameCtx Ctx.reshardQueued freed tabled := by
    refine .updCtx (congrArg (fun j : Job => j.reshard.queued) ?_)
    refine (Ctx.job_foldl ?_ moved _).trans (Ctx.job_foldl ?_ gone _) <;> exact fun _ _ => rfl
  have hemptied : SameCtx Ctx.reshardQueued tabled emptied := .updCtx rfl
  refine ((hfreed.trans htabled).trans hemptied).trans (.foldl (fun u e => .foldl (fun v t => ?_) _ u) _ emptied)
  split
  · exact .refl v
  · exact fun y => congrArg (fun j : Job => j.reshard.queued) (v.job_createTile x t _ _ y)

theorem reshardCommit_row {s : State} {x : Nat} {lay : NewLayout} {im : JobImage} (himage : (s.ctx x).job.image = some im)
    (hstate : (s.ctx x).job.reshard.state = .committing) (htime : (s.ctx x).job.reshard.commitNs ≠ 0) (hrefill : (s.ctx x).recov.state ≠ .refilling) :
    ∃ t : State, exec (.reshardCommit x lay) s = .next t ∧ t.clk = (s.toFabric x (s.ctx x).job.reshard.commitNs).clk ∧
      (t.ctx x).job.layoutEpoch = ((s.ctx x).job.layoutEpoch + 1) % 65536 ∧ (t.ctx x).job.plan.devices = lay.devices ∧
      (t.ctx x).job.plan.position = lay.position ∧ (t.ctx x).job.events = lay.events ∧ (t.ctx x).insts = [] ∧ (t.ctx x).sec.fullForm = true ∧
      (t.ctx x).job.notBefore = (s.ctx x).job.reshard.commitNs + 50400 ∧
      ((s.ctx x).job.reshard.queued = none → (t.ctx x).job.reshard.state = .idle) := by
  refine (?_ : Reaches (execReshardCommit x lay s) _)
  unfold execReshardCommit
  extract_lets +onlyGivenNames c
  rw [show c.job.image = some im from himage]
  dsimp -zeta only
  rw [if_neg (by unfold c; simp [hstate, htime, Ctx.refills, hrefill])]
  extract_lets +onlyGivenNames tc timed man m im' order r tabled epoch recs flowTo bound wanted committed
  have htabled : Rel [.mem, .cores, .ctxs, .rowCopies, .freed, .tcache] timed tabled ∧ SameCtx Ctx.reshardQueued timed tabled := by
    unfold tabled
    clear_value r
    split
    · exact ⟨timed.newTable_rel _ _ _, timed.reshardQueued_newTable _ _ _⟩
    · exact ⟨.refl _ _, .refl _⟩
  have hclosed := committed.apart_foldl_closeFlow (committed.flows.filter (fun e => e.2.ctx = x && !wanted e.2))
  have hcommitted : committed.ctx x = _ := State.ctx_updCtx tabled x _
  have hqueued : (tabled.ctx x).job.reshard.queued = (s.ctx x).job.reshard.queued :=
    (htabled.2 x).trans (SameCtx.of_rel (g := Ctx.reshardQueued) (State.toFabric_rel s x tc) (by decide) x)
  refine .intro ⟨(committed.clk_foldl_closeFlow _).trans (htabled.1.clk (by decide)), ?_⟩
  rw [hclosed.job_of_apart x, hclosed.insts_of_apart x, hclosed.sec_of_apart x, hcommitted]
  refine ⟨rfl, rfl, rfl, rfl, rfl, rfl, rfl, fun hnone => ?_⟩
  show (Reshard.after _ _).state = _
  rw [Reshard.after, hqueued, hnone]

/-- Settles O17, clause by clause: each row passes its guard, and what it does after the write of the job's fields leaves them. -/
theorem jobRowsComplete : Obligations.JobRowsComplete := by
  unfold Obligations.JobRowsComplete
  exact ⟨fun x m im s himage hphase hcoord hplanned hflows => planPlacement_row himage hphase hcoord hplanned hflows,
    fun x p im s himage hphase hnew hplanned hself => planAccept_row himage hphase hnew hplanned hself,
    fun x im s himage hphase haccepted => ⟨fun g b hcoord hnone =>
        have ⟨hrun, hstarted, hgrid, hstep, hrestore⟩ := State.startJob_starts himage g b []
        ⟨_, exec_jobStartDecision_start himage hphase haccepted hcoord hnone, hrun, hstarted, hgrid, hstep, hrestore⟩,
      fun hcoord => ⟨_, exec_jobStartDecision_refusal himage hphase haccepted hcoord, State.refuseJob_phase _ _ _ _⟩,
      fun rs hcoord hall => jobStartDecision_gathered_row himage hphase haccepted hcoord hall⟩,
    fun x s hphase hcoord hplanned hmissing => startWaitTimeout_row hphase hcoord hplanned hmissing,
    fun x im s himage hphase hretired hheld htest hturn => jobStepStart_row himage hphase hretired hheld htest hturn,
    fun x im s himage hphase hretired hheld htest hfirst hsteps => jobStepStart_selfTestEnds_row himage hphase hretired hheld htest hfirst hsteps,
    fun x d e u s he hphase hfence hfeed hturn hu => prefetch_row he hphase hfence hfeed hturn hu,
    fun x d s hwait => prefetchRetry_row hwait,
    fun x n ls s hcoord hcompares => validationLossCompare_row hcoord hcompares,
    fun x q s hphase hstep hnand => reshardRequest_row hphase hstep hnand,
    fun x s hstate hstep hretired => reshardBoundary_row hstate hstep hretired,
    fun x s hstate hupdates hinsts hsec => reshardDrainDone_row hstate hupdates hinsts hsec,
    fun x s hstate => permuteInstance_row hstate,
    fun x s hstate htrk hacked => reshardPermuteDone_row hstate htrk hacked,
    fun x n s hstate hrefill => reshardCommitBroadcast_row hstate hrefill,
    fun x lay im s himage hstate htime hrefill => reshardCommit_row himage hstate htime hrefill⟩

end Sys2Proof.Machine
